-- ==== Sys2Proof/Word.lean ====
section
/-! DEFINITION. The word types of the IZN-4816 (00_scope.md R5, R7). -/

namespace Sys2Proof

/-- A word is 48 bits wide and bit 47 is its most significant bit (00 R5). -/
abbrev Word := BitVec 48

/-- One byte of a mailbox message, a frame or a stored record. -/
abbrev Byte := BitVec 8

/-- A byte string, first byte first. -/
abbrev Bytes := List Byte

/-- A sparse table: keys strictly rising, no entry equal to the table's default. -/
abbrev Tab (α : Type) := List (Nat × α)

end Sys2Proof
end

