-- ==== Sys2Proof/Syntax.lean ====
section
/-! DEFINITION. The commands of the block: one constructor per row of spec/opcode_table.json, with its
operands, and the plain data those operands carry. A KV48 row carries the fields of Table 3-2; an `MB_` row
carries the channel of the accepted request and its payload bytes; an event row carries what the outside
world or a physical measurement decides (02 R46, 03 R74, 95_what_each_step_holds.md). -/

namespace Sys2Proof

/-- The fields of one KV48 instruction (03 R74, Table 3-2) and the core that issues it. The opcode and, but for
the instructions with several forms, M are fixed by the row's mnemonic. -/
structure Kv where
  core : Fin 8
  /-- Guard predicate P0 to P7. -/
  g : BitVec 3
  /-- true: the guard is the inverse of PG. -/
  n : Bool
  d : BitVec 4
  s : BitVec 4
  t : BitVec 4
  m : BitVec 2
  imm : BitVec 14
deriving DecidableEq, Repr

/-- One SPI frame as clocked: the MOSI units and the number of SCK rising edges (02 R50, R56). -/
structure SpiFrame where
  mosi : List (BitVec 16)
  edges : Nat
deriving DecidableEq, Repr

/-- Registers whose every field is read-only to a write (00 R15). -/
inductive RoReg where
  | taskStat | plotQual | twStat | mainsStat | schTgt | schSts | tbTrust | fcStat | sfChan | sfStat | soStat
  | canStat | passStat | passMember | pairStat | ovlDesc | ovlEpoch | rtcTime | rtcSub | rtcStat | wdgFuse
  | wdq | wdt | wdgStat | wakeCause
deriving DecidableEq, Repr

/-- The registers that REGISTER_WRITE can name: those that have no command row of their own. -/
inductive RegName where
  | evtPend (k : Fin 8)
  | evtSrc (n : Fin 384)
  | ceFlag (n : Fin 512)
  | sfMap
  | readOnly (r : RoReg) (n : Nat)
deriving DecidableEq, Repr

/-- The unit of an input report of a field die (10 R253); an AO unit carries the measured current. -/
inductive FioUnit where
  | group (g : Fin 8)
  | ai (n : Fin 4)
  | ao (n : Fin 4) (measured : Word)
deriving DecidableEq, Repr

/-- The two faults of an analog output loop (10 R264). -/
inductive AoFault where
  | loopLow | openLoop
deriving DecidableEq, Repr

/-- The two paths of the safety channel (11 R271). -/
inductive SafPath where
  | processor | hardwired
deriving DecidableEq, Repr

/-- What both paths read back from SO0 to SO3 (11 R289, R291), bit k for SOk: load current flows, the current
limit has acted for 2 ms, SOk_P stands above 10 V. -/
structure SoReadback where
  current : BitVec 4
  limit : BitVec 4
  above10V : BitVec 4
deriving DecidableEq, Repr

/-- A cross-monitoring frame as the receiving path sees it (11 R292): its check, its period in µs on the
receiver's clock, accepted inputs, permits and the last tooth intervals of TW0 and TW1 in ns. -/
structure CrossFrame where
  crcOk : Bool
  periodUs : Nat
  inputs : BitVec 16
  permits : BitVec 16
  interval0 : Nat
  interval1 : Nat
deriving DecidableEq, Repr

/-- A CAN frame (12 R303). -/
structure CanFrame where
  id : Nat
  ide : Bool
  fd : Bool
  brs : Bool
  esi : Bool
  rtr : Bool
  data : Bytes
deriving DecidableEq, Repr

/-- What a CAN controller receives: a frame without error, or an error with its LEC code 1 to 6 and how often it raises REC by
8 beside the 1 of every receive error (dominant bits after the error flag, bit errors in it; ISO 11898-1). -/
inductive CanRx where
  | frame (f : CanFrame)
  | error (lec : Fin 7) (eights : Nat)
deriving DecidableEq, Repr

/-- The phases that a CAN controller's bus shows in sleep, dominant or not, with their lengths in ns (12 R319). -/
structure CanPhases where
  n : Fin 4
  phases : List (Bool × Nat)
deriving DecidableEq, Repr

/-- What a CAN controller decodes in sleep, and the DLC of a frame (12 R320). -/
structure CanWakeRx where
  rx : CanRx
  dlc : Fin 16
deriving DecidableEq, Repr

/-- How a transmission attempt ends (12 R313). An error has its LEC code, whether it is one that ISO 11898-1 exempts from the
rise of TEC by 8 (an ACK error of an error-passive node whose error flag sees no dominant bit; a stuff error in arbitration at a
recessive stuff bit), and how many further rises by 8 its error flag meets. -/
inductive CanTxEnd where
  | sent
  | lostArbitration
  | error (lec : Fin 7) (exempt : Bool) (eights : Nat)
deriving DecidableEq, Repr

/-- A UDP datagram as received (13 R328, R329). -/
structure Udp where
  src : Nat
  sport : Nat
  dst : Nat
  dport : Nat
  data : Bytes
deriving DecidableEq, Repr

/-- An IPv4 fragment of a UDP datagram: `offset` in bytes of UDP payload, `dport` known for the first one. -/
structure Fragment where
  src : Nat
  dst : Nat
  sport : Nat
  dport : Nat
  ident : Nat
  offset : Nat
  more : Bool
  data : Bytes
deriving DecidableEq, Repr

/-- A TRDP telegram (13 R330): source and destination, header fields, length of the UDP payload, dataset. -/
structure Telegram where
  srcIp : Nat
  dst : Nat
  version : BitVec 16
  msgType : BitVec 16
  comId : Nat
  etbTopo : Nat
  opTopo : Nat
  dsLen : Nat
  reserved : Nat
  replyComId : Nat
  replyIp : Nat
  headerFcs : Nat
  seq : Nat
  payloadLen : Nat
  data : Bytes
deriving DecidableEq, Repr

/-- A PTP master as announced (13 R336). -/
structure PtpMaster where
  prio1 : Nat
  cls : Nat
  accuracy : Nat
  variance : Nat
  prio2 : Nat
  identity : Nat
deriving DecidableEq, Repr

/-- A PTP message with its Follow_Up, where it has one (13 R336, R337). Times are in ns of wall time: those of the other clock as
its message gives them, and `at_` the stamp of receipt at the MAC interface (0 in a message sent). `port` is the requester of a
delay measurement. -/
inductive PtpMsg where
  | sync (domain source : Nat) (origin at_ : Int)
  | delayReq (domain port : Nat) (at_ : Int)
  | delayResp (domain source port : Nat) (received : Int)
  | pdelayReq (domain port : Nat) (at_ : Int)
  | pdelayResp (domain port : Nat) (received sent at_ : Int)
  | announce (domain : Nat) (m : PtpMaster) (timeSource : Nat) (utcOffset : Int) (ptpTimescale : Bool)
  | malformed
deriving DecidableEq, Repr

/-- A received PTP message: FCS right, VLAN tag, over EtherType or UDP, message (13 R327, R336). -/
structure PtpRx where
  fcsOk : Bool
  vlan : Option (Nat × Nat)
  l2 : Bool
  msg : PtpMsg
deriving DecidableEq, Repr

/-- What an Ethernet frame carries (13 R327 to R329, R336): a PTP message over UDP or, with `l2`, over EtherType 0x88F7. -/
inductive EthBody where
  | arpRequest (senderMac senderIp targetIp : Nat)
  | arpReply (senderMac senderIp targetIp : Nat)
  | icmpEcho (src dst : Nat) (data : Bytes)
  | icmpOther
  | udp (d : Udp)
  | trdp (t : Telegram)
  | fragment (f : Fragment)
  | ptp (l2 : Bool) (m : PtpMsg)
  | tcp
  | ipv6
  | igmp
  | passFrame
  | other
deriving DecidableEq, Repr

/-- An Ethernet frame as received: FCS right, length with tag, VLAN tag (VID and PCP) if any, IPv4 header checksum right (true
for content that has none), content. -/
structure EthFrame where
  fcsOk : Bool
  len : Nat
  vlan : Option (Nat × Nat)
  ipOk : Bool
  body : EthBody
deriving DecidableEq, Repr

/-- The interval timers of the ordinary clock. -/
inductive PtpTimer where
  | syncSend | announceSend | delayReq | announceTimeout
deriving DecidableEq, Repr

/-- A chain change (14 R363): its kind, the command that asks for it with its tenant and payload, and the cycle
for which it is announced (0 in a request). -/
structure ChainChange where
  kind : Nat
  cmd : Nat
  tenant : Nat
  payload : Bytes
  cycle : Nat
deriving DecidableEq, Repr

/-- The content of an INAUG frame (14 Table 14-2). -/
structure InaugRec where
  passId : Nat
  pos : Nat
  pair : Bool
  primary : Bool
  fwMajor : Nat
  fwMinor : Nat
  fwPatch : Nat
  hash : Nat
deriving DecidableEq, Repr

/-- The content of an ADVERT frame (14 Table 14-2). -/
structure Advert where
  inaug : InaugRec
  mode : Nat
  pairRole : Nat
  innings : Nat
  trust : Nat
  wallNs : Nat
  overlays : Nat
  changes : List ChainChange
deriving DecidableEq, Repr

/-- One plot of a PUB frame: number, quality word, 64 words. -/
structure PubPlot where
  plot : Nat
  qual : Word
  words : List Word
deriving DecidableEq, Repr

/-- What a CHANGE frame is: a request to the master, the master's announcement, or the master's refusal of a request with its
result code (14 R363; log 123). -/
inductive ChangeMsg where
  | request
  | announce
  | refuse (rc : Nat)
deriving DecidableEq, Repr

/-- The content of a Pass frame by TYPE (14 Table 14-2). -/
inductive PassBody where
  | idle
  | echo (departure turnaround : Nat)
  | inaug (r : InaugRec)
  | marker (ecycleUs accDly : Nat)
  | advert (a : Advert)
  | pub (plots : List PubPlot)
  | change (msg : ChangeMsg) (c : ChainChange)
  | resend (expected : Nat)
  | skip (void : Nat)
deriving DecidableEq, Repr

/-- A Pass frame (14 R344, Table 14-1): its addresses, header fields and content, and the end-to-end check it carries (0 where its
type has none). `wellFormed` covers EtherType, TYPE and that LEN matches; `fcsOk` the FCS. -/
structure PassFrame where
  wellFormed : Bool
  fcsOk : Bool
  dest : Nat
  sender : Nat
  ver : Nat
  check : Nat
  origin : Nat
  hops : Nat
  cycle : Nat
  lseq : Nat
  lack : Nat
  credit : Nat
  len : Nat
  group : Nat
  chg : Bool
  frag : Nat
  frags : Nat
  body : PassBody
deriving DecidableEq, Repr

/-- A volley (15 R377). PAIR_ID and POS stand with it because R388 compares them, and `commit` says that a unit in SWAP has accepted
COMMIT, which the primary must learn of (15 R389, R390; log 66). -/
structure Volley where
  crcOk : Bool
  rstate : Nat
  innings : Nat
  pinn : Nat
  mode : Nat
  fault : Bool
  srvOut : Bool
  pairDevtime : Word
  wallNs : Nat
  wallDev : Nat
  rho : Int
  ack : Nat
  /-- the number a standby with a gap expects (15 R379) -/
  expected : Option Nat
  fwMajor : Nat
  fwMinor : Nat
  fwPatch : Nat
  progHash : Nat
  cfgHash : Nat
  pairId : Bool
  pos : Nat
  commit : Bool
deriving DecidableEq, Repr

/-- An energy record being filled (09 R242, R244): energies in mWh × 2^32. -/
structure EnOpen where
  num : Nat
  start : Nat
  /-- 100 ms steps covered. -/
  steps : Nat := 0
  sys : Nat
  flags : Nat := 0
  imp : Nat := 0
  exp : Nat := 0
deriving DecidableEq, Repr

/-- An access list entry (09 R246). -/
structure AccEnt where
  groups : Nat
  prog : Option (Nat × Nat)
  validTo : Nat
deriving DecidableEq, Repr

/-- What the primary carries of an alarm (09 R234): condition before DELAY and for how long in ns, condition, TRN, UNACK, time left
of shelving in ns, DEVTIME of the last change. -/
structure AlmState where
  raw : Bool
  rawFor : Nat
  active : Bool
  trn : Nat
  unack : Nat
  shelved : Option Nat
  lastAt : Nat
deriving DecidableEq, Repr

/-- What the primary carries of a meter: counter references, the open record, and the cumulative import and export registers by system
(those that are not 0). -/
structure MtrState where
  ref0 : Option Word
  ref1 : Option Word
  rec_ : Option EnOpen
  total : List (Nat × Nat × Nat)
deriving DecidableEq, Repr

/-- A record of the SYNC link (15 Table 15-6). -/
inductive PairRec where
  | unit (words : List (Nat × Word))
  | release (task : Nat) (seg7 quals : List Word) (lastUnit lastCommit : Nat)
  | commit (task : Nat) (scancnt : Word) (check : Nat) (cause : Nat)
  | engine (words : List (Nat × Word)) (loop : Option Nat) (ua xh q : List Word) (seq : Nat)
  | slot (n : Nat) (state : Nat) (eventDt : Word)
  | send (kind idx seq : Nat)
  | change (tenant cmd : Nat) (payload : Bytes)
  /-- alarm states and meters that a service event changed (09 R234) -/
  | service (alarms : List (Nat × AlmState)) (meters : List (Nat × MtrState))
deriving DecidableEq, Repr

/-- The pair beacon (15 R376). -/
structure Beacon where
  crcOk : Bool
  rstate : Nat
  innings : Nat
  pairId : Bool
deriving DecidableEq, Repr

/-- A resync round (15 R384): data-store words and committed image words by key; loops with u_a, x̂, q and status word;
slots with target, status word and stamp; force records with their unforced value and the ns left of their timeout, 0 for none;
the device mode and the tenant modes; the service state (09 R234): alarms, meters, access list entries and what the weekly programmes
have committed last, by key; the grid origin; and whether it is the final round. -/
structure ResyncPage where
  final : Bool
  dataWords : List (Nat × Word)
  image : List (Nat × Word)
  loops : List (Nat × List Word × List Word × List Word × Word)
  slots : List (Nat × Word × Word × Word)
  forces : List (Nat × Word × Word × Word × Nat)
  modes : List Nat
  alarms : List (Nat × AlmState)
  meters : List (Nat × MtrState)
  entries : List (Nat × AccEnt)
  programmes : List (Nat × Option Word × Nat)
  grid : Nat
deriving DecidableEq, Repr

/-- The commands of the IZN-4816, one constructor per row of spec/opcode_table.json. -/
inductive Instr where
  /-- REFCLK_FAIL (R26). -/
  | refclkFail (periodPs : Nat)
  /-- PLL_LOCK_LOSS (R26). -/
  | pllLockLoss (pll : Fin 5)
  /-- COMMIT_COMPLETE (R138). -/
  | commitComplete (task : Fin 256)
  /-- REGISTER_WRITE (R15). -/
  | registerWrite (reg : RegName) (value : Word)
  /-- MB_EVT_ALLOC (R33). -/
  | mbEvtAlloc (ch : Fin 16) (p : Bytes)
  /-- MB_EVT_ENABLE (R36). -/
  | mbEvtEnable (ch : Fin 16) (p : Bytes)
  /-- MB_EVT_CLEAR (R36). -/
  | mbEvtClear (ch : Fin 16) (p : Bytes)
  /-- MB_EVT_GET (R36). -/
  | mbEvtGet (ch : Fin 16) (p : Bytes)
  /-- SPI_WRITE_FRAME (R50). -/
  | spiWriteFrame (f : SpiFrame)
  /-- SPI_READ_FRAME (R53). -/
  | spiReadFrame (f : SpiFrame)
  /-- SPI_POLL_FRAME (R54). -/
  | spiPollFrame (f : SpiFrame)
  /-- SPI_LINK_RESET (R57). -/
  | spiLinkReset (f : SpiFrame)
  /-- MAILBOX_REQUEST_CHECK (R46). -/
  | mailboxRequestCheck
  /-- UDP_MAILBOX_DATAGRAM (R61). -/
  | udpMailboxDatagram (mac : Fin 3) (ip port : Nat) (data : Bytes)
  /-- COMMAND_EXECUTION_END (R49). -/
  | commandExecutionEnd (ch : Fin 16)
  /-- MB_SESSION_OPEN (R68). -/
  | mbSessionOpen (ch : Fin 16) (p : Bytes)
  /-- MB_SESSION_CLOSE (R69). -/
  | mbSessionClose (ch : Fin 16) (p : Bytes)
  /-- MB_NOP (R67). -/
  | mbNop (ch : Fin 16) (p : Bytes)
  /-- MB_ACK_ATTN (R66). -/
  | mbAckAttn (ch : Fin 16) (p : Bytes)
  /-- MB_DEVICE_INFO (R67). -/
  | mbDeviceInfo (ch : Fin 16) (p : Bytes)
  /-- MB_CHAN_BIND (R42). -/
  | mbChanBind (ch : Fin 16) (p : Bytes)
  /-- MB_KEY_SET (R45). -/
  | mbKeySet (ch : Fin 16) (p : Bytes)
  /-- MB_CHAN_STATS (R67). -/
  | mbChanStats (ch : Fin 16) (p : Bytes)
  /-- ADD (R108). -/
  | add (o : Kv)
  /-- SUB (R108). -/
  | sub (o : Kv)
  /-- ADDS (R108). -/
  | adds (o : Kv)
  /-- ADDSU (R108). -/
  | addsu (o : Kv)
  /-- SUBS (R108). -/
  | subs (o : Kv)
  /-- SUBSU (R108). -/
  | subsu (o : Kv)
  /-- MUL (R108). -/
  | mul (o : Kv)
  /-- MULS (R108). -/
  | muls (o : Kv)
  /-- MULQ (R108). -/
  | mulq (o : Kv)
  /-- MULH (R108). -/
  | mulh (o : Kv)
  /-- NEGS (R108). -/
  | negs (o : Kv)
  /-- ABSS (R108). -/
  | abss (o : Kv)
  /-- MIN (R108). -/
  | min (o : Kv)
  /-- MINU (R108). -/
  | minu (o : Kv)
  /-- MAX (R108). -/
  | max (o : Kv)
  /-- MAXU (R108). -/
  | maxu (o : Kv)
  /-- MOV (R108). -/
  | mov (o : Kv)
  /-- SHL (R109). -/
  | shl (o : Kv)
  /-- SHR (R109). -/
  | shr (o : Kv)
  /-- SAR (R109). -/
  | sar (o : Kv)
  /-- ROL (R109). -/
  | rol (o : Kv)
  /-- ADDI (R108). -/
  | addi (o : Kv)
  /-- ADDSI (R108). -/
  | addsi (o : Kv)
  /-- ANDI (R108). -/
  | andi (o : Kv)
  /-- ORI (R108). -/
  | ori (o : Kv)
  /-- XORI (R108). -/
  | xori (o : Kv)
  /-- MOVI (R108). -/
  | movi (o : Kv)
  /-- SHLI (R109). -/
  | shli (o : Kv)
  /-- SHRI (R109). -/
  | shri (o : Kv)
  /-- SARI (R109). -/
  | sari (o : Kv)
  /-- ROLI (R109). -/
  | roli (o : Kv)
  /-- LK0 (R110). -/
  | lk0 (o : Kv)
  /-- LK1 (R110). -/
  | lk1 (o : Kv)
  /-- LK2 (R110). -/
  | lk2 (o : Kv)
  /-- LK3 (R110). -/
  | lk3 (o : Kv)
  /-- CMPEQ (R111). -/
  | cmpeq (o : Kv)
  /-- CMPNE (R111). -/
  | cmpne (o : Kv)
  /-- CMPLT (R111). -/
  | cmplt (o : Kv)
  /-- CMPLTU (R111). -/
  | cmpltu (o : Kv)
  /-- CMPLE (R111). -/
  | cmple (o : Kv)
  /-- CMPLEU (R111). -/
  | cmpleu (o : Kv)
  /-- CMPEQI (R111). -/
  | cmpeqi (o : Kv)
  /-- CMPNEI (R111). -/
  | cmpnei (o : Kv)
  /-- CMPLTI (R111). -/
  | cmplti (o : Kv)
  /-- CMPLTIU (R111). -/
  | cmpltiu (o : Kv)
  /-- CMPGTI (R111). -/
  | cmpgti (o : Kv)
  /-- CMPGTIU (R111). -/
  | cmpgtiu (o : Kv)
  /-- TSTNZ (R111). -/
  | tstnz (o : Kv)
  /-- TSTB (R111). -/
  | tstb (o : Kv)
  /-- PAND (R111). -/
  | pand (o : Kv)
  /-- POR (R111). -/
  | por (o : Kv)
  /-- PXOR (R111). -/
  | pxor (o : Kv)
  /-- PANDN (R111). -/
  | pandn (o : Kv)
  /-- PRD (R111). -/
  | prd (o : Kv)
  /-- PWR (R111). -/
  | pwr (o : Kv)
  /-- AND (R112). -/
  | and (o : Kv)
  /-- OR (R112). -/
  | or (o : Kv)
  /-- XOR (R112). -/
  | xor (o : Kv)
  /-- ANDN (R112). -/
  | andn (o : Kv)
  /-- NOT (R112). -/
  | not (o : Kv)
  /-- EDGE (R112). -/
  | edge (o : Kv)
  /-- EDGEF (R112). -/
  | edgef (o : Kv)
  /-- EDGEA (R112). -/
  | edgea (o : Kv)
  /-- LATCH (R112). -/
  | latch (o : Kv)
  /-- LATCHS (R112). -/
  | latchs (o : Kv)
  /-- SH_SPLAT (R112). -/
  | shSplat (o : Kv)
  /-- SH_MERGE (R112). -/
  | shMerge (o : Kv)
  /-- SH_ANY (R112). -/
  | shAny (o : Kv)
  /-- SH_ALL (R112). -/
  | shAll (o : Kv)
  /-- SH_NONE (R112). -/
  | shNone (o : Kv)
  /-- BSET (R113). -/
  | bset (o : Kv)
  /-- BCLR (R113). -/
  | bclr (o : Kv)
  /-- BINS (R113). -/
  | bins (o : Kv)
  /-- POPC (R113). -/
  | popc (o : Kv)
  /-- CLZ (R113). -/
  | clz (o : Kv)
  /-- FFS (R113). -/
  | ffs (o : Kv)
  /-- EXTR (R113). -/
  | extr (o : Kv)
  /-- DEP (R113). -/
  | dep (o : Kv)
  /-- LD (R114). -/
  | ld (o : Kv)
  /-- ST (R114). -/
  | st (o : Kv)
  /-- IMLD (R114). -/
  | imld (o : Kv)
  /-- IMST (R114). -/
  | imst (o : Kv)
  /-- LDB (R115). -/
  | ldb (o : Kv)
  /-- STB (R116). -/
  | stb (o : Kv)
  /-- IMLDB (R115). -/
  | imldb (o : Kv)
  /-- IMSTB (R116). -/
  | imstb (o : Kv)
  /-- NOP (R76). -/
  | nop (o : Kv)
  /-- TEND (R88). -/
  | tend (o : Kv)
  /-- LOOP (R89). -/
  | loop (o : Kv)
  /-- RET (R118). -/
  | ret (o : Kv)
  /-- BR (R118). -/
  | br (o : Kv)
  /-- CALL (R118). -/
  | call (o : Kv)
  /-- MFS (R119). -/
  | mfs (o : Kv)
  /-- MTS (R119). -/
  | mts (o : Kv)
  /-- CE_START (R121). -/
  | ceStart (o : Kv)
  /-- CE_RD (R121). -/
  | ceRd (o : Kv)
  /-- SCH_ARM (R122). -/
  | schArm (o : Kv)
  /-- SCH_CANCEL (R122). -/
  | schCancel (o : Kv)
  /-- SCH_STAT (R95). -/
  | schStat (o : Kv)
  /-- EVT_POST (R123). -/
  | evtPost (o : Kv)
  /-- SWEV (R123). -/
  | swev (o : Kv)
  /-- BUDGET_EXCEEDED (R139). -/
  | budgetExceeded (core : Fin 8)
  /-- DEADLINE_OVERRUN (R139). -/
  | deadlineOverrun (task : Fin 256)
  /-- CYCLIC_RELEASE (R127). -/
  | cyclicRelease (task : Fin 256)
  /-- EVENT_TASK_RELEASE (R128). -/
  | eventTaskRelease (task : Fin 256)
  /-- POSITION_INTERVAL_RELEASE (R129). -/
  | positionIntervalRelease (task : Fin 256)
  /-- SUPPLY_CYCLE_RELEASE (R130). -/
  | supplyCycleRelease (task : Fin 256)
  /-- MODE_TRANSITION_IN_FORCE (R143). -/
  | modeTransitionInForce (scope : Option (Fin 32))
  /-- MB_MODE_SET (R146). -/
  | mbModeSet (ch : Fin 16) (p : Bytes)
  /-- MB_TENANT_MODE_SET (R146). -/
  | mbTenantModeSet (ch : Fin 16) (p : Bytes)
  /-- MB_TASK_GET (R160). -/
  | mbTaskGet (ch : Fin 16) (p : Bytes)
  /-- MB_TASK_SET (R155). -/
  | mbTaskSet (ch : Fin 16) (p : Bytes)
  /-- MB_TASK_STATS (R160). -/
  | mbTaskStats (ch : Fin 16) (p : Bytes)
  /-- MB_TENANT_SCHED_SET (R125). -/
  | mbTenantSchedSet (ch : Fin 16) (p : Bytes)
  /-- MB_RETAIN_SET (R156). -/
  | mbRetainSet (ch : Fin 16) (p : Bytes)
  /-- MB_FORCE_SET (R148). -/
  | mbForceSet (ch : Fin 16) (p : Bytes)
  /-- MB_FORCE_CLEAR (R150). -/
  | mbForceClear (ch : Fin 16) (p : Bytes)
  /-- MB_FORCE_LIST (R160). -/
  | mbForceList (ch : Fin 16) (p : Bytes)
  /-- FORCE_TIMEOUT (R150). -/
  | forceTimeout (word : Fin 20480)
  /-- MB_VALUE_WRITE (R151). -/
  | mbValueWrite (ch : Fin 16) (p : Bytes)
  /-- MB_VALUE_READ (R160). -/
  | mbValueRead (ch : Fin 16) (p : Bytes)
  /-- VALUE_WRITE_APPLY (R151). -/
  | valueWriteApply (ch : Fin 16)
  /-- RETAIN_SNAPSHOT_DUE (R156). -/
  | retainSnapshotDue (tenant : Fin 32)
  /-- RETAIN_SNAPSHOT_NO_ANCHOR (R157). -/
  | retainSnapshotNoAnchor (tenant : Fin 32)
  /-- RETAIN_SNAPSHOT_WRITTEN (R421). -/
  | retainSnapshotWritten (tenant : Fin 32)
  /-- MB_IMAGE_READ (R173). -/
  | mbImageRead (ch : Fin 16) (p : Bytes)
  /-- MB_IMAGE_WRITE (R173). -/
  | mbImageWrite (ch : Fin 16) (p : Bytes)
  /-- MB_PLOT_GET (R180). -/
  | mbPlotGet (ch : Fin 16) (p : Bytes)
  /-- MB_PLOT_ASSIGN (R166). -/
  | mbPlotAssign (ch : Fin 16) (p : Bytes)
  /-- MB_PLOT_RELEASE (R166). -/
  | mbPlotRelease (ch : Fin 16) (p : Bytes)
  /-- MB_PLOT_SHARE (R166). -/
  | mbPlotShare (ch : Fin 16) (p : Bytes)
  /-- MB_PLOT_PUB_SET (R165). -/
  | mbPlotPubSet (ch : Fin 16) (p : Bytes)
  /-- MB_RIO_SET (R175). -/
  | mbRioSet (ch : Fin 16) (p : Bytes)
  /-- MB_RIO_GET (R180). -/
  | mbRioGet (ch : Fin 16) (p : Bytes)
  /-- MB_TENANT_ACCEPT (R174). -/
  | mbTenantAccept (ch : Fin 16) (p : Bytes)
  /-- REMOTE_SET_RECEIVED (R177). -/
  | remoteSetReceived (m : Fin 1024) (seq : BitVec 16) (mstat : Byte) (words : List Word)
  /-- REMOTE_MODULE_TIMEOUT (R178). -/
  | remoteModuleTimeout (m : Fin 1024)
  /-- REMOTE_OUTPUT_PERIODIC (R178). -/
  | remoteOutputPeriodic (m : Fin 1024)
  /-- PLOT_STALE (R168). -/
  | plotStale (plot : Fin 320)
  /-- POSITION_TICK (R189). -/
  | positionTick
  /-- TOOTH_EDGE (R186). -/
  | toothEdge (tw : Fin 4) (reverse : Bool)
  /-- TOOTH_WINDOW_CLOSE (R186). -/
  | toothWindowClose (tw : Fin 4)
  /-- AXLE_STILL_TIMEOUT (R187). -/
  | axleStillTimeout (tw : Fin 4)
  /-- AXLE_READMIT (R188). -/
  | axleReadmit (tw : Fin 4)
  /-- COAST_TIMEOUT (R190). -/
  | coastTimeout
  /-- MAINS_ZERO_CROSSING (R193). -/
  | mainsZeroCrossing (mains : Fin 2) (freqMHz : Nat) (phase : BitVec 16) (phaseErr : Int)
  /-- MAINS_CROSSING_TIMEOUT (R193). -/
  | mainsCrossingTimeout (mains : Fin 2)
  /-- MAINS_HOLDOVER_EXPIRY (R193). -/
  | mainsHoldoverExpiry (mains : Fin 2)
  /-- MAINS_DC_DETECT (R193). -/
  | mainsDcDetect (mains : Fin 2)
  /-- SLOT_FIRE (R200). -/
  | slotFire (slot : Fin 2048)
  /-- PULSE_END (R200). -/
  | pulseEnd (slot : Fin 2048)
  /-- MB_TB_GET (R204). -/
  | mbTbGet (ch : Fin 16) (p : Bytes)
  /-- MB_TB_DIAG (R204). -/
  | mbTbDiag (ch : Fin 16) (p : Bytes)
  /-- MB_LP_SET (R185). -/
  | mbLpSet (ch : Fin 16) (p : Bytes)
  /-- MB_MAINS_SET (R192). -/
  | mbMainsSet (ch : Fin 16) (p : Bytes)
  /-- MB_POS_FIX (R191). -/
  | mbPosFix (ch : Fin 16) (p : Bytes)
  /-- MB_WALL_SET (R182). -/
  | mbWallSet (ch : Fin 16) (p : Bytes)
  /-- MB_SCH_ALLOC (R204). -/
  | mbSchAlloc (ch : Fin 16) (p : Bytes)
  /-- MB_SCH_SET (R195). -/
  | mbSchSet (ch : Fin 16) (p : Bytes)
  /-- MB_SCH_ARM (R197). -/
  | mbSchArm (ch : Fin 16) (p : Bytes)
  /-- MB_SCH_CANCEL (R201). -/
  | mbSchCancel (ch : Fin 16) (p : Bytes)
  /-- MB_SCH_GET (R204). -/
  | mbSchGet (ch : Fin 16) (p : Bytes)
  /-- CE_RATE_TRIGGER (R211). -/
  | ceRateTrigger (loop : Fin 512)
  /-- CE_SUPANG_TRIGGER (R211). -/
  | ceSupangTrigger (loop : Fin 512)
  /-- CE_SAMPLE_COMPLETE (R210). -/
  | ceSampleComplete (loop : Fin 512)
  /-- MB_CE_ALLOC (R206). -/
  | mbCeAlloc (ch : Fin 16) (p : Bytes)
  /-- MB_CE_SET (R208). -/
  | mbCeSet (ch : Fin 16) (p : Bytes)
  /-- MB_CE_COEF_SET (R221). -/
  | mbCeCoefSet (ch : Fin 16) (p : Bytes)
  /-- MB_CE_COEF_COMMIT (R221). -/
  | mbCeCoefCommit (ch : Fin 16) (p : Bytes)
  /-- MB_CE_GET (R226). -/
  | mbCeGet (ch : Fin 16) (p : Bytes)
  /-- MB_CE_STATE_SET (R226). -/
  | mbCeStateSet (ch : Fin 16) (p : Bytes)
  /-- MB_CE_FLAGS_CLEAR (R218). -/
  | mbCeFlagsClear (ch : Fin 16) (p : Bytes)
  /-- MB_CE_INJ_START (R223). -/
  | mbCeInjStart (ch : Fin 16) (p : Bytes)
  /-- MB_CE_INJ_STOP (R223). -/
  | mbCeInjStop (ch : Fin 16) (p : Bytes)
  /-- MB_CE_CAP_READ (R225). -/
  | mbCeCapRead (ch : Fin 16) (p : Bytes)
  /-- MB_CE_LOAD (R217). -/
  | mbCeLoad (ch : Fin 16) (p : Bytes)
  /-- WPG_EVALUATE (R237). -/
  | wpgEvaluate (w : Fin 512)
  /-- ALARM_EVALUATE (R238). -/
  | alarmEvaluate
  /-- SHELVE_END (R240). -/
  | shelveEnd (a : Fin 8192)
  /-- TREND_SAMPLE (R241). -/
  | trendSample (c : Fin 4096)
  /-- TREND_CHANGE_CHECK (R241). -/
  | trendChangeCheck (c : Fin 4096)
  /-- METER_SAMPLE (R242). -/
  | meterSample
  /-- ENERGY_INTERVAL_CLOSE (R244). -/
  | energyIntervalClose (m : Fin 64)
  /-- ENERGY_ACCUM_SAVE (R245). -/
  | energyAccumSave
  /-- ACCESS_DECISION (R246). -/
  | accessDecision (p : Fin 256)
  /-- ACCESS_PULSE_END (R246). -/
  | accessPulseEnd (p : Fin 256) (deny : Bool)
  /-- MB_SVC_QUOTA_SET (R229). -/
  | mbSvcQuotaSet (ch : Fin 16) (p : Bytes)
  /-- MB_SVC_LIST (R230). -/
  | mbSvcList (ch : Fin 16) (p : Bytes)
  /-- MB_LOCAL_SET (R236). -/
  | mbLocalSet (ch : Fin 16) (p : Bytes)
  /-- MB_CAL_SET (R236). -/
  | mbCalSet (ch : Fin 16) (p : Bytes)
  /-- MB_WPG_SET (R237). -/
  | mbWpgSet (ch : Fin 16) (p : Bytes)
  /-- MB_WPG_GET (R247). -/
  | mbWpgGet (ch : Fin 16) (p : Bytes)
  /-- MB_ALM_SET (R238). -/
  | mbAlmSet (ch : Fin 16) (p : Bytes)
  /-- MB_ALM_LIST (R247). -/
  | mbAlmList (ch : Fin 16) (p : Bytes)
  /-- MB_ALM_ACK (R238). -/
  | mbAlmAck (ch : Fin 16) (p : Bytes)
  /-- MB_ALM_SHELVE (R240). -/
  | mbAlmShelve (ch : Fin 16) (p : Bytes)
  /-- MB_TRD_SET (R241). -/
  | mbTrdSet (ch : Fin 16) (p : Bytes)
  /-- MB_TRD_READ (R241). -/
  | mbTrdRead (ch : Fin 16) (p : Bytes)
  /-- MB_EN_SET (R242). -/
  | mbEnSet (ch : Fin 16) (p : Bytes)
  /-- MB_EN_READ (R245). -/
  | mbEnRead (ch : Fin 16) (p : Bytes)
  /-- MB_EN_SYS_SET (R247). -/
  | mbEnSysSet (ch : Fin 16) (p : Bytes)
  /-- MB_EN_TOTALS (R247). -/
  | mbEnTotals (ch : Fin 16) (p : Bytes)
  /-- MB_ACC_SET (R246). -/
  | mbAccSet (ch : Fin 16) (p : Bytes)
  /-- MB_ACC_LIST_PUT (R246). -/
  | mbAccListPut (ch : Fin 16) (p : Bytes)
  /-- MB_ACC_LIST_DEL (R246). -/
  | mbAccListDel (ch : Fin 16) (p : Bytes)
  /-- FIO_OUTPUT_FRAME (R252). -/
  | fioOutputFrame (die : Fin 4)
  /-- DIE_FRAME_RECEIVED (R258). -/
  | dieFrameReceived (die : Fin 4) (crcOk : Bool)
  /-- FIO_INPUT_REPORT (R253). -/
  | fioInputReport (u : FioUnit)
  /-- DIE_REPORT_TIMEOUT (R253). -/
  | dieReportTimeout (die : Fin 4)
  /-- SILENCE_EXPIRY (R260). -/
  | silenceExpiry (die : Fin 4)
  /-- FIELD_SUPPLY_UV (R251). -/
  | fieldSupplyUv (supply : Fin 10) (low : Bool)
  /-- INPUT_FILTER_ACCEPT (R255). -/
  | inputFilterAccept (n : Fin 32) (v : Bool)
  /-- WIRE_BREAK_CHANGE (R256). -/
  | wireBreakChange (n : Fin 32) (broken : Bool)
  /-- OUTPUT_OVERLOAD (R257). -/
  | outputOverload (n : Fin 32) (therm : Bool)
  /-- OUTPUT_RETRY (R257). -/
  | outputRetry (n : Fin 32) (ok : Bool)
  /-- OPEN_LOAD_DETECT (R257). -/
  | openLoadDetect (n : Fin 32) (isOpen : Bool)
  /-- PEAK_PHASE_END (R259). -/
  | peakPhaseEnd (n : Fin 32)
  /-- GROUP_OVERLOAD_TRIP (R259). -/
  | groupOverloadTrip (g : Fin 8)
  /-- GROUP_RETRY (R259). -/
  | groupRetry (g : Fin 8)
  /-- AI_SAMPLE (R262). -/
  | aiSample (n : Fin 4) (raw : Word)
  /-- AO_LOOP_FAULT (R264). -/
  | aoLoopFault (n : Fin 4) (kind : AoFault) (set : Bool) (measured : Word)
  /-- TW_SENSOR_FAULT (R266). -/
  | twSensorFault (n : Fin 4) (fault : Bool)
  /-- MAINS_OVER_RANGE (R267). -/
  | mainsOverRange (mains : Fin 2)
  /-- MB_FIO_MAP_SET (R254). -/
  | mbFioMapSet (ch : Fin 16) (p : Bytes)
  /-- MB_FC_SET (R268). -/
  | mbFcSet (ch : Fin 16) (p : Bytes)
  /-- MB_FC_GRP_SET (R258). -/
  | mbFcGrpSet (ch : Fin 16) (p : Bytes)
  /-- MB_FIO_SIL_SET (R260). -/
  | mbFioSilSet (ch : Fin 16) (p : Bytes)
  /-- MB_AI_SET (R262). -/
  | mbAiSet (ch : Fin 16) (p : Bytes)
  /-- MB_AO_SET (R263). -/
  | mbAoSet (ch : Fin 16) (p : Bytes)
  /-- MB_TW_ELEC_SET (R265). -/
  | mbTwElecSet (ch : Fin 16) (p : Bytes)
  /-- MB_FIO_STAT (R269). -/
  | mbFioStat (ch : Fin 16) (p : Bytes)
  /-- MB_FIO_CLEAR (R259). -/
  | mbFioClear (ch : Fin 16) (p : Bytes)
  /-- SFC_EVALUATION (R288). -/
  | sfcEvaluation (rb : SoReadback)
  /-- HW_PATH_EVALUATION (R288). -/
  | hwPathEvaluation (rb : SoReadback)
  /-- SAFETY_INPUT_ACCEPT (R280). -/
  | safetyInputAccept (path : SafPath) (j : Fin 16) (high : Bool)
  /-- TEST_PULSE (R279). -/
  | testPulse (path : SafPath) (k : Fin 4) (readLow : BitVec 16) (overload : Bool)
  /-- GUARD_DT_DISCREPANCY (R283). -/
  | guardDtDiscrepancy (path : SafPath) (i : Fin 16)
  /-- DOOR_LOOP_SETTLE (R284). -/
  | doorLoopSettle (path : SafPath) (i : Fin 16)
  /-- DOOR_LOOP_DISAGREE (R284). -/
  | doorLoopDisagree (path : SafPath) (i : Fin 16)
  /-- MAX_HOLD_EXPIRY (R285). -/
  | maxHoldExpiry (path : SafPath) (i : Fin 16)
  /-- STANDSTILL_DECLARE (R287). -/
  | standstillDeclare (path : SafPath) (i : Fin 16)
  /-- SAFETY_SENSOR_TIMEOUT (R287). -/
  | safetySensorTimeout (path : SafPath) (i : Fin 16)
  /-- AXLE_DISAGREEMENT (R287). -/
  | axleDisagreement (path : SafPath) (i : Fin 16) (axle : Fin 2)
  /-- SO_SWITCH_TEST (R290). -/
  | soSwitchTest (path : SafPath) (k : Fin 4) (pass : Bool)
  /-- CROSS_MON_FRAME (R292). -/
  | crossMonFrame (path : SafPath) (f : CrossFrame)
  /-- CROSS_MON_TIMEOUT (R292). -/
  | crossMonTimeout (path : SafPath)
  /-- SFC_SELF_TEST (R292). -/
  | sfcSelfTest (pass : Bool)
  /-- GATE_DRIVE_STOP (R272). -/
  | gateDriveStop (path : SafPath) (k : Fin 4)
  /-- SAFETY_START_SEQUENCE (R294). -/
  | safetyStartSequence (testsPass : Bool) (pathsAgree : Bool)
  /-- SF_STATUS_WORD_UPDATE (R299). -/
  | sfStatusWordUpdate
  /-- LOCKOUT_EXPIRY (R297). -/
  | lockoutExpiry
  /-- MB_SAFETY_STATUS (R301). -/
  | mbSafetyStatus (ch : Fin 16) (p : Bytes)
  /-- MB_SAFETY_SECURE (R295). -/
  | mbSafetySecure (ch : Fin 16) (p : Bytes)
  /-- MB_SAFETY_LOAD (R295). -/
  | mbSafetyLoad (ch : Fin 16) (p : Bytes)
  /-- MB_SAFETY_CONFIRM (R296). -/
  | mbSafetyConfirm (ch : Fin 16) (p : Bytes)
  /-- MB_SAFETY_RESTART (R273). -/
  | mbSafetyRestart (ch : Fin 16) (p : Bytes)
  /-- MB_SAFETY_PASSWORD (R297). -/
  | mbSafetyPassword (ch : Fin 16) (p : Bytes)
  /-- MB_SAFETY_READ (R301). -/
  | mbSafetyRead (ch : Fin 16) (p : Bytes)
  /-- MB_SAFETY_LOG_READ (R298). -/
  | mbSafetyLogRead (ch : Fin 16) (p : Bytes)
  /-- CAN_FRAME_RECEIVED (R310). -/
  | canFrameReceived (n : Fin 4) (r : CanRx) (sofAgo : Nat)
  /-- CAN_TX_START (R312). -/
  | canTxStart (n : Fin 4)
  /-- CAN_TX_ATTEMPT_END (R313). -/
  | canTxAttemptEnd (n : Fin 4) (e : CanTxEnd) (loopDelay : Nat)
  /-- CAN_TX_STARVED (R313). -/
  | canTxStarved (n : Fin 4) (b : Fin 64)
  /-- CAN_BOFF_RECOVERY (R317). -/
  | canBoffRecovery (n : Fin 4)
  /-- CAN_BUS_REJOIN (R317). -/
  | canBusRejoin (n : Fin 4)
  /-- CAN_CONFIG_APPLY (R308). -/
  | canConfigApply (n : Fin 4)
  /-- CAN_WAKE_PATTERN (R319). -/
  | canWakePattern (n : CanPhases)
  /-- CAN_WAKE_FRAME (R320). -/
  | canWakeFrame (n : Fin 4) (r : CanWakeRx)
  /-- MB_CAN_SET (R307). -/
  | mbCanSet (ch : Fin 16) (p : Bytes)
  /-- MB_CAN_QUEUE_SET (R309). -/
  | mbCanQueueSet (ch : Fin 16) (p : Bytes)
  /-- MB_CAN_FILTER_SET (R309). -/
  | mbCanFilterSet (ch : Fin 16) (p : Bytes)
  /-- MB_CAN_TX (R323). -/
  | mbCanTx (ch : Fin 16) (p : Bytes)
  /-- MB_CAN_TX_CANCEL (R314). -/
  | mbCanTxCancel (ch : Fin 16) (p : Bytes)
  /-- MB_CAN_TX_RESULTS (R312). -/
  | mbCanTxResults (ch : Fin 16) (p : Bytes)
  /-- MB_CAN_RX_READ (R323). -/
  | mbCanRxRead (ch : Fin 16) (p : Bytes)
  /-- MB_CAN_STAT (R323). -/
  | mbCanStat (ch : Fin 16) (p : Bytes)
  /-- MB_CAN_RECOVER (R317). -/
  | mbCanRecover (ch : Fin 16) (p : Bytes)
  /-- MB_CAN_WAKE_SET (R318). -/
  | mbCanWakeSet (ch : Fin 16) (p : Bytes)
  /-- ETH_FRAME_RECEIVED (R327). -/
  | ethFrameReceived (mac : Fin 3) (f : EthFrame)
  /-- ETH_LINK_CHANGE (R325). -/
  | ethLinkChange (mac : Fin 3) (up : Bool) (mbps : Nat)
  /-- ARP_RETRY (R328). -/
  | arpRetry (mac : Fin 3) (ip : Nat)
  /-- ARP_ENTRY_AGE (R328). -/
  | arpEntryAge (mac : Fin 3) (ip : Nat)
  /-- REASSEMBLY_TIMEOUT (R329). -/
  | reassemblyTimeout (mac : Fin 3) (src ident : Nat)
  /-- TRDP_TELEGRAM_RECEIVED (R330). -/
  | trdpTelegramReceived (mac : Fin 3) (t : Telegram)
  /-- TRDP_PUBLISH (R333). -/
  | trdpPublish (k : Fin 256)
  /-- TRDP_SUB_TIMEOUT (R334). -/
  | trdpSubTimeout (k : Fin 256)
  /-- PTP_MESSAGE (R337). -/
  | ptpMessage (m : PtpRx)
  /-- PTP_SYNC_TIMEOUT (R337). -/
  | ptpSyncTimeout
  /-- MB_ETH_SET (R326). -/
  | mbEthSet (ch : Fin 16) (p : Bytes)
  /-- MB_ETH_PORT_SET (R329). -/
  | mbEthPortSet (ch : Fin 16) (p : Bytes)
  /-- MB_ETH_STAT (R340). -/
  | mbEthStat (ch : Fin 16) (p : Bytes)
  /-- MB_TRDP_SET (R332). -/
  | mbTrdpSet (ch : Fin 16) (p : Bytes)
  /-- MB_TRDP_GET (R340). -/
  | mbTrdpGet (ch : Fin 16) (p : Bytes)
  /-- MB_TRDP_TOPO_SET (R335). -/
  | mbTrdpTopoSet (ch : Fin 16) (p : Bytes)
  /-- MB_RIO_IP_SET (R331). -/
  | mbRioIpSet (ch : Fin 16) (p : Bytes)
  /-- MB_PTP_SET (R336). -/
  | mbPtpSet (ch : Fin 16) (p : Bytes)
  /-- MB_PTP_STAT (R340). -/
  | mbPtpStat (ch : Fin 16) (p : Bytes)
  /-- PASS_PORT_CHANGE (R342). -/
  | passPortChange (port : Fin 2) (up : Bool)
  /-- PASS_ECHO_COMPLETE (R343): the port, and the D that its 16 exchanges give. -/
  | passEchoComplete (port : Fin 2) (d : Nat)
  /-- PASS_FRAME_RECEIVED (R346). -/
  | passFrameReceived (port : Fin 2) (f : PassFrame)
  /-- PASS_FORWARD (R348). -/
  | passForward (port : Fin 2)
  /-- PASS_RESEND_TIMER (R347). -/
  | passResendTimer (port : Fin 2)
  /-- PASS_RESEND_RECEIVED (R347). -/
  | passResendReceived (port : Fin 2) (lseq : Nat)
  /-- PASS_IDLE_SEND (R342). -/
  | passIdleSend (port : Fin 2)
  /-- INAUG_SEND (R351). -/
  | inaugSend
  /-- INAUG_COMPLETE (R351). -/
  | inaugComplete
  /-- MARKER_SEND (R355). -/
  | markerSend
  /-- PUBLISH_SLOT (R356). -/
  | publishSlot
  /-- PUB_TIMEOUT (R358). -/
  | pubTimeout (origin : Fin 256) (group : Fin 16)
  /-- CHAIN_CHANGE_APPLY (R363). -/
  | chainChangeApply
  /-- MB_PASS_SET (R349). -/
  | mbPassSet (ch : Fin 16) (p : Bytes)
  /-- MB_PASS_STAT (R367). -/
  | mbPassStat (ch : Fin 16) (p : Bytes)
  /-- MB_PASS_MEMBERS (R367). -/
  | mbPassMembers (ch : Fin 16) (p : Bytes)
  /-- MB_PASS_BUDGET (R361). -/
  | mbPassBudget (ch : Fin 16) (p : Bytes)
  /-- MB_PASS_INAUG (R367). -/
  | mbPassInaug (ch : Fin 16) (p : Bytes)
  /-- VOLLEY_SEND (R377). -/
  | volleySend
  /-- VOLLEY_RECEIVED (R377). -/
  | volleyReceived (v : Volley)
  /-- SYNC_PATH_SILENT (R378). -/
  | syncPathSilent
  /-- ALIVE_PATH_SILENT (R378). -/
  | alivePathSilent
  /-- SRV_IN_CHANGE (R376). -/
  | srvInChange (high : Bool)
  /-- SERVE_PATH_MISMATCH (R378). -/
  | servePathMismatch
  /-- PAIR_RECORD_RECEIVED (R380). -/
  | pairRecordReceived (num : Nat) (crcOk : Bool) (r : PairRec)
  /-- RECORD_ACK_TIMEOUT (R379). -/
  | recordAckTimeout
  /-- REPLAY_RELEASE (R380). -/
  | replayRelease
  /-- PAIR_START_TIMEOUT (R375). -/
  | pairStartTimeout
  /-- PAIR_BEACON_SEND (R376). -/
  | pairBeaconSend
  /-- PAIR_BEACON_RECEIVED (R376). -/
  | pairBeaconReceived (b : Beacon)
  /-- RESYNC_ROUND (R384). -/
  | resyncRound (r : ResyncPage)
  /-- RESYNC_TIMEOUT (R384). -/
  | resyncTimeout
  /-- SERVE_GATE_LOSS (R370). -/
  | serveGateLoss (die : Fin 4)
  /-- HANDOVER_READY (R390). -/
  | handoverReady
  /-- MB_PAIR_SET (R372). -/
  | mbPairSet (ch : Fin 16) (p : Bytes)
  /-- MB_PAIR_STAT (R393). -/
  | mbPairStat (ch : Fin 16) (p : Bytes)
  /-- MB_PAIR_RESYNC (R393). -/
  | mbPairResync (ch : Fin 16) (p : Bytes)
  /-- MB_PAIR_SWITCH (R390). -/
  | mbPairSwitch (ch : Fin 16) (p : Bytes)
  /-- MB_PAIR_SWAP_BEGIN (R389). -/
  | mbPairSwapBegin (ch : Fin 16) (p : Bytes)
  /-- MB_PAIR_SWAP_PREVIEW (R389). -/
  | mbPairSwapPreview (ch : Fin 16) (p : Bytes)
  /-- MB_PAIR_SWAP_COMMIT (R389). -/
  | mbPairSwapCommit (ch : Fin 16) (p : Bytes)
  /-- MB_PAIR_SWAP_ABORT (R389). -/
  | mbPairSwapAbort (ch : Fin 16) (p : Bytes)
  /-- MB_OVL_CREATE (R411). -/
  | mbOvlCreate (ch : Fin 16) (p : Bytes)
  /-- MB_OVL_DELETE (R411). -/
  | mbOvlDelete (ch : Fin 16) (p : Bytes)
  /-- MB_OVL_REQUEST (R398). -/
  | mbOvlRequest (ch : Fin 16) (p : Bytes)
  /-- OVERLAY_TRANSITION_TIMEOUT (R400). -/
  | overlayTransitionTimeout
  /-- MB_OVL_STATUS (R411). -/
  | mbOvlStatus (ch : Fin 16) (p : Bytes)
  /-- MB_OVL_LIST (R411). -/
  | mbOvlList (ch : Fin 16) (p : Bytes)
  /-- MB_STORE_BEGIN (R407). -/
  | mbStoreBegin (ch : Fin 16) (p : Bytes)
  /-- MB_STORE_DATA (R407). -/
  | mbStoreData (ch : Fin 16) (p : Bytes)
  /-- MB_STORE_END (R407). -/
  | mbStoreEnd (ch : Fin 16) (p : Bytes)
  /-- FLASH_BLOCK_DONE (R408). -/
  | flashBlockDone (eraseOk verifyOk : Bool)
  /-- STAGING_TIMEOUT (R407). -/
  | stagingTimeout
  /-- MB_BANK_ACTIVATE (R410). -/
  | mbBankActivate (ch : Fin 16) (p : Bytes)
  /-- BANK_ACTIVATION_RESET (R410). -/
  | bankActivationReset
  /-- MB_BANK_CONFIRM (R410). -/
  | mbBankConfirm (ch : Fin 16) (p : Bytes)
  /-- MB_FLASH_STAT (R411). -/
  | mbFlashStat (ch : Fin 16) (p : Bytes)
  /-- GLEANER_WRITE (R428). -/
  | gleanerWrite
  /-- GLEANER_TOKEN_GAIN (R429). -/
  | gleanerTokenGain (code : BitVec 16) (tenant : Fin 32)
  /-- GLEANER_FREEZE_EXPIRY (R431). -/
  | gleanerFreezeExpiry
  /-- RTC_CAL_ADD (R434). -/
  | rtcCalAdd
  /-- RTC_SUPPLY_SWITCH (R435). -/
  | rtcSupplySwitch (toVbat : Bool)
  /-- OSC_STOP_DETECT (R436). -/
  | oscStopDetect
  /-- RTC_SYNC_CHECK (R437). -/
  | rtcSyncCheck
  /-- RTC_CAL_DERIVE (R434). -/
  | rtcCalDerive (driftPp2p20 : Int)
  /-- MB_RET_STAT (R439). -/
  | mbRetStat (ch : Fin 16) (p : Bytes)
  /-- MB_RTC_GET (R439). -/
  | mbRtcGet (ch : Fin 16) (p : Bytes)
  /-- MB_RTC_CAPTURE (R438). -/
  | mbRtcCapture (ch : Fin 16) (p : Bytes)
  /-- MB_RTC_CAL_SET (R434). -/
  | mbRtcCalSet (ch : Fin 16) (p : Bytes)
  /-- MB_GLN_READ (R433). -/
  | mbGlnRead (ch : Fin 16) (p : Bytes)
  /-- MB_GLN_FREEZE (R430). -/
  | mbGlnFreeze (ch : Fin 16) (p : Bytes)
  /-- MB_GLN_UNFREEZE (R431). -/
  | mbGlnUnfreeze (ch : Fin 16) (p : Bytes)
  /-- MB_GLN_CLASS_SET (R429). -/
  | mbGlnClassSet (ch : Fin 16) (p : Bytes)
  /-- MB_GLN_STAT (R439). -/
  | mbGlnStat (ch : Fin 16) (p : Bytes)
  /-- RAIL_WARNING (R442). -/
  | railWarning (rail : Fin 5) (below : Bool) (mv : Nat)
  /-- SUPPLY_MONITOR_RESET (R442). -/
  | supplyMonitorReset (rail : Fin 4) (mv : Nat)
  /-- SAFETY_DOMAIN_RESET (R442). -/
  | safetyDomainReset (mv : Nat)
  /-- TEMPERATURE_SAMPLE (R443). -/
  | temperatureSample (mC : Int)
  /-- TEMPERATURE_CRITICAL (R443). -/
  | temperatureCritical
  /-- HOLD_UP_BEGIN (R444). -/
  | holdUpBegin
  /-- HOLD_UP_END (R444). -/
  | holdUpEnd
  /-- THROTTLE_BEGIN (R445). -/
  | throttleBegin (mv : Nat)
  /-- THROTTLE_END (R445). -/
  | throttleEnd (mv : Nat)
  /-- RESET_N_ASSERT (R446). -/
  | resetNAssert
  /-- RESET_RELEASE (R450). -/
  | resetRelease
  /-- FIRMWARE_WATCHDOG_SERVICE (R455). -/
  | firmwareWatchdogService
  /-- WATCHDOG_WARNING (R454). -/
  | watchdogWarning
  /-- WATCHDOG_LAPSE (R454). -/
  | watchdogLapse
  /-- HOST_RESUME (R459). -/
  | hostResume
  /-- WAKE_IN_EVENT (R459). -/
  | wakeInEvent
  /-- RTC_ALARM_WAKE (R459). -/
  | rtcAlarmWake
  /-- WAKE_POWER_UP (R460). -/
  | wakePowerUp
  /-- MB_PWR_STAT (R463). -/
  | mbPwrStat (ch : Fin 16) (p : Bytes)
  /-- MB_RESET_LOG (R448). -/
  | mbResetLog (ch : Fin 16) (p : Bytes)
  /-- MB_WDG_FUSE (R451). -/
  | mbWdgFuse (ch : Fin 16) (p : Bytes)
  /-- MB_WDG_SET (R452). -/
  | mbWdgSet (ch : Fin 16) (p : Bytes)
  /-- MB_WDG_STAT (R463). -/
  | mbWdgStat (ch : Fin 16) (p : Bytes)
  /-- MB_START_SET (R449). -/
  | mbStartSet (ch : Fin 16) (p : Bytes)
  /-- MB_RESET (R463). -/
  | mbReset (ch : Fin 16) (p : Bytes)
  /-- MB_RESET_TIMER (R463). -/
  | mbResetTimer
  /-- MB_SLEEP (R458). -/
  | mbSleep (ch : Fin 16) (p : Bytes)
  /-- MB_WAKE_SET (R459). -/
  | mbWakeSet (ch : Fin 16) (p : Bytes)
  /-- MB_WAKE_CAUSE (R463). -/
  | mbWakeCause (ch : Fin 16) (p : Bytes)
  /-- SPI_BAD_OPCODE_FRAME (R56). -/
  | spiBadOpcodeFrame (f : SpiFrame)
  /-- ILLEGAL_INSTRUCTION (R99). -/
  | illegalInstruction (core : Fin 8) (s0 s1 s2 : BitVec 14) (ecc : Bool)
  /-- PTP_PORT_TIMER (R336). -/
  | ptpPortTimer (k : PtpTimer)
  /-- ALIVE_PATH_RESTORED (R377). -/
  | alivePathRestored
  /-- VBAT_CHECK (R434). -/
  | vbatCheck (mv : Nat)
  /-- UNCORRECTABLE_MEMORY_ERROR (R371). -/
  | uncorrectableMemoryError (kind : Fin 3)
  /-- SAFETY_DOMAIN_POWER_UP (R442). -/
  | safetyDomainPowerUp
  /-- RESYNC_RETRY (R384). -/
  | resyncRetry
deriving DecidableEq, Repr

end Sys2Proof
end

