-- ==== Sys2Proof/Decode.lean ====
section
/-! DEFINITION. Commands by the bits of the command table. Every row of spec/opcode_table.json has an empty list of fields and
no bits, so no word spells a command (log 8). The KV48 encoding of 03 R74 is a matter of the rows' operands: which row a
fetched syllable group belongs to is what 03 R99 and the encoding table in Machine/KvCore.lean say. -/

namespace Sys2Proof

/-- The command that a word of nbits bits spells by the table's bits: none, since no row gives bits. -/
def decodeTableWord (_nbits _w : Nat) : Option Instr := none

end Sys2Proof
end

