-- ==== Sys2Proof/Machine/Bits.lean ====
section
/-! DEFINITION. Bit fields, byte strings and the integer views of words (00 R5, R7, R15). -/

namespace Sys2Proof.Machine

/-- The field [hi:lo] of a word, as a number. -/
def fld (w : Word) (hi lo : Nat) : Nat := (w.toNat >>> lo) % 2 ^ (hi + 1 - lo)

/-- Bit i of a word. -/
def bit (w : Word) (i : Nat) : Bool := w.getLsbD i

/-- A word with its field [hi:lo] set to the low bits of v. -/
def setFld (w : Word) (hi lo v : Nat) : Word :=
  let m := BitVec.ofNat 48 ((2 ^ (hi + 1 - lo) - 1) <<< lo)
  (w &&& ~~~m) ||| (BitVec.ofNat 48 (v <<< lo) &&& m)

/-- A word with bit i set to b. -/
def setBit (w : Word) (i : Nat) (b : Bool) : Word :=
  let m := BitVec.ofNat 48 (2 ^ i)
  if b then w ||| m else w &&& ~~~m

/-- The word with value n modulo 2^48. -/
abbrev wd (n : Nat) : Word := BitVec.ofNat 48 n

/-- The word holding an integer in two's complement. -/
abbrev wi (n : Int) : Word := BitVec.ofInt 48 n

/-- 1 for true. -/
def b2n (b : Bool) : Nat := if b then 1 else 0

/-- A word with all bits equal to b. -/
def splat (b : Bool) : Word := if b then BitVec.allOnes 48 else 0#48

/-- The signed value of the low n bits of v (n at least 1). -/
def sgn (n v : Nat) : Int :=
  let u := v % 2 ^ n
  if u < 2 ^ (n - 1) then (u : Int) else (u : Int) - (2 ^ n : Nat)

/-- An integer modulo 2^n. -/
def umod (n : Nat) (v : Int) : Nat := (v % ((2 ^ n : Nat) : Int)).toNat

/-- Big-endian value of a byte string (00 R7). -/
def beVal : Bytes → Nat := fun p => p.foldl (fun a b => a * 256 + b.toNat) 0

/-- The big-endian field of n bytes at offset o of a message. -/
def be (p : Bytes) (o n : Nat) : Nat := beVal ((p.drop o).take n)

/-- Byte o of a message, 0 beyond its end. -/
def u8 (p : Bytes) (o : Nat) : Nat := (p.getD o 0#8).toNat

/-- A 48-bit word at byte offset o of a message. -/
def beW (p : Bytes) (o : Nat) : Word := wd (be p o 6)

/-- v as n big-endian bytes. -/
def toBe : Nat → Nat → Bytes
  | 0, _ => []
  | n + 1, v => BitVec.ofNat 8 (v / 256 ^ n) :: toBe n v

/-- A word as six bytes. -/
def wB (w : Word) : Bytes := toBe 6 w.toNat

/-- One byte holding a flag. -/
def bB (b : Bool) : Bytes := [BitVec.ofNat 8 (b2n b)]

/-- n consecutive items, each `size` bytes long, of a message from offset o. -/
def items (p : Bytes) (o size : Nat) : Nat → List Bytes
  | 0 => []
  | n + 1 => (p.drop o).take size :: items p (o + size) size n

/-- The first `n` naturals from `a` on. -/
def span (a n : Nat) : List Nat := List.range' a n

/-- The number of one bits of a word. -/
def popCount (w : Word) : Nat := (List.range 48).countP (fun i => w.getLsbD i)

/-- A later than b under the rule of 00 R10. -/
def later (a b : Nat) : Bool :=
  let d := (a + 2 ^ 48 - b % 2 ^ 48) % 2 ^ 48
  1 ≤ d && d < 2 ^ 47

/-- a equal to or later than b (00 R10). -/
def notBefore (a b : Nat) : Bool := a % 2 ^ 48 == b % 2 ^ 48 || later a b

/-- Clamp an integer between two bounds. -/
def clampI (lo hi x : Int) : Int := if x < lo then lo else if x > hi then hi else x

/-- Integer division rounded to nearest, halves up. -/
def divNear (a b : Int) : Int := if b = 0 then 0 else (2 * a + b).fdiv (2 * b)

end Sys2Proof.Machine
end

