-- ==== Sys2Proof/Machine/Crypto.lean ====
section
/-! DEFINITION. The check values of the device: CRC-32 (02 R59), CRC-16 (17 R426), SHA-256 and HMAC-SHA-256 (02
R60, R48, R45), PBKDF2 over it (11 R297). SHA-256 and HMAC follow FIPS 180-4 and FIPS 198-1, which 02 R60 names;
their constants are PRESUMED (log entry 3): the spec cites those standards and does not print them. -/

namespace Sys2Proof.Machine

/-- One bit step of the reflected CRC-32. -/
def crc32Bit (c : BitVec 32) : BitVec 32 :=
  if c.getLsbD 0 then (c >>> 1) ^^^ 0xEDB88320#32 else c >>> 1

/-- One byte of the CRC-32. -/
def crc32Byte (c : BitVec 32) (b : Byte) : BitVec 32 :=
  crc32Bit (crc32Bit (crc32Bit (crc32Bit (crc32Bit (crc32Bit (crc32Bit (crc32Bit (c ^^^ b.setWidth 32))))))))

/-- CRC-32, polynomial 0x04C1_1DB7 reflected, initial value and final XOR 0xFFFF_FFFF (02 R59). -/
def crc32 (p : Bytes) : Nat := (~~~(p.foldl crc32Byte 0xFFFFFFFF#32)).toNat

/-- One bit step of the CRC-16. -/
def crc16Bit (c : BitVec 16) : BitVec 16 :=
  if c.getLsbD 15 then (c <<< 1) ^^^ 0x1021#16 else c <<< 1

/-- One byte of the CRC-16. -/
def crc16Byte (c : BitVec 16) (b : Byte) : BitVec 16 :=
  crc16Bit (crc16Bit (crc16Bit (crc16Bit (crc16Bit (crc16Bit (crc16Bit (crc16Bit (c ^^^ (b.setWidth 16 <<< 8)))))))))

/-- CRC-16, polynomial 0x1021, initial value 0xFFFF, no reflection, no final XOR (17 R426). -/
def crc16 (p : Bytes) : Nat := (p.foldl crc16Byte 0xFFFF#16).toNat

/-- The round constants of SHA-256, eight to a number, the first in the highest 32 bits: the fractions of the cube roots of the first
sixty-four primes. -/
def shaKPacked : List Nat :=
  [0x428A2F9871374491B5C0FBCFE9B5DBA53956C25B59F111F1923F82A4AB1C5ED5,
   0xD807AA9812835B01243185BE550C7DC372BE5D7480DEB1FE9BDC06A7C19BF174,
   0xE49B69C1EFBE47860FC19DC6240CA1CC2DE92C6F4A7484AA5CB0A9DC76F988DA,
   0x983E5152A831C66DB00327C8BF597FC7C6E00BF3D5A7914706CA635114292967,
   0x27B70A852E1B21384D2C6DFC53380D13650A7354766A0ABB81C2C92E92722C85,
   0xA2BFE8A1A81A664BC24B8B70C76C51A3D192E819D6990624F40E3585106AA070,
   0x19A4C1161E376C082748774C34B0BCB5391C0CB34ED8AA4A5B9CCA4F682E6FF3,
   0x748F82EE78A5636F84C878148CC7020890BEFFFAA4506CEBBEF9A3F7C67178F2]

/-- The round constant of round i. -/
def shaKAt (i : Nat) : Nat := shaKPacked.getD (i / 8) 0 / 2 ^ (224 - 32 * (i % 8)) % 2 ^ 32

abbrev W32 := BitVec 32

/-- The working variables of the SHA-256 compression function. -/
structure Sha where
  a : W32
  b : W32
  c : W32
  d : W32
  e : W32
  f : W32
  g : W32
  h : W32
deriving DecidableEq, Repr

/-- The initial hash value. -/
def shaInit : Sha :=
  ⟨0x6a09e667#32, 0xbb67ae85#32, 0x3c6ef372#32, 0xa54ff53a#32, 0x510e527f#32, 0x9b05688c#32, 0x1f83d9ab#32, 0x5be0cd19#32⟩

/-- One round with round constant k and schedule word w. -/
def shaRound (v : Sha) (kw : W32) : Sha :=
  let s1 := v.e.rotateRight 6 ^^^ v.e.rotateRight 11 ^^^ v.e.rotateRight 25
  let ch := (v.e &&& v.f) ^^^ (~~~v.e &&& v.g)
  let t1 := v.h + s1 + ch + kw
  let s0 := v.a.rotateRight 2 ^^^ v.a.rotateRight 13 ^^^ v.a.rotateRight 22
  let mj := (v.a &&& v.b) ^^^ (v.a &&& v.c) ^^^ (v.b &&& v.c)
  ⟨t1 + s0 + mj, v.a, v.b, v.c, v.d + t1, v.e, v.f, v.g⟩

/-- The last n rounds, `w` holding the next sixteen schedule words. -/
def shaRounds : Nat → List W32 → Sha → Sha
  | 0, _, v => v
  | n + 1, w, v =>
    let w0 := w.getD 0 0
    let w1 := w.getD 1 0
    let w14 := w.getD 14 0
    let s0 := w1.rotateRight 7 ^^^ w1.rotateRight 18 ^^^ (w1 >>> 3)
    let s1 := w14.rotateRight 17 ^^^ w14.rotateRight 19 ^^^ (w14 >>> 10)
    shaRounds n (w.drop 1 ++ [w0 + s0 + w.getD 9 0 + s1]) (shaRound v (BitVec.ofNat 32 (shaKAt (63 - n)) + w0))

/-- The compression of one 64-byte block. -/
def shaBlock (v : Sha) (blk : Bytes) : Sha :=
  let w := (items blk 0 4 16).map (fun q => BitVec.ofNat 32 (beVal q))
  let r := shaRounds 64 w v
  ⟨v.a + r.a, v.b + r.b, v.c + r.c, v.d + r.d, v.e + r.e, v.f + r.f, v.g + r.g, v.h + r.h⟩

/-- The padded message. -/
def shaPad (p : Bytes) : Bytes :=
  p ++ [0x80#8] ++ List.replicate ((119 - p.length % 64) % 64) 0#8 ++ toBe 8 (8 * p.length)

/-- SHA-256. -/
def sha256 (p : Bytes) : Bytes :=
  let m := shaPad p
  let v := (items m 0 64 (m.length / 64)).foldl shaBlock shaInit
  [v.a, v.b, v.c, v.d, v.e, v.f, v.g, v.h].flatMap (fun x => toBe 4 x.toNat)

/-- HMAC-SHA-256 with key k over message p. -/
def hmac (k p : Bytes) : Bytes :=
  let k0 := if k.length > 64 then sha256 k else k
  let kp := k0 ++ List.replicate (64 - k0.length) 0#8
  sha256 (kp.map (· ^^^ 0x5C#8) ++ sha256 (kp.map (· ^^^ 0x36#8) ++ p))

/-- Bytewise exclusive or. -/
def xorBytes (a b : Bytes) : Bytes := List.zipWith (· ^^^ ·) a b

/-- The remaining iterations of one PBKDF2 block. -/
def pbkdf2Loop (pw : Bytes) : Nat → Bytes → Bytes → Bytes
  | 0, _, acc => acc
  | n + 1, u, acc => let u' := hmac pw u; pbkdf2Loop pw n u' (xorBytes acc u')

/-- The first 32 bytes of PBKDF2-HMAC-SHA-256. -/
def pbkdf2 (pw salt : Bytes) (iters : Nat) : Bytes :=
  let u := hmac pw (salt ++ [0#8, 0#8, 0#8, 1#8])
  pbkdf2Loop pw (iters - 1) u u

end Sys2Proof.Machine
end

