-- ==== Sys2Proof/Config.lean ====
section
/-! DEFINITION. Values the spec leaves free: constants without a body, so that no proof can see them (log entry 1). -/

namespace Sys2Proof.Config

/-- The n-th draw of 32 bits from the hardware random source (02 R68). -/
opaque random32 : Nat → BitVec 32

/-- The n-th draw of a watchdog question, read as 1 to 65,535 by the model (18 R453: never 0). -/
opaque random16 : Nat → BitVec 16

/-- The n-th draw of a byte of salt (11 R297). -/
opaque randomByte : Nat → BitVec 8

/-- A result word that the spec leaves open, the n-th such value of a run. -/
opaque freeWord : Nat → BitVec 48

/-- Whether a firmware bank's content carries a valid ECDSA signature under the key in the boot ROM (16 R406: the spec gives
neither the key nor the place of the signature). -/
opaque signatureOk : List (BitVec 8) → Bool

/-- Content of the key area (region 5) or of the safety block (6) as its n-th generation holds it (16 Table 16-6: the spec gives no
layout of either). -/
opaque areaBytes : Nat → Nat → List (BitVec 8)

/-- One-way delay in ns of the k-th link of a chain that does not end at this device (14 R361: only its two devices measure
it, and no frame carries it). -/
opaque linkDelay : Nat → Nat

/-- Major, minor and patch of the firmware that a bank's content holds (02 R67: the spec gives no place of them in the content). -/
opaque fwVersionOf : List (BitVec 8) → BitVec 24

/-- Proportional gain of the PTP servo, in parts per 2^32 of 1e-9 per ns of offset, by the nominal time between two Syncs in ns (13
R337 gives no gain; the time constant of 8 sync intervals, which it gives, stands in the law itself). -/
opaque ptpKp : Nat → Nat

/-- BASE of the code descriptor of a tenant: the syllable address of its offset 0 in the program store (03 Table 3-7: the spec
gives no value, and a task reads 0). -/
opaque codeBase : Nat → BitVec 22

/-- BASE of a data-store segment, by segment and owner: the word address of its offset 0 (03 Table 3-4: the spec gives no value,
and a task reads 0). -/
opaque segBase : Nat → BitVec 21

end Sys2Proof.Config
end

