-- ==== Sys2Proof/Machine/Tab.lean ====
section
/-! DEFINITION. Sparse tables in canonical form: what every register family, the image, the data store and the
Silo's areas are held in. A key that is not listed reads as the table's default. -/

namespace Sys2Proof.Machine

/-- The value at key i; an unlisted key reads as d. -/
def tget {α : Type} (d : α) : Tab α → Nat → α
  | [], _ => d
  | (k, v) :: t, i => if i = k then v else tget d t i

/-- The table with value v at key i, in canonical form where the table has it; the default leaves no entry of key i. -/
def tput {α : Type} [DecidableEq α] (d : α) (i : Nat) (v : α) : Tab α → Tab α
  | [] => if v = d then [] else [(i, v)]
  | (k, w) :: t =>
    if i = k then (if v = d then tput d i v t else (i, v) :: t)
    else if i < k ∧ v ≠ d then (i, v) :: (k, w) :: t
    else (k, w) :: tput d i v t

/-- The canonical form: keys strictly rising from `lo`, no value equal to the default. -/
def tabOk {α : Type} [DecidableEq α] (d : α) : Nat → Tab α → Bool
  | _, [] => true
  | lo, (k, v) :: t => decide (lo ≤ k) && !decide (v = d) && tabOk d (k + 1) t

/-- A memory of words (image, data store, retentive copies) in canonical form; an unlisted word reads 0. -/
abbrev Memory.wf (t : Tab Word) : Bool := tabOk 0#48 0 t

/-- A word of a memory. -/
def wget (t : Tab Word) (i : Nat) : Word := tget 0#48 t i

/-- A memory with one word written. -/
def wput (i : Nat) (v : Word) (t : Tab Word) : Tab Word := tput 0#48 i v t

/-- A memory with consecutive words written from i on. -/
def wputs : Nat → List Word → Tab Word → Tab Word
  | _, [], t => t
  | i, v :: vs, t => wputs (i + 1) vs (wput i v t)

/-- n consecutive words of a memory. -/
def wgets (t : Tab Word) (i n : Nat) : List Word := (List.range n).map (fun k => wget t (i + k))

/-- A memory with consecutive words 0 from i on. -/
def wclear (i n : Nat) (t : Tab Word) : Tab Word := t.filter (fun e => e.1 < i || i + n ≤ e.1)

/-- A field of a record that is at key i, updated. -/
def tupd {α : Type} [DecidableEq α] (d : α) (i : Nat) (f : α → α) (t : Tab α) : Tab α := tput d i (f (tget d t i)) t

/-- An element put before the first that it may precede. -/
def insertBy {α : Type} (r : α → α → Bool) (a : α) : List α → List α
  | [] => [a]
  | b :: l => if r a b then a :: b :: l else b :: insertBy r a l

/-- A list in the order r, equals in their own order. -/
def sortBy {α : Type} (r : α → α → Bool) (l : List α) : List α := l.foldr (insertBy r) []

/-- A list with element i replaced. -/
def lset {α : Type} (l : List α) (i : Nat) (v : α) : List α := l.set i v

end Sys2Proof.Machine
end

