-- ==== Sys2Proof/Machine/State.lean ====
section
/-! DEFINITION. The state of the IZN-4816: every register, table, queue, counter and mode the spec gives the device,
grouped by the chapter that owns it. Each field's comment gives: what it is | width | file and rule | reset value. -/

namespace Sys2Proof.Machine

/-- No command of this block ends the machine: every row of the table has an effect, so no fault exists. -/
inductive Fault where
deriving DecidableEq, Repr

/-- Reasons to give a command no meaning. -/
inductive Refusal where
  /-- Raised by exec for a command that has no meaning yet; safe (the run stops). -/
  | notModelled (mnemonic : String)
deriving DecidableEq, Repr

/-! ### Mailboxes (02) -/

/-- The stored settings of a mailbox channel (02 Table 2-2). -/
structure ChanCfg where
  /-- TENANT | 5 | 02 R41 | 0 as shipped -/
  tenant : Nat := 0
  /-- TRANSPORT: 0 disabled, 1 SPI, 2 UDP | 2 | 02 R41 | MBX0 1, others 0 as shipped -/
  transport : Nat := 0
  /-- TAGREQ | 1 | 02 R41 | 0 as shipped -/
  tagreq : Bool := false
  /-- SRC_IP | 32 | 02 Table 2-2 | 0 as shipped (DESIGN CHOICE 0, log 2) -/
  srcIp : Nat := 0
  /-- KEY, 32 bytes; empty is no key | 256 | 02 Table 2-2 | none as shipped -/
  key : Bytes := []
  /-- KEY_GEN | 32 | 02 R41 | 0 as shipped -/
  keyGen : Nat := 0
deriving DecidableEq, Repr

/-- What a command changes of a channel's settings (02 R43): its binding, or its key. -/
inductive ChanNew where
  | bind (tenant transport : Nat) (tagreq : Bool) (srcIp : Nat)
  | key (key : Bytes) (gen : Nat)
deriving DecidableEq, Repr

/-- Settings with a change in force. -/
def ChanNew.on : ChanNew → ChanCfg → ChanCfg
  | .bind tenant transport tagreq srcIp, c => { c with tenant, transport, tagreq, srcIp }
  | .key k g, c => { c with key := k, keyGen := g }

def ChanNew.isKey : ChanNew → Bool
  | .key _ _ => true
  | _ => false

/-- The header fields of an accepted request that its reply carries (02 R46, R49). -/
structure Req where
  seq : Nat
  cmd : Nat
  tenantByte : Nat
  flags : Nat
  payload : Bytes
  digest : Bytes
  /-- UDP only: MAC, source address and port the reply goes to. -/
  udp : Option (Nat × Nat × Nat)
deriving DecidableEq, Repr

/-- One entry of a reply cache (02 R48); no reply while the request executes. -/
structure CacheEnt where
  seq : Nat
  digest : Bytes
  reply : Option (Nat × Bytes)
deriving DecidableEq, Repr

/-- The volatile state of one mailbox channel. -/
structure Chan where
  /-- session open | 1 | 02 R68, R69 | closed -/
  isOpen : Bool := false
  /-- LAST_SEQ | 32 | 02 R46, R68 | 0 (DESIGN CHOICE, log 2) -/
  lastSeq : Nat := 0
  /-- reply cache, at most 8 entries, newest first | 8 | 02 R48 | empty -/
  cache : List CacheEnt := []
  /-- request being executed | - | 02 R49 | none -/
  exec : Option Req := none
  /-- outcome of the last command run on the channel: result code and payload | - | 02 R46 check 13 | none -/
  result : Option (Nat × Bytes) := none
  /-- the request's command has begun and its result comes later | 1 | 02 R47, R49 | 0 -/
  started : Bool := false
  /-- SEQUENCE and COMMAND of the latest accepted request | 48 | 02 R53 | 0, 0 -/
  lastReq : Nat × Nat := (0, 0)
  /-- current reply of a SPI channel | - | 02 R53 | none -/
  reply : Option Bytes := none
  /-- a rejected request has followed the executing one | 1 | 02 R53 | 0 -/
  rejectedSince : Bool := false
  /-- READY bit | 1 | 02 R54 | 0 -/
  ready : Bool := false
  /-- latched bits EVT 14, MODE 12, RED 11, SAFE 10, CFG 9, NET 8, WDG 7, THR 4 | 8 | 02 R63, R483 | 0 -/
  latch : BitVec 16 := 0#16
  /-- count of BAD_TAG | 32 | 02 R67 | 0 -/
  badTag : Nat := 0
  /-- count of SEQ_CONFLICT | 32 | 02 R67 | 0 -/
  seqConflict : Nat := 0
  /-- count of SEQ_WINDOW | 32 | 02 R67 | 0 -/
  seqWindow : Nat := 0
  /-- discarded datagrams | 32 | 02 R62 | 0 -/
  discDgram : Nat := 0
  /-- discarded frames | 32 | 02 R67 | 0 -/
  discFrame : Nat := 0
  /-- settings that apply once the reply under the old ones is formed | - | 02 R43 | none -/
  newCfg : Option ChanNew := none
deriving DecidableEq, Repr

/-- The SPI target port and the mailbox service. -/
structure SpiPort where
  /-- mailbox service started | 1 | 02 R58 | 0 -/
  started : Bool := false
  /-- view channel | 4 | 02 R51 | lowest channel on SPI (MBX0 as shipped) -/
  view : Option Nat := some 0
  /-- result of the preceding frame | 16 | 02 R50 | 0 -/
  lastResult : Nat := 0
  /-- WRITE messages awaiting checks 2 to 7, oldest first, at most 2 | - | 02 R55 | none -/
  waiting : List Bytes := []
  /-- a frame has ended since the last WRITE that went on to its checks | 1 | 02 R50 | 0 -/
  later : Bool := false
  /-- discard count | 16 | 02 R51, R56 | 0 -/
  discards : Nat := 0
deriving DecidableEq, Repr

/-- Mailboxes: channels by number, and the SPI port. -/
structure Mailbox where
  /-- volatile channel state | 16 | 02 R63 | as Chan -/
  chan : Tab Chan := []
  /-- SPI port | - | 02 R50 | as SpiPort -/
  spi : SpiPort := {}
  /-- last discard was counted with no channel identified | 32 | 02 R71 | 0 -/
  unknownDgram : Nat := 0
deriving DecidableEq, Repr

/-! ### Event controller (01) -/

/-- The event controller. -/
structure Events where
  /-- EVT_PEND: sources pending | 384 | 01 R30 | 0 -/
  pend : BitVec 384 := 0#384
  /-- EVT_SRC[n] | 48 × 384 | 01 R30, Table 1-9 | 0 -/
  src : Tab Word := []
  /-- last firing while pending, by source: (its DEVTIME count + 1) × 256 + OVF before it | - | 01 R32 | none -/
  lastOver : Tab Nat := []
deriving DecidableEq, Repr

/-! ### Gleaner, Silo, RTC (17) -/

/-- An event on its way to the ring: everything of an entry but its SEQ (17 R425, R428). -/
structure GlnEv where
  code : Nat
  tenant : Nat
  level : Nat
  wallOk : Bool
  wall : Nat
  devtime : Nat
  p1 : Nat
  p2 : Nat
deriving DecidableEq, Repr

/-- An entry with its SEQ. -/
structure GlnEntry where
  seq : Nat
  ev : GlnEv
deriving DecidableEq, Repr

/-- A rate bucket: tokens taken out of BURST, the instant from which the next token is counted, events suppressed (17 R429). -/
structure Bucket where
  used : Nat := 0
  from_ : Nat := 0
  suppressed : Nat := 0
deriving DecidableEq, Repr

/-- GLN_CLASS[c] (17 Table 17-6). -/
structure GlnClass where
  burst : Nat := 20
  rate : Nat := 100
  expert : Bool := false
deriving DecidableEq, Repr

/-- What the writer put into the ring last, and what stood there before: a freeze of the same instant goes first (17 R432). -/
structure GlnPut where
  at_ : Nat
  entry : GlnEntry
  before : Option GlnEntry
  bad : Bool
  told : List Nat
deriving DecidableEq, Repr

/-- The Gleaner's volatile part. -/
structure Gleaner where
  /-- writer queue, at most 64, oldest first | - | 17 R428 | empty -/
  queue : List GlnEv := []
  /-- clk at which the writer last took an entry | - | 17 R428 | none -/
  wroteAt : Option Nat := none
  /-- the writer's last write into the ring: instant, entry, what the slot held, channels that got EVT | - | 17 R432 | none -/
  put : Option GlnPut := none
  /-- rate buckets by code × 32 + tenant | - | 17 R429 | full -/
  bucket : Tab Bucket := []
  /-- GLN_CLASS[1..15] | 48 × 15 | 17 Table 17-6 | basic level: RATE 100, BURST 20 -/
  cls : Tab GlnClass := []
  /-- class of codes moved from their file's class | 4 | 17 R429 | none moved -/
  codeCls : Tab Nat := []
  /-- class 0 drops not yet reported, by code × 32 + tenant | - | 17 R429 | 0 -/
  drops : Tab Nat := []
  /-- frozen: DEVTIME at which the freeze ends | 48 | 17 R430 | not frozen -/
  frozen : Option Nat := none
  /-- entries dropped at a full hold queue in this freeze | 32 | 17 R431 | 0 -/
  holdDrops : Nat := 0
  /-- suppressed since reset | 32 | 17 R439 | 0 -/
  suppressed : Nat := 0
  /-- dropped since reset | 32 | 17 R439 | 0 -/
  dropped : Nat := 0
  /-- entries skipped for their CRC | 32 | 17 R428 | 0 -/
  skipped : Nat := 0
  /-- Silo corrections since reset | 32 | 17 R440 | 0 -/
  corrections : Nat := 0
  /-- ring slots whose failed read has been reported | - | 17 R428 | none -/
  reported : List Nat := []
deriving DecidableEq, Repr

/-- A retentive descriptor (17 Table 17-3). -/
structure RetDesc where
  gen : Nat := 0
  offset : Nat := 0
  length : Nat := 0
  layout : Nat := 0
  crc : Nat := 0
deriving DecidableEq, Repr

/-- A reset record (18 R448). -/
structure ResetRec where
  cause : Nat
  detail : Nat
  tai : Nat
deriving DecidableEq, Repr

/-- A closed energy record (09 Table 9-8). -/
structure EnRec where
  num : Nat
  start : Nat
  dur : Nat
  meter : Nat
  sys : Nat
  flags : Nat
  imp : Nat
  exp : Nat
deriving DecidableEq, Repr

/-- The format header of the Silo (17 Table 17-2): magic, layout version, CRC-32 of both (log 126). -/
structure SiloHeader where
  magic : Nat := 0
  version : Nat := 0
  crc : Nat := 0
deriving DecidableEq, Repr

/-- The Silo: the areas of 17 Table 17-1 and Table 17-2 that this chapter owns. -/
structure Silo where
  /-- format header | 64 bytes | 17 Table 17-2, R419 | not valid on a new module -/
  header : SiloHeader := {}
  /-- Silo error counts: errors corrected | 32 | 17 Table 17-2 | 0 -/
  corrected : Nat := 0
  /-- Silo error counts: uncorrectable errors read | 32 | 17 Table 17-2 | 0 -/
  uncorrected : Nat := 0
  /-- retentive copies A (0) and B (1), words at copy × 32768 + offset | 2 × 32768 × 48 | 17 R421 | DESIGN CHOICE 0 (log 2) -/
  ret : Tab Word := []
  /-- retentive descriptors by tenant × 2 + copy | 64 × 128 | 17 Table 17-3 | 0 -/
  desc : Tab RetDesc := []
  /-- copy that received the tenant's previous snapshot | 1 × 32 | 17 R421, R423 | B, so that the first goes to A (DESIGN CHOICE, log 2) -/
  lastCopy : Tab Nat := []
  /-- Gleaner ring by slot | 32768 × 256 | 17 R427 | empty -/
  ring : Tab (Option GlnEntry) := []
  /-- ring slots whose CRC-16 fails | - | 17 R428 | none -/
  badSlots : List Nat := []
  /-- aligned 8-byte groups of the Silo with a single-bit error, by number | 2^18 | 17 R418 | none -/
  soft : List Nat := []
  /-- groups with an uncorrectable error | 2^18 | 17 R418 | none -/
  hard : List Nat := []
  /-- SEQ of the next entry | 32 | 17 R428 | 0 -/
  nextSeq : Nat := 0
  /-- hold queue, at most 256 | - | 17 R430 | empty -/
  hold : List GlnEntry := []
  /-- the ring was frozen at the last device reset | 1 | 17 R431 | 0 -/
  frozenAtReset : Bool := false
  /-- count of all resets | 32 | 18 R448 | 0 -/
  resets : Nat := 0
  /-- count of watchdog resets | 32 | 18 R448 | 0 -/
  wdgResets : Nat := 0
  /-- last 8 reset records, newest first | 8 × 64 | 18 R448 | none -/
  resetLog : List ResetRec := []
  /-- watchdog reset ring, at most 255 TAI times, newest first | 255 × 48 | 18 R448 | empty -/
  wdgRing : List Nat := []
  /-- watchdog reset count last acknowledged per channel | 32 × 16 | 02 R66 | 0 -/
  ackWdg : Tab Nat := []
  /-- INNINGS | 48 | 15 R374 | 0 -/
  innings : Nat := 0
  /-- target overlay set, layers 1 to 4 in bytes [31:24] to [7:0] | 32 | 16 R399, R402 | 0 -/
  ovlTarget : Nat := 0
  /-- energy records, newest first, at most 6,144 | 6144 × 240 | 09 R245 | empty -/
  enRing : List EnRec := []
  /-- number of the next energy record | 32 | 09 Table 9-8 | 0 (DESIGN CHOICE, log 2) -/
  enNext : Nat := 0
  /-- cumulative import and export by meter × 16 + system, mWh × 2^32 | 64 × 16 × 2 | 09 R245 | 0 -/
  enTotal : Tab (Nat × Nat) := []
  /-- open records as last saved, by meter | 64 | 09 R245 | none -/
  enSaved : Tab (Option EnOpen) := []
  /-- UTC offset in seconds | signed | 00 R8, 17 R437 | DESIGN CHOICE 0 (log 2) -/
  utcOffset : Int := 0
  /-- hold-up flag | 1 | 18 R444 | 0 -/
  holdUp : Bool := false
deriving DecidableEq, Repr

/-- The real-time clock (17 Table 17-7). -/
structure Rtc where
  /-- SEC | 48 | 17 Table 17-7 | DESIGN CHOICE 0 (log 2) -/
  sec : Nat := 0
  /-- SUB | 15 | 17 Table 17-7 | DESIGN CHOICE 0 (log 2) -/
  sub : Nat := 0
  /-- nanoseconds × 64 since the last crystal edge; an edge falls every 1,953,125 | - | 17 (32,768 Hz crystal), model's own | 0 -/
  acc : Nat := 0
  /-- OSC_STOP | 1 | 17 R436 | 1 after a power-on of the RTC domain -/
  oscStop : Bool := true
  /-- how long the crystal has run without a gap, in ns | - | 17 R436 | 0 -/
  goodFor : Nat := 0
  /-- VBAT_LOW | 1 | 17 Table 17-7 | DESIGN CHOICE 0 (log 2) -/
  vbatLow : Bool := false
  /-- EXPERT | 1 | 17 Table 17-7 | 0 -/
  expert : Bool := false
  /-- CAL | 9 signed | 17 R434 | 0 at the first start-up -/
  cal : Int := 0
  /-- CAL as last derived at the basic level | 9 signed | 17 R434 | 0 at the first start-up -/
  derived : Int := 0
  /-- crystal periods since CAL was last added | 20 | 17 R434 | 0 -/
  periods : Nat := 0
  /-- BKP_SECS | 32 | 17 R435 | DESIGN CHOICE 0 (log 2) -/
  bkpSecs : Nat := 0
  /-- write of SEC that takes place when wall time reaches it | 48 | 17 R437 | none -/
  write : Option Nat := none
  /-- the RTC runs from VBAT | 1 | 17 R435 | 0 -/
  onVbat : Bool := false
  /-- a switch to VBAT awaits its report at start-up | 1 | 17 R435 | 0 -/
  ranOnVbat : Bool := false
deriving DecidableEq, Repr

/-! ### Supervision (18) -/

/-- The always-on domain, the fuses and the pins of supervision, which no device reset touches (18 R447). -/
structure AlwaysOn where
  /-- WDG_FUSE in force and as blown | 48 | 18 R451 | unblown 0 -/
  fuse : Word := 0#48
  /-- fuses blown, in force from the next device reset | 48 | 18 R451 | unblown 0 -/
  fuseBlown : Word := 0#48
  /-- WAKE_CAUSE | 48 | 18 Table 18-8 | DESIGN CHOICE 0 (log 2) -/
  wakeCause : Word := 0#48
  /-- WAKE_CFG (kept in the always-on domain through sleep) | 48 | 18 Table 18-8 | DESIGN CHOICE 0 (log 2) -/
  wakeCfg : Word := 0#48
  /-- WAKE_RTC ALARM | 48 | 18 Table 18-8 | DESIGN CHOICE 0 (log 2) -/
  alarm : Word := 0#48
  /-- HOST_WAKE pin | 1 | 18 R462 | low -/
  hostWake : Bool := false
  /-- PWR_EN pin | 1 | 18 R441 | high -/
  pwrEn : Bool := true
  /-- from step 1 of entry to sleep until the end of the wake transition, wake events are taken | 1 | 18 R461 | 0 -/
  wakeOpen : Bool := false
  /-- CAN wake armed: KIND per controller | 4 × 4 | 18 R459, 12 R318 | 0 -/
  canKind : Tab Nat := []
  /-- RTC-domain time of the first wake event, for the wake transition length, in ns of clk before the wake | - | 18 R461 | 0 -/
  wakeStart : Option Nat := none
  /-- DEVTIME at the end of the wake transition | 48 | 18 R463 | 0 -/
  wakeEnd : Nat := 0
  /-- reset cause and detail of the present reset | 16 | 18 R446 | power-on 1, 0 -/
  cause : Nat := 1
  detail : Nat := 0
  /-- device held in reset | 1 | 18 R442 | held until RESET_RELEASE -/
  inReset : Bool := true
  /-- last measured rail voltages in mV: VDD_CORE, VDD_SAFE, VDD_DDR, VDD18, VDD33, VBAT | 16 × 6 | 18 Table 18-1 | nominal (DESIGN CHOICE, log 2) -/
  rails : List Nat := [850, 850, 1100, 1800, 3300, 3000]
  /-- rails below their warning threshold | 5 | 18 R442 | 0 -/
  railLow : Tab Bool := []
  /-- when each rail rose above its warning threshold again, in ns that no reset touches | - | 18 R442 | none -/
  railUpAt : Tab Nat := []
  /-- RESET_N pin | 1 | 18 R442 | high -/
  resetN : Bool := true
  /-- junction temperature, m°C, last sample | signed | 18 R443 | DESIGN CHOICE 25,000 (log 2) -/
  temp : Int := 25000
  /-- since when the junction has stood below 115 °C, in ns that no reset touches | - | 18 R443 | 0 -/
  coolAt : Option Nat := some 0
  /-- ns before the present device reset, so that what no reset touches keeps its time | - | model's own | 0 -/
  epoch : Nat := 0
  /-- CAN wakes to be reported after the wake: controller × 4 + kind, identifier | - | 12 R320 | none -/
  canWoke : List (Nat × Nat) := []
  /-- safety domain reset to be reported: lowest VDD_SAFE in mV | - | 18 R442 | none -/
  safReset : Option Nat := none
deriving DecidableEq, Repr

/-- Supervision state that a device reset clears. -/
structure Supervision where
  /-- temperature warning stands | 1 | 18 R443 | 0 -/
  tempWarn : Bool := false
  /-- throttled now | 1 | 18 R445 | 0 -/
  throttled : Bool := false
  /-- DEVTIME at which throttle began | 48 | 18 R445 | 0 -/
  throttleAt : Nat := 0
  /-- throttle count | 32 | 18 R463 | 0 -/
  throttles : Nat := 0
  /-- hold-up now | 1 | 18 R444 | 0 -/
  holdUp : Bool := false
  /-- DEVTIME of PWR_FAIL_N falling | 48 | 18 R464 | 0 -/
  holdUpAt : Nat := 0
  /-- START_CFG | 48 | 18 Table 18-3 | MODE 0, WDG_LIMIT 3 (R449, base configuration without START_CFG) -/
  startCfg : Word := 0x006000000000#48
  /-- WDG_CFG | 48 | 18 Table 18-6 | not set (R455); DESIGN CHOICE 0 (log 2) -/
  wdgCfg : Word := 0#48
  /-- WDG_CFG has been set | 1 | 18 R455 | 0 -/
  wdgSet : Bool := false
  /-- WDQ QUESTION | 16 | 18 Table 18-5 | 0 -/
  question : Nat := 0
  /-- WDT TOKEN | 16 | 18 Table 18-5 | 0 -/
  token : Nat := 0
  /-- WDG_STAT STATE: 0 off, 1 first period, 2 windowed; 3 the period after a change of server | 2 | 18 Table 18-5, R455 | 0 -/
  wdgState : Nat := 0
  /-- WDG_STAT SERVER: the task serves | 1 | 18 Table 18-5 | 0 -/
  wdgServer : Bool := false
  /-- DEVTIME of the last accepted service | 48 | 18 R454 | 0 -/
  wdgAt : Nat := 0
  /-- the warning of this period was given | 1 | 18 R454 | 0 -/
  wdgWarned : Bool := false
  /-- the mutual checks of MP0 and MP1 pass | 1 | 18 R455 | 1 -/
  mpOk : Bool := true
  /-- sleep: accepted and being entered, or in SLEEP | 1 | 18 R458, 02 R64 | 0 -/
  sleeping : Bool := false
  /-- clk of the acceptance of `MB_SLEEP`, and the next step of Table 18-7 to come | - | 18 Table 18-7 | none, 2 -/
  sleepAt : Option Nat := none
  sleepStep : Nat := 2
  /-- clk at the release of reset | - | 18 Table 18-4 | 0 -/
  releasedAt : Nat := 0
  /-- the logic side is powered down in SLEEP | 1 | 18 Table 18-7 | 0 -/
  asleep : Bool := false
  /-- reset timer of MB_RESET: DEVTIME and channel | 52 | 18 R463 | none -/
  resetAt : Option (Nat × Nat) := none
deriving DecidableEq, Repr

/-- What the device drives on its wires, newest first: the model's own record of the commands' outputs. -/
inductive Out where
  | miso (units : List (BitVec 16))
  /-- an Ethernet frame: MAC, VLAN tag (VID, PCP), hardware address of the next hop, destination address, content -/
  | eth (mac : Nat) (tag : Option (Nat × Nat)) (hop : Nat) (dst : Nat) (body : EthBody)
  | can (n : Nat) (f : CanFrame)
  | canWake (n : Nat)
  | pass (port : Nat) (f : PassFrame)
  | volley (v : Volley)
  | record (num : Nat) (r : PairRec)
  | beacon (b : Beacon)
  /-- a round of pages of a resync or a swap (15 R384, R389) -/
  | page (r : ResyncPage)
  /-- ALIVE_OUT begins to toggle or falls static; SRV_OUT changes (15 Table 15-1) -/
  | alive (toggles : Bool)
  | srv (high : Bool)
  | dieFrame (die : Nat) (words : List Word)
  | rtcStamp
deriving DecidableEq, Repr

/-! ### KV48 executions and scan cores (03, 04) -/

/-- A load waiting to land: target 0 to 15 for W, 16 to 23 for P, and the instruction index at whose completion it
lands (03 R93, 04 R115). -/
structure PLoad where
  target : Nat
  value : Word
  landAt : Nat
deriving DecidableEq, Repr

/-- A write that becomes visible to the instruction of index `visible` (03 Table 3-8): `key` is a loop register, an
output-image word or a slot. -/
structure PWrite where
  key : Nat
  value : Word
  visible : Nat
deriving DecidableEq, Repr

/-- The published result of a control-engine sample (08 R218). -/
structure CeRes where
  loop : Nat
  ua : List Word
  status : Word
deriving DecidableEq, Repr

/-- A control-engine sample started by a task: sequence number, index of the CE.START and required distance. -/
structure CeStarted where
  loop : Nat
  seq : Nat
  at_ : Nat
  dist : Nat
deriving DecidableEq, Repr

/-- One execution of a task, from its release to its end: the registers of 03 Table 3-1, the open distances of
Table 3-12 and the snapshots its release froze (05 R136). -/
structure Ex where
  /-- ready 0, on its core 1, pre-empted 2, ended by TEND with its commit to come 3 | - | 05 R133, R134 | 0 -/
  phase : Nat := 0
  /-- core it runs on | 3 | 05 R134 | 0 -/
  core : Nat := 0
  /-- DEVTIME of the release | 48 | 05 R133 | set at release -/
  relAt : Nat := 0
  /-- DEVTIME of TEND | 48 | 05 Table 5-4 | 0 -/
  tendAt : Nat := 0
  /-- PC | 22 | 03 Table 3-1 | task entry -/
  pc : Nat := 0
  /-- W0 to W15 | 16 × 48 | 03 R72 | 0 at release -/
  w : Tab Word := []
  /-- P1 to P7 in bits 1 to 7; P0 reads true | 7 | 03 R72 | false at release -/
  p : BitVec 8 := 0#8
  /-- LPS0-3, LPE0-3, LPC0-3 by special register number | 12 × 25 | 03 Table 3-9 | 0 at release -/
  lp : Tab Word := []
  /-- TSTAT.SAT | 1 | 03 Table 3-10 | 0 -/
  sat : Bool := false
  /-- TSTAT.LDEPTH | 3 | 03 Table 3-10 | 0 -/
  ldepth : Nat := 0
  /-- TSTAT.TENANT | 5 | 03 Table 3-10 | set at release -/
  tenant : Nat := 0
  /-- index of the next instruction to issue | - | 03 (distances), model's own | 0 -/
  n : Nat := 0
  /-- core cycles issued | - | 05 R139 | 0 -/
  cycles : Nat := 0
  /-- the next instruction took the count beyond the budget | 1 | 05 R139 | 0 -/
  overBudget : Bool := false
  /-- pending loads | 2 | 03 R93 | none -/
  loads : List PLoad := []
  /-- pending writes of loop registers | - | 03 R94 | none -/
  lpPend : List PWrite := []
  /-- output-image writes not yet visible to IMLD | - | 03 R94 | none -/
  imPend : List PWrite := []
  /-- slot status words not yet visible to SCH.STAT | - | 03 R94, R95 | none -/
  schPend : List PWrite := []
  /-- targets written by the instruction being issued | - | 03 R93, model's own | none -/
  wrote : List Nat := []
  /-- SEGD0-7 and CSEGD (9th) | 9 × 48 | 03 Table 3-4, Table 3-7 | 0, loaded at dispatch -/
  segd : List Word := [0, 0, 0, 0, 0, 0, 0, 0, 0]
  /-- frozen input view and output-image base | 20480 × 48 | 05 R136, R137 | frozen at release -/
  view : Tab Word := []
  /-- words written by IMST and IMSTB, visible to IMLD | - | 05 R137 | none -/
  outw : List (Nat × Word) := []
  /-- plot ownership at release | 320 × 48 | 06 R167 | frozen at release -/
  plots : Tab Word := []
  /-- quality words at release | 320 × 48 | 06 R169 | frozen at release -/
  quals : Tab Word := []
  /-- own chain position at release | 8 | 06 R170 | - -/
  ownPos : Nat := 1
  /-- SEG7 | 32 × 48 | 01 R28 | latched at release -/
  seg7 : List Word := []
  /-- constants in force at release | - | 05 R152 | frozen at release -/
  consts : Tab Word := []
  /-- slot status words at release | 2048 × 48 | 03 R95 | frozen at release -/
  schSnap : Tab Word := []
  /-- control-engine results at release | - | 03 R95 | frozen at release -/
  ceSnap : Tab CeRes := []
  /-- samples started | - | 03 R103 | none -/
  started : List CeStarted := []
  /-- results of the samples started that the engine has produced | - | 04 R121 | none -/
  done : List CeRes := []
  /-- bound result per loop | - | 04 R121 | none -/
  bound : List CeRes := []
  /-- held posts, source numbers in program order, at most 16 | - | 04 R123 | none -/
  posts : List Nat := []
  /-- released in a replay of the pair | 1 | 15 R380 | 0 -/
  replay : Bool := false
deriving DecidableEq, Repr

/-- A store by a core in one clock cycle: the lanes of mask take value. -/
structure CoreWrite where
  core : Nat
  mask : Word
  value : Word
deriving DecidableEq, Repr

/-- A data-store word that was stored to in the cycle: its value before, and the stores in ascending order of core number. -/
structure WordCycle where
  key : Nat
  base : Word
  writes : List CoreWrite := []
deriving DecidableEq, Repr

/-- The clock cycle of the scan cores that is being worked through, and what has been stored in it. -/
structure CoreCycle where
  clk : Nat := 0
  n : Nat := 0
  cores : List Nat := []
  words : List WordCycle := []
deriving DecidableEq, Repr

/-- The scan cores and their memories. -/
structure Cores where
  /-- the clock cycle being worked through: cores that have issued in it, words stored to | - | 04 R117, R120 | none -/
  cyc : CoreCycle := {}
  /-- task on each core: 0 none, k + 1 task k | 8 | 05 R133 | idle -/
  cur : Tab Nat := []
  /-- executions by task: one that has not ended | 256 | 05 R136 | none -/
  ex : Tab (Option Ex) := []
  /-- data store by segment, owner and offset | 2,097,152 × 48 | 01 Table 1-7 | DESIGN CHOICE 0 (log 2) -/
  data : Tab Word := []
  /-- constants (SEG1) in force | - | 05 R152 | from the program image -/
  consts : Tab Word := []
  /-- data-store words with an uncorrectable error | - | 03 Table 3-11 ECC_DATA | none -/
  hardBad : List Nat := []
  /-- data-store words with a single-bit error | - | 03 R101 | none -/
  softBad : List Nat := []
  /-- syllables with a single-bit error, by tenant and address | - | 03 R101 | none -/
  codeSoft : List Nat := []
  /-- saved contexts of pre-empted tasks, 49 words each | 256 × 49 × 48 | 03 R103, Table 3-12 | none -/
  ctx : Tab (List Word) := []
  /-- program-store corrections since reset | 32 | 03 R105 | 0 -/
  codeCorr : Nat := 0
  /-- data-store corrections since reset | 32 | 03 R105 | 0 -/
  dataCorr : Nat := 0
deriving DecidableEq, Repr

/-! ### Program image in force (16 R413 to R416) -/

/-- SEGMENTS of a tenant: limits of SEG0, SEG1, SEG2, SEG6 and the first word of its retentive partition. -/
structure SegInfo where
  l0 : Nat := 0
  l1 : Nat := 0
  l2 : Nat := 0
  l6 : Nat := 0
  retOff : Nat := 0
deriving DecidableEq, Repr

/-- A record of the retention map. -/
structure RetRec where
  tenant : Nat
  symbol : Nat
  offset : Nat
  length : Nat
deriving DecidableEq, Repr

/-- The program image in force. -/
structure Prog where
  /-- syllables by tenant × 2^22 + CSEG offset | 14 × 4,194,304 | 16 Table 16-13 | none loaded -/
  code : Tab Nat := []
  /-- CSEG LIMIT per tenant | 23 × 32 | 03 Table 3-7 | 0 -/
  codeLen : Tab Nat := []
  /-- SEGMENTS per tenant | - | 16 Table 16-13 | 0 -/
  seg : Tab SegInfo := []
  /-- initial values by data-store key | - | 16 Table 16-13 | none -/
  init : Tab Word := []
  /-- image ranges each task writes: first word, count | - | 16 Table 16-13 | none -/
  ranges : Tab (List (Nat × Nat)) := []
  /-- TASK_CFG, TASK_PAR, TASK_LIM of each task the image defines | 256 × 144 | 05 R124, 16 Table 16-13 | none -/
  entries : Tab (Word × Word × Word) := []
  /-- STOP values by image word | - | 05 R144 | 0 -/
  stop : Tab Word := []
  /-- retention layout hash per tenant | 32 | 16 R416 | 0 -/
  layout : Tab Nat := []
  /-- retention map | - | 16 R416 | none -/
  retain : List RetRec := []
  /-- program image hash | 32 | 16 R413 | 0 -/
  hash : Nat := 0
  /-- an image is loaded | 1 | 05 R124 | 0 -/
  loaded : Bool := false
deriving DecidableEq, Repr

/-! ### Tasks and modes (05) -/

/-- One task entry with what the dispatcher keeps of it. -/
structure TaskEnt where
  /-- TASK_CFG | 48 | 05 Table 5-1 | from the program image, 0 with none -/
  cfg : Word := 0#48
  /-- TASK_PAR | 48 | 05 Table 5-2 | from the program image, 0 with none -/
  par : Word := 0#48
  /-- TASK_LIM | 48 | 05 Table 5-3 | from the program image, 0 with none -/
  lim : Word := 0#48
  /-- TASK_STAT | 48 | 05 Table 5-4 | 0 -/
  stat : Word := 0#48
  /-- SCANCNT | 48 | 05 R132 | 0 at program load -/
  scancnt : Word := 0#48
  /-- entry accepted, to apply from the next release: cfg, par, lim | - | 05 R155 | none -/
  next : Option (Word × Word × Word) := none
  /-- cyclic: next instant of the old grid, in ns of clk, from which the accepted entry holds | - | 05 R155 | 0 -/
  nextAt : Nat := 0
  /-- clk of the last release | - | 05 R128, R130 | none -/
  lastRel : Option Nat := none
  /-- releases that fell due while an execution had not ended | - | 05 R131 | 0 -/
  due : Nat := 0
  /-- LINEPOS multiple of the last position release, until LINEPOS moved INTERVAL/4 away | - | 05 R129 | none -/
  posHold : Option Int := none
  /-- LINEPOS up to which crossings have been judged | - | 05 R129 | 0 -/
  posSeen : Int := 0
  /-- cycle count of the last supply-cycle release | 32 | 05 R130 | none -/
  cycSeen : Option Nat := none
deriving DecidableEq, Repr

/-- A mode transition in progress (05 R143): target mode, COLD, cause, channel that waits for the answer. -/
structure Trans where
  target : Nat
  cold : Bool
  cause : Nat
  ch : Option Nat
deriving DecidableEq, Repr

/-- A force record (05 R147). -/
structure Force where
  mask : Word
  value : Word
  /-- unforced value as its writers last wrote it (05 R150). -/
  free : Word
  /-- DEVTIME, unwrapped, at which it expires (05 R148); 0 for none. -/
  until_ : Nat
deriving DecidableEq, Repr

/-- A value write or read waiting for its anchor (05 R151). -/
structure ValueJob where
  anchor : Nat
  /-- handles and values; a read carries 0. -/
  entries : List (Nat × Word)
  read : Bool
deriving DecidableEq, Repr

/-- Retentive snapshots of one tenant (05 R156 to R158). -/
structure RetState where
  /-- RET_INTERVAL in 10 ms steps | 16 | 05 R156 | 100 (1 s) at the basic level -/
  interval : Nat := 100
  /-- level: expert | 1 | 05 R156 | basic -/
  expert : Bool := false
  /-- RET_TASK at the expert level, none for 0xFFFF | 16 | 05 R156 | none -/
  task : Option Nat := none
  /-- clk at which the interval in progress began | - | 05 R156 | 0 -/
  from_ : Nat := 0
  /-- snapshot due, waiting for its anchor: clk at which it fell due | - | 05 R157 | none -/
  due : Option Nat := none
  /-- words still being written: copy and the words as taken | - | 17 R421 | none -/
  writing : Option (Nat × List Word) := none
  /-- a further snapshot waits: its words | - | 05 R158 | none -/
  waiting : Option (List Word) := none
  /-- intervals skipped while writing | 32 | 05 R158 | 0 -/
  skipped : Nat := 0
  /-- intervals skipped in all | 32 | 17 R439 | 0 -/
  skippedAll : Nat := 0
  /-- copy used at start-up: 0 A, 1 B, 2 none | 8 | 17 R423, R439 | 2 -/
  used : Nat := 2
deriving DecidableEq, Repr

/-- Tasks, modes, forces, online change. -/
structure Tasks where
  /-- tenants whose hold-up snapshot is still to be written, in order | 32 | 17 R422 | none -/
  holdSnaps : List Nat := []
  /-- task entries | 256 | 05 R124 | not defined -/
  ent : Tab TaskEnt := []
  /-- TEN_SCHED[t] | 32 × 48 | 05 Table 5-5 | PRIO_TOP 0, CORES 0xFF -/
  sched : Tab Word := []
  /-- grid origin A, once the dispatcher has started | 48 | 05 R127 | none -/
  gridA : Option Nat := none
  /-- DEVTIME of the dispatcher's start | 48 | 05 R127, R130 | none -/
  dispAt : Option Nat := none
  /-- device mode: 1 STOP, 2 RUN, 3 HOLD, 4 FAULT | 4 | 05 R142 | STOP (DESIGN CHOICE until start-up step 8, log 2) -/
  dev : Nat := 1
  /-- tenant modes | 4 × 32 | 05 R142 | RUN (DESIGN CHOICE, log 2) -/
  ten : Tab Nat := []
  /-- transitions in progress by scope, 32 for the device | - | 05 R143 | none -/
  trans : Tab (Option Trans) := []
  /-- further requests per scope, oldest first | - | 05 R145 | none -/
  queued : Tab (List Trans) := []
  /-- force records by word, at most 512 | 512 | 05 R147 | none -/
  force : Tab (Option Force) := []
  /-- value jobs by channel | 16 | 05 R151 | none -/
  jobs : Tab (Option ValueJob) := []
  /-- retentive snapshots per tenant | 32 | 05 R156 | as RetState -/
  ret : Tab RetState := []
deriving DecidableEq, Repr

/-! ### Image, plots, remote modules (06) -/

/-- What the device keeps of a plot beside PLOT_OWN. -/
structure PlotSt where
  /-- PLOT_PUB | 48 | 06 Table 6-3 | basic level, GROUP 0 -/
  pub : Word := 0#48
  /-- UPD | 16 | 06 R168 | 0 -/
  upd : Nat := 0
  /-- VALID | 1 | 06 R168 | 0 -/
  valid : Bool := false
  /-- clk of the last update that was no substitution, or of reset or assignment; before 0 where a publication was older
  than this device's clock | - | 06 R168 | 0 -/
  ageFrom : Int := 0
  /-- STALE as last judged | 1 | 06 Table 6-4 | 0 -/
  stale : Bool := false
  /-- COMM_LOST of the plot's publication | 1 | 06 Table 6-4 | 0 -/
  pubLost : Bool := false
  /-- bits [15:8] RUNNING, HOLD, FORCED, SUBST, MOD_FAULT as the owner published them | 48 | 06 R168 | 0 -/
  remoteBits : Word := 0#48
  /-- changed by a commit since the last publication | 1 | 05 R138 | 0 -/
  marked : Bool := false
  /-- last update per feeding unit: unit number and DEVTIME | - | 06 R168 | none -/
  feeds : List (Nat × Nat) := []
deriving DecidableEq, Repr

/-- A remote module (06 Tables 6-8, 6-9). -/
structure Rio where
  /-- RIO_MOD | 48 | 06 Table 6-8 | DESIGN CHOICE 0, not in use (log 2) -/
  mod : Word := 0#48
  /-- RIO_TMO | 48 | 06 Table 6-9 | DESIGN CHOICE 0 (log 2) -/
  tmo : Word := 0#48
  /-- RIO_IP | 32 | 13 R331 | 0 -/
  ip : Word := 0#48
  /-- substitute values | 16 × 48 | 06 R175 | 0 -/
  subst : List Word := []
  /-- accepted digest makes it active (as last judged) | 1 | 06 R174 | 0 -/
  active : Bool := true
  /-- SEQ of the last set written | 16 | 06 R177 | none -/
  lastSeq : Option Nat := none
  /-- timed out | 1 | 06 R177 | 0 -/
  timedOut : Bool := false
  /-- module fault reported | 1 | 06 R177 | 0 -/
  fault : Bool := false
  /-- substituted | 1 | 06 R178 | 0 -/
  substituted : Bool := false
  /-- DEVTIME of the last accepted set | 48 | 06 R178 | 0 -/
  lastAt : Nat := 0
  /-- partial CAN set: SEQ, MSTAT, frames | - | 06 R176 | none -/
  part : Option (Nat × Nat × List (Nat × List Word)) := none
  /-- counts: duplicates, old sets, incomplete sets, timeouts | 4 × 32 | 06 R180 | 0 -/
  dup : Nat := 0
  old : Nat := 0
  incomplete : Nat := 0
  timeouts : Nat := 0
  /-- frames discarded while inactive or malformed | 32 | 06 R174 | 0 -/
  discarded : Nat := 0
  /-- source address of the last accepted input telegram | 32 | 13 R331 | none -/
  lastSrc : Option Nat := none
  /-- instant of the last output set, ns since reset | - | 06 R178 | 0 -/
  outAt : Nat := 0
  /-- SEQ of the next output set | 16 | 06 Table 6-10 | 0 -/
  outSeq : Nat := 0
deriving DecidableEq, Repr

/-- The image. -/
structure Image where
  /-- image words: committed words and words the I/O engine fills | 20480 × 48 | 06 R162 | DESIGN CHOICE 0 (log 2) -/
  word : Tab Word := []
  /-- writes that left each request lane of SF_MAP at 0, counted | 4 | 11 R272, R288, model's own | 0 -/
  lows : Tab Nat := []
  /-- PLOT_OWN[n] | 320 × 48 | 06 Table 6-1 | unassigned -/
  own : Tab Word := []
  /-- plot state | 320 | 06 Table 6-3, Table 6-4 | as PlotSt -/
  plot : Tab PlotSt := []
  /-- remote modules | 1024 | 06 Table 6-8 | not in use -/
  rio : Tab Rio := []
deriving DecidableEq, Repr

/-! ### Time bases and scheduler (07) -/

/-- Slots that have written one word in one tick: the word's value before the first, its value now, the slots ascending. -/
structure FiredWord where
  word : Nat
  before : Word
  now : Word
  slots : List Nat
deriving DecidableEq, Repr

/-- One axle: TW_CFG, TW_STAT and the estimator (07 R186, R187). -/
structure Axle where
  /-- TW_CFG | 48 | 07 Table 7-2 | DESIGN CHOICE 0, not enabled (log 2) -/
  cfg : Word := 0#48
  /-- STATE 0 OFF 1 STILL 2 START 3 TRACK 4 LOST | 3 | 07 Table 7-4 | 0 -/
  state : Nat := 0
  /-- ADMIT | 1 | 07 Table 7-5 | 0 -/
  admitted : Bool := false
  /-- DIR backward | 1 | 07 Table 7-5 | 0 -/
  back : Bool := false
  /-- MISS | 2 | 07 Table 7-5 | 0 -/
  miss : Nat := 0
  /-- REJECT | 16 | 07 Table 7-5 | 0 -/
  reject : Nat := 0
  /-- SYNTH | 16 | 07 Table 7-5 | 0 -/
  synth : Nat := 0
  /-- instant of the last accepted or synthesised tooth | 48 | 07 R186 | none -/
  tLast : Option Nat := none
  /-- predicted period in ns | - | 07 R186 | 0 -/
  tp : Nat := 0
  /-- axle speed, SPEED units, magnitude | 48 | 07 R186 | 0 -/
  v : Nat := 0
  /-- axle speed as the last period gave it, before the ACC_MAX bound | 48 | 07 R188 | 0 -/
  raw : Nat := 0
  /-- instant of the last accepted tooth | 48 | 07 R187 | none -/
  lastAcc : Option Nat := none
  /-- candidate edge | 48 | 07 R186 | none -/
  cand : Option Nat := none
  /-- last accepted period in ns | - | 07 R187 | none -/
  lastPer : Option Nat := none
  /-- tooth position in LINEPOS counts × 65536 | - | 07 Table 7-2, R189 | 0 -/
  pos : Int := 0
  /-- LOST since the last TRACK | 1 | 07 R187 | 0 -/
  wasLost : Bool := false
  /-- excluded under R188; agreeing again since | 48 | 07 R188 | not excluded -/
  excluded : Bool := false
  agreeSince : Option Nat := none
  /-- speed and instant at the last agreement with each other axle, by its number | - | 07 R188 | none -/
  agreed : List (Nat × Nat × Nat) := []
  /-- instant it was enabled at, from which STILL runs before its first tooth | 48 | 07 R187 | 0 -/
  onAt : Nat := 0
deriving DecidableEq, Repr

/-- One mains input (07 R193, R194). -/
structure Mains where
  /-- MAINS_CFG | 48 | 07 Table 7-6 | DESIGN CHOICE 0, not enabled (log 2) -/
  cfg : Word := 0#48
  /-- STATE | 3 | 07 Table 7-7 | 0 OFF -/
  state : Nat := 0
  /-- SYSTEM | 2 | 07 Table 7-8 | 0 -/
  system : Nat := 0
  /-- FREQ, mHz | 16 | 07 Table 7-8 | 0 -/
  freq : Nat := 0
  /-- PHERR | 16 signed | 07 Table 7-8 | 0 -/
  pherr : Int := 0
  /-- successive good cycles | 4 | 07 Table 7-7 | 0 -/
  good : Nat := 0
  /-- DEVTIME and SUPANG (count × 65536 + angle) from which the angle runs | - | 07 R194 | 0, 0 -/
  t0 : Nat := 0
  a0 : Nat := 0
  /-- frequency at which it runs, mHz; 0: held | - | 07 R193 | 0 -/
  run : Nat := 0
  /-- SEARCH was entered from LOST | 1 | 07 R193, R194 | 0 -/
  fromLost : Bool := false
  /-- DEVTIME of the last valid zero crossing | 48 | 07 R193 | 0 -/
  lastX : Nat := 0
  /-- instant of entry to HOLDOVER | - | 07 R193 | 0 -/
  holdAt : Nat := 0
  /-- DEVTIME SUPANG last left LOCKED and HOLDOVER | 48 | 05 R130 | 0 -/
  leftAt : Nat := 0
  /-- input over range | 1 | 10 R267 | 0 -/
  overRange : Bool := false
deriving DecidableEq, Repr

/-- The time-base unit. -/
structure TimeBase where
  /-- wall time base W_B in ns | - | 07 R182 | 0 before R437 (DESIGN CHOICE, log 2) -/
  wallW : Int := 0
  /-- base D_B as ns since reset | - | 07 R182 | 0 -/
  wallD : Nat := 0
  /-- rate correction in parts per 10^9 | - | 07 R182 | 0 -/
  rho : Int := 0
  /-- the base pair has been set since reset | 1 | 17 R425 | 0 -/
  wallSet : Bool := false
  /-- WALL_OK | 1 | 07 Table 7-1 | 0 -/
  wallOk : Bool := false
  /-- WALL_PTP | 1 | 07 Table 7-1 | 0 -/
  wallPtp : Bool := false
  /-- LINEPOS | 48 signed | 07 R190 | 0 -/
  pos : Int := 0
  /-- fraction of a LINEPOS count, in 1/64,000,000 | - | 07 R189 | 0 -/
  posFrac : Int := 0
  /-- SPEED | 48 signed | 07 R189 | 0 -/
  speed : Int := 0
  /-- accepted fixes for the next tick, oldest first: C and t_f | - | 07 R191 | none -/
  fix : List (Int × Nat) := []
  /-- LP_FIXED | 1 | 07 Table 7-1 | 0 -/
  lpFixed : Bool := false
  /-- LINEPOS has been judged since the device reset; before, LP_COAST and LP_DEGR read 0 (log 103) | 1 | 07 Table 7-1 | 0 -/
  judged : Bool := false
  /-- instant of the last position tick | 48 | 07 R189 | none -/
  tickAt : Option Nat := none
  /-- tick of the last firing, and the words that slots have written in it | - | 07 R200 | none -/
  fired : Nat × List FiredWord := (0, [])
  /-- LP_OK | 1 | 07 Table 7-1 | 0 -/
  lpOk : Bool := false
  /-- start of coasting | 48 | 07 R189 | none -/
  coastAt : Option Nat := none
  /-- LINEPOS of the last 1 s, newest first: ns since reset and value | - | 07 R191 | empty -/
  hist : List (Nat × Int) := []
  /-- LP_CFG | 48 | 07 Table 7-3 | basic level: ACC_MAX 50, SLIP_TOL 20, COAST_MAX 20, PMAX 40, STILL 20 -/
  lpCfg : Word := 0x321414281400#48
  /-- axles | 4 | 07 Table 7-2 | as Axle -/
  axle : Tab Axle := []
  /-- mains inputs | 2 | 07 Table 7-6 | as Mains -/
  mains : Tab Mains := []
deriving DecidableEq, Repr

/-- The operations that have reached a slot in one clock cycle: the slot before the first, and the last of their order. -/
structure SlotOps where
  clk : Nat := 0
  cyc : Nat := 0
  /-- core number + 1, or 257 for the host; 0 for none -/
  rank : Nat := 0
  arm : Bool := false
  tgt : Word := 0#48
  ref : Int := 0
  sts : Word := 0#48
deriving DecidableEq, Repr

/-- One scheduler slot. -/
structure Slot where
  /-- SCH_SLOT | 48 | 07 Table 7-9 | T0, basic level, ACTION 0 (STEP 1 derived) -/
  cfg : Word := 0x000100000000#48
  /-- SCH_TGT | 48 | 07 R197 | 0 -/
  tgt : Word := 0#48
  /-- SCH_ARG | 48 | 07 (SCH_ARG) | 0 -/
  arg : Word := 0#48
  /-- SCH_STS | 48 | 07 Table 7-12 | 0 -/
  sts : Word := 0#48
  /-- full DEVTIME of the last firing or disarming | 48 | 07 R204 | 0 -/
  dt : Word := 0#48
  /-- end of the pulse in progress, its word and lane | - | 07 R200 | none -/
  pulse : Option (Nat × Nat × Nat) := none
  /-- LINEPOS from which a slot with DIR either last stood away from its target | - | 07 R199 | 0 -/
  ref : Int := 0
  /-- a firing without its word has been reported | 1 | 07 R200 | 0 -/
  noted : Bool := false
  /-- operations that reached it in the clock cycle being worked through | - | 07 R201 | none -/
  ops : SlotOps := {}
deriving DecidableEq, Repr

/-! ### Control engine (08) -/

/-- One loop. -/
structure CeLoop where
  /-- CE_CFG | 48 | 08 Table 8-1 | unconfigured: 0 -/
  cfg : Word := 0#48
  /-- CE_TRIG | 48 | 08 Table 8-3 | 0 -/
  trig : Word := 0#48
  /-- CE_MAP[8n..8n+7] | 8 × 48 | 08 Table 8-4 | 0 -/
  map : List Word := [0, 0, 0, 0, 0, 0, 0, 0]
  /-- configured | 1 | 08 R206 | 0 -/
  isSet : Bool := false
  /-- coefficient block | 992 × 48 | 08 R207 | none -/
  coef : List Word := []
  /-- staging copy | 992 × 48 | 08 R221 | none -/
  stage : Option (List Word) := none
  /-- basic parameters KP, TI, RC and Ts given | 4 × 48 | 08 Table 8-8 | 0 -/
  basic : List Word := []
  /-- x̂[0..15] | 16 × 48 | 08 R206 | 0 -/
  xh : List Word := []
  /-- q[0..7] | 8 × 48 | 08 R206 | 0 -/
  q : List Word := []
  /-- u_c[0..7] of the last sample that computed it | 8 × 48 | 08 R210 | DESIGN CHOICE 0 (log 2) -/
  uc : List Word := []
  /-- u_a[0..7] | 8 × 48 | 08 R218 | 0 -/
  ua : List Word := []
  /-- result status word | 48 | 08 Table 8-7 | 0 -/
  status : Word := 0#48
  /-- CE_FLAG | 48 | 08 R218 | 0 -/
  flag : Word := 0#48
  /-- inputs bad at the last sample | 1 | 08 R214 | 0 -/
  bad : Bool := false
  /-- a trigger was skipped since the last computed sample | 1 | 08 R211 | 0 -/
  skipped : Bool := false
  /-- command words reported as not written | 8 | 08 R213 | 0 -/
  noted : List Nat := []
  /-- SUPANG cycle of the last trigger | 32 | 08 R211 | none -/
  cycSeen : Option Nat := none
deriving DecidableEq, Repr

/-- An image word as a sample's trigger froze it (08 R212, R214): word, source (output image or not), value, 0 where
the word cannot be read, and whether it is a bad input. -/
structure CeIn where
  w : Nat
  out : Bool
  value : Word
  bad : Bool
deriving DecidableEq, Repr

/-- A triggered sample waiting for its completion: the lead loop, the starting task if any, the trigger's DEVTIME, and
the words that its group reads (08 R212). -/
structure CeJob where
  loop : Nat
  task : Option Nat
  at_ : Nat
  reads : List CeIn
deriving DecidableEq, Repr

/-- A configuration as a request gives it: CE_CFG (TENANT, EXPERT and CLASS excepted), CE_TRIG, CE_MAP, the basic
parameters at the basic level; whether its fields are listed, and the input words it names. -/
structure CeReq where
  cfg : Word
  trig : Word
  map : List Word
  basic : List Word
  expert : Bool
  /-- every field the encoding lists has a listed value -/
  listed : Bool
  /-- input words named -/
  ins : List Nat
  /-- the words fit their fields -/
  fits : Bool
deriving DecidableEq, Repr

/-- A change of one loop that takes effect between two samples (08 R220, R221, R226): a configuration, a committed block, a state,
the basic coefficients derived again. -/
inductive CeChange where
  | set (r : CeReq)
  | block (b : List Word)
  | state (xh q : List Word)
  | derive
deriving DecidableEq, Repr

/-- A change that waits for the sample under way of loop `loop` to end. -/
structure CeWait where
  loop : Nat
  change : CeChange
deriving DecidableEq, Repr

/-- An injection and capture session (08 R223 to R225). -/
structure CeInj where
  /-- CE_INJ[s] | 48 | 08 Table 8-9 | 0 -/
  reg : Word := 0#48
  active : Bool := false
  amp : Word := 0#48
  f0 : Word := 0#48
  f1 : Word := 0#48
  dur : Word := 0#48
  chans : List (Nat × Nat) := []
  div : Nat := 1
  pre : Nat := 0
  want : Nat := 0
  /-- entries taken | 8192 × 4 × 48 | 08 R225 | none -/
  cap : List (List Word) := []
  seq0 : Nat := 0
  dt0 : Nat := 0
  /-- samples seen since the start, samples injected, PRBS register | - | 08 R223, R224 | 0 -/
  seen : Nat := 0
  injected : Nat := 0
  prbs : Nat := 0
  /-- DEVTIME of the first injected sample | 48 | 08 R223 | 0 -/
  t0 : Nat := 0
deriving DecidableEq, Repr

/-- The control engine. -/
structure Ce where
  /-- loops | 512 | 08 R206 | unconfigured -/
  loop : Tab CeLoop := []
  /-- samples triggered and not yet complete, in the order the engine takes them | - | 08 R216 | none -/
  jobs : List CeJob := []
  /-- changes accepted while a sample of their loop is under way, in the order accepted | - | 00 R14, 08 R221 | none -/
  waits : List CeWait := []
  /-- injection sessions | 2 | 08 R223 | as CeInj -/
  inj : Tab CeInj := []
  /-- late samples | 32 | 08 R226 | 0 -/
  late : Nat := 0
  /-- skipped triggers | 32 | 08 R226 | 0 -/
  skips : Nat := 0
deriving DecidableEq, Repr

/-! ### Overlays and program store (16) -/

/-- A configuration item: tenant of its section, command code, payload (16 R414). -/
structure Item where
  tenant : Nat
  cmd : Nat
  payload : Bytes
deriving DecidableEq, Repr

/-- A block of the program store that is not blank: its 32-byte header and what follows it (16 R406). -/
structure Block where
  head : Bytes
  data : Bytes
deriving DecidableEq, Repr

/-- A region copy as its blocks give it (16 R406): the model's reading of them, no state of its own. -/
structure RegionCopy where
  /-- every header and the content CRC are right, and for firmware the signature -/
  valid : Bool
  gen : Nat
  crc : Nat
  content : Bytes
deriving DecidableEq, Repr

/-- An overlay as created (16 Table 16-2). -/
structure OvlDesc where
  layer : Nat := 0
  code : Nat := 0
  chain : Bool := false
deriving DecidableEq, Repr

/-- A journal entry (16 Table 16-8). -/
structure Journal where
  seq : Nat
  block : Nat
  region : Nat
  index : Nat
  gen : Nat
  /-- CRC-16 of bytes 0 to 11 -/
  crc : Nat
  complete : Bool
deriving DecidableEq, Repr

/-- The boot record (16 R410). -/
structure BootRec where
  gen : Nat := 0
  fw : Nat := 0
  prog : Nat := 0
  trial : Bool := false
deriving DecidableEq, Repr

/-- The program store, with the key area, and its journal in the Silo. -/
structure Flash where
  /-- blocks by physical number, none for a blank one | 512 × 64 KiB | 16 R405, R406 | all blank (DESIGN CHOICE, log 2) -/
  block : Tab (Option Block) := []
  /-- the next block written outside a region copy fails: 0 at its erase, 1 at its verify | 1 | 16 R405, model's own (log 125) | none -/
  fault : Option Nat := none
  /-- overlays created | 64 | 16 Table 16-2 | none -/
  ovl : Tab OvlDesc := []
  /-- boot record in force | 16 bytes | 16 R410 | generation 0, banks A, TRIAL 0 (DESIGN CHOICE, log 2) -/
  boot : BootRec := {}
  /-- bank before the trial | 1 | 16 R410 | 0 -/
  prevFw : Nat := 0
  /-- start-ups since the trial began | - | 16 R410 | 0 -/
  trialStarts : Nat := 0
  /-- a swap's restart is under way: banks in force before BEGIN | - | 15 R389 | none -/
  swapBack : Option (Nat × Nat) := none
  /-- channel settings and keys | 16 | 02 R41 | as shipped -/
  keys : Tab ChanCfg := [(0, { transport := 1 })]
  /-- accepted digests by kind × 65536 + object, newest first, at most 4 | - | 06 R174 | none -/
  accepted : Tab (List Nat) := []
  /-- erase counts by physical block | 512 | 16 R405 | 0 -/
  erases : Tab Nat := []
  /-- remap of retired blocks | - | 16 R405 | none -/
  remap : Tab (Option Nat) := []
  /-- generation of the key area and of the safety block as last written, by region code | 32 | 16 R406 | 0 (DESIGN CHOICE, log 2) -/
  smallGen : Tab Nat := []
  /-- spares used | 0 to 10 | 16 R405 | 0 -/
  sparesUsed : Nat := 0
  /-- journal, newest first, at most 256 | 256 × 128 | 16 R408 | empty -/
  journal : List Journal := []
  /-- firmware major, minor, patch of the running bank | 24 | 02 R67 | DESIGN CHOICE 0.0.0 (log 2) -/
  fwVersion : Nat × Nat × Nat := (0, 0, 0)
  /-- variant letter C (0x43) or X (0x58) | 8 | 00 R3, 02 R67 | DESIGN CHOICE C (log 2) -/
  variant : Nat := 0x43
deriving DecidableEq, Repr

/-- A staging (16 R407). -/
structure Staging where
  region : Nat
  index : Nat
  length : Nat
  crc : Nat
  /-- bytes filled so far -/
  data : Tab (Option Byte)
  tenant : Nat
  ch : Nat
  /-- DEVTIME (unwrapped) of the last command of it. -/
  lastAt : Nat
deriving DecidableEq, Repr

/-- A region copy being written: the blocks still to write (16 R408). -/
structure FlashJob where
  region : Nat
  index : Nat
  gen : Nat
  content : Bytes
  left : List Nat
  ch : Nat
deriving DecidableEq, Repr

/-- Items that change together at one boundary (16 Table 16-3). -/
structure OvlUnit where
  kind : Nat
  key : Nat
  /-- objects: command code and index -/
  objs : List (Nat × Nat)
  /-- the composed items of its objects, in order -/
  items : List Item
deriving DecidableEq, Repr

/-- Overlay transitions and the volatile part of the program store. -/
structure Overlays where
  /-- EPOCH | 16 | 16 Table 16-4 | 0 -/
  epoch : Nat := 0
  /-- DONE | 16 | 16 Table 16-4 | 0 -/
  done : Nat := 0
  /-- units that have not changed yet; PEND is the set of their kinds | 10 | 16 R399 | none -/
  units : List OvlUnit := []
  /-- a transition is in progress | 1 | 16 R398 | 0 -/
  active : Bool := false
  /-- B in ns since reset | 48 | 16 R399 | 0 -/
  bAt : Nat := 0
  /-- set of the latest transition begun, layers 1 to 4, 0xFE none | 4 × 8 | 16 R398 | none -/
  set : List Nat := [0xFE, 0xFE, 0xFE, 0xFE]
  /-- queued request | 4 × 8 | 16 R398 | none -/
  queued : Option (List Nat) := none
  /-- origin level of the queued request | 3 | 16 R412 | 3 -/
  queuedLevel : Nat := 3
  /-- origin level of the transition: chain change or not | 3 | 16 R412 | 3 -/
  level : Nat := 3
  /-- base configuration copy in force since start-up | 1 | 16 R406 | none -/
  baseAt : Option Nat := none
  /-- base configuration items composed at start-up | - | 16 R415 | none -/
  base : List Item := []
  /-- staging | - | 16 R407 | none -/
  staging : Option Staging := none
  /-- region copy being written | - | 16 R408 | none -/
  job : Option FlashJob := none
  /-- state UPDATE (02 R64) | 1 | 02 R64 | 0 -/
  update : Bool := false
  /-- firmware activation: the reset is due | 48 | 16 R410 | none -/
  resetAt : Option Nat := none
  /-- configuration hash | 32 | 16 R406 | computed -/
  hash : Nat := 0
deriving DecidableEq, Repr

/-! ### CAN (12) -/

/-- A transmit buffer (12 R309, Table 12-8). -/
structure CanBuf where
  /-- STATE: FREE 0, PENDING 1, ACTIVE 2, SENT 3, CANCELLED 4, ABANDONED 5, BUS_OFF 6 | 3 | 12 Table 12-8 | 0 -/
  state : Nat := 0
  queue : Nat := 0
  frame : Option CanFrame := none
  /-- handle of a host frame; none for a frame of the I/O engine -/
  handle : Option Nat := none
  /-- module whose output set the frame belongs to -/
  module : Option Nat := none
  failed : Nat := 0
  attempts : Nat := 0
  /-- start of frame of the latest attempt, DEVTIME -/
  sof : Nat := 0
  /-- since when it has been PENDING without starting an attempt, and 0x0B07 written since -/
  since : Nat := 0
  starved : Bool := false
  /-- cancelled while ACTIVE (12 R314) -/
  cancel : Bool := false
deriving DecidableEq, Repr

/-- A stored received frame with its start-of-frame stamp (12 R311). -/
structure CanStored where
  frame : CanFrame
  sof : Nat
deriving DecidableEq, Repr

/-- A result of a transmit queue (12 R312). -/
structure CanResult where
  handle : Nat
  state : Nat
  attempts : Nat
  sof : Nat
deriving DecidableEq, Repr

/-- One CAN controller. -/
structure CanCtl where
  /-- CAN_CTL | 48 | 12 Table 12-2 | RTX 3, BOFF_AUTO 1, BOFF_DLY 10, BRS 1 -/
  ctl : Word := 0x070A80000000#48
  /-- CAN_NBT | 48 | 12 Table 12-3 | 1, 127, 32, 32 -/
  nbt : Word := 0x009FC8080000#48
  /-- CAN_DBT | 48 | 12 Table 12-4 | 1, 29, 10, 10, TDC 1, 30 -/
  dbt : Word := 0x05D52A780000#48
  /-- settings waiting for the next bus idle: CTL, NBT, DBT | - | 12 R308 | none -/
  next : Option (Word × Word × Word) := none
  /-- BSTATE | 3 | 12 Table 12-10 | 0 -/
  bstate : Nat := 0
  /-- TEC | 8 | 12 Table 12-10 | 0 -/
  tec : Nat := 0
  /-- REC | 8 | 12 Table 12-10 | 0 -/
  rec_ : Nat := 0
  /-- LEC | 3 | 12 Table 12-10 | 0 -/
  lec : Nat := 0
  /-- TDCV | 7 | 12 Table 12-10 | 0 -/
  tdcv : Nat := 0
  /-- PXE | 8 | 12 Table 12-10 | 0 -/
  pxe : Nat := 0
  /-- NOMATCH | 8 | 12 Table 12-10 | 0 -/
  noMatch : Nat := 0
  /-- instant of bus-off, ns since reset | - | 12 R317 | 0 -/
  boffAt : Nat := 0
  /-- recovery began by command | 1 | 12 Table 12-13 0x0B03 | 0 -/
  byCmd : Bool := false
  /-- frames received, sent, abandoned, error frames | 4 × 32 | 12 R323 | 0 -/
  nRx : Nat := 0
  nTx : Nat := 0
  nAbandoned : Nat := 0
  nErr : Nat := 0
  /-- CAN_QUE[q] | 16 × 48 | 12 Table 12-6 | queue 0 32 and queue 1 16 buffers, others not in use (DESIGN CHOICE, log 2) -/
  que : Tab Word := [(0, 0x000080000000#48), (1, 0x800040000000#48)]
  /-- CAN_QTX[q] | 16 × 48 | 12 R309 | DESIGN CHOICE 0 (log 2) -/
  qtx : Tab Word := []
  /-- CAN_FLT[f] | 128 × 48 | 12 Table 12-7 | 0 -/
  flt : Tab Word := []
  /-- receive queues: stored frames, oldest first | 128 buffers | 12 R309 | empty -/
  rx : Tab (List CanStored) := []
  /-- frames discarded at a full queue since its last 0x0B04 | - | 12 Table 12-13 | 0 -/
  lost : Tab Nat := []
  /-- transmit buffers | 64 | 12 R309 | FREE -/
  buf : Tab CanBuf := []
  /-- results per transmit queue, newest first, at most 256 | 256 | 12 R312 | empty -/
  res : Tab (List CanResult) := []
  /-- next handle | 32 | 12 R312 | 0 (DESIGN CHOICE, log 2) -/
  nextHandle : Nat := 0
  /-- buffer of the last frame the I/O engine queued | 6 | 12 R315 and the worked case of R316 | none -/
  lastBuf : Option Nat := none
  /-- CAN_WAKE | 48 | 12 Table 12-11 | KIND 0, WUP_FILT 10, WUP_TMO 100 -/
  wake : Word := 0x028640000000#48
  /-- CAN_WID | 48 | 12 (CAN_WID) | 0 -/
  wid : Word := 0#48
  /-- CAN_WDATA | 48 | 12 (CAN_WDATA) | DESIGN CHOICE 0 (log 2) -/
  wdata : Word := 0#48
  /-- frame error counter | - | 12 R320 | 0 -/
  frameErr : Nat := 0
  /-- sleep waits for the attempt in progress | 1 | 12 R318 | 0 -/
  closing : Bool := false
  /-- CANn_TXD held recessive and CANn_STB high | 1 | 12 R304, R318 | 1 -/
  standby : Bool := true
deriving DecidableEq, Repr

/-- The CAN controllers. -/
structure Can where
  /-- controllers | 4 | 12 R303 | as CanCtl -/
  ctl : Tab CanCtl := []
deriving DecidableEq, Repr

/-! ### Ethernet, TRDP, PTP (13) -/

/-- Frames held for a next hop whose address is being resolved (13 R328). -/
structure ArpWait where
  firstAt : Nat
  /-- requests sent, 1 to 3. -/
  sent : Nat
  /-- destination and content, oldest first, at most 4. -/
  frames : List (Nat × EthBody)
deriving DecidableEq, Repr

/-- An entry of an ARP cache. -/
structure ArpEnt where
  mac : Nat
  at_ : Nat
deriving DecidableEq, Repr

/-- A mailbox datagram being reassembled (13 R329). -/
structure Reasm where
  src : Nat
  ident : Nat
  firstAt : Nat
  parts : List Fragment
deriving DecidableEq, Repr

/-- One MAC. -/
structure EthMac where
  /-- ETH_CFG | 48 | 13 Table 13-2 | ENABLE 0, others DESIGN CHOICE 0 (log 2) -/
  cfg : Word := 0#48
  /-- ETH_MAC | 48 | 13 (ETH_MAC) | factory-unique: DESIGN CHOICE 0 (log 2) -/
  mac : Word := 0#48
  /-- ETH_IP | 48 | 13 (ETH_IP) | DESIGN CHOICE 0 (log 2) -/
  ip : Word := 0#48
  /-- ETH_GW | 48 | 13 (ETH_GW) | DESIGN CHOICE 0 (log 2) -/
  gw : Word := 0#48
  /-- link up | 1 | 13 R325 | down (DESIGN CHOICE, log 2) -/
  up : Bool := false
  /-- speed of the link, Mbit/s | - | 13 R325 | 0 -/
  mbps : Nat := 0
  /-- ARP cache by address, at most 64 | 64 | 13 R328 | empty -/
  arp : Tab (Option ArpEnt) := []
  /-- next hops being resolved | - | 13 R328 | none -/
  wait : Tab (Option ArpWait) := []
  /-- reassemblies, at most 4 | 4 | 13 R329 | none -/
  reasm : List Reasm := []
  /-- ICMP echoes: start of the second counted, and count | - | 13 R328 | 0 -/
  echoAt : Nat := 0
  echoes : Nat := 0
  /-- identification of the next fragmented datagram | 16 | 13 R329 (IPv4) | DESIGN CHOICE 0 (log 2) -/
  ident : Nat := 0
  /-- sequenceCounter per comId sent | 32 | 13 R330 | 0 (DESIGN CHOICE, log 2) -/
  seq : Tab Nat := []
  /-- received, sent, discarded, ARP failures, reassemblies discarded | 5 × 32 | 13 R340 | 0 -/
  nRx : Nat := 0
  nTx : Nat := 0
  nDisc : Nat := 0
  nArp : Nat := 0
  nReasm : Nat := 0
deriving DecidableEq, Repr

/-- One TRDP entry. -/
structure Trdp where
  /-- TRDP_PD | 48 | 13 Table 13-3 | not configured: DESIGN CHOICE 0 (log 2) -/
  pd : Word := 0#48
  /-- TRDP_COM | 48 | 13 (TRDP_COM) | DESIGN CHOICE 0 (log 2) -/
  com : Word := 0#48
  /-- TRDP_IP | 48 | 13 (TRDP_IP) | DESIGN CHOICE 0 (log 2) -/
  ip : Word := 0#48
  /-- TRDP_SRC | 48 | 13 (TRDP_SRC) | DESIGN CHOICE 0 (log 2) -/
  src : Word := 0#48
  /-- active as last judged | 1 | 06 R174 | 1 -/
  active : Bool := true
  /-- sequenceCounter of the last telegram written or sent | 32 | 13 R334 | none -/
  last : Option Nat := none
  /-- timed out | 1 | 13 R334 | 0 -/
  timedOut : Bool := false
  /-- substituted | 1 | 13 R334 | 0 -/
  substituted : Bool := false
  /-- start of the timeout in progress, ns since reset | - | 13 R334 | 0 -/
  lastAt : Nat := 0
  /-- next instant of a publication, ns since reset | - | 13 R333, R335 | none -/
  nextAt : Option Nat := none
  /-- 0x0C05 for a failed read check written | 1 | 13 R333 | 0 -/
  withheld : Bool := false
  /-- telegrams accepted or sent, discarded, timeouts | 3 × 32 | 13 R340 | 0 -/
  nOk : Nat := 0
  nDisc : Nat := 0
  nTmo : Nat := 0
deriving DecidableEq, Repr

/-- The PTP ordinary clock. -/
structure Ptp where
  /-- PTP_CFG | 48 | 13 Table 13-5 | ENABLE 0, others DESIGN CHOICE 0 (log 2) -/
  cfg : Word := 0#48
  /-- PTP_LAT | 48 | 13 (PTP_LAT) | DESIGN CHOICE 0 (log 2) -/
  lat : Word := 0#48
  /-- port state of IEEE 1588-2019: 1 initializing, 3 disabled, 4 listening, 6 master, 7 passive, 8 uncalibrated, 9 slave | 8 | 13 R336 | 3 disabled -/
  state : Nat := 3
  /-- the master followed | - | 13 R336 | none -/
  master : Option PtpMaster := none
  /-- last offset, ns | 48 signed | 13 R340 | 0 -/
  offset : Int := 0
  /-- mean path delay, ns; none measured yet | 48 signed | 13 R337 | none -/
  delay : Option Int := none
  /-- origin and corrected receipt of the last Sync; when the last delay request left | - | 13 R337 | none -/
  syncT : Option (Int × Int) := none
  reqAt : Option Int := none
  /-- sum of the offsets that the servo has seen since SLAVE was entered | - | 13 R337 | 0 -/
  integ : Int := 0
  /-- successive offsets within 1 µs; beyond 10 µs | - | 13 R337 | 0 -/
  good : Nat := 0
  bad : Nat := 0
  /-- instant of the last Sync, ns since reset | - | 13 R337 | 0 -/
  lastSync : Nat := 0
  /-- instants of the last Sync, Announce and delay request sent, ns since reset | - | 13 R336, Table 13-5 | none -/
  sentSync : Option Nat := none
  sentAnn : Option Nat := none
  sentReq : Option Nat := none
  /-- instant of the last Announce of the master followed, or of the entry to the state | - | 13 R336 | 0 -/
  heardAnn : Nat := 0
deriving DecidableEq, Repr

/-- Ethernet. -/
structure Eth where
  /-- MACs | 3 | 13 R324 | as EthMac -/
  mac : Tab EthMac := []
  /-- MBX_PORT | 16 | 13 R329 | 52410 -/
  port : Nat := 52410
  /-- TRDP entries | 256 | 13 Table 13-3 | not configured -/
  trdp : Tab Trdp := []
  /-- etbTopoCnt | 32 | 13 R330 | 0 -/
  etb : Nat := 0
  /-- opTrnTopoCnt | 32 | 13 R330 | 0 -/
  opTrn : Nat := 0
  /-- PTP | - | 13 R336 | as Ptp -/
  ptp : Ptp := {}
deriving DecidableEq, Repr

/-! ### Services (09) -/

/-- A calendar entry (09 R236). -/
structure CalEnt where
  kind : Nat
  year : Nat
  month : Nat
  day : Nat
  days : Nat
  dayType : Nat
deriving DecidableEq, Repr

/-- A weekly programme (09 Table 9-3). -/
structure Wpg where
  /-- WPG_CFG | 48 | 09 Table 9-3 | no object -/
  cfg : Word
  /-- READ | 32 | 09 R230 | no object -/
  read : Nat
  /-- switching points of day types 0 to 14: minute and value | 15 × 8 | 09 R236 | no object -/
  points : List (List (Nat × Word))
  /-- present value | 48 | 09 R237 | 0 -/
  value : Word := 0#48
  /-- value last committed; none before the first evaluation after a reset or an entry to RUN or HOLD | 48 | 09 R237 | none -/
  last : Option Word := none
  /-- DEVTIME of the last commit | 48 | 09 R247 | 0 -/
  lastAt : Nat := 0
  /-- 0x0803 written since the output plot was released | 1 | 09 R233 | 0 -/
  noted : Bool := false
deriving DecidableEq, Repr

/-- An alarm (09 Table 9-4, R238). -/
structure Alm where
  /-- ALM_CFG, ALM_LIM, ALM_HYS, ALM_READ | 4 × 48 | 09 Table 9-4 | no object -/
  cfg : Word
  lim : Word
  hys : Word
  read : Nat
  /-- condition of the input before DELAY | 1 | 09 R238 | 0 -/
  raw : Bool := false
  /-- since when raw holds | - | 09 Table 9-4 (DELAY) | - -/
  since : Nat := 0
  /-- condition ACTIVE | 1 | 09 R238 | NORMAL -/
  active : Bool := false
  /-- TRN | 16 | 09 R238 | 0 -/
  trn : Nat := 0
  /-- UNACK | 32 | 09 R238 | 0 -/
  unack : Nat := 0
  /-- end of shelving, ns since reset | - | 09 R240 | not shelved -/
  shelved : Option Nat := none
  /-- DEVTIME of the last change | 48 | 09 R247 | 0 -/
  lastAt : Nat := 0
  /-- 0x0802 stands | 1 | 09 R231 | 0 -/
  blind : Bool := false
deriving DecidableEq, Repr

/-- A trend sample (09 R241). -/
structure Sample where
  dt : Nat
  value : Word
  qual : Nat
  flags : Nat
deriving DecidableEq, Repr

/-- A trend channel (09 Tables 9-5, 9-6). -/
structure Trd where
  /-- TRD_CFG, TRD_RING, TRD_DB | 3 × 48 | 09 Tables 9-5, 9-6 | no object -/
  cfg : Word
  ring : Word
  db : Word
  /-- number of the next sample | 48 | 09 R241 | 0 -/
  next : Nat := 0
  /-- samples held, newest first | SIZE × 1,024 | 09 R241 | empty -/
  samples : List Sample := []
  /-- the next sample carries GAP, with its cause | 2 | 09 R241, 0x0820 | 0 reset -/
  gap : Option Nat := some 0
  /-- 0x0802 stands | 1 | 09 R231 | 0 -/
  blind : Bool := false
deriving DecidableEq, Repr

/-- A meter (09 Table 9-7). -/
structure Mtr where
  /-- EN_MTR, EN_SCALE, EN_READ | 3 × 48 | 09 Table 9-7 | no object -/
  cfg : Word
  scale : Word
  read : Nat
  /-- counter readings taken as reference: import, export | 2 × 48 | 09 R242 | none -/
  ref0 : Option Word := none
  ref1 : Option Word := none
  /-- the open record | - | 09 R244 | none -/
  rec_ : Option EnOpen := none
  /-- 0x0802 stands | 1 | 09 R231 | 0 -/
  blind : Bool := false
  /-- the word that 0x0802 stands for | 15 | 09 R231 | 0 -/
  blindAt : Nat := 0
deriving DecidableEq, Repr

/-- An access point (09 Tables 9-9, 9-10). -/
structure AccPt where
  /-- ACC_PT, ACC_TIM | 2 × 48 | 09 Tables 9-9, 9-10 | no object -/
  cfg : Word
  tim : Word
  /-- READ | 32 | 09 R230; no table or command gives it another value | DESIGN CHOICE 0 (log 101) -/
  read : Nat := 0
  /-- PRES at the previous decision | 8 | 09 R246 | none -/
  pres : Option Nat := none
  /-- ends of the grant and deny pulses, ns since reset | - | 09 R246 | none -/
  grant : Option Nat := none
  deny : Option Nat := none
  /-- 0x0803 written since the output plot was released | 1 | 09 R233 | 0 -/
  noted : Bool := false
  /-- 0x0802 stands | 1 | 09 R231 | 0 -/
  blind : Bool := false
deriving DecidableEq, Repr

/-- The services. -/
structure Svc where
  /-- SVC_QUOTA[t] | 32 × 48 | 09 Table 9-2 | DESIGN CHOICE 0 (log 2) -/
  quota : Tab Word := []
  /-- LOCAL_OFS per tenant, minutes | signed | 09 R236 | DESIGN CHOICE 0 (log 2) -/
  ofs : Tab Int := []
  /-- calendars by tenant × 2 + number | 2 × 32 × 64 × 64 | 09 R236 | empty -/
  cal : Tab (List CalEnt) := []
  /-- weekly programmes | 512 | 09 Table 9-3 | none -/
  wpg : Tab (Option Wpg) := []
  /-- alarms | 8192 | 09 Table 9-4 | none -/
  alm : Tab (Option Alm) := []
  /-- trend channels | 4096 | 09 Table 9-5 | none -/
  trd : Tab (Option Trd) := []
  /-- meters | 64 | 09 Table 9-7 | none -/
  mtr : Tab (Option Mtr) := []
  /-- EN_SYS[s] | 16 × 48 | 09 (EN_SYS) | DESIGN CHOICE 0 (log 2) -/
  sys : Tab Word := []
  /-- system code in force for energy records | 4 | 09 R243 | 0 -/
  sysCode : Nat := 0
  /-- access points | 256 | 09 Table 9-9 | none -/
  acc : Tab (Option AccPt) := []
  /-- access list by tenant × 2^32 + ID | 65,536 | 09 R246 | empty; base entries come with the base configuration -/
  list : Tab (Option AccEnt) := []
deriving DecidableEq, Repr

/-! ### Pass chain (14) -/

/-- A numbered frame held for resends (14 R346): times sent, and whether it is void (R348). -/
structure PassHeld where
  frame : PassFrame
  times : Nat
  void : Bool
deriving DecidableEq, Repr

/-- A frame waiting in the receive buffer for the other port: when it arrived, D of its arrival link, and whether it holds credits
at its arrival port (no longer once that port has gone down). -/
structure PassWait where
  frame : PassFrame
  at_ : Nat
  d : Nat
  held : Bool
deriving DecidableEq, Repr

/-- One Pass port. -/
structure PassPort where
  /-- port up (PF_UP, PB_UP) | 1 | 14 R342, Table 14-4 | 0 -/
  up : Bool := false
  /-- link refused (PF_REF, PB_REF) | 1 | 14 R343, R353, Table 14-4 | 0 -/
  refused : Bool := false
  /-- D in ns | 32 | 14 R343 | 0 -/
  d : Nat := 0
  /-- ECHO answers since link up, 17 once D is taken; greatest (round trip − turnaround) / 2 of them, ns | - | 14 R343 | 0, 0 -/
  echoN : Nat := 0
  echoD : Nat := 0
  /-- last LSEQ accepted in order | 16 | 14 R346 | 0 (DESIGN CHOICE, log 2) -/
  rxSeq : Nat := 0
  /-- LSEQ of the last numbered frame sent | 16 | 14 R346 | 0 (DESIGN CHOICE, log 2) -/
  txSeq : Nat := 0
  /-- a gap stands in the received sequence; clk of the last RESEND sent | - | 14 R347 | none -/
  gap : Option Nat := none
  /-- credits used, and CREDIT received, cumulative | 2 × 16 | 14 R345 | 0, 0 at link up -/
  used : Nat := 0
  credRx : Nat := 0
  /-- credits returned to the neighbour, cumulative | 16 | 14 R345 | 0 at link up -/
  freed : Nat := 0
  /-- retry buffer, oldest first | 16 KiB | 14 R346 | empty -/
  retry : List PassHeld := []
  /-- frames from the other port that wait to leave by this one, oldest first | 16 KiB | 14 R348 | empty -/
  waiting : List PassWait := []
  /-- LSEQs asked for again that have not been sent again yet, in order | - | 14 R347 | none -/
  again : List Nat := []
  /-- own unnumbered frames (ECHO, RESEND, SKIP) that wait for credits or for forwarded frames, oldest first | - | 14 R345, R348 | none -/
  link : List PassBody := []
  /-- own numbered frames that wait to leave by this port, oldest first | - | 14 R348 | empty -/
  own : List PassFrame := []
  /-- clk of the last ECHO request | - | 14 R343 | 0 -/
  echoAt : Nat := 0
  /-- clk of the last frame sent | - | 14 R342 | 0 -/
  lastTx : Nat := 0
  /-- frames received, sent, FCS errors, resends, discarded | 5 × 32 | 14 R367 | 0 -/
  nRx : Nat := 0
  nTx : Nat := 0
  nFcs : Nat := 0
  nResend : Nat := 0
  nDisc : Nat := 0
deriving DecidableEq, Repr

/-- PASS_MEMBER[p] (14 Table 14-5) with what `MB_PASS_MEMBERS` tells beside it. -/
structure PassMember where
  /-- MSTATE | 2 | 14 Table 14-5 | 0 -/
  mstate : Nat := 0
  /-- GCAUSE | 4 | 14 Table 14-6 | 0 -/
  gcause : Nat := 0
  /-- SIDE: beyond PASSB | 1 | 14 Table 14-5 | 0 -/
  side : Bool := false
  /-- HOPS | 8 | 14 Table 14-5 | 0 -/
  hops : Nat := 0
  /-- PAIRED | 1 | 14 Table 14-5 | 0 -/
  paired : Bool := false
  /-- MODE | 4 | 14 Table 14-5 | 0 -/
  mode : Nat := 0
  /-- TDIFF | 1 | 14 R364 | 0 -/
  tdiff : Bool := false
  /-- OVL_DIFF | 1 | 14 R364 | 0 -/
  ovlDiff : Bool := false
  /-- since when the advertised overlay set has differed from the master's | - | 14 Table 14-8 | none -/
  ovlSince : Option Nat := none
  /-- PASS_ID, firmware version, chain hash as advertised | 48 + 24 + 32 | 14 R367 | 0 -/
  passId : Nat := 0
  fw : Nat × Nat × Nat := (0, 0, 0)
  hash : Nat := 0
deriving DecidableEq, Repr

/-- What a member keeps of the publications of one group of one origin (14 R357, R358). -/
structure PassPub where
  /-- cycle number of the last publication written; none since reset or a new grid | 32 | 14 R357 | none -/
  last : Option Nat := none
  /-- timed out or otherwise lost | 1 | 14 R358 | 0 -/
  lost : Bool := false
  /-- count of markers at the last acceptance | - | 14 R358 | 0 -/
  seen : Nat := 0
  /-- frames of an incomplete publication: cycle, FRAGS, frames by index | - | 14 R357 | none -/
  part : Option (Nat × Nat × List (Nat × List PubPlot)) := none
deriving DecidableEq, Repr

/-- An INAUG record as heard: beyond PASSB or not, its hops, and clk when it was last heard (14 R351). -/
structure PassRec where
  rec_ : InaugRec
  side : Bool
  hops : Nat
  at_ : Nat
deriving DecidableEq, Repr

/-- The Pass chain. -/
structure Pass where
  /-- PASS_CFG | 48 | 14 Table 14-3 | ENABLE 0, others DESIGN CHOICE 0 (log 2) -/
  cfg : Word := 0#48
  /-- clk until which the ports are held down | - | 14 R349 | 0 -/
  downUntil : Nat := 0
  /-- PASS_ID | 48 | 14 R344 | factory-unique: DESIGN CHOICE 0 (log 2) -/
  id : Nat := 0
  /-- ports PASSF (0) and PASSB (1) | 2 | 14 R341 | as PassPort -/
  port : Tab PassPort := []
  /-- CSTATE: 0 OFF, 1 INAUG, 2 MEMBER, 3 MASTER, 4 GUEST | 3 | 14 Table 14-4 | 0 -/
  cstate : Nat := 0
  /-- MASTER | 8 | 14 Table 14-4 | 0 -/
  master : Nat := 0
  /-- the master lies beyond PASSF (ORIENT) | 1 | 14 R352 | 0 -/
  orient : Bool := false
  /-- GCAUSE of this device | 4 | 14 Table 14-6 | 0 -/
  gcause : Nat := 0
  /-- ECYCLE in ms; 0 where no chain has run | 7 | 14 Table 14-4 | 0 -/
  ecycle : Nat := 0
  /-- CSTATE before the inauguration in progress | - | 14 R354 | 0 -/
  before : Nat := 0
  /-- records of the inauguration in progress | - | 14 R351 | none -/
  records : List PassRec := []
  /-- records of the last inauguration completed, and clk of its end | - | 14 R351 | none, 0 -/
  last : List InaugRec := []
  doneAt : Nat := 0
  /-- devices whose position another device holds (guest cause 3): position, PASS_ID | - | 14 R351, R352 | none -/
  dups : List (Nat × Nat) := []
  /-- links of the segment beyond PASSF and beyond PASSB | - | 14 R361 | 0, 0 -/
  links : Nat × Nat := (0, 0)
  /-- clk of the last new record or link change | - | 14 R351 | 0 -/
  recAt : Nat := 0
  /-- the device's own INAUG has come back | 1 | 14 R353 | 0 -/
  ring : Bool := false
  /-- PASS_MEMBER[p] by passId order within a position; the device itself is not listed | 255 | 14 Table 14-5 | absent -/
  member : Tab PassMember := []
  /-- chain cycle number | 32 | 14 R355 | 0 -/
  cycle : Nat := 0
  /-- clk of the present cycle's start | - | 14 R355 | 0 -/
  cycAt : Nat := 0
  /-- a grid is known | 1 | 14 R354, R355 | 0 -/
  gridOn : Bool := false
  /-- the next marker of a new master gives a new grid | 1 | 14 R354 | 0 -/
  newGrid : Bool := false
  /-- markers received or sent | - | 14 R358 | 0 -/
  markers : Nat := 0
  /-- cycle of the last slot | 32 | 14 R356 | none -/
  slotAt : Option Nat := none
  /-- cycle in which a publication was first accepted | 32 | 14 R357 | none -/
  acceptAt : Option Nat := none
  /-- publications by origin × 16 + group | - | 14 R357 | none -/
  pub : Tab PassPub := []
  /-- announced chain changes, in order of announcement, at most 8 | 8 | 14 R363 | none -/
  announced : List ChainChange := []
  /-- those of the announced changes that were learned after their cycle had begun | - | 14 R363 | none -/
  late : List ChainChange := []
  /-- changes applied of late, newest first, at most 8, so that a repeated announcement is known | - | 14 R363 | none -/
  applied : List ChainChange := []
  /-- own commands that wait for their change: change, channel | - | 14 R363 | none -/
  waiting : List (ChainChange × Nat) := []
  /-- wall time and trust of the master's last ADVERT, and its overlay set | - | 14 R364 | 0 -/
  mWall : Nat := 0
  mTrust : Nat := 0
  mOvl : Nat := 0
  /-- chain hash, firmware major and minor of the master's last ADVERT, and its cycle | 32 + 16 + 32 | 14 R364 | 0, none -/
  mRef : Nat × Nat × Nat := (0, 0, 0)
  mCycle : Option Nat := none
deriving DecidableEq, Repr

/-- The device's chain position: POS with ENABLE 1, else 1 (14 R350). -/
def Pass.ownPos (p : Pass) : Nat := if bit p.cfg 39 then fld p.cfg 47 40 else 1

/-! ### Isolated field I/O (10) -/

/-- One FC channel: its register and what its die keeps of it. -/
structure FcCh where
  /-- FC_CFG[n] | 48 | 10 Table 10-4 | DESIGN CHOICE 0, disabled (log 2) -/
  cfg : Word := 0#48
  /-- FC_CFG[n] as the die holds it from its last frame | 48 | 10 R252, R269 | DESIGN CHOICE 0 (log 2) -/
  live : Word := 0#48
  /-- filtered input state | 1 | 10 R255 | 0 -/
  input : Bool := false
  /-- command in force at the die | 1 | 10 Table 10-14 | 0 -/
  cmd : Bool := false
  /-- output switch (plain) or low-side switch (bank) on | 1 | 10 R257, R258 | 0 -/
  on : Bool := false
  /-- WB, OVL, OPEN, THERM | 4 × 1 | 10 Table 10-14 | 0 -/
  wb : Bool := false
  ovl : Bool := false
  opn : Bool := false
  therm : Bool := false
  /-- DEFER | 1 | 10 Table 10-14 | 0 -/
  defer : Bool := false
  /-- waiting bank request: instant of its frame | - | 10 R258 | none -/
  req : Option Nat := none
  /-- clk of the grant of a member, and its peak phase being over | - | 10 R259 | 0, 0 -/
  granted : Nat := 0
  hold : Bool := false
  /-- clk at which the output last turned off for OVL or THERM, or last failed to come back | - | 10 R257 | 0 -/
  faultAt : Nat := 0
  /-- EDGES | 16 | 10 Table 10-14 | 0 -/
  edges : Nat := 0
  /-- FAULTS | 16 | 10 Table 10-14 | 0 -/
  faults : Nat := 0
deriving DecidableEq, Repr

/-- One group of four FC channels. -/
structure FcGrp where
  /-- FC_GRP[g] | 48 | 10 Table 10-6 | DESIGN CHOICE MAX_ON 0 (log 2) -/
  cfg : Word := 0#48
  /-- FC_GRP[g] as the die holds it from its last frame | 48 | 10 R252, R269 | DESIGN CHOICE 0 (log 2) -/
  live : Word := 0#48
  /-- group switch tripped (GRP_OVL of its members) | 1 | 10 R259 | 0 -/
  trip : Bool := false
  /-- clk of the last trip or failed attempt | - | 10 R259 | 0 -/
  tripAt : Nat := 0
  /-- attempts made since the first trip; 3 keep the group off until `MB_FIO_CLEAR` | 2 | 10 R259 | 0 -/
  tries : Nat := 0
deriving DecidableEq, Repr

/-- The configuration that an output frame carries to its die (10 R252, R269): the registers of the die's channels in
ascending order. -/
structure FioCfg where
  /-- FIO_SIL[d] | 48 | 10 Table 10-8 | as the basic level (DESIGN CHOICE, log 2) -/
  sil : Word := 0x000000000014#48
  /-- FC_CFG and FC_GRP of FIO0, FIO1 | 16 × 48, 4 × 48 | 10 Tables 10-4, 10-6 | none sent -/
  fc : List Word := []
  grp : List Word := []
  /-- AI_CFG, AI_LO, AI_HI, AO_CFG, TW_ELEC of FIO3 | 4 × 3 × 48, 4 × 48, 4 × 48 | 10 Tables 10-10 to 10-12 | none sent -/
  ai : List (Word × Word × Word) := []
  ao : List Word := []
  tw : List Word := []
deriving DecidableEq, Repr

/-- One field die. -/
structure FioDie where
  /-- FIO_SIL[d] without SILENT | 48 | 10 Table 10-8 | SILENCE 20 (2 ms): the basic level (DESIGN CHOICE, log 2) -/
  sil : Word := 0x000000000014#48
  /-- FIO_SIL[d] as the die holds it from its last frame | 48 | 10 R252, R269 | DESIGN CHOICE 2 ms (log 2) -/
  liveSil : Word := 0x000000000014#48
  /-- SILENT | 1 | 10 Table 10-8 | 1 -/
  silent : Bool := true
  /-- not armed since its power-up | 1 | 10 R260 | 1 -/
  fresh : Bool := true
  /-- clk of the last accepted frame | - | 10 R260 | 0 -/
  frameAt : Nat := 0
  /-- the die serves: its gate toggles and it has accepted a frame since | 1 | 15 R370 | 0 -/
  serves : Bool := false
  /-- time at which its serve gate last stopped; none while it toggles | - | 15 R370 | stopped (device held in reset) -/
  gateStop : Option Nat := some 0
  /-- the firmware has read SILENT and written 0x0910 | 1 | 10 R261 | 0 -/
  told : Bool := false
  /-- clk of the last output frame sent; commands in it: 32 FC lanes and AO0 to AO3; it re-arms | - | 10 R252, R261 | none -/
  sentAt : Nat := 0
  sentFc : Word := 0#48
  sentAo : List Word := [0, 0, 0, 0]
  sentArm : Bool := false
  /-- configuration in that frame | - | 10 R252, R269 | none sent -/
  sentCfg : FioCfg := {}
  /-- an output commit has come since 0x0910 | 1 | 10 R261 | 0 -/
  commit : Bool := false
  /-- clk of the last input report, and reports stopped | - | 10 R253 | 0, 0 -/
  reportAt : Nat := 0
  lost : Bool := false
deriving DecidableEq, Repr

/-- One analog input. -/
structure AiCh where
  /-- AI_CFG, AI_LO, AI_HI | 3 × 48 | 10 Table 10-10 | DESIGN CHOICE 0, off (log 2) -/
  cfg : Word := 0#48
  lo : Word := 0#48
  hi : Word := 0#48
  /-- AI_CFG, AI_LO, AI_HI as the die holds them from its last frame | 3 × 48 | 10 R252, R269 | DESIGN CHOICE 0 (log 2) -/
  live : Word := 0#48
  liveLo : Word := 0#48
  liveHi : Word := 0#48
  /-- last unfiltered value, Q16.32 V or mA | 48 | 10 R262 | 0 -/
  raw : Word := 0#48
  /-- filtered value, Q16.32 V or mA | 48 | 10 R262 | 0 -/
  x : Word := 0#48
  /-- word to write | 48 | 10 R262 | 0 -/
  word : Word := 0#48
  /-- a sample has been taken since RANGE was set | 1 | 10 R262 | 0 -/
  started : Bool := false
  /-- AIF | 1 | 10 R262 | 0 -/
  fault : Bool := false
  /-- clk since which the unfiltered value has been in range | - | 10 R262 | 0 -/
  goodAt : Nat := 0
deriving DecidableEq, Repr

/-- One analog output. -/
structure AoCh where
  /-- AO_CFG | 48 | 10 Table 10-11 | DESIGN CHOICE 0, not enabled (log 2) -/
  cfg : Word := 0#48
  /-- AO_CFG as the die holds it from its last frame | 48 | 10 R252, R269 | DESIGN CHOICE 0 (log 2) -/
  live : Word := 0#48
  /-- command in force at the die, Q16.32 mA, as clamped | 48 | 10 R263 | 0 -/
  cmd : Word := 0#48
  /-- measured current as last reported | 48 | 10 R263 | 0 -/
  meas : Word := 0#48
  /-- LOOP_LOW, OPEN | 2 × 1 | 10 R264 | 0 -/
  low : Bool := false
  opn : Bool := false
deriving DecidableEq, Repr

/-- Isolated field I/O. -/
structure Fio where
  /-- FIO_MAP[0], FIO_MAP[1] | 2 × 48 | 10 Tables 10-2, 10-3 | every block unmapped (DESIGN CHOICE, log 2) -/
  map0 : Word := 0xFFFFFFFFFFF8#48
  map1 : Word := 0xFFFFFFFFFFF8#48
  /-- FC channels | 32 | 10 Table 10-4 | as FcCh -/
  fc : Tab FcCh := []
  /-- groups | 8 | 10 Table 10-6 | as FcGrp -/
  grp : Tab FcGrp := []
  /-- dies | 4 | 10 Table 10-8 | as FioDie -/
  die : Tab FioDie := []
  /-- analog inputs | 4 | 10 Table 10-10 | as AiCh -/
  ai : Tab AiCh := []
  /-- analog outputs | 4 | 10 Table 10-11 | as AoCh -/
  ao : Tab AoCh := []
  /-- TW_ELEC[n] | 4 × 48 | 10 Table 10-12 | DESIGN CHOICE 0 (log 2) -/
  tw : Tab Word := []
  /-- TW_ELEC[n] as FIO3 holds it from its last frame | 4 × 48 | 10 R252, R269 | DESIGN CHOICE 0 (log 2) -/
  twLive : Tab Word := []
  /-- sensor faults of TW0 to TW3: FIO3 passes no edge of the input | 4 | 10 R266 | 0 -/
  twFault : Tab Bool := []
  /-- supplies low (GRP_UV): FSUP0 to FSUP7, SSUP, ASUP | 10 | 10 R251 | 0 -/
  uv : Tab Bool := []
  /-- clk of the last 0x0931 per mains input | - | 10 R267 | none -/
  overAt : Tab (Option Nat) := []
deriving DecidableEq, Repr

/-! ### Safety channel (11) -/

/-- What one path keeps of a safety input. -/
structure SafIn where
  /-- accepted state: high | 1 | 11 R280 | 0 -/
  high : Bool := false
  /-- successive pulses missed; successive pulses passed | - | 11 R279 | 0 -/
  missed : Nat := 0
  passed : Nat := 0
  /-- TEST fault | 1 | 11 R279 | 0 -/
  test : Bool := false
  /-- a pulse has been passed since the start | 1 | 11 Table 11-16 | 0 -/
  once : Bool := false
deriving DecidableEq, Repr

/-- What one path keeps of an instance (11 R281 to R287). -/
structure SafInst where
  /-- STATE | 4 | 11 Table 11-10 | 0 -/
  st : Nat := 0
  /-- CAUSE | 4 | 11 Table 11-11 | 0 -/
  cause : Nat := 0
  /-- DEMANDS | 16 | 11 Table 11-22 | 0 -/
  demands : Nat := 0
  /-- SIA and SIB closed at the last evaluation, and since when | - | 11 R281 to R285 | open -/
  a : Bool := false
  b : Bool := false
  aAt : Nat := 0
  bAt : Nat := 0
  /-- an input opened between the last two evaluations; a discrepancy that ended there had lasted beyond its limit | 2 × 1 | 11 R281, R283, R284 | 0 -/
  fell : Bool := false
  late : Bool := false
  /-- both have been open at one instant since the demand, fault or start that asks for it | 1 | 11 R281, R282, R285 | 0 -/
  opened : Bool := false
  /-- a closing of RST that may reset: when it began | - | 11 R286 | none -/
  rst : Option Nat := none
  /-- RST closed at the last evaluation | 1 | 11 R286 | 0 -/
  rstWas : Bool := false
  /-- clk of the last interval shorter than T_LIM, or of the start | - | 11 R287 | 0 -/
  motion : Nat := 0
  /-- conditions for PERMIT that a row of their own has declared met: settled, standstill | 1 | 11 R284, R287 | 0 -/
  ready : Bool := false
deriving DecidableEq, Repr

/-- What one path keeps of an axle (TW0, TW1). -/
structure SafAxle where
  /-- clk of the last rising edge of A; last interval in ns | - | 11 R287 | none -/
  edge : Option Nat := none
  interval : Nat := 0
  /-- the last interval declares motion, by instance | 16 | 11 R287 | 0 -/
  moved : BitVec 16 := 0#16
  /-- edge whose interval was last compared with the partner's | - | 11 R292 | none -/
  cmp : Option Nat := none
deriving DecidableEq, Repr

/-- One path: 0 processor (SFC), 1 hardwired. -/
structure SafPathSt where
  /-- inputs SI0 to SI15 | 16 | 11 R279, R280 | as SafIn -/
  inp : Tab SafIn := []
  /-- instances | 16 | 11 Table 11-10 | as SafInst -/
  inst : Tab SafInst := []
  /-- axles | 2 | 11 R287 | as SafAxle -/
  axle : Tab SafAxle := []
  /-- TPk at its current limit | 4 | 11 R279 | 0 -/
  tpOver : BitVec 4 := 0#4
  /-- switches of SO0 to SO3 commanded closed | 4 | 11 R272 | 0 -/
  sw : BitVec 4 := 0#4
  /-- zero writes of each request lane seen by the path's last evaluation | 4 | 11 R288, model's own | 0 -/
  seen : Tab Nat := []
  /-- gate drives stopped | 4 | 11 R272 | 0 -/
  gateOff : BitVec 4 := 0#4
  /-- clk of the entry to SAFE_RUN | - | 11 R287, R290 | 0 -/
  runAt : Nat := 0
  /-- dark pulse last checked, by test-pulse output, counted from 1 | - | 11 R278, R279 | none -/
  pulse : Tab Nat := []
  /-- clk of the last switch test, by output | - | 11 R290 | none -/
  testAt : Tab (Option Nat) := []
  /-- clk of the last valid frame from the other path | - | 11 R292 | 0 -/
  frameAt : Nat := 0
  /-- since when the partner's state of an input, its permit of an instance differs; since when its period is out of range | - | 11 R292 | none -/
  inDiff : Tab (Option Nat) := []
  permDiff : Tab (Option Nat) := []
  perDiff : Option Nat := none
  /-- successive intervals that differ by more than 5 % from the partner's, by axle | 2 | 11 R292 | 0 -/
  intDiff : Tab Nat := []
deriving DecidableEq, Repr

/-- An entry of the change log (11 Table 11-17). -/
structure SafLog where
  seq : Nat
  wall : Nat
  devtime : Nat
  before : Nat
  after : Nat
  kind : Nat
  ch : Nat
deriving DecidableEq, Repr

/-- The safety channel. -/
structure Saf where
  /-- SF_CHAN STATE | 4 | 11 Table 11-21 | 0 OFF -/
  state : Nat := 0
  /-- SF_CHAN SECMODE: 0 none, 1 A, 2 B (fuse) | 2 | 11 Table 11-21 | unblown 0 -/
  mode : Nat := 0
  /-- SF_CHAN FCODE | 4 | 11 Table 11-21 | 0 -/
  fcode : Nat := 0
  /-- clk of the entry to START | - | 11 R294 | 0 -/
  startAt : Nat := 0
  /-- the stored block: SF_GLOB, SI_CFG, SF_INST and SF_PAR, SF_AXLE, SF_OUT; empty for none | 55 × 48 | 11 R275 | none -/
  block : List Word := []
  /-- the stored check value: confirmed (mode A) or of the last logged load (mode B) | 32 | 11 R296, R297 | none -/
  check : Option Nat := none
  /-- paths: processor 0, hardwired 1 | 2 | 11 R271 | as SafPathSt -/
  path : Tab SafPathSt := []
  /-- latched output faults: FKIND by output, 0 for none | 4 × 4 | 11 Table 11-12 | 0 -/
  fkind : Tab Nat := []
  /-- load current as last read back | 4 | 11 Table 11-12 | 0 -/
  current : BitVec 4 := 0#4
  /-- the password's salt and PBKDF2 value | 16 + 32 bytes | 11 R297 | none -/
  pw : Option (Bytes × Bytes) := none
  /-- wrong passwords in a row | 2 | 11 R297 | 0 -/
  fails : Nat := 0
  /-- clk at which the lockout ends | - | 11 R297 | none -/
  lock : Option Nat := none
  /-- change log, newest first, at most 256 | 256 × 256 | 11 R298 | empty -/
  log : List SafLog := []
  /-- sequence of the next log entry | 32 | 11 Table 11-17 | 0 (DESIGN CHOICE, log 2) -/
  logNext : Nat := 0
  /-- SF_MAP | 48 | 11 Table 11-18 | both words unmapped (DESIGN CHOICE, log 2) -/
  map : Word := 0xFFFFFFFC0000#48
  /-- status word as last written | 48 | 11 R299 | none written -/
  told : Option Word := none
  /-- entries made while the device is in reset: code and parameters | - | 11 R294, R302, model's own | none -/
  owed : List (Nat × Nat × Nat) := []
  /-- the safety domain has power | 1 | 18 R442 | 1 -/
  power : Bool := true
deriving DecidableEq, Repr

/-! ### Hot-standby pair (15) -/

/-- A record that no volley has acknowledged yet (15 R379). -/
structure PairSent where
  num : Nat
  at_ : Nat
  record : PairRec
deriving DecidableEq, Repr

/-- A RELEASE record that waits for its replay (15 R380). -/
structure PairRel where
  task : Nat
  seg7 : List Word
  quals : List Word
  lastUnit : Nat
  lastCommit : Nat
deriving DecidableEq, Repr

/-- A COMMIT record that waits for the replay's own end (15 R383). -/
structure PairCommit where
  num : Nat
  task : Nat
  scancnt : Word
  check : Nat
  cause : Nat
deriving DecidableEq, Repr

/-- A CHANGE record that waits until the RELEASE records before it have been replayed (05 R153, 15 Table 15-6). -/
structure PairHeld where
  /-- RELEASE records still ahead of it -/
  after : Nat
  tenant : Nat
  cmd : Nat
  payload : Bytes
deriving DecidableEq, Repr

/-- A handover in progress (15 R390): when it was accepted, the channel that waits, whether it is a swap's, and when the state of the
primary was sent or taken (Table 15-9 step 3). -/
structure Handover where
  at_ : Nat
  ch : Option Nat
  swap : Bool
  paged : Option Nat := none
deriving DecidableEq, Repr

/-- The pair. -/
structure Pair where
  /-- PAIR_CFG | 48 | 15 Table 15-2 | ENABLE 0, others DESIGN CHOICE 0 (log 2) -/
  cfg : Word := 0#48
  /-- PAIR_PEER | 48 | 15 (PAIR_PEER) | DESIGN CHOICE 0 (log 2) -/
  peer : Word := 0#48
  /-- PAIR_OFS | 48 signed | 15 R381 | 0 -/
  ofs : Int := 0
  /-- RSTATE: 0 OFF, 1 START, 2 SOLO, 3 PRIMARY, 4 SYNCING, 5 STANDBY, 6 DETACHED, 7 SWAP | 4 | 15 Table 15-4 | 0 -/
  rstate : Nat := 0
  /-- PAIR_ID strap (UNIT): unit B | 1 | 15 Table 15-1 | DESIGN CHOICE unit A (log 2) -/
  unitB : Bool := false
  /-- SYNC_OK, ALIVE_OK, SRV_OK, SRV_LVL | 4 × 1 | 15 Table 15-3 | 0 -/
  syncOk : Bool := false
  aliveOk : Bool := false
  srvOk : Bool := false
  srvLvl : Bool := false
  /-- ALIVE_OUT toggles; SRV_OUT | 2 × 1 | 15 Table 15-1, R371, R373 | 0, 0 -/
  aliveOut : Bool := false
  srvOut : Bool := false
  /-- the SYNC, the ALIVE path is lost while the other was valid: the ALM-level alarm | 2 × 1 | 15 R378 | 0 (log 124) -/
  syncLost : Bool := false
  aliveLost : Bool := false
  /-- MCAUSE | 4 | 15 Table 15-5 | 0 -/
  mcause : Nat := 0
  /-- PINN | 32 | 15 R374 | 0 (DESIGN CHOICE, log 2) -/
  pinn : Nat := 0
  /-- partner's RSTATE, SRV_OUT, versions, program and configuration hashes as last reported | - | 15 R377 | 0 (DESIGN CHOICE, log 2) -/
  pRstate : Nat := 0
  pSrv : Bool := false
  pFw : Nat × Nat × Nat := (0, 0, 0)
  pProg : Nat := 0
  pCfg : Nat := 0
  /-- partner's PAIR_ID and POS as last reported | 1 + 8 | 15 R388 | 0 (DESIGN CHOICE, log 2) -/
  pUnitB : Bool := false
  pPos : Nat := 0
  /-- the partner's pair DEVTIME less this unit's counter, as measured at the last valid volley | 48 signed | 15 R381 | none -/
  heardOfs : Option Int := none
  /-- ns by which PAIR_OFS has still to fall, one with each ns that passes | - | 15 R381 | 0 -/
  ofsBack : Nat := 0
  /-- clk of the last valid volley while the SYNC path is not silent, and of the first since it last was | - | 15 R377 | none, 0 -/
  volleyAt : Option Nat := none
  validAt : Nat := 0
  /-- clk of the last volley or ALIVE edge heard, or of the entry to START | - | 15 R375 | 0 -/
  heardAt : Nat := 0
  /-- clk since which SRV_LVL has disagreed with the partner's reported SRV_OUT | - | 15 R378 | none -/
  srvBad : Option Nat := none
  /-- clk of the last volley sent, of the last beacon sent | - | 15 R377, R376 | 0 -/
  sentAt : Nat := 0
  beaconAt : Nat := 0
  /-- number of the next record to send | 32 | 15 R379 | 0 (DESIGN CHOICE, log 2) -/
  nextRec : Nat := 0
  /-- records sent and not acknowledged, oldest first | - | 15 R379 | none -/
  unacked : List PairSent := []
  /-- numbers of the last UNIT and COMMIT records sent (a primary) or applied (a standby) | 2 × 32 | 15 Table 15-6 | 0 -/
  lastUnit : Nat := 0
  lastCommit : Nat := 0
  /-- number of the last record received in order | 32 | 15 R377 | 0 (DESIGN CHOICE, log 2) -/
  rxNum : Nat := 0
  /-- the first record of a resync is still to come | 1 | 15 R384 | 0 -/
  rxNew : Bool := true
  /-- clk since which a record gap has stood | - | 15 R379 | none -/
  gapAt : Option Nat := none
  /-- RELEASE and COMMIT records that wait, oldest first | - | 15 R380, R383 | none -/
  releases : List PairRel := []
  commits : List PairCommit := []
  /-- replays that ended without a commit, not yet compared: task, check value, cause | - | 15 R383 | none -/
  ends : List (Nat × Nat × Nat) := []
  /-- CHANGE records that wait for the releases before them, oldest first | - | 15 Table 15-6 CHANGE, 05 R153 | none -/
  held : List PairHeld := []
  /-- clk since which the comparison of configuration hashes has waited for a store | - | 16 R404 | none -/
  cfgBad : Option Nat := none
  /-- own buffer: words the unit's own I/O engine has written while it does not serve | - | 15 R380 | none -/
  ownBuf : Tab Word := []
  /-- last SEQ or sequenceCounter carried, by kind × 65,536 + object | - | 15 Table 15-6 SEND | none -/
  carried : Tab (Option Nat) := []
  /-- resync in progress: clk of its beginning, pages, final round sent | - | 15 R384 | none -/
  resync : Option Nat := none
  pages : Nat := 0
  finalSent : Bool := false
  /-- clk at which the final round was sent | - | 15 R384 | 0 -/
  finalAt : Nat := 0
  /-- the data store as the rounds sent so far have given it (a primary) | 2,097,152 × 48 | 15 R384 | empty -/
  sentData : Tab Word := []
  /-- a round of this resync has come | 1 | 15 R384 | 0 -/
  paged : Bool := false
  /-- failures in a row; clk of the next attempt | - | 15 R384 | 0, none -/
  failed : Nat := 0
  retryAt : Option Nat := none
  /-- handover in progress | - | 15 R390 | none -/
  handover : Option Handover := none
  /-- swap step reached: 0 none, 1 BEGIN, 2 PREVIEW that awaits the primary's state, 3 PREVIEW that runs; banks in force before BEGIN
  | - | 15 R389 | 0 -/
  swap : Nat := 0
  swapFw : Nat := 0
  swapProg : Nat := 0
  /-- channel that waits for `MB_PAIR_RESYNC` | 4 | 15 R393 | none -/
  waitCh : Option Nat := none
  /-- a CHANGE record is being applied | 1 | 15 R382 | 0 -/
  applying : Bool := false
  /-- takeovers, divergences, resyncs, record resends | 4 × 32 | 15 R393 | 0 -/
  takeovers : Nat := 0
  divergences : Nat := 0
  resyncs : Nat := 0
  resends : Nat := 0
  /-- pair DEVTIME of the last takeover | 48 | 15 R393 | 0 -/
  takeoverAt : Nat := 0
  /-- volleys, records, beacons discarded | 3 × 32 | 15 R391 | 0 -/
  badVolley : Nat := 0
  badRecord : Nat := 0
  badBeacon : Nat := 0
deriving DecidableEq, Repr

/-- The whole device. -/
structure State where
  /-- nanoseconds since the device reset; DEVTIME is this modulo 2^48 | 48 | 01 R24 | 0 -/
  clk : Nat := 0
  /-- mailboxes | - | 02 | as Mailbox -/
  mb : Mailbox := {}
  /-- event controller | - | 01 R30 | as Events -/
  evt : Events := {}
  /-- Gleaner, volatile part | - | 17 R428 | as Gleaner -/
  gln : Gleaner := {}
  /-- Silo | 16 Mbit | 17 R417 | as Silo -/
  silo : Silo := {}
  /-- real-time clock | - | 17 Table 17-7 | as Rtc -/
  rtc : Rtc := {}
  /-- always-on domain, fuses, pins | - | 18 | as AlwaysOn -/
  aon : AlwaysOn := {}
  /-- supervision | - | 18 | as Supervision -/
  sup : Supervision := {}
  /-- scan cores and their memories | - | 03 | as Cores -/
  core : Cores := {}
  /-- program image in force | - | 16 R416 | none -/
  prog : Prog := {}
  /-- tasks, modes, forces | - | 05 | as Tasks -/
  task : Tasks := {}
  /-- image, plots, remote modules | - | 06 | as Image -/
  img : Image := {}
  /-- time bases | - | 07 | as TimeBase -/
  tb : TimeBase := {}
  /-- scheduler slots | 2048 | 07 | as Slot -/
  slot : Tab Slot := []
  /-- control engine | - | 08 | as Ce -/
  ce : Ce := {}
  /-- services | - | 09 | as Svc -/
  svc : Svc := {}
  /-- field I/O | - | 10 | as Fio -/
  fio : Fio := {}
  /-- safety channel | - | 11 | as Saf -/
  saf : Saf := {}
  /-- CAN controllers | - | 12 | as Can -/
  can : Can := {}
  /-- Ethernet, TRDP, PTP | - | 13 | as Eth -/
  eth : Eth := {}
  /-- Pass chain | - | 14 | as Pass -/
  pass : Pass := {}
  /-- hot-standby pair | - | 15 | as Pair -/
  pair : Pair := {}
  /-- program store | 256 Mbit | 16 | as Flash -/
  flash : Flash := {}
  /-- overlays and stores in progress | - | 16 | as Overlays -/
  ovl : Overlays := {}
  /-- what the device has driven on its wires, newest first | - | model's own | none -/
  out : List Out := []
  /-- draws of free values made so far | - | model's own (log 1) | 0 (DESIGN CHOICE) -/
  free : Nat := 0
  /-- commands waiting, first in first out | - | model's own | empty -/
  pending : List Instr := []
deriving DecidableEq, Repr

/-- The device right after reset, as shipped: start-up has not run (18 R450); every field at the value its comment
gives. -/
def State.reset : State := {}

end Sys2Proof.Machine
end

