-- ==== Sys2Proof/Machine/Ops.lean ====
section
/-! DEFINITION. Operations that every chapter shares: time, free values, event sources, Gleaner events, channel
latches, effective modes, plots and the image. -/

namespace Sys2Proof.Machine

/-! ### Time, wires, free values -/

/-- The counter of 01 R24 plus PAIR_OFS, before its wrap (15 R381). -/
def ptime (s : State) : Int := (s.clk : Int) + s.pair.ofs

/-- DEVTIME (01 R24, 15 R381). -/
def devtime (s : State) : Nat := umod 48 (ptime s)

/-- Time that runs on through device resets, for the field dies, the safety channel and the always-on domain. -/
def absNow (s : State) : Nat := s.aon.epoch + s.clk

/-- Wall time in ns (07 R182). -/
def wallNs (s : State) : Int :=
  let d : Int := (s.clk : Int) - s.tb.wallD
  s.tb.wallW + d + (d * s.tb.rho).fdiv 1000000000

/-- Wall time, whole TAI seconds. -/
def wallSec (s : State) : Nat := umod 48 ((wallNs s).fdiv 1000000000)

/-- Wall time, nanosecond field (00 R9). -/
def wallSub (s : State) : Nat := ((wallNs s).fmod 1000000000).toNat

/-- The device drives something on its wires. -/
def emit (o : Out) (s : State) : State := { s with out := o :: s.out }

/-! ### The SYNC link (15 R379 to R382) -/

/-- ALIVE_OUT toggles or is static, SRV_OUT is high or low (15 Table 15-1). -/
def setLines (alive srv : Bool) (s : State) : State :=
  let t := if s.pair.aliveOut == alive then s else emit (.alive alive) s
  let t := if s.pair.srvOut == srv then t else emit (.srv srv) t
  { t with pair := { t.pair with aliveOut := alive, srvOut := srv } }

/-- A primary whose standby follows sends records: in PRIMARY, and in SOLO from the beginning of a resync
and to a partner in the program swap, whose mirror buffer it feeds (15 R389). -/
def sendsRecords (s : State) : Bool := s.pair.rstate == 3 || (s.pair.rstate == 2 && (s.pair.resync.isSome || s.pair.pRstate == 7))

/-- A record leaves on SYNC and is kept until a volley acknowledges it (R379). -/
def pairSend (r : PairRec) (s : State) : State :=
  if sendsRecords s then
    let n := s.pair.nextRec
    let q := { s.pair with nextRec := (n + 1) % 2 ^ 32, unacked := s.pair.unacked ++ [⟨n, s.clk, r⟩] }
    let q := match r with
      | .unit _ => { q with lastUnit := n }
      | .commit _ _ _ _ => { q with lastCommit := n }
      | _ => q
    emit (.record n r) { s with pair := q }
  else s

/-- A unit in SYNCING, STANDBY, DETACHED or SWAP refuses commands that change its state (R382). -/
def pairRefuses (s : State) : Bool := 4 ≤ s.pair.rstate && !s.pair.applying

/-- The unit's I/O engine fills its own buffer, not the one that tasks read (R380, R389). -/
def ownBuffer (s : State) : Bool := s.pair.rstate == 4 || s.pair.rstate == 5 || s.pair.rstate == 7

/-- A fresh value that the spec leaves open (log 1). -/
def drawWord (s : State) : Word × State := (Config.freeWord s.free, { s with free := s.free + 1 })

/-! ### Event sources (01 R30 to R34) -/

/-- EVT_SRC[n]. -/
def evtSrc (s : State) (n : Nat) : Word := wget s.evt.src n

/-- EVT_SRC[n] written. -/
def setEvtSrc (n : Nat) (w : Word) (s : State) : State := { s with evt := { s.evt with src := wput n w s.evt.src } }

/-- Owner fixed by 01 R31: doorbells and system sources. -/
def evtFixed (n : Nat) : Option Nat :=
  if 320 ≤ n ∧ n ≤ 351 then some (n - 320)
  else if (104 ≤ n ∧ n ≤ 127) ∨ (352 ≤ n ∧ n ≤ 367) then some 0 else none

/-- Owner of source n. -/
def evtOwner (s : State) (n : Nat) : Nat := (evtFixed n).getD (fld (evtSrc s n) 4 0)

/-- Sources that never fire (01 Table 1-10). -/
def evtReserved (n : Nat) : Bool := (120 ≤ n && n ≤ 127) || (361 ≤ n && n ≤ 367) || 384 ≤ n

def evtPending (s : State) (n : Nat) : Bool := s.evt.pend.getLsbD n

/-- The pending bit of a source set or cleared. -/
def setPending (n : Nat) (b : Bool) (s : State) : State :=
  let m := BitVec.ofNat 384 (2 ^ n)
  { s with evt := { s.evt with pend := if b then s.evt.pend ||| m else s.evt.pend &&& ~~~m } }

/-- EVENT_SOURCE_FIRE (01 R30): dropped with ENABLE 0, counted in OVF while pending, else pending. -/
def fire (n : Nat) (s : State) : State :=
  let w := evtSrc s n
  if evtReserved n || !bit w 22 then s
  else if evtPending s n then
    let s := setEvtSrc n (setFld w 47 40 (Nat.min 255 (fld w 47 40 + 1))) s
    { s with evt := { s.evt with lastOver := tput 0 n ((s.clk + 1) * 256 + fld w 47 40) s.evt.lastOver } }
  else setPending n true s

/-- Several sources fire in turn. -/
def fireAll (ns : List Nat) (s : State) : State := ns.foldl (fun s n => fire n s) s

/-! ### Gleaner events (17 R428, R429) -/

/-- Codes that their files place under the rate limits (17 R429). -/
def glnLimited (code : Nat) : Bool :=
  let hi := code / 256
  hi == 0x02 || hi == 0x08 || hi == 0x09 || hi == 0x0A || hi == 0x0B || hi == 0x0C ||
    [0x0302, 0x0304, 0x0501, 0x0502, 0x0D08, 0x0D09, 0x100B, 0x1102, 0x1105, 0x110A].contains code

/-- Rate class of a code. -/
def glnClassOf (s : State) (code : Nat) : Nat :=
  if glnLimited code then (let c := tget 0 s.gln.codeCls code; if c = 0 then 1 else c) else 0

/-- A suppressed or dropped event of a class above 0. -/
def glnSuppress (key : Nat) (g : Gleaner) : Gleaner :=
  { g with
    bucket := tupd {} key (fun b => { b with suppressed := b.suppressed + 1 }) g.bucket
    suppressed := g.suppressed + 1 }

/-- The writer queue takes an event, or drops it when it is full (17 R428 stage 2). -/
def glnEnqueue (cls key : Nat) (e : GlnEv) (g : Gleaner) : Gleaner :=
  if g.queue.length < 64 then { g with queue := g.queue ++ [e] }
  else if cls = 0 then { g with drops := tput 0 key (tget 0 g.drops key + 1) g.drops, dropped := g.dropped + 1 }
  else { glnSuppress key g with dropped := g.dropped + 1 }

/-- Wall time as an entry carries it: TAI seconds and WALL_OK, from the RTC before start-up sets wall time (17 R425). -/
def glnWall (s : State) : Nat × Bool :=
  if s.tb.wallSet then (wallSec s % 2 ^ 39, s.tb.wallOk) else (s.rtc.sec % 2 ^ 39, !s.rtc.oscStop)

/-- The event as it would be written now. -/
def glnEv (code level tenant : Nat) (p1 p2 : Int) (s : State) : GlnEv :=
  { code, tenant, level, wallOk := (glnWall s).2, wall := (glnWall s).1
    devtime := devtime s, p1 := umod 48 p1, p2 := umod 48 p2 }

/-- A Gleaner event of a code, origin level and tenant (17 R428: rate check, then writer queue). -/
def gln (code level tenant : Nat) (p1 p2 : Int) (s : State) : State :=
  let c := glnClassOf s code
  let key := code * 32 + tenant
  let e := glnEv code level tenant p1 p2 s
  let b := tget {} s.gln.bucket key
  if c = 0 then { s with gln := glnEnqueue c key e s.gln }
  else if (tget {} s.gln.cls c).burst ≤ b.used then { s with gln := glnSuppress key s.gln }
  else { s with gln := glnEnqueue c key e (
      { s.gln with bucket := tput {} key { b with used := b.used + 1, from_ := if b.used = 0 then s.clk else b.from_ } s.gln.bucket }) }

/-- The reports of class 0 drops as soon as the writer queue has room (17 R429). -/
def glnReportDrops (s : State) : State :=
  let ds := s.gln.drops
  if s.gln.queue.length < 64 ∧ ds ≠ [] then
    ds.foldl (fun s d => gln 0x1003 3 (d.1 % 32) (d.1 / 32 : Nat) d.2 s) { s with gln := { s.gln with drops := [] } }
  else s

/-! ### Channels (02) -/

/-- The settings of a channel. -/
def chanCfg (s : State) (ch : Nat) : ChanCfg := tget {} s.flash.keys ch

/-- The volatile state of a channel. -/
def getChan (s : State) (ch : Nat) : Chan := tget {} s.mb.chan ch

/-- A channel updated. -/
def updChan (ch : Nat) (f : Chan → Chan) (s : State) : State :=
  { s with mb := { s.mb with chan := tupd {} ch f s.mb.chan } }

/-- Bits of the status word that are latched (02 Table 2-8). -/
def bitEVT : Nat := 14
def bitMODE : Nat := 12
def bitRED : Nat := 11
def bitSAFE : Nat := 10
def bitCFG : Nat := 9
def bitNET : Nat := 8
def bitWDG : Nat := 7
def bitTHR : Nat := 4

/-- Set a latch on every open channel whose tenant satisfies q (02 R63). -/
def latchWhere (q : Nat → Bool) (b : Nat) (s : State) : State :=
  (List.range 16).foldl (fun s ch =>
    if (getChan s ch).isOpen && q (chanCfg s ch).tenant then
      updChan ch (fun c => { c with latch := c.latch ||| BitVec.ofNat 16 (2 ^ b) }) s
    else s) s

/-- Set a latch on every open channel of tenant t. -/
def latchTenant (t b : Nat) (s : State) : State := latchWhere (· == t) b s

/-- Set a latch on every open channel. -/
def latchAll (b : Nat) (s : State) : State := latchWhere (fun _ => true) b s

/-- The session of a channel closes and its reply cache empties (02 R43, R69). -/
def closeSession (ch cause : Nat) (s : State) : State :=
  let was := (getChan s ch).isOpen
  let s := updChan ch (fun c => { c with isOpen := false, cache := [], latch := 0#16 }) s
  if was then gln 0x0208 3 (chanCfg s ch).tenant ch cause s else s

/-- The lowest-numbered channel bound to the SPI port (02 R51). -/
def lowestSpi (s : State) : Option Nat := (List.range 16).find? (fun ch => (chanCfg s ch).transport == 1)

/-! ### Modes (05 R142) -/

/-- Restrictiveness: RUN, HOLD, STOP, FAULT. -/
def modeRank (m : Nat) : Nat := if m = 2 then 0 else if m = 3 then 1 else if m = 1 then 2 else 3

/-- The tenant mode. -/
def tenMode (s : State) (t : Nat) : Nat := tget 2 s.task.ten t

/-- The more restrictive of two modes. -/
def moreRestrictive (a b : Nat) : Nat := if modeRank a < modeRank b then b else a

/-- The unit serves, or is not in a pair (15 R373, Table 15-4). -/
def serving (s : State) : Bool := s.pair.rstate == 0 || s.pair.rstate == 2 || s.pair.rstate == 3

/-- The device mode as reported: a unit in START, SYNCING or DETACHED reports STOP (15 R373). -/
def devMode (s : State) : Nat := if s.pair.rstate == 1 || s.pair.rstate == 4 || s.pair.rstate == 6 then 1 else s.task.dev

/-- The effective mode of a tenant. -/
def effMode (s : State) (t : Nat) : Nat := moreRestrictive (devMode s) (tenMode s t)

/-- The effective mode is RUN or HOLD. -/
def running (s : State) (t : Nat) : Bool := effMode s t == 2 || effMode s t == 3

/-! ### Tasks -/

def taskEnt (s : State) (k : Nat) : TaskEnt := tget {} s.task.ent k

def updTask (k : Nat) (f : TaskEnt → TaskEnt) (s : State) : State :=
  { s with task := { s.task with ent := tupd {} k f s.task.ent } }

def taskKind (e : TaskEnt) : Nat := fld e.cfg 47 45
def taskTenant (s : State) (k : Nat) : Nat := fld (taskEnt s k).cfg 31 27
def taskDefined (s : State) (k : Nat) : Bool := k < 256 && taskKind (taskEnt s k) != 0

/-- The execution of a task that has not ended. -/
def taskEx (s : State) (k : Nat) : Option Ex := tget none s.core.ex k

def setEx (k : Nat) (e : Option Ex) (s : State) : State :=
  { s with core := { s.core with ex := tput none k e s.core.ex } }

/-- Tasks with an execution that has not ended, ascending. -/
def liveTasks (s : State) : List Nat := s.core.ex.filterMap (fun e => if e.2.isSome then some e.1 else none)

/-- Key of a data-store word: segment 0, 1 or 2 of a tenant, or segment 6 of a task. -/
def dsKey (seg owner off : Nat) : Nat := ((if seg = 6 then 96 + owner else seg * 32 + owner) * 2 ^ 21) + off

/-- The task of a tenant writes image word w (16 R416). -/
def taskWrites (s : State) (w : Nat) : List Nat :=
  s.prog.ranges.filterMap (fun e => if e.2.any (fun r => r.1 ≤ w && w < r.1 + r.2) then some e.1 else none)

/-! ### Plots and image words (06) -/

def plotOwn (s : State) (n : Nat) : Word := wget s.img.own n
def ownPOS (w : Word) : Nat := fld w 47 40
def ownSRC (w : Word) : Nat := fld w 39 37
def ownTENANT (w : Word) : Nat := fld w 36 32
def ownSHARE (w : Word) (t : Nat) : Bool := bit w t

def getPlot (s : State) (n : Nat) : PlotSt := tget {} s.img.plot n

def updPlot (n : Nat) (f : PlotSt → PlotSt) (s : State) : State :=
  { s with img := { s.img with plot := tupd {} n f s.img.plot } }

def setOwn (n : Nat) (w : Word) (s : State) : State := { s with img := { s.img with own := wput n w s.img.own } }

/-- The SEG3 read check of 06 R170 on a table of plot owners. -/
def ownRead (own : Tab Word) (t w : Nat) : Bool :=
  let o := wget own (w / 64)
  ownPOS o != 0 && ownTENANT o == t

/-- The SEG5 read check of 06 R170. -/
def sharedRead (own : Tab Word) (t w : Nat) : Bool :=
  let o := wget own (w / 64)
  ownPOS o != 0 && ownSHARE o t

/-- A host or an object of tenant t may read word w (06 R172). -/
def mayRead (s : State) (t w : Nat) : Bool := w < 20480 && (ownRead s.img.own t w || sharedRead s.img.own t w)

/-- The plot of word w has source src, belongs to tenant t, and is owned by this device. -/
def inPlot (s : State) (src t w : Nat) : Bool :=
  let o := plotOwn s (w / 64)
  w < 20480 && ownPOS o == s.pass.ownPos && ownSRC o == src && ownTENANT o == t && ownPOS o != 0

/-- Tenant t owns the plot of word w at this device. -/
def ownsWord (s : State) (t w : Nat) : Bool :=
  let o := plotOwn s (w / 64)
  w < 20480 && ownPOS o != 0 && ownTENANT o == t && ownPOS o == s.pass.ownPos

/-- An image word. -/
def imgWord (s : State) (w : Nat) : Word := wget s.img.word w

/-- The value a word takes under its force record (05 R147). -/
def forced (f : Force) (v : Word) : Word := (v &&& ~~~f.mask) ||| (f.value &&& f.mask)

/-- Request lane k of the image; an unmapped REQ_WORD requests nothing (11 R299). -/
def reqLane (s : State) (k : Nat) : Bool := fld s.saf.map 32 18 < 20480 && bit (imgWord s (fld s.saf.map 32 18)) k

/-- An image word takes a value; a request lane that it leaves at 0 is noted, since it opens its switch at once and closes it only at
an evaluation (11 R272, R288). -/
def imgSet (w : Nat) (v : Word) (s : State) : State :=
  let lows := if w = fld s.saf.map 32 18 then
      (List.range 4).foldl (fun t k => if bit v k then t else tupd 0 k (· + 1) t) s.img.lows else s.img.lows
  { s with img := { s.img with word := wput w v s.img.word, lows } }

/-- One image word written by its writer: a force record keeps the unforced value and imposes its own (05 R147, R150). -/
def imgPut (w : Nat) (v : Word) (s : State) : State :=
  match tget none s.task.force w with
  | none => imgSet w v s
  | some f => { imgSet w (forced f v) s with task := { s.task with force := tput none w (some { f with free := v }) s.task.force } }

/-- Words written in turn. -/
def imgPuts (ws : List (Nat × Word)) (s : State) : State := ws.foldl (fun s e => imgPut e.1 e.2 s) s

/-- The plots of a list of words, each once. -/
def plotsOf (ws : List (Nat × Word)) : List Nat := (ws.map (fun e => e.1 / 64)).dedup

/-- Instant from which AGE of a plot counts (06 R168). -/
def ageFrom (p : PlotSt) : Int :=
  match p.feeds with
  | [] => p.ageFrom
  | f :: fs => ((fs.map (·.2)).foldl Nat.min f.2 : Nat)

/-- AGE in 100 µs units. -/
def plotAge (s : State) (p : PlotSt) : Nat := Nat.min 65535 (((s.clk : Int) - ageFrom p) / 100000).toNat

/-- Remote modules whose input block lies in plot n. -/
def rioIN (r : Rio) : Nat × Nat := (fld r.mod 39 25, fld r.mod 24 20)
def rioOUT (r : Rio) : Nat × Nat := (fld r.mod 19 5, fld r.mod 4 0)
def rioTenant (r : Rio) : Nat := fld r.mod 44 40
def rioBus (r : Rio) : Nat := fld r.mod 47 45
def getRio (s : State) (m : Nat) : Rio := tget {} s.img.rio m
def updRio (m : Nat) (f : Rio → Rio) (s : State) : State := { s with img := { s.img with rio := tupd {} m f s.img.rio } }

/-- Two word ranges overlap. -/
def overlap (a n b m : Nat) : Bool := n != 0 && m != 0 && a < b + m && b < a + n

/-- Unit `unit` may write word w: field I/O, the safety status word and the watchdog question (numbers below 64 and 2000) into plots
of SRC 0x1 of T0, a remote module (64 + m) and a subscription (3000 + k) into plots of SRC 0x2 of their tenant, at this device
(06 R164, R172, R175, 10 R254, 11 R299, 13 R332). -/
def unitMay (s : State) (unit w : Nat) : Bool :=
  if unit < 64 || unit == 2000 then inPlot s 1 0 w
  else if unit < 2000 then inPlot s 2 (rioTenant (getRio s (unit - 64))) w
  else inPlot s 2 (fld (tget {} s.eth.trdp (unit - 3000)).pd 46 42) w

/-- Modules that feed plot n. -/
def feeders (s : State) (n : Nat) : List (Nat × Rio) :=
  s.img.rio.filter (fun e => overlap (rioIN e.2).1 (rioIN e.2).2 (64 * n) 64 && inPlot s 2 (rioTenant e.2) (64 * n))

/-- Subscriptions of consist data whose block lies in plot n (13 R332, R334). -/
def subsOf (s : State) (n : Nat) : List Trdp :=
  (s.eth.trdp.map (·.2)).filter (fun e => fld e.pd 20 14 != 0 && !bit e.pd 47 && fld e.pd 35 21 / 64 == n &&
    inPlot s 2 (fld e.pd 46 42) (64 * n))

/-! ### Field words (10 R253, R254) -/

def fioInWord (s : State) : Nat := fld s.fio.map0 47 33
def fioDiagWord (s : State) : Nat := fld s.fio.map0 32 18
def fioOutWord (s : State) : Nat := fld s.fio.map0 17 3
def fioAiWord (s : State) : Nat := fld s.fio.map1 47 33
def fioAoWord (s : State) : Nat := fld s.fio.map1 32 18
def fioAomWord (s : State) : Nat := fld s.fio.map1 17 3

/-- An FC channel has a flag that sets its lane of DIAG_WORD. -/
def fcFlagged (s : State) (n : Nat) : Bool :=
  let c := tget {} s.fio.fc n
  c.wb || c.ovl || c.opn || c.therm || tget false s.fio.uv (n / 4) || (fld c.live 47 45 == 4 && (tget {} s.fio.grp (n / 4)).trip)

def aiFlagged (s : State) (n : Nat) : Bool := (tget {} s.fio.ai n).fault
def aoFlagged (s : State) (n : Nat) : Bool := (tget {} s.fio.ao n).low || (tget {} s.fio.ao n).opn

/-- DIAG_WORD as the device forms it. -/
def diagLane (s : State) (n : Nat) : Bool :=
  if n < 32 then fcFlagged s n else if n < 36 then aiFlagged s (n - 32) else if n < 40 then aoFlagged s (n - 36) else false

/-- Image words that hold something of lane n of DIAG_WORD. -/
def laneWords (s : State) (n : Nat) : List Nat :=
  (fioDiagWord s :: (if n < 32 then [fioInWord s, fioOutWord s]
    else if n < 36 then [fioAiWord s + (n - 32)] else [fioAoWord s + (n - 36), fioAomWord s + (n - 36)])).filter (· < 20480)

/-- A channel mapped into plot n has a flag that sets its lane (10 R254). -/
def fioFault (s : State) (n : Nat) : Bool :=
  (inPlot s 1 0 (64 * n) || inPlot s 0 0 (64 * n)) && (List.range 40).any (fun l => diagLane s l && (laneWords s l).any (fun w => w / 64 == n))

/-- Words that a die's reports feed (10 R253). -/
def dieWords (s : State) (d : Nat) : List Nat :=
  (if d < 2 then [fioInWord s, fioDiagWord s]
    else if d = 3 then fioDiagWord s :: (List.range 4).flatMap (fun i => [fioAiWord s + i, fioAomWord s + i])
    else []).filter (· < 20480)

/-- Reports of a die that feeds plot n have stopped (10 R253). -/
def fioLost (s : State) (n : Nat) : Bool :=
  inPlot s 1 0 (64 * n) && s.fio.die.any (fun e => e.2.lost && (dieWords s e.1).any (fun w => w / 64 == n))

/-- A force record exists for a word of plot n. -/
def plotForced (s : State) (n : Nat) : Bool := s.task.force.any (fun e => e.1 / 64 == n && e.2.isSome)

/-- Tasks that write plot n and belong to its owner tenant (06 R165). -/
def plotTasks (s : State) (n : Nat) : List Nat :=
  s.prog.ranges.filterMap (fun e =>
    if taskDefined s e.1 && taskTenant s e.1 == ownTENANT (plotOwn s n) && e.2.any (fun r => overlap r.1 r.2 (64 * n) 64) then some e.1
    else none)

/-- PERIOD of a cyclic task, else DEADLINE, in 50 µs steps. -/
def taskSpan (e : TaskEnt) : Nat := if taskKind e = 1 then fld e.par 17 0 else fld e.lim 17 0

/-- Chain cycle of the chain this device is in, in ms; 0 outside a chain. -/
def chainMs (s : State) : Nat := if 1 ≤ s.pass.cstate then s.pass.ecycle else 0

/-- PLOT_PUB[n]: as set at the expert level, else derived from SRC and users (06 R165), at every device; a plot of another position
has no users at this one, neither tasks nor modules (DEDUCED, log 102). -/
def plotPub (s : State) (n : Nat) : Word :=
  let p := (getPlot s n).pub
  let o := plotOwn s n
  let here := ownPOS o == s.pass.ownPos
  if bit p 16 || ownPOS o = 0 then p
  else
    let lim := match ownSRC o with
      | 0 => match (if here then plotTasks s n else []).map (fun k => taskSpan (taskEnt s k)) with
        | [] => 0
        | l => (3 * l.foldl Nat.max 0 + 60 * chainMs s + 1) / 2
      | 1 => 100
      | 2 => 10 * ((feeders s n).map (fun e => fld e.2.tmo 11 0)).foldl Nat.max 0
      | _ => 0
    wd (Nat.min 65535 lim)

/-- STALE_LIMIT in force. -/
def staleLimit (s : State) (n : Nat) : Nat := fld (plotPub s n) 15 0

/-- An update of plot n (06 R168); `unit` is the feeding unit of an I/O update, `subst` a substitution. -/
def plotUpdate (n : Nat) (unit : Option Nat) (subst : Bool) (s : State) : State :=
  updPlot n (fun p =>
    let p := { p with upd := (p.upd + 1) % 65536, valid := true }
    if subst then p
    else
      let p := match unit with
        | none => { p with ageFrom := s.clk }
        | some u => { p with feeds := (u, s.clk) :: p.feeds.filter (fun f => f.1 != u) }
      { p with stale := p.stale && decide (staleLimit s n < plotAge s p) }) s

/-- Words that the I/O engine writes in one unit: into the pending input buffer, with a UNIT record, or into the own
buffer of a unit that does not serve (15 Table 15-6, R380). -/
def ioPuts (ws : List (Nat × Word)) (s : State) : State :=
  if ownBuffer s then
    { s with pair := { s.pair with ownBuf := ws.foldl (fun t e => wput e.1 e.2 t) s.pair.ownBuf } }
  else pairSend (.unit ws) (imgPuts ws s)

/-- Unit `unit` fills word w. -/
def unitFills (s : State) (unit w : Nat) : Bool :=
  if unit < 8 then w == fioInWord s || w == fioDiagWord s
  else if unit < 12 then w == fioAiWord s + (unit - 8) || w == fioDiagWord s
  else if unit < 16 then w == fioAomWord s + (unit - 12) || w == fioDiagWord s
  else if unit < 64 then w == fld s.saf.map 47 33
  else if unit == 2000 then w == fld s.sup.wdgCfg 38 24
  else if unit < 2000 then let b := rioIN (getRio s (unit - 64)); b.1 ≤ w && w < b.1 + b.2
  else let e := tget {} s.eth.trdp (unit - 3000); fld e.pd 35 21 ≤ w && w < fld e.pd 35 21 + fld e.pd 20 14

/-- The plot of word w has an update of the units that fill the word (06 R168). -/
def wordUpdate (w : Nat) (s : State) : State :=
  let s := plotUpdate (w / 64) none false s
  updPlot (w / 64) (fun p => { p with feeds := p.feeds.map (fun f => if unitFills s f.1 w then (f.1, s.clk) else f) }) s

/-- One unit update into the pending input buffer (01 R19): words and the plots they lie in. A word whose plot has passed to
another position, source or tenant since the unit was mapped is not written (06 R164, R172). -/
def unitUpdate (unit : Nat) (subst : Bool) (ws : List (Nat × Word)) (s : State) : State :=
  match ws.filter (fun e => unitMay s unit e.1) with
  | [] => s
  | ws => (plotsOf ws).foldl (fun s n => plotUpdate n (some unit) subst s) (ioPuts ws s)

/-- The unforced value of an image word (05 R150). -/
def unforcedWord (s : State) (w : Nat) : Word :=
  match tget none s.task.force w with | some f => f.free | none => imgWord s w

/-- The word that the next unit update starts from: lanes outside the unit keep their values (10 R253). -/
def ioWord (s : State) (w : Nat) : Word :=
  if ownBuffer s then (match s.pair.ownBuf.find? (fun e => e.1 == w) with | some e => e.2 | none => unforcedWord s w)
  else unforcedWord s w

/-- PLOT_QUAL[n] (06 Table 6-4, R168); a plot whose POS is 0 reads 0 (R164). -/
def plotQual (s : State) (n : Nat) : Word :=
  let o := plotOwn s n
  let p := getPlot s n
  if ownPOS o = 0 then 0#48
  else
    let loc := ownPOS o == s.pass.ownPos
    let m := effMode s (ownTENANT o)
    let fs := (feeders s n).map (·.2)
    let ts := subsOf s n
    let age := plotAge s p
    let lim := staleLimit s n
    let own := setBit (setBit (setBit (setBit (setBit 0#48 14 (m == 2 || m == 3)) 13 (m == 3))
      10 (plotForced s n)) 9 (fs.any (·.substituted) || ts.any (·.substituted))) 8 (fs.any (·.fault) || fioFault s n)
    let w := if loc then own else p.remoteBits
    let w := setFld (setFld w 47 32 age) 31 16 p.upd
    let w := setBit (setBit w 15 p.valid) 12 (lim != 0 && lim < age)
    setBit w 11 ((!loc && p.pubLost) || (loc && fioLost s n) || fs.any (fun r => r.timedOut || !r.active) || ts.any (fun e => e.timedOut || !e.active))

/-- All quality words (06 R169). -/
def allQuals (s : State) : Tab Word :=
  (List.range 320).foldr (fun n t => let q := plotQual s n; if q = 0#48 then t else (n, q) :: t) []

/-! ### Device states -/

/-- The mailbox service has not started (02 R58). -/
def boot (s : State) : Bool := !s.mb.spi.started

/-- STATE UPDATE of 02 R64. -/
def updating (s : State) : Bool := s.ovl.update

end Sys2Proof.Machine
end

