-- ==== Sys2Proof/Machine/EthOps.lean ====
section
/-! DEFINITION. Sending on the Ethernet MACs: tags, address resolution, fragments, TRDP telegrams (13 R325 to R333). -/

namespace Sys2Proof.Machine

def getMac (s : State) (n : Nat) : EthMac := tget {} s.eth.mac n
def updMac (n : Nat) (f : EthMac → EthMac) (s : State) : State := { s with eth := { s.eth with mac := tupd {} n f s.eth.mac } }

def macIp (m : EthMac) : Nat := fld m.ip 47 16
def macPrefix (m : EthMac) : Nat := fld m.ip 15 10
def macGw (m : EthMac) : Nat := fld m.gw 47 16
def macOn (m : EthMac) : Bool := bit m.cfg 47
def macVid (m : EthMac) : Nat := fld m.cfg 36 25

/-- A discarded frame is counted (13 R338). -/
def ethDiscard (n : Nat) (s : State) : State := updMac n (fun m => { m with nDisc := m.nDisc + 1 }) s

/-- VLAN tag of a frame sent (13 R327): VID and the priority of its kind. -/
def macTag (m : EthMac) (b : EthBody) : Option (Nat × Nat) :=
  if macVid m = 0 then none
  else some (macVid m, match b with | .trdp _ => fld m.cfg 24 22 | .ptp _ _ => fld m.cfg 21 19 | _ => fld m.cfg 18 16)

/-! ### TRDP entries (13 Table 13-3) and telegrams (R330) -/

def getTrdp (s : State) (k : Nat) : Trdp := tget {} s.eth.trdp k
def updTrdp (k : Nat) (f : Trdp → Trdp) (s : State) : State := { s with eth := { s.eth with trdp := tupd {} k f s.eth.trdp } }

def trdpPub (e : Trdp) : Bool := bit e.pd 47
def trdpTenant (e : Trdp) : Nat := fld e.pd 46 42
def trdpMac (e : Trdp) : Nat := fld e.pd 40 39
def trdpWord (e : Trdp) : Nat := fld e.pd 35 21
def trdpCount (e : Trdp) : Nat := fld e.pd 20 14
/-- CYCLE of a publication or timeout of a subscription, in ns. -/
def trdpNs (e : Trdp) : Nat := fld e.pd 13 0 * 1000000
def trdpCom (e : Trdp) : Nat := fld e.com 47 16
def trdpUsed (e : Trdp) : Bool := trdpCount e != 0

/-- headerFcs of a telegram: the CRC-32 of the 36 header bytes before it, with its bytes in little-endian order (IEC 61375-2-3,
PRESUMED, log 110). -/
def trdpFcs (t : Telegram) : Nat :=
  let c := crc32 (toBe 4 t.seq ++ toBe 2 t.version.toNat ++ toBe 2 t.msgType.toNat ++ toBe 4 t.comId ++ toBe 4 t.etbTopo ++ toBe 4 t.opTopo ++
    toBe 4 t.dsLen ++ toBe 4 t.reserved ++ toBe 4 t.replyComId ++ toBe 4 t.replyIp)
  beVal (toBe 4 c).reverse

/-- The network port's event source on a MAC: 0 received, 1 sent, 2 link, 3 PTP. -/
def ethSrc (n k : Nat) : Nat := 84 + 4 * n + k

/-- Publication k has sent its telegram with counter q: it counts as sent (R340), with source 84 + 4n + 1 where the entry asks for it,
and the standby is told the counter. -/
def trdpSent (k q : Nat) (s : State) : State :=
  let s := pairSend (.send 1 k q) (updTrdp k (fun e => { e with last := some q, nOk := e.nOk + 1 }) s)
  if bit (getTrdp s k).pd 38 then fire (ethSrc (trdpMac (getTrdp s k)) 1) s else s

/-- A body as it leaves MAC n: a telegram takes the counter of its comId, which rises by 1 for each telegram that the MAC sends
(R330). -/
def sentBody (n : Nat) (b : EthBody) (s : State) : EthBody × State :=
  match b with
  | .trdp t =>
    let q := tget 0 (getMac s n).seq t.comId
    let t := { t with seq := q }
    let s := updMac n (fun m => { m with seq := tput 0 t.comId ((q + 1) % 2 ^ 32) m.seq }) s
    let ks := s.eth.trdp.filterMap (fun e =>
      if trdpUsed e.2 && trdpPub e.2 && e.2.active && trdpMac e.2 == n && trdpCom e.2 == t.comId then some e.1 else none)
    (.trdp { t with headerFcs := trdpFcs t }, ks.foldl (fun s k => trdpSent k q s) s)
  | b => (b, s)

/-- Frames that a body stands for: a two-step PTP message is followed by its Follow_Up (13 R336). -/
def bodyFrames : EthBody → Nat
  | .ptp _ (.sync _ _ _ _) => 2
  | .ptp _ (.pdelayResp _ _ _ _ _) => 2
  | _ => 1

/-- A frame leaves the MAC for a next hop, or is discarded while its link is down (13 R325). -/
def ethEmit (n hop dst : Nat) (b : EthBody) (s : State) : State :=
  let m := getMac s n
  if macOn m && m.up then
    let (b, s) := sentBody n b s
    emit (.eth n (macTag m b) hop dst b) (updMac n (fun m => { m with nTx := m.nTx + bodyFrames b }) s)
  else updMac n (fun m => { m with nDisc := m.nDisc + bodyFrames b }) s

/-- An address in the MAC's prefix. -/
def inPrefix (m : EthMac) (ip : Nat) : Bool := ip / 2 ^ (32 - macPrefix m) == macIp m / 2 ^ (32 - macPrefix m)

def isMulticast (ip : Nat) : Bool := 0xE0000000 ≤ ip

/-- Hardware address of an IPv4 group (RFC 1112, PRESUMED, log 110). -/
def groupHw (ip : Nat) : Nat := 0x01005E000000 + ip % 2 ^ 23

def broadcastHw : Nat := 0xFFFFFFFFFFFF

def arpReq (m : EthMac) (ip : Nat) : EthBody := .arpRequest m.mac.toNat (macIp m) ip

/-- A datagram to an address: sent at once, held for the resolution of its next hop, or discarded (13 R328). -/
def ethSend (n dst : Nat) (b : EthBody) (s : State) : State :=
  let m := getMac s n
  if !(macOn m && m.up) then ethDiscard n s
  else if isMulticast dst then ethEmit n (groupHw dst) dst b s
  else
    let hop := if inPrefix m dst then dst else macGw m
    if hop = 0 then ethDiscard n s
    else match tget none m.arp hop with
    | some a => ethEmit n a.mac dst b s
    | none => match tget none m.wait hop with
      | none => ethEmit n broadcastHw hop (arpReq m hop) (updMac n (fun m => { m with wait := tput none hop (some ⟨s.clk, 1, [(dst, b)]⟩) m.wait }) s)
      | some w =>
        if w.frames.length < 4 then
          updMac n (fun m => { m with wait := tput none hop (some { w with frames := w.frames ++ [(dst, b)] }) m.wait }) s
        else ethDiscard n s

/-- Payload pieces of a datagram: up to 1,472 bytes of UDP data in the first packet, 1,480 in the others. -/
def fragPieces : Nat → Bytes → List Bytes
  | 0, _ => []
  | n + 1, d => if d = [] then [] else d.take 1480 :: fragPieces n (d.drop 1480)

/-- A UDP datagram, in fragments of at most 1,500 bytes of packet where it does not fit one frame (13 R329). -/
def udpSend (n dst sport dport : Nat) (data : Bytes) (s : State) : State :=
  let src := macIp (getMac s n)
  if data.length ≤ 1472 then ethSend n dst (.udp ⟨src, sport, dst, dport, data⟩) s
  else
    let id := (getMac s n).ident
    let s := updMac n (fun m => { m with ident := (m.ident + 1) % 65536 }) s
    let rest := fragPieces data.length (data.drop 1472)
    let s := ethSend n dst (.fragment ⟨src, dst, sport, dport, id, 0, true, data.take 1472⟩) s
    (rest.zip (List.range rest.length)).foldl (fun s e =>
      ethSend n dst (.fragment ⟨src, dst, sport, dport, id, 1472 + 1480 * e.2, e.2 + 1 < rest.length, e.1⟩) s) s

/-- A reply of a UDP mailbox channel (02 R61, 13 R329). -/
def udpReply (mac ip port : Nat) (m : Bytes) (s : State) : State := udpSend mac ip s.eth.port port m s

/-- The link of a MAC is up. -/
def macUp (s : State) (n : Nat) : Bool := (getMac s n).up

/-- A gratuitous ARP. -/
def gratuitous (n : Nat) (s : State) : State :=
  let m := getMac s n
  ethEmit n broadcastHw (macIp m) (.arpRequest m.mac.toNat (macIp m) (macIp m)) s

/-- A MAC that is enabled and whose link is up. -/
def macLive (m : EthMac) : Bool := macOn m && m.up

/-- A TRDP telegram with the header of 13 R330; its counter and headerFcs are set as it leaves. -/
def trdpSend (n comId dst : Nat) (data : Bytes) (s : State) : State :=
  ethSend n dst (.trdp ⟨macIp (getMac s n), dst, 0x0100#16, 0x5064#16, comId, s.eth.etb, s.eth.opTrn, data.length, 0, 0, 0, 0, 0,
    40 + data.length, data⟩) s

end Sys2Proof.Machine
end

