-- ==== Sys2Proof/Machine/Mb.lean ====
section
/-! DEFINITION. What every mailbox command shares: result codes (02 Table 2-10), the checks of 02 R46 and R482, the
status field (02 R63), and how a command's outcome is kept for the end of its execution. -/

namespace Sys2Proof.Machine

/-! ### Result codes (02 Table 2-10) -/

def rcOk : Nat := 0x0000
def rcBusy : Nat := 0x0001
def rcReplay : Nat := 0x0002
def rcBadTag : Nat := 0x0010
def rcSeqConflict : Nat := 0x0011
def rcSeqWindow : Nat := 0x0012
def rcNotPermitted : Nat := 0x0013
def rcBadLength : Nat := 0x0014
def rcUnknownCmd : Nat := 0x0015
def rcBadState : Nat := 0x0016
def rcBadParam : Nat := 0x0017
def rcNoSession : Nat := 0x0018
def rcNoResource : Nat := 0x0019

/-- What a command that passed its checks gives: result code, reply payload (none while it still executes), state. -/
structure MbOk where
  rc : Nat
  reply : Option Bytes
  s : State

/-- A command's outcome: a result code of a failed check, with nothing changed, or what it gives. -/
abbrev MbR := Except Nat MbOk

/-- A check with the result code of its failure. -/
def need (b : Bool) (rc : Nat) : Except Nat Unit := if b then .ok () else .error rc

/-- Check 9. -/
def perm (b : Bool) : Except Nat Unit := need b rcNotPermitted
/-- Check 10. -/
def lenIs (p : Bytes) (n : Nat) : Except Nat Unit := need (p.length == n) rcBadLength
/-- Check 11 of a command that only reads. -/
def stOk (b : Bool) : Except Nat Unit := need b rcBadState
/-- Check 11 of a command that changes something: never in UPDATE (02 R64), nor on a unit that refuses changes (15 R382). -/
def stChg (s : State) (b : Bool) : Except Nat Unit := need (!updating s && !pairRefuses s && b) rcBadState
/-- Check 11 of a command that changes something and that every unit of a pair accepts: class 0x0A, loading (15 R382). -/
def stOwn (s : State) (b : Bool) : Except Nat Unit := need (!updating s && b) rcBadState
/-- Check 11 of a command that changes something, for a payload whose selector or encoded value may be one that the command does not
list: such a value passes, and check 12 refuses it (02 R482). -/
def stSel (listed : Bool) (s : State) (b : Bool) : Except Nat Unit := if listed then stChg s b else .ok ()
/-- Check 12. -/
def par (b : Bool) : Except Nat Unit := need b rcBadParam

/-- Executed, with a reply payload. -/
def reply (b : Bytes) (s : State) : MbR := .ok ⟨rcOk, some b, s⟩
/-- Executed, no reply payload. -/
def done (s : State) : MbR := reply [] s
/-- Still executing. -/
def defer (s : State) : MbR := .ok ⟨rcOk, none, s⟩

/-- Check 10 where a selector at offset o chooses the form: the payload reaches the selector's end and has the form's
length; a value not listed passes (02 R482). -/
def formLen (p : Bytes) (o : Nat) (forms : List (Nat × Nat)) : Except Nat Unit := do
  need (o < p.length) rcBadLength
  match forms.find? (fun f => f.1 == u8 p o) with
  | some f => lenIs p f.2
  | none => .ok ()

/-- The level byte is listed (02 R482). -/
def levelOk (p : Bytes) (o : Nat) : Bool := u8 p o ≤ 1

/-- The message is too short to name its object; check 10 then answers. -/
def short (p : Bytes) (n : Nat) : Bool := p.length < n

/-! ### Status field (02 R63, R64, R483) -/

/-- A word of plot n is forced where tenant t owns the plot or it is shared to it (05 R149). -/
def forceSeen (s : State) (t : Nat) : Bool :=
  s.task.force.any (fun e => e.2.isSome &&
    (ownTENANT (plotOwn s (e.1 / 64)) == t && ownPOS (plotOwn s (e.1 / 64)) != 0 || sharedRead s.img.own t e.1))

def getAxle (s : State) (n : Nat) : Axle := tget {} s.tb.axle n
def getMains (s : State) (n : Nat) : Mains := tget {} s.tb.mains n
def axleOn (a : Axle) : Bool := bit a.cfg 15
def mainsOn (m : Mains) : Bool := bit m.cfg 45

/-- TIME (07 R184). -/
def timeBad (s : State) : Bool :=
  !s.tb.wallOk || ((List.range 4).any (fun n => axleOn (getAxle s n)) && !s.tb.lpOk) ||
    (List.range 2).any (fun n => mainsOn (getMains s n) && (getMains s n).state == 4)

/-- ALM of a tenant (09 R238, R240), and for T0 the alarm of a heartbeat path that is lost (15 R378; how it stands: the model's choice,
log 124). -/
def hasAlarm (s : State) (t : Nat) : Bool :=
  (t == 0 && (s.pair.syncLost || s.pair.aliveLost)) ||
  s.svc.alm.any (fun e => match e.2 with | some a => a.shelved.isNone && a.unack.testBit t | none => false)

/-- Condition of SAFE at session open (02 R65), which Table 2-8 words as an event: the channel awaits confirmation, or holds a
configuration and is not in SAFE_RUN (the model's reading, log 93). -/
def safeCond (s : State) : Bool := s.saf.state == 4 || (s.saf.state != 5 && s.saf.block != [])

/-- STATE SWAP (15 R373). -/
def inSwap (s : State) : Bool := s.pair.rstate == 7

/-- STATE with the mode m standing where no device state does (02 R64). -/
def stateNibble (s : State) (m : Nat) : Nat :=
  if boot s then 0 else if s.sup.sleeping then 5 else if updating s then 7 else if inSwap s then 6 else m

/-- The status field of a channel (02 Table 2-8). -/
def statusField (s : State) (ch : Nat) : Nat :=
  let t := (chanCfg s ch).tenant
  let c := getChan s ch
  let l := if c.isOpen then c.latch.toNat else 0
  let attn := if l &&& 0x5F90 = 0 then 0 else 0x8000
  let l := l &&& 0x5F90
  attn + l + b2n (hasAlarm s t) * 0x2000 + b2n (timeBad s) * 0x40 + b2n (forceSeen s t) * 0x20 + stateNibble s (effMode s t)

/-! ### Running a command -/

/-- The outcome of the command executing on a channel. -/
def setResult (ch : Nat) (rc : Nat) (b : Bytes) (s : State) : State :=
  if ch < 16 then updChan ch (fun c => { c with result := some (rc, b) }) s else s

/-- Commands whose acceptance the primary carries to the standby as a CHANGE record (15 Table 15-6); channel settings,
keys, reads, transmissions and what belongs to one unit alone are not carried (15 R382). -/
def carriedCmd (c : Nat) : Bool :=
  [0x0201, 0x0202, 0x0204, 0x0206, 0x0207, 0x0208, 0x0209, 0x020A, 0x0304, 0x0305, 0x0306, 0x0307, 0x0310, 0x0312, 0x0320, 0x0321,
   0x0401, 0x0501, 0x0502, 0x0601, 0x0602, 0x0603, 0x0604, 0x0606, 0x0607, 0x0608, 0x0609, 0x0703, 0x0704, 0x0705, 0x0706,
   0x0710, 0x0711, 0x0712, 0x0713, 0x0801, 0x0803, 0x0810, 0x0811, 0x0820, 0x0822, 0x0823, 0x0830, 0x0840, 0x0842, 0x0850, 0x0851,
   0x0852, 0x0904, 0x0A04, 0x0C01, 0x0C02, 0x0C03, 0x0C04, 0x0C05, 0x0C06, 0x0C07, 0x0C09, 0x0D01, 0x0D02, 0x0D03, 0x0D0A, 0x0D20,
   0x0D21, 0x0D23, 0x0D25, 0x0D26, 0x0D27, 0x0E01, 0x0E02, 0x0E03, 0x0F04, 0x0F06, 0x0F08, 0x0F09].contains c

/-- The CHANGE record of the command executing on a channel. -/
def carryChange (ch : Nat) (s : State) : State :=
  match (getChan s ch).exec with
  | some r => if carriedCmd r.cmd then pairSend (.change (chanCfg s ch).tenant r.cmd r.payload) s else s
  | none => s

/-- A value write that waits for its anchor is carried when it is applied (05 R153). -/
def carriedLater (ch : Nat) (o : MbOk) (s : State) : Bool :=
  o.reply.isNone && (match (getChan s ch).exec with | some r => r.cmd == 0x0401 | none => false)

/-- The state after a command with outcome r, from state s. -/
def finishMb (ch : Nat) (r : MbR) (s : State) : State :=
  match r with
  | .error rc => setResult ch rc [] s
  | .ok o =>
    let s' := if o.rc = rcOk && !carriedLater ch o o.s then carryChange ch o.s else o.s
    match o.reply with
    | some b => setResult ch o.rc b s'
    | none => updChan ch (fun c => { c with started := true }) s'

/-- The channel executes a request with this command code and payload, and the command has not begun (02 R46, R49). -/
def asked (s : State) (ch code : Nat) (p : Bytes) : Bool :=
  let c := getChan s ch
  c.result.isNone && !c.started && (match c.exec with | some r => r.cmd == code && r.payload == p | none => false)

/-- A mailbox command runs once for the accepted request that asks for it, with the rights of its channel's tenant (02 R46 checks 9
to 13); where the channel executes no such request nothing happens. -/
def runMb (ch : Fin 16) (code : Nat) (f : Nat → Nat → Bytes → State → MbR) (p : Bytes) (s : State) : Host.Outcome State Fault Refusal :=
  .next (if asked s ch.val code p then finishMb ch.val (f (chanCfg s ch.val).tenant ch.val p s) s else s)

/-! ### The Silo's own code (17 R417, R418) -/

/-- The aligned 8-byte group g lies, at least in part, in bytes at an address. -/
def inGroups (addr len g : Nat) : Bool := 0 < len && addr / 8 ≤ g && g ≤ (addr + len - 1) / 8

/-- Bytes that hold an uncorrectable error: their record is taken as torn. -/
def siloTorn (s : State) (addr len : Nat) : Bool := s.silo.hard.any (inGroups addr len)

/-- Area of an address as 0x1001 names it (Table 17-9). -/
def siloArea (addr : Nat) : Nat := if addr < 0x030000 then 0 else if addr < 0x060000 then 1 else if addr < 0x160000 then 2 else 3

/-- A read of bytes of the Silo (17 R418): each single-bit error is corrected, with 0x100B; each uncorrectable one fires source
360 and writes 0x1001. Both are counted in the Silo. -/
def siloRead (addr len : Nat) (s : State) : State :=
  let s := (s.silo.soft.filter (inGroups addr len)).foldl (fun s g =>
    let n : Nat := s.gln.corrections + 1
    gln 0x100B 3 0 (8 * g : Nat) n { s with
      silo := { s.silo with soft := s.silo.soft.filter (· != g), corrected := (s.silo.corrected + 1) % 2 ^ 32 }
      gln := { s.gln with corrections := n } }) s
  (s.silo.hard.filter (inGroups addr len)).foldl (fun s g =>
    gln 0x1001 3 0 (8 * g : Nat) (siloArea (8 * g)) (fire 360 { s with silo := { s.silo with uncorrected := (s.silo.uncorrected + 1) % 2 ^ 32 } })) s

/-- Bytes of the Silo are written: what they held no longer matters. -/
def siloPut (addr len : Nat) (s : State) : State :=
  { s with silo := { s.silo with soft := s.silo.soft.filter (fun g => !inGroups addr len g), hard := s.silo.hard.filter (fun g => !inGroups addr len g) } }

/-! ### Blocks of the program store (16 R405, R406, R408) -/

/-- The physical block behind a block of Table 16-6. -/
def physBlock (s : State) (b : Nat) : Nat := (tget none s.flash.remap b).getD b

/-- Blocks of a region copy: its first, and how many there are (Table 16-6). -/
def regionBlocks (region index : Nat) : Nat × Nat :=
  match region with
  | 0 => (index, 1)
  | 1 => (6 + 48 * index, 48)
  | 2 => (102 + 160 * index, 160)
  | 3 => (422 + 8 * index, 8)
  | 5 => (2 + index, 1)
  | 6 => (4 + index, 1)
  | _ => (438 + index, 1)

/-- Content bytes of one block: 64 KiB less the header. -/
def blockBytes : Nat := 65504

/-- Blocks that a content of some length takes. -/
def blocksFor (len : Nat) : Nat := Nat.max 1 ((len + blockBytes - 1) / blockBytes)

/-- The header of block k of a region copy (Table 16-7). -/
def blockHead (region index k gen : Nat) (content : Bytes) : Bytes :=
  let b := toBe 4 0x56524B42 ++ toBe 1 region ++ toBe 1 index ++ toBe 2 k ++ toBe 4 gen ++ toBe 4 content.length ++
    toBe 4 (crc32 content) ++ toBe 8 0
  b ++ toBe 4 (crc32 b)

/-- Block k of a region copy, header and its part of the content. -/
def copyBlock (region index k gen : Nat) (content : Bytes) : Block :=
  ⟨blockHead region index k gen content, (content.drop (k * blockBytes)).take blockBytes⟩

/-- A header with a correct CRC. -/
def headOk (h : Bytes) : Bool := h.length == 32 && be h 0 4 == 0x56524B42 && be h 28 4 == crc32 (h.take 28)

/-- What the block behind a block of Table 16-6 holds. -/
def blockAt (s : State) (b : Nat) : Option Block := tget none s.flash.block (physBlock s b)

/-- A block has the header of block k of a copy whose first block has header h. -/
def headFits (region index k : Nat) (h : Bytes) (b : Option Block) : Bool :=
  match b with
  | some b => headOk b.head && be b.head 4 1 == region && be b.head 5 1 == index && be b.head 6 2 == k &&
      (b.head.drop 8).take 12 == (h.drop 8).take 12
  | none => false

/-- A region copy as its blocks hold it (R406): none where its first block is blank. It is valid when each of its blocks has a right
header of the same generation and the content CRC is that of the whole content; a firmware bank is also signed. -/
def regionCopy (s : State) (region index : Nat) : Option RegionCopy :=
  let (f, n) := regionBlocks region index
  (blockAt s f).map (fun b0 =>
    let len := be b0.head 12 4
    let m := Nat.min n (blocksFor len)
    let bs := (span f m).map (blockAt s)
    let content := (bs.flatMap (fun b => (b.map (·.data)).getD [])).take len
    { valid := (bs.zip (List.range m)).all (fun e => headFits region index e.2 b0.head e.1) && content.length == len &&
        crc32 content == be b0.head 16 4 && (region != 1 || Config.signatureOk content)
      gen := be b0.head 8 4, crc := be b0.head 16 4, content })

/-- The content of a valid copy. -/
def validContent (s : State) (region index : Nat) : Option Bytes :=
  (regionCopy s region index).bind (fun c => if c.valid then some c.content else none)

/-- A physical block is erased: it is blank, its count rises and source 116 fires. -/
def erasePhys (k : Nat) (s : State) : State :=
  fire 116 { s with flash := { s.flash with erases := tput 0 k (tget 0 s.flash.erases k + 1) s.flash.erases, block := tput none k none s.flash.block } }

/-- A block of Table 16-6 is erased. -/
def eraseBlock (b : Nat) (s : State) : State := erasePhys (physBlock s b) s

/-- Header and content of a block are programmed. -/
def putBlock (b : Nat) (x : Block) (s : State) : State :=
  { s with flash := { s.flash with block := tput none (physBlock s b) (some x) s.flash.block } }

/-- A block is retired and a spare takes its place: cause 0 erase, 1 program verify, 2 wear. -/
def retireBlock (b cause : Nat) (s : State) : State :=
  let s' := { s with flash := { s.flash with remap := tput none b (some (502 + s.flash.sparesUsed)) s.flash.remap
                                             sparesUsed := s.flash.sparesUsed + 1 } }
  gln 0x0F12 3 0 (physBlock s b) cause (fire 118 s')

/-- CRC-16 of a journal entry (Table 16-8, 17 R426). -/
def journalCrc (e : Journal) : Nat := crc16 (toBe 4 e.seq ++ toBe 2 e.block ++ toBe 1 e.region ++ toBe 1 e.index ++ toBe 4 e.gen)

/-- Address of a journal entry in the Silo. -/
def journalAddr (e : Journal) : Nat := 0x161000 + 16 * (e.seq % 256)

/-- A journal entry for a block: intent, or completion of it. -/
def journalPut (b region index gen : Nat) (complete : Bool) (s : State) : State :=
  let j := s.flash.journal
  let k := physBlock s b
  let seq := match j with | e :: _ => (e.seq + 1) % 2 ^ 32 | [] => 0
  let e : Journal := ⟨seq, k, region, index, gen, 0, false⟩
  let e := { e with crc := journalCrc e }
  if complete then { s with flash := { s.flash with journal := j.map (fun e => if e.block == k && !e.complete then { e with complete := true } else e) } }
  else siloPut (journalAddr e) 16 { s with flash := { s.flash with journal := (e :: j).take 256 } }

/-- A region copy is complete: source 117 and Gleaner 0x0F11. -/
def copyDone (region index gen : Nat) (s : State) : State := gln 0x0F11 3 0 (region * 256 + index : Nat) gen (fire 117 s)

/-- Why the block that is written now fails, where it does: 0 erase, 1 program verify, 2 wear (R405). What an erase or a verify of a block
outside a region copy finds is reported ahead of it (log 125). -/
def blockFails (s : State) (b : Nat) : Option Nat :=
  match s.flash.fault with
  | some c => some c
  | none => if 100000 ≤ tget 0 s.flash.erases (physBlock s b) + 1 then some 2 else none

/-- The write of one block outside a region copy needs no spare, or there is one (R405). -/
def blockFits (s : State) (b : Nat) : Bool := (blockFails s b).isNone || decide (s.flash.sparesUsed < 10)

/-- One block is erased and programmed under a journal entry, on a spare where it fails; with none left it is not written (R405,
R408). -/
def writeBlock (b region index gen : Nat) (x : Option Block) (s : State) : State :=
  let once := fun (s : State) =>
    let s := eraseBlock b (journalPut b region index gen false s)
    match x with | some x => putBlock b x s | none => s
  match blockFails s b with
  | none => journalPut b region index gen true (once s)
  | some c =>
    if 10 ≤ s.flash.sparesUsed then s
    else
      let s := eraseBlock b (journalPut b region index gen false { s with flash := { s.flash with fault := none } })
      journalPut b region index gen true (once (retireBlock b c s))

/-- The block that a region of two blocks writes next. -/
def smallBlock (region gen : Nat) : Nat := (regionBlocks region (gen % 2)).1

/-- The next generation of the key area (5) or of the safety block (6). -/
def areaGen (s : State) (region : Nat) : Nat := (tget 0 s.flash.smallGen region + 1) % 2 ^ 32

/-- The key area or the safety block can be written: the command that asks for it is else refused with NO_RESOURCE (R405). -/
def areaFits (s : State) (region : Nat) : Bool := blockFits s (smallBlock region (areaGen s region))

/-- A region of two blocks that alternate is written with a generation: boot records (0), key area (5), safety block (6). -/
def smallStore (region gen : Nat) (content : Bytes) (s : State) : State :=
  let b := smallBlock region gen
  if !blockFits s b then s
  else copyDone region (gen % 2) gen (writeBlock b region (gen % 2) gen (some (copyBlock region (gen % 2) 0 gen content)) s)

/-- The key area or the safety block is written with its next generation; the bytes it holds are open (log 1). -/
def storeArea (region : Nat) (s : State) : State :=
  let g := areaGen s region
  smallStore region g (Config.areaBytes region g) { s with flash := { s.flash with smallGen := tput 0 region g s.flash.smallGen } }

end Sys2Proof.Machine
end

