-- ==== Sys2Proof/Machine/CanOps.lean ====
section
/-! DEFINITION. CAN controllers: buffers, cancellation, error states and receive routing (12 R309 to R317), and the
acceptance of remote-module sets (06 R176, R177). -/

namespace Sys2Proof.Machine

def getCan (s : State) (n : Nat) : CanCtl := tget {} s.can.ctl n
def updCan (n : Nat) (f : CanCtl → CanCtl) (s : State) : State := { s with can := { s.can with ctl := tupd {} n f s.can.ctl } }
def canBuf (c : CanCtl) (b : Nat) : CanBuf := tget {} c.buf b
def putCanBuf (b : Nat) (v : CanBuf) (c : CanCtl) : CanCtl := { c with buf := tput {} b v c.buf }

/-! ### Queues (12 Table 12-6) -/

def canQue (c : CanCtl) (q : Nat) : Word := wget c.que q
def queDir (c : CanCtl) (q : Nat) : Bool := if q = 0 then false else if q = 1 then true else bit (canQue c q) 47
def queTenant (c : CanCtl) (q : Nat) : Nat := if q < 2 then 0 else fld (canQue c q) 46 42
def queFirst (c : CanCtl) (q : Nat) : Nat := fld (canQue c q) 40 34
def queCount (c : CanCtl) (q : Nat) : Nat := fld (canQue c q) 33 26
def queUsed (c : CanCtl) (q : Nat) : Bool := queCount c q != 0

/-- Buffers of a transmit queue that can take a frame, ascending. -/
def canFree (c : CanCtl) (q : Nat) : List Nat :=
  (span (queFirst c q) (queCount c q)).filter (fun b => let v := canBuf c b; v.state != 1 && v.state != 2)

/-- FD data lengths. -/
def fdLens : List Nat := [0, 1, 2, 3, 4, 5, 6, 7, 8, 12, 16, 20, 24, 32, 48, 64]

/-- The smallest FD data length of at least n bytes (12 R315). -/
def fdLen (n : Nat) : Nat := (fdLens.find? (n ≤ ·)).getD 64

/-- Identifier as a command or entry carries it, with bit 31 IDE. -/
def idWord (f : CanFrame) : Nat := f.id + b2n f.ide * 2 ^ 31

/-! ### Transmission (12 R312 to R314) -/

/-- Arbitration order: what the bus resolves dominant first. -/
def arbKey (f : CanFrame) : Nat :=
  if f.ide then ((f.id / 2 ^ 18 * 2 + 1) * 2 ^ 18 + f.id % 2 ^ 18) * 2 + b2n f.fd
  else (f.id * 2) * 2 ^ 19 + b2n f.fd

/-- The PENDING buffer that would win arbitration; ties to the lowest number. -/
def canChoose (c : CanCtl) : Option Nat :=
  (c.buf.filterMap (fun e => if e.2.state = 1 then e.2.frame.map (fun f => (e.1, arbKey f)) else none)).foldl
    (fun best e => match best with
      | none => some e
      | some b => if e.2 < b.2 then some e else best) none |>.map (·.1)

/-- A buffer reaches a final state: a host frame leaves its result in the queue's ring and frees the buffer (R312). -/
def canFinish (b st : Nat) (c : CanCtl) : CanCtl :=
  let v := canBuf c b
  let c := match v.handle with
    | some h => { c with res := tupd [] v.queue (fun l => (⟨h, st, v.attempts, v.sof⟩ :: l).take 256) c.res }
    | none => c
  if v.handle.isSome then putCanBuf b {} c else putCanBuf b { v with state := st } c

/-- Cancellation of one buffer (R314). -/
def canCancelBuf (b : Nat) (c : CanCtl) : CanCtl :=
  let v := canBuf c b
  if v.state = 1 then canFinish b 4 c else if v.state = 2 then putCanBuf b { v with cancel := true } c else c

/-- Cancellation of every buffer that satisfies q. -/
def canCancelWhere (q : CanBuf → Bool) (c : CanCtl) : CanCtl :=
  (c.buf.filterMap (fun e => if q e.2 then some e.1 else none)).foldl (fun c b => canCancelBuf b c) c

/-- Frames queued in given buffers. -/
def canQueueIn (clk q : Nat) (module : Option Nat) (handles : Bool) (bs : List Nat) (fs : List CanFrame) (c : CanCtl) : CanCtl :=
  (bs.zip fs).foldl (fun c e =>
    let h := if handles then some c.nextHandle else none
    { putCanBuf e.1 { state := 1, queue := q, frame := some e.2, handle := h, module, since := clk } c with
      nextHandle := if handles then (c.nextHandle + 1) % 2 ^ 32 else c.nextHandle }) c

/-- The frames of an output set take ascending buffers of queue 1 after the last used one, or from the first (R315); a set
that finds too few free buffers is not sent. -/
def canQueueSet (clk m : Nat) (fs : List CanFrame) (c : CanCtl) : CanCtl :=
  let c := canCancelWhere (fun v => v.module == some m && v.queue == 1) c
  let free := canFree c 1
  let after := free.filter (fun b => match c.lastBuf with | some l => l < b | none => true)
  let bs := if fs.length ≤ after.length then after.take fs.length else free.take fs.length
  if bs.length < fs.length then c
  else { canQueueIn clk 1 (some m) false bs fs c with lastBuf := bs.getLast?.or c.lastBuf }

/-! ### Error states (12 R317; counters as ISO 11898-1, PRESUMED, log 5) -/

def canPassive (c : CanCtl) : Bool := 127 < c.tec || 127 < c.rec_

/-- A controller that was error passive is so no longer: 0x0B01 (R317). -/
def canLeft (n : Nat) (was : CanCtl) (s : State) : State :=
  let c := getCan s n
  if was.bstate == 2 && c.bstate != 2 then gln 0x0B01 3 0 (n * 2 : Nat) (c.tec * 256 + c.rec_ : Nat) s else s

/-- A controller leaves its bus for SLEEP: CANn_TXD recessive, CANn_STB high (R318). -/
def canClose (n : Nat) (s : State) : State :=
  canLeft n (getCan s n) (updCan n (fun c => { c with standby := true, bstate := 5, frameErr := 0, closing := false }) s)

/-- Entry to SLEEP of an enabled controller: every PENDING buffer is cancelled, and an ACTIVE attempt runs to its end first
(R314, R318). -/
def canSleep (n : Nat) (s : State) : State :=
  let s := updCan n (canCancelWhere (fun v => v.state == 1 || v.state == 2)) s
  if (getCan s n).buf.any (fun e => e.2.state == 2) then updCan n (fun c => { c with closing := true }) s else canClose n s

/-- BSTATE and the entries that follow a change of the error counters: entry to and exit from error passive, bus-off. -/
def canJudge (n : Nat) (was : CanCtl) (s : State) : State :=
  let c := getCan s n
  if c.bstate != 1 && c.bstate != 2 then s
  else if 255 < c.tec then
    let bs := c.buf.filterMap (fun e => if e.2.state = 1 || e.2.state = 2 then some e.1 else none)
    let s := canLeft n was (updCan n (fun c => { bs.foldl (fun c b => canFinish b 6 c) c with bstate := 3, boffAt := s.clk }) s)
    gln 0x0B02 3 0 n bs.length (fire (68 + 4 * n + 2) s)
  else
    let s := updCan n (fun c => { c with bstate := if canPassive c then 2 else 1 }) s
    let e : Nat := c.tec * 256 + c.rec_
    if canPassive c && was.bstate == 1 then gln 0x0B01 3 0 (n * 2 + 1 : Nat) e s
    else canLeft n was s

/-! ### Remote-module sets (06 R174 to R177) -/

/-- Bytes whose CRC-32 is a module's configuration digest (06 R174). -/
def rioDigest (s : State) (m : Nat) : Nat :=
  let r := getRio s m
  crc32 (wB r.mod ++ wB r.tmo ++ wB r.ip ++ r.subst.flatMap wB)

def rioUsed (r : Rio) : Bool := (rioIN r).2 != 0 || (rioOUT r).2 != 0

/-- The object's digest in force is accepted by its tenant, or it serves T0 (06 R174). -/
def objAccepted (s : State) (kind obj tenant digest : Nat) : Bool :=
  tenant == 0 || (tget [] s.flash.accepted (kind * 65536 + obj)).contains digest

/-- Activity of a module judged again (06 R174). -/
def judgeRio (m : Nat) (s : State) : State :=
  let r := getRio s m
  let d := rioDigest s m
  let a := !rioUsed r || objAccepted s 1 m (rioTenant r) d
  if a = r.active then s
  else gln 0x0409 3 (rioTenant r) (1 * 65536 + m : Nat) (d * 2 + b2n a : Nat) (updRio m (fun r => { r with active := a }) s)

/-- A complete input set of module m (06 R177). -/
def remoteSet (m seq mstat : Nat) (words : List Word) (s : State) : State :=
  let r := getRio s m
  let t := rioTenant r
  let accept := fun (s : State) =>
    let was := r.timedOut
    let s := updRio m (fun r => { r with lastSeq := some seq, timedOut := false, substituted := false,
                                         fault := mstat % 2 == 1, lastAt := s.clk }) s
    let s := unitUpdate (64 + m) false ((span (rioIN r).1 words.length).zip words) s
    if was then gln 0x0406 3 t m seq s else s
  if !r.active then updRio m (fun r => { r with discarded := r.discarded + 1 }) s
  else match r.lastSeq with
    | none => accept s
    | some l =>
      let d := (seq + 65536 - l) % 65536
      if r.timedOut then accept s
      else if d = 0 then updRio m (fun r => { r with dup := r.dup + 1 }) s
      else if d ≤ 32767 then accept s
      else gln 0x0407 3 t m seq (updRio m (fun r => { r with old := r.old + 1 }) s)

/-- A frame of module m that is malformed (06 Table 6-11). -/
def remoteMalformed (m seq : Nat) (s : State) : State :=
  let r := getRio s m
  let s := updRio m (fun r => { r with discarded := r.discarded + 1 }) s
  if r.active then gln 0x0407 3 (rioTenant r) m (2 * 65536 + seq : Nat) s else s

/-- The words of a frame. -/
def frameWords (data : Bytes) (n : Nat) : List Word := (items data 4 6 n).map (fun b => wd (beVal b))

/-- A CAN frame of module m's input identifier (06 R176, 12 R315). -/
def remoteCanFrame (m : Nat) (f : CanFrame) (s : State) : State :=
  let r := getRio s m
  let n := (rioIN r).2
  let frames := (n + 9) / 10
  let seq := be f.data 0 2
  let k := u8 f.data 3 / 16
  let w := if k + 1 < frames then 10 else n - 10 * k
  if !(f.fd && 4 ≤ f.data.length && n != 0 && k < frames && u8 f.data 3 % 16 + 1 == frames && f.data.length == fdLen (4 + 6 * w)) then
    remoteMalformed m seq s
  else if !r.active then updRio m (fun r => { r with discarded := r.discarded + 1 }) s
  else
    let s := match r.part with
      | some (q, _, _) => if q = seq then s
          else gln 0x0407 3 (rioTenant r) m (65536 + q : Nat) (updRio m (fun r => { r with part := none, incomplete := r.incomplete + 1 }) s)
      | none => s
    let have_ := match (getRio s m).part with | some (_, _, l) => l | none => []
    let l := (k, frameWords f.data w) :: have_.filter (fun e => e.1 != k)
    if l.length = frames then
      let words := (List.range frames).flatMap (fun k => ((l.find? (fun e => e.1 == k)).map (·.2)).getD [])
      remoteSet m seq (u8 f.data 2) words (updRio m (fun r => { r with part := none }) s)
    else updRio m (fun r => { r with part := some (seq, u8 f.data 2, l) }) s

/-- The module whose input identifier a frame carries (12 R310 step 1, R315). -/
def moduleOf (s : State) (n : Nat) (f : CanFrame) : Option Nat :=
  (s.img.rio.find? (fun e => rioUsed e.2 && rioBus e.2 == n && bit e.2.tmo 47 == f.ide && fld e.2.tmo 44 16 == f.id)).map (·.1)

/-! ### Receive routing (12 R310) -/

/-- A filter element takes a frame. -/
def fltMatch (w : Word) (f : CanFrame) : Bool :=
  let id := if bit w 18 then fld w 47 19 else fld w 47 37
  bit w 18 == f.ide && id / 2 ^ fld w 12 8 == f.id / 2 ^ fld w 12 8 &&
    (fld w 7 6 == 0 || (fld w 7 6 == 1 && !f.fd) || (fld w 7 6 == 2 && f.fd))

/-- Whether the rate check would pass an event of this code now (17 R428). -/
def glnPasses (s : State) (code tenant : Nat) : Bool :=
  let c := glnClassOf s code
  c == 0 || (tget {} s.gln.bucket (code * 32 + tenant)).used < (tget {} s.gln.cls c).burst

/-- A frame stored in a receive queue, or lost when it is full. The I/O engine takes each frame from queue 0, here at once
(log 109). -/
def canStore (n q : Nat) (f : CanFrame) (sof : Nat) (s : State) : State :=
  let c := getCan s n
  let l := tget [] c.rx q
  if l.length < queCount c q then
    fire (68 + 4 * n) (if q = 0 then s else updCan n (fun c => { c with rx := tput [] q (l ++ [⟨f, sof⟩]) c.rx }) s)
  else
    let k := tget 0 c.lost q + 1
    let t := queTenant c q
    let told := glnPasses s 0x0B04 t
    gln 0x0B04 3 t (n * 16 + q : Nat) k (updCan n (fun c => { c with lost := tput 0 q (if told then 0 else k) c.lost }) s)

/-- A frame received without error. A module's frame passes through queue 0, from which the I/O engine takes it. -/
def canRoute (n : Nat) (f : CanFrame) (sof : Nat) (s : State) : State :=
  match moduleOf s n f with
  | some m => 
    let s' := canStore n 0 f sof s
    if queCount (getCan s n) 0 = 0 then s' else remoteCanFrame m f s'
  | none =>
    let c := getCan s n
    match (List.range 128).find? (fun i => let w := wget c.flt i; bit w 17 && fltMatch w f) with
    | some i => canStore n (fld (wget c.flt i) 16 13) f sof s
    | none => updCan n (fun c => { c with noMatch := Nat.min 255 (c.noMatch + 1) }) s

end Sys2Proof.Machine
end

