-- ==== Sys2Proof/Machine/ImgOps.lean ====
section
/-! DEFINITION. Commits to the image and the output sets they send (05 R137, R138; 06 R178; 12 R315, R316; 13 R331). -/

namespace Sys2Proof.Machine

/-- The frames of an output set on CAN (06 Table 6-10, 12 R315). -/
def setFrames (c : CanCtl) (r : Rio) (seq : Nat) (ws : List Word) : List CanFrame :=
  let n := (ws.length + 9) / 10
  (List.range n).map (fun k =>
    let part := (ws.drop (10 * k)).take 10
    let d := toBe 2 seq ++ toBe 1 0 ++ toBe 1 (k * 16 + (n - 1)) ++ part.flatMap wB
    ⟨(fld r.tmo 44 16 + 1) % 2 ^ 29, bit r.tmo 47, true, bit c.ctl 31, false, false, d ++ List.replicate (fdLen d.length - d.length) 0#8⟩)

/-- The output block of module m sent as one set from the committed image (06 R178). -/
def remoteOutput (m : Nat) (s : State) : State :=
  let r := getRio s m
  let (a, n) := rioOUT r
  if n = 0 || !r.active || !serving s then s
  else
    let ws := (List.range n).map (fun i => imgWord s (a + i))
    let seq := r.outSeq
    let sent := fun s => pairSend (.send 0 m seq) <| updRio m (fun r => { r with outSeq := (seq + 1) % 65536, outAt := s.clk }) s
    if rioBus r < 4 then
      let c := getCan s (rioBus r)
      sent (updCan (rioBus r) (canQueueSet s.clk m (setFrames c r seq ws)) s)
    else
      let dst := if fld r.ip 47 16 = 0 then r.lastSrc else some (fld r.ip 47 16)
      match dst with
      | none => s
      | some d => sent (trdpSend (rioBus r - 4) ((fld r.tmo 47 16 + 1) % 2 ^ 32) d (toBe 2 seq ++ toBe 2 0 ++ ws.flatMap wB) s)

/-- Modules whose output block holds a word of the list whose value in `s'` differs from that in `s`. -/
def changedModules (ws : List Nat) (s s' : State) : List Nat :=
  let changed := ws.filter (fun w => imgWord s w != imgWord s' w)
  (s'.img.rio.filter (fun e => changed.any (fun w => (rioOUT e.2).1 ≤ w && w < (rioOUT e.2).1 + (rioOUT e.2).2))).map (·.1)

/-- The dies that wait for an output commit to re-arm have had one (10 R261). -/
def fioCommit (s : State) : State :=
  { s with fio := { s.fio with die := s.fio.die.map (fun e => (e.1, { e.2 with commit := e.2.commit || e.2.told })) } }

/-- One commit of image words, with what R138 makes of it: plots updated and marked, output sets sent. -/
def commitOnly (ws : List (Nat × Word)) (s : State) : State :=
  let s' := fioCommit (imgPuts ws s)
  let s' := (plotsOf ws).foldl (fun s n => updPlot n (fun p => { p with marked := true }) (plotUpdate n none false s)) s'
  (changedModules (ws.map (·.1)) s s').foldl (fun s m => remoteOutput m s) s'

/-- A commit by a slot firing, a RATE or SUPANG sample or a service, carried to the standby (15 Table 15-6 ENGINE). -/
def commitWords (ws : List (Nat × Word)) (s : State) : State := pairSend (.engine ws none [] [] [] 0) (commitOnly ws s)

/-- The image word takes its unforced value again, outside the lanes that `f'` still forces: as a unit update for a word
that the I/O engine fills, else as a commit of one word (05 R150). A plot of another position has no update of this device's
(06 R164, R168). -/
def restoreWord (w : Nat) (f : Force) (f' : Option Force) (s : State) : State :=
  let v := match f' with | some g => forced g f.free | none => f.free
  let s := { s with task := { s.task with force := tput none w f' s.task.force } }
  let o := plotOwn s (w / 64)
  let src := ownSRC o
  if ownPOS o ≠ s.pass.ownPos then imgSet w v s
  else if src = 1 || src = 2 then
    wordUpdate w (imgSet w v s)
  else
    let s' := imgSet w v s
    let s' := updPlot (w / 64) (fun p => { p with marked := true }) (plotUpdate (w / 64) none false s')
    (changedModules [w] s s').foldl (fun s m => remoteOutput m s) s'

end Sys2Proof.Machine
end

