-- ==== Sys2Proof/Machine/TbOps.lean ====
section
/-! DEFINITION. The time bases as they read at an instant: SUPANG, the trust word, the epoch word and SEG7 (07, 01
R28, 16 R401). -/

namespace Sys2Proof.Machine

/-- The trust word (07 Table 7-1). LP_COAST and LP_DEGR hold their reset value 0 until LINEPOS is first judged (log 103). -/
def tbTrust (s : State) : Word :=
  let ms := fun n => (getMains s n).state
  let adm := (List.range 4).countP (fun n => (getAxle s n).admitted)
  wd (b2n (ms 1 == 5) * 2 ^ 13 + b2n (ms 1 == 3) * 2 ^ 12 + b2n (ms 1 == 2) * 2 ^ 11 + b2n (ms 0 == 5) * 2 ^ 10 +
    b2n (ms 0 == 3) * 2 ^ 9 + b2n (ms 0 == 2) * 2 ^ 8 + b2n s.tb.wallPtp * 32 + b2n (s.tb.judged && adm == 0) * 16 +
    b2n (s.tb.judged && adm < 2) * 8 + b2n s.tb.lpFixed * 4 + b2n s.tb.lpOk * 2 + b2n s.tb.wallOk)

/-- SUPANG of a mains input: from its last reference, at its running frequency (07 R194, Table 7-7). -/
def supang (s : State) (n : Nat) : Nat :=
  let m := getMains s n
  if m.run = 0 then m.a0 % 2 ^ 48 else (m.a0 + (s.clk - m.t0) * m.run * 65536 / 1000000000000) % 2 ^ 48

/-- PEND of the epoch word (16 Table 16-4). -/
def ovlPend (s : State) : Nat :=
  ((List.range 10).map (fun k => if s.ovl.units.any (fun u => u.kind == k) then 2 ^ k else 0)).sum

/-- OVL_EPOCH with OWN as given (16 Table 16-4). -/
def ovlEpoch (s : State) (own : Bool) : Word :=
  wd (s.ovl.epoch * 2 ^ 32 + s.ovl.done * 2 ^ 16 + b2n own * 2 ^ 15 + ovlPend s)

/-- EVT_PEND[k] masked to the sources of a tenant (01 Table 1-6). -/
def evtMasked (s : State) (t k : Nat) : Word :=
  wd ((List.range 48).map (fun i => if evtPending s (48 * k + i) && evtOwner s (48 * k + i) == t then 2 ^ i else 0)).sum

/-- SEG7 of a task of tenant t as latched at its release (01 R28). -/
def seg7Of (s : State) (t k : Nat) : List Word :=
  [wd (devtime s), wd (wallSec s), wd (wallSub s), wi s.tb.pos, wi s.tb.speed, wd (supang s 0), wd (supang s 1),
   (taskEnt s k).scancnt, tbTrust s, ovlEpoch s (!(s.ovl.units.any (fun u => u.kind == 5 && u.key == k)))] ++
    List.replicate 6 0#48 ++ (List.range 8).map (evtMasked s t) ++ List.replicate 8 0#48

end Sys2Proof.Machine
end

