-- ==== Sys2Proof/Machine/Slots.lean ====
section
/-! DEFINITION. The event scheduler: arming, firing, steps, losses and stops of slots (07 R195 to R203). -/

namespace Sys2Proof.Machine

def getSlot (s : State) (n : Nat) : Slot := tget {} s.slot n
def updSlot (n : Nat) (f : Slot → Slot) (s : State) : State := { s with slot := tupd {} n f s.slot }

def slotBase (x : Slot) : Nat := fld x.cfg 47 45
def slotTenant (x : Slot) : Nat := fld x.cfg 44 40
def slotAction (x : Slot) : Nat := fld x.cfg 38 36
def slotConfirmed (x : Slot) : Bool := bit x.cfg 35
def slotDir (x : Slot) : Nat := fld x.cfg 34 33
def slotStep (x : Slot) : Bool := bit x.cfg 32
def slotLoss (x : Slot) : Bool := bit x.cfg 31
def slotPast (x : Slot) : Bool := bit x.cfg 30
def slotWord (x : Slot) : Nat := fld x.cfg 20 6
def slotLane (x : Slot) : Nat := fld x.cfg 5 0
def slotTask (x : Slot) : Nat := fld x.arg 47 40
def slotState (x : Slot) : Nat := fld x.sts 47 44
def slotArmed (x : Slot) : Bool := slotState x == 1

/-- The target as a signed LINEPOS value. -/
def slotLine (x : Slot) : Int := x.tgt.toInt

/-- STATE takes a value; EVENT_DT and the full stamp follow (07 Table 7-12). -/
def slotEnd (n st : Nat) (s : State) : State :=
  pairSend (.slot n st (wd (devtime s)))
    (updSlot n (fun x => { x with sts := setFld (setFld x.sts 47 44 st) 31 0 (devtime s), dt := wd (devtime s) }) s)

/-- Armed slots, ascending, that satisfy q. -/
def armedSlots (s : State) (q : Slot → Bool) : List Nat :=
  s.slot.filterMap (fun e => if slotArmed e.2 && q e.2 then some e.1 else none)

/-- The image action of slot n may be applied: WORD lies in a TASK plot of its TENANT at this device (07 R200). -/
def slotWordOk (s : State) (x : Slot) : Bool := inPlot s 0 (slotTenant x) (slotWord x)

/-- What the action of a slot makes of its word (07 Table 7-11). -/
def slotMakes (x : Slot) (v : Word) : Word :=
  let l := slotLane x
  match slotAction x with
  | 2 => setBit v l false
  | 3 => setBit v l (!bit v l)
  | 4 => x.arg
  | _ => setBit v l true

/-- Slot n among the slots, ascending, that have fired. -/
def slotInsert (n : Nat) (ns : List Nat) : List Nat := ns.filter (· ≤ n) ++ n :: ns.filter (n < ·)

/-- What has been written to word w by slots that fired in this tick. -/
def firedWord (s : State) (w : Nat) : FiredWord :=
  let v := unforcedWord s w
  match s.tb.fired.2.find? (fun f => f.word == w) with
  | some f => if s.tb.fired.1 = s.clk ∧ f.now = v then f else ⟨w, v, v, []⟩
  | none => ⟨w, v, v, []⟩

/-- Word w with slot n fired: the slots that have fired on it in this tick act in ascending number, so that the higher-numbered
stands whichever was called first (07 R200). -/
def fireWord (n w : Nat) (s : State) : State :=
  let f := firedWord s w
  let ns := slotInsert n f.slots
  let v := ns.foldl (fun v m => slotMakes (getSlot s m) v) f.before
  let old := if s.tb.fired.1 = s.clk then s.tb.fired.2.filter (fun g => g.word != w) else []
  commitWords [(w, v)] { s with tb := { s.tb with fired := (s.clk, ⟨w, f.before, v, ns⟩ :: old) } }

/-- The pulse of slot n on its lane starts, in place of any other there; that of a higher-numbered slot that fired in this tick
stands. -/
def startPulse (n w : Nat) (s : State) : State :=
  let x := getSlot s n
  let l := slotLane x
  let on := fun (y : Slot) => match y.pulse with
    | some (_, w', l') => w' == w && l' == l
    | none => false
  if (firedWord s w).slots.any (fun m => n < m && on (getSlot s m)) then s
  else
    let s := { s with slot := (s.slot.filter (fun e => on e.2)).foldl (fun t e => tupd {} e.1 (fun x => { x with pulse := none }) t) s.slot }
    updSlot n (fun x => { x with pulse := some (s.clk + fld x.arg 15 0 * 1000, w, l) }) s

/-- Image action of a firing (07 Table 7-11, R200); the unforced value is acted on and forces then apply (05 R147). -/
def slotAct (n : Nat) (s : State) : State :=
  let x := getSlot s n
  let w := slotWord x
  if slotAction x = 0 then s
  else if !slotWordOk s x then
    if x.noted then s else gln 0x0607 3 (slotTenant x) n w (updSlot n (fun x => { x with noted := true }) s)
  else
    let s := fireWord n w (updSlot n (fun x => { x with noted := false }) s)
    if slotAction x = 5 then startPulse n w s else s

/-- A firing (07 R200), leaving STATE `st`. -/
def slotFire (st n : Nat) (s : State) : State :=
  let x := getSlot s n
  let s := slotAct n s
  let s := if bit x.cfg 29 then fire (128 + fld x.cfg 28 22) s else s
  slotEnd n st s

/-! ### Time bases as the slots see them -/

/-- The base is trusted (07 R197). -/
def baseTrusted (s : State) (b : Nat) : Bool :=
  match b with
  | 1 => s.tb.lpOk
  | 2 => (getMains s 0).state == 2 || (getMains s 0).state == 3
  | 3 => (getMains s 1).state == 2 || (getMains s 1).state == 3
  | _ => true

/-- The present value of the base of a slot, as a word. -/
def baseNow (s : State) (x : Slot) : Nat :=
  match slotBase x with
  | 0 => devtime s
  | 1 => umod 48 s.tb.pos
  | 2 => supang s 0
  | 3 => supang s 1
  | _ => (taskEnt s (slotTask x)).scancnt.toNat

/-- The target is already passed at arming (07 R197). -/
def slotPassed (s : State) (x : Slot) : Bool :=
  if slotBase x = 1 then
    if slotDir x = 1 then decide (slotLine x ≤ s.tb.pos)
    else if slotDir x = 2 then decide (s.tb.pos ≤ slotLine x)
    else false
  else notBefore (baseNow s x) x.tgt.toNat

/-- LINEPOS stands at or beyond the target in a direction that DIR permits, having come from its near side. -/
def lineReached (s : State) (x : Slot) : Bool :=
  let t := slotLine x
  let p := s.tb.pos
  if slotDir x = 1 then decide (t ≤ p) else if slotDir x = 2 then decide (p ≤ t)
  else decide (x.ref < t ∧ t ≤ p) || decide (t < x.ref ∧ p ≤ t)

/-- An armed slot's base has reached its target (07 R199); confirmed and SCANCNT slots fire elsewhere. -/
def slotReached (s : State) (x : Slot) : Bool :=
  match slotBase x with
  | 1 => !slotConfirmed x && lineReached s x
  | 4 => false
  | _ => notBefore (baseNow s x) x.tgt.toNat

/-! ### Steps (07 R191, R202) -/

/-- LINEPOS moved by a number of 1/64,000,000 counts. -/
def lineMove (d : Int) (s : State) : State :=
  let f := s.tb.posFrac + d
  { s with tb := { s.tb with pos := s.tb.pos + f.fdiv 64000000, posFrac := f.fmod 64000000 } }

/-- A step of base `b` from value `a` to value `c` passes over the target of a slot. -/
def slotOver (b : Nat) (a c : Int) (x : Slot) : Bool :=
  slotBase x == b &&
    (if b = 1 then
      let t := slotLine x
      (decide (a < t ∧ t ≤ c) && (slotDir x == 1 || slotDir x == 3)) ||
        (decide (c ≤ t ∧ t < a) && (slotDir x == 2 || slotDir x == 3))
    else
      let u := umod 48 a
      let v := umod 48 c
      later v u && later x.tgt.toNat u && notBefore v x.tgt.toNat)

/-- SLOT_STEP_OVER: the armed slots that a step passes over fire or are disarmed by their STEP; a standby's follow its primary's
(15 R380). -/
def slotsStep (b : Nat) (a c : Int) (s : State) : State :=
  (if serving s then armedSlots s (slotOver b a c) else []).foldl (fun s n =>
    let x := getSlot s n
    if slotStep x then gln 0x0602 3 (slotTenant x) n x.tgt.toNat (slotFire 5 n s)
    else gln 0x0601 3 (slotTenant x) n x.tgt.toNat (slotEnd n 4 s)) s

/-- An accepted fix applied: one step of LINEPOS, its history and the axles' tooth positions. A fix releases no task
(05 R129). -/
def applyFix (c : Int) (tf : Nat) (s : State) : State :=
  let a := s.tb.pos
  let s := { s with
    tb := { s.tb with
      pos := a + c, lpFixed := true, hist := s.tb.hist.map (fun h => (h.1, h.2 + c))
      axle := s.tb.axle.foldl (fun t e => tupd {} e.1 (fun x => { x with pos := x.pos + c * 65536 }) t) s.tb.axle }
    task := { s.task with ent := s.task.ent.foldl (fun t e => tupd {} e.1 (fun x => { x with posSeen := a + c }) t) s.task.ent } }
  gln 0x050A 3 0 c tf (slotsStep 1 a (a + c) s)

/-- Every accepted fix that waits for this tick. -/
def applyFixes (s : State) : State := s.tb.fix.foldl (fun s f => applyFix f.1 f.2 s) { s with tb := { s.tb with fix := [] } }

/-- A position tick falls here: on every 250th count of DEVTIME, once (07 R189, log 37). -/
def tickHere (s : State) : Bool := devtime s % 250 == 0 && s.tb.tickAt != some s.clk

/-- A step takes effect before any arming or firing of its tick (07 R202). -/
def stepFirst (s : State) : State := if tickHere s && s.tb.fix != [] then applyFixes s else s

/-! ### Firings of a tick and operations of a clock cycle (07 R200, R201; 04 R120, R122) -/

/-- Operations have reached the slot in the clock cycle being worked through. -/
def opsNow (s : State) (x : Slot) : Bool := x.ops.rank != 0 && x.ops.clk == s.clk && x.ops.cyc == s.core.cyc.n

/-- The slot as the firings of this cycle find it: before its operations. -/
def slotBefore (s : State) (x : Slot) : Slot := if opsNow s x then { x with tgt := x.ops.tgt, ref := x.ops.ref, sts := x.ops.sts } else x

/-- A firing; where operations of the same cycle have been applied already they come after it: an arming stands, a cancellation
finds the slot fired. -/
def slotFireFirst (n : Nat) (s : State) : State :=
  let x := getSlot s n
  let s := slotFire 2 n s
  if opsNow s x then
    let s := updSlot n (fun y => { y with ops := { x.ops with sts := y.sts } }) s
    if x.ops.arm then updSlot n (fun y => { y with sts := x.sts, dt := x.dt }) s else s
  else s

/-- The armed slots that satisfy q, or whose base has reached its target, fire, in ascending order (07 R200). -/
def fireReached (q : Slot → Bool) (s : State) : State :=
  (s.slot.filterMap (fun e =>
    let x := slotBefore s e.2
    if slotArmed x && (slotReached s x || q x) then some e.1 else none)).foldl (fun s n => slotFireFirst n s) s

/-- Every slot that fires in this tick fires before what else the tick brings (07 R200, R201); a unit that does not serve fires
none (15 R373, R380). -/
def fireWith (q : Slot → Bool) (s : State) : State :=
  let s := stepFirst s
  if serving s then fireReached q s else s

def fireDue (s : State) : State := fireWith (fun _ => false) s

/-! ### Arming and cancelling (07 R197, R198, R201; 04 R122) -/

/-- An arming with target `t`. -/
def slotArm (n : Nat) (t : Word) (s : State) : State :=
  let s := updSlot n (fun x => { x with tgt := t, ref := s.tb.pos, sts := setFld x.sts 43 32 (fld x.sts 43 32 + 1) }) s
  let x := getSlot s n
  let m := effMode s (slotTenant x)
  let b := slotBase x
  let dc := (b == 2 && (getMains s 0).state == 5) || (b == 3 && (getMains s 1).state == 5)
  if m = 1 || m = 4 then slotEnd n 8 s
  else if dc || (!baseTrusted s b && !slotLoss x) then slotEnd n 7 s
  else if slotPassed s x then
    if slotPast x then gln 0x0604 3 (slotTenant x) n t.toNat (slotEnd n 6 s)
    else if serving s then slotFire 2 n s else updSlot n (fun x => { x with sts := setFld x.sts 47 44 1 }) s
  else updSlot n (fun x => { x with sts := setFld x.sts 47 44 1 }) s

/-- A cancellation: an armed slot becomes CANCELLED, any other stays as it is. -/
def slotCancel (n : Nat) (s : State) : State := if slotArmed (getSlot s n) then slotEnd n 3 s else s

/-- An arming with a target, or a cancellation. -/
def slotDo (n : Nat) (arm : Option Word) (s : State) : State :=
  match arm with
  | some t => slotArm n t s
  | none => slotCancel n s

/-- An operation on a slot by a core (rank: its number + 1) or the host (rank 257): the firings of the tick come first; operations
of one clock cycle apply in ascending rank, so one that comes after a higher-ranked one in the queue takes effect before it. -/
def slotOp (rank n : Nat) (arm : Option Word) (s : State) : State :=
  let s := fireDue s
  let x := getSlot s n
  let s' := slotDo n arm s
  if opsNow s x && rank < x.ops.rank then
    if x.ops.arm then updSlot n (fun y => { y with tgt := x.tgt, ref := x.ref, dt := x.dt, sts := setFld x.sts 43 32 (fld y.sts 43 32) }) s'
    else slotCancel n s'
  else
    let b := if rank = x.ops.rank then x else slotBefore s x
    updSlot n (fun y => { y with ops := ⟨s.clk, s.core.cyc.n, rank, arm.isSome, b.tgt, b.ref, b.sts⟩ }) s'

/-! ### Firing by count and by tooth -/

/-- SCANCNT slots of task k whose target its SCANCNT has reached fire, with every other slot of the tick (07 R199). -/
def scanFire (k : Nat) (s : State) : State :=
  fireWith (fun x => slotBase x == 4 && slotTask x == k && notBefore (baseNow s x) x.tgt.toNat) s

/-- Confirmed LINEPOS slots fire at an accepted tooth of an admitted axle, with every other slot of the tick (07 R199). -/
def confirmedFire (s : State) : State :=
  let s := stepFirst s
  fireWith (fun x => slotBase x == 1 && slotConfirmed x && lineReached s x) s

/-! ### Losses (07 R203) -/

/-- Loss of trust of base `b`: armed slots with LOSS 0, or every armed slot for DC, become LOST. -/
def slotsLost (b : Nat) (all : Bool) (s : State) : State :=
  (armedSlots s (fun x => slotBase x == b && (all || !slotLoss x))).foldl
    (fun s n => gln 0x0603 3 (slotTenant (getSlot s n)) n b (slotEnd n 7 s)) s

/-! ### Stops (07 R201) -/

/-- Tenant t's armed slots become STOPPED and its pulses are discarded. -/
def slotsStop (t : Nat) (s : State) : State :=
  let ns := armedSlots s (fun x => slotTenant x == t)
  let s := ns.foldl (fun s n => slotEnd n 8 s) s
  let s := (s.slot.filter (fun e => slotTenant e.2 == t && e.2.pulse.isSome)).foldl
    (fun s e => updSlot e.1 (fun x => { x with pulse := none }) s) s
  if ns = [] then s else gln 0x0605 3 t t ns.length s

/-- Words that tenant t's slots write and may write now. -/
def slotWords (s : State) (t : Nat) : List Nat :=
  s.slot.filterMap (fun e => if slotTenant e.2 == t && slotAction e.2 != 0 && slotWordOk s e.2 then some (slotWord e.2) else none)

/-- After a change of plot ownership, slots whose word meets the condition again report anew (07 R200). -/
def slotsPlots (s : State) : State :=
  (s.slot.filter (fun e => e.2.noted && slotWordOk s e.2)).foldl (fun s e => updSlot e.1 (fun x => { x with noted := false }) s) s

/-! ### The scheduler's own events -/

/-- SLOT_FIRE (07 R199, R200): a slot whose target is reached fires, with every other one of the same tick, in ascending number. -/
def execSlotFire (slot : Fin 2048) (s : State) : Host.Outcome State Fault Refusal :=
  let x := slotBefore s (getSlot s slot.val)
  .next (if slotArmed x && slotReached s x then fireDue s else s)

/-- PULSE_END: the clearing edge at the end of the width (07 R200). -/
def execPulseEnd (slot : Fin 2048) (s : State) : Host.Outcome State Fault Refusal :=
  let x := getSlot s slot.val
  match x.pulse with
  | some (t, w, l) =>
    if t ≤ s.clk then
      let s := updSlot slot.val (fun x => { x with pulse := none }) s
      .next (if inPlot s 0 (slotTenant x) w then commitWords [(w, setBit (unforcedWord s w) l false)] s else s)
    else .next s
  | none => .next s

end Sys2Proof.Machine
end

