-- ==== Sys2Proof/Machine/CeOps.lean ====
section
/-! DEFINITION. The control engine: loops and their blocks, the arithmetic of a sample, injection and capture, triggers,
completion, stops and restarts (08 R206 to R225). -/

namespace Sys2Proof.Machine

def getLoop (s : State) (n : Nat) : CeLoop := tget {} s.ce.loop n
def updLoop (n : Nat) (f : CeLoop → CeLoop) (s : State) : State := { s with ce := { s.ce with loop := tupd {} n f s.ce.loop } }
def getInj (s : State) (i : Nat) : CeInj := tget {} s.ce.inj i
def updInj (i : Nat) (f : CeInj → CeInj) (s : State) : State := { s with ce := { s.ce with inj := tupd {} i f s.ce.inj } }

/-! ### Fields (08 Tables 8-1, 8-3, 8-4) -/

def ceTrig (x : CeLoop) : Nat := fld x.cfg 47 45
def ceTenant (x : CeLoop) : Nat := fld x.cfg 44 40
def ceExpert (x : CeLoop) : Bool := bit x.cfg 39
def ceInteg (x : CeLoop) : Bool := bit x.cfg 38
def ceI (x : CeLoop) : Nat := b2n (ceInteg x)
def ceN (x : CeLoop) : Nat := fld x.cfg 35 31
def ceM (x : CeLoop) : Nat := fld x.cfg 30 28 + 1
def ceP (x : CeLoop) : Nat := fld x.cfg 27 25 + 1
def ceLead (x : CeLoop) : Nat := fld x.cfg 24 16
def cePeriod (x : CeLoop) : Nat := fld x.trig 47 28
def ceNcyc (x : CeLoop) : Nat := fld x.trig 47 40 + 1

/-- CE_MAP word j. -/
def ceMap (x : CeLoop) (j : Nat) : Word := x.map.getD j 0#48

/-! ### Coefficient block (08 R207) -/

def offB (x : CeLoop) : Nat := ceN x * ceN x
def offC (x : CeLoop) : Nat := offB x + ceN x * ceP x
def offL (x : CeLoop) : Nat := offC x + ceM x * ceN x
def offK (x : CeLoop) : Nat := offL x + ceN x * ceM x
def offKE (x : CeLoop) : Nat := offK x + ceP x * ceN x
def offKQ (x : CeLoop) : Nat := offKE x + ceP x * ceM x
def offT (x : CeLoop) : Nat := offKQ x + ceP x * ceM x * ceI x
def offUMIN (x : CeLoop) : Nat := offT x + ceM x * ceP x * ceI x
def offUMAX (x : CeLoop) : Nat := offUMIN x + ceP x
def offRC (x : CeLoop) : Nat := offUMAX x + ceP x
def offQINIT (x : CeLoop) : Nat := offRC x + ceM x
/-- Block size S. -/
def ceSize (x : CeLoop) : Nat := offQINIT x + ceM x * ceI x

/-- A word of a block as a Q16.32 integer. -/
def coefAt (x : CeLoop) (i : Nat) : Int := (x.coef.getD i 0#48).toInt

/-- Row i of the matrix of width w at offset o, as an integer vector. -/
def ceRow (x : CeLoop) (o w i : Nat) : List Int := (List.range w).map (fun k => coefAt x (o + i * w + k))

/-! ### Groups, classes, load (08 R215, R217, R219) -/

/-- Loops whose LEAD names loop l, ascending. -/
def ceNaming (s : State) (l : Nat) : List Nat :=
  s.ce.loop.filterMap (fun e => if e.2.isSet && ceTrig e.2 == 4 && ceLead e.2 == l && e.1 != l then some e.1 else none)

/-- Members of the select group that loop l leads: of its TENANT (08 R219). -/
def ceMembers (s : State) (l : Nat) : List Nat :=
  (ceNaming s l).filter (fun m => ceTenant (getLoop s m) == ceTenant (getLoop s l))

/-- The lead of loop n's group, or n itself. -/
def ceHead (s : State) (n : Nat) : Nat :=
  let x := getLoop s n
  if x.isSet && ceTrig x == 4 then ceLead x else n

/-- Cost of a sample of one loop, in MAC slots. -/
def ceCost (x : CeLoop) : Nat :=
  ceN x * ceN x + 2 * ceN x * ceP x + 2 * ceN x * ceM x + ceP x * ceM x + 2 * ceP x * ceM x * ceI x + 40

/-- Cost of the group of loop n: its own, or the sum over its select group. -/
def ceGroupCost (s : State) (n : Nat) : Nat :=
  let h := ceHead s n
  ((h :: ceMembers s h).map (fun l => ceCost (getLoop s l))).sum

/-- CLASS (08 Table 8-6). -/
def ceClass (s : State) (n : Nat) : Nat := let c := ceGroupCost s n; if c ≤ 200 then 0 else if c ≤ 500 then 1 else 2

/-- Required distance of the class in instructions. -/
def ceDistance (s : State) (n : Nat) : Nat := match ceClass s n with | 0 => 400 | 1 => 480 | _ => 600

/-- CE_CFG as it reads, with its CLASS. -/
def ceCfgWord (s : State) (n : Nat) : Word := setFld (getLoop s n).cfg 15 14 (ceClass s n)

/-- Pool words in use. -/
def cePool (s : State) : Nat := (s.ce.loop.map (fun e => e.2.coef.length + (e.2.stage.map List.length |>.getD 0))).sum

/-- Declared load in slots per second (08 R217). -/
def ceLoad (s : State) : Rat :=
  (s.ce.loop.map (fun e =>
    let x := e.2
    let c : Rat := (ceGroupCost s e.1 : Nat)
    if !x.isSet || ceTrig x == 4 then 0
    else if ceTrig x = 0 then c * 4000
    else if ceTrig x = 1 then c * 1000000 / (cePeriod x : Nat)
    else c * 624 / (10 * ceNcyc x : Nat))).sum

/-- The command words of a loop: entry and word; only RATE and SUPANG loops write any (08 Table 8-4). -/
def ceUws (x : CeLoop) : List (Nat × Nat) :=
  if x.isSet && 1 ≤ ceTrig x && ceTrig x ≤ 3 then (List.range (ceP x)).map (fun j => (j, fld (ceMap x j) 17 3)) else []

/-! ### Arithmetic (08 R209) -/

def satQ (v : Int) : Int := clampI (-(2 ^ 47)) (2 ^ 47 - 1) v
def satAcc (v : Int) : Int := clampI (-(2 ^ 95)) (2 ^ 95 - 1) v

/-- sat(v) and whether it changed v. -/
def ceSat (v : Int) : Int × Bool := (satQ v, satQ v != v)

/-- acc of terms without a product and of products, in the order written, with its ARITH flag; the accumulator
saturates at each addition. -/
def ceAcc (ts : List Int) : Int × Bool :=
  let (a, f) := ts.foldl (fun p t => (satAcc (p.1 + t), p.2 || satAcc (p.1 + t) != p.1 + t)) ((0, false) : Int × Bool)
  let v := (a + 2 ^ 31).fdiv (2 ^ 32)
  (satQ v, f || satQ v != v)

/-- A term without a product. -/
def plainT (v : Int) : Int := v * 2 ^ 32

/-- The products of two vectors. -/
def prodT (a b : List Int) : List Int := (a.zip b).map (fun e => e.1 * e.2)

def negL (a : List Int) : List Int := a.map (fun v => -v)

/-! ### Injection (08 R223, R224) -/

/-- Taps of the PRBS register of length k (08 Table 8-10). -/
def prbsTaps (k : Nat) : List Nat :=
  match k with
  | 7 => [7, 6] | 8 => [8, 6, 5, 4] | 9 => [9, 5] | 10 => [10, 7] | 11 => [11, 9] | 12 => [12, 11, 10, 4]
  | 13 => [13, 12, 11, 8] | 14 => [14, 13, 12, 2] | _ => [15, 14]

/-- The register after one bit: b1 in bit 0. -/
def prbsShift (k r : Nat) : Nat :=
  let fb := ((prbsTaps k).map (fun t => b2n (r.testBit (t - 1)))).sum % 2
  (r * 2 + fb) % 2 ^ k

def injSig (i : CeInj) : Nat := fld i.reg 38 36
def injLoop (i : CeInj) : Nat := fld i.reg 47 39
def injK (i : CeInj) : Nat := fld i.reg 31 28
def injHold (i : CeInj) : Nat := fld i.reg 27 16

/-- sin(z) for 0 ≤ z ≤ π/2, in units of 2^-60, by its series to z^19. -/
def sinSeries (z : Int) : Int :=
  let one : Int := 2 ^ 60
  let z2 := z * z / one
  z * ([9, 8, 7, 6, 5, 4, 3, 2, 1].foldl (fun a (k : Int) => one - z2 * a / one / (2 * k * (2 * k + 1))) one) / one

/-- sin(2πu/2^48) in units of 2^-60. -/
def sinTurn (u : Nat) : Int :=
  let q := u / 2 ^ 46 % 4
  let w : Nat := if q % 2 = 1 then 2 ^ 46 - u % 2 ^ 46 else u % 2 ^ 46
  let z : Int := (w : Int) * (2 ^ 60 * 3141592653589793) / (2 ^ 47 * 1000000000000000)
  if 2 ≤ q then - sinSeries z else sinSeries z

/-- The CHIRP value at t ns: the value of the rule rounded to the format, off by a free value (`r`, log 1) as far as the error
stays below 2^-24 × A (08 R223). With A of 2^-9 and less no value of the format need lie so near, and the nearest is taken. -/
def chirpV (i : CeInj) (t : Nat) (r : Word) : Int :=
  let a := i.amp.toInt
  let dur := i.dur.toInt
  if dur * 1000000000 ≤ (t : Int) * 2 ^ 32 then 0
  else
    let n : Int := t
    let ph : Int := i.f0.toInt * n * 2 ^ 48 / (2 ^ 32 * 1000000000) +
      (i.f1.toInt - i.f0.toInt) * n * n * 2 ^ 48 / (2 * dur * 1000000000000000000)
    let b : Nat := (a.natAbs * (2 ^ 19 - 1) - 2 ^ 42) / 2 ^ 43
    (a * sinTurn (umod 48 ph) + 2 ^ 59) / 2 ^ 60 + (r.toNat : Int) % (2 * b + 1) - b

/-- The session injects in this sample: it is active and PRE entries have been taken. -/
def injActs (i : CeInj) : Bool := i.active && i.pre ≤ i.cap.length && injSig i != 0

/-- v of a session for a sample triggered at DEVTIME dt. -/
def injV (i : CeInj) (dt : Nat) (r : Word) : Int :=
  if !injActs i then 0
  else match injSig i with
    | 1 => i.amp.toInt
    | 2 => if i.injected < injHold i then i.amp.toInt else 0
    | 3 => if i.prbs.testBit (injK i - 1) then i.amp.toInt else - i.amp.toInt
    | _ => chirpV i (if i.injected = 0 then 0 else (dt + 2 ^ 48 - i.t0) % 2 ^ 48) r

/-- The session after a sample that it injected into. -/
def injStep (dt : Nat) (i : CeInj) : CeInj :=
  if !injActs i then i
  else
    { i with
      injected := i.injected + 1, t0 := if i.injected = 0 then dt else i.t0
      prbs := if injSig i = 3 && (i.injected + 1) % injHold i == 0 then prbsShift (injK i) i.prbs else i.prbs }

/-- The active sessions of loop n. -/
def injOf (s : State) (n : Nat) : List Nat := (List.range 2).filter (fun i => (getInj s i).active && injLoop (getInj s i) == n)

/-- A session ends (0x0707): causes 0 complete, 1 command, 2 loop stopped. -/
def injEnd (i cause : Nat) (s : State) : State :=
  let t := ceTenant (getLoop s (injLoop (getInj s i)))
  gln 0x0707 3 t i cause (updInj i (fun x => { x with active := false }) s)

/-! ### Inputs (08 R212, R214) -/

/-- The quality word makes an input bad: VALID 0, STALE or COMM_LOST. -/
def qualBad (q : Word) : Bool := !bit q 15 || bit q 12 || bit q 11

/-- The words that a loop reads: word and source. -/
def ceWords (x : CeLoop) : List (Nat × Bool) :=
  (List.range (ceM x)).flatMap (fun i =>
    let m := ceMap x i
    (fld m 47 33, bit m 2) :: (if bit m 0 then [] else [(fld m 32 18, bit m 1)]))

/-- A word as it stands at a trigger tick: the engine's own freeze. -/
def liveIn (s : State) (t w : Nat) (out : Bool) : CeIn :=
  if mayRead s t w then ⟨w, out, imgWord s w, qualBad (plotQual s (w / 64))⟩ else ⟨w, out, 0#48, true⟩

/-- A word from the snapshot of an execution (08 R212, SCAN). -/
def scanIn (e : Ex) (w : Nat) (out : Bool) : CeIn :=
  if ownRead e.plots e.tenant w || sharedRead e.plots e.tenant w then
    let v := if out then (match e.outw.find? (fun x => x.1 == w) with | some x => x.2 | none => wget e.view w) else wget e.view w
    ⟨w, out, v, qualBad (wget e.quals (w / 64))⟩
  else ⟨w, out, 0#48, true⟩

/-- All words that a sample of lead l reads, with their values by f. -/
def freezeIns (s : State) (l : Nat) (f : Nat → Bool → CeIn) : List CeIn :=
  ((l :: ceMembers s l).flatMap (fun n => ceWords (getLoop s n))).dedup.map (fun e => f e.1 e.2)

/-- An input of a sample: as frozen, or, for a word that the loop has come to read since, as it stands. -/
def ceIn (s : State) (j : CeJob) (t w : Nat) (out : Bool) : CeIn :=
  (j.reads.find? (fun r => r.w == w && r.out == out)).getD (liveIn s t w out)

/-! ### The basic level (08 R220) -/

/-- Nominal frequency of a mains input in mHz, for Ts. -/
def ceNominal (s : State) (n : Nat) : Nat :=
  let m := getMains s n
  match (if fld m.cfg 47 46 = 0 then m.system else fld m.cfg 47 46) with | 1 => 16700 | 2 => 50000 | 3 => 60000 | _ => 50000

/-- Ts of a loop in seconds by its own trigger; `given` is Ts of the basic parameters, 0 for none. -/
def ceTsOwn (s : State) (trig : Nat) (tw : Word) (given : Word) : Rat :=
  match trig with
  | 1 => (fld tw 47 28 : Nat) / 1000000
  | 2 => (fld tw 47 40 + 1 : Nat) * 1000 / (ceNominal s 0 : Nat)
  | 3 => (fld tw 47 40 + 1 : Nat) * 1000 / (ceNominal s 1 : Nat)
  | _ => if given = 0#48 then 1 / 1000 else (given.toInt : Rat) / 4294967296

/-- Ts of a basic loop; a member takes its lead's. -/
def ceTs (s : State) (x : CeLoop) : Rat :=
  if ceTrig x = 4 then
    let l := getLoop s (ceLead x)
    ceTsOwn s (ceTrig l) l.trig (l.basic.getD 5 0#48)
  else ceTsOwn s (ceTrig x) x.trig (x.basic.getD 5 0#48)

/-- A rational as the nearest Q16.32 value, halves up; a value outside the format is free (log 1). -/
def toQ (r : Rat) (free : Word) : Word :=
  let v := (r * 4294967296 + 1 / 2).floor
  if -(2 ^ 47) ≤ v ∧ v < 2 ^ 47 then wi v else free

/-- KQ of the basic parameters, exact. -/
def ceKq (s : State) (x : CeLoop) : Rat :=
  ((x.basic.getD 0 0#48).toInt : Rat) * ceTs s x / ((x.basic.getD 1 0#48).toInt : Rat)

/-- The coefficient block that the basic parameters KP, TI, UMIN, UMAX, RC, Ts derive. -/
def ceDerive (s : State) (x : CeLoop) : List Word :=
  let b := fun i => x.basic.getD i 0#48
  let f := Config.freeWord
  [b 0] ++ (if ceInteg x then [toQ (ceKq s x) (f s.free), toQ (4294967296 / ((b 0).toInt : Rat)) (f (s.free + 1))] else []) ++
    [b 2, b 3, b 4] ++ (if ceInteg x then [0#48] else [])

/-! ### Changes between two samples (08 R221) -/

/-- The loop as a request leaves it, its block and state included (08 R220, R221): no sample has been taken since, and outputs it
has no longer read 0 (R218). -/
def ceCandidate (s : State) (x : CeLoop) (r : CeReq) : CeLoop :=
  let y := { x with
    cfg := setBit (setFld r.cfg 44 40 (ceTenant x)) 39 r.expert
    trig := r.trig, map := r.map, basic := r.basic, isSet := true, noted := [] }
  let same := ceSize y == x.coef.length
  let z := List.replicate (ceSize y) 0#48
  let y := { y with ua := x.ua.take (ceP y), uc := x.uc.take (ceP y), status := setFld x.status 31 31 0 }
  let y := if same then y else { y with coef := z, stage := y.stage.map (fun _ => z), xh := [], q := [] }
  if r.expert then y else { y with coef := ceDerive s y }

/-- Coefficients of a loop whose basic level derives them, derived again; x̂, q and the level stay. -/
def ceDeriveAgain (n : Nat) (s : State) : State :=
  let x := getLoop s n
  if x.isSet && !ceExpert x && ceInteg x then { updLoop n (fun x => { x with coef := ceDerive s x }) s with free := s.free + 2 } else s

/-- A change takes effect. The Ts of a member is its lead's, so members derive anew with their lead. -/
def ceTake (w : CeWait) (s : State) : State :=
  match w.change with
  | .set r =>
    let s' := updLoop w.loop (fun x => ceCandidate s x r) s
    let s' := if r.expert then s' else { s' with free := s'.free + 2 }
    (ceMembers s' w.loop).foldl (fun s m => ceDeriveAgain m s) s'
  | .block b => updLoop w.loop (fun x => { x with coef := b, basic := [], cfg := setBit x.cfg 39 true }) s
  | .state xh q => updLoop w.loop (fun x => { x with xh, q }) s
  | .derive => ceDeriveAgain w.loop s

/-- A sample of the pass of loop n is under way or queued. -/
def ceUnder (s : State) (n : Nat) : Bool := s.ce.jobs.any (fun j => j.loop == ceHead s n)

/-- A change of loop n takes effect now, or waits for the sample under way. -/
def ceChange (w : CeWait) (s : State) : State :=
  if ceUnder s w.loop then { s with ce := { s.ce with waits := s.ce.waits ++ [w] } } else ceTake w s

/-- The changes that wait for a loop of ns take effect, in the order accepted (00 R14). -/
def ceSettle (ns : List Nat) (s : State) : State :=
  (s.ce.waits.filter (fun w => ns.contains w.loop)).foldl (fun s w => ceTake w s)
    { s with ce := { s.ce with waits := s.ce.waits.filter (fun w => !ns.contains w.loop) } }

/-- The engine with every accepted change in force, as a new change is judged. -/
def ceSettled (s : State) : State := ceSettle (s.ce.waits.map (·.loop)) s

/-! ### One sample (08 R210) -/

/-- What a loop computes up to the selection. -/
structure CeCalc where
  loop : Nat
  y : List Int
  r : List Int
  e : List Int
  eps : List Int
  uc : List Int
  ua : List Int
  /-- injected values: session, setpoint or not, index, v -/
  v : List (Nat × Bool × Nat × Int)
  bad : Bool
  plot : Nat
  held : Bool
  arith : Bool
  limit : Bool
deriving DecidableEq, Repr

/-- Sum of the injections at a setpoint or a command. -/
def injAt (v : List (Nat × Bool × Nat × Int)) (sp : Bool) (j : Nat) : Int :=
  ((v.filter (fun e => e.2.1 == sp && e.2.2.1 == j)).map (fun e => e.2.2.2)).sum

/-- Whether any flag of a list of saturated results is set. -/
def anyFlag (l : List (Int × Bool)) : Bool := l.any (·.2)
def vals (l : List (Int × Bool)) : List Int := l.map (·.1)

/-- Loop n up to the selection. -/
def ceCalc (s : State) (j : CeJob) (n : Nat) : CeCalc :=
  let x := getLoop s n
  let t := ceTenant x
  let N := ceN x
  let M := ceM x
  let P := ceP x
  let xh := (x.xh.take N).map (·.toInt)
  let q := x.q.map (·.toInt)
  let v := (injOf s n).filterMap (fun i =>
    let c := getInj s i
    if injActs c then some (i, bit c.reg 35, fld c.reg 34 32, injV c j.at_ (Config.freeWord (s.free + i))) else none)
  let ys := (List.range M).map (fun i => ceIn s j t (fld (ceMap x i) 47 33) (bit (ceMap x i) 2))
  let rs := (List.range M).map (fun i =>
    if bit (ceMap x i) 0 then none else some (ceIn s j t (fld (ceMap x i) 32 18) (bit (ceMap x i) 1)))
  let bads := (ys.zip rs).flatMap (fun p => (p.1 :: p.2.toList).filter (·.bad))
  let bad := bads != []
  let y := ys.map (fun c => c.value.toInt)
  let r := (rs.zip (List.range M)).map (fun p =>
    let r0 := match p.1 with | some c => c.value.toInt | none => coefAt x (offRC x + p.2)
    if v.any (fun e => e.2.1 && e.2.2.1 == p.2) then ceSat (r0 + injAt v true p.2) else (r0, false))
  let held := bad && bit x.cfg 36
  if held then
    ⟨n, y, vals r, [], [], (x.uc.map (·.toInt)).take P, (x.ua.map (·.toInt)).take P, v, bad, (bads.head?.map (·.w / 64)).getD 0, true, anyFlag r, false⟩
  else
    let e := ((vals r).zip y).map (fun p => ceSat (p.1 - p.2))
    let ep := (y.zip (List.range M)).map (fun p => ceAcc (plainT p.1 :: negL (prodT (ceRow x (offC x) N p.2) xh)))
    let ev := if bad then List.replicate M 0 else vals e
    let epv := if bad then List.replicate M 0 else vals ep
    let uc := (List.range P).map (fun k =>
      ceAcc (negL (prodT (ceRow x (offK x) N k) xh) ++ prodT (ceRow x (offKE x) M k) ev ++
        (if ceInteg x then prodT (ceRow x (offKQ x) M k) q else []) ++
        (if v.any (fun e => !e.2.1 && e.2.2.1 == k) then [plainT (injAt v false k)] else [])))
    let ua := ((vals uc).zip (List.range P)).map (fun p =>
      let lo := max p.1 (coefAt x (offUMIN x + p.2))
      min lo (coefAt x (offUMAX x + p.2)))
    ⟨n, y, vals r, ev, epv, vals uc, ua, v, bad, (bads.head?.map (·.w / 64)).getD 0, false,
      anyFlag r || anyFlag e || anyFlag ep || anyFlag uc, ua != vals uc⟩

/-- The value a loop offers to the selection (08 R219). -/
def ceOffer (c : CeCalc) : Int := c.ua.getD 0 0

/-- The winner of a group: least offered value, lowest loop on ties. -/
def ceWinner : List CeCalc → Option CeCalc
  | [] => none
  | c :: cs => match ceWinner cs with
    | none => some c
    | some d => if ceOffer c < ceOffer d || (ceOffer c == ceOffer d && c.loop < d.loop) then some c else some d

/-- A value of a vector as a word; 0 outside it. -/
def vecW (l : List Int) (i : Nat) : Word := match l[i]? with | some v => wi v | none => 0#48

/-- Channel k of a capture entry of session i (08 Table 8-11), before the state update. In a held sample e is not computed: a free
value. -/
def capChan (s : State) (i : Nat) (x : CeLoop) (c : CeCalc) (ua : List Int) (k : Nat) (ch : Nat × Nat) : Word :=
  match ch.1 with
  | 1 => vecW c.y ch.2
  | 2 => vecW c.r ch.2
  | 3 => if c.held && ch.2 < ceM x then Config.freeWord (s.free + 2 + k) else vecW c.e ch.2
  | 4 => vecW c.uc ch.2
  | 5 => vecW ua ch.2
  | 6 => if ch.2 < ceN x then x.xh.getD ch.2 0#48 else 0#48
  | 7 => if ch.2 < ceM x && ceInteg x then x.q.getD ch.2 0#48 else 0#48
  | 8 => match c.v.find? (fun e => e.1 == i) with
    | some e => wi e.2.2.2
    | none => 0#48
  | _ => 0#48

/-- Capture and injection of session i go on with a sample of its loop whose SEQ is `seq`. -/
def injSample (x : CeLoop) (c : CeCalc) (ua : List Int) (dt seq : Nat) (s : State) (i : Nat) : State :=
  let k := getInj s i
  let take := k.seen % k.div == 0
  let row := (k.chans.zip (List.range 4)).map (fun e => capChan s i x c ua e.2 e.1)
  let s := updInj i (fun k =>
    let k := injStep dt k
    if take then
      { k with seen := k.seen + 1, cap := k.cap ++ [row]
               seq0 := if k.cap = [] then seq else k.seq0, dt0 := if k.cap = [] then dt else k.dt0 }
    else { k with seen := k.seen + 1 }) s
  if (getInj s i).want ≤ (getInj s i).cap.length then injEnd i 0 s else s

/-- The status word of a sample (08 Table 8-7). -/
def ceStatus (seq lstate : Nat) (ovr inj bad lost limit arith : Bool) : Word :=
  wd (seq * 2 ^ 32 + 2 ^ 31 + lstate * 2 ^ 28 + b2n ovr * 32 + b2n inj * 16 + b2n bad * 8 + b2n lost * 4 +
    b2n limit * 2 + b2n arith)

/-- A loop after its sample: the applied commands, the state update, SEQ and status (08 R210). `sel` is the selected
value and whether the loop lost. -/
def ceAfter (x : CeLoop) (c : CeCalc) (sel : Option (Int × Bool)) : CeLoop × List Int :=
  let N := ceN x
  let M := ceM x
  let P := ceP x
  let ua := if c.held then c.ua else match sel with | some (v, _) => [v] | none => c.ua
  let xh := (x.xh.take N).map (·.toInt)
  let q := x.q.map (·.toInt)
  let nx := if c.held then [] else (List.range N).map (fun i =>
    ceAcc (prodT (ceRow x 0 N i) xh ++ prodT (ceRow x (offB x) P i) ua ++ prodT (ceRow x (offL x) M i) c.eps))
  let nq := if c.held || c.bad || !ceInteg x then [] else (List.range M).map (fun i =>
    ceAcc ([plainT (q.getD i 0), plainT (c.e.getD i 0)] ++
      prodT (ceRow x (offT x) P i) ((ua.zip c.uc).map (fun p => p.1 - p.2))))
  let lost := match sel with | some (_, b) => b | none => false
  let inj := c.v.any (fun e => e.2.1 || !c.held)
  let seq := (fld x.status 47 32 + 1) % 65536
  let st := ceStatus seq (if c.held then 2 else 1) x.skipped inj c.bad lost c.limit (c.arith || anyFlag nx || anyFlag nq)
  ({ x with
      xh := if c.held then x.xh else (vals nx).map wi
      q := if nq = [] then x.q else (vals nq).map wi
      uc := if c.held then x.uc else c.uc.map wi
      ua := if c.held then x.ua else ua.map wi
      status := st, flag := x.flag ||| (st &&& 0x3F#48), bad := c.bad, skipped := false }, ua)

/-- The entries of a completion: 0x0703, 0x0704, 0x0705, and source 256 + n div 8 (08 R211, R214, R218). -/
def ceReport (n : Nat) (old new : CeLoop) (c : CeCalc) (s : State) : State :=
  let t := ceTenant new
  let s := if old.skipped then gln 0x0703 3 t n (fld new.status 47 32) s else s
  let s := if old.bad != c.bad then gln 0x0704 3 t (n * 2 + b2n c.bad : Nat) (if c.bad then c.plot else 0 : Nat) s else s
  let rise := new.flag &&& ~~~old.flag
  let s := if rise != 0#48 then gln 0x0705 3 t n rise.toNat s else s
  if bit new.cfg 37 || rise != 0#48 then fire (256 + n / 8) s else s

/-- Loop n completes its part of a sample. -/
def ceFinish (dt : Nat) (sel : Option (Int × Bool)) (c : CeCalc) (s : State) : State :=
  let x := getLoop s c.loop
  let (x', ua) := ceAfter x c sel
  let s := (injOf s c.loop).foldl (injSample x c ua dt (fld x'.status 47 32)) s
  ceReport c.loop x x' c (updLoop c.loop (fun _ => x') s)

/-- The words that a RATE or SUPANG sample of lead n writes, as one commit; 0x070A for a word it may not write, once
(08 R213). -/
def ceCommit (n : Nat) (group : Bool) (ua : List Int) (s : State) : State :=
  let x := getLoop s n
  let t := ceTenant x
  let es := if group then (ceUws x).take 1 else ceUws x
  let ok := es.filter (fun e => inPlot s 0 t e.2)
  let no := es.filter (fun e => !inPlot s 0 t e.2)
  let fresh := no.filter (fun e => !x.noted.contains e.1)
  let s := updLoop n (fun x => { x with noted := (x.noted.filter (fun j => !ok.any (fun e => e.1 == j))) ++ fresh.map (·.1) }) s
  let s := fresh.foldl (fun s e => gln 0x070A 3 t (n * 8 + e.1 : Nat) (e.2 : Nat) s) s
  if ok = [] then s else commitWords (ok.map (fun e => (e.2, vecW ua e.1))) s

/-- The oldest waiting sample of lead n is computed (08 R210, R219); then the changes that wait for it take effect. -/
def ceComplete (j : CeJob) (s : State) : State :=
  let s := { s with ce := { s.ce with jobs := s.ce.jobs.erase j } }
  let n := j.loop
  let ms := ceMembers s n
  let cs := (n :: ms).map (ceCalc s j)
  let sel := if ms = [] then none else (ceWinner cs).map (fun w => (ceOffer w, w.loop))
  let lead := (cs.head?.map (·.ua)).getD []
  let ua := match sel with | some (v, _) => [v] | none => lead
  let s := if 1 ≤ ceTrig (getLoop s n) then ceCommit n (ms != []) ua s else s
  let s := cs.foldl (fun s c => ceFinish j.at_ (sel.map (fun w => (w.1, w.2 != c.loop))) c s) s
  let s := if cs.any (fun c => c.v != [] || c.held) then { s with free := s.free + 6 } else s
  ceSettle (n :: ms) (match j.task with
  | none => cs.foldl (fun s c =>
      let x := getLoop s c.loop
      pairSend (.engine [] (some c.loop) x.ua x.xh x.q (fld x.status 47 32)) s) s
  | some k => match taskEx s k with
    | none => s
    | some e => setEx k (some { e with done := e.done ++ [⟨n, (getLoop s n).ua, (getLoop s n).status⟩] }) s)

/-- The engine may end the sample of job j next: SCAN samples in the order they were started, and before others; one that was under
way as a start arrived, having been triggered before, is displaced at the next row, within 100 ns (08 R216). -/
def ceTurn (s : State) (j : CeJob) : Bool :=
  match j.task with
  | some _ => s.ce.jobs.find? (fun i => i.task.isSome) == some j
  | none => s.ce.jobs.all (fun i => i.task.isNone || (later i.at_ j.at_ && (devtime s + 2 ^ 48 - i.at_) % 2 ^ 48 < 100))

/-! ### Triggers (08 R211) -/

/-- A loop takes triggers of its own: configured, of a tenant in RUN or HOLD, at a unit that serves. -/
def ceOn (s : State) (x : CeLoop) : Bool := x.isSet && running s (ceTenant x) && serving s

/-- A RATE or SUPANG trigger of loop n: a sample is frozen, or the trigger is skipped. -/
def ceTrigger (n : Nat) (s : State) : State :=
  let t := ceTenant (getLoop s n)
  if s.ce.jobs.any (fun j => j.loop == n) then
    updLoop n (fun x => { x with skipped := true }) { s with ce := { s.ce with skips := s.ce.skips + 1 } }
  else
    { s with ce := { s.ce with jobs := s.ce.jobs ++ [⟨n, none, devtime s, freezeIns s n (fun w o => liveIn s t w o)⟩] } }

/-- Job i was started in this clock cycle by a core of a higher number than c. -/
def startsLater (s : State) (c : Nat) (i : CeJob) : Bool :=
  i.at_ == devtime s && match i.task.bind (taskEx s) with | some e => decide (c < e.core) | none => false

/-- The samples of loop n that stand before a start by core c: all but those of higher cores in this cycle (08 R216). -/
def startsAhead (s : State) (n c : Nat) : Nat := s.ce.jobs.countP (fun i => i.loop == n && !startsLater s c i)

/-- The sample that job i stands for, of loop n, carries a SEQ higher by one. -/
def seqLater (n : Nat) (s : State) (i : CeJob) : State :=
  match i.task with
  | none => s
  | some k => match taskEx s k with
    | none => s
    | some e =>
      setEx k (some { e with started := e.started.map (fun x => if x.loop = n then { x with seq := (x.seq + 1) % 65536 } else x) }) s

/-- CE.START of a configured SCAN loop by task k: a sample queued behind those that the engine takes before it, with the SEQ it
will carry. -/
def ceStartScan (n k : Nat) (e : Ex) (s : State) : Nat × State :=
  let later := s.ce.jobs.filter (startsLater s e.core)
  let t := { s with ce := { s.ce with
    jobs := s.ce.jobs.filter (fun i => !startsLater s e.core i) ++ [⟨n, some k, devtime s, freezeIns s n (scanIn e)⟩] ++ later } }
  ((fld (getLoop s n).status 47 32 + startsAhead s n e.core + 1) % 65536, (later.filter (fun i => i.loop == n)).foldl (seqLater n) t)

/-- A RATE trigger of loop n falls now: the instants A + 1,000 × (OFFSET + k × PERIOD). -/
def ceRateDue (n : Nat) (s : State) : Bool :=
  let x := getLoop s n
  match s.task.gridA with
  | none => false
  | some a =>
    let d : Int := ptime s - a - 1000 * (fld x.trig 19 0 : Nat)
    ceOn s x && ceTrig x == 1 && d % (1000 * (cePeriod x : Nat) : Int) == 0

/-- A SUPANG trigger of loop n is due: the angle has reached ANGLE in a cycle whose count is a multiple of NCYC + 1. -/
def ceSupangDue (n : Nat) (s : State) : Bool :=
  let x := getLoop s n
  let a := ceTrig x - 2
  let m := getMains s a
  let c := supang s a / 65536
  ceOn s x && (ceTrig x == 2 || ceTrig x == 3) && (m.state == 2 || m.state == 3 || m.state == 4) &&
    c % ceNcyc x == 0 && fld x.trig 38 23 ≤ supang s a % 65536 && x.cycSeen != some c

/-- A SUPANG trigger. -/
def ceSupangTrigger (n : Nat) (s : State) : State :=
  let c := supang s (ceTrig (getLoop s n) - 2) / 65536
  ceTrigger n (updLoop n (fun x => { x with cycSeen := some c }) s)

/-! ### Modes (08 R222) -/

/-- The loops of tenant t stop: samples not complete are discarded, sessions end, LSTATE stopped, 0x0709. -/
def ceStop (t : Nat) (s : State) : State :=
  let ns := s.ce.loop.filterMap (fun e => if e.2.isSet && ceTenant e.2 == t then some e.1 else none)
  let s := { s with ce := { s.ce with jobs := s.ce.jobs.filter (fun j => !ns.contains j.loop) } }
  let s := ((List.range 2).filter (fun i => (getInj s i).active && ns.contains (injLoop (getInj s i)))).foldl
    (fun s i => injEnd i 2 s) s
  let s := ceSettle ns (ns.foldl (fun s n => updLoop n (fun x => { x with status := setFld x.status 30 28 3 }) s) s)
  if ns = [] then s else gln 0x0709 3 t t ns.length s

/-- The transition of tenant t from STOP to RUN: x̂ 0, q QINIT, VALID 0; SEQ continues. -/
def ceRestart (t : Nat) (s : State) : State :=
  { s with ce := { s.ce with loop := s.ce.loop.map (fun e =>
      if e.2.isSet && ceTenant e.2 == t then
        (e.1, { e.2 with xh := [], q := if ceInteg e.2 then (e.2.coef.drop (offQINIT e.2)).take (ceM e.2) else []
                         status := setFld e.2.status 31 28 0 })
      else e) } }

/-- Command words of tenant t's loops that lie where they must now. -/
def ceStopWords (s : State) (t : Nat) : List Nat :=
  (s.ce.loop.filter (fun e => ceTenant e.2 == t)).flatMap (fun e => ((ceUws e.2).map (·.2)).filter (inPlot s 0 t))

/-- After a change of plot ownership, entries whose word meets the condition again report anew (08 R213). -/
def cePlots (s : State) : State :=
  (s.ce.loop.filter (fun e => e.2.noted != [])).foldl (fun s e =>
    updLoop e.1 (fun x => { x with noted := x.noted.filter (fun j => !inPlot s 0 (ceTenant x) (fld (ceMap x j) 17 3)) }) s) s

/-! ### Ts of another trigger (08 R220) -/

/-- Basic loops that satisfy p derive their coefficients again, between two samples. -/
def ceRederive (p : CeLoop → Bool) (s : State) : State :=
  s.ce.loop.foldl (fun s e => if e.2.isSet && !ceExpert e.2 && ceInteg e.2 && p e.2 then ceChange ⟨e.1, .derive⟩ s else s) s

/-- FNOM or SYSTEM of a mains input has changed. -/
def ceMainsChanged (n : Nat) (s : State) : State :=
  ceRederive (fun x => ceTrig x == 2 + n || (ceTrig x == 4 && ceTrig (getLoop s (ceLead x)) == 2 + n)) s

/-! ### What is read of a loop -/

/-- The result status word of loop n. A SUPANG loop that has run is held while its MAINS is in SEARCH, DC or OFF (08 R211, Table
8-7). -/
def ceSts (s : State) (n : Nat) : Word :=
  let x := getLoop s n
  let a := ceTrig (getLoop s (ceHead s n))
  let m := (getMains s (a - 2)).state
  if x.isSet && (a == 2 || a == 3) && !(m == 2 || m == 3 || m == 4) && fld x.status 30 28 == 1 then setFld x.status 30 28 2
  else x.status

end Sys2Proof.Machine
end

