-- ==== Sys2Proof/Machine/FioOps.lean ====
section
/-! DEFINITION. The field dies: their registers, the frames between them and the logic side, the bank rules, silence and
the diagnostics (10 R249 to R267, 15 R370). -/

namespace Sys2Proof.Machine

/-! ### Registers -/

def getFc (s : State) (n : Nat) : FcCh := tget {} s.fio.fc n
def updFc (n : Nat) (f : FcCh → FcCh) (s : State) : State := { s with fio := { s.fio with fc := tupd {} n f s.fio.fc } }
def getGrp (s : State) (g : Nat) : FcGrp := tget {} s.fio.grp g
def updGrp (g : Nat) (f : FcGrp → FcGrp) (s : State) : State := { s with fio := { s.fio with grp := tupd {} g f s.fio.grp } }
def getDie (s : State) (d : Nat) : FioDie := tget {} s.fio.die d
def updDie (d : Nat) (f : FioDie → FioDie) (s : State) : State := { s with fio := { s.fio with die := tupd {} d f s.fio.die } }
def getAi (s : State) (n : Nat) : AiCh := tget {} s.fio.ai n
def updAi (n : Nat) (f : AiCh → AiCh) (s : State) : State := { s with fio := { s.fio with ai := tupd {} n f s.fio.ai } }
def getAo (s : State) (n : Nat) : AoCh := tget {} s.fio.ao n
def updAo (n : Nat) (f : AoCh → AoCh) (s : State) : State := { s with fio := { s.fio with ao := tupd {} n f s.fio.ao } }

/-- MODE of an FC register: 1 and 2 inputs, 3 plain output, 4 bank member (Table 10-4). -/
def fcMODE (w : Word) : Nat := fld w 47 45
def fcIsIn (w : Word) : Bool := fcMODE w == 1 || fcMODE w == 2
def fcIsOut (w : Word) : Bool := fcMODE w == 3 || fcMODE w == 4
def fcIsBank (w : Word) : Bool := fcMODE w == 4

/-- The channels of a group. -/
def grpChans (g : Nat) : List Nat := span (4 * g) 4
/-- The FC channels of a die: FIO0 serves groups 0 to 3, FIO1 groups 4 to 7 (R250). -/
def dieChans (d : Nat) : List Nat := if d < 2 then span (16 * d) 16 else []
/-- The supply of a group is low (R251). -/
def supplyLow (s : State) (k : Nat) : Bool := tget false s.fio.uv k
/-- The members that are on, of a bank group. -/
def grpOn (s : State) (g : Nat) : Nat := (grpChans g).countP (fun n => fcIsBank (getFc s n).live && (getFc s n).on)

/-- The device's firmware and I/O engine run. -/
def fioRuns (s : State) : Bool := !s.aon.inReset && !s.sup.asleep

/-- A field entry: origin level 3, tenant T0 (R270, R254); none while the device is in reset. -/
def fioGln (code : Nat) (p1 p2 : Nat) (s : State) : State := if s.aon.inReset then s else gln code 3 0 p1 p2 s

/-- The tenant of a channel's entry: the owner of the plot that holds the channel's lane of DIAG_WORD, T0 while the word is
unmapped (R270, log 106). -/
def laneTenant (s : State) : Nat :=
  let o := plotOwn s (fioDiagWord s / 64)
  if fioDiagWord s < 20480 && ownPOS o == s.pass.ownPos && ownPOS o != 0 then ownTENANT o else 0

/-- An entry of a channel or a group, with the tenant of its lane (R270). -/
def laneGln (code : Nat) (p1 p2 : Nat) (s : State) : State := if s.aon.inReset then s else gln code 3 (laneTenant s) p1 p2 s

/-- A new fault or deferral of an output: its source, with DIAG_EVT 1 (Table 10-4). -/
def outDiagFire (n : Nat) (s : State) : State := if bit (getFc s n).live 21 then fire n s else s

/-- FAULTS counts an occurrence, saturating (Table 10-14). -/
def fcFault (n : Nat) (s : State) : State := updFc n (fun c => { c with faults := Nat.min 65535 (c.faults + 1) }) s

/-- One fault of an output reported (R257, R270). -/
def outFault (code n : Nat) (s : State) : State := outDiagFire n (laneGln code n 1 (fcFault n s))

/-- A die drives the commands it holds: it serves and, out of silence or not, it has been armed since its power-up
(R260, 15 R370). -/
def dieDrives (s : State) (d : Nat) : Bool := (getDie s d).serves && !(getDie s d).fresh

/-- Nothing of group g may be on. -/
def grpBlocked (s : State) (g : Nat) : Bool := !dieDrives s (g / 4) || supplyLow s g || (getGrp s g).trip

/-! ### Output stages (R257, R258) -/

/-- Step 1 of the bank rules, and everything off in a group that may not be on. -/
def bankRelease (g : Nat) (s : State) : State :=
  (grpChans g).foldl (fun s n =>
    if fcIsBank (getFc s n).live && (!(getFc s n).cmd || grpBlocked s g) then
      updFc n (fun c => { c with on := false, hold := false, req := none }) s else s) s

/-- Step 2: new requests with the instant of the frame. -/
def bankRequest (g now : Nat) (s : State) : State :=
  if grpBlocked s g then s
  else (grpChans g).foldl (fun s n =>
    let c := getFc s n
    if fcIsBank c.live && c.cmd && !c.on && c.req.isNone then updFc n (fun c => { c with req := some now }) s else s) s

/-- The waiting requests of a group, oldest first and, among equals, in ascending channel number. -/
def bankQueue (s : State) (g : Nat) : List Nat :=
  sortBy (fun a b => decide ((getFc s a).req.getD 0 < (getFc s b).req.getD 0) || ((getFc s a).req == (getFc s b).req && decide (a ≤ b)))
    ((grpChans g).filter (fun n => fcIsBank (getFc s n).live && (getFc s n).req.isSome))

/-- Steps 3 and 4: grants while fewer than MAX_ON members are on; a request of this instant that must wait is reported. -/
def bankGrant (g now : Nat) (s : State) : State :=
  (bankQueue s g).foldl (fun s n =>
    if grpOn s g < fld (getGrp s g).live 47 45 then
      updFc n (fun c => { c with on := true, hold := false, req := none, granted := now }) s
    else if (getFc s n).req = some now && !(getFc s n).defer then
      outDiagFire n (laneGln 0x0905 n (grpOn s g) (updFc n (fun c => { c with defer := true }) s))
    else if (getFc s n).req = some now then outDiagFire n (laneGln 0x0905 n (grpOn s g) s)
    else s) s

/-- The plain outputs of a group. -/
def plainDrive (g : Nat) (s : State) : State :=
  (grpChans g).foldl (fun s n =>
    let c := getFc s n
    if fcMODE c.live = 3 then updFc n (fun c => { c with on := c.cmd && !c.ovl && !c.therm && !grpBlocked s g }) s
    else if c.live = 0#48 || fcMODE c.live < 3 then updFc n (fun c => { c with on := false, req := none }) s else s) s

/-- A group's switches after its commands, its supply, its trip or its die's state changed. -/
def grpDrive (now : Nat) (s : State) (g : Nat) : State := plainDrive g (bankGrant g now (bankRequest g now (bankRelease g s)))

/-- The current that the regulator of an AO is to hold: its command, 0 mA while the output is not enabled, its supply is low or
its die does not drive (R251, R260, R263; log 105). -/
def aoDrive (s : State) (n : Nat) : Word :=
  if bit (getAo s n).live 47 && !supplyLow s 9 && dieDrives s 3 then (getAo s n).cmd else 0#48

/-- Every output stage of a die. -/
def dieDrive (d : Nat) (s : State) : State :=
  if d < 2 then (span (4 * d) 4).foldl (grpDrive (absNow s)) s else s

/-! ### Safe states (R260) -/

/-- The safe command of an FC output. -/
def fcSafe (w : Word) (last : Bool) : Bool := match fld w 24 23 with | 0 => false | 1 => true | _ => last

/-- Currents in Q16.32 mA. -/
def mA (tenths : Nat) : Word := wd ((tenths * 2 ^ 32 + 5) / 10)

/-- The safe current of an AO: hold, 0, 3.6 or 21.0 mA. -/
def aoSafe (w : Word) (last : Word) : Word :=
  if !bit w 47 then 0#48 else match fld w 44 43 with | 0 => last | 1 => 0#48 | 2 => mA 36 | _ => mA 210

/-- The safe states become the commands of a die. -/
def dieSafe (d : Nat) (s : State) : State :=
  let s := (dieChans d).foldl (fun s n => updFc n (fun c => { c with cmd := fcIsOut c.live && fcSafe c.live c.cmd }) s) s
  let s := if d = 3 then (List.range 4).foldl (fun s n => updAo n (fun a => { a with cmd := aoSafe a.live a.cmd }) s) s else s
  dieDrive d s

/-! ### Output frames (R252, R261, R263) -/

/-- An image word of a block, 0 while the block is unmapped (R254). -/
def fioCommand (s : State) (base i : Nat) : Word := if base + i < 20480 then imgWord s (base + i) else 0#48

/-- AO_WORD clamped (R263). -/
def aoClamp (w : Word) (v : Word) : Word :=
  if !bit w 47 then 0#48
  else
    let lo := if bit w 46 then mA 38 else mA 40
    let hi := if bit w 46 then mA 205 else mA 200
    if v.toInt < lo.toInt then lo else if hi.toInt < v.toInt then hi else v

/-- The frame's FC commands: the lanes of OUT_WORD, or the safe states in an overrun (R252, 05 Table 5-9). -/
def frameFc (s : State) (d : Nat) : Word :=
  let w := fioCommand s (fioOutWord s) 0
  (dieChans d).foldl (fun a n =>
    let c := getFc s n
    setBit a n (fcIsOut c.cfg && (if s.task.dev = 4 then fcSafe c.cfg ((getDie s d).sentFc.getLsbD n) else bit w n))) 0#48

/-- The frame's AO commands. -/
def frameAo (s : State) (n : Nat) : Word :=
  let a := getAo s n
  if s.task.dev = 4 then aoSafe a.cfg ((getDie s 3).sentAo.getD n 0#48) else aoClamp a.cfg (fioCommand s (fioAoWord s) n)

/-- The firmware has read SILENT of a die: 0x0910, and the next output commit re-arms it (R261). -/
def readSilent (d : Nat) (s : State) : State :=
  if (getDie s d).silent && !(getDie s d).told then fioGln 0x0910 d 1 (updDie d (fun x => { x with told := true, commit := false }) s) else s

/-- The configuration of die d that a frame carries. -/
def fioCfgOf (s : State) (d : Nat) : FioCfg :=
  { sil := (getDie s d).sil
    fc := (dieChans d).map (fun n => (getFc s n).cfg)
    grp := if d < 2 then (span (4 * d) 4).map (fun g => (getGrp s g).cfg) else []
    ai := if d = 3 then (List.range 4).map (fun n => ((getAi s n).cfg, (getAi s n).lo, (getAi s n).hi)) else []
    ao := if d = 3 then (List.range 4).map (fun n => (getAo s n).cfg) else []
    tw := if d = 3 then (List.range 4).map (wget s.fio.tw) else [] }

/-- The I/O engine sends die d a frame of the present commands and configuration. -/
def fioFrame (d : Nat) (s : State) : State :=
  let s := readSilent d s
  updDie d (fun x => { x with
    sentAt := absNow s, sentFc := frameFc s d, sentAo := if d = 3 then (List.range 4).map (frameAo s) else x.sentAo
    sentArm := x.silent && x.told && x.commit, sentCfg := fioCfgOf s d }) s

/-- A channel takes a new register; another MODE starts it afresh. -/
def fcTake (w : Word) (c : FcCh) : FcCh :=
  let c := if fcMODE c.live = fcMODE w then c
    else { c with input := false, cmd := false, on := false, wb := false, ovl := false, opn := false, therm := false, req := none, hold := false }
  { c with live := w, wb := c.wb && bit w 41, opn := c.opn && bit w 22 }

/-- An analog input takes its registers; another RANGE starts it afresh. -/
def aiTake (w : Word × Word × Word) (a : AiCh) : AiCh :=
  let a := if fld a.live 47 46 = fld w.1 47 46 then a else { a with started := false, fault := false }
  { a with live := w.1, liveLo := w.2.1, liveHi := w.2.2 }

/-- A die takes the configuration that the frame carries (R252, R269). -/
def dieTake (d : Nat) (s : State) : State :=
  let c := (getDie s d).sentCfg
  let s := updDie d (fun x => { x with liveSil := c.sil }) s
  if d < 2 then
    let s := (dieChans d).foldl (fun s n => updFc n (fcTake (c.fc.getD (n % 16) 0#48)) s) s
    (span (4 * d) 4).foldl (fun s g => updGrp g (fun x => { x with live := c.grp.getD (g % 4) 0#48 }) s) s
  else if d = 3 then
    let s := (List.range 4).foldl (fun s n => updAi n (aiTake (c.ai.getD n (0#48, 0#48, 0#48))) s) s
    let s := (List.range 4).foldl (fun s n => updAo n (fun a => { a with live := c.ao.getD n 0#48 }) s) s
    { s with fio := { s.fio with twLive := (List.range 4).foldl (fun t n => wput n (c.tw.getD n 0#48) t) s.fio.twLive } }
  else s

/-- A die takes the commands of a frame. -/
def dieCommands (d : Nat) (s : State) : State :=
  let x := getDie s d
  let s := (dieChans d).foldl (fun s n => updFc n (fun c => { c with cmd := x.sentFc.getLsbD n }) s) s
  if d = 3 then (List.range 4).foldl (fun s n => updAo n (fun a => { a with cmd := x.sentAo.getD n 0#48 }) s) s else s

/-- SILENCE in ns. -/
def silenceNs (x : FioDie) : Nat := fld x.liveSil 9 0 * 100000

/-- A die enters silence (R260); FIO2 opens the high-side switches of SO0 to SO3; running firmware reads SILENT (R270). -/
def enterSilence (d : Nat) (s : State) : State :=
  let s := dieSafe d (updDie d (fun x => { x with silent := true, told := false, commit := false, sentArm := false }) s)
  let s := if d = 2 then { s with saf := { s.saf with path := tupd {} 0 (fun x => { x with sw := 0#4 }) s.saf.path } } else s
  if fioRuns s && !boot s then readSilent d s else s

/-! ### Supplies (R250, R251, R260) -/

/-- The supplies of a die's logic: any of FSUP0 to FSUP3 for FIO0, of FSUP4 to FSUP7 for FIO1, SSUP, ASUP. -/
def dieSupplies (d : Nat) : List Nat := if d < 2 then span (4 * d) 4 else [6 + d]
/-- The die that a supply feeds. -/
def supplyDie (k : Nat) : Nat := if k < 4 then 0 else if k < 8 then 1 else k - 6
/-- Every supply of a die is low. -/
def dieStarved (s : State) (d : Nat) : Bool := (dieSupplies d).all (supplyLow s)

/-- A die powers up: in silence, every output off and every AO at 0 mA until it is first armed; it holds no configuration
(R260). -/
def diePowerUp (d : Nat) (s : State) : State :=
  let s := updDie d (fun x => { x with liveSil := 0x14#48, silent := true, fresh := true, frameAt := absNow s, serves := false
                                       told := false, commit := false, sentArm := false }) s
  let s := (dieChans d).foldl (fun s n => updFc n (fun c => { cfg := c.cfg, defer := c.defer, edges := c.edges, faults := c.faults }) s) s
  let s := if d < 2 then (span (4 * d) 4).foldl (fun s g => updGrp g (fun x => { cfg := x.cfg }) s) s else s
  let s := if d = 2 then { s with saf := { s.saf with path := tupd {} 0 (fun x => { x with sw := 0#4 }) s.saf.path } } else s
  if d = 3 then
    let s := (List.range 4).foldl (fun s n => updAi n (fun a => { cfg := a.cfg, lo := a.lo, hi := a.hi }) s) s
    let s := (List.range 4).foldl (fun s n => updAo n (fun a => { cfg := a.cfg }) s) s
    { s with fio := { s.fio with twLive := [] } }
  else s

/-- The first supply of a die comes back: whether the die had lost its power meanwhile is not in the row, and is a free value
(log 105). -/
def supplyReturn (d : Nat) (s : State) : State :=
  let (f, s) := drawWord s
  if f.getLsbD 0 then diePowerUp d s else s

/-- The silence timer has run out. -/
def silenceDue (s : State) (d : Nat) : Bool :=
  !(getDie s d).silent && decide ((getDie s d).frameAt + silenceNs (getDie s d) ≤ absNow s)

/-- A frame whose CRC is right reaches die d: the timer restarts, the die serves while its gate toggles, a re-arming frame
ends silence, and commands count outside silence only: in silence the die drives the SAFE states that it then holds, after
power-up nothing (R260). -/
def dieAccept (d : Nat) (s : State) : State :=
  let s := if silenceDue s d then enterSilence d s else s
  let s := dieTake d (updDie d (fun x => { x with frameAt := absNow s, serves := x.serves || x.gateStop.isNone }) s)
  let x := getDie s d
  if !x.silent then dieDrive d (dieCommands d s)
  else if x.sentArm then
    let s := updDie d (fun x => { x with silent := false, fresh := false, told := false, commit := false, sentArm := false }) s
    dieDrive d (dieCommands d (fioGln 0x0911 d 0 s))
  else if x.fresh then dieDrive d s
  else dieSafe d s

/-! ### Input reports (R253) -/

/-- Lanes [hi, lo] of a word of the next unit, each as given. -/
def withLanes (w : Word) (ls : List (Nat × Bool)) : Word := ls.foldl (fun w l => setBit w l.1 l.2) w

/-- The word of a mapped block after a change of lanes, or nothing for an unmapped block. -/
def laneUpdate (s : State) (w : Nat) (ls : List (Nat × Bool)) : List (Nat × Word) :=
  if w < 20480 then [(w, withLanes (ioWord s w) ls)] else []

/-- One report from die d, written as one unit: the die's reports have not stopped. -/
def fioReport (d unit : Nat) (ws : List (Nat × Word)) (s : State) : State :=
  unitUpdate unit false ws (updDie d (fun x => { x with reportAt := absNow s, lost := false }) s)

/-- The lane of IN_WORD of a channel: the filtered state of an input without a wire break. -/
def inLane (s : State) (n : Nat) : Bool := fcIsIn (getFc s n).live && (getFc s n).input && !(getFc s n).wb

/-- The report of an FC group. -/
def reportGroup (g : Nat) (s : State) : State :=
  fioReport (g / 4) g
    (laneUpdate s (fioInWord s) ((grpChans g).map (fun n => (n, inLane s n))) ++
      laneUpdate s (fioDiagWord s) ((grpChans g).map (fun n => (n, fcFlagged s n)))) s

/-- The report of an analog input. -/
def reportAi (n : Nat) (s : State) : State :=
  fioReport 3 (8 + n)
    ((if fioAiWord s + n < 20480 then [(fioAiWord s + n, (getAi s n).word)] else []) ++
      laneUpdate s (fioDiagWord s) [(32 + n, aiFlagged s n)]) s

/-- The report of an analog output. -/
def reportAo (n : Nat) (measured : Word) (s : State) : State :=
  let s := updAo n (fun a => { a with meas := measured }) s
  fioReport 3 (12 + n)
    ((if fioAomWord s + n < 20480 then [(fioAomWord s + n, measured)] else []) ++
      laneUpdate s (fioDiagWord s) [(36 + n, aoFlagged s n)]) s

/-! ### Analog inputs (R262) -/

/-- Limits of the fault: below 3.6 mA or above 21.0 mA, below −0.5 V or above 10.5 V. -/
def aiOut (w : Word) (raw : Word) : Bool :=
  if fld w 47 46 = 1 then decide (raw.toInt * 2 < -(2 ^ 32)) || decide (21 * 2 ^ 32 < raw.toInt * 2)
  else decide (raw.toInt * 10 < 36 * 2 ^ 32) || decide (21 * 2 ^ 32 < raw.toInt)

/-- The measuring range: −0.5 V to 10.5 V, 0 to 24 mA. -/
def aiClamp (w : Word) (raw : Word) : Word :=
  if fld w 47 46 = 1 then wi (clampI (-(2 ^ 31)) (21 * 2 ^ 31) raw.toInt) else wi (clampI 0 (24 * 2 ^ 32) raw.toInt)

/-- First-order filter of time constant TAU at 1 kS/s: in one sample the value moves by the fraction 1 − e^(−1 ms / TAU) of its
distance to the sample, which lies between 1 / (1 + TAU) and 1 / TAU, TAU in ms; the digits of the fraction are a free value
within these bounds (log 1). With TAU 0 the value is the sample. -/
def aiFilter (n : Nat) (v : Word) (s : State) : Word × State :=
  let a := getAi s n
  if !a.started || fld a.live 43 30 = 0 then (v, s)
  else
    let (f, s) := drawWord s
    let tau := fld a.live 43 30
    let lo := 2 ^ 48 / (1 + tau)
    let g : Nat := lo + f.toNat % (2 ^ 48 / tau - lo + 1)
    (wi (a.x.toInt + ((v.toInt - a.x.toInt) * (g : Int)).tdiv (2 ^ 48)), s)

/-- The word: V or mA, or scaled between AI_LO and AI_HI; a scaled value outside the number format is free (log 1). -/
def aiScale (a : AiCh) (x : Word) (s : State) : Word × State :=
  if !bit a.live 44 then (x, s)
  else
    let x0 : Int := if fld a.live 47 46 = 1 then 0 else 4 * 2 ^ 32
    let sp : Int := if fld a.live 47 46 = 1 then 10 * 2 ^ 32 else 16 * 2 ^ 32
    let v := a.liveLo.toInt + divNear ((x.toInt - x0) * (a.liveHi.toInt - a.liveLo.toInt)) sp
    if -(2 ^ 47) ≤ v ∧ v < 2 ^ 47 then (wi v, s) else drawWord s

/-- A sample of AIn in V or mA, Q16.32: filter, scale, fault, report. -/
def aiSample (n : Nat) (raw : Word) (s : State) : State :=
  let w := (getAi s n).live
  let out := aiOut w raw
  let was := (getAi s n).fault
  let now := absNow s
  let goodAt := if out || (was && aiOut w (getAi s n).raw) then now else (getAi s n).goodAt
  let (x, s) := aiFilter n (aiClamp w raw) s
  let (v, s) := aiScale (getAi s n) x s
  let ends := was && !out && decide (goodAt + 100000000 ≤ now)
  let s := updAi n (fun a => { a with raw, x, word := v, started := true, goodAt, fault := out || (was && !ends) }) s
  let s := if out && !was then fire (60 + n) (laneGln 0x0920 n 1 s) else if ends then laneGln 0x0920 n 0 s else s
  reportAi n s

end Sys2Proof.Machine
end

