-- ==== Sys2Proof/Machine/SafOps.lean ====
section
/-! DEFINITION. The safety channel: its block, what each path finds of inputs and instances, the outputs, and the channel's
states (11 R271 to R299). All its times run on through a device reset. -/

namespace Sys2Proof.Machine

/-! ### The block (R275) -/

def sfWord (s : State) (i : Nat) : Word := s.saf.block.getD i 0#48
def sfGlob (s : State) : Word := sfWord s 0
def siCfg (s : State) (j : Nat) : Word := sfWord s (1 + j)
def sfInst (s : State) (i : Nat) : Word := sfWord s (17 + 2 * i)
def sfPar (s : State) (i : Nat) : Word := sfWord s (18 + 2 * i)
def sfAxle (s : State) (a : Nat) : Word := sfWord s (49 + a)
def sfOut (s : State) (k : Nat) : Word := sfWord s (51 + k)

def siTYPE (w : Word) : Nat := fld w 47 45
def siA (w : Word) : Nat := fld w 43 40
def siB (w : Word) : Nat := fld w 39 36
def siRstEn (w : Word) : Bool := bit w 35
def siRst (w : Word) : Nat := fld w 34 31
def sfT1 (s : State) (i : Nat) : Nat := fld (sfPar s i) 47 32
def sfT2 (s : State) (i : Nat) : Nat := fld (sfPar s i) 31 16

/-- An instance of types 0x1 to 0x5 names its inputs (R277). -/
def namesInputs (w : Word) : Bool := 1 ≤ siTYPE w && siTYPE w ≤ 5

/-- Check value of a block: CRC-32 over its 330 bytes (R275). -/
def blockCheck (b : List Word) : Nat := crc32 (b.flatMap wB)

/-! ### Derivation and checks of a block (R276, R277) -/

/-- Words of a block under derivation. -/
def bw (b : List Word) (i : Nat) : Word := b.getD i 0#48

/-- An instance's T1 and T2 at the basic level (Table 11-7). -/
def basicPar (ty : Nat) : Word :=
  match ty with
  | 3 => wd (500 * 2 ^ 32) | 4 => wd (200 * 2 ^ 32 + 2000 * 2 ^ 16) | 5 => wd (500 * 2 ^ 32 + 60 * 2 ^ 16)
  | 6 => wd (30 * 2 ^ 32 + 20 * 2 ^ 16) | _ => 0#48

/-- Instances that name input j, as 0 SIA, 1 SIB, 2 RST. -/
def namers (b : List Word) (j : Nat) : List (Nat × Word) :=
  (List.range 16).flatMap (fun i =>
    let w := bw b (17 + 2 * i)
    if !namesInputs w then []
    else (if siA w = j then [(0, w)] else []) ++ (if siB w = j then [(1, w)] else []) ++ (if siRstEn w && siRst w == j then [(2, w)] else []))

/-- SI_CFG[j] as derived (R277). -/
def deriveInput (b : List Word) (j : Nat) : Word :=
  let ns := namers b j
  if ns = [] || ns.any (fun e => bit e.2 44) then bw b (1 + j)
  else if ns.any (·.1 == 0) then wd (2 ^ 46 + 30 * 2 ^ 36)
  else if ns.any (·.1 == 1) then wd (2 ^ 46 + 2 * 2 ^ 44 + 30 * 2 ^ 36)
  else wd (30 * 2 ^ 36)

/-- The reserved bits of each word read 0. -/
def blockMask (i : Nat) : Word :=
  if i = 0 then 0xFFFFF8000000#48 else if i ≤ 16 then 0xFFF800000000#48
  else if i ≤ 48 then (if i % 2 = 1 then 0xFFFF80000000#48 else 0xFFFFFFFF0000#48)
  else if i ≤ 50 then 0xFFFFFFFC0000#48 else 0xFFFFC0000000#48

/-- A block as loaded, with the derived words in place of the basic ones; EXPERT marks the others. -/
def deriveBlock (raw : List Word) : List Word :=
  let b := (List.range 55).map (fun i => bw raw i &&& blockMask i)
  let b := (List.range 55).map (fun i =>
    let w := bw b i
    if i = 0 then (if bit w 27 then w else wd (15 * 2 ^ 44 + 50 * 2 ^ 36 + 10 * 2 ^ 28))
    else if 17 ≤ i ∧ i ≤ 48 ∧ i % 2 = 0 then (if bit (bw b (i - 1)) 44 then w else basicPar (siTYPE (bw b (i - 1))))
    else if 51 ≤ i then (if bit w 30 then w else setBit w 31 true)
    else w)
  (List.range 55).map (fun i => if 1 ≤ i ∧ i ≤ 16 then deriveInput b (i - 1) else bw b i)

/-- T1 and T2 within the ranges of Table 11-7. -/
def parOk (ty t1 t2 : Nat) : Bool :=
  match ty with
  | 1 => t1 == 0 && t2 == 0 | 2 => t1 == 0 && t2 == 0
  | 3 => 20 ≤ t1 && t1 ≤ 3000 && t2 == 0
  | 4 => 50 ≤ t1 && t1 ≤ 1000 && 100 ≤ t2 && t2 ≤ 5000
  | 5 => 50 ≤ t1 && t1 ≤ 1000 && 1 ≤ t2 && t2 ≤ 600
  | 6 => 1 ≤ t1 && t1 ≤ 50 && 5 ≤ t2 && t2 ≤ 100
  | _ => true

/-- Path of a test-pulse output: TP0, TP1 processor; TP2, TP3 hardwired. -/
def tpPath (w : Word) : Nat := fld w 45 44 / 2

/-- The encoded fields of a block, MODE of an input and TYPE of an instance, are listed (00 R17, 02 R482). -/
def blockListed (b : List Word) : Bool :=
  (List.range 16).all (fun j => fld (bw b (1 + j)) 47 46 ≤ 1 && siTYPE (bw b (17 + 2 * j)) ≤ 6)

/-- The checks of R276 on a derived block. -/
def blockOk (b : List Word) : Bool :=
  let g := bw b 0
  20 ≤ fld g 43 36 && fld g 43 36 ≤ 100 && 1 ≤ fld g 35 28 && fld g 35 28 ≤ 100 &&
  (List.range 16).all (fun j =>
    let w := bw b (1 + j)
    fld w 47 46 ≤ 1 && 5 ≤ fld w 43 36 && fld w 43 36 ≤ 200 && (fld w 47 46 != 1 || bit g (44 + fld w 45 44))) &&
  (List.range 16).all (fun i =>
    let w := bw b (17 + 2 * i)
    let p := bw b (18 + 2 * i)
    let a := bw b (1 + siA w)
    let c := bw b (1 + siB w)
    siTYPE w ≤ 6 && parOk (siTYPE w) (fld p 47 32) (fld p 31 16) &&
    (!namesInputs w || (siA w != siB w &&
      !(fld a 47 46 == 1 && fld c 47 46 == 1 && tpPath a == tpPath c))) &&
    !(siRstEn w && (siRst w == siA w || siRst w == siB w)) &&
    !(siTYPE w == 5 && siRstEn w) &&
    (siTYPE w != 6 || (siA w == 0 && siB w == 0 && !siRstEn w))) &&
  (List.range 2).all (fun n =>
    let w := bw b (49 + n)
    let t := fld w 47 36
    let d := fld w 35 18
    (t == 0 || (16 ≤ t && t ≤ 1024)) && (d == 0 || (30000 ≤ d && d ≤ 150000)) &&
    ((List.range 16).all (fun i => siTYPE (bw b (17 + 2 * i)) != 6) || (t != 0 && d != 0))) &&
  (List.range 4).all (fun k => (List.range 16).all (fun i => !bit (bw b (51 + k)) (32 + i) || siTYPE (bw b (17 + 2 * i)) != 0))

/-! ### Paths -/

def pathNo : SafPath → Nat
  | .processor => 0
  | .hardwired => 1

def getPath (s : State) (p : Nat) : SafPathSt := tget {} s.saf.path p
def updPath (p : Nat) (f : SafPathSt → SafPathSt) (s : State) : State := { s with saf := { s.saf with path := tupd {} p f s.saf.path } }
def getInst (s : State) (p i : Nat) : SafInst := tget {} (getPath s p).inst i
def updInst (p i : Nat) (f : SafInst → SafInst) (s : State) : State := updPath p (fun x => { x with inst := tupd {} i f x.inst }) s
def getIn (s : State) (p j : Nat) : SafIn := tget {} (getPath s p).inp j
def updIn (p j : Nat) (f : SafIn → SafIn) (s : State) : State := updPath p (fun x => { x with inp := tupd {} j f x.inp }) s

/-- A safety entry: origin level 3, tenant T0 (R302). The channel runs on while the device is in reset: its entries are then written
at the start-up that follows. -/
def safGln (code p1 p2 : Nat) (s : State) : State :=
  if s.aon.inReset then { s with saf := { s.saf with owed := s.saf.owed ++ [(code, p1, p2)] } } else gln code 3 0 p1 p2 s

/-- An input is pulsed from test-pulse output k. -/
def pulsedFrom (s : State) (j k : Nat) : Bool := fld (siCfg s j) 47 46 == 1 && fld (siCfg s j) 45 44 == k

/-! ### Test pulses (R278, R279) -/

/-- The test-pulse outputs run: from 150 ms after a start on, in START and SAFE_RUN (Table 11-16; log 107). -/
def tpRuns (s : State) : Bool := s.saf.state == 5 || (s.saf.state == 1 && decide (s.saf.startAt + 150000000 ≤ absNow s))

def tpPeriodNs (s : State) : Nat := fld (sfGlob s) 35 28 * 10000000
def tpWidthNs (s : State) : Nat := fld (sfGlob s) 43 36 * 10000

/-- Time since the pulses of TPk began to count: its first dark pulse starts k × TP_PERIOD / 4 after 150 ms; none before it. -/
def tpClock (s : State) (k : Nat) : Option Nat :=
  let t0 := s.saf.startAt + 150000000 + k * tpPeriodNs s / 4
  if tpRuns s && bit (sfGlob s) (44 + k) && t0 ≤ absNow s && tpPeriodNs s != 0 then some (absNow s - t0) else none

/-- TPk is in its dark pulse, or within d ns after its end. -/
def tpDark (s : State) (k d : Nat) : Bool :=
  match tpClock s k with
  | some t => decide (t % tpPeriodNs s < tpWidthNs s + d)
  | none => false

/-- TPk is on: enabled, running, outside its dark pulse, with SSUP (R250, R278). -/
def tpOn (s : State) (k : Nat) : Bool := tpRuns s && bit (sfGlob s) (44 + k) && !tpDark s k 0 && !supplyLow s 8

/-- The number, from 1, of the dark pulse of TPk whose last 50 µs this is; 0 for none (R279). -/
def tpCheck (s : State) (k : Nat) : Nat :=
  match tpClock s k with
  | some t => if t % tpPeriodNs s ≤ tpWidthNs s ∧ tpWidthNs s ≤ t % tpPeriodNs s + 50000 then t / tpPeriodNs s + 1 else 0
  | none => 0

/-- An input is held: a pulsed input from the start of each dark pulse of its output until 200 µs after its end (R279). -/
def inMasked (s : State) (j : Nat) : Bool := fld (siCfg s j) 47 46 == 1 && tpDark s (fld (siCfg s j) 45 44) 200000

/-- A path finds an input closed: accepted high, no TEST fault, its test-pulse output not overloaded (R279, R280). -/
def safClosed (s : State) (p j : Nat) : Bool :=
  (getIn s p j).high && !(getIn s p j).test &&
    !(fld (siCfg s j) 47 46 == 1 && (getPath s p).tpOver.getLsbD (fld (siCfg s j) 45 44))

/-! ### Channel states (R274) -/

/-- The channel's state changes. Out of SAFE_RUN every switch opens; SAFE is set at each transition out of SAFE_RUN and at
each entry to AWAIT_CONFIRM, from AWAIT_CONFIRM too (Table 11-2). -/
def safState (st : Nat) (s : State) : State :=
  let old := s.saf.state
  if old = st && st != 4 then s
  else
    let s := { s with saf := { s.saf with state := st } }
    let s := if st = 5 then s else updPath 0 (fun x => { x with sw := 0#4 }) (updPath 1 (fun x => { x with sw := 0#4 }) s)
    let s := safGln 0x0A01 (old * 256 + st) s.saf.fcode s
    if (old = 5 || st = 4) && !s.aon.inReset then latchTenant 0 bitSAFE s else s

/-- A fault of the channel: code and detecting path (R292). -/
def safFault (code p : Nat) (s : State) : State :=
  safState 6 (safGln 0x0A04 code p { s with saf := { s.saf with fcode := code } })

/-- An output fault: both switches open until a restart (R291). -/
def outputFault (k kind : Nat) (s : State) : State :=
  if tget 0 s.saf.fkind k != 0 then s
  else
    let m := ~~~(BitVec.ofNat 4 (2 ^ k))
    let s := { s with saf := { s.saf with fkind := tput 0 k kind s.saf.fkind } }
    safGln 0x0A05 k kind (updPath 0 (fun x => { x with sw := x.sw &&& m }) (updPath 1 (fun x => { x with sw := x.sw &&& m }) s))

/-- What a start forgets of a path: instances, gate drives, pulses passed, tests, comparisons. -/
def pathFresh (x : SafPathSt) : SafPathSt :=
  { x with inst := [], inp := (List.range 16).foldl (fun t j => tupd {} j (fun i => { i with once := false }) t) x.inp
           pulse := [], testAt := [], sw := 0#4, gateOff := 0#4, inDiff := [], permDiff := [], perDiff := none, intDiff := [] }

/-- The channel enters START (R294). -/
def safStart (s : State) : State :=
  let s := safState 1 s
  updPath 0 pathFresh (updPath 1 pathFresh { s with saf := { s.saf with startAt := absNow s, current := 0#4 } })

/-- The channel loses power or is stopped for SLEEP (R273, 18 R442): OFF, and what the paths held is gone. -/
def safOff (s : State) : State :=
  let s := safState 0 s
  { s with saf := { s.saf with path := [], fkind := [], current := 0#4 } }

/-! ### Instances (R281 to R288) -/

/-- An instance changes its state: source 32 + i, 0x0A02, DEMANDS (R281, Table 11-22). -/
def setInst (p i st cause : Nat) (s : State) : State :=
  let x := getInst s p i
  if x.st = st && x.cause = cause then s
  else
    let s := updInst p i (fun x => { x with st, cause, demands := if st = 1 then Nat.min 65535 (x.demands + 1) else x.demands, rst := none }) s
    fire (32 + i) (safGln 0x0A02 (i * 256 + st) cause s)

/-- The instance moves to DEMAND; `o`: both inputs have been open since. -/
def toDemand (p i : Nat) (o : Bool) (s : State) : State := updInst p i (fun x => { x with opened := o, ready := false }) (setInst p i 1 0 s)

/-- The conditions for PERMIT are met: PERMIT, or WAIT_RESET with RST_EN 1 (R286). -/
def safPermit (p i : Nat) (s : State) : State := setInst p i (if siRstEn (sfInst s i) then 3 else 4) 0 s

/-- The current-in-range bit of TW0 or TW1; it is 1 only for inputs of KIND 0x0 (R287). -/
def inRange (s : State) (n : Nat) : Bool := fld (wget s.fio.twLive n) 47 46 == 0 && !tget false s.fio.twFault n

/-- The inputs of one instance as sampled at one instant. -/
def sampleInst (p i : Nat) (s : State) : State :=
  let w := sfInst s i
  let now := absNow s
  let ca := if siTYPE w = 6 then inRange s 0 else safClosed s p (siA w)
  let cb := if siTYPE w = 6 then inRange s 1 else safClosed s p (siB w)
  updInst p i (fun x => { x with
    fell := (x.a && !ca) || (x.b && !cb)
    late := x.a != x.b && ca == cb && decide ((if siTYPE w = 3 then sfT1 s i else sfT2 s i) * 1000000 < now - Nat.max x.aAt x.bAt)
    a := ca, b := cb, aAt := if ca = x.a then x.aAt else now, bAt := if cb = x.b then x.bAt else now
    opened := x.opened || (!ca && !cb) }) s

/-- Demands (R288): an open input or motion ends PERMIT and WAIT_RESET, and an input that opens ends WAIT_CYCLE (R281). -/
def demandInst (p i : Nat) (s : State) : State :=
  let w := sfInst s i
  let x := getInst s p i
  if x.st = 2 && x.fell then toDemand p i (!x.a && !x.b) s
  else if x.st != 3 && x.st != 4 then s
  else if siTYPE w = 6 then (if x.ready then s else toDemand p i false s)
  else if x.a && x.b then s
  else toDemand p i (siTYPE w == 5 || (!x.a && !x.b)) s

/-- A TEST fault on an input the instance uses. -/
def testFault (s : State) (p i : Nat) : Bool :=
  let w := sfInst s i
  namesInputs w && ((getIn s p (siA w)).test || (getIn s p (siB w)).test || (siRstEn w && (getIn s p (siRst w)).test))

/-- Faults and their ends (Table 11-11). -/
def faultInst (p i : Nat) (s : State) : State :=
  let w := sfInst s i
  let x := getInst s p i
  let bothOpen := !x.a && !x.b
  if x.st = 5 then
    match x.cause with
    | 3 => if !testFault s p i && bothOpen then toDemand p i true s else s
    | 4 => if x.a && x.b && Nat.max x.aAt x.bAt + 1000000000 ≤ absNow s then toDemand p i false s else s
    | 5 => s
    | _ => if bothOpen then toDemand p i true s else s
  else if testFault s p i then setInst p i 5 3 s
  else if (siTYPE w = 3 || siTYPE w = 4) && x.late then setInst p i 5 2 s
  else if x.st = 1 && (siTYPE w = 1 || siTYPE w = 2) && x.a && x.b && !x.opened then setInst p i 5 1 s
  else s

/-- Permits: the conditions that an evaluation can see; SETTLE and standstill have rows of their own. -/
def permitInst (p i : Nat) (s : State) : State :=
  let w := sfInst s i
  let x := getInst s p i
  let both := x.a && x.b
  match siTYPE w with
  | 1 => if x.st = 1 && both && x.opened then safPermit p i s else s
  | 2 => if (x.st = 1 || x.st = 2) && both && x.opened then safPermit p i s else s
  | 3 => if x.st = 1 && both then safPermit p i s else s
  | 5 =>
    if x.st = 1 && both && x.opened then
      if Nat.max x.aAt x.bAt - Nat.min x.aAt x.bAt ≤ sfT1 s i * 1000000 then safPermit p i s
      else updInst p i (fun x => { x with opened := false }) s
    else s
  | _ => s

/-- The manual reset: a closing of RST of 50 ms to 3 s that began in WAIT_RESET (R286). -/
def resetInst (p i : Nat) (waited : Bool) (s : State) : State :=
  let w := sfInst s i
  if !(namesInputs w && siRstEn w) then s
  else
    let c := safClosed s p (siRst w)
    let x := getInst s p i
    let now := absNow s
    let ok := match x.rst with | some t => decide (t + 50000000 ≤ now) && decide (now ≤ t + 3000000000) | none => false
    let begun := if c && !x.rstWas && waited && x.st = 3 then some now else if c then x.rst else none
    let s := if waited && x.st = 3 && !c && x.rstWas && ok then setInst p i 4 0 s else s
    updInst p i (fun x => { x with rstWas := c, rst := if x.st = 3 then begun else none }) s

/-- One evaluation of all instances of a path: demands, then faults, then permits (R288). -/
def evalInsts (p : Nat) (s : State) : State :=
  let is := (List.range 16).filter (fun i => siTYPE (sfInst s i) != 0)
  let s := is.foldl (fun s i => sampleInst p i s) s
  let s := is.foldl (fun s i => demandInst p i s) s
  let s := is.foldl (fun s i => faultInst p i s) s
  is.foldl (fun s i => let w := (getInst s p i).st == 3; resetInst p i w (permitInst p i s)) s

/-! ### Outputs (R272, R289, R291) -/

/-- Every instance that SF_OUT[k] names permits on a path; with INST 0 the output never conducts. -/
def outPermits (s : State) (p k : Nat) : Bool :=
  fld (sfOut s k) 47 32 != 0 && (List.range 16).all (fun i => !bit (sfOut s k) (32 + i) || (getInst s p i).st == 4)

/-- A path's switch of SOk may be closed (R272). -/
def switchOk (s : State) (p k : Nat) : Bool :=
  s.saf.state == 5 && tget 0 s.saf.fkind k == 0 && outPermits s p k && !(getPath s p).gateOff.getLsbD k &&
    (p == 1 || ((!bit (sfOut s k) 31 || reqLane s k) && !(getDie s 2).silent))

/-- A path's switch of SOk is closed: it is commanded so, SSUP feeds it, and for the high-side switch the request lane is 1 where
REQ_EN asks for it and no commit or force has brought it to 0 since the last evaluation (R251, R272): a lane that rises closes the
switch at an evaluation only, in which a demand stands before it (R288). -/
def soClosed (s : State) (p k : Nat) : Bool :=
  (getPath s p).sw.getLsbD k && !supplyLow s 8 &&
    (p == 1 || !bit (sfOut s k) 31 || (reqLane s k && tget 0 s.img.lows k == tget 0 (getPath s p).seen k))

/-- Bits k for which f k holds. -/
def bits4 (f : Nat → Bool) : BitVec 4 := BitVec.ofNat 4 ((List.range 4).foldl (fun a k => a + (if f k then 2 ^ k else 0)) 0)

/-- A path commands its switches. -/
def driveSwitches (p : Nat) (s : State) : State :=
  let m := bits4 (switchOk s p)
  updPath p (fun x => { x with sw := m, seen := s.img.lows }) s

/-- What the readback of one output shows against the switches commanded (R291). -/
def readbackFault (s : State) (rb : SoReadback) (k : Nat) : Nat :=
  let hs := soClosed s 0 k
  let ls := soClosed s 1 k
  if rb.current.getLsbD k && !hs then 2
  else if rb.current.getLsbD k && !ls then 3
  else if rb.limit.getLsbD k then 4
  else if rb.above10V.getLsbD k && !hs && !ls then 5
  else 0

/-- One evaluation of a path: instances, readback, switches. -/
def evalPath (p : Nat) (rb : SoReadback) (s : State) : State :=
  let s := (List.range 4).foldl (fun s k => let f := readbackFault s rb k; if f = 0 then s else outputFault k f s) s
  let s := { s with saf := { s.saf with current := rb.current } }
  driveSwitches p (evalInsts p s)

/-! ### Axles (R287) -/

/-- Bit i of a mask of instances. -/
def setLane (m : BitVec 16) (i : Nat) (v : Bool) : BitVec 16 :=
  let b := BitVec.ofNat 16 (2 ^ i)
  if v then m ||| b else m &&& ~~~b

/-- Whether an interval is shorter than T_LIM × num / den, with π to fifteen figures (log 6). -/
def shortInterval (s : State) (i a interval num den : Nat) : Bool :=
  let w := sfAxle s a
  decide (interval * sfT1 s i * fld w 47 36 * 100000000000000 * den < 314159265358979 * fld w 35 18 * 360000 * num)

/-- A rising edge of A of TW0 or TW1 reaches both paths, on couplers of their own. The hardwired path may declare motion from
0.94 × SPEED_LIM upward: whether it does is free (log 1). -/
def safEdge (n : Nat) (s : State) : State :=
  if s.saf.state != 5 || 2 ≤ n then s
  else (List.range 2).foldl (fun s p =>
    let now := absNow s
    let x := tget {} (getPath s p).axle n
    let iv := match x.edge with | some e => now - e | none => 0
    let s := updPath p (fun y => { y with axle := tput {} n { x with edge := some now, interval := iv } y.axle }) s
    if x.edge.isNone then s
    else (List.range 16).foldl (fun s i =>
      if siTYPE (sfInst s i) != 6 then s
      else
        let (moves, s) :=
          if shortInterval s i n iv 1 1 then (true, s)
          else if p = 1 && shortInterval s i n iv 100 94 then let (f, s) := drawWord s; (bit f 0, s)
          else (false, s)
        let s := updPath p (fun y => { y with axle := tupd {} n (fun x => { x with moved := setLane x.moved i moves }) y.axle }) s
        if moves then updInst p i (fun y => { y with motion := now, ready := false }) s else s) s) s

end Sys2Proof.Machine
end

