-- ==== Sys2Proof/Machine/Axles.lean ====
section
/-! DEFINITION. LINEPOS and SUPANG: tooth acceptance, fusion, coasting, the position tick, the mains inputs (07 R186 to
R194). -/

namespace Sys2Proof.Machine

def updAxle (n : Nat) (f : Axle → Axle) (s : State) : State := { s with tb := { s.tb with axle := tupd {} n f s.tb.axle } }

/-! ### Quantities of an axle -/

/-- The pitch in LINEPOS counts × 65,536; π to 15 places (log 6). -/
def axPitch (a : Axle) : Nat := fld a.cfg 35 18 * 64 * 65536 * 3141592653589793 / (100 * fld a.cfg 47 36 * 1000000000000000)

/-- Speed of one pitch per d ns, in SPEED units. -/
def axSpeed (a : Axle) (d : Nat) : Nat := axPitch a * 16000000000 / (65536 * d)

/-- Period of one pitch at speed v, in ns. -/
def axPeriod (a : Axle) (v : Nat) : Nat := axPitch a * 16000000000 / (65536 * v)

/-- WIN × Tp / 100. -/
def axWindow (a : Axle) : Nat := fld a.cfg 14 8 * a.tp / 100

/-- Largest change of speed over d ns (ACC_MAX). -/
def accBound (s : State) (d : Nat) : Nat := fld s.tb.lpCfg 47 40 * 51200 * d / 1000000000

def pmaxNs (s : State) : Nat := fld s.tb.lpCfg 23 16 * 1000000
def stillNs (s : State) : Nat := fld s.tb.lpCfg 15 8 * 100000000
def coastNs (s : State) : Nat := fld s.tb.lpCfg 31 24 * 100000000

/-- LINEPOS at an instant, from its history. -/
def lineAt (s : State) (t : Nat) : Int := ((s.tb.hist.find? (fun h => h.1 ≤ t)).map (·.2)).getD s.tb.pos

/-! ### Fusion (07 R188 to R190) -/

/-- An axle that may be admitted. -/
def axHealthy (a : Axle) : Bool := axleOn a && (a.state == 3 || a.state == 1)

/-- Speed of an axle for fusion; an axle in STILL counts with speed 0. -/
def axV (a : Axle) : Nat := if a.state = 1 then 0 else a.v
def axRaw (a : Axle) : Nat := if a.state = 1 then 0 else a.raw

/-- The middle speed, or the mean of the two middle ones. -/
def refSpeed (vs : List Nat) : Nat :=
  let l := sortBy (fun a b => a ≤ b) vs
  let n := l.length
  if n % 2 = 1 then l.getD (n / 2) 0 else (l.getD (n / 2 - 1) 0 + l.getD (n / 2) 0) / 2

def natDist (a b : Nat) : Nat := (a - b) + (b - a)

/-- Within SLIP_TOL plus 1 km/h of a reference. -/
def inTol (s : State) (ref v : Nat) : Bool := natDist v ref * 1000 ≤ fld s.tb.lpCfg 39 32 * ref + 284444444

/-- The position of an axle at an instant, in LINEPOS counts × 65,536: its last tooth position extrapolated at v, never
past the next tooth before that tooth's acceptance decision (R187). -/
def axPosAt (a : Axle) (t : Nat) : Int :=
  let d := Nat.min (axPitch a) (a.v * (t - a.tLast.getD t) * 65536 / 16000000000)
  a.pos + (d : Int) * (if a.back then -1 else 1)

/-- The axles that pass, by the number of healthy ones (R188), and the reference speed. -/
def axPasses (s : State) : Nat × List (Nat × Bool) :=
  let hs := (List.range 4).filter (fun n => axHealthy (getAxle s n))
  let v := fun n => axV (getAxle s n)
  let ref := refSpeed (hs.map v)
  let steady := fun n m =>
    let a := getAxle s n
    match a.agreed.lookup m with
    | some (v0, t0) => natDist (axRaw a) v0 ≤ accBound s (s.clk - t0)
    | none => false
  match hs with
  | [n] => (ref, [(n, natDist (axRaw (getAxle s n)) (v n) == 0)])
  | [n, m] =>
    if inTol s ref (v n) && inTol s ref (v m) then (ref, [(n, true), (m, true)])
    else (ref, [(n, steady n m && !steady m n), (m, steady m n && !steady n m)])
  | _ => (ref, hs.map (fun n => (n, inTol s ref (v n))))

/-- The exclusions and agreements that follow. Two axles agree at an instant at which both lie within the tolerance of the
reference; an axle that is not healthy agrees with none. -/
def axJudge (s : State) : State :=
  let (ref, ps) := axPasses s
  let near := (ps.map (·.1)).filter (fun n => inTol s ref (axV (getAxle s n)))
  let s := (List.range 4).foldl (fun s n => if axHealthy (getAxle s n) then s else updAxle n (fun a => { a with agreeSince := none }) s) s
  let met := fun (s : State) (n : Nat) (a : Axle) =>
    (near.filter (· != n)).map (fun m => (m, axRaw a, s.clk)) ++ a.agreed.filter (fun e => !near.contains e.1)
  let s := near.foldl (fun s n => updAxle n (fun a => { a with agreed := met s n a }) s) s
  let s := ps.foldl (fun s e =>
    let (n, ok) := e
    let a := getAxle s n
    if ok then
      if a.excluded then updAxle n (fun a => { a with agreeSince := a.agreeSince.or (some s.clk) }) s
      else s
    else
      let s := updAxle n (fun a => { a with agreeSince := none }) s
      if a.excluded then s
      else
        let s := updAxle n (fun a => { a with excluded := true }) s
        gln 0x0505 3 0 n ((axV a : Int) - ref) (fire (48 + 2 * n) s)) s
  s

/-- The axles that R188 and R189 take after judgement: those that pass, are not excluded and agree in direction with
the majority; with a tie, with the previous direction. An axle at speed 0 agrees with either direction. -/
def axAdmitted (s : State) : List Nat :=
  let ps := (axPasses s).2
  let ns := (ps.filter (fun e => e.2 && !(getAxle s e.1).excluded)).map (·.1)
  let moving := ns.filter (fun n => axV (getAxle s n) != 0)
  let back := moving.countP (fun n => (getAxle s n).back)
  let fwd := moving.length - back
  let dirBack := if back = fwd then decide (s.tb.speed < 0) else decide (fwd < back)
  ns.filter (fun n => axV (getAxle s n) == 0 || (getAxle s n).back == dirBack)

/-- LP_OK falls: R190, R203. -/
def lpFall (s : State) : State :=
  if s.tb.lpOk then
    let us := match s.tb.coastAt with | some t => (s.clk - t) / 1000 | none => 0
    let s := { s with tb := { s.tb with lpOk := false } }
    slotsLost 1 false (gln 0x0508 3 0 us s.tb.pos s)
  else s

/-- Fusion: admission, SPEED, coasting and LP_OK. -/
def axFuse (s : State) : State :=
  let s := axJudge { s with tb := { s.tb with judged := true } }
  let ns := axAdmitted s
  let was := (List.range 4).any (fun n => (getAxle s n).admitted)
  let s := (List.range 4).foldl (fun s n => updAxle n (fun a => { a with admitted := ns.contains n }) s) s
  if ns = [] then
    let s := if was then gln 0x0507 3 0 s.tb.speed s.tb.pos { s with tb := { s.tb with coastAt := some s.clk } } else s
    if (List.range 4).any (fun n => axleOn (getAxle s n)) then s else lpFall s
  else
    let vs := ns.map (fun n => (axV (getAxle s n) : Int) * (if (getAxle s n).back then -1 else 1))
    let s := { s with tb := { s.tb with speed := vs.sum.tdiv ns.length, coastAt := none } }
    if s.tb.lpOk then s else gln 0x0509 3 0 ns.length s.tb.pos { s with tb := { s.tb with lpOk := true } }

/-- An acceptance decision of axle n on a tooth at instant t: fusion, and LINEPOS moves by 1/N of the axle's difference
(R189). An axle that was not admitted before takes its tooth position from LINEPOS (log 6). -/
def axDecide (n t : Nat) (s : State) : State :=
  let was := (getAxle s n).admitted
  let s := axFuse s
  let k := (List.range 4).countP (fun m => (getAxle s m).admitted)
  if !(getAxle s n).admitted then s
  else if !was then updAxle n (fun a => { a with pos := lineAt s t * 65536 }) s
  else lineMove (((getAxle s n).pos - lineAt s t * 65536) * 64000000 / (65536 * (k : Int))) s

/-! ### Tooth acceptance (07 R186, R187) -/

/-- A rejected edge. -/
def axReject (n : Nat) (s : State) : State :=
  let s := updAxle n (fun a => { a with reject := Nat.min 65535 (a.reject + 1) }) s
  gln 0x0501 3 0 n (getAxle s n).reject (fire (48 + 2 * n) s)

/-- A candidate, if any, is rejected. -/
def axDropCand (n : Nat) (s : State) : State :=
  if (getAxle s n).cand.isSome then axReject n (updAxle n (fun a => { a with cand := none }) s) else s

/-- The estimator takes an accepted tooth at instant x. -/
def axTake (s : State) (x : Nat) (a : Axle) : Axle :=
  let a := match a.tLast with
    | some t =>
      let d := x - t
      if d = 0 then a
      else
        let raw := axSpeed a d
        let b := accBound s d
        let v := if raw < a.v - b then a.v - b else if a.v + b < raw then a.v + b else raw
        { a with raw, v, tp := if v = 0 then a.tp else axPeriod a v, lastPer := some d }
    | none => a
  { a with tLast := some x, lastAcc := some x, miss := 0, pos := a.pos + (axPitch a : Int) * (if a.back then -1 else 1) }

/-- Acceptance of a tooth at x: the decision, then the confirmed slots. -/
def axAccept (n x : Nat) (s : State) : State :=
  let s := axDecide n x (updAxle n (axTake s x) s)
  if (getAxle s n).admitted then confirmedFire s else s

/-- Entry to START (R187). -/
def axStart (n : Nat) (back : Bool) (s : State) : State :=
  updAxle n (fun a => { a with state := 2, back, tLast := none, lastPer := none, cand := none, miss := 0 }) s

/-- START becomes TRACK when two successive accepted periods differ by no more than WIN per cent. -/
def axTrack (n : Nat) (before : Option Nat) (s : State) : State :=
  let a := getAxle s n
  match before, a.lastPer with
  | some p, some q =>
    if a.state = 2 ∧ natDist p q * 100 ≤ fld a.cfg 14 8 * p then
      let s := updAxle n (fun a => { a with state := 3, wasLost := false }) s
      if a.wasLost then gln 0x0504 3 0 n s.tb.pos s else s
    else s
  | _, _ => s

/-- An edge taken as START takes it: accepted 200 µs or more after the last accepted one. -/
def axEdgeStart (n : Nat) (s : State) : State :=
  let a := getAxle s n
  match a.lastAcc with
  | some t =>
    if s.clk < t + 200000 then axReject n s
    else
      let s := axTrack n a.lastPer (updAxle n (axTake s s.clk) s)
      let s := axDecide n s.clk s
      if (getAxle s n).admitted then confirmedFire s else s
  | none => axDecide n s.clk (updAxle n (axTake s s.clk) s)

/-- An edge in TRACK with windows in force (R186). -/
def axEdgeTrack (n : Nat) (s : State) : State :=
  let a := getAxle s n
  let t := s.clk
  let tp := a.tLast.getD 0 + a.tp
  let w := axWindow a
  if t < tp - w then axReject n s
  else if natDist t tp ≤ a.tp / 8 then axAccept n t (axDropCand n s)
  else match a.cand with
    | none => updAxle n (fun a => { a with cand := some t }) s
    | some c =>
      if natDist t tp < natDist c tp then updAxle n (fun a => { a with cand := some t }) (axDropCand n s)
      else axReject n s

/-- TOOTH_EDGE: a rising edge of sensor A; `reverse` tells the phase order of A and B that INVERT 0 takes as backward. -/
def execToothEdge (tw : Fin 4) (reverse : Bool) (s : State) : Host.Outcome State Fault Refusal :=
  let n := tw.val
  let s := safEdge n s
  let a := getAxle s n
  let back := reverse != bit a.cfg 16
  if !axleOn a || tget false s.fio.twFault n then .next s
  else if a.state != 2 && a.state != 3 || back != a.back then .next (axEdgeStart n (axStart n back s))
  else if a.state = 2 || pmaxNs s < a.tp then .next (axEdgeStart n s)
  else .next (axEdgeTrack n s)

/-- TOOTH_WINDOW_CLOSE: the candidate is accepted, or a tooth is synthesised (R186). -/
def execToothWindowClose (tw : Fin 4) (s : State) : Host.Outcome State Fault Refusal :=
  let n := tw.val
  let a := getAxle s n
  let tp := a.tLast.getD 0 + a.tp
  if a.state != 3 || pmaxNs s < a.tp || a.tLast.isNone || s.clk < tp + axWindow a then .next s
  else match a.cand with
    | some c => .next (axAccept n c (updAxle n (fun a => { a with cand := none }) s))
    | none =>
      let s := updAxle n (fun a => { a with tLast := some tp, miss := a.miss + 1, synth := Nat.min 65535 (a.synth + 1)
                                            pos := a.pos + (axPitch a : Int) * (if a.back then -1 else 1) }) s
      let s := gln 0x0502 3 0 n (getAxle s n).synth (fire (48 + 2 * n) s)
      if a.miss + 1 = 3 then
        let s := updAxle n (fun a => { a with state := 4, miss := 0, wasLost := true }) s
        .next (axFuse (gln 0x0503 3 0 n s.tb.pos (fire (49 + 2 * n) s)))
      else .next (axDecide n tp s)

/-- AXLE_STILL_TIMEOUT (R187). -/
def execAxleStillTimeout (tw : Fin 4) (s : State) : Host.Outcome State Fault Refusal :=
  let a := getAxle s tw.val
  if axleOn a && a.state != 1 && a.lastAcc.getD a.onAt + stillNs s ≤ s.clk then
    .next (axFuse (updAxle tw.val (fun a => { a with state := 1, v := 0, raw := 0, cand := none, miss := 0 }) s))
  else .next s

/-- AXLE_READMIT: 1 s of continuous agreement has passed (R188). -/
def execAxleReadmit (tw : Fin 4) (s : State) : Host.Outcome State Fault Refusal :=
  let a := getAxle s tw.val
  match a.agreeSince with
  | some t =>
    if a.excluded && t + 1000000000 ≤ s.clk then
      let s := updAxle tw.val (fun a => { a with excluded := false, agreeSince := none, pos := s.tb.pos * 65536 }) s
      .next (axFuse (gln 0x0506 3 0 tw.val s.tb.pos s))
    else .next s
  | none => .next s

/-- COAST_TIMEOUT: coasting has lasted COAST_MAX (R190, R203). -/
def execCoastTimeout (s : State) : Host.Outcome State Fault Refusal :=
  match s.tb.coastAt with
  | some t => .next (if t + coastNs s < s.clk then lpFall s else s)
  | none => .next s

/-! ### Position tick (07 R189, R191, R202) -/

/-- Slots with DIR either that stood at their target and have left it can be reached again (R199). -/
def leaveTargets (s : State) : State :=
  (armedSlots s (fun x => slotBase x == 1 && decide (x.ref = slotLine x) && decide (s.tb.pos ≠ slotLine x))).foldl
    (fun s n => updSlot n (fun x => { x with ref := s.tb.pos }) s) s

/-- POSITION_TICK but for overlay boundaries. -/
def positionTick (s : State) : State :=
  let s := leaveTargets (applyFixes (lineMove s.tb.speed s))
  { s with tb := { s.tb with judged := true, tickAt := some s.clk, hist := (s.clk, s.tb.pos) :: s.tb.hist.filter (fun h => s.clk ≤ h.1 + 1000000000) } }

/-! ### Supply angle (07 R193, R194) -/

def updMains (n : Nat) (f : Mains → Mains) (s : State) : State := { s with tb := { s.tb with mains := tupd {} n f s.tb.mains } }

/-- The nominal whose band holds a frequency in mHz: 1 16.7 Hz, 2 50 Hz, 3 60 Hz. -/
def mainsBand (f : Nat) : Nat :=
  if 16030 ≤ f && f ≤ 17370 then 1 else if 48000 ≤ f && f ≤ 52000 then 2 else if 57600 ≤ f && f ≤ 62400 then 3 else 0

/-- Nominal frequency in mHz. -/
def mainsNominal (b : Nat) : Nat := match b with | 1 => 16700 | 2 => 50000 | 3 => 60000 | _ => 0

/-- The frequency is in the band that FNOM selects. -/
def mainsInBand (m : Mains) (f : Nat) : Bool :=
  mainsBand f != 0 && (fld m.cfg 47 46 == 0 || mainsBand f == fld m.cfg 47 46)

/-- A change of state: Gleaner 0x0510, and the lock or loss source. From SEARCH on, the angle triggers samples anew (08 R211). -/
def mainsEnter (n st : Nat) (s : State) : State :=
  let s := updMains n (fun m => { m with state := st, good := 0, fromLost := false }) s
  let s := if st = 1 then { s with ce := { s.ce with loop := s.ce.loop.map (fun e =>
    (e.1, if ceTrig e.2 = 2 + n then { e.2 with cycSeen := none } else e.2)) } } else s
  let s := if st = 2 || st = 5 then fire (56 + 2 * n) s else if st = 3 || st = 4 then fire (57 + 2 * n) s else s
  gln 0x0510 3 0 (n * 256 + st : Nat) (getMains s n).freq s

/-- SUPANG runs on from a value at a frequency. -/
def mainsRef (n v run : Nat) (s : State) : State := updMains n (fun m => { m with t0 := s.clk, a0 := v, run }) s

/-- The value with the measured angle nearest to the present one: the step lies within ±32,768. -/
def nearestAngle (cur ang : Nat) : Int :=
  let d := sgn 16 (ang + 65536 - cur % 65536)
  d

/-- MAINS_ZERO_CROSSING (R193, R194; a lock from a SEARCH that LOST led to relocks in one step: log 104): frequency, phase and phase error of the fundamental as measured at it. -/
def execMainsZeroCrossing (mains : Fin 2) (freqMHz : Nat) (phase : BitVec 16) (phaseErr : Int) (s : State) :
    Host.Outcome State Fault Refusal :=
  let n := mains.val
  let m := getMains s n
  if !mainsOn m || m.overRange then .next s
  else
    let s := updMains n (fun m => { m with freq := Nat.min 65535 freqMHz, pherr := phaseErr }) s
    let ok := mainsInBand m freqMHz
    let ang := (phase.toNat + fld m.cfg 35 20) % 65536
    let cur := supang s n
    let d := nearestAngle cur ang
    let v := umod 48 ((cur : Int) + d)
    let close := decide (-182 < phaseErr ∧ phaseErr < 182)
    let lock := fun (s : State) =>
        let s := updMains n (fun m => { m with system := mainsBand freqMHz }) (mainsEnter n 2 s)
        if mainsBand freqMHz = m.system then s else ceMainsChanged n s
    if !ok then .next (updMains n (fun m => { m with good := 0 }) s)
    else
      let s := updMains n (fun m => { m with lastX := s.clk }) s
      match m.state with
      | 1 =>
        if !close then .next (updMains n (fun m => { m with good := 0 }) s)
        else if m.good + 1 < 8 then .next (updMains n (fun m => { m with good := m.good + 1 }) s)
        else if m.fromLost then
          let s := mainsRef n v freqMHz (lock s)
          .next (slotsStep (2 + n) cur v (gln 0x0511 3 0 n d s))
        else .next (mainsRef n (cur / 65536 * 65536 + ang) freqMHz (lock s))
      | 2 => .next (mainsRef n v freqMHz s)
      | 3 =>
        if m.good + 1 < 2 then .next (updMains n (fun m => { m with good := m.good + 1 }) s)
        else
          let s := mainsRef n v freqMHz (lock s)
          .next (slotsStep (2 + n) cur v (gln 0x0511 3 0 n d s))
      | 4 =>
        let s := mainsRef n cur 0 s
        .next (updMains n (fun m => { m with good := b2n close, fromLost := true }) (mainsEnter n 1 s))
      | _ => .next s

/-- MAINS_CROSSING_TIMEOUT: LOCKED without a valid crossing for 1.5 nominal periods. -/
def execMainsCrossingTimeout (mains : Fin 2) (s : State) : Host.Outcome State Fault Refusal :=
  let n := mains.val
  let m := getMains s n
  if m.state = 2 ∧ (s.clk - m.lastX) * mainsNominal m.system ≥ 1500000000000 then
    .next (updMains n (fun m => { m with holdAt := s.clk }) (mainsEnter n 3 s))
  else .next s

/-- SUPANG leaves LOCKED and HOLDOVER: from the first eligible cycle after lock returns, releases follow the angle again, whatever
cycle they were last seen in (05 R130). -/
def leaveAngle (n : Nat) (s : State) : State :=
  let s := updMains n (fun m => { m with leftAt := s.clk }) s
  { s with task := { s.task with ent := s.task.ent.map (fun e =>
      (e.1, if taskKind e.2 = 4 ∧ b2n (bit e.2.par 47) = n then { e.2 with cycSeen := none } else e.2)) } }

/-- MAINS_HOLDOVER_EXPIRY (R193, R203). -/
def execMainsHoldoverExpiry (mains : Fin 2) (s : State) : Host.Outcome State Fault Refusal :=
  let n := mains.val
  let m := getMains s n
  if m.state = 3 ∧ m.holdAt + fld m.cfg 43 36 * 10000000 ≤ s.clk then
    .next (slotsLost (2 + n) false (leaveAngle n (mainsEnter n 4 s)))
  else .next s

/-- MAINS_DC_DETECT: magnitude above the DC threshold and no zero crossing for 200 ms (R193, R203). -/
def execMainsDcDetect (mains : Fin 2) (s : State) : Host.Outcome State Fault Refusal :=
  let n := mains.val
  let m := getMains s n
  if mainsOn m ∧ (m.state = 1 ∨ m.state = 4) then
    let c := supang s n / 65536 * 65536
    .next (slotsLost (2 + n) true (mainsRef n c 0 (mainsEnter n 5 s)))
  else .next s

end Sys2Proof.Machine
end

