-- ==== Sys2Proof/Machine/Events.lean ====
section
/-! DEFINITION. The event source commands (01 R31 to R36). -/

namespace Sys2Proof.Machine

/-- Sources whose OWNER `MB_EVT_ALLOC` may set (01 R33). -/
def evtAllocatable (n : Nat) : Bool := (n ≤ 103) || (128 ≤ n && n ≤ 255) || (368 ≤ n && n ≤ 383)

/-- OWNER and ENABLE of a source set; a change of owner clears its pending bit and OVF (01 R33). -/
def evtAssign (t : Nat) (en : Bool) (s : State) (n : Nat) : State :=
  let w := evtSrc s n
  let same := fld w 4 0 == t
  let w' := setBit (setFld w 4 0 t) 22 en
  let w' := if same then w' else setFld w' 47 40 0
  let s := setEvtSrc n w' s
  if same then s else setPending n false s

def mbEvtAlloc (t _ch : Nat) (p : Bytes) (s : State) : MbR := do
  perm (t == 0)
  let a := be p 0 2
  let c := be p 2 2
  let ns := span a c
  perm (short p 4 || ns.all (fun n => 384 ≤ n || evtAllocatable n))
  lenIs p 6
  let tn := u8 p 4
  stSel (u8 p 5 ≤ 1) s (ns.all (fun n => !(n < 384 && bit (evtSrc s n) 23)))
  par (1 ≤ c && c ≤ 384 && a + c ≤ 384 && tn < 32 && u8 p 5 ≤ 1)
  let s' := ns.foldl (evtAssign tn (u8 p 5 == 1)) s
  done (gln 0x0113 3 0 a (tn * 512 + c) s')

def mbEvtEnable (t _ch : Nat) (p : Bytes) (s : State) : MbR := do
  let n := be p 0 2
  perm (short p 2 || (n < 384 && evtOwner s n == t))
  lenIs p 3
  stSel (u8 p 2 ≤ 1) s (!(u8 p 2 == 0 && bit (evtSrc s n) 23))
  par (u8 p 2 ≤ 1)
  done (setEvtSrc n (setBit (evtSrc s n) 22 (u8 p 2 == 1)) s)

def mbEvtClear (t _ch : Nat) (p : Bytes) (s : State) : MbR := do
  let c := u8 p 0
  let ns := (items p 1 2 ((p.length - 1) / 2)).map beVal
  perm (t == 0 || ns.all (fun n => n < 384 && evtOwner s n == t))
  lenIs p (1 + 2 * c)
  stChg s (ns.all (fun n => !(n < 384 && bit (evtSrc s n) 23)))
  par (1 ≤ c && c ≤ 64 && ns.all (· < 384))
  done (ns.foldl (fun s n => setPending n false (setEvtSrc n (setFld (evtSrc s n) 47 40 0) s)) s)

def mbEvtGet (t _ch : Nat) (p : Bytes) (s : State) : MbR := do
  lenIs p 3
  let a := be p 0 2
  let c := u8 p 2
  par (1 ≤ c && c ≤ 64 && a + c ≤ 384)
  reply ((span a c).flatMap (fun n =>
    if t == 0 || evtOwner s n == t then wB (setFld (evtSrc s n) 4 0 (evtOwner s n)) ++ bB (evtPending s n)
    else toBe 7 0)) s

def execMbEvtAlloc (ch : Fin 16) (p : Bytes) (s : State) := runMb ch 0x0208 mbEvtAlloc p s
def execMbEvtEnable (ch : Fin 16) (p : Bytes) (s : State) := runMb ch 0x0209 mbEvtEnable p s
def execMbEvtClear (ch : Fin 16) (p : Bytes) (s : State) := runMb ch 0x020A mbEvtClear p s
def execMbEvtGet (ch : Fin 16) (p : Bytes) (s : State) := runMb ch 0x020B mbEvtGet p s

end Sys2Proof.Machine
end

