-- ==== Sys2Proof/Machine/Silo.lean ====
section
/-! DEFINITION. The Gleaner's writer, ring, freeze and reading, the retentive copies and the real-time clock (17). -/

namespace Sys2Proof.Machine

/-- Address of ring slot k, of place k of the hold queue, of word w of retentive copy c, and of the descriptor of tenant t and copy c
(Tables 17-1 to 17-3). -/
def slotAddr (k : Nat) : Nat := 0x060000 + 32 * k
def holdAddr (k : Nat) : Nat := 0x165000 + 32 * k
def retAddr (c w : Nat) : Nat := 0x030000 * c + 6 * w
def descAddr (t c : Nat) : Nat := 0x160040 + 32 * t + 16 * c

/-! ### Gleaner ring (17 R427 to R433) -/

/-- The newest SEQ in the ring: entries of the hold queue have taken theirs later. -/
def ringNewest (s : State) : Nat := (s.silo.nextSeq + 2 ^ 33 - 1 - s.silo.hold.length) % 2 ^ 32

/-- How far a SEQ lies behind the newest one. -/
def ringAge (s : State) (seq : Nat) : Nat := (ringNewest s + 2 ^ 32 - seq) % 2 ^ 32

/-- Places from the oldest to the newest SEQ of the ring: what lies further back than 32,768, or was lost from behind the newest valid
entry, is none of its entries (17 R427). -/
def ringCount (s : State) : Nat :=
  s.silo.ring.foldl (fun m e => match e.2 with
    | some x => if ringAge s x.seq < 32768 then Nat.max m (ringAge s x.seq + 1) else m
    | none => m) 0

/-- The oldest SEQ in the ring. -/
def ringOldest (s : State) : Nat := (ringNewest s + 2 ^ 32 + 1 - ringCount s) % 2 ^ 32

/-- An entry written to its ring slot; channels that can read it get EVT (17 R427, R433). -/
def ringWrite (e : GlnEntry) (s : State) : State :=
  let k := e.seq % 32768
  let s := siloPut (slotAddr k) 32 s
  let s := { s with silo := { s.silo with ring := tput none k (some e) s.silo.ring, badSlots := s.silo.badSlots.filter (· != k) }
                    gln := { s.gln with reported := s.gln.reported.filter (· != k) } }
  latchWhere (fun t => t == e.ev.tenant || t == 0) bitEVT s

/-- Channels with EVT. -/
def evtChannels (s : State) : List Nat := (List.range 16).filter (fun n => (getChan s n).latch.getLsbD bitEVT)

/-- The writer's write into the ring. -/
def glnPut (e : GlnEntry) (s : State) : State :=
  let k := e.seq % 32768
  let t := ringWrite e s
  let p : GlnPut := { at_ := s.clk, entry := e, before := tget none s.silo.ring k, bad := s.silo.badSlots.contains k
                      told := (evtChannels t).filter (fun n => !(evtChannels s).contains n) }
  { t with gln := { t.gln with put := some p } }

/-- An entry goes to the end of the hold queue (17 R430). -/
def holdPut (e : GlnEntry) (s : State) : State :=
  siloPut (holdAddr s.silo.hold.length) 32 { s with silo := { s.silo with hold := s.silo.hold ++ [e] } }

/-- A freeze goes before a write of its instant: the entry goes to the hold queue and its slot holds what it held (17 R432). -/
def freezeFirst (s : State) : State :=
  match s.gln.put with
  | some p =>
    if p.at_ != s.clk then s
    else
      let k := p.entry.seq % 32768
      let s := { s with
        silo := { s.silo with ring := tput none k p.before s.silo.ring, badSlots := if p.bad then k :: s.silo.badSlots else s.silo.badSlots }
        gln := { s.gln with put := none } }
      holdPut p.entry (p.told.foldl (fun s n => updChan n (fun c => { c with latch := c.latch &&& ~~~BitVec.ofNat 16 (2 ^ bitEVT) }) s) s)
  | none => s

/-- The writer takes one entry from its queue (17 R428 stage 3). -/
def glnWriteOne (s : State) : State :=
  match s.gln.queue with
  | [] => s
  | e :: rest =>
    let s := { s with gln := { s.gln with queue := rest } }
    let n := s.silo.nextSeq
    let s := if s.gln.frozen.isSome then
        if s.silo.hold.length < 256 then
          holdPut ⟨n, e⟩ { s with silo := { s.silo with nextSeq := (n + 1) % 2 ^ 32 } }
        else { s with gln := { s.gln with holdDrops := s.gln.holdDrops + 1, dropped := s.gln.dropped + 1 } }
      else glnPut ⟨n, e⟩ { s with silo := { s.silo with nextSeq := (n + 1) % 2 ^ 32 } }
    glnReportDrops s

/-- GLEANER_WRITE: at most one entry every 10 µs (17 R428). -/
def execGleanerWrite (s : State) : Host.Outcome State Fault Refusal :=
  .next (if s.gln.queue.isEmpty || (match s.gln.wroteAt with | some t => decide (s.clk < t + 10000) | none => false) then s
    else glnWriteOne { s with gln := { s.gln with wroteAt := some s.clk } })

/-- Every queued entry is written (18 Table 18-7 step 2). -/
def glnFlush (s : State) : State := (List.range s.gln.queue.length).foldl (fun s _ => glnWriteOne s) s

/-- Nanoseconds in which a bucket of a class gains one token, from its RATE per 100 s (17 R429). -/
def tokenTime (s : State) (cls : Nat) : Nat := 100000000000 / Nat.max 1 (tget {} s.gln.cls cls).rate

/-- GLEANER_TOKEN_GAIN: a bucket gains a token when its class's rate gives one; one with suppressed events reports them (17 R429). -/
def execGleanerTokenGain (code : BitVec 16) (tenant : Fin 32) (s : State) : Host.Outcome State Fault Refusal :=
  let c := code.toNat
  let key := c * 32 + tenant.val
  let b := tget {} s.gln.bucket key
  let due := b.from_ + tokenTime s (glnClassOf s c)
  if glnClassOf s c = 0 ∨ b.used = 0 ∨ s.clk < due then .next s
  else
    let s := { s with gln := { s.gln with bucket := tput {} key { used := b.used - 1, from_ := due, suppressed := 0 } s.gln.bucket } }
    .next (if b.suppressed = 0 then s else gln 0x1003 3 tenant.val c b.suppressed s)

/-- The freeze ends: held entries to the ring in SEQ order, then 0x1005 and, for drops, 0x1006 (17 R431). -/
def unfreeze (cause : Nat) (s : State) : State :=
  let held := s.silo.hold
  let drops := s.gln.holdDrops
  let s := { s with silo := { s.silo with hold := [] }, gln := { s.gln with frozen := none, holdDrops := 0 } }
  let s := held.foldl (fun s e => ringWrite e s) s
  let s := gln 0x1005 3 0 cause held.length s
  if drops = 0 then s else gln 0x1006 3 0 drops 0 s

/-- GLEANER_FREEZE_EXPIRY. -/
def execGleanerFreezeExpiry (s : State) : Host.Outcome State Fault Refusal :=
  match s.gln.frozen with
  | some t => .next (if t ≤ s.clk then unfreeze 1 s else s)
  | none => .next s

def mbGlnFreeze (t ch : Nat) (p : Bytes) (s : State) : MbR := do
  perm (t == 0)
  lenIs p 1
  stChg s s.gln.frozen.isNone
  let n := u8 p 0
  par (1 ≤ n && n ≤ 10)
  done (gln 0x1004 3 0 n ch (freezeFirst { s with gln := { s.gln with frozen := some (s.clk + n * 1000000000), holdDrops := 0 } }))

def mbGlnUnfreeze (t _ch : Nat) (p : Bytes) (s : State) : MbR := do
  perm (t == 0)
  lenIs p 0
  stChg s s.gln.frozen.isSome
  reply (toBe 2 s.silo.hold.length) (unfreeze 0 s)

/-- The 32 bytes of an entry; a reader without right to its data gets zeros in its place (17 R425, R433). -/
def entryBytes (e : GlnEntry) (full : Bool) : Bytes :=
  let v := e.ev
  let b := toBe 2 v.code ++ toBe 1 (v.tenant * 8 + v.level) ++ toBe 4 e.seq ++ toBe 5 (b2n v.wallOk * 2 ^ 39 + v.wall % 2 ^ 39) ++
    toBe 6 v.devtime ++ (if full then toBe 6 v.p1 ++ toBe 6 v.p2 else toBe 12 0)
  b ++ toBe 2 (if full then crc16 b else 0)

/-- The entries read so far, and what the ring's examination changes. -/
structure GlnScan where
  found : List Bytes
  next : Nat
  s : State

/-- Examination of ring slots from `seq` on, at most `fuel` of them and until `want` entries are found (17 R433). -/
def glnScan (t sub : Nat) : Nat → Nat → Nat → GlnScan → GlnScan
  | 0, _, _, a => a
  | _, 0, _, a => a
  | fuel + 1, want + 1, seq, a =>
    let k := seq % 32768
    let nx := (seq + 1) % 2 ^ 32
    let torn := siloTorn a.s (slotAddr k) 32
    let a := { a with s := siloRead (slotAddr k) 32 a.s }
    if torn || a.s.silo.badSlots.contains k then
      let s := { a.s with gln := { a.s.gln with skipped := a.s.gln.skipped + 1 } }
      let s := if torn || a.s.gln.reported.contains k then s
        else gln 0x1001 3 0 (slotAddr k) 2 { s with gln := { s.gln with reported := k :: s.gln.reported } }
      glnScan t sub fuel (want + 1) nx { a with next := nx, s }
    else match tget none a.s.silo.ring k with
      | none => glnScan t sub fuel (want + 1) nx { a with next := nx }
      | some e =>
        if e.seq == seq && (t == 0 || e.ev.tenant == t) && (sub == 0 || e.ev.code / 256 == sub) then
          glnScan t sub fuel want nx { a with found := a.found ++ [entryBytes e (e.ev.tenant == t)], next := nx }
        else glnScan t sub fuel (want + 1) nx { a with next := nx }

/-- a newer than b among SEQ values (17 R423). -/
def seqNewer (a b : Nat) : Bool := let d := (a + 2 ^ 32 - b) % 2 ^ 32; 1 ≤ d && d ≤ 0x7FFFFFFF

def mbGlnRead (t _ch : Nat) (p : Bytes) (s : State) : MbR := do
  lenIs p 6
  let n := u8 p 4
  par (1 ≤ n && n ≤ 120)
  let lo := ringOldest s
  let hi := ringNewest s
  let first := be p 0 4
  let start := if seqNewer lo first then lo else first
  let a := if ringCount s = 0 ∨ seqNewer start hi then ⟨[], (hi + 1) % 2 ^ 32, s⟩
    else glnScan t (u8 p 5) ((hi + 2 ^ 32 - start) % 2 ^ 32 + 1) n start ⟨[], start, s⟩
  reply (toBe 4 lo ++ toBe 4 hi ++ toBe 4 a.next ++ toBe 1 a.found.length ++ a.found.flatten) a.s

def mbGlnClassSet (t _ch : Nat) (p : Bytes) (s : State) : MbR := do
  perm (t == 0)
  need (2 ≤ p.length) rcBadLength
  let ex := u8 p 1 == 1
  let o := if ex then 8 else 2
  let n := u8 p o
  need (!levelOk p 1 || p.length == o + 1 + 2 * n) rcBadLength
  stSel (levelOk p 1) s true
  let c := u8 p 0
  let w := beW p 2
  let codes := (items p (o + 1) 2 n).map beVal
  par (levelOk p 1 && 1 ≤ c && c ≤ 15 && n ≤ 64)
  par (!ex || (1 ≤ fld w 31 16 && fld w 31 16 ≤ 1000 && 1 ≤ fld w 14 0 && fld w 14 0 ≤ 20000))
  par (codes.all glnLimited)
  let k : GlnClass := if ex then { burst := fld w 31 16, rate := fld w 14 0, expert := true } else {}
  done { s with gln := { s.gln with cls := tput {} c k s.gln.cls
                                    codeCls := codes.foldl (fun m x => tput 0 x c m) s.gln.codeCls } }

def mbGlnStat (_t _ch : Nat) (p : Bytes) (s : State) : MbR := do
  lenIs p 0
  let left := match s.gln.frozen with | some e => (e - s.clk + 999999999) / 1000000000 | none => 0
  reply (toBe 4 (ringOldest s) ++ toBe 4 (ringNewest s) ++ bB s.gln.frozen.isSome ++ toBe 1 left ++
    toBe 2 s.silo.hold.length ++ toBe 4 s.gln.suppressed ++ toBe 4 s.gln.dropped ++ toBe 4 s.gln.skipped ++
    toBe 4 s.gln.corrections) s

/-! ### Retentive copies (17 R421 to R424) -/

/-- The words of a partition as a copy of the Silo holds them. -/
def retWords (s : State) (k off len : Nat) : List Word := wgets s.silo.ret (k * 32768 + off) len

/-- The CRC-32 of a descriptor with the words it stands for (17 Table 17-3). -/
def retCrc (d : RetDesc) (ws : List Word) : Nat :=
  crc32 (toBe 4 d.gen ++ toBe 2 d.offset ++ toBe 2 d.length ++ toBe 4 d.layout ++ ws.flatMap wB)

def segInfo (s : State) (t : Nat) : SegInfo := tget {} s.prog.seg t

/-- Why copy k of tenant t is not used: 0 CRC, 1 layout, 2 offset or length; none when it is valid (17 R423). -/
def retFault (s : State) (t k : Nat) : Option Nat :=
  let d := tget {} s.silo.desc (t * 2 + k)
  let g := segInfo s t
  if d.crc ≠ retCrc d (retWords s k d.offset d.length) ∨ siloTorn s (descAddr t k) 16 ∨ siloTorn s (retAddr k d.offset) (6 * d.length) then some 0
  else if d.layout ≠ tget 0 s.prog.layout t then some 1
  else if d.offset ≠ g.retOff ∨ d.length ≠ g.l2 then some 2
  else none

/-- The greater of the two generations in use. -/
def retGen (s : State) (t : Nat) : Nat :=
  let a := (tget {} s.silo.desc (t * 2)).gen
  let b := (tget {} s.silo.desc (t * 2 + 1)).gen
  if seqNewer a b then a else b

/-- The words of a partition written to copy k; its descriptor still stands for the old ones (17 R421 step 1). -/
def retPutWords (t k : Nat) (ws : List Word) (s : State) : State :=
  let s := siloPut (retAddr k (segInfo s t).retOff) (6 * ws.length) s
  { s with silo := { s.silo with ret := wputs (k * 32768 + (segInfo s t).retOff) ws s.silo.ret } }

/-- The descriptor of copy k written with the next GEN (17 R421 step 2). -/
def retPutDesc (t k : Nat) (ws : List Word) (s : State) : State :=
  let g := segInfo s t
  let d : RetDesc := { gen := (retGen s t + 1) % 2 ^ 32, offset := g.retOff, length := g.l2, layout := tget 0 s.prog.layout t }
  let s := siloPut (descAddr t k) 16 s
  { s with silo := { s.silo with desc := tput {} (t * 2 + k) { d with crc := retCrc d ws } s.silo.desc
                                 lastCopy := tput 1 t k s.silo.lastCopy } }

/-- A whole snapshot into the copy that did not receive the previous one (17 R421). -/
def retWriteNow (t : Nat) (ws : List Word) (s : State) : State :=
  let k := 1 - tget 1 s.silo.lastCopy t
  retPutDesc t k ws (retPutWords t k ws s)

/-- The retentive words of a tenant as its SEG2 holds them. -/
def seg2Words (s : State) (t : Nat) : List Word := wgets s.core.data (dsKey 2 t 0) (segInfo s t).l2

/-- SEG2 of a tenant takes words. -/
def putSeg2 (t : Nat) (ws : List Word) (s : State) : State :=
  { s with core := { s.core with data := wputs (dsKey 2 t 0) ws s.core.data } }

/-- A segment of a tenant takes its initial values from the program image. -/
def initSeg (seg owner len : Nat) (s : State) : State :=
  let k := dsKey seg owner 0
  { s with core := { s.core with data := wputs k (wgets s.prog.init k len) s.core.data } }

/-- The choice of copy for one tenant at start-up (17 R423). -/
def retChoose (t : Nat) (s : State) : State :=
  let g := segInfo s t
  if g.l2 = 0 then s
  else
    let fa := retFault s t 0
    let fb := retFault s t 1
    let s := [0, 1].foldl (fun s k => siloRead (retAddr k g.retOff) (6 * g.l2) (siloRead (descAddr t k) 16 s)) s
    let s := match fa with | some c => gln 0x1002 3 0 (t * 2 : Nat) c s | none => s
    let s := match fb with | some c => gln 0x1002 3 0 (t * 2 + 1 : Nat) c s | none => s
    let use (k : Nat) (s : State) : State :=
      let s := putSeg2 t (retWords s k g.retOff g.l2) s
      { s with silo := { s.silo with lastCopy := tput 1 t k s.silo.lastCopy }
               task := { s.task with ret := tupd {} t (fun r => { r with used := k }) s.task.ret } }
    if fa.isNone ∧ fb.isNone then
      let d := ((tget {} s.silo.desc (t * 2)).gen + 2 ^ 32 - (tget {} s.silo.desc (t * 2 + 1)).gen) % 2 ^ 32
      use (if 1 ≤ d ∧ d ≤ 0x7FFFFFFF then 0 else 1) s
    else if fa.isNone then use 0 s
    else if fb.isNone then use 1 s
    else gln 0x1002 3 0 (t * 2 : Nat) 3 (initSeg 2 t g.l2 s)

def mbRetStat (t _ch : Nat) (p : Bytes) (s : State) : MbR := do
  let n := u8 p 0
  perm (t == 0 || short p 1 || n == t)
  lenIs p 1
  par (n < 32)
  let r := tget {} s.task.ret n
  let cp := fun k => toBe 4 (tget {} s.silo.desc (n * 2 + k)).gen ++ bB (retFault s n k).isNone
  reply (cp 0 ++ cp 1 ++ toBe 2 (segInfo s n).l2 ++ toBe 1 r.used ++ toBe 2 r.interval ++ toBe 4 r.skippedAll) s

/-! ### Real-time clock (17 R434 to R438) -/

/-- One crystal edge: SUB counts and carries into SEC. -/
def rtcEdge (r : Rtc) : Rtc :=
  let r := { r with periods := r.periods + 1 }
  if r.sub + 1 < 32768 then { r with sub := r.sub + 1 }
  else { r with sub := 0, sec := (r.sec + 1) % 2 ^ 48, bkpSecs := if r.onVbat then Nat.min (2 ^ 32 - 1) (r.bkpSecs + 1) else r.bkpSecs }

/-- One nanosecond of the crystal: 64 of the 1,953,125 parts of a period. -/
def rtcNs (r : Rtc) : Rtc :=
  let r := { r with goodFor := Nat.min 2000000000 (r.goodFor + 1) }
  if r.acc + 64 < 1953125 then { r with acc := r.acc + 64 } else rtcEdge { r with acc := r.acc + 64 - 1953125 }

/-- The write of 17 R437 takes place when wall time has reached its second. -/
def rtcApplyWrite (s : State) : State :=
  match s.rtc.write with
  | some n =>
    if n ≤ wallSec s then
      let old := s.rtc.sec
      let stop := s.rtc.oscStop && s.rtc.goodFor < 1000000000
      gln 0x1009 3 0 n old { s with rtc := { s.rtc with sec := n, sub := 0, acc := 0, write := none, oscStop := stop } }
    else s
  | none => s

/-- The firmware asks for a write of the RTC: SEC takes the next whole second of wall time (17 R437). -/
def rtcWrite (s : State) : State :=
  rtcApplyWrite { s with rtc := { s.rtc with write := some (if wallSub s = 0 then wallSec s else wallSec s + 1) } }

/-- RTC_CAL_ADD (17 R434): every 2^20 periods CAL is added to SUB, the carry into SEC. -/
def execRtcCalAdd (s : State) : Host.Outcome State Fault Refusal :=
  let n : Int := (s.rtc.sec : Int) * 32768 + s.rtc.sub + s.rtc.cal
  .next (if s.rtc.periods < 2 ^ 20 then s
    else { s with rtc := { s.rtc with
      periods := s.rtc.periods - 2 ^ 20, sec := umod 48 (n.fdiv 32768), sub := (n.fmod 32768).toNat } })

/-- RTC_SUPPLY_SWITCH (17 R435). BKP_SECS is cleared at the return to VDD33 once the firmware has read it. -/
def execRtcSupplySwitch (toVbat : Bool) (s : State) : Host.Outcome State Fault Refusal :=
  if toVbat then
    if s.rtc.onVbat then .next s
    else
      let first := !s.rtc.ranOnVbat && !s.aon.inReset && !s.sup.asleep
      let s := { s with rtc := { s.rtc with onVbat := true, ranOnVbat := true } }
      .next (if first then fire 359 s else s)
  else .next { s with rtc := { s.rtc with onVbat := false, bkpSecs := if s.rtc.ranOnVbat then s.rtc.bkpSecs else 0 } }

/-- WALL_OK changes, with its Gleaner entry (07 Table 7-16). -/
def setWallOk (b : Bool) (s : State) : State :=
  if s.tb.wallOk = b then s
  else
    let s := { s with tb := { s.tb with wallOk := b } }
    gln 0x0521 3 0 (b2n b) (b2n s.tb.wallPtp) s

/-- OSC_STOP_DETECT (17 R436). -/
def execOscStopDetect (s : State) : Host.Outcome State Fault Refusal :=
  let was := s.rtc.oscStop
  let s := { s with rtc := { s.rtc with oscStop := true, goodFor := 0 } }
  if was ∨ s.aon.inReset ∨ s.sup.asleep then .next s
  else .next (gln 0x1008 3 0 1 (devtime s) (setWallOk false s))

/-- RTC_SYNC_CHECK (17 R437): every 60 s while WALL_OK is 1. -/
def execRtcSyncCheck (s : State) : Host.Outcome State Fault Refusal :=
  let r : Int := (s.rtc.sec : Int) * 1000000000 + (s.rtc.sub * 1000000000 / 32768 : Nat)
  let d := r - wallNs s
  .next (if s.tb.wallOk && (d < -1000000 || 1000000 < d) then rtcWrite s else s)

/-- CAL set, with 0x100D where it changes (17 R434). -/
def setCal (c : Int) (s : State) : State :=
  if s.rtc.cal = c then s
  else gln 0x100D 3 0 c (b2n s.rtc.expert) { s with rtc := { s.rtc with cal := c } }

/-- RTC_CAL_DERIVE: the daily derivation at the basic level; the drift measured, in units of 2^−20, is the operand. -/
def execRtcCalDerive (drift : Int) (s : State) : Host.Outcome State Fault Refusal :=
  let c := clampI (-255) 255 (-drift)
  .next (if s.rtc.expert || !s.tb.wallPtp then s else setCal c { s with rtc := { s.rtc with derived := c } })

/-- VBAT_CHECK (17 Table 17-7). -/
def execVbatCheck (mv : Nat) (s : State) : Host.Outcome State Fault Refusal :=
  .next { s with rtc := { s.rtc with vbatLow := mv < 2200 }, aon := { s.aon with rails := s.aon.rails.set 5 mv } }

/-- RTC_STAT. -/
def rtcStat (r : Rtc) : Word :=
  wd (b2n r.oscStop * 2 ^ 47 + b2n r.vbatLow * 2 ^ 46 + b2n r.expert * 2 ^ 45 + umod 9 r.cal * 2 ^ 36 + r.bkpSecs % 2 ^ 32)

def mbRtcGet (_t _ch : Nat) (p : Bytes) (s : State) : MbR := do
  lenIs p 0
  reply (toBe 6 s.rtc.sec ++ toBe 2 s.rtc.sub ++ wB (rtcStat s.rtc)) s

def mbRtcCapture (t _ch : Nat) (p : Bytes) (s : State) : MbR := do
  perm (t == 0)
  lenIs p 0
  let ahead := (1953125 - s.rtc.acc + 63) / 64
  let r := rtcEdge s.rtc
  let e := { s with clk := s.clk + ahead }
  reply (toBe 6 r.sec ++ toBe 2 r.sub ++ toBe 6 (devtime e) ++ toBe 6 (wallSec e) ++ toBe 4 (wallSub e))
    (gln 0x100A 3 0 r.sec (devtime e) s)

def mbRtcCalSet (t _ch : Nat) (p : Bytes) (s : State) : MbR := do
  perm (t == 0)
  formLen p 0 [(0, 1), (1, 3)]
  stSel (levelOk p 0) s true
  let c := sgn 16 (be p 1 2)
  par (levelOk p 0 && (u8 p 0 == 0 || (-255 ≤ c && c ≤ 255)))
  done (setCal (if u8 p 0 == 1 then c else s.rtc.derived) { s with rtc := { s.rtc with expert := u8 p 0 == 1 } })

def execMbRetStat (ch : Fin 16) (p : Bytes) (s : State) := runMb ch 0x0403 mbRetStat p s
def execMbRtcGet (ch : Fin 16) (p : Bytes) (s : State) := runMb ch 0x0720 mbRtcGet p s
def execMbRtcCapture (ch : Fin 16) (p : Bytes) (s : State) := runMb ch 0x0721 mbRtcCapture p s
def execMbRtcCalSet (ch : Fin 16) (p : Bytes) (s : State) := runMb ch 0x0722 mbRtcCalSet p s
def execMbGlnRead (ch : Fin 16) (p : Bytes) (s : State) := runMb ch 0x0901 mbGlnRead p s
def execMbGlnFreeze (ch : Fin 16) (p : Bytes) (s : State) := runMb ch 0x0902 mbGlnFreeze p s
def execMbGlnUnfreeze (ch : Fin 16) (p : Bytes) (s : State) := runMb ch 0x0903 mbGlnUnfreeze p s
def execMbGlnClassSet (ch : Fin 16) (p : Bytes) (s : State) := runMb ch 0x0904 mbGlnClassSet p s
def execMbGlnStat (ch : Fin 16) (p : Bytes) (s : State) := runMb ch 0x0905 mbGlnStat p s

end Sys2Proof.Machine
end

