-- ==== Sys2Proof/Machine/TaskOps.lean ====
section
/-! DEFINITION. Releasing, dispatching and ending executions, and the entry of a tenant or the device to FAULT (05
R127 to R143, 03 R81, R100). -/

namespace Sys2Proof.Machine

/-! ### Dispatch (05 R133, R134) -/

def taskPrio (s : State) (k : Nat) : Nat := fld (taskEnt s k).cfg 43 40

/-- Cores a task is permitted: its CORES within its tenant's (05 Table 5-1, Table 5-5). -/
def taskCores (s : State) (k : Nat) : Nat := fld (taskEnt s k).cfg 39 32

/-- The task on a core. -/
def coreTask (s : State) (c : Nat) : Option Nat := match tget 0 s.core.cur c with | 0 => none | k + 1 => some k

def setCore (c : Nat) (k : Option Nat) (s : State) : State :=
  { s with core := { s.core with cur := tput 0 c (match k with | none => 0 | some k => k + 1) s.core.cur } }

/-- Order of ready tasks: PRIO, release instant, task number (05 R133). -/
def readyBefore (s : State) (a b : Nat) : Bool :=
  let key := fun k => (taskPrio s k, ((taskEx s k).map (·.relAt)).getD 0, k)
  let (p, r, n) := key a
  let (p', r', n') := key b
  p < p' || (p == p' && (r < r' || (r == r' && n ≤ n')))

/-- Tasks whose execution waits for a core, in dispatch order. -/
def readyTasks (s : State) : List Nat :=
  sortBy (readyBefore s)
    ((liveTasks s).filter (fun k => match taskEx s k with | some e => e.phase == 0 || e.phase == 2 | none => false))

/-- The core a ready execution goes to: an idle permitted core, else the permitted core that runs the numerically
highest PRIO above its own; a pre-empted execution waits for its own core alone. A core whose execution only awaits its
commit runs no code and is not pre-empted. -/
def coreFor (s : State) (k : Nat) (e : Ex) : Option Nat :=
  let cs := if e.phase = 2 then [e.core] else (List.range 8).filter (fun c => (taskCores s k).testBit c)
  match cs.find? (fun c => (coreTask s c).isNone) with
  | some c => some c
  | none =>
    let prioOn := fun c => match coreTask s c with
      | some j => if ((taskEx s j).map (·.phase)).getD 0 = 3 then 0 else taskPrio s j
      | none => 0
    cs.foldl (fun best c =>
      if taskPrio s k < prioOn c && (match best with | some b => prioOn b < prioOn c | none => true) then some c else best) none

/-- The descriptors the firmware loads at dispatch (03 R81, R82; 01 Table 1-5), as a task sees them: BASE reads as 0. Image
word i stands at offset i (R82); BASE of the data and code segments is the machine's own (log 95). -/
def descriptors (s : State) (t : Nat) : List Word :=
  let g := segInfo s t
  let d := fun (rd wr kind lim : Nat) => wd (rd * 2 ^ 47 + wr * 2 ^ 46 + kind * 2 ^ 43 + lim)
  [d 1 1 0 g.l0, d 1 0 0 g.l1, d 1 1 0 g.l2, d 1 0 1 0x5000, d 1 1 2 0x5000, d 1 0 3 0x5000, d 1 1 0 g.l6, d 1 0 4 0x20,
   wd (2 ^ 47 + tget 0 s.prog.codeLen t)]

/-- The words l and zeros up to n words. -/
def padWords (n : Nat) (l : List Word) : List Word := (l ++ List.replicate n 0#48).take n

/-- The saved context of an execution (03 Table 3-12): registers, core state, loop sets, pending loads, open distances, started
samples. Where a record's parts stand within its word is the model's choice (log 100): target or key and loop and sequence number
above the remaining distance in [15:0]. -/
def ctxWords (e : Ex) : List Word :=
  (List.range 16).map (wget e.w) ++
  [wd (e.ldepth * 2 ^ 30 + (if e.sat then 2 ^ 29 else 0) + e.p.toNat / 2 * 2 ^ 22 + e.pc)] ++
  (List.range 12).map (wget e.lp) ++
  padWords 4 (e.loads.flatMap fun l => [l.value, wd (l.target * 2 ^ 16 + (l.landAt - e.n))]) ++
  padWords 8 ((e.lpPend ++ e.imPend ++ e.schPend).flatMap fun x => [x.value, wd (x.key * 2 ^ 16 + (x.visible - e.n))]) ++
  padWords 8 ((e.started.filter fun x => e.n < x.at_ + x.dist).map fun x => wd (x.loop * 2 ^ 32 + x.seq * 2 ^ 16 + (x.at_ + x.dist - e.n)))

/-- Execution e of task j gives up its core, its context saved (03 R103); its record carries the same items on (R102). -/
def preempt (j : Nat) (e : Ex) (s : State) : State :=
  setEx j (some { e with phase := 2 }) { s with core := { s.core with ctx := tput [] j (ctxWords e) s.core.ctx } }

/-- An execution placed on a core, the one it displaces pre-empted. -/
def place (k c : Nat) (s : State) : State :=
  let s := match coreTask s c with
    | some j => match taskEx s j with
      | some e => preempt j e s
      | none => s
    | none => s
  match taskEx s k with
  | some e => setCore c (some k) (setEx k (some { e with phase := 1, core := c, segd := descriptors s e.tenant }) s)
  | none => s

/-- Placing ready executions until none can be placed. -/
def dispatchN : Nat → State → State
  | 0, s => s
  | n + 1, s =>
    match (readyTasks s).findSome? (fun k => (taskEx s k).bind (fun e => (coreFor s k e).map (fun c => (k, c)))) with
    | some (k, c) => dispatchN n (place k c s)
    | none => s

/-- DISPATCH (05 R133). -/
def dispatch (s : State) : State := dispatchN (2 * (liveTasks s).length) s

/-! ### What a pair adds to releases and ends (15 Table 15-6, R380, R383) -/

/-- A program-swap unit that previews runs its tasks on its own grid (15 R389). -/
def previewing (s : State) : Bool := s.pair.rstate == 7 && s.pair.swap == 3

/-- The unit releases tasks of its own (15 R373, R389). -/
def servesTasks (s : State) : Bool := serving s || previewing s

/-- The unit's executions are replays (15 R380). -/
def isReplaying (s : State) : Bool := s.pair.rstate == 5

/-- The check value of a commit (15 R383): words written in ascending order, held posts, trap cause. -/
def checkValue (ws : List (Nat × Word)) (posts : List Nat) (cause : Nat) : Nat :=
  crc32 ((sortBy (fun a b => a.1 ≤ b.1) ws).flatMap (fun e => toBe 2 e.1 ++ wB e.2) ++ posts.flatMap (toBe 2) ++ toBe 1 cause)

/-- The words an execution has written, each with its latest value. -/
def exWords (e : Ex) : List (Nat × Word) :=
  e.imPend.foldr (fun p l => (p.key, p.value) :: l.filter (fun x => x.1 != p.key)) e.outw

/-- An execution ends without commit: a primary's COMMIT record with its cause, a standby's own end to compare. -/
def noteStop (k : Nat) (e : Ex) (cause : Nat) (s : State) : State :=
  let c := checkValue (exWords e) e.posts cause
  if e.replay then { s with pair := { s.pair with ends := s.pair.ends ++ [(k, c, cause)] } }
  else pairSend (.commit k (taskEnt s k).scancnt c cause) s

/-! ### Release (05 R132, R136) -/

/-- Results and status words as an execution's SCH.STAT and CE.RD see them from its release (03 R95). -/
def ceResults (s : State) : Tab CeRes := s.ce.loop.map (fun e => (e.1, ⟨e.1, e.2.ua, ceSts s e.1⟩))
def slotStatuses (s : State) : Tab Word := s.slot.filterMap (fun e => if e.2.sts = 0#48 then none else some (e.1, e.2.sts))

/-- A task entry accepted earlier takes its place at the first release after (05 R155). -/
def applyNextEntry (k : Nat) (s : State) : State :=
  updTask k (fun e => match e.next with
    | some (c, p, l) => { e with cfg := c, par := p, lim := l, next := none }
    | none => e) s

/-- Quality words of the plots a tenant may read, as SEG6 receives them (06 R169). -/
def qualBlock (s : State) (t : Nat) : List Word :=
  (List.range 320).map (fun n => if ownRead s.img.own t (64 * n) || sharedRead s.img.own t (64 * n) then plotQual s n else 0#48)

/-- The execution that a release of task k starts. -/
def newEx (s : State) (k : Nat) : Ex :=
  let t := taskTenant s k
  { relAt := s.clk, pc := fld (taskEnt s k).cfg 21 0, tenant := t, view := s.img.word, plots := s.img.own
    quals := allQuals s, ownPos := s.pass.ownPos, seg7 := seg7Of s t k, consts := s.core.consts
    schSnap := slotStatuses s, ceSnap := ceResults s, replay := isReplaying s }

/-- A release: SCANCNT counts, SCANCNT slots fire, the view freezes, SEG7 latches, the quality block goes to SEG6, the
dispatcher runs. `onCount` is what the scheduler does at the count (07 R199). -/
def releaseTask (onCount : Nat → State → State) (k : Nat) (s : State) : State :=
  let s := applyNextEntry k s
  let s := updTask k (fun e => { e with scancnt := e.scancnt + 1#48, lastRel := some s.clk }) s
  let s := onCount k s
  let t := taskTenant s k
  let q := qualBlock s t
  let s := { s with core := { s.core with data := wputs (dsKey 6 k 0) q s.core.data } }
  let e := newEx s k
  dispatch (setEx k (some e) (pairSend (.release k e.seg7 q s.pair.lastUnit s.pair.lastCommit) s))

/-- A source whose task is released (01 R32): its pending bit clears and its firings while pending are reported and forgotten. A firing
of this very cycle is a fresh one on the cleared bit: the bit stays set, and OVF is as before it. -/
def takeSource (n : Nat) (s : State) : State :=
  let v := tget 0 s.evt.lastOver n
  let again := v / 256 == s.clk + 1
  let o := if again then v % 256 else fld (evtSrc s n) 47 40
  let s := setPending n again s
  let s := setEvtSrc n (setFld (evtSrc s n) 47 40 0) { s with evt := { s.evt with lastOver := tput 0 n 0 s.evt.lastOver } }
  if o = 0 then s else gln 0x0112 3 0 n o s

/-- The final round of a resync is under way (15 R384). -/
def finalRound (s : State) : Bool := s.pair.finalSent && decide (s.clk < s.pair.finalAt + 100000)

/-- Releases are held: through a handover (15 R390), and through the final round of a resync (15 R384). -/
def releaseHeld (s : State) : Bool := s.pair.handover.isSome || finalRound s

/-- A release could take place, now or when releases are held no more: the task is defined, the dispatcher runs, the tenant's effective mode is RUN and no
transition away from it is in progress (05 R127, R142, Table 5-11). A standby to which service is being handed over counts what falls due
as the primary does, since the releases held are its own from H on (15 R390). -/
def couldRelease (s : State) (k : Nat) : Bool :=
  let t := taskTenant s k
  taskDefined s k && s.task.dispAt.isSome && effMode s t == 2 &&
    (tget none s.task.trans 32).isNone && (tget none s.task.trans t).isNone &&
    (servesTasks s || (s.pair.rstate == 5 && s.pair.handover.isSome))

/-- A release may take place now. -/
def mayRelease (s : State) (k : Nat) : Bool := couldRelease s k && !releaseHeld s

/-! ### Ends without commit (03 R88, R100) -/

/-- The execution of a task is gone and its core is free. -/
def dropEx (k : Nat) (s : State) : State :=
  match taskEx s k with
  | some e =>
    let s := setEx k none s
    if coreTask s e.core == some k then setCore e.core none s else s
  | none => s

/-- Every execution of tenants that satisfy q stops without commit. -/
def dropWhere (q : Nat → Bool) (s : State) : State :=
  (liveTasks s).foldl (fun s k => if q (taskTenant s k) then dropEx k s else s) s

/-- Mode requests of a scope that are not in force end with BAD_STATE (05 R145). -/
def refuseTrans (scope : Nat) (s : State) : State :=
  let waiting := ((tget none s.task.trans scope).toList ++ tget [] s.task.queued scope).filterMap (·.ch)
  let s := { s with task := { s.task with trans := tput none scope none s.task.trans, queued := tput [] scope [] s.task.queued } }
  waiting.foldl (fun s ch => setResult ch rcBadState [] s) s

/-- A scope (tenant 0 to 31, device 32) enters FAULT: unfinished executions stop without commit, waiting mode requests
end, and the transition to FAULT begins (05 R143, R145). -/
def enterFault (scope cause : Nat) (s : State) : State :=
  let s := dropWhere (fun t => scope == 32 || t == scope) s
  let s := refuseTrans scope s
  let s := { s with task := { s.task with trans := tput none scope (some ⟨4, false, cause, none⟩) s.task.trans } }
  dispatch s

/-- TASK_TRAP (03 R100): the execution stops, its tenant enters FAULT, Gleaner 0x0301. -/
def taskTrap (k : Nat) (e : Ex) (cause : Nat) (p2 : Int) (s : State) : State :=
  let s := noteStop k e cause s
  let s := enterFault e.tenant 1 s
  gln 0x0301 2 e.tenant (cause * 2 ^ 40 + k * 2 ^ 32 + e.core * 2 ^ 24 + e.pc : Nat) p2 s

end Sys2Proof.Machine
end

