-- ==== Sys2Proof/Machine/Reset.lean ====
section
/-! DEFINITION. Device reset and the system watchdog (18 R446, R447, R453 to R457). -/

namespace Sys2Proof.Machine

/-! ### Reset -/

/-- The field dies as a device reset leaves them: every serve gate stops (15 R370, R371) and each die acts on its own, with
the configuration of its last frame; the registers of the logic side take their reset values. -/
def fioAfterReset (s : State) : Fio :=
  { s.fio with
    map0 := State.reset.fio.map0, map1 := State.reset.fio.map1, tw := [], overAt := []
    fc := s.fio.fc.map (fun e => (e.1, { e.2 with cfg := 0#48 }))
    grp := s.fio.grp.map (fun e => (e.1, { e.2 with cfg := 0#48 }))
    ai := s.fio.ai.map (fun e => (e.1, { e.2 with cfg := 0#48, lo := 0#48, hi := 0#48 }))
    ao := s.fio.ao.map (fun e => (e.1, { e.2 with cfg := 0#48 }))
    die := (List.range 4).foldl (fun t d =>
      tupd {} d (fun x => { x with
        sil := 0x000000000014#48, gateStop := x.gateStop.or (some (absNow s)), told := false, sentArm := false
        commit := false, lost := false }) t) s.fio.die }

/-- A device reset (R447): every register takes its reset value; the Silo, the program store, the RTC, the fuses, WAKE_CAUSE
and the safety channel stay, as do straps, pins and the field dies. The device is then held until RESET_RELEASE. -/
def deviceReset (cause detail : Nat) (s : State) : State :=
  { State.reset with
    silo := { s.silo with frozenAtReset := s.gln.frozen.isSome }
    rtc := s.rtc
    flash := s.flash
    saf := { s.saf with map := State.reset.saf.map, told := none }
    fio := fioAfterReset s
    aon := { s.aon with cause, detail, inReset := true, epoch := absNow s, fuse := s.aon.fuseBlown }
    pass := { id := s.pass.id }
    pair := { unitB := s.pair.unitB, srvLvl := s.pair.srvLvl }
    out := (setLines false false s).out, free := s.free, pending := s.pending }

/-- A device reset closes every session that is open (02 R69, Table 2-12 cause 2). -/
def closeSessions (s : State) : State := (List.range 16).foldl (fun s ch => closeSession ch 2 s) s

/-- A reset that the device itself brings about (15 R371, 16 R410, 18 R463): the unit stops serving, entries on their way are written,
those of the sessions among them, and the reset follows. -/
def selfFault (cause detail : Nat) (s : State) : State := deviceReset cause detail (glnFlush (closeSessions s))

/-! ### The system watchdog -/

/-- P in ns (Table 18-5). -/
def wdgP (s : State) : Nat :=
  match fld s.aon.fuse 45 43 with
  | 0 => 100000000 | 1 => 10000000 | 2 => 20000000 | 3 => 50000000
  | 4 => 200000000 | 5 => 500000000 | 6 => 1000000000 | _ => 2000000000

/-- F in eighths. -/
def wdgF8 (s : State) : Nat := match fld s.aon.fuse 42 41 with | 0 => 4 | 1 => 2 | 2 => 6 | _ => 7

/-- Upper bound of the present period (R454, R455). -/
def wdgU (s : State) : Nat := if s.sup.wdgState = 1 then 4000000000 else wdgP s

/-- E. -/
def wdgE (s : State) : Nat := s.clk - s.sup.wdgAt

/-- The token for a question (R453). -/
def wdgToken (q : Nat) : Nat :=
  let t := (q * 0x9E37 + 0x7F4A) % 65536
  let t := t ^^^ (t >>> 7)
  (t ^^^ ((q <<< 5) ||| (q >>> 11)) % 65536) % 65536

/-- T0's system task is the server: T0 in RUN, WDG_CFG set (R455). -/
def wdgTaskServes (s : State) : Bool := effMode s 0 == 2 && s.sup.wdgSet

/-- A question from the hardware random source, never 0, and its word in the image (R453); a standby draws none (R457). -/
def wdgDraw (s : State) : State :=
  if s.pair.rstate = 5 then s
  else
    let q := (Config.random16 s.free).toNat % 65535 + 1
    let s := { s with free := s.free + 1, sup := { s.sup with question := q } }
    let w := fld s.sup.wdgCfg 38 24
    if s.sup.wdgSet && inPlot s 1 0 w then unitUpdate 2000 false [(w, wd q)] s else s

/-- The watchdog begins its first period (R455). -/
def wdgStart (hw : Bool) (s : State) : State :=
  let s := { s with sup := { s.sup with wdgState := 1, wdgAt := s.clk, wdgWarned := false, wdgServer := false } }
  gln 0x1104 3 0 (b2n (!hw)) (wdgP s / 1000000 : Nat) (wdgDraw s)

/-- Expiry: 0x1103, then the reset of cause 0x03. -/
def wdgExpire (detail token : Nat) (s : State) : State :=
  selfFault 3 detail (gln 0x1103 3 0 detail (s.sup.question * 65536 + token : Nat) s)

/-- A service with a token (R454). -/
def wdgService (token : Nat) (s : State) : State :=
  let s := { s with sup := { s.sup with token } }
  if s.sup.wdgState = 0 then s
  else if wdgU s ≤ wdgE s then wdgExpire 0 token s
  else if token ≠ wdgToken s.sup.question then wdgExpire 2 token s
  else if s.sup.wdgState = 2 ∧ wdgE s * 8 < wdgF8 s * wdgP s then wdgExpire 1 token s
  else wdgDraw { s with sup := { s.sup with wdgState := 2, wdgAt := s.clk, wdgWarned := false } }

/-- The commit of a task is a service when TASK serves and the commit writes T_WORD (R453). -/
def wdgCommit (k : Nat) (ws : List (Nat × Word)) (s : State) : State :=
  match ws.find? (fun e => e.1 == fld s.sup.wdgCfg 23 9) with
  | some e => if s.sup.wdgServer && fld s.sup.wdgCfg 47 40 == k then wdgService (fld e.2 15 0) s else s
  | none => s

/-- The server is chosen anew; at a change E restarts (R455). -/
def wdgServerCheck (s : State) : State :=
  let t := wdgTaskServes s
  if t = s.sup.wdgServer then s
  else if s.sup.wdgState = 0 then { s with sup := { s.sup with wdgServer := t } }
  else { s with sup := { s.sup with wdgServer := t, wdgState := 3, wdgAt := s.clk, wdgWarned := false } }

/-- FIRMWARE_WATCHDOG_SERVICE (R455). -/
def execFirmwareWatchdogService (s : State) : Host.Outcome State Fault Refusal :=
  .next (if s.sup.wdgState != 0 && !s.sup.wdgServer && s.sup.mpOk && decide ((8 + wdgF8 s) * wdgP s ≤ 16 * wdgE s) then
    wdgService (wdgToken s.sup.question) s else s)

/-- WATCHDOG_WARNING (R454): at E = WARN × U / 16. -/
def execWatchdogWarning (s : State) : Host.Outcome State Fault Refusal :=
  let warn := if s.sup.wdgSet then fld s.sup.wdgCfg 8 5 else 15
  .next (if s.sup.wdgState != 0 && !s.sup.wdgWarned && decide (warn * wdgU s ≤ 16 * wdgE s) then
    gln 0x1102 3 0 (wdgE s / 1000 : Nat) (b2n s.sup.wdgServer) (fire 352 { s with sup := { s.sup with wdgWarned := true } }) else s)

/-- WATCHDOG_LAPSE (R454). -/
def execWatchdogLapse (s : State) : Host.Outcome State Fault Refusal :=
  .next (if s.sup.wdgState != 0 && decide (wdgU s ≤ wdgE s) then wdgExpire 0 s.sup.token s else s)

end Sys2Proof.Machine
end

