-- ==== Sys2Proof/Machine/SvcOps.lean ====
section
/-! DEFINITION. What the services share: reading and writing image words, local time, programme values, energy records,
wall-time steps (09 R231 to R245, 07 R182). -/

namespace Sys2Proof.Machine

/-! ### Inputs and outputs (09 R231 to R233) -/

/-- A word as a service of an owner sees it. -/
structure SvcIn where
  /-- The word fails the SEG3 and SEG5 read checks. -/
  blind : Bool
  bad : Bool
  value : Word
  qual : Word

/-- The read of a service input (R231). -/
def svcRead (s : State) (owner w : Nat) : SvcIn :=
  if mayRead s owner w then
    let q := plotQual s (w / 64)
    ⟨false, !bit q 15 || bit q 12 || bit q 11, imgWord s w, q⟩
  else ⟨true, true, 0#48, 0#48⟩

/-- Gleaner 0x0802 at the first read that fails the check and at the first that passes again. -/
def svcNote (kind num owner w : Nat) (was now : Bool) (s : State) : State :=
  if was = now then s else gln 0x0802 3 owner (kind * 65536 + num : Nat) (w * 2 + b2n now : Nat) s

/-- What writing a service output came to. -/
inductive SvcOut where
  | written (s : State)
  | released
  | idle

/-- A service writes a lane, or a whole word, as a commit of one word (R233). -/
def svcPut (s : State) (owner w : Nat) (lane : Option Nat) (v : Word) : SvcOut :=
  if !running s owner then .idle
  else if !inPlot s 0 owner w then .released
  else
    let v' := match lane with
      | some l => setBit (unforcedWord s w) l (bit v 0)
      | none => v
    .written (commitWords [(w, v')] s)

/-! ### Local time (09 R236) -/

/-- UTC in seconds since 1970-01-01. -/
def utcSec (s : State) : Int := (wallNs s).fdiv 1000000000 - s.silo.utcOffset

/-- Local minutes since 1970-01-01 of a tenant. -/
def localMin (s : State) (t : Nat) : Int := (utcSec s).fdiv 60 + tget 0 s.svc.ofs t

/-- Year, month and day of a day number counted from 1970-01-01 (proleptic Gregorian calendar). -/
def civilOf (day : Int) : Int × Int × Int :=
  let z := day + 719468
  let era := z.fdiv 146097
  let doe := z - era * 146097
  let yoe := (doe - doe / 1460 + doe / 36524 - doe / 146096) / 365
  let doy := doe - (365 * yoe + yoe / 4 - yoe / 100)
  let mp := (5 * doy + 2) / 153
  let d := doy - (153 * mp + 2) / 5 + 1
  let m := if mp < 10 then mp + 3 else mp - 9
  (yoe + era * 400 + (if m ≤ 2 then 1 else 0), m, d)

/-- The day number of a date. -/
def dayOf (y m d : Int) : Int :=
  let y := if m ≤ 2 then y - 1 else y
  let era := y.fdiv 400
  let yoe := y - era * 400
  let doy := (153 * (if 2 < m then m - 3 else m + 9) + 2) / 5 + d - 1
  era * 146097 + (yoe * 365 + yoe / 4 - yoe / 100 + doy) - 719468

/-- A calendar entry matches a local date. -/
def calMatch (e : CalEnt) (day : Int) : Bool :=
  let (_, m, d) := civilOf day
  let first := dayOf e.year e.month e.day
  match e.kind with
  | 0 => decide (day = first)
  | 1 => decide (first ≤ day ∧ day < first + e.days)
  | _ => decide (m = e.month ∧ d = e.day)

/-- The day type of a local date under a programme. -/
def dayType (s : State) (cfg : Word) (day : Int) : Nat :=
  let cal := tget [] s.svc.cal (fld cfg 47 43 * 2 + b2n (bit cfg 39))
  match (if bit cfg 40 then cal.find? (calMatch · day) else none) with
  | some e => e.dayType
  | none => ((day + 3).fmod 7).toNat

/-- The latest point at or before a minute. -/
def latestPoint (ps : List (Nat × Word)) (m : Nat) : Option Word :=
  (ps.foldl (fun best p => if p.1 ≤ m && (match best with | some b => b.1 ≤ p.1 | none => true) then some p else best)
    (none : Option (Nat × Word))).map (·.2)

/-- The value of a programme at a local minute (09 R237). -/
def wpgValue (s : State) (g : Wpg) (lm : Int) : Word :=
  let day := lm.fdiv 1440
  let m := (lm.fmod 1440).toNat
  ((List.range 8).findSome? (fun k =>
    let d := day - k
    latestPoint (g.points.getD (dayType s g.cfg d) []) (if k = 0 then m else 1439))).getD 0#48

/-- WPG_EVALUATE of programme w (R237). -/
def wpgEval (w : Nat) (s : State) : State :=
  match tget none s.svc.wpg w with
  | none => s
  | some g =>
    let t := fld g.cfg 47 43
    let v := wpgValue s g (localMin s t)
    let put := fun (g : Wpg) (s : State) => { s with svc := { s.svc with wpg := tput none w (some g) s.svc.wpg } }
    let g := { g with value := v }
    if !bit g.cfg 17 || g.last = some v then put g s
    else match svcPut s t (fld g.cfg 32 18) (if bit g.cfg 41 then some (fld g.cfg 38 33) else none) v with
      | .written s => put { g with last := some v, lastAt := devtime s, noted := false } s
      | .released =>
        if g.noted then put g s
        else gln 0x0803 3 t (0x20000 + w : Nat) (fld g.cfg 32 18) (put { g with noted := true } s)
      | .idle => put g s

/-- Local time has jumped by ns: every programme of tenants that satisfy q evaluates at once, with 0x0808 for a jump of more than
one minute (R237). In a pair only the primary runs services (R234). -/
def wpgJump (q : Nat → Bool) (ns : Int) (s : State) : State :=
  if !serving s then s
  else s.svc.wpg.foldl (fun s e => match e.2 with
    | some g =>
      let t := fld g.cfg 47 43
      if q t then
        let s := wpgEval e.1 s
        if 60000000000 < ns.natAbs then gln 0x0808 3 t e.1 (ns.tdiv 60000000000) s else s
      else s
    | none => s) s

/-! ### Energy records (09 R244, R245) -/

/-- Length of a meter's interval in seconds. -/
def enInterval (cfg : Word) : Nat := match fld cfg 24 23 with | 0 => 60 | 1 => 300 | 2 => 900 | _ => 3600

/-- mWh × 2^32 rounded to the nearest mWh. -/
def enRound (x : Nat) : Nat := (x + 2 ^ 31) / 2 ^ 32

/-- Address of a record in the Silo: a ring of 6,144 places of 30 bytes (R245, 17 Table 17-2, log 126). -/
def enAddr (r : EnRec) : Nat := 0x167000 + 30 * (r.num % 6144)

/-- A record put into the ring, its energy into the cumulative registers, and 0x0828 for flags. -/
def enStore (m : Nat) (o : EnOpen) (flags : Nat) (tenant : Nat) (s : State) : State :=
  let f := o.flags ||| flags
  let tot := tget (0, 0) s.silo.enTotal (m * 16 + o.sys)
  let r : EnRec := ⟨o.num, o.start, o.steps, m, o.sys, f, enRound o.imp % 2 ^ 48, enRound o.exp % 2 ^ 48⟩
  let s := siloPut (enAddr r) 30 { s with silo := { s.silo with
    enRing := (r :: s.silo.enRing).take 6144
    enTotal := tput (0, 0) (m * 16 + o.sys) (tot.1 + o.imp, tot.2 + o.exp) s.silo.enTotal
    enSaved := tput none m none s.silo.enSaved } }
  if f = 0 then s else gln 0x0828 3 tenant (m * 256 + o.sys : Nat) f s

/-- A new record opens for meter m; the Silo knows of it at once, so that start-up can close it after a loss of power. -/
def enOpen (m flags : Nat) (s : State) : State :=
  match tget none s.svc.mtr m with
  | none => s
  | some x =>
    let o : EnOpen := { num := s.silo.enNext, start := wallSec s, sys := s.svc.sysCode, flags := flags ||| (if s.tb.wallOk then 0 else 4) }
    { s with svc := { s.svc with mtr := tput none m (some { x with rec_ := some o }) s.svc.mtr },
             silo := { s.silo with enNext := (s.silo.enNext + 1) % 2 ^ 32, enSaved := tput none m (some o) s.silo.enSaved } }

/-- The open record of meter m closes with further flags, and a new one opens with its own. -/
def enTurn (m closeFlags openFlags : Nat) (s : State) : State :=
  match tget none s.svc.mtr m with
  | some x => match x.rec_ with
    | some o => enOpen m openFlags (enStore m o closeFlags (fld x.cfg 47 43) s)
    | none => enOpen m openFlags s
  | none => s

/-- Every meter's record turns, at the unit that runs the services. -/
def enTurnAll (closeFlags openFlags : Nat) (s : State) : State :=
  if !serving s then s
  else s.svc.mtr.foldl (fun s e => enTurn e.1 closeFlags openFlags s) s

/-- The accumulators are written to the Silo (R245). -/
def enSave (s : State) : State :=
  let put := fun (t : Tab (Option EnOpen)) (e : Nat × Option Mtr) =>
    match e.2 with
    | some x => tput none e.1 x.rec_ t
    | none => t
  { s with silo := { s.silo with enSaved := s.svc.mtr.foldl put s.silo.enSaved } }

/-! ### Wall-time steps (07 R182) -/

/-- Wall time steps to a value in ns, and the UTC offset to u: a new base pair at this instant, Gleaner 0x0520, and what follows
in the services, for which local time jumps once. -/
def wallStepUtc (new u : Int) (cause : Nat) (s : State) : State :=
  let old := wallNs s
  let jump := new - old + (s.silo.utcOffset - u) * 1000000000
  let s := { s with tb := { s.tb with wallW := new, wallD := s.clk, wallSet := true }, silo := { s.silo with utcOffset := u } }
  let s := gln 0x0520 3 0 (if cause = 2 then 0 else new - old) cause s
  wpgJump (fun _ => true) jump (enTurnAll 0 2 s)

/-- Wall time steps to a value in ns. -/
def wallStep (new : Int) (cause : Nat) (s : State) : State := wallStepUtc new s.silo.utcOffset cause s

/-- The rate correction takes a value; wall time goes on without a step (07 R182). -/
def setRho (rho : Int) (s : State) : State :=
  let w := wallNs s
  { s with tb := { s.tb with wallW := w, wallD := s.clk, rho := clampI (-500000) 500000 rho } }

/-- The UTC offset takes a value; local time jumps with it (09 R237). -/
def setUtc (u : Int) (s : State) : State :=
  let d := s.silo.utcOffset - u
  if d = 0 then s else wpgJump (fun _ => true) (d * 1000000000) { s with silo := { s.silo with utcOffset := u } }

/-- LOCAL_OFS of tenant n takes a value in minutes; its local time jumps (09 R236, R237). -/
def setOfs (n : Nat) (o : Int) (s : State) : State :=
  let d := o - tget 0 s.svc.ofs n
  let s := { s with svc := { s.svc with ofs := tput 0 n o s.svc.ofs } }
  if d = 0 then s else wpgJump (· == n) (d * 60000000000) s

/-- A tenant enters RUN or HOLD: its programmes commit at their next evaluation (09 R237). -/
def svcEnter (t : Nat) (s : State) : State :=
  { s with svc := { s.svc with wpg := s.svc.wpg.map (fun e => (e.1, e.2.map (fun g => if fld g.cfg 47 43 = t then { g with last := none } else g))) } }

/-- A tenant enters STOP or FAULT: its access pulses are dropped. -/
def svcStop (t : Nat) (s : State) : State :=
  { s with svc := { s.svc with acc := s.svc.acc.map (fun e => (e.1, e.2.map (fun a =>
      if fld a.cfg 47 43 = t then { a with grant := none, deny := none } else a))) } }

/-- Output words of a tenant's service objects (09 R233, 05 R144). -/
def svcWords (s : State) (t : Nat) : List Nat :=
  s.svc.wpg.filterMap (fun e => match e.2 with
    | some g => if fld g.cfg 47 43 = t && bit g.cfg 17 then some (fld g.cfg 32 18) else none
    | none => none) ++
  s.svc.acc.filterMap (fun e => match e.2 with
    | some a => if fld a.cfg 47 43 = t then some (fld a.cfg 22 8) else none
    | none => none)

end Sys2Proof.Machine
end

