-- ==== Sys2Proof/Machine/Modes.lean ====
section
/-! DEFINITION. Operating modes, budget and deadline, forcing (05 R139 to R150), and the snapshots of retentive variables
(05 R156 to R158). -/

namespace Sys2Proof.Machine

/-! ### Retentive snapshots -/

def getRet (s : State) (t : Nat) : RetState := tget {} s.task.ret t
def updRet (t : Nat) (f : RetState → RetState) (s : State) : State := { s with task := { s.task with ret := tupd {} t f s.task.ret } }

/-- RET_TASK in force: as set, or at the basic level the tenant's lowest-numbered cyclic task (R156). -/
def retTask (s : State) (t : Nat) : Option Nat :=
  let r := getRet s t
  if r.expert then r.task
  else (List.range 256).find? (fun k => taskKind (taskEnt s k) == 1 && taskTenant s k == t)

/-- RET_INTERVAL in ns. -/
def retNs (r : RetState) : Nat := r.interval * 10000000

/-- A snapshot of the partition as it stands (R156, 17 R421): into the copy that did not receive the previous one, or, while
one is being written, held until it is. -/
def retSnap (t : Nat) (s : State) : State :=
  if (segInfo s t).l2 = 0 then s
  else
    let ws := seg2Words s t
    if (getRet s t).writing.isSome then updRet t (fun r => { r with waiting := some ws }) s
    else
      let k := 1 - tget 1 s.silo.lastCopy t
      retPutWords t k ws (updRet t (fun r => { r with writing := some (k, ws) }) s)

/-- The next hold-up snapshot begins once none is being written (17 R422). -/
def holdNext (s : State) : State :=
  match s.task.holdSnaps with
  | [] => s
  | t :: ts =>
    if s.task.ret.any (fun e => e.2.writing.isSome) then s else retSnap t { s with task := { s.task with holdSnaps := ts } }

/-- Hold-up: a snapshot of every tenant with a partition, in ascending number, one after the other, after what is being written (17
R422). -/
def holdSnapshots (s : State) : State :=
  holdNext { s with task := { s.task with holdSnaps := (List.range 32).filter (fun t => (segInfo s t).l2 != 0) } }

/-- The commit of a tenant's RET_TASK takes the snapshot that has fallen due, once the previous one is written. -/
def retAnchor (k : Nat) (s : State) : State :=
  let t := taskTenant s k
  let r := getRet s t
  if retTask s t == some k && r.due.isSome && r.writing.isNone then retSnap t (updRet t (fun r => { r with due := none }) s) else s

/-- RETAIN_SNAPSHOT_DUE (R156, R158). -/
def execRetainSnapshotDue (tenant : Fin 32) (s : State) : Host.Outcome State Fault Refusal :=
  let t := tenant.val
  let r := getRet s t
  if (segInfo s t).l2 != 0 && decide (r.from_ + retNs r ≤ s.clk) && s.task.dispAt.isSome && servesTasks s then
    if r.due.isSome && r.writing.isSome then
      .next (updRet t (fun r => { r with from_ := s.clk, skipped := r.skipped + 1, skippedAll := r.skippedAll + 1 }) s)
    else .next (updRet t (fun r => { r with from_ := s.clk, due := r.due.or (some s.clk) }) s)
  else .next s

/-- A commit of tenant t is in progress: an execution of it has ended with TEND. -/
def committing (s : State) (t : Nat) : Bool :=
  (liveTasks s).any (fun k => taskTenant s k == t && (match taskEx s k with | some e => e.phase == 3 | none => false))

/-- RETAIN_SNAPSHOT_NO_ANCHOR (R157). -/
def execRetainSnapshotNoAnchor (tenant : Fin 32) (s : State) : Host.Outcome State Fault Refusal :=
  let t := tenant.val
  let r := getRet s t
  let take := fun (cause : Nat) => gln 0x030E 3 t t cause (retSnap t (updRet t (fun r => { r with due := none, from_ := s.clk }) s))
  match r.due with
  | none => .next s
  | some d =>
    if r.writing.isSome || committing s t then .next s
    else if (retTask s t).isNone then .next (take 0)
    else if d + retNs r ≤ s.clk then .next (take 1)
    else .next s

/-- RETAIN_SNAPSHOT_WRITTEN (17 R421 step 2, 05 R158): the descriptor makes the copy valid; what waited goes on. -/
def execRetainSnapshotWritten (tenant : Fin 32) (s : State) : Host.Outcome State Fault Refusal :=
  let t := tenant.val
  let r := getRet s t
  match r.writing with
  | none => .next s
  | some (k, ws) =>
    let s := retPutDesc t k ws s
    let s := updRet t (fun r => { r with writing := none, skipped := 0 }) s
    let s := if r.due.isSome || r.waiting.isSome then gln 0x030D 3 t t r.skipped s else s
    match r.waiting with
    | none => .next (holdNext s)
    | some w =>
      let k' := 1 - tget 1 s.silo.lastCopy t
      .next (retPutWords t k' w (updRet t (fun r => { r with writing := some (k', w), waiting := none }) s))

/-! ### Forcing (R147 to R150) -/

/-- Tenant whose force record a word's is: the owner of its plot. -/
def forceTenant (s : State) (w : Nat) : Nat := ownTENANT (plotOwn s (w / 64))

/-- A record is removed and its word restored. -/
def forceRemove (w cause : Nat) (s : State) : State :=
  match tget none s.task.force w with
  | none => s
  | some f => gln 0x030A 3 (forceTenant s w) (63 * 65536 + w : Nat) cause (restoreWord w f none s)

/-- FORCE_LED is driven active while any record exists (R149). -/
def forceLed (s : State) : Bool := s.task.force.any (fun e => e.2.isSome)

/-- FORCE_TIMEOUT (R150). In a pair the primary carries the removal, so that the standby makes it at the same place. -/
def execForceTimeout (word : Fin 20480) (s : State) : Host.Outcome State Fault Refusal :=
  match tget none s.task.force word.val with
  | none => .next s
  | some f => .next (if f.until_ != 0 && decide (f.until_ ≤ s.clk) && serving s then
      forceRemove word.val 1 (pairSend (.change 0 0xF004 (toBe 2 word.val)) s) else s)

/-! ### Leaving and entering RUN and HOLD (Table 5-10, Table 5-11, R144, R145) -/

/-- The words of a tenant's STOP commit: what its tasks write, with their STOP values, and what its slots, loops and
services write. -/
def stopCommit (s : State) (t : Nat) : List (Nat × Word) :=
  let ks := s.prog.ranges.filter (fun e => taskDefined s e.1 && taskTenant s e.1 == t)
  let ws := ks.flatMap (fun e => e.2.flatMap (fun r => span r.1 r.2)) ++ slotWords s t ++ ceStopWords s t ++ svcWords s t
  (ws.dedup.filter (inPlot s 0 t)).map (fun w => (w, wget s.prog.stop w))

/-- Tenants leave RUN or HOLD for STOP or FAULT: the STOP commit of them all as one, then disarming, loop stop, force
removal and, for STOP, the retentive snapshots. Slots that fire in the same tick fire first (07 R201). -/
def stopTenants (snap : Bool) (ts : List Nat) (s : State) : State :=
  let s := if ts = [] then s else fireDue s
  let s := match ts.flatMap (stopCommit s) with
    | [] => s
    | ws => commitOnly ws s
  ts.foldl (fun s t =>
    let s := svcStop t (ceStop t (slotsStop t s))
    let s := (s.task.force.filter (fun e => forceTenant s e.1 == t)).foldl (fun s e => forceRemove e.1 2 s) s
    if snap then retSnap t s else s) s

/-- Tenant t leaves STOP for RUN or HOLD: the warm start. -/
def warmStart (cold : Bool) (t : Nat) (s : State) : State :=
  let g := segInfo s t
  let s := initSeg 0 t g.l0 s
  let s := (List.range 256).foldl (fun s k => if taskDefined s k && taskTenant s k == t then initSeg 6 k g.l6 s else s) s
  let s := if cold then initSeg 2 t g.l2 s else s
  let s := (List.range 384).foldl (fun s n =>
    if bit (evtSrc s n) 23 && taskTenant s (fld (evtSrc s n) 31 24) == t then setPending n false s else s) s
  svcEnter t (ceRestart t s)

/-- The mode a scope has: tenant 0 to 31, device 32. -/
def scopeMode (s : State) (scope : Nat) : Nat := if scope = 32 then s.task.dev else tenMode s scope

def setScopeMode (scope m : Nat) (s : State) : State :=
  if scope = 32 then { s with task := { s.task with dev := m } } else { s with task := { s.task with ten := tput 2 scope m s.task.ten } }

/-- Tenant whose Gleaner entries a scope's are. -/
def scopeTenant (scope : Nat) : Nat := if scope = 32 then 0 else scope

/-- A mode comes into force: the actions of every tenant whose effective mode it changes (a snapshot at every transition to STOP, R157), then the mode itself, MODE, and
Gleaner 0x0305. -/
def applyMode (scope m cause : Nat) (cold : Bool) (s : State) : State :=
  let after := setScopeMode scope m s
  let run := fun x => x == 2 || x == 3
  let stops := (List.range 32).filter (fun t => run (effMode s t) && !run (effMode after t))
  let starts := (List.range 32).filter (fun t => !run (effMode s t) && run (effMode after t))
  let still := (List.range 32).filter (fun t => !run (effMode s t) && effMode s t != 1 && effMode after t == 1)
  let s := stopTenants (m == 1) stops s
  let s := setScopeMode scope m (still.foldl (fun s t => retSnap t s) s)
  let s := starts.foldl (fun s t => warmStart cold t s) s
  let s := if scope = 32 then latchAll bitMODE s else latchTenant scope bitMODE s
  let s := gln 0x0305 3 (scopeTenant scope) ((if scope = 32 then 255 else scope) * 256 + m : Nat) cause s
  wdgServerCheck s

/-- A command's transition that Table 5-11 lists. -/
def transOk (m g : Nat) : Bool := (m == 2 && (g == 3 || g == 1)) || (m == 3 && (g == 2 || g == 1)) || (m == 1 && g == 2) || (m == 4 && g == 1)

/-- The next request waiting for a scope starts, those that Table 5-11 does not list ending with BAD_STATE (R145). -/
def nextTrans (scope : Nat) : Nat → State → State
  | 0, s => s
  | n + 1, s =>
    match tget [] s.task.queued scope with
    | [] => s
    | r :: rs =>
      let s := { s with task := { s.task with queued := tput [] scope rs s.task.queued } }
      if transOk (scopeMode s scope) r.target then { s with task := { s.task with trans := tput none scope (some r) s.task.trans } }
      else nextTrans scope n (match r.ch with | some ch => setResult ch rcBadState [] s | none => s)

/-- A transition that has no execution left to wait for comes into force; where it is to FAULT, the requests that wait end (R145). -/
def finishTrans (scope : Nat) (r : Trans) (s : State) : State :=
  let s := { s with task := { s.task with trans := tput none scope none s.task.trans } }
  let s := applyMode scope r.target r.cause r.cold s
  let s := match r.ch with | some ch => setResult ch rcOk [] s | none => s
  if r.target = 4 then refuseTrans scope s else nextTrans scope ((tget [] s.task.queued scope).length + 1) s

/-- MODE_TRANSITION_IN_FORCE (R143). -/
def execModeTransitionInForce (scope : Option (Fin 32)) (s : State) : Host.Outcome State Fault Refusal :=
  let n := match scope with | some t => t.val | none => 32
  match tget none s.task.trans n with
  | none => .next s
  | some r =>
    let busy := (liveTasks s).any (fun k => n == 32 || taskTenant s k == n)
    .next (if busy then s else finishTrans n r s)

/-! ### Budget and deadline (R139) -/

/-- BUDGET_EXCEEDED: the execution on the core whose next instruction took the count beyond its budget. -/
def execBudgetExceeded (core : Fin 8) (s : State) : Host.Outcome State Fault Refusal :=
  match coreTask s core.val with
  | none => .next s
  | some k => match taskEx s k with
    | none => .next s
    | some e =>
      if e.overBudget then
        let s := noteStop k e 0xFF s
        let s := enterFault e.tenant 2 s
        .next (gln 0x0306 2 e.tenant (k * 2 ^ 32 + e.core * 2 ^ 24 : Nat) e.cycles s)
      else .next s

/-- DEADLINE_OVERRUN (Table 5-9): the device halts, enters FAULT, drives its safe states and says so. -/
def execDeadlineOverrun (task : Fin 256) (s : State) : Host.Outcome State Fault Refusal :=
  let k := task.val
  match taskEx s k with
  | none => .next s
  | some e =>
    let dl := e.relAt + fld (taskEnt s k).lim 17 0 * 50000
    if (e.phase != 3 && decide (dl ≤ s.clk)) || (e.phase == 3 && decide (dl ≤ e.tendAt)) then
      let s' := refuseTrans 32 (dropWhere (fun _ => true) s)
      let s' := gln 0x0308 2 e.tenant (k * 2 ^ 32 + e.core * 2 ^ 24 : Nat) (umod 48 (dl + s.pair.ofs)) s'
      let s' := applyMode 32 4 3 false s'
      .next ((s'.img.rio.map (·.1)).foldl (fun s m => remoteOutput m s) s')
    else .next s

/-! ### Commits (R137, R138) -/

/-- The earliest execution that awaits its commit: in the order of TEND, then of core (R137). -/
def firstCommit (s : State) (k : Nat) (e : Ex) : Bool :=
  (liveTasks s).all (fun j => match taskEx s j with
    | some f => j == k || f.phase != 3 || decide (e.tendAt < f.tendAt ∨ (e.tendAt = f.tendAt ∧ e.core < f.core))
    | none => true)

/-- A commit is complete: words, end of the execution, held posts, the record and the retentive anchor. -/
def commitEx (k : Nat) (e : Ex) (s : State) : State :=
  let ws := exWords e
  let s := dropEx k (commitOnly ws s)
  let s := fireAll e.posts s
  let s := if e.replay then s else pairSend (.commit k (taskEnt s k).scancnt (checkValue ws e.posts 0) 0) s
  retAnchor k s

end Sys2Proof.Machine
end

