-- ==== Sys2Proof/Machine/PassOps.lean ====
section
/-! DEFINITION. The Pass chain: ports, frames, the chain-cycle budget, requests for chain changes (14 R341 to R363). -/

namespace Sys2Proof.Machine

def getPort (s : State) (p : Nat) : PassPort := tget {} s.pass.port p
def updPort (p : Nat) (f : PassPort → PassPort) (s : State) : State := { s with pass := { s.pass with port := tupd {} p f s.pass.port } }
def getMember (s : State) (p : Nat) : PassMember := tget {} s.pass.member p
def updMember (p : Nat) (f : PassMember → PassMember) (s : State) : State :=
  { s with pass := { s.pass with member := tupd {} p f s.pass.member } }

/-- ENABLE. -/
def passOn (s : State) : Bool := bit s.pass.cfg 39
def passPair (s : State) : Bool := bit s.pass.cfg 37
def passCycleMs (s : State) : Nat := fld s.pass.cfg 34 28
def passPtmo (s : State) : Nat := fld s.pass.cfg 27 24
/-- DLY_MAX in ns. -/
def passDlyMax (s : State) : Nat := fld s.pass.cfg 23 16 * 100

/-- The chain state that counts during an inauguration too (R354). At the position of the master a unit serves as master while it is
the primary, so a takeover makes the standby there the master (R360). -/
def passRole (s : State) : Nat :=
  let c := if s.pass.cstate = 1 then s.pass.before else s.pass.cstate
  if c != 2 && c != 3 then c else if s.pass.master = s.pass.ownPos && serving s then 3 else 2

/-- This device takes part in publications as a member. -/
def passIn (s : State) : Bool := passRole s == 2 || passRole s == 3

/-- A port takes part: enabled and up, its link not refused. -/
def portLive (s : State) (p : Nat) : Bool := passOn s && (getPort s p).up && !(getPort s p).refused

/-- The chain hash (R364). A plot's publication settings count as they are set, since only the owner derives the basic ones (DEDUCED, log 102). -/
def chainHash (s : State) : Nat :=
  crc32 (toBe 6 (passCycleMs s) ++ toBe 6 (passPtmo s) ++ (List.range 320).flatMap (fun n => wB (plotOwn s n)) ++
    (List.range 320).flatMap (fun n => wB (getPlot s n).pub))

/-! ### Frames (R344, Tables 14-1, 14-2) -/

/-- TYPE. -/
def passType : PassBody → Nat
  | .idle => 1
  | .echo _ _ => 2
  | .inaug _ => 3
  | .marker _ _ => 4
  | .advert _ => 5
  | .pub _ => 6
  | .change _ _ => 7
  | .resend _ => 8
  | .skip _ => 9

/-- Types 0x03 to 0x07: numbered, forwarded, with an end-to-end check. -/
def passNumbered (b : PassBody) : Bool := 3 ≤ passType b && passType b ≤ 7

/-- Bytes of an announced change in an ADVERT (Table 14-2 gives 16 and no layout: DESIGN CHOICE, log 123). -/
def changeEntry (c : ChainChange) : Bytes :=
  toBe 1 c.kind ++ toBe 2 c.cmd ++ toBe 1 c.tenant ++ toBe 4 c.cycle ++ toBe 4 c.payload.length ++ toBe 4 (crc32 c.payload)

/-- INAUG content (Table 14-2). -/
def inaugBytes (r : InaugRec) : Bytes :=
  toBe 6 r.passId ++ toBe 1 r.pos ++ toBe 1 (b2n r.primary * 2 + b2n r.pair) ++ toBe 1 r.fwMajor ++ toBe 1 r.fwMinor ++ toBe 1 r.fwPatch ++
    toBe 4 r.hash

/-- The content of the forwarded types, byte by byte (Table 14-2; how a CHANGE is laid out, and role and innings in four bytes:
DESIGN CHOICE, log 123). -/
def passContent : PassBody → Bytes
  | .inaug r => inaugBytes r
  | .marker e d => toBe 4 e ++ toBe 4 d
  | .advert a => inaugBytes a.inaug ++ toBe 1 a.mode ++ toBe 4 (a.pairRole * 2 ^ 28 + a.innings % 2 ^ 28) ++ toBe 1 a.trust ++
      toBe 6 (a.wallNs / 1000000000) ++ toBe 6 (a.wallNs % 1000000000) ++ toBe 8 a.overlays ++ a.changes.flatMap changeEntry
  | .pub ps => ps.flatMap (fun q => toBe 2 q.plot ++ wB q.qual ++ q.words.flatMap wB)
  | .change m c =>
    (match m with | .request => toBe 3 0 | .announce => toBe 3 0x10000 | .refuse rc => toBe 1 2 ++ toBe 2 rc) ++ changeEntry c ++ c.payload
  | .idle | .echo _ _ | .resend _ | .skip _ => []

/-- Length of a frame: header, content, check and FCS, at least 64 bytes. -/
def passLen (b : PassBody) : Nat :=
  match b with
  | .pub ps => 42 + 392 * ps.length
  | .advert a => 83 + 16 * a.changes.length
  | .change _ c => Nat.max 64 (61 + c.payload.length)
  | _ => 64

/-- The end-to-end check that a frame's header and content give (R344): the CRC-32 over the header with HOPS and the link fields as 0
and the content. A hop that changes ACC_DLY of a marker leaves the check as it is, so ACC_DLY counts as 0 in it (log 123). -/
def passCheck (f : PassFrame) : Nat :=
  let body := match f.body with | .marker e _ => .marker e 0 | b => b
  crc32 (toBe 1 f.ver ++ toBe 1 (passType f.body) ++ toBe 1 f.origin ++ toBe 1 0 ++ toBe 4 f.cycle ++ toBe 6 0 ++ toBe 2 f.len ++
    toBe 1 (f.group * 16 + b2n f.chg * 8) ++ toBe 1 f.frag ++ toBe 1 f.frags ++ toBe 1 0 ++ passContent body)

/-- The end-to-end check is right. -/
def e2eRight (f : PassFrame) : Bool := f.check == passCheck f

/-- Credits a frame of L bytes holds (R345). -/
def passCredits (len : Nat) : Nat := (len + 63) / 64

/-- The destination of every Pass frame (R344). -/
def passDest : Nat := 0x0300000088B5

/-- A frame of the device's own, before its link fields and its check. -/
def passFrame (s : State) (b : PassBody) : PassFrame :=
  { wellFormed := true, fcsOk := true, dest := passDest, sender := s.pass.id, ver := 1, check := 0, origin := s.pass.ownPos, hops := 0
    cycle := s.pass.cycle, lseq := 0, lack := 0, credit := 0, len := passLen b, group := 0, chg := false, frag := 0, frags := 0, body := b }

/-- The origin sets the end-to-end check of a forwarded type (R344). -/
def passSeal (f : PassFrame) : PassFrame := if passNumbered f.body then { f with check := passCheck f } else f

/-- An own frame waits for every live port, with that port's factory address as its sender (R344). -/
def passOwn (f : PassFrame) (s : State) : State :=
  let f := passSeal f
  (List.range 2).foldl (fun s p => if portLive s p then updPort p (fun x => { x with own := x.own ++ [{ f with sender := s.pass.id + p }] }) s else s) s

/-- Credits the port holds for its neighbour (R345). -/
def portCredits (x : PassPort) : Nat := 256 - (x.used + 65536 - x.credRx % 65536) % 65536

/-- Bytes in the retry buffer. -/
def retryBytes (x : PassPort) : Nat := (x.retry.map (fun h => h.frame.len)).sum

/-- A frame starts on a port: it takes the link fields of the moment and its credits (R345, R346, R348). -/
def portStart (p : Nat) (f : PassFrame) (s : State) : State :=
  let x := getPort s p
  let f := { f with lack := x.rxSeq, credit := x.freed }
  emit (.pass p f) (updPort p (fun x => { x with used := (x.used + passCredits f.len) % 65536, nTx := x.nTx + 1, lastTx := s.clk }) s)

/-- A frame that takes no link number of its own leaves a port; an ECHO request carries the DEVTIME of its departure (R343, R346). -/
def portEmit (p : Nat) (b : PassBody) (s : State) : State :=
  let b := match b with | .echo _ 0 => .echo (devtime s) 0 | b => b
  portStart p { passFrame s b with sender := s.pass.id + p, lseq := (getPort s p).txSeq } s

/-- Whether an unnumbered frame, one credit, may start: the credits count once the port is up (R345). -/
def portFree (x : PassPort) : Bool := !x.up || 1 ≤ portCredits x

/-- A RESEND that waits is replaced by a later one. -/
def linkPut (b : PassBody) (l : List PassBody) : List PassBody :=
  match b with
  | .resend _ => l.filter (fun c => passType c != 8) ++ [b]
  | _ => l ++ [b]

/-- An own unnumbered frame leaves at once where nothing waits before it and a credit is held, else it waits (R345, R348). -/
def linkSend (p : Nat) (b : PassBody) (s : State) : State :=
  let x := getPort s p
  if x.waiting == [] && x.again == [] && x.link == [] && portFree x then portEmit p b s
  else updPort p (fun x => { x with link := linkPut b x.link }) s

/-- What waits for a port is dropped; frames that the other port received free their credits there (R345). -/
def portClear (p : Nat) (s : State) : State :=
  let n := ((getPort s p).waiting.map (fun w => if w.held then passCredits w.frame.len else 0)).sum
  updPort (1 - p) (fun y => { y with freed := (y.freed + n) % 65536 })
    (updPort p (fun x => { x with waiting := [], again := [], link := [], own := [] }) s)

/-! ### Members and the budget (R351, R361, R362) -/

/-- INAUG content of this device. -/
def ownRecord (s : State) : InaugRec :=
  { passId := s.pass.id, pos := s.pass.ownPos, pair := passPair s, primary := serving s, fwMajor := s.flash.fwVersion.1
    fwMinor := s.flash.fwVersion.2.1, fwPatch := s.flash.fwVersion.2.2, hash := chainHash s }

/-- Positions admitted, this device's own among them while it is a member; ascending. -/
def passMembers (s : State) : List Nat :=
  let ps := s.pass.member.filterMap (fun e => if e.2.mstate == 1 || e.2.mstate == 3 then some e.1 else none)
  let all := if !passIn s || ps.contains s.pass.ownPos then ps else s.pass.ownPos :: ps
  sortBy (fun a b => a ≤ b) all

/-- Guests known with their PASS_ID: those listed, those whose position another device holds, and this device where it is one. -/
def guestIds (s : State) : List (Nat × Nat) :=
  s.pass.member.filterMap (fun e => if e.2.mstate == 2 then some (e.1, e.2.passId) else none) ++ s.pass.dups ++
    (if passRole s = 4 then [(s.pass.ownPos, s.pass.id)] else [])

def passGuests (s : State) : List Nat := (guestIds s).map (·.1)

/-- Plots that position p publishes in group g, ascending. -/
def groupPlots (s : State) (p g : Nat) : List Nat :=
  (List.range 320).filter (fun n => ownPOS (plotOwn s n) == p && ownPOS (plotOwn s n) != 0 && fld (plotPub s n) 23 20 == g)

/-- PUB frames of position p: the number of plots of each. -/
def pubSizes (s : State) (p : Nat) : List Nat :=
  (List.range 16).flatMap (fun g =>
    let n := (groupPlots s p g).length
    List.replicate (n / 3) 3 ++ (if n % 3 = 0 then [] else [n % 3]))

/-- S_p in tenths of ns (R361). -/
def slotTenths (s : State) (p : Nat) : Nat := ((pubSizes s p).map (fun n => (62 + 392 * n) * 32)).sum + 15000

/-- Links of the chain: as many as the farthest hop on each side (R361), of any device, whichever position it claims. -/
def chainLinks (s : State) : Nat := s.pass.links.1 + s.pass.links.2

/-- D of the links: those this device measured, the others open within DLY_MAX (log 1). -/
def linkDelays (s : State) : List Nat :=
  let mine := (List.range 2).filterMap (fun p => if portLive s p then some (getPort s p).d else none)
  mine ++ (List.range (chainLinks s - mine.length)).map (fun k => Nat.min (passDlyMax s) (Config.linkDelay k))

/-- Σ S_p, the hop term, the resend term, and B, in ns; a fraction of 1 ns is rounded up. -/
def passBudget (s : State) : Nat × Nat × Nat × Nat :=
  let sp := ((passMembers s).map (slotTenths s)).sum + (passGuests s).length * 15000
  let ds := linkDelays s
  let hop := (ds.map (fun d => 1500 + d)).sum
  let res := 5000 + 2 * ds.foldl Nat.max 0
  ((sp + 9) / 10, hop, res, (sp + 9) / 10 + hop + res + 50000)

/-- ECYCLE for a budget in ns (R362). -/
def ecycleFor (s : State) (b : Nat) : Nat := if b ≤ passCycleMs s * 1000000 then passCycleMs s else (b + 999999) / 1000000

/-! ### Inauguration begins (R351) -/

/-- A link has come up, gone down or been refused, a record of another device's inauguration has arrived, or `MB_PASS_INAUG` asks for
it. In an inauguration already in progress the records heard through a port that is not live are dropped. -/
def inaugStart (s : State) : State :=
  if !passOn s then s
  else if s.pass.cstate = 1 then
    { s with pass := { s.pass with records := s.pass.records.filter (fun e => portLive s (b2n e.side)), recAt := s.clk } }
  else { s with pass := { s.pass with before := s.pass.cstate, cstate := 1, records := [], recAt := s.clk, ring := false } }

/-! ### Chain changes (R363) -/

/-- The object of a change for Gleaner 0x0D0D: the plot, or 0. -/
def changeObject (c : ChainChange) : Nat := if c.kind = 0 then be c.payload 0 2 else 0

/-- Changes announced now: those to come, and those of the present cycle, which is not past yet (R363). -/
def chainPending (s : State) : Nat :=
  s.pass.announced.length + (s.pass.applied.filter (fun c => c.cycle == s.pass.cycle)).length

/-- The master announces a change for the present cycle + 4. -/
def chainAnnounce (c : ChainChange) (s : State) : State :=
  let c := { c with cycle := (s.pass.cycle + 4) % 2 ^ 32 }
  passOwn (passFrame s (.change .announce c)) { s with pass := { s.pass with announced := s.pass.announced ++ [c] } }

/-- A change goes to the master as a request, or the master itself announces it. A device in its first inauguration has neither
yet: the change goes when that is complete (`inaugResult`, log 123). -/
def chainSubmit (c : ChainChange) (s : State) : State :=
  if passRole s = 3 then chainAnnounce c s
  else if passRole s = 2 then passOwn (passFrame s (.change .request c)) s
  else s

/-- What every chain change asks: no guest (BAD_STATE), fewer than 8 announced (NO_RESOURCE) (R363). -/
def chainOpen (s : State) : Except Nat Unit := do
  need (passRole s != 4) rcBadState
  need (chainPending s < 8) rcNoResource

/-- A member accepts a command that is a chain change; the command is answered when the change is applied. A standby to which the
primary carries the command learns of the change from the chain. -/
def chainRequest (kind cmd t ch : Nat) (p : Bytes) (s : State) : MbR := do
  if s.pair.applying then done s else
  chainOpen s
  let c : ChainChange := ⟨kind, cmd, t, p, 0⟩
  defer (chainSubmit c { s with pass := { s.pass with waiting := s.pass.waiting ++ [(c, ch)] } })

end Sys2Proof.Machine
end

