-- ==== Sys2Proof/Machine/TrdpOps.lean ====
section
/-! DEFINITION. TRDP entries: fields, digest, activity (13 R332, Table 13-3; 06 R174). -/

namespace Sys2Proof.Machine

/-- Configuration digest (06 R174). -/
def trdpDigest (s : State) (k : Nat) : Nat :=
  let e := getTrdp s k
  crc32 (wB e.pd ++ wB e.com ++ wB e.ip ++ wB e.src)

/-- Activity of an entry judged again (06 R174). -/
def judgeTrdp (k : Nat) (s : State) : State :=
  let e := getTrdp s k
  let d := trdpDigest s k
  let a := !trdpUsed e || objAccepted s 2 k (trdpTenant e) d
  if a = e.active then s
  else gln 0x0409 3 (trdpTenant e) (2 * 65536 + k : Nat) (d * 2 + b2n a : Nat) (updTrdp k (fun e => { e with active := a }) s)

/-- Number of a subscription among the units that feed a plot. -/
def trdpUnit (k : Nat) : Nat := 3000 + k

/-- A unit no longer feeds any plot: ages count on from its last update only where no other unit feeds the plot. -/
def dropUnit (u : Nat) (s : State) : State :=
  let f := fun (p : PlotSt) =>
    match p.feeds.find? (fun x => x.1 == u) with
    | none => p
    | some x =>
      let l := p.feeds.filter (fun y => y.1 != u)
      { p with feeds := l, ageFrom := if l = [] then (x.2 : Int) else p.ageFrom }
  (s.img.plot.map (·.1)).foldl (fun s n => updPlot n f s) s

/-! ### PTP port (13 R336, R337) -/

def ptpOn (s : State) : Bool := bit s.eth.ptp.cfg 47
def ptpMac (s : State) : Nat := fld s.eth.ptp.cfg 46 45
def ptpRole (s : State) : Nat := fld s.eth.ptp.cfg 43 42
def ptpDomain (s : State) : Nat := fld s.eth.ptp.cfg 39 32

def updPtp (f : Ptp → Ptp) (s : State) : State := { s with eth := { s.eth with ptp := f s.eth.ptp } }

/-- WALL_PTP changes (R337); in sync, wall time is trusted (07 Table 7-1). -/
def setWallPtp (b : Bool) (s : State) : State :=
  if s.tb.wallPtp = b then s
  else
    let s := { s with tb := { s.tb with wallPtp := b, wallOk := s.tb.wallOk || b } }
    gln 0x0521 3 0 (b2n s.tb.wallOk) (b2n b) (fire (ethSrc (ptpMac s) 3) s)

/-- A change of port state; leaving SLAVE ends WALL_PTP. -/
def setPtpState (n : Nat) (s : State) : State :=
  let old := s.eth.ptp.state
  if old = n then s
  else
    let s := updPtp (fun p => { p with state := n, good := 0, bad := 0, integ := 0, lastSync := s.clk, heardAnn := s.clk }) s
    let s := gln 0x0C08 3 0 n s.eth.ptp.offset (fire (ethSrc (ptpMac s) 3) s)
    if old = 9 then setWallPtp false s else s

/-- The port is held in the listening state: it follows no clock (15 R380). -/
def ptpListen (s : State) : State :=
  if s.eth.ptp.state = 1 ∨ s.eth.ptp.state = 3 then s
  else setPtpState 4 (updPtp (fun p => { p with master := none, delay := none, syncT := none, reqAt := none }) s)

end Sys2Proof.Machine
end

