-- ==== Sys2Proof/Machine/ImageMb.lean ====
section
/-! DEFINITION. The commands of the image, plots and remote modules, and the timers of remote modules (06 R162 to R181). -/

namespace Sys2Proof.Machine

/-! ### Reading and writing the image (R172, R173) -/

/-- A refused host access: NOT_PERMITTED and Gleaner 0x0401 with the first word refused. -/
def imageDenied (t ch w : Nat) (s : State) : MbR := .ok ⟨rcNotPermitted, some [], gln 0x0401 3 t ch w s⟩

def mbImageRead (t ch : Nat) (p : Bytes) (s : State) : MbR :=
  let a := be p 0 2
  let c := be p 2 2
  match if short p 4 then none else (span a c).find? (fun w => !mayRead s t w) with
  | some w => imageDenied t ch w s
  | none => do
    lenIs p 4
    par (1 ≤ c && c ≤ 512)
    reply ((span a c).flatMap (fun w => wB (imgWord s w)) ++
      (span (a / 64) ((a + c - 1) / 64 + 1 - a / 64)).flatMap (fun n => wB (plotQual s n))) s

def mbImageWrite (t ch : Nat) (p : Bytes) (s : State) : MbR :=
  let c := u8 p 0
  let ws := (items p 1 8 (Nat.min c ((p.length - 1) / 8))).map (fun b => (be b 0 2, beW b 2))
  match ws.find? (fun e => !inPlot s 3 t e.1) with
  | some e => imageDenied t ch e.1 s
  | none => do
    lenIs p (1 + 8 * c)
    stChg s (c == 0 || 64 < c || running s t)
    par (1 ≤ c && c ≤ 64)
    done ((plotsOf ws).foldl (fun s n => plotUpdate n none false s) (ioPuts ws s))

/-! ### The plot table (R164 to R167) -/

/-- Tenant t owns plot n. -/
def ownsPlot (s : State) (t n : Nat) : Bool := n < 320 && ownPOS (plotOwn s n) != 0 && ownTENANT (plotOwn s n) == t

def mbPlotGet (t _ch : Nat) (p : Bytes) (s : State) : MbR := do
  let n := be p 0 2
  perm (t == 0 || short p 2 || mayRead s t (64 * n))
  lenIs p 2
  par (n < 320)
  reply (wB (plotOwn s n) ++ wB (plotPub s n) ++ wB (plotQual s n)) s

/-- A module maps into plot n. -/
def mapsPlot (s : State) (n : Nat) : Bool :=
  s.img.rio.any (fun e => overlap (rioIN e.2).1 (rioIN e.2).2 (64 * n) 64 || overlap (rioOUT e.2).1 (rioOUT e.2).2 (64 * n) 64)

/-- A plot may be released (R166). The owner tenant's mode at another device is what the plot's quality word shows of it, and the
device mode that the owner device adverts. -/
def releaseOk (s : State) (n : Nat) : Bool :=
  let o := plotOwn s n
  ownPOS o != 0 && !mapsPlot s n && !s.prog.ranges.any (fun e => e.2.any (fun r => overlap r.1 r.2 (64 * n) 64)) &&
    if ownPOS o == s.pass.ownPos then effMode s (ownTENANT o) == 1
    else !bit (plotQual s n) 14 && (getMember s (ownPOS o)).mode != 4

/-- A plot starts again with a new owner word. -/
def freshPlot (n : Nat) (o : Word) (s : State) : State :=
  updPlot n (fun _ => { ageFrom := s.clk, pubLost := passRole s == 4 && ownPOS o != 0 && ownPOS o != s.pass.ownPos }) (setOwn n o s)

/-- What follows any change of the plot table: refusals of image words may be reported again. -/
def plotTableChanged (s : State) : State := cePlots (slotsPlots s)

def plotAssign (n : Nat) (p : Bytes) (s : State) : State :=
  let (pos, src, tn) := (u8 p 2, u8 p 3, u8 p 4)
  gln 0x0402 3 tn n (pos * 65536 + src * 256 + tn : Nat)
    (plotTableChanged (freshPlot n (wd (pos * 2 ^ 40 + src * 2 ^ 37 + tn * 2 ^ 32)) s))

def plotRelease (t n : Nat) (s : State) : State :=
  let o := plotOwn s n
  let s := commitOnly ((span (64 * n) 64).map (fun w => (w, 0#48))) s
  let pub := (getPlot s n).pub
  let s := updPlot n (fun p => { p with pub }) (freshPlot n (setFld (setFld o 47 40 0) 31 0 0) s)
  gln 0x0403 3 (ownTENANT o) n t (plotTableChanged s)

def plotShare (n share : Nat) (s : State) : State :=
  let o := plotOwn s n
  gln 0x0404 3 (ownTENANT o) n share (plotTableChanged (setOwn n (setFld o 31 0 share) s))

/-- A command of R166 takes effect at this device where its checks hold. -/
def plotChange (cmd t : Nat) (p : Bytes) (s : State) : Option State :=
  let n := be p 0 2
  if cmd = 0x0304 then (if ownPOS (plotOwn s n) = 0 then some (plotAssign n p s) else none)
  else if cmd = 0x0305 then (if releaseOk s n then some (plotRelease t n s) else none)
  else if cmd = 0x0306 then (if ownsPlot s t n then some (plotShare n (be p 2 4) s) else none)
  else none

/-- A checked command of R166: a chain change, or at once at a device outside a chain. -/
def plotCommand (cmd t ch pos : Nat) (p : Bytes) (s : State) : MbR := do
  if passOn s then
    par (pos == s.pass.ownPos)
    -- a change that would take B above 100 ms (14 R362)
    need (passRole s == 4 || (plotChange cmd t p s).all (fun s' => (passBudget s').2.2.2 ≤ 100000000)) rcNoResource
    chainRequest 0 cmd t ch p s
  else
    match plotChange cmd t p s with
    | some s' => done s'
    | none => .error rcBadState

def mbPlotAssign (t ch : Nat) (p : Bytes) (s : State) : MbR := do
  let n := be p 0 2
  perm (t == 0)
  lenIs p 5
  let listed := n < 320 && 1 ≤ u8 p 2 && u8 p 3 ≤ 3 && u8 p 4 < 32
  stSel (u8 p 3 ≤ 3) s (!listed || ownPOS (plotOwn s n) == 0)
  par listed
  plotCommand 0x0304 t ch (u8 p 2) p s

def mbPlotRelease (t ch : Nat) (p : Bytes) (s : State) : MbR := do
  let n := be p 0 2
  perm (t == 0 || short p 2 || ownsPlot s t n)
  lenIs p 2
  stChg s (320 ≤ n || releaseOk s n)
  par (n < 320)
  plotCommand 0x0305 t ch (ownPOS (plotOwn s n)) p s

def mbPlotShare (t ch : Nat) (p : Bytes) (s : State) : MbR := do
  let n := be p 0 2
  perm (short p 2 || ownsPlot s t n)
  lenIs p 6
  stChg s true
  plotCommand 0x0306 t ch (ownPOS (plotOwn s n)) p s

def mbPlotPubSet (t _ch : Nat) (p : Bytes) (s : State) : MbR := do
  let n := be p 0 2
  perm (short p 2 || ownsPlot s t n)
  formLen p 2 [(0, 6), (1, 6)]
  stSel (levelOk p 2) s true
  par (levelOk p 2 && (u8 p 2 == 0 || u8 p 3 ≤ 15))
  let w := if u8 p 2 = 0 then 0#48 else wd (u8 p 3 * 2 ^ 20 + 2 ^ 16 + be p 4 2)
  let s := updPlot n (fun x => { x with pub := w }) s
  done (updPlot n (fun x => { x with stale := x.stale && bit (plotQual s n) 12 }) s)

/-- PLOT_STALE (R168, Table 6-14): written once as STALE sets. -/
def execPlotStale (plot : Fin 320) (s : State) : Host.Outcome State Fault Refusal :=
  let n := plot.val
  let q := plotQual s n
  let was := (getPlot s n).stale
  if bit q 12 = was then .next s
  else
    let s := updPlot n (fun x => { x with stale := bit q 12 }) s
    .next (if was then s else gln 0x0408 3 (ownTENANT (plotOwn s n)) n (fld q 47 32) s)

/-! ### Remote modules (R174 to R178) -/

/-- comIds in use on a MAC by modules other than m and entries other than k: comId, and whether it is sent. -/
def macComs (s : State) (mac m k : Nat) : List (Nat × Bool) :=
  (s.img.rio.filter (fun e => e.1 != m && rioUsed e.2 && rioBus e.2 == mac + 4)).flatMap (fun e =>
    let id := fld e.2.tmo 47 16
    [(id, false), ((id + 1) % 2 ^ 32, true)]) ++
  (s.eth.trdp.filter (fun e => e.1 != k && trdpUsed e.2 && trdpMac e.2 == mac)).map (fun e => (trdpCom e.2, trdpPub e.2))

/-- Identifiers in use on a CAN controller by modules other than m: IDE and identifier. -/
def canIds (s : State) (n m : Nat) : List (Bool × Nat) :=
  (s.img.rio.filter (fun e => e.1 != m && rioUsed e.2 && rioBus e.2 == n)).flatMap (fun e =>
    let id := fld e.2.tmo 44 16
    [(bit e.2.tmo 47, id), (bit e.2.tmo 47, (id + 1) % 2 ^ 29)])

/-- The identifiers of a module are its own, and its controller has FD 1 as it was last set, in force or waiting for the next bus
idle (12 R308, R315, 13 R331). -/
def rioIdsOk (s : State) (m : Nat) (r : Rio) : Bool :=
  if rioBus r < 4 then
    let (e, id) := (bit r.tmo 47, fld r.tmo 44 16)
    let c := getCan s (rioBus r)
    bit ((c.next.map (·.1)).getD c.ctl) 46 && (e || id < 2047) &&
      !(canIds s (rioBus r) m).contains (e, id) && !(canIds s (rioBus r) m).contains (e, (id + 1) % 2 ^ 29)
  else
    let id := fld r.tmo 47 16
    let l := (macComs s (rioBus r - 4) m 256).map (·.1)
    !l.contains id && !l.contains ((id + 1) % 2 ^ 32)

/-- The blocks of a module lie where R175 wants them. -/
def rioBlocksOk (s : State) (m : Nat) (r : Rio) : Bool :=
  let t := rioTenant r
  let (a, n) := rioIN r
  let (b, k) := rioOUT r
  n ≤ 16 && k ≤ 16 && (span a n).all (inPlot s 2 t) && (span b k).all (inPlot s 0 t) &&
    s.img.rio.all (fun e => e.1 == m || !overlap a n (rioIN e.2).1 (rioIN e.2).2)

/-- The lowest block of c words in plots of a source of tenant t that no other module maps. -/
def lowestBlock (s : State) (src t c : Nat) (taken : List (Nat × Nat)) : Option Nat :=
  if c = 0 then some 0
  else (List.range 20480).find? (fun w => (span w c).all (inPlot s src t) && taken.all (fun b => !overlap w c b.1 b.2))

/-- A module configured anew: what it has received stays only where it is the same input under the same identifier. -/
def setRio (m : Nat) (w tmo : Word) (subst : List Word) (s : State) : State :=
  let r := getRio s m
  let r' : Rio := { r with mod := w, tmo, subst, part := none }
  let keep := rioUsed r && fld r.mod 47 20 == fld w 47 20 && fld r.tmo 47 16 == fld tmo 47 16
  let s := if keep then s else dropUnit (64 + m) s
  let r' := if keep then r' else
    { r' with lastSeq := none, timedOut := false, fault := false, substituted := false, lastAt := s.clk, lastSrc := none, active := r.active || !rioUsed r }
  judgeRio m (updRio m (fun _ => r') s)

def mbRioSet (t _ch : Nat) (p : Bytes) (s : State) : MbR := do
  let m := be p 0 2
  let c := fld (beW p 3) 24 20
  perm (t == 0)
  formLen p 2 [(0, 11), (1, Nat.max 15 (15 + 6 * c))]
  let listed := levelOk p 2 && (if u8 p 2 = 0 then u8 p 3 ≤ 6 else fld (beW p 3) 47 45 ≤ 6 && fld (beW p 9) 15 14 ≤ 2)
  stSel listed s true
  par (m < 1024 && listed)
  if u8 p 2 = 0 then
    let (bus, id, tn, ci, co) := (u8 p 3, be p 4 4, u8 p 8, u8 p 9, u8 p 10)
    par (tn < 32 && ci ≤ 16 && co ≤ 16)
    let tmo := wd (id * 2 ^ 16 + 2 ^ 14 + 50)
    let mk := fun (a b : Nat) => wd (bus * 2 ^ 45 + tn * 2 ^ 40 + a * 2 ^ 25 + ci * 2 ^ 20 + b * 2 ^ 5 + co)
    par (rioIdsOk s m { mod := mk 0 0, tmo })
    let others := s.img.rio.filter (fun e => e.1 != m)
    match lowestBlock s 2 tn ci (others.map (fun e => rioIN e.2)), lowestBlock s 0 tn co (others.map (fun e => rioOUT e.2)) with
    | some a, some b => reply (toBe 2 a ++ toBe 2 b) (setRio m (mk a b) tmo [] s)
    | _, _ => .error rcNoResource
  else
    let w := beW p 3
    let tmo := setBit (setBit (beW p 9) 12 false) 13 true
    let r : Rio := { mod := w, tmo }
    par (2 ≤ fld tmo 11 0 && fld tmo 11 0 ≤ 4000)
    par (rioBlocksOk s m r && (!rioUsed r || rioIdsOk s m r))
    reply (toBe 2 (rioIN r).1 ++ toBe 2 (rioOUT r).1) (setRio m w tmo ((items p 15 6 c).map (fun b => beW b 0)) s)

def mbRioGet (t _ch : Nat) (p : Bytes) (s : State) : MbR := do
  let m := be p 0 2
  let r := getRio s m
  perm (t == 0 || short p 2 || (m < 1024 && rioTenant r == t))
  lenIs p 2
  par (m < 1024)
  reply (wB r.mod ++ wB r.tmo ++ toBe 4 r.dup ++ toBe 4 r.old ++ toBe 4 r.incomplete ++ toBe 4 r.timeouts ++
    toBe 2 (r.lastSeq.getD 0) ++ toBe 4 (rioDigest s m) ++ toBe 1 (tget [] s.flash.accepted (65536 + m)).length) s

/-- Tenant named by an object of a kind. -/
def kindTenant (s : State) (kind obj : Nat) : Option Nat :=
  if kind = 1 then (if obj < 1024 then some (rioTenant (getRio s obj)) else none)
  else if obj < 256 then some (trdpTenant (getTrdp s obj)) else none

def mbTenantAccept (t _ch : Nat) (p : Bytes) (s : State) : MbR := do
  let k := u8 p 0
  let obj := be p 1 2
  perm (k != 1 && k != 2 || short p 3 || kindTenant s k obj == some t)
  formLen p 0 [(1, 7), (2, 7)]
  stSel (k == 1 || k == 2) s true
  par (k == 1 || k == 2)
  need (areaFits s 5) rcNoResource
  let d := be p 3 4
  let key := k * 65536 + obj
  let l := tget [] s.flash.accepted key
  let l := if d = 0 then [] else if l.contains d then l else (d :: l).take 4
  let s := { s with flash := { s.flash with accepted := tput [] key l s.flash.accepted } }
  let s := storeArea 5 s
  reply (toBe 1 l.length) (if k = 1 then judgeRio obj s else judgeTrdp obj s)

/-- REMOTE_SET_RECEIVED (R176, R177): a complete set of a module. -/
def execRemoteSetReceived (m : Fin 1024) (seq : BitVec 16) (mstat : Byte) (words : List Word) (s : State) : Host.Outcome State Fault Refusal :=
  let n := (rioIN (getRio s m.val)).2
  .next (if n = 0 then s
    else if words.length ≠ n then remoteMalformed m.val seq.toNat s
    else remoteSet m.val seq.toNat mstat.toNat words s)

/-- Input block of a module after a timeout (R178, Table 6-9). -/
def substWords (s : State) (r : Rio) : List (Nat × Word) :=
  let (a, n) := rioIN r
  (List.range n).map (fun i => (a + i, match fld r.tmo 15 14 with
    | 0 => ioWord s (a + i)
    | 1 => 0#48
    | _ => r.subst.getD i 0#48))

/-- REMOTE_MODULE_TIMEOUT (R178). -/
def execRemoteModuleTimeout (m : Fin 1024) (s : State) : Host.Outcome State Fault Refusal :=
  let r := getRio s m.val
  let at_ := r.lastAt + fld r.tmo 11 0 * 1000000
  if (rioIN r).2 != 0 && r.active && !r.timedOut && decide (at_ ≤ s.clk) then
    let ws := substWords s r
    let s := updRio m.val (fun r => { r with timedOut := true, substituted := true, timeouts := r.timeouts + 1 }) s
    .next (gln 0x0405 3 (rioTenant r) m.val (umod 48 ((at_ : Int) + s.pair.ofs)) (unitUpdate (64 + m.val) true ws s))
  else .next s

/-- REMOTE_OUTPUT_PERIODIC (R178): every TIMEOUT / 4 since the last set. -/
def execRemoteOutputPeriodic (m : Fin 1024) (s : State) : Host.Outcome State Fault Refusal :=
  let r := getRio s m.val
  .next (if decide (r.outAt + fld r.tmo 11 0 * 250000 ≤ s.clk) then remoteOutput m.val s else s)

def execMbImageRead (ch : Fin 16) (p : Bytes) (s : State) := runMb ch 0x0301 mbImageRead p s
def execMbImageWrite (ch : Fin 16) (p : Bytes) (s : State) := runMb ch 0x0302 mbImageWrite p s
def execMbPlotGet (ch : Fin 16) (p : Bytes) (s : State) := runMb ch 0x0303 mbPlotGet p s
def execMbPlotAssign (ch : Fin 16) (p : Bytes) (s : State) := runMb ch 0x0304 mbPlotAssign p s
def execMbPlotRelease (ch : Fin 16) (p : Bytes) (s : State) := runMb ch 0x0305 mbPlotRelease p s
def execMbPlotShare (ch : Fin 16) (p : Bytes) (s : State) := runMb ch 0x0306 mbPlotShare p s
def execMbPlotPubSet (ch : Fin 16) (p : Bytes) (s : State) := runMb ch 0x0307 mbPlotPubSet p s
def execMbRioSet (ch : Fin 16) (p : Bytes) (s : State) := runMb ch 0x0310 mbRioSet p s
def execMbRioGet (ch : Fin 16) (p : Bytes) (s : State) := runMb ch 0x0311 mbRioGet p s
def execMbTenantAccept (ch : Fin 16) (p : Bytes) (s : State) := runMb ch 0x0312 mbTenantAccept p s

end Sys2Proof.Machine
end

