-- ==== Sys2Proof/Machine/Mailbox.lean ====
section
/-! DEFINITION. The host mailboxes: SPI frames, UDP datagrams, the order of checks, replies, sessions and channel
settings (02). -/

namespace Sys2Proof.Machine

/-! ### Messages -/

/-- The tag of a message whose header has bytes 0 to 15 as given (02 R60). -/
def mbTag (key hdr payload : Bytes) : Bytes := (hmac key (hdr ++ payload)).take 16

/-- A reply message (02 Table 2-1): the tag is added where `tagged` (R60). -/
def replyMsg (s : State) (ch tenantByte seq cmd rc : Nat) (payload : Bytes) (tagged : Bool) : Bytes :=
  let hdr := [1#8, BitVec.ofNat 8 ch, BitVec.ofNat 8 tenantByte, BitVec.ofNat 8 (b2n tagged)] ++ toBe 4 seq ++
    toBe 2 cmd ++ toBe 2 payload.length ++ toBe 2 (statusField s ch) ++ toBe 2 rc
  hdr ++ payload ++ (if tagged then mbTag (chanCfg s ch).key hdr payload else [])

/-- The digest of a request (02 R48). -/
def reqDigest (m : Bytes) : Bytes := (sha256 ((m.drop 8).take 4 ++ (m.drop 16).take (be m 10 2))).take 8

/-- HOST_WAKE goes low at the first host frame after it was driven (18 R462). -/
def hostFrame (s : State) : State := { s with aon := { s.aon with hostWake := false } }

/-- Command codes the device defines (02 Table 2-9 and the command tables of the other files). -/
def knownCmd (c : Nat) : Bool :=
  let lo := c % 256
  match c / 256 with
  | 0x01 => 1 ≤ lo && lo ≤ 8
  | 0x02 => 1 ≤ lo && lo ≤ 0x0B
  | 0x03 => (1 ≤ lo && lo ≤ 7) || (0x10 ≤ lo && lo ≤ 0x12) || (0x20 ≤ lo && lo ≤ 0x22)
  | 0x04 => 1 ≤ lo && lo ≤ 3
  | 0x05 => 1 ≤ lo && lo ≤ 5
  | 0x06 => 1 ≤ lo && lo ≤ 0x0B
  | 0x07 => (1 ≤ lo && lo ≤ 6) || (0x10 ≤ lo && lo ≤ 0x14) || (0x20 ≤ lo && lo ≤ 0x22)
  | 0x08 => (1 ≤ lo && lo ≤ 3) || (0x10 ≤ lo && lo ≤ 0x12) || (0x20 ≤ lo && lo ≤ 0x23) || lo == 0x30 || lo == 0x31 ||
      (0x40 ≤ lo && lo ≤ 0x43) || (0x50 ≤ lo && lo ≤ 0x52)
  | 0x09 => 1 ≤ lo && lo ≤ 5
  | 0x0A => (1 ≤ lo && lo ≤ 5) || (0x30 ≤ lo && lo ≤ 0x34)
  | 0x0B => 1 ≤ lo && lo ≤ 8
  | 0x0C => 1 ≤ lo && lo ≤ 9
  | 0x0D => (1 ≤ lo && lo ≤ 0x0A) || (0x20 ≤ lo && lo ≤ 0x28)
  | 0x0E => 1 ≤ lo && lo ≤ 6
  | 0x0F => 1 ≤ lo && lo ≤ 0x0A
  | _ => false

/-! ### Order of checks (02 R46, R47) -/

/-- What checks 5 to 8 decide on a message of an accepted transport. -/
inductive Judged where
  | answer (rc : Nat) (payload : Bytes)
  | accept
deriving DecidableEq, Repr

/-- Checks 5 to 7 (02 R46, R47): the answer, and the state with counters and Gleaner events. -/
def judge (ch : Nat) (m : Bytes) (s : State) : Judged × State :=
  let cfg := chanCfg s ch
  let c := getChan s ch
  let seq := be m 4 4
  let cmd := be m 8 2
  let dig := reqDigest m
  if u8 m 2 ≠ cfg.tenant then (.answer rcNotPermitted [], gln 0x020B 3 cfg.tenant ch (u8 m 2) s)
  else if cmd = 0x0101 then
    if c.exec.isSome then (.answer rcBusy [], s) else (.accept, s)
  else if !c.isOpen then (.answer rcNoSession [], s)
  else if seq = (c.lastSeq + 1) % 2 ^ 32 then
    if c.exec.isSome then (.answer rcBusy [], s) else (.accept, s)
  else
    let d := (c.lastSeq + 2 ^ 32 - seq) % 2 ^ 32
    match (if d ≤ 7 then c.cache.find? (fun e => e.seq == seq) else none) with
    | some e =>
      if e.digest ≠ dig then
        (.answer rcSeqConflict [], gln 0x0204 3 cfg.tenant ch seq (updChan ch (fun c => { c with seqConflict := c.seqConflict + 1 }) s))
      else match e.reply with
        | none => (.answer rcBusy [], s)
        | some (rc, pl) => (.answer rcReplay (toBe 2 rc ++ pl), s)
    | none => (.answer rcSeqWindow [], gln 0x0205 3 cfg.tenant ch seq (updChan ch (fun c => { c with seqWindow := c.seqWindow + 1 }) s))

/-- Acceptance: LAST_SEQ, the cache entry and the request to execute; an unknown command has its answer at once (check
8). `MB_SESSION_OPEN` moves no LAST_SEQ and is never cached (02 R68). -/
def accept (ch : Nat) (m : Bytes) (udp : Option (Nat × Nat × Nat)) (s : State) : State :=
  let seq := be m 4 4
  let cmd := be m 8 2
  let r : Req := { seq, cmd, tenantByte := u8 m 2, flags := u8 m 3, payload := (m.drop 16).take (be m 10 2), digest := reqDigest m, udp }
  updChan ch (fun c =>
    { c with
      exec := some r
      lastReq := (seq, cmd)
      lastSeq := if cmd = 0x0101 then c.lastSeq else seq
      cache := if cmd = 0x0101 then c.cache else (⟨seq, r.digest, none⟩ :: c.cache).take 8
      result := if knownCmd cmd then none else some (rcUnknownCmd, [])
      started := false
      reply := if udp.isSome then c.reply else none
      ready := if udp.isSome then c.ready else false
      rejectedSince := false }) s

/-- A request that is answered without execution, on SPI: the answer is the channel's current reply (02 R53). -/
def answerSpi (ch : Nat) (m : Bytes) (rc : Nat) (pl : Bytes) (s : State) : State :=
  let msg := replyMsg s ch (u8 m 2) (be m 4 4) (be m 8 2) rc pl (chanCfg s ch).tagreq
  updChan ch (fun c => { c with reply := some msg, ready := true, rejectedSince := c.exec.isSome }) s

/-- The header form of 02 R38. -/
def headerOk (m : Bytes) : Bool := u8 m 0 == 1 && u8 m 3 ≤ 1 && be m 12 4 == 0

/-- Check 3: the lengths agree, and the payload has at most 4,064 bytes (02 R37). -/
def lengthOk (m : Bytes) : Bool := m.length == 16 + be m 10 2 + 16 * u8 m 3 && be m 10 2 ≤ 4064

/-- The tag of a request is right (02 R60); a channel without a key forms and checks tags with 32 zero bytes, which HMAC does not
tell from no bytes (the model's choice, log 93). -/
def tagOk (s : State) (ch : Nat) (m : Bytes) : Bool :=
  let n := be m 10 2
  (m.drop (16 + n)).take 16 == mbTag (chanCfg s ch).key (m.take 16) ((m.drop 16).take n)

/-- A frame discarded with a result (02 R56, R71). Which channel is the one concerned is open: the header's where the frame is long
enough to show it, else none, and then T0 (the model's choice, log 92). -/
def countDiscard (result : Nat) (ch : Option Nat) (s : State) : State :=
  let n := Nat.min 0xFFFF (s.mb.spi.discards + 1)
  let t := match ch with | some c => (chanCfg s c).tenant | none => 0
  let s := { s with mb := { s.mb with spi := { s.mb.spi with discards := n } } }
  let s := match ch with | some c => updChan c (fun x => { x with discFrame := x.discFrame + 1 }) s | none => s
  gln 0x0201 3 t result n s

/-- Set the result of the frame just ended (02 R50). -/
def frameResult (r : Nat) (s : State) : State := { s with mb := { s.mb with spi := { s.mb.spi with lastResult := r, later := true } } }

/-- A frame discarded as it ends: its result stands in U1 of the next frame. -/
def discardFrame (result : Nat) (ch : Option Nat) (s : State) : State := countDiscard result ch (frameResult result s)

/-- A waiting WRITE found to name a channel not bound to the SPI port: BAD_CHANNEL is its frame's result, which U1 shows only where no
frame has ended after it (02 R50, R46 check 2). -/
def discardWaiting (s : State) : State :=
  let last := s.mb.spi.waiting == [] && !s.mb.spi.later
  countDiscard 9 none (if last then { s with mb := { s.mb with spi := { s.mb.spi with lastResult := 9 } } } else s)

/-- The front WRITE message passes checks 2 to 7 (02 R46, R55), after the port has released it. -/
def checkWrite (m : Bytes) (s : State) : State :=
  let ch := u8 m 1
  if ¬ (ch < 16 ∧ (chanCfg s ch).transport = 1) then discardWaiting s
  else if !headerOk m then answerSpi ch m rcBadParam [] s
  else if !lengthOk m then answerSpi ch m rcBadLength [] s
  else if ((chanCfg s ch).tagreq && u8 m 3 == 0) || (u8 m 3 == 1 && !tagOk s ch m) then
    answerSpi ch m rcBadTag [] (gln 0x0203 3 (chanCfg s ch).tenant ch (be m 4 4) (updChan ch (fun c => { c with badTag := c.badTag + 1 }) s))
  else match judge ch m s with
    | (.accept, s) => accept ch m none s
    | (.answer rc pl, s) => answerSpi ch m rc pl s

/-- MAILBOX_REQUEST_CHECK: the longest waiting WRITE is checked; with none waiting there is nothing to check. -/
def execMailboxRequestCheck (s : State) : Host.Outcome State Fault Refusal :=
  match s.mb.spi.waiting with
  | [] => .next s
  | m :: rest => .next (checkWrite m { s with mb := { s.mb with spi := { s.mb.spi with waiting := rest } } })

/-! ### SPI frames (02 R50 to R58) -/

/-- A message packed into units, an odd last byte in the high half. -/
def packUnits : Bytes → List (BitVec 16)
  | [] => []
  | [a] => [a ++ 0#8]
  | a :: b :: t => (a ++ b) :: packUnits t

/-- The bytes of units, high byte first. -/
def unitBytes (us : List (BitVec 16)) : Bytes := us.flatMap (fun u => [u.extractLsb' 8 8, u.extractLsb' 0 8])

/-- The two CRC units over units. -/
def crcUnits (us : List (BitVec 16)) : List (BitVec 16) :=
  let c := crc32 (unitBytes us)
  [BitVec.ofNat 16 (c / 65536), BitVec.ofNat 16 c]

/-- MISO U0: the status field of the view channel, or STATE with the device mode while there is none (02 R51, R58). -/
def misoStatus (s : State) : BitVec 16 :=
  if boot s then 0#16
  else match s.mb.spi.view with
    | some ch => BitVec.ofNat 16 (statusField s ch)
    | none => BitVec.ofNat 16 (stateNibble s (devMode s))

/-- What a frame drives on MISO: the frame's units, then 0x0000, as many as were clocked. -/
def miso (n : Nat) (us : List (BitVec 16)) (s : State) : State :=
  emit (.miso ((misoStatus s :: BitVec.ofNat 16 s.mb.spi.lastResult :: us ++ List.replicate n 0#16).take n)) s

/-- The units of a frame that were clocked whole. -/
def frameUnits (f : SpiFrame) : List (BitVec 16) := f.mosi.take (f.edges / 16)

/-- The view channel follows a WRITE, READ or POLL that names a channel bound to the SPI port (02 R51). -/
def takeView (ch : Nat) (s : State) : State :=
  if ch < 16 ∧ (chanCfg s ch).transport = 1 ∧ s.mb.spi.view ≠ none then
    { s with mb := { s.mb with spi := { s.mb.spi with view := some ch } } } else s

/-- What holds for every frame: no SCK edge is no frame, a port without power answers nothing, a stopped mailbox
service gives NOT_READY, a partial unit discards (02 R56, R58, 18 R458); otherwise `body` acts on its whole units. `drive` is what the
device drives after U1 while the frame is clocked (R55), which a partial unit at its end does not change. -/
def spiFrame (f : SpiFrame) (drive : List (BitVec 16) → State → List (BitVec 16)) (body : List (BitVec 16) → State → State)
    (s : State) : State :=
  if f.edges = 0 ∨ s.sup.asleep then s
  else
    let us := frameUnits f
    let h := hostFrame s
    if boot s || s.sup.sleeping then frameResult 8 (miso us.length [] h)
    else if f.edges % 16 ≠ 0 then discardFrame 2 none (miso us.length (drive us h) h)
    else body us (miso us.length (drive us h) h)

/-- A WRITE frame's units (02 Table 2-4): without a channel on the port it ends as BAD_CHANNEL (R51); else size, length, CRC and room
are judged in this order, which R55 leaves open (the model's choice, log 92). -/
def writeBody (us : List (BitVec 16)) (s : State) : State :=
  let n := (us.getD 1 0#16).toNat
  let k := 2 + (n + 1) / 2
  let ch := (us.getD 2 0#16).toNat % 256
  let who := if ch < 16 ∧ (chanCfg s ch).transport = 1 then some ch else none
  if s.mb.spi.view = none then discardFrame 9 none s
  else if us.length < 2 then discardFrame 3 none s
  else if n < 16 ∨ 4096 < n then discardFrame 5 none s
  else if us.length < k + 2 then discardFrame 3 (if us.length < 3 then none else who) s
  else if (us.drop k).take 2 ≠ crcUnits (us.take k) then discardFrame 1 none s
  else if 2 ≤ s.mb.spi.waiting.length then discardFrame 6 who s
  else
    let s := frameResult 0 (takeView ch s)
    { s with mb := { s.mb with spi := { s.mb.spi with waiting := s.mb.spi.waiting ++ [(unitBytes ((us.drop 2).take (k - 2))).take n]
                                                      later := false } } }

/-- The current reply of a SPI channel; none while its latest accepted request executes and no rejected one has followed (02 R53). -/
def currentReply (c : Chan) : Option Bytes := if c.exec.isSome && !c.rejectedSince then none else c.reply

/-- The message a READ of channel ch returns (02 R53). While a WRITE that has passed check 1 waits for checks 2 to 7 it is still the
reply before it, and the TENANT byte of a header without a reply is the channel's (the model's choices, log 118). -/
def readMsg (s : State) (ch : Nat) : Bytes :=
  if ¬ (ch < 16 ∧ (chanCfg s ch).transport = 1) then []
  else
    let c := getChan s ch
    match currentReply c with
    | some m => m
    | none =>
      let q := if c.exec.isSome then c.lastReq else (0, 0)
      replyMsg s ch (chanCfg s ch).tenant q.1 q.2 rcBusy [] (chanCfg s ch).tagreq

/-- The units that a READ drives after U1. -/
def readUnits (us : List (BitVec 16)) (s : State) : List (BitVec 16) :=
  let m := readMsg s (us.getD 1 0xFFFF#16).toNat
  let head := [misoStatus s, BitVec.ofNat 16 s.mb.spi.lastResult, 0#16, BitVec.ofNat 16 m.length] ++ packUnits m
  (head ++ crcUnits head).drop 2

/-- The end of a READ: READY falls where the whole current reply was clocked. -/
def readBody (us : List (BitVec 16)) (s : State) : State :=
  let ch := (us.getD 1 0xFFFF#16).toNat
  let s' := frameResult 0 (if us.length < 2 then s else takeView ch s)
  if readMsg s ch ≠ [] ∧ (currentReply (getChan s ch)).isSome ∧ (readUnits us s).length + 2 ≤ us.length then
    updChan ch (fun c => { c with ready := false }) s'
  else s'

/-- The READY mask (02 R54). -/
def readyMask (s : State) : Nat :=
  ((List.range 16).map (fun ch => if (chanCfg s ch).transport = 1 && (getChan s ch).ready then 2 ^ ch else 0)).sum

/-- The units that a POLL drives after U1. -/
def pollUnits (us : List (BitVec 16)) (s : State) : List (BitVec 16) :=
  let ch := (us.getD 1 0xFFFF#16).toNat
  let st := if ch < 16 then statusField s ch else 0
  let body := if s.mb.spi.view = none then [0#16, 0#16, 0#16] else [0#16, BitVec.ofNat 16 (readyMask s), BitVec.ofNat 16 st]
  body ++ [BitVec.ofNat 16 s.mb.spi.discards]

/-- The end of a POLL. -/
def pollBody (us : List (BitVec 16)) (s : State) : State :=
  frameResult 0 (if us.length < 2 then s else takeView (us.getD 1 0xFFFF#16).toNat s)

/-- A frame of the row with this opcode; a frame with another opcode is another row's. -/
def opcodeFrame (op : Nat) (f : SpiFrame) (drive : List (BitVec 16) → State → List (BitVec 16))
    (body : List (BitVec 16) → State → State) (s : State) : State :=
  if f.edges ≥ 16 ∧ ((frameUnits f).getD 0 0#16).toNat ≠ op ∧ !(boot s || s.sup.sleeping) then s else spiFrame f drive body s

/-- SPI_WRITE_FRAME. -/
def execSpiWriteFrame (f : SpiFrame) (s : State) : Host.Outcome State Fault Refusal :=
  .next (opcodeFrame 0x5A01 f (fun _ _ => []) writeBody s)

/-- SPI_READ_FRAME. -/
def execSpiReadFrame (f : SpiFrame) (s : State) : Host.Outcome State Fault Refusal :=
  .next (opcodeFrame 0x5A02 f readUnits readBody s)

/-- SPI_POLL_FRAME. -/
def execSpiPollFrame (f : SpiFrame) (s : State) : Host.Outcome State Fault Refusal :=
  .next (opcodeFrame 0x5A03 f pollUnits pollBody s)

/-- A link reset: 32 or more units, all ones (02 R57). -/
def isLinkReset (us : List (BitVec 16)) : Bool := 32 ≤ us.length && us.all (· == 0xFFFF#16)

/-- SPI_LINK_RESET. -/
def execSpiLinkReset (f : SpiFrame) (s : State) : Host.Outcome State Fault Refusal :=
  .next (spiFrame f (fun _ _ => []) (fun us s =>
    if isLinkReset us then
      let n := s.mb.spi.waiting.length
      let v := lowestSpi s
      let s := { s with mb := { s.mb with spi := { s.mb.spi with waiting := [], view := v, lastResult := 7 } } }
      gln 0x0202 3 0 n (v.getD 0) s
    else s) s)

/-- SPI_BAD_OPCODE_FRAME (02 Table 2-5, R71). -/
def execSpiBadOpcodeFrame (f : SpiFrame) (s : State) : Host.Outcome State Fault Refusal :=
  let us := frameUnits f
  .next (if 16 ≤ f.edges ∧ (isLinkReset us ∨ (us.getD 0 0#16).toNat ∈ [0x5A01, 0x5A02, 0x5A03]) then s
    else spiFrame f (fun _ _ => []) (fun _ s => discardFrame 4 none s) s)

/-! ### UDP (02 R61, R62) -/

/-- A datagram discarded in silence; one to a channel that is not bound to UDP is no channel's (the model's choice, log 92). -/
def discardUdp (ch : Option Nat) (ip port : Nat) (s : State) : State :=
  let t := match ch with | some c => (chanCfg s c).tenant | none => 0
  let s := match ch with
    | some c => updChan c (fun x => { x with discDgram := x.discDgram + 1 }) s
    | none => { s with mb := { s.mb with unknownDgram := s.mb.unknownDgram + 1 } }
  gln 0x0206 3 t ip port s

/-- A mailbox datagram through checks 2 to 7. A wrong tag is silent; it counts among the channel's BAD_TAG as well as its discarded
datagrams (the model's choice, log 93). A datagram without a whole header counts at no channel (the model's choice, log 92). -/
def checkUdp (mac ip port : Nat) (m : Bytes) (s : State) : State :=
  let ch := u8 m 1
  let cfg := chanCfg s ch
  if m.length < 16 then discardUdp none ip port s
  else if ¬ (ch < 16 ∧ cfg.transport = 2) then discardUdp none ip port s
  else if (cfg.srcIp ≠ 0 ∧ cfg.srcIp ≠ ip) ∨ !headerOk m ∨ !lengthOk m then
    discardUdp (some ch) ip port s
  else if u8 m 3 = 0 ∨ !tagOk s ch m then
    gln 0x0203 3 cfg.tenant ch (be m 4 4) (updChan ch (fun x => { x with discDgram := x.discDgram + 1, badTag := x.badTag + 1 }) s)
  else match judge ch m (hostFrame s) with
    | (.accept, s) => accept ch m (some (mac, ip, port)) s
    | (.answer rc pl, s) => udpReply mac ip port (replyMsg s ch (u8 m 2) (be m 4 4) (be m 8 2) rc pl true) s

/-- UDP_MAILBOX_DATAGRAM: before the service starts, or on a MAC that is not enabled, no datagram is received (02 R58). From the
reply to MB_SLEEP on datagrams are neither answered nor counted (the model's choice, log 120). -/
def execUdpMailboxDatagram (mac : Fin 3) (ip port : Nat) (data : Bytes) (s : State) : Host.Outcome State Fault Refusal :=
  if boot s || s.sup.sleeping || !(macOn (getMac s mac.val) && macUp s mac.val) then .next s
  else .next (checkUdp mac.val ip port data (updMac mac.val (fun m => { m with nRx := m.nRx + 1 }) s))

/-! ### End of a command -/

/-- Settings of a channel put in force: session closed, cache emptied, view channel judged (02 R43, R51). -/
def applyChanCfg (ch : Nat) (c : ChanCfg) (s : State) : State :=
  let s := if (getChan s ch).isOpen then closeSession ch 1 s else updChan ch (fun x => { x with cache := [] }) s
  let s := storeArea 5 { s with flash := { s.flash with keys := tput {} ch c s.flash.keys } }
  let v := match s.mb.spi.view with
    | some v => if (chanCfg s v).transport = 1 then some v else lowestSpi s
    | none => if c.transport = 1 then some ch else none
  { s with mb := { s.mb with spi := { s.mb.spi with view := v } } }

/-- The reply of a finished command is formed, cached and sent (02 R39, R48, R53, R61, R69); STATE is SLEEP
from the reply to MB_SLEEP on (R64); the resets that follow a reply by 100 ms are due then (16 R410, 18 R463). -/
def formReply (ch : Nat) (r : Req) (rc : Nat) (pl : Bytes) (s : State) : State :=
  let tagged := r.udp.isSome || (chanCfg s ch).tagreq
  let msg := replyMsg s ch r.tenantByte r.seq r.cmd rc pl tagged
  let cacheIt := r.cmd ≠ 0x0101
  let s := updChan ch (fun c =>
    { c with
      exec := none, result := none, started := false
      cache := if cacheIt then c.cache.map (fun e => if e.seq = r.seq ∧ e.digest = r.digest then { e with reply := some (rc, pl) } else e) else c.cache
      reply := if r.udp.isSome || c.rejectedSince then c.reply else some msg
      ready := if r.udp.isSome || c.rejectedSince then c.ready else true }) s
  let s := match r.udp with
    | some (mac, ip, port) => udpReply mac ip port msg s
    | none => s
  let s := if r.cmd = 0x0102 ∧ rc = 0 then closeSession ch 0 s else s
  let s := if r.cmd = 0x0F08 ∧ rc = 0 then { s with sup := { s.sup with sleeping := true } } else s
  let s := if r.cmd = 0x0F07 ∧ rc = 0 then { s with sup := { s.sup with resetAt := some (s.clk + 100000000, ch) } } else s
  let s := if r.cmd = 0x0E04 ∧ rc = 0 ∧ s.ovl.update then
      (if u8 r.payload 0 = 1 then { s with ovl := { s.ovl with resetAt := some (s.clk + 100000000) } }
        else { s with ovl := { s.ovl with update := false } }) else s
  match (getChan s ch).newCfg with
  | some n => applyChanCfg ch (n.on (chanCfg s ch)) (updChan ch (fun x => { x with newCfg := none }) s)
  | none => s

/-- COMMAND_EXECUTION_END: a channel whose command has run gets its reply; one without does nothing. -/
def execCommandExecutionEnd (ch : Fin 16) (s : State) : Host.Outcome State Fault Refusal :=
  let c := getChan s ch.val
  match c.exec, c.result with
  | some r, some (rc, pl) => .next (formReply ch.val r rc pl s)
  | _, _ => .next s

/-! ### Session and channel commands (02 R65 to R69) -/

def mbSessionOpen (t ch : Nat) (p : Bytes) (s : State) : MbR := do
  lenIs p 0
  let q := (Config.random32 s.free).toNat
  let w := s.silo.wdgResets != tget 0 s.silo.ackWdg ch
  let l := 2 ^ bitMODE + 2 ^ bitRED + 2 ^ bitCFG + 2 ^ bitNET + 2 ^ bitEVT +
    (if t == 0 && safeCond s then 2 ^ bitSAFE else 0) + (if w then 2 ^ bitWDG else 0)
  let s := updChan ch (fun c => { c with isOpen := true, cache := [], lastSeq := q, latch := BitVec.ofNat 16 l }) { s with free := s.free + 1 }
  reply (toBe 4 q) (gln 0x0207 3 t ch q s)

def mbSessionClose (_t _ch : Nat) (p : Bytes) (s : State) : MbR := do
  lenIs p 0
  done s

def mbNop (_t _ch : Nat) (p : Bytes) (s : State) : MbR := do
  lenIs p 0
  done s

def mbAckAttn (_t ch : Nat) (p : Bytes) (s : State) : MbR := do
  lenIs p 2
  let m := BitVec.ofNat 16 (be p 0 2)
  let s := updChan ch (fun c => { c with latch := c.latch &&& ~~~m }) s
  done (if m.getLsbD bitWDG then { s with silo := { s.silo with ackWdg := tput 0 ch s.silo.wdgResets s.silo.ackWdg } } else s)

def mbDeviceInfo (_t _ch : Nat) (p : Bytes) (s : State) : MbR := do
  lenIs p 0
  let v := s.flash.fwVersion
  reply (toBe 2 0x4816 ++ toBe 1 s.flash.variant ++ toBe 1 v.1 ++ toBe 1 v.2.1 ++ toBe 1 v.2.2 ++ toBe 4 s.ovl.hash) s

/-- The settings of channel ch that hold once a pending change applies. -/
def cfgSoon (s : State) (ch : Nat) : ChanCfg :=
  match (getChan s ch).newCfg with | some n => n.on (chanCfg s ch) | none => chanCfg s ch

/-- Some channel of T0 stays bound to SPI or UDP when channel ch takes settings c (02 R42). -/
def t0Remains (s : State) (ch : Nat) (c : ChanCfg) : Bool :=
  (List.range 16).any (fun k => let x := if k == ch then c else cfgSoon s k; x.tenant == 0 && (x.transport == 1 || x.transport == 2))

/-- New settings of a channel: at once, or after the reply where the channel carries the request (02 R43). Settings of the same kind
that wait there for a reply are older and no longer apply (00 R14). -/
def changeChan (self ch : Nat) (n : ChanNew) (s : State) : State :=
  if self = ch then updChan ch (fun x => { x with newCfg := some n }) s
  else
    let older := fun (o : ChanNew) => o.isKey == n.isKey
    applyChanCfg ch (n.on (chanCfg s ch)) (updChan ch (fun x => { x with newCfg := x.newCfg.filter (fun o => !older o) }) s)

def mbChanBind (t ch : Nat) (p : Bytes) (s : State) : MbR := do
  perm (t == 0)
  lenIs p 8
  stOk (2 < u8 p 2 || 1 < u8 p 3 || !pairRefuses s)
  let k := u8 p 0
  let n : ChanNew := .bind (u8 p 1) (u8 p 2) (bit (wd (u8 p 3)) 0) (be p 4 4)
  let c := n.on (chanCfg s k)
  par (k < 16 && u8 p 1 < 32 && u8 p 2 ≤ 2 && u8 p 3 ≤ 1)
  par (t0Remains s k c && !(c.transport == 2 && c.keyGen == 0))
  need (areaFits s 5) rcNoResource
  let s := gln 0x0209 3 c.tenant k (c.tenant * 256 + c.transport) s
  done (if c = chanCfg s k && (getChan s k).newCfg.isNone then s else changeChan ch k n s)

def mbKeySet (t ch : Nat) (p : Bytes) (s : State) : MbR := do
  perm (t == 0)
  lenIs p 38
  stOk (u8 p 1 != 0 || !pairRefuses s)
  let k := u8 p 0
  let g := be p 2 4
  par (k < 16 && u8 p 1 == 0 && (cfgSoon s k).keyGen < g)
  need (areaFits s 5) rcNoResource
  let mask := hmac (chanCfg s ch).key ([0x4B#8, 0x57#8, 0x52#8, 0x50#8, BitVec.ofNat 8 k] ++ toBe 4 g)
  done (gln 0x020A 3 (chanCfg s k).tenant k g (changeChan ch k (.key (xorBytes (p.drop 6) mask) g) s))

def mbChanStats (t _ch : Nat) (p : Bytes) (s : State) : MbR := do
  let k := u8 p 0
  perm (t == 0 || short p 1 || (k < 16 && (chanCfg s k).tenant == t))
  lenIs p 1
  par (k < 16)
  let c := getChan s k
  reply (toBe 4 c.badTag ++ toBe 4 c.seqConflict ++ toBe 4 c.seqWindow ++ toBe 4 c.discDgram ++ toBe 4 c.discFrame) s

def execMbSessionOpen (ch : Fin 16) (p : Bytes) (s : State) := runMb ch 0x0101 mbSessionOpen p s
def execMbSessionClose (ch : Fin 16) (p : Bytes) (s : State) := runMb ch 0x0102 mbSessionClose p s
def execMbNop (ch : Fin 16) (p : Bytes) (s : State) := runMb ch 0x0103 mbNop p s
def execMbAckAttn (ch : Fin 16) (p : Bytes) (s : State) := runMb ch 0x0104 mbAckAttn p s
def execMbDeviceInfo (ch : Fin 16) (p : Bytes) (s : State) := runMb ch 0x0105 mbDeviceInfo p s
def execMbChanBind (ch : Fin 16) (p : Bytes) (s : State) := runMb ch 0x0106 mbChanBind p s
def execMbKeySet (ch : Fin 16) (p : Bytes) (s : State) := runMb ch 0x0107 mbKeySet p s
def execMbChanStats (ch : Fin 16) (p : Bytes) (s : State) := runMb ch 0x0108 mbChanStats p s

end Sys2Proof.Machine
end

