-- ==== Sys2Proof/Machine/PairOps.lean ====
section
/-! DEFINITION. The hot-standby pair: the serve gate, roles and innings, heartbeat paths, takeover, conflict, divergence,
replays (15 R370 to R390), and the end of start-up that a unit in START makes up for (18 R449, R450). -/

namespace Sys2Proof.Machine

/-- A Gleaner entry of the pair: tenant T0, origin level 4 (R392). -/
def pairGln (code : Nat) (p1 p2 : Int) (s : State) : State := gln code 4 0 p1 p2 s

def updPair (f : Pair → Pair) (s : State) : State := { s with pair := f s.pair }

/-- BMAC and BPER in ms. -/
def pairBmac (s : State) : Nat := fld s.pair.cfg 44 43
def pairBper (s : State) : Nat := fld s.pair.cfg 42 40
def pairAuto (s : State) : Bool := bit s.pair.cfg 45

/-- An RSTATE that serves as a unit of a pair. -/
def serves2 (r : Nat) : Bool := r == 2 || r == 3

/-- Pair DEVTIME of an instant of this device's counter. -/
def pairTimeAt (s : State) (t : Nat) : Nat := umod 48 ((t : Int) + s.pair.ofs)

/-! ### The serve gates (R370) -/

/-- Every serve gate toggles, or stops. -/
def setGates (on : Bool) (s : State) : State :=
  { s with fio := { s.fio with die := (List.range 4).foldl (fun t d =>
      tupd {} d (fun x => { x with gateStop := if on then none else x.gateStop.or (some (absNow s)) }) t) s.fio.die } }

/-! ### The end of start-up (18 Table 18-4 step 8, R449) -/

/-- Times of the watchdog reset ring within the last 3,600 s of the present reset's. -/
def wdgRecent (s : State) : Nat :=
  let now := (s.silo.resetLog.head?.map (·.tai)).getD 0
  (s.silo.wdgRing.filter (fun t => now < t || now - t ≤ 3600)).length

/-- Device mode after start-up (R449). -/
def startMode (s : State) : Nat :=
  match fld s.sup.startCfg 47 46 with
  | 0 => 1
  | 1 => 2
  | _ => if s.aon.cause = 3 || s.aon.cause = 5 || s.aon.cause = 6 || fld s.sup.startCfg 44 37 ≤ wdgRecent s then 1 else 2

/-- Device mode set, the STOP commit of R144 for every tenant, the warm start of those that leave STOP (05 R145), MODE, Gleaner
0x0305 and 0x1101. -/
def startServing (s : State) : State :=
  let s := match (List.range 32).flatMap (stopCommit s) with
    | [] => s
    | ws => commitOnly ws s
  let m := startMode s
  let s := { s with task := { s.task with dev := m } }
  let s := ((List.range 32).filter (fun t => effMode s t == 2 || effMode s t == 3)).foldl (fun s t => warmStart false t s) s
  let s := gln 0x0305 3 0 (255 * 256 + m : Nat) 4 s
  wdgServerCheck (latchAll bitMODE <| gln 0x1101 3 0 (s.aon.cause * 256 + s.aon.detail : Nat) ((s.clk - s.sup.releasedAt) / 1000 : Nat) s)

/-! ### RSTATE (R373) -/

/-- What a standby holds of the primary's records is dropped. -/
def dropMirror (p : Pair) : Pair :=
  { p with releases := [], commits := [], ends := [], held := [], gapAt := none, cfgBad := none, ownBuf := [] }

/-- The next record expected is number 0: a primary numbers its records from 0 at the beginning of a resync and when it takes service
over (log 124). -/
def rxFresh (p : Pair) : Pair :=
  { p with rxNum := 2 ^ 32 - 1, lastUnit := 2 ^ 32 - 1, lastCommit := 2 ^ 32 - 1, rxNew := false, paged := false }

/-- Records go out from number 0 on. -/
def txFresh (p : Pair) : Pair := { p with nextRec := 0, lastUnit := 2 ^ 32 - 1, lastCommit := 2 ^ 32 - 1, unacked := [] }

/-- What a primary holds for a standby is dropped. -/
def dropSent (p : Pair) : Pair := { p with unacked := [], resync := none, finalSent := false, sentData := [] }

/-- Words that the I/O engine fills, as the own buffer begins with them (R380). -/
def ioFilled (s : State) : Tab Word :=
  s.img.word.filter (fun e =>
    let o := plotOwn s (e.1 / 64)
    ownPOS o != 0 && (ownPOS o != s.pass.ownPos || ownSRC o != 0))

/-- What a unit has under way for a service it no longer gives: samples that RATE and SUPANG triggers froze, in START, SYNCING and
DETACHED every sample, and merged releases that wait (R373, R380). -/
def serviceEnds (n : Nat) (s : State) : State :=
  { s with
    ce := { s.ce with jobs := s.ce.jobs.filter (fun j => j.task.isSome && (n == 5 || n == 7)) }
    task := { s.task with ent := s.task.ent.map (fun e => (e.1, { e.2 with due := 0 })) } }

/-- A change of RSTATE: the lines, serve gates, source 104, RED, Gleaner 0x0E01. A unit in START, SYNCING or DETACHED is
in STOP (R373), which sets MODE where it changes the mode and removes the force records (05 R150); it makes no STOP commit, disarms no
slot, stops no loop and takes no snapshot, since the other unit serves on (the model's choice, log 119). The unit's executions run
on to their own ends (03 R88). A standby holds its PTP port in the listening state (R380). -/
def setRstate (n : Nat) (s : State) : State :=
  let old := s.pair.rstate
  if old = n then s
  else
    let was := serving s
    let mode := devMode s
    let s := setLines (n != 0) (serves2 n) (updPair (fun p => { p with rstate := n }) s)
    let s := if serving s == was then s else setGates (serving s) s
    let s := if was && !serving s then serviceEnds n s else s
    let s := updPair (fun p =>
      let p := if 4 ≤ n then dropSent p else p
      let p := if n < 4 then { p with gapAt := none, rxNew := true } else p
      let p := if n = 4 || n = 5 then p else { p with ofsBack := 0 }
      if n = 4 || n = 5 || n = 7 then p else { p with ownBuf := [] }) s
    let s := if n = 1 || n = 4 || n = 6 then
        (s.task.force.map (·.1)).foldl (fun s w => forceRemove w 2 s) { s with task := { s.task with dev := 1 } } else s
    let s := if devMode s = mode then s else latchAll bitMODE s
    let s := if n = 5 then ptpListen s else s
    let s := latchAll bitRED (fire 104 s)
    pairGln 0x0E01 (old * 256 + n : Nat) s.silo.innings (wdgServerCheck s)

/-- A channel's waiting pair command is answered. -/
def pairAnswer (ch : Option Nat) (rc : Nat) (s : State) : State :=
  match ch with | some c => setResult c rc [] s | none => s

/-- Commands that wait for a handover or a resync which is not to come end with BAD_STATE. -/
def endWaits (s : State) : State :=
  let s := match s.pair.handover with | some h => pairAnswer h.ch rcBadState s | none => s
  updPair (fun p => { p with handover := none, waitCh := none }) (pairAnswer s.pair.waitCh rcBadState s)

/-- The primary goes on without a standby; a handover that waits ends. -/
def toSolo (s : State) : State := setRstate 2 (updPair dropSent (endWaits s))

/-- SYNCING: pair DEVTIME becomes the primary's (R381), the mirror starts anew, no record has come yet, and a resync is awaited
(R384). -/
def toSyncing (s : State) : State :=
  let s := setRstate 4 (updPair dropMirror s)
  updPair (fun p => { rxFresh p with
    ofs := p.heardOfs.getD p.ofs, ofsBack := 0
    ownBuf := ioFilled s, resync := some s.clk, pages := 0, retryAt := none, handover := none, swap := 0 }) s

/-- DETACHED with a cause. -/
def toDetached (cause : Nat) (s : State) : State :=
  setRstate 6 (updPair (fun p => { dropMirror p with mcause := cause, resync := none, retryAt := none, swap := 0 }) (endWaits s))

/-- START: the unit begins to look for its role; a partner's high Serve line holds it there (R375). -/
def toStart (s : State) : State :=
  let s := setRstate 1 (updPair (fun p => { dropSent (dropMirror p) with heardAt := s.clk, swap := 0 }) (endWaits s))
  if s.pair.srvLvl then pairGln 0x0E0B s.silo.innings s.pair.pinn s else s

/-! ### Innings (R374) and takeover (R385, R386) -/

def setInnings (n : Nat) (s : State) : State := { s with silo := { s.silo with innings := n } }

/-- INNINGS of the unit that takes service over. -/
def raiseInnings (s : State) : State := setInnings (Nat.max s.silo.innings s.pair.pinn + 1) s

/-- Trend channels start empty, their first samples with GAP (09 R241). -/
def trendGap (cause : Nat) (s : State) : State :=
  { s with svc := { s.svc with trd := s.svc.trd.map (fun e => (e.1, e.2.map (fun x => { x with samples := [], gap := some cause }))) } }

/-- Every number carried by SEND goes on 16 later (R386). -/
def carriedOn (s : State) : State :=
  s.pair.carried.foldl (fun s e => match e.2 with
    | none => s
    | some q =>
      if e.1 < 65536 then updRio e.1 (fun r => { r with outSeq := (q + 16) % 65536 }) s
      else
        let x := getTrdp s (e.1 - 65536)
        updMac (trdpMac x) (fun m => { m with seq := tput 0 (trdpCom x) ((q + 16) % 2 ^ 32) m.seq }) s) s

/-- Armed slots whose target the unit's own base has already reached fire at once, confirmed and SCANCNT slots among them. -/
def reachedFire (s : State) : State :=
  fireReached (fun x => (slotBase x == 4 && notBefore (baseNow s x) x.tgt.toNat) || (slotBase x == 1 && lineReached s x)) s

/-- The standby becomes primary: by silence (cause 0) or handover (cause 1); after a switch its partner is in sync at once. -/
def takeover (cause role : Nat) (s : State) : State :=
  let s := raiseInnings s
  let own := s.pair.ownBuf
  let s := setRstate role s
  let s := imgPuts own (updPair (fun p => { txFresh p with ownBuf := [], commits := [], ends := [], handover := none, swap := 0, retryAt := none, resync := none }) s)
  let s := (liveTasks s).foldl (fun s k => match taskEx s k with
    | some e => setEx k (some { e with replay := false }) s
    | none => s) s
  let s := trendGap 1 (carriedOn s)
  let s := pairGln 0x0E03 s.silo.innings cause
    (updPair (fun p => { p with takeovers := p.takeovers + 1, takeoverAt := devtime s }) s)
  reachedFire s

/-- Both heartbeat paths are silent (R374, R378); a primary that held releases for a partner in the swap goes on. -/
def bothSilent (s : State) : State :=
  let s := if s.pair.pRstate = 5 then updPair (fun p => { p with pinn := p.pinn + 1 }) s else s
  if s.pair.rstate = 5 then takeover 0 2 s
  else if s.pair.rstate = 3 then pairGln 0x0E04 s.pair.pRstate s.pair.pinn (toSolo s)
  else if s.pair.rstate = 2 then updPair (fun p => { p with handover := none }) s
  else s

/-- Both units serve: the lower innings yields, on equal values unit B (R376). -/
def conflict (s : State) : State :=
  if !serves2 s.pair.rstate then s
  else
    let s := fire 110 s
    let i := s.silo.innings
    if i < s.pair.pinn || (i == s.pair.pinn && s.pair.unitB) then
      toStart (pairGln 0x0E08 (i * 2 + 1 : Nat) s.pair.pinn s)
    else pairGln 0x0E08 (i * 2 : Nat) s.pair.pinn s

/-- Innings that reach the unit through an ADVERT (path 0) or a beacon (path 1) (R376). -/
def inningsHeard (path innings rstate : Nat) (s : State) : State :=
  let s := updPair (fun p => { p with pinn := innings, pRstate := rstate }) s
  let s := pairGln 0x0E09 innings path (fire 111 s)
  if serves2 rstate then conflict s else s

/-! ### Versions (R388) -/

/-- The comparison of configuration hashes waits for a store in progress, for up to 10 s (16 R404). -/
def hashWaits (s : State) : Bool := match s.pair.cfgBad with | some t => decide (s.clk < t + 10000000000) | none => false

/-- Mismatch of the partner as its last volley reports it, with the differing value (Table 15-5). -/
def pairMismatch (s : State) : Nat × Nat :=
  let p := s.pair
  if p.pFw ≠ s.flash.fwVersion then (1, p.pFw.1 * 65536 + p.pFw.2.1 * 256 + p.pFw.2.2)
  else if p.pProg ≠ s.prog.hash then (2, p.pProg)
  else if p.pCfg ≠ s.ovl.hash && !hashWaits s then (3, p.pCfg)
  else if p.pUnitB == p.unitB then (4, b2n p.pUnitB)
  else if passOn s && p.pPos ≠ s.pass.ownPos then (5, p.pPos)
  else (0, 0)

/-- A mismatch that detached the unit still holds. -/
def causeHolds (s : State) : Bool :=
  let p := s.pair
  match p.mcause with
  | 1 => p.pFw ≠ s.flash.fwVersion
  | 2 => p.pProg ≠ s.prog.hash
  | 3 => p.pCfg ≠ s.ovl.hash
  | 4 => p.pUnitB == p.unitB
  | 5 => passOn s && p.pPos ≠ s.pass.ownPos
  | _ => false

/-- The unit refuses its partner. -/
def mismatched (c : Nat × Nat) (s : State) : State := pairGln 0x0E06 c.1 c.2 (toDetached c.1 (fire 108 s))

/-! ### Divergence (R383) -/

/-- The standby leaves sync: source 107 and SYNCING or DETACHED. -/
def leaveSync (s : State) : State :=
  let s := fire 107 s
  if pairAuto s then toSyncing s else toDetached 0 s

/-- An output divergence: task, kind, the primary's check value and the standby's. -/
def diverge (k kind theirs ours : Nat) (s : State) : State :=
  let s := pairGln 0x0E05 (k * 256 + kind : Nat) (theirs * 65536 + ours % 65536 : Nat) s
  leaveSync (updPair (fun p => { p with divergences := p.divergences + 1 }) s)

/-- Kind of a divergence by the trap causes on the two sides. -/
def divergeKind (a b : Nat) : Nat := if a = b then 0 else if a = 0xFF || b = 0xFF then 2 else 1

/-- Ends without commit of replays compared with the COMMIT records that have come first for them, in the order of the records. -/
def settleEnds : Nat → State → State
  | 0, s => s
  | n + 1, s =>
    match s.pair.commits with
    | [] => s
    | c :: cs =>
      match s.pair.ends.find? (fun e => e.1 == c.task) with
      | none => s
      | some e =>
        if e.2.1 = c.check && e.2.2 = c.cause then
          settleEnds n (updPair (fun p => { p with commits := cs, lastCommit := c.num, ends := p.ends.filter (fun x => x.1 != c.task) }) s)
        else diverge c.task (divergeKind c.cause e.2.2) c.check e.2.1 s

def settle (s : State) : State := if s.pair.rstate = 5 then settleEnds s.pair.commits.length s else s

/-! ### Replays (R380) -/

/-- a has reached b among record numbers. -/
def numReached (a b : Nat) : Bool := (a + 2 ^ 32 - b) % 2 ^ 32 < 2 ^ 31

/-- A release record's replay: as a release, with SEG7 and the quality block of the record. -/
def replayRelease (r : PairRel) (s : State) : State :=
  let k := r.task
  let s := applyNextEntry k s
  let s := if taskKind (taskEnt s k) = 2 then takeSource (fld (taskEnt s k).par 8 0) s else s
  let s := updTask k (fun e => { e with scancnt := e.scancnt + 1#48, lastRel := some s.clk }) s
  let s := { s with core := { s.core with data := wputs (dsKey 6 k 0) r.quals s.core.data } }
  let e := { newEx s k with seg7 := r.seg7, replay := s.pair.rstate == 5
                            quals := (r.quals.zip (List.range r.quals.length)).foldl (fun t x => wput x.2 x.1 t) [] }
  dispatch (setEx k (some e) s)

end Sys2Proof.Machine
end

