-- ==== Sys2Proof/Machine/EthRows.lean ====
section
/-! DEFINITION. Ethernet, TRDP process data and PTP: reception, timers and commands (13). -/

namespace Sys2Proof.Machine

/-! ### PTP port (R336, R337) -/

/-- EUI-64 of a MAC address. -/
def eui64 (mac : Nat) : Nat := mac / 2 ^ 24 * 2 ^ 40 + 0xFFFE * 2 ^ 24 + mac % 2 ^ 24

/-- This clock as it announces itself (R336). -/
def ptpOwn (s : State) : PtpMaster :=
  { prio1 := fld s.eth.ptp.cfg 31 24, cls := 248, accuracy := 0xFE, variance := 0xFFFF, prio2 := fld s.eth.ptp.cfg 23 16
    identity := eui64 (getMac s (ptpMac s)).mac.toNat }

/-- One clock is better than another by the best master clock algorithm. -/
def ptpBetter (a b : PtpMaster) : Bool :=
  let key := fun (m : PtpMaster) => [m.prio1, m.cls, m.accuracy, m.variance, m.prio2, m.identity]
  match ((key a).zip (key b)).find? (fun e => e.1 != e.2) with
  | some e => decide (e.1 < e.2)
  | none => false

/-- Length of an interval given by its signed 4-bit logarithm, in ns. -/
def logNs (l : Nat) : Nat :=
  let k := sgn 4 l
  if 0 ≤ k then 1000000000 * 2 ^ k.toNat else 1000000000 / 2 ^ (-k).toNat

/-- An Announce of another clock, judged by the best master clock algorithm against this clock and the master it follows. -/
def ptpAnnounce (m : PtpMaster) (s : State) : State :=
  let own := ptpOwn s
  let p := s.eth.ptp
  let follows := match p.master with | some b => b.identity != m.identity && ptpBetter b own | none => false
  if m.identity = own.identity || p.state = 1 || p.state = 3 || s.pair.rstate = 5 then s
  else if ptpBetter m own then
    if ptpRole s = 2 then setPtpState 6 s
    else match p.master with
      | none => setPtpState 8 (updPtp (fun p => { p with master := some m, delay := none, syncT := none }) s)
      | some b =>
        if b.identity = m.identity then updPtp (fun p => { p with master := some m, heardAnn := s.clk }) s
        else if ptpBetter m b then setPtpState 8 (updPtp (fun p => { p with master := some m, delay := none, syncT := none }) s)
        else s
  else if ptpRole s = 1 || follows then s
  else setPtpState 6 (updPtp (fun p => { p with master := none }) s)

/-- The servo's ρ for an offset o with the sum of the offsets before it (R337): a proportional-integral law, whose integral part has
the time constant of 8 sync intervals; its gain is free (log 111). -/
def ptpServo (s : State) (o : Int) : Int :=
  Int.neg (((8 * o + (s.eth.ptp.integ + o)) * Config.ptpKp (logNs (fld s.eth.ptp.cfg 15 12))).fdiv (8 * 2 ^ 32))

/-- A Sync with its Follow_Up in state SLAVE: offset, step or slew, WALL_PTP (R337); a step writes the RTC (17 R437). -/
def ptpOffset (t1 t2 d : Int) (s : State) : State :=
  let o := t2 - t1 - d
  let good := if o.natAbs ≤ 1000 then s.eth.ptp.good + 1 else 0
  let bad := if 10000 < o.natAbs then s.eth.ptp.bad + 1 else 0
  let s := updPtp (fun p => { p with offset := o, good, bad }) s
  let s := if 1000000 ≤ o.natAbs then rtcWrite (wallStep (wallNs s - o) 0 s)
    else updPtp (fun p => { p with integ := p.integ + o }) (setRho (ptpServo s o) s)
  if 16 ≤ good then setWallPtp true s else if 4 ≤ bad then setWallPtp false s else s

/-- PTP_LAT: ingress and egress latency of the PHY (R336). -/
def ptpIngress (s : State) : Int := (fld s.eth.ptp.lat 47 32 : Nat)
def ptpEgress (s : State) : Int := (fld s.eth.ptp.lat 31 16 : Nat)

/-- The stamp of an event message that leaves now: wall time, corrected by the egress latency. -/
def ptpSentAt (s : State) : Int := wallNs s + ptpEgress s

/-- Peer-to-peer delay measurement. -/
def ptpP2p (s : State) : Bool := bit s.eth.ptp.cfg 44

/-- A PTP message leaves by the transport that L2 selects, to the group of its kind (R336; the addresses are those of
IEEE 1588-2019, PRESUMED, log 110). -/
def ptpSend (m : PtpMsg) (s : State) : State :=
  let peer := match m with | .pdelayReq _ _ _ | .pdelayResp _ _ _ _ _ => true | _ => false
  let l2 := bit s.eth.ptp.cfg 41
  let ip := if peer then 0xE000006B else 0xE0000181
  let hw := if l2 then (if peer then 0x0180C200000E else 0x011B19000000) else groupHw ip
  ethEmit (ptpMac s) hw (if l2 then 0 else ip) (.ptp l2 m) s

/-- The clock that this one follows. -/
def ptpFollows (src : Nat) (s : State) : Bool :=
  (s.eth.ptp.state == 8 || s.eth.ptp.state == 9) && s.eth.ptp.master.any (fun m => m.identity == src)

/-- A PTP message of this clock's domain (R336, R337): only the master followed is obeyed. -/
def ptpTake (m : PtpMsg) (s : State) : State :=
  let st := s.eth.ptp.state
  let me := (ptpOwn s).identity
  match m with
  | .malformed => s
  | .announce _ a _ _ _ => ptpAnnounce a s
  | .sync _ src t1 t =>
    if ptpFollows src s then
      let t2 := t - ptpIngress s
      let s := updPtp (fun p => { p with lastSync := s.clk, syncT := some (t1, t2) }) (setPtpState 9 s)
      match s.eth.ptp.delay with
      | some v => ptpOffset t1 t2 v s
      | none => s
    else s
  | .delayReq d port t => if st == 6 && !ptpP2p s then ptpSend (.delayResp d me port (t - ptpIngress s)) s else s
  | .delayResp _ src port t4 =>
    match s.eth.ptp.syncT, s.eth.ptp.reqAt with
    | some (t1, t2), some t3 =>
      if ptpFollows src s && !ptpP2p s && port == me then updPtp (fun p => { p with delay := some (((t2 - t1) + (t4 - t3)).tdiv 2), reqAt := none }) s
      else s
    | _, _ => s
  | .pdelayReq d port t =>
    if ptpP2p s && st != 3 && st != 1 && s.pair.rstate != 5 then ptpSend (.pdelayResp d port (t - ptpIngress s) (ptpSentAt s) 0) s else s
  | .pdelayResp _ port t2 t3 t =>
    match s.eth.ptp.reqAt with
    | some t1 =>
      if ptpP2p s && port == me then
        updPtp (fun p => { p with delay := some (((t - ptpIngress s - t1) - (t3 - t2)).tdiv 2), reqAt := none }) s
      else s
    | none => s

/-- domainNumber of a message. -/
def msgDomain : PtpMsg → Option Nat
  | .sync d _ _ _ | .delayReq d _ _ | .delayResp d _ _ _ | .pdelayReq d _ _ | .pdelayResp d _ _ _ _ | .announce d _ _ _ _ => some d
  | .malformed => none

/-- A PTP message that reaches MAC n: one of another domain or transport, or malformed, is ignored (Table 13-4), and any
while the port is held in the listening state (15 R380). -/
def ptpReceive (n : Nat) (l2 : Bool) (m : PtpMsg) (s : State) : State :=
  if ptpOn s && s.pair.rstate != 5 && ptpMac s == n && l2 == bit s.eth.ptp.cfg 41 && msgDomain m == some (ptpDomain s) then ptpTake m s else s

/-- PTP_SYNC_TIMEOUT (R337): no Sync for 4 sync intervals. -/
def execPtpSyncTimeout (s : State) : Host.Outcome State Fault Refusal :=
  .next (if s.eth.ptp.state == 9 && decide (s.eth.ptp.lastSync + 4 * logNs (fld s.eth.ptp.cfg 15 12) ≤ s.clk) then
    setWallPtp false s else s)

/-- An interval given by its logarithm has passed since an instant. -/
def ptpDue (at_ : Option Nat) (log : Nat) (s : State) : Bool := match at_ with | some t => decide (t + logNs log ≤ s.clk) | none => true

/-- A timer of the ordinary clock acts now: each at the interval that PTP_CFG gives; Announces are missed after 3 intervals
(announceReceiptTimeout of IEEE 1588-2019, PRESUMED, log 110). -/
def ptpTimerDue (k : PtpTimer) (s : State) : Bool :=
  let st := s.eth.ptp.state
  ptpOn s && macLive (getMac s (ptpMac s)) && s.pair.rstate != 5 && (match k with
    | .syncSend => st == 6 && ptpDue s.eth.ptp.sentSync (fld s.eth.ptp.cfg 15 12) s
    | .announceSend => st == 6 && ptpDue s.eth.ptp.sentAnn (fld s.eth.ptp.cfg 11 8) s
    | .delayReq => ptpDue s.eth.ptp.sentReq (fld s.eth.ptp.cfg 7 4) s && (ptpP2p s || st == 8 || st == 9)
    | .announceTimeout => (st == 4 || st == 7 || st == 8 || st == 9) && decide (s.eth.ptp.heardAnn + 3 * logNs (fld s.eth.ptp.cfg 11 8) ≤ s.clk))

/-- What a timer of the ordinary clock does (R336). -/
def ptpTimer (k : PtpTimer) (s : State) : State :=
  let d := ptpDomain s
  let me := (ptpOwn s).identity
  match k with
  | .syncSend => ptpSend (.sync d me (ptpSentAt s) 0) (updPtp (fun p => { p with sentSync := some s.clk }) s)
  | .announceSend => ptpSend (.announce d (ptpOwn s) 0xA0 s.silo.utcOffset true) (updPtp (fun p => { p with sentAnn := some s.clk }) s)
  | .delayReq =>
    ptpSend (if ptpP2p s then .pdelayReq d me 0 else .delayReq d me 0) (updPtp (fun p => { p with reqAt := some (ptpSentAt s), sentReq := some s.clk }) s)
  | .announceTimeout =>
    setPtpState (if ptpRole s = 1 then 4 else 6) (updPtp (fun p => { p with master := none, delay := none, syncT := none }) s)

/-- ETH_LINK_CHANGE (R325). -/
def execEthLinkChange (mac : Fin 3) (up : Bool) (mbps : Nat) (s : State) : Host.Outcome State Fault Refusal :=
  let n := mac.val
  let m := getMac s n
  if m.up == up && m.mbps == mbps then .next s
  else
    let held := (m.wait.map (fun e => match e.2 with | some w => w.frames.length | none => 0)).sum
    let s := updMac n (fun m => { m with up, mbps, wait := if up then m.wait else [], nDisc := if up then m.nDisc else m.nDisc + held }) s
    let s := gln 0x0C01 3 0 (n * 2 + b2n up : Nat) mbps (latchAll bitNET (fire (ethSrc n 2) s))
    let s := if up && macOn m then gratuitous n s else s
    .next (if ptpOn s && ptpMac s == n then setPtpState (if up then 4 else 1) (updPtp (fun p => { p with master := none, delay := none }) s) else s)

/-- An answer confirms an address: the cache takes it, at 64 entries in place of the oldest, and held frames leave (R328). -/
def arpLearn (n ip mac : Nat) (s : State) : State :=
  let m := getMac s n
  match tget none m.wait ip with
  | none => if (tget none m.arp ip).isSome then updMac n (fun m => { m with arp := tput none ip (some ⟨mac, s.clk⟩) m.arp }) s else s
  | some w =>
    let old := m.arp.foldl (fun (o : Option (Nat × Nat)) e => match e.2 with
      | some a => (match o with | some (_, t) => if a.at_ < t then some (e.1, a.at_) else o | none => some (e.1, a.at_))
      | none => o) none
    let arp := match old with
      | some (k, _) => if 64 ≤ m.arp.length then tput none k none m.arp else m.arp
      | none => m.arp
    let s := updMac n (fun m => { m with arp := tput none ip (some ⟨mac, s.clk⟩) arp, wait := tput none ip none m.wait }) s
    w.frames.foldl (fun s f => ethEmit n mac f.1 f.2 s) s

/-- A station that claims the MAC's address (R328). -/
def arpClaim (n claimant : Nat) (s : State) : State := gratuitous n (gln 0x0C03 3 0 n claimant s)

/-- ARP_RETRY (R328). -/
def execArpRetry (mac : Fin 3) (ip : Nat) (s : State) : Host.Outcome State Fault Refusal :=
  let n := mac.val
  match tget none (getMac s n).wait ip with
  | none => .next s
  | some w =>
    if s.clk < w.firstAt + w.sent * 100000000 then .next s
    else if w.sent < 3 then
      .next (ethEmit n broadcastHw ip (arpReq (getMac s n) ip)
        (updMac n (fun m => { m with wait := tput none ip (some { w with sent := w.sent + 1 }) m.wait }) s))
    else
      .next (gln 0x0C0A 3 0 n ip (updMac n (fun m => { m with
        wait := tput none ip none m.wait, nArp := m.nArp + 1, nDisc := m.nDisc + w.frames.length }) s))

/-- ARP_ENTRY_AGE (R328). -/
def execArpEntryAge (mac : Fin 3) (ip : Nat) (s : State) : Host.Outcome State Fault Refusal :=
  let n := mac.val
  match tget none (getMac s n).arp ip with
  | some a => .next (if a.at_ + 300000000000 ≤ s.clk then updMac n (fun m => { m with arp := tput none ip none m.arp }) s else s)
  | none => .next s

/-! ### TRDP (R330, R331, R334) -/

/-- A telegram refused with a cause of 0x0C05. -/
def trdpRefuse (n cause comId tenant : Nat) (s : State) : State := gln 0x0C05 3 tenant (n * 256 + cause : Nat) comId (ethDiscard n s)

/-- The module, and the subscription, that take telegrams of a comId on a MAC. -/
def trdpModule (s : State) (n comId : Nat) : Option Nat :=
  (s.img.rio.find? (fun e => rioUsed e.2 && rioBus e.2 == n + 4 && fld e.2.tmo 47 16 == comId)).map (·.1)
def trdpSub (s : State) (n comId : Nat) : Option Nat :=
  (s.eth.trdp.find? (fun e => trdpUsed e.2 && !trdpPub e.2 && trdpMac e.2 == n && trdpCom e.2 == comId)).map (·.1)

/-- R177 would accept a set of this sequence number. -/
def setAccepts (r : Rio) (seq : Nat) : Bool :=
  r.active && (r.timedOut || match r.lastSeq with
    | none => true
    | some l => let d := (seq + 65536 - l) % 65536; 1 ≤ d && d ≤ 32767)

/-- An input telegram of module m (R331). -/
def moduleTelegram (n m : Nat) (t : Telegram) (s : State) : State :=
  let r := getRio s m
  let w := (rioIN r).2
  let seq := be t.data 0 2
  if fld r.ip 47 16 ≠ 0 && fld r.ip 47 16 ≠ t.srcIp then
    ethDiscard n (updRio m (fun r => { r with discarded := r.discarded + 1 }) s)
  else if t.dsLen ≠ 4 + 6 * w || u8 t.data 3 ≠ 0 then ethDiscard n (remoteMalformed m seq s)
  else if setAccepts r seq then
    remoteSet m seq (u8 t.data 2) (frameWords t.data w) (updRio m (fun r => { r with lastSrc := some t.srcIp }) s)
  else ethDiscard n (remoteSet m seq (u8 t.data 2) (frameWords t.data w) s)

/-- A telegram of subscription k (R334). -/
def subTelegram (n k : Nat) (t : Telegram) (s : State) : State :=
  let e := getTrdp s k
  let refuse := fun (cause : Nat) => trdpRefuse n cause t.comId (trdpTenant e) (updTrdp k (fun e => { e with nDisc := e.nDisc + 1 }) s)
  let d := match e.last with | some l => (t.seq + 2 ^ 32 - l) % 2 ^ 32 | none => 1
  if !e.active then ethDiscard n (updTrdp k (fun e => { e with nDisc := e.nDisc + 1 }) s)
  else if t.dsLen ≠ 6 * trdpCount e then refuse 1
  else if fld e.src 47 16 ≠ 0 && fld e.src 47 16 ≠ t.srcIp then refuse 2
  else if !e.timedOut && !(1 ≤ d && d ≤ 0x7FFFFFFF) then refuse 3
  else
    let ws := (span (trdpWord e) (trdpCount e)).zip ((items t.data 0 6 (trdpCount e)).map (fun b => beW b 0))
    let s := updTrdp k (fun e => { e with last := some t.seq, timedOut := false, substituted := false, lastAt := s.clk, nOk := e.nOk + 1 }) s
    let s := unitUpdate (trdpUnit k) false ws s
    let s := if e.timedOut then gln 0x0C07 3 (trdpTenant e) k t.seq s else s
    if bit e.pd 38 then fire (ethSrc n 0) s else s

/-- A TRDP telegram (R330). -/
def trdpReceive (n : Nat) (t : Telegram) (s : State) : State :=
  let topo := fun (a b : Nat) => a == 0 || b == 0 || a == b
  let tenant := match trdpModule s n t.comId, trdpSub s n t.comId with
    | some m, _ => rioTenant (getRio s m)
    | none, some k => trdpTenant (getTrdp s k)
    | none, none => 0
  if t.headerFcs ≠ trdpFcs t || t.version.toNat / 256 ≠ 1 || t.msgType.toNat ≠ 0x5064 || !topo t.etbTopo s.eth.etb || !topo t.opTopo s.eth.opTrn then
    trdpRefuse n 0 t.comId tenant s
  else if t.payloadLen < 40 + t.dsLen || 43 + t.dsLen < t.payloadLen then trdpRefuse n 1 t.comId tenant s
  else match trdpModule s n t.comId, trdpSub s n t.comId with
    | some m, _ => moduleTelegram n m t s
    | none, some k => subTelegram n k t s
    | none, none => ethDiscard n s

/-- A group that a subscription of the MAC names: the static filter of multicast reception (R324). -/
def groupOn (s : State) (n ip : Nat) : Bool :=
  isMulticast ip && s.eth.trdp.any (fun e => trdpUsed e.2 && !trdpPub e.2 && trdpMac e.2 == n && fld e.2.ip 47 16 == ip)

/-- A telegram that reaches MAC n: one to another address is discarded (R324, Table 13-4). -/
def trdpArrive (n : Nat) (t : Telegram) (s : State) : State :=
  if t.dst = macIp (getMac s n) || groupOn s n t.dst then trdpReceive n t s else ethDiscard n s

/-- TRDP_TELEGRAM_RECEIVED. -/
def execTrdpTelegramReceived (mac : Fin 3) (t : Telegram) (s : State) : Host.Outcome State Fault Refusal :=
  let n := mac.val
  .next (if macLive (getMac s n) then trdpArrive n t (updMac n (fun m => { m with nRx := m.nRx + 1 }) s) else s)

/-- The pair time is an instant of a publication's grid (R333, R335). -/
def pubInstant (s : State) (e : Trdp) : Bool :=
  match s.task.gridA with
  | none => false
  | some a => (match e.nextAt with | some t => decide ((t : Int) ≤ ptime s) | none => true) &&
      trdpNs e != 0 && (ptime s - (a : Int)).emod (trdpNs e) == 0

/-- TRDP_PUBLISH (R333). A telegram that is discarded does not count as sent, and one that waits for its next hop counts when it
leaves (R325, R328, R340). -/
def execTrdpPublish (k : Fin 256) (s : State) : Host.Outcome State Fault Refusal :=
  let n := k.val
  let e := getTrdp s n
  let t := trdpTenant e
  if !(trdpUsed e && trdpPub e && e.active && serving s && pubInstant s e && (e.lastAt != s.clk || e.nOk == 0)) then .next s
  else
    let ws := span (trdpWord e) (trdpCount e)
    let mac := trdpMac e
    if !ws.all (mayRead s t) then
      .next (if e.withheld then s else gln 0x0C05 3 t (mac * 256 + 4 : Nat) (trdpCom e) (updTrdp n (fun e => { e with withheld := true }) s))
    else
      let s := updTrdp n (fun e => { e with withheld := false, lastAt := s.clk }) s
      .next (trdpSend mac (trdpCom e) (fld e.ip 47 16) (ws.flatMap (fun w => wB (imgWord s w))) s)

/-- TRDP_SUB_TIMEOUT (R334). -/
def execTrdpSubTimeout (k : Fin 256) (s : State) : Host.Outcome State Fault Refusal :=
  let n := k.val
  let e := getTrdp s n
  if trdpUsed e && !trdpPub e && e.active && !e.timedOut && decide (e.lastAt + trdpNs e ≤ s.clk) then
    let ws := (span (trdpWord e) (trdpCount e)).map (fun w => (w, if fld e.pd 37 36 = 0 then ioWord s w else 0#48))
    let s := updTrdp n (fun e => { e with timedOut := true, substituted := true, nTmo := e.nTmo + 1 }) s
    .next (gln 0x0C06 3 (trdpTenant e) n (trdpCom e) (unitUpdate (trdpUnit n) true ws s))
  else .next s

/-! ### Received frames (R327 to R329, R338) -/

/-- A reassembly ends without its datagram. -/
def reasmDrop (n : Nat) (src ident : Nat) (s : State) : State :=
  gln 0x0C09 3 0 n src (updMac n (fun m => { m with
    reasm := m.reasm.filter (fun r => !(r.src == src && r.ident == ident)), nReasm := m.nReasm + 1 }) s)

/-- Two fragments overlap. -/
def fragOverlap (a b : Fragment) : Bool := decide (a.offset < b.offset + b.data.length ∧ b.offset < a.offset + a.data.length)

/-- The whole payload once the fragments cover it. -/
def reasmWhole (ps : List Fragment) : Option Bytes :=
  let l := sortBy (fun (a b : Fragment) => a.offset ≤ b.offset) ps
  let d := l.foldl (fun (o : Option Bytes) f => o.bind (fun x => if x.length = f.offset then some (x ++ f.data) else none)) (some [])
  match l.getLast? with
  | some f => if f.more then none else d
  | none => none

/-- A fragment (R329): kept only for a datagram whose first fragment is addressed to MBX_PORT. -/
def fragReceive (n : Nat) (f : Fragment) (s : State) : State :=
  let m := getMac s n
  if f.dst ≠ macIp m then ethDiscard n s
  else match m.reasm.find? (fun r => r.src == f.src && r.ident == f.ident) with
    | none =>
      if f.offset ≠ 0 || f.dport ≠ s.eth.port then ethDiscard n s
      else if 4 ≤ m.reasm.length then reasmDrop n f.src f.ident s
      else updMac n (fun m => { m with reasm := m.reasm ++ [⟨f.src, f.ident, s.clk, [f]⟩] }) s
    | some r =>
      if r.parts.any (fragOverlap f) || 4096 < f.offset + f.data.length then reasmDrop n f.src f.ident s
      else
        let parts := r.parts ++ [f]
        let rest := m.reasm.filter (fun x => !(x.src == f.src && x.ident == f.ident))
        match reasmWhole parts with
        | none => updMac n (fun m => { m with reasm := rest ++ [{ r with parts }] }) s
        | some d =>
          let sport := ((parts.find? (fun x => x.offset == 0)).map (·.sport)).getD 0
          let s := updMac n (fun m => { m with reasm := rest }) s
          if boot s || s.sup.sleeping then s else checkUdp n f.src sport d s

/-- REASSEMBLY_TIMEOUT (R329). -/
def execReassemblyTimeout (mac : Fin 3) (src ident : Nat) (s : State) : Host.Outcome State Fault Refusal :=
  let n := mac.val
  match (getMac s n).reasm.find? (fun r => r.src == src && r.ident == ident) with
  | some r => .next (if r.firstAt + 100000000 ≤ s.clk then reasmDrop n src ident s else s)
  | none => .next s

/-- An ICMP echo request (R328). -/
def echoReceive (n src dst : Nat) (data : Bytes) (s : State) : State :=
  let m := getMac s n
  if dst ≠ macIp m || 1472 < data.length then ethDiscard n s
  else
    let fresh := m.echoes == 0 || decide (m.echoAt + 1000000000 ≤ s.clk)
    if !fresh && 64 ≤ m.echoes then ethDiscard n s
    else
      let s := updMac n (fun m => { m with echoAt := if fresh then s.clk else m.echoAt, echoes := if fresh then 1 else m.echoes + 1 }) s
      ethSend n src (.icmpEcho (macIp m) src data) s

/-- A frame's VLAN tag is one the MAC accepts (R327). -/
def vlanOk (m : EthMac) (v : Option (Nat × Nat)) : Bool :=
  match v with
  | none => macVid m == 0
  | some (i, _) => i == 0 || (macVid m != 0 && i == macVid m)

/-- A PTP message comes in (R327, R336, R337). -/
def ptpIn (r : PtpRx) (s : State) : State :=
  let n := ptpMac s
  let k := bodyFrames (.ptp r.l2 r.msg)
  let s := updMac n (fun m => { m with nRx := m.nRx + k }) s
  if !r.fcsOk || !vlanOk (getMac s n) r.vlan then updMac n (fun m => { m with nDisc := m.nDisc + k }) s
  else ptpReceive n r.l2 r.msg s

/-- Content that travels in IPv4. -/
def isIp : EthBody → Bool
  | .icmpEcho _ _ _ | .icmpOther | .udp _ | .trdp _ | .fragment _ | .ptp false _ | .tcp | .igmp => true
  | _ => false

/-- A frame that a MAC which is on and up takes in (R327 to R330, Table 13-4). -/
def ethIn (n : Nat) (f : EthFrame) (s : State) : State :=
  let m := getMac s n
  let s := updMac n (fun m => { m with nRx := m.nRx + bodyFrames f.body }) s
  let own := macIp m
  if !f.fcsOk || f.len < 64 || (if f.vlan.isSome then 1522 else 1518) < f.len || !vlanOk m f.vlan || (isIp f.body && !f.ipOk) then ethDiscard n s
  else match f.body with
    | .arpRequest hw ip target =>
      if ip = own && hw ≠ m.mac.toNat then arpClaim n hw s
      else if target = own then ethEmit n hw ip (.arpReply m.mac.toNat own ip) s
      else s
    | .arpReply hw ip _ => if ip = own && hw ≠ m.mac.toNat then arpClaim n hw s else arpLearn n ip hw s
    | .icmpEcho src dst d => echoReceive n src dst d s
    | .icmpOther => s
    | .udp d =>
      if d.dst ≠ own || d.dport ≠ s.eth.port then ethDiscard n s
      else if boot s || s.sup.sleeping then s else checkUdp n d.src d.sport d.data s
    | .trdp t => trdpArrive n t s
    | .ptp l2 m => ptpReceive n l2 m s
    | .fragment g => fragReceive n g s
    | .tcp | .ipv6 | .igmp | .passFrame | .other => ethDiscard n s

/-! ### Commands (R326, R332, R335, R336, R340) -/

/-- MB_ETH_SET (R340). At the basic level ETH_MAC is the value that stands before any command (the model's choice, log 116). -/
def mbEthSet (t _ch : Nat) (p : Bytes) (s : State) : MbR := do
  perm (t == 0)
  formLen p 1 [(0, 10), (1, 26)]
  stSel (levelOk p 1 && (u8 p 1 == 1 || (u8 p 2 ≤ 1 && u8 p 3 ≤ 1))) s true
  let n := u8 p 0
  par (n < 3 && levelOk p 1)
  let put := fun (cfg mac ip gw : Word) (pre : Nat) => do
    par (8 ≤ pre && pre ≤ 30)
    done (gln 0x0C02 3 0 n cfg.toNat (updMac n (fun m => { m with cfg, mac, ip, gw }) s))
  if u8 p 1 = 0 then
    par (u8 p 2 ≤ 1 && u8 p 3 ≤ 1 && u8 p 4 ≤ 31)
    let cfg := wd (u8 p 2 * 2 ^ 47 + u8 p 3 * 2 ^ 46 + u8 p 4 * 2 ^ 37 + 5 * 2 ^ 22 + 7 * 2 ^ 19)
    put cfg ({} : EthMac).mac (wd (be p 5 4 * 2 ^ 16 + u8 p 9 * 2 ^ 10)) 0#48 (u8 p 9)
  else
    let cfg := setBit (beW p 2 &&& 0xFFFFFFFF0000#48) 45 true
    par (fld cfg 36 25 != 4095)
    let ip := beW p 14 &&& 0xFFFFFFFFFC00#48
    put cfg (beW p 8) ip (beW p 20 &&& 0xFFFFFFFF0000#48) (fld ip 15 10)

def mbEthPortSet (t _ch : Nat) (p : Bytes) (s : State) : MbR := do
  perm (t == 0)
  lenIs p 2
  stChg s true
  par (be p 0 2 != 0)
  done { s with eth := { s.eth with port := be p 0 2 } }

def mbEthStat (_t _ch : Nat) (p : Bytes) (s : State) : MbR := do
  lenIs p 1
  par (u8 p 0 < 3)
  let m := getMac s (u8 p 0)
  reply (wB m.cfg ++ wB m.mac ++ wB m.ip ++ bB m.up ++ toBe 4 m.nRx ++ toBe 4 m.nTx ++ toBe 4 m.nDisc ++ toBe 4 m.nArp ++ toBe 4 m.nReasm) s

/-- The block of an entry lies where R332 wants it. -/
def trdpBlockOk (s : State) (k : Nat) (e : Trdp) : Bool :=
  let (a, n) := (trdpWord e, trdpCount e)
  let t := trdpTenant e
  a / 64 == (a + n - 1) / 64 && (span a n).all (fun w =>
    if trdpPub e then mayRead s t w else inPlot s 2 t w) &&
    (trdpPub e ||
      (s.img.rio.all (fun r => !overlap a n (rioIN r.2).1 (rioIN r.2).2) &&
       s.eth.trdp.all (fun x => x.1 == k || trdpPub x.2 || !overlap a n (trdpWord x.2) (trdpCount x.2))))

/-- The next instant of a publication's grid in pair time. -/
def pubNext (s : State) (e : Trdp) : Option Nat :=
  match s.task.gridA with
  | none => none
  | some a => if trdpNs e = 0 then none else some (ptime s + ((a : Int) - ptime s).emod (trdpNs e)).toNat

/-- An entry configured anew: what was received no longer counts (R334), and a changed CYCLE begins at the next instant of the
old grid (R335). -/
def setTrdp (k : Nat) (n : Trdp) (s : State) : State :=
  let e := getTrdp s k
  let next := if trdpUsed e && trdpPub e && trdpPub n && trdpNs e != trdpNs n then pubNext s e else none
  let s := dropUnit (trdpUnit k) s
  judgeTrdp k (updTrdp k (fun e => { n with active := e.active, nOk := e.nOk, nDisc := e.nDisc, nTmo := e.nTmo, lastAt := s.clk, nextAt := next }) s)

def mbTrdpSet (t _ch : Nat) (p : Bytes) (s : State) : MbR := do
  perm (t == 0)
  formLen p 1 [(0, 18), (1, 26)]
  let k := u8 p 0
  let n : Trdp :=
    if u8 p 1 = 0 then
      let cyc := be p 16 2
      let c := if u8 p 2 = 0 then Nat.min 10000 (3 * cyc) else cyc
      { pd := wd (u8 p 2 * 2 ^ 47 + u8 p 3 * 2 ^ 42 + u8 p 4 * 2 ^ 39 + 2 ^ 36 + be p 5 2 * 2 ^ 21 + u8 p 7 * 2 ^ 14 + c)
        com := wd (be p 8 4 * 2 ^ 16), ip := wd (be p 12 4 * 2 ^ 16) }
    else { pd := setBit (beW p 2) 41 true, com := beW p 8 &&& 0xFFFFFFFF0000#48, ip := beW p 14 &&& 0xFFFFFFFF0000#48
           src := beW p 20 &&& 0xFFFFFFFF0000#48 }
  let listed := levelOk p 1 && (u8 p 1 == 1 || (u8 p 2 ≤ 1 && u8 p 4 ≤ 2)) && trdpMac n ≤ 2 && fld n.pd 37 36 ≤ 1
  stSel listed s true
  par listed
  par (u8 p 1 == 1 || (u8 p 3 < 32 && be p 5 2 < 20480 && u8 p 7 ≤ 64 && 1 ≤ be p 16 2 && be p 16 2 ≤ 10000))
  par (1 ≤ trdpCount n && trdpCount n ≤ 64 && 1 ≤ fld n.pd 13 0 && fld n.pd 13 0 ≤ 10000)
  par (trdpBlockOk s k n && !(macComs s (trdpMac n) 1024 k).contains (trdpCom n, trdpPub n))
  done (setTrdp k n s)

def mbTrdpGet (t _ch : Nat) (p : Bytes) (s : State) : MbR := do
  let k := u8 p 0
  let e := getTrdp s k
  perm (t == 0 || short p 1 || trdpTenant e == t)
  lenIs p 1
  reply (wB e.pd ++ wB e.com ++ wB e.ip ++ wB e.src ++ toBe 4 e.nOk ++ toBe 4 e.nDisc ++ toBe 4 e.nTmo ++ toBe 4 (e.last.getD 0) ++
    toBe 4 (trdpDigest s k) ++ toBe 1 (tget [] s.flash.accepted (2 * 65536 + k)).length) s

def mbTrdpTopoSet (t _ch : Nat) (p : Bytes) (s : State) : MbR := do
  perm (t == 0)
  lenIs p 8
  stChg s true
  done { s with eth := { s.eth with etb := be p 0 4, opTrn := be p 4 4 } }

def mbRioIpSet (t _ch : Nat) (p : Bytes) (s : State) : MbR := do
  perm (t == 0)
  lenIs p 6
  stChg s true
  let m := be p 0 2
  par (m < 1024)
  done (judgeRio m (updRio m (fun r => { r with ip := wd (be p 2 4 * 2 ^ 16) }) s))

/-- PTP takes new settings: an enabled port begins to listen. -/
def setPtp (cfg lat : Word) (s : State) : State :=
  let old := s.eth.ptp.cfg
  let s := updPtp (fun p => { p with cfg, lat }) s
  if !bit cfg 47 then setPtpState 3 s
  else if bit old 47 && fld old 46 40 == fld cfg 46 40 && fld old 39 16 == fld cfg 39 16 then s
  else
    let s := updPtp (fun p => { p with master := none, delay := none }) s
    setPtpState (if (getMac s (fld cfg 46 45)).up then 4 else 1) s

def mbPtpSet (t _ch : Nat) (p : Bytes) (s : State) : MbR := do
  perm (t == 0)
  formLen p 0 [(0, 4), (1, 13)]
  let listed := levelOk p 0 && (if u8 p 0 = 0 then u8 p 1 ≤ 1 && u8 p 2 ≤ 2 && u8 p 3 ≤ 1
    else fld (beW p 1) 46 45 ≤ 2 && fld (beW p 1) 43 42 ≤ 2)
  stSel listed s true
  par listed
  if u8 p 0 = 0 then
    done (setPtp (wd (u8 p 1 * 2 ^ 47 + u8 p 2 * 2 ^ 45 + u8 p 3 * 2 ^ 44 + 128 * 2 ^ 24 + 128 * 2 ^ 16 + 2 ^ 8)) 0#48 s)
  else
    let c := setBit (beW p 1 &&& 0xFFFFFFFFFFF0#48) 40 true
    let inR := fun (x : Nat) (a b : Int) => decide (a ≤ sgn 4 x ∧ sgn 4 x ≤ b)
    par (inR (fld c 15 12) (-4) 4 && inR (fld c 11 8) 0 4 && inR (fld c 7 4) (-4) 5)
    done (setPtp c (beW p 7 &&& 0xFFFFFFFF0000#48) s)

def mbPtpStat (_t _ch : Nat) (p : Bytes) (s : State) : MbR := do
  lenIs p 0
  let x := s.eth.ptp
  reply (toBe 1 x.state ++ toBe 8 ((x.master.map (·.identity)).getD (ptpOwn s).identity) ++ toBe 6 (umod 48 x.offset) ++
    toBe 6 (umod 48 (x.delay.getD 0)) ++ toBe 6 (umod 48 (divNear (s.tb.rho * 2 ^ 40) 1000000000)) ++ wB (tbTrust s)) s

def execMbEthSet (ch : Fin 16) (p : Bytes) (s : State) := runMb ch 0x0D20 mbEthSet p s
def execMbEthPortSet (ch : Fin 16) (p : Bytes) (s : State) := runMb ch 0x0D21 mbEthPortSet p s
def execMbEthStat (ch : Fin 16) (p : Bytes) (s : State) := runMb ch 0x0D22 mbEthStat p s
def execMbTrdpSet (ch : Fin 16) (p : Bytes) (s : State) := runMb ch 0x0D23 mbTrdpSet p s
def execMbTrdpGet (ch : Fin 16) (p : Bytes) (s : State) := runMb ch 0x0D24 mbTrdpGet p s
def execMbTrdpTopoSet (ch : Fin 16) (p : Bytes) (s : State) := runMb ch 0x0D25 mbTrdpTopoSet p s
def execMbRioIpSet (ch : Fin 16) (p : Bytes) (s : State) := runMb ch 0x0D26 mbRioIpSet p s
def execMbPtpSet (ch : Fin 16) (p : Bytes) (s : State) := runMb ch 0x0D27 mbPtpSet p s
def execMbPtpStat (ch : Fin 16) (p : Bytes) (s : State) := runMb ch 0x0D28 mbPtpStat p s

end Sys2Proof.Machine
end

