-- ==== Sys2Proof/Machine/FioRows.lean ====
section
/-! DEFINITION. Field I/O at work: frames received, reports, inputs, outputs, banks, silence, and the commands of class 0x0C
(10 R251 to R270, 15 R370). FIO_OUTPUT_FRAME is also the boundary of overlay kind 1 and stands with the overlays. -/

namespace Sys2Proof.Machine

/-! ### Frames, reports, silence -/

/-- DIE_FRAME_RECEIVED (R252, R258, R260, R261): a frame whose CRC fails is discarded. -/
def execDieFrameReceived (die : Fin 4) (crcOk : Bool) (s : State) : Host.Outcome State Fault Refusal :=
  .next (if crcOk then dieAccept die.val s else s)

/-- FIO_INPUT_REPORT (R253). -/
def execFioInputReport (u : FioUnit) (s : State) : Host.Outcome State Fault Refusal :=
  .next (if !fioRuns s then s
    else match u with
      | .group g => reportGroup g.val s
      | .ai n => reportAi n.val s
      | .ao n m => reportAo n.val m s)

/-- DIE_REPORT_TIMEOUT (R253): no report of the die for 2 ms. -/
def execDieReportTimeout (die : Fin 4) (s : State) : Host.Outcome State Fault Refusal :=
  let x := getDie s die.val
  .next (if fioRuns s && !x.lost && decide (x.reportAt + 2000000 ≤ absNow s) then
      fioGln 0x0912 die.val 1 (updDie die.val (fun x => { x with lost := true }) s)
    else s)

/-- SILENCE_EXPIRY (R260). -/
def execSilenceExpiry (die : Fin 4) (s : State) : Host.Outcome State Fault Refusal :=
  .next (if silenceDue s die.val then enterSilence die.val s else s)

/-- SERVE_GATE_LOSS (15 R370): 3 µs without an edge of the serve gate. -/
def execServeGateLoss (die : Fin 4) (s : State) : Host.Outcome State Fault Refusal :=
  .next (match (getDie s die.val).gateStop with
    | some t => if (getDie s die.val).serves && decide (t + 3000 ≤ absNow s) then
        dieDrive die.val (updDie die.val (fun x => { x with serves := false }) s) else s
    | none => s)

/-- FIELD_SUPPLY_UV (R251): supplies 0 to 7 feed the FC groups, 8 is SSUP, 9 is ASUP. -/
def execFieldSupplyUv (supply : Fin 10) (low : Bool) (s : State) : Host.Outcome State Fault Refusal :=
  let k := supply.val
  if supplyLow s k == low then .next s
  else
    let back := !low && dieStarved s (supplyDie k)
    let s := fioGln 0x0904 k (b2n low) { s with fio := { s.fio with uv := tput false k low s.fio.uv } }
    let s := if back then supplyReturn (supplyDie k) s else s
    if k < 8 then
      let s := if low then (grpChans k).foldl (fun s n =>
          if fcMODE (getFc s n).live = 0 then s
          else if fcIsOut (getFc s n).live then outDiagFire n (fcFault n s) else fcFault n s) s else s
      .next (grpDrive (absNow s) s k)
    else if k = 9 && low then
      .next ((List.range 4).foldl (fun s n => if bit (getAo s n).live 47 then fire (64 + n) s else s) s)
    else .next s

/-! ### Inputs (R255, R256) -/

/-- INPUT_FILTER_ACCEPT (R255). -/
def execInputFilterAccept (n : Fin 32) (v : Bool) (s : State) : Host.Outcome State Fault Refusal :=
  let c := getFc s n.val
  if !fcIsIn c.live || c.input == v then .next s
  else
    let s := updFc n.val (fun c => { c with input := v, edges := (c.edges + 1) % 65536 }) s
    .next (if (if v then bit c.live 42 else bit c.live 43) then fire n.val s else s)

/-- WIRE_BREAK_CHANGE (R256). -/
def execWireBreakChange (n : Fin 32) (broken : Bool) (s : State) : Host.Outcome State Fault Refusal :=
  let c := getFc s n.val
  if !fcIsIn c.live || !bit c.live 41 || c.wb == broken then .next s
  else
    let s := laneGln 0x0901 n.val (b2n broken) (updFc n.val (fun c => { c with wb := broken }) s)
    .next (if broken then fire n.val (fcFault n.val s) else s)

/-! ### Outputs (R257, R259) -/

/-- OUTPUT_OVERLOAD (R257): a plain output that is on turns off. -/
def execOutputOverload (n : Fin 32) (therm : Bool) (s : State) : Host.Outcome State Fault Refusal :=
  let c := getFc s n.val
  if fcMODE c.live != 3 || !c.on then .next s
  else
    let s := updFc n.val (fun c => { c with on := false, ovl := c.ovl || !therm, therm := c.therm || therm, faultAt := absNow s }) s
    .next (outFault (if therm then 0x0907 else 0x0902) n.val s)

/-- OUTPUT_RETRY (R257): every 100 ms while the command is 1. -/
def execOutputRetry (n : Fin 32) (ok : Bool) (s : State) : Host.Outcome State Fault Refusal :=
  let n := n.val
  let c := getFc s n
  if fcMODE c.live != 3 || !c.cmd || !(c.ovl || c.therm) || grpBlocked s (n / 4) || absNow s < c.faultAt + 100000000 then .next s
  else if ok then
    let s := updFc n (fun c => { c with on := true, ovl := false, therm := false }) s
    let s := if c.ovl then laneGln 0x0902 n 0 s else s
    .next (if c.therm then laneGln 0x0907 n 0 s else s)
  else
    let s := updFc n (fun c => { c with faultAt := absNow s }) s
    .next (outFault (if c.therm then 0x0907 else 0x0902) n s)

/-- OPEN_LOAD_DETECT (R257), suspended while the die is idle. -/
def execOpenLoadDetect (n : Fin 32) (isOpen : Bool) (s : State) : Host.Outcome State Fault Refusal :=
  let c := getFc s n.val
  if fcMODE c.live != 3 || !bit c.live 22 || c.opn == isOpen || !(getDie s (n.val / 16)).serves then .next s
  else
    let s := updFc n.val (fun c => { c with opn := isOpen }) s
    .next (if isOpen then outFault 0x0903 n.val s else laneGln 0x0903 n.val 0 s)

/-- PEAK_PHASE_END (R259). -/
def execPeakPhaseEnd (n : Fin 32) (s : State) : Host.Outcome State Fault Refusal :=
  let c := getFc s n.val
  let peak := fld c.live 20 13
  .next (if fcIsBank c.live && c.on && !c.hold && peak != 0 && decide (c.granted + peak * 1000000 ≤ absNow s) then
      updFc n.val (fun c => { c with hold := true }) s
    else s)

/-- GROUP_OVERLOAD_TRIP (R259): a trip within 1 s of an attempt is that attempt's failure. -/
def execGroupOverloadTrip (g : Fin 8) (s : State) : Host.Outcome State Fault Refusal :=
  let g := g.val
  let on := grpOn s g
  if on = 0 || (getGrp s g).trip then .next s
  else
    let again := (getGrp s g).tries != 0 && decide (absNow s < (getGrp s g).tripAt + 1000000000)
    let s := updGrp g (fun x => { x with trip := true, tripAt := absNow s, tries := if again then x.tries else 0 }) s
    let s := laneGln 0x0906 g on (grpDrive (absNow s) s g)
    .next ((grpChans g).foldl (fun s n => if fcIsBank (getFc s n).live then outDiagFire n (fcFault n s) else s) s)

/-- GROUP_RETRY (R259): 1 s after a trip, at most three times. -/
def execGroupRetry (g : Fin 8) (s : State) : Host.Outcome State Fault Refusal :=
  let g := g.val
  let x := getGrp s g
  .next (if x.trip && decide (x.tries < 3) && decide (x.tripAt + 1000000000 ≤ absNow s) then
      grpDrive (absNow s) (updGrp g (fun x => { x with trip := false, tripAt := absNow s, tries := x.tries + 1 }) s) g
    else s)

/-! ### Analog channels, sensors, mains (R262 to R267) -/

/-- AI_SAMPLE (R262). -/
def execAiSample (n : Fin 4) (raw : Word) (s : State) : Host.Outcome State Fault Refusal :=
  .next (if fioRuns s && fld (getAi s n.val).live 47 46 != 0 then aiSample n.val raw s else s)

/-- AO_LOOP_FAULT (R264), suspended while the die is idle; an output that is off is to hold 0 mA, so its flags clear. -/
def execAoLoopFault (n : Fin 4) (kind : AoFault) (set : Bool) (measured : Word) (s : State) : Host.Outcome State Fault Refusal :=
  let n := n.val
  let a := getAo s n
  let cmd := aoDrive s n
  if !(getDie s 3).serves then .next s
  else
    let s := updAo n (fun a => { a with meas := measured }) s
    match kind with
    | .loopLow =>
      let holds := if set then decide (measured.toInt * 10 + 2 ^ 32 < cmd.toInt * 10) else decide (cmd.toInt * 20 - 2 ^ 32 ≤ measured.toInt * 20)
      if a.low == set || !holds then .next s
      else
        let s := laneGln 0x0921 n (b2n set) (updAo n (fun a => { a with low := set }) s)
        .next (if set then fire (64 + n) s else s)
    | .openLoop =>
      let cond := decide (measured.toInt * 10 < 2 ^ 32) && decide ((mA 36).toInt ≤ cmd.toInt)
      if a.opn == set || cond != set then .next s
      else
        let s := laneGln 0x0922 n (b2n set) (updAo n (fun a => { a with opn := set }) s)
        .next (if set then fire (64 + n) s else s)

/-- TW_SENSOR_FAULT (R266). -/
def execTwSensorFault (n : Fin 4) (fault : Bool) (s : State) : Host.Outcome State Fault Refusal :=
  let n := n.val
  if tget false s.fio.twFault n == fault then .next s
  else
    let s := { s with fio := { s.fio with twFault := tput false n fault s.fio.twFault } }
    let s := fioGln 0x0930 n (b2n fault) s
    .next (if fault then fire (48 + 2 * n) s else s)

/-- MAINS_OVER_RANGE (R267): at most one entry per second. -/
def execMainsOverRange (mains : Fin 2) (s : State) : Host.Outcome State Fault Refusal :=
  let m := mains.val
  let due := match tget none s.fio.overAt m with | some t => decide (t + 1000000000 ≤ absNow s) | none => true
  .next (if fioRuns s && due then
      fioGln 0x0931 m 1 { s with fio := { s.fio with overAt := tput none m (some (absNow s)) s.fio.overAt } }
    else s)

/-! ### Commands (Table 10-13) -/

/-- A block of n words from w on lies in plots of a source owned by T0 at this device, or is unmapped (R254). -/
def fioBlockOk (s : State) (src w n : Nat) : Bool := w == 0x7FFF || (span w n).all (fun i => inPlot s src 0 i)

/-- Mapped blocks do not overlap (R254). -/
def fioDisjoint : List (Nat × Nat) → Bool
  | [] => true
  | (w, n) :: bs => bs.all (fun b => !overlap w n b.1 b.2) && fioDisjoint bs

def mbFioMapSet (t _ch : Nat) (p : Bytes) (s : State) : MbR := do
  perm (t = 0)
  lenIs p 12
  stChg s true
  let m0 := beW p 0 &&& 0xFFFFFFFFFFF8#48
  let m1 := beW p 6 &&& 0xFFFFFFFFFFF8#48
  par (fioBlockOk s 1 (fld m0 47 33) 1 && fioBlockOk s 1 (fld m0 32 18) 1 && fioBlockOk s 0 (fld m0 17 3) 1 &&
    fioBlockOk s 1 (fld m1 47 33) 4 && fioBlockOk s 0 (fld m1 32 18) 4 && fioBlockOk s 1 (fld m1 17 3) 4 &&
    fioDisjoint ([(fld m0 47 33, 1), (fld m0 32 18, 1), (fld m0 17 3, 1), (fld m1 47 33, 4), (fld m1 32 18, 4), (fld m1 17 3, 4)].filter
      (fun b => b.1 != 0x7FFF)))
  done (fioGln 0x0940 0 0 { s with fio := { s.fio with map0 := m0, map1 := m1 } })

/-- MAX_ON at the group's basic level: its number of MODE 0x4 members (R268). -/
def grpBasic (g : Nat) (s : State) : State :=
  if bit (getGrp s g).cfg 44 then s
  else updGrp g (fun x => { x with cfg := wd ((grpChans g).countP (fun n => fcIsBank (getFc s n).cfg) * 2 ^ 45) }) s

/-- FC_CFG of a basic form (R268). -/
def fcBasic (m : Nat) : Word :=
  wd (m % 8 * 2 ^ 45 + (if m = 1 ∨ m = 2 then 30 * 2 ^ 33 else if m = 3 ∨ m = 4 then 2 ^ 21 + 100 * 2 ^ 6 else 0))

/-- The encoded fields of FC_CFG have values that their tables list, whatever MODE is (Table 10-4, 00 R17). -/
def fcListed (w : Word) : Bool := fcMODE w ≤ 4 && fld w 24 23 ≤ 2

/-- The fields of FC_CFG that its MODE uses are within their ranges (Table 10-4). -/
def fcCfgOk (w : Word) : Bool :=
  fcListed w &&
    (!fcIsIn w || (fld w 40 33 ≤ 200 && (!bit w 41 || 1 ≤ fld w 32 25))) &&
    (!fcIsBank w || (10 ≤ fld w 12 6 && fld w 12 6 ≤ 100))

/-- A group that holds a bank member holds no plain output (R258). -/
def fcGroupOk (s : State) (n : Nat) (w : Word) : Bool :=
  let modes := (grpChans (n / 4)).map (fun m => if m = n then fcMODE w else fcMODE (getFc s m).cfg)
  !(modes.contains 4 && modes.contains 3)

def mbFcSet (t _ch : Nat) (p : Bytes) (s : State) : MbR := do
  perm (t = 0)
  formLen p 1 [(0, 3), (1, 8)]
  let n := u8 p 0
  let w := if u8 p 1 = 0 then fcBasic (u8 p 2) else setBit (beW p 2 &&& 0xFFFFFFFFFFC0#48) 44 true
  let listed := (u8 p 1 != 0 || u8 p 2 ≤ 4) && fcListed w
  stSel (levelOk p 1 && listed) s (32 ≤ n || fcMODE w == fcMODE (getFc s n).cfg || devMode s == 1)
  par (n < 32 && levelOk p 1 && listed && fcCfgOk w && fcGroupOk s n w)
  done (fioGln 0x0940 n 0 (grpBasic (n / 4) (updFc n (fun c => { c with cfg := w }) s)))

def mbFcGrpSet (t _ch : Nat) (p : Bytes) (s : State) : MbR := do
  perm (t = 0)
  formLen p 1 [(0, 2), (1, 8)]
  stSel (levelOk p 1) s true
  let g := u8 p 0
  let w := setBit (beW p 2 &&& 0xE00000000000#48) 44 true
  par (g < 8 && levelOk p 1 && (u8 p 1 = 0 || (1 ≤ fld w 47 45 && fld w 47 45 ≤ 4)))
  done (fioGln 0x0940 g 0 (if u8 p 1 = 0 then grpBasic g (updGrp g (fun x => { x with cfg := 0#48 }) s)
    else updGrp g (fun x => { x with cfg := w }) s))

def mbFioSilSet (t _ch : Nat) (p : Bytes) (s : State) : MbR := do
  perm (t = 0)
  formLen p 1 [(0, 2), (1, 8)]
  stSel (levelOk p 1) s true
  let d := u8 p 0
  let w := if u8 p 1 = 0 then 20#48 else setBit (beW p 2 &&& 0x3FF#48) 10 true
  par (d < 4 && levelOk p 1 && 2 ≤ fld w 9 0 && fld w 9 0 ≤ 1000)
  done (fioGln 0x0940 d 0 (updDie d (fun x => { x with sil := w }) s))

/-- MB_AI_SET (10 R269). At the basic level the scale bounds are 0 (the model's choice, log 116). -/
def mbAiSet (t _ch : Nat) (p : Bytes) (s : State) : MbR := do
  perm (t = 0)
  formLen p 1 [(0, 3), (1, 20)]
  let n := u8 p 0
  let w := if u8 p 1 = 0 then wd (u8 p 2 % 4 * 2 ^ 46) else setBit (beW p 2 &&& 0xFFFFC0000000#48) 45 true
  let listed := (u8 p 1 != 0 || u8 p 2 ≤ 2) && fld w 47 46 ≤ 2
  stSel (levelOk p 1 && listed) s (4 ≤ n || fld w 47 46 == fld (getAi s n).cfg 47 46 || devMode s == 1)
  par (n < 4 && levelOk p 1 && listed && fld w 43 30 ≤ 10000)
  done (fioGln 0x0940 n 0 (updAi n (fun a => if u8 p 1 = 0 then { a with cfg := w, lo := 0#48, hi := 0#48 } else { a with cfg := w, lo := beW p 8, hi := beW p 14 }) s))

def mbAoSet (t _ch : Nat) (p : Bytes) (s : State) : MbR := do
  perm (t = 0)
  formLen p 1 [(0, 4), (1, 8)]
  let n := u8 p 0
  let w := if u8 p 1 = 0 then wd (u8 p 2 % 2 * 2 ^ 47 + u8 p 3 % 2 * 2 ^ 46 + (1 + u8 p 3 % 2) * 2 ^ 43)
    else setBit (beW p 2 &&& 0xF80000000000#48) 45 true
  let listed := levelOk p 1 && (u8 p 1 != 0 || (u8 p 2 ≤ 1 && u8 p 3 ≤ 1)) && (bit w 46 || fld w 44 43 ≤ 1)
  stSel listed s true
  par (n < 4 && listed)
  done (fioGln 0x0940 n 0 (updAo n (fun a => { a with cfg := w }) s))

def mbTwElecSet (t _ch : Nat) (p : Bytes) (s : State) : MbR := do
  perm (t = 0)
  formLen p 1 [(0, 3), (1, 8)]
  let n := u8 p 0
  let w := if u8 p 1 = 0 then wd (u8 p 2 % 4 * 2 ^ 46 + 10 * 2 ^ 38) else setBit (beW p 2 &&& 0xFFC000000000#48) 45 true
  let listed := levelOk p 1 && (u8 p 1 != 0 || u8 p 2 ≤ 1) && fld w 47 46 ≤ 1
  stSel listed s true
  par (n < 4 && listed && 1 ≤ fld w 44 38 && fld w 44 38 ≤ 100)
  done (fioGln 0x0940 n 0 { s with fio := { s.fio with tw := wput n w s.fio.tw } })

/-- FIO_SIL[d] as it reads (Table 10-8). -/
def fioSil (s : State) (d : Nat) : Word := setBit (getDie s d).sil 11 (getDie s d).silent

/-- FC_STAT[n] (Table 10-14). -/
def fcStat (s : State) (n : Nat) : Word :=
  let c := getFc s n
  let bank := fcIsBank c.live
  withLanes (wd (c.edges * 2 ^ 16 + c.faults))
    [(47, if fcIsIn c.live then c.input else c.on), (46, c.cmd), (45, c.wb), (44, c.ovl), (43, c.opn), (42, c.defer), (41, bank && c.req.isSome),
      (40, supplyLow s (n / 4)), (39, bank && (getGrp s (n / 4)).trip), (38, c.therm), (37, (getDie s (n / 16)).silent)]

def mbFioStat (t _ch : Nat) (p : Bytes) (s : State) : MbR := do
  perm (t = 0 || mayRead s t (fioDiagWord s))
  lenIs p 0
  reply ((List.range 32).flatMap (fun n => wB (fcStat s n)) ++ (List.range 4).flatMap (fun n => wB (getAi s n).x) ++
    (List.range 4).flatMap (fun n => wB (getAo s n).meas) ++ (List.range 4).flatMap (fun d => wB (fioSil s d))) s

def mbFioClear (t _ch : Nat) (p : Bytes) (s : State) : MbR := do
  perm (t = 0)
  lenIs p 6
  stChg s true
  let m := beW p 0
  let s := (List.range 32).foldl (fun s n => if bit m n then updFc n (fun c => { c with defer := false }) s else s) s
  done ((List.range 8).foldl (fun s g =>
    if (grpChans g).any (fun n => bit m n) && ((getGrp s g).trip || (getGrp s g).tries != 0) then
      grpDrive (absNow s) (updGrp g (fun x => { x with trip := false, tries := 0 }) s) g
    else s) s)

def execMbFioMapSet (ch : Fin 16) (p : Bytes) (s : State) : Host.Outcome State Fault Refusal := runMb ch 0x0C01 mbFioMapSet p s
def execMbFcSet (ch : Fin 16) (p : Bytes) (s : State) : Host.Outcome State Fault Refusal := runMb ch 0x0C02 mbFcSet p s
def execMbFcGrpSet (ch : Fin 16) (p : Bytes) (s : State) : Host.Outcome State Fault Refusal := runMb ch 0x0C03 mbFcGrpSet p s
def execMbFioSilSet (ch : Fin 16) (p : Bytes) (s : State) : Host.Outcome State Fault Refusal := runMb ch 0x0C04 mbFioSilSet p s
def execMbAiSet (ch : Fin 16) (p : Bytes) (s : State) : Host.Outcome State Fault Refusal := runMb ch 0x0C05 mbAiSet p s
def execMbAoSet (ch : Fin 16) (p : Bytes) (s : State) : Host.Outcome State Fault Refusal := runMb ch 0x0C06 mbAoSet p s
def execMbTwElecSet (ch : Fin 16) (p : Bytes) (s : State) : Host.Outcome State Fault Refusal := runMb ch 0x0C07 mbTwElecSet p s
def execMbFioStat (ch : Fin 16) (p : Bytes) (s : State) : Host.Outcome State Fault Refusal := runMb ch 0x0C08 mbFioStat p s
def execMbFioClear (ch : Fin 16) (p : Bytes) (s : State) : Host.Outcome State Fault Refusal := runMb ch 0x0C09 mbFioClear p s

end Sys2Proof.Machine
end

