-- ==== Sys2Proof/Machine/Operands.lean ====
section
/-! DEFINITION. Operand forms of the KV48: registers, predicates, guards, immediates, lanes, addresses and the checks
of a data access (03 R73 to R86, 04 R106). -/

namespace Sys2Proof.Machine

/-- A W register. -/
def rW (e : Ex) (i : BitVec 4) : Word := wget e.w i.toNat

/-- A W register written; the result is visible to the next instruction (03 R73). -/
def wW (i : BitVec 4) (v : Word) (e : Ex) : Ex := { e with w := wput i.toNat v e.w, wrote := i.toNat :: e.wrote }

/-- A predicate; P0 reads true (03 Table 3-1). -/
def rP (e : Ex) (i : Nat) : Bool := i % 8 == 0 || e.p.getLsbD (i % 8)

/-- A predicate written; a write to P0 is ignored (03 R77). -/
def wP (i : Nat) (b : Bool) (e : Ex) : Ex :=
  if i % 8 = 0 then e
  else
    let m := BitVec.ofNat 8 (2 ^ (i % 8))
    { e with p := if b then e.p ||| m else e.p &&& ~~~m, wrote := (16 + i % 8) :: e.wrote }

/-- The predicate a field names by its low three bits. -/
def predNo (d : BitVec 4) : Nat := d.toNat % 8

/-- The guard of an instruction (03 R78). -/
def guardTrue (o : Kv) (e : Ex) : Bool := rP e o.g.toNat != o.n

/-- The immediate, sign-extended. -/
def sx (o : Kv) : Word := o.imm.signExtend 48
/-- The immediate, zero-extended. -/
def zx (o : Kv) : Word := o.imm.setWidth 48

/-- A compare's result written under the combine bit (03 R77). -/
def wPd (o : Kv) (b : Bool) (e : Ex) : Ex := wP (predNo o.d) (b && (!o.d.getLsbD 3 || rP e (predNo o.d))) e

/-- Lane named by IMM[5:0]. -/
def laneImm (o : Kv) : Nat := o.imm.toNat % 64
/-- Lane named by Wt[5:0]. -/
def laneReg (o : Kv) (e : Ex) : Nat := (rW e o.t).toNat % 64

/-! ### Traps of 03 Table 3-11 -/

def trCodeLimit : Nat := 0x01
def trEccCode : Nat := 0x02
def trIllegal : Nat := 0x03
def trLoopFault : Nat := 0x04
def trDescWrite : Nat := 0x05
def trBadValue : Nat := 0x06
def trAddrForm : Nat := 0x07
def trSegKind : Nat := 0x08
def trSegLimit : Nat := 0x09
def trSegRights : Nat := 0x0A
def trPlot : Nat := 0x0B
def trEccData : Nat := 0x0C
def trDeviceRights : Nat := 0x0D

/-- What an instruction with a true guard does: its effect, with a branch target if it goes elsewhere and its cycles,
or the first trap it fails with the parameter of its Gleaner entry. -/
inductive KvRes where
  | ok (e : Ex) (s : State) (target : Option Nat) (cyc : Nat)
  | trap (cause : Nat) (p2 : Int)

/-- An effect on the execution alone. -/
def kvOk (e : Ex) (s : State) : KvRes := .ok e s none 1

/-! ### Data accesses (03 R80 to R84) -/

/-- The effective address by mode (03 Table 3-6). -/
def effAddr (o : Kv) (e : Ex) : Word :=
  if o.m = 0#2 then rW e o.s + sx o else if o.m = 1#2 then rW e o.s + rW e o.t else rW e o.s

/-- The side effect of mode 2: Ws := Ws + IMM, once the access has passed every check. -/
def postInc (o : Kv) (e : Ex) : Ex := if o.m = 2#2 then wW o.s (rW e o.s + sx o) e else e

/-- The word an access reaches: region kind, segment and offset. -/
structure Place where
  kind : Nat
  seg : Nat
  off : Nat
deriving DecidableEq, Repr

/-- The plot check (06 R170, Table 6-5) with the plot table of the release. -/
def plotCheck (e : Ex) (kind off : Nat) (write : Bool) : Bool :=
  let o := wget e.plots (off / 64)
  if kind = 3 then sharedRead e.plots e.tenant off
  else if write then kind == 2 && ownPOS o == e.ownPos && ownTENANT o == e.tenant && ownSRC o == 0 && ownPOS o != 0
  else ownRead e.plots e.tenant off

/-- The checks of 03 R84 in their order. -/
def checkAddr (e : Ex) (kinds : List Nat) (write : Bool) (a : Word) : Except Nat Place :=
  let seg := fld a 47 45
  let off := fld a 20 0
  let d := e.segd.getD seg 0#48
  let kind := fld d 45 43
  if fld a 44 21 ≠ 0 then .error trAddrForm
  else if !kinds.contains kind then .error trSegKind
  else if fld d 21 0 ≤ off then .error trSegLimit
  else if !(if write then bit d 46 else bit d 47) then .error trSegRights
  else if 1 ≤ kind ∧ kind ≤ 3 ∧ !plotCheck e kind off write then .error trPlot
  else .ok ⟨kind, seg, off⟩

/-- The data-store key of a place, for task k. -/
def placeKey (k : Nat) (e : Ex) (pl : Place) : Nat := dsKey pl.seg (if pl.seg = 6 then k else e.tenant) pl.off

/-! ### One clock cycle of the cores (04 R117, R120) -/

/-- The clock cycle in which core c issues its next instruction: the one being worked through, or a new one where time has gone on
or the core has issued in it before. -/
def issueCycle (c : Nat) (s : State) : State :=
  let m := s.core.cyc
  let m := if m.clk = s.clk ∧ m.cores.contains c = false then { m with cores := c :: m.cores } else { clk := s.clk, n := m.n + 1, cores := [c] }
  { s with core := { s.core with cyc := m } }

/-- A word with stores applied one after another. -/
def storesOn (v : Word) (ws : List CoreWrite) : Word := ws.foldl (fun v w => (v &&& ~~~w.mask) ||| (w.value &&& w.mask)) v

/-- What has been stored to a word in the cycle being worked through. -/
def wordCycle (key : Nat) (s : State) : WordCycle :=
  (s.core.cyc.words.find? (fun w => w.key == key)).getD { key, base := wget s.core.data key }

/-- A data-store word as core c finds it: after the stores of lower-numbered cores of its cycle, before those of higher ones. -/
def coreWord (c key : Nat) (s : State) : Word :=
  let w := wordCycle key s
  storesOn w.base (w.writes.filter (fun x => x.core < c))

/-- A store by core c to the lanes of a mask: the stores of one cycle take effect in ascending order of core number (04 R117). -/
def coreStore (c key : Nat) (mask v : Word) (s : State) : State :=
  let w := wordCycle key s
  let ws := w.writes.filter (fun x => x.core < c) ++ ⟨c, mask, v⟩ :: w.writes.filter (fun x => c ≤ x.core)
  { s with core := { s.core with
      data := wput key (storesOn w.base ws) s.core.data
      cyc := { s.core.cyc with words := ⟨key, w.base, ws⟩ :: s.core.cyc.words.filter (fun x => x.key != key) } } }

/-- The data-store or SEG7 word at a place. -/
def dataWord (k : Nat) (e : Ex) (pl : Place) (s : State) : Word :=
  if pl.kind = 4 then e.seg7.getD pl.off 0#48
  else if pl.seg = 1 then wget e.consts (placeKey k e pl)
  else coreWord e.core (placeKey k e pl) s

/-- A single-bit error is corrected on use, counted and written as 0x0304 (03 R101). A word's place in the data store is BASE of
its segment, which is the machine's own, and its offset (log 95). -/
def correctData (key tenant : Nat) (s : State) : State :=
  if s.core.softBad.contains key then
    let n := s.core.dataCorr + 1
    gln 0x0304 2 tenant ((Config.segBase (key / 2 ^ 21)).toNat + key % 2 ^ 21 : Nat) n { s with core := { s.core with softBad := s.core.softBad.filter (· != key), dataCorr := n } }
  else s

/-- The newest output-image value of a word among writes of this execution, visible or not. -/
def outLatest (e : Ex) (w : Nat) : Word :=
  match e.imPend.find? (fun x => x.key == w) with
  | some x => x.value
  | none => match e.outw.find? (fun x => x.1 == w) with
    | some x => x.2
    | none => wget e.view w

/-- The image word an IMLD sees: the frozen view, or for the output image the writes at distance 3 or more (03 R94). -/
def imageWord (e : Ex) (pl : Place) : Word :=
  if pl.kind = 2 then match e.outw.find? (fun x => x.1 == pl.off) with
    | some x => x.2
    | none => wget e.view pl.off
  else wget e.view pl.off

/-- A load that lands as instruction n + 2 completes (03 R93). -/
def addLoad (target : Nat) (v : Word) (e : Ex) : Ex := { e with loads := e.loads ++ [⟨target, v, e.n + 2⟩] }

/-- A write of the output image, visible to IMLD from distance 3, newest first. -/
def addImst (w : Nat) (v : Word) (e : Ex) : Ex := { e with imPend := ⟨w, v, e.n + 3⟩ :: e.imPend }

end Sys2Proof.Machine
end

