-- ==== Sys2Proof/Machine/Flags.lean ====
section
/-! DEFINITION. Saturation and the sticky SAT flag (04 R108), shifts (R109), and the arithmetic of the KV48. -/

namespace Sys2Proof.Machine

/-- Greatest and least signed values of 48 bits. -/
def maxS48 : Int := 2 ^ 47 - 1
def minS48 : Int := -2 ^ 47

/-- sat(x): the clamped word, and whether the clamp changed the value. -/
def sat48 (x : Int) : Word × Bool := (wi (clampI minS48 maxS48 x), decide (x < minS48) || decide (maxS48 < x))

/-- usat(x). -/
def usat48 (x : Int) : Word × Bool := (wi (clampI 0 (2 ^ 48 - 1) x), decide (x < 0) || decide (2 ^ 48 - 1 < x))

/-- A saturating result written to Wd; SAT is set when the clamp changed it and never cleared (04 R108). -/
def wSat (i : BitVec 4) (r : Word × Bool) (e : Ex) : Ex := { wW i r.1 e with sat := e.sat || r.2 }

/-- The signed product shifted as MULQ: rounded to nearest, halves towards +∞ (04 R109 text). -/
def mulqExact (a b : Word) : Int := (a.toInt * b.toInt + 2 ^ 31) >>> 32

/-- Bits [95:48] of the signed product. -/
def mulHigh (a b : Word) : Word := wi ((a.toInt * b.toInt) >>> 48)

/-- Shift amounts of 48 to 63 (04 R109). -/
def shlW (a : Word) (n : Nat) : Word := a <<< n
def shrW (a : Word) (n : Nat) : Word := a >>> n
def sarW (a : Word) (n : Nat) : Word := a.sshiftRight n
def rolW (a : Word) (n : Nat) : Word := a.rotateLeft (n % 48)

/-- Number of zeros above the highest one; 48 for 0. -/
def clzW (a : Word) : Nat := ((List.range 48).find? (fun i => a.getLsbD (47 - i))).getD 48

/-- Position of the lowest one; 48 for 0. -/
def ffsW (a : Word) : Nat := ((List.range 48).find? (fun i => a.getLsbD i)).getD 48

/-- TSTAT (03 Table 3-10) of task k. -/
def tstat (k : Nat) (e : Ex) : Word := wd (k * 2 ^ 16 + e.tenant * 2 ^ 11 + e.ldepth * 2 ^ 8 + b2n e.sat)

end Sys2Proof.Machine
end

