-- ==== Sys2Proof/Machine/KvCore.lean ====
section
/-! DEFINITION. The issue of one KV48 instruction: decode stage, guard, effect or trap, landing of loads, loop end
(03 R75 to R100, 04 R107), and the encoding table that decides what is illegal. -/

namespace Sys2Proof.Machine

/-! ### The encoding (03 Tables 3-2 and 3-3, 04 tables) -/

/-- A line of the instruction tables: an opcode, the M values of the line, the length in syllables and the row. -/
structure KvForm where
  op : Nat
  ms : List Nat
  len : Nat
  row : Kv → Instr

/-- The opcodes and M values of 04 Tables 4-2 to 4-10; all others are undefined (R106). -/
def kvForms : List KvForm :=
  [⟨0x00, [0], 1, .nop⟩, ⟨0x01, [0], 1, .tend⟩, ⟨0x02, [0], 1, .loop⟩, ⟨0x03, [0], 1, .ret⟩, ⟨0x04, [0], 3, .br⟩,
   ⟨0x04, [1], 2, .br⟩, ⟨0x05, [0], 3, .call⟩, ⟨0x05, [1], 2, .call⟩, ⟨0x10, [0], 2, .add⟩, ⟨0x11, [0], 2, .sub⟩,
   ⟨0x12, [0], 2, .adds⟩, ⟨0x12, [1], 2, .addsu⟩, ⟨0x13, [0], 2, .subs⟩, ⟨0x13, [1], 2, .subsu⟩, ⟨0x14, [0], 2, .mul⟩,
   ⟨0x14, [1], 2, .muls⟩, ⟨0x14, [2], 2, .mulq⟩, ⟨0x14, [3], 2, .mulh⟩, ⟨0x15, [0], 2, .negs⟩, ⟨0x15, [1], 2, .abss⟩,
   ⟨0x16, [0], 2, .min⟩, ⟨0x16, [1], 2, .minu⟩, ⟨0x17, [0], 2, .max⟩, ⟨0x17, [1], 2, .maxu⟩, ⟨0x18, [0], 2, .mov⟩,
   ⟨0x19, [0], 2, .shl⟩, ⟨0x19, [1], 2, .shr⟩, ⟨0x19, [2], 2, .sar⟩, ⟨0x19, [3], 2, .rol⟩, ⟨0x20, [0], 3, .addi⟩,
   ⟨0x21, [0], 3, .addsi⟩, ⟨0x22, [0], 3, .andi⟩, ⟨0x23, [0], 3, .ori⟩, ⟨0x24, [0], 3, .xori⟩, ⟨0x25, [0], 3, .movi⟩,
   ⟨0x26, [0], 3, .shli⟩] ++
  [⟨0x26, [1], 3, .shri⟩, ⟨0x26, [2], 3, .sari⟩, ⟨0x26, [3], 3, .roli⟩, ⟨0x28, [0], 3, .lk0⟩, ⟨0x29, [0], 3, .lk1⟩,
   ⟨0x2A, [0], 3, .lk2⟩, ⟨0x2B, [0], 3, .lk3⟩, ⟨0x30, [0], 2, .cmpeq⟩, ⟨0x31, [0], 2, .cmpne⟩, ⟨0x32, [0], 2, .cmplt⟩,
   ⟨0x32, [1], 2, .cmpltu⟩, ⟨0x33, [0], 2, .cmple⟩, ⟨0x33, [1], 2, .cmpleu⟩, ⟨0x34, [0], 3, .cmpeqi⟩,
   ⟨0x35, [0], 3, .cmpnei⟩, ⟨0x36, [0], 3, .cmplti⟩, ⟨0x36, [1], 3, .cmpltiu⟩, ⟨0x37, [0], 3, .cmpgti⟩,
   ⟨0x37, [1], 3, .cmpgtiu⟩, ⟨0x38, [0], 2, .tstnz⟩, ⟨0x39, [0], 3, .tstb⟩, ⟨0x39, [1], 2, .tstb⟩, ⟨0x3A, [0], 2, .pand⟩,
   ⟨0x3A, [1], 2, .por⟩, ⟨0x3A, [2], 2, .pxor⟩, ⟨0x3A, [3], 2, .pandn⟩, ⟨0x3B, [0], 2, .prd⟩, ⟨0x3C, [0], 2, .pwr⟩,
   ⟨0x40, [0], 2, .and⟩, ⟨0x41, [0], 2, .or⟩, ⟨0x42, [0], 2, .xor⟩, ⟨0x43, [0], 2, .andn⟩, ⟨0x44, [0], 2, .not⟩,
   ⟨0x45, [0], 2, .edge⟩, ⟨0x45, [1], 2, .edgef⟩, ⟨0x45, [2], 2, .edgea⟩] ++
  [⟨0x46, [0], 2, .latch⟩, ⟨0x46, [1], 2, .latchs⟩, ⟨0x47, [0], 3, .shSplat⟩, ⟨0x47, [1], 2, .shSplat⟩,
   ⟨0x48, [0], 2, .shMerge⟩, ⟨0x49, [0], 2, .shAny⟩, ⟨0x49, [1], 2, .shAll⟩, ⟨0x49, [2], 2, .shNone⟩, ⟨0x50, [0], 3, .bset⟩,
   ⟨0x50, [1], 2, .bset⟩, ⟨0x51, [0], 3, .bclr⟩, ⟨0x51, [1], 2, .bclr⟩, ⟨0x52, [0], 3, .bins⟩, ⟨0x53, [0], 2, .popc⟩,
   ⟨0x54, [0], 2, .clz⟩, ⟨0x55, [0], 2, .ffs⟩, ⟨0x56, [0], 3, .extr⟩, ⟨0x57, [0], 3, .dep⟩, ⟨0x60, [0, 2], 3, .ld⟩,
   ⟨0x60, [1], 2, .ld⟩, ⟨0x61, [0, 2], 3, .st⟩, ⟨0x61, [1], 2, .st⟩, ⟨0x62, [0, 2], 3, .imld⟩, ⟨0x62, [1], 2, .imld⟩,
   ⟨0x63, [0, 2], 3, .imst⟩, ⟨0x63, [1], 2, .imst⟩, ⟨0x64, [0, 2], 3, .ldb⟩, ⟨0x65, [0, 2], 3, .stb⟩,
   ⟨0x66, [0, 2], 3, .imldb⟩, ⟨0x67, [0, 2], 3, .imstb⟩, ⟨0x70, [0], 3, .mfs⟩, ⟨0x71, [0], 3, .mts⟩,
   ⟨0x78, [0], 2, .ceStart⟩, ⟨0x79, [0], 3, .ceRd⟩, ⟨0x7A, [0], 2, .schArm⟩, ⟨0x7B, [0], 2, .schCancel⟩] ++
  [⟨0x7C, [0], 2, .schStat⟩, ⟨0x7D, [0], 2, .evtPost⟩, ⟨0x7E, [0], 3, .swev⟩]

/-- The line of opcode op and modifier m. -/
def kvForm (op m : Nat) : Option KvForm := kvForms.find? (fun f => f.op == op && f.ms.contains m)

/-- A special register number that exists (03 Table 3-9, 04 R119). -/
def specialOk (n : Nat) : Bool := n ≤ 0x0C || (0x10 ≤ n && n ≤ 0x18)

/-- Length in syllables by L of syllable 0 (03 Table 3-2). -/
def sylLen (s0 : Nat) : Nat := s0 / 2 ^ 8 % 4 + 1

/-- The fields that the syllables of an instruction carry (03 R74); a field its format does not hold (03 R75) is 0. -/
def kvFields (c : Fin 8) (s0 s1 s2 : Nat) : Kv :=
  let b := if sylLen s0 = 1 then 0 else s1
  { core := c, g := BitVec.ofNat 3 (s0 / 2 ^ 11), n := s0 / 2 ^ 10 % 2 == 1, d := BitVec.ofNat 4 (b / 2 ^ 10),
    s := BitVec.ofNat 4 (b / 2 ^ 6), t := BitVec.ofNat 4 (b / 2 ^ 2), m := BitVec.ofNat 2 b,
    imm := if sylLen s0 ≤ 2 then 0 else BitVec.ofNat 14 s2 }

/-- The row that syllables s0, s1, s2 spell, with its operands; none where they are illegal (03 R75, R99, 04 R106, R119). -/
def kvDecode (c : Fin 8) (s0 s1 s2 : Nat) : Option Instr :=
  let o := kvFields c s0 s1 s2
  match kvForm (s0 % 2 ^ 8) o.m.toNat with
  | some f => if f.len = sylLen s0 ∧ ((f.op ≠ 0x70 ∧ f.op ≠ 0x71) ∨ specialOk o.imm.toNat) then some (f.row o) else none
  | none => none

/-- The syllables form an instruction the decode stage lets pass. -/
def syllablesLegal (s0 s1 s2 : Nat) : Bool := (kvDecode 0 s0 s1 s2).isSome

/-- Syllable j of the instruction at PC. -/
def sylAt (s : State) (e : Ex) (j : Nat) : Nat := tget 0 s.prog.code (e.tenant * 2 ^ 22 + (e.pc + j))

/-- Length in syllables of the instruction at a code address of tenant t. -/
def codeLenAt (s : State) (t a : Nat) : Nat := sylLen (tget 0 s.prog.code (t * 2 ^ 22 + a))

/-- The row that the code at PC spells for core c. -/
def kvAt (c : Fin 8) (e : Ex) (s : State) : Option Instr := kvDecode c (sylAt s e 0) (sylAt s e 1) (sylAt s e 2)

/-! ### Loops (03 R89 to R92) -/

def lps (e : Ex) (d : Nat) : Nat := (wget e.lp d).toNat
def lpe (e : Ex) (d : Nat) : Nat := (wget e.lp (4 + d)).toNat
def lpc (e : Ex) (d : Nat) : Nat := (wget e.lp (8 + d)).toNat

/-- LOOP_END (03 R91): from the innermost active loop outwards, the next address and the loop state. -/
def loopEnd (seq : Nat) : Nat → Ex → Nat × Ex
  | 0, e => (seq, e)
  | fuel + 1, e =>
    let d := e.ldepth - 1
    if e.ldepth = 0 ∨ lpe e d ≠ e.pc then (seq, e)
    else
      let c := lpc e d - 1
      let e := { e with lp := wput (8 + d) (wd c) e.lp }
      if 0 < c then (lps e d, e) else loopEnd seq fuel { e with ldepth := d }

/-- A taken branch ends the loops whose bodies do not hold its target (03 R92). -/
def leaveLoops (tgt : Nat) : Nat → Ex → Ex
  | 0, e => e
  | fuel + 1, e =>
    let d := e.ldepth - 1
    if e.ldepth = 0 ∨ (lps e d ≤ tgt ∧ tgt ≤ lpe e d) then e else leaveLoops tgt fuel { e with ldepth := d }

/-- The instruction stands at the LPE of an active loop, where no control instruction may stand (03 R90). -/
def atLoopEnd (e : Ex) : Bool := (List.range e.ldepth).any (fun d => lpe e d == e.pc)

/-! ### Issue -/

/-- Writes whose distance is reached become visible before the instruction reads (03 R94). -/
def openDistances (e : Ex) : Ex :=
  let lpNow := e.lpPend.filter (fun x => x.visible ≤ e.n)
  let imNow := e.imPend.filter (fun x => x.visible ≤ e.n)
  let scNow := e.schPend.filter (fun x => x.visible ≤ e.n)
  { e with
    lp := lpNow.foldl (fun t x => wput x.key x.value t) e.lp
    lpPend := e.lpPend.filter (fun x => e.n < x.visible)
    outw := imNow.foldr (fun x l => (x.key, x.value) :: l.filter (fun y => y.1 != x.key)) e.outw
    imPend := e.imPend.filter (fun x => e.n < x.visible)
    schSnap := scNow.foldl (fun t x => wput x.key x.value t) e.schSnap
    schPend := e.schPend.filter (fun x => e.n < x.visible)
    wrote := [] }

/-- One pending load written to its register. -/
def landLoad (e : Ex) (l : PLoad) : Ex :=
  if l.target < 16 then { e with w := wput l.target l.value e.w }
  else
    let m := BitVec.ofNat 8 (2 ^ (l.target - 16))
    { e with p := if l.value = 0#48 then e.p &&& ~~~m else e.p ||| m }

/-- Loads that land as this instruction completes; one whose register the instruction itself wrote is discarded (03
R93). -/
def landLoads (e : Ex) : Ex :=
  let now := e.loads.filter (fun l => l.landAt ≤ e.n && !e.wrote.contains l.target)
  { now.foldl landLoad e with loads := e.loads.filter (fun l => e.n < l.landAt) }

/-- Completion: loads land, the loop end acts where the instruction goes on in sequence, the distances move on. -/
def retire (len : Nat) (tgt : Option Nat) (cyc : Nat) (e : Ex) : Ex :=
  let e := landLoads e
  let (pc, e) := match tgt with
    | some t => (t, e)
    | none => loopEnd ((e.pc + len) % 2 ^ 22) 4 e
  { e with pc, n := e.n + 1, cycles := e.cycles + cyc }

/-- The budget in cycles of task k; 0 for none (05 R139). -/
def budgetOf (s : State) (k : Nat) : Nat := 1000 * fld (taskEnt s k).lim 47 24

/-- A syllable with a single-bit error is corrected on use, counted and written as 0x0302 (03 R101); its place in the program
store is BASE of CSEGD, which is the machine's own, and its offset (log 95). -/
def correctSyl (t pc : Nat) (s : State) : State :=
  if s.core.codeSoft.contains (t * 2 ^ 22 + pc) then
    let n := s.core.codeCorr + 1
    gln 0x0302 2 t ((Config.codeBase t).toNat + pc : Nat) n { s with core := { s.core with codeSoft := s.core.codeSoft.filter (· != t * 2 ^ 22 + pc), codeCorr := n } }
  else s

/-- Every syllable of an instruction of len syllables at pc is used. -/
def correctCode (t pc len : Nat) (s : State) : State := (List.range len).foldl (fun s j => correctSyl t (pc + j) s) s

/-- The decode-stage code check: EX and LIMIT of CSEG (03 R87). -/
def fetchOk (e : Ex) (len : Nat) : Bool :=
  let c := e.segd.getD 8 0#48
  bit c 47 && e.pc + len ≤ fld c 22 0

/-- The instruction of task k at e issues with guard g, length len and effect body (03 R99, 05 R139). -/
def issueEx (k len : Nat) (g : Bool) (body : Nat → Ex → State → KvRes) (e : Ex) (s : State) : State :=
  let budget := budgetOf s k
  let fits := fun c => budget == 0 || e.cycles + c ≤ budget
  if !g then
    if fits 1 then setEx k (some (retire len none 1 e)) s else setEx k (some { e with overBudget := true }) s
  else match body k e s with
    | .ok e' s' tgt cyc =>
      if fits cyc then setEx k (some (retire len tgt cyc e')) s' else setEx k (some { e with overBudget := true }) s
    | .trap c p => if fits 1 then taskTrap k e c p s else setEx k (some { e with overBudget := true }) s

/-- The execution that core c is running and whose next instruction it may issue: one beyond its budget issues nothing more. -/
def issuing (c : Nat) (s : State) : Option (Nat × Ex) :=
  match coreTask s c with
  | none => none
  | some k => match taskEx s k with
    | none => none
    | some e => if e.phase ≠ 1 ∨ e.overBudget then none else some (k, openDistances e)

/-- The core o.core issues row i, where that is what the code at PC spells (log 96), with effect body: the decode-stage checks,
the guard, the effect (03 R99). -/
def kvIssue (i : Kv → Instr) (body : Kv → Nat → Ex → State → KvRes) (o : Kv) (s : State) : State :=
  match issuing o.core.val s with
  | none => s
  | some (k, e) =>
    let len := codeLenAt s e.tenant e.pc
    if kvAt o.core e s ≠ some (i o) then s
    else
      let s := issueCycle o.core.val s
      if !fetchOk e len then taskTrap k e trCodeLimit e.pc s
      else issueEx k len (guardTrue o e) (body o) e (correctCode e.tenant e.pc len s)

/-- The exec form of an instruction. -/
def kvRun (i : Kv → Instr) (body : Kv → Nat → Ex → State → KvRes) (o : Kv) (s : State) : Host.Outcome State Fault Refusal :=
  .next (kvIssue i body o s)

/-- Syllables s0, s1, s2 are those of the instruction at PC, as many as it has. -/
def spelled (s0 s1 s2 : Nat) (e : Ex) (s : State) : Bool :=
  s0 == sylAt s e 0 && (sylLen s0 == 1 || s1 == sylAt s e 1) && (sylLen s0 ≤ 2 || s2 == sylAt s e 2)

/-- ILLEGAL_INSTRUCTION (03 R87, R99): the syllables at PC do not decode, or hold an uncorrectable error, when what was read
need not be what the code holds; the guard does not matter. Syllables that decode are another row's. -/
def execIllegalInstruction (core : Fin 8) (s0 s1 s2 : BitVec 14) (ecc : Bool) (s : State) : Host.Outcome State Fault Refusal :=
  match issuing core.val s with
  | none => .next s
  | some (k, e) =>
    let len := sylLen s0.toNat
    if !ecc && !spelled s0.toNat s1.toNat s2.toNat e s then .next s
    else if !fetchOk e len then .next (taskTrap k e trCodeLimit e.pc s)
    else if ecc then .next (taskTrap k e trEccCode 0 (correctCode e.tenant e.pc len s))
    else if syllablesLegal s0.toNat s1.toNat s2.toNat then .next s
    else .next (taskTrap k e trIllegal 0 (correctCode e.tenant e.pc len s))

/-- An effect on registers alone, from the values the instruction reads. -/
def pureKv (f : Kv → Ex → Ex) : Kv → Nat → Ex → State → KvRes := fun o _ e s => kvOk (f o e) s

end Sys2Proof.Machine
end

