-- ==== Sys2Proof/Machine/KvDevice.lean ====
section
/-! DEFINITION. Device operations of the KV48 (04 R120 to R123, 03 R95, R96, R103), but for CE_START, which crosses an
overlay boundary. -/

namespace Sys2Proof.Machine

/-- The object that Ws names by its low b bits (R120): its number, then the other values of the operation (bad gives the first
one that is wrong), then the rights, in the order of 03 Table 3-11. -/
def devObj (o : Kv) (e : Ex) (b : Nat) (bad : Nat → Option Nat) (owner : Nat → Nat) (f : Nat → KvRes) : KvRes :=
  let v := (rW e o.s).toNat
  if 2 ^ b ≤ v then .trap trBadValue v
  else match bad v with
    | some x => .trap trBadValue x
    | none => if owner v ≠ e.tenant then .trap trDeviceRights v else f v

/-- No further value to check. -/
def anyValue : Nat → Option Nat := fun _ => none

/-! ### Control engine (R121) -/

/-- Samples outstanding for the limit of eight: those with a record of Table 3-12, started and with their distance still open.
The spec does not define the word (DESIGN CHOICE, log 98). -/
def ceOutstanding (e : Ex) : Nat := e.started.countP (fun x => e.n < x.at_ + x.dist)

/-- CE.START by task k (R121). A loop that no configuration has set has trigger 0, the scan, and never computes (08 R206): its
start is no sample, so it is not recorded (DESIGN CHOICE, log 98). -/
def ceStartKv (o : Kv) (k : Nat) (e : Ex) (s : State) : KvRes :=
  devObj o e 9 (fun n => if ceTrig (getLoop s n) ≠ 0 ∨ 8 ≤ ceOutstanding e then some n else none)
      (fun n => ceTenant (getLoop s n)) fun n =>
    if !(getLoop s n).isSet then kvOk e s
    else
      let d := ceDistance s n
      let (q, s) := ceStartScan n k e s
      kvOk { e with started := ⟨n, q, e.n, d⟩ :: e.started } s

/-- The result of loop n that stands in the execution before a new sample is bound: the sample bound last, else the
result at its release. -/
def cePrevious (e : Ex) (n : Nat) : CeRes :=
  (e.bound.find? (fun r => r.loop == n)).getD (tget ⟨n, [], 0#48⟩ e.ceSnap n)

/-- The binding of a sample: the execution afterwards. -/
def ceBind (e : Ex) (n : Nat) (r : CeRes) : Ex :=
  { e with bound := r :: e.bound.filter (fun r => r.loop != n), started := e.started.filter (fun x => x.loop != n) }

/-- The result that a CE.RD of loop n returns parts of; a late sample gives the previous one and 0x0303 (03 R96). -/
def ceReadKv (k n : Nat) (e : Ex) (s : State) : CeRes × Ex × State :=
  let prev := cePrevious e n
  match e.started.find? (fun x => x.loop == n) with
  | none => (prev, e, s)
  | some x =>
    if e.n < x.at_ + x.dist then (prev, e, s)
    else match e.done.find? (fun r => r.loop == n && fld r.status 47 32 == x.seq) with
      | some r => (r, ceBind e n r, s)
      | none =>
        (prev, ceBind e n prev,
          gln 0x0303 2 e.tenant (k * 2 ^ 32 + n : Nat) (fld prev.status 47 32) { s with ce := { s.ce with late := s.ce.late + 1 } })

/-- Part p of a result of a loop with outs outputs: output p, 0 at or above outs, or the status word. -/
def cePart (outs : Nat) (r : CeRes) (p : Nat) : Word :=
  if p = 8 then r.status else if outs ≤ p then 0#48 else r.ua.getD p 0#48

/-- CE.RD (R121). Where Ws has a high bit set and IMM an unused one, the trap carries Ws: the spec does not say which value is
the offending one (R120; DESIGN CHOICE, log 99). -/
def execCeRd (o : Kv) (s : State) : Host.Outcome State Fault Refusal :=
  kvRun .ceRd (fun o k e s =>
    devObj o e 9 (fun _ => if 9 ≤ o.imm.toNat then some o.imm.toNat else none) (fun n => ceTenant (getLoop s n)) fun n =>
      let (r, e, s) := ceReadKv k n e s
      kvOk (wW o.d (cePart (ceP (getLoop s n)) r o.imm.toNat) e) s) o s

/-! ### Scheduler (R122) -/

/-- The status word of a slot as it becomes visible to SCH.STAT at distance 4 (03 Table 3-8). -/
def schSeen (n : Nat) (e : Ex) (s : State) : Ex := { e with schPend := e.schPend ++ [⟨n, (getSlot s n).sts, e.n + 4⟩] }

/-- SCH.ARM. -/
def execSchArm (o : Kv) (s : State) : Host.Outcome State Fault Refusal :=
  kvRun .schArm (fun o _ e s => devObj o e 11 anyValue (fun n => slotTenant (getSlot s n)) fun n =>
    let s := slotOp (o.core.val + 1) n (some (rW e o.t)) s
    kvOk (schSeen n e s) s) o s

/-- SCH.CANCEL. -/
def execSchCancel (o : Kv) (s : State) : Host.Outcome State Fault Refusal :=
  kvRun .schCancel (fun o _ e s => devObj o e 11 anyValue (fun n => slotTenant (getSlot s n)) fun n =>
    let s := slotOp (o.core.val + 1) n none s
    kvOk (schSeen n e s) s) o s

/-- SCH.STAT (03 R95). -/
def execSchStat (o : Kv) (s : State) : Host.Outcome State Fault Refusal :=
  kvRun .schStat (fun o _ e s => devObj o e 11 anyValue (fun n => slotTenant (getSlot s n)) fun n =>
    kvOk (wW o.d (wget e.schSnap n) e) s) o s

/-! ### Posts (R123) -/

/-- A post of source src is held for the commit; the 17th traps, and so does a source that the tenant may not post, in the
order of 03 Table 3-11. -/
def addPost (src : Nat) (owned : Bool) (e : Ex) (s : State) : KvRes :=
  if 16 ≤ e.posts.length then .trap trBadValue src
  else if !owned then .trap trDeviceRights src
  else kvOk { e with posts := e.posts ++ [src] } s

/-- EVT.POST: the doorbell of the task's own tenant, or any for T0. -/
def execEvtPost (o : Kv) (s : State) : Host.Outcome State Fault Refusal :=
  kvRun .evtPost (fun o _ e s =>
    let v := (rW e o.s).toNat
    if 32 ≤ v then .trap trBadValue v else addPost (320 + v) (e.tenant == 0 || v == e.tenant) e s) o s

/-- SWEV: a software event of the task's tenant. -/
def execSwev (o : Kv) (s : State) : Host.Outcome State Fault Refusal :=
  kvRun .swev (fun o _ e s =>
    let v := o.imm.toNat
    if 16 ≤ v then .trap trBadValue v else addPost (368 + v) (evtOwner s (368 + v) == e.tenant) e s) o s

end Sys2Proof.Machine
end

