-- ==== Sys2Proof/Machine/TaskMb.lean ====
section
/-! DEFINITION. The commands of tasks, modes, forcing and online change (05 R125, R126, R145 to R160). -/

namespace Sys2Proof.Machine

/-! ### Modes (R143, R145, R146) -/

/-- A mode request of a scope: it starts a transition, waits behind one in progress, or is refused. -/
def modeRequest (scope m options ch : Nat) (s : State) : MbR := do
  let r : Trans := ⟨m, options == 1, 0, some ch⟩
  if (tget none s.task.trans scope).isSome then
    defer { s with task := { s.task with queued := tupd [] scope (· ++ [r]) s.task.queued } }
  else
    need (transOk (scopeMode s scope) m) rcBadState
    defer { s with task := { s.task with trans := tput none scope (some r) s.task.trans } }

def mbModeSet (t ch : Nat) (p : Bytes) (s : State) : MbR := do
  perm (t == 0)
  lenIs p 2
  let m := u8 p 0
  let listed := 1 ≤ m && m ≤ 3 && u8 p 1 ≤ 1
  stSel listed s ((tget none s.task.trans 32).isSome || transOk s.task.dev m)
  par listed
  modeRequest 32 m (u8 p 1) ch s

def mbTenantModeSet (t ch : Nat) (p : Bytes) (s : State) : MbR := do
  let n := u8 p 0
  perm (t == 0 || short p 1 || n == t)
  lenIs p 3
  let m := u8 p 1
  let listed := 1 ≤ m && m ≤ 3 && u8 p 2 ≤ 1
  stSel listed s (32 ≤ n || (tget none s.task.trans n).isSome || transOk (tenMode s n) m)
  par (n < 32 && listed)
  modeRequest n m (u8 p 2) ch s

/-! ### Task entries (R124 to R126, R155) -/

/-- An entry as accepted: with what waits for the next release. -/
def taskAccepted (e : TaskEnt) : Word × Word × Word := e.next.getD (e.cfg, e.par, e.lim)

/-- Check 9 of a task command: T0, or the tenant of a defined task. -/
def taskOwner (s : State) (t k : Nat) : Bool := t == 0 || (taskDefined s k && taskTenant s k == t)

def mbTaskGet (t _ch : Nat) (p : Bytes) (s : State) : MbR := do
  let k := be p 0 2
  perm (short p 2 || taskOwner s t k)
  lenIs p 2
  par (k < 256)
  let e := taskEnt s k
  reply (wB e.cfg ++ wB e.par ++ wB e.lim ++ wB e.stat) s

def mbTaskStats (t _ch : Nat) (p : Bytes) (s : State) : MbR := do
  let k := be p 0 2
  perm (short p 2 || taskOwner s t k)
  lenIs p 3
  need (u8 p 2 != 1 || (!updating s && !pairRefuses s)) rcBadState
  par (k < 256 && u8 p 2 ≤ 1)
  let e := taskEnt s k
  reply (wB e.stat) (if u8 p 2 = 1 then updTask k (fun e => { e with stat := 0#48 }) s else s)

/-- PRIO_TOP and CORES of a tenant (Table 5-5). -/
def tenSched (s : State) (t : Nat) : Word := tget 0xFF#48 s.task.sched t

/-- PRIO and CORES of an entry keep to a TEN_SCHED (R125). -/
def schedOk (sched cfg : Word) : Bool :=
  fld sched 11 8 ≤ fld cfg 43 40 && fld cfg 39 32 != 0 && (fld cfg 39 32 &&& fld sched 7 0) == fld cfg 39 32

/-- The bits that TASK_PAR has for a kind (Table 5-2). -/
def parMask (kind : Nat) : Word :=
  match kind with
  | 1 => 0xFFFFC003FFFF#48
  | 2 => 0xFFFFC00001FF#48
  | 3 => 0xC00003FFFFFF#48
  | _ => 0xFFFFFF83FFFF#48

/-- TASK_PAR and TASK_LIM lie in the ranges of Tables 5-2 and 5-3. -/
def taskParOk (kind : Nat) (p l : Word) : Bool :=
  5 ≤ fld l 17 0 && fld l 17 0 ≤ 200000 &&
  match kind with
  | 1 => 5 ≤ fld p 17 0 && fld p 17 0 ≤ 200000 && fld p 47 30 < fld p 17 0 && fld l 17 0 ≤ fld p 17 0
  | 2 => fld p 47 30 ≤ 200000 && fld p 8 0 ≤ 383
  | 3 => fld p 47 46 != 0 && 64 ≤ fld p 25 0 && fld p 25 0 ≤ 64000000
  | 4 => fld p 17 0 == 0 || (5 ≤ fld p 17 0 && fld p 17 0 ≤ 200000)
  | _ => false

def ceilDiv (a b : Nat) : Nat := (a + b - 1) / b

/-- ¾ of a deadline of d steps at 1.0 GHz, in budget units. -/
def threeQuarters (d : Nat) : Nat := ceilDiv (75 * d) 2

/-- TASK_PAR and TASK_LIM that the basic parameters of task k derive (Table 5-6). -/
def taskDerive (kind k : Nat) (p : Word) : Word × Word :=
  let lim := fun (b d : Nat) => wd (b * 2 ^ 24 + d)
  match kind with
  | 1 =>
    let per := fld p 17 0
    (setFld p 47 30 (k % per), lim (threeQuarters per) per)
  | 2 => (setFld p 47 30 0, lim 5000 200)
  | 3 =>
    let d := Nat.max 5 (ceilDiv (fld p 25 0 * 9) 3200)
    (p, lim (threeQuarters d) d)
  | _ =>
    let n := fld p 46 39 + 1
    let d := ceilDiv (n * 1000) 3
    (setFld p 17 0 (n * 400), lim (threeQuarters d) d)

/-- The entry that a request of `MB_TASK_SET` asks for. -/
def taskRequest (s : State) (k : Nat) (p : Bytes) : Word × Word × Word :=
  let (c, _, _) := taskAccepted (taskEnt s k)
  if u8 p 2 = 0 then
    let kind := fld c 47 45
    let (a, l) := taskDerive kind k (beW p 4 &&& parMask kind)
    (setBit (setFld (setFld c 43 40 (u8 p 3)) 39 32 (fld (tenSched s (fld c 31 27)) 7 0)) 44 false, a, l)
  else
    let w := beW p 3
    let c := setBit (setFld (setFld (setFld c 47 45 (fld w 47 45)) 43 40 (fld w 43 40)) 39 32 (fld w 39 32)) 44 true
    (c, beW p 9 &&& parMask (fld w 47 45), beW p 15 &&& 0xFFFFFF03FFFF#48)

/-- SOURCE of an entry of kind event. -/
def entrySource (cfg par : Word) : Option Nat := if fld cfg 47 45 = 2 then some (fld par 8 0) else none

/-- TASK and BOUND of the sources follow a change of a task's SOURCE (01 R31). -/
def bindSource (k : Nat) (old new : Option Nat) (s : State) : State :=
  if old = new then s
  else
    let s := match old with
      | some n => setEvtSrc n (setBit (evtSrc s n) 23 false) s
      | none => s
    match new with
    | some n => setEvtSrc n (setBit (setBit (setFld (evtSrc s n) 31 24 k) 23 true) 22 true) s
    | none => s

/-- The first instant of a cyclic task's grid at or after now, in ns of pair time. -/
def nextGrid (s : State) (par : Word) : Nat :=
  match s.task.gridA with
  | none => 0
  | some a =>
    let per : Int := (fld par 17 0 * 50000 : Nat)
    let o : Int := (a + fld par 47 30 * 50000 : Nat)
    (ptime s + (o - ptime s) % per).toNat

/-- A task entry accepted: at once where KIND changes (no execution exists), else from the next release (R155). -/
def setTaskEntry (k : Nat) (n : Word × Word × Word) (s : State) : State :=
  let e := taskEnt s k
  let (c, a, _) := taskAccepted e
  let s := bindSource k (entrySource c a) (entrySource n.1 n.2.1) s
  if fld c 47 45 = fld n.1 47 45 then
    updTask k (fun e => { e with next := some n, nextAt := if taskKind e = 1 then nextGrid s e.par else 0 }) s
  else updTask k (fun e => { e with cfg := n.1, par := n.2.1, lim := n.2.2, next := none, due := 0, posHold := none, posSeen := s.tb.pos,
                                    cycSeen := none, lastRel := none }) s

def mbTaskSet (t _ch : Nat) (p : Bytes) (s : State) : MbR := do
  let k := be p 0 2
  perm (short p 2 || taskOwner s t k)
  let n := taskRequest s k p
  let whole := (u8 p 2 == 0 && p.length == 10) || (u8 p 2 == 1 && p.length == 21)
  let src := entrySource n.1 n.2.1
  let tn := taskTenant s k
  perm (!whole || !taskDefined s k || (match src with | some i => 384 ≤ i || evtOwner s i == tn | none => true))
  formLen p 2 [(0, 10), (1, 21)]
  let kind := fld n.1 47 45
  let listed := levelOk p 2 && kind ≤ 4
  stSel listed s (!taskDefined s k || kind == taskKind (taskEnt s k) || effMode s tn == 1)
  par (taskDefined s k && listed)
  par (u8 p 2 == 1 || u8 p 3 ≤ 15)
  par (taskParOk kind n.2.1 n.2.2 && schedOk (tenSched s tn) n.1)
  par (match src with | some i => !bit (evtSrc s i) 23 || fld (evtSrc s i) 31 24 == k | none => true)
  done (gln 0x030C 2 tn k (u8 p 2) (setTaskEntry k n s))

/-- MB_TENANT_SCHED_SET (R125). A task entry that is accepted and still waits for its release counts with its new CFG: the spec does not
say which of the two is judged (DESIGN CHOICE, log 115). -/
def mbTenantSchedSet (t _ch : Nat) (p : Bytes) (s : State) : MbR := do
  perm (t == 0)
  lenIs p 3
  let n := u8 p 0
  stChg s (32 ≤ n || effMode s n == 1 || effMode s n == 4)
  let w := wd (u8 p 1 * 256 + u8 p 2)
  par (n < 32 && u8 p 1 ≤ 15)
  par ((List.range 256).all (fun k => !(taskDefined s k && taskTenant s k == n) || schedOk w (taskAccepted (taskEnt s k)).1))
  done { s with task := { s.task with sched := tput 0xFF#48 n w s.task.sched } }

def mbRetainSet (t _ch : Nat) (p : Bytes) (s : State) : MbR := do
  lenIs p 5
  stSel (levelOk p 0) s true
  let i := be p 1 2
  let k := be p 3 2
  let ex := u8 p 0 == 1
  par (levelOk p 0 && 1 ≤ i && i ≤ 6000)
  par (!ex || k == 0xFFFF || (taskDefined s k && taskTenant s k == t))
  done (updRet t (fun r => { r with interval := i, expert := ex, task := if ex && k != 0xFFFF then some k else none }) s)

/-! ### Forcing (R148 to R150) -/

/-- The host may force or release a word: it lies in a plot the tenant owns. -/
def forceOwner (s : State) (t w : Nat) : Bool := w < 20480 && ownRead s.img.own t w

def laneOk (l : Nat) : Bool := l < 48 || l == 0xFF

/-- The lane as Gleaner 0x0309 and 0x030A carry it. -/
def laneCode (l w : Nat) : Nat := (if l = 0xFF then 63 else l) * 65536 + w

def mbForceSet (t _ch : Nat) (p : Bytes) (s : State) : MbR := do
  let w := be p 0 2
  perm (short p 2 || forceOwner s t w)
  lenIs p 13
  let l := u8 p 2
  stSel (laneOk l) s (running s t)
  let v := beW p 3
  let tmo := be p 9 4
  par (laneOk l && tmo ≤ 86400)
  let old := tget none s.task.force w
  need (old.isSome || (s.task.force.filter (fun e => e.2.isSome)).length < 512) rcNoResource
  let f := old.getD ⟨0#48, 0#48, imgWord s w, 0⟩
  let f := if l = 0xFF then { f with mask := BitVec.allOnes 48, value := v }
    else { f with mask := setBit f.mask l true, value := setBit f.value l (bit v l) }
  let f := { f with until_ := if tmo = 0 then 0 else s.clk + tmo * 1000000000 }
  done (gln 0x0309 3 t (laneCode l w) f.value.toNat { s with task := { s.task with force := tput none w (some f) s.task.force } })

def mbForceClear (t _ch : Nat) (p : Bytes) (s : State) : MbR := do
  let w := be p 0 2
  perm (short p 2 || forceOwner s t w)
  lenIs p 3
  let l := u8 p 2
  stSel (laneOk l) s true
  par (laneOk l)
  match tget none s.task.force w with
  | none => done s
  | some f =>
    if l = 0xFF then done (forceRemove w 0 s)
    else if !bit f.mask l then done s
    else
      let g := { f with mask := setBit f.mask l false }
      done (gln 0x030A 3 t (laneCode l w) 0 (restoreWord w f (if g.mask = 0#48 then none else some g) s))

def mbForceList (t _ch : Nat) (p : Bytes) (s : State) : MbR := do
  lenIs p 2
  let seen := s.task.force.filterMap (fun e => match e.2 with
    | some f => if mayRead s t e.1 then some (e.1, f) else none
    | none => none)
  let rs := (seen.drop (be p 0 2)).take 64
  reply (toBe 2 rs.length ++ rs.flatMap (fun e =>
    toBe 2 e.1 ++ wB e.2.mask ++ wB e.2.value ++ toBe 4 (ceilDiv (e.2.until_ - s.clk) 1000000000))) s

/-! ### Online change (R151, R152) -/

/-- Class and offset of a handle; none where a bit that must be 0 is not. -/
def handleOf (h : Nat) : Option (Nat × Nat) :=
  if h / 2 ^ 30 < 3 ∧ h / 2 ^ 21 % 512 = 0 then some (h / 2 ^ 30, h % 2 ^ 21) else none

/-- A handle of tenant t names a word of its segments. -/
def handleOk (s : State) (t h : Nat) : Bool :=
  match handleOf h with
  | some (c, o) => o < (let g := segInfo s t; match c with | 0 => g.l0 | 1 => g.l2 | _ => g.l1)
  | none => false

/-- One value of a tenant by handle. -/
def valueAt (s : State) (t h : Nat) : Word :=
  match handleOf h with
  | some (0, o) => wget s.core.data (dsKey 0 t o)
  | some (1, o) => wget s.core.data (dsKey 2 t o)
  | some (_, o) => wget s.core.consts (dsKey 1 t o)
  | none => 0#48

def putValue (t : Nat) (e : Nat × Word) (s : State) : State :=
  match handleOf e.1 with
  | some (0, o) => { s with core := { s.core with data := wput (dsKey 0 t o) e.2 s.core.data } }
  | some (1, o) => { s with core := { s.core with data := wput (dsKey 2 t o) e.2 s.core.data } }
  | some (_, o) => { s with core := { s.core with consts := wput (dsKey 1 t o) e.2 s.core.consts } }
  | none => s

/-- The step of a value command takes place: its reply payload, and the state after. -/
def valueStep (t : Nat) (j : ValueJob) (s : State) : Bytes × State :=
  let sc := if j.anchor = 0xFFFF then 0#48 else (taskEnt s j.anchor).scancnt
  if j.read then (j.entries.flatMap (fun e => wB (valueAt s t e.1)), s)
  else
    let s' := j.entries.foldl (fun s e => putValue t e s) s
    (wB sc, gln 0x030B (if j.anchor = 0xFFFF then 3 else 2) t (j.anchor * 256 + j.entries.length : Nat) sc.toNat s')

/-- A value command: applied at once where its anchor is idle, else at the end of the anchor's execution. -/
def valueJob (t ch : Nat) (j : ValueJob) (s : State) : MbR := do
  par (1 ≤ j.entries.length && j.entries.length ≤ 64)
  par (if j.anchor = 0xFFFF then j.entries.all (fun e => (handleOf e.1).map (·.1) == some 2)
    else taskDefined s j.anchor && taskTenant s j.anchor == t)
  par (j.entries.all (fun e => handleOk s t e.1))
  if j.anchor = 0xFFFF || (taskEx s j.anchor).isNone then
    let (b, s') := valueStep t j s
    reply b s'
  else defer { s with task := { s.task with jobs := tput none ch (some j) s.task.jobs } }

def mbValueWrite (t ch : Nat) (p : Bytes) (s : State) : MbR := do
  let c := u8 p 2
  need (3 ≤ p.length && p.length == 3 + 10 * c) rcBadLength
  stChg s true
  valueJob t ch ⟨be p 0 2, (items p 3 10 c).map (fun b => (be b 0 4, beW b 4)), false⟩ s

def mbValueRead (t ch : Nat) (p : Bytes) (s : State) : MbR := do
  let c := u8 p 2
  need (3 ≤ p.length && p.length == 3 + 4 * c) rcBadLength
  valueJob t ch ⟨be p 0 2, (items p 3 4 c).map (fun b => (beVal b, 0#48)), true⟩ s

/-- The payload of a value write, as the primary carries it. -/
def valuePayload (j : ValueJob) : Bytes :=
  toBe 2 j.anchor ++ toBe 1 j.entries.length ++ j.entries.flatMap (fun e => toBe 4 e.1 ++ wB e.2)

/-- VALUE_WRITE_APPLY: the first instant at which the anchor has no released and unfinished execution (R151). -/
def execValueWriteApply (ch : Fin 16) (s : State) : Host.Outcome State Fault Refusal :=
  match tget none s.task.jobs ch.val with
  | none => .next s
  | some j =>
    if (taskEx s j.anchor).isSome then .next s
    else
      let t := (chanCfg s ch.val).tenant
      let (b, s') := valueStep t j { s with task := { s.task with jobs := tput none ch.val none s.task.jobs } }
      let s' := if j.read then s' else pairSend (.change t 0x0401 (valuePayload j)) s'
      .next (setResult ch.val rcOk b s')

def execMbModeSet (ch : Fin 16) (p : Bytes) (s : State) := runMb ch 0x0201 mbModeSet p s
def execMbTenantModeSet (ch : Fin 16) (p : Bytes) (s : State) := runMb ch 0x0202 mbTenantModeSet p s
def execMbTaskGet (ch : Fin 16) (p : Bytes) (s : State) := runMb ch 0x0203 mbTaskGet p s
def execMbTaskSet (ch : Fin 16) (p : Bytes) (s : State) := runMb ch 0x0204 mbTaskSet p s
def execMbTaskStats (ch : Fin 16) (p : Bytes) (s : State) := runMb ch 0x0205 mbTaskStats p s
def execMbTenantSchedSet (ch : Fin 16) (p : Bytes) (s : State) := runMb ch 0x0206 mbTenantSchedSet p s
def execMbRetainSet (ch : Fin 16) (p : Bytes) (s : State) := runMb ch 0x0207 mbRetainSet p s
def execMbForceSet (ch : Fin 16) (p : Bytes) (s : State) := runMb ch 0x0320 mbForceSet p s
def execMbForceClear (ch : Fin 16) (p : Bytes) (s : State) := runMb ch 0x0321 mbForceClear p s
def execMbForceList (ch : Fin 16) (p : Bytes) (s : State) := runMb ch 0x0322 mbForceList p s
def execMbValueWrite (ch : Fin 16) (p : Bytes) (s : State) := runMb ch 0x0401 mbValueWrite p s
def execMbValueRead (ch : Fin 16) (p : Bytes) (s : State) := runMb ch 0x0402 mbValueRead p s

end Sys2Proof.Machine
end

