-- ==== Sys2Proof/Machine/Container.lean ====
section
/-! DEFINITION. The container of stored regions, configuration items, and the program image: its form, its checks and its
loading (16 R413 to R416, 05 R124, 17 R424). -/

namespace Sys2Proof.Machine

/-! ### Sections (16 Tables 16-11 to 16-13) -/

/-- A section: KIND, TENANT, body. -/
structure Sect where
  kind : Nat
  tenant : Nat
  body : Bytes
deriving DecidableEq, Repr

/-- n rounded up to a multiple of 8. -/
def pad8 (n : Nat) : Nat := (n + 7) / 8 * 8

/-- n sections that fill the bytes exactly. -/
def sectsOf : Nat → Bytes → Option (List Sect)
  | 0, p => if p = [] then some [] else none
  | n + 1, p =>
    let len := be p 4 4
    let body := (p.drop 16).take len
    if p.length < 16 + pad8 len || 32 ≤ u8 p 2 || u8 p 3 != 0 || be p 12 4 != 0 || be p 8 4 != crc32 body ||
        ((p.drop (16 + len)).take (pad8 len - len)).any (· != 0#8) then none
    else (sectsOf n (p.drop (16 + pad8 len))).map (⟨be p 0 2, u8 p 2, body⟩ :: ·)

/-- Strictly ascending in KIND, then TENANT. -/
def sectsRise : List Sect → Bool
  | a :: b :: l => decide (a.kind * 32 + a.tenant < b.kind * 32 + b.tenant) && sectsRise (b :: l)
  | _ => true

/-- KINDs of a region (Table 16-13). -/
def sectKinds (region : Nat) : List Nat := if region = 2 then [0x101, 0x102, 0x103, 0x104, 0x105, 0x106] else [1]

/-- Magic of a region's content (Table 16-11). -/
def contentMagic (region : Nat) : Nat := if region = 2 then 0x50494D47 else if region = 3 then 0x42434647 else 0x4F564C59

/-- The items of an ITEMS body (R414). -/
def itemsOf (tenant : Nat) : Nat → Bytes → Option (List Item)
  | _, [] => some []
  | 0, _ => none
  | n + 1, p =>
    let l := be p 2 2
    if p.length < 4 + l then none
    else (itemsOf tenant n (p.drop (4 + l))).map (⟨tenant, be p 0 2, (p.drop 4).take l⟩ :: ·)

/-- The items of a section, where its body has the form of items. -/
def sectItems (x : Sect) : Option (List Item) := itemsOf x.tenant x.body.length x.body

/-- The sections of a content whose form MB_STORE_END accepts (R413). -/
def contentOf (region : Nat) (c : Bytes) : Option (List Sect) :=
  if c.length < 16 || be c 0 4 != contentMagic region || u8 c 4 != 1 || (region != 4 && be c 5 2 != 0) || u8 c 7 != 0 ||
      be c 10 2 != 0 || be c 12 4 != crc32 (c.drop 16) then none
  else match sectsOf (be c 8 2) (c.drop 16) with
    | none => none
    | some xs => if sectsRise xs && xs.all (fun x => (sectKinds region).contains x.kind && (x.kind != 1 || (sectItems x).isSome)) then some xs
      else none

/-- The items of a content, section T0 first, in stored order. -/
def contentItems (c : Bytes) (region : Nat) : List Item := ((contentOf region c).getD []).flatMap (fun x => (sectItems x).getD [])

/-- A section as it is stored. -/
def sectBytes (x : Sect) : Bytes :=
  toBe 2 x.kind ++ toBe 1 x.tenant ++ [0#8] ++ toBe 4 x.body.length ++ toBe 4 (crc32 x.body) ++ toBe 4 0 ++ x.body ++
    List.replicate (pad8 x.body.length - x.body.length) 0#8

/-- An overlay's content, with LAYER, CODE and CHAIN of its creation (Table 16-11). -/
def ovlContent (d : OvlDesc) (xs : List Sect) : Bytes :=
  let body := xs.flatMap sectBytes
  toBe 4 (contentMagic 4) ++ [1#8] ++ toBe 1 d.layer ++ toBe 1 (b2n d.chain * 16 + d.code) ++ [0#8] ++ toBe 2 xs.length ++ toBe 2 0 ++
    toBe 4 (crc32 body) ++ body

/-! ### The parts of a program image -/

/-- A record of a TASKS section. -/
structure TaskRecord where
  task : Nat
  cfg : Word
  par : Word
  lim : Word
  ranges : List (Nat × Nat)
deriving DecidableEq, Repr

/-- Syllables of a CODE body: 2 bytes each, bits [15:14] 0. -/
def codeOf : Bytes → Option (List Nat)
  | [] => some []
  | [_] => none
  | a :: b :: l =>
    let v := a.toNat * 256 + b.toNat
    if 16384 ≤ v then none else (codeOf l).map (v :: ·)

/-- Records of an INIT body: handle and values. -/
def initOf : Nat → Bytes → Option (List (Nat × List Word))
  | _, [] => some []
  | 0, _ => none
  | n + 1, p =>
    let c := be p 4 2
    if p.length < 6 + 6 * c then none
    else (initOf n (p.drop (6 + 6 * c))).map ((be p 0 4, (items p 6 6 c).map (fun b => beW b 0)) :: ·)

/-- Records of a TASKS body. -/
def tasksOf : Nat → Bytes → Option (List TaskRecord)
  | _, [] => some []
  | 0, _ => none
  | n + 1, p =>
    let c := be p 20 2
    if p.length < 22 + 4 * c then none
    else (tasksOf n (p.drop (22 + 4 * c))).map
      (⟨be p 0 2, beW p 2, beW p 8, beW p 14, (items p 22 4 c).map (fun b => (be b 0 2, be b 2 2))⟩ :: ·)

/-- Records of a STOP body. -/
def stopOf (p : Bytes) : Option (List (Nat × Word)) :=
  if p.length % 8 != 0 then none
  else
    let l := (items p 0 8 (p.length / 8)).map (fun b => (be b 0 2, beW b 2))
    if l.all (fun e => e.1 < 20480) then some l else none

/-- A RETAIN body: layout hash and records. -/
def retainOf (t : Nat) (p : Bytes) : Option (Nat × List RetRec) :=
  let c := be p 4 2
  if p.length != 6 + 10 * c then none
  else some (be p 0 4, (items p 6 10 c).map (fun b => ⟨t, be b 0 4, be b 4 4, be b 8 2⟩))

/-- A SEGMENTS body. -/
def segOf (p : Bytes) : Option SegInfo :=
  if p.length != 20 then none
  else some { l0 := be p 0 4, l1 := be p 4 4, l2 := be p 8 4, l6 := be p 12 4, retOff := be p 16 4 }

/-- The data-store key of a handle that names a word of tenant t's segments. -/
def initKey (g : SegInfo) (t h : Nat) : Option Nat :=
  match handleOf h with
  | some (0, o) => if o < g.l0 then some (dsKey 0 t o) else none
  | some (1, o) => if o < g.l2 then some (dsKey 2 t o) else none
  | some (_, o) => if o < g.l1 then some (dsKey 1 t o) else none
  | none => none

/-- Initial values put into the image's table; none where one lies outside its segment. -/
def initPut (g : SegInfo) (t : Nat) (t0 : Tab Word) (r : Nat × List Word) : Option (Tab Word) :=
  (r.2.zip (List.range r.2.length)).foldl (fun a e => a.bind (fun tab => (initKey g t (r.1 + e.2)).map (fun k => wput k e.1 tab))) (some t0)

/-- The entry a TASKS record gives: the section's tenant, and at the basic level the derived fields (05 R126, 00 R11). -/
def recordEntry (s : State) (t : Nat) (r : TaskRecord) : Word × Word × Word :=
  let kind := fld r.cfg 47 45
  let c := setFld (r.cfg &&& 0xFFFFF83FFFFF#48) 31 27 t
  let a := r.par &&& parMask kind
  if bit c 44 then (c, a, r.lim &&& 0xFFFFFF03FFFF#48)
  else
    let (a, l) := taskDerive kind r.task a
    (setFld c 39 32 (fld (tenSched s t) 7 0), a, l)

/-- One section added to the image that is being read. -/
def progSect (s : State) (x : Sect) (p : Prog) : Option Prog :=
  let t := x.tenant
  match x.kind with
  | 0x101 => (codeOf x.body).bind (fun l =>
      if 2 ^ 22 < l.length then none
      else some { p with codeLen := tput 0 t l.length p.codeLen
                         code := p.code ++ ((l.zip (List.range l.length)).filter (fun e => e.1 != 0)).map (fun e => (t * 2 ^ 22 + e.2, e.1)) })
  | 0x102 => (segOf x.body).map (fun g => { p with seg := tput {} t g p.seg })
  | 0x103 => (initOf x.body.length x.body).bind (fun rs =>
      (rs.foldl (fun a r => a.bind (fun tab => initPut (tget {} p.seg t) t tab r)) (some p.init)).map (fun tab => { p with init := tab }))
  | 0x104 => (tasksOf x.body.length x.body).bind (fun rs =>
      rs.foldl (fun a r => a.bind (fun p =>
        if 256 ≤ r.task || tget (0#48, 0#48, 0#48) p.entries r.task != (0#48, 0#48, 0#48) then none
        else some { p with entries := tput (0#48, 0#48, 0#48) r.task (recordEntry s t r) p.entries
                           ranges := tput [] r.task r.ranges p.ranges })) (some p))
  | 0x105 => (stopOf x.body).map (fun l => { p with stop := l.foldl (fun tab e => wput e.1 e.2 tab) p.stop })
  | _ => (retainOf t x.body).map (fun r => { p with layout := tput 0 t r.1 p.layout, retain := p.retain ++ r.2 })

/-- A program image as its content gives it; none where its form is wrong. -/
def progOf (s : State) (c : Bytes) : Option Prog :=
  (contentOf 2 c).bind (fun xs =>
    let has := fun (k t : Nat) => xs.any (fun x => x.kind == k && x.tenant == t)
    let whole := xs.all (fun x => x.kind != 0x104 || (has 0x101 x.tenant && has 0x102 x.tenant && has 0x105 x.tenant))
    if !whole then none
    else (xs.foldl (fun a x => a.bind (progSect s x)) (some {})).bind (fun p =>
      if p.seg.all (fun e => e.2.l2 = 0 || has 0x106 e.1) then some { p with hash := be c 12 4, loaded := true } else none))

/-! ### Checks at loading (16 R416) -/

/-- The partitions of all tenants fit the retentive copies, apart from one another (05 R156). -/
def retFits (p : Prog) : Bool :=
  (p.seg.map (fun e => e.2.l2)).sum ≤ 32768 && p.seg.all (fun e => e.2.retOff + e.2.l2 ≤ 32768) &&
    p.seg.all (fun e => p.seg.all (fun f => e.1 == f.1 || !overlap e.2.retOff e.2.l2 f.2.retOff f.2.l2))

/-- Sources that the event tasks of an image name, with their tasks' tenants. -/
def progSources (p : Prog) : List (Nat × Nat) :=
  p.entries.filterMap (fun e => (entrySource e.2.1 e.2.2.1).map (fun n => (n, fld e.2.1 31 27)))

/-- The result code of the checks of R416; a source of another owner is refused as 01 R31 says. -/
def progCheck (s : State) (p : Prog) : Nat :=
  if !(progSources p).all (fun e => e.1 < 384 && evtOwner s e.1 == e.2) then rcNotPermitted
  else if p.entries.all (fun e => taskParOk (fld e.2.1 47 45) e.2.2.1 e.2.2.2 && schedOk (tenSched s (fld e.2.1 31 27)) e.2.1) &&
      decide ((progSources p).map (·.1)).Nodup &&
      p.ranges.all (fun e => e.2.all (fun r => (span r.1 r.2).all (inPlot s 0 (fld (tget (0#48, 0#48, 0#48) p.entries e.1).1 31 27)))) &&
      retFits p && p.entries.all (fun e => 320 ≤ (tget {} p.seg (fld e.2.1 31 27)).l6) && p.seg.all (fun e => 320 ≤ e.2.l6 && e.2.l0 ≤ 2 ^ 21 && e.2.l1 ≤ 2 ^ 21 && e.2.l6 ≤ 2 ^ 21) then rcOk
  else rcBadParam

/-! ### Loading (05 R124, 01 R31, 05 R132) -/

/-- Words of a table of initial values that lie in one segment. -/
def segPart (seg : Nat) (t : Tab Word) : Tab Word := t.filter (fun e => dsKey seg 0 0 ≤ e.1 && e.1 < dsKey seg 32 0)

/-- An image is put in force: entries, bindings, constants, initial values; SEG2 stays as it is. -/
def installProg (p : Prog) (s : State) : State :=
  let s := (List.range 384).foldl (fun s n => if bit (evtSrc s n) 23 then setEvtSrc n (setBit (evtSrc s n) 23 false) s else s) s
  let ent : Tab TaskEnt := p.entries.map (fun e => (e.1, { cfg := e.2.1, par := e.2.2.1, lim := e.2.2.2, posSeen := s.tb.pos }))
  let s := { s with
    prog := p
    task := { s.task with ent, ret := s.task.ret.map (fun e => (e.1, { e.2 with due := none, writing := none, waiting := none })) }
    core := { s.core with consts := segPart 1 p.init, data := segPart 0 p.init ++ segPart 2 s.core.data } }
  p.entries.foldl (fun s e => bindSource e.1 none (entrySource e.2.1 e.2.2.1) s) s

/-- The words of a tenant's new partition: carried where both images hold a record of the same symbol and length, else initial
(R416, 17 R424); `old` gives the words of the old partition. -/
def retCarry (p q : Prog) (t : Nat) (old : Nat → Word) : List Word :=
  (List.range (tget {} q.seg t).l2).map (fun o =>
    match q.retain.find? (fun r => r.tenant == t && r.offset ≤ o && o < r.offset + r.length) with
    | some r => match p.retain.find? (fun x => x.tenant == t && x.symbol == r.symbol && x.length == r.length) with
      | some x => old (x.offset + (o - r.offset))
      | none => wget q.init (dsKey 2 t o)
    | none => wget q.init (dsKey 2 t o))

/-- An image activated: put in force with the retentive words carried over and written to both copies. -/
def activateProg (q : Prog) (s : State) : State :=
  let p := s.prog
  let ws := fun t => retCarry p q t (fun o => wget s.core.data (dsKey 2 t o))
  let carried := (List.range 32).map (fun t => (t, ws t))
  let s := installProg q { s with core := { s.core with data := s.core.data.filter (fun e => e.1 < dsKey 2 0 0) } }
  carried.foldl (fun s e =>
    if e.2 = [] then s
    else retWriteNow e.1 e.2 (retWriteNow e.1 e.2 (putSeg2 e.1 e.2 s))) s

end Sys2Proof.Machine
end

