-- ==== Sys2Proof/Machine/CanFd.lean ====
section
/-! DEFINITION. CAN bus events and the CAN commands but for sleep and wake (12). -/

namespace Sys2Proof.Machine

/-! ### Bus events -/

/-- REC after a good frame: one less, or from above 127 to a value that ISO 11898-1 leaves between 119 and 127. -/
def recAfterGood (n : Nat) (s : State) : State :=
  let c := getCan s n
  if c.rec_ ≤ 127 then updCan n (fun c => { c with rec_ := c.rec_ - 1 }) s
  else
    let (w, s) := drawWord s
    updCan n (fun c => { c with rec_ := 119 + w.toNat % 9 }) s

/-- CAN_FRAME_RECEIVED (12 R310, R317); `sofAgo` is how long ago its start of frame was. -/
def execCanFrameReceived (n : Fin 4) (r : CanRx) (sofAgo : Nat) (s : State) : Host.Outcome State Fault Refusal :=
  let n := n.val
  let c := getCan s n
  if c.bstate != 1 && c.bstate != 2 then .next s
  else match r with
    | .error lec k =>
      .next (canJudge n c (updCan n (fun c => { c with rec_ := Nat.min 255 (c.rec_ + 1 + 8 * k), nErr := c.nErr + 1
                                                       lec := if lec.val = 0 then c.lec else lec.val }) s))
    | .frame f =>
      if f.fd && !bit c.ctl 46 then
        let s := updCan n (fun c => { c with pxe := Nat.min 255 (c.pxe + 1) }) s
        .next (gln 0x0B06 3 0 n (getCan s n).pxe s)
      else
        let s := canJudge n c (recAfterGood n (updCan n (fun c => { c with nRx := c.nRx + 1 }) s))
        .next (canRoute n f (umod 48 ((devtime s : Int) - sofAgo)) s)

/-- CAN_TX_START: the choice at the last bit of an interframe space; an error-passive node sends FD frames with ESI recessive.
The controllers of a STANDBY run in restricted operation and start nothing (15 R380). -/
def execCanTxStart (n : Fin 4) (s : State) : Host.Outcome State Fault Refusal :=
  let n := n.val
  let c := getCan s n
  if s.pair.rstate == 5 || (c.bstate != 1 && c.bstate != 2) || c.buf.any (fun e => e.2.state == 2) then .next s
  else match canChoose c with
    | none => .next s
    | some b =>
      let v := canBuf c b
      let s := updCan n (putCanBuf b { v with state := 2, attempts := v.attempts + 1, sof := devtime s, starved := false }) s
      .next (match v.frame with | some f => emit (.can n { f with esi := f.fd && canPassive c }) s | none => s)

/-- The measured loop delay of an FD frame with bit-rate switch (12 R306). -/
def canTdc (n : Nat) (f : CanFrame) (delay : Nat) (s : State) : State :=
  let c := getCan s n
  if f.fd && f.brs && bit c.dbt 25 then
    let s := updCan n (fun c => { c with tdcv := Nat.min 127 delay }) s
    if 127 < delay then gln 0x0B0A 3 0 n (fld c.dbt 47 42 * 256 + fld c.dbt 24 18 : Nat) s else s
  else s

/-- CAN_TX_ATTEMPT_END (12 R313, R314, R317, R318): a controller that sleep waits for leaves the bus here. -/
def execCanTxAttemptEnd (n : Fin 4) (e : CanTxEnd) (loopDelay : Nat) (s : State) : Host.Outcome State Fault Refusal :=
  let n := n.val
  let c := getCan s n
  match c.buf.find? (fun x => x.2.state == 2) with
  | none => .next s
  | some (b, v) =>
    let f := v.frame.getD ⟨0, false, false, false, false, false, []⟩
    let again := { v with state := 1, since := s.clk, starved := false }
    let judge := fun (s : State) =>
      let s := canJudge n c s
      if c.closing then canClose n s else s
    match e with
    | .sent =>
      let s := canTdc n f loopDelay s
      let s := updCan n (fun c => { canFinish b 3 c with tec := c.tec - 1, nTx := c.nTx + 1 }) s
      .next (judge (fire (68 + 4 * n + 1) s))
    | .lostArbitration =>
      .next (judge (updCan n (fun c => if v.cancel then canFinish b 4 c else putCanBuf b again c) s))
    | .error lec exempt k =>
      let s := canTdc n f loopDelay s
      let step := (if exempt && (lec.val = 1 || (lec.val = 3 && c.bstate == 2)) then 0 else 8) + 8 * k
      let s := updCan n (fun c => { c with tec := c.tec + step, nErr := c.nErr + 1, lec := if lec.val = 0 then c.lec else lec.val }) s
      let rtx := fld c.ctl 44 41
      let failed := v.failed + 1
      let s := if v.cancel then updCan n (canFinish b 4) s
        else if rtx = 15 || failed ≤ rtx then updCan n (putCanBuf b { again with failed }) s
        else
          let s := updCan n (fun c => { canFinish b 5 c with nAbandoned := c.nAbandoned + 1 }) s
          gln 0x0B05 3 (queTenant c v.queue) (n * 64 + b : Nat) (idWord f) (fire (68 + 4 * n + 2) s)
      .next (judge s)

/-- CAN_TX_STARVED (12 R313). -/
def execCanTxStarved (n : Fin 4) (b : Fin 64) (s : State) : Host.Outcome State Fault Refusal :=
  let c := getCan s n.val
  let v := canBuf c b.val
  if v.state = 1 ∧ !v.starved ∧ v.since + 1000000000 ≤ s.clk then
    let s := updCan n.val (putCanBuf b.val { v with starved := true }) s
    .next (gln 0x0B07 3 (queTenant c v.queue) (n.val * 64 + b.val : Nat) ((v.frame.map idWord).getD 0) s)
  else .next s

/-- CAN_BOFF_RECOVERY: recovery begins BOFF_DLY after bus-off with BOFF_AUTO 1 (12 R317). -/
def execCanBoffRecovery (n : Fin 4) (s : State) : Host.Outcome State Fault Refusal :=
  let c := getCan s n.val
  if c.bstate = 3 ∧ bit c.ctl 40 ∧ c.boffAt + fld c.ctl 39 32 * 10000000 ≤ s.clk then
    .next (updCan n.val (fun c => { c with bstate := 4, byCmd := false }) s)
  else .next s

/-- CAN_BUS_REJOIN: recovery has ended; the error counters start again (ISO 11898-1). -/
def execCanBusRejoin (n : Fin 4) (s : State) : Host.Outcome State Fault Refusal :=
  let c := getCan s n.val
  if c.bstate = 4 then
    .next (gln 0x0B03 3 0 n.val (b2n c.byCmd) (updCan n.val (fun c => { c with bstate := 1, tec := 0, rec_ := 0 }) s))
  else .next s

/-- A bus idle with new settings waiting: the controller takes them (12 R308). One that joins the bus is judged by the error counters
it has kept (R317); one that has left it for SLEEP joins only after the wake (R318, R320). -/
def canApply (n : Nat) (s : State) : State :=
  let c := getCan s n
  match c.next with
  | none => s
  | some (ctl, nbt, dbt) =>
    if c.bstate = 5 || c.buf.any (fun e => e.2.state == 2) then s
    else
      let s := updCan n (canCancelWhere (fun v => v.state == 1)) s
      let s := updCan n (fun c => { c with
        ctl, nbt, dbt, next := none, standby := !bit ctl 47
        bstate := if !bit ctl 47 then 0 else if c.bstate = 0 then 1 else c.bstate }) s
      gln 0x0B09 3 0 n ctl.toNat (if c.bstate = 0 then canJudge n { c with bstate := 1 } s else canLeft n c s)

/-! ### Commands -/

/-- Bits of the three settings that are not reserved, with EXPERT as given. -/
def canCtlWord (w : Word) (expert : Bool) : Word := setBit (w &&& 0xFFFF80000000#48) 45 expert

/-- Nominal bit rate × denominator: the rate is 80,000,000 over this (12 R305). -/
def nbtDiv (w : Word) : Nat := fld w 47 39 * (1 + fld w 38 30 + fld w 29 22)
def dbtDiv (w : Word) : Nat := fld w 47 42 * (1 + fld w 41 36 + fld w 35 31)

/-- A setting that the firmware takes (12 R305, Tables 12-3, 12-4). -/
def canTimingOk (ctl nbt dbt : Word) : Bool :=
  let inR := fun (x a b : Nat) => a ≤ x && x ≤ b
  let fd := bit ctl 46
  inR (fld nbt 47 39) 1 256 && inR (fld nbt 38 30) 2 256 && inR (fld nbt 29 22) 1 128 && inR (fld nbt 21 14) 1 128 &&
    inR (fld dbt 47 42) 1 32 && inR (fld dbt 41 36) 1 32 && inR (fld dbt 35 31) 1 16 && inR (fld dbt 30 26) 1 16 &&
    10000 * nbtDiv nbt ≤ 80000000 && 80000000 ≤ 1000000 * nbtDiv nbt &&
    (!fd || (80000000 ≤ 8000000 * dbtDiv dbt && dbtDiv dbt ≤ nbtDiv nbt)) &&
    fld nbt 21 14 ≤ fld nbt 29 22 && fld dbt 30 26 ≤ fld dbt 35 31 &&
    (!fd || 80000000 ≤ 2000000 * dbtDiv dbt || bit dbt 25)

def nbtOf (brp t1 t2 sjw : Nat) : Word := wd (brp * 2 ^ 39 + t1 * 2 ^ 30 + t2 * 2 ^ 22 + sjw * 2 ^ 14)
def dbtOf (brp t1 t2 sjw tdc o : Nat) : Word := wd (brp * 2 ^ 42 + t1 * 2 ^ 36 + t2 * 2 ^ 31 + sjw * 2 ^ 26 + tdc * 2 ^ 25 + o * 2 ^ 18)

/-- Table 12-5. -/
def nominalOf : Nat → Option Word
  | 125 => some (nbtOf 4 127 32 32)
  | 250 => some (nbtOf 2 127 32 32)
  | 500 => some (nbtOf 1 127 32 32)
  | 1000 => some (nbtOf 1 63 16 16)
  | _ => none

/-- Table 12-5, data phase; with no data rate the reset values stand behind FD 0. -/
def dataOf : Nat → Option Word
  | 0 => some 0x05D52A780000#48
  | 1000 => some (dbtOf 4 14 5 5 0 0)
  | 2000 => some (dbtOf 1 29 10 10 1 30)
  | 4000 => some (dbtOf 1 14 5 5 1 15)
  | 5000 => some (dbtOf 1 11 4 4 1 12)
  | 8000 => some (dbtOf 1 6 3 3 1 7)
  | _ => none

def mbCanSet (t _ch : Nat) (p : Bytes) (s : State) : MbR := do
  perm (t == 0)
  formLen p 1 [(0, 7), (1, 20)]
  stSel (levelOk p 1 && (u8 p 1 == 1 || (u8 p 2 ≤ 1 && (nominalOf (be p 3 2)).isSome && (dataOf (be p 5 2)).isSome))) s true
  let n := u8 p 0
  par (n < 4 && levelOk p 1)
  if u8 p 1 = 0 then
    par (u8 p 2 ≤ 1)
    match nominalOf (be p 3 2), dataOf (be p 5 2) with
    | some nbt, some dbt =>
      let ctl := wd (u8 p 2 * 2 ^ 47 + b2n (be p 5 2 != 0) * 2 ^ 46) ||| 0x070A80000000#48
      par (canTimingOk ctl nbt dbt)
      done (updCan n (fun c => { c with next := some (ctl, nbt, dbt) }) s)
    | _, _ => .error rcBadParam
  else
    let ctl := canCtlWord (beW p 2) true
    let nbt := beW p 8 &&& 0xFFFFFFFFC000#48
    let dbt := beW p 14 &&& 0xFFFFFFFC0000#48
    par (canTimingOk ctl nbt dbt)
    done (updCan n (fun c => { c with next := some (ctl, nbt, dbt) }) s)

/-- A QUE word in force for queue q, its RO fields as they are (Table 12-6). -/
def canQueWord (q : Nat) (w : Word) : Word :=
  let w := setBit (w &&& 0xFFFFFC000000#48) 41 true
  if q < 2 then setBit (setFld w 46 42 0) 47 (q == 1) else w

/-- A queue takes its words: its PENDING buffers are cancelled and its unread frames discarded (R309, R314). -/
def canQueueTake (q : Nat) (w x : Word) (c : CanCtl) : CanCtl :=
  let c := canCancelWhere (fun v => v.queue == q) c
  { c with que := wput q w c.que, qtx := wput q x c.qtx, rx := tput [] q [] c.rx, lost := tput 0 q 0 c.lost }

def mbCanQueueSet (t _ch : Nat) (p : Bytes) (s : State) : MbR := do
  perm (t == 0)
  lenIs p 14
  stSel (fld (beW p 8) 7 6 != 3) s true
  let n := u8 p 0
  let q := u8 p 1
  par (n < 4 && q < 16)
  let w := canQueWord q (beW p 2)
  let x := beW p 8
  let c := getCan s n
  let c' := { c with que := wput q w c.que }
  let a := queFirst c' q
  let k := queCount c' q
  par (k ≤ 128 && a + k ≤ (if queDir c' q then 64 else 128) && fld x 7 6 != 3 && fld x 12 8 ≤ (if bit x 18 then 29 else 11))
  par ((List.range 16).all (fun j => j == q || queDir c' j != queDir c' q || !overlap a k (queFirst c' j) (queCount c' j)))
  done (updCan n (canQueueTake q w (x &&& 0xFFFFFFFE1FC0#48 &&& ~~~0x20000#48)) s)

def mbCanFilterSet (t _ch : Nat) (p : Bytes) (s : State) : MbR := do
  perm (t == 0)
  need (3 ≤ p.length) rcBadLength
  let k := u8 p 2
  lenIs p (3 + 6 * k)
  let ws := (items p 3 6 k).map (fun b => wd (beVal b) &&& 0xFFFFFFFFFFC0#48)
  stSel (ws.all (fun w => fld w 7 6 != 3)) s true
  let n := u8 p 0
  let f := u8 p 1
  let c := getCan s n
  par (n < 4 && f < 128 && 1 ≤ k && k ≤ 128 && f + k ≤ 128)
  par (ws.all (fun w => fld w 7 6 != 3 && fld w 12 8 ≤ (if bit w 18 then 29 else 11) &&
    !queDir c (fld w 16 13) && queUsed c (fld w 16 13)))
  done (updCan n (fun c => { c with flt := wputs f ws c.flt }) s)

/-- The frames of an MB_CAN_TX payload from offset o on, as far as they can be read, and whether all n were, with the
end. -/
def canTxFrames (p : Bytes) : Nat → Nat → List CanFrame × Option Nat
  | 0, o => ([], some o)
  | n + 1, o =>
    if p.length < o + 6 then ([], none)
    else
      let l := u8 p (o + 5)
      if p.length < o + 6 + l then ([], none)
      else
        let id := be p o 4
        let fl := u8 p (o + 4)
        let f : CanFrame := ⟨id % 2 ^ 31, 2 ^ 31 ≤ id, fl % 2 == 1, fl / 2 % 2 == 1, false, false, (p.drop (o + 6)).take l⟩
        let (fs, e) := canTxFrames p n (o + 6 + l)
        (f :: fs, e)

/-- Length, identifier and format of a frame to send are ones its format has (12 R323). -/
def canTxOk (fd : Bool) (f : CanFrame) : Bool :=
  f.id < (if f.ide then 2 ^ 29 else 2 ^ 11) && (!f.fd || fd) && (if f.fd then fdLens.contains f.data.length else f.data.length ≤ 8)

/-- Tenant t owns queue q of controller n, of the direction given. -/
def ownsQueue (s : State) (t n q : Nat) : Bool := n < 4 && q < 16 && queTenant (getCan s n) q == t

def mbCanTx (t _ch : Nat) (p : Bytes) (s : State) : MbR := do
  let n := u8 p 0
  let q := u8 p 1
  let c := getCan s n
  let (fs, e) := canTxFrames p (u8 p 2) 3
  perm (short p 2 || (ownsQueue s t n q && fs.all (fltMatch (wget c.qtx q))))
  need (3 ≤ p.length && e == some p.length) rcBadLength
  stChg s true
  par (queDir c q && 1 ≤ u8 p 2 && u8 p 2 ≤ 32 && fs.all (canTxOk (bit c.ctl 46)))
  let free := canFree c q
  need (fs.length ≤ free.length) rcNoResource
  reply (toBe 4 c.nextHandle) (updCan n (canQueueIn s.clk q none true (free.take fs.length) fs) s)

def mbCanTxCancel (t _ch : Nat) (p : Bytes) (s : State) : MbR := do
  let n := u8 p 0
  let q := u8 p 1
  perm (short p 2 || ownsQueue s t n q)
  lenIs p 6
  let h := be p 2 4
  let c := getCan s n
  stChg s true
  par (queDir c q)
  let hit := fun (v : CanBuf) => v.queue == q && (h == 0xFFFFFFFF || v.handle == some h)
  let k := c.buf.countP (fun e => hit e.2 && e.2.state == 1)
  reply (toBe 1 k) (updCan n (canCancelWhere hit) s)

def mbCanTxResults (t _ch : Nat) (p : Bytes) (s : State) : MbR := do
  let n := u8 p 0
  let q := u8 p 1
  perm (short p 2 || ownsQueue s t n q)
  lenIs p 7
  let h := be p 2 4
  let k := u8 p 6
  let c := getCan s n
  par (queDir c q && 1 ≤ k && k ≤ 32)
  let one := fun (h : Nat) =>
    match (tget [] c.res q).find? (fun r => r.handle == h) with
    | some r => toBe 4 h ++ toBe 1 r.state ++ toBe 1 r.attempts ++ toBe 6 r.sof
    | none => match c.buf.find? (fun e => e.2.queue == q && e.2.handle == some h) with
      | some (_, v) => toBe 4 h ++ toBe 1 v.state ++ toBe 1 v.attempts ++ toBe 6 v.sof
      | none => toBe 4 h ++ toBe 8 0
  reply ((List.range k).flatMap (fun i => one ((h + i) % 2 ^ 32))) s

def mbCanRxRead (t _ch : Nat) (p : Bytes) (s : State) : MbR := do
  let n := u8 p 0
  let q := u8 p 1
  perm (short p 2 || ownsQueue s t n q)
  lenIs p 3
  let k := u8 p 2
  let c := getCan s n
  stChg s true
  par (!queDir c q && 1 ≤ k && k ≤ 52)
  let l := tget [] c.rx q
  let got := l.take k
  let one := fun (x : CanStored) =>
    let f := x.frame
    toBe 4 (idWord f) ++ toBe 1 (b2n f.fd + b2n f.brs * 2 + b2n f.esi * 4 + b2n f.rtr * 8) ++ toBe 1 f.data.length ++
      toBe 6 x.sof ++ f.data
  reply (toBe 1 got.length ++ got.flatMap one) (updCan n (fun c => { c with rx := tput [] q (l.drop k) c.rx }) s)

/-- CAN_STAT (Table 12-10). -/
def canStat (c : CanCtl) : Word :=
  wd (c.bstate * 2 ^ 45 + Nat.min 255 c.tec * 2 ^ 37 + c.rec_ * 2 ^ 29 + c.lec * 2 ^ 26 + c.tdcv * 2 ^ 19 + c.pxe * 2 ^ 8 + c.noMatch)

def mbCanStat (t _ch : Nat) (p : Bytes) (s : State) : MbR := do
  let n := u8 p 0
  let c := getCan s n
  perm (t == 0 || short p 1 || (n < 4 && (List.range 16).any (fun q => queUsed c q && queTenant c q == t)))
  lenIs p 1
  par (n < 4)
  reply (wB c.ctl ++ wB c.nbt ++ wB c.dbt ++ wB (canStat c) ++ toBe 4 c.nRx ++ toBe 4 c.nTx ++ toBe 4 c.nAbandoned ++ toBe 4 c.nErr)
    (updCan n (fun c => { c with lec := 0, pxe := 0, noMatch := 0 }) s)

def mbCanRecover (t _ch : Nat) (p : Bytes) (s : State) : MbR := do
  perm (t == 0)
  lenIs p 1
  let n := u8 p 0
  stChg s (!(n < 4) || (getCan s n).bstate == 3)
  par (n < 4)
  done (updCan n (fun c => { c with bstate := 4, byCmd := true }) s)

def mbCanWakeSet (t _ch : Nat) (p : Bytes) (s : State) : MbR := do
  perm (t == 0)
  formLen p 1 [(0, 3), (1, 20)]
  stSel (levelOk p 1 && (u8 p 1 == 1 || u8 p 2 ≤ 3)) s true
  let n := u8 p 0
  par (n < 4 && levelOk p 1)
  if u8 p 1 = 0 then
    par (u8 p 2 ≤ 3)
    done (updCan n (fun c => { c with wake := setFld 0x028640000000#48 47 46 (u8 p 2), wid := 0#48, wdata := 0#48 }) s)
  else
    let w := setBit (beW p 2 &&& 0xFFFFFF800000#48) 45 true
    let i := beW p 8
    par (5 ≤ fld w 44 38 && fld w 44 38 ≤ 50 && 35 ≤ fld w 37 28 && fld w 37 28 ≤ 500 && fld w 26 23 ≤ 8 &&
      fld i 12 8 ≤ (if bit i 18 then 29 else 11))
    done (updCan n (fun c => { c with wake := w, wid := i &&& 0xFFFFFFFC1F00#48, wdata := beW p 14 }) s)

def execMbCanSet (ch : Fin 16) (p : Bytes) (s : State) := runMb ch 0x0D01 mbCanSet p s
def execMbCanQueueSet (ch : Fin 16) (p : Bytes) (s : State) := runMb ch 0x0D02 mbCanQueueSet p s
def execMbCanFilterSet (ch : Fin 16) (p : Bytes) (s : State) := runMb ch 0x0D03 mbCanFilterSet p s
def execMbCanTx (ch : Fin 16) (p : Bytes) (s : State) := runMb ch 0x0D04 mbCanTx p s
def execMbCanTxCancel (ch : Fin 16) (p : Bytes) (s : State) := runMb ch 0x0D05 mbCanTxCancel p s
def execMbCanTxResults (ch : Fin 16) (p : Bytes) (s : State) := runMb ch 0x0D06 mbCanTxResults p s
def execMbCanRxRead (ch : Fin 16) (p : Bytes) (s : State) := runMb ch 0x0D07 mbCanRxRead p s
def execMbCanStat (ch : Fin 16) (p : Bytes) (s : State) := runMb ch 0x0D08 mbCanStat p s
def execMbCanRecover (ch : Fin 16) (p : Bytes) (s : State) := runMb ch 0x0D09 mbCanRecover p s
def execMbCanWakeSet (ch : Fin 16) (p : Bytes) (s : State) := runMb ch 0x0D0A mbCanWakeSet p s

end Sys2Proof.Machine
end

