-- ==== Sys2Proof/Machine/CeMb.lean ====
section
/-! DEFINITION. The commands of the control engine (08 R226). -/

namespace Sys2Proof.Machine

/-- Check 9 of a loop's owner: a number above 511 names no loop (02 R482). -/
def ceOwner (s : State) (t n : Nat) : Bool := n < 512 && ceTenant (getLoop s n) == t

def mbCeAlloc (t _ch : Nat) (p : Bytes) (s : State) : MbR := do
  perm (t == 0)
  lenIs p 3
  let g := u8 p 0
  let c := u8 p 1
  let ten := u8 p 2
  let listed := 1 ≤ c && g + c ≤ 64 && ten < 32
  let loops := (List.range (8 * c)).map (8 * g + ·)
  stChg s (!listed || (loops.all (fun n =>
      let x := getLoop s n
      !x.isSet || effMode s (ceTenant x) == 1 || effMode s (ceTenant x) == 4) &&
    (List.range c).all (fun i => !bit (evtSrc s (256 + g + i)) 23 || evtOwner s (256 + g + i) == ten)))
  par listed
  let s := loops.foldl (fun s n =>
    let x := getLoop s n
    updLoop n (fun _ => { cfg := setFld 0#48 44 40 ten, status := setFld 0#48 47 32 (fld x.status 47 32), flag := x.flag }) s) s
  let s := { s with ce := { s.ce with jobs := s.ce.jobs.filter (fun j => !loops.contains j.loop),
                                      waits := s.ce.waits.filter (fun w => !loops.contains w.loop) } }
  let s := (List.range c).foldl (fun s i =>
    evtAssign ten (bit (evtSrc s (256 + g + i)) 22) s (256 + g + i)) s
  done (gln 0x0708 3 ten g (ten * 256 + c : Nat) s)

/-- The bits of CE_TRIG that a trigger names (08 Table 8-3). -/
def ceTrigMask (trig : Nat) : Word :=
  match trig with
  | 1 => 0xFFFFF00FFFFF#48
  | 2 => 0xFF7FFF800000#48
  | 3 => 0xFF7FFF800000#48
  | _ => 0#48

/-- The request of `MB_CE_SET` (08 Table 8-14). -/
def ceRequest (p : Bytes) : CeReq :=
  if u8 p 2 = 0 then
    let trig := u8 p 3
    let rw := be p 15 2
    let c := rw == 0xFFFF
    let ti := beW p 32
    ⟨wd (trig % 8 * 2 ^ 45 + b2n (ti != 0#48) * 2 ^ 38 + be p 10 2 % 512 * 2 ^ 16), beW p 4 &&& ceTrigMask trig,
     [wd (be p 12 2 % 32768 * 2 ^ 33 + (if c then 0 else rw % 32768 * 2 ^ 18) +
        (if 1 ≤ trig && trig ≤ 3 then be p 24 2 % 32768 * 8 else 0) + u8 p 14 % 2 * 4 + u8 p 17 % 2 * 2 + b2n c)] ++
        List.replicate 7 0#48,
     [beW p 26, ti, beW p 38, beW p 44, beW p 18, beW p 50], false,
     trig ≤ 4 && u8 p 14 ≤ 1 && u8 p 17 ≤ 1 && be p 10 2 < 512, be p 12 2 :: (if c then [] else [rw]),
     be p 12 2 < 20480 && (c || rw < 20480) && (!(1 ≤ trig && trig ≤ 3) || be p 24 2 < 20480)⟩
  else
    let w := beW p 3
    let trig := fld w 47 45
    let map := (items p 15 6 8).map (fun b => wd (beVal b))
    let ins := (List.range (fld w 30 28 + 1)).flatMap (fun i =>
      let m := map.getD i 0#48
      fld m 47 33 :: (if bit m 0 then [] else [fld m 32 18]))
    ⟨w &&& 0xE07FFFFF0000#48, beW p 9 &&& ceTrigMask trig, map, [], true, trig ≤ 4 && fld w 35 31 ≤ 16, ins, true⟩

/-- UMIN exceeds UMAX at no command of a block of this loop. -/
def ceLimitsOk (x : CeLoop) (b : List Word) : Bool :=
  (List.range (ceP x)).all (fun j => decide ((b.getD (offUMIN x + j) 0#48).toInt ≤ (b.getD (offUMAX x + j) 0#48).toInt))

/-- The checks of R220 on the basic parameters. -/
def ceBasicOk (s : State) (y : CeLoop) : Bool :=
  let kp := (y.basic.getD 0 0#48).toInt
  let ti := (y.basic.getD 1 0#48).toInt
  let big := max (y.basic.getD 2 0#48).toInt.natAbs (y.basic.getD 3 0#48).toInt.natAbs
  decide (kp ≠ 0) && decide (0 ≤ ti) &&
    (ti == 0 || decide ((big : Rat) / 4294967296 ≤ 16384 * |ceKq s y|))

/-- The word-bearing fields of a loop are image words. -/
def ceWordsOk (x : CeLoop) : Bool := (ceWords x).all (fun e => e.1 < 20480)

/-- A UW word is written by nothing else (08 R208). -/
def ceUwFree (s : State) (n w : Nat) : Bool :=
  taskWrites s w == [] && !(s.slot.any (fun e => slotAction e.2 != 0 && slotWord e.2 == w)) &&
    !(s.ce.loop.any (fun e => e.1 != n && (ceUws e.2).any (fun u => u.2 == w)))

/-- The select-group rules with loop n as installed in s (08 R215, R219). -/
def ceGroupOk (s : State) (n : Nat) : Bool :=
  let x := getLoop s n
  let h := ceHead s n
  let l := getLoop s h
  let ms := ceMembers s h
  (ceTrig x == 4 || ceLead x == 0) &&
    (ceTrig x != 4 || (h != n && l.isSet && ceTrig l ≤ 3 && ceTenant l == ceTenant x && ceMembers s n == [])) &&
    (ceNaming s h == ms) && (ms == [] || (ms.length ≤ 7 && ceP l == 1 && ms.all (fun m => ceP (getLoop s m) == 1) && ceGroupCost s n ≤ 1000))

/-- The trigger's fields are listed (08 Table 8-3). -/
def ceTrigOk (x : CeLoop) : Bool :=
  ceTrig x != 1 || (50 ≤ cePeriod x && cePeriod x ≤ 1000000 && fld x.trig 19 0 < cePeriod x)

/-- Check 12 of a configuration, with the candidate installed in s' (08 R208). -/
def ceSetOk (s s' : State) (n : Nat) : Bool :=
  let y := getLoop s' n
  ceTrigOk y && ceLimitsOk y y.coef && ceWordsOk y && ceGroupOk s' n &&
    (ceUws y).all (fun e => inPlot s 0 (ceTenant y) e.2 && ceUwFree s' n e.2) &&
    (ceExpert y || ceBasicOk s' y)

def mbCeSet (t _ch : Nat) (p : Bytes) (s : State) : MbR := do
  need (!short p 2) rcBadLength
  let n := be p 0 2
  perm (ceOwner s t n)
  formLen p 2 [(0, 56), (1, 63)]
  let r := ceRequest p
  let x := getLoop (ceSettled s) n
  let y := ceCandidate (ceSettled s) x r
  perm (!(levelOk p 2) || r.ins.all (fun w => 20480 ≤ w || mayRead s t w))
  let key := fun (z : CeLoop) => (ceTrig z, ceN z, ceM z, ceP z, ceInteg z, ceLead z)
  stSel (levelOk p 2 && r.listed) s (!x.isSet || key y == key x || effMode s t == 1)
  par (levelOk p 2 && r.listed && r.fits)
  let s' := updLoop n (fun _ => y) (ceSettled s)
  par (ceSetOk s s' n)
  need (cePool s' ≤ 131072 && decide (ceLoad s' ≤ 4000000000)) rcNoResource
  reply (toBe 2 (ceSize y)) (gln 0x0701 3 t n (ceCfgWord s' n).toNat (ceChange ⟨n, .set r⟩ s))

def mbCeCoefSet (t _ch : Nat) (p : Bytes) (s : State) : MbR := do
  need (!short p 2) rcBadLength
  let n := be p 0 2
  perm (ceOwner s t n)
  need (5 ≤ p.length) rcBadLength
  let o := be p 2 2
  let c := u8 p 4
  lenIs p (5 + 6 * c)
  let x := getLoop s n
  stChg s x.isSet
  par (1 ≤ c && c ≤ 64 && o + c ≤ x.coef.length)
  need (x.stage.isSome || cePool s + x.coef.length ≤ 131072) rcNoResource
  let b := x.stage.getD x.coef
  let b' := b.take o ++ (items p 5 6 c).map (fun i => wd (beVal i)) ++ b.drop (o + c)
  done (updLoop n (fun x => { x with stage := some b' }) s)

def mbCeCoefCommit (t _ch : Nat) (p : Bytes) (s : State) : MbR := do
  need (!short p 2) rcBadLength
  let n := be p 0 2
  perm (ceOwner s t n)
  lenIs p 2
  let x := getLoop s n
  stChg s x.isSet
  par (ceLimitsOk x (x.stage.getD x.coef))
  let q := (fld x.status 47 32 + (if ceUnder s n then 2 else 1)) % 65536
  let s := match x.stage with
    | some b => ceChange ⟨n, .block b⟩ (updLoop n (fun x => { x with stage := none }) s)
    | none => s
  reply (toBe 2 q) (gln 0x0702 3 t n q s)

/-- A vector of words padded to n words. -/
def padW (n : Nat) (l : List Word) : Bytes := (List.range n).flatMap (fun i => wB (l.getD i 0#48))

def mbCeGet (t _ch : Nat) (p : Bytes) (s : State) : MbR := do
  need (!short p 2) rcBadLength
  let n := be p 0 2
  perm (t == 0 || ceOwner s t n)
  lenIs p 2
  par (n < 512)
  let x := getLoop s n
  let own := ceTenant x == t
  let z := fun (w : Word) => if own then w else 0#48
  let zl := fun (l : List Word) => if own then l else []
  reply (wB (ceCfgWord s n) ++ wB x.trig ++ padW 8 x.map ++ wB (z (ceSts s n)) ++ wB (z x.flag) ++ padW 8 (zl x.ua) ++
    padW 16 (zl x.xh) ++ padW 8 (zl x.q)) s

def mbCeStateSet (t _ch : Nat) (p : Bytes) (s : State) : MbR := do
  need (!short p 2) rcBadLength
  let n := be p 0 2
  perm (ceOwner s t n)
  let x := getLoop s n
  if x.isSet then lenIs p (2 + 6 * ceN x + 6 * ceM x)
  stChg s x.isSet
  let ws := (items p 2 6 (ceN x + ceM x)).map (fun b => wd (beVal b))
  done (ceChange ⟨n, .state (ws.take (ceN x)) (ws.drop (ceN x))⟩ s)

def mbCeFlagsClear (t _ch : Nat) (p : Bytes) (s : State) : MbR := do
  need (!short p 2) rcBadLength
  let n := be p 0 2
  perm (ceOwner s t n)
  lenIs p 3
  stChg s true
  let x := getLoop s n
  reply (wB x.flag) (updLoop n (fun y => { y with flag := y.flag &&& ~~~(wd (u8 p 2 % 64)) }) s)

def mbCeInjStart (t _ch : Nat) (p : Bytes) (s : State) : MbR := do
  need (!short p 3) rcBadLength
  let i := u8 p 0
  let w := beW p 1 &&& 0xFFFFFFFF0000#48
  let n := fld w 47 39
  perm (ceOwner s t n)
  lenIs p 45
  let x := getLoop s n
  let ch := (items p 31 2 4).map (fun b => (u8 b 0, u8 b 1))
  let sig := fld w 38 36
  let d := be p 39 2
  let c := be p 43 2
  let listed := i < 2 && sig ≤ 4 && ch.all (fun e => e.1 ≤ 8) && 1 ≤ d && d ≤ 256 && 1 ≤ c && c ≤ 8192 &&
    (sig != 3 || (7 ≤ fld w 31 28 && 1 ≤ fld w 27 16)) && (sig != 2 || 1 ≤ fld w 27 16)
  stSel (sig ≤ 4 && ch.all (fun e => e.1 ≤ 8)) s (!listed || (effMode s t == 2 && !(getInj s i).active && x.isSet))
  par (listed && fld w 34 32 < (if bit w 35 then ceM x else ceP x))
  let inj : CeInj :=
    { reg := w, active := true, amp := beW p 7, f0 := beW p 13, f1 := beW p 19, dur := beW p 25, chans := ch, div := d
      pre := be p 41 2, want := c, prbs := 2 ^ fld w 31 28 - 1 }
  done (gln 0x0706 3 t (i * 512 + n : Nat) sig (updInj i (fun _ => inj) s))

def mbCeInjStop (t _ch : Nat) (p : Bytes) (s : State) : MbR := do
  need (!short p 1) rcBadLength
  let i := u8 p 0
  perm (i < 2 && ceOwner s t (injLoop (getInj s i)))
  lenIs p 1
  stChg s true
  let k := getInj s i
  reply (toBe 2 k.cap.length) (if k.active then injEnd i 1 s else s)

def mbCeCapRead (t _ch : Nat) (p : Bytes) (s : State) : MbR := do
  need (!short p 1) rcBadLength
  let i := u8 p 0
  perm (i < 2 && ceOwner s t (injLoop (getInj s i)))
  lenIs p 5
  let k := getInj s i
  let a := be p 1 2
  let c := be p 3 2
  par (1 ≤ c && c ≤ 160 && a + c ≤ k.cap.length)
  reply (toBe 2 k.seq0 ++ toBe 6 k.dt0 ++ toBe 2 k.div ++ toBe 2 k.cap.length ++
    ((k.cap.drop a).take c).flatMap (fun r => padW 4 r)) s

def mbCeLoad (_t _ch : Nat) (p : Bytes) (s : State) : MbR := do
  lenIs p 0
  reply (toBe 6 (ceLoad s).floor.toNat ++ toBe 4 (131072 - cePool s) ++ toBe 4 (s.ce.late % 2 ^ 32) ++ toBe 4 (s.ce.skips % 2 ^ 32)) s

def execMbCeAlloc (ch : Fin 16) (p : Bytes) (s : State) : Host.Outcome State Fault Refusal := runMb ch 0x0601 mbCeAlloc p s
def execMbCeSet (ch : Fin 16) (p : Bytes) (s : State) : Host.Outcome State Fault Refusal := runMb ch 0x0602 mbCeSet p s
def execMbCeCoefSet (ch : Fin 16) (p : Bytes) (s : State) : Host.Outcome State Fault Refusal := runMb ch 0x0603 mbCeCoefSet p s
def execMbCeCoefCommit (ch : Fin 16) (p : Bytes) (s : State) : Host.Outcome State Fault Refusal := runMb ch 0x0604 mbCeCoefCommit p s
def execMbCeGet (ch : Fin 16) (p : Bytes) (s : State) : Host.Outcome State Fault Refusal := runMb ch 0x0605 mbCeGet p s
def execMbCeStateSet (ch : Fin 16) (p : Bytes) (s : State) : Host.Outcome State Fault Refusal := runMb ch 0x0606 mbCeStateSet p s
def execMbCeFlagsClear (ch : Fin 16) (p : Bytes) (s : State) : Host.Outcome State Fault Refusal := runMb ch 0x0607 mbCeFlagsClear p s
def execMbCeInjStart (ch : Fin 16) (p : Bytes) (s : State) : Host.Outcome State Fault Refusal := runMb ch 0x0608 mbCeInjStart p s
def execMbCeInjStop (ch : Fin 16) (p : Bytes) (s : State) : Host.Outcome State Fault Refusal := runMb ch 0x0609 mbCeInjStop p s
def execMbCeCapRead (ch : Fin 16) (p : Bytes) (s : State) : Host.Outcome State Fault Refusal := runMb ch 0x060A mbCeCapRead p s
def execMbCeLoad (ch : Fin 16) (p : Bytes) (s : State) : Host.Outcome State Fault Refusal := runMb ch 0x060B mbCeLoad p s

end Sys2Proof.Machine
end

