-- ==== Sys2Proof/Machine/PairMb.lean ====
section
/-! DEFINITION. The settings and the state of the pair as commands reach them (15 R372, R393). -/

namespace Sys2Proof.Machine

/-- PAIR_CFG and PAIR_PEER that a request asks for; at the basic level AUTO_RESYNC 1 and BPER 5 (R372). -/
def pairRequest (p : Bytes) : Word × Word :=
  if u8 p 0 = 0 then (wd (u8 p 1 % 2 * 2 ^ 47 + 2 ^ 45 + u8 p 2 % 4 * 2 ^ 43 + 5 * 2 ^ 40), wd (be p 3 4 * 2 ^ 16))
  else (setBit (beW p 1 &&& 0xFF0000000000#48) 46 true, beW p 7 &&& 0xFFFFFFFF0000#48)

/-- ENABLE has changed in a device that runs: a unit of a pair looks for its role, a single device serves. -/
def pairEnableChanged (on : Bool) (s : State) : State :=
  if s.task.dispAt.isNone then s
  else if on then toStart s
  else
    setRstate 0 (updPair (fun p => { dropSent (dropMirror p) with
      swap := 0, retryAt := none, mcause := 0, syncLost := false, aliveLost := false }) (endWaits s))

def mbPairSet (t _ch : Nat) (p : Bytes) (s : State) : MbR := do
  perm (t == 0)
  formLen p 0 [(0, 7), (1, 13)]
  let (c, q) := pairRequest p
  let same := bit c 47 == bit s.pair.cfg 47
  let listed := levelOk p 0 && (u8 p 0 == 1 || (u8 p 1 ≤ 1 && u8 p 2 ≤ 3))
  need (!listed || (!updating s && (same || devMode s == 1))) rcBadState
  par (listed && 1 ≤ fld c 42 40 && fld c 42 40 ≤ 5)
  let s := updPair (fun x => { x with cfg := c, peer := q }) s
  done (if same then s else pairEnableChanged (bit c 47) s)

/-- PAIR_STAT (Table 15-3). -/
def pairStat (s : State) : Word :=
  let x := s.pair
  wd (x.rstate * 2 ^ 44 + b2n x.syncOk * 2 ^ 43 + b2n x.aliveOk * 2 ^ 42 + b2n x.srvOk * 2 ^ 41 + b2n x.srvLvl * 2 ^ 40 + b2n x.unitB * 2 ^ 39 +
    x.mcause * 2 ^ 35 + s.silo.innings % 2 ^ 32)

def mbPairStat (_t _ch : Nat) (p : Bytes) (s : State) : MbR := do
  lenIs p 0
  let x := s.pair
  reply (wB (pairStat s) ++ toBe 6 (umod 48 x.ofs) ++ toBe 4 x.pinn ++ toBe 1 x.pRstate ++ toBe 1 x.pFw.1 ++ toBe 1 x.pFw.2.1 ++
    toBe 1 x.pFw.2.2 ++ toBe 4 x.pProg ++ toBe 4 x.pCfg ++ toBe 4 x.takeovers ++ toBe 4 x.divergences ++ toBe 4 x.resyncs ++
    toBe 4 x.resends ++ toBe 6 x.takeoverAt) s

def execMbPairSet (ch : Fin 16) (p : Bytes) (s : State) : Host.Outcome State Fault Refusal := runMb ch 0x0A01 mbPairSet p s
def execMbPairStat (ch : Fin 16) (p : Bytes) (s : State) : Host.Outcome State Fault Refusal := runMb ch 0x0A02 mbPairStat p s

end Sys2Proof.Machine
end

