-- ==== Sys2Proof/Machine/PassRows.lean ====
section
/-! DEFINITION. The Pass chain at work: link events, received frames, forwarding and resends, inauguration, markers,
publications, and the chain commands but for the application of chain changes (14 R342 to R367). -/

namespace Sys2Proof.Machine

def passGln (code level : Nat) (p1 p2 : Int) (s : State) : State := gln code level 0 p1 p2 s

/-- The port's event source: 0 publication received, 1 publication sent, 2 link, 3 FCS error or resend (R342, R356, R357). -/
def passSrc (p k : Nat) : Nat := 96 + 4 * p + k

/-! ### Links (R342, R343) -/

/-- A port comes up or goes down (R342). Its buffers are empty and its credits as at link up from then on; frames that came in by it
and wait for the other port hold no credits of it any more. A port that comes up sends its 16 ECHO requests, one behind the other,
so that the 16 exchanges end within 200 µs at any D a link may have (R343). -/
def passPortSet (p : Nat) (up : Bool) (s : State) : State :=
  if (getPort s p).up == up then s
  else
    let s := portClear p s
    let s := updPort (1 - p) (fun y => { y with waiting := y.waiting.map (fun w => { w with held := false }) }) s
    let s := updPort p (fun x => { x with
      up, refused := false, gap := none, retry := []
      d := if up then 0 else x.d, used := 0, credRx := 0, freed := 0
      rxSeq := 0, txSeq := 0, echoN := 0, echoD := 0, echoAt := s.clk }) s
    let s := if up then (List.range 16).foldl (fun s _ => linkSend p (.echo 0 0) s) s else s
    let s := latchAll bitNET (fire (passSrc p 2) s)
    inaugStart (passGln 0x0D01 3 (p * 2 + b2n up : Nat) (getPort s p).d s)

/-- PASS_PORT_CHANGE (R342). A device that has taken its ports down for 1 ms keeps them down (R349). -/
def execPassPortChange (port : Fin 2) (up : Bool) (s : State) : Host.Outcome State Fault Refusal :=
  .next (if passOn s && !(up && decide (s.clk < s.pass.downUntil)) then passPortSet port.val up s else s)

/-- An ECHO answer: its round trip less the neighbour's turnaround counts, until 16 have been answered (R343). -/
def echoAnswer (p dep turn : Nat) (s : State) : State :=
  let x := getPort s p
  if 16 ≤ x.echoN then s
  else
    let rt := umod 48 ((devtime s : Int) - dep)
    updPort p (fun x => { x with echoN := x.echoN + 1, echoD := Nat.max x.echoD ((rt - turn) / 2) }) s

/-- A link is refused until the port goes down: what waits for it is dropped (R343, R353). -/
def linkRefuse (p : Nat) (s : State) : State := updPort p (fun x => { x with refused := true }) (portClear p s)

/-- PASS_ECHO_COMPLETE (R343): the 16 exchanges give this D, once while the link stays up; a link above DLY_MAX is refused. -/
def execPassEchoComplete (port : Fin 2) (d : Nat) (s : State) : Host.Outcome State Fault Refusal :=
  let p := port.val
  if !(passOn s && (getPort s p).up && (getPort s p).echoN == 16 && (getPort s p).echoD == d) then .next s
  else
    let s := updPort p (fun x => { x with d, echoN := 17 }) s
    .next (if d ≤ passDlyMax s then s
      else inaugStart (passGln 0x0D0E 3 p d (linkRefuse p s)))

/-! ### Sending (R345, R346, R348) -/

/-- The receiver's credits of a frame are returned. -/
def passFree (p len : Nat) (s : State) : State := updPort p (fun x => { x with freed := (x.freed + passCredits len) % 65536 }) s

/-- Whether a numbered frame of `len` bytes may start on a port. -/
def portReady (s : State) (p len : Nat) : Bool :=
  let x := getPort s p
  portLive s p && passCredits len ≤ portCredits x && retryBytes x + len ≤ 16384

/-- The marker of cycle c has been sent or forwarded: frames of other cycles are held on neither port any more (R346, R359). -/
def cycleEnds (c : Nat) (s : State) : State :=
  (List.range 2).foldl (fun s p => updPort p (fun x => { x with retry := x.retry.filter (fun h => h.frame.cycle == c) }) s) s

/-- A numbered frame leaves a port: it takes the next LSEQ and is held for resends; a marker ends the cycle of the frames held. -/
def portSend (p : Nat) (f : PassFrame) (s : State) : State :=
  let n := ((getPort s p).txSeq + 1) % 65536
  let s := if passType f.body = 4 then cycleEnds f.cycle s else s
  let f := { f with lseq := n }
  portStart p f (updPort p (fun x => { x with txSeq := n, retry := x.retry ++ [⟨f, 1, !f.fcsOk⟩] }) s)

/-- What was asked for again goes again as far as the credits reach, in order and at most twice in all; SKIP stands for what is no
longer held, has gone twice or is void (R345, R347). -/
def portAgain (p : Nat) : List Nat → State → State
  | [], s => updPort p (fun x => { x with again := [] }) s
  | q :: qs, s =>
    let x := getPort s p
    let wait := updPort p (fun x => { x with again := q :: qs }) s
    match x.retry.find? (fun h => h.frame.lseq == q && decide (h.times < 2) && !h.void) with
    | none => if 1 ≤ portCredits x then portAgain p qs (portEmit p (.skip q) s) else wait
    | some h =>
      if passCredits h.frame.len ≤ portCredits x then
        let s := updPort p (fun x => { x with
          retry := x.retry.map (fun g => if g.frame.lseq = q then { g with times := g.times + 1 } else g), nResend := x.nResend + 1 }) s
        portAgain p qs (passGln 0x0D09 3 p q (fire (passSrc p 3) (portStart p h.frame s)))
      else wait

/-- PASS_FORWARD: the next frame for an outgoing port: what is to go again, then forwarded frames before the device's own (R347,
R348). -/
def execPassForward (port : Fin 2) (s : State) : Host.Outcome State Fault Refusal :=
  let p := port.val
  let x := getPort s p
  if x.again != [] then .next (portAgain p x.again s)
  else match x.waiting, x.link, x.own with
  | w :: ws, _, _ =>
    if !portReady s p w.frame.len then .next s
    else
      let f := { w.frame with hops := Nat.min 255 (w.frame.hops + 1) }
      let f := match f.body with
        | .marker e a => { f with body := .marker e (a + w.d + (s.clk - w.at_)) }
        | _ => f
      let s := if w.held then passFree (1 - p) f.len s else s
      .next (portSend p f (updPort p (fun x => { x with waiting := ws }) s))
  | [], b :: bs, _ => .next (if portFree x then portEmit p b (updPort p (fun x => { x with link := bs }) s) else s)
  | [], [], f :: fs => .next (if portReady s p f.len then portSend p f (updPort p (fun x => { x with own := fs }) s) else s)
  | [], [], [] => .next s

/-- A RESEND frame: what it asks for goes again (R347). -/
def passResend (p lseq : Nat) (s : State) : State :=
  let n := ((getPort s p).txSeq + 65537 - lseq % 65536) % 65536
  if 32768 < n then s else portAgain p ((List.range n).map (fun i => (lseq + i) % 65536)) s

/-- PASS_RESEND_RECEIVED (R347). -/
def execPassResendReceived (port : Fin 2) (lseq : Nat) (s : State) : Host.Outcome State Fault Refusal :=
  .next (if portLive s port.val then passResend port.val lseq s else s)

/-- PASS_RESEND_TIMER (R347): every 10 µs while a gap lasts. -/
def execPassResendTimer (port : Fin 2) (s : State) : Host.Outcome State Fault Refusal :=
  let p := port.val
  match (getPort s p).gap with
  | some t =>
    .next (if portLive s p && decide (t + 10000 ≤ s.clk) then
      linkSend p (.resend (((getPort s p).rxSeq + 1) % 65536)) (updPort p (fun x => { x with gap := some s.clk }) s) else s)
  | none => .next s

/-- The next frame that waits for a port may start now. -/
def portCanStart (s : State) (p : Nat) : Bool :=
  let x := getPort s p
  if x.again != [] then 1 ≤ portCredits x
  else match x.waiting, x.link, x.own with
  | w :: _, _, _ => portReady s p w.frame.len
  | [], _ :: _, _ => portFree x
  | [], [], f :: _ => portReady s p f.len
  | [], [], [] => false

/-- PASS_IDLE_SEND (R342): a frame at least every 1 µs, an IDLE frame where no other frame can start. Before the port is up a frame
needs no credits, since none count yet; while both ports are taken down it sends nothing (R349). An ECHO request that has had no
answer for 50 µs is sent once more (R343; the 50 µs: DESIGN CHOICE, log 123). -/
def execPassIdleSend (port : Fin 2) (s : State) : Host.Outcome State Fault Refusal :=
  let p := port.val
  let x := getPort s p
  if !(passOn s && decide (s.pass.downUntil ≤ s.clk) && decide (x.lastTx + 1000 ≤ s.clk) && portFree x && !portCanStart s p) then .next s
  else if x.up && !x.refused && x.echoN < 16 && decide (x.echoAt + 50000 ≤ s.clk) then
    .next (portEmit p (.echo 0 0) (updPort p (fun x => { x with echoAt := s.clk }) s))
  else .next (portEmit p .idle s)

/-! ### Membership by records (R351 to R354) -/

/-- Groups of an origin are lost at once: COMM_LOST on its plots and 0x0D06 per group that stood (R358). -/
def originLost (o : Nat) (s : State) : State :=
  let s := (List.range 320).foldl (fun s n => if ownPOS (plotOwn s n) = o then updPlot n (fun x => { x with pubLost := true }) s else s) s
  (List.range 16).foldl (fun s g =>
    let k := o * 16 + g
    let x := tget {} s.pass.pub k
    if groupPlots s o g = [] || x.lost then s
    else passGln 0x0D06 5 k (x.last.getD 0) { s with pass := { s.pass with pub := tput {} k { x with lost := true, part := none } s.pass.pub } }) s

/-- As a guest: COMM_LOST on every plot of another position (R358). -/
def guestPlots (s : State) : State :=
  (List.range 320).foldl (fun s n =>
    let o := plotOwn s n
    if ownPOS o != 0 && ownPOS o != s.pass.ownPos then updPlot n (fun x => { x with pubLost := true }) s else s) s

/-- The pair of values that members must share. -/
def recKey (r : InaugRec) : Nat × Nat × Nat := (r.hash, r.fwMajor, r.fwMinor)

/-- The reference of the records: the key held by the most positions; a tie goes to the key of the lowest position (R351). -/
def inaugReference (rs : List InaugRec) : Nat × Nat × Nat :=
  let count := fun k => ((rs.filter (fun r => recKey r == k)).map (·.pos)).dedup.length
  let best := sortBy (fun a b => decide (count (recKey b) < count (recKey a)) || (count (recKey a) == count (recKey b) && decide (a.pos ≤ b.pos))) rs
  (best.head?.map recKey).getD (0, 0, 0)

/-- Guest cause of a record among all records (R351). -/
def inaugCause (rs : List InaugRec) (r : InaugRec) : Nat :=
  let k := inaugReference rs
  if r.hash ≠ k.1 then 1
  else if (r.fwMajor, r.fwMinor) ≠ k.2 then 2
  else if rs.any (fun q => q.pos == r.pos && q.passId != r.passId && !(q.pair && r.pair) && decide (q.passId < r.passId)) then 3
  else 0

/-- The master's budget: members of the highest position become guests until B fits in 100 ms, and ECYCLE follows (R362). -/
def budgetFit : Nat → State → State
  | 0, s => s
  | n + 1, s =>
    if (passBudget s).2.2.2 ≤ 100000000 then s
    else match (passMembers s).reverse with
      | [] => s
      | p :: _ =>
        if p = s.pass.ownPos then
          budgetFit n { s with pass := { s.pass with cstate := 4, gcause := 4 } }
        else budgetFit n (passGln 0x0D04 5 p 4 (updMember p (fun m => { m with mstate := 2, gcause := 4 }) s))

/-- The master sets ECYCLE for its budget (R362): at once where no grid runs yet, else as a chain change, unless one that sets it is
announced already or 8 are announced. -/
def budgetSet (s : State) : State :=
  let s := budgetFit (passMembers s).length s
  let b := (passBudget s).2.2.2
  let e := ecycleFor s b
  let next := ((s.pass.announced.filter (fun c => c.kind == 2)).getLast?.map (fun c => u8 c.payload 0)).getD s.pass.ecycle
  if passRole s ≠ 3 || e = next || (s.pass.gridOn && s.pass.ecycle != 0 && 8 ≤ chainPending s) then s
  else
    let s := if e = passCycleMs s then s else latchAll bitNET (passGln 0x0D0A 5 b e s)
    if s.pass.gridOn && s.pass.ecycle != 0 then chainAnnounce ⟨2, 0, 0, toBe 1 e, 0⟩ s
    else { s with pass := { s.pass with ecycle := e } }

/-- Records that count at the end of an inauguration: those heard by a live port and within 1 ms of the newest; a device sends its own
every 100 µs while it inaugurates (R351; log 123). -/
def recordsNow (s : State) : List PassRec :=
  let rs := s.pass.records.filter (fun e => portLive s (b2n e.side))
  let newest := (rs.map (·.at_)).foldl Nat.max 0
  rs.filter (fun e => decide (newest < e.at_ + 1000000))

/-- The same command, whichever cycle it was announced for. -/
def sameRequest (a b : ChainChange) : Bool := a.kind == b.kind && a.cmd == b.cmd && a.tenant == b.tenant && a.payload == b.payload

/-- Channels that wait for a change are answered. -/
def answerChange (c : ChainChange) (rc : Nat) (s : State) : State :=
  let ws := s.pass.waiting.filter (fun w => sameRequest w.1 c)
  let s := { s with pass := { s.pass with waiting := s.pass.waiting.filter (fun w => !sameRequest w.1 c) } }
  ws.foldl (fun s w => setResult w.2 rc [] s) s

/-- The result of an inauguration (R351 to R354). -/
def inaugResult (s : State) : State :=
  let own := ownRecord s
  let first := s.pass.before = 0
  let heard := recordsNow s
  let rs := own :: heard.map (·.rec_)
  let old := s.pass.member
  let cause := inaugCause rs own
  let others := heard.filter (fun e => e.rec_.pos != own.pos || cause == 3)
  let keep := others.filter (fun e => inaugCause rs e.rec_ != 3)
  let dups := (heard.filter (fun e => inaugCause rs e.rec_ == 3)).map (fun e => (e.rec_.pos, e.rec_.passId))
  let far := fun (side : Bool) => (heard.filterMap (fun e => if e.side == side then some e.hops else none)).foldl Nat.max 0
  let members := (rs.filter (fun r => inaugCause rs r == 0)).map (·.pos)
  let master := (members.foldl (fun m p => if m = 0 || p < m then p else m) 0)
  let put := fun (t : Tab PassMember) (e : PassRec) =>
    let r := e.rec_
    let c := inaugCause rs r
    let q := tget {} old r.pos
    let prev := tget {} t r.pos
    if prev.mstate != 0 && !r.primary then tput {} r.pos { prev with paired := true } t
    else tput {} r.pos { q with
      mstate := if c != 0 then 2 else if r.pos = master then 3 else 1
      gcause := c, side := e.side, hops := e.hops, paired := r.pair, passId := r.passId
      fw := (r.fwMajor, r.fwMinor, r.fwPatch), hash := r.hash } t
  let table := keep.foldl put []
  let isMaster := cause == 0 && own.pos == master && (!own.pair || serving s || !(heard.any (fun e => e.rec_.pos == own.pos)))
  let known := (tget {} old master).mstate == 1 || (tget {} old master).mstate == 3 || master == own.pos
  let beyondF := heard.any (fun e => e.rec_.pos == master && !e.side)
  let s := { s with pass := { s.pass with
    cstate := if cause != 0 then 4 else if isMaster then 3 else 2
    gcause := cause, master, orient := !isMaster && beyondF, member := table, dups, links := (far false, far true)
    records := [], last := heard.map (·.rec_), doneAt := s.clk
    newGrid := s.pass.newGrid || (master != s.pass.master && !known) } }
  let s := budgetSet s
  let isIn := fun (t : Tab PassMember) p => (tget {} t p).mstate == 1 || (tget {} t p).mstate == 3
  -- members that left, and guests, lose their publications; new members start their timeouts
  let s := (List.range 256).foldl (fun s p =>
    if isIn old p && !isIn s.pass.member p then
      originLost p (passGln 0x0D03 5 (p * 2 : Nat) (tget {} old p).passId s)
    else if !isIn old p && isIn s.pass.member p then
      let s := passGln 0x0D03 5 (p * 2 + 1 : Nat) (getMember s p).passId s
      (List.range 16).foldl (fun s g => { s with pass := { s.pass with
        pub := tupd {} (p * 16 + g) (fun x => { x with seen := s.pass.markers }) s.pass.pub } }) s
    else s) s
  let s := s.pass.member.foldl (fun s e => if e.2.mstate = 2 && e.2.gcause != 4 then passGln 0x0D04 5 e.1 e.2.gcause s else s) s
  let s := s.pass.dups.foldl (fun s e => passGln 0x0D04 5 e.1 3 s) s
  let s := if s.pass.cstate = 4 then guestPlots (passGln 0x0D04 5 own.pos s.pass.gcause s) else s
  -- commands accepted in a first inauguration go to the master now
  let s := if !first then s
    else if passIn s then s.pass.waiting.foldl (fun s w => chainSubmit w.1 s) s
    else s.pass.waiting.foldl (fun s w => answerChange w.1 rcBadState s) s
  latchAll bitNET (passGln 0x0D02 5 master ((passMembers s).length * 256 + (passGuests s).length : Nat) s)

/-- INAUG_COMPLETE (R351, R353): 1 ms has passed without a new record. The master of a ring refuses the link on its PASSB. -/
def execInaugComplete (s : State) : Host.Outcome State Fault Refusal :=
  if !(passOn s && s.pass.cstate == 1 && decide (s.pass.recAt + 1000000 ≤ s.clk)) then .next s
  else
    let ring := s.pass.ring
    let s := inaugResult s
    if ring && passRole s == 3 && portLive s 1 then .next (inaugStart (passGln 0x0D05 5 s.pass.master 0 (linkRefuse 1 s)))
    else .next s

/-- INAUG_SEND (R351): every 100 µs on both ports during an inauguration. -/
def execInaugSend (s : State) : Host.Outcome State Fault Refusal :=
  .next (if passOn s && s.pass.cstate == 1 then passOwn (passFrame s (.inaug (ownRecord s))) s else s)

/-! ### Markers, publications, adverts (R355, R356) -/

/-- The unit of its position that publishes (R360). -/
def passSpeaks (s : State) : Bool := serving s

/-- MARKER_SEND (R355): at M0 + k × ECYCLE, M0 being a whole millisecond of DEVTIME. -/
def execMarkerSend (s : State) : Host.Outcome State Fault Refusal :=
  let at_ := s.pass.cycAt + s.pass.ecycle * 1000000
  if !(passOn s && passRole s == 3) then .next s
  else
    let go := fun (t : Nat) =>
      let c := (s.pass.cycle + 1) % 2 ^ 32
      let s := { s with pass := { s.pass with cycle := c, cycAt := t, gridOn := true, newGrid := false, markers := s.pass.markers + 1 } }
      passOwn (passFrame s (.marker (s.pass.ecycle * 1000) 0)) s
    if s.pass.gridOn then .next (if decide (at_ ≤ s.clk) && s.pass.ecycle != 0 then go at_ else s)
    else .next (if devtime s % 1000000 = 0 then go s.clk else s)

/-- Wall time at the start of the present cycle. -/
def cycleWall (s : State) : Int := wallNs { s with clk := s.pass.cycAt }

/-- Chain-wide overlays of the latest transition begun, as a mask (16 R403). -/
def chainOverlays (s : State) : Nat :=
  ((s.ovl.set.filter (fun i => i < 64 && (tget {} s.flash.ovl i).chain)).dedup.map (fun i => 2 ^ i)).sum

/-- ADVERT content of this device. -/
def ownAdvert (s : State) : Advert :=
  { inaug := ownRecord s, mode := stateNibble s (devMode s), pairRole := s.pair.rstate, innings := s.silo.innings
    trust := fld (tbTrust s) 5 0, wallNs := (cycleWall s).toNat, overlays := chainOverlays s
    changes := if passRole s = 3 then s.pass.announced ++ s.pass.applied.filter (fun c => c.cycle == s.pass.cycle) else [] }

/-- PUB frames of one group as it stands. -/
def groupFrames (s : State) (g : Nat) : List PassFrame :=
  let ns := groupPlots s s.pass.ownPos g
  let chg := ns.any (fun n => (getPlot s n).marked)
  let k := (ns.length + 2) / 3
  (List.range k).map (fun i =>
    let ps := ((ns.drop (3 * i)).take 3).map (fun n => (⟨n, plotQual s n, (span (64 * n) 64).map (imgWord s)⟩ : PubPlot))
    { passFrame s (.pub ps) with group := g, chg, frag := i, frags := k - 1 })

/-- Start of the device's slot after the cycle start, in tenths of ns (R355). -/
def slotOffset (s : State) : Nat :=
  let own := s.pass.ownPos
  let ms := passMembers s
  let before := if passRole s = 4 then (ms.map (slotTenths s)).sum + ((guestIds s).filter (fun e => decide (e.1 < own) || (e.1 == own && decide (e.2 < s.pass.id)))).length * 15000
    else ((ms.filter (· < own)).map (slotTenths s)).sum
  200000 + before

/-- A device that has missed markers keeps its grid from the last one (R355): when a later slot of that grid has come, the cycle
that it belongs to is the present one (log 112). -/
def gridOnward (s : State) : State :=
  let since := 10 * (s.clk - s.pass.cycAt)
  let cyc := 10000000 * s.pass.ecycle
  if passRole s = 3 || cyc = 0 || since < slotOffset s then s
  else
    let k := (since - slotOffset s) / cyc
    { s with pass := { s.pass with cycle := (s.pass.cycle + k) % 2 ^ 32, cycAt := s.pass.cycAt + k * s.pass.ecycle * 1000000 } }

/-- This device's own chain state changes outside an inauguration's result; in one in progress, the state before it does. -/
def selfRole (c cause : Nat) (s : State) : State :=
  if s.pass.cstate = 1 then { s with pass := { s.pass with before := c, gcause := cause } }
  else { s with pass := { s.pass with cstate := c, gcause := cause } }

/-- Guests that qualify again at an ADVERT of the master (R364). -/
def readmit (a : Advert) (s : State) : State :=
  let ok := fun (hash maj min : Nat) => hash == a.inaug.hash && maj == a.inaug.fwMajor && min == a.inaug.fwMinor
  let s := s.pass.member.foldl (fun s e =>
    if e.2.mstate = 2 && e.2.gcause != 3 && e.2.gcause != 4 && ok e.2.hash e.2.fw.1 e.2.fw.2.1 then
      passGln 0x0D03 5 (e.1 * 2 + 1 : Nat) e.2.passId (updMember e.1 (fun m => { m with mstate := 1, gcause := 0 }) s)
    else s) s
  if passRole s = 4 && s.pass.gcause != 4 && (getMember s s.pass.ownPos).mstate == 0 &&
      ok (chainHash s) s.flash.fwVersion.1 s.flash.fwVersion.2.1 then
    passGln 0x0D03 5 (s.pass.ownPos * 2 + 1 : Nat) s.pass.id (selfRole 2 0 s)
  else s

/-- PUBLISH_SLOT (R356): every group with plots, then the ADVERT; a guest sends its ADVERT alone. Chain changes of the cycle come
first (R363). -/
def execPublishSlot (s : State) : Host.Outcome State Fault Refusal :=
  let s := if passOn s && s.pass.gridOn then gridOnward s else s
  if s.pass.announced.any (fun c => passIn s && numReached s.pass.cycle c.cycle) then .next s
  else if !(passOn s && s.pass.gridOn && 2 ≤ passRole s && passSpeaks s && s.pass.slotAt != some s.pass.cycle &&
      decide (slotOffset s ≤ 10 * (s.clk - s.pass.cycAt))) then .next s
  else
    let fs := if passIn s then (List.range 16).flatMap (groupFrames s) else []
    let s := fs.foldl (fun s f => passOwn f s) s
    let s := if passIn s then (List.range 320).foldl (fun s n =>
      if ownPOS (plotOwn s n) == s.pass.ownPos then updPlot n (fun x => { x with marked := false }) s else s) s else s
    let a := ownAdvert s
    let s := passOwn (passFrame s (.advert a)) { s with pass := { s.pass with slotAt := some s.pass.cycle } }
    -- the master's own ADVERT readmits at the master too
    let s := if passRole s = 3 then readmit a s else s
    .next ((List.range 2).foldl (fun s p => if portLive s p then fire (passSrc p 1) s else s) s)

/-- PUB_TIMEOUT (R358). -/
def execPubTimeout (origin : Fin 256) (group : Fin 16) (s : State) : Host.Outcome State Fault Refusal :=
  let (o, g) := (origin.val, group.val)
  let k := o * 16 + g
  let x := tget {} s.pass.pub k
  let ns := groupPlots s o g
  if passOn s && passIn s && o != s.pass.ownPos && ns != [] && !x.lost && decide (x.seen + passPtmo s ≤ s.pass.markers) then
    let s := ns.foldl (fun s n => updPlot n (fun p => { p with pubLost := true }) s) s
    .next (passGln 0x0D06 5 k (x.last.getD 0) { s with pass := { s.pass with pub := tput {} k { x with lost := true } s.pass.pub } })
  else .next s

/-! ### Received frames (R346, R357, R363, R364) -/

/-- A frame or publication discarded with Gleaner 0x0D08 (R365). -/
def passDiscard (p cause origin type : Nat) (s : State) : State :=
  passGln 0x0D08 3 (p * 256 + cause : Nat) (origin * 256 + type : Nat) (updPort p (fun x => { x with nDisc := x.nDisc + 1 }) s)

/-- The quality bits that the owner forms (06 R168). -/
def ownerBits (q : Word) : Word := q &&& 0x000000006700#48

/-- An accepted publication of origin o (R357). -/
def pubAccept (p o g cycle : Nat) (plots : List PubPlot) (s : State) : State :=
  let k := o * 16 + g
  let x := tget {} s.pass.pub k
  let good := plots.filter (fun q => q.plot < 320 && o != 0 && ownPOS (plotOwn s q.plot) == o)
  let s := ioPuts (good.flatMap (fun q => (span (64 * q.plot) 64).zip q.words)) s
  let s := good.foldl (fun s q => updPlot q.plot (fun y => { y with
    upd := (y.upd + 1) % 65536, valid := true, pubLost := false, remoteBits := ownerBits q.qual
    ageFrom := (s.clk : Int) - fld q.qual 47 32 * 100000, feeds := [] }) s) s
  let s := good.foldl (fun s q => updPlot q.plot (fun y => { y with stale := y.stale && decide (staleLimit s q.plot < plotAge s y) }) s) s
  let s := if good.length = plots.length then s else passDiscard p 4 o 6 s
  let s := { s with pass := { s.pass with pub := tput {} k { last := some cycle, lost := false, seen := s.pass.markers, part := none } s.pass.pub } }
  let s := if x.lost then passGln 0x0D07 5 k cycle s else s
  if s.pass.acceptAt = some s.pass.cycle then s
  else fire (passSrc p 0) { s with pass := { s.pass with acceptAt := some s.pass.cycle } }

/-- A PUB frame: collected until its publication is complete, then judged (R357). -/
def pubFrame (p : Nat) (f : PassFrame) (plots : List PubPlot) (s : State) : State :=
  let o := f.origin
  let k := o * 16 + f.group
  if !(passIn s) || (o = s.pass.ownPos && serving s) then s
  else
    let x := tget {} s.pass.pub k
    let (s, have_) := match x.part with
      | some (c, n, l) => if c = f.cycle && n = f.frags then (s, l) else (passDiscard p 3 o 6 s, [])
      | none => (s, [])
    let l := (f.frag, plots) :: have_.filter (fun e => e.1 != f.frag)
    let put := fun (y : PassPub) (s : State) => { s with pass := { s.pass with pub := tput {} k y s.pass.pub } }
    if l.length ≤ f.frags then put { x with part := some (f.cycle, f.frags, l) } s
    else
      let all := (List.range (f.frags + 1)).flatMap (fun i => ((l.find? (fun e => e.1 == i)).map (·.2)).getD [])
      let s := put { x with part := none } s
      match x.last with
      | none => pubAccept p o f.group f.cycle all s
      | some c =>
        let d := (f.cycle + 2 ^ 32 - c) % 2 ^ 32
        if x.lost then pubAccept p o f.group f.cycle all s
        else if d = 0 then updPort p (fun y => { y with nDisc := y.nDisc + 1 }) s
        else if d ≤ 0x7FFFFFFF then pubAccept p o f.group f.cycle all s
        else passDiscard p 2 o 6 s

/-- A change that a frame announces is known from then on; one whose cycle has begun already is late (R363). -/
def learnChange (s : State) (c : ChainChange) : State :=
  if s.pass.announced.contains c || s.pass.applied.contains c then s
  else { s with pass := { s.pass with
    announced := s.pass.announced ++ [c], late := if numReached s.pass.cycle c.cycle then s.pass.late ++ [c] else s.pass.late } }

/-- A marker of the master: cycle number, cycle start, ECYCLE; on a new grid every publication counts as the first (R354, R355). -/
def markerFrame (p : Nat) (f : PassFrame) (ecycleUs accDly : Nat) (s : State) : State :=
  if f.origin ≠ s.pass.master || passRole s = 3 then s
  else
    -- an end member has no port to forward the marker by: its cycle ends as it receives it (log 123)
    let s := if portLive s (1 - p) then s else cycleEnds f.cycle s
    let s := if s.pass.newGrid then { s with pass := { s.pass with pub := s.pass.pub.map (fun e => (e.1, { e.2 with last := none, part := none })) } } else s
    { s with pass := { s.pass with
      cycle := f.cycle, cycAt := s.clk - accDly - (getPort s p).d, gridOn := true, newGrid := false
      ecycle := ecycleUs / 1000, markers := s.pass.markers + 1 } }

/-- An INAUG record of another device, or the device's own come back (R351, R353). A record counts as new where no equal one of that
device is known, by whichever port. Outside an inauguration a record of the last result that a device still sends at its own end of
it starts none; the 500 µs for that: DESIGN CHOICE, log 123. -/
def inaugFrame (p : Nat) (f : PassFrame) (r : InaugRec) (s : State) : State :=
  if r.passId = s.pass.id then (if s.pass.cstate = 1 then { s with pass := { s.pass with ring := true } } else s)
  else if s.pass.cstate != 1 && s.pass.last.contains r && decide (s.clk < s.pass.doneAt + 500000) then s
  else
    let s := if s.pass.cstate = 1 then s else inaugStart s
    if s.pass.records.any (fun e => e.rec_ == r) then
      { s with pass := { s.pass with records := s.pass.records.map (fun e => if e.rec_ == r then { e with at_ := s.clk } else e) } }
    else
      { s with pass := { s.pass with
        records := ⟨r, p == 1, f.hops + 1, s.clk⟩ :: s.pass.records.filter (fun e => e.rec_.passId != r.passId), recAt := s.clk } }

/-- Wall-time and overlay disagreement of a member's ADVERT (R364, Table 14-8). -/
def advertDiffs (o : Nat) (a : Advert) (s : State) : State :=
  let (w, t, m) : Int × Nat × Nat := if passRole s = 3 then (cycleWall s, fld (tbTrust s) 5 0, chainOverlays s) else ((s.pass.mWall : Int), s.pass.mTrust, s.pass.mOvl)
  let d : Int := (a.wallNs : Int) - w
  let x := getMember s o
  let both := t % 2 == 1 && a.trust % 2 == 1
  let s := if both && !x.tdiff && decide (1000000 < d.natAbs) then
      passGln 0x0D0C 5 o (d.tdiv 1000) (updMember o (fun y => { y with tdiff := true }) s)
    else if x.tdiff && decide (d.natAbs < 500000) then updMember o (fun y => { y with tdiff := false }) s
    else s
  if a.overlays = m then updMember o (fun y => { y with ovlDiff := false, ovlSince := none }) s
  else
    let since := x.ovlSince.getD s.clk
    let s := updMember o (fun y => { y with ovlSince := some since }) s
    if !x.ovlDiff && decide (since + 2000000000 ≤ s.clk) then
      passGln 0x0D0F 5 o a.overlays (updMember o (fun y => { y with ovlDiff := true }) s)
    else s

/-- Guest cause of a hash and a version against a reference (Table 14-8). -/
def refCause (k : Nat × Nat × Nat) (hash maj min : Nat) : Nat := if hash != k.1 then 1 else if (maj, min) != k.2 then 2 else 0

/-- The reference against which an ADVERT of the present cycle is held: the master's own values at the master, at a member those of
the master's ADVERT of the same cycle. None while a chain change is due and not applied yet. -/
def advertRef (s : State) : Option (Nat × Nat × Nat) :=
  if s.pass.announced.any (fun c => numReached s.pass.cycle c.cycle) then none
  else if passRole s = 3 then some (chainHash s, s.flash.fwVersion.1, s.flash.fwVersion.2.1)
  else if s.pass.mCycle = some s.pass.cycle then some s.pass.mRef
  else none

/-- A member whose ADVERT shows another hash or version than the reference becomes a guest (Table 14-8). -/
def advertGuest (f : PassFrame) (s : State) : State :=
  let o := f.origin
  let m := getMember s o
  match advertRef s with
  | none => s
  | some k =>
    let c := refCause k m.hash m.fw.1 m.fw.2.1
    if c = 0 || m.mstate != 1 || f.cycle != s.pass.cycle then s
    else
      let s := updMember o (fun m => { m with mstate := 2, gcause := c }) s
      originLost o (passGln 0x0D04 5 o c (passGln 0x0D03 5 (o * 2 : Nat) m.passId s))

/-- At an ADVERT of the master a member that differs from it becomes a guest itself (Table 14-8). -/
def selfGuest (s : State) : State :=
  match advertRef s with
  | none => s
  | some k =>
    let c := refCause k (chainHash s) s.flash.fwVersion.1 s.flash.fwVersion.2.1
    if c = 0 || passRole s != 2 || s.pass.master = s.pass.ownPos then s
    else guestPlots (passGln 0x0D04 5 s.pass.ownPos c (passGln 0x0D03 5 (s.pass.ownPos * 2 : Nat) s.pass.id (selfRole 4 c s)))

/-- An ADVERT (R364). -/
def advertFrame (f : PassFrame) (a : Advert) (s : State) : State :=
  let o := f.origin
  let s := a.changes.foldl learnChange s
  if o = s.pass.ownPos then
    if passPair s && a.inaug.passId != s.pass.id then inningsHeard 0 a.innings a.pairRole s else s
  else
    let s := if (getMember s o).mstate = 0 then s else updMember o (fun m => { m with
      mode := a.mode, paired := a.inaug.pair, passId := a.inaug.passId, hash := a.inaug.hash
      fw := (a.inaug.fwMajor, a.inaug.fwMinor, a.inaug.fwPatch) }) s
    if o = s.pass.master then
      selfGuest (readmit a { s with pass := { s.pass with
        mWall := a.wallNs, mTrust := a.trust, mOvl := a.overlays, mRef := recKey a.inaug, mCycle := some f.cycle } })
    else if (getMember s o).mstate = 0 then s else advertGuest f (advertDiffs o a s)

/-- What the master finds against a member's request: 8 changes announced already, or a plot command that would take B above 100 ms
(R362, R363). -/
def requestOpen (c : ChainChange) (s : State) : Bool :=
  chainPending s < 8 && (c.kind != 0 || (plotChange c.cmd c.tenant c.payload s).all (fun s' => (passBudget s').2.2.2 ≤ 100000000))

/-- Local use of an accepted frame of a forwarded type. -/
def passUse (p : Nat) (f : PassFrame) (s : State) : State :=
  match f.body with
  | .inaug r => inaugFrame p f r s
  | .marker e a => markerFrame p f e a s
  | .advert a => advertFrame f a s
  | .pub ps => pubFrame p f ps s
  | .change .request c =>
    if passRole s ≠ 3 then s
    else if requestOpen c s then chainAnnounce c s
    else passOwn (passFrame s (.change (.refuse rcNoResource) c)) s
  | .change .announce c => learnChange s c
  | .change (.refuse rc) c => answerChange c rc s
  | _ => s

/-- A gap in the numbered frames: RESEND, unless one stands already (R347). -/
def passGap (p : Nat) (s : State) : State :=
  if (getPort s p).gap.isSome then s
  else linkSend p (.resend (((getPort s p).rxSeq + 1) % 65536)) (updPort p (fun x => { x with gap := some s.clk }) s)

/-- Gleaner 0x0D09 for a received frame: the port and the LSEQ expected. -/
def gapEntry (p : Nat) (s : State) : State := passGln 0x0D09 3 p (((getPort s p).rxSeq + 1) % 65536 : Nat) s

/-- A frame with an FCS error: counted, its source fired, 0x0D09 (R342, R365). -/
def passFcs (p : Nat) (s : State) : State :=
  gapEntry p (fire (passSrc p 3) (updPort p (fun x => { x with nFcs := x.nFcs + 1, nDisc := x.nDisc + 1 }) s))

/-- What a correct frame tells about the reverse direction: credits and the LSEQ up to which frames have arrived. -/
def passLinkFields (p : Nat) (f : PassFrame) (s : State) : State :=
  updPort p (fun x => { x with credRx := f.credit % 65536, retry := x.retry.filter (fun h => (f.lack + 65536 - h.frame.lseq) % 65536 ≥ 32768) }) s

/-- A numbered frame of a live link, its FCS error told already (R346 to R348). -/
def passNumberedFrame (p : Nat) (f : PassFrame) (s : State) : State :=
  let q := 1 - p
  let expected := ((getPort s p).rxSeq + 1) % 65536
  let onward := fun (s : State) => updPort q (fun x => { x with waiting := x.waiting ++ [⟨f, s.clk, (getPort s p).d, true⟩] }) s
  if !f.fcsOk then
    let cut := f.lseq == expected && (getPort s q).waiting == [] && portReady s q f.len
    let s := passGap p s
    if cut then onward s else passFree p f.len s
  else if f.lseq ≠ expected then
    let s := updPort p (fun x => { x with nDisc := x.nDisc + 1 }) s
    passFree p f.len (if (getPort s p).gap.isSome then s else passGap p (gapEntry p s))
  else
    let s := updPort p (fun x => { x with rxSeq := expected, gap := none }) s
    let s := if portLive s q then onward s else passFree p f.len s
    if e2eRight f then passUse p f s else passDiscard p 1 f.origin (passType f.body) s

/-- Credits of the frames that wait in a port's receive buffer. -/
def passHeldCredits (s : State) (p : Nat) : Nat := ((getPort s (1 - p)).waiting.map (fun w => if w.held then passCredits w.frame.len else 0)).sum

/-- A frame of the types that are not forwarded (R342, R343, R347). -/
def passLinkFrame (p : Nat) (b : PassBody) (s : State) : State :=
  match b with
  | .echo dep 0 =>
    let (w, s) := drawWord s
    linkSend p (.echo dep (Nat.max 1 (fld w 31 0))) s
  | .echo dep (t + 1) => echoAnswer p dep (t + 1) s
  | .resend n => passResend p n s
  | .skip n => if n = ((getPort s p).rxSeq + 1) % 65536 then updPort p (fun x => { x with rxSeq := n, gap := none }) s else s
  | _ => s

/-- A frame laid out as R344 has it, of a listed VER and TYPE, a matching LEN and a length of 64 to 1,536 bytes (Table 14-9). -/
def passFormat (f : PassFrame) : Bool := f.wellFormed && f.dest == passDest && f.ver == 1 && 64 ≤ f.len && f.len ≤ 1536

/-- PASS_FRAME_RECEIVED (R341, R342, R346 to R348, Table 14-9). A port that is not up yet takes frames only to come up, and answers
ECHO requests of a neighbour that is up already. -/
def execPassFrameReceived (port : Fin 2) (f : PassFrame) (s : State) : Host.Outcome State Fault Refusal :=
  let p := port.val
  let t := passType f.body
  if !passOn s then .next s
  else
    let s := updPort p (fun x => { x with nRx := x.nRx + 1 }) s
    let s := if f.fcsOk then s else passFcs p s
    if !passFormat f then .next (passFree p f.len (if f.fcsOk then passDiscard p 0 f.origin t s else s))
    else if !(getPort s p).up then .next (match f.body with | .echo _ 0 => if f.fcsOk then passLinkFrame p f.body s else s | _ => s)
    else if 256 < passHeldCredits s p + passCredits f.len then
      .next (passFree p f.len (if f.fcsOk then passDiscard p 5 f.origin t s else s))
    else
      let s := if f.fcsOk then passLinkFields p f s else s
      if (getPort s p).refused then .next (passFree p f.len s)
      else if passNumbered f.body then .next (passNumberedFrame p f s)
      else .next (if f.fcsOk then passLinkFrame p f.body (passFree p f.len s) else passFree p f.len s)

/-! ### Commands (R367) -/

/-- PASS_STAT (Table 14-4). -/
def passStat (s : State) : Word :=
  let f := getPort s 0
  let b := getPort s 1
  wd ((if s.pass.cstate = 1 then 1 else passRole s) * 2 ^ 45 + b2n s.pass.orient * 2 ^ 44 + s.pass.master * 2 ^ 36 + (passMembers s).length * 2 ^ 28 +
    (passGuests s).length * 2 ^ 20 + s.pass.ecycle * 2 ^ 13 + s.pass.gcause * 2 ^ 9 + b2n f.up * 2 ^ 8 + b2n b.up * 2 ^ 7 +
    b2n f.refused * 2 ^ 6 + b2n b.refused * 2 ^ 5)

def mbPassStat (_t _ch : Nat) (p : Bytes) (s : State) : MbR := do
  lenIs p 0
  reply (wB (passStat s) ++ toBe 6 s.pass.id ++ toBe 4 s.pass.cycle ++ toBe 4 (chainHash s) ++ (List.range 2).flatMap (fun i =>
    let x := getPort s i
    toBe 4 x.d ++ toBe 2 (portCredits x) ++ toBe 4 x.nRx ++ toBe 4 x.nTx ++ toBe 4 x.nFcs ++ toBe 4 x.nResend ++ toBe 4 x.nDisc)) s

/-- PASS_MEMBER[p] (Table 14-5), the device's own among them. -/
def memberOf (s : State) (p : Nat) : PassMember :=
  if passOn s && p == s.pass.ownPos && (passRole s != 4 || s.pass.gcause != 3) then
    { mstate := (match passRole s with | 2 => 1 | 3 => 3 | 4 => 2 | _ => 0), gcause := s.pass.gcause, paired := passPair s
      mode := stateNibble s (devMode s), passId := s.pass.id, fw := s.flash.fwVersion, hash := chainHash s }
  else getMember s p

def memberWord (m : PassMember) : Word :=
  wd (m.mstate * 2 ^ 46 + m.gcause * 2 ^ 42 + b2n m.side * 2 ^ 41 + m.hops % 256 * 2 ^ 33 + b2n m.paired * 2 ^ 32 + m.mode % 16 * 2 ^ 28 +
    b2n m.tdiff * 2 ^ 27 + b2n m.ovlDiff * 2 ^ 26)

def mbPassMembers (_t _ch : Nat) (p : Bytes) (s : State) : MbR := do
  lenIs p 2
  let (a, c) := (u8 p 0, u8 p 1)
  par (1 ≤ a && 1 ≤ c && c ≤ 64 && a + c ≤ 256)
  reply ((span a c).flatMap (fun i =>
    let m := memberOf s i
    wB (memberWord m) ++ toBe 6 m.passId ++ toBe 1 m.fw.1 ++ toBe 1 m.fw.2.1 ++ toBe 1 m.fw.2.2 ++ toBe 4 m.hash)) s

def mbPassBudget (_t _ch : Nat) (p : Bytes) (s : State) : MbR := do
  lenIs p 0
  let (sp, hop, res, b) := passBudget s
  reply (toBe 4 b ++ toBe 4 sp ++ toBe 4 hop ++ toBe 4 res ++ toBe 1 s.pass.ecycle) s

def mbPassInaug (t _ch : Nat) (p : Bytes) (s : State) : MbR := do
  perm (t == 0)
  lenIs p 0
  stOwn s (passOn s)
  done (inaugStart s)

/-- PASS_CFG that a request of `MB_PASS_SET` asks for (R349). -/
def passRequest (p : Bytes) : Word :=
  if u8 p 0 = 0 then
    wd (u8 p 2 * 2 ^ 40 + u8 p 1 * 2 ^ 39 + u8 p 6 * 2 ^ 37 + u8 p 4 * 2 ^ 36 + u8 p 5 * 2 ^ 35 + u8 p 3 * 2 ^ 28 + 3 * 2 ^ 24 + 200 * 2 ^ 16)
  else setBit (beW p 1 &&& 0xFFFFFFFF0000#48) 38 true

/-- The chain is left: no members, no grid. -/
def passOff (s : State) : State :=
  { s with pass := { s.pass with
    cstate := 0, master := 0, orient := false, gcause := 0, ecycle := 0, before := 0, records := [], last := [], dups := [], links := (0, 0), ring := false, member := []
    gridOn := false, newGrid := false, announced := [], late := [], waiting := [], pub := [], mCycle := none } }

/-- The fields of one device alone take effect: both ports go down, and a device that takes part inaugurates (R349, R350). -/
def passLocal (w : Word) (s : State) : State :=
  let old := s.pass.cfg
  let same := fld old 47 39 == fld w 47 39 && fld old 37 35 == fld w 37 35
  let chainWide := fun (c : Word) => setFld (setFld c 34 28 (fld old 34 28)) 27 24 (fld old 27 24)
  let new := if passOn s && bit w 39 then chainWide w else w
  if same then { s with pass := { s.pass with cfg := new } }
  else
    let s := passPortSet 1 false (passPortSet 0 false s)
    let s := { s with pass := { s.pass with downUntil := s.clk + 1000000 } }
    let s := { s with pass := { s.pass with cfg := new } }
    let s := if bit w 39 && fld old 47 40 == fld w 47 40 && bit old 39 then s else passOff s
    plotTableChanged (inaugStart s)

def mbPassSet (t ch : Nat) (p : Bytes) (s : State) : MbR := do
  perm (t == 0)
  formLen p 0 [(0, 7), (1, 7)]
  let w := passRequest p
  let old := s.pass.cfg
  let same := fld old 47 39 == fld w 47 39 && fld old 37 35 == fld w 37 35
  let listed := levelOk p 0 && (u8 p 0 == 1 || (u8 p 1 ≤ 1 && u8 p 4 ≤ 1 && u8 p 5 ≤ 1 && u8 p 6 ≤ 1))
  need (!listed || (!updating s && (same || devMode s == 1))) rcBadState
  par (listed && (u8 p 0 == 1 || u8 p 3 ≤ 127))
  par (1 ≤ fld w 47 40 && 1 ≤ fld w 34 28 && fld w 34 28 ≤ 100 && 2 ≤ fld w 27 24 && 10 ≤ fld w 23 16 && fld w 23 16 ≤ 200)
  if bit old 39 && bit w 39 && (fld old 34 28 != fld w 34 28 || fld old 27 24 != fld w 27 24) then
    chainRequest 1 0x0A30 t ch p (passLocal w s)
  else done (passLocal w s)

def execMbPassSet (ch : Fin 16) (p : Bytes) (s : State) := runMb ch 0x0A30 mbPassSet p s
def execMbPassStat (ch : Fin 16) (p : Bytes) (s : State) := runMb ch 0x0A31 mbPassStat p s
def execMbPassMembers (ch : Fin 16) (p : Bytes) (s : State) := runMb ch 0x0A32 mbPassMembers p s
def execMbPassBudget (ch : Fin 16) (p : Bytes) (s : State) := runMb ch 0x0A33 mbPassBudget p s
def execMbPassInaug (ch : Fin 16) (p : Bytes) (s : State) := runMb ch 0x0A34 mbPassInaug p s

end Sys2Proof.Machine
end

