-- ==== Sys2Proof/Machine/SafRows.lean ====
section
/-! DEFINITION. The safety channel at work: evaluations, inputs and pulses, timers, cross-monitoring, start, status word, and
the commands of class 0x0B (11). -/

namespace Sys2Proof.Machine

def safRuns (s : State) : Bool := s.saf.state == 5

/-! ### Evaluations and inputs -/

/-- SFC_EVALUATION (R288). -/
def execSfcEvaluation (rb : SoReadback) (s : State) : Host.Outcome State Fault Refusal :=
  .next (if safRuns s then evalPath 0 rb s else s)

/-- HW_PATH_EVALUATION (R288). -/
def execHwPathEvaluation (rb : SoReadback) (s : State) : Host.Outcome State Fault Refusal :=
  .next (if safRuns s then evalPath 1 rb s else s)

/-- SAFETY_INPUT_ACCEPT (R280): a new state of an input, which masking holds back (R279). -/
def execSafetyInputAccept (path : SafPath) (j : Fin 16) (high : Bool) (s : State) : Host.Outcome State Fault Refusal :=
  .next (if s.saf.state = 0 || inMasked s j.val then s else updIn (pathNo path) j.val (fun x => { x with high }) s)

/-- What a dark pulse shows of one input (R279). -/
def pulseInput (p j : Nat) (low : Bool) (s : State) : State :=
  let x := getIn s p j
  if low then
    let ends := x.test && 3 ≤ x.passed + 1
    updIn p j (fun x => { x with once := true, missed := 0, passed := if x.test && !ends then x.passed + 1 else 0, test := x.test && !ends }) s
  else
    let s := updIn p j (fun x => { x with missed := x.missed + 1, passed := 0, test := x.test || 2 ≤ x.missed + 1 }) s
    if x.missed + 1 = 2 && !x.test then safGln 0x0A03 j 2 s else s

/-- TEST_PULSE (R278, R279): what the last 50 µs of a dark pulse of TPk shows a path, once for each pulse; and whether TPk has
been at its current limit for 2 ms. -/
def execTestPulse (path : SafPath) (k : Fin 4) (readLow : BitVec 16) (overload : Bool) (s : State) : Host.Outcome State Fault Refusal :=
  let p := pathNo path
  let k := k.val
  if !tpRuns s || !bit (sfGlob s) (44 + k) then .next s
  else
    let was := (getPath s p).tpOver.getLsbD k
    let m := BitVec.ofNat 4 (2 ^ k)
    let s := updPath p (fun x => { x with tpOver := if overload then x.tpOver ||| m else x.tpOver &&& ~~~m }) s
    let s := if overload && !was then safGln 0x0A03 (0x100 + k) 0 s else s
    let n := tpCheck s k
    if n = 0 || tget 0 (getPath s p).pulse k == n then .next s
    else
      let s := updPath p (fun x => { x with pulse := tput 0 k n x.pulse }) s
      .next ((List.range 16).foldl (fun s j => if pulsedFrom s j k then pulseInput p j (readLow.getLsbD j) s else s) s)

/-! ### Timers of instances -/

/-- Time since the later change of the two inputs. -/
def sinceChange (s : State) (p i : Nat) : Nat := absNow s - Nat.max (getInst s p i).aAt (getInst s p i).bAt

/-- The loops or contacts of an instance differ for longer than a limit: FAULT with cause DISC. -/
def disagreeFault (ty p i ms : Nat) (s : State) : State :=
  let x := getInst s p i
  if safRuns s && siTYPE (sfInst s i) == ty && x.a != x.b && x.st != 5 && decide (ms * 1000000 < sinceChange s p i) then
    driveSwitches p (setInst p i 5 2 s)
  else s

/-- GUARD_DT_DISCREPANCY (R283). -/
def execGuardDtDiscrepancy (path : SafPath) (i : Fin 16) (s : State) : Host.Outcome State Fault Refusal :=
  .next (disagreeFault 3 (pathNo path) i.val (sfT1 s i.val) s)

/-- DOOR_LOOP_DISAGREE (R284). -/
def execDoorLoopDisagree (path : SafPath) (i : Fin 16) (s : State) : Host.Outcome State Fault Refusal :=
  .next (disagreeFault 4 (pathNo path) i.val (sfT2 s i.val) s)

/-- DOOR_LOOP_SETTLE (R284). -/
def execDoorLoopSettle (path : SafPath) (i : Fin 16) (s : State) : Host.Outcome State Fault Refusal :=
  let p := pathNo path
  let i := i.val
  let x := getInst s p i
  .next (if safRuns s && siTYPE (sfInst s i) == 4 && x.st == 1 && x.a && x.b && !testFault s p i &&
      safClosed s p (siA (sfInst s i)) && safClosed s p (siB (sfInst s i)) && decide (sfT1 s i * 1000000 ≤ sinceChange s p i) then
      driveSwitches p (safPermit p i s)
    else s)

/-- MAX_HOLD_EXPIRY (R285): DEMAND until both inputs have been open at once. -/
def execMaxHoldExpiry (path : SafPath) (i : Fin 16) (s : State) : Host.Outcome State Fault Refusal :=
  let p := pathNo path
  let i := i.val
  .next (if safRuns s && siTYPE (sfInst s i) == 5 && (getInst s p i).st == 4 && decide (sfT2 s i * 1000000000 ≤ sinceChange s p i) then
      driveSwitches p (toDemand p i false s)
    else s)

/-- STANDSTILL_DECLARE (R287). -/
def execStandstillDeclare (path : SafPath) (i : Fin 16) (s : State) : Host.Outcome State Fault Refusal :=
  let p := pathNo path
  let i := i.val
  let x := getInst s p i
  .next (if safRuns s && siTYPE (sfInst s i) == 6 && x.st == 1 && decide (x.motion + sfT2 s i * 100000000 ≤ absNow s) then
      driveSwitches p (safPermit p i (updInst p i (fun x => { x with ready := true }) s))
    else s)

/-- SAFETY_SENSOR_TIMEOUT (R287): a sensor's current-in-range bit has been 0 for 10 ms, as the path's evaluations found it. -/
def execSafetySensorTimeout (path : SafPath) (i : Fin 16) (s : State) : Host.Outcome State Fault Refusal :=
  let p := pathNo path
  let i := i.val
  let x := getInst s p i
  .next (if safRuns s && siTYPE (sfInst s i) == 6 && x.st != 5 && ((!inRange s 0 && !x.a && decide (x.aAt + 10000000 ≤ absNow s)) || (!inRange s 1 && !x.b && decide (x.bAt + 10000000 ≤ absNow s))) then
      driveSwitches p (updInst p i (fun x => { x with ready := false }) (setInst p i 5 4 s))
    else s)

/-- AXLE_DISAGREEMENT (R287): this path declares motion from one axle, whose last short interval lies less than T_STILL back, and the
other has shown it no edge of A for 10 s. -/
def execAxleDisagreement (path : SafPath) (i : Fin 16) (axle : Fin 2) (s : State) : Host.Outcome State Fault Refusal :=
  let p := pathNo path
  let i := i.val
  let own := tget {} (getPath s p).axle axle.val
  let other := tget {} (getPath s p).axle (1 - axle.val)
  let moves := match own.edge with | some e => own.moved.getLsbD i && decide (absNow s < e + sfT2 s i * 100000000) | none => false
  let still := decide (Nat.max (other.edge.getD 0) (getPath s p).runAt + 10000000000 ≤ absNow s)
  .next (if safRuns s && siTYPE (sfInst s i) == 6 && (getInst s p i).st != 5 && moves && still then
      driveSwitches p (safGln 0x0A0C axle.val i (setInst p i 5 5 s))
    else s)

/-! ### Outputs and cross-monitoring -/

/-- A path's next test of SOk is due: every 10 s for the processor path, and 5 s after it for the hardwired path (log 108). -/
def testDue (s : State) (p k : Nat) : Bool :=
  let last := fun q => (tget none (getPath s q).testAt k).getD (getPath s q).runAt
  if p = 0 then decide (last 0 + 10000000000 ≤ absNow s)
  else decide (last 1 < last 0) && decide (last 0 + 5000000000 ≤ absNow s)

/-- The switch commands during a test: the path opens its own switch while SOk conducts, and closes it alone while SOk is off;
a demand leaves it open (R290). -/
def testSwitch (p k : Nat) (s : State) : State :=
  let m := BitVec.ofNat 4 (2 ^ k)
  let on := soClosed s 0 k && soClosed s 1 k
  updPath p (fun x => { x with sw := if on then x.sw &&& ~~~m else x.sw ||| m }) s

/-- SO_SWITCH_TEST (R290, R291): the test of one switch, at most 300 µs, after which the switch is as the path's evaluation has
it; a test that fails is an output fault. A switch held by an output fault is not tested. -/
def execSoSwitchTest (path : SafPath) (k : Fin 4) (pass : Bool) (s : State) : Host.Outcome State Fault Refusal :=
  let p := pathNo path
  let k := k.val
  if !safRuns s || tget 0 s.saf.fkind k != 0 || !testDue s p k then .next s
  else
    let s := testSwitch p k (updPath p (fun x => { x with testAt := tput none k (some (absNow s)) x.testAt }) s)
    .next (if pass then driveSwitches p s else outputFault k 1 s)

/-- GATE_DRIVE_STOP (R272): the path's switch of SOk opens. -/
def execGateDriveStop (path : SafPath) (k : Fin 4) (s : State) : Host.Outcome State Fault Refusal :=
  let m := BitVec.ofNat 4 (2 ^ k.val)
  .next (updPath (pathNo path) (fun x => { x with gateOff := x.gateOff ||| m, sw := x.sw &&& ~~~m }) s)

/-- Since when each of n conditions has held. -/
def diffSince (now n : Nat) (d : Nat → Bool) (t : Tab (Option Nat)) : Tab (Option Nat) :=
  (List.range n).foldl (fun t i => tput none i (if d i then (tget none t i).or (some now) else none) t) t

/-- One of the conditions has held for at least ms. -/
def diffDue (now ms : Nat) (t : Tab (Option Nat)) : Bool :=
  t.any (fun e => match e.2 with | some a => decide (a + ms * 1000000 ≤ now) | none => false)

/-- A partner's interval differs from the own one by more than 5 %. -/
def intervalDiffers (own theirs : Nat) : Bool := decide (5 * own < 100 * (Nat.max own theirs - Nat.min own theirs))

/-- The tooth intervals of a frame, each compared once per own interval (Table 11-13, code 0x5). -/
def compareAxle (p a theirs : Nat) (s : State) : State :=
  let x := tget {} (getPath s p).axle a
  if x.edge.isNone || x.interval = 0 || x.cmp = x.edge then s
  else updPath p (fun y => { y with
    axle := tput {} a { x with cmp := x.edge } y.axle
    intDiff := tput 0 a (if intervalDiffers x.interval theirs then tget 0 y.intDiff a + 1 else 0) y.intDiff }) s

/-- CROSS_MON_FRAME (R292): a difference has failed at the latest when it has lasted for the time that Table 11-13 allows for its
detection; whether it fails at an earlier frame is free (log 1). -/
def execCrossMonFrame (path : SafPath) (f : CrossFrame) (s : State) : Host.Outcome State Fault Refusal :=
  let p := pathNo path
  if !safRuns s || !f.crcOk then .next s
  else
    let now := absNow s
    let s := updPath p (fun x => { x with
      frameAt := now
      inDiff := diffSince now 16 (fun j => f.inputs.getLsbD j != (tget {} x.inp j).high) x.inDiff
      permDiff := diffSince now 16 (fun i => siTYPE (sfInst s i) != 6 && f.permits.getLsbD i != ((tget {} x.inst i).st == 4)) x.permDiff
      perDiff := if 950 ≤ f.periodUs && f.periodUs ≤ 1050 then none else x.perDiff.or (some now) }) s
    let s := compareAxle p 1 f.interval1 (compareAxle p 0 f.interval0 s)
    let x := getPath s p
    let open_ := x.perDiff.isSome || x.inDiff.any (·.2.isSome) || x.permDiff.any (·.2.isSome) || x.intDiff.any (fun e => e.2 != 0)
    let (f, s) := if open_ then drawWord s else (0#48, s)
    let x := getPath s p
    .next (if diffDue now 20 [(0, x.perDiff)] then safFault 2 p s
      else if diffDue now 10 x.inDiff then safFault 3 p s
      else if diffDue now 20 x.permDiff then safFault 4 p s
      else if x.intDiff.any (fun e => decide (3 ≤ e.2)) then safFault 5 p s
      else if bit f 0 && x.perDiff.isSome then safFault 2 p s
      else if bit f 1 && x.inDiff.any (·.2.isSome) then safFault 3 p s
      else if bit f 2 && x.permDiff.any (·.2.isSome) then safFault 4 p s
      else if bit f 3 && x.intDiff.any (fun e => e.2 != 0) then safFault 5 p s
      else s)

/-- CROSS_MON_TIMEOUT (R292): no valid frame for 3 ms. -/
def execCrossMonTimeout (path : SafPath) (s : State) : Host.Outcome State Fault Refusal :=
  let p := pathNo path
  .next (if safRuns s && decide ((getPath s p).frameAt + 3000000 ≤ absNow s) then safFault 1 p s else s)

/-- SFC_SELF_TEST (R292). -/
def execSfcSelfTest (pass : Bool) (s : State) : Host.Outcome State Fault Refusal :=
  .next (if safRuns s && !pass then safFault 6 0 s else s)

/-! ### Start (R294) -/

/-- A path as SAFE_RUN begins: E_STOP needs no both-open instant, GUARD awaits its cycle. -/
def startInsts (p : Nat) (s : State) : State :=
  let s := updPath p (fun x => { x with frameAt := absNow s, runAt := absNow s }) s
  (List.range 16).foldl (fun s i =>
    let ty := siTYPE (sfInst s i)
    if ty = 0 then s
    else updInst p i (fun x => { x with opened := ty == 1 || ty == 5, motion := absNow s, aAt := absNow s, bAt := absNow s, demands := 0 }) (setInst p i (if ty = 2 then 2 else 1) 0 s)) s

/-- Every pulsed input has passed one pulse since the start, on both paths (Table 11-16, step 6). -/
def pulsesPassed (s : State) : Bool :=
  (List.range 16).all (fun j => fld (siCfg s j) 47 46 != 1 || ((getIn s 0 j).once && (getIn s 1 j).once))

/-- SAFETY_START_SEQUENCE (Table 11-16, R296, R297). -/
def execSafetyStartSequence (testsPass : Bool) (pathsAgree : Bool) (s : State) : Host.Outcome State Fault Refusal :=
  let t := absNow s - s.saf.startAt
  let crc := blockCheck s.saf.block
  if s.saf.state != 1 || t < 30000000 then .next s
  else if s.saf.mode = 0 then .next (safState 2 s)
  else if s.saf.block = [] then .next (safState 3 s)
  else if t < 60000000 then .next s
  else if !pathsAgree then .next (safFault 7 0 s)
  else if s.saf.mode = 1 && s.saf.check.isNone then .next (safState 4 s)
  else if s.saf.check != some crc then .next (safState 6 (safGln 0x0A08 (s.saf.check.getD 0) crc s))
  else if t < 120000000 then .next s
  else if !testsPass then .next (safState 6 s)
  else if t < 170000000 + fld (sfGlob s) 35 28 * 10000000 then .next s
  else if !pulsesPassed s then .next (safState 6 s)
  else .next (startInsts 1 (startInsts 0 (safState 5 s)))

/-! ### The status word (R299) -/

/-- SO_STAT[k] (Table 11-12). -/
def soStat (s : State) (k : Nat) : Word :=
  let hs := soClosed s 0 k
  let ls := soClosed s 1 k
  let f := tget 0 s.saf.fkind k
  withLanes (wd (f * 2 ^ 40)) [(47, hs && ls && s.saf.current.getLsbD k), (46, hs), (45, ls), (44, f != 0)]

/-- The status word: permits and faults of the processor path, outputs, channel state. -/
def statusWord (s : State) : Word :=
  withLanes (wd (s.saf.state * 2 ^ 40))
    ((List.range 16).map (fun i => (i, (getInst s 0 i).st == 4)) ++ (List.range 16).map (fun i => (16 + i, (getInst s 0 i).st == 5)) ++
      (List.range 4).map (fun k => (32 + k, bit (soStat s k) 47)) ++ (List.range 4).map (fun k => (36 + k, bit (soStat s k) 44)))

/-- SF_STATUS_WORD_UPDATE: written as one unit after a change. -/
def execSfStatusWordUpdate (s : State) : Host.Outcome State Fault Refusal :=
  let w := fld s.saf.map 47 33
  let v := statusWord s
  .next (if fioRuns s && decide (w < 20480) && s.saf.told != some v then
      unitUpdate 16 false [(w, v)] { s with saf := { s.saf with told := some v } }
    else s)

/-! ### Log and password (R297, R298) -/

/-- Address of a change-log entry in the Silo: a ring of 256 (R298, 17 Table 17-2). -/
def safLogAddr (e : SafLog) : Nat := 0x163000 + 32 * (e.seq % 256)

/-- An entry of the change log; the oldest of 256 goes. -/
def safLog (kind ch before after : Nat) (s : State) : State :=
  let e : SafLog := ⟨s.saf.logNext, wallSec s, devtime s, before, after, kind, ch⟩
  siloPut (safLogAddr e) 32 { s with saf := { s.saf with log := (e :: s.saf.log).take 256, logNext := (s.saf.logNext + 1) % 2 ^ 32 } }

/-- An entry's 32 bytes (Table 11-17). -/
def safLogBytes (e : SafLog) : Bytes :=
  let b := toBe 4 e.seq ++ toBe 6 e.wall ++ toBe 6 e.devtime ++ toBe 4 e.before ++ toBe 4 e.after ++ toBe 1 e.kind ++ toBe 1 e.ch ++ toBe 4 0
  b ++ toBe 2 (crc16 b)

/-- Seconds of lockout that remain. -/
def lockSeconds (s : State) : Nat := match s.saf.lock with | some e => (e - absNow s + 999999999) / 1000000000 | none => 0

def safLocked (s : State) : Bool := match s.saf.lock with | some e => decide (absNow s < e) | none => false

def rcBadCheck : Nat := 0x0B01
def rcBadPassword : Nat := 0x0B02
def rcLockedOut : Nat := 0x0B03
def rcAlreadySecured : Nat := 0x0B04

/-- The stored value belongs to this password. -/
def passwordOk (s : State) (pw : Bytes) : Bool := match s.saf.pw with | some (salt, v) => pbkdf2 pw salt 16384 == v | none => false

/-- A wrong password: counted, entered, and the third in a row locks for 15 min. -/
def passwordWrong (ch : Nat) (s : State) : State :=
  let n := s.saf.fails + 1
  let s := { s with saf := { s.saf with fails := n, lock := if 3 ≤ n then some (absNow s + 900000000000) else s.saf.lock } }
  safLog 3 ch (s.saf.check.getD 0) (s.saf.check.getD 0) (safGln 0x0A09 n (lockSeconds s) s)

/-- A new password under a random salt: a free value (log 1). -/
def setPassword (pw : Bytes) (s : State) : State :=
  let (a, s) := drawWord s
  let (b, s) := drawWord s
  let (c, s) := drawWord s
  let salt := (wB a ++ wB b ++ wB c).take 16
  { s with saf := { s.saf with pw := some (salt, pbkdf2 pw salt 16384), fails := 0, lock := none } }

/-- LOCKOUT_EXPIRY (R297). -/
def execLockoutExpiry (s : State) : Host.Outcome State Fault Refusal :=
  .next (match s.saf.lock with
    | some e => if e ≤ absNow s then { s with saf := { s.saf with lock := none, fails := 0 } } else s
    | none => s)

/-! ### Commands (Table 11-20) -/

/-- SF_CHAN (Table 11-21). -/
def sfChan (s : State) : Word := wd (s.saf.state * 2 ^ 44 + s.saf.mode * 2 ^ 42 + s.saf.fcode * 2 ^ 38)

/-- SF_STAT[i] of the processor path (Table 11-22). -/
def sfStat (s : State) (i : Nat) : Word :=
  let x := getInst s 0 i
  wd (x.st * 2 ^ 44 + x.cause * 2 ^ 40 + x.demands * 2 ^ 24)

def mbSafetyStatus (t _ch : Nat) (p : Bytes) (s : State) : MbR := do
  perm (t = 0 || mayRead s t (fld s.saf.map 47 33))
  lenIs p 0
  reply (wB (sfChan s) ++ (List.range 16).flatMap (fun i => wB (sfStat s i)) ++ (List.range 4).flatMap (fun k => wB (soStat s k)) ++
    toBe 4 (s.saf.check.getD 0)) s

/-- A password field at offset o: its length byte and its bytes end the payload at its end. -/
def pwAt (p : Bytes) (o : Nat) : Bytes := (p.drop (o + 1)).take (u8 p o)

def mbSafetySecure (t _ch : Nat) (p : Bytes) (s : State) : MbR := do
  perm (t = 0)
  need (1 ≤ p.length) rcBadLength
  need (u8 p 0 != 1 || p.length == 1) rcBadLength
  need (u8 p 0 != 2 || (2 ≤ p.length && p.length == 2 + u8 p 1)) rcBadLength
  stSel (u8 p 0 == 1 || u8 p 0 == 2) s (s.saf.mode != 0 || s.saf.state == 2)
  par (u8 p 0 == 1 || (u8 p 0 == 2 && 8 ≤ u8 p 1 && u8 p 1 ≤ 32))
  need (s.saf.mode == 0) rcAlreadySecured
  let s := safGln 0x0A0A (u8 p 0) 0 { s with saf := { s.saf with mode := u8 p 0 } }
  let s := if u8 p 0 = 2 then setPassword (pwAt p 1) s else s
  done (safState 3 s)

def mbSafetyLoad (t ch : Nat) (p : Bytes) (s : State) : MbR := do
  perm (t = 0)
  let b := s.saf.mode == 2
  need (1 ≤ p.length && (u8 p 0 != 1 || (if b then 332 ≤ p.length && p.length == 332 + u8 p 331 else p.length == 331))) rcBadLength
  let blk := deriveBlock ((List.range 55).map (fun i => beW p (1 + 6 * i)))
  stSel (u8 p 0 == 1 && blockListed blk) s (devMode s == 1 && 3 ≤ s.saf.state && s.saf.state ≤ 6)
  par (u8 p 0 == 1 && blockOk blk)
  need (!(b && safLocked s)) rcLockedOut
  if b && !passwordOk s (pwAt p 331) then .ok ⟨rcBadPassword, some [], passwordWrong ch s⟩
  else
    need (areaFits s 6) rcNoResource
    let crc := blockCheck blk
    let before := s.saf.check.getD 0
    let s := storeArea 6 (safGln 0x0A06 crc s.saf.mode { s with saf := { s.saf with block := blk, check := if b then some crc else none } })
    let s := if b then safStart (safLog 1 ch before crc { s with saf := { s.saf with fails := 0, lock := none } }) else safState 4 s
    reply (toBe 4 crc) s

def mbSafetyConfirm (t _ch : Nat) (p : Bytes) (s : State) : MbR := do
  perm (t = 0)
  lenIs p 4
  stChg s (s.saf.state == 4)
  let crc := blockCheck s.saf.block
  if be p 0 4 ≠ crc then .ok ⟨rcBadCheck, some [], safGln 0x0A08 (be p 0 4) crc s⟩
  else if !areaFits s 6 then .error rcNoResource
  else done (safStart (storeArea 6 (safGln 0x0A07 crc 0 { s with saf := { s.saf with check := some crc } })))

def mbSafetyRestart (t ch : Nat) (p : Bytes) (s : State) : MbR := do
  perm (t = 0)
  lenIs p 0
  stChg s (s.saf.state == 5 || s.saf.state == 6)
  let s := { s with saf := { s.saf with fkind := [] } }
  done (safStart (safLog 4 ch (s.saf.check.getD 0) (s.saf.check.getD 0) s))

def mbSafetyPassword (t ch : Nat) (p : Bytes) (s : State) : MbR := do
  perm (t = 0)
  let o := 1 + u8 p 0
  need (o < p.length && p.length == o + 1 + u8 p o) rcBadLength
  stChg s (s.saf.mode == 2)
  par (8 ≤ u8 p o && u8 p o ≤ 32)
  need (!safLocked s) rcLockedOut
  if !passwordOk s (pwAt p 0) then .ok ⟨rcBadPassword, some [], passwordWrong ch s⟩
  else done (safLog 2 ch (s.saf.check.getD 0) (s.saf.check.getD 0) (setPassword (pwAt p o) s))

def mbSafetyRead (t _ch : Nat) (p : Bytes) (s : State) : MbR := do
  perm (t = 0)
  lenIs p 0
  reply ((List.range 55).flatMap (fun i => wB (sfWord s i)) ++ toBe 4 (s.saf.check.getD 0)) s

def mbSafetyLogRead (t _ch : Nat) (p : Bytes) (s : State) : MbR := do
  perm (t = 0)
  lenIs p 5
  stOk (s.saf.mode == 2)
  par (1 ≤ u8 p 4 && u8 p 4 ≤ 64)
  let es := s.saf.log.reverse.filter (fun e => decide ((e.seq + 2 ^ 32 - be p 0 4) % 2 ^ 32 < u8 p 4))
  reply ((es.filter (fun e => !siloTorn s (safLogAddr e) 32)).flatMap safLogBytes)
    (es.foldl (fun s e => siloRead (safLogAddr e) 32 s) s)

def execMbSafetyStatus (ch : Fin 16) (p : Bytes) (s : State) : Host.Outcome State Fault Refusal := runMb ch 0x0B01 mbSafetyStatus p s
def execMbSafetySecure (ch : Fin 16) (p : Bytes) (s : State) : Host.Outcome State Fault Refusal := runMb ch 0x0B02 mbSafetySecure p s
def execMbSafetyLoad (ch : Fin 16) (p : Bytes) (s : State) : Host.Outcome State Fault Refusal := runMb ch 0x0B03 mbSafetyLoad p s
def execMbSafetyConfirm (ch : Fin 16) (p : Bytes) (s : State) : Host.Outcome State Fault Refusal := runMb ch 0x0B04 mbSafetyConfirm p s
def execMbSafetyRestart (ch : Fin 16) (p : Bytes) (s : State) : Host.Outcome State Fault Refusal := runMb ch 0x0B05 mbSafetyRestart p s
def execMbSafetyPassword (ch : Fin 16) (p : Bytes) (s : State) : Host.Outcome State Fault Refusal := runMb ch 0x0B06 mbSafetyPassword p s
def execMbSafetyRead (ch : Fin 16) (p : Bytes) (s : State) : Host.Outcome State Fault Refusal := runMb ch 0x0B07 mbSafetyRead p s
def execMbSafetyLogRead (ch : Fin 16) (p : Bytes) (s : State) : Host.Outcome State Fault Refusal := runMb ch 0x0B08 mbSafetyLogRead p s

end Sys2Proof.Machine
end

