-- ==== Sys2Proof/Machine/SchedMb.lean ====
section
/-! DEFINITION. The commands of the time bases and the scheduler (07 R204), but for `MB_WALL_SET`. -/

namespace Sys2Proof.Machine

/-! ### Time bases -/

def mbTbGet (_t _ch : Nat) (p : Bytes) (s : State) : MbR := do
  lenIs p 0
  reply (toBe 6 (devtime s) ++ toBe 6 (wallSec s) ++ toBe 6 (wallSub s) ++ toBe 2 (umod 16 s.silo.utcOffset) ++
    toBe 6 (umod 48 s.tb.pos) ++ toBe 6 (umod 48 s.tb.speed) ++ toBe 6 (supang s 0) ++ toBe 6 (supang s 1) ++ wB (tbTrust s)) s

/-- TW_STAT[n] (07 Table 7-5). -/
def twStat (a : Axle) : Word :=
  wd (a.state * 2 ^ 45 + b2n a.admitted * 2 ^ 44 + b2n a.back * 2 ^ 43 + a.miss % 4 * 2 ^ 41 + a.reject * 2 ^ 24 + a.synth * 2 ^ 8)

/-- MAINS_STAT[n] (07 Table 7-8). -/
def mainsStat (m : Mains) : Word := wd (m.state * 2 ^ 45 + m.system * 2 ^ 43 + m.freq * 2 ^ 24 + umod 16 m.pherr)

def mbTbDiag (_t _ch : Nat) (p : Bytes) (s : State) : MbR := do
  lenIs p 0
  reply ((List.range 4).flatMap (fun n => wB (twStat (getAxle s n))) ++ (List.range 2).flatMap (fun n => wB (mainsStat (getMains s n)))) s

/-- TW_CFG as it is stored: reserved bits 0, EXPERT as given. -/
def twWord (w : Word) (expert : Bool) : Word := setBit (w &&& 0xFFFFFFFFFF00#48) 17 expert

/-- An enabled axle's fields are in their ranges (07 Table 7-2). -/
def twOk (w : Word) : Bool :=
  !bit w 15 || (16 ≤ fld w 47 36 && fld w 47 36 ≤ 1024 && 30000 ≤ fld w 35 18 && fld w 35 18 ≤ 150000 &&
    10 ≤ fld w 14 8 && fld w 14 8 ≤ 45)

/-- An axle takes new settings: a newly enabled one starts acquiring, a disabled one is off (R186, R187). ADMIT
follows at the fusion that comes with it. -/
def setAxle (n : Nat) (w : Word) (s : State) : State :=
  updAxle n (fun a =>
    if !bit w 15 then { a with cfg := w, state := 0, v := 0, raw := 0, miss := 0, cand := none,
                               excluded := false, agreeSince := none, agreed := [] }
    else if bit a.cfg 15 then { a with cfg := w }
    else { a with cfg := w, state := 2, tLast := none, lastPer := none, lastAcc := none, onAt := s.clk }) s

def mbLpSet (t _ch : Nat) (p : Bytes) (s : State) : MbR := do
  perm (t == 0)
  formLen p 0 [(0, 29), (1, 31)]
  let is := items p 1 7 4
  let listed := levelOk p 0 && (u8 p 0 == 1 || is.all (fun b => u8 b 0 ≤ 1))
  stSel listed s true
  par listed
  if u8 p 0 = 0 then
    let ws := is.map (fun b => wd (be b 1 2 % 4096 * 2 ^ 36 + be b 3 4 % 2 ^ 18 * 2 ^ 18 + u8 b 0 * 2 ^ 15 + 35 * 2 ^ 8))
    par (is.all (fun b => be b 1 2 < 4096 && be b 3 4 < 2 ^ 18) && ws.all twOk)
    let s := { s with tb := { s.tb with lpCfg := 0x321414281400#48 } }
    done (axFuse ((ws.zip (List.range 4)).foldl (fun s e => setAxle e.2 e.1 s) s))
  else
    let lp := beW p 1
    let ws := (items p 7 6 4).map (fun b => twWord (wd (beVal b)) true)
    let inR := fun (x a b : Nat) => a ≤ x && x ≤ b
    par (inR (fld lp 47 40) 1 100 && inR (fld lp 39 32) 5 200 && inR (fld lp 31 24) 1 100 && inR (fld lp 23 16) 5 200 &&
      inR (fld lp 15 8) 5 100 && ws.all twOk)
    let s := { s with tb := { s.tb with lpCfg := setBit (lp &&& 0xFFFFFFFFFF00#48) 7 true } }
    done (axFuse ((ws.zip (List.range 4)).foldl (fun s e => setAxle e.2 e.1 s) s))

/-- A mains input takes new settings. -/
def setMains (n : Nat) (w : Word) (s : State) : State :=
  let m := getMains s n
  let left := fun (s : State) => if m.state = 2 || m.state = 3 then leaveAngle n s else s
  let s := updMains n (fun m => { m with cfg := w }) s
  let s := if fld w 47 46 = fld m.cfg 47 46 then s else ceMainsChanged n s
  if !bit w 45 then
    if m.state = 0 then s else mainsRef n 0 0 (left (mainsEnter n 0 s))
  else if m.state = 0 then mainsEnter n 1 s else s

def mbMainsSet (t _ch : Nat) (p : Bytes) (s : State) : MbR := do
  perm (t == 0)
  formLen p 1 [(0, 4), (1, 8)]
  let listed := levelOk p 1 && (u8 p 1 == 1 || (u8 p 2 ≤ 1 && u8 p 3 ≤ 3))
  stSel listed s true
  par (u8 p 0 < 2 && listed)
  if u8 p 1 = 0 then
    done (setMains (u8 p 0) (wd (u8 p 3 * 2 ^ 46 + u8 p 2 * 2 ^ 45 + 200 * 2 ^ 36)) s)
  else
    let w := beW p 2
    par (fld w 43 36 ≤ 200)
    done (setMains (u8 p 0) (setBit (w &&& 0xFFFFFFF00000#48) 44 true) s)

/-- A fix refused: Gleaner 0x050B and BAD_PARAM (R191). -/
def fixRefused (c : Int) (tf : Nat) (s : State) : MbR := .ok ⟨rcBadParam, some [], gln 0x050B 3 0 c tf s⟩

def mbPosFix (t _ch : Nat) (p : Bytes) (s : State) : MbR := do
  perm (t == 0)
  lenIs p 13
  stChg s true
  let lf := sgn 48 (be p 0 6)
  let tf := be p 6 6
  let ago := (devtime s + 2 ^ 48 - tf) % 2 ^ 48
  if later tf (devtime s) || 1000000000 < ago then fixRefused 0 tf s
  else
    let waiting := (s.tb.fix.map (·.1)).sum
    let c := lf - (lineAt s (s.clk - ago) + waiting)
    let cur := s.tb.pos + waiting
    let inW := fun (x : Int) => decide (-(2 ^ 47 : Int) ≤ x ∧ x ≤ 2 ^ 47 - 1)
    if (decide (6400000 < c.natAbs) && u8 p 12 % 2 == 0) || !inW c || !inW (cur + c) then fixRefused c tf s
    else reply (toBe 6 (umod 48 c)) { s with tb := { s.tb with fix := s.tb.fix ++ [(c, tf)] } }

/-! ### Scheduler slots -/

def mbSchAlloc (t _ch : Nat) (p : Bytes) (s : State) : MbR := do
  perm (t == 0)
  lenIs p 5
  let a := be p 0 2
  let c := be p 2 2
  let ns := span a c
  stChg s (ns.all (fun n => !(n < 2048 && slotArmed (getSlot s n))))
  par (1 ≤ c && a + c ≤ 2048 && u8 p 4 < 32)
  done (ns.foldl (fun s n => updSlot n (fun x => { x with
    cfg := setFld 0x000100000000#48 44 40 (u8 p 4), arg := 0#48, sts := setFld x.sts 47 44 0, noted := false }) s) s)

/-- Tenant t owns slot n. -/
def ownsSlot (s : State) (t n : Nat) : Bool := n < 2048 && slotTenant (getSlot s n) == t

/-- The encoded fields BASE, ACTION and DIR of a configuration are listed (07 Tables 7-9 to 7-11). -/
def slotListed (w : Word) : Bool :=
  fld w 47 45 ≤ 4 && fld w 38 36 ≤ 5 && (if fld w 47 45 = 1 then fld w 34 33 != 0 else fld w 34 33 == 0)

/-- The configuration is one the firmware takes (07 R195, Tables 7-9 to 7-11). -/
def slotCfgOk (s : State) (t : Nat) (w arg : Word) : Bool :=
  let b := fld w 47 45
  let a := fld w 38 36
  let k := fld arg 47 40
  slotListed w && fld w 44 40 == t &&
    (a == 0 || (fld w 5 0 < 48 && inPlot s 0 t (fld w 20 6) && (taskWrites s (fld w 20 6)).isEmpty)) &&
    (!bit w 29 || evtOwner s (128 + fld w 28 22) == t) &&
    (b == 1 || !bit w 35) &&
    (b != 4 || (a != 4 && taskDefined s k && taskTenant s k == t)) && (a != 5 || fld arg 15 0 != 0)

/-- SCH_ARG with its reserved bits 0. -/
def slotArg (w arg : Word) : Word :=
  if fld w 38 36 = 4 then arg
  else (if fld w 47 45 = 4 then arg &&& 0xFF0000000000#48 else 0#48) ||| (if fld w 38 36 = 5 then arg &&& 0xFFFF#48 else 0#48)

/-- A configuration accepted: STATE IDLE, Gleaner 0x0606. -/
def setSlot (n : Nat) (w arg : Word) (s : State) : State :=
  let s := updSlot n (fun x => { x with cfg := w, arg := slotArg w arg, sts := setFld x.sts 47 44 0, noted := false }) s
  gln 0x0606 3 (fld w 44 40) n w.toNat s

def mbSchSet (t _ch : Nat) (p : Bytes) (s : State) : MbR := do
  let n := be p 0 2
  perm (short p 2 || ownsSlot s t n)
  formLen p 2 [(0, 15), (1, 15)]
  let listed := levelOk p 2 && (if u8 p 2 = 0 then u8 p 3 ≤ 4 && u8 p 4 ≤ 5 && (u8 p 8 < 128 || u8 p 8 == 255)
    else slotListed (beW p 3))
  stSel listed s (!slotArmed (getSlot s n))
  par listed
  if u8 p 2 = 0 then
    let b := u8 p 3
    let a := u8 p 4
    let evl := u8 p 8
    par (a == 0 || (be p 5 2 < 20480 && u8 p 7 < 48))
    let w := wd (b * 2 ^ 45 + t * 2 ^ 40 + a * 2 ^ 36 + b2n (b == 1) * 2 ^ 33 + 2 ^ 32 + b2n (evl != 255) * 2 ^ 29 +
      (if evl = 255 then 0 else evl) * 2 ^ 22 + be p 5 2 % 2 ^ 15 * 2 ^ 6 + u8 p 7 % 64)
    par (slotCfgOk s t w (beW p 9))
    done (setSlot n w (beW p 9) s)
  else
    let w := setBit (beW p 3 &&& 0xFFFFFFDFFFFF#48) 39 true
    par (slotCfgOk s t w (beW p 9))
    done (setSlot n w (beW p 9) s)

def mbSchArm (t _ch : Nat) (p : Bytes) (s : State) : MbR := do
  let n := be p 0 2
  perm (short p 2 || ownsSlot s t n)
  lenIs p 8
  stChg s true
  let s := slotOp 257 n (some (beW p 2)) s
  reply (wB (getSlot s n).sts) s

def mbSchCancel (t _ch : Nat) (p : Bytes) (s : State) : MbR := do
  let n := be p 0 2
  perm (short p 2 || ownsSlot s t n)
  lenIs p 2
  stChg s true
  let s := slotOp 257 n none s
  reply (wB (getSlot s n).sts) s

def mbSchGet (t _ch : Nat) (p : Bytes) (s : State) : MbR := do
  let n := be p 0 2
  perm (short p 2 || t == 0 || ownsSlot s t n)
  lenIs p 2
  par (n < 2048)
  let x := getSlot s n
  reply (wB x.cfg ++ wB x.tgt ++ wB x.arg ++ wB x.sts ++ wB x.dt) s

def execMbTbGet (ch : Fin 16) (p : Bytes) (s : State) := runMb ch 0x0701 mbTbGet p s
def execMbTbDiag (ch : Fin 16) (p : Bytes) (s : State) := runMb ch 0x0702 mbTbDiag p s
def execMbLpSet (ch : Fin 16) (p : Bytes) (s : State) := runMb ch 0x0703 mbLpSet p s
def execMbMainsSet (ch : Fin 16) (p : Bytes) (s : State) := runMb ch 0x0704 mbMainsSet p s
def execMbPosFix (ch : Fin 16) (p : Bytes) (s : State) := runMb ch 0x0705 mbPosFix p s
def execMbSchAlloc (ch : Fin 16) (p : Bytes) (s : State) := runMb ch 0x0710 mbSchAlloc p s
def execMbSchSet (ch : Fin 16) (p : Bytes) (s : State) := runMb ch 0x0711 mbSchSet p s
def execMbSchArm (ch : Fin 16) (p : Bytes) (s : State) := runMb ch 0x0712 mbSchArm p s
def execMbSchCancel (ch : Fin 16) (p : Bytes) (s : State) := runMb ch 0x0713 mbSchCancel p s
def execMbSchGet (ch : Fin 16) (p : Bytes) (s : State) := runMb ch 0x0714 mbSchGet p s

end Sys2Proof.Machine
end

