-- ==== Sys2Proof/Machine/Services.lean ====
section
/-! DEFINITION. Events of the services: programmes, alarms, trends, meters and access points (09). ALARM_EVALUATE and
METER_SAMPLE cross overlay boundaries and are completed where overlays are. -/

namespace Sys2Proof.Machine

/-! ### Programmes -/

/-- What is carried of an alarm. -/
def almState (s : State) (a : Alm) : AlmState :=
  ⟨a.raw, s.clk - a.since, a.active, a.trn, a.unack, a.shelved.map (· - s.clk), a.lastAt⟩

/-- The cumulative registers of meter m that are not 0 (R245). -/
def mtrTotal (s : State) (m : Nat) : List (Nat × Nat × Nat) :=
  (List.range 16).filterMap (fun k => let t := tget (0, 0) s.silo.enTotal (m * 16 + k); if t = (0, 0) then none else some (k, t))

def mtrState (s : State) (m : Nat) (x : Mtr) : MtrState := ⟨x.ref0, x.ref1, x.rec_, mtrTotal s m⟩

/-- The alarm states and meters of t that differ from those of s are carried to the standby (R234). -/
def svcCarry (s t : State) : State :=
  let a := t.svc.alm.filterMap (fun e => match e.2 with
    | some x => if (tget none s.svc.alm e.1).map (almState s) = some (almState s x) then none else some (e.1, almState t x)
    | none => none)
  let m := t.svc.mtr.filterMap (fun e => match e.2 with
    | some x => if (tget none s.svc.mtr e.1).map (mtrState s e.1) = some (mtrState t e.1 x) then none else some (e.1, mtrState t e.1 x)
    | none => none)
  if a = [] ∧ m = [] then t else pairSend (.service a m) t

/-- An alarm and a meter as carried. -/
def almTake (s : State) (v : AlmState) (a : Alm) : Alm :=
  { a with raw := v.raw, since := s.clk - v.rawFor, active := v.active, trn := v.trn, unack := v.unack,
           shelved := v.shelved.map (· + s.clk), lastAt := v.lastAt }

def mtrTake (v : MtrState) (x : Mtr) : Mtr := { x with ref0 := v.ref0, ref1 := v.ref1, rec_ := v.rec_ }

/-- The cumulative registers of the meters carried. -/
def takeTotals (m : List (Nat × MtrState)) (t : Tab (Nat × Nat)) : Tab (Nat × Nat) :=
  m.foldl (fun t e => (List.range 16).foldl (fun t k =>
    tput (0, 0) (e.1 * 16 + k) (((e.2.total.find? (fun x => x.1 == k)).map (·.2)).getD (0, 0)) t) t) t

/-- Service state as carried takes effect (15 R384, 09 R234); the system that the open records count for is the one in force. -/
def svcTake (a : List (Nat × AlmState)) (m : List (Nat × MtrState)) (s : State) : State :=
  { s with
    silo := { s.silo with enTotal := takeTotals m s.silo.enTotal }
    svc := { s.svc with
      sysCode := (m.findSome? (fun e => e.2.rec_.map (·.sys))).getD s.svc.sysCode
      alm := a.foldl (fun t e => tupd none e.1 (fun x => x.map (almTake s e.2)) t) s.svc.alm
      mtr := m.foldl (fun t e => tupd none e.1 (fun x => x.map (mtrTake e.2)) t) s.svc.mtr } }

/-- A service event takes effect only at the unit that runs the services: in a pair the primary (09 R234). -/
def svcEvent (f : State → State) (s : State) : Host.Outcome State Fault Refusal := .next (if serving s then svcCarry s (f s) else s)

/-! ### Alarms (09 R238 to R240) -/

def putAlm (n : Nat) (a : Alm) (s : State) : State := { s with svc := { s.svc with alm := tput none n (some a) s.svc.alm } }

/-- The acknowledging set. -/
def ackSet (a : Alm) : Nat := 2 ^ fld a.cfg 47 43 ||| (if bit a.cfg 7 then a.read else 0)

/-- The condition of an alarm's input before DELAY. -/
def almRaw (a : Alm) (i : SvcIn) : Bool :=
  match fld a.cfg 41 40 with
  | 0 => if i.bad then a.raw else bit i.value (fld a.cfg 37 32) != bit a.cfg 16
  | 1 => if i.bad then a.raw
    else if a.raw then !decide (i.value.toInt < a.lim.toInt - a.hys.toInt) else decide (a.lim.toInt < i.value.toInt)
  | 2 => if i.bad then a.raw
    else if a.raw then !decide (a.lim.toInt + a.hys.toInt < i.value.toInt) else decide (i.value.toInt < a.lim.toInt)
  | _ => i.bad

/-- A change of condition. -/
def almChange (n : Nat) (a : Alm) (active : Bool) (s : State) : State :=
  let trn := (a.trn + 1) % 65536
  let a := { a with active, trn, lastAt := devtime s, unack := if active then ackSet a else a.unack }
  let s := putAlm n a s
  if a.shelved.isSome then s else gln 0x0810 3 (fld a.cfg 47 43) n (trn * 2 + b2n active : Nat) s

/-- The evaluation of one alarm. -/
def almEval (n : Nat) (s : State) : State :=
  match tget none s.svc.alm n with
  | none => s
  | some a =>
    let t := fld a.cfg 47 43
    let w := fld a.cfg 31 17
    let i := svcRead s t w
    let s := svcNote 3 n t w a.blind i.blind s
    let raw := almRaw a i
    let a := { a with blind := i.blind, since := if raw && !a.raw then s.clk else a.since, raw }
    let due := raw && a.since + fld a.cfg 15 8 * 100000000 ≤ s.clk
    if raw && !a.active && due then almChange n a true s
    else if !raw && a.active then almChange n a false s
    else putAlm n a s

/-- Every alarm in ascending number. -/
def almEvalAll (s : State) : State := (s.svc.alm.map (·.1)).foldl (fun s n => almEval n s) s

/-- Shelving of alarm n ends where its time has come. -/
def shelveEnd (n : Nat) (s : State) : State :=
  match tget none s.svc.alm n with
  | none => s
  | some x => match x.shelved with
    | some t => if t ≤ s.clk then gln 0x0812 3 (fld x.cfg 47 43) n 0 (putAlm n { x with shelved := none } s) else s
    | none => s

/-- SHELVE_END (09 R240). -/
def execShelveEnd (a : Fin 8192) (s : State) : Host.Outcome State Fault Refusal := svcEvent (shelveEnd a.val) s

/-! ### Trends (09 R241) -/

def putTrd (n : Nat) (c : Trd) (s : State) : State := { s with svc := { s.svc with trd := tput none n (some c) s.svc.trd } }

/-- Samples a ring holds. -/
def trdSize (c : Trd) : Nat := fld c.ring 46 32 * 1024

/-- The value a channel records. -/
def trdValue (c : Trd) (v : Word) : Word := if bit c.cfg 39 then wd (b2n (bit v (fld c.cfg 38 33))) else v

/-- A sample taken. -/
def trdTake (n : Nat) (c : Trd) (i : SvcIn) (onChange : Bool) (s : State) : State :=
  let x : Sample := ⟨devtime s, trdValue c i.value, fld i.qual 15 0, b2n onChange + b2n c.gap.isSome * 2⟩
  let s := putTrd n { c with samples := (x :: c.samples).take (trdSize c), next := (c.next + 1) % 2 ^ 48, gap := none } s
  match c.gap with
  | some g => gln 0x0820 3 (fld c.cfg 47 43) n g s
  | none => s

/-- A channel's input read, with its 0x0802; nothing is read of an unreadable word. -/
def trdStep (n : Nat) (f : Trd → SvcIn → State → State) (s : State) : State :=
  match tget none s.svc.trd n with
  | none => s
  | some c =>
    let t := fld c.cfg 47 43
    let w := fld c.cfg 32 18
    let i := svcRead s t w
    let s := svcNote 4 n t w c.blind i.blind s
    let c := { c with blind := i.blind }
    let s := putTrd n c s
    if i.blind then s else f c i s

/-- A periodic instant of a channel falls now. -/
def trdDue (n : Nat) (s : State) : Bool :=
  match tget none s.svc.trd n, s.task.gridA with
  | some x, some a =>
    let per := fld x.cfg 17 0 * 100000000
    fld x.cfg 41 40 != 1 && decide ((a : Int) ≤ ptime s) && (ptime s - a) % (per : Int) == 0
  | _, _ => false

/-- The periodic sample of a channel. -/
def trdSample (n : Nat) (s : State) : State := trdStep n (fun x i s => trdTake n x i false s) s

/-- The value differs from the last sample as on-change sampling asks. -/
def trdDiffers (c : Trd) (v : Word) : Bool :=
  match c.samples with
  | [] => true
  | x :: _ =>
    if bit c.cfg 39 then x.value != trdValue c v
    else decide ((c.db.toInt) < ((v.toInt - x.value.toInt).natAbs : Int))

/-- A channel samples on change. -/
def trdOnChange (n : Nat) (s : State) : Bool := match tget none s.svc.trd n with | some x => fld x.cfg 41 40 != 0 | none => false

/-- The check of a channel that samples on change. -/
def trdCheck (n : Nat) (s : State) : State := trdStep n (fun x i s => if trdDiffers x i.value then trdTake n x i true s else s) s

/-! ### Meters (09 R242 to R245) -/

def putMtr (n : Nat) (x : Mtr) (s : State) : State := { s with svc := { s.svc with mtr := tput none n (some x) s.svc.mtr } }

/-- Energy of a counter's increment in mWh × 2^32, the new reference, and whether it was a reversal. -/
def enCount (ref : Option Word) (v scale : Word) : Nat × Bool :=
  match ref with
  | none => (0, false)
  | some r =>
    let d := (v.toNat + 2 ^ 48 - r.toNat) % 2 ^ 48
    if 2 ^ 47 ≤ d then (0, true) else (d * scale.toNat, false)

/-- Energy of 100 ms at a power in kW (Q16.32), in mWh × 2^32. -/
def enPower (v : Word) : Int := (v.toInt * 250).tdiv 9

/-- One 100 ms step of meter m. -/
def enStep (m : Nat) (s : State) : State :=
  match tget none s.svc.mtr m with
  | none => s
  | some x =>
    let s := if x.rec_.isNone then enOpen m 0 s else s
    match tget none s.svc.mtr m with
    | none => s
    | some x =>
      let t := fld x.cfg 47 43
      let w := fld x.cfg 39 25
      let i := svcRead s t w
      let j := if fld x.cfg 41 40 = 1 then svcRead s t (w + 1) else i
      let now := i.blind || j.blind
      let at_ := if i.blind then w else if j.blind then w + 1 else x.blindAt
      let s := svcNote 5 m t at_ x.blind now s
      let x := { x with blind := now, blindAt := at_ }
      let o := x.rec_.getD { num := 0, start := 0, sys := 0 }
      let o := { o with steps := o.steps + 1 }
      if i.bad || j.bad then putMtr m { x with rec_ := some { o with flags := o.flags ||| 8 } } s
      else if fld x.cfg 41 40 = 2 then
        let e := enPower i.value
        putMtr m { x with rec_ := some { o with imp := o.imp + e.toNat, exp := o.exp + (-e).toNat } } s
      else
        let (a, ra) := enCount x.ref0 i.value x.scale
        let (b, rb) := if fld x.cfg 41 40 = 1 then enCount x.ref1 j.value x.scale else (0, false)
        let s := putMtr m { x with ref0 := some i.value, ref1 := some j.value
                                   rec_ := some { o with imp := o.imp + a, exp := o.exp + b } } s
        let s := if ra then gln 0x0829 3 t m i.value.toNat s else s
        if rb then gln 0x0829 3 t m j.value.toNat s else s

/-- A 100 ms step of every meter, under the supply system in force (R243). -/
def enSample (code : Nat) (s : State) : State :=
  let s := if code = s.svc.sysCode then s else enTurnAll 1 1 { s with svc := { s.svc with sysCode := code } }
  (s.svc.mtr.map (·.1)).foldl (fun s m => enStep m s) s

/-- UTC has reached an interval boundary since the open record of meter m began (R244). -/
def enDue (m : Nat) (s : State) : Bool :=
  match tget none s.svc.mtr m with
  | some x => match x.rec_ with
    | some o => decide (((o.start : Int) - s.silo.utcOffset).fdiv (enInterval x.cfg) < (utcSec s).fdiv (enInterval x.cfg))
    | none => false
  | none => false

/-- ENERGY_ACCUM_SAVE (R245). -/
def execEnergyAccumSave (s : State) : Host.Outcome State Fault Refusal := svcEvent enSave s

/-! ### Access points (09 R246) -/

def putAcc (n : Nat) (a : AccPt) (s : State) : State := { s with svc := { s.svc with acc := tput none n (some a) s.svc.acc } }

/-- Key of a list entry. -/
def accKey (t id : Nat) : Nat := t * 2 ^ 32 + id

/-- The reason code of the first failing check, 0 for a grant (Table 9-11). -/
def accReason (s : State) (t : Nat) (a : AccPt) (i : SvcIn) : Nat :=
  let v := i.value
  if !running s t then 1
  else if i.bad || bit v 8 then 2
  else match tget none s.svc.list (accKey t (fld v 47 16)) with
    | none => 3
    | some e =>
      if !e.groups.testBit (fld a.cfg 41 38) then 4
      else if e.validTo != 0 && e.validTo < wallSec s then 5
      else match e.prog with
        | none => 0
        | some (w, l) => match tget none s.svc.wpg w with
          | some g => if fld g.cfg 47 43 == t && bit (wpgValue s g (localMin s t)) l then 0 else 6
          | none => 6

/-- A pulse of a lane of an access point begins. -/
def accPulse (n : Nat) (deny : Bool) (a : AccPt) (s : State) : State :=
  let t := fld a.cfg 47 43
  let w := fld a.cfg 22 8
  let lane := if deny then fld a.tim 31 26 else fld a.cfg 7 2
  let stop := s.clk + fld a.tim 47 32 * 1000000
  match svcPut s t w (some lane) 1#48 with
  | .written s => putAcc n (if deny then { a with deny := some stop, noted := false } else { a with grant := some stop, noted := false }) s
  | .released => if a.noted then s else gln 0x0803 3 t (0x60000 + n : Nat) w (putAcc n { a with noted := true } s)
  | .idle => s

/-- A decision on a new presentation at access point n (R246). -/
def accDecide (n : Nat) (s : State) : State :=
  match tget none s.svc.acc n with
  | none => s
  | some a =>
    let t := fld a.cfg 47 43
    let w := fld a.cfg 37 23
    let i := svcRead s t w
    let s := svcNote 6 n t w a.blind i.blind s
    let a := { a with blind := i.blind }
    let s := putAcc n a s
    let pres := fld i.value 7 0
    if i.blind || a.pres = some pres then s
    else
      let r := accReason s t a i
      let a := { a with pres := some pres }
      let s := putAcc n a s
      let s := if r = 0 then accPulse n false a s else if bit a.tim 25 then accPulse n true a s else s
      gln 0x0830 3 t (n * 256 + r : Nat) (fld i.value 47 16) s

/-- ACCESS_PULSE_END: the lane of a pulse that has lasted its width is cleared. -/
def execAccessPulseEnd (p : Fin 256) (deny : Bool) (s : State) : Host.Outcome State Fault Refusal :=
  let n := p.val
  svcEvent (fun s => match tget none s.svc.acc n with
    | none => s
    | some a =>
      match (if deny then a.deny else a.grant) with
      | some t =>
        if s.clk < t then s
        else
          let lane := if deny then fld a.tim 31 26 else fld a.cfg 7 2
          let a := if deny then { a with deny := none } else { a with grant := none }
          match svcPut s (fld a.cfg 47 43) (fld a.cfg 22 8) (some lane) 0#48 with
          | .written s => putAcc n a s
          | .released => if a.noted then putAcc n a s
              else gln 0x0803 3 (fld a.cfg 47 43) (0x60000 + n : Nat) (fld a.cfg 22 8) (putAcc n { a with noted := true } s)
          | .idle => putAcc n a s
      | none => s) s

end Sys2Proof.Machine
end

