-- ==== Sys2Proof/Machine/SvcMb.lean ====
section
/-! DEFINITION. The commands of the services (09 R247), and `MB_WALL_SET` (07 R204). -/

namespace Sys2Proof.Machine

/-! ### Objects, quotas, conflicts (09 R228 to R232) -/

/-- Owner of an object's configuration word. -/
def objTenant (cfg : Word) : Nat := fld cfg 47 43

/-- Tenant t may set object n of a kind of `lim` objects: its number exists and nobody else owns it (R228, 02 R482). -/
def objOwn {α : Type} (cfg : α → Word) (lim : Nat) (tab : Tab (Option α)) (t n : Nat) : Bool :=
  n < lim && (match tget none tab n with | some a => objTenant (cfg a) == t | none => true)

/-- Objects of tenant t in a table. -/
def objCount {α : Type} (cfg : α → Word) (tab : Tab (Option α)) (t : Nat) : Nat :=
  tab.countP (fun e => match e.2 with | some a => objTenant (cfg a) == t | none => false)

/-- Samples that tenant t's trend rings hold room for. -/
def trdRoom (s : State) (t : Nat) : Nat :=
  (s.svc.trd.map (fun e => match e.2 with | some c => if objTenant c.cfg = t then trdSize c else 0 | none => 0)).sum

/-- List entries of tenant t. -/
def listCount (s : State) (t : Nat) : Nat := s.svc.list.countP (fun e => e.1 / 2 ^ 32 == t && e.2.isSome)

/-- Present use of tenant t in each quota, in objects. -/
def svcUse (s : State) (t : Nat) : List Nat :=
  [objCount Alm.cfg s.svc.alm t, objCount Trd.cfg s.svc.trd t, trdRoom s t, objCount Wpg.cfg s.svc.wpg t,
   objCount AccPt.cfg s.svc.acc t, listCount s t]

/-- Fields of SVC_QUOTA with their units and limits (Table 9-2). -/
def quotaFields : List (Nat × Nat × Nat × Nat) :=
  [(47, 38, 16, 512), (37, 29, 16, 256), (28, 21, 131072, 128), (20, 14, 8, 64), (13, 7, 4, 64), (6, 0, 1024, 64)]

/-- The six quotas of tenant t in objects. -/
def quotas (q : Word) : List Nat := quotaFields.map (fun f => fld q f.1 f.2.1 * f.2.2.1)

/-- Tenant t's use does not exceed its quotas, nor the lists the device's limit (R228). -/
def quotaOk (s : State) (t : Nat) : Bool :=
  ((svcUse s t).zip (quotas (wget s.svc.quota t))).all (fun e => e.1 ≤ e.2) && s.svc.list.length ≤ 65536

/-- Lanes of an output: all of them for a whole word. -/
abbrev Lanes := Option (List Nat)

def lanesMeet (a b : Lanes) : Bool :=
  match a, b with
  | some l, some m => l.any (fun x => m.contains x)
  | _, _ => true

def wpgLanes (cfg : Word) : Lanes := if bit cfg 41 then some [fld cfg 38 33] else none
def accLanes (cfg tim : Word) : Lanes := some (fld cfg 7 2 :: (if bit tim 25 then [fld tim 31 26] else []))

/-- Something else writes one of the lanes of word w (R232); `skip` is the object's own kind and number. -/
def svcConflict (s : State) (skip : Nat × Nat) (w : Nat) (ls : Lanes) : Bool :=
  taskWrites s w != [] ||
    s.slot.any (fun e => slotAction e.2 != 0 && slotWord e.2 == w &&
      lanesMeet ls (if slotAction e.2 = 4 then none else some [slotLane e.2])) ||
    s.ce.loop.any (fun e => (ceUws e.2).any (fun u => u.2 == w)) ||
    s.svc.wpg.any (fun e => (2, e.1) != skip && (match e.2 with
      | some g => bit g.cfg 17 && fld g.cfg 32 18 == w && lanesMeet ls (wpgLanes g.cfg)
      | none => false)) ||
    s.svc.acc.any (fun e => (6, e.1) != skip && (match e.2 with
      | some a => fld a.cfg 22 8 == w && lanesMeet ls (accLanes a.cfg a.tim)
      | none => false))

/-- An output may be configured (R232). -/
def svcOutOk (s : State) (t : Nat) (skip : Nat × Nat) (w : Nat) (ls : Lanes) : Bool :=
  inPlot s 0 t w && !svcConflict s skip w ls

/-- Gleaner 0x0801. -/
def svcSaid (kind n t : Nat) (cfg : Word) (s : State) : State := gln 0x0801 3 t (kind * 65536 + n : Nat) cfg.toNat s

/-! ### Quotas, lists, local time, calendars -/

def mbSvcQuotaSet (t _ch : Nat) (p : Bytes) (s : State) : MbR := do
  perm (t == 0)
  lenIs p 7
  let n := u8 p 0
  let q := beW p 1
  let listed := n < 32 && quotaFields.all (fun f => fld q f.1 f.2.1 ≤ f.2.2.2)
  stChg s (!listed || ((svcUse s n).zip (quotas q)).all (fun e => e.1 ≤ e.2))
  let qs := wput n q s.svc.quota
  par (listed && quotaFields.all (fun f => ((List.range 32).map (fun k => fld (wget qs k) f.1 f.2.1)).sum ≤ f.2.2.2))
  done { s with svc := { s.svc with quota := qs } }

/-- Objects of a kind: number, owner, configuration word, READ mask. A calendar's number is 2 × tenant + calendar, a list
entry's its place in the list; their configuration word, which no table gives, is a free value (log 1). -/
def svcObjects (s : State) (kind : Nat) : List (Nat × Nat × Word × Nat) :=
  let tab := fun {α : Type} (cfg : α → Word) (read : α → Nat) (t : Tab (Option α)) =>
    t.filterMap (fun e => e.2.map (fun a => (e.1, objTenant (cfg a), cfg a, read a)))
  match kind with
  | 1 => s.svc.cal.map (fun e => (e.1, e.1 / 2, Config.freeWord s.free, 0))
  | 2 => tab Wpg.cfg Wpg.read s.svc.wpg
  | 3 => tab Alm.cfg Alm.read s.svc.alm
  | 4 => tab Trd.cfg (fun c => fld c.ring 31 0) s.svc.trd
  | 5 => tab Mtr.cfg Mtr.read s.svc.mtr
  | 6 => tab AccPt.cfg AccPt.read s.svc.acc
  | _ => (s.svc.list.zip (List.range s.svc.list.length)).map (fun e => (e.2, e.1.1 / 2 ^ 32, Config.freeWord s.free, 0))

def mbSvcList (t _ch : Nat) (p : Bytes) (s : State) : MbR := do
  lenIs p 3
  let k := u8 p 0
  par (1 ≤ k && k ≤ 7)
  let os := ((svcObjects s k).filter (fun o => be p 1 2 ≤ o.1 && (t == 0 || o.2.1 == t || o.2.2.2.testBit t))).take 256
  reply (toBe 2 os.length ++ os.flatMap (fun o => toBe 2 o.1 ++ toBe 1 o.2.1 ++ wB o.2.2.1)) { s with free := s.free + 1 }

def mbLocalSet (t _ch : Nat) (p : Bytes) (s : State) : MbR := do
  perm (t == 0)
  lenIs p 3
  stChg s true
  let n := u8 p 0
  let o := sgn 16 (be p 1 2)
  par (n < 32 && decide (-720 ≤ o ∧ o ≤ 840))
  done (setOfs n o s)

/-- A calendar entry (R236); none where a field is not listed. -/
def calEntry (b : Bytes) : Option CalEnt :=
  let e : CalEnt := ⟨u8 b 0, be b 1 2, u8 b 3, u8 b 4, be b 5 2, u8 b 7⟩
  let y : Int := if e.kind = 2 then 2000 else e.year
  let real := civilOf (dayOf y e.month e.day) == (y, (e.month : Int), (e.day : Int))
  if e.kind ≤ 2 && 1 ≤ e.month && e.month ≤ 12 && real && 7 ≤ e.dayType && e.dayType ≤ 14 &&
      (if e.kind = 1 then 1 ≤ e.days && e.days ≤ 366 else e.days == 0) then some e else none

def mbCalSet (t _ch : Nat) (p : Bytes) (s : State) : MbR := do
  need (2 ≤ p.length) rcBadLength
  perm (u8 p 0 < 2)
  let c := u8 p 1
  lenIs p (2 + 8 * c)
  stSel ((items p 2 8 c).all (fun b => u8 b 0 ≤ 2 && 7 ≤ u8 b 7 && u8 b 7 ≤ 14)) s true
  let es := (items p 2 8 c).map calEntry
  par (c ≤ 64 && es.all (·.isSome))
  let k := t * 2 + u8 p 0
  let s := { s with svc := { s.svc with cal := tput [] k (es.filterMap id) s.svc.cal } }
  let (f, s) := drawWord s
  done (svcSaid 1 k t f s)

/-! ### Programmes -/

/-- A switching minute is listed: 0 to 1,439, or 0xFFFF for unused. -/
def minOk (m : Nat) : Bool := m < 1440 || m == 0xFFFF

/-- On-off pairs as switching points. -/
def pairPoints (on : Word) (ms : List Nat) : List (Nat × Word) :=
  (ms.zip (List.range 8)).filterMap (fun e => if e.1 = 0xFFFF then none else some (e.1, if e.2 % 2 = 0 then on else 0#48))

def mbWpgSet (t _ch : Nat) (p : Bytes) (s : State) : MbR := do
  need (!short p 2) rcBadLength
  let n := be p 0 2
  perm (objOwn Wpg.cfg 512 s.svc.wpg t n)
  formLen p 2 [(0, 41), (1, 973)]
  let out := if u8 p 2 = 0 then be p 3 2 else fld (beW p 3) 32 18
  perm ((u8 p 2 == 1 && !bit (beW p 3) 17) || 20480 ≤ out || mayRead s t out)
  stSel (levelOk p 2 && (u8 p 2 == 1 || (u8 p 5 ≤ 1 && u8 p 7 ≤ 1 && u8 p 8 ≤ 1))) s true
  par (levelOk p 2)
  let basic := u8 p 2 = 0
  let work := (items p 9 2 8).map beVal
  let rest := (items p 25 2 8).map beVal
  let (on, s') := if basic && u8 p 5 = 0 then drawWord s else (1#48, s)
  let w := beW p 3
  let cfg := if basic then
      wd (t * 2 ^ 43 + u8 p 5 % 2 * 2 ^ 41 + u8 p 7 % 2 * 2 ^ 40 + u8 p 8 % 2 * 2 ^ 39 + u8 p 6 % 64 * 2 ^ 33 +
        be p 3 2 % 32768 * 2 ^ 18 + 2 ^ 17)
    else setBit (setFld (w &&& 0xFFFFFFFE0000#48) 47 43 t) 42 true
  let pts := items p 13 64 15
  let points := if basic then
      List.replicate 5 (pairPoints on work) ++ List.replicate 10 (pairPoints on rest)
    else pts.map (fun b => ((items b 0 8 8).filter (fun x => be x 0 2 != 0xFFFF)).map (fun x => (be x 0 2, beW x 2)))
  par (if basic then be p 3 2 < 20480 && u8 p 5 ≤ 1 && u8 p 6 < 48 && u8 p 7 ≤ 1 && u8 p 8 ≤ 1 && (work ++ rest).all minOk
    else fld cfg 38 33 < 48 && pts.all (fun b => (items b 0 8 8).all (fun x => minOk (be x 0 2))))
  par (!bit cfg 17 || svcOutOk s t (2, n) (fld cfg 32 18) (wpgLanes cfg))
  let old := tget none s.svc.wpg n
  let g : Wpg := { cfg, read := if basic then 0 else be p 9 4, points, value := (old.map (·.value)).getD 0#48,
                   last := old.bind (·.last), lastAt := (old.map (·.lastAt)).getD 0 }
  let s' := { s' with svc := { s'.svc with wpg := tput none n (some g) s'.svc.wpg } }
  need (quotaOk s' t) rcNoResource
  done (svcSaid 2 n t cfg s')

def mbWpgGet (t _ch : Nat) (p : Bytes) (s : State) : MbR := do
  need (!short p 2) rcBadLength
  match tget none s.svc.wpg (be p 0 2) with
  | none => .error rcNotPermitted
  | some g =>
    perm (objTenant g.cfg == t || g.read.testBit t)
    lenIs p 2
    reply (wB g.cfg ++ wB g.value ++ toBe 6 g.lastAt) s

/-! ### Alarms -/

def mbAlmSet (t _ch : Nat) (p : Bytes) (s : State) : MbR := do
  need (!short p 2) rcBadLength
  let n := be p 0 2
  perm (objOwn Alm.cfg 8192 s.svc.alm t n)
  formLen p 2 [(0, 14), (1, 25)]
  let basic := u8 p 2 = 0
  let lim := if basic then beW p 7 else beW p 9
  let cfg := if basic then
      wd (t * 2 ^ 43 + u8 p 3 % 4 * 2 ^ 40 + u8 p 13 % 4 * 2 ^ 38 + u8 p 6 % 64 * 2 ^ 32 + be p 4 2 % 32768 * 2 ^ 17)
    else setBit (setFld (beW p 3 &&& 0xFFFFFFFFFF80#48) 47 43 t) 42 true
  let w := if basic then be p 4 2 else fld cfg 31 17
  perm (!levelOk p 2 || 20480 ≤ w || mayRead s t w)
  stSel (levelOk p 2 && (!basic || (u8 p 3 ≤ 3 && u8 p 13 ≤ 3))) s true
  par (levelOk p 2 && w < 20480 && (if basic then u8 p 3 ≤ 3 && u8 p 13 ≤ 3 && (u8 p 3 != 0 || u8 p 6 < 48) else
    fld cfg 41 40 != 0 || fld cfg 37 32 < 48))
  let hys := if basic then wi (divNear lim.toInt.natAbs 100) else beW p 15
  let read := if basic then 0 else be p 21 4
  let a : Alm := match tget none s.svc.alm n with
    | some a => { a with cfg, lim, hys, read }
    | none => { cfg, lim, hys, read }
  let s' := putAlm n a s
  need (quotaOk s' t) rcNoResource
  done (svcSaid 3 n t cfg s')

/-- Seconds of shelving left, rounded up. -/
def shelvedFor (s : State) (a : Alm) : Nat := match a.shelved with | some e => (e - s.clk + 999999999) / 1000000000 | none => 0

def mbAlmList (t _ch : Nat) (p : Bytes) (s : State) : MbR := do
  lenIs p 3
  par (u8 p 2 ≤ 1)
  let as := (s.svc.alm.filterMap (fun e => e.2.map (fun a => (e.1, a)))).filter (fun e =>
    be p 0 2 ≤ e.1 && (objTenant e.2.cfg == t || e.2.read.testBit t) && (u8 p 2 == 0 || e.2.unack.testBit t))
  let as := as.take 200
  reply (toBe 2 as.length ++ as.flatMap (fun e => toBe 2 e.1 ++ bB e.2.active ++ toBe 2 e.2.trn ++ toBe 4 e.2.unack ++
    toBe 1 (fld e.2.cfg 39 38) ++ toBe 4 (shelvedFor s e.2) ++ toBe 6 e.2.lastAt)) s

/-- One acknowledgement: its result code and the state after it (R238). -/
def almAck (t n trn : Nat) (s : State) : Nat × State :=
  match tget none s.svc.alm n with
  | none => (rcNotPermitted, s)
  | some a =>
    if !(ackSet a).testBit t then (rcNotPermitted, s)
    else if a.trn ≠ trn then (0x0801, s)
    else
      let un := if a.unack.testBit t then a.unack - 2 ^ t else a.unack
      (rcOk, gln 0x0811 3 t n trn (putAlm n { a with unack := un } s))

def mbAlmAck (t _ch : Nat) (p : Bytes) (s : State) : MbR := do
  need (1 ≤ p.length) rcBadLength
  let c := u8 p 0
  lenIs p (1 + 4 * c)
  stChg s true
  par (1 ≤ c && c ≤ 64)
  let (rs, s) := (items p 1 4 c).foldl (fun (acc : List Nat × State) b =>
    let (r, s) := almAck t (be b 0 2) (be b 2 2) acc.2
    (acc.1 ++ [r], s)) (([], s) : List Nat × State)
  reply (rs.flatMap (toBe 2)) s

def mbAlmShelve (t _ch : Nat) (p : Bytes) (s : State) : MbR := do
  need (!short p 2) rcBadLength
  let n := be p 0 2
  match tget none s.svc.alm n with
  | none => .error rcNotPermitted
  | some a =>
    perm (objTenant a.cfg == t)
    lenIs p 6
    stChg s true
    let d := be p 2 4
    par (d ≤ 86400)
    if d = 0 then
      done (if a.shelved.isSome then gln 0x0812 3 t n 0 (putAlm n { a with shelved := none } s) else s)
    else done (gln 0x0812 3 t n d (putAlm n { a with shelved := some (s.clk + d * 1000000000) } s))

/-! ### Trends -/

def mbTrdSet (t _ch : Nat) (p : Bytes) (s : State) : MbR := do
  need (!short p 2) rcBadLength
  let n := be p 0 2
  perm (objOwn Trd.cfg 4096 s.svc.trd t n)
  formLen p 2 [(0, 11), (1, 21)]
  let basic := u8 p 2 = 0
  let cfg := if basic then
      wd (t * 2 ^ 43 + u8 p 5 % 2 * 2 ^ 39 + u8 p 6 % 64 * 2 ^ 33 + be p 3 2 % 32768 * 2 ^ 18 + be p 7 4 % 2 ^ 18)
    else setBit (setFld (beW p 3) 47 43 t) 42 true
  let ring := if basic then wd (16 * 2 ^ 32) else setBit (beW p 9) 47 false
  let db := if basic then 0#48 else beW p 15
  let w := if basic then be p 3 2 else fld cfg 32 18
  perm (!levelOk p 2 || 20480 ≤ w || mayRead s t w)
  stSel (levelOk p 2 && fld cfg 41 40 ≤ 2 && (!basic || u8 p 5 ≤ 1)) s true
  let per := if basic then be p 7 4 else fld cfg 17 0
  par (levelOk p 2 && w < 20480 && 1 ≤ per && per ≤ 216000 && fld cfg 41 40 ≤ 2 && 1 ≤ fld ring 46 32 && fld ring 46 32 ≤ 16384 &&
    (if basic then u8 p 5 ≤ 1 && u8 p 6 < 48 else !bit cfg 39 || fld cfg 38 33 < 48))
  let c : Trd := match tget none s.svc.trd n with
    | some c =>
      let c' := { c with cfg, ring, db }
      if fld c.ring 46 32 = fld ring 46 32 then c' else { c' with samples := [], gap := some 2 }
    | none => { cfg, ring, db }
  let s' := putTrd n c s
  need (quotaOk s' t) rcNoResource
  done (svcSaid 4 n t cfg s')

def mbTrdRead (t _ch : Nat) (p : Bytes) (s : State) : MbR := do
  need (!short p 2) rcBadLength
  match tget none s.svc.trd (be p 0 2) with
  | none => .error rcNotPermitted
  | some c =>
    perm (objTenant c.cfg == t || bit c.ring t)
    lenIs p 10
    let k := be p 8 2
    par (1 ≤ k && k ≤ 250)
    let oldest := (c.next + 2 ^ 48 - c.samples.length) % 2 ^ 48
    let skip := be p 2 6 - oldest
    let xs := (c.samples.reverse.drop skip).take k
    reply (toBe 6 oldest ++ toBe 6 (devtime s) ++ toBe 6 (wallSec s) ++ toBe 6 (wallSub s) ++
      xs.flatMap (fun x => toBe 6 x.dt ++ wB x.value ++ toBe 2 x.qual ++ toBe 2 x.flags)) s

/-! ### Energy -/

def mbEnSet (t _ch : Nat) (p : Bytes) (s : State) : MbR := do
  perm (t == 0)
  formLen p 1 [(0, 12), (1, 18)]
  let n := u8 p 0
  let basic := u8 p 1 = 0
  let cfg := if basic then wd (u8 p 2 % 32 * 2 ^ 43 + u8 p 3 % 4 * 2 ^ 40 + be p 4 2 % 32768 * 2 ^ 25 + 2 ^ 23)
    else setBit (beW p 2 &&& 0xFFFFFF800000#48) 42 true
  let o := objTenant cfg
  let w := if basic then be p 4 2 else fld cfg 39 25
  let ws := if fld cfg 41 40 = 1 then [w, w + 1] else [w]
  perm (!levelOk p 1 || (basic && 32 ≤ u8 p 2) || ws.all (fun w => 20480 ≤ w || mayRead s o w))
  stSel (levelOk p 1 && fld cfg 41 40 ≤ 2 && (!basic || u8 p 3 ≤ 2)) s true
  par (levelOk p 1 && n < 64 && ws.all (· < 20480) && fld cfg 41 40 ≤ 2 && (!basic || (u8 p 2 < 32 && u8 p 3 ≤ 2)))
  let scale := if basic then beW p 6 else beW p 8
  let read := if basic then 0 else be p 14 4
  match tget none s.svc.mtr n with
  | some x =>
    let same := fld x.cfg 41 25 == fld cfg 41 25
    done (svcSaid 5 n o cfg (putMtr n { x with cfg, scale, read, ref0 := if same then x.ref0 else none,
                                               ref1 := if same then x.ref1 else none } s))
  | none => done (svcSaid 5 n o cfg (enOpen n 0 (putMtr n { cfg, scale, read } s)))

/-- Tenant t may read records of meter m and supply system k (R245). -/
def enMayRead (s : State) (t m k : Nat) : Bool :=
  match tget none s.svc.mtr m with
  | some x => objTenant x.cfg == t || (x.read.testBit t && bit (wget s.svc.sys k) t)
  | none => false

/-- A record and its export field (Table 9-8). -/
def enBytes (r : EnRec) : Bytes :=
  toBe 4 r.num ++ toBe 6 r.start ++ toBe 2 r.dur ++ toBe 1 r.meter ++ toBe 1 (r.sys * 16) ++ toBe 2 r.flags ++
    toBe 4 (r.imp % 2 ^ 32) ++ toBe 2 (r.imp / 2 ^ 32) ++ [0#8, 0#8] ++ toBe 6 r.exp

def mbEnRead (t _ch : Nat) (p : Bytes) (s : State) : MbR := do
  lenIs p 6
  let a := be p 0 4
  let c := be p 4 2
  par (1 ≤ c && c ≤ 130)
  let rs := s.silo.enRing.reverse
  let oldest := (rs.head?.map (·.num)).getD s.silo.enNext
  let out := rs.filter (fun r => (r.num + 2 ^ 32 - a) % 2 ^ 32 < c && enMayRead s t r.meter r.sys)
  reply (toBe 4 oldest ++ (out.filter (fun r => !siloTorn s (enAddr r) 30)).flatMap enBytes)
    (out.foldl (fun s r => siloRead (enAddr r) 30 s) s)

def mbEnSysSet (t _ch : Nat) (p : Bytes) (s : State) : MbR := do
  perm (t == 0)
  lenIs p 5
  stChg s true
  par (u8 p 0 < 16)
  done { s with svc := { s.svc with sys := wput (u8 p 0) (wd (be p 1 4)) s.svc.sys } }

def mbEnTotals (t _ch : Nat) (p : Bytes) (s : State) : MbR := do
  need (!short p 1) rcBadLength
  let m := u8 p 0
  perm ((List.range 16).any (enMayRead s t m) || (match tget none s.svc.mtr m with | some x => x.read.testBit t | none => false))
  lenIs p 1
  reply ((List.range 16).flatMap (fun k =>
    let e := tget (0, 0) s.silo.enTotal (m * 16 + k)
    if enMayRead s t m k then toBe 6 (enRound e.1) ++ toBe 6 (enRound e.2) else toBe 12 0)) s

/-! ### Access -/

def mbAccSet (t _ch : Nat) (p : Bytes) (s : State) : MbR := do
  need (!short p 1) rcBadLength
  let n := u8 p 0
  perm (objOwn AccPt.cfg 256 s.svc.acc t n)
  formLen p 1 [(0, 8), (1, 14)]
  let basic := u8 p 1 = 0
  let cfg := if basic then
      wd (t * 2 ^ 43 + u8 p 7 % 16 * 2 ^ 38 + be p 2 2 % 32768 * 2 ^ 23 + be p 4 2 % 32768 * 2 ^ 8 + u8 p 6 % 64 * 4)
    else setBit (setFld (beW p 2 &&& 0xFFFFFFFFFFFC#48) 47 43 t) 42 true
  let tim := if basic then wd (5000 * 2 ^ 32) else beW p 8 &&& 0xFFFFFE000000#48
  let w := if basic then be p 2 2 else fld cfg 37 23
  perm (!levelOk p 1 || [w, if basic then be p 4 2 else fld cfg 22 8].all (fun w => 20480 ≤ w || mayRead s t w))
  stSel (levelOk p 1) s true
  par (levelOk p 1 && w < 20480 && fld cfg 7 2 < 48 && (!basic || (u8 p 6 < 48 && u8 p 7 < 16 && be p 4 2 < 20480)) &&
    100 ≤ fld tim 47 32 && fld tim 47 32 ≤ 60000 && (!bit tim 25 || fld tim 31 26 < 48) &&
    svcOutOk s t (6, n) (fld cfg 22 8) (accLanes cfg tim))
  let a : AccPt := match tget none s.svc.acc n with
    | some a => { a with cfg, tim, noted := false }
    | none => { cfg, tim }
  let s' := putAcc n a s
  need (quotaOk s' t) rcNoResource
  done (svcSaid 6 n t cfg s')

/-- A list entry of `MB_ACC_LIST_PUT`. -/
def listEntry (b : Bytes) : Nat × AccEnt :=
  (be b 0 4, ⟨be b 4 2, if be b 6 2 = 0xFFFF then none else some (be b 6 2, u8 b 8), be b 9 6⟩)

def mbAccListPut (t _ch : Nat) (p : Bytes) (s : State) : MbR := do
  need (2 ≤ p.length) rcBadLength
  let c := be p 0 2
  lenIs p (2 + 15 * c)
  stChg s true
  let es := (items p 2 15 c).map listEntry
  par (1 ≤ c && c ≤ 200 && es.all (fun e => match e.2.prog with | some (w, l) => w < 512 && l < 48 | none => true))
  let s' := { s with svc := { s.svc with list := es.foldl (fun l e => tput none (accKey t e.1) (some e.2) l) s.svc.list } }
  need (quotaOk s' t) rcNoResource
  done (gln 0x0831 3 t (listCount s' t) c s')

def mbAccListDel (t _ch : Nat) (p : Bytes) (s : State) : MbR := do
  need (2 ≤ p.length) rcBadLength
  let c := be p 0 2
  lenIs p (2 + 4 * c)
  stChg s true
  par (1 ≤ c && c ≤ 1000)
  let s' := { s with svc := { s.svc with list := (items p 2 4 c).foldl (fun l b => tput none (accKey t (beVal b)) none l) s.svc.list } }
  let n := listCount s t - listCount s' t
  reply (toBe 2 n) (gln 0x0831 3 t (listCount s' t) n s')

/-! ### Wall time (07 R182, R204; 17 R437) -/

def mbWallSet (t _ch : Nat) (p : Bytes) (s : State) : MbR := do
  perm (t == 0)
  lenIs p 12
  let ns := be p 6 4
  stChg s (!s.tb.wallPtp || 1000000000 ≤ ns)
  par (ns < 1000000000)
  done (rtcWrite (setWallOk true (wallStepUtc ((be p 0 6 : Nat) * 1000000000 + ns) (sgn 16 (be p 10 2)) 1 s)))

def execMbSvcQuotaSet (ch : Fin 16) (p : Bytes) (s : State) : Host.Outcome State Fault Refusal := runMb ch 0x0801 mbSvcQuotaSet p s
def execMbSvcList (ch : Fin 16) (p : Bytes) (s : State) : Host.Outcome State Fault Refusal := runMb ch 0x0802 mbSvcList p s
def execMbLocalSet (ch : Fin 16) (p : Bytes) (s : State) : Host.Outcome State Fault Refusal := runMb ch 0x0803 mbLocalSet p s
def execMbCalSet (ch : Fin 16) (p : Bytes) (s : State) : Host.Outcome State Fault Refusal := runMb ch 0x0810 mbCalSet p s
def execMbWpgSet (ch : Fin 16) (p : Bytes) (s : State) : Host.Outcome State Fault Refusal := runMb ch 0x0811 mbWpgSet p s
def execMbWpgGet (ch : Fin 16) (p : Bytes) (s : State) : Host.Outcome State Fault Refusal := runMb ch 0x0812 mbWpgGet p s
def execMbAlmSet (ch : Fin 16) (p : Bytes) (s : State) : Host.Outcome State Fault Refusal := runMb ch 0x0820 mbAlmSet p s
def execMbAlmList (ch : Fin 16) (p : Bytes) (s : State) : Host.Outcome State Fault Refusal := runMb ch 0x0821 mbAlmList p s
def execMbAlmAck (ch : Fin 16) (p : Bytes) (s : State) : Host.Outcome State Fault Refusal := runMb ch 0x0822 mbAlmAck p s
def execMbAlmShelve (ch : Fin 16) (p : Bytes) (s : State) : Host.Outcome State Fault Refusal := runMb ch 0x0823 mbAlmShelve p s
def execMbTrdSet (ch : Fin 16) (p : Bytes) (s : State) : Host.Outcome State Fault Refusal := runMb ch 0x0830 mbTrdSet p s
def execMbTrdRead (ch : Fin 16) (p : Bytes) (s : State) : Host.Outcome State Fault Refusal := runMb ch 0x0831 mbTrdRead p s
def execMbEnSet (ch : Fin 16) (p : Bytes) (s : State) : Host.Outcome State Fault Refusal := runMb ch 0x0840 mbEnSet p s
def execMbEnRead (ch : Fin 16) (p : Bytes) (s : State) : Host.Outcome State Fault Refusal := runMb ch 0x0841 mbEnRead p s
def execMbEnSysSet (ch : Fin 16) (p : Bytes) (s : State) : Host.Outcome State Fault Refusal := runMb ch 0x0842 mbEnSysSet p s
def execMbEnTotals (ch : Fin 16) (p : Bytes) (s : State) : Host.Outcome State Fault Refusal := runMb ch 0x0843 mbEnTotals p s
def execMbAccSet (ch : Fin 16) (p : Bytes) (s : State) : Host.Outcome State Fault Refusal := runMb ch 0x0850 mbAccSet p s
def execMbAccListPut (ch : Fin 16) (p : Bytes) (s : State) : Host.Outcome State Fault Refusal := runMb ch 0x0851 mbAccListPut p s
def execMbAccListDel (ch : Fin 16) (p : Bytes) (s : State) : Host.Outcome State Fault Refusal := runMb ch 0x0852 mbAccListDel p s
def execMbWallSet (ch : Fin 16) (p : Bytes) (s : State) : Host.Outcome State Fault Refusal := runMb ch 0x0706 mbWallSet p s

end Sys2Proof.Machine
end

