-- ==== Sys2Proof/Machine/SupMb.lean ====
section
/-! DEFINITION. The commands of class 0x0F and the registers behind them (18 R449 to R463). -/

namespace Sys2Proof.Machine

def mbPwrStat (_t _ch : Nat) (p : Bytes) (s : State) : MbR := do
  lenIs p 0
  reply (s.aon.rails.flatMap (toBe 2) ++ toBe 4 (umod 32 s.aon.temp) ++ toBe 4 s.sup.throttles ++ bB s.sup.throttled ++ bB s.sup.holdUp) s

/-- A reset record: cause, detail, TAI seconds (R448). -/
def resetRecBytes (r : ResetRec) : Bytes := toBe 1 r.cause ++ toBe 1 r.detail ++ toBe 6 r.tai

def mbResetLog (t _ch : Nat) (p : Bytes) (s : State) : MbR := do
  perm (t = 0)
  lenIs p 0
  let rs := s.silo.resetLog.flatMap resetRecBytes
  reply (toBe 4 s.silo.resets ++ toBe 4 s.silo.wdgResets ++ rs ++ List.replicate (64 - rs.length) 0#8) s

def mbWdgFuse (t ch : Nat) (p : Bytes) (s : State) : MbR := do
  perm (t = 0)
  lenIs p 3
  let listed := u8 p 0 ≤ 1 && u8 p 1 ≤ 7 && u8 p 2 ≤ 3
  stSel listed s (devMode s == 1 && !bit s.aon.fuseBlown 47)
  par listed
  let w := wd (2 ^ 47 + u8 p 0 * 2 ^ 46 + u8 p 1 * 2 ^ 43 + u8 p 2 * 2 ^ 41)
  done (gln 0x110B 3 0 w.toNat ch { s with aon := { s.aon with fuseBlown := w } })

/-- Word w lies in a block of FIO_MAP or SF_MAP (R452). -/
def mappedWord (s : State) (w : Nat) : Bool :=
  [(fioInWord s, 1), (fioDiagWord s, 1), (fioOutWord s, 1), (fioAiWord s, 4), (fioAoWord s, 4), (fioAomWord s, 4),
    (fld s.saf.map 47 33, 1), (fld s.saf.map 32 18, 1)].any (fun b => b.1 < 20480 && b.1 ≤ w && w < b.1 + b.2)

/-- Something other than task k writes a word (R452 with R195, R208, R232). -/
def otherWriter (s : State) (k w : Nat) : Bool :=
  (taskWrites s w).any (· != k) ||
    s.slot.any (fun e => slotAction e.2 != 0 && slotWord e.2 == w) ||
    s.ce.loop.any (fun e => (ceUws e.2).any (fun u => u.2 == w)) ||
    s.svc.wpg.any (fun e => match e.2 with | some g => bit g.cfg 17 && fld g.cfg 32 18 == w | none => false) ||
    s.svc.acc.any (fun e => match e.2 with | some a => fld a.cfg 22 8 == w | none => false)

def mbWdgSet (t _ch : Nat) (p : Bytes) (s : State) : MbR := do
  perm (t = 0)
  formLen p 0 [(0, 6), (1, 7)]
  stSel (levelOk p 0) s (devMode s == 1)
  let w := if u8 p 0 = 0 then wd (u8 p 1 * 2 ^ 40 + be p 2 2 % 32768 * 2 ^ 24 + be p 4 2 % 32768 * 2 ^ 9 + 15 * 2 ^ 5)
    else setBit (beW p 1 &&& 0xFFFFFFFFFFE0#48) 39 true
  let k := fld w 47 40
  let q := fld w 38 24
  let tw := fld w 23 9
  par (levelOk p 0 && (u8 p 0 != 0 || (be p 2 2 < 32768 && be p 4 2 < 32768)) && 8 ≤ fld w 8 5)
  par (taskKind (taskEnt s k) == 1 && taskTenant s k == 0 && inPlot s 1 0 q && !mappedWord s q && inPlot s 0 0 tw && !otherWriter s k tw)
  let s := { s with sup := { s.sup with wdgCfg := w, wdgSet := true } }
  done (if s.sup.wdgState = 0 || s.pair.rstate = 5 then s else unitUpdate 2000 false [(q, wd s.sup.question)] s)

/-- WDG_STAT (Table 18-5); the period after a change of server shows as a first period. -/
def wdgStat (s : State) : Word :=
  let st := if s.sup.wdgState = 3 then 1 else s.sup.wdgState
  wd (st * 2 ^ 46 + b2n s.sup.wdgServer * 2 ^ 45 + (if s.sup.wdgState = 0 then 0 else Nat.min (2 ^ 23 - 1) (wdgE s / 100000)) * 2 ^ 22)

def mbWdgStat (t _ch : Nat) (p : Bytes) (s : State) : MbR := do
  perm (t = 0)
  lenIs p 0
  reply (wB s.aon.fuse ++ wB s.sup.wdgCfg ++ wB (wd s.sup.question) ++ wB (wd s.sup.token) ++ wB (wdgStat s)) s

def mbStartSet (t _ch : Nat) (p : Bytes) (s : State) : MbR := do
  perm (t = 0)
  formLen p 0 [(0, 2), (1, 7)]
  let w := if u8 p 0 = 0 then wd (u8 p 1 % 4 * 2 ^ 46 + 3 * 2 ^ 37) else setBit (beW p 1 &&& 0xFFE000000000#48) 45 true
  let listed := levelOk p 0 && (u8 p 0 != 0 || u8 p 1 ≤ 2) && fld w 47 46 ≤ 2
  stSel listed s true
  par (listed && 1 ≤ fld w 44 37)
  done { s with sup := { s.sup with startCfg := w } }

def mbReset (t _ch : Nat) (p : Bytes) (s : State) : MbR := do
  perm (t = 0)
  lenIs p 0
  stChg s true
  done s

/-- MB_SLEEP, step 1 of Table 18-7: WAKE_CAUSE cleared, wake sources armed. STATE is SLEEP from the reply on (02 R64), on a standby at
once; steps 2 to 4 follow with time. -/
def mbSleep (t _ch : Nat) (p : Bytes) (s : State) : MbR := do
  perm (t = 0)
  lenIs p 0
  stChg s (devMode s == 1)
  let kinds := (List.range 4).foldl (fun k n => tput 0 n (fld (getCan s n).wake 47 46) k) []
  done { s with
    aon := { s.aon with wakeCause := 0#48, wakeOpen := true, wakeStart := none, canKind := kinds, canWoke := [] }
    sup := { s.sup with sleeping := s.pair.applying, sleepAt := some s.clk, sleepStep := 2 } }

def mbWakeSet (t _ch : Nat) (p : Bytes) (s : State) : MbR := do
  perm (t = 0)
  formLen p 0 [(0, 8), (1, 13)]
  stSel (levelOk p 0 && (u8 p 0 == 1 || u8 p 1 ≤ 1)) s true
  let basic := u8 p 0 = 0
  let alarm := if basic then beW p 2 else beW p 7
  let w := if basic then wd (u8 p 1 % 2 * 2 ^ 47 + 2 ^ 46 + b2n (alarm != 0#48) * 2 ^ 45 + 10 * 2 ^ 36)
    else setBit (beW p 1 &&& 0xFFF000000000#48) 44 true
  par (levelOk p 0 && (!basic || u8 p 1 ≤ 1) && 1 ≤ fld w 43 36)
  done { s with aon := { s.aon with wakeCfg := w, alarm } }

def mbWakeCause (_t _ch : Nat) (p : Bytes) (s : State) : MbR := do
  lenIs p 0
  reply (wB s.aon.wakeCause ++ toBe 6 (s.aon.wakeEnd % 2 ^ 48)) s

def execMbPwrStat (ch : Fin 16) (p : Bytes) (s : State) : Host.Outcome State Fault Refusal := runMb ch 0x0F01 mbPwrStat p s
def execMbResetLog (ch : Fin 16) (p : Bytes) (s : State) : Host.Outcome State Fault Refusal := runMb ch 0x0F02 mbResetLog p s
def execMbWdgFuse (ch : Fin 16) (p : Bytes) (s : State) : Host.Outcome State Fault Refusal := runMb ch 0x0F03 mbWdgFuse p s
def execMbWdgSet (ch : Fin 16) (p : Bytes) (s : State) : Host.Outcome State Fault Refusal := runMb ch 0x0F04 mbWdgSet p s
def execMbWdgStat (ch : Fin 16) (p : Bytes) (s : State) : Host.Outcome State Fault Refusal := runMb ch 0x0F05 mbWdgStat p s
def execMbStartSet (ch : Fin 16) (p : Bytes) (s : State) : Host.Outcome State Fault Refusal := runMb ch 0x0F06 mbStartSet p s
def execMbReset (ch : Fin 16) (p : Bytes) (s : State) : Host.Outcome State Fault Refusal := runMb ch 0x0F07 mbReset p s
def execMbSleep (ch : Fin 16) (p : Bytes) (s : State) : Host.Outcome State Fault Refusal := runMb ch 0x0F08 mbSleep p s
def execMbWakeSet (ch : Fin 16) (p : Bytes) (s : State) : Host.Outcome State Fault Refusal := runMb ch 0x0F09 mbWakeSet p s
def execMbWakeCause (ch : Fin 16) (p : Bytes) (s : State) : Host.Outcome State Fault Refusal := runMb ch 0x0F0A mbWakeCause p s

end Sys2Proof.Machine
end

