-- ==== Sys2Proof/Machine/MbTable.lean ====
section
/-! DEFINITION. Commands by their code, for configuration items (16 R414) and the CHANGE records of the pair (15 R379). -/

namespace Sys2Proof.Machine

/-- What a command with a code does for a tenant and a channel (02 Table 2-9 and the command tables of the other files). -/
def mbOf (code : Nat) : Option (Nat → Nat → Bytes → State → MbR) :=
  match code with
  | 0x0101 => some mbSessionOpen
  | 0x0102 => some mbSessionClose
  | 0x0103 => some mbNop
  | 0x0104 => some mbAckAttn
  | 0x0105 => some mbDeviceInfo
  | 0x0106 => some mbChanBind
  | 0x0107 => some mbKeySet
  | 0x0108 => some mbChanStats
  | 0x0201 => some mbModeSet
  | 0x0202 => some mbTenantModeSet
  | 0x0203 => some mbTaskGet
  | 0x0204 => some mbTaskSet
  | 0x0205 => some mbTaskStats
  | 0x0206 => some mbTenantSchedSet
  | 0x0207 => some mbRetainSet
  | 0x0208 => some mbEvtAlloc
  | 0x0209 => some mbEvtEnable
  | 0x020A => some mbEvtClear
  | 0x020B => some mbEvtGet
  | 0x0301 => some mbImageRead
  | 0x0302 => some mbImageWrite
  | 0x0303 => some mbPlotGet
  | 0x0304 => some mbPlotAssign
  | 0x0305 => some mbPlotRelease
  | 0x0306 => some mbPlotShare
  | 0x0307 => some mbPlotPubSet
  | 0x0310 => some mbRioSet
  | 0x0311 => some mbRioGet
  | 0x0312 => some mbTenantAccept
  | 0x0320 => some mbForceSet
  | 0x0321 => some mbForceClear
  | 0x0322 => some mbForceList
  | 0x0401 => some mbValueWrite
  | 0x0402 => some mbValueRead
  | 0x0403 => some mbRetStat
  | 0x0601 => some mbCeAlloc
  | 0x0602 => some mbCeSet
  | 0x0603 => some mbCeCoefSet
  | 0x0604 => some mbCeCoefCommit
  | 0x0605 => some mbCeGet
  | 0x0606 => some mbCeStateSet
  | 0x0607 => some mbCeFlagsClear
  | 0x0608 => some mbCeInjStart
  | 0x0609 => some mbCeInjStop
  | 0x060A => some mbCeCapRead
  | 0x060B => some mbCeLoad
  | 0x0701 => some mbTbGet
  | 0x0702 => some mbTbDiag
  | 0x0703 => some mbLpSet
  | 0x0704 => some mbMainsSet
  | 0x0705 => some mbPosFix
  | 0x0706 => some mbWallSet
  | 0x0710 => some mbSchAlloc
  | 0x0711 => some mbSchSet
  | 0x0712 => some mbSchArm
  | 0x0713 => some mbSchCancel
  | 0x0714 => some mbSchGet
  | 0x0720 => some mbRtcGet
  | 0x0721 => some mbRtcCapture
  | 0x0722 => some mbRtcCalSet
  | 0x0801 => some mbSvcQuotaSet
  | 0x0802 => some mbSvcList
  | 0x0803 => some mbLocalSet
  | 0x0810 => some mbCalSet
  | 0x0811 => some mbWpgSet
  | 0x0812 => some mbWpgGet
  | 0x0820 => some mbAlmSet
  | 0x0821 => some mbAlmList
  | 0x0822 => some mbAlmAck
  | 0x0823 => some mbAlmShelve
  | 0x0830 => some mbTrdSet
  | 0x0831 => some mbTrdRead
  | 0x0840 => some mbEnSet
  | 0x0841 => some mbEnRead
  | 0x0842 => some mbEnSysSet
  | 0x0843 => some mbEnTotals
  | 0x0850 => some mbAccSet
  | 0x0851 => some mbAccListPut
  | 0x0852 => some mbAccListDel
  | 0x0901 => some mbGlnRead
  | 0x0902 => some mbGlnFreeze
  | 0x0903 => some mbGlnUnfreeze
  | 0x0904 => some mbGlnClassSet
  | 0x0905 => some mbGlnStat
  | 0x0A01 => some mbPairSet
  | 0x0A02 => some mbPairStat
  | 0x0A30 => some mbPassSet
  | 0x0A31 => some mbPassStat
  | 0x0A32 => some mbPassMembers
  | 0x0A33 => some mbPassBudget
  | 0x0A34 => some mbPassInaug
  | 0x0B01 => some mbSafetyStatus
  | 0x0B02 => some mbSafetySecure
  | 0x0B03 => some mbSafetyLoad
  | 0x0B04 => some mbSafetyConfirm
  | 0x0B05 => some mbSafetyRestart
  | 0x0B06 => some mbSafetyPassword
  | 0x0B07 => some mbSafetyRead
  | 0x0B08 => some mbSafetyLogRead
  | 0x0C01 => some mbFioMapSet
  | 0x0C02 => some mbFcSet
  | 0x0C03 => some mbFcGrpSet
  | 0x0C04 => some mbFioSilSet
  | 0x0C05 => some mbAiSet
  | 0x0C06 => some mbAoSet
  | 0x0C07 => some mbTwElecSet
  | 0x0C08 => some mbFioStat
  | 0x0C09 => some mbFioClear
  | 0x0D01 => some mbCanSet
  | 0x0D02 => some mbCanQueueSet
  | 0x0D03 => some mbCanFilterSet
  | 0x0D04 => some mbCanTx
  | 0x0D05 => some mbCanTxCancel
  | 0x0D06 => some mbCanTxResults
  | 0x0D07 => some mbCanRxRead
  | 0x0D08 => some mbCanStat
  | 0x0D09 => some mbCanRecover
  | 0x0D0A => some mbCanWakeSet
  | 0x0D20 => some mbEthSet
  | 0x0D21 => some mbEthPortSet
  | 0x0D22 => some mbEthStat
  | 0x0D23 => some mbTrdpSet
  | 0x0D24 => some mbTrdpGet
  | 0x0D25 => some mbTrdpTopoSet
  | 0x0D26 => some mbRioIpSet
  | 0x0D27 => some mbPtpSet
  | 0x0D28 => some mbPtpStat
  | 0x0F01 => some mbPwrStat
  | 0x0F02 => some mbResetLog
  | 0x0F03 => some mbWdgFuse
  | 0x0F04 => some mbWdgSet
  | 0x0F05 => some mbWdgStat
  | 0x0F06 => some mbStartSet
  | 0x0F07 => some mbReset
  | 0x0F08 => some mbSleep
  | 0x0F09 => some mbWakeSet
  | 0x0F0A => some mbWakeCause
  | _ => none

/-- Commands that set standing configuration: the items of a base configuration (16 R414). -/
def itemCmds : List Nat :=
  [0x0204, 0x0206, 0x0207, 0x0208, 0x0209, 0x0304, 0x0306, 0x0307, 0x0310, 0x0401, 0x0601, 0x0602, 0x0603, 0x0703, 0x0704, 0x0710, 0x0711,
   0x0801, 0x0803, 0x0810, 0x0811, 0x0820, 0x0830, 0x0840, 0x0842, 0x0850, 0x0851, 0x0904, 0x0A01, 0x0A30, 0x0C01, 0x0C02, 0x0C03, 0x0C04,
   0x0C05, 0x0C06, 0x0C07, 0x0D01, 0x0D02, 0x0D03, 0x0D0A, 0x0D20, 0x0D21, 0x0D23, 0x0D25, 0x0D26, 0x0D27, 0x0722, 0x0F04, 0x0F06, 0x0F09]

end Sys2Proof.Machine
end

