-- ==== Sys2Proof/Machine/OvlOps.lean ====
section
/-! DEFINITION. Configuration items, their composition, the units of a transition and how each changes (16 R394 to R402, R414,
R415). -/

namespace Sys2Proof.Machine

/-! ### Stored content -/

def ovlDesc (s : State) (i : Nat) : OvlDesc := tget {} s.flash.ovl i

/-- Overlay i is stored and can be used: created, and not torn. -/
def ovlValid (s : State) (i : Nat) : Bool :=
  i < 64 && (ovlDesc s i).layer != 0 && (match regionCopy s 4 i with | some c => c.valid | none => true)

/-- The content CRC of an overlay's copy, 0 with none. -/
def ovlCrc (s : State) (i : Nat) : Nat := match regionCopy s 4 i with | some c => c.crc | none => 0

/-- The items of overlay i in the order of R415. -/
def ovlItems (s : State) (i : Nat) : List Item := contentItems ((validContent s 4 i).getD []) 4

/-- A set by layer as one number: layers 1 to 4 in bytes [31:24] to [7:0]. -/
def setVal (l : List Nat) : Nat := l.foldl (fun a b => a * 256 + b) 0

/-- The overlays of a set, in ascending layer. -/
def setOvls (l : List Nat) : List Nat := l.filter (· < 64)

/-- The configuration hash (R406). -/
def cfgHash (s : State) : Nat :=
  let base := match s.ovl.baseAt with | some i => (validContent s 3 i).getD [] | none => []
  crc32 (base ++ (List.range 64).flatMap (fun i =>
    if (ovlDesc s i).layer != 0 && (regionCopy s 4 i).isSome then toBe 4 (ovlCrc s i) else []))

/-- A change of the hash fires source 119 and writes 0x0F16. -/
def hashChange (s : State) : State :=
  let n := cfgHash s
  if n = s.ovl.hash then s else gln 0x0F16 3 0 n s.ovl.hash (fire 119 { s with ovl := { s.ovl with hash := n } })

/-! ### One item (R414, R415) -/

/-- SF_MAP as a register item: its blocks lie where R299 wants them. -/
def sfMapItem (i : Item) (s : State) : Nat × State :=
  let w := beW i.payload 2 &&& 0xFFFFFFFC0000#48
  let blk := fun (src w : Nat) => w == 0x7FFF || inPlot s src 0 w
  if i.tenant != 0 || i.payload.length != 8 || be i.payload 0 2 != 1 then (rcBadParam, s)
  else if !(blk 1 (fld w 47 33) && blk 0 (fld w 32 18)) then (rcBadParam, s)
  else (rcOk, { s with saf := { s.saf with map := w } })

/-- An MB_VALUE_WRITE that is an item: no anchor, only constants. -/
def constItem (p : Bytes) : Bool :=
  be p 0 2 == 0xFFFF && p.length == 3 + 10 * u8 p 2 && (items p 3 10 (u8 p 2)).all (fun b => (handleOf (be b 0 4)).map (·.1) == some 2)

/-- An item runs as its tenant's command in a device mode, with every tenant in RUN and every check of the command; a coefficient
item sets its block directly, and a local offset acts in the modes there are. Answers the result code and the state, unchanged where a check refuses. A plot-table item acts as
outside a chain (log 40). -/
def itemResult (mode : Nat) (i : Item) (s : State) : Nat × State :=
  if i.cmd = 0 then sfMapItem i s
  else if !itemCmds.contains i.cmd || (i.cmd == 0x0401 && !constItem i.payload) then (rcBadParam, s)
  else match mbOf i.cmd with
    | none => (rcBadParam, s)
    | some f =>
      let plot := i.cmd == 0x0304 || i.cmd == 0x0306
      let s1 := { s with
        task := { s.task with dev := mode, ten := [] }
        pair := { s.pair with rstate := 0, applying := true }
        ovl := { s.ovl with update := false }
        pass := if plot then { s.pass with cfg := setBit s.pass.cfg 39 false } else s.pass }
      match f i.tenant 16 i.payload s1 with
      | .error rc => (rc, s)
      | .ok o =>
        let t := o.s
        let t := { t with
          task := { t.task with dev := s.task.dev, ten := s.task.ten }
          pair := { t.pair with rstate := s.pair.rstate, applying := s.pair.applying }
          ovl := { t.ovl with update := s.ovl.update }
          pass := if plot then { t.pass with cfg := s.pass.cfg } else t.pass }
        if o.rc != rcOk then (o.rc, s)
        else if i.cmd = 0x0603 then
          (rcOk, updLoop (be i.payload 0 2) (fun x => match x.stage with
            | some b => { x with coef := b, stage := none, basic := [], cfg := setBit x.cfg 39 true }
            | none => x) t)
        else if i.cmd = 0x0803 then (rcOk, setOfs (u8 i.payload 0) (sgn 16 (be i.payload 1 2)) s)
        else (rcOk, t)

/-! ### Objects and units (Table 16-3) -/

/-- Where an item belongs: kind, atomic unit within the kind, and the objects it sets. -/
structure ItemPlace where
  kind : Nat
  key : Nat
  objs : List (Nat × Nat)
deriving DecidableEq, Repr

/-- The place of an item that an overlay may carry (R395); none for any other. -/
def itemPlace (i : Item) : Option ItemPlace :=
  let p := i.payload
  let c := i.cmd
  let n := u8 p 0
  let m := be p 0 2
  let one := fun (kind key k : Nat) => some (⟨kind, key, [(c, k)]⟩ : ItemPlace)
  match c with
  | 0x0204 => one 5 m m
  | 0x0602 | 0x0603 => some ⟨4, m, [(0x0602, m)]⟩
  | 0x0711 => one 3 0 m
  | 0x0401 => if constItem p then
      some ⟨6, i.tenant, (items p 3 10 (u8 p 2)).map (fun b => (c, i.tenant * 2 ^ 32 + be b 0 4))⟩ else none
  | 0x0810 => one 7 (65536 + i.tenant * 2 + n) (i.tenant * 2 + n)
  | 0x0811 => one 7 (2 * 65536 + m) m
  | 0x0820 => one 7 (3 * 65536 + m) m
  | 0x0830 => one 7 (4 * 65536 + m) m
  | 0x0850 => one 7 (6 * 65536 + n) n
  | 0x0851 => some ⟨7, 7 * 65536 + i.tenant, (items p 2 15 m).map (fun b => (c, accKey i.tenant (be b 0 4)))⟩
  | _ =>
    if i.tenant != 0 then none
    else match c with
      | 0x0703 => one 0 0 0
      | 0x0704 => one 0 (1 + n) n
      | 0x0C02 => one 1 (n / 16) n
      | 0x0C03 => one 1 (n / 4) n
      | 0x0C04 => one 1 n n
      | 0x0C05 => one 1 3 n
      | 0x0C06 => one 1 3 n
      | 0x0C07 => one 1 3 n
      | 0x0310 => one 2 m m
      | 0x0D26 => one 2 m m
      | 0x0D23 => one 2 (2000 + n) n
      | 0x0D20 => one 2 (3000 + n) n
      | 0x0D21 => one 2 3010 0
      | 0x0D25 => one 2 3020 0
      | 0x0D01 => one 2 (4000 + n) n
      | 0x0D02 => one 2 (4000 + n) (n * 256 + u8 p 1)
      | 0x0D03 => some ⟨2, 4000 + n, (List.range (u8 p 2)).map (fun k => (c, n * 256 + u8 p 1 + k))⟩
      | 0x0D0A => one 2 (4000 + n) n
      | 0x0D27 => one 2 5000 0
      | 0x0840 => one 7 (5 * 65536 + n) n
      | 0x0842 => one 7 (8 * 65536 + n) n
      | 0x0803 => one 9 n n
      | _ => none

/-- The composition of a set: base items, then each overlay's in ascending layer (R415). -/
def composed (s : State) (set : List Nat) : List Item := s.ovl.base ++ (setOvls set).flatMap (ovlItems s)

/-- Overlays whose activity differs between two sets. -/
def changing (old new : List Nat) : List Nat :=
  (setOvls old).filter (fun i => !(setOvls new).contains i) ++ (setOvls new).filter (fun i => !(setOvls old).contains i)

/-- Each element once. -/
def onceEach (l : List (Nat × Nat)) : List (Nat × Nat) := l.foldl (fun a x => if a.contains x then a else a ++ [x]) []

/-- The units of a transition from the set in force to another, their objects with the items of `is` that set them, ascending. -/
def unitsFor (s : State) (set : List Nat) (is : List Item) : List OvlUnit :=
  let ps := (changing s.ovl.set set).flatMap (fun i => (ovlItems s i).filterMap itemPlace)
  let keys := sortBy (fun a b => decide (a.1 * 2 ^ 20 + a.2 ≤ b.1 * 2 ^ 20 + b.2)) (onceEach (ps.map (fun p => (p.kind, p.key))))
  let us := keys.map (fun k =>
    let objs := onceEach ((ps.filter (fun p => p.kind == k.1 && p.key == k.2)).flatMap (·.objs))
    ({ kind := k.1, key := k.2, objs, items := is.filter (fun i => match itemPlace i with
        | some p => p.kind == k.1 && p.key == k.2 && p.objs.any (fun o => objs.contains o)
        | none => false) } : OvlUnit))
  let energy : List OvlUnit := if s.ovl.set.getD 0 0xFE = set.getD 0 0xFE then [] else [⟨8, 0, [], []⟩]
  sortBy (fun a b => decide (a.kind ≤ b.kind)) (us ++ energy)

/-! ### How an object changes (R399, R400) -/

/-- An object that no item of the composition sets takes the value start-up leaves it with. -/
def resetObj (o : Nat × Nat) (s : State) : State :=
  let n := o.2
  let svc := fun (f : Svc → Svc) => { s with svc := f s.svc }
  match o.1 with
  | 0x0703 => axFuse ((List.range 4).foldl (fun s k => setAxle k 0#48 s) { s with tb := { s.tb with lpCfg := 0x321414281400#48 } })
  | 0x0704 => setMains n 0#48 s
  | 0x0C02 => fioGln 0x0940 n 0 (grpBasic (n / 4) (updFc n (fun c => { c with cfg := 0#48 }) s))
  | 0x0C03 => fioGln 0x0940 n 0 (grpBasic n (updGrp n (fun g => { g with cfg := 0#48 }) s))
  | 0x0C04 => fioGln 0x0940 n 0 (updDie n (fun d => { d with sil := 20#48 }) s)
  | 0x0C05 => fioGln 0x0940 n 0 (updAi n (fun a => { a with cfg := 0#48, lo := 0#48, hi := 0#48 }) s)
  | 0x0C06 => fioGln 0x0940 n 0 (updAo n (fun a => { a with cfg := 0#48 }) s)
  | 0x0C07 => fioGln 0x0940 n 0 { s with fio := { s.fio with tw := wput n 0#48 s.fio.tw } }
  | 0x0310 => setRio n 0#48 0#48 [] s
  | 0x0D26 => judgeRio n (updRio n (fun r => { r with ip := 0#48 }) s)
  | 0x0D23 => setTrdp n {} s
  | 0x0D20 => updMac n (fun m => { m with cfg := 0#48, mac := ({} : EthMac).mac, ip := 0#48, gw := 0#48 }) s
  | 0x0D21 => { s with eth := { s.eth with port := 52410 } }
  | 0x0D25 => { s with eth := { s.eth with etb := 0, opTrn := 0 } }
  | 0x0D01 => let d : CanCtl := {}; updCan n (fun c => { c with next := some (d.ctl, d.nbt, d.dbt) }) s
  | 0x0D02 => let d : CanCtl := {}; updCan (n / 256) (canQueueTake (n % 256) (canQue d (n % 256)) 0#48) s
  | 0x0D03 => updCan (n / 256) (fun c => { c with flt := wput (n % 256) 0#48 c.flt }) s
  | 0x0D0A => let d : CanCtl := {}; updCan n (fun c => { c with wake := d.wake, wid := 0#48, wdata := 0#48 }) s
  | 0x0D27 => setPtp 0#48 0#48 s
  | 0x0810 => svc (fun v => { v with cal := tput [] n [] v.cal })
  | 0x0811 => svc (fun v => { v with wpg := tput none n none v.wpg })
  | 0x0820 => svc (fun v => { v with alm := tput none n none v.alm })
  | 0x0830 => svc (fun v => { v with trd := tput none n none v.trd })
  | 0x0840 => svc (fun v => { v with mtr := tput none n none v.mtr })
  | 0x0842 => svc (fun v => { v with sys := wput n 0#48 v.sys })
  | 0x0850 => svc (fun v => { v with acc := tput none n none v.acc })
  | 0x0803 => setOfs n 0 s
  | _ => s

/-- The last item of a list that its command's checks take (given newest first); none leaves the object as it is. -/
def applyLast : List Item → State → State
  | [], s => s
  | i :: l, s =>
    let r := itemResult s.task.dev i s
    if r.1 = rcOk then r.2
    else
      let r := itemResult 1 i s
      if r.1 = rcOk then r.2 else applyLast l s

/-- Items that set an object. -/
def objItems (o : Nat × Nat) (is : List Item) : List Item :=
  is.filter (fun i => match itemPlace i with | some p => p.objs.contains o | none => false)

/-- Items run in order, those refused skipped. -/
def runItems (is : List Item) (s : State) : State := is.foldl (fun s i => (itemResult 1 i s).2) s

/-- A loop takes the configuration and the block of the composition; what it has computed stays while its block keeps its size. -/
def loopChange (n : Nat) (is : List Item) (s : State) : State :=
  let s := ceSettle [n] s
  let x := getLoop s n
  let bare : CeLoop := { cfg := setFld 0#48 44 40 (ceTenant x), status := setFld x.status 31 31 0, flag := x.flag }
  let t := runItems is (updLoop n (fun _ => bare) { s with ce := { s.ce with jobs := [] } })
  let t := { t with ce := { t.ce with jobs := s.ce.jobs } }
  let y := getLoop t n
  if !y.isSet then { updLoop n (fun _ => bare) s with ce := { (updLoop n (fun _ => bare) s).ce with jobs := s.ce.jobs.filter (fun j => j.loop != n), waits := s.ce.waits.filter (fun w => w.loop != n) } }
  else if x.isSet && y.coef.length == x.coef.length then
    updLoop n (fun y => { y with xh := x.xh, q := x.q, ua := x.ua.take (ceP y), status := setFld x.status 31 31 0, flag := x.flag, bad := x.bad, skipped := x.skipped,
                                 cycSeen := x.cycSeen }) t
  else updLoop n (fun y => { y with status := setFld x.status 31 31 0, flag := x.flag }) t

/-- A slot takes its new fields; an armed one stays armed with its target. -/
def slotChange (n : Nat) (is : List Item) (s : State) : State :=
  let x := getSlot s n
  let bare := updSlot n (fun x => { x with cfg := setFld 0x000100000000#48 44 40 (slotTenant x), arg := 0#48, sts := setFld x.sts 47 44 0, noted := false }) s
  let t := runItems is bare
  if slotArmed x then updSlot n (fun y => { y with sts := x.sts, tgt := x.tgt, dt := x.dt, pulse := x.pulse, ref := x.ref }) t else t

/-- The entry of a task in the composition. -/
def taskTarget (k : Nat) (is : List Item) (s : State) : Word × Word × Word :=
  let e := tget (0#48, 0#48, 0#48) s.prog.entries k
  taskAccepted (taskEnt (runItems is (updTask k (fun x => { x with cfg := e.1, par := e.2.1, lim := e.2.2, next := none }) s)) k)

/-- A task takes its entry, from its next release on (R155). -/
def taskChange (k : Nat) (is : List Item) (s : State) : State :=
  let n := taskTarget k is s
  gln 0x030C 2 (taskTenant s k) k (b2n (bit n.1 44)) (setTaskEntry k n s)

/-- A constant of the composition: its last value among the items, or the program image's. -/
def constChange (is : List Item) (o : Nat × Nat) (s : State) : State :=
  let t := o.2 / 2 ^ 32
  let h := o.2 % 2 ^ 32
  let vs := is.flatMap (fun i => ((items i.payload 3 10 (u8 i.payload 2)).filter (fun b => be b 0 4 == h)).map (fun b => beW b 4))
  putValue t (h, (vs.getLast?).getD (wget s.prog.init (dsKey 1 t (h % 2 ^ 21)))) s

/-- A list entry of the composition, with 0x0831 where it changes (09 R248). -/
def entryChange (is : List Item) (o : Nat × Nat) (s : State) : State :=
  let es := is.flatMap (fun i => ((items i.payload 2 15 (be i.payload 0 2)).filter (fun b => accKey i.tenant (be b 0 4) == o.2)).map (fun b => (listEntry b).2))
  let s' := { s with svc := { s.svc with list := tput none o.2 es.getLast? s.svc.list } }
  let t := o.2 / 2 ^ 32
  if s'.svc.list = s.svc.list then s else gln 0x0831 3 t (listCount s' t) 1 s'

/-- One object takes its value in the composition. -/
def objChange (is : List Item) (o : Nat × Nat) (s : State) : State :=
  match o.1 with
  | 0x0602 => loopChange o.2 is s
  | 0x0711 => slotChange o.2 (objItems o is) s
  | 0x0204 => taskChange o.2 is s
  | 0x0401 => constChange is o s
  | 0x0851 => entryChange is o s
  | _ => match (objItems o is).reverse with
    | [] => resetObj o s
    | l => applyLast l s

/-- The constants of a tenant have changed: the Gleaner entry of a value write with anchor 0xFFFF (05 R151). -/
def constsChanged (u : OvlUnit) (s : State) : State :=
  if u.kind = 6 then gln 0x030B 3 u.key (0xFFFF * 256 + u.objs.length % 256 : Nat) 0 s else s

/-- A unit changes as one whole: its objects in the order of their commands' codes, queues before filters; the energy unit's
code changes with the next 100 ms step. -/
def unitApply (u : OvlUnit) (s : State) : State :=
  let flt := u.objs.filter (·.1 == 0x0D03)
  let s := (sortBy (fun a b => decide (a.1 ≤ b.1)) (u.objs.filter (·.1 != 0x0D03))).foldl (fun s o => objChange u.items o s) s
  if flt = [] then s else runItems (u.items.filter (·.cmd == 0x0D03)) (flt.foldl (fun s o => resetObj o s) s)

/-! ### Checks of a request (R396, R397) -/

/-- BASE that an MB_SCH_SET item gives its slot. -/
def itemBase (i : Item) : Nat := if u8 i.payload 2 = 0 then u8 i.payload 3 else fld (beW i.payload 3) 47 45

/-- BASE of a slot in the base configuration. -/
def baseOfSlot (s : State) (n : Nat) : Nat :=
  match ((s.ovl.base.filter (fun i => i.cmd == 0x0711 && be i.payload 0 2 == n)).getLast?) with
  | some i => itemBase i
  | none => 0

/-- TENANT of a slot in the base configuration: that of the last MB_SCH_ALLOC item over it. -/
def baseTenantOfSlot (s : State) (n : Nat) : Nat :=
  match ((s.ovl.base.filter (fun i => i.cmd == 0x0710 && be i.payload 0 2 ≤ n && n < be i.payload 0 2 + be i.payload 2 2)).getLast?) with
  | some i => u8 i.payload 4
  | none => 0

/-- A slot item keeps BASE and TENANT of the base configuration (R396). -/
def slotItemOk (i : Item) (s : State) : Bool :=
  let n := be i.payload 0 2
  itemBase i == baseOfSlot s n && i.tenant == baseTenantOfSlot s n

/-- An overlay's item as start-up and a request judge it: R395 and R396 allow it, and its command's checks take it in RUN. -/
def ovlItemResult (i : Item) (s : State) : Nat × State :=
  if (itemPlace i).isNone || (i.cmd == 0x0711 && !slotItemOk i s) then (rcBadParam, s)
  else
    let r := itemResult 2 i s
    if r.1 = rcBadState then (rcBadParam, s) else r

/-- What writes an image word or lane: object, word, lanes. -/
def wordWriters (s : State) : List ((Nat × Nat) × Nat × Lanes) :=
  (s.slot.filterMap (fun e => if slotAction e.2 = 0 then none
    else some ((0x0711, e.1), slotWord e.2, if slotAction e.2 = 4 then none else some [slotLane e.2]))) ++
  s.ce.loop.flatMap (fun e => (ceUws e.2).map (fun u => ((0x0602, e.1), u.2, none))) ++
  s.svc.wpg.filterMap (fun e => match e.2 with
    | some g => if bit g.cfg 17 then some ((0x0811, e.1), fld g.cfg 32 18, wpgLanes g.cfg) else none
    | none => none) ++
  s.svc.acc.filterMap (fun e => e.2.map (fun a => ((0x0850, e.1), fld a.cfg 22 8, accLanes a.cfg a.tim))) ++
  s.img.rio.flatMap (fun e => (span (rioIN e.2).1 (rioIN e.2).2).map (fun w => ((0x0310, e.1), w, none))) ++
  s.eth.trdp.flatMap (fun e => if trdpPub e.2 then [] else (span (trdpWord e.2) (trdpCount e.2)).map (fun w => ((0x0D23, e.1), w, none)))

/-- An object writes some of the lanes of a word. -/
def writesLane (ws : List ((Nat × Nat) × Nat × Lanes)) (o : Nat × Nat) (w : Nat) (l : Lanes) : Bool :=
  ws.any (fun x => x.1 == o && x.2.1 == w && lanesMeet x.2.2 l)

/-- A word or lane that one object writes now and a different one after (R397). -/
def writerMoves (a b : List ((Nat × Nat) × Nat × Lanes)) : Bool :=
  b.any (fun y => a.any (fun x => x.1 != y.1 && x.2.1 == y.2.1 && lanesMeet x.2.2 y.2.2 &&
    !(writesLane a y.1 y.2.1 y.2.2 && writesLane b x.1 x.2.1 x.2.2)))

/-- What a request whose item i is refused with rc ends with: a task bound to another owner's source NOT_PERMITTED (01 R31), all else
BAD_PARAM. -/
def requestRc (i : Item) (rc : Nat) : Nat := if rc = rcOk then rcOk else if i.cmd = 0x0204 ∧ rc = rcNotPermitted then rc else rcBadParam

/-- An item belongs to an object of some of the units. -/
def inUnits (us : List OvlUnit) (i : Item) : Bool :=
  match itemPlace i with
  | some p => us.any (fun u => u.kind == p.kind && u.key == p.key && p.objs.any (fun o => u.objs.contains o))
  | none => false

/-- Items run one after the other until one is refused. -/
def checkItems (run : Item → State → Nat × State) (is : List Item) (a : Nat × State) : Nat × State :=
  is.foldl (fun (a : Nat × State) i => if a.1 != rcOk then a else let r := run i a.2; (requestRc i r.1, r.2)) a

/-- The checks of R396 and R397 on a target set: from objects that no item sets, every item of the composition that belongs to a changing
object is taken, an item of the base as start-up takes it, and no word moves from one writer to another. An item of the set's overlays
that no overlay may carry is refused too. -/
def requestCheck (s : State) (set : List Nat) : Nat :=
  let us := unitsFor s set []
  let bare := { s with slot := s.slot.map (fun e => (e.1, { e.2 with sts := setFld e.2.sts 47 44 0 })) }
  let b := us.foldl (fun t u => unitApply u t) bare
  let r := checkItems (itemResult 1) (s.ovl.base.filter (inUnits us)) (rcOk, b)
  let r := checkItems ovlItemResult (((setOvls set).flatMap (ovlItems s)).filter (fun i => inUnits us i || (itemPlace i).isNone)) r
  if r.1 = rcOk ∧ writerMoves (wordWriters s) (wordWriters r.2) then rcBadParam else r.1

/-- A target set passes R396 and R397. -/
def requestOk (s : State) (set : List Nat) : Bool := requestCheck s set == rcOk

/-! ### The transition (R398, R399) -/

def updOvl (f : Overlays → Overlays) (s : State) : State := { s with ovl := f s.ovl }

/-- A unit whose boundary has come changes; its PEND bit clears with the last of its kind. On a primary the change is carried. -/
def unitChange (u : OvlUnit) (s : State) : State :=
  pairSend (.change 0 0xF002 (toBe 1 u.kind ++ toBe 4 u.key))
    (updOvl (fun o => { o with units := o.units.filter (fun v => v.kind != u.kind || v.key != u.key) }) (constsChanged u (unitApply u s)))

/-- What any instant may change unless something is under way: a module between two sets, a TRDP entry between two telegrams. The bus of a
controller waits for its idle, PTP for its next message. -/
def unitReady (s : State) (u : OvlUnit) : Bool :=
  u.kind == 2 && (if u.key < 1024 then (getRio s u.key).part.isNone else u.key < 4000)

/-- A transition begins (R399): EPOCH, PEND, the target set in the Silo, source 112, CFG, 0x0F01; what changes at B changes. A
primary carries B ahead of the changes (R404). -/
def beginOvl (set : List Nat) (level : Nat) (s : State) : State :=
  let us := unitsFor s set (composed s set)
  let s := pairSend (.change 0 0xF001 (toBe 4 (setVal set) ++ toBe 1 level)) s
  let s := updOvl (fun o => { o with epoch := (o.epoch + 1) % 65536, units := us, active := true, bAt := s.clk, set, level }) s
  let s := { s with silo := { s.silo with ovlTarget := setVal set } }
  let s := gln 0x0F01 level 0 s.ovl.epoch (setVal set) (latchAll bitCFG (fire 112 s))
  if serving s then
    (us.filter (fun u => u.kind == 3 || u.kind == 6 || u.kind == 9 || unitReady s u)).foldl (fun s u => unitChange u s) s
  else s

/-- The transition is complete: DONE, source 113, CFG, 0x0F02; the queued request begins, or is dropped where it no longer
passes (R398). -/
def endOvl : Nat → State → State
  | 0, s => s
  | n + 1, s =>
    if !s.ovl.active || s.ovl.units != [] then s
    else
      let lv := s.ovl.level
      let ql := s.ovl.queuedLevel
      let dur := (s.clk - s.ovl.bAt) / 1000
      let q := s.ovl.queued
      let s := updOvl (fun o => { o with done := o.epoch, active := false, queued := none }) s
      let s := gln 0x0F02 lv 0 s.ovl.epoch dur (latchAll bitCFG (fire 113 s))
      match q with
      | none => s
      | some q =>
        if !serving s then s
        else
          let rc := requestCheck s q
          if rc = rcOk then endOvl n (beginOvl q ql s) else gln 0x0F05 ql 0 (setVal q) rc s

/-- Pending units that satisfy q change at a boundary of their own; a unit that does not serve waits for the primary. -/
def boundary (q : OvlUnit → Bool) (s : State) : State :=
  if s.ovl.units = [] || !serving s then s
  else endOvl 2 ((s.ovl.units.filter q).foldl (fun s u => unitChange u s) s)

/-- An event that is a unit's own boundary: where it falls due, by the configuration in force or by the new one, the units
change first. -/
def atBoundary (q : OvlUnit → Bool) (due : State → Bool) (f : State → State) (s : State) : State :=
  let t := boundary q s
  if due t then f t else if due s then t else s

/-- Units that any instant may change, once nothing is under way with them. -/
def boundaryTick (s : State) : State := if s.ovl.units = [] then s else boundary (unitReady s) s

/-- A request is queued with the origin level it came with (R412); a primary carries it. -/
def queueOvl (set : List Nat) (level : Nat) (s : State) : State :=
  pairSend (.change 0 0xF003 (toBe 4 (setVal set) ++ toBe 1 level)) (updOvl (fun o => { o with queued := some set, queuedLevel := level }) s)

/-- The supply system of a set: the CODE of its layer-1 overlay (09 R243). -/
def setSystem (s : State) (l : List Nat) : Nat := let i := l.getD 0 0xFE; if i < 64 then (ovlDesc s i).code else 0

/-- A request that has passed its checks acts by the transition state (R398): its disposition, and the state after. -/
def requestOvl (set : List Nat) (level ch : Nat) (s : State) : Nat × State :=
  if !s.ovl.active then
    if set = s.ovl.set then (3, s) else (0, endOvl 2 (beginOvl set level s))
  else match s.ovl.queued with
    | none =>
      if set = s.ovl.set then (3, s)
      else (1, gln 0x0F03 level 0 (setVal set) ch (fire 114 (queueOvl set level s)))
    | some q => (2, gln 0x0F04 level 0 (setVal q) (setVal set) (fire 115 (queueOvl set level s)))

end Sys2Proof.Machine
end

