-- ==== Sys2Proof/Machine/Boundary.lean ====
section
/-! DEFINITION. The events that are boundaries of an overlay transition (16 Table 16-3): what waits for the event changes first,
and then the event acts (07 R189, 08 R211, R216, 09 R237 to R246, 10 R252, 12 R308, 04 R121). -/

namespace Sys2Proof.Machine

/-! ### Time bases, field I/O, CAN -/

/-- Crossings of LINEPOS are judged against the value before the tick, and a multiple left by INTERVAL/4 can release again
(05 R129). -/
def tickTasks (s : State) : State :=
  { s with task := { s.task with ent := s.task.ent.map (fun e => (e.1, { e.2 with posSeen := s.tb.pos })) } }

def clearHolds (s : State) : State :=
  { s with task := { s.task with ent := s.task.ent.map (fun e => (e.1, { e.2 with posHold := match e.2.posHold with
      | some m => let i : Int := (fld e.2.par 25 0 : Nat)
                  if i ≤ 4 * (s.tb.pos - m * i).natAbs then none else some m
      | none => none })) } }

/-- POSITION_TICK (07 R189): kind 0 changes, then LINEPOS moves; no effect off the grid. -/
def execPositionTick (s : State) : Host.Outcome State Fault Refusal :=
  if !tickHere s then .next s
  else .next (clearHolds (positionTick (tickTasks (boundary (fun u => u.kind == 0) s))))

/-- FIO_OUTPUT_FRAME of die d (10 R252): kind 1 of the die changes with its frame. -/
def execFioOutputFrame (die : Fin 4) (s : State) : Host.Outcome State Fault Refusal :=
  .next (if fioRuns s then fioFrame die.val (boundary (fun u => u.kind == 1 && u.key == die.val) s) else s)

/-- CAN_CONFIG_APPLY: the next bus idle with new settings waiting (12 R308). -/
def execCanConfigApply (n : Fin 4) (s : State) : Host.Outcome State Fault Refusal :=
  .next (canApply n.val (boundary (fun u => u.kind == 2 && u.key == 4000 + n.val) s))

/-- PTP changes between two messages: before the one that is received, or sent at a timer. -/
def ptpUnit (u : OvlUnit) : Bool := u.kind == 2 && u.key == 5000

/-- PTP_MESSAGE (13 R336). -/
def execPtpMessage (r : PtpRx) (s : State) : Host.Outcome State Fault Refusal :=
  .next (atBoundary ptpUnit (fun s => ptpOn s && macLive (getMac s (ptpMac s))) (ptpIn r) s)

/-- PTP_PORT_TIMER (13 R336): a message that is sent is a boundary too. -/
def execPtpPortTimer (k : PtpTimer) (s : State) : Host.Outcome State Fault Refusal :=
  .next (if k = .announceTimeout then (if ptpTimerDue k s then ptpTimer k s else s) else atBoundary ptpUnit (ptpTimerDue k) (ptpTimer k) s)

/-- ETH_FRAME_RECEIVED (13 R327 to R330). -/
def execEthFrameReceived (mac : Fin 3) (f : EthFrame) (s : State) : Host.Outcome State Fault Refusal :=
  let due := fun (s : State) => macOn (getMac s mac.val) && (getMac s mac.val).up
  .next (match f.body with
    | .ptp _ _ => atBoundary ptpUnit due (ethIn mac.val f) s
    | _ => if due s then ethIn mac.val f s else s)

/-! ### Control engine -/

/-- Unit of a loop of the pass that loop n leads. -/
def passUnit (s : State) (n : Nat) (u : OvlUnit) : Bool := u.kind == 4 && (u.key == n || (ceMembers s n).contains u.key)

/-- A sample of loop n is triggered or started and not complete. -/
def ceBusy (s : State) (n : Nat) : Bool := s.ce.jobs.any (fun j => j.loop == n)

/-- A trigger of loop n: with an earlier sample under way it is skipped, and the loop does not change yet. -/
def ceBoundary (n : Nat) (due : State → Bool) (f : State → State) (s : State) : State :=
  if ceBusy s n then (if due s then f s else s) else atBoundary (passUnit s n) due f s

/-- A sample was triggered or started at or after B. -/
def afterB (s : State) (j : CeJob) : Bool := umod 48 ((j.at_ : Int) - (s.ovl.bAt + s.pair.ofs)) < 2 ^ 47

/-- CE_SAMPLE_COMPLETE: the engine computes the oldest sample of the loop; the first one started after B behind earlier ones
finds the loop changed. It ends only when the engine's order lets it (08 R216). RATE and SUPANG samples are computed only at a unit that
serves, and a unit in START, SYNCING or DETACHED computes no loop at all (15 R373, R380). -/
def execCeSampleComplete (loop : Fin 512) (s : State) : Host.Outcome State Fault Refusal :=
  match s.ce.jobs.find? (fun j => j.loop == loop.val) with
  | none => .next s
  | some j => .next (if ceTurn s j && (serving s || (j.task.isSome && (s.pair.rstate == 5 || s.pair.rstate == 7))) then ceComplete j (if afterB s j then boundary (passUnit s loop.val) s else s) else s)

/-- CE.START by task k, with the loop's change before it where no earlier sample is outstanding. -/
def ceStartB (o : Kv) (k : Nat) (e : Ex) (s : State) : KvRes :=
  let n := (rW e o.s).toNat
  match ceStartKv o k e s with
  | .trap c p => .trap c p
  | r => if ceBusy s n || !s.ovl.units.any (passUnit s n) then r else ceStartKv o k e (boundary (passUnit s n) s)

/-- CE.START (R121). -/
def execCeStart (o : Kv) (s : State) : Host.Outcome State Fault Refusal := kvRun .ceStart ceStartB o s

/-! ### Services -/

/-- A service unit of type t (its key div 65,536) and number n. -/
def svcUnit (t n : Nat) (u : OvlUnit) : Bool := u.kind == 7 && u.key == t * 65536 + n

/-- A service unit of type t. -/
def svcUnits (t : Nat) (u : OvlUnit) : Bool := u.kind == 7 && u.key / 65536 == t

/-- Tenants that a numbered object belongs to, as it stands and as a unit that waits brings it. -/
def objTenants (s : State) (t n : Nat) (now : Option Word) : List Nat :=
  (now.map (fun c => fld c 47 43)).toList ++ (s.ovl.units.filter (svcUnit t n)).flatMap (fun u => u.items.map (·.tenant))

/-- WPG_EVALUATE of programme w, its tenant's calendars changing with it (09 R237). -/
def execWpgEvaluate (w : Fin 512) (s : State) : Host.Outcome State Fault Refusal :=
  let ts := objTenants s 2 w.val ((tget none s.svc.wpg w.val).map (·.cfg))
  svcEvent (fun s => wpgEval w.val (boundary (fun u => svcUnit 2 w.val u || ts.any (fun t => svcUnit 1 (2 * t) u || svcUnit 1 (2 * t + 1) u)) s)) s

/-- ALARM_EVALUATE: every alarm, each 100 ms (09 R238). -/
def execAlarmEvaluate (s : State) : Host.Outcome State Fault Refusal :=
  svcEvent (fun s => almEvalAll (boundary (svcUnits 3) s)) s

/-- TREND_SAMPLE at a periodic instant of the channel (09 R241). -/
def execTrendSample (c : Fin 4096) (s : State) : Host.Outcome State Fault Refusal :=
  svcEvent (atBoundary (svcUnit 4 c.val) (trdDue c.val) (trdSample c.val)) s

/-- TREND_CHANGE_CHECK (09 R241). -/
def execTrendChangeCheck (c : Fin 4096) (s : State) : Host.Outcome State Fault Refusal :=
  svcEvent (atBoundary (svcUnit 4 c.val) (trdOnChange c.val) (trdCheck c.val)) s

/-- METER_SAMPLE: the 100 ms step of every meter, under the system of the set in force (09 R242, R243). -/
def execMeterSample (s : State) : Host.Outcome State Fault Refusal :=
  svcEvent (fun s =>
    enSample (setSystem s s.ovl.set) (boundary (fun u => u.kind == 8 || svcUnits 5 u || svcUnits 8 u) s)) s

/-- ENERGY_INTERVAL_CLOSE (09 R244). -/
def execEnergyIntervalClose (m : Fin 64) (s : State) : Host.Outcome State Fault Refusal :=
  svcEvent (atBoundary (svcUnit 5 m.val) (enDue m.val) (enTurn m.val 0 0)) s

/-- ACCESS_DECISION on a new presentation, under the access list of the point's tenant (09 R246). -/
def execAccessDecision (p : Fin 256) (s : State) : Host.Outcome State Fault Refusal :=
  let ts := objTenants s 6 p.val ((tget none s.svc.acc p.val).map (·.cfg))
  svcEvent (fun s => accDecide p.val (boundary (fun u => svcUnit 6 p.val u || ts.any (fun t => svcUnit 7 t u)) s)) s

end Sys2Proof.Machine
end

