-- ==== Sys2Proof/Machine/OvlRows.lean ====
section
/-! DEFINITION. Overlays, the program store and the banks as commands and events reach them (16 R397 to R412). -/

namespace Sys2Proof.Machine

/-! ### Overlays (R395 to R403) -/

/-- Overlay i belongs to the set in force or to the queued one. -/
def ovlBusy (s : State) (i : Nat) : Bool :=
  s.ovl.set.contains i || (match s.ovl.queued with | some q => q.contains i | none => false)

def mbOvlCreate (t _ch : Nat) (p : Bytes) (s : State) : MbR := do
  perm (t == 0)
  lenIs p 4
  let i := u8 p 0
  stSel (1 ≤ u8 p 1 && u8 p 1 ≤ 4 && u8 p 3 ≤ 1) s (64 ≤ i || (ovlDesc s i).layer == 0)
  par (i < 64 && 1 ≤ u8 p 1 && u8 p 1 ≤ 4 && u8 p 2 ≤ 15 && u8 p 3 ≤ 1)
  let d : OvlDesc := { layer := u8 p 1, code := u8 p 2, chain := u8 p 3 == 1 }
  done { s with flash := { s.flash with ovl := tput {} i d s.flash.ovl } }

/-- MB_OVL_DELETE: the stored copy's block is erased, under a journal entry (R408). -/
def mbOvlDelete (t _ch : Nat) (p : Bytes) (s : State) : MbR := do
  perm (t == 0)
  lenIs p 1
  let i := u8 p 0
  stChg s (64 ≤ i || !ovlBusy s i)
  par (i < 64)
  let s' := { s with flash := { s.flash with ovl := tput {} i {} s.flash.ovl } }
  match regionCopy s 4 i with
  | none => done (hashChange s')
  | some c =>
    need (blockFits s (438 + i)) rcNoResource
    done (hashChange (writeBlock (438 + i) 4 i c.gen none s'))

/-- The set a request names: overlays of their layers, none, or what the latest transition begun left (Table 16-9). -/
def targetSet (s : State) (p : Bytes) : Option (List Nat) :=
  let l := (List.range 4).map (fun k => let b := u8 p k; if b = 0xFF then s.ovl.set.getD k 0xFE else b)
  let ok := (l.zip (List.range 4)).all (fun e => e.1 == 0xFE || (e.1 < 64 && (e.1 == s.ovl.set.getD e.2 0xFE ||
    (ovlValid s e.1 && (ovlDesc s e.1).layer == e.2 + 1))))
  if ok then some l else none

/-- Layers a set changes, and whether from or to a chain-wide overlay. -/
def layerChanges (s : State) (l : List Nat) : List Bool :=
  (List.range 4).filterMap (fun k =>
    let a := s.ovl.set.getD k 0xFE
    let b := l.getD k 0xFE
    if a = b then none else some ((a < 64 && (ovlDesc s a).chain) || (b < 64 && (ovlDesc s b).chain)))

/-- A chain change of kind 3 as it travels: for each layer the overlay, 0xFE or 0xFF, with LAYER, CODE and content CRC. -/
def chainSwitch (s : State) (l : List Nat) : Bytes :=
  (List.range 4).flatMap (fun k =>
    let b := l.getD k 0xFE
    if b = s.ovl.set.getD k 0xFE then toBe 6 0xFF0000000000
    else toBe 1 b ++ (if b < 64 then toBe 1 ((ovlDesc s b).layer * 16 + (ovlDesc s b).code) ++ toBe 4 (ovlCrc s b) else toBe 5 0))

/-- The disposition a request would get now (R398). -/
def ovlDisposition (s : State) : Nat :=
  if !s.ovl.active then 0 else if s.ovl.queued.isNone then 1 else 2

def mbOvlRequest (t ch : Nat) (p : Bytes) (s : State) : MbR := do
  perm (t == 0)
  lenIs p 4
  stChg s true
  match targetSet s p with
  | none => .error rcBadParam
  | some l =>
    let ks := layerChanges s l
    par (!(ks.contains true && ks.contains false))
    need (requestOk s l) (requestCheck s l)
    if s.ovl.set == l && s.ovl.queued.isNone then reply (toBe 1 3 ++ toBe 2 s.ovl.epoch) s
    else if ks.contains true && passOn s then
      chainOpen s
      reply (toBe 1 (ovlDisposition s) ++ toBe 2 s.ovl.epoch) (chainSubmit ⟨3, 0x0503, t, chainSwitch s l, 0⟩ s)
    else
      let r := requestOvl l 3 ch s
      reply (toBe 1 r.1 ++ toBe 2 r.2.ovl.epoch) r.2

/-- A controller leaves the bus as at entry to bus-off: what it sends ends as BUS_OFF, what waits is cancelled. -/
def canQuit (n : Nat) (s : State) : State :=
  let c := getCan s n
  let bs := c.buf.filterMap (fun e => if e.2.state = 2 then some e.1 else none)
  let s := updCan n (fun c => canCancelWhere (fun v => v.state == 1) (bs.foldl (fun c b => canFinish b 6 c) c)) s
  if c.bstate = 1 ∨ c.bstate = 2 then
    updCan n (fun c => { c with bstate := 4, byCmd := false }) (gln 0x0B02 3 0 n bs.length (fire (68 + 4 * n + 2) s))
  else s

/-- It takes new settings that wait; its bus is joined after 11 recessive bits. -/
def canRetake (n : Nat) (s : State) : State :=
  match (getCan s n).next with
  | none => s
  | some (ctl, nbt, dbt) =>
    gln 0x0B09 3 0 n ctl.toNat (updCan n (fun c => { c with
      ctl, nbt, dbt, next := none, standby := !bit ctl 47, byCmd := false, bstate := if !bit ctl 47 then 0 else 4 }) s)

/-- A unit changes at B + 2 s: a controller whose bus has shown no idle leaves it first (R400). -/
def lateUnit (s : State) (u : OvlUnit) : State :=
  if u.kind == 2 && 4000 ≤ u.key && u.key < 4004 then canRetake (u.key - 4000) (unitChange u (canQuit (u.key - 4000) s)) else unitChange u s

/-- OVERLAY_TRANSITION_TIMEOUT: what has not changed by B + 2 s changes now (R400). -/
def ovlTimeout (s : State) : State := endOvl 2 (s.ovl.units.foldl lateUnit s)

def execOverlayTransitionTimeout (s : State) : Host.Outcome State Fault Refusal :=
  .next (if s.ovl.active && serving s && decide (s.ovl.bAt + 2000000000 ≤ s.clk) then ovlTimeout s else s)

/-- The active overlays as a mask. -/
def activeMask (s : State) : Nat := ((setOvls s.ovl.set).map (fun i => 2 ^ i)).sum

def mbOvlStatus (_t _ch : Nat) (p : Bytes) (s : State) : MbR := do
  lenIs p 0
  reply (wB (ovlEpoch s true) ++ toBe 8 (activeMask s) ++ toBe 4 (match s.ovl.queued with | some q => setVal q | none => 0xFFFFFFFF) ++
    toBe 6 (umod 48 ((s.ovl.bAt : Int) + s.pair.ofs))) s

/-- OVL_DESC[i] (Table 16-2). -/
def ovlDescWord (s : State) (i : Nat) : Word :=
  let d := ovlDesc s i
  wd (d.layer * 2 ^ 45 + d.code * 2 ^ 41 + b2n d.chain * 2 ^ 40 + b2n (s.ovl.set.contains i) * 2 ^ 39 + (ovlItems s i).length % 2048 * 2 ^ 28)

def mbOvlList (t _ch : Nat) (p : Bytes) (s : State) : MbR := do
  lenIs p 2
  let (a, c) := (u8 p 0, u8 p 1)
  par (1 ≤ c && c ≤ 64 && a + c ≤ 64)
  reply ((span a c).flatMap (fun i =>
    wB (ovlDescWord s i) ++ toBe 4 (ovlCrc s i) ++ toBe 4 ((validContent s 4 i).getD []).length ++
      toBe 2 ((ovlItems s i).filter (·.tenant == t)).length)) s

/-! ### Staging (R407) -/

/-- A copy is in force: the running bank, the loaded program bank, the base configuration start-up took. -/
def copyInForce (s : State) (region index : Nat) : Bool :=
  match region with
  | 1 => s.flash.boot.fw == index
  | 2 => s.flash.boot.prog == index
  | 3 => s.ovl.baseAt == some index
  | _ => ovlBusy s index

/-- A unit that refuses changes still takes a program or firmware in the swap, and in DETACHED (05 R154, 15 R382, R389). -/
def loadAllowed (s : State) (r : Nat) : Bool :=
  !updating s && (!pairRefuses s || ((s.pair.rstate == 7 || s.pair.rstate == 6) && (r == 1 || r == 2)))

/-- A program image is loaded only in STOP, or at the standby in the swap (05 R154). -/
def programMay (s : State) (region : Nat) : Bool := region != 2 || devMode s == 1 || s.pair.rstate == 7

def mbStoreBegin (t ch : Nat) (p : Bytes) (s : State) : MbR := do
  let r := u8 p 0
  let i := u8 p 1
  perm (t == 0 || short p 1 || r == 4)
  lenIs p 10
  let listed := 1 ≤ r && r ≤ 4 && i < (if r = 4 then 64 else 2)
  stOk (!listed || (loadAllowed s r && s.ovl.staging.isNone && s.ovl.job.isNone && !copyInForce s r i && (r != 4 || (ovlDesc s i).layer != 0) &&
    programMay s r))
  par (listed && be p 2 4 ≤ (if r = 4 then blockBytes - 32 else (regionBlocks r i).2 * blockBytes))
  done { s with ovl := { s.ovl with staging := some ⟨r, i, be p 2 4, be p 6 4, [], t, ch, s.clk⟩ } }

/-- The staging is the sender's. -/
def stagingOf (t : Nat) (s : State) : Except Nat Staging :=
  match s.ovl.staging with
  | none => .error rcBadState
  | some g => if g.tenant = t then .ok g else .error rcNotPermitted

/-- Check 11 of a staging command: as for the BEGIN that opened it. -/
def stStaging (s : State) (g : Staging) : Except Nat Unit :=
  need (loadAllowed s g.region) rcBadState

def mbStoreData (t _ch : Nat) (p : Bytes) (s : State) : MbR := do
  perm (match s.ovl.staging with | some g => g.tenant == t | none => true)
  need (5 ≤ p.length && p.length ≤ 4004) rcBadLength
  let g ← stagingOf t s
  stStaging s g
  stOk (programMay s g.region)
  let o := be p 0 4
  let d := p.drop 4
  par (o + d.length ≤ g.length)
  let data := (d.zip (List.range d.length)).foldl (fun tab e => tput none (o + e.2) (some e.1) tab) g.data
  done { s with ovl := { s.ovl with staging := some { g with data, lastAt := s.clk } } }

/-- The staged bytes, where every one has been filled. -/
def stagedBytes (g : Staging) : Option Bytes :=
  (List.range g.length).foldr (fun k a => a.bind (fun l => (tget none g.data k).map (· :: l))) (some [])

/-- The content that a complete staging stores; none where R407, R413 or R414 refuse it. An overlay keeps the other tenants'
sections. -/
def stagedContent (s : State) (g : Staging) : Option Bytes :=
  (stagedBytes g).bind (fun c =>
    if crc32 c != g.crc then none
    else match g.region with
      | 1 => if Config.signatureOk c then some c else none
      | 4 =>
        let x : Sect := ⟨1, g.tenant, c⟩
        let old := (contentOf 4 ((validContent s 4 g.index).getD [])).getD []
        let xs := sortBy (fun a b => decide (a.tenant ≤ b.tenant)) (x :: old.filter (·.tenant != g.tenant))
        let b := ovlContent (ovlDesc s g.index) xs
        if (sectItems x).isSome && b.length ≤ blockBytes && (xs.flatMap (fun y => (sectItems y).getD [])).length ≤ 1024 then some b else none
      | r => (contentOf r c).map (fun _ => c))

/-- Generation of the next write of a region: one above its copies'. -/
def nextGen (s : State) (region index : Nat) : Nat :=
  let g := fun (i : Nat) => match regionCopy s region i with | some c => c.gen | none => 0
  (if region = 4 then g index else Nat.max (g 0) (g 1)) + 1

/-- MB_STORE_END: the staging's content goes to its region copy, block by block (R407, R408). -/
def mbStoreEnd (t ch : Nat) (p : Bytes) (s : State) : MbR := do
  perm (match s.ovl.staging with | some g => g.tenant == t | none => true)
  lenIs p 0
  let g ← stagingOf t s
  stStaging s g
  stOk (!copyInForce s g.region g.index && programMay s g.region)
  match stagedContent s g with
  | none => .error rcBadParam
  | some c =>
    let gen := nextGen s g.region g.index
    let blocks := span (regionBlocks g.region g.index).1 (blocksFor c.length)
    let job : FlashJob := { region := g.region, index := g.index, gen, content := c, left := blocks, ch }
    defer (journalPut (blocks.headD 0) g.region g.index gen false { s with ovl := { s.ovl with staging := none, job := some job } })

/-- The job is over: the channel's answer, and no job. -/
def endJob (rc : Nat) (b : Bytes) (j : FlashJob) (s : State) : State :=
  setResult j.ch rc b { s with ovl := { s.ovl with job := none } }

/-- A region copy is written whole (R408). -/
def finishJob (j : FlashJob) (s : State) : State := endJob rcOk (toBe 4 j.gen) j (hashChange (copyDone j.region j.index j.gen s))

/-- A block of the job with its header. -/
def jobBlock (j : FlashJob) (b : Nat) : Block := copyBlock j.region j.index (b - (regionBlocks j.region j.index).1) j.gen j.content

/-- FLASH_BLOCK_DONE: one block of the job has been erased, checked blank, given its header, programmed and compared (R408). -/
def flashBlock (eraseOk verifyOk : Bool) (j : FlashJob) (s : State) : State :=
  match j.left with
  | [] => s
  | b :: rest =>
    let s := eraseBlock b s
    let worn := decide (100000 ≤ tget 0 s.flash.erases (physBlock s b))
    if eraseOk && verifyOk && !worn then
      let s := journalPut b j.region j.index j.gen true (putBlock b (jobBlock j b) s)
      match rest with
      | [] => finishJob j s
      | c :: _ => journalPut c j.region j.index j.gen false { s with ovl := { s.ovl with job := some { j with left := rest } } }
    else if 10 ≤ s.flash.sparesUsed then endJob rcNoResource [] j s
    else journalPut b j.region j.index j.gen false (retireBlock b (if !eraseOk then 0 else if !verifyOk then 1 else 2) s)

/-- FLASH_BLOCK_DONE. With no region copy being written, a failure reported is that of the next single block (log 125). -/
def execFlashBlockDone (eraseOk verifyOk : Bool) (s : State) : Host.Outcome State Fault Refusal :=
  .next (match s.ovl.job with
    | some j => flashBlock eraseOk verifyOk j s
    | none => if eraseOk && verifyOk then s else { s with flash := { s.flash with fault := some (b2n eraseOk) } })

/-- STAGING_TIMEOUT (R407). -/
def execStagingTimeout (s : State) : Host.Outcome State Fault Refusal :=
  .next (match s.ovl.staging with
    | some g => if g.lastAt + 60000000000 ≤ s.clk then { s with ovl := { s.ovl with staging := none } } else s
    | none => s)

/-! ### Banks (R410) -/

/-- The boot record as it is stored: generation, banks, TRIAL and CRC-32; the layout is the model's (log 41). -/
def bootBytes (b : BootRec) : Bytes :=
  let x := toBe 4 b.gen ++ toBe 1 b.fw ++ toBe 1 b.prog ++ bB b.trial ++ toBe 5 0
  x ++ toBe 4 (crc32 x)

/-- Generation of the next boot record, and the room for it (R405, R410). -/
def bootGen (s : State) : Nat := (s.flash.boot.gen + 1) % 2 ^ 32
def bootFits (s : State) : Bool := blockFits s (smallBlock 0 (bootGen s))

/-- A boot record is written with the next generation, to blocks 0 and 1 in turn, and is in force. -/
def putBoot (fw prog : Nat) (trial : Bool) (s : State) : State :=
  let b : BootRec := { gen := bootGen s, fw, prog, trial }
  smallStore 0 b.gen (bootBytes b) { s with flash := { s.flash with boot := b } }

/-- The boot record of block 0 or 1, where it is valid. -/
def bootRead (s : State) (i : Nat) : Option BootRec :=
  (validContent s 0 i).bind (fun c =>
    if c.length = 16 ∧ be c 12 4 = crc32 (c.take 12) then some ⟨be c 0 4, u8 c 4, u8 c 5, u8 c 6 == 1⟩ else none)

/-- The program image of a bank, with the result code of its checks. -/
def bankProg (s : State) (bank : Nat) : Except Nat Prog :=
  match (validContent s 2 bank).bind (progOf s) with
  | none => .error rcBadParam
  | some q => if progCheck s q = rcOk then .ok q else .error (progCheck s q)

def mbBankActivate (t _ch : Nat) (p : Bytes) (s : State) : MbR := do
  perm (t == 0)
  lenIs p 1
  let r := u8 p 0
  let b := s.flash.boot
  let listed := r == 1 || r == 2
  stOk (!listed || (loadAllowed s r && (s.pair.rstate == 0 || s.pair.rstate == 6) && (r != 2 || devMode s == 1) && s.ovl.job.isNone))
  par listed
  if r = 1 then
    need (bootFits s) rcNoResource
    let s := putBoot (1 - b.fw) b.prog true { s with flash := { s.flash with prevFw := b.fw, trialStarts := 0 } }
    done { s with ovl := { s.ovl with update := true } }
  else
    let q ← bankProg s (1 - b.prog)
    need (bootFits s) rcNoResource
    let s := activateProg q (putBoot b.fw (1 - b.prog) b.trial s)
    done (gln 0x0F14 3 0 2 s.flash.boot.gen { s with ovl := { s.ovl with update := true } })

/-- BANK_ACTIVATION_RESET: 100 ms after the answer. -/
def execBankActivationReset (s : State) : Host.Outcome State Fault Refusal :=
  .next (match s.ovl.resetAt with
    | some t => if t ≤ s.clk then selfFault 9 0 s else s
    | none => s)

def mbBankConfirm (t _ch : Nat) (p : Bytes) (s : State) : MbR := do
  perm (t == 0)
  lenIs p 0
  stOwn s s.flash.boot.trial
  need (bootFits s) rcNoResource
  done (putBoot s.flash.boot.fw s.flash.boot.prog false s)

/-- MB_FLASH_STAT: the region copies in the order of Table 16-6. -/
def mbFlashStat (t _ch : Nat) (p : Bytes) (s : State) : MbR := do
  perm (t == 0)
  lenIs p 0
  let copies := fun (region n : Nat) => (List.range n).flatMap (fun i => match regionCopy s region i with
    | some c => bB c.valid ++ toBe 4 c.gen ++ toBe 4 c.content.length
    | none => toBe 9 0)
  let most := (s.flash.erases.map (·.2)).foldl Nat.max 0
  reply (bootBytes s.flash.boot ++ copies 0 2 ++ copies 5 2 ++ copies 6 2 ++ copies 1 2 ++ copies 2 2 ++ copies 3 2 ++ copies 4 64 ++
    toBe 1 (10 - s.flash.sparesUsed) ++ toBe 4 most) s

def execMbOvlCreate (ch : Fin 16) (p : Bytes) (s : State) : Host.Outcome State Fault Refusal := runMb ch 0x0501 mbOvlCreate p s
def execMbOvlDelete (ch : Fin 16) (p : Bytes) (s : State) : Host.Outcome State Fault Refusal := runMb ch 0x0502 mbOvlDelete p s
def execMbOvlRequest (ch : Fin 16) (p : Bytes) (s : State) : Host.Outcome State Fault Refusal := runMb ch 0x0503 mbOvlRequest p s
def execMbOvlStatus (ch : Fin 16) (p : Bytes) (s : State) : Host.Outcome State Fault Refusal := runMb ch 0x0504 mbOvlStatus p s
def execMbOvlList (ch : Fin 16) (p : Bytes) (s : State) : Host.Outcome State Fault Refusal := runMb ch 0x0505 mbOvlList p s
def execMbStoreBegin (ch : Fin 16) (p : Bytes) (s : State) : Host.Outcome State Fault Refusal := runMb ch 0x0E01 mbStoreBegin p s
def execMbStoreData (ch : Fin 16) (p : Bytes) (s : State) : Host.Outcome State Fault Refusal := runMb ch 0x0E02 mbStoreData p s
def execMbStoreEnd (ch : Fin 16) (p : Bytes) (s : State) : Host.Outcome State Fault Refusal := runMb ch 0x0E03 mbStoreEnd p s
def execMbBankActivate (ch : Fin 16) (p : Bytes) (s : State) : Host.Outcome State Fault Refusal := runMb ch 0x0E04 mbBankActivate p s
def execMbBankConfirm (ch : Fin 16) (p : Bytes) (s : State) : Host.Outcome State Fault Refusal := runMb ch 0x0E05 mbBankConfirm p s
def execMbFlashStat (ch : Fin 16) (p : Bytes) (s : State) : Host.Outcome State Fault Refusal := runMb ch 0x0E06 mbFlashStat p s

end Sys2Proof.Machine
end

