-- ==== Sys2Proof/Machine/ChainRows.lean ====
section
/-! DEFINITION. Chain changes as every member applies them (14 R362, R363, 16 R403). -/

namespace Sys2Proof.Machine

/-- The set that a chain-wide switch names at this member: a layer whose overlay it does not hold alike stays (R403). -/
def switchSet (s : State) (p : Bytes) : List Nat :=
  (List.range 4).map (fun k =>
    let old := s.ovl.set.getD k 0xFE
    let i := u8 p (6 * k)
    let d := ovlDesc s i
    if i = 0xFF then old
    else if 64 ≤ i then 0xFE
    else if ovlValid s i && d.layer * 16 + d.code == u8 p (6 * k + 1) && ovlCrc s i == be p (6 * k + 2) 4 then i
    else old)

/-- Layers of a switch that this member does not switch. -/
def switchMissed (s : State) (p : Bytes) : List Nat :=
  (List.range 4).filterMap (fun k =>
    let i := u8 p (6 * k)
    let d := ovlDesc s i
    if i < 64 && !(ovlValid s i && d.layer * 16 + d.code == u8 p (6 * k + 1) && ovlCrc s i == be p (6 * k + 2) 4) then some i else none)

/-- A chain-wide switch begins or is queued as of now; a unit that does not serve follows its primary (R403, R404). -/
def switchApply (c : ChainChange) (s : State) : Option State :=
  if !serving s then some s
  else
    let s := (switchMissed s c.payload).foldl (fun s i => gln 0x0F06 5 0 i c.cycle s) s
    let l := switchSet s c.payload
    if requestOk s l then some (requestOvl l 5 0 s).2 else none

/-- One change takes effect; none where its checks no longer hold. -/
def changeEffect (c : ChainChange) (s : State) : Option State :=
  match c.kind with
  | 0 => plotChange c.cmd c.tenant c.payload s
  | 1 =>
    let w := passRequest c.payload
    some { s with pass := { s.pass with cfg := setFld (setFld s.pass.cfg 34 28 (fld w 34 28)) 27 24 (fld w 27 24) } }
  | 2 => some { s with pass := { s.pass with ecycle := u8 c.payload 0 } }
  | _ => switchApply c s

/-- One announced change whose cycle has begun: applied or dropped, with 0x0D0D, 0x0D0B where late, the master's budget for it (R362),
and its answer. -/
def applyChange (c : ChainChange) (s : State) : State :=
  let late := s.pass.late.contains c || s.pass.cycle != c.cycle
  let s := { s with pass := { s.pass with announced := s.pass.announced.filter (· != c), late := s.pass.late.filter (· != c), applied := (c :: s.pass.applied).take 8 } }
  match changeEffect c s with
  | none => answerChange c rcBadState s
  | some t =>
    let t := if late then passGln 0x0D0B 5 c.kind c.cycle t else t
    let t := passGln 0x0D0D 5 (c.kind * 65536 + changeObject c) c.cycle t
    answerChange c rcOk (budgetSet t)

/-- CHAIN_CHANGE_APPLY (R363): at the start of a cycle, in the order of announcement. -/
def execChainChangeApply (s : State) : Host.Outcome State Fault Refusal :=
  .next (if passIn s && s.pass.gridOn then
    (s.pass.announced.filter (fun c => numReached s.pass.cycle c.cycle)).foldl (fun s c => applyChange c s) s else s)

end Sys2Proof.Machine
end

