-- ==== Sys2Proof/Machine/KvAlu.lean ====
section
/-! DEFINITION. Arithmetic, shifts and constants of the KV48 (04 Tables 4-2 and 4-3, R108 to R110). -/

namespace Sys2Proof.Machine

/-- ADD (R108). -/
def execAdd (o : Kv) (s : State) : Host.Outcome State Fault Refusal :=
  kvRun .add (pureKv fun o e => wW o.d (rW e o.s + rW e o.t) e) o s

/-- SUB (R108). -/
def execSub (o : Kv) (s : State) : Host.Outcome State Fault Refusal :=
  kvRun .sub (pureKv fun o e => wW o.d (rW e o.s - rW e o.t) e) o s

/-- ADDS (R108). -/
def execAdds (o : Kv) (s : State) : Host.Outcome State Fault Refusal :=
  kvRun .adds (pureKv fun o e => wSat o.d (sat48 ((rW e o.s).toInt + (rW e o.t).toInt)) e) o s

/-- ADDSU (R108). -/
def execAddsu (o : Kv) (s : State) : Host.Outcome State Fault Refusal :=
  kvRun .addsu (pureKv fun o e => wSat o.d (usat48 ((rW e o.s).toNat + (rW e o.t).toNat : Nat)) e) o s

/-- SUBS (R108). -/
def execSubs (o : Kv) (s : State) : Host.Outcome State Fault Refusal :=
  kvRun .subs (pureKv fun o e => wSat o.d (sat48 ((rW e o.s).toInt - (rW e o.t).toInt)) e) o s

/-- SUBSU (R108). -/
def execSubsu (o : Kv) (s : State) : Host.Outcome State Fault Refusal :=
  kvRun .subsu (pureKv fun o e => wSat o.d (usat48 (((rW e o.s).toNat : Int) - (rW e o.t).toNat)) e) o s

/-- MUL (R108). -/
def execMul (o : Kv) (s : State) : Host.Outcome State Fault Refusal :=
  kvRun .mul (pureKv fun o e => wW o.d (rW e o.s * rW e o.t) e) o s

/-- MULS (R108). -/
def execMuls (o : Kv) (s : State) : Host.Outcome State Fault Refusal :=
  kvRun .muls (pureKv fun o e => wSat o.d (sat48 ((rW e o.s).toInt * (rW e o.t).toInt)) e) o s

/-- MULQ (R108). -/
def execMulq (o : Kv) (s : State) : Host.Outcome State Fault Refusal :=
  kvRun .mulq (pureKv fun o e => wSat o.d (sat48 (mulqExact (rW e o.s) (rW e o.t))) e) o s

/-- MULH (R108). -/
def execMulh (o : Kv) (s : State) : Host.Outcome State Fault Refusal :=
  kvRun .mulh (pureKv fun o e => wW o.d (mulHigh (rW e o.s) (rW e o.t)) e) o s

/-- NEGS (R108). -/
def execNegs (o : Kv) (s : State) : Host.Outcome State Fault Refusal :=
  kvRun .negs (pureKv fun o e => wSat o.d (sat48 (-(rW e o.s).toInt)) e) o s

/-- ABSS (R108). -/
def execAbss (o : Kv) (s : State) : Host.Outcome State Fault Refusal :=
  kvRun .abss (pureKv fun o e => wSat o.d (sat48 ((rW e o.s).toInt.natAbs : Nat)) e) o s

/-- MIN (R108). -/
def execMin (o : Kv) (s : State) : Host.Outcome State Fault Refusal :=
  kvRun .min (pureKv fun o e => wW o.d (if (rW e o.s).slt (rW e o.t) then rW e o.s else rW e o.t) e) o s

/-- MINU (R108). -/
def execMinu (o : Kv) (s : State) : Host.Outcome State Fault Refusal :=
  kvRun .minu (pureKv fun o e => wW o.d (if (rW e o.s).ult (rW e o.t) then rW e o.s else rW e o.t) e) o s

/-- MAX (R108). -/
def execMax (o : Kv) (s : State) : Host.Outcome State Fault Refusal :=
  kvRun .max (pureKv fun o e => wW o.d (if (rW e o.s).slt (rW e o.t) then rW e o.t else rW e o.s) e) o s

/-- MAXU (R108). -/
def execMaxu (o : Kv) (s : State) : Host.Outcome State Fault Refusal :=
  kvRun .maxu (pureKv fun o e => wW o.d (if (rW e o.s).ult (rW e o.t) then rW e o.t else rW e o.s) e) o s

/-- MOV (R108). -/
def execMov (o : Kv) (s : State) : Host.Outcome State Fault Refusal :=
  kvRun .mov (pureKv fun o e => wW o.d (rW e o.s) e) o s

/-- SHL (R109). -/
def execShl (o : Kv) (s : State) : Host.Outcome State Fault Refusal :=
  kvRun .shl (pureKv fun o e => wW o.d (shlW (rW e o.s) (laneReg o e)) e) o s

/-- SHR (R109). -/
def execShr (o : Kv) (s : State) : Host.Outcome State Fault Refusal :=
  kvRun .shr (pureKv fun o e => wW o.d (shrW (rW e o.s) (laneReg o e)) e) o s

/-- SAR (R109). -/
def execSar (o : Kv) (s : State) : Host.Outcome State Fault Refusal :=
  kvRun .sar (pureKv fun o e => wW o.d (sarW (rW e o.s) (laneReg o e)) e) o s

/-- ROL (R109). -/
def execRol (o : Kv) (s : State) : Host.Outcome State Fault Refusal :=
  kvRun .rol (pureKv fun o e => wW o.d (rolW (rW e o.s) (laneReg o e)) e) o s

/-- ADDI (R108). -/
def execAddi (o : Kv) (s : State) : Host.Outcome State Fault Refusal :=
  kvRun .addi (pureKv fun o e => wW o.d (rW e o.s + sx o) e) o s

/-- ADDSI (R108). -/
def execAddsi (o : Kv) (s : State) : Host.Outcome State Fault Refusal :=
  kvRun .addsi (pureKv fun o e => wSat o.d (sat48 ((rW e o.s).toInt + (sx o).toInt)) e) o s

/-- ANDI (R108). -/
def execAndi (o : Kv) (s : State) : Host.Outcome State Fault Refusal :=
  kvRun .andi (pureKv fun o e => wW o.d (rW e o.s &&& sx o) e) o s

/-- ORI (R108). -/
def execOri (o : Kv) (s : State) : Host.Outcome State Fault Refusal :=
  kvRun .ori (pureKv fun o e => wW o.d (rW e o.s ||| sx o) e) o s

/-- XORI (R108). -/
def execXori (o : Kv) (s : State) : Host.Outcome State Fault Refusal :=
  kvRun .xori (pureKv fun o e => wW o.d (rW e o.s ^^^ sx o) e) o s

/-- MOVI (R108). -/
def execMovi (o : Kv) (s : State) : Host.Outcome State Fault Refusal :=
  kvRun .movi (pureKv fun o e => wW o.d (sx o) e) o s

/-- SHLI (R109). -/
def execShli (o : Kv) (s : State) : Host.Outcome State Fault Refusal :=
  kvRun .shli (pureKv fun o e => wW o.d (shlW (rW e o.s) (laneImm o)) e) o s

/-- SHRI (R109). -/
def execShri (o : Kv) (s : State) : Host.Outcome State Fault Refusal :=
  kvRun .shri (pureKv fun o e => wW o.d (shrW (rW e o.s) (laneImm o)) e) o s

/-- SARI (R109). -/
def execSari (o : Kv) (s : State) : Host.Outcome State Fault Refusal :=
  kvRun .sari (pureKv fun o e => wW o.d (sarW (rW e o.s) (laneImm o)) e) o s

/-- ROLI (R109). -/
def execRoli (o : Kv) (s : State) : Host.Outcome State Fault Refusal :=
  kvRun .roli (pureKv fun o e => wW o.d (rolW (rW e o.s) (laneImm o)) e) o s

/-- LK0 (R110). -/
def execLk0 (o : Kv) (s : State) : Host.Outcome State Fault Refusal :=
  kvRun .lk0 (pureKv fun o e => wW o.d (zx o) e) o s

/-- LK1 (R110). -/
def execLk1 (o : Kv) (s : State) : Host.Outcome State Fault Refusal :=
  kvRun .lk1 (pureKv fun o e => wW o.d (setFld (rW e o.d) 27 14 o.imm.toNat) e) o s

/-- LK2 (R110). -/
def execLk2 (o : Kv) (s : State) : Host.Outcome State Fault Refusal :=
  kvRun .lk2 (pureKv fun o e => wW o.d (setFld (rW e o.d) 41 28 o.imm.toNat) e) o s

/-- LK3 (R110). -/
def execLk3 (o : Kv) (s : State) : Host.Outcome State Fault Refusal :=
  kvRun .lk3 (pureKv fun o e => wW o.d (setFld (rW e o.d) 47 42 (laneImm o)) e) o s

end Sys2Proof.Machine
end

