-- ==== Sys2Proof/Machine/KvControl.lean ====
section
/-! DEFINITION. Control and special-register instructions of the KV48 (03 R87 to R92, R97, R98; 04 R118, R119). -/

namespace Sys2Proof.Machine

/-- A control instruction at the LPE of an active loop traps (03 R90), before its target is looked at (the model's choice, log 121). -/
def ctl (e : Ex) (r : KvRes) : KvRes := if atLoopEnd e then .trap trLoopFault 0 else r

/-- A taken branch, call or return: the target lies in CSEG, or CODE_LIMIT carries it (03 R87). -/
def jump (tgt : Nat) (e' e : Ex) (s : State) : KvRes :=
  if fld (e.segd.getD 8 0#48) 22 0 ≤ tgt then .trap trCodeLimit tgt else .ok e' s (some tgt) 2

/-- The target of BR and CALL by M (04 Table 4-8). -/
def branchTarget (o : Kv) (e : Ex) : Nat :=
  if o.m = 0#2 then ((wd e.pc + sx o).toNat) % 2 ^ 22 else fld (rW e o.s) 21 0

/-- NOP (03 R76). -/
def execNop (o : Kv) (s : State) : Host.Outcome State Fault Refusal := kvRun .nop (pureKv fun _ e => e) o s

/-- BR (04 R118, 03 R92). -/
def execBr (o : Kv) (s : State) : Host.Outcome State Fault Refusal :=
  kvRun .br (fun o _ e s => ctl e (jump (branchTarget o e) (leaveLoops (branchTarget o e) 4 e) e s)) o s

/-- CALL (04 R118): W15 takes the address of the next instruction. -/
def execCall (o : Kv) (s : State) : Host.Outcome State Fault Refusal :=
  kvRun .call (fun o _ e s =>
    ctl e (jump (branchTarget o e) (wW 15#4 (wd ((e.pc + codeLenAt s e.tenant e.pc) % 2 ^ 22)) e) e s)) o s

/-- RET (04 R118). -/
def execRet (o : Kv) (s : State) : Host.Outcome State Fault Refusal :=
  kvRun .ret (fun _ _ e s => ctl e (jump (fld (rW e 15#4) 21 0) e e s)) o s

/-- TEND (03 R88): the execution ends, its commit to come; MAX_RESP keeps the greatest response (05 Table 5-4). -/
def execTend (o : Kv) (s : State) : Host.Outcome State Fault Refusal :=
  kvRun .tend (fun _ k e s =>
    ctl e (kvOk { e with phase := 3, tendAt := s.clk, loads := [] }
      (updTask k (fun t => { t with stat := setFld t.stat 47 24 (Nat.max (fld t.stat 47 24) (Nat.min (2 ^ 24 - 1) ((s.clk - e.relAt) / 1000))) }) s))) o s

/-- LOOP (03 R89, R90). With LPC 0 it costs what a taken branch costs, 2 cycles, also where the skip leads to the very next
syllable (R89 and 04 R107 differ there; DESIGN CHOICE, log 97). -/
def execLoop (o : Kv) (s : State) : Host.Outcome State Fault Refusal :=
  kvRun .loop (fun _ _ e s =>
    ctl e (
      let d := e.ldepth
      if 4 ≤ d then .trap trLoopFault 0
      else if lpe e d ≤ lps e d ∨ (0 < d ∧ (lps e d < lps e (d - 1) ∨ lpe e (d - 1) < lpe e d)) then .trap trLoopFault 0
      else if lpc e d = 0 then .ok e s (some ((lpe e d + codeLenAt s e.tenant (lpe e d)) % 2 ^ 22)) 2
      else .ok { e with ldepth := d + 1 } s (some (lps e d)) (if lps e d = e.pc + 1 then 1 else 2))) o s

/-! ### Special registers (03 Table 3-9, 04 R119) -/

/-- What MFS reads: loop registers, TSTAT, descriptors with BASE as 0. -/
def readSpecial (k n : Nat) (e : Ex) : Word :=
  if n ≤ 0x0B then wget e.lp n
  else if n = 0x0C then tstat k e
  else if n = 0x18 then setFld (e.segd.getD 8 0#48) 44 23 0
  else setFld (e.segd.getD (n - 0x10) 0#48) 42 22 0

/-- MFS (R119). -/
def execMfs (o : Kv) (s : State) : Host.Outcome State Fault Refusal :=
  kvRun .mfs (fun o k e s => kvOk (wW o.d (readSpecial k o.imm.toNat e) e) s) o s

/-- A value MTS may write to loop register n or TSTAT: no reserved bit set, no COUNT above 0x100_0000 (03 R98). -/
def specialValueOk (n : Nat) (v : Word) : Bool :=
  if n ≤ 0x07 then v.toNat < 2 ^ 22 else if n ≤ 0x0B then v.toNat ≤ 0x1000000
  else fld v 47 24 == 0 && fld v 7 1 == 0

/-- MTS (R119): DESC_WRITE before BAD_VALUE; loop registers change from distance 3, TSTAT at once. -/
def execMts (o : Kv) (s : State) : Host.Outcome State Fault Refusal :=
  kvRun .mts (fun o _ e s =>
    let n := o.imm.toNat
    let v := rW e o.s
    if 0x10 ≤ n then .trap trDescWrite 0
    else if !specialValueOk n v then .trap trBadValue v.toNat
    else if n = 0x0C then kvOk { e with sat := e.sat && !v.getLsbD 0 } s
    else kvOk { e with lpPend := e.lpPend ++ [⟨n, v, e.n + 3⟩] } s) o s

end Sys2Proof.Machine
end

