-- ==== Sys2Proof/Machine/KvLogic.lean ====
section
/-! DEFINITION. Compares, predicate logic, sheaf and bit instructions of the KV48 (04 Tables 4-4 to 4-6, R111 to R113). -/

namespace Sys2Proof.Machine

/-- CMPEQ (R111). -/
def execCmpeq (o : Kv) (s : State) : Host.Outcome State Fault Refusal :=
  kvRun .cmpeq (pureKv fun o e => wPd o (rW e o.s == rW e o.t) e) o s

/-- CMPNE (R111). -/
def execCmpne (o : Kv) (s : State) : Host.Outcome State Fault Refusal :=
  kvRun .cmpne (pureKv fun o e => wPd o (rW e o.s != rW e o.t) e) o s

/-- CMPLT (R111). -/
def execCmplt (o : Kv) (s : State) : Host.Outcome State Fault Refusal :=
  kvRun .cmplt (pureKv fun o e => wPd o ((rW e o.s).slt (rW e o.t)) e) o s

/-- CMPLTU (R111). -/
def execCmpltu (o : Kv) (s : State) : Host.Outcome State Fault Refusal :=
  kvRun .cmpltu (pureKv fun o e => wPd o ((rW e o.s).ult (rW e o.t)) e) o s

/-- CMPLE (R111). -/
def execCmple (o : Kv) (s : State) : Host.Outcome State Fault Refusal :=
  kvRun .cmple (pureKv fun o e => wPd o ((rW e o.s).sle (rW e o.t)) e) o s

/-- CMPLEU (R111). -/
def execCmpleu (o : Kv) (s : State) : Host.Outcome State Fault Refusal :=
  kvRun .cmpleu (pureKv fun o e => wPd o ((rW e o.s).ule (rW e o.t)) e) o s

/-- CMPEQI (R111). -/
def execCmpeqi (o : Kv) (s : State) : Host.Outcome State Fault Refusal :=
  kvRun .cmpeqi (pureKv fun o e => wPd o (rW e o.s == sx o) e) o s

/-- CMPNEI (R111). -/
def execCmpnei (o : Kv) (s : State) : Host.Outcome State Fault Refusal :=
  kvRun .cmpnei (pureKv fun o e => wPd o (rW e o.s != sx o) e) o s

/-- CMPLTI (R111). -/
def execCmplti (o : Kv) (s : State) : Host.Outcome State Fault Refusal :=
  kvRun .cmplti (pureKv fun o e => wPd o ((rW e o.s).slt (sx o)) e) o s

/-- CMPLTIU (R111). -/
def execCmpltiu (o : Kv) (s : State) : Host.Outcome State Fault Refusal :=
  kvRun .cmpltiu (pureKv fun o e => wPd o ((rW e o.s).ult (zx o)) e) o s

/-- CMPGTI (R111). -/
def execCmpgti (o : Kv) (s : State) : Host.Outcome State Fault Refusal :=
  kvRun .cmpgti (pureKv fun o e => wPd o ((sx o).slt (rW e o.s)) e) o s

/-- CMPGTIU (R111). -/
def execCmpgtiu (o : Kv) (s : State) : Host.Outcome State Fault Refusal :=
  kvRun .cmpgtiu (pureKv fun o e => wPd o ((zx o).ult (rW e o.s)) e) o s

/-- TSTNZ (R111). -/
def execTstnz (o : Kv) (s : State) : Host.Outcome State Fault Refusal :=
  kvRun .tstnz (pureKv fun o e => wPd o ((rW e o.s &&& rW e o.t) != 0#48) e) o s

/-- PAND (R111). -/
def execPand (o : Kv) (s : State) : Host.Outcome State Fault Refusal :=
  kvRun .pand (pureKv fun o e => wPd o (rP e (predNo o.s) && rP e (predNo o.t)) e) o s

/-- POR (R111). -/
def execPor (o : Kv) (s : State) : Host.Outcome State Fault Refusal :=
  kvRun .por (pureKv fun o e => wPd o (rP e (predNo o.s) || rP e (predNo o.t)) e) o s

/-- PXOR (R111). -/
def execPxor (o : Kv) (s : State) : Host.Outcome State Fault Refusal :=
  kvRun .pxor (pureKv fun o e => wPd o (rP e (predNo o.s) != rP e (predNo o.t)) e) o s

/-- PANDN (R111). -/
def execPandn (o : Kv) (s : State) : Host.Outcome State Fault Refusal :=
  kvRun .pandn (pureKv fun o e => wPd o (rP e (predNo o.s) && !rP e (predNo o.t)) e) o s

/-- PRD (R111). -/
def execPrd (o : Kv) (s : State) : Host.Outcome State Fault Refusal :=
  kvRun .prd (pureKv fun o e => wW o.d ((e.p ||| 1#8).setWidth 48) e) o s

/-- PWR (R111). -/
def execPwr (o : Kv) (s : State) : Host.Outcome State Fault Refusal :=
  kvRun .pwr (pureKv fun o e => (List.range' 1 7).foldl (fun x i => wP i ((rW e o.s).getLsbD i) x) e) o s

/-- The lane an instruction names, by its M: IMM[5:0] or Wt[5:0] (03 R86); 48 to 63 traps. -/
def withLane (o : Kv) (e : Ex) (s : State) (f : Nat → Ex) : KvRes :=
  let n := if o.m = 0#2 then laneImm o else laneReg o e
  if 48 ≤ n then .trap trBadValue n else kvOk (f n) s

/-- TSTB (R111, R86). -/
def execTstb (o : Kv) (s : State) : Host.Outcome State Fault Refusal :=
  kvRun .tstb (fun o _ e s => withLane o e s fun n => wPd o ((rW e o.s).getLsbD n) e) o s

/-- AND (R112). -/
def execAnd (o : Kv) (s : State) : Host.Outcome State Fault Refusal :=
  kvRun .and (pureKv fun o e => wW o.d (rW e o.s &&& rW e o.t) e) o s

/-- OR (R112). -/
def execOr (o : Kv) (s : State) : Host.Outcome State Fault Refusal :=
  kvRun .or (pureKv fun o e => wW o.d (rW e o.s ||| rW e o.t) e) o s

/-- XOR (R112). -/
def execXor (o : Kv) (s : State) : Host.Outcome State Fault Refusal :=
  kvRun .xor (pureKv fun o e => wW o.d (rW e o.s ^^^ rW e o.t) e) o s

/-- ANDN (R112). -/
def execAndn (o : Kv) (s : State) : Host.Outcome State Fault Refusal :=
  kvRun .andn (pureKv fun o e => wW o.d (rW e o.s &&& ~~~(rW e o.t)) e) o s

/-- NOT (R112). -/
def execNot (o : Kv) (s : State) : Host.Outcome State Fault Refusal :=
  kvRun .not (pureKv fun o e => wW o.d (~~~(rW e o.s)) e) o s

/-- EDGE: rising (R112). -/
def execEdge (o : Kv) (s : State) : Host.Outcome State Fault Refusal :=
  kvRun .edge (pureKv fun o e => wW o.d (rW e o.s &&& ~~~(rW e o.t)) e) o s

/-- EDGEF: falling (R112). -/
def execEdgef (o : Kv) (s : State) : Host.Outcome State Fault Refusal :=
  kvRun .edgef (pureKv fun o e => wW o.d (~~~(rW e o.s) &&& rW e o.t) e) o s

/-- EDGEA: either (R112). -/
def execEdgea (o : Kv) (s : State) : Host.Outcome State Fault Refusal :=
  kvRun .edgea (pureKv fun o e => wW o.d (rW e o.s ^^^ rW e o.t) e) o s

/-- LATCH: reset dominant (R112). -/
def execLatch (o : Kv) (s : State) : Host.Outcome State Fault Refusal :=
  kvRun .latch (pureKv fun o e => wW o.d ((rW e o.d ||| rW e o.s) &&& ~~~(rW e o.t)) e) o s

/-- LATCHS: set dominant (R112). -/
def execLatchs (o : Kv) (s : State) : Host.Outcome State Fault Refusal :=
  kvRun .latchs (pureKv fun o e => wW o.d ((rW e o.d &&& ~~~(rW e o.t)) ||| rW e o.s) e) o s

/-- SH.MERGE (R112). -/
def execShMerge (o : Kv) (s : State) : Host.Outcome State Fault Refusal :=
  kvRun .shMerge (pureKv fun o e => wW o.d ((rW e o.t &&& rW e o.s) ||| (rW e o.d &&& ~~~(rW e o.s))) e) o s

/-- SH.ANY (R112). -/
def execShAny (o : Kv) (s : State) : Host.Outcome State Fault Refusal :=
  kvRun .shAny (pureKv fun o e => wPd o (rW e o.s != 0#48) e) o s

/-- SH.ALL (R112). -/
def execShAll (o : Kv) (s : State) : Host.Outcome State Fault Refusal :=
  kvRun .shAll (pureKv fun o e => wPd o (rW e o.s == BitVec.allOnes 48) e) o s

/-- SH.NONE (R112). -/
def execShNone (o : Kv) (s : State) : Host.Outcome State Fault Refusal :=
  kvRun .shNone (pureKv fun o e => wPd o (rW e o.s == 0#48) e) o s

/-- SH.SPLAT (R112, R86). -/
def execShSplat (o : Kv) (s : State) : Host.Outcome State Fault Refusal :=
  kvRun .shSplat (fun o _ e s => withLane o e s fun n => wW o.d (splat ((rW e o.s).getLsbD n)) e) o s

/-- BSET (R113, R86). -/
def execBset (o : Kv) (s : State) : Host.Outcome State Fault Refusal :=
  kvRun .bset (fun o _ e s => withLane o e s fun n => wW o.d (setBit (rW e o.s) n true) e) o s

/-- BCLR (R113, R86). -/
def execBclr (o : Kv) (s : State) : Host.Outcome State Fault Refusal :=
  kvRun .bclr (fun o _ e s => withLane o e s fun n => wW o.d (setBit (rW e o.s) n false) e) o s

/-- BINS (R113): the lane takes predicate Pt. -/
def execBins (o : Kv) (s : State) : Host.Outcome State Fault Refusal :=
  kvRun .bins (fun o _ e s => if 48 ≤ laneImm o then .trap trBadValue (laneImm o) else kvOk (wW o.d (setBit (rW e o.s) (laneImm o) (rP e (predNo o.t))) e) s) o s

/-- POPC (R113). -/
def execPopc (o : Kv) (s : State) : Host.Outcome State Fault Refusal :=
  kvRun .popc (pureKv fun o e => wW o.d (wd (popCount (rW e o.s))) e) o s

/-- CLZ (R113). -/
def execClz (o : Kv) (s : State) : Host.Outcome State Fault Refusal :=
  kvRun .clz (pureKv fun o e => wW o.d (wd (clzW (rW e o.s))) e) o s

/-- FFS (R113). -/
def execFfs (o : Kv) (s : State) : Host.Outcome State Fault Refusal :=
  kvRun .ffs (pureKv fun o e => wW o.d (wd (ffsW (rW e o.s))) e) o s

/-- The field EXTR and DEP name: lowest bit and width; a width of 0 or a field beyond bit 47 traps with zx(IMM). -/
def withField (o : Kv) (s : State) (f : Nat → Nat → Ex) : KvRes :=
  let lsb := o.imm.toNat % 64
  let width := o.imm.toNat / 64 % 64
  if width = 0 ∨ 48 < lsb + width then .trap trBadValue o.imm.toNat else kvOk (f lsb width) s

/-- EXTR (R113). -/
def execExtr (o : Kv) (s : State) : Host.Outcome State Fault Refusal :=
  kvRun .extr (fun o _ e s => withField o s fun l n => wW o.d (wd (fld (rW e o.s) (l + n - 1) l)) e) o s

/-- DEP (R113). -/
def execDep (o : Kv) (s : State) : Host.Outcome State Fault Refusal :=
  kvRun .dep (fun o _ e s => withField o s fun l n => wW o.d (setFld (rW e o.d) (l + n - 1) l (rW e o.s).toNat) e) o s

end Sys2Proof.Machine
end

