-- ==== Sys2Proof/Machine/KvMem.lean ====
section
/-! DEFINITION. Loads, stores and image access of the KV48 (04 Table 4-7, R114 to R117). -/

namespace Sys2Proof.Machine

/-- An access at the effective address: its checks, then f (03 R84). -/
def access (o : Kv) (e : Ex) (kinds : List Nat) (write : Bool) (f : Place → KvRes) : KvRes :=
  match checkAddr e kinds write (effAddr o e) with
  | .error c => .trap c (effAddr o e).toNat
  | .ok pl => f pl

/-- A data-store or SEG7 word read; an uncorrectable error traps (03 Table 3-11). -/
def readData (k : Nat) (o : Kv) (e : Ex) (s : State) (pl : Place) (f : Word → State → KvRes) : KvRes :=
  let key := placeKey k e pl
  if pl.kind = 0 ∧ s.core.hardBad.contains key then .trap trEccData (effAddr o e).toNat
  else f (dataWord k e pl s) (if pl.kind = 0 then correctData key e.tenant s else s)

/-- The lanes of a mask of a data-store word written. A store leaves the word's error mark as it is (the model's choice, log 13). -/
def writeData (k : Nat) (e : Ex) (pl : Place) (mask v : Word) (s : State) : State := coreStore e.core (placeKey k e pl) mask v s

/-- The lane of a bit form, from Wt[5:0]; 48 to 63 traps before any address check (03 R86, R99). -/
def bitLane (o : Kv) (e : Ex) (f : Nat → KvRes) : KvRes :=
  if 48 ≤ laneReg o e then .trap trBadValue (laneReg o e) else f (laneReg o e)

/-- The word that a loaded predicate's value is held in while it is pending. -/
def bitWord (b : Bool) : Word := if b then 1#48 else 0#48

/-- A bit load of Pd; to P0 it has no effect (04 R115); with M = 2 the base register is still increased, which R115 leaves open
(the model's choice, log 122). -/
def loadPred (o : Kv) (b : Bool) (e : Ex) : Ex := if predNo o.d = 0 then e else addLoad (16 + predNo o.d) (bitWord b) e

/-- LD (R114): the word lands two instructions later. -/
def execLd (o : Kv) (s : State) : Host.Outcome State Fault Refusal :=
  kvRun .ld (fun o k e s => access o e [0, 4] false fun pl => readData k o e s pl fun v s =>
    kvOk (addLoad o.d.toNat v (postInc o e)) s) o s

/-- ST (R114). -/
def execSt (o : Kv) (s : State) : Host.Outcome State Fault Refusal :=
  kvRun .st (fun o k e s => access o e [0] true fun pl => kvOk (postInc o e) (writeData k e pl (BitVec.allOnes 48) (rW e o.d) s)) o s

/-- IMLD (R114). -/
def execImld (o : Kv) (s : State) : Host.Outcome State Fault Refusal :=
  kvRun .imld (fun o _ e s => access o e [1, 2, 3] false fun pl =>
    kvOk (addLoad o.d.toNat (imageWord e pl) (postInc o e)) s) o s

/-- IMST (R114). -/
def execImst (o : Kv) (s : State) : Host.Outcome State Fault Refusal :=
  kvRun .imst (fun o _ e s => access o e [2] true fun pl => kvOk (postInc o (addImst pl.off (rW e o.d) e)) s) o s

/-- LDB (R114, R115). A load to P0 with M = 2 still adds IMM to Ws (the model's choice, log 122). -/
def execLdb (o : Kv) (s : State) : Host.Outcome State Fault Refusal :=
  kvRun .ldb (fun o k e s => bitLane o e fun n => access o e [0] false fun pl => readData k o e s pl fun v s =>
    kvOk (loadPred o (v.getLsbD n) (postInc o e)) s) o s

/-- STB (R116): only the named lane changes. -/
def execStb (o : Kv) (s : State) : Host.Outcome State Fault Refusal :=
  kvRun .stb (fun o k e s => bitLane o e fun n => access o e [0] true fun pl =>
    readData k o e s pl fun v s =>
      kvOk (postInc o e) (writeData k e pl (wd (2 ^ n)) (setBit v n (rP e (predNo o.d))) s)) o s

/-- IMLDB (R114, R115). -/
def execImldb (o : Kv) (s : State) : Host.Outcome State Fault Refusal :=
  kvRun .imldb (fun o _ e s => bitLane o e fun n => access o e [1, 2, 3] false fun pl =>
    kvOk (loadPred o ((imageWord e pl).getLsbD n) (postInc o e)) s) o s

/-- IMSTB (R116): only the named lane changes, in the newest value of the output word. -/
def execImstb (o : Kv) (s : State) : Host.Outcome State Fault Refusal :=
  kvRun .imstb (fun o _ e s => bitLane o e fun n => access o e [2] true fun pl =>
    kvOk (postInc o (addImst pl.off (setBit (outLatest e pl.off) n (rP e (predNo o.d))) e)) s) o s

end Sys2Proof.Machine
end

