-- ==== Sys2Proof/Machine/PairRows.lean ====
section
/-! DEFINITION. What a unit of a pair hears from its partner: volleys, paths, Serve line, beacons and records, and what it sends
(15 R373 to R388, R391). -/

namespace Sys2Proof.Machine

/-- The unit is one of a pair and runs. -/
def pairRuns (s : State) : Bool := s.pair.rstate != 0 && !s.aon.inReset && !s.sup.asleep

/-! ### Sending (R376, R377, R379) -/

/-- The unit's volley. -/
def ownVolley (s : State) : Volley :=
  let f := s.flash.fwVersion
  { crcOk := true, rstate := s.pair.rstate, innings := s.silo.innings, pinn := s.pair.pinn, mode := devMode s
    fault := devMode s == 4, srvOut := serves2 s.pair.rstate, pairDevtime := wd (devtime s), wallNs := s.tb.wallW.toNat
    wallDev := pairTimeAt s s.tb.wallD, rho := s.tb.rho, ack := s.pair.rxNum
    expected := if s.pair.gapAt.isSome && !s.pair.rxNew then some ((s.pair.rxNum + 1) % 2 ^ 32) else none
    fwMajor := f.1, fwMinor := f.2.1, fwPatch := f.2.2, progHash := s.prog.hash, cfgHash := s.ovl.hash
    pairId := s.pair.unitB, pos := s.pass.ownPos
    commit := s.pair.rstate == 7 && s.pair.handover.isSome }

/-- VOLLEY_SEND: every 2 µs. -/
def execVolleySend (s : State) : Host.Outcome State Fault Refusal :=
  .next (if pairRuns s && decide (s.pair.sentAt + 2000 ≤ s.clk) then
    updPair (fun p => { p with sentAt := s.clk }) (emit (.volley (ownVolley s)) s) else s)

/-- PAIR_BEACON_SEND: every BPER on MAC BMAC. -/
def execPairBeaconSend (s : State) : Host.Outcome State Fault Refusal :=
  let m := getMac s (pairBmac s)
  .next (if pairRuns s && pairBmac s != 3 && macOn m && m.up && decide (s.pair.beaconAt + pairBper s * 1000000 ≤ s.clk) then
    updPair (fun p => { p with beaconAt := s.clk })
      (emit (.beacon { crcOk := true, rstate := s.pair.rstate, innings := s.silo.innings, pairId := s.pair.unitB }) s) else s)

/-- Records sent again from a number on. -/
def resendFrom (n : Nat) (s : State) : State :=
  let l := s.pair.unacked.filter (fun r => numReached r.num n)
  updPair (fun p => { p with resends := p.resends + l.length }) (l.foldl (fun s r => emit (.record r.num r.record) s) s)

/-! ### Time of the pair (R381) -/

/-- The partner's pair DEVTIME less this unit's counter as measured over SYNC at a volley: within 20 ns, a free value (log 1). -/
def measureOfs (v : Volley) (s : State) : State :=
  let (d, s) := drawWord s
  updPair (fun p => { p with heardOfs := some (sgn 48 (umod 48 ((v.pairDevtime.toNat : Int) + d.toNat % 41 - 20 - s.clk))) }) s

/-- PAIR_OFS follows the primary as measured last: up at once, down by standing still, so that pair DEVTIME never moves backwards. -/
def adjustOfs (s : State) : State :=
  match s.pair.heardOfs with
  | none => s
  | some o =>
    let d := sgn 48 (umod 48 (o - s.pair.ofs))
    updPair (fun p => { p with ofs := p.ofs + max 0 d, ofsBack := (-d).toNat }) s

/-- The wall-time base and rate are the primary's. -/
def takeWall (v : Volley) (s : State) : State :=
  { s with tb := { s.tb with wallW := v.wallNs, wallD := s.clk - umod 48 ((devtime s : Int) - v.wallDev), rho := v.rho, wallSet := true } }

/-! ### A volley by the unit's own state -/

/-- What a unit that finds its role makes of a volley (R375). -/
def volleyStart (v : Volley) (s : State) : State :=
  if serves2 v.rstate then
    let c := pairMismatch s
    if c.1 = 0 then toSyncing s else mismatched c s
  else if v.rstate = 1 && !s.pair.srvLvl && (decide (v.innings < s.silo.innings) || (v.innings == s.silo.innings && !s.pair.unitB)) then
    startServing (setRstate 2 s)
  else s

/-- A resync begins: the mirror buffer of the unit follows from record 0 on (R384). -/
def resyncBegin (s : State) : State :=
  pairGln 0x0E07 1 0 (updPair (fun p => { txFresh p with resync := some s.clk, pages := 0, sentData := [], finalSent := false, retryAt := none }) s)

/-- What a primary makes of a volley (R378, R384, R389). One that still serves as this unit does is a conflict's matter (R376). -/
def volleyServing (v : Volley) (s : State) : State :=
  if s.pair.rstate = 3 then (if v.rstate = 5 || serves2 v.rstate then s else toSolo s)
  else if v.rstate = 5 && s.pair.finalSent then
    let s := setRstate 3 (updPair (fun p => { p with resync := none, finalSent := false, sentData := [], resyncs := p.resyncs + 1 }) s)
    pairGln 0x0E07 0 s.pair.pages (fire 109 s)
  else
    let s := if v.rstate = 7 then
        (if v.commit && s.pair.handover.isNone then updPair (fun p => { p with handover := some ⟨s.clk, none, true, none⟩ }) s else s)
      else updPair (fun p => { p with handover := none }) s
    if v.rstate = 4 then (if s.pair.resync.isNone && s.pair.retryAt.isNone then resyncBegin s else s)
    else if s.pair.resync.isSome && v.rstate != 5 then updPair dropSent s
    else s

/-- A standby or a unit in the swap takes the device mode that the primary carries, once nothing of its own is under way. -/
def followMode (v : Volley) (s : State) : State :=
  if (s.pair.rstate == 5 || s.pair.rstate == 7) && s.task.dev != v.mode && 1 ≤ v.mode && v.mode ≤ 4 && (tget none s.task.trans 32).isNone && s.pair.held == [] &&
      s.pair.releases == [] && liveTasks s == [] then applyMode 32 v.mode (if v.mode = 4 then 3 else 0) false s
  else s

/-- A standby whose versions cease to match its primary's (R388), or whose primary has ended its sync (R379, R383). -/
def volleyStandby (was : Nat) (v : Volley) (s : State) : State :=
  let c := pairMismatch s
  if c.1 != 0 then mismatched c s
  else if was = 3 && v.rstate = 2 then leaveSync (pairGln 0x0E07 3 s.pair.pages s)
  else s

/-- The comparison of configuration hashes begins to wait with a store, and waits no more once it is done and they agree (16 R404). -/
def storeWait (s : State) : State :=
  if s.ovl.job.isSome then updPair (fun p => { p with cfgBad := p.cfgBad.or (some s.clk) }) s
  else if s.pair.pCfg = s.ovl.hash then updPair (fun p => { p with cfgBad := none }) s
  else s

/-- What every unit takes from a valid volley (R377, R378, R379). -/
def hearVolley (v : Volley) (s : State) : State :=
  let s := updPair (fun p => { p with
    heardAt := s.clk, validAt := if p.volleyAt.isNone then s.clk else p.validAt, volleyAt := some s.clk
    pRstate := v.rstate, pSrv := v.srvOut, pinn := v.innings, pFw := (v.fwMajor, v.fwMinor, v.fwPatch), pProg := v.progHash
    pCfg := v.cfgHash, pUnitB := v.pairId, pPos := v.pos, unacked := p.unacked.filter (fun r => !numReached v.ack r.num)
    srvBad := if p.srvLvl == v.srvOut then none else p.srvBad.or (some s.clk) }) s
  let s := if !s.pair.syncOk && decide (s.pair.validAt + 1000000 ≤ s.clk) then
      pairGln 0x0E02 0 (devtime s) (updPair (fun p => { p with syncOk := true, syncLost := false }) s) else s
  let s := if s.pair.srvLvl == v.srvOut && !s.pair.srvOk then
      pairGln 0x0E02 4 (devtime s) (updPair (fun p => { p with srvOk := true }) s) else s
  let s := storeWait (measureOfs v s)
  match v.expected with
  | some n => resendFrom n s
  | none => s

/-- A valid volley. A serving unit that it reports serving is found so at every one (R376). -/
def volleyTake (v : Volley) (s : State) : State :=
  let was := s.pair.pRstate
  let s := hearVolley v s
  let s := if serves2 v.rstate then conflict s else s
  match s.pair.rstate with
  | 1 => volleyStart v s
  | 2 | 3 => volleyServing v s
  | 4 => takeWall v (adjustOfs s)
  | 5 => followMode v (volleyStandby was v (takeWall v (adjustOfs s)))
  | 6 => s
  | _ => followMode v s

/-- VOLLEY_RECEIVED. -/
def execVolleyReceived (v : Volley) (s : State) : Host.Outcome State Fault Refusal :=
  .next (if !pairRuns s then s
    else if v.crcOk then volleyTake v s
    else pairGln 0x0E0C 0 (s.pair.badVolley + 1 : Nat) (updPair (fun p => { p with badVolley := p.badVolley + 1 }) s))

/-! ### Paths (R374 to R378) -/

/-- SYNC_PATH_SILENT: no valid volley for 8 µs. A path that has not been restored since is silent already (R377). -/
def execSyncPathSilent (s : State) : Host.Outcome State Fault Refusal :=
  match s.pair.volleyAt with
  | none => .next s
  | some t =>
    if !pairRuns s || s.clk < t + 8000 then .next s
    else
      let was := s.pair.syncOk
      let s := updPair (fun p => { p with volleyAt := none, syncOk := false }) s
      .next (if !was then s
        else if !s.pair.aliveOk then bothSilent s
        else pairGln 0x0E02 1 (pairTimeAt s t) (fire 105 (updPair (fun p => { p with syncLost := true }) s)))

/-- ALIVE_PATH_SILENT: no edge for 4 µs, or a frequency outside 0.8 to 1.2 MHz: the last valid signal was 4 µs ago (log 124). -/
def execAlivePathSilent (s : State) : Host.Outcome State Fault Refusal :=
  if !pairRuns s || !s.pair.aliveOk then .next s
  else
    let t := s.clk - 4000
    let s := updPair (fun p => { p with aliveOk := false, heardAt := Nat.max p.heardAt t }) s
    .next (if !s.pair.syncOk then bothSilent s
      else pairGln 0x0E02 3 (pairTimeAt s t) (fire 106 (updPair (fun p => { p with aliveLost := true }) s)))

/-- ALIVE_PATH_RESTORED: 1 ms of valid signal. -/
def execAlivePathRestored (s : State) : Host.Outcome State Fault Refusal :=
  .next (if pairRuns s && !s.pair.aliveOk then
    pairGln 0x0E02 2 (devtime s) (updPair (fun p => { p with aliveOk := true, aliveLost := false, heardAt := s.clk }) s) else s)

/-- SRV_IN_CHANGE: PINN, a conflict of serving units, a START held (R374 to R376, R378). -/
def execSrvInChange (high : Bool) (s : State) : Host.Outcome State Fault Refusal :=
  if s.pair.srvLvl == high then .next s
  else
    let s := updPair (fun p => { p with srvLvl := high }) s
    if !pairRuns s then .next s
    else
      let s := updPair (fun p => { p with srvBad := if high == p.pSrv then none else p.srvBad.or (some s.clk) }) s
      if !high then .next s
      else
        let s := if s.pair.pRstate = 5 then updPair (fun p => { p with pinn := p.pinn + 1 }) s else s
        .next (if serves2 s.pair.rstate then conflict s
          else if s.pair.rstate = 1 then pairGln 0x0E0B s.silo.innings s.pair.pinn s else s)

/-- SERVE_PATH_MISMATCH: SRV_LVL has disagreed for 100 µs. -/
def execServePathMismatch (s : State) : Host.Outcome State Fault Refusal :=
  .next (match s.pair.srvBad with
    | some t => if pairRuns s && s.pair.srvOk && decide (t + 100000 ≤ s.clk) then
        pairGln 0x0E02 5 (pairTimeAt s t) (updPair (fun p => { p with srvOk := false }) s) else s
    | none => s)

/-- PAIR_START_TIMEOUT: nothing heard for 50 ms, with Serve low (R375). -/
def execPairStartTimeout (s : State) : Host.Outcome State Fault Refusal :=
  .next (if pairRuns s && s.pair.rstate == 1 && !s.pair.srvLvl && !s.pair.aliveOk && decide (s.pair.heardAt + 50000000 ≤ s.clk) then
    startServing (setRstate 2 (setInnings (s.silo.innings + 1) s)) else s)

/-- PAIR_BEACON_RECEIVED (R376). -/
def execPairBeaconReceived (b : Beacon) (s : State) : Host.Outcome State Fault Refusal :=
  .next (if !pairRuns s then s
    else if b.crcOk then inningsHeard 1 b.innings b.rstate s
    else pairGln 0x0E0C 2 (s.pair.badBeacon + 1 : Nat) (updPair (fun p => { p with badBeacon := p.badBeacon + 1 }) s))

/-! ### CHANGE records (R382, 16 R404) -/

/-- What a carried command does. -/
def changeOf (cmd : Nat) : Option (Nat → Nat → Bytes → State → MbR) :=
  match cmd with
  | 0x0501 => some mbOvlCreate
  | 0x0502 => some mbOvlDelete
  | 0x0E01 => some mbStoreBegin
  | 0x0E02 => some mbStoreData
  | 0x0E03 => some mbStoreEnd
  | _ => mbOf cmd

/-- A set as the primary carries it. -/
def setOf (p : Bytes) : List Nat := [u8 p 0, u8 p 1, u8 p 2, u8 p 3]

/-- A unit of a transition changes as on the primary. -/
def carriedUnit (kind key : Nat) (s : State) : State :=
  match s.ovl.units.find? (fun u => u.kind == kind && u.key == key) with
  | none => s
  | some u => endOvl 2 (updOvl (fun o => { o with units := o.units.filter (fun v => v.kind != kind || v.key != key) }) (constsChanged u (unitApply u s)))

/-- A CHANGE record takes effect: B, a unit's change, a queued request, a handover, or the command itself. -/
def runChange (tenant cmd : Nat) (p : Bytes) (s : State) : State :=
  match cmd with
  | 0xF001 => endOvl 2 (beginOvl (setOf p) (u8 p 4) s)
  | 0xF002 => carriedUnit (u8 p 0) (be p 1 4) s
  | 0xF004 => forceRemove (be p 0 2) 1 s
  | 0xF003 => updOvl (fun o => { o with queued := some (setOf p), queuedLevel := u8 p 4 }) s
  | 0x0A04 => if s.pair.rstate = 5 then updPair (fun x => { x with handover := some ⟨s.clk, none, false, none⟩ }) s else s
  | _ => match changeOf cmd with
    | none => s
    | some f => match f tenant 16 p (updPair (fun x => { x with applying := true }) s) with
      | .error _ => s
      | .ok o => updPair (fun x => { x with applying := false }) o.s

/-- A value write waits for its anchor's execution (05 R151, R153). -/
def heldReady (s : State) (h : PairHeld) : Bool :=
  h.after == 0 && (h.cmd != 0x0401 || (taskEx s (be h.payload 0 2)).isNone)

/-- CHANGE records whose turn has come take effect, in order. -/
def applyHeld : Nat → State → State
  | 0, s => s
  | n + 1, s =>
    match s.pair.held with
    | [] => s
    | h :: hs => if heldReady s h then applyHeld n (runChange h.tenant h.cmd h.payload (updPair (fun p => { p with held := hs }) s)) else s

/-- Held changes go on. -/
def heldTick (s : State) : State := applyHeld s.pair.held.length s

/-! ### Records (Table 15-6, R379, R380) -/

/-- A UNIT record: the mirror buffer, host plots, and the watchdog's question (18 R457). -/
def recordUnit (num : Nat) (ws : List (Nat × Word)) (s : State) : State :=
  let s := imgPuts ws (updPair (fun p => { p with lastUnit := num }) s)
  let s := (plotsOf ws).foldl (fun s n => if ownSRC (plotOwn s n) = 3 then plotUpdate n none false s else s) s
  match ws.find? (fun w => w.1 == fld s.sup.wdgCfg 38 24) with
  | some w => if s.sup.wdgSet then { s with sup := { s.sup with question := fld w.2 15 0 } } else s
  | none => s

/-- What a programme last committed, as the commits of the primary's services show it (09 R234, R237). -/
def wpgSeen (ws : List (Nat × Word)) (s : State) : State :=
  { s with svc := { s.svc with wpg := s.svc.wpg.map (fun e => (e.1, e.2.map (fun g =>
      match ws.find? (fun w => bit g.cfg 17 && w.1 == fld g.cfg 32 18) with
      | some w => { g with last := some (if bit g.cfg 41 then wd (b2n (bit w.2 (fld g.cfg 38 33))) else w.2), lastAt := devtime s }
      | none => g))) } }

/-- An ENGINE record: the commit, and the loop's state where a sample made it. -/
def recordEngine (ws : List (Nat × Word)) (loop : Option Nat) (ua xh q : List Word) (seq : Nat) (s : State) : State :=
  let s := if ws = [] then s else wpgSeen ws (commitOnly ws s)
  match loop with
  | some n => updLoop n (fun x => { x with ua, xh, q, status := setFld x.status 47 32 seq }) s
  | none => s

/-- A record in its turn. -/
def recordTake (num : Nat) (r : PairRec) (s : State) : State :=
  let standby := s.pair.rstate == 5
  match r with
  | .unit ws => recordUnit num ws s
  | .release task seg7 quals lastUnit lastCommit =>
    if standby then updPair (fun p => { p with releases := p.releases ++ [⟨task, seg7, quals, lastUnit, lastCommit⟩] }) s else s
  | .commit task scancnt check cause =>
    if standby then settle (updPair (fun p => { p with commits := p.commits ++ [⟨num, task, scancnt, check, cause⟩] }) s)
    else updPair (fun p => { p with lastCommit := num }) s
  | .engine ws loop ua xh q seq => recordEngine ws loop ua xh q seq s
  | .slot n state dt => updSlot n (fun x => { x with sts := setFld (setFld x.sts 47 44 state) 31 0 (fld dt 31 0), dt }) s
  | .send kind idx seq => updPair (fun p => { p with carried := tput none (kind * 65536 + idx) (some seq) p.carried }) s
  | .service a m => svcTake a m s
  | .change tenant cmd p =>
    heldTick (updPair (fun x => { x with held := x.held ++ [⟨x.releases.length, tenant, cmd, p⟩] }) s)

/-- A record that is not taken: discarded and counted (R391). -/
def recordBad (s : State) : State :=
  pairGln 0x0E0C 1 (s.pair.badRecord + 1 : Nat) (updPair (fun p => { p with badRecord := p.badRecord + 1 }) s)

/-- A valid record by its number: the next in order acts, an older one is a resend, a later one shows a gap. A unit in SWAP that a gap
has cut off takes the next record it hears as the first. -/
def recordOrder (num : Nat) (r : PairRec) (s : State) : State :=
  if s.pair.rxNew then
    let before := (num + 2 ^ 32 - 1) % 2 ^ 32
    recordTake num r (updPair (fun p => { p with rxNew := false, rxNum := num, gapAt := none, lastUnit := before, lastCommit := before }) s)
  else if num = (s.pair.rxNum + 1) % 2 ^ 32 then recordTake num r (updPair (fun p => { p with rxNum := num, gapAt := none }) s)
  else if numReached s.pair.rxNum num then s
  else updPair (fun p => { p with gapAt := p.gapAt.or (some s.clk) }) s

/-- PAIR_RECORD_RECEIVED. A record with a bad CRC, from a partner that does not serve, or at a unit that follows none is discarded and
counted (R391). -/
def execPairRecordReceived (num : Nat) (crcOk : Bool) (r : PairRec) (s : State) : Host.Outcome State Fault Refusal :=
  let takes := (s.pair.rstate == 4 || s.pair.rstate == 5 || s.pair.rstate == 7) && serves2 s.pair.pRstate
  .next (if !pairRuns s then s
    else if !takes then recordBad s
    else if !crcOk then recordBad (updPair (fun p => { p with gapAt := p.gapAt.or (some s.clk) }) s)
    else recordOrder num r s)

/-- RECORD_ACK_TIMEOUT: a primary's record not acknowledged, a standby's gap not closed, within 100 µs (R379, R383). -/
def ackTimeout (s : State) : State :=
  let late := match s.pair.unacked with | r :: _ => decide (r.at_ + 100000 ≤ s.clk) | [] => false
  let gap := match s.pair.gapAt with | some t => decide (t + 100000 ≤ s.clk) | none => false
  match s.pair.rstate with
  | 3 => if late then toSolo s else s
  | 2 => if late then
      let s := if s.pair.resync.isSome then
          pairGln 0x0E07 2 s.pair.pages (updPair (fun p => { p with retryAt := some (s.clk + 1000000000) }) s) else s
      updPair dropSent s
    else s
  | 4 => if gap then toSyncing (pairGln 0x0E07 3 s.pair.pages s) else s
  | 5 => if gap then leaveSync (pairGln 0x0E07 3 s.pair.pages s) else s
  | 7 => if gap then updPair (fun p => { p with gapAt := none, rxNew := true }) s else s
  | _ => s

def execRecordAckTimeout (s : State) : Host.Outcome State Fault Refusal := .next (if pairRuns s then ackTimeout s else s)

/-- The release record at the front may be replayed: what it names has been applied, or the unit has taken over (R380, R386). -/
def replayReady (s : State) (r : PairRel) : Bool :=
  (taskEx s r.task).isNone && (match s.pair.held with | h :: _ => h.after != 0 | [] => true) &&
    (serves2 s.pair.rstate || (s.pair.rstate == 5 && numReached s.pair.lastUnit r.lastUnit && numReached s.pair.lastCommit r.lastCommit))

/-- REPLAY_RELEASE. -/
def execReplayRelease (s : State) : Host.Outcome State Fault Refusal :=
  let s := heldTick s
  match s.pair.releases with
  | [] => .next s
  | r :: rs =>
    .next (if pairRuns s && replayReady s r then
      replayRelease r (updPair (fun p => { p with releases := rs, held := p.held.map (fun h => { h with after := h.after - 1 }) }) s) else s)

end Sys2Proof.Machine
end

