-- ==== Sys2Proof/Machine/Releases.lean ====
section
/-! DEFINITION. Releases of tasks and the completion of commits (05 R127 to R138, R155, 01 R32, 16 R399). -/

namespace Sys2Proof.Machine

/-! ### The entry a release runs under (R155, 16 Table 16-3) -/

/-- The unit of a transition that carries task k. -/
def taskUnit (s : State) (k : Nat) : Option OvlUnit := s.ovl.units.find? (fun u => u.kind == 5 && u.key == k)

/-- The entry of a task's next release: what a transition brings, or what was accepted last. -/
def nextEntry (s : State) (k : Nat) : Word × Word × Word :=
  match taskUnit s k with
  | some u => taskTarget k u.items s
  | none => taskAccepted (taskEnt s k)

/-- What falls due is judged by the next entry once no execution is left. -/
def dueEntry (s : State) (k : Nat) : Word × Word × Word :=
  if (taskEx s k).isSome then ((taskEnt s k).cfg, (taskEnt s k).par, (taskEnt s k).lim) else nextEntry s k

/-- A release of task k: its overlay entry changes just before the freeze. -/
def releaseAt (k : Nat) (s : State) : State :=
  releaseTask scanFire k (updTask k (fun e => { e with due := 0 }) (boundary (fun u => u.kind == 5 && u.key == k) s))

/-- The merged release at the end of an execution: one release for all that fell due, COALESCED, 0x0307 (R131). Where the tenant has
left RUN meanwhile no release takes place: they are passed, with no count and no entry (the model's choice, log 119), and hold no
multiple (R129). -/
def mergedRelease (k : Nat) (s : State) : State :=
  let n := (taskEnt s k).due
  if n = 0 then s
  else
    let s := updTask k (fun e => { e with due := 0 }) s
    if !mayRelease s k then updTask k (fun e => { e with posHold := none }) s
    else
      let s := updTask k (fun e => { e with stat := setFld e.stat 23 8 (Nat.min 65535 (fld e.stat 23 8 + (n - 1))) }) s
      releaseAt k (gln 0x0307 2 (taskTenant s k) k n s)

/-- A commit that was requested in the clock cycle of a freeze completes first (01 R20): what was frozen at t and has not been used
takes its words, with the quality of their plots. -/
def commitSeen (t : Nat) (ws : List Nat) (s : State) : State :=
  let s := (liveTasks s).foldl (fun s k => match taskEx s k with
    | some e =>
      if e.relAt = t ∧ e.phase ≠ 3 ∧ e.n = 0 ∧ e.replay = false then
        let ps := (ws.map (· / 64)).dedup
        let q := qualBlock s e.tenant
        setEx k (some { e with view := ws.foldl (fun v w => wput w (imgWord s w) v) e.view
                               quals := ps.foldl (fun v p => wput p (plotQual s p) v) e.quals })
          { s with core := { s.core with data := ps.foldl (fun d p => wput (dsKey 6 k p) (q.getD p 0#48) d) s.core.data } }
      else s
    | none => s) s
  { s with ce := { s.ce with jobs := s.ce.jobs.map (fun j =>
      if j.task = none ∧ j.at_ = umod 48 ((t : Int) + s.pair.ofs) then { j with reads := j.reads.map (fun r =>
        if ws.contains r.w then { r with value := imgWord s r.w, bad := qualBad (plotQual s (r.w / 64)) } else r) } else j) } }

/-- A commit done: the words, the end of the execution, held posts, the record and, where its task serves the watchdog, a service at
this instant (R137, R138, 18 R453). -/
def commitDone (k : Nat) (e : Ex) (s : State) : State :=
  commitSeen e.tendAt ((exWords e).map (·.1)) (wdgCommit k (exWords e) (dispatch (commitEx k e s)))

/-- The execution whose commit is next at the arbiter (R137). -/
def nextCommit (s : State) : Option (Nat × Ex) :=
  (liveTasks s).findSome? (fun k => match taskEx s k with
    | some e => if e.phase = 3 && !(e.replay && s.pair.rstate == 5) && firstCommit s k e then some (k, e) else none
    | none => none)

/-- The commits that wait at the arbiter complete, in their order; the tasks that have ended by them. -/
def commitAll : Nat → State → List Nat → State × List Nat
  | 0, s, ks => (s, ks)
  | n + 1, s, ks => match nextCommit s with
    | some (k, e) => commitAll n (commitDone k e s) (ks ++ [k])
    | none => (s, ks)

/-- What comes before a freeze in its cycle: the slots that fire in it (07 R200), and the commits requested by then, which complete
first (01 R20), with the releases that had waited for them. -/
def freezeReady (s : State) : State :=
  let r := commitAll 256 (fireDue s) []
  r.2.foldl (fun s k => mergedRelease k s) r.1

/-! ### Triggers of the control engine (08 R211, R212): its own freeze follows what else the cycle brings (01 R20) -/

/-- CE_RATE_TRIGGER (08 R211). -/
def execCeRateTrigger (loop : Fin 512) (s : State) : Host.Outcome State Fault Refusal :=
  .next (ceBoundary loop.val (ceRateDue loop.val) (fun s => ceTrigger loop.val (freezeReady s)) s)

/-- CE_SUPANG_TRIGGER (08 R211). -/
def execCeSupangTrigger (loop : Fin 512) (s : State) : Host.Outcome State Fault Refusal :=
  .next (ceBoundary loop.val (ceSupangDue loop.val) (fun s => ceSupangTrigger loop.val (freezeReady s)) s)

/-! ### Releases by the grid and by events -/

/-- A pair time lies on the grid of a cyclic entry, whose first instant is its origin A + OFFSET (the model's choice, log 119). -/
def onGrid (s : State) (par : Word) (t : Int) : Bool :=
  match s.task.gridA with
  | none => false
  | some a => fld par 17 0 != 0 && decide ((a : Int) ≤ t) && (t - (a + fld par 47 30 * 50000 : Nat)) % ((fld par 17 0 * 50000 : Nat) : Int) == 0

/-- The first instant of the old grid after a transition began (R155). -/
def gridAfterB (s : State) (par : Word) : Int :=
  match s.task.gridA with
  | none => 0
  | some a =>
    let b : Int := s.ovl.bAt + s.pair.ofs
    b + ((a + fld par 47 30 * 50000 : Nat) - b) % ((fld par 17 0 * 50000 : Nat) : Int)

/-- A cyclic release falls due now: on the grid in force, or on the new one from the next instant of the old on. -/
def cyclicDue (s : State) (k : Nat) : Bool :=
  let e := taskEnt s k
  let n := (nextEntry s k).2.1
  if n = e.par then onGrid s e.par (ptime s)
  else
    let at_ := if (taskUnit s k).isSome then gridAfterB s e.par else (e.nextAt : Int)
    onGrid s n (ptime s) && decide (at_ ≤ ptime s)

/-- CYCLIC_RELEASE (R127). -/
def execCyclicRelease (task : Fin 256) (s : State) : Host.Outcome State Fault Refusal :=
  let k := task.val
  let r := freezeReady s
  .next (if taskKind (taskEnt r k) == 1 && mayRelease r k && (taskEx r k).isNone && (taskEnt r k).lastRel != some r.clk && cyclicDue r k then
    releaseAt k r else s)

/-- EVENT_TASK_RELEASE (R128, 01 R32). The source's pending bit is cleared before SEG7 is latched, an order that 01 R28 and R32 leave
open (the model's choice, log 94). -/
def execEventTaskRelease (task : Fin 256) (s₀ : State) : Host.Outcome State Fault Refusal :=
  let k := task.val
  let s := freezeReady s₀
  let e := taskEnt s k
  let a := (taskAccepted e).2.1
  let src := fld a 8 0
  let gap := match e.lastRel with | some t => decide (t + fld a 47 30 * 50000 ≤ s.clk) | none => true
  .next (if taskKind e == 2 && mayRelease s k && (taskEx s k).isNone && evtPending s src && gap then releaseAt k (takeSource src s) else s₀)

/-! ### Releases that merge (R129 to R131) -/

/-- A merged release falls due n times: at once where the task is idle, else it waits for the end of the execution; while releases are
held it waits as well (15 R384, R390). A standby counts none but in a handover. -/
def dueRelease (k n : Nat) (s : State) : State :=
  if n = 0 || (s.pair.rstate == 5 && s.pair.handover.isNone) then s
  else if (taskEx s k).isSome || (releaseHeld s && couldRelease s k) then
    updTask k (fun e => { e with due := e.due + n }) s
  else
    let r := freezeReady s
    if mayRelease r k then updTask k (fun e => { e with due := n - 1 }) (releaseAt k r) else s

/-- Merged releases that were held take place once releases are held no more (15 R384, R390). -/
def heldReleases (s : State) : State :=
  ((s.task.ent.filter (fun e => e.2.due != 0)).map (·.1)).foldl (fun s k =>
    if (taskEx s k).isNone && mayRelease s k then mergedRelease k (freezeReady s) else s) s

/-- Multiples of INTERVAL that LINEPOS has crossed from a to b, in the order of crossing. -/
def crossed (i a b : Int) : List Int :=
  if i ≤ 0 then []
  else if a < b then (List.range (b.fdiv i - a.fdiv i).toNat).map (fun j => a.fdiv i + 1 + j)
  else (List.range ((a - 1).fdiv i - (b - 1).fdiv i).toNat).map (fun (j : Nat) => (a - 1).fdiv i - (j : Int))

/-- POSITION_INTERVAL_RELEASE (R129). -/
def execPositionIntervalRelease (task : Fin 256) (s : State) : Host.Outcome State Fault Refusal :=
  let k := task.val
  let e := taskEnt s k
  let p := (dueEntry s k).2.1
  let dir := fld p 47 46
  let ok := if e.posSeen < s.tb.pos then dir == 1 || dir == 3 else dir == 2 || dir == 3
  let ms := (crossed (fld p 25 0 : Nat) e.posSeen s.tb.pos).filter (fun m => e.posHold != some m)
  let n := if ok then ms.length else 0
  let takes := n != 0 && couldRelease s k
  .next (if taskKind e != 3 then s
    else dueRelease k n (updTask k (fun e => { e with posSeen := s.tb.pos, posHold := if takes then ms.getLast? else e.posHold }) s))

/-- The supply-cycle release falls due: by the angle while SUPANG is locked or in holdover, else every FB_PERIOD (R130). -/
def supplyDue (s : State) (k : Nat) : Bool :=
  let e := taskEnt s k
  let p := (dueEntry s k).2.1
  let n := b2n (bit p 47)
  let m := getMains s n
  let a := supang s n
  let c := a / 65536
  if m.state = 2 || m.state = 3 then c % (fld p 46 39 + 1) == 0 && fld p 38 23 ≤ a % 65536 && e.cycSeen != some c
  else
    let base := e.lastRel.getD (Nat.max (s.task.dispAt.getD 0) m.leftAt)
    let fb := fld p 17 0 * 50000
    fb != 0 && base < s.clk && (s.clk - base) % fb == 0

/-- SUPPLY_CYCLE_RELEASE (R130). -/
def execSupplyCycleRelease (task : Fin 256) (s : State) : Host.Outcome State Fault Refusal :=
  let k := task.val
  let n := b2n (bit (dueEntry s k).2.1 47)
  .next (if taskKind (taskEnt s k) == 4 && supplyDue s k then
    let locked := (getMains s n).state == 2 || (getMains s n).state == 3
    dueRelease k 1 (updTask k (fun e => { e with cycSeen := if locked then some (supang s n / 65536) else none }) s) else s)

/-! ### Commit (R137, R138) -/

/-- A standby's replay commits in the order of the primary's COMMIT records, once it has been compared (15 R380, R383). -/
def replayCommit (k : Nat) (e : Ex) (s : State) : State :=
  match s.pair.commits with
  | [] => s
  | c :: cs =>
    if c.task ≠ k then s
    else
      let v := checkValue (exWords e) e.posts 0
      if c.check = v && c.cause = 0 then
        let ws := exWords e
        wdgCommit k ws (settle (updPair (fun p => { p with commits := cs, lastCommit := c.num }) (dispatch (commitEx k e s))))
      else diverge k (divergeKind c.cause 0) c.check v s

/-- COMMIT_COMPLETE (R137, R138): the commit is done, and what fell due meanwhile is released, after the other commits that wait. A
value job that waits for this anchor does not step in between (the model's choice, log 119). -/
def execCommitComplete (task : Fin 256) (s : State) : Host.Outcome State Fault Refusal :=
  let k := task.val
  match taskEx s k with
  | none => .next s
  | some e =>
    if e.phase ≠ 3 then .next s
    else if e.replay && s.pair.rstate == 5 then .next (replayCommit k e s)
    else if !firstCommit s k e then .next s
    else
      let r := commitDone k e s
      .next (if (taskEnt r k).due = 0 then r else mergedRelease k (freezeReady r))

end Sys2Proof.Machine
end

