-- ==== Sys2Proof/Machine/PairSwap.lean ====
section
/-! DEFINITION. Resynchronisation, handover and the program swap of a pair (15 R384, R388 to R390, R393). -/

namespace Sys2Proof.Machine

/-! ### Resync rounds (R384) -/

/-- A cyclic release falls due within 100 µs. -/
def cyclicSoon (s : State) : Bool :=
  (List.range 256).any (fun k =>
    let p := (nextEntry s k).2.1
    let per : Int := (fld p 17 0 * 50000 : Nat)
    taskKind (taskEnt s k) == 1 && mayRelease s k && per != 0 && (match s.task.gridA with
      | some a => decide ((((a + fld p 47 30 * 50000 : Nat) : Int) - ptime s) % per < 100000)
      | none => false))

/-- Loops with u_a, x̂, q and status word, as a page carries them; a loop that the page does not list has none. -/
def pageLoops (r : ResyncPage) (s : State) : State :=
  let clear := fun (x : CeLoop) => { x with ua := [], xh := [], q := [], status := 0#48 }
  let s := (s.ce.loop.map (·.1)).foldl (fun s n => updLoop n clear s) s
  r.loops.foldl (fun s e => updLoop e.1 (fun x => { x with ua := e.2.1, xh := e.2.2.1, q := e.2.2.2.1, status := e.2.2.2.2 }) s) s

/-- The service state (09 R234): alarms, meters, what the programmes have committed last; the access lists become the primary's,
without what it has deleted. -/
def pageServices (r : ResyncPage) (s : State) : State :=
  let s := svcTake r.alarms r.meters s
  { s with svc := { s.svc with
      wpg := r.programmes.foldl (fun t e => tupd none e.1 (fun x => x.map (fun g => { g with last := e.2.1, lastAt := e.2.2 })) t) s.svc.wpg
      list := r.entries.foldl (fun t e => tput none e.1 (some e.2) t) [] } }

/-- The committed image becomes the primary's: a word that the page does not list is 0. -/
def pageImage (r : ResyncPage) (s : State) : State :=
  let gone := (s.img.word.map (·.1)).filter (fun w => !r.image.any (fun e => e.1 == w))
  r.image.foldl (fun s e => imgSet e.1 e.2 s) (gone.foldl (fun s w => imgSet w 0#48 s) s)

/-- Data-store words put as they come. -/
def pageData (ws : List (Nat × Word)) (s : State) : State :=
  { s with core := { s.core with data := ws.foldl (fun t e => wput e.1 e.2 t) s.core.data } }

/-- MODE on the channels of the tenants whose tenant mode is another than before (02 R63). -/
def latchModes (before : State) (s : State) : State :=
  ((List.range 32).filter (fun t => tenMode before t != tenMode s t)).foldl (fun s t => latchTenant t bitMODE s) s

/-- Slots with target, status word and stamp; the primary's force records in place of the unit's own; the device's and the tenants'
modes; the grid origin (R381). -/
def pageRest (r : ResyncPage) (s : State) : State :=
  latchModes s <|
  let s := (s.slot.map (·.1)).foldl (fun s n => updSlot n (fun x => { x with tgt := 0#48, sts := 0#48, dt := 0#48 }) s) s
  let s := r.slots.foldl (fun s e => updSlot e.1 (fun x => { x with tgt := e.2.1, sts := e.2.2.1, dt := e.2.2.2 }) s) s
  { s with task := { s.task with
      force := r.forces.foldl (fun t e => tput none e.1 (some { mask := e.2.1, value := e.2.2.1, free := e.2.2.2.1, until_ := if e.2.2.2.2 = 0 then 0 else s.clk + e.2.2.2.2 }) t) []
      dev := r.modes.headD s.task.dev
      ten := (r.modes.drop 1).zip (List.range 32) |>.foldl (fun t e => tput 2 e.2 e.1 t) s.task.ten
      gridA := some r.grid } }

/-- The final round has come: with equal versions (R388) STANDBY, source 109, Gleaner 0x0E07 and the answer of a command that waited. -/
def resyncDone (s : State) : State :=
  let c := pairMismatch s
  if c.1 != 0 then mismatched c s
  else
    let ch := s.pair.waitCh
    let s := setRstate 5 (updPair (fun p => { p with resync := none, retryAt := none, failed := 0, resyncs := p.resyncs + 1, waitCh := none }) s)
    pairAnswer ch rcOk (pairGln 0x0E07 0 s.pair.pages (fire 109 s))

/-- Program image that was in force before BEGIN (R389). -/
def swapOldProg (s : State) : Prog :=
  if s.pair.swapProg = s.flash.boot.prog then s.prog else ((validContent s 2 s.pair.swapProg).bind (progOf s)).getD s.prog

/-- The key that the retention map of the new image gives a retentive word of the old one (05 R158, 16 R416, 17 R424). -/
def mapKey (p q : Prog) (key : Nat) : Option Nat :=
  if key < dsKey 2 0 0 || dsKey 2 32 0 ≤ key then none
  else
    let t := (key - dsKey 2 0 0) / 2 ^ 21
    let o := (key - dsKey 2 0 0) % 2 ^ 21
    (p.retain.find? (fun x => x.tenant == t && x.offset ≤ o && o < x.offset + x.length)).bind (fun x =>
      (q.retain.find? (fun r => r.tenant == t && r.symbol == x.symbol && r.length == x.length)).map (fun r => dsKey 2 t (r.offset + (o - x.offset))))

/-- Tenants in RUN or HOLD start warm with the new program. -/
def warmAll (s : State) : State :=
  (List.range 32).foldl (fun s t => if effMode s t = 2 || effMode s t = 3 then warmStart false t s else s) s

/-- What a unit in SWAP takes of the primary's state: the committed image, retentive words through the map, loops, services. At PREVIEW
the new program starts warm on them and runs; at COMMIT this is the primary's last state (R389, Table 15-9 step 3). -/
def swapPage (r : ResyncPage) (s : State) : State :=
  let p := swapOldProg s
  let ws := r.dataWords.filterMap (fun e => (mapKey p s.prog e.1).map (fun k => (k, e.2)))
  let s := pageServices r (pageLoops r (pageData ws (pageImage r s)))
  if s.pair.swap = 2 then updPair (fun p => { p with swap := 3 }) (warmAll s)
  else updPair (fun p => { p with handover := p.handover.map (fun h => { h with paged := some s.clk }) }) s

/-- Pages of 1,024 data-store words that words lie in. -/
def pageCount (ws : List (Nat × Word)) : Nat := (ws.map (fun e => e.1 / 1024)).dedup.length

/-- A round that comes while a unit is in SYNCING; the first one gives the whole data store. -/
def takePage (r : ResyncPage) (s : State) : State :=
  let s := if s.pair.paged then s else { s with core := { s.core with data := [] } }
  let s := updPair (fun p => { p with pages := p.pages + pageCount r.dataWords, paged := true }) s
  let s := pageRest r (pageServices r (pageLoops r (pageData r.dataWords (pageImage r s))))
  if r.final then resyncDone s else s

/-- Words of the data store in the pages written since they were sent: those that differ from what was sent, with the rest of their
pages (R384). -/
def pagesToSend (sent : Tab Word) (s : State) : List (Nat × Word) :=
  let keys := ((sent.map (·.1)) ++ (s.core.data.map (·.1))).dedup
  let pages := ((keys.filter (fun k => wget sent k != wget s.core.data k)).map (· / 1024)).dedup
  (keys.filter (fun k => pages.contains (k / 1024))).map (fun k => (k, wget s.core.data k))

/-- The state of the device as a round gives it, with these words of the data store (R384). -/
def ownPage (final : Bool) (ws : List (Nat × Word)) (s : State) : ResyncPage :=
  { final, dataWords := ws, image := s.img.word
    loops := s.ce.loop.map (fun e => (e.1, e.2.ua, e.2.xh, e.2.q, e.2.status))
    slots := s.slot.map (fun e => (e.1, e.2.tgt, e.2.sts, e.2.dt))
    forces := s.task.force.filterMap (fun e => e.2.map (fun f => (e.1, f.mask, f.value, f.free, f.until_ - s.clk)))
    modes := s.task.dev :: (List.range 32).map (tenMode s)
    alarms := s.svc.alm.filterMap (fun e => e.2.map (fun a => (e.1, almState s a)))
    meters := s.svc.mtr.filterMap (fun e => e.2.map (fun x => (e.1, mtrState s e.1 x)))
    entries := s.svc.list.filterMap (fun e => e.2.map (fun a => (e.1, a)))
    programmes := s.svc.wpg.filterMap (fun e => e.2.map (fun g => (e.1, g.last, g.lastAt)))
    grid := s.task.gridA.getD 0 }

/-- A round that the primary sends: the final one only while no execution runs, no cyclic release is near, and the remaining pages fit
in 100 µs at a byte per ns (R384). -/
def sendPage (final : Bool) (s : State) : State :=
  let ws := pagesToSend s.pair.sentData s
  let n := pageCount ws
  if final && !(liveTasks s == [] && !cyclicSoon s && n * 6144 ≤ 100000) then s
  else emit (.page (ownPage final ws s)) (updPair (fun p => { p with
    pages := p.pages + n, sentData := s.core.data, finalSent := p.finalSent || final, finalAt := if final then s.clk else p.finalAt }) s)

/-- The state that a primary sends to a partner in the swap (R389). -/
def sendSwapPage (s : State) : State := emit (.page (ownPage true (pagesToSend [] s) s)) s

/-- RESYNC_ROUND: at a primary the round it sends, of whose operand only `final` counts, since it sends its own state; at the other unit
the round that comes. -/
def execResyncRound (r : ResyncPage) (s : State) : Host.Outcome State Fault Refusal :=
  .next (if !pairRuns s then s
    else match s.pair.rstate with
      | 2 => if s.pair.resync.isSome && !finalRound s then sendPage r.final s
        else if s.pair.pRstate = 7 && s.pair.handover.isNone then sendSwapPage s
        else s
      | 4 => if s.pair.resync.isSome && serves2 s.pair.pRstate then takePage r s else s
      | 7 => if s.pair.swap = 2 || (s.pair.swap == 3 && s.pair.handover.isSome) then swapPage r s else s
      | _ => s)

/-- An abandoned resync: 0x0E07, the next attempt in 1 s, DETACHED with cause 6 after the third failure. -/
def resyncAbandon (s : State) : State :=
  let s := pairGln 0x0E07 2 s.pair.pages s
  if s.pair.rstate = 4 then
    let n := s.pair.failed + 1
    if 3 ≤ n then toDetached 6 (updPair (fun p => { p with failed := 0 }) s)
    else updPair (fun p => { dropMirror p with failed := n, resync := none, retryAt := some (s.clk + 1000000000) }) s
  else updPair (fun p => { dropSent p with retryAt := some (s.clk + 1000000000) }) s

/-- RESYNC_TIMEOUT: 10 s since the beginning. -/
def execResyncTimeout (s : State) : Host.Outcome State Fault Refusal :=
  .next (match s.pair.resync with
    | some t => if pairRuns s && decide (t + 10000000000 ≤ s.clk) then resyncAbandon s else s
    | none => s)

/-- RESYNC_RETRY: 1 s after an abandoned resync. -/
def execResyncRetry (s : State) : Host.Outcome State Fault Refusal :=
  .next (match s.pair.retryAt with
    | none => s
    | some t =>
      if !pairRuns s || s.clk < t then s
      else if s.pair.rstate = 4 then
        updPair (fun p => { rxFresh (dropMirror p) with resync := some s.clk, pages := 0, retryAt := none, ownBuf := ioFilled s }) s
      else if s.pair.rstate = 2 && s.pair.pRstate = 4 then
        resyncBegin s
      else updPair (fun p => { p with retryAt := none }) s)

/-! ### Handover (R390, Table 15-9) -/

/-- The old primary at H: STANDBY without a resync, because the two states are equal. -/
def handOver (h : Handover) (s : State) : State :=
  let s := setRstate 5 (updPair (fun p => { rxFresh (dropMirror p) with handover := none }) s)
  pairAnswer h.ch rcOk (updPair (fun p => { p with ownBuf := ioFilled s }) s)

/-- The new primary at H. -/
def takeOver (h : Handover) (s : State) : State :=
  if h.swap then
    let s := takeover 1 2 { s with flash := { s.flash with swapBack := none } }
    pairAnswer h.ch rcOk (pairGln 0x0E0A 3 rcOk s)
  else takeover 1 3 s

/-- Nothing of the unit's own is under way any more (Table 15-9 step 2). -/
def handoverIdle (s : State) : Bool := liveTasks s == [] && s.pair.releases == [] && s.pair.commits == []

/-- A handover by COMMIT: the primary sends its last state once nothing runs any more, and 510 µs later detaches; the unit in SWAP takes
service over 510 µs after it has taken that state, or at once where its partner no longer serves (R389, Table 15-9). -/
def swapHandover (h : Handover) (s : State) : State :=
  match h.paged with
  | none =>
    if s.pair.rstate = 2 then sendSwapPage (updPair (fun p => { p with handover := some { h with paged := some s.clk } }) s)
    else if s.pair.rstate = 7 && !serves2 s.pair.pRstate then takeOver h s
    else s
  | some t =>
    if s.clk < t + 510000 then s
    else if s.pair.rstate = 2 then toDetached (if s.pair.pFw ≠ s.flash.fwVersion then 1 else 2) s
    else if s.pair.rstate = 7 then takeOver h s
    else s

/-- HANDOVER_READY: H is 10 µs after the last execution has committed, for a swap 500 µs more. -/
def execHandoverReady (s : State) : Host.Outcome State Fault Refusal :=
  .next (match s.pair.handover with
    | none => s
    | some h =>
      if !pairRuns s || !handoverIdle s then s
      else if h.swap then swapHandover h s
      else if s.clk < h.at_ + 10000 then s
      else if s.pair.rstate = 3 then (if s.pair.unacked = [] then handOver h s else s)
      else if s.pair.rstate = 5 then takeOver h s
      else s)

def mbPairResync (t ch : Nat) (p : Bytes) (s : State) : MbR := do
  perm (t == 0)
  lenIs p 0
  stOwn s (s.pair.rstate == 6 && !causeHolds s)
  let s := updPair (fun x => { x with waitCh := some ch, failed := 0, mcause := 0 }) s
  defer (toSyncing s)

def mbPairSwitch (t ch : Nat) (p : Bytes) (s : State) : MbR := do
  perm (t == 0)
  lenIs p 0
  stOwn s (s.pair.rstate == 3 && s.pair.handover.isNone)
  defer (updPair (fun x => { x with handover := some ⟨s.clk, some ch, false, none⟩ }) s)

/-! ### The program swap (R389) -/

/-- The bank of a region that the swap has loaded: the valid one not in force, of higher generation. -/
def loadedBank (s : State) (region now : Nat) : Nat :=
  match regionCopy s region (1 - now) with
  | none => now
  | some c =>
    let g := match regionCopy s region now with | some d => d.gen | none => 0
    if c.valid && g < c.gen then 1 - now else now

/-- A reset that brings the firmware bank into force follows the answer by 100 ms (16 R410). -/
def bankReset (s : State) : State := { s with ovl := { s.ovl with resetAt := some (s.clk + 100000000) } }

/-- The program and firmware banks put in force; none where what they hold fails its checks. -/
def swapBanks (fw prog : Nat) (trial : Bool) (s : State) : Except Nat State := do
  let b := s.flash.boot
  let q ← if prog = b.prog then .ok s.prog else bankProg s prog
  need (bootFits s) rcNoResource
  let s := { s with flash := { s.flash with prevFw := b.fw, trialStarts := 0 } }
  let s := putBoot fw prog (if fw = b.fw then b.trial else trial) s
  if prog = b.prog then .ok s else .ok (gln 0x0F14 3 0 2 s.flash.boot.gen (activateProg q s))

def swapBegin (s : State) : Except Nat State := do
  need (s.pair.rstate == 5 && s.pair.handover.isNone) rcBadState
  let own := s.pair.ownBuf
  let s := setRstate 7 (updPair dropMirror s)
  .ok (updPair (fun p => { p with swap := 1, swapFw := s.flash.boot.fw, swapProg := s.flash.boot.prog, ownBuf := own }) s)

/-- PREVIEW: the activation of R410 on the standby; the unit comes back in SWAP where its firmware changes. The new program starts when
the primary's state has come (`swapPage`). -/
def swapPreview (s : State) : Except Nat State := do
  need (s.pair.rstate == 7 && s.pair.swap == 1 && s.ovl.job.isNone) rcBadState
  let b := s.flash.boot
  let (fw, prog) := (loadedBank s 1 b.fw, loadedBank s 2 b.prog)
  need (fw != b.fw || prog != b.prog) rcBadState
  let s ← swapBanks fw prog true s
  if fw = b.fw then .ok (updPair (fun p => { p with swap := 2 }) s)
  else .ok (bankReset { s with flash := { s.flash with swapBack := some (b.fw, b.prog) } })

/-- COMMIT: a handover. -/
def swapCommit (ch : Nat) (s : State) : Except Nat State := do
  need (s.pair.rstate == 7 && s.pair.swap == 3 && s.pair.handover.isNone) rcBadState
  .ok (updPair (fun p => { p with handover := some ⟨s.clk, some ch, true, none⟩ }) s)

/-- ABORT: the banks of before BEGIN, and SYNCING. -/
def swapAbort (s : State) : Except Nat State := do
  need (s.pair.rstate == 7 && s.pair.handover.isNone) rcBadState
  let fwNow := s.flash.boot.fw
  let s := { s with flash := { s.flash with swapBack := none }, ovl := { s.ovl with staging := none } }
  let s ← if 2 ≤ s.pair.swap then swapBanks s.pair.swapFw s.pair.swapProg false s else .ok s
  .ok (if s.flash.boot.fw = fwNow then toSyncing s else bankReset (toSyncing s))

/-- A swap step runs; each that ends now writes Gleaner 0x0E0A with its result code, COMMIT at H (R389, R392). -/
def mbPairSwap (op : Nat) (t ch : Nat) (p : Bytes) (s : State) : MbR := do
  perm (t == 0)
  formLen p 0 [(1, 1), (2, 1), (3, 1), (4, 1)]
  need (u8 p 0 != op || !updating s) rcBadState
  par (u8 p 0 == op)
  let r := match op with
    | 1 => swapBegin s
    | 2 => swapPreview s
    | 3 => swapCommit ch s
    | _ => swapAbort s
  match r with
  | .error rc => .ok ⟨rc, some [], pairGln 0x0E0A op rc s⟩
  | .ok s' => if op = 3 then defer s' else done (pairGln 0x0E0A op rcOk s')

/-- The row of one operation byte of MB_PAIR_SWAP: a request with another listed one is another row's. -/
def swapRow (op : Nat) (ch : Fin 16) (p : Bytes) (s : State) : Host.Outcome State Fault Refusal :=
  if 1 ≤ u8 p 0 ∧ u8 p 0 ≤ 4 ∧ u8 p 0 ≠ op then .next s else runMb ch 0x0A05 (mbPairSwap op) p s

def execMbPairResync (ch : Fin 16) (p : Bytes) (s : State) : Host.Outcome State Fault Refusal := runMb ch 0x0A03 mbPairResync p s
def execMbPairSwitch (ch : Fin 16) (p : Bytes) (s : State) : Host.Outcome State Fault Refusal := runMb ch 0x0A04 mbPairSwitch p s
def execMbPairSwapBegin (ch : Fin 16) (p : Bytes) (s : State) : Host.Outcome State Fault Refusal := swapRow 1 ch p s
def execMbPairSwapPreview (ch : Fin 16) (p : Bytes) (s : State) : Host.Outcome State Fault Refusal := swapRow 2 ch p s
def execMbPairSwapCommit (ch : Fin 16) (p : Bytes) (s : State) : Host.Outcome State Fault Refusal := swapRow 3 ch p s
def execMbPairSwapAbort (ch : Fin 16) (p : Bytes) (s : State) : Host.Outcome State Fault Refusal := swapRow 4 ch p s

end Sys2Proof.Machine
end

