-- ==== Sys2Proof/Machine/Registers.lean ====
section
/-! DEFINITION. Writes of registers that have no command of their own (00 R15 to R17, 01 Tables 1-8, 1-9, 08 R218, 11 R299). -/

namespace Sys2Proof.Machine

/-- EVT_SRC[n] written: TASK, BOUND, ENABLE, and OWNER where it is not fixed; OVF and the reserved bits keep what they hold. -/
def writeEvtSrc (n : Nat) (v : Word) (s : State) : State :=
  let m : Word := if (evtFixed n).isSome then 0x0000FFC00000#48 else 0x0000FFC0001F#48
  setEvtSrc n ((evtSrc s n &&& ~~~m) ||| (v &&& m)) s

/-- REGISTER_WRITE: each field acts by its access code. EVT_PEND clears where 1 is written, CE_FLAG is cleared by its command
alone (08 R218), SF_MAP takes blocks where R299 wants them and keeps its value otherwise (R17), and a read-only register ignores
the write. -/
def execRegisterWrite (reg : RegName) (value : Word) (s : State) : Host.Outcome State Fault Refusal :=
  .next (match reg with
    | .evtPend k => (List.range 48).foldl (fun s i => if bit value i then setPending (48 * k.val + i) false s else s) s
    | .evtSrc n => writeEvtSrc n.val value s
    | .ceFlag _ => s
    | .sfMap => (sfMapItem ⟨0, 0, toBe 2 1 ++ wB value⟩ s).2
    | .readOnly _ _ => s)

end Sys2Proof.Machine
end

