-- ==== Sys2Proof/Machine/SupRows.lean ====
section
/-! DEFINITION. Supply, temperature, hold-up, throttle, resets, sleep and wake (18 R441 to R462, 12 R318 to R320, 01 R26,
15 R371), but for the start-up that the release of reset begins. -/

namespace Sys2Proof.Machine

/-! ### Supply (18 R442 to R445) -/

/-- A rail of Table 18-1 is measured. -/
def setRail (n mv : Nat) (s : State) : State := { s with aon := { s.aon with rails := s.aon.rails.set n mv } }

/-- Warning thresholds of Table 18-1 in mV, as 0x1105 numbers the rails. -/
def warnRail (n : Nat) : Nat := [800, 800, 1050, 1710, 3135].getD n 0

/-- RAIL_WARNING: a rail below its warning threshold for 10 µs, or above it again for 1 ms (R442). -/
def execRailWarning (rail : Fin 5) (below : Bool) (mv : Nat) (s : State) : Host.Outcome State Fault Refusal :=
  let r := rail.val
  let was := tget false s.aon.railLow r
  if below != decide (mv < warnRail r) then .next s
  else
    let s := setRail r mv s
    let s := { s with aon := { s.aon with
      railLow := tput false r below s.aon.railLow
      railUpAt := if was && !below then tput 0 r (absNow s - 1000000) s.aon.railUpAt else s.aon.railUpAt } }
    .next (if !fioRuns s || was == below then s
      else
        let s := if below then fire 357 s else s
        gln 0x1105 3 0 (r * 2 + b2n below : Nat) mv s)

/-- Rails of the supply monitor's details: VDD_CORE, VDD_DDR, VDD18, VDD33 (Table 18-2), with their reset thresholds in mV. -/
def monitorRail (n : Nat) : Nat × Nat := [(0, 720), (2, 1020), (3, 1620), (4, 2970)].getD n (0, 720)

/-- SUPPLY_MONITOR_RESET: a rail below its reset threshold for 2 µs (R442). In SLEEP only VDD33 stands. -/
def execSupplyMonitorReset (rail : Fin 4) (mv : Nat) (s : State) : Host.Outcome State Fault Refusal :=
  let (r, lim) := monitorRail rail.val
  if lim ≤ mv || s.aon.inReset || (s.sup.asleep && rail.val != 3) then .next s
  else
    let s := setRail r mv s
    .next (selfFault 2 rail.val { s with aon := { s.aon with railLow := tput false r true s.aon.railLow } })

/-- SAFETY_DOMAIN_RESET: VDD_SAFE below 0.740 V resets the safety domain alone (R442); 0x110C waits for the device to run. -/
def execSafetyDomainReset (mv : Nat) (s : State) : Host.Outcome State Fault Refusal :=
  if 740 ≤ mv || s.sup.asleep then .next s
  else
    let s := setRail 1 mv s
    let s := safOff { s with saf := { s.saf with power := false } }
    .next (if s.aon.inReset then
        { s with aon := { s.aon with safReset := some (match s.aon.safReset with | some m => Nat.min m mv | none => mv) } }
      else gln 0x110C 3 0 mv 0 s)

/-- SAFETY_DOMAIN_POWER_UP: the channel starts again with its domain (R442, 11 R273). -/
def execSafetyDomainPowerUp (s : State) : Host.Outcome State Fault Refusal :=
  if s.saf.state != 0 || s.sup.asleep then .next s
  else .next (safStart { s with saf := { s.saf with power := true } })

/-- TEMPERATURE_SAMPLE (R443): the warning at its begin and its end. -/
def execTemperatureSample (mC : Int) (s : State) : Host.Outcome State Fault Refusal :=
  let s := { s with aon := { s.aon with temp := mC, coolAt := if mC < 115000 then s.aon.coolAt.or (some (absNow s)) else none } }
  if !fioRuns s then .next s
  else if decide (120000 < mC) && !s.sup.tempWarn then
    .next (gln 0x110A 3 0 1 mC (fire 355 { s with sup := { s.sup with tempWarn := true } }))
  else if decide (mC ≤ 120000) && s.sup.tempWarn then
    .next (gln 0x110A 3 0 0 mC { s with sup := { s.sup with tempWarn := false } })
  else .next s

/-- TEMPERATURE_CRITICAL: above 130 °C for 10 ms (R443). -/
def execTemperatureCritical (s : State) : Host.Outcome State Fault Refusal :=
  if fioRuns s && decide (130000 < s.aon.temp) then .next (selfFault 5 0 (gln 0x110A 3 0 2 s.aon.temp (fire 356 s)))
  else .next s

/-- HOLD_UP_BEGIN: PWR_FAIL_N low for 2 µs (R444): the flag, the snapshots of every tenant, the accumulators. -/
def execHoldUpBegin (s : State) : Host.Outcome State Fault Refusal :=
  if !fioRuns s || s.sup.holdUp then .next s
  else
    let at_ := umod 48 (ptime s - 2000)
    let s := fire 358 { s with sup := { s.sup with holdUp := true, holdUpAt := at_ }, silo := { s.silo with holdUp := true } }
    .next (enSave (holdSnapshots (gln 0x1107 3 0 1 at_ s)))

/-- HOLD_UP_END: PWR_FAIL_N high for 100 ms (R444). -/
def execHoldUpEnd (s : State) : Host.Outcome State Fault Refusal :=
  if !fioRuns s || !s.sup.holdUp then .next s
  else .next (gln 0x1107 3 0 0 s.sup.holdUpAt { s with sup := { s.sup with holdUp := false }, silo := { s.silo with holdUp := false } })

/-- THROTTLE_BEGIN: VDD_CORE below 0.765 V for 5 µs (R445). -/
def execThrottleBegin (mv : Nat) (s : State) : Host.Outcome State Fault Refusal :=
  if !fioRuns s || s.sup.throttled || 765 ≤ mv then .next s
  else
    let s := setRail 0 mv s
    let s := { s with sup := { s.sup with throttled := true, throttleAt := devtime s, throttles := (s.sup.throttles + 1) % 2 ^ 32 } }
    .next (gln 0x1106 3 0 1 mv (latchAll bitTHR (fire 353 s)))

/-- THROTTLE_END: VDD_CORE at or above 0.790 V for 1 ms (R445). -/
def execThrottleEnd (mv : Nat) (s : State) : Host.Outcome State Fault Refusal :=
  if !fioRuns s || !s.sup.throttled || mv < 790 then .next s
  else
    let s := setRail 0 mv s
    let us := umod 48 ((devtime s : Int) - s.sup.throttleAt) / 1000
    .next (gln 0x1106 3 0 0 us (fire 354 { s with sup := { s.sup with throttled := false } }))

/-! ### Resets (18 R446, 01 R26, 15 R371) -/

/-- RESET_N_ASSERT: RESET_N low for 1 µs. -/
def execResetNAssert (s : State) : Host.Outcome State Fault Refusal :=
  .next (deviceReset 7 0 { s with aon := { s.aon with resetN := false, pwrEn := true } })

/-- MB_RESET_TIMER: 100 ms after the reply to MB_RESET (R463). -/
def execMbResetTimer (s : State) : Host.Outcome State Fault Refusal :=
  match s.sup.resetAt with
  | some (t, ch) => if t ≤ s.clk then .next (selfFault 8 ch s) else .next s
  | none => .next s

/-- UNCORRECTABLE_MEMORY_ERROR outside a task: 0 program store, 1 data store, 2 firmware memory (15 R371, Table 18-2). -/
def execUncorrectableMemoryError (kind : Fin 3) (s : State) : Host.Outcome State Fault Refusal :=
  .next (if fioRuns s then selfFault 6 kind.val s else s)

/-- REFCLK is missing (period 0) or its frequency is off 25 MHz by more than 2 % (01 R26). -/
def refclkBad (periodPs : Nat) : Bool := periodPs * 102 < 4000000 || 4000000 < periodPs * 98

/-- REFCLK_FAIL (01 R26). -/
def execRefclkFail (periodPs : Nat) (s : State) : Host.Outcome State Fault Refusal :=
  .next (if fioRuns s && refclkBad periodPs then selfFault 4 0 (gln 0x0110 3 0 periodPs (devtime s) s) else s)

/-- PLL_LOCK_LOSS: the core, system or time PLL resets the device (01 R26); the safety (3) or serial (4) PLL is reported (01 R35). -/
def execPllLockLoss (pll : Fin 5) (s : State) : Host.Outcome State Fault Refusal :=
  .next (if fioRuns s then
      let s := gln 0x0111 3 0 pll.val (devtime s) s
      if pll.val < 3 then selfFault 4 (1 + pll.val) s else s
    else s)

/-! ### Sleep and wake (18 R458 to R462, 12 R318 to R320) -/

/-- A wake event: bit of WAKE_CAUSE and code of FIRST (R461). Events of one 1 µs cycle take the lowest code; HOST_WAKE goes
high at the first event other than a host resume that sets a bit (R462). -/
def wakeEvent (b code : Nat) (s : State) : State :=
  if !s.aon.wakeOpen then s
  else
    let w := s.aon.wakeCause
    let first := fld w 47 44
    let same := match s.aon.wakeStart with | some t => t / 1000 == absNow s / 1000 | none => true
    let w' := setFld (setBit w b true) 47 44 (if first = 0 || (same && code < first) then code else first)
    { s with aon := { s.aon with
      wakeCause := w', wakeStart := s.aon.wakeStart.or (some (absNow s))
      hostWake := s.aon.hostWake || (code != 1 && fld w 5 0 == 0 && !bit w b) } }

/-- HOST_RESUME (R459). -/
def execHostResume (s : State) : Host.Outcome State Fault Refusal := .next (wakeEvent 6 1 s)

/-- WAKE_IN_EVENT: WAKE_IN active for WIN_FILT, with WIN_EN 1. -/
def execWakeInEvent (s : State) : Host.Outcome State Fault Refusal := .next (if bit s.aon.wakeCfg 47 then wakeEvent 5 2 s else s)

/-- RTC_ALARM_WAKE: with RTC_EN 1, the RTC reaches ALARM, or has passed it in SLEEP (R459). -/
def execRtcAlarmWake (s : State) : Host.Outcome State Fault Refusal :=
  .next (if bit s.aon.wakeCfg 45 && (s.aon.alarm.toNat == s.rtc.sec || (s.sup.asleep && decide (s.aon.alarm.toNat ≤ s.rtc.sec))) then
    wakeEvent 4 3 s else s)

/-- A wake by controller n: source 68 + 4n + 3 and 0x0B08 follow once the device runs again. -/
def canWake (n kind id : Nat) (s : State) : State :=
  if !s.aon.wakeOpen then s
  else wakeEvent n (4 + n) { s with aon := { s.aon with canWoke := s.aon.canWoke ++ [(n * 4 + kind, id)] } }

/-- A controller that decodes its bus in sleep: enabled, with KIND not 0, from step 3 of Table 18-7 until the reset. -/
def canListens (s : State) (n k : Nat) : Bool :=
  s.aon.wakeOpen && (getCan s n).bstate == 5 && (tget 0 s.aon.canKind n == k || tget 0 s.aon.canKind n == 3)

/-- The phases of a bus from an instant on: start, level, length. -/
def phaseStarts : Nat → List (Bool × Nat) → List (Nat × Bool × Nat)
  | _, [] => []
  | t, (d, l) :: ps => (t, d, l) :: phaseStarts (t + l) ps

/-- A dominant, a recessive and a dominant phase in this order, each of at least `filt` ns, all within `tmo` ns of the start of
the first: the last has lasted `filt` by then. Shorter phases are ignored (12 R319). -/
def wakePattern (filt tmo : Nat) (ps : List (Bool × Nat)) : Bool :=
  let l := (phaseStarts 0 ps).filter (fun p => filt ≤ p.2.2)
  l.any (fun a => a.2.1 && l.any (fun b => !b.2.1 && decide (a.1 < b.1) &&
    l.any (fun c => c.2.1 && decide (b.1 < c.1) && decide (c.1 + filt ≤ a.1 + tmo))))

/-- CAN_WAKE_PATTERN (12 R319): the bus has shown these phases; WUP_FILT in 0.1 µs, WUP_TMO in 10 µs. -/
def execCanWakePattern (p : CanPhases) (s : State) : Host.Outcome State Fault Refusal :=
  let n := p.n.val
  let w := (getCan s n).wake
  .next (if canListens s n 1 && wakePattern (fld w 44 38 * 100) (fld w 37 28 * 10000) p.phases then canWake n 1 0 s else s)

/-- A wake frame (12 R320): identifier, DLC and the AND of its data with CAN_WDATA. -/
def canWakes (c : CanCtl) (dlc : Nat) (f : CanFrame) : Bool :=
  fltMatch (c.wid &&& 0xFFFFFFFFFF00#48) f && (!bit c.wake 27 || dlc == fld c.wake 26 23) &&
    (c.wdata == 0#48 || beW (f.data ++ List.replicate 6 0#8) 0 &&& c.wdata != 0#48)

/-- CAN_WAKE_FRAME (12 R320): what the controller decodes in sleep. -/
def execCanWakeFrame (n : Fin 4) (r : CanWakeRx) (s : State) : Host.Outcome State Fault Refusal :=
  let n := n.val
  if !canListens s n 2 then .next s
  else match r.rx with
    | .error _ _ =>
      let s := updCan n (fun c => { c with frameErr := c.frameErr + 1 }) s
      .next (if 31 < (getCan s n).frameErr then canWake n 3 0 s else s)
    | .frame f =>
      if f.fd then .next s
      else
        let s := updCan n (fun c => { c with frameErr := c.frameErr - 1 }) s
        .next (if canWakes (getCan s n) r.dlc.val f then canWake n 2 f.id s else s)

/-- Steps 2 to 4 of Table 18-7, each at its time after the acceptance of MB_SLEEP. -/
def sleepStep (k : Nat) (s : State) : State :=
  match k with
  | 2 =>
    let kinds := (List.range 4).foldl (fun a n => a + tget 0 s.aon.canKind n * 16 ^ n) 0
    let s := enSave (holdSnapshots s)
    glnFlush (gln 0x1108 3 0 s.aon.wakeCfg.toNat kinds s)
  | 3 =>
    let s := safOff (setGates false s)
    let s := (List.range 4).foldl (fun s n =>
      if (getCan s n).bstate = 0 then s else canSleep n s) s
    { s with eth := { s.eth with mac := s.eth.mac.map (fun e => (e.1, { e.2 with up := false })) }
             pass := { s.pass with port := s.pass.port.map (fun e => (e.1, { e.2 with up := false })) } }
  | _ =>
    let s := (List.range 4).foldl (fun s n => if (getCan s n).closing then canClose n s else s) s
    { s with sup := { s.sup with asleep := true }, aon := { s.aon with pwrEn := false, hostWake := false } }

/-- Time of step k after the acceptance, in ns. -/
def sleepStepAt (k : Nat) : Nat := if k = 2 then 5000000 else if k = 3 then 10000000 else 20000000

/-- Entry to sleep goes on with time. -/
def sleepTick (s : State) : State :=
  match s.sup.sleepAt with
  | some t =>
    if s.sup.asleep || s.clk < t + sleepStepAt s.sup.sleepStep then s
    else
      let k := s.sup.sleepStep
      sleepStep k { s with sup := { s.sup with sleepStep := k + 1 } }
  | none => s

/-- WAKE_POWER_UP: a wake event raises PWR_EN in SLEEP, and the device resets with cause 0x0A (R460); the safety channel
starts with its domain. Sessions that were open write no 0x0208 (the model's choice, log 20). -/
def execWakePowerUp (s : State) : Host.Outcome State Fault Refusal :=
  let first := fld s.aon.wakeCause 47 44
  if !s.sup.asleep || first = 0 then .next s
  else .next (safStart (deviceReset 0x0A first { s with aon := { s.aon with pwrEn := true } }))

end Sys2Proof.Machine
end

