-- ==== Sys2Proof/Machine/StartUp.lean ====
section
/-! DEFINITION. The release of reset and the start-up sequence (18 R442, R448 to R450, Table 18-4, 16 R402, R409, R410,
17 R419, R423, R435 to R437). -/

namespace Sys2Proof.Machine

/-! ### Time -/

/-- n nanoseconds of the crystal at once. -/
def rtcRun (n : Nat) (r : Rtc) : Rtc :=
  let parts := r.acc + 64 * n
  let edges := parts / 1953125
  let secs := (r.sub + edges) / 32768
  { r with
    periods := r.periods + edges, acc := parts % 1953125, sub := (r.sub + edges) % 32768, sec := (r.sec + secs) % 2 ^ 48
    goodFor := Nat.min 2000000000 (r.goodFor + n)
    bkpSecs := if r.onVbat then Nat.min (2 ^ 32 - 1) (r.bkpSecs + secs) else r.bkpSecs }

/-- Time passes until n ns after the release of reset. -/
def passTo (n : Nat) (s : State) : State :=
  let d := s.sup.releasedAt + n - s.clk
  { s with clk := s.clk + d, rtc := rtcRun d s.rtc }

/-! ### Steps 1 to 3: the Silo, the journal, the boot record -/

/-- The layout version that the firmware writes (log 126). -/
def siloVersion : Nat := 1

/-- The header with a version (17 Table 17-2, R419). -/
def siloHead (v : Nat) : SiloHeader := ⟨0x53494C4F, v, crc32 (toBe 4 0x53494C4F ++ toBe 4 v)⟩

/-- Magic and CRC of a header are right. -/
def siloHeaderOk (h : SiloHeader) : Bool := h == siloHead h.version

/-- Formatting (R419): descriptors 0, the Gleaner, the hold queue and every count empty, the records of other chapters absent, a new
header, and 0x100C. The words of the retentive copies stay. -/
def siloFormat (s : State) : State :=
  let s := siloPut 0x060000 0x1A0000 s
  gln 0x100C 3 0 siloVersion 0 { s with
    silo := { header := siloHead siloVersion, ret := s.silo.ret, soft := s.silo.soft, hard := s.silo.hard, ovlTarget := 0xFEFEFEFE }
    flash := { s.flash with journal := [], remap := [], erases := [], sparesUsed := 0 }
    saf := { s.saf with log := [], logNext := 0, pw := none, fails := 0 } }

/-- The header is examined; where it is not right, or cannot be read, the Silo is formatted (R418, R419). -/
def siloCheck (s : State) : State :=
  let ok := siloHeaderOk s.silo.header && !siloTorn s 0x160000 64
  let s := siloRead 0x160000 64 s
  if ok then s else siloFormat s

/-- One block that an entry of the journal shows as not complete (16 R409): it is erased again and stays blank. -/
def journalRecover (e : Journal) (s : State) : State :=
  gln 0x0F13 3 0 e.block e.gen (erasePhys e.block { s with flash := { s.flash with
    journal := s.flash.journal.map (fun x => if x.seq == e.seq then { x with complete := true } else x) } })

/-- Every entry is examined, oldest first; one whose CRC-16 fails, or that cannot be read, is ignored (16 R409, R418). -/
def journalRecovery (s : State) : State :=
  let es := s.flash.journal.reverse.filter (fun e => !e.complete && e.crc == journalCrc e && !siloTorn s (journalAddr e) 16)
  es.foldl (fun s e => journalRecover e s) (siloRead 0x162000 4096 (siloRead 0x161000 4096 s))

/-- The boot record in force: the valid one of higher generation; with none, the one that stands (16 R410, log 41). -/
def bootSelect (s : State) : State :=
  match bootRead s 0, bootRead s 1 with
  | some a, some b => { s with flash := { s.flash with boot := if a.gen < b.gen then b else a } }
  | some a, none => { s with flash := { s.flash with boot := a } }
  | none, some b => { s with flash := { s.flash with boot := b } }
  | none, none => s

/-- Why a firmware bank on trial is given up: watchdog reset 0, third start-up without confirmation 1, not valid 2 (16 R410). -/
def trialEnds (s : State) : Option Nat :=
  if !s.flash.boot.trial then none
  else if s.aon.cause = 3 then some 0
  else if 3 ≤ s.flash.trialStarts then some 1
  else if (validContent s 1 s.flash.boot.fw).isNone then some 2
  else none

/-- The boot record and the firmware bank it names; a bank on trial that fails gives way to the previous one. -/
def bootBank (s : State) : State :=
  let s := bootSelect s
  let s := { s with flash := { s.flash with trialStarts := s.flash.trialStarts + b2n s.flash.boot.trial } }
  let s := match trialEnds s with
    | some c => gln 0x0F15 3 0 1 c (putBoot s.flash.prevFw s.flash.boot.prog false s)
    | none => s
  let v := (Config.fwVersionOf ((validContent s 1 s.flash.boot.fw).getD [])).toNat
  { s with flash := { s.flash with fwVersion := (v / 65536, v / 256 % 256, v % 256) } }

/-- Region copies that start-up reads. -/
def storedCopies : List (Nat × Nat) := [(1, 0), (1, 1), (2, 0), (2, 1), (3, 0), (3, 1)] ++ (List.range 64).map (fun i => (4, i))

/-- A copy of which some block is not blank, and which is not valid (Gleaner 0x0F07, with the copy's first block). -/
def copyInvalid (s : State) (c : Nat × Nat) : Bool :=
  let (f, n) := regionBlocks c.1 c.2
  (validContent s c.1 c.2).isNone && (span f n).any (fun b => (blockAt s b).isSome)

def invalidCopies (s : State) : State :=
  (storedCopies.filter (copyInvalid s)).foldl (fun s c => gln 0x0F07 3 0 (c.1 * 256 + c.2 : Nat) (regionBlocks c.1 c.2).1 s) s

/-- The base configuration copy that start-up uses: the valid one of higher generation (16 R406). -/
def baseCopy (s : State) : Option Nat :=
  let ok := fun (i : Nat) => match regionCopy s 3 i with | some c => if c.valid then some c.gen else none | none => none
  match ok 0, ok 1 with
  | some a, some b => some (if a < b then 1 else 0)
  | some _, none => some 0
  | none, some _ => some 1
  | none, none => none

/-! ### Step 4: reset record, wall time -/

/-- The reset is recorded (18 R448); a hold-up flag makes a loss of supply cause 1, detail 1 (R444). -/
def resetRecord (s : State) : State :=
  let s := siloRead 0x197000 2048 (siloRead 0x160440 3008 s)
  let a := s.aon
  let (c, d) := if s.silo.holdUp && (a.cause == 1 || a.cause == 2) then (1, 1) else (a.cause, a.detail)
  let v := s.silo
  { s with
    aon := { a with cause := c, detail := d }
    silo := { v with
      holdUp := false
      resets := (v.resets + 1) % 2 ^ 32
      resetLog := (⟨c, d, s.rtc.sec⟩ :: v.resetLog).take 8
      wdgResets := if c = 3 then (v.wdgResets + 1) % 2 ^ 32 else v.wdgResets
      wdgRing := if c = 3 then (s.rtc.sec :: v.wdgRing).take 255 else v.wdgRing } }

/-- Wall time from the RTC at a crystal edge, with the entries of R435 and R436 (17 R437); VBAT is checked (Table 17-7). -/
def wallFromRtc (s : State) : State :=
  let ahead := (1953125 - s.rtc.acc + 63) / 64
  let s := { s with clk := s.clk + ahead, rtc := { rtcRun ahead s.rtc with write := none, vbatLow := s.aon.rails.getD 5 0 < 2200 } }
  let s := { s with tb := { s.tb with rho := 0 } }
  let s := wallStep ((s.rtc.sec : Int) * 1000000000 + (s.rtc.sub * 1000000000 / 32768 : Nat)) 2 s
  let s := setWallOk (!s.rtc.oscStop) s
  let s := if s.rtc.oscStop then gln 0x1008 3 0 0 (devtime s) s else s
  if s.rtc.ranOnVbat then
    gln 0x1007 3 0 s.rtc.bkpSecs (b2n s.rtc.vbatLow)
      { s with rtc := { s.rtc with ranOnVbat := false, bkpSecs := if s.rtc.onVbat then s.rtc.bkpSecs else 0 } }
  else s

/-- Ring slots of entries that cannot be read: by an uncorrectable error, or by their CRC-16. -/
def tornSlots (s : State) : List Nat :=
  s.silo.ring.filterMap (fun e => if e.2.isSome && (s.silo.badSlots.contains e.1 || siloTorn s (slotAddr e.1) 32) then some e.1 else none)

/-- Start-up reads the ring: entries that cannot be read are skipped and counted, with 0x1001 on the first such read of a slot (17 R418,
R428). -/
def ringRead (s : State) : State :=
  let torn := tornSlots s
  let s := siloRead 0x060000 0x100000 s
  torn.foldl (fun s k =>
    let s := { s with gln := { s.gln with skipped := s.gln.skipped + 1 } }
    if siloTorn s (slotAddr k) 32 || s.gln.reported.contains k then s
    else gln 0x1001 3 0 (slotAddr k) 2 { s with gln := { s.gln with reported := k :: s.gln.reported } }) s

/-- Start-up reads the hold queue: what cannot be read there is lost (17 R418). -/
def holdRead (s : State) : State :=
  let hold := ((s.silo.hold.zip (List.range s.silo.hold.length)).filter (fun e => !siloTorn s (holdAddr e.2) 32)).map (·.1)
  let s := siloRead (holdAddr 0) (32 * s.silo.hold.length) s
  { s with silo := { s.silo with hold } }

/-- SEQ goes on one past the greatest of the ring's valid entries and the held ones (17 R427). -/
def seqRestore (s : State) : State :=
  let torn := tornSlots s
  let s := holdRead (ringRead s)
  let qs := s.silo.ring.filterMap (fun e => if torn.contains e.1 then none else e.2.map (·.seq)) ++ s.silo.hold.map (·.seq)
  match qs with
  | [] => { s with silo := { s.silo with nextSeq := 0 } }
  | q :: qs => { s with silo := { s.silo with nextSeq := (qs.foldl (fun a b => if seqNewer b a then b else a) q + 1) % 2 ^ 32 } }

/-- Entries that a freeze held at the reset go to the ring (17 R427, R431). -/
def heldEntries (s : State) : State :=
  let s := seqRestore s
  if s.silo.frozenAtReset then unfreeze 2 { s with silo := { s.silo with frozenAtReset := false } } else s

/-! ### Step 6: configuration, program image, overlays -/

/-- Items that Table 18-4 step 6 places after the program image: task entries, slots, loops, and what names the image's constants or
tasks. The items of one object are all of one kind, so each object's keep the order of R415. -/
def lateItem (i : Item) : Bool := [0x0204, 0x0711, 0x0401, 0x0602, 0x0603, 0x0F04].contains i.cmd

/-- An item applied at start-up; one that a check refuses is skipped (16 R415). Items taken are noted, newest first. -/
def startItem (region index : Nat) (run : Item → State → Nat × State) (i : Item) (a : State × List Item) : State × List Item :=
  let r := run i a.1
  if r.1 = rcOk then (r.2, i :: a.2) else (gln 0x0F08 3 0 (region * 256 + index : Nat) (i.cmd * 65536 + r.1 : Nat) a.1, a.2)

/-- Items of a copy applied in stored order. -/
def startItems (region index : Nat) (run : Item → State → Nat × State) (is : List Item) (s : State) : State × List Item :=
  is.foldl (fun a i => startItem region index run i a) (s, [])

/-- The program image of the boot record's bank (05 R124, 16 R416); one that cannot be used leaves no image. -/
def startProg (s : State) : State :=
  let b := s.flash.boot.prog
  match validContent s 2 b with
  | none => s
  | some c => match progOf s c with
    | some p => if progCheck s p = rcOk then installProg p s else gln 0x0F07 3 0 (512 + b : Nat) (regionBlocks 2 b).1 s
    | none => gln 0x0F07 3 0 (512 + b : Nat) (regionBlocks 2 b).1 s

/-- The recorded set by layer, without overlays that are not valid. -/
def startSet (s : State) : List Nat :=
  [2 ^ 24, 2 ^ 16, 2 ^ 8, 1].map (fun k => let i := s.silo.ovlTarget / k % 256; if i < 64 && !ovlValid s i then 0xFE else i)

/-- Overlays of the recorded set that are left out. -/
def leftOut (s : State) : List Nat :=
  ([2 ^ 24, 2 ^ 16, 2 ^ 8, 1].map (fun k => s.silo.ovlTarget / k % 256)).filter (fun i => i < 64 && !ovlValid s i)

/-- Energy records that were open when power was lost, `saved`, are closed as last saved; those that have been opened since are not
(09 R245). -/
def enRecover (saved : Tab (Option EnOpen)) (s : State) : State :=
  let open_ := s.silo.enSaved
  let s := saved.foldl (fun s e => match e.2 with
    | some o => enStore e.1 o 16 (match tget none s.svc.mtr e.1 with | some x => fld x.cfg 47 43 | none => 0) s
    | none => s) s
  { s with silo := { s.silo with enSaved := open_ } }

/-- Items of the overlays of a set, in ascending layer. -/
def startOvls (set : List Nat) (q : Item → Bool) (s : State) : State :=
  (setOvls set).foldl (fun s i => (startItems 4 i ovlItemResult ((ovlItems s i).filter q) s).1) s

/-- The stored configuration in the order of Table 18-4 step 6: base configuration and overlays, program image with what stands on it,
retentive words, energy records (R402, R415, R423). The base keeps the items that were taken. -/
def configure (s : State) : State :=
  let s := siloRead 0x167000 196608 s
  let saved := s.silo.enSaved
  let s := { s with silo := { s.silo with enSaved := [] } }
  let base := baseCopy s
  let items := match base with | some i => contentItems ((validContent s 3 i).getD []) 3 | none => []
  let set := startSet s
  let s := (leftOut s).foldl (fun s i => if copyInvalid s (4, i) then s else gln 0x0F07 3 0 (1024 + i : Nat) (438 + i : Nat) s) s
  let s := { s with ovl := { s.ovl with base := items, baseAt := base }, svc := { s.svc with sysCode := setSystem s set } }
  let a := startItems 3 (base.getD 0) (itemResult 1) (items.filter (fun i => !lateItem i)) s
  let b := startItems 3 (base.getD 0) (itemResult 1) (items.filter lateItem) (startProg (startOvls set (fun i => !lateItem i) a.1))
  let s := startOvls set lateItem b.1
  let s := { s with ovl := { s.ovl with base := a.2.reverse ++ b.2.reverse, set } }
  let s := { s with ovl := { s.ovl with hash := cfgHash s } }
  enRecover saved ((List.range 32).foldl (fun s t => retChoose t s) s)

/-! ### Steps 5, 7 and 8 -/

/-- The mailbox service starts, and with it a wake transition ends (02 R58, 18 R460, R461). -/
def serviceStart (s : State) : State :=
  let s := { s with mb := { s.mb with spi := { s.mb.spi with started := true, view := lowestSpi s } } }
  let s := if s.aon.cause = 0x0A then
      let us := (absNow s - s.aon.wakeStart.getD (absNow s)) / 1000
      gln 0x1109 3 0 s.aon.wakeCause.toNat us { s with aon := { s.aon with wakeEnd := devtime s } }
    else s
  { s with aon := { s.aon with wakeOpen := false, wakeStart := none } }

/-- The dispatcher starts; the grid origin is the first whole millisecond after (05 R127). -/
def dispatcherStart (s : State) : State :=
  { s with task := { s.task with dispAt := some (devtime s), gridA := some ((s.clk / 1000000 + 1) * 1000000) } }

/-- What came to pass while the device was held is reported: wakes by CAN (12 R319, R320). -/
def wakeReports (s : State) : State :=
  let w := s.aon.canWoke
  w.foldl (fun s e => gln 0x0B08 3 0 e.1 e.2 (fire (68 + 4 * (e.1 / 4) + 3) s)) { s with aon := { s.aon with canWoke := [] } }

/-- A unit that a swap's firmware change restarted comes back in SWAP (15 R389). -/
def swapReturn (back : Nat × Nat) (s : State) : State :=
  setRstate 7 (updPair (fun p => { p with swap := 2, swapFw := back.1, swapProg := back.2, ownBuf := ioFilled s })
    { s with flash := { s.flash with swapBack := none } })

/-- The device mode is set and the STOP commit made, or in a pair the unit looks for its role. -/
def startEnd (s : State) : State :=
  wakeReports (if !bit s.pair.cfg 47 then startServing s
    else match s.flash.swapBack with
      | some b => swapReturn b s
      | none => toStart s)

/-- Table 18-4. The serve gates toggle out of reset until the configuration makes the device a unit of a pair (15 R370). -/
def startUp (s : State) : State :=
  let hw := bit s.aon.fuse 46
  let s := { s with aon := { s.aon with inReset := false, resetN := true }, sup := { s.sup with releasedAt := s.clk } }
  let s := siloCheck (setGates true s)
  let s := if hw then wdgStart true s else s
  let s := journalRecovery (passTo 1000000 s)
  let s := invalidCopies (bootBank (passTo 8000000 s))
  let s := resetRecord (passTo 10000000 s)
  let s := if hw then s else wdgStart false s
  let s := heldEntries (wallFromRtc s)
  let s := match s.aon.safReset with
    | some mv => gln 0x110C 3 0 mv 0 { s with aon := { s.aon with safReset := none } }
    | none => s
  let s := s.saf.owed.foldl (fun s e => gln e.1 3 0 e.2.1 e.2.2 s) { s with saf := { s.saf with owed := [] } }
  let s := serviceStart (passTo 12000000 s)
  let s := configure (passTo 200000000 s)
  let s := if bit s.pair.cfg 47 then setGates false s else s
  startEnd (passTo 250000000 (dispatcherStart (passTo 240000000 s)))

/-- The conditions for the release of reset that the device itself keeps (R442, R443). -/
def mayStart (s : State) : Bool :=
  s.aon.inReset && s.aon.pwrEn && !s.aon.railLow.any (·.2) &&
    s.aon.railUpAt.all (fun e => decide (e.2 + 2000000 ≤ absNow s)) &&
    (s.aon.cause != 5 || (match s.aon.coolAt with | some t => decide (t + 1000000000 ≤ absNow s) | none => false))

/-- RESET_RELEASE: rails, REFCLK and RESET_N let the device go (R442); the start-up sequence runs. -/
def execResetRelease (s : State) : Host.Outcome State Fault Refusal := .next (if mayStart s then startUp s else s)

end Sys2Proof.Machine
end

