-- ==== Sys2Proof/Machine/Dispatch.lean ====
section
/-! DEFINITION. The meaning of every command: one arm per constructor of Instr. -/

namespace Sys2Proof.Machine

def exec (i : Instr) (s : State) : Host.Outcome State Fault Refusal :=
  match i with
  | .refclkFail periodPs => Sys2Proof.Machine.execRefclkFail periodPs s
  | .pllLockLoss pll => Sys2Proof.Machine.execPllLockLoss pll s
  | .commitComplete task => Sys2Proof.Machine.execCommitComplete task s
  | .registerWrite reg value => Sys2Proof.Machine.execRegisterWrite reg value s
  | .mbEvtAlloc ch p => Sys2Proof.Machine.execMbEvtAlloc ch p s
  | .mbEvtEnable ch p => Sys2Proof.Machine.execMbEvtEnable ch p s
  | .mbEvtClear ch p => Sys2Proof.Machine.execMbEvtClear ch p s
  | .mbEvtGet ch p => Sys2Proof.Machine.execMbEvtGet ch p s
  | .spiWriteFrame f => Sys2Proof.Machine.execSpiWriteFrame f s
  | .spiReadFrame f => Sys2Proof.Machine.execSpiReadFrame f s
  | .spiPollFrame f => Sys2Proof.Machine.execSpiPollFrame f s
  | .spiLinkReset f => Sys2Proof.Machine.execSpiLinkReset f s
  | .mailboxRequestCheck => Sys2Proof.Machine.execMailboxRequestCheck s
  | .udpMailboxDatagram mac ip port data => Sys2Proof.Machine.execUdpMailboxDatagram mac ip port data s
  | .commandExecutionEnd ch => Sys2Proof.Machine.execCommandExecutionEnd ch s
  | .mbSessionOpen ch p => Sys2Proof.Machine.execMbSessionOpen ch p s
  | .mbSessionClose ch p => Sys2Proof.Machine.execMbSessionClose ch p s
  | .mbNop ch p => Sys2Proof.Machine.execMbNop ch p s
  | .mbAckAttn ch p => Sys2Proof.Machine.execMbAckAttn ch p s
  | .mbDeviceInfo ch p => Sys2Proof.Machine.execMbDeviceInfo ch p s
  | .mbChanBind ch p => Sys2Proof.Machine.execMbChanBind ch p s
  | .mbKeySet ch p => Sys2Proof.Machine.execMbKeySet ch p s
  | .mbChanStats ch p => Sys2Proof.Machine.execMbChanStats ch p s
  | .add o => Sys2Proof.Machine.execAdd o s
  | .sub o => Sys2Proof.Machine.execSub o s
  | .adds o => Sys2Proof.Machine.execAdds o s
  | .addsu o => Sys2Proof.Machine.execAddsu o s
  | .subs o => Sys2Proof.Machine.execSubs o s
  | .subsu o => Sys2Proof.Machine.execSubsu o s
  | .mul o => Sys2Proof.Machine.execMul o s
  | .muls o => Sys2Proof.Machine.execMuls o s
  | .mulq o => Sys2Proof.Machine.execMulq o s
  | .mulh o => Sys2Proof.Machine.execMulh o s
  | .negs o => Sys2Proof.Machine.execNegs o s
  | .abss o => Sys2Proof.Machine.execAbss o s
  | .min o => Sys2Proof.Machine.execMin o s
  | .minu o => Sys2Proof.Machine.execMinu o s
  | .max o => Sys2Proof.Machine.execMax o s
  | .maxu o => Sys2Proof.Machine.execMaxu o s
  | .mov o => Sys2Proof.Machine.execMov o s
  | .shl o => Sys2Proof.Machine.execShl o s
  | .shr o => Sys2Proof.Machine.execShr o s
  | .sar o => Sys2Proof.Machine.execSar o s
  | .rol o => Sys2Proof.Machine.execRol o s
  | .addi o => Sys2Proof.Machine.execAddi o s
  | .addsi o => Sys2Proof.Machine.execAddsi o s
  | .andi o => Sys2Proof.Machine.execAndi o s
  | .ori o => Sys2Proof.Machine.execOri o s
  | .xori o => Sys2Proof.Machine.execXori o s
  | .movi o => Sys2Proof.Machine.execMovi o s
  | .shli o => Sys2Proof.Machine.execShli o s
  | .shri o => Sys2Proof.Machine.execShri o s
  | .sari o => Sys2Proof.Machine.execSari o s
  | .roli o => Sys2Proof.Machine.execRoli o s
  | .lk0 o => Sys2Proof.Machine.execLk0 o s
  | .lk1 o => Sys2Proof.Machine.execLk1 o s
  | .lk2 o => Sys2Proof.Machine.execLk2 o s
  | .lk3 o => Sys2Proof.Machine.execLk3 o s
  | .cmpeq o => Sys2Proof.Machine.execCmpeq o s
  | .cmpne o => Sys2Proof.Machine.execCmpne o s
  | .cmplt o => Sys2Proof.Machine.execCmplt o s
  | .cmpltu o => Sys2Proof.Machine.execCmpltu o s
  | .cmple o => Sys2Proof.Machine.execCmple o s
  | .cmpleu o => Sys2Proof.Machine.execCmpleu o s
  | .cmpeqi o => Sys2Proof.Machine.execCmpeqi o s
  | .cmpnei o => Sys2Proof.Machine.execCmpnei o s
  | .cmplti o => Sys2Proof.Machine.execCmplti o s
  | .cmpltiu o => Sys2Proof.Machine.execCmpltiu o s
  | .cmpgti o => Sys2Proof.Machine.execCmpgti o s
  | .cmpgtiu o => Sys2Proof.Machine.execCmpgtiu o s
  | .tstnz o => Sys2Proof.Machine.execTstnz o s
  | .tstb o => Sys2Proof.Machine.execTstb o s
  | .pand o => Sys2Proof.Machine.execPand o s
  | .por o => Sys2Proof.Machine.execPor o s
  | .pxor o => Sys2Proof.Machine.execPxor o s
  | .pandn o => Sys2Proof.Machine.execPandn o s
  | .prd o => Sys2Proof.Machine.execPrd o s
  | .pwr o => Sys2Proof.Machine.execPwr o s
  | .and o => Sys2Proof.Machine.execAnd o s
  | .or o => Sys2Proof.Machine.execOr o s
  | .xor o => Sys2Proof.Machine.execXor o s
  | .andn o => Sys2Proof.Machine.execAndn o s
  | .not o => Sys2Proof.Machine.execNot o s
  | .edge o => Sys2Proof.Machine.execEdge o s
  | .edgef o => Sys2Proof.Machine.execEdgef o s
  | .edgea o => Sys2Proof.Machine.execEdgea o s
  | .latch o => Sys2Proof.Machine.execLatch o s
  | .latchs o => Sys2Proof.Machine.execLatchs o s
  | .shSplat o => Sys2Proof.Machine.execShSplat o s
  | .shMerge o => Sys2Proof.Machine.execShMerge o s
  | .shAny o => Sys2Proof.Machine.execShAny o s
  | .shAll o => Sys2Proof.Machine.execShAll o s
  | .shNone o => Sys2Proof.Machine.execShNone o s
  | .bset o => Sys2Proof.Machine.execBset o s
  | .bclr o => Sys2Proof.Machine.execBclr o s
  | .bins o => Sys2Proof.Machine.execBins o s
  | .popc o => Sys2Proof.Machine.execPopc o s
  | .clz o => Sys2Proof.Machine.execClz o s
  | .ffs o => Sys2Proof.Machine.execFfs o s
  | .extr o => Sys2Proof.Machine.execExtr o s
  | .dep o => Sys2Proof.Machine.execDep o s
  | .ld o => Sys2Proof.Machine.execLd o s
  | .st o => Sys2Proof.Machine.execSt o s
  | .imld o => Sys2Proof.Machine.execImld o s
  | .imst o => Sys2Proof.Machine.execImst o s
  | .ldb o => Sys2Proof.Machine.execLdb o s
  | .stb o => Sys2Proof.Machine.execStb o s
  | .imldb o => Sys2Proof.Machine.execImldb o s
  | .imstb o => Sys2Proof.Machine.execImstb o s
  | .nop o => Sys2Proof.Machine.execNop o s
  | .tend o => Sys2Proof.Machine.execTend o s
  | .loop o => Sys2Proof.Machine.execLoop o s
  | .ret o => Sys2Proof.Machine.execRet o s
  | .br o => Sys2Proof.Machine.execBr o s
  | .call o => Sys2Proof.Machine.execCall o s
  | .mfs o => Sys2Proof.Machine.execMfs o s
  | .mts o => Sys2Proof.Machine.execMts o s
  | .ceStart o => Sys2Proof.Machine.execCeStart o s
  | .ceRd o => Sys2Proof.Machine.execCeRd o s
  | .schArm o => Sys2Proof.Machine.execSchArm o s
  | .schCancel o => Sys2Proof.Machine.execSchCancel o s
  | .schStat o => Sys2Proof.Machine.execSchStat o s
  | .evtPost o => Sys2Proof.Machine.execEvtPost o s
  | .swev o => Sys2Proof.Machine.execSwev o s
  | .budgetExceeded core => Sys2Proof.Machine.execBudgetExceeded core s
  | .deadlineOverrun task => Sys2Proof.Machine.execDeadlineOverrun task s
  | .cyclicRelease task => Sys2Proof.Machine.execCyclicRelease task s
  | .eventTaskRelease task => Sys2Proof.Machine.execEventTaskRelease task s
  | .positionIntervalRelease task => Sys2Proof.Machine.execPositionIntervalRelease task s
  | .supplyCycleRelease task => Sys2Proof.Machine.execSupplyCycleRelease task s
  | .modeTransitionInForce scope => Sys2Proof.Machine.execModeTransitionInForce scope s
  | .mbModeSet ch p => Sys2Proof.Machine.execMbModeSet ch p s
  | .mbTenantModeSet ch p => Sys2Proof.Machine.execMbTenantModeSet ch p s
  | .mbTaskGet ch p => Sys2Proof.Machine.execMbTaskGet ch p s
  | .mbTaskSet ch p => Sys2Proof.Machine.execMbTaskSet ch p s
  | .mbTaskStats ch p => Sys2Proof.Machine.execMbTaskStats ch p s
  | .mbTenantSchedSet ch p => Sys2Proof.Machine.execMbTenantSchedSet ch p s
  | .mbRetainSet ch p => Sys2Proof.Machine.execMbRetainSet ch p s
  | .mbForceSet ch p => Sys2Proof.Machine.execMbForceSet ch p s
  | .mbForceClear ch p => Sys2Proof.Machine.execMbForceClear ch p s
  | .mbForceList ch p => Sys2Proof.Machine.execMbForceList ch p s
  | .forceTimeout word => Sys2Proof.Machine.execForceTimeout word s
  | .mbValueWrite ch p => Sys2Proof.Machine.execMbValueWrite ch p s
  | .mbValueRead ch p => Sys2Proof.Machine.execMbValueRead ch p s
  | .valueWriteApply ch => Sys2Proof.Machine.execValueWriteApply ch s
  | .retainSnapshotDue tenant => Sys2Proof.Machine.execRetainSnapshotDue tenant s
  | .retainSnapshotNoAnchor tenant => Sys2Proof.Machine.execRetainSnapshotNoAnchor tenant s
  | .retainSnapshotWritten tenant => Sys2Proof.Machine.execRetainSnapshotWritten tenant s
  | .mbImageRead ch p => Sys2Proof.Machine.execMbImageRead ch p s
  | .mbImageWrite ch p => Sys2Proof.Machine.execMbImageWrite ch p s
  | .mbPlotGet ch p => Sys2Proof.Machine.execMbPlotGet ch p s
  | .mbPlotAssign ch p => Sys2Proof.Machine.execMbPlotAssign ch p s
  | .mbPlotRelease ch p => Sys2Proof.Machine.execMbPlotRelease ch p s
  | .mbPlotShare ch p => Sys2Proof.Machine.execMbPlotShare ch p s
  | .mbPlotPubSet ch p => Sys2Proof.Machine.execMbPlotPubSet ch p s
  | .mbRioSet ch p => Sys2Proof.Machine.execMbRioSet ch p s
  | .mbRioGet ch p => Sys2Proof.Machine.execMbRioGet ch p s
  | .mbTenantAccept ch p => Sys2Proof.Machine.execMbTenantAccept ch p s
  | .remoteSetReceived m seq mstat words => Sys2Proof.Machine.execRemoteSetReceived m seq mstat words s
  | .remoteModuleTimeout m => Sys2Proof.Machine.execRemoteModuleTimeout m s
  | .remoteOutputPeriodic m => Sys2Proof.Machine.execRemoteOutputPeriodic m s
  | .plotStale plot => Sys2Proof.Machine.execPlotStale plot s
  | .positionTick => Sys2Proof.Machine.execPositionTick s
  | .toothEdge tw reverse => Sys2Proof.Machine.execToothEdge tw reverse s
  | .toothWindowClose tw => Sys2Proof.Machine.execToothWindowClose tw s
  | .axleStillTimeout tw => Sys2Proof.Machine.execAxleStillTimeout tw s
  | .axleReadmit tw => Sys2Proof.Machine.execAxleReadmit tw s
  | .coastTimeout => Sys2Proof.Machine.execCoastTimeout s
  | .mainsZeroCrossing mains freqMHz phase phaseErr => Sys2Proof.Machine.execMainsZeroCrossing mains freqMHz phase phaseErr s
  | .mainsCrossingTimeout mains => Sys2Proof.Machine.execMainsCrossingTimeout mains s
  | .mainsHoldoverExpiry mains => Sys2Proof.Machine.execMainsHoldoverExpiry mains s
  | .mainsDcDetect mains => Sys2Proof.Machine.execMainsDcDetect mains s
  | .slotFire slot => Sys2Proof.Machine.execSlotFire slot s
  | .pulseEnd slot => Sys2Proof.Machine.execPulseEnd slot s
  | .mbTbGet ch p => Sys2Proof.Machine.execMbTbGet ch p s
  | .mbTbDiag ch p => Sys2Proof.Machine.execMbTbDiag ch p s
  | .mbLpSet ch p => Sys2Proof.Machine.execMbLpSet ch p s
  | .mbMainsSet ch p => Sys2Proof.Machine.execMbMainsSet ch p s
  | .mbPosFix ch p => Sys2Proof.Machine.execMbPosFix ch p s
  | .mbWallSet ch p => Sys2Proof.Machine.execMbWallSet ch p s
  | .mbSchAlloc ch p => Sys2Proof.Machine.execMbSchAlloc ch p s
  | .mbSchSet ch p => Sys2Proof.Machine.execMbSchSet ch p s
  | .mbSchArm ch p => Sys2Proof.Machine.execMbSchArm ch p s
  | .mbSchCancel ch p => Sys2Proof.Machine.execMbSchCancel ch p s
  | .mbSchGet ch p => Sys2Proof.Machine.execMbSchGet ch p s
  | .ceRateTrigger loop => Sys2Proof.Machine.execCeRateTrigger loop s
  | .ceSupangTrigger loop => Sys2Proof.Machine.execCeSupangTrigger loop s
  | .ceSampleComplete loop => Sys2Proof.Machine.execCeSampleComplete loop s
  | .mbCeAlloc ch p => Sys2Proof.Machine.execMbCeAlloc ch p s
  | .mbCeSet ch p => Sys2Proof.Machine.execMbCeSet ch p s
  | .mbCeCoefSet ch p => Sys2Proof.Machine.execMbCeCoefSet ch p s
  | .mbCeCoefCommit ch p => Sys2Proof.Machine.execMbCeCoefCommit ch p s
  | .mbCeGet ch p => Sys2Proof.Machine.execMbCeGet ch p s
  | .mbCeStateSet ch p => Sys2Proof.Machine.execMbCeStateSet ch p s
  | .mbCeFlagsClear ch p => Sys2Proof.Machine.execMbCeFlagsClear ch p s
  | .mbCeInjStart ch p => Sys2Proof.Machine.execMbCeInjStart ch p s
  | .mbCeInjStop ch p => Sys2Proof.Machine.execMbCeInjStop ch p s
  | .mbCeCapRead ch p => Sys2Proof.Machine.execMbCeCapRead ch p s
  | .mbCeLoad ch p => Sys2Proof.Machine.execMbCeLoad ch p s
  | .wpgEvaluate w => Sys2Proof.Machine.execWpgEvaluate w s
  | .alarmEvaluate => Sys2Proof.Machine.execAlarmEvaluate s
  | .shelveEnd a => Sys2Proof.Machine.execShelveEnd a s
  | .trendSample c => Sys2Proof.Machine.execTrendSample c s
  | .trendChangeCheck c => Sys2Proof.Machine.execTrendChangeCheck c s
  | .meterSample => Sys2Proof.Machine.execMeterSample s
  | .energyIntervalClose m => Sys2Proof.Machine.execEnergyIntervalClose m s
  | .energyAccumSave => Sys2Proof.Machine.execEnergyAccumSave s
  | .accessDecision p => Sys2Proof.Machine.execAccessDecision p s
  | .accessPulseEnd p deny => Sys2Proof.Machine.execAccessPulseEnd p deny s
  | .mbSvcQuotaSet ch p => Sys2Proof.Machine.execMbSvcQuotaSet ch p s
  | .mbSvcList ch p => Sys2Proof.Machine.execMbSvcList ch p s
  | .mbLocalSet ch p => Sys2Proof.Machine.execMbLocalSet ch p s
  | .mbCalSet ch p => Sys2Proof.Machine.execMbCalSet ch p s
  | .mbWpgSet ch p => Sys2Proof.Machine.execMbWpgSet ch p s
  | .mbWpgGet ch p => Sys2Proof.Machine.execMbWpgGet ch p s
  | .mbAlmSet ch p => Sys2Proof.Machine.execMbAlmSet ch p s
  | .mbAlmList ch p => Sys2Proof.Machine.execMbAlmList ch p s
  | .mbAlmAck ch p => Sys2Proof.Machine.execMbAlmAck ch p s
  | .mbAlmShelve ch p => Sys2Proof.Machine.execMbAlmShelve ch p s
  | .mbTrdSet ch p => Sys2Proof.Machine.execMbTrdSet ch p s
  | .mbTrdRead ch p => Sys2Proof.Machine.execMbTrdRead ch p s
  | .mbEnSet ch p => Sys2Proof.Machine.execMbEnSet ch p s
  | .mbEnRead ch p => Sys2Proof.Machine.execMbEnRead ch p s
  | .mbEnSysSet ch p => Sys2Proof.Machine.execMbEnSysSet ch p s
  | .mbEnTotals ch p => Sys2Proof.Machine.execMbEnTotals ch p s
  | .mbAccSet ch p => Sys2Proof.Machine.execMbAccSet ch p s
  | .mbAccListPut ch p => Sys2Proof.Machine.execMbAccListPut ch p s
  | .mbAccListDel ch p => Sys2Proof.Machine.execMbAccListDel ch p s
  | .fioOutputFrame die => Sys2Proof.Machine.execFioOutputFrame die s
  | .dieFrameReceived die crcOk => Sys2Proof.Machine.execDieFrameReceived die crcOk s
  | .fioInputReport u => Sys2Proof.Machine.execFioInputReport u s
  | .dieReportTimeout die => Sys2Proof.Machine.execDieReportTimeout die s
  | .silenceExpiry die => Sys2Proof.Machine.execSilenceExpiry die s
  | .fieldSupplyUv supply low => Sys2Proof.Machine.execFieldSupplyUv supply low s
  | .inputFilterAccept n v => Sys2Proof.Machine.execInputFilterAccept n v s
  | .wireBreakChange n broken => Sys2Proof.Machine.execWireBreakChange n broken s
  | .outputOverload n therm => Sys2Proof.Machine.execOutputOverload n therm s
  | .outputRetry n ok => Sys2Proof.Machine.execOutputRetry n ok s
  | .openLoadDetect n isOpen => Sys2Proof.Machine.execOpenLoadDetect n isOpen s
  | .peakPhaseEnd n => Sys2Proof.Machine.execPeakPhaseEnd n s
  | .groupOverloadTrip g => Sys2Proof.Machine.execGroupOverloadTrip g s
  | .groupRetry g => Sys2Proof.Machine.execGroupRetry g s
  | .aiSample n raw => Sys2Proof.Machine.execAiSample n raw s
  | .aoLoopFault n kind set measured => Sys2Proof.Machine.execAoLoopFault n kind set measured s
  | .twSensorFault n fault => Sys2Proof.Machine.execTwSensorFault n fault s
  | .mainsOverRange mains => Sys2Proof.Machine.execMainsOverRange mains s
  | .mbFioMapSet ch p => Sys2Proof.Machine.execMbFioMapSet ch p s
  | .mbFcSet ch p => Sys2Proof.Machine.execMbFcSet ch p s
  | .mbFcGrpSet ch p => Sys2Proof.Machine.execMbFcGrpSet ch p s
  | .mbFioSilSet ch p => Sys2Proof.Machine.execMbFioSilSet ch p s
  | .mbAiSet ch p => Sys2Proof.Machine.execMbAiSet ch p s
  | .mbAoSet ch p => Sys2Proof.Machine.execMbAoSet ch p s
  | .mbTwElecSet ch p => Sys2Proof.Machine.execMbTwElecSet ch p s
  | .mbFioStat ch p => Sys2Proof.Machine.execMbFioStat ch p s
  | .mbFioClear ch p => Sys2Proof.Machine.execMbFioClear ch p s
  | .sfcEvaluation rb => Sys2Proof.Machine.execSfcEvaluation rb s
  | .hwPathEvaluation rb => Sys2Proof.Machine.execHwPathEvaluation rb s
  | .safetyInputAccept path j high => Sys2Proof.Machine.execSafetyInputAccept path j high s
  | .testPulse path k readLow overload => Sys2Proof.Machine.execTestPulse path k readLow overload s
  | .guardDtDiscrepancy path inst => Sys2Proof.Machine.execGuardDtDiscrepancy path inst s
  | .doorLoopSettle path inst => Sys2Proof.Machine.execDoorLoopSettle path inst s
  | .doorLoopDisagree path inst => Sys2Proof.Machine.execDoorLoopDisagree path inst s
  | .maxHoldExpiry path inst => Sys2Proof.Machine.execMaxHoldExpiry path inst s
  | .standstillDeclare path inst => Sys2Proof.Machine.execStandstillDeclare path inst s
  | .safetySensorTimeout path inst => Sys2Proof.Machine.execSafetySensorTimeout path inst s
  | .axleDisagreement path inst axle => Sys2Proof.Machine.execAxleDisagreement path inst axle s
  | .soSwitchTest path k pass => Sys2Proof.Machine.execSoSwitchTest path k pass s
  | .crossMonFrame path f => Sys2Proof.Machine.execCrossMonFrame path f s
  | .crossMonTimeout path => Sys2Proof.Machine.execCrossMonTimeout path s
  | .sfcSelfTest pass => Sys2Proof.Machine.execSfcSelfTest pass s
  | .gateDriveStop path k => Sys2Proof.Machine.execGateDriveStop path k s
  | .safetyStartSequence testsPass pathsAgree => Sys2Proof.Machine.execSafetyStartSequence testsPass pathsAgree s
  | .sfStatusWordUpdate => Sys2Proof.Machine.execSfStatusWordUpdate s
  | .lockoutExpiry => Sys2Proof.Machine.execLockoutExpiry s
  | .mbSafetyStatus ch p => Sys2Proof.Machine.execMbSafetyStatus ch p s
  | .mbSafetySecure ch p => Sys2Proof.Machine.execMbSafetySecure ch p s
  | .mbSafetyLoad ch p => Sys2Proof.Machine.execMbSafetyLoad ch p s
  | .mbSafetyConfirm ch p => Sys2Proof.Machine.execMbSafetyConfirm ch p s
  | .mbSafetyRestart ch p => Sys2Proof.Machine.execMbSafetyRestart ch p s
  | .mbSafetyPassword ch p => Sys2Proof.Machine.execMbSafetyPassword ch p s
  | .mbSafetyRead ch p => Sys2Proof.Machine.execMbSafetyRead ch p s
  | .mbSafetyLogRead ch p => Sys2Proof.Machine.execMbSafetyLogRead ch p s
  | .canFrameReceived n r sofAgo => Sys2Proof.Machine.execCanFrameReceived n r sofAgo s
  | .canTxStart n => Sys2Proof.Machine.execCanTxStart n s
  | .canTxAttemptEnd n e loopDelay => Sys2Proof.Machine.execCanTxAttemptEnd n e loopDelay s
  | .canTxStarved n b => Sys2Proof.Machine.execCanTxStarved n b s
  | .canBoffRecovery n => Sys2Proof.Machine.execCanBoffRecovery n s
  | .canBusRejoin n => Sys2Proof.Machine.execCanBusRejoin n s
  | .canConfigApply n => Sys2Proof.Machine.execCanConfigApply n s
  | .canWakePattern n => Sys2Proof.Machine.execCanWakePattern n s
  | .canWakeFrame n r => Sys2Proof.Machine.execCanWakeFrame n r s
  | .mbCanSet ch p => Sys2Proof.Machine.execMbCanSet ch p s
  | .mbCanQueueSet ch p => Sys2Proof.Machine.execMbCanQueueSet ch p s
  | .mbCanFilterSet ch p => Sys2Proof.Machine.execMbCanFilterSet ch p s
  | .mbCanTx ch p => Sys2Proof.Machine.execMbCanTx ch p s
  | .mbCanTxCancel ch p => Sys2Proof.Machine.execMbCanTxCancel ch p s
  | .mbCanTxResults ch p => Sys2Proof.Machine.execMbCanTxResults ch p s
  | .mbCanRxRead ch p => Sys2Proof.Machine.execMbCanRxRead ch p s
  | .mbCanStat ch p => Sys2Proof.Machine.execMbCanStat ch p s
  | .mbCanRecover ch p => Sys2Proof.Machine.execMbCanRecover ch p s
  | .mbCanWakeSet ch p => Sys2Proof.Machine.execMbCanWakeSet ch p s
  | .ethFrameReceived mac f => Sys2Proof.Machine.execEthFrameReceived mac f s
  | .ethLinkChange mac up mbps => Sys2Proof.Machine.execEthLinkChange mac up mbps s
  | .arpRetry mac ip => Sys2Proof.Machine.execArpRetry mac ip s
  | .arpEntryAge mac ip => Sys2Proof.Machine.execArpEntryAge mac ip s
  | .reassemblyTimeout mac src ident => Sys2Proof.Machine.execReassemblyTimeout mac src ident s
  | .trdpTelegramReceived mac t => Sys2Proof.Machine.execTrdpTelegramReceived mac t s
  | .trdpPublish k => Sys2Proof.Machine.execTrdpPublish k s
  | .trdpSubTimeout k => Sys2Proof.Machine.execTrdpSubTimeout k s
  | .ptpMessage m => Sys2Proof.Machine.execPtpMessage m s
  | .ptpSyncTimeout => Sys2Proof.Machine.execPtpSyncTimeout s
  | .mbEthSet ch p => Sys2Proof.Machine.execMbEthSet ch p s
  | .mbEthPortSet ch p => Sys2Proof.Machine.execMbEthPortSet ch p s
  | .mbEthStat ch p => Sys2Proof.Machine.execMbEthStat ch p s
  | .mbTrdpSet ch p => Sys2Proof.Machine.execMbTrdpSet ch p s
  | .mbTrdpGet ch p => Sys2Proof.Machine.execMbTrdpGet ch p s
  | .mbTrdpTopoSet ch p => Sys2Proof.Machine.execMbTrdpTopoSet ch p s
  | .mbRioIpSet ch p => Sys2Proof.Machine.execMbRioIpSet ch p s
  | .mbPtpSet ch p => Sys2Proof.Machine.execMbPtpSet ch p s
  | .mbPtpStat ch p => Sys2Proof.Machine.execMbPtpStat ch p s
  | .passPortChange port up => Sys2Proof.Machine.execPassPortChange port up s
  | .passEchoComplete port d => Sys2Proof.Machine.execPassEchoComplete port d s
  | .passFrameReceived port f => Sys2Proof.Machine.execPassFrameReceived port f s
  | .passForward port => Sys2Proof.Machine.execPassForward port s
  | .passResendTimer port => Sys2Proof.Machine.execPassResendTimer port s
  | .passResendReceived port lseq => Sys2Proof.Machine.execPassResendReceived port lseq s
  | .passIdleSend port => Sys2Proof.Machine.execPassIdleSend port s
  | .inaugSend => Sys2Proof.Machine.execInaugSend s
  | .inaugComplete => Sys2Proof.Machine.execInaugComplete s
  | .markerSend => Sys2Proof.Machine.execMarkerSend s
  | .publishSlot => Sys2Proof.Machine.execPublishSlot s
  | .pubTimeout origin group => Sys2Proof.Machine.execPubTimeout origin group s
  | .chainChangeApply => Sys2Proof.Machine.execChainChangeApply s
  | .mbPassSet ch p => Sys2Proof.Machine.execMbPassSet ch p s
  | .mbPassStat ch p => Sys2Proof.Machine.execMbPassStat ch p s
  | .mbPassMembers ch p => Sys2Proof.Machine.execMbPassMembers ch p s
  | .mbPassBudget ch p => Sys2Proof.Machine.execMbPassBudget ch p s
  | .mbPassInaug ch p => Sys2Proof.Machine.execMbPassInaug ch p s
  | .volleySend => Sys2Proof.Machine.execVolleySend s
  | .volleyReceived v => Sys2Proof.Machine.execVolleyReceived v s
  | .syncPathSilent => Sys2Proof.Machine.execSyncPathSilent s
  | .alivePathSilent => Sys2Proof.Machine.execAlivePathSilent s
  | .srvInChange high => Sys2Proof.Machine.execSrvInChange high s
  | .servePathMismatch => Sys2Proof.Machine.execServePathMismatch s
  | .pairRecordReceived num crcOk r => Sys2Proof.Machine.execPairRecordReceived num crcOk r s
  | .recordAckTimeout => Sys2Proof.Machine.execRecordAckTimeout s
  | .replayRelease => Sys2Proof.Machine.execReplayRelease s
  | .pairStartTimeout => Sys2Proof.Machine.execPairStartTimeout s
  | .pairBeaconSend => Sys2Proof.Machine.execPairBeaconSend s
  | .pairBeaconReceived b => Sys2Proof.Machine.execPairBeaconReceived b s
  | .resyncRound r => Sys2Proof.Machine.execResyncRound r s
  | .resyncTimeout => Sys2Proof.Machine.execResyncTimeout s
  | .serveGateLoss die => Sys2Proof.Machine.execServeGateLoss die s
  | .handoverReady => Sys2Proof.Machine.execHandoverReady s
  | .mbPairSet ch p => Sys2Proof.Machine.execMbPairSet ch p s
  | .mbPairStat ch p => Sys2Proof.Machine.execMbPairStat ch p s
  | .mbPairResync ch p => Sys2Proof.Machine.execMbPairResync ch p s
  | .mbPairSwitch ch p => Sys2Proof.Machine.execMbPairSwitch ch p s
  | .mbPairSwapBegin ch p => Sys2Proof.Machine.execMbPairSwapBegin ch p s
  | .mbPairSwapPreview ch p => Sys2Proof.Machine.execMbPairSwapPreview ch p s
  | .mbPairSwapCommit ch p => Sys2Proof.Machine.execMbPairSwapCommit ch p s
  | .mbPairSwapAbort ch p => Sys2Proof.Machine.execMbPairSwapAbort ch p s
  | .mbOvlCreate ch p => Sys2Proof.Machine.execMbOvlCreate ch p s
  | .mbOvlDelete ch p => Sys2Proof.Machine.execMbOvlDelete ch p s
  | .mbOvlRequest ch p => Sys2Proof.Machine.execMbOvlRequest ch p s
  | .overlayTransitionTimeout => Sys2Proof.Machine.execOverlayTransitionTimeout s
  | .mbOvlStatus ch p => Sys2Proof.Machine.execMbOvlStatus ch p s
  | .mbOvlList ch p => Sys2Proof.Machine.execMbOvlList ch p s
  | .mbStoreBegin ch p => Sys2Proof.Machine.execMbStoreBegin ch p s
  | .mbStoreData ch p => Sys2Proof.Machine.execMbStoreData ch p s
  | .mbStoreEnd ch p => Sys2Proof.Machine.execMbStoreEnd ch p s
  | .flashBlockDone eraseOk verifyOk => Sys2Proof.Machine.execFlashBlockDone eraseOk verifyOk s
  | .stagingTimeout => Sys2Proof.Machine.execStagingTimeout s
  | .mbBankActivate ch p => Sys2Proof.Machine.execMbBankActivate ch p s
  | .bankActivationReset => Sys2Proof.Machine.execBankActivationReset s
  | .mbBankConfirm ch p => Sys2Proof.Machine.execMbBankConfirm ch p s
  | .mbFlashStat ch p => Sys2Proof.Machine.execMbFlashStat ch p s
  | .gleanerWrite => Sys2Proof.Machine.execGleanerWrite s
  | .gleanerTokenGain code tenant => Sys2Proof.Machine.execGleanerTokenGain code tenant s
  | .gleanerFreezeExpiry => Sys2Proof.Machine.execGleanerFreezeExpiry s
  | .rtcCalAdd => Sys2Proof.Machine.execRtcCalAdd s
  | .rtcSupplySwitch toVbat => Sys2Proof.Machine.execRtcSupplySwitch toVbat s
  | .oscStopDetect => Sys2Proof.Machine.execOscStopDetect s
  | .rtcSyncCheck => Sys2Proof.Machine.execRtcSyncCheck s
  | .rtcCalDerive driftPp2p20 => Sys2Proof.Machine.execRtcCalDerive driftPp2p20 s
  | .mbRetStat ch p => Sys2Proof.Machine.execMbRetStat ch p s
  | .mbRtcGet ch p => Sys2Proof.Machine.execMbRtcGet ch p s
  | .mbRtcCapture ch p => Sys2Proof.Machine.execMbRtcCapture ch p s
  | .mbRtcCalSet ch p => Sys2Proof.Machine.execMbRtcCalSet ch p s
  | .mbGlnRead ch p => Sys2Proof.Machine.execMbGlnRead ch p s
  | .mbGlnFreeze ch p => Sys2Proof.Machine.execMbGlnFreeze ch p s
  | .mbGlnUnfreeze ch p => Sys2Proof.Machine.execMbGlnUnfreeze ch p s
  | .mbGlnClassSet ch p => Sys2Proof.Machine.execMbGlnClassSet ch p s
  | .mbGlnStat ch p => Sys2Proof.Machine.execMbGlnStat ch p s
  | .railWarning rail below mv => Sys2Proof.Machine.execRailWarning rail below mv s
  | .supplyMonitorReset rail mv => Sys2Proof.Machine.execSupplyMonitorReset rail mv s
  | .safetyDomainReset mv => Sys2Proof.Machine.execSafetyDomainReset mv s
  | .temperatureSample mC => Sys2Proof.Machine.execTemperatureSample mC s
  | .temperatureCritical => Sys2Proof.Machine.execTemperatureCritical s
  | .holdUpBegin => Sys2Proof.Machine.execHoldUpBegin s
  | .holdUpEnd => Sys2Proof.Machine.execHoldUpEnd s
  | .throttleBegin mv => Sys2Proof.Machine.execThrottleBegin mv s
  | .throttleEnd mv => Sys2Proof.Machine.execThrottleEnd mv s
  | .resetNAssert => Sys2Proof.Machine.execResetNAssert s
  | .resetRelease => Sys2Proof.Machine.execResetRelease s
  | .firmwareWatchdogService => Sys2Proof.Machine.execFirmwareWatchdogService s
  | .watchdogWarning => Sys2Proof.Machine.execWatchdogWarning s
  | .watchdogLapse => Sys2Proof.Machine.execWatchdogLapse s
  | .hostResume => Sys2Proof.Machine.execHostResume s
  | .wakeInEvent => Sys2Proof.Machine.execWakeInEvent s
  | .rtcAlarmWake => Sys2Proof.Machine.execRtcAlarmWake s
  | .wakePowerUp => Sys2Proof.Machine.execWakePowerUp s
  | .mbPwrStat ch p => Sys2Proof.Machine.execMbPwrStat ch p s
  | .mbResetLog ch p => Sys2Proof.Machine.execMbResetLog ch p s
  | .mbWdgFuse ch p => Sys2Proof.Machine.execMbWdgFuse ch p s
  | .mbWdgSet ch p => Sys2Proof.Machine.execMbWdgSet ch p s
  | .mbWdgStat ch p => Sys2Proof.Machine.execMbWdgStat ch p s
  | .mbStartSet ch p => Sys2Proof.Machine.execMbStartSet ch p s
  | .mbReset ch p => Sys2Proof.Machine.execMbReset ch p s
  | .mbResetTimer => Sys2Proof.Machine.execMbResetTimer s
  | .mbSleep ch p => Sys2Proof.Machine.execMbSleep ch p s
  | .mbWakeSet ch p => Sys2Proof.Machine.execMbWakeSet ch p s
  | .mbWakeCause ch p => Sys2Proof.Machine.execMbWakeCause ch p s
  | .spiBadOpcodeFrame f => Sys2Proof.Machine.execSpiBadOpcodeFrame f s
  | .illegalInstruction core s0 s1 s2 ecc => Sys2Proof.Machine.execIllegalInstruction core s0 s1 s2 ecc s
  | .ptpPortTimer k => Sys2Proof.Machine.execPtpPortTimer k s
  | .alivePathRestored => Sys2Proof.Machine.execAlivePathRestored s
  | .vbatCheck mv => Sys2Proof.Machine.execVbatCheck mv s
  | .uncorrectableMemoryError kind => Sys2Proof.Machine.execUncorrectableMemoryError kind s
  | .safetyDomainPowerUp => Sys2Proof.Machine.execSafetyDomainPowerUp s
  | .resyncRetry => Sys2Proof.Machine.execResyncRetry s

end Sys2Proof.Machine
end

