-- ==== Sys2Proof/Machine/Tick.lean ====
section
/-! DEFINITION. One nanosecond of the device's own time: what a step does when no command waits (01 R24, log 7). -/

namespace Sys2Proof.Machine

/-- PAIR_OFS falls by a nanosecond where it has to, so that pair DEVTIME never moves backwards (15 R381). -/
def ofsTick (s : State) : State :=
  if s.pair.ofsBack = 0 then s else updPair (fun p => { p with ofs := p.ofs - 1, ofsBack := p.ofsBack - 1 }) s

/-- One nanosecond passes: the crystal runs on always; DEVTIME only while the device runs, with what happens by itself at an
instant: a due write of the RTC, the steps of sleep entry, the boundaries of an overlay transition, held CHANGE records and held
releases. While PAIR_OFS has to fall, pair DEVTIME stands still (15 R381). -/
def tick (s : State) : State :=
  let s := { s with rtc := rtcNs s.rtc }
  if s.aon.inReset || s.sup.asleep then { s with aon := { s.aon with epoch := s.aon.epoch + 1 } }
  else heldReleases (heldTick (boundaryTick (sleepTick (rtcApplyWrite (ofsTick { s with clk := s.clk + 1 })))))

end Sys2Proof.Machine
end

