-- ==== Sys2Proof/Safety.lean ====
section
/-! DEFINITION. The terms that the statements are written in: what counts as going on safely, what a KV48 instruction needs to
run and what it leaves as it was, and what a mailbox command's answer is. -/

namespace Sys2Proof.Machine

/-- The command goes on to a next state, and P holds of it: no fault, no refusal. -/
def Answers (o : Host.Outcome State Fault Refusal) (P : State → Prop) : Prop := ∃ t, o = .next t ∧ P t

/-! ### KV48 instructions -/

/-- Core o.core can issue instruction i o of len syllables, whose guard is true, as part of execution e of task k: the code at PC
spells it, the execution is on its core, the syllables lie in CSEG and hold no error, and a cycle is left in its budget. -/
structure KvIssues (i : Kv → Instr) (o : Kv) (len k : Nat) (e : Ex) (s : State) : Prop where
  coded : kvAt o.core e s = some (i o)
  length : codeLenAt s e.tenant e.pc = len
  onCore : coreTask s o.core.val = some k
  running : taskEx s k = some e
  phase : e.phase = 1
  within : e.overBudget = false
  fetched : fetchOk e len = true
  intact : ∀ j, j < len → s.core.codeSoft.contains (e.tenant * 2 ^ 22 + (e.pc + j)) = false
  guard : guardTrue o e = true
  paid : budgetOf s k = 0 ∨ e.cycles + 1 ≤ budgetOf s k

/-- No pending load is written to target r with this instruction (03 R93); targets 0 to 15 are W0 to W15, 16 + i is Pi. -/
def NoLoadLands (e : Ex) (r : Nat) : Prop := ∀ l ∈ e.loads, l.target = r → e.n < l.landAt

/-- What an instruction in sequence leaves as it was or carries on: registers but Wd = w and predicates but Pd = p, where no
pending load lands on them; the SAT flag but for its own setting; one more instruction and one more cycle; the next address. -/
structure KvKeeps (len : Nat) (w : Option (BitVec 4)) (p : Option Nat) (e e' : Ex) : Prop where
  regs : ∀ r : BitVec 4, w ≠ some r → NoLoadLands e r.toNat → rW e' r = rW e r
  preds : ∀ i, i < 8 → p ≠ some i → NoLoadLands e (16 + i) → rP e' i = rP e i
  index : e'.n = e.n + 1
  cycles : e'.cycles = e.cycles + 1
  next : atLoopEnd (openDistances e) = false → e'.pc = (e.pc + len) % 2 ^ 22
  posts : e'.posts = e.posts
  sameTask : e'.tenant = e.tenant ∧ e'.core = e.core ∧ e'.phase = e.phase

/-- Instruction i of len syllables writes Wd with a value of which R holds, sets SAT where `sat` says so and never clears it, and
changes nothing else of the machine but its own execution and the note that its core has issued in this cycle (04 R117). -/
def KvSets (i : Kv → Instr) (len : Nat) (R : Kv → Ex → Word → Prop) (sat : Kv → Ex → Prop) : Prop :=
  ∀ (o : Kv) (k : Nat) (e : Ex) (s : State), KvIssues i o len k e s →
    ∃ e', exec (i o) s = .next (setEx k (some e') (issueCycle o.core.val s)) ∧ R o e (rW e' o.d) ∧
      (e'.sat = true ↔ e.sat = true ∨ sat o e) ∧ KvKeeps len (some o.d) none e e'

/-- No instruction of this form sets SAT. -/
def noSat : Kv → Ex → Prop := fun _ _ => False

/-- Instruction i of len syllables writes the truth of R to Pd under the combine bit D[3] (03 R77), not to P0, and changes
nothing else of the machine but its own execution. -/
def KvTests (i : Kv → Instr) (len : Nat) (R : Kv → Ex → Prop) : Prop :=
  ∀ (o : Kv) (k : Nat) (e : Ex) (s : State), KvIssues i o len k e s →
    ∃ e', exec (i o) s = .next (setEx k (some e') (issueCycle o.core.val s)) ∧
      (rP e' (o.d.toNat % 8) = true ↔ o.d.toNat % 8 = 0 ∨ (R o e ∧ (8 ≤ o.d.toNat → rP e (o.d.toNat % 8) = true))) ∧
      e'.sat = e.sat ∧ KvKeeps len none (some (o.d.toNat % 8)) e e'

/-- The instruction stops its execution with a trap of this cause and parameter, whatever its effect would be. -/
def KvTraps (i : Kv → Instr) (o : Kv) (k : Nat) (e : Ex) (s : State) (cause : Nat) (p2 : Int) : Prop :=
  exec (i o) s = .next (taskTrap k (openDistances e) cause p2 (issueCycle o.core.val s))

/-- The lane that an instruction with M 0 or 1 names: IMM[5:0] or Wt[5:0] (03 R86). -/
def laneOf (o : Kv) (e : Ex) : Nat := if o.m = 0#2 then o.imm.toNat % 64 else (rW e o.t).toNat % 64

/-- Syllables of an instruction with an immediate (M 0) and a register form (M 1). -/
def lenByM (o : Kv) : Nat := if o.m = 0#2 then 3 else 2

/-- Instruction i names a lane by M 0 or 1: below 48 it does what R says, else it traps with BAD_VALUE (03 R86). -/
def KvLaneSets (i : Kv → Instr) (R : Kv → Ex → Nat → Word → Prop) : Prop :=
  ∀ (o : Kv) (k : Nat) (e : Ex) (s : State), KvIssues i o (lenByM o) k e s →
    if laneOf o e < 48 then
      ∃ e', exec (i o) s = .next (setEx k (some e') (issueCycle o.core.val s)) ∧ R o e (laneOf o e) (rW e' o.d) ∧ e'.sat = e.sat ∧ KvKeeps (lenByM o) (some o.d) none e e'
    else KvTraps i o k e s 0x06 (laneOf o e)

/-- The trap that an access to address a fails with first (03 R84, Table 3-11), with the segment's descriptor and the plot table of
the release; none where it passes. -/
def firstTrap (e : Ex) (kinds : List Nat) (write : Bool) (a : Word) : Option Nat :=
  let d := (e.segd.getD (a.toNat / 2 ^ 45) 0#48).toNat
  let kind := d / 2 ^ 43 % 8
  let off := a.toNat % 2 ^ 21
  if a.toNat / 2 ^ 21 % 2 ^ 24 ≠ 0 then some 0x07
  else if kind ∉ kinds then some 0x08
  else if d % 2 ^ 22 ≤ off then some 0x09
  else if (if write then d / 2 ^ 46 % 2 else d / 2 ^ 47) = 0 then some 0x0A
  else if 1 ≤ kind ∧ kind ≤ 3 ∧ plotCheck e kind off write = false then some 0x0B
  else none

/-- The place that address a names. -/
def placeOf (e : Ex) (a : Word) : Place := ⟨(e.segd.getD (a.toNat / 2 ^ 45) 0#48).toNat / 2 ^ 43 % 8, a.toNat / 2 ^ 45, a.toNat % 2 ^ 21⟩

/-- The address by mode (03 Table 3-6). -/
def addrOf (o : Kv) (e : Ex) : Word :=
  if o.m = 0#2 then rW e o.s + o.imm.signExtend 48 else if o.m = 1#2 then rW e o.s + rW e o.t else rW e o.s

/-- The register that mode 2 increments. -/
def incOf (o : Kv) : Option (BitVec 4) := if o.m = 2#2 then some o.s else none

/-- Mode 2 leaves Ws + IMM in Ws. -/
def Incremented (o : Kv) (e e' : Ex) : Prop := o.m = 2#2 → rW e' o.s = rW e o.s + o.imm.signExtend 48

/-- Syllables of a word access (modes 0, 1, 2) and of a bit access (modes 0, 2). -/
def lenOfAccess (o : Kv) : Nat := if o.m = 1#2 then 2 else 3

/-- No memory error stands at a place of the data store. -/
def Intact (k : Nat) (e : Ex) (pl : Place) (s : State) : Prop :=
  pl.kind = 0 → s.core.hardBad.contains (placeKey k e pl) = false ∧ s.core.softBad.contains (placeKey k e pl) = false

/-- Memory d is memory t with word a replaced by v. -/
def Replaced (t d : Tab Word) (a : Nat) (v : Word) : Prop := ∀ b, wget d b = if b = a then v else wget t b

/-- Pending loads after an instruction that issues one. -/
def WithLoad (e e' : Ex) (target : Nat) (v : Word) : Prop :=
  e'.loads = e.loads.filter (fun l => e.n < l.landAt) ++ [⟨target, v, e.n + 2⟩]

/-- Writes of the output image not yet visible to IMLD, after an instruction that adds one. -/
def WithImst (e e' : Ex) (w : Nat) (v : Word) : Prop := e'.imPend = ⟨w, v, e.n + 3⟩ :: e.imPend.filter (fun x => e.n < x.visible)

/-- The newest value that this execution has given word w of the output image, visible to it or not. -/
def newestOut (e : Ex) (w : Nat) : Word := outLatest (openDistances e) w

/-! ### The table of KV48 instructions (04 Tables 4-2 to 4-10) -/

/-- Syllables by M: one modifier alone, an immediate or register form, a word access, a bit access, a special register. -/
def lenM (m n : Nat) (o : Kv) : Option Nat := if o.m.toNat = m then some n else none
def lenTwo (o : Kv) : Option Nat := if o.m = 0#2 then some 3 else if o.m = 1#2 then some 2 else none
def lenWord (o : Kv) : Option Nat := if o.m = 0#2 ∨ o.m = 2#2 then some 3 else if o.m = 1#2 then some 2 else none
def lenBit (o : Kv) : Option Nat := if o.m = 0#2 ∨ o.m = 2#2 then some 3 else none
def lenSpecial (o : Kv) : Option Nat :=
  if o.m = 0#2 ∧ (o.imm.toNat ≤ 0x0C ∨ (0x10 ≤ o.imm.toNat ∧ o.imm.toNat ≤ 0x18)) then some 3 else none

/-- The fields that a format of len syllables holds; the others are 0 (03 R75). -/
structure FormatHolds (len : Nat) (o : Kv) : Prop where
  one : len = 1 → o.d = 0#4 ∧ o.s = 0#4 ∧ o.t = 0#4
  two : len ≤ 2 → o.imm = 0#14

/-- Every KV48 row with its length in syllables by its fields; none where the fields make it undefined (04 R106, R119). -/
def kvTable : List ((Kv → Instr) × (Kv → Option Nat)) :=
  [(.nop, lenM 0 1), (.tend, lenM 0 1), (.loop, lenM 0 1), (.ret, lenM 0 1), (.br, lenTwo), (.call, lenTwo), (.add, lenM 0 2),
   (.sub, lenM 0 2), (.adds, lenM 0 2), (.addsu, lenM 1 2), (.subs, lenM 0 2), (.subsu, lenM 1 2), (.mul, lenM 0 2),
   (.muls, lenM 1 2), (.mulq, lenM 2 2), (.mulh, lenM 3 2), (.negs, lenM 0 2), (.abss, lenM 1 2), (.min, lenM 0 2),
   (.minu, lenM 1 2), (.max, lenM 0 2), (.maxu, lenM 1 2), (.mov, lenM 0 2), (.shl, lenM 0 2), (.shr, lenM 1 2),
   (.sar, lenM 2 2), (.rol, lenM 3 2), (.addi, lenM 0 3), (.addsi, lenM 0 3), (.andi, lenM 0 3)] ++
  [(.ori, lenM 0 3), (.xori, lenM 0 3), (.movi, lenM 0 3), (.shli, lenM 0 3), (.shri, lenM 1 3), (.sari, lenM 2 3),
   (.roli, lenM 3 3), (.lk0, lenM 0 3), (.lk1, lenM 0 3), (.lk2, lenM 0 3), (.lk3, lenM 0 3), (.cmpeq, lenM 0 2),
   (.cmpne, lenM 0 2), (.cmplt, lenM 0 2), (.cmpltu, lenM 1 2), (.cmple, lenM 0 2), (.cmpleu, lenM 1 2), (.cmpeqi, lenM 0 3),
   (.cmpnei, lenM 0 3), (.cmplti, lenM 0 3), (.cmpltiu, lenM 1 3), (.cmpgti, lenM 0 3), (.cmpgtiu, lenM 1 3), (.tstnz, lenM 0 2),
   (.tstb, lenTwo), (.pand, lenM 0 2), (.por, lenM 1 2), (.pxor, lenM 2 2), (.pandn, lenM 3 2), (.prd, lenM 0 2)] ++
  [(.pwr, lenM 0 2), (.and, lenM 0 2), (.or, lenM 0 2), (.xor, lenM 0 2), (.andn, lenM 0 2), (.not, lenM 0 2), (.edge, lenM 0 2),
   (.edgef, lenM 1 2), (.edgea, lenM 2 2), (.latch, lenM 0 2), (.latchs, lenM 1 2), (.shSplat, lenTwo), (.shMerge, lenM 0 2),
   (.shAny, lenM 0 2), (.shAll, lenM 1 2), (.shNone, lenM 2 2), (.bset, lenTwo), (.bclr, lenTwo), (.bins, lenM 0 3),
   (.popc, lenM 0 2), (.clz, lenM 0 2), (.ffs, lenM 0 2), (.extr, lenM 0 3), (.dep, lenM 0 3), (.ld, lenWord), (.st, lenWord),
   (.imld, lenWord), (.imst, lenWord), (.ldb, lenBit), (.stb, lenBit)] ++
  [(.imldb, lenBit), (.imstb, lenBit), (.mfs, lenSpecial), (.mts, lenSpecial), (.ceStart, lenM 0 2), (.ceRd, lenM 0 3),
   (.schArm, lenM 0 2), (.schCancel, lenM 0 2), (.schStat, lenM 0 2), (.evtPost, lenM 0 2), (.swev, lenM 0 3)]

/-- As KvIssues, with a false guard. -/
structure KvSkips (i : Kv → Instr) (o : Kv) (len k : Nat) (e : Ex) (s : State) : Prop where
  coded : kvAt o.core e s = some (i o)
  length : codeLenAt s e.tenant e.pc = len
  onCore : coreTask s o.core.val = some k
  running : taskEx s k = some e
  phase : e.phase = 1
  within : e.overBudget = false
  fetched : fetchOk e len = true
  intact : ∀ j, j < len → s.core.codeSoft.contains (e.tenant * 2 ^ 22 + (e.pc + j)) = false
  guard : guardTrue o e = false
  paid : budgetOf s k = 0 ∨ e.cycles + 1 ≤ budgetOf s k

/-- Code addresses below CSEG's limit. -/
def codeLimit (e : Ex) : Nat := (e.segd.getD 8 0#48).toNat % 2 ^ 23

/-- Loop registers as an instruction sees them (03 R94). -/
def lpAt (e : Ex) (n : Nat) : Nat := (wget (openDistances e).lp n).toNat

/-- x clamped to the signed 48-bit numbers, as a word (04 R108). -/
def satWord (x : Int) : Word := BitVec.ofInt 48 (max (-2 ^ 47) (min (2 ^ 47 - 1) x))

/-- x clamped to the unsigned 48-bit numbers, as a word. -/
def usatWord (x : Int) : Word := BitVec.ofInt 48 (max 0 (min (2 ^ 48 - 1) x))

/-- The clamp changes x. -/
def clamps (x : Int) : Prop := x < -2 ^ 47 ∨ 2 ^ 47 - 1 < x
def uclamps (x : Int) : Prop := x < 0 ∨ 2 ^ 48 - 1 < x

/-! ### Mailbox commands (02 R46, R49, R70) -/

/-- The command code that a mailbox row runs for (02 R70 and the command tables of the chapters); other rows have none, 0. -/
def commandCode (i : Instr) : Nat :=
  match i with
  | .mbSessionOpen _ _ => 0x0101
  | .mbSessionClose _ _ => 0x0102
  | .mbNop _ _ => 0x0103
  | .mbAckAttn _ _ => 0x0104
  | .mbDeviceInfo _ _ => 0x0105
  | .mbChanBind _ _ => 0x0106
  | .mbKeySet _ _ => 0x0107
  | .mbChanStats _ _ => 0x0108
  | .mbModeSet _ _ => 0x0201
  | .mbTenantModeSet _ _ => 0x0202
  | .mbTaskGet _ _ => 0x0203
  | .mbTaskSet _ _ => 0x0204
  | .mbTaskStats _ _ => 0x0205
  | .mbTenantSchedSet _ _ => 0x0206
  | .mbRetainSet _ _ => 0x0207
  | .mbEvtAlloc _ _ => 0x0208
  | .mbEvtEnable _ _ => 0x0209
  | .mbEvtClear _ _ => 0x020A
  | .mbEvtGet _ _ => 0x020B
  | .mbImageRead _ _ => 0x0301
  | .mbImageWrite _ _ => 0x0302
  | .mbPlotGet _ _ => 0x0303
  | .mbPlotAssign _ _ => 0x0304
  | .mbPlotRelease _ _ => 0x0305
  | .mbPlotShare _ _ => 0x0306
  | .mbPlotPubSet _ _ => 0x0307
  | .mbRioSet _ _ => 0x0310
  | .mbRioGet _ _ => 0x0311
  | .mbTenantAccept _ _ => 0x0312
  | .mbForceSet _ _ => 0x0320
  | .mbForceClear _ _ => 0x0321
  | .mbForceList _ _ => 0x0322
  | .mbValueWrite _ _ => 0x0401
  | .mbValueRead _ _ => 0x0402
  | .mbRetStat _ _ => 0x0403
  | .mbOvlCreate _ _ => 0x0501
  | .mbOvlDelete _ _ => 0x0502
  | .mbOvlRequest _ _ => 0x0503
  | .mbOvlStatus _ _ => 0x0504
  | .mbOvlList _ _ => 0x0505
  | .mbCeAlloc _ _ => 0x0601
  | .mbCeSet _ _ => 0x0602
  | .mbCeCoefSet _ _ => 0x0603
  | .mbCeCoefCommit _ _ => 0x0604
  | .mbCeGet _ _ => 0x0605
  | .mbCeStateSet _ _ => 0x0606
  | .mbCeFlagsClear _ _ => 0x0607
  | .mbCeInjStart _ _ => 0x0608
  | .mbCeInjStop _ _ => 0x0609
  | .mbCeCapRead _ _ => 0x060A
  | .mbCeLoad _ _ => 0x060B
  | .mbTbGet _ _ => 0x0701
  | .mbTbDiag _ _ => 0x0702
  | .mbLpSet _ _ => 0x0703
  | .mbMainsSet _ _ => 0x0704
  | .mbPosFix _ _ => 0x0705
  | .mbWallSet _ _ => 0x0706
  | .mbSchAlloc _ _ => 0x0710
  | .mbSchSet _ _ => 0x0711
  | .mbSchArm _ _ => 0x0712
  | .mbSchCancel _ _ => 0x0713
  | .mbSchGet _ _ => 0x0714
  | .mbRtcGet _ _ => 0x0720
  | .mbRtcCapture _ _ => 0x0721
  | .mbRtcCalSet _ _ => 0x0722
  | .mbSvcQuotaSet _ _ => 0x0801
  | .mbSvcList _ _ => 0x0802
  | .mbLocalSet _ _ => 0x0803
  | .mbCalSet _ _ => 0x0810
  | .mbWpgSet _ _ => 0x0811
  | .mbWpgGet _ _ => 0x0812
  | .mbAlmSet _ _ => 0x0820
  | .mbAlmList _ _ => 0x0821
  | .mbAlmAck _ _ => 0x0822
  | .mbAlmShelve _ _ => 0x0823
  | .mbTrdSet _ _ => 0x0830
  | .mbTrdRead _ _ => 0x0831
  | .mbEnSet _ _ => 0x0840
  | .mbEnRead _ _ => 0x0841
  | .mbEnSysSet _ _ => 0x0842
  | .mbEnTotals _ _ => 0x0843
  | .mbAccSet _ _ => 0x0850
  | .mbAccListPut _ _ => 0x0851
  | .mbAccListDel _ _ => 0x0852
  | .mbGlnRead _ _ => 0x0901
  | .mbGlnFreeze _ _ => 0x0902
  | .mbGlnUnfreeze _ _ => 0x0903
  | .mbGlnClassSet _ _ => 0x0904
  | .mbGlnStat _ _ => 0x0905
  | .mbPairSet _ _ => 0x0A01
  | .mbPairStat _ _ => 0x0A02
  | .mbPairResync _ _ => 0x0A03
  | .mbPairSwitch _ _ => 0x0A04
  | .mbPairSwapBegin _ _ => 0x0A05
  | .mbPairSwapPreview _ _ => 0x0A05
  | .mbPairSwapCommit _ _ => 0x0A05
  | .mbPairSwapAbort _ _ => 0x0A05
  | .mbPassSet _ _ => 0x0A30
  | .mbPassStat _ _ => 0x0A31
  | .mbPassMembers _ _ => 0x0A32
  | .mbPassBudget _ _ => 0x0A33
  | .mbPassInaug _ _ => 0x0A34
  | .mbSafetyStatus _ _ => 0x0B01
  | .mbSafetySecure _ _ => 0x0B02
  | .mbSafetyLoad _ _ => 0x0B03
  | .mbSafetyConfirm _ _ => 0x0B04
  | .mbSafetyRestart _ _ => 0x0B05
  | .mbSafetyPassword _ _ => 0x0B06
  | .mbSafetyRead _ _ => 0x0B07
  | .mbSafetyLogRead _ _ => 0x0B08
  | .mbFioMapSet _ _ => 0x0C01
  | .mbFcSet _ _ => 0x0C02
  | .mbFcGrpSet _ _ => 0x0C03
  | .mbFioSilSet _ _ => 0x0C04
  | .mbAiSet _ _ => 0x0C05
  | .mbAoSet _ _ => 0x0C06
  | .mbTwElecSet _ _ => 0x0C07
  | .mbFioStat _ _ => 0x0C08
  | .mbFioClear _ _ => 0x0C09
  | .mbCanSet _ _ => 0x0D01
  | .mbCanQueueSet _ _ => 0x0D02
  | .mbCanFilterSet _ _ => 0x0D03
  | .mbCanTx _ _ => 0x0D04
  | .mbCanTxCancel _ _ => 0x0D05
  | .mbCanTxResults _ _ => 0x0D06
  | .mbCanRxRead _ _ => 0x0D07
  | .mbCanStat _ _ => 0x0D08
  | .mbCanRecover _ _ => 0x0D09
  | .mbCanWakeSet _ _ => 0x0D0A
  | .mbEthSet _ _ => 0x0D20
  | .mbEthPortSet _ _ => 0x0D21
  | .mbEthStat _ _ => 0x0D22
  | .mbTrdpSet _ _ => 0x0D23
  | .mbTrdpGet _ _ => 0x0D24
  | .mbTrdpTopoSet _ _ => 0x0D25
  | .mbRioIpSet _ _ => 0x0D26
  | .mbPtpSet _ _ => 0x0D27
  | .mbPtpStat _ _ => 0x0D28
  | .mbStoreBegin _ _ => 0x0E01
  | .mbStoreData _ _ => 0x0E02
  | .mbStoreEnd _ _ => 0x0E03
  | .mbBankActivate _ _ => 0x0E04
  | .mbBankConfirm _ _ => 0x0E05
  | .mbFlashStat _ _ => 0x0E06
  | .mbPwrStat _ _ => 0x0F01
  | .mbResetLog _ _ => 0x0F02
  | .mbWdgFuse _ _ => 0x0F03
  | .mbWdgSet _ _ => 0x0F04
  | .mbWdgStat _ _ => 0x0F05
  | .mbStartSet _ _ => 0x0F06
  | .mbReset _ _ => 0x0F07
  | .mbSleep _ _ => 0x0F08
  | .mbWakeSet _ _ => 0x0F09
  | .mbWakeCause _ _ => 0x0F0A
  | _ => 0

/-- The tenant with whose rights a command of channel ch runs. -/
def tenantOf (s : State) (ch : Fin 16) : Nat := (chanCfg s ch.val).tenant

/-- A request message that passes every check of 02 R46 on channel ch: its header and length have the form, the tenant is the channel's,
a tag that it carries is right, nothing executes, and it opens a session or is the next in sequence of an open one. -/
structure RequestSound (s : State) (ch : Fin 16) (m : Bytes) : Prop where
  header : u8 m 0 = 1 ∧ u8 m 1 = ch.val ∧ u8 m 3 ≤ 1 ∧ be m 12 4 = 0
  length : m.length = 16 + be m 10 2 + 16 * u8 m 3 ∧ be m 10 2 ≤ 4064
  tenant : u8 m 2 = tenantOf s ch
  tag : u8 m 3 = 1 → (m.drop (16 + be m 10 2)).take 16 = mbTag (chanCfg s ch.val).key (m.take 16) ((m.drop 16).take (be m 10 2))
  idle : (getChan s ch.val).exec = none
  inOrder : be m 8 2 = 0x0101 ∨ (getChan s ch.val).isOpen = true ∧ be m 4 4 = ((getChan s ch.val).lastSeq + 1) % 2 ^ 32

/-- The channel executes the request, which came by SPI (udp none) or from a MAC, an address and a port; LAST_SEQ and the cache have
taken it, but for MB_SESSION_OPEN; a command that the device does not know has its result at once (02 R46, R68). -/
structure RequestTaken (s t : State) (ch : Fin 16) (m : Bytes) (udp : Option (Nat × Nat × Nat)) : Prop where
  executes : (getChan t ch.val).exec = some ⟨be m 4 4, be m 8 2, u8 m 2, u8 m 3, (m.drop 16).take (be m 10 2), reqDigest m, udp⟩
  lastSeq : (getChan t ch.val).lastSeq = if be m 8 2 = 0x0101 then (getChan s ch.val).lastSeq else be m 4 4
  cached : be m 8 2 ≠ 0x0101 → (getChan t ch.val).cache = (⟨be m 4 4, reqDigest m, none⟩ :: (getChan s ch.val).cache).take 8
  opening : be m 8 2 = 0x0101 → (getChan t ch.val).cache = (getChan s ch.val).cache
  result : (getChan t ch.val).result = if knownCmd (be m 8 2) then none else some (0x0015, [])
  isOpen : (getChan t ch.val).isOpen = (getChan s ch.val).isOpen

/-- The channel executes an accepted request whose command is i with payload p, and it has no result yet (02 R46). -/
def Asked (i : Fin 16 → Bytes → Instr) (ch : Fin 16) (p : Bytes) (s : State) : Prop :=
  asked s ch.val (commandCode (i ch p)) p = true

/-- The command, asked for, ends with result code OK and a reply payload of which R holds, in a state of which P holds. -/
def MbGives (i : Fin 16 → Bytes → Instr) (ch : Fin 16) (p : Bytes) (s : State) (R : Bytes → Prop) (P : State → Prop) : Prop :=
  Asked i ch p s → Answers (exec (i ch p) s) (fun t => ∃ b, (getChan t ch.val).result = some (0x0000, b) ∧ R b ∧ P t)

/-- The command ends with result code OK and an empty payload, in a state of which P holds. -/
def MbDone (i : Fin 16 → Bytes → Instr) (ch : Fin 16) (p : Bytes) (s : State) (P : State → Prop) : Prop := MbGives i ch p s (· = []) P

/-- The command, asked for, is accepted and still executes, in a state of which P holds: its result comes later (02 R47). -/
def MbWaits (i : Fin 16 → Bytes → Instr) (ch : Fin 16) (p : Bytes) (s : State) (P : State → Prop) : Prop :=
  Asked i ch p s → Answers (exec (i ch p) s) (fun t => (getChan t ch.val).result = (getChan s ch.val).result ∧ P t)

/-- The command, asked for, is accepted and ends with OK and a payload of which R holds at the next command `by_`, which brings what it
waits for (02 R47). -/
def MbEndsBy (i : Fin 16 → Bytes → Instr) (by_ : Instr) (ch : Fin 16) (p : Bytes) (s : State) (R : Bytes → Prop) (P : State → Prop) : Prop :=
  Asked i ch p s → ∃ t, exec (i ch p) s = .next t ∧
    Answers (exec by_ t) (fun u => ∃ b, (getChan u ch.val).result = some (0x0000, b) ∧ R b ∧ P u)

/-- As MbEndsBy, d ns later, when the standby has acknowledged every record (15 R379). -/
def MbEndsLater (i : Fin 16 → Bytes → Instr) (by_ : Instr) (d : Nat) (ch : Fin 16) (p : Bytes) (s : State) (R : Bytes → Prop)
    (P : State → Prop) : Prop :=
  Asked i ch p s → ∃ t, exec (i ch p) s = .next t ∧
    Answers (exec by_ { t with clk := t.clk + d, pair := { t.pair with unacked := [] } }) (fun u => ∃ b, (getChan u ch.val).result = some (0x0000, b) ∧ R b ∧ P u)

/-- The command, asked for, is refused with a result code, and nothing but the channel's result changes. -/
def MbRefuses (i : Fin 16 → Bytes → Instr) (ch : Fin 16) (p : Bytes) (s : State) (rc : Nat) : Prop :=
  Asked i ch p s → exec (i ch p) s = .next (setResult ch.val rc [] s)

/-- The request that the channel executes is not one that a primary carries to its standby (15 R382). -/
def NotCarried (s : State) (ch : Fin 16) : Prop := ∀ r, (getChan s ch.val).exec = some r → carriedCmd r.cmd = false

/-- The command, asked for, replies with b and changes nothing but the channel's result. -/
def MbReads (i : Fin 16 → Bytes → Instr) (ch : Fin 16) (p : Bytes) (s : State) (b : Bytes) : Prop :=
  Asked i ch p s → exec (i ch p) s = .next (setResult ch.val 0x0000 b s)

/-- The handler's checks let the command pass (02 R46 checks 9 to 12). -/
def Passes (f : Nat → Nat → Bytes → State → MbR) (ch : Fin 16) (p : Bytes) (s : State) : Prop :=
  ∃ o, f (tenantOf s ch) ch.val p s = .ok o

/-- A unit that accepts changes: not in UPDATE, and not one of a pair that follows a primary (02 R64, 15 R382). -/
def Changes (s : State) : Prop := updating s = false ∧ pairRefuses s = false

/-! ### Releases (05 R127 to R136) -/

/-- Task k has been released: its execution is new, begins at its entry and sees the committed image; SCANCNT has counted. -/
def Released (k : Nat) (s t : State) : Prop :=
  ∃ e, taskEx t k = some e ∧ e.relAt = s.clk ∧ e.tenant = taskTenant t k ∧ e.pc = fld (taskEnt t k).cfg 21 0 ∧ e.n = 0 ∧ e.cycles = 0 ∧
    e.w = [] ∧ e.outw = [] ∧ e.posts = [] ∧ e.view = t.img.word ∧ (taskEnt t k).scancnt = (taskEnt s k).scancnt + 1#48

/-! ### Ethernet (13 R324, R328) -/

/-- The hardware address that a packet to dst leaves MAC n for: its group's, or the learned one of its next hop; none where that is not
known. -/
def nextHop (s : State) (n dst : Nat) : Option Nat :=
  let m := getMac s n
  let hop := if inPrefix m dst then dst else macGw m
  if isMulticast dst then some (groupHw dst) else if hop = 0 then none else (tget none m.arp hop).map (·.mac)

/-- A PTP message of this clock leaves its MAC, by the transport that L2 selects, and nothing else does. -/
def PtpSent (s t : State) (m : PtpMsg) : Prop :=
  (match t.out with
    | .eth n tag _ _ b :: r => n == ptpMac s && tag == macTag (getMac s (ptpMac s)) b && b == .ptp (bit s.eth.ptp.cfg 41) m && r == s.out
    | _ => false) = true

/-- A clock in sync with the MAC it uses can hear a message: no change of settings waits, PTP and the MAC on, the link up, a tag that the MAC takes, the transport that L2
selects. -/
def PtpHears (s : State) (vlan : Option (Nat × Nat)) (l2 : Bool) : Prop :=
  s.ovl.units = [] ∧ ptpOn s = true ∧ macLive (getMac s (ptpMac s)) = true ∧ vlanOk (getMac s (ptpMac s)) vlan = true ∧ l2 = bit s.eth.ptp.cfg 41

/-! ### Resets (18 R446, R447) -/

/-- The device has been reset with a cause and a detail: it is held, every register of the logic side has its reset value, and what no
device reset touches is as it was. -/
structure IsReset (cause detail : Nat) (s t : State) : Prop where
  held : t.aon.inReset = true
  cause : t.aon.cause = cause
  detail : t.aon.detail = detail
  fuse : t.aon.fuse = s.aon.fuseBlown
  time : t.clk = 0 ∧ absNow t = absNow s
  registers : t.mb = State.reset.mb ∧ t.evt = State.reset.evt ∧ t.gln = State.reset.gln ∧ t.sup = State.reset.sup ∧ t.tb = State.reset.tb
  program : t.core = State.reset.core ∧ t.prog = State.reset.prog ∧ t.task = State.reset.task ∧ t.ovl = State.reset.ovl
  image : t.img = State.reset.img ∧ t.slot = State.reset.slot ∧ t.ce = State.reset.ce ∧ t.svc = State.reset.svc
  buses : t.can = State.reset.can ∧ t.eth = State.reset.eth ∧ t.pass = State.reset.pass ∧ t.pair.rstate = 0
  stores : t.flash = s.flash ∧ t.silo.ret = s.silo.ret ∧ t.silo.desc = s.silo.desc ∧ t.silo.innings = s.silo.innings
  clock : t.rtc = s.rtc
  safety : t.saf.state = s.saf.state ∧ t.saf.path = s.saf.path ∧ t.saf.block = s.saf.block
  strap : t.pair.unitB = s.pair.unitB
  queue : t.pending = s.pending

/-! ### What a command leaves as it was -/

/-- The groups of the state, a waiting command's queue apart. -/
inductive Part
  | clk
  | mb
  | evt
  | gln
  | silo
  | rtc
  | aon
  | sup
  | core
  | prog
  | task
  | img
  | tb
  | slot
  | ce
  | svc
  | fio
  | saf
  | can
  | eth
  | pass
  | pair
  | flash
  | ovl
  | out
  | free
deriving DecidableEq, Repr

/-- The group is the same in both states. -/
def samePart : Part → State → State → Prop
  | .clk, s, t => t.clk = s.clk
  | .mb, s, t => t.mb = s.mb
  | .evt, s, t => t.evt = s.evt
  | .gln, s, t => t.gln = s.gln
  | .silo, s, t => t.silo = s.silo
  | .rtc, s, t => t.rtc = s.rtc
  | .aon, s, t => t.aon = s.aon
  | .sup, s, t => t.sup = s.sup
  | .core, s, t => t.core = s.core
  | .prog, s, t => t.prog = s.prog
  | .task, s, t => t.task = s.task
  | .img, s, t => t.img = s.img
  | .tb, s, t => t.tb = s.tb
  | .slot, s, t => t.slot = s.slot
  | .ce, s, t => t.ce = s.ce
  | .svc, s, t => t.svc = s.svc
  | .fio, s, t => t.fio = s.fio
  | .saf, s, t => t.saf = s.saf
  | .can, s, t => t.can = s.can
  | .eth, s, t => t.eth = s.eth
  | .pass, s, t => t.pass = s.pass
  | .pair, s, t => t.pair = s.pair
  | .flash, s, t => t.flash = s.flash
  | .ovl, s, t => t.ovl = s.ovl
  | .out, s, t => t.out = s.out
  | .free, s, t => t.free = s.free

/-- All groups but those listed. -/
def allBut (ps : List Part) : List Part :=
  [.clk, .mb, .evt, .gln, .silo, .rtc, .aon, .sup, .core, .prog, .task, .img, .tb, .slot, .ce, .svc, .fio, .saf, .can, .eth, .pass, .pair, .flash, .ovl, .out, .free].filter (fun p => decide (p ∉ ps))

/-- The command changes groups of the list alone, and not the queue. -/
def ChangesOnly (ps : List Part) (i : Instr) : Prop :=
  ∀ s t, exec i s = .next t → t.pending = s.pending ∧ ∀ p, p ∉ ps → samePart p s t

/-- A release changes its task and core, what the scheduler slots that count releases fire, and nothing else. -/
def ReleaseFrame (s t : State) : Prop :=
  t.pending = s.pending ∧ ∀ p, p ∉ ([.evt, .gln, .core, .task, .img, .slot, .fio, .can, .eth, .pair, .out] : List Part) → samePart p s t

/-! ### Tenants' words -/

/-- 05 R137, 06 R172: tenant isolation of the image. Every output-image word that an execution holds lies in a TASK plot that its tenant
owns at its own device, by the plot table of its release. -/
def PlotsAreKept (s : State) : Prop :=
  ∀ (k : Nat) (e : Ex), taskEx s k = some e →
    (∀ x ∈ e.outw, plotCheck e 2 x.1 true = true) ∧ (∀ x ∈ e.imPend, plotCheck e 2 x.key true = true)

end Sys2Proof.Machine
end

