-- ==== Sys2Proof/Certificates/Slice0/Obligations.lean ====
section
/-! DEFINITION. The statements about the block, one proposition each. A statement about a mailbox command says what the command does
from every state where its request is well formed and permitted; a statement about an event, from every state where the event's own
condition holds. -/

open Sys2Proof Sys2Proof.Machine

/-! ### The queue, reset, and what holds of the whole device -/

/-- The block as commands reach it: a step runs the command at the front of the queue on the state with the queue's rest, and with
no command waiting it lets a nanosecond of every clock pass (the model's choice, log 7). -/
def Obligations.StepRunsFrontCommand : Prop :=
  (∀ (c : Instr) (rest : List Instr) (s : State), s.pending = c :: rest → step s = exec c { s with pending := rest }) ∧
  (∀ s : State, s.pending = [] → step s = .next (tick s))

/-- The Reset columns of 01 Table 1-9, 03 Table 3-4, 06 Tables 6-2 and 6-4, 07 Table 7-12, 12 Table 12-10, 15 Table 15-4, 18 Table 18-5, with
01 R24, 02 R41, R48, R69: right after power-on a module as shipped is held in reset with DEVTIME 0, MBX0 on the SPI port for T0, every
session closed and every cache empty, every event source idle and unbound, no execution and no force, every plot unassigned and
without an update, every slot's status 0, no loop configured, every CAN controller off, the pair off, the watchdog off, and, as the
model has it, no command waiting and no execution with an output word. -/
def Obligations.ResetState : Prop :=
  let s := State.reset
  s.clk = 0 ∧ s.pending = [] ∧ s.aon.inReset = true ∧ s.aon.cause = 1 ∧
  (chanCfg s 0).tenant = 0 ∧ (chanCfg s 0).transport = 1 ∧ (∀ ch, 0 < ch → ch < 16 → (chanCfg s ch).transport = 0) ∧
  (∀ ch, (getChan s ch).isOpen = false ∧ (getChan s ch).cache = [] ∧ (getChan s ch).ready = false ∧ (getChan s ch).exec = none) ∧
  (∀ n, evtPending s n = false ∧ bit (evtSrc s n) 23 = false) ∧
  (∀ k, taskEx s k = none ∧ tget none s.task.force k = none) ∧
  (∀ n, plotOwn s n = 0#48 ∧ (getPlot s n).valid = false ∧ (getPlot s n).upd = 0) ∧
  (∀ n, (getSlot s n).sts = 0#48 ∧ (getLoop s n).isSet = false ∧ (getCan s n).bstate = 0) ∧
  s.pair.rstate = 0 ∧ s.silo.innings = 0 ∧ s.sup.wdgState = 0 ∧ s.silo.nextSeq = 0 ∧ s.silo.resets = 0 ∧ PlotsAreKept s

/-- The commands wait first in, first out: whatever a command does, it neither takes, adds nor reorders what waits, so that every step
leaves the end of the queue that it found; a device reset too leaves it. -/
def Obligations.QueueKeepsItsOrder : Prop :=
  (∀ (c : Instr) (s : State), Answers (exec c s) (fun t => t.pending = s.pending)) ∧
  (∀ (l : List Instr) (s t : State), l <:+ s.pending.tail → step s = .next t → l <:+ t.pending) ∧
  (∀ s : State, Answers (step s) (fun t => t.pending = s.pending.tail))

/-- 05 R137, 06 R172: no step of the device lets an execution hold an output word outside its tenant's own TASK plots: what a commit
carries is the tenant's own. -/
def Obligations.ExecutionsWriteOnlyTheirPlots : Prop :=
  ∀ s t : State, PlotsAreKept s → step s = .next t → PlotsAreKept t

/-! ### KV48 (03, 04) -/

/-- 04 R108 to R110, Tables 4-2 and 4-3: sums, differences, products, choices and the move, from Ws and Wt or an immediate, with the
clamps that set SAT; shifts and rotations by Wt[5:0] or IMM[5:0], amounts of 48 and more among them; the constants. -/
def Obligations.KvArithmetic : Prop :=
  KvSets .add 2 (fun o e v => v.toNat = ((rW e o.s).toNat + (rW e o.t).toNat) % 2 ^ 48) noSat ∧
  KvSets .sub 2 (fun o e v => v.toInt % 2 ^ 48 = ((rW e o.s).toInt - (rW e o.t).toInt) % 2 ^ 48) noSat ∧
  KvSets .adds 2 (fun o e v => v = satWord ((rW e o.s).toInt + (rW e o.t).toInt)) (fun o e => clamps ((rW e o.s).toInt + (rW e o.t).toInt)) ∧
  KvSets .addsu 2 (fun o e v => v = usatWord ((rW e o.s).toNat + (rW e o.t).toNat)) (fun o e => uclamps ((rW e o.s).toNat + (rW e o.t).toNat)) ∧
  KvSets .subs 2 (fun o e v => v = satWord ((rW e o.s).toInt - (rW e o.t).toInt)) (fun o e => clamps ((rW e o.s).toInt - (rW e o.t).toInt)) ∧
  KvSets .subsu 2 (fun o e v => v = usatWord ((rW e o.s).toNat - (rW e o.t).toNat)) (fun o e => uclamps ((rW e o.s).toNat - (rW e o.t).toNat)) ∧
  KvSets .mul 2 (fun o e v => v.toNat = ((rW e o.s).toNat * (rW e o.t).toNat) % 2 ^ 48) noSat ∧
  KvSets .muls 2 (fun o e v => v = satWord ((rW e o.s).toInt * (rW e o.t).toInt)) (fun o e => clamps ((rW e o.s).toInt * (rW e o.t).toInt)) ∧
  KvSets .mulq 2 (fun o e v => v = satWord (((rW e o.s).toInt * (rW e o.t).toInt + 2 ^ 31) / 2 ^ 32))
    (fun o e => clamps (((rW e o.s).toInt * (rW e o.t).toInt + 2 ^ 31) / 2 ^ 32)) ∧
  KvSets .mulh 2 (fun o e v => v.toInt = (rW e o.s).toInt * (rW e o.t).toInt / 2 ^ 48) noSat ∧
  KvSets .negs 2 (fun o e v => v = satWord (-(rW e o.s).toInt)) (fun o e => clamps (-(rW e o.s).toInt)) ∧
  KvSets .abss 2 (fun o e v => v = satWord |(rW e o.s).toInt|) (fun o e => clamps |(rW e o.s).toInt|) ∧
  KvSets .min 2 (fun o e v => v.toInt = Min.min (rW e o.s).toInt (rW e o.t).toInt) noSat ∧
  KvSets .minu 2 (fun o e v => v.toNat = Min.min (rW e o.s).toNat (rW e o.t).toNat) noSat ∧
  KvSets .max 2 (fun o e v => v.toInt = Max.max (rW e o.s).toInt (rW e o.t).toInt) noSat ∧
  KvSets .maxu 2 (fun o e v => v.toNat = Max.max (rW e o.s).toNat (rW e o.t).toNat) noSat ∧
  KvSets .mov 2 (fun o e v => v = rW e o.s) noSat ∧
  KvSets .addi 3 (fun o e v => v.toInt % 2 ^ 48 = ((rW e o.s).toInt + o.imm.toInt) % 2 ^ 48) noSat ∧
  KvSets .addsi 3 (fun o e v => v = satWord ((rW e o.s).toInt + o.imm.toInt)) (fun o e => clamps ((rW e o.s).toInt + o.imm.toInt)) ∧
  KvSets .movi 3 (fun o _ v => v.toInt = o.imm.toInt) noSat ∧
  KvSets .andi 3 (fun o e v => ∀ j, j < 48 → v.getLsbD j = ((rW e o.s).getLsbD j && o.imm.getLsbD (min j 13))) noSat ∧
  KvSets .ori 3 (fun o e v => ∀ j, j < 48 → v.getLsbD j = ((rW e o.s).getLsbD j || o.imm.getLsbD (min j 13))) noSat ∧
  KvSets .xori 3 (fun o e v => ∀ j, j < 48 → v.getLsbD j = ((rW e o.s).getLsbD j ^^ o.imm.getLsbD (min j 13))) noSat ∧
  KvSets .shl 2 (fun o e v => v.toNat = (rW e o.s).toNat * 2 ^ ((rW e o.t).toNat % 64) % 2 ^ 48) noSat ∧
  KvSets .shr 2 (fun o e v => v.toNat = (rW e o.s).toNat / 2 ^ ((rW e o.t).toNat % 64)) noSat ∧
  KvSets .sar 2 (fun o e v => v.toInt = (rW e o.s).toInt / 2 ^ ((rW e o.t).toNat % 64)) noSat ∧
  KvSets .rol 2 (fun o e v => ∀ j, j < 48 → v.getLsbD ((j + (rW e o.t).toNat % 64) % 48) = (rW e o.s).getLsbD j) noSat ∧
  KvSets .shli 3 (fun o e v => v.toNat = (rW e o.s).toNat * 2 ^ (o.imm.toNat % 64) % 2 ^ 48) noSat ∧
  KvSets .shri 3 (fun o e v => v.toNat = (rW e o.s).toNat / 2 ^ (o.imm.toNat % 64)) noSat ∧
  KvSets .sari 3 (fun o e v => v.toInt = (rW e o.s).toInt / 2 ^ (o.imm.toNat % 64)) noSat ∧
  KvSets .roli 3 (fun o e v => ∀ j, j < 48 → v.getLsbD ((j + o.imm.toNat % 64) % 48) = (rW e o.s).getLsbD j) noSat ∧
  KvSets .lk0 3 (fun o _ v => v.toNat = o.imm.toNat) noSat ∧
  KvSets .lk1 3 (fun o e v => ∀ j, j < 48 → v.getLsbD j = if 14 ≤ j ∧ j ≤ 27 then o.imm.getLsbD (j - 14) else (rW e o.d).getLsbD j) noSat ∧
  KvSets .lk2 3 (fun o e v => ∀ j, j < 48 → v.getLsbD j = if 28 ≤ j ∧ j ≤ 41 then o.imm.getLsbD (j - 28) else (rW e o.d).getLsbD j) noSat ∧
  KvSets .lk3 3 (fun o e v => ∀ j, j < 48 → v.getLsbD j = if 42 ≤ j then o.imm.getLsbD (j - 42) else (rW e o.d).getLsbD j) noSat

/-- 03 R77 and 04 R111, Table 4-4: compares, tests and predicate logic write Pd under the combine bit; PRD and PWR copy predicates. A
lane of 48 and more in TSTB traps. -/
def Obligations.KvCompares : Prop :=
  KvTests .cmpeq 2 (fun o e => rW e o.s = rW e o.t) ∧
  KvTests .cmpne 2 (fun o e => rW e o.s ≠ rW e o.t) ∧
  KvTests .cmplt 2 (fun o e => (rW e o.s).toInt < (rW e o.t).toInt) ∧
  KvTests .cmpltu 2 (fun o e => (rW e o.s).toNat < (rW e o.t).toNat) ∧
  KvTests .cmple 2 (fun o e => (rW e o.s).toInt ≤ (rW e o.t).toInt) ∧
  KvTests .cmpleu 2 (fun o e => (rW e o.s).toNat ≤ (rW e o.t).toNat) ∧
  KvTests .cmpeqi 3 (fun o e => (rW e o.s).toInt = o.imm.toInt) ∧
  KvTests .cmpnei 3 (fun o e => (rW e o.s).toInt ≠ o.imm.toInt) ∧
  KvTests .cmplti 3 (fun o e => (rW e o.s).toInt < o.imm.toInt) ∧
  KvTests .cmpltiu 3 (fun o e => (rW e o.s).toNat < o.imm.toNat) ∧
  KvTests .cmpgti 3 (fun o e => o.imm.toInt < (rW e o.s).toInt) ∧
  KvTests .cmpgtiu 3 (fun o e => o.imm.toNat < (rW e o.s).toNat) ∧
  KvTests .tstnz 2 (fun o e => ∃ j, (rW e o.s).getLsbD j = true ∧ (rW e o.t).getLsbD j = true) ∧
  KvTests .pand 2 (fun o e => rP e (o.s.toNat % 8) = true ∧ rP e (o.t.toNat % 8) = true) ∧
  KvTests .por 2 (fun o e => rP e (o.s.toNat % 8) = true ∨ rP e (o.t.toNat % 8) = true) ∧
  KvTests .pxor 2 (fun o e => rP e (o.s.toNat % 8) ≠ rP e (o.t.toNat % 8)) ∧
  KvTests .pandn 2 (fun o e => rP e (o.s.toNat % 8) = true ∧ rP e (o.t.toNat % 8) = false) ∧
  KvSets .prd 2 (fun _ e v => ∀ j, j < 48 → v.getLsbD j = (decide (j < 8) && rP e j)) noSat ∧
  (∀ (o : Kv) (k : Nat) (e : Ex) (s : State), KvIssues .pwr o 2 k e s → ∃ e', exec (.pwr o) s = .next (setEx k (some e') (issueCycle o.core.val s)) ∧
    (∀ i, 1 ≤ i → i ≤ 7 → rP e' i = (rW e o.s).getLsbD i) ∧ (∀ r : BitVec 4, NoLoadLands e r.toNat → rW e' r = rW e r) ∧
    e'.sat = e.sat ∧ e'.n = e.n + 1 ∧ e'.cycles = e.cycles + 1) ∧
  (∀ (o : Kv) (k : Nat) (e : Ex) (s : State), KvIssues .tstb o (lenByM o) k e s →
    if laneOf o e < 48 then
      ∃ e', exec (.tstb o) s = .next (setEx k (some e') (issueCycle o.core.val s)) ∧ KvKeeps (lenByM o) none (some (o.d.toNat % 8)) e e' ∧
        (rP e' (o.d.toNat % 8) = true ↔ o.d.toNat % 8 = 0 ∨
          ((rW e o.s).getLsbD (laneOf o e) = true ∧ (8 ≤ o.d.toNat → rP e (o.d.toNat % 8) = true)))
    else KvTraps .tstb o k e s 0x06 (laneOf o e))

/-- 04 R112, R113, Tables 4-5 and 4-6: the sheaf instructions act lane by lane, the lane and field instructions on the lanes that they
name; a lane of 48 and more and a field that does not fit trap. -/
def Obligations.KvLogic : Prop :=
  KvSets .and 2 (fun o e v => ∀ j, v.getLsbD j = ((rW e o.s).getLsbD j && (rW e o.t).getLsbD j)) noSat ∧
  KvSets .or 2 (fun o e v => ∀ j, v.getLsbD j = ((rW e o.s).getLsbD j || (rW e o.t).getLsbD j)) noSat ∧
  KvSets .xor 2 (fun o e v => ∀ j, v.getLsbD j = ((rW e o.s).getLsbD j ^^ (rW e o.t).getLsbD j)) noSat ∧
  KvSets .andn 2 (fun o e v => ∀ j, v.getLsbD j = ((rW e o.s).getLsbD j && !(rW e o.t).getLsbD j)) noSat ∧
  KvSets .not 2 (fun o e v => ∀ j, j < 48 → v.getLsbD j = !(rW e o.s).getLsbD j) noSat ∧
  KvSets .edge 2 (fun o e v => ∀ j, v.getLsbD j = ((rW e o.s).getLsbD j && !(rW e o.t).getLsbD j)) noSat ∧
  KvSets .edgef 2 (fun o e v => ∀ j, v.getLsbD j = (!(rW e o.s).getLsbD j && (rW e o.t).getLsbD j)) noSat ∧
  KvSets .edgea 2 (fun o e v => ∀ j, v.getLsbD j = ((rW e o.s).getLsbD j ^^ (rW e o.t).getLsbD j)) noSat ∧
  KvSets .latch 2 (fun o e v => ∀ j, v.getLsbD j = (((rW e o.d).getLsbD j || (rW e o.s).getLsbD j) && !(rW e o.t).getLsbD j)) noSat ∧
  KvSets .latchs 2 (fun o e v => ∀ j, v.getLsbD j = (((rW e o.d).getLsbD j && !(rW e o.t).getLsbD j) || (rW e o.s).getLsbD j)) noSat ∧
  KvSets .shMerge 2 (fun o e v => ∀ j, v.getLsbD j = if (rW e o.s).getLsbD j then (rW e o.t).getLsbD j else (rW e o.d).getLsbD j) noSat ∧
  KvSets .popc 2 (fun o e v => v.toNat = ((List.range 48).filter (fun j => (rW e o.s).getLsbD j)).length) noSat ∧
  KvSets .clz 2 (fun o e v => v.toNat ≤ 48 ∧ (∀ j, 48 - v.toNat ≤ j → (rW e o.s).getLsbD j = false) ∧
    (v.toNat < 48 → (rW e o.s).getLsbD (47 - v.toNat) = true)) noSat ∧
  KvSets .ffs 2 (fun o e v => v.toNat ≤ 48 ∧ (∀ j, j < v.toNat → (rW e o.s).getLsbD j = false) ∧
    (v.toNat < 48 → (rW e o.s).getLsbD v.toNat = true)) noSat ∧
  KvTests .shAny 2 (fun o e => rW e o.s ≠ 0#48) ∧
  KvTests .shAll 2 (fun o e => ∀ j, j < 48 → (rW e o.s).getLsbD j = true) ∧
  KvTests .shNone 2 (fun o e => rW e o.s = 0#48) ∧
  KvLaneSets .shSplat (fun o e n v => ∀ j, j < 48 → v.getLsbD j = (rW e o.s).getLsbD n) ∧
  KvLaneSets .bset (fun o e n v => ∀ j, j < 48 → v.getLsbD j = (decide (j = n) || (rW e o.s).getLsbD j)) ∧
  KvLaneSets .bclr (fun o e n v => ∀ j, j < 48 → v.getLsbD j = (!decide (j = n) && (rW e o.s).getLsbD j)) ∧
  (∀ (o : Kv) (k : Nat) (e : Ex) (s : State), KvIssues .bins o 3 k e s →
    if o.imm.toNat % 64 < 48 then
      ∃ e', exec (.bins o) s = .next (setEx k (some e') (issueCycle o.core.val s)) ∧ KvKeeps 3 (some o.d) none e e' ∧
        (∀ j, j < 48 → (rW e' o.d).getLsbD j = if j = o.imm.toNat % 64 then rP e (o.t.toNat % 8) else (rW e o.s).getLsbD j)
    else KvTraps .bins o k e s 0x06 (o.imm.toNat % 64 : Nat)) ∧
  (∀ (o : Kv) (k : Nat) (e : Ex) (s : State), KvIssues .extr o 3 k e s →
    let l := o.imm.toNat % 64
    let n := o.imm.toNat / 64 % 64
    if 0 < n ∧ l + n ≤ 48 then ∃ e', exec (.extr o) s = .next (setEx k (some e') (issueCycle o.core.val s)) ∧ KvKeeps 3 (some o.d) none e e' ∧
        (rW e' o.d).toNat = (rW e o.s).toNat / 2 ^ l % 2 ^ n
    else KvTraps .extr o k e s 0x06 o.imm.toNat) ∧
  (∀ (o : Kv) (k : Nat) (e : Ex) (s : State), KvIssues .dep o 3 k e s →
    let l := o.imm.toNat % 64
    let n := o.imm.toNat / 64 % 64
    if 0 < n ∧ l + n ≤ 48 then ∃ e', exec (.dep o) s = .next (setEx k (some e') (issueCycle o.core.val s)) ∧ KvKeeps 3 (some o.d) none e e' ∧
        ∀ j, j < 48 → (rW e' o.d).getLsbD j = if l ≤ j ∧ j < l + n then (rW e o.s).getLsbD (j - l) else (rW e o.d).getLsbD j
    else KvTraps .dep o k e s 0x06 o.imm.toNat)

/-- 03 R84, R93 and 04 R114, R115: a load that passes its checks delivers its word two instructions later, and mode 2 increments
Ws; one that does not traps with the first check it fails. -/
def Obligations.KvLoads : Prop :=
  (∀ (o : Kv) (k : Nat) (e : Ex) (s : State), KvIssues .ld o (lenOfAccess o) k e s →
    match firstTrap e [0, 4] false (addrOf o e) with
    | some c => KvTraps .ld o k e s c (addrOf o e).toNat
    | none => Intact k e (placeOf e (addrOf o e)) s → ∃ e', exec (.ld o) s = .next (setEx k (some e') (issueCycle o.core.val s)) ∧
        WithLoad e e' o.d.toNat (dataWord k e (placeOf e (addrOf o e)) (issueCycle o.core.val s)) ∧ Incremented o e e' ∧ KvKeeps (lenOfAccess o) (incOf o) none e e') ∧
  (∀ (o : Kv) (k : Nat) (e : Ex) (s : State), KvIssues .imld o (lenOfAccess o) k e s →
    match firstTrap e [1, 2, 3] false (addrOf o e) with
    | some c => KvTraps .imld o k e s c (addrOf o e).toNat
    | none => ∃ e', exec (.imld o) s = .next (setEx k (some e') (issueCycle o.core.val s)) ∧
        WithLoad e e' o.d.toNat (imageWord (openDistances e) (placeOf e (addrOf o e))) ∧ Incremented o e e' ∧
        KvKeeps (lenOfAccess o) (incOf o) none e e') ∧
  (∀ (o : Kv) (k : Nat) (e : Ex) (s : State), KvIssues .ldb o 3 k e s →
    let n := (rW e o.t).toNat % 64
    if 48 ≤ n then KvTraps .ldb o k e s 0x06 n
    else
      (match firstTrap e [0] false (addrOf o e) with
        | some c => KvTraps .ldb o k e s c (addrOf o e).toNat
        | none => Intact k e (placeOf e (addrOf o e)) s → ∃ e', exec (.ldb o) s = .next (setEx k (some e') (issueCycle o.core.val s)) ∧
            (o.d.toNat % 8 ≠ 0 → WithLoad e e' (16 + o.d.toNat % 8)
              (if (dataWord k e (placeOf e (addrOf o e)) (issueCycle o.core.val s)).getLsbD n then 1#48 else 0#48)) ∧
            Incremented o e e' ∧ KvKeeps 3 (incOf o) none e e')) ∧
  (∀ (o : Kv) (k : Nat) (e : Ex) (s : State), KvIssues .imldb o 3 k e s →
    let n := (rW e o.t).toNat % 64
    if 48 ≤ n then KvTraps .imldb o k e s 0x06 n
    else
      (match firstTrap e [1, 2, 3] false (addrOf o e) with
        | some c => KvTraps .imldb o k e s c (addrOf o e).toNat
        | none => ∃ e', exec (.imldb o) s = .next (setEx k (some e') (issueCycle o.core.val s)) ∧
            (o.d.toNat % 8 ≠ 0 → WithLoad e e' (16 + o.d.toNat % 8)
              (if (imageWord (openDistances e) (placeOf e (addrOf o e))).getLsbD n then 1#48 else 0#48)) ∧
            Incremented o e e' ∧ KvKeeps 3 (incOf o) none e e'))

/-- 03 R84 and 04 R114, R116, R117: a store that passes its checks changes its one word, or its one lane, and nothing else of the data
store, and what a higher-numbered core stores there in the same clock cycle stands over it; a store to the output image is held in the execution, and no word of the committed image changes. -/
def Obligations.KvStores : Prop :=
  (∀ (o : Kv) (k : Nat) (e : Ex) (s : State), KvIssues .st o (lenOfAccess o) k e s →
    match firstTrap e [0] true (addrOf o e) with
    | some c => KvTraps .st o k e s c (addrOf o e).toNat
    | none => ∃ e' d words, exec (.st o) s = .next (setEx k (some e') { s with core := { s.core with data := d, cyc := { (issueCycle o.core.val s).core.cyc with words } } }) ∧
        Replaced s.core.data d (placeKey k e (placeOf e (addrOf o e)))
          (storesOn (rW e o.d) ((wordCycle (placeKey k e (placeOf e (addrOf o e))) (issueCycle o.core.val s)).writes.filter
            (fun x => e.core ≤ x.core))) ∧ Incremented o e e' ∧
        KvKeeps (lenOfAccess o) (incOf o) none e e') ∧
  (∀ (o : Kv) (k : Nat) (e : Ex) (s : State), KvIssues .imst o (lenOfAccess o) k e s →
    match firstTrap e [2] true (addrOf o e) with
    | some c => KvTraps .imst o k e s c (addrOf o e).toNat
    | none => ∃ e', exec (.imst o) s = .next (setEx k (some e') (issueCycle o.core.val s)) ∧ WithImst e e' (placeOf e (addrOf o e)).off (rW e o.d) ∧
        Incremented o e e' ∧ KvKeeps (lenOfAccess o) (incOf o) none e e') ∧
  (∀ (o : Kv) (k : Nat) (e : Ex) (s : State), KvIssues .stb o 3 k e s →
    let n := (rW e o.t).toNat % 64
    if 48 ≤ n then KvTraps .stb o k e s 0x06 n
    else
      (match firstTrap e [0] true (addrOf o e) with
        | some c => KvTraps .stb o k e s c (addrOf o e).toNat
        | none => Intact k e (placeOf e (addrOf o e)) s → ∃ e' d words v, exec (.stb o) s = .next (setEx k (some e') { s with core := { s.core with data := d, cyc := { (issueCycle o.core.val s).core.cyc with words } } }) ∧
            Replaced s.core.data d (placeKey k e (placeOf e (addrOf o e)))
              (storesOn v ((wordCycle (placeKey k e (placeOf e (addrOf o e))) (issueCycle o.core.val s)).writes.filter
                (fun x => e.core ≤ x.core))) ∧
            (∀ j, j < 48 → v.getLsbD j = if j = n then rP e (o.d.toNat % 8)
              else (coreWord e.core (placeKey k e (placeOf e (addrOf o e))) (issueCycle o.core.val s)).getLsbD j) ∧
            Incremented o e e' ∧ KvKeeps 3 (incOf o) none e e')) ∧
  (∀ (o : Kv) (k : Nat) (e : Ex) (s : State), KvIssues .imstb o 3 k e s →
    let n := (rW e o.t).toNat % 64
    if 48 ≤ n then KvTraps .imstb o k e s 0x06 n
    else
      (match firstTrap e [2] true (addrOf o e) with
        | some c => KvTraps .imstb o k e s c (addrOf o e).toNat
        | none => ∃ e' v, exec (.imstb o) s = .next (setEx k (some e') (issueCycle o.core.val s)) ∧ WithImst e e' (placeOf e (addrOf o e)).off v ∧
            (∀ j, j < 48 → v.getLsbD j = if j = n then rP e (o.d.toNat % 8) else (newestOut e (placeOf e (addrOf o e)).off).getLsbD j) ∧
            Incremented o e e' ∧ KvKeeps 3 (incOf o) none e e'))

/-- 03 R76, R87 to R92 and 04 R118: NOP does nothing; TEND ends the execution, whose commit is to come; branches, calls and returns
go to their target inside CSEG; LOOP enters, skips or traps. -/
def Obligations.KvControl : Prop :=
  (∀ (o : Kv) (k : Nat) (e : Ex) (s : State), KvIssues .nop o 1 k e s →
    ∃ e', exec (.nop o) s = .next (setEx k (some e') (issueCycle o.core.val s)) ∧ e'.sat = e.sat ∧ KvKeeps 1 none none e e') ∧
  (∀ i ∈ ([.tend, .ret, .loop, .br, .call] : List (Kv → Instr)), ∀ (o : Kv) (len k : Nat) (e : Ex) (s : State), KvIssues i o len k e s →
    atLoopEnd (openDistances e) = true → KvTraps i o k e s 0x04 0) ∧
  (∀ (o : Kv) (k : Nat) (e : Ex) (s : State), KvIssues .tend o 1 k e s → atLoopEnd (openDistances e) = false →
    Answers (exec (.tend o) s) (fun t => ∃ e', taskEx t k = some e' ∧ e'.phase = 3 ∧ e'.tendAt = s.clk ∧ e'.loads = [] ∧
      t.img = s.img ∧ fld (taskEnt t k).stat 47 24 = max (fld (taskEnt s k).stat 47 24) (min (2 ^ 24 - 1) ((s.clk - e.relAt) / 1000)))) ∧
  (∀ (o : Kv) (k : Nat) (e : Ex) (s : State), KvIssues .ret o 1 k e s → atLoopEnd (openDistances e) = false →
    (budgetOf s k = 0 ∨ e.cycles + 2 ≤ budgetOf s k) →
    let a := (rW e 15#4).toNat % 2 ^ 22
    if a < codeLimit e then ∃ e', exec (.ret o) s = .next (setEx k (some e') (issueCycle o.core.val s)) ∧ e'.pc = a ∧ e'.cycles = e.cycles + 2 ∧ e'.n = e.n + 1
    else KvTraps .ret o k e s 0x01 a) ∧
  (∀ (o : Kv) (k : Nat) (e : Ex) (s : State), KvIssues .br o (lenByM o) k e s →
    atLoopEnd (openDistances e) = false → (budgetOf s k = 0 ∨ e.cycles + 2 ≤ budgetOf s k) →
    let a := if o.m = 0#2 then (((e.pc : Int) + o.imm.toInt) % 2 ^ 22).toNat else (rW e o.s).toNat % 2 ^ 22
    if a < codeLimit e then
      ∃ e', exec (.br o) s = .next (setEx k (some e') (issueCycle o.core.val s)) ∧ e'.pc = a ∧ e'.cycles = e.cycles + 2 ∧ e'.n = e.n + 1 ∧ e'.ldepth ≤ e.ldepth
    else KvTraps .br o k e s 0x01 a) ∧
  (∀ (o : Kv) (k : Nat) (e : Ex) (s : State), KvIssues .call o (lenByM o) k e s →
    atLoopEnd (openDistances e) = false → (budgetOf s k = 0 ∨ e.cycles + 2 ≤ budgetOf s k) →
    let a := if o.m = 0#2 then (((e.pc : Int) + o.imm.toInt) % 2 ^ 22).toNat else (rW e o.s).toNat % 2 ^ 22
    if a < codeLimit e then
      ∃ e', exec (.call o) s = .next (setEx k (some e') (issueCycle o.core.val s)) ∧ e'.pc = a ∧ e'.cycles = e.cycles + 2 ∧ e'.n = e.n + 1 ∧
        e'.ldepth = e.ldepth ∧ (rW e' 15#4).toNat = (e.pc + lenByM o) % 2 ^ 22
    else KvTraps .call o k e s 0x01 a) ∧
  (∀ (o : Kv) (k : Nat) (e : Ex) (s : State), KvIssues .loop o 1 k e s → atLoopEnd (openDistances e) = false →
    (budgetOf s k = 0 ∨ e.cycles + 2 ≤ budgetOf s k) →
    let d := e.ldepth
    if 4 ≤ d ∨ lpAt e (4 + d) ≤ lpAt e d ∨ (0 < d ∧ (lpAt e d < lpAt e (d - 1) ∨ lpAt e (3 + d) < lpAt e (4 + d))) then
      KvTraps .loop o k e s 0x04 0
    else if lpAt e (8 + d) = 0 then
      ∃ e', exec (.loop o) s = .next (setEx k (some e') (issueCycle o.core.val s)) ∧ e'.ldepth = d ∧
        e'.pc = (lpAt e (4 + d) + codeLenAt s e.tenant (lpAt e (4 + d))) % 2 ^ 22 ∧ e'.cycles = e.cycles + 2
    else
      ∃ e', exec (.loop o) s = .next (setEx k (some e') (issueCycle o.core.val s)) ∧ e'.ldepth = d + 1 ∧ e'.pc = lpAt e d ∧
        e'.cycles = e.cycles + (if lpAt e d = e.pc + 1 then 1 else 2))

/-- 03 R97, R98 and 04 R119: what MFS reads and MTS writes of the special registers, and what MTS refuses. -/
def Obligations.KvSpecialRegisters : Prop :=
  (∀ (o : Kv) (k : Nat) (e : Ex) (s : State), KvIssues .mfs o 3 k e s →
    ∃ e', exec (.mfs o) s = .next (setEx k (some e') (issueCycle o.core.val s)) ∧ e'.sat = e.sat ∧ KvKeeps 3 (some o.d) none e e' ∧
      (o.imm.toNat ≤ 0x0B → rW e' o.d = wget (openDistances e).lp o.imm.toNat) ∧
      (o.imm.toNat = 0x0C → k < 256 → e.tenant < 32 → e.ldepth < 8 →
        (rW e' o.d).toNat = k * 2 ^ 16 + e.tenant * 2 ^ 11 + e.ldepth * 2 ^ 8 + (if e.sat then 1 else 0)) ∧
      (0x10 ≤ o.imm.toNat → o.imm.toNat ≤ 0x17 → ∀ j, j < 48 →
        (rW e' o.d).getLsbD j = (!decide (22 ≤ j ∧ j ≤ 42) && (e.segd.getD (o.imm.toNat - 0x10) 0#48).getLsbD j)) ∧
      (o.imm.toNat = 0x18 → ∀ j, j < 48 → (rW e' o.d).getLsbD j = (!decide (23 ≤ j ∧ j ≤ 44) && (e.segd.getD 8 0#48).getLsbD j))) ∧
  (∀ (o : Kv) (k : Nat) (e : Ex) (s : State), KvIssues .mts o 3 k e s →
    let n := o.imm.toNat
    let v := (rW e o.s).toNat
    if 0x10 ≤ n then KvTraps .mts o k e s 0x05 0
    else if (n ≤ 0x07 ∧ 2 ^ 22 ≤ v) ∨ (0x08 ≤ n ∧ n ≤ 0x0B ∧ 0x1000000 < v) ∨
        (n = 0x0C ∧ (v / 2 ^ 24 ≠ 0 ∨ v / 2 % 2 ^ 7 ≠ 0)) then KvTraps .mts o k e s 0x06 v
    else if n ≤ 0x0B then ∃ e', exec (.mts o) s = .next (setEx k (some e') (issueCycle o.core.val s)) ∧ e'.sat = e.sat ∧ KvKeeps 3 none none e e' ∧
      e'.lpPend = e.lpPend.filter (fun x => e.n < x.visible) ++ [⟨n, rW e o.s, e.n + 3⟩]
    else ∃ e', exec (.mts o) s = .next (setEx k (some e') (issueCycle o.core.val s)) ∧ (e'.sat = true ↔ e.sat = true ∧ v % 2 = 0) ∧ KvKeeps 3 none none e e')

/-- 04 R120 to R123: device operations check the values of the operation before the object's owner (03 Table 3-11), then act: a
scheduler slot is armed or cancelled (07 R201: what falls due in the same tick fires first) or its status read, an engine result read, a sample started, a post held for the commit. -/
def Obligations.KvDeviceOperations : Prop :=
  (∀ i ∈ ([.schArm, .schCancel, .schStat] : List (Kv → Instr)), ∀ (o : Kv) (k : Nat) (e : Ex) (s : State), KvIssues i o 2 k e s →
    let n := (rW e o.s).toNat
    if 2 ^ 11 ≤ n then KvTraps i o k e s 0x06 n else slotTenant (getSlot s n) ≠ e.tenant → KvTraps i o k e s 0x0D n) ∧
  (∀ (o : Kv) (k : Nat) (e : Ex) (s : State), KvIssues .schArm o 2 k e s → (rW e o.s).toNat < 2 ^ 11 →
    slotTenant (getSlot s (rW e o.s).toNat) = e.tenant → opsNow (issueCycle o.core.val s) (getSlot s (rW e o.s).toNat) = false →
    let n := (rW e o.s).toNat
    Answers (exec (.schArm o) s) (fun t => (getSlot t n).tgt = rW e o.t ∧ fld (getSlot t n).sts 43 32 = (fld (getSlot s n).sts 43 32 + 1) % 4096)) ∧
  (∀ (o : Kv) (k : Nat) (e : Ex) (s : State), KvIssues .schCancel o 2 k e s → (rW e o.s).toNat < 2 ^ 11 →
    slotTenant (getSlot s (rW e o.s).toNat) = e.tenant → opsNow (issueCycle o.core.val s) (getSlot s (rW e o.s).toNat) = false →
    let n := (rW e o.s).toNat
    let u := fireDue (issueCycle o.core.val s)
    Answers (exec (.schCancel o) s) (fun t => slotState (getSlot t n) = if slotState (getSlot u n) = 1 then 3 else slotState (getSlot u n))) ∧
  (∀ (o : Kv) (k : Nat) (e : Ex) (s : State), KvIssues .schStat o 2 k e s → (rW e o.s).toNat < 2 ^ 11 →
    slotTenant (getSlot s (rW e o.s).toNat) = e.tenant →
    ∃ e', exec (.schStat o) s = .next (setEx k (some e') (issueCycle o.core.val s)) ∧ rW e' o.d = wget (openDistances e).schSnap (rW e o.s).toNat ∧
      KvKeeps 2 (some o.d) none e e') ∧
  (∀ (o : Kv) (k : Nat) (e : Ex) (s : State), KvIssues .ceRd o 3 k e s →
    let n := (rW e o.s).toNat
    let p := o.imm.toNat
    if 2 ^ 9 ≤ n then KvTraps .ceRd o k e s 0x06 n
    else if 9 ≤ p then KvTraps .ceRd o k e s 0x06 p
    else if ceTenant (getLoop s n) ≠ e.tenant then KvTraps .ceRd o k e s 0x0D n
    else (∀ x ∈ e.started, x.loop = n → e.n < x.at_ + x.dist) →
      ∃ e', exec (.ceRd o) s = .next (setEx k (some e') (issueCycle o.core.val s)) ∧ KvKeeps 3 (some o.d) none e e' ∧
        rW e' o.d = cePart (ceP (getLoop s n)) (cePrevious (openDistances e) n) p) ∧
  (∀ (o : Kv) (k : Nat) (e : Ex) (s : State) (x : CeStarted) (r : CeRes), KvIssues .ceRd o 3 k e s →
    let n := (rW e o.s).toNat
    n < 2 ^ 9 → o.imm.toNat < 9 → ceTenant (getLoop s n) = e.tenant → e.started.find? (fun x => x.loop == n) = some x →
    x.at_ + x.dist ≤ e.n → e.done.find? (fun r => r.loop == n && fld r.status 47 32 == x.seq) = some r →
      ∃ e', exec (.ceRd o) s = .next (setEx k (some e') (issueCycle o.core.val s)) ∧ rW e' o.d = cePart (ceP (getLoop s n)) r o.imm.toNat ∧
        e'.n = e.n + 1 ∧ ∀ y ∈ e'.started, y.loop ≠ n) ∧
  (∀ (o : Kv) (k : Nat) (e : Ex) (s : State), KvIssues .ceStart o 2 k e s →
    let n := (rW e o.s).toNat
    if 2 ^ 9 ≤ n ∨ ceTrig (getLoop s n) ≠ 0 ∨ 8 ≤ (e.started.filter (fun x => e.n < x.at_ + x.dist)).length then KvTraps .ceStart o k e s 0x06 n
    else if ceTenant (getLoop s n) ≠ e.tenant then KvTraps .ceStart o k e s 0x0D n
    else s.ovl.units = [] → Answers (exec (.ceStart o) s) (fun t => ∃ e', taskEx t k = some e' ∧
      (if (getLoop s n).isSet then
        (∃ d, e'.started = ⟨n, (fld (getLoop s n).status 47 32 + startsAhead (issueCycle o.core.val s) n e.core + 1) % 65536, e.n, d⟩ :: e.started) ∧
          t.ce.jobs.length = s.ce.jobs.length + 1
      else e'.started = e.started ∧ t.ce = s.ce))) ∧
  (∀ (o : Kv) (k : Nat) (e : Ex) (s : State), KvIssues .evtPost o 2 k e s →
    let n := (rW e o.s).toNat
    if 32 ≤ n then KvTraps .evtPost o k e s 0x06 n
    else if 16 ≤ e.posts.length then KvTraps .evtPost o k e s 0x06 (320 + n : Nat)
    else if e.tenant ≠ 0 ∧ n ≠ e.tenant then KvTraps .evtPost o k e s 0x0D (320 + n : Nat)
    else ∃ e', exec (.evtPost o) s = .next (setEx k (some e') (issueCycle o.core.val s)) ∧ e'.posts = e.posts ++ [320 + n] ∧ e'.n = e.n + 1) ∧
  (∀ (o : Kv) (k : Nat) (e : Ex) (s : State), KvIssues .swev o 3 k e s →
    let n := o.imm.toNat
    if 16 ≤ n then KvTraps .swev o k e s 0x06 n
    else if 16 ≤ e.posts.length then KvTraps .swev o k e s 0x06 (368 + n : Nat)
    else if evtOwner s (368 + n) ≠ e.tenant then KvTraps .swev o k e s 0x0D (368 + n : Nat)
    else ∃ e', exec (.swev o) s = .next (setEx k (some e') (issueCycle o.core.val s)) ∧ e'.posts = e.posts ++ [368 + n] ∧ e'.n = e.n + 1)

/-- 03 R78: an instruction of any row whose guard is false changes nothing but its own execution, where it issues, takes its cycle and
counts towards every distance. 03 R75, R99, 04 R106, R119: fields that make a row undefined are spelled by no syllables, and every
other form by syllables of its length; code that does not spell a row is not run by it. -/
def Obligations.KvFalseGuardAndUndefinedForms : Prop :=
  (∀ x ∈ kvTable, ∀ (o : Kv) (len k : Nat) (e : Ex) (s : State), x.2 o = some len → KvSkips x.1 o len k e s →
    ∃ e', exec (x.1 o) s = .next (setEx k (some e') (issueCycle o.core.val s)) ∧ e'.sat = e.sat ∧ KvKeeps len none none e e') ∧
  (∀ x ∈ kvTable, ∀ (o : Kv) (s0 s1 s2 : Nat), x.2 o = none → kvDecode o.core s0 s1 s2 ≠ some (x.1 o)) ∧
  (∀ x ∈ kvTable, ∀ (o : Kv) (len : Nat), x.2 o = some len → FormatHolds len o → ∃ s0 s1 s2 : BitVec 14,
    sylLen s0.toNat = len ∧ kvDecode o.core s0.toNat s1.toNat s2.toNat = some (x.1 o)) ∧
  (∀ x ∈ kvTable, ∀ (o : Kv) (k : Nat) (e : Ex) (s : State), issuing o.core.val s = some (k, e) → kvAt o.core e s ≠ some (x.1 o) →
    exec (x.1 o) s = .next s)

/-- 03 R87, R100, R101: ILLEGAL_INSTRUCTION traps for the syllables at PC where they do not decode, and for an uncorrectable error; a
trap ends the execution without commit and begins the tenant's transition to FAULT. -/
def Obligations.KvTrapTaken : Prop :=
  (∀ (c : Fin 8) (s0 s1 s2 : BitVec 14) (ecc : Bool) (k : Nat) (e : Ex) (s : State), issuing c.val s = some (k, e) →
    fetchOk e (sylLen s0.toNat) = true →
    (∀ j, j < sylLen s0.toNat → s.core.codeSoft.contains (e.tenant * 2 ^ 22 + (e.pc + j)) = false) →
    (ecc = true ∨ (spelled s0.toNat s1.toNat s2.toNat e s = true ∧ syllablesLegal s0.toNat s1.toNat s2.toNat = false)) →
    exec (.illegalInstruction c s0 s1 s2 ecc) s = .next (taskTrap k e (if ecc then 0x02 else 0x03) 0 s)) ∧
  (∀ (c : Fin 8) (s0 s1 s2 : BitVec 14) (ecc : Bool) (k : Nat) (e : Ex) (s : State), issuing c.val s = some (k, e) →
    fetchOk e (sylLen s0.toNat) = false → (ecc = true ∨ spelled s0.toNat s1.toNat s2.toNat e s = true) →
    exec (.illegalInstruction c s0 s1 s2 ecc) s = .next (taskTrap k e 0x01 e.pc s)) ∧
  (∀ (k : Nat) (e : Ex) (cause : Nat) (p2 : Int) (s : State), taskEx s k = some e → e.tenant = taskTenant s k →
    taskEx (taskTrap k e cause p2 s) k = none ∧ (taskTrap k e cause p2 s).img = s.img ∧
      tget none (taskTrap k e cause p2 s).task.trans e.tenant = some ⟨4, false, 1, none⟩)

/-! ### Mailboxes and events (01, 02) -/

/-- 02 R50 to R58, R71: what SPI frames do to the port: a whole WRITE frame that carries a message with the right CRC waits for its
checks, where fewer than two wait; a READ of a whole reply clears READY, a POLL and a READ take the view channel, a link reset
empties the port, an unknown opcode is counted as discarded, and a frame before the service has started is not taken. -/
def Obligations.SpiPortFrames : Prop :=
  (∀ (m : Bytes) (s : State), 16 ≤ m.length → m.length ≤ 4096 → boot s = false → s.sup.sleeping = false → s.sup.asleep = false →
    s.mb.spi.waiting.length < 2 →
    let us := [0x5A01#16, BitVec.ofNat 16 m.length] ++ packUnits m
    Answers (exec (.spiWriteFrame ⟨us ++ crcUnits us, 16 * (us.length + 2)⟩) s) (fun t =>
      t.mb.spi.waiting = s.mb.spi.waiting ++ [m] ∧ t.mb.spi.lastResult = 0 ∧ t.mb.spi.discards = s.mb.spi.discards)) ∧
  (∀ (ch : Fin 16) (n : Nat) (m : Bytes) (s : State), boot s = false → s.sup.sleeping = false → s.sup.asleep = false →
    (chanCfg s ch.val).transport = 1 → (getChan s ch.val).reply = some m → m ≠ [] → s.mb.spi.view.isSome = true →
    6 + (m.length + 1) / 2 ≤ n →
    Answers (exec (.spiReadFrame ⟨0x5A02#16 :: BitVec.ofNat 16 ch.val :: List.replicate (n - 2) 0#16, 16 * n⟩) s) (fun t =>
      (getChan t ch.val).ready = false ∧ (getChan t ch.val).reply = some m ∧ t.mb.spi.view = some ch.val ∧ t.mb.spi.lastResult = 0)) ∧
  (∀ (ch : Fin 16) (n : Nat) (s : State), boot s = false → s.sup.sleeping = false → s.sup.asleep = false →
    (chanCfg s ch.val).transport = 1 → s.mb.spi.view.isSome = true → 2 ≤ n →
    Answers (exec (.spiPollFrame ⟨0x5A03#16 :: BitVec.ofNat 16 ch.val :: List.replicate (n - 2) 0#16, 16 * n⟩) s) (fun t =>
      t.mb.spi.view = some ch.val ∧ t.mb.spi.lastResult = 0 ∧ t.mb.chan = s.mb.chan)) ∧
  (∀ (n : Nat) (s : State), boot s = false → s.sup.sleeping = false → s.sup.asleep = false → 32 ≤ n →
    Answers (exec (.spiLinkReset ⟨List.replicate n 0xFFFF#16, 16 * n⟩) s) (fun t =>
      t.mb.spi.waiting = [] ∧ t.mb.spi.lastResult = 7 ∧ t.mb.chan = s.mb.chan)) ∧
  (∀ (u : BitVec 16) (n : Nat) (s : State), boot s = false → s.sup.sleeping = false → s.sup.asleep = false → n < 31 →
    u.toNat ∉ [0x5A01, 0x5A02, 0x5A03] →
    Answers (exec (.spiBadOpcodeFrame ⟨u :: List.replicate n 0#16, 16 * (n + 1)⟩) s) (fun t =>
      t.mb.spi.discards = min 0xFFFF (s.mb.spi.discards + 1) ∧ t.mb.spi.lastResult = 4 ∧ t.mb.spi.waiting = s.mb.spi.waiting)) ∧
  (∀ (f : SpiFrame) (s : State), boot s = true → s.sup.asleep = false → f.edges ≠ 0 →
    Answers (exec (.spiWriteFrame f) s) (fun t => t.mb.spi.lastResult = 8 ∧ t.mb.spi.waiting = s.mb.spi.waiting))

/-- 02 R46, R47, R48, R53, R68: the message that waits longest, sound by every check, executes on its SPI channel; the same bytes through
UDP with a tag do so too; the end of execution of any command forms, keeps and caches the reply and leaves the channel idle. -/
def Obligations.RequestsExecute : Prop :=
  (∀ (m : Bytes) (rest : List Bytes) (s : State) (ch : Fin 16), s.mb.spi.waiting = m :: rest → (chanCfg s ch.val).transport = 1 →
    ((chanCfg s ch.val).tagreq = true → u8 m 3 = 1) → RequestSound s ch m →
    Answers (exec .mailboxRequestCheck s) (fun t => t.mb.spi.waiting = rest ∧ RequestTaken s t ch m none)) ∧
  (∀ (s : State), s.mb.spi.waiting = [] → exec .mailboxRequestCheck s = .next s) ∧
  (∀ (mac : Fin 3) (ip port : Nat) (m : Bytes) (s : State) (ch : Fin 16), boot s = false → s.sup.sleeping = false →
    macOn (getMac s mac.val) = true → macUp s mac.val = true → (chanCfg s ch.val).transport = 2 →
    ((chanCfg s ch.val).srcIp = 0 ∨ (chanCfg s ch.val).srcIp = ip) → u8 m 3 = 1 → RequestSound s ch m →
    Answers (exec (.udpMailboxDatagram mac ip port m) s) (fun t => RequestTaken s t ch m (some (mac.val, ip, port)))) ∧
  (∀ (mac : Fin 3) (ip port : Nat) (m : Bytes) (s : State), (boot s = true ∨ macOn (getMac s mac.val) = false ∨ macUp s mac.val = false) →
    exec (.udpMailboxDatagram mac ip port m) s = .next s) ∧
  (∀ (ch : Fin 16) (r : Req) (rc : Nat) (pl : Bytes) (s : State), (getChan s ch.val).exec = some r → (getChan s ch.val).result = some (rc, pl) →
    Answers (exec (.commandExecutionEnd ch) s) (fun t => (getChan t ch.val).exec = none ∧ (getChan t ch.val).result = none ∧
      (r.udp = none → (getChan s ch.val).rejectedSince = false → (getChan t ch.val).ready = true ∧
        (getChan t ch.val).reply = some (replyMsg s ch.val r.tenantByte r.seq r.cmd rc pl (chanCfg s ch.val).tagreq)) ∧
      (r.udp ≠ none → (getChan t ch.val).ready = (getChan s ch.val).ready ∧ (getChan t ch.val).reply = (getChan s ch.val).reply) ∧
      (r.cmd ≠ 0x0101 → ∀ x, x ∈ (getChan t ch.val).cache → x.seq = r.seq → x.digest = r.digest → x.reply = some (rc, pl)) ∧
      (r.cmd = 0x0102 → rc = 0 → (getChan t ch.val).isOpen = false ∧ (getChan t ch.val).cache = []) ∧
      (r.cmd = 0x0F08 → rc = 0 → t.sup.sleeping = true) ∧
      (r.cmd = 0x0F07 → rc = 0 → t.sup.resetAt = some (s.clk + 100000000, ch.val)))) ∧
  (∀ (ch : Fin 16) (s : State), ((getChan s ch.val).exec = none ∨ (getChan s ch.val).result = none) →
    exec (.commandExecutionEnd ch) s = .next s)

/-- 02 R65 to R69 and 01 R31 to R36: what the session, channel and event source commands do. -/
def Obligations.SessionChannelAndEventCommands : Prop :=
  (∀ (ch : Fin 16) (s : State), MbGives .mbSessionOpen ch [] s (fun b => b = toBe 4 (Config.random32 s.free).toNat)
    (fun t => (getChan t ch.val).isOpen = true ∧ (getChan t ch.val).cache = [] ∧ (getChan t ch.val).lastSeq = (Config.random32 s.free).toNat ∧
      t.free = s.free + 1)) ∧
  (∀ (ch : Fin 16) (s : State), NotCarried s ch → MbReads .mbSessionClose ch [] s [] ∧ MbReads .mbNop ch [] s [] ∧
    MbReads .mbDeviceInfo ch [] s (toBe 2 0x4816 ++ toBe 1 s.flash.variant ++ toBe 1 s.flash.fwVersion.1 ++ toBe 1 s.flash.fwVersion.2.1 ++
      toBe 1 s.flash.fwVersion.2.2 ++ toBe 4 s.ovl.hash)) ∧
  (∀ (ch : Fin 16) (a b : Byte) (s : State), MbDone .mbAckAttn ch [a, b] s (fun t =>
    (getChan t ch.val).latch = (getChan s ch.val).latch &&& ~~~(a ++ b) ∧
    ((a ++ b).getLsbD 7 = true → tget 0 t.silo.ackWdg ch.val = s.silo.wdgResets))) ∧
  (∀ (ch k : Fin 16) (s : State), (tenantOf s ch = 0 ∨ tenantOf s k = tenantOf s ch) → NotCarried s ch →
    MbReads .mbChanStats ch [BitVec.ofNat 8 k.val] s (toBe 4 (getChan s k.val).badTag ++ toBe 4 (getChan s k.val).seqConflict ++
      toBe 4 (getChan s k.val).seqWindow ++ toBe 4 (getChan s k.val).discDgram ++ toBe 4 (getChan s k.val).discFrame)) ∧
  (∀ (ch k : Fin 16) (tn : Fin 32) (s : State), tenantOf s ch = 0 → pairRefuses s = false → k ≠ ch → (chanCfg s 0).tenant = 0 →
    (chanCfg s 0).transport = 1 → (getChan s 0).newCfg = none → k.val ≠ 0 → areaFits s 5 = true →
    MbDone .mbChanBind ch [BitVec.ofNat 8 k.val, BitVec.ofNat 8 tn.val, 1#8, 0#8, 0#8, 0#8, 0#8, 0#8] s (fun t =>
      (chanCfg t k.val).tenant = tn.val ∧ (chanCfg t k.val).transport = 1 ∧ (chanCfg t k.val).tagreq = false ∧
      (chanCfg t k.val).key = (chanCfg s k.val).key)) ∧
  (∀ (ch k : Fin 16) (g : Nat) (wrapped : Bytes) (s : State), tenantOf s ch = 0 → pairRefuses s = false → k ≠ ch → wrapped.length = 32 →
    (cfgSoon s k.val).keyGen < g → g < 2 ^ 32 → areaFits s 5 = true →
    MbDone .mbKeySet ch ([BitVec.ofNat 8 k.val, 0#8] ++ toBe 4 g ++ wrapped) s (fun t => (chanCfg t k.val).keyGen = g ∧
      (chanCfg t k.val).tenant = (chanCfg s k.val).tenant ∧
      (chanCfg t k.val).key = xorBytes wrapped (hmac (chanCfg s ch.val).key ([0x4B#8, 0x57#8, 0x52#8, 0x50#8, BitVec.ofNat 8 k.val] ++ toBe 4 g)))) ∧
  (∀ (ch : Fin 16) (n : Nat) (tn : Fin 32) (s : State), tenantOf s ch = 0 → Changes s → evtAllocatable n = true → bit (evtSrc s n) 23 = false →
    MbDone .mbEvtAlloc ch (toBe 2 n ++ toBe 2 1 ++ [BitVec.ofNat 8 tn.val, 1#8]) s (fun t => evtOwner t n = tn.val ∧ bit (evtSrc t n) 22 = true ∧
      (evtOwner s n ≠ tn.val → evtPending t n = false ∧ fld (evtSrc t n) 47 40 = 0) ∧ ∀ m, m ≠ n → evtSrc t m = evtSrc s m)) ∧
  (∀ (ch : Fin 16) (n : Nat) (b : Bool) (s : State), n < 384 → evtOwner s n = tenantOf s ch → Changes s → (b = true ∨ bit (evtSrc s n) 23 = false) →
    MbDone .mbEvtEnable ch (toBe 2 n ++ [if b then 1#8 else 0#8]) s (fun t => bit (evtSrc t n) 22 = b ∧ ∀ m, m ≠ n → evtSrc t m = evtSrc s m)) ∧
  (∀ (ch : Fin 16) (n : Nat) (s : State), n < 384 → (tenantOf s ch = 0 ∨ evtOwner s n = tenantOf s ch) → Changes s → bit (evtSrc s n) 23 = false →
    MbDone .mbEvtClear ch (1#8 :: toBe 2 n) s (fun t => evtPending t n = false ∧ fld (evtSrc t n) 47 40 = 0 ∧
      ∀ m, m ≠ n → m < 384 → evtPending t m = evtPending s m)) ∧
  (∀ (ch : Fin 16) (n : Nat) (s : State), n < 384 → NotCarried s ch → MbReads .mbEvtGet ch (toBe 2 n ++ [1#8]) s
    (if tenantOf s ch = 0 ∨ evtOwner s n = tenantOf s ch then wB (setFld (evtSrc s n) 4 0 (evtOwner s n)) ++ [if evtPending s n then 1#8 else 0#8]
      else toBe 7 0))

/-! ### Tasks, modes, forces, values, retentive snapshots (05) -/

/-- 05 R127 to R136, R155, 01 R20, R32: after what the freeze waits for in its cycle (slots due, commits requested by then), each of the
four release conditions starts one execution of the task at its entry, counts SCANCNT and freezes the view; the pending bit of an event
task's source is taken; an entry that a transition brings takes its place at the release. -/
def Obligations.TasksAreReleased : Prop :=
  (∀ (task : Fin 256) (s : State), let r := freezeReady s
    taskUnit r task.val = none → taskKind (taskEnt r task.val) = 1 → mayRelease r task.val = true →
    taskEx r task.val = none → (taskEnt r task.val).lastRel ≠ some r.clk → cyclicDue r task.val = true →
    Answers (exec (.cyclicRelease task) s) (fun t => Released task.val r t ∧ ReleaseFrame r t)) ∧
  (∀ (task : Fin 256) (u : OvlUnit) (s : State), let r := freezeReady s
    taskUnit r task.val = some u → (∃ v ∈ r.ovl.units, v.kind ≠ 5 ∨ v.key ≠ task.val) → serving r = true →
    taskKind (taskEnt r task.val) = 1 → mayRelease r task.val = true →
    taskEx r task.val = none → (taskEnt r task.val).lastRel ≠ some r.clk → cyclicDue r task.val = true →
    Answers (exec (.cyclicRelease task) s) (fun t => Released task.val r t ∧
      ((taskEnt t task.val).cfg, (taskEnt t task.val).par, (taskEnt t task.val).lim) = taskTarget task.val u.items r ∧ taskUnit t task.val = none)) ∧
  (∀ (task : Fin 256) (s : State), let r := freezeReady s
    taskUnit r task.val = none → taskKind (taskEnt r task.val) = 2 → mayRelease r task.val = true →
    taskEx r task.val = none →
    let a := (taskAccepted (taskEnt r task.val)).2.1
    evtPending r (fld a 8 0) = true → (∀ x, (taskEnt r task.val).lastRel = some x → x + fld a 47 30 * 50000 ≤ r.clk) →
    Answers (exec (.eventTaskRelease task) s) (fun t => Released task.val r t ∧ ReleaseFrame r t ∧
      (r.slot = [] → (evtPending t (fld a 8 0) = true ↔ tget 0 r.evt.lastOver (fld a 8 0) / 256 = r.clk + 1)))) ∧
  (∀ (task : Fin 256) (s : State),
    let p := (dueEntry s task.val).2.1
    let ms := (crossed (fld p 25 0 : Nat) (taskEnt s task.val).posSeen s.tb.pos).filter (fun m => (taskEnt s task.val).posHold != some m)
    let r := freezeReady (updTask task.val (fun e => { e with posSeen := s.tb.pos, posHold := ms.getLast? }) s)
    taskUnit r task.val = none → taskKind (taskEnt s task.val) = 3 → mayRelease s task.val = true → mayRelease r task.val = true →
    taskEx s task.val = none → ms ≠ [] →
    (if (taskEnt s task.val).posSeen < s.tb.pos then fld p 47 46 = 1 ∨ fld p 47 46 = 3 else fld p 47 46 = 2 ∨ fld p 47 46 = 3) →
    Answers (exec (.positionIntervalRelease task) s) (fun t => Released task.val r t ∧ ReleaseFrame r t ∧ (taskEnt t task.val).due + 1 = ms.length)) ∧
  (∀ (task : Fin 256) (s : State),
    let n := b2n (bit (dueEntry s task.val).2.1 47)
    let r := freezeReady (updTask task.val (fun e => { e with cycSeen := some (supang s n / 65536) }) s)
    taskUnit r task.val = none → taskKind (taskEnt s task.val) = 4 → mayRelease r task.val = true →
    s.pair.handover = none → taskEx s task.val = none → supplyDue s task.val = true →
    Answers (exec (.supplyCycleRelease task) s) (fun t => Released task.val r t ∧ ReleaseFrame r t))

/-- 05 R137 to R139, R143, R145 and Table 5-9: a commit writes the words of its execution and no others, fires its posts and frees its
core; what fell due meanwhile is one release; an exhausted budget stops its execution and its tenant without a commit; a missed deadline stops the device; a transition
without executions left comes into force and answers its request. -/
def Obligations.ExecutionsEndAndModesChange : Prop :=
  (∀ (task : Fin 256) (e : Ex) (s : State), taskEx s task.val = some e → e.phase = 3 → e.replay = false → firstCommit s task.val e = true →
    (taskEnt s task.val).due = 0 → s.sup.wdgServer = false →
    Answers (exec (.commitComplete task) s) (fun t => taskEx t task.val = none ∧
      (∀ a w v b, exWords e = a ++ (w, v) :: b → w ∉ b.map (·.1) →
        imgWord t w = match tget none s.task.force w with | none => v | some f => forced f v) ∧
      (∀ w, w ∉ (exWords e).map (·.1) → imgWord t w = imgWord s w) ∧
      (∀ n ∈ e.posts, n < 384 → evtReserved n = false → bit (evtSrc s n) 22 = true → evtPending t n = true) ∧
      t.core.data = s.core.data)) ∧
  (∀ (task : Fin 256) (e : Ex) (s : State), taskEx s task.val = some e → e.phase = 3 → e.replay = false → firstCommit s task.val e = true →
    (taskEnt (commitDone task.val e s) task.val).due ≠ 0 →
    let r := freezeReady (commitDone task.val e s)
    (taskEnt r task.val).due ≠ 0 → mayRelease r task.val = true → taskUnit r task.val = none →
    Answers (exec (.commitComplete task) s) (fun t => Released task.val r t ∧ ReleaseFrame r t ∧ (taskEnt t task.val).due = 0)) ∧
  (∀ (core : Fin 8) (k : Nat) (e : Ex) (s : State), coreTask s core.val = some k → taskEx s k = some e → e.overBudget = true →
    taskTenant s k = e.tenant →
    Answers (exec (.budgetExceeded core) s) (fun t => taskEx t k = none ∧ tget none t.task.trans e.tenant = some ⟨4, false, 2, none⟩ ∧
      t.img = s.img ∧ t.core.data = s.core.data)) ∧
  (∀ (task : Fin 256) (e : Ex) (s : State), taskEx s task.val = some e → e.phase ≠ 3 →
    e.relAt + fld (taskEnt s task.val).lim 17 0 * 50000 ≤ s.clk →
    Answers (exec (.deadlineOverrun task) s) (fun t => t.task.dev = 4 ∧ ∀ k, taskEx t k = none)) ∧
  (∀ (scope : Option (Fin 32)) (r : Trans) (s : State),
    let n := match scope with | some t => t.val | none => 32
    tget none s.task.trans n = some r → (∀ k ∈ liveTasks s, n ≠ 32 ∧ taskTenant s k ≠ n) →
    Answers (exec (.modeTransitionInForce scope) s) (fun t => scopeMode t n = r.target ∧
      (tget [] s.task.queued n = [] ∨ r.target = 4 → tget none t.task.trans n = none) ∧
      ∀ c, r.ch = some c → c < 16 → (∀ q ∈ tget [] s.task.queued n, q.ch ≠ some c) → (getChan t c).result = some (0x0000, [])))

/-- 05 R124 to R126, R143, R145, R146, R155, R156: a mode request begins its transition and, with no execution left to wait for, the mode
comes into force and answers it; task entries are
read, set for the next release and counted; the tenant's scheduling limits and retentive settings are set. -/
def Obligations.TaskAndModeCommands : Prop :=
  (∀ (ch : Fin 16) (m o : Byte) (s : State), tenantOf s ch = 0 → Changes s → 1 ≤ m.toNat → m.toNat ≤ 3 → o.toNat ≤ 1 →
    tget none s.task.trans 32 = none → transOk s.task.dev m.toNat = true →
    MbWaits .mbModeSet ch [m, o] s (fun t => tget none t.task.trans 32 = some ⟨m.toNat, o == 1#8, 0, some ch.val⟩ ∧ t.task.dev = s.task.dev) ∧
    (liveTasks s = [] → tget [] s.task.queued 32 = [] →
      MbEndsBy .mbModeSet (.modeTransitionInForce none) ch [m, o] s (· = []) (fun t => t.task.dev = m.toNat ∧ tget none t.task.trans 32 = none))) ∧
  (∀ (ch : Fin 16) (n m o : Byte) (s : State), (tenantOf s ch = 0 ∨ tenantOf s ch = n.toNat) → Changes s → n.toNat < 32 →
    1 ≤ m.toNat → m.toNat ≤ 3 → o.toNat ≤ 1 → tget none s.task.trans n.toNat = none → transOk (tenMode s n.toNat) m.toNat = true →
    MbWaits .mbTenantModeSet ch [n, m, o] s (fun t => tget none t.task.trans n.toNat = some ⟨m.toNat, o == 1#8, 0, some ch.val⟩ ∧
      t.task.ten = s.task.ten) ∧
    ∀ k : Fin 32, k.val = n.toNat → (∀ j ∈ liveTasks s, taskTenant s j ≠ k.val) → tget [] s.task.queued k.val = [] →
      MbEndsBy .mbTenantModeSet (.modeTransitionInForce (some k)) ch [n, m, o] s (· = [])
        (fun t => tenMode t k.val = m.toNat ∧ tget none t.task.trans k.val = none)) ∧
  (∀ (ch : Fin 16) (task : Fin 256) (s : State), NotCarried s ch → taskOwner s (tenantOf s ch) task.val = true →
    let e := taskEnt s task.val
    MbReads .mbTaskGet ch (toBe 2 task.val) s (wB e.cfg ++ wB e.par ++ wB e.lim ++ wB e.stat)) ∧
  (∀ (ch : Fin 16) (task : Fin 256) (p : Bytes) (s : State), be p 0 2 = task.val → Changes s → taskDefined s task.val = true →
    (tenantOf s ch = 0 ∨ tenantOf s ch = taskTenant s task.val) →
    ((u8 p 2 = 0 ∧ p.length = 10 ∧ u8 p 3 ≤ 15) ∨ (u8 p 2 = 1 ∧ p.length = 21)) →
    let n := taskRequest s task.val p
    (fld n.1 47 45 = taskKind (taskEnt s task.val) ∨ effMode s (taskTenant s task.val) = 1) →
    taskParOk (fld n.1 47 45) n.2.1 n.2.2 = true → schedOk (tenSched s (taskTenant s task.val)) n.1 = true →
    (∀ i, entrySource n.1 n.2.1 = some i → i < 384 ∧ evtOwner s i = taskTenant s task.val ∧
      (bit (evtSrc s i) 23 = true → fld (evtSrc s i) 31 24 = task.val)) →
    MbDone .mbTaskSet ch p s (fun t => taskAccepted (taskEnt t task.val) = n ∧
      (fld (taskAccepted (taskEnt s task.val)).1 47 45 = fld n.1 47 45 →
        (taskEnt t task.val).cfg = (taskEnt s task.val).cfg ∧ (taskEnt t task.val).par = (taskEnt s task.val).par ∧
        (taskEnt t task.val).lim = (taskEnt s task.val).lim) ∧
      ∀ j, j ≠ task.val → taskEnt t j = taskEnt s j)) ∧
  (∀ (ch : Fin 16) (task : Fin 256) (c : Bool) (s : State), taskOwner s (tenantOf s ch) task.val = true →
    MbGives .mbTaskStats ch (toBe 2 task.val ++ [if c then 1#8 else 0#8]) s (· = wB (taskEnt s task.val).stat)
      (fun t => (taskEnt t task.val).stat = if c then 0#48 else (taskEnt s task.val).stat)) ∧
  (∀ (ch : Fin 16) (n prio cores : Byte) (s : State), tenantOf s ch = 0 → Changes s → n.toNat < 32 →
    (effMode s n.toNat = 1 ∨ effMode s n.toNat = 4) → prio.toNat ≤ 15 →
    (∀ k, k < 256 → taskDefined s k = true → taskTenant s k = n.toNat →
      schedOk (wd (prio.toNat * 256 + cores.toNat)) (taskAccepted (taskEnt s k)).1 = true) →
    MbDone .mbTenantSchedSet ch [n, prio, cores] s (fun t => tenSched t n.toNat = wd (prio.toNat * 256 + cores.toNat) ∧
      ∀ m, m ≠ n.toNat → tenSched t m = tenSched s m)) ∧
  (∀ (ch : Fin 16) (x : Bool) (i k : Nat) (s : State), Changes s → 1 ≤ i → i ≤ 6000 → k < 2 ^ 16 →
    (x = true → k = 0xFFFF ∨ (taskDefined s k = true ∧ taskTenant s k = tenantOf s ch)) →
    MbDone .mbRetainSet ch ((if x then 1#8 else 0#8) :: toBe 2 i ++ toBe 2 k) s (fun t => (getRet t (tenantOf s ch)).interval = i ∧
      (getRet t (tenantOf s ch)).expert = x ∧
      (getRet t (tenantOf s ch)).task = if x = true ∧ k ≠ 0xFFFF then some k else none))

/-- 05 R147 to R154: a force record holds its lanes and its end; without one the word has its unforced value again; values by handle
are read and written at once while the anchor is idle, and wait for it while it runs. -/
def Obligations.ForcesAndValues : Prop :=
  (∀ (ch : Fin 16) (w tmo : Nat) (l : Byte) (v : Word) (s : State), forceOwner s (tenantOf s ch) w = true → Changes s →
    running s (tenantOf s ch) = true → (l.toNat < 48 ∨ l.toNat = 255) → tmo ≤ 86400 →
    ((tget none s.task.force w).isSome = true ∨ (s.task.force.filter (fun e => e.2.isSome)).length < 512) →
    MbDone .mbForceSet ch (toBe 2 w ++ [l] ++ wB v ++ toBe 4 tmo) s (fun t => ∃ f, tget none t.task.force w = some f ∧
      (l.toNat = 255 → f.mask = BitVec.allOnes 48 ∧ f.value = v) ∧
      (l.toNat < 48 → bit f.mask l.toNat = true ∧ bit f.value l.toNat = bit v l.toNat ∧
        ∀ g, tget none s.task.force w = some g → ∀ j, j ≠ l.toNat → bit f.mask j = bit g.mask j ∧ bit f.value j = bit g.value j) ∧
      f.until_ = (if tmo = 0 then 0 else s.clk + tmo * 1000000000) ∧
      (∀ x, x ≠ w → tget none t.task.force x = tget none s.task.force x))) ∧
  (∀ (ch : Fin 16) (w : Nat) (f : Force) (s : State), forceOwner s (tenantOf s ch) w = true → Changes s →
    tget none s.task.force w = some f →
    MbDone .mbForceClear ch (toBe 2 w ++ [0xFF#8]) s (fun t => tget none t.task.force w = none ∧ imgWord t w = f.free ∧
      (∀ x, x ≠ w → imgWord t x = imgWord s x ∧ tget none t.task.force x = tget none s.task.force x)) ∧
    (∀ l : Byte, l.toNat < 48 → bit f.mask l.toNat = true →
      MbDone .mbForceClear ch (toBe 2 w ++ [l]) s (fun t =>
        imgWord t w = forced { f with mask := setBit f.mask l.toNat false } f.free ∧
        ((tget none t.task.force w).isSome = true ↔ setBit f.mask l.toNat false ≠ 0#48)))) ∧
  (∀ (ch : Fin 16) (i : Nat) (fs : List (Nat × Force)) (s : State), NotCarried s ch → s.task.force = fs.map (fun x => (x.1, some x.2)) →
    i < 2 ^ 16 →
    let rs := ((fs.filter (fun x => mayRead s (tenantOf s ch) x.1)).drop i).take 64
    MbReads .mbForceList ch (toBe 2 i) s (toBe 2 rs.length ++ rs.flatMap (fun x =>
      toBe 2 x.1 ++ wB x.2.mask ++ wB x.2.value ++ toBe 4 ((x.2.until_ - s.clk + 999999999) / 1000000000)))) ∧
  (∀ (w : Fin 20480) (f : Force) (s : State), tget none s.task.force w.val = some f → f.until_ ≠ 0 → f.until_ ≤ s.clk →
    serving s = true →
    Answers (exec (.forceTimeout w) s) (fun t => tget none t.task.force w.val = none ∧ imgWord t w.val = f.free)) ∧
  (∀ (ch : Fin 16) (k : Fin 256) (es : List (Nat × Word)) (s : State), Changes s → 1 ≤ es.length → es.length ≤ 64 →
    taskDefined s k.val = true → taskTenant s k.val = tenantOf s ch →
    (∀ e ∈ es, e.1 < 2 ^ 32 ∧ handleOk s (tenantOf s ch) e.1 = true) →
    (taskEx s k.val = none → MbGives .mbValueWrite ch (valuePayload ⟨k.val, es, false⟩) s (· = wB (taskEnt s k.val).scancnt)
      (fun t => t.core = (es.foldl (fun s e => putValue (tenantOf s ch) e s) s).core)) ∧
    (∀ e, taskEx s k.val = some e → MbWaits .mbValueWrite ch (valuePayload ⟨k.val, es, false⟩) s
      (fun t => tget none t.task.jobs ch.val = some ⟨k.val, es, false⟩ ∧ t.core = s.core))) ∧
  (∀ (ch : Fin 16) (k : Fin 256) (hs : List Nat) (s : State), NotCarried s ch → 1 ≤ hs.length → hs.length ≤ 64 →
    taskDefined s k.val = true → taskTenant s k.val = tenantOf s ch → taskEx s k.val = none →
    (∀ h ∈ hs, h < 2 ^ 32 ∧ handleOk s (tenantOf s ch) h = true) →
    MbReads .mbValueRead ch (toBe 2 k.val ++ toBe 1 hs.length ++ hs.flatMap (toBe 4)) s
      (hs.flatMap (fun h => wB (valueAt s (tenantOf s ch) h)))) ∧
  (∀ (ch : Fin 16) (j : ValueJob) (s : State), tget none s.task.jobs ch.val = some j → taskEx s j.anchor = none → j.read = false →
    j.anchor ≠ 0xFFFF →
    Answers (exec (.valueWriteApply ch) s) (fun t => tget none t.task.jobs ch.val = none ∧
      (getChan t ch.val).result = some (0x0000, wB (taskEnt s j.anchor).scancnt) ∧
      t.core = (j.entries.foldl (fun s e => putValue (tenantOf s ch) e s) s).core)) ∧
  (∀ (t o : Nat) (v : Word) (s : State), t < 32 → o < 2 ^ 21 → valueAt (putValue t (o, v) s) t o = v ∧
    valueAt (putValue t (2 ^ 30 + o, v) s) t (2 ^ 30 + o) = v ∧ valueAt (putValue t (2 ^ 31 + o, v) s) t (2 ^ 31 + o) = v)

/-- 05 R156 to R158, 17 R421: a snapshot falls due, or is skipped while the last is still being written; without an anchor it is taken
where the instruction says; once written its copy's descriptor is valid and the copies have changed roles. -/
def Obligations.RetentiveSnapshots : Prop :=
  (∀ (n : Fin 32) (s : State), (segInfo s n.val).l2 ≠ 0 → (getRet s n.val).from_ + retNs (getRet s n.val) ≤ s.clk →
    s.task.dispAt.isSome = true → servesTasks s = true →
    Answers (exec (.retainSnapshotDue n) s) (fun t => (getRet t n.val).from_ = s.clk ∧ (getRet t n.val).due.isSome = true ∧
      ((getRet s n.val).due.isSome = true ∧ (getRet s n.val).writing.isSome = true →
        (getRet t n.val).skipped = (getRet s n.val).skipped + 1 ∧ (getRet t n.val).skippedAll = (getRet s n.val).skippedAll + 1) ∧
      ((getRet s n.val).due.isSome = false ∨ (getRet s n.val).writing.isSome = false →
        (getRet t n.val).skipped = (getRet s n.val).skipped) ∧ t.silo = s.silo)) ∧
  (∀ (n : Fin 32) (d : Nat) (s : State), (getRet s n.val).due = some d → (getRet s n.val).writing = none → (segInfo s n.val).l2 ≠ 0 →
    (retTask s n.val = none ∨ d + retNs (getRet s n.val) ≤ s.clk) → committing s n.val = false →
    Answers (exec (.retainSnapshotNoAnchor n) s) (fun t => (getRet t n.val).due = none ∧
      (getRet t n.val).writing = some (1 - tget 1 s.silo.lastCopy n.val, seg2Words s n.val) ∧ t.silo.desc = s.silo.desc)) ∧
  (∀ (n : Fin 32) (k : Nat) (ws : List Word) (s : State), (getRet s n.val).writing = some (k, ws) → (getRet s n.val).waiting = none →
    Answers (exec (.retainSnapshotWritten n) s) (fun t => (getRet t n.val).writing = none ∧ tget 1 t.silo.lastCopy n.val = k ∧
      (getRet t n.val).skipped = 0 ∧
      (let d := tget {} t.silo.desc (n.val * 2 + k)
       d.crc = retCrc d ws ∧ d.length = (segInfo s n.val).l2 ∧ d.gen = (retGen s n.val + 1) % 2 ^ 32) ∧ t.silo.ret = s.silo.ret))

/-! ### The image, plots and remote modules (06) -/

/-- 06 R164 to R168, R172, R173, 14 R363: outside a chain the plot commands change the one plot they name, and in one each is a chain
change that the member requests or, as master, announces; the host reads what it may read and
writes the plots of source HOST that its tenant owns; STALE follows the quality word. -/
def Obligations.PlotAndImageCommands : Prop :=
  (∀ (ch : Fin 16) (n : Nat) (s : State), n < 320 → NotCarried s ch → (tenantOf s ch = 0 ∨ mayRead s (tenantOf s ch) (64 * n) = true) →
    MbReads .mbPlotGet ch (toBe 2 n) s (wB (plotOwn s n) ++ wB (plotPub s n) ++ wB (plotQual s n))) ∧
  (∀ (ch : Fin 16) (n : Nat) (pos src tn : Byte) (s : State), tenantOf s ch = 0 → Changes s → passOn s = false → n < 320 →
    ownPOS (plotOwn s n) = 0 → 1 ≤ pos.toNat → src.toNat ≤ 3 → tn.toNat < 32 →
    MbDone .mbPlotAssign ch (toBe 2 n ++ [pos, src, tn]) s (fun t =>
      plotOwn t n = wd (pos.toNat * 2 ^ 40 + src.toNat * 2 ^ 37 + tn.toNat * 2 ^ 32) ∧ (getPlot t n).valid = false ∧
      (∀ m, m ≠ n → plotOwn t m = plotOwn s m) ∧ t.img.word = s.img.word)) ∧
  (∀ (ch : Fin 16) (n : Nat) (s : State), (tenantOf s ch = 0 ∨ ownsPlot s (tenantOf s ch) n = true) → Changes s → passOn s = false →
    n < 320 → releaseOk s n = true →
    MbDone .mbPlotRelease ch (toBe 2 n) s (fun t => ownPOS (plotOwn t n) = 0 ∧
      (∀ w, w / 64 = n → tget none s.task.force w = none → imgWord t w = 0#48) ∧ (∀ w, w / 64 ≠ n → imgWord t w = imgWord s w) ∧
      (∀ m, m ≠ n → plotOwn t m = plotOwn s m) ∧ (getPlot t n).pub = (getPlot s n).pub)) ∧
  (∀ (ch : Fin 16) (n : Nat) (src tn : Byte) (s : State), tenantOf s ch = 0 → Changes s → passOn s = true → s.pair.applying = false →
    (s.pass.cstate = 2 ∨ s.pass.cstate = 3) → s.pass.announced.length < 8 → n < 320 → ownPOS (plotOwn s n) = 0 → 1 ≤ s.pass.ownPos →
    s.pass.ownPos < 256 → src.toNat ≤ 3 → tn.toNat < 32 →
    (∀ u, plotChange 0x0304 0 (toBe 2 n ++ [BitVec.ofNat 8 s.pass.ownPos, src, tn]) s = some u → (passBudget u).2.2.2 ≤ 100000000) →
    MbWaits .mbPlotAssign ch (toBe 2 n ++ [BitVec.ofNat 8 s.pass.ownPos, src, tn]) s (fun t =>
      t.img = s.img ∧ (s.pass.cstate = 2 →
        t.pass.waiting = s.pass.waiting ++ [(⟨0, 0x0304, 0, toBe 2 n ++ [BitVec.ofNat 8 s.pass.ownPos, src, tn], 0⟩, ch.val)]))) ∧
  (∀ (ch : Fin 16) (n sh : Nat) (s : State), ownsPlot s (tenantOf s ch) n = true → Changes s → passOn s = false → sh < 2 ^ 32 →
    MbDone .mbPlotShare ch (toBe 2 n ++ toBe 4 sh) s (fun t => plotOwn t n = setFld (plotOwn s n) 31 0 sh ∧
      (∀ m, m ≠ n → plotOwn t m = plotOwn s m) ∧ t.img.word = s.img.word)) ∧
  (∀ (ch : Fin 16) (n lim : Nat) (cls : Byte) (s : State), ownsPlot s (tenantOf s ch) n = true → Changes s → cls.toNat ≤ 15 → lim < 2 ^ 16 →
    MbDone .mbPlotPubSet ch (toBe 2 n ++ [1#8, cls] ++ toBe 2 lim) s (fun t =>
      (getPlot t n).pub = wd (cls.toNat * 2 ^ 20 + 2 ^ 16 + lim) ∧ ∀ m, m ≠ n → getPlot t m = getPlot s m) ∧
    MbDone .mbPlotPubSet ch (toBe 2 n ++ [0#8, cls] ++ toBe 2 lim) s (fun t => (getPlot t n).pub = 0#48)) ∧
  (∀ (ch : Fin 16) (a c : Nat) (s : State), NotCarried s ch → 1 ≤ c → c ≤ 512 → (∀ w ∈ span a c, mayRead s (tenantOf s ch) w = true) →
    MbReads .mbImageRead ch (toBe 2 a ++ toBe 2 c) s ((span a c).flatMap (fun w => wB (imgWord s w)) ++
      (span (a / 64) ((a + c - 1) / 64 + 1 - a / 64)).flatMap (fun n => wB (plotQual s n)))) ∧
  (∀ (ch : Fin 16) (ws : List (Nat × Word)) (s : State), Changes s → ownBuffer s = false → running s (tenantOf s ch) = true →
    1 ≤ ws.length → ws.length ≤ 64 → (∀ e ∈ ws, inPlot s 3 (tenantOf s ch) e.1 = true) →
    MbDone .mbImageWrite ch (toBe 1 ws.length ++ ws.flatMap (fun e => toBe 2 e.1 ++ wB e.2)) s (fun t =>
      (∀ a w v b, ws = a ++ (w, v) :: b → w ∉ b.map (·.1) →
        imgWord t w = match tget none s.task.force w with | none => v | some f => forced f v) ∧
      (∀ w, w ∉ ws.map (·.1) → imgWord t w = imgWord s w) ∧ (∀ e ∈ ws, (getPlot t (e.1 / 64)).valid = true))) ∧
  (∀ (n : Fin 320) (s : State), bit (plotQual s n.val) 12 ≠ (getPlot s n.val).stale →
    Answers (exec (.plotStale n) s) (fun t => (getPlot t n.val).stale = bit (plotQual s n.val) 12 ∧ t.img.word = s.img.word ∧
      ∀ m, m ≠ n.val → getPlot t m = getPlot s m))

/-- 06 R174 to R178, 13 R331: a module is configured, its input sets are taken once and in order, their loss substitutes the block, and
its output block is sent with the next number. -/
def Obligations.RemoteModules : Prop :=
  (∀ (ch : Fin 16) (m : Nat) (w tmo : Word) (sub : List Word) (s : State), tenantOf s ch = 0 → Changes s → m < 1024 →
    sub.length = fld w 24 20 →
    let r : Rio := { mod := w, tmo := setBit (setBit tmo 12 false) 13 true }
    rioBus r ≤ 6 → fld r.tmo 15 14 ≤ 2 → 2 ≤ fld r.tmo 11 0 → fld r.tmo 11 0 ≤ 4000 → rioBlocksOk s m r = true →
    (rioUsed r = true → rioIdsOk s m r = true) →
    MbGives .mbRioSet ch (toBe 2 m ++ [1#8] ++ wB w ++ wB tmo ++ sub.flatMap wB) s
      (· = toBe 2 (rioIN r).1 ++ toBe 2 (rioOUT r).1)
      (fun t => (getRio t m).mod = w ∧ (getRio t m).tmo = r.tmo ∧ (getRio t m).subst = sub ∧ t.img.word = s.img.word ∧
        ∀ j, j ≠ m → getRio t j = getRio s j)) ∧
  (∀ (ch : Fin 16) (m id a b : Nat) (bus tn ci co : Byte) (s : State), tenantOf s ch = 0 → Changes s → m < 1024 → id < 2 ^ 32 →
    bus.toNat ≤ 6 → tn.toNat < 32 → ci.toNat ≤ 16 → co.toNat ≤ 16 →
    let tmo := wd (id * 2 ^ 16 + 2 ^ 14 + 50)
    let mk := fun (a b : Nat) => wd (bus.toNat * 2 ^ 45 + tn.toNat * 2 ^ 40 + a * 2 ^ 25 + ci.toNat * 2 ^ 20 + b * 2 ^ 5 + co.toNat)
    let others := s.img.rio.filter (fun e => e.1 != m)
    rioIdsOk s m { mod := mk 0 0, tmo } = true → lowestBlock s 2 tn.toNat ci.toNat (others.map (fun e => rioIN e.2)) = some a →
    lowestBlock s 0 tn.toNat co.toNat (others.map (fun e => rioOUT e.2)) = some b →
    MbGives .mbRioSet ch (toBe 2 m ++ [0#8, bus] ++ toBe 4 id ++ [tn, ci, co]) s (· = toBe 2 a ++ toBe 2 b)
      (fun t => (getRio t m).mod = mk a b ∧ (getRio t m).tmo = tmo)) ∧
  (∀ (ch : Fin 16) (m : Nat) (s : State), m < 1024 → NotCarried s ch → (tenantOf s ch = 0 ∨ rioTenant (getRio s m) = tenantOf s ch) →
    let r := getRio s m
    MbReads .mbRioGet ch (toBe 2 m) s (wB r.mod ++ wB r.tmo ++ toBe 4 r.dup ++ toBe 4 r.old ++ toBe 4 r.incomplete ++ toBe 4 r.timeouts ++
      toBe 2 (r.lastSeq.getD 0) ++ toBe 4 (rioDigest s m) ++ toBe 1 (tget [] s.flash.accepted (65536 + m)).length)) ∧
  (∀ (ch : Fin 16) (m ip : Nat) (s : State), tenantOf s ch = 0 → Changes s → m < 1024 → ip < 2 ^ 32 →
    MbDone .mbRioIpSet ch (toBe 2 m ++ toBe 4 ip) s (fun t => (getRio t m).ip = wd (ip * 2 ^ 16) ∧ (getRio t m).mod = (getRio s m).mod ∧
      ∀ j, j ≠ m → getRio t j = getRio s j)) ∧
  (∀ (ch : Fin 16) (k : Byte) (n d : Nat) (s : State), Changes s → (k = 1#8 ∨ k = 2#8) → d < 2 ^ 32 → n < 2 ^ 16 → areaFits s 5 = true →
    kindTenant s k.toNat n = some (tenantOf s ch) →
    MbGives .mbTenantAccept ch ([k] ++ toBe 2 n ++ toBe 4 d) s (fun _ => True) (fun t =>
      (d = 0 → tget [] t.flash.accepted (k.toNat * 65536 + n) = []) ∧ (d ≠ 0 → d ∈ tget [] t.flash.accepted (k.toNat * 65536 + n)))) ∧
  (∀ (m : Fin 1024) (q : BitVec 16) (st : Byte) (ws : List Word) (s : State), ownBuffer s = false →
    let r := getRio s m.val
    ws.length = (rioIN r).2 → ws ≠ [] → r.active = true →
    (∀ l, r.lastSeq = some l → r.timedOut = true ∨ (1 ≤ (q.toNat + 65536 - l) % 65536 ∧ (q.toNat + 65536 - l) % 65536 ≤ 32767)) →
    Answers (exec (.remoteSetReceived m q st ws) s) (fun t => (getRio t m.val).lastSeq = some q.toNat ∧ (getRio t m.val).timedOut = false ∧
      (getRio t m.val).fault = decide (st.toNat % 2 = 1) ∧ (getRio t m.val).lastAt = s.clk ∧
      (∀ i, i < ws.length → tget none s.task.force ((rioIN r).1 + i) = none →
        imgWord t ((rioIN r).1 + i) = if unitMay s (64 + m.val) ((rioIN r).1 + i) then ws.getD i 0#48 else imgWord s ((rioIN r).1 + i)) ∧
      (∀ w, (w < (rioIN r).1 ∨ (rioIN r).1 + ws.length ≤ w) → imgWord t w = imgWord s w))) ∧
  (∀ (m : Fin 1024) (q : BitVec 16) (st : Byte) (ws : List Word) (s : State),
    let r := getRio s m.val
    ws.length = (rioIN r).2 → ws ≠ [] → r.active = true → r.timedOut = false → r.lastSeq = some q.toNat →
    exec (.remoteSetReceived m q st ws) s = .next (updRio m.val (fun r => { r with dup := r.dup + 1 }) s)) ∧
  (∀ (m : Fin 1024) (s : State), ownBuffer s = false →
    let r := getRio s m.val
    (rioIN r).2 ≠ 0 → r.active = true → r.timedOut = false → r.lastAt + fld r.tmo 11 0 * 1000000 ≤ s.clk →
    Answers (exec (.remoteModuleTimeout m) s) (fun t => (getRio t m.val).timedOut = true ∧ (getRio t m.val).timeouts = r.timeouts + 1 ∧
      (∀ i, i < (rioIN r).2 → tget none s.task.force ((rioIN r).1 + i) = none → imgWord t ((rioIN r).1 + i) =
        (if unitMay s (64 + m.val) ((rioIN r).1 + i) = false ∨ fld r.tmo 15 14 = 0 then imgWord s ((rioIN r).1 + i) else if fld r.tmo 15 14 = 1 then 0#48 else r.subst.getD i 0#48)) ∧
      (∀ w, (w < (rioIN r).1 ∨ (rioIN r).1 + (rioIN r).2 ≤ w) → imgWord t w = imgWord s w))) ∧
  (∀ (m : Fin 1024) (s : State), serving s = true →
    let r := getRio s m.val
    (rioOUT r).2 ≠ 0 → r.active = true → r.outAt + fld r.tmo 11 0 * 250000 ≤ s.clk →
    (rioBus r < 4 ∨ fld r.ip 47 16 ≠ 0 ∨ r.lastSrc.isSome = true) →
    Answers (exec (.remoteOutputPeriodic m) s) (fun t => (getRio t m.val).outSeq = (r.outSeq + 1) % 65536 ∧ (getRio t m.val).outAt = s.clk ∧
      t.img.word = s.img.word))

/-! ### Time bases and the scheduler (07) -/

/-- 07 R186 to R191: LINEPOS moves by SPEED and the waiting fixes each tick; edges are taken, rejected and synthesised by the tooth
windows; an axle goes still, is readmitted, and LINEPOS loses its trust when coasting has lasted too long. -/
def Obligations.LinePositionAdvances : Prop :=
  (∀ s : State, s.ovl.units = [] → tickHere s = true → Answers (exec .positionTick s) (fun t =>
    t.tb.pos = s.tb.pos + (s.tb.posFrac + s.tb.speed).fdiv 64000000 + (s.tb.fix.map (·.1)).sum ∧
    t.tb.posFrac = (s.tb.posFrac + s.tb.speed).fmod 64000000 ∧ t.tb.fix = [] ∧ t.tb.speed = s.tb.speed)) ∧
  (∀ (n : Fin 4) (r : Bool) (s : State),
    let a := getAxle s n.val
    axleOn a = true → tget false s.fio.twFault n.val = false → a.state ≠ 2 → a.state ≠ 3 → (∀ l, a.lastAcc = some l → l + 200000 ≤ s.clk) →
    Answers (exec (.toothEdge n r) s) (fun t => (getAxle t n.val).state = 2 ∧ (getAxle t n.val).lastAcc = some s.clk ∧
      (getAxle t n.val).back = (r != bit a.cfg 16) ∧ (getAxle t n.val).tLast = some s.clk)) ∧
  (∀ (n : Fin 4) (r : Bool) (tl : Nat) (s : State),
    let a := getAxle s n.val
    axleOn a = true → tget false s.fio.twFault n.val = false → a.state = 3 → a.back = (r != bit a.cfg 16) → a.tp ≤ pmaxNs s → a.tLast = some tl →
    (s.clk < tl + a.tp - axWindow a → Answers (exec (.toothEdge n r) s) (fun t =>
      (getAxle t n.val).reject = min 65535 (a.reject + 1) ∧ (getAxle t n.val).tLast = some tl ∧ t.tb.pos = s.tb.pos)) ∧
    (tl + a.tp - axWindow a ≤ s.clk → natDist s.clk (tl + a.tp) ≤ a.tp / 8 → Answers (exec (.toothEdge n r) s) (fun t =>
      (getAxle t n.val).tLast = some s.clk ∧ (getAxle t n.val).miss = 0 ∧ (getAxle t n.val).state = 3))) ∧
  (∀ (n : Fin 4) (tl : Nat) (s : State),
    let a := getAxle s n.val
    a.state = 3 → a.tp ≤ pmaxNs s → a.tLast = some tl → tl + a.tp + axWindow a ≤ s.clk →
    (a.cand = none → Answers (exec (.toothWindowClose n) s) (fun t => (getAxle t n.val).tLast = some (tl + a.tp) ∧
      (getAxle t n.val).synth = min 65535 (a.synth + 1) ∧
      (a.miss + 1 ≠ 3 → (getAxle t n.val).miss = a.miss + 1 ∧ (getAxle t n.val).state = 3) ∧
      (a.miss + 1 = 3 → (getAxle t n.val).state = 4))) ∧
    (∀ c, a.cand = some c → Answers (exec (.toothWindowClose n) s) (fun t => (getAxle t n.val).tLast = some c ∧
      (getAxle t n.val).cand = none ∧ (getAxle t n.val).miss = 0))) ∧
  (∀ (n : Fin 4) (s : State),
    let a := getAxle s n.val
    axleOn a = true → a.state ≠ 1 → a.lastAcc.getD a.onAt + stillNs s ≤ s.clk →
    Answers (exec (.axleStillTimeout n) s) (fun t => (getAxle t n.val).state = 1 ∧ (getAxle t n.val).v = 0)) ∧
  (∀ (n : Fin 4) (l : Nat) (s : State),
    let a := getAxle s n.val
    a.agreeSince = some l → a.excluded = true → l + 1000000000 ≤ s.clk → (∀ e ∈ (axPasses s).2, e.1 = n.val → e.2 = true) →
    Answers (exec (.axleReadmit n) s) (fun t => (getAxle t n.val).excluded = false ∧ (getAxle t n.val).agreeSince = none ∧
      (getAxle t n.val).pos = s.tb.pos * 65536)) ∧
  (∀ (l : Nat) (s : State), s.tb.coastAt = some l → l + coastNs s < s.clk →
    Answers (exec .coastTimeout s) (fun t => t.tb.lpOk = false ∧ t.tb.pos = s.tb.pos))

/-- 07 R192 to R194, R203: a locked mains input follows each crossing, one that searches locks at the eighth good crossing, crossings
that stay away lead to holdover and to loss, and a DC supply stops the angle at a whole number of cycles. -/
def Obligations.SupplyAngleFollows : Prop :=
  (∀ (n : Fin 2) (f : Nat) (ph : BitVec 16) (pe : Int) (s : State),
    let m := getMains s n.val
    mainsOn m = true → m.overRange = false → mainsInBand m f = true →
    (m.state = 2 → Answers (exec (.mainsZeroCrossing n f ph pe) s) (fun t =>
      supang t n.val % 65536 = (ph.toNat + fld m.cfg 35 20) % 65536 ∧ (getMains t n.val).state = 2 ∧ (getMains t n.val).lastX = s.clk ∧
      (getMains t n.val).freq = f ∧ (getMains t n.val).pherr = pe)) ∧
    (m.state = 1 → -182 < pe → pe < 182 → 7 ≤ m.good → Answers (exec (.mainsZeroCrossing n f ph pe) s) (fun t =>
      (getMains t n.val).state = 2 ∧ (getMains t n.val).system = mainsBand f)) ∧
    (m.state = 1 → -182 < pe → pe < 182 → m.good < 7 → Answers (exec (.mainsZeroCrossing n f ph pe) s) (fun t =>
      (getMains t n.val).state = 1 ∧ (getMains t n.val).good = m.good + 1))) ∧
  (∀ (n : Fin 2) (s : State),
    let m := getMains s n.val
    m.state = 2 → 1500000000000 ≤ (s.clk - m.lastX) * mainsNominal m.system →
    Answers (exec (.mainsCrossingTimeout n) s) (fun t => (getMains t n.val).state = 3 ∧ (getMains t n.val).holdAt = s.clk ∧
      supang t n.val = supang s n.val)) ∧
  (∀ (n : Fin 2) (s : State),
    let m := getMains s n.val
    m.state = 3 → m.holdAt + fld m.cfg 43 36 * 10000000 ≤ s.clk →
    Answers (exec (.mainsHoldoverExpiry n) s) (fun t => (getMains t n.val).state = 4 ∧ (getMains t n.val).leftAt = s.clk)) ∧
  (∀ (n : Fin 2) (s : State),
    let m := getMains s n.val
    mainsOn m = true → (m.state = 1 ∨ m.state = 4) →
    Answers (exec (.mainsDcDetect n) s) (fun t => (getMains t n.val).state = 5 ∧ supang t n.val = supang s n.val / 65536 * 65536))

/-- 07 R195 to R202: slots are given to tenants, configured, armed, read and cancelled; a slot whose base reaches its target acts on its
one word and is FIRED with its stamp, and the end of a pulse clears its lane. -/
def Obligations.SlotsArmAndFire : Prop :=
  (∀ (ch : Fin 16) (a c : Nat) (tn : Byte) (s : State), tenantOf s ch = 0 → Changes s → 1 ≤ c → a + c ≤ 2048 → tn.toNat < 32 →
    (∀ n, a ≤ n → n < a + c → slotArmed (getSlot s n) = false) →
    MbDone .mbSchAlloc ch (toBe 2 a ++ toBe 2 c ++ [tn]) s (fun t =>
      (∀ n, a ≤ n → n < a + c → slotTenant (getSlot t n) = tn.toNat ∧ slotState (getSlot t n) = 0 ∧ (getSlot t n).arg = 0#48) ∧
      ∀ n, (n < a ∨ a + c ≤ n) → getSlot t n = getSlot s n)) ∧
  (∀ (ch : Fin 16) (n : Nat) (w arg : Word) (s : State), Changes s → ownsSlot s (tenantOf s ch) n = true →
    slotArmed (getSlot s n) = false →
    let w' := setBit (w &&& 0xFFFFFFDFFFFF#48) 39 true
    slotCfgOk s (tenantOf s ch) w' arg = true →
    MbDone .mbSchSet ch (toBe 2 n ++ [1#8] ++ wB w ++ wB arg) s (fun t => (getSlot t n).cfg = w' ∧ (getSlot t n).arg = slotArg w' arg ∧
      slotState (getSlot t n) = 0 ∧ ∀ m, m ≠ n → getSlot t m = getSlot s m)) ∧
  (∀ (ch : Fin 16) (n word : Nat) (b a lane ev : Byte) (arg : Word) (s : State), Changes s → ownsSlot s (tenantOf s ch) n = true →
    slotArmed (getSlot s n) = false → b.toNat ≤ 4 → a.toNat ≤ 5 → (ev.toNat < 128 ∨ ev.toNat = 255) → word < 20480 → lane.toNat < 48 →
    let w := wd (b.toNat * 2 ^ 45 + tenantOf s ch * 2 ^ 40 + a.toNat * 2 ^ 36 + b2n (b.toNat == 1) * 2 ^ 33 + 2 ^ 32 +
      b2n (ev.toNat != 255) * 2 ^ 29 + (if ev.toNat = 255 then 0 else ev.toNat) * 2 ^ 22 + word * 2 ^ 6 + lane.toNat)
    slotCfgOk s (tenantOf s ch) w arg = true →
    MbDone .mbSchSet ch (toBe 2 n ++ [0#8, b, a] ++ toBe 2 word ++ [lane, ev] ++ wB arg) s (fun t => (getSlot t n).cfg = w ∧
      (getSlot t n).arg = slotArg w arg)) ∧
  (∀ (ch : Fin 16) (n : Nat) (v : Word) (s : State), Changes s → ownsSlot s (tenantOf s ch) n = true →
    let x : Slot := { getSlot s n with tgt := v }
    effMode s (slotTenant x) ≠ 1 → effMode s (slotTenant x) ≠ 4 → baseTrusted s (slotBase x) = true → slotPassed s x = false → fireDue s = s →
    MbGives .mbSchArm ch (toBe 2 n ++ wB v) s (· = wB (setFld (setFld x.sts 43 32 (fld x.sts 43 32 + 1)) 47 44 1)) (fun t =>
      slotState (getSlot t n) = 1 ∧ (getSlot t n).tgt = v ∧ (getSlot t n).cfg = x.cfg ∧ ∀ m, m ≠ n → getSlot t m = getSlot s m)) ∧
  (∀ (ch : Fin 16) (n : Nat) (s : State), Changes s → ownsSlot s (tenantOf s ch) n = true → slotArmed (getSlot s n) = true →
    (fireDue s = s → MbGives .mbSchCancel ch (toBe 2 n) s (fun _ => True) (fun t => slotState (getSlot t n) = 3 ∧
      (getSlot t n).dt = wd (devtime s) ∧ ∀ m, m ≠ n → getSlot t m = getSlot s m)) ∧
    (serving s = true → stepFirst s = s → opsNow s (getSlot s n) = false → slotReached s (getSlot s n) = true → MbGives .mbSchCancel ch (toBe 2 n) s (fun _ => True) (fun t =>
      slotState (getSlot t n) = 2 ∧ (getSlot t n).dt = wd (devtime s)))) ∧
  (∀ (ch : Fin 16) (n : Nat) (s : State), n < 2048 → NotCarried s ch → (tenantOf s ch = 0 ∨ slotTenant (getSlot s n) = tenantOf s ch) →
    let x := getSlot s n
    MbReads .mbSchGet ch (toBe 2 n) s (wB x.cfg ++ wB x.tgt ++ wB x.arg ++ wB x.sts ++ wB x.dt)) ∧
  (∀ (n : Fin 2048) (s : State),
    let x := getSlot s n.val
    slotArmed x = true → slotReached s x = true → serving s = true → stepFirst s = s → (∀ e ∈ s.slot, opsNow s e.2 = false) →
    Answers (exec (.slotFire n) s) (fun t => slotState (getSlot t n.val) = 2 ∧ (getSlot t n.val).dt = wd (devtime s) ∧
      (armedSlots s (slotReached s) = [n.val] →
      (slotWordOk s x = true → tget none s.task.force (slotWord x) = none → imgWord t (slotWord x) =
        match slotAction x with
        | 0 => imgWord s (slotWord x)
        | 2 => setBit (imgWord s (slotWord x)) (slotLane x) false
        | 3 => setBit (imgWord s (slotWord x)) (slotLane x) (!bit (imgWord s (slotWord x)) (slotLane x))
        | 4 => x.arg
        | _ => setBit (imgWord s (slotWord x)) (slotLane x) true) ∧
      (slotWordOk s x = false → t.img.word = s.img.word) ∧ (∀ w, w ≠ slotWord x → imgWord t w = imgWord s w)))) ∧
  (∀ (n : Fin 2048) (at_ w l : Nat) (s : State), (getSlot s n.val).pulse = some (at_, w, l) → at_ ≤ s.clk →
    inPlot s 0 (slotTenant (getSlot s n.val)) w = true → tget none s.task.force w = none →
    Answers (exec (.pulseEnd n) s) (fun t => (getSlot t n.val).pulse = none ∧ imgWord t w = setBit (imgWord s w) l false ∧
      ∀ x, x ≠ w → imgWord t x = imgWord s x))

/-- 07 R186, R191 to R193, R204: the time bases are read as they stand; axles, mains inputs and fixes of LINEPOS are set. -/
def Obligations.TimeBaseCommands : Prop :=
  (∀ (ch : Fin 16) (s : State), NotCarried s ch → MbReads .mbTbGet ch [] s (toBe 6 (devtime s) ++ toBe 6 (wallSec s) ++ toBe 6 (wallSub s) ++
      toBe 2 (umod 16 s.silo.utcOffset) ++ toBe 6 (umod 48 s.tb.pos) ++ toBe 6 (umod 48 s.tb.speed) ++ toBe 6 (supang s 0) ++
      toBe 6 (supang s 1) ++ wB (tbTrust s)) ∧
    MbReads .mbTbDiag ch [] s ((List.range 4).flatMap (fun n => wB (twStat (getAxle s n))) ++
      (List.range 2).flatMap (fun n => wB (mainsStat (getMains s n))))) ∧
  (∀ (ch : Fin 16) (lp : Word) (ax : Fin 4 → Word) (s : State), tenantOf s ch = 0 → Changes s →
    1 ≤ fld lp 47 40 → fld lp 47 40 ≤ 100 → 5 ≤ fld lp 39 32 → fld lp 39 32 ≤ 200 → 1 ≤ fld lp 31 24 → fld lp 31 24 ≤ 100 →
    5 ≤ fld lp 23 16 → fld lp 23 16 ≤ 200 → 5 ≤ fld lp 15 8 → fld lp 15 8 ≤ 100 → (∀ n, twOk (twWord (ax n) true) = true) →
    MbDone .mbLpSet ch ([1#8] ++ wB lp ++ wB (ax 0) ++ wB (ax 1) ++ wB (ax 2) ++ wB (ax 3)) s (fun t =>
      t.tb.lpCfg = setBit (lp &&& 0xFFFFFFFFFF00#48) 7 true ∧ ∀ n : Fin 4, (getAxle t n.val).cfg = twWord (ax n) true)) ∧
  (∀ (ch : Fin 16) (en : Fin 4 → Bool) (teeth diam : Fin 4 → Nat) (s : State), tenantOf s ch = 0 → Changes s →
    (∀ n, 16 ≤ teeth n ∧ teeth n ≤ 1024 ∧ 30000 ≤ diam n ∧ diam n ≤ 150000) →
    MbDone .mbLpSet ch ([0#8] ++ ([0, 1, 2, 3] : List (Fin 4)).flatMap (fun n => (if en n then 1#8 else 0#8) :: toBe 2 (teeth n) ++ toBe 4 (diam n))) s
      (fun t => t.tb.lpCfg = 0x321414281400#48 ∧
        ∀ n : Fin 4, (getAxle t n.val).cfg = wd (teeth n * 2 ^ 36 + diam n * 2 ^ 18 + b2n (en n) * 2 ^ 15 + 35 * 2 ^ 8))) ∧
  (∀ (ch : Fin 16) (n : Fin 2) (w : Word) (s : State), tenantOf s ch = 0 → Changes s → fld w 43 36 ≤ 200 →
    MbDone .mbMainsSet ch ([BitVec.ofNat 8 n.val, 1#8] ++ wB w) s (fun t =>
      (getMains t n.val).cfg = setBit (w &&& 0xFFFFFFF00000#48) 44 true)) ∧
  (∀ (ch : Fin 16) (n : Fin 2) (en nom : Byte) (s : State), tenantOf s ch = 0 → Changes s → en.toNat ≤ 1 → nom.toNat ≤ 3 →
    MbDone .mbMainsSet ch [BitVec.ofNat 8 n.val, 0#8, en, nom] s (fun t =>
      (getMains t n.val).cfg = wd (nom.toNat * 2 ^ 46 + en.toNat * 2 ^ 45 + 200 * 2 ^ 36) ∧
      (en.toNat = 0 → (getMains t n.val).state = 0))) ∧
  (∀ (ch : Fin 16) (lf tf : Word) (o : Byte) (s : State), tenantOf s ch = 0 → Changes s →
    let ago := (devtime s + 2 ^ 48 - tf.toNat) % 2 ^ 48
    let waiting := (s.tb.fix.map (·.1)).sum
    let c := lf.toInt - (lineAt s (s.clk - ago) + waiting)
    ago ≤ 1000000000 → -(2 ^ 47) ≤ c → c < 2 ^ 47 → -(2 ^ 47) ≤ s.tb.pos + waiting + c → s.tb.pos + waiting + c < 2 ^ 47 →
    (o.toNat % 2 = 1 ∨ c.natAbs ≤ 6400000) →
    MbGives .mbPosFix ch (wB lf ++ wB tf ++ [o]) s (· = toBe 6 (umod 48 c)) (fun t =>
      t.tb.fix = s.tb.fix ++ [(c, tf.toNat)] ∧ t.tb.pos = s.tb.pos))

/-! ### The control engine (08) -/

/-- 08 R209 to R219: where no composition waits for the loop, a trigger freezes the words that its group reads, once the slots and the
commits of its cycle are done, or is skipped and counted while a sample is outstanding; outside its condition it does nothing; a sample
whose turn it is completes, counts SEQ, is VALID, and is gone from the queue. -/
def Obligations.ControlEngineSamples : Prop :=
  (∀ (n : Fin 512) (s : State), s.ovl.units = [] → ceRateDue n.val s = true → ceBusy s n.val = false →
    let r := freezeReady s
    ceBusy r n.val = false →
    ∃ t, exec (.ceRateTrigger n) s = .next t ∧ t = { r with ce := { r.ce with jobs := r.ce.jobs ++ [⟨n.val, none, devtime r,
      freezeIns r n.val (fun w o => liveIn r (ceTenant (getLoop r n.val)) w o)⟩] } }) ∧
  (∀ (n : Fin 512) (s : State), s.ovl.units = [] → ceRateDue n.val s = true → ceBusy s n.val = true → ceBusy (freezeReady s) n.val = true →
    ∃ t, exec (.ceRateTrigger n) s = .next t ∧ (getLoop t n.val).skipped = true ∧ t.ce.skips = (freezeReady s).ce.skips + 1 ∧
      t.ce.jobs = (freezeReady s).ce.jobs) ∧
  (∀ (n : Fin 512) (s : State), s.ovl.units = [] →
    (ceRateDue n.val s = false → exec (.ceRateTrigger n) s = .next s) ∧ (ceSupangDue n.val s = false → exec (.ceSupangTrigger n) s = .next s)) ∧
  (∀ (n : Fin 512) (s : State), s.ovl.units = [] → ceSupangDue n.val s = true → ceBusy s n.val = false →
    let r := freezeReady s
    ceBusy r n.val = false →
    ∃ t, exec (.ceSupangTrigger n) s = .next t ∧
      (getLoop t n.val).cycSeen = some (supang r (ceTrig (getLoop r n.val) - 2) / 65536) ∧
      t.ce.jobs = r.ce.jobs ++ [⟨n.val, none, devtime r, freezeIns r n.val (fun w o => liveIn r (ceTenant (getLoop r n.val)) w o)⟩]) ∧
  (∀ (n : Fin 512) (s : State), s.ovl.units = [] → ceSupangDue n.val s = true → ceBusy s n.val = true → ceBusy (freezeReady s) n.val = true →
    ∃ t, exec (.ceSupangTrigger n) s = .next t ∧ (getLoop t n.val).skipped = true ∧ t.ce.skips = (freezeReady s).ce.skips + 1 ∧
      t.ce.jobs = (freezeReady s).ce.jobs) ∧
  (∀ (n : Fin 512) (j : CeJob) (s : State), s.ovl.units = [] → s.ce.waits = [] → s.ce.jobs.find? (fun j => j.loop == n.val) = some j →
    ceTurn s j = true → (serving s = true ∨ (j.task.isSome = true ∧ (s.pair.rstate = 5 ∨ s.pair.rstate = 7))) →
    ∃ t, exec (.ceSampleComplete n) s = .next t ∧ t.ce.jobs = s.ce.jobs.erase j ∧
      fld (getLoop t n.val).status 47 32 = (fld (getLoop s n.val).status 47 32 + 1) % 65536 ∧ bit (getLoop t n.val).status 31 = true ∧
      (getLoop t n.val).skipped = false ∧ (getLoop t n.val).coef = (getLoop s n.val).coef) ∧
  (∀ (n : Fin 512) (s : State), s.ce.jobs.find? (fun j => j.loop == n.val) = none → exec (.ceSampleComplete n) s = .next s)

/-- 08 R206, R208, R218 to R222: loops are given to tenants, configured, and their coefficients staged and committed as one; their state,
flags and configuration are set and read. -/
def Obligations.ControlLoopCommands : Prop :=
  (∀ (ch : Fin 16) (g c tn : Byte) (s : State), tenantOf s ch = 0 → Changes s → 1 ≤ c.toNat → g.toNat + c.toNat ≤ 64 → tn.toNat < 32 →
    (∀ n, 8 * g.toNat ≤ n → n < 8 * g.toNat + 8 * c.toNat → (getLoop s n).isSet = false) →
    (∀ i, i < c.toNat → bit (evtSrc s (256 + g.toNat + i)) 23 = false) →
    MbDone .mbCeAlloc ch [g, c, tn] s (fun t =>
      (∀ n, 8 * g.toNat ≤ n → n < 8 * g.toNat + 8 * c.toNat → ceTenant (getLoop t n) = tn.toNat ∧ (getLoop t n).isSet = false ∧
        fld (getLoop t n).status 47 32 = fld (getLoop s n).status 47 32) ∧
      (∀ n, (n < 8 * g.toNat ∨ 8 * g.toNat + 8 * c.toNat ≤ n) → getLoop t n = getLoop s n) ∧
      ∀ i, i < c.toNat → evtOwner t (256 + g.toNat + i) = tn.toNat)) ∧
  (∀ (ch : Fin 16) (p : Bytes) (s : State), Changes s → ((u8 p 2 = 0 ∧ p.length = 56) ∨ (u8 p 2 = 1 ∧ p.length = 63)) →
    ceOwner s (tenantOf s ch) (be p 0 2) = true →
    let n := be p 0 2
    let r := ceRequest p
    let x := getLoop (ceSettled s) n
    let y := ceCandidate (ceSettled s) x r
    let s' := updLoop n (fun _ => y) (ceSettled s)
    r.listed = true → r.fits = true → (∀ w ∈ r.ins, mayRead s (tenantOf s ch) w = true) →
    (x.isSet = false ∨ effMode s (tenantOf s ch) = 1 ∨
      (ceTrig y, ceN y, ceM y, ceP y, ceInteg y, ceLead y) = (ceTrig x, ceN x, ceM x, ceP x, ceInteg x, ceLead x)) →
    ceSetOk s s' n = true → cePool s' ≤ 131072 → ceLoad s' ≤ 4000000000 →
    (ceUnder s n = true → MbGives .mbCeSet ch p s (· = toBe 2 (ceSize y)) (fun t => getLoop t n = getLoop s n ∧
      t.ce.waits = s.ce.waits ++ [⟨n, .set r⟩])) ∧
    (ceUnder s n = false → s.ce.waits = [] →
    MbGives .mbCeSet ch p s (· = toBe 2 (ceSize y)) (fun t => (getLoop t n).isSet = true ∧ (getLoop t n).cfg = y.cfg ∧
      (getLoop t n).map = r.map ∧ (getLoop t n).trig = r.trig ∧ ceTenant (getLoop t n) = ceTenant (getLoop s n) ∧
      (ceSize y = (getLoop s n).coef.length → (getLoop t n).xh = (getLoop s n).xh ∧ (getLoop t n).q = (getLoop s n).q)))) ∧
  (∀ (ch : Fin 16) (n o : Nat) (ws : List Word) (s : State), Changes s → ceOwner s (tenantOf s ch) n = true → (getLoop s n).isSet = true →
    1 ≤ ws.length → ws.length ≤ 64 → o < 2 ^ 16 → o + ws.length ≤ (getLoop s n).coef.length →
    ((getLoop s n).stage.isSome = true ∨ cePool s + (getLoop s n).coef.length ≤ 131072) →
    MbDone .mbCeCoefSet ch (toBe 2 n ++ toBe 2 o ++ toBe 1 ws.length ++ ws.flatMap wB) s (fun t =>
      let b := (getLoop s n).stage.getD (getLoop s n).coef
      (getLoop t n).stage = some (b.take o ++ ws ++ b.drop (o + ws.length)) ∧ (getLoop t n).coef = (getLoop s n).coef ∧
      ∀ m, m ≠ n → getLoop t m = getLoop s m)) ∧
  (∀ (ch : Fin 16) (n : Nat) (b : List Word) (s : State), Changes s → ceOwner s (tenantOf s ch) n = true → (getLoop s n).isSet = true →
    (getLoop s n).stage = some b → ceLimitsOk (getLoop s n) b = true →
    (ceUnder s n = false → MbGives .mbCeCoefCommit ch (toBe 2 n) s (· = toBe 2 ((fld (getLoop s n).status 47 32 + 1) % 65536)) (fun t =>
      (getLoop t n).coef = b ∧ (getLoop t n).stage = none ∧ ceExpert (getLoop t n) = true ∧ (getLoop t n).xh = (getLoop s n).xh ∧
      (getLoop t n).q = (getLoop s n).q ∧ ∀ m, m ≠ n → getLoop t m = getLoop s m)) ∧
    (ceUnder s n = true → MbGives .mbCeCoefCommit ch (toBe 2 n) s (· = toBe 2 ((fld (getLoop s n).status 47 32 + 2) % 65536)) (fun t =>
      (getLoop t n).coef = (getLoop s n).coef ∧ (getLoop t n).stage = none ∧ t.ce.waits = s.ce.waits ++ [⟨n, .block b⟩] ∧
      ∀ m, m ≠ n → getLoop t m = getLoop s m))) ∧
  (∀ (ch : Fin 16) (n : Nat) (s : State), NotCarried s ch → ceOwner s (tenantOf s ch) n = true →
    let x := getLoop s n
    MbReads .mbCeGet ch (toBe 2 n) s (wB (ceCfgWord s n) ++ wB x.trig ++ padW 8 x.map ++ wB (ceSts s n) ++ wB x.flag ++ padW 8 x.ua ++
      padW 16 x.xh ++ padW 8 x.q)) ∧
  (∀ (ch : Fin 16) (n : Nat) (xs qs : List Word) (s : State), Changes s → ceOwner s (tenantOf s ch) n = true → (getLoop s n).isSet = true →
    xs.length = ceN (getLoop s n) → qs.length = ceM (getLoop s n) →
    (ceUnder s n = false → MbDone .mbCeStateSet ch (toBe 2 n ++ xs.flatMap wB ++ qs.flatMap wB) s (fun t => (getLoop t n).xh = xs ∧
      (getLoop t n).q = qs ∧ (getLoop t n).status = (getLoop s n).status ∧ ∀ m, m ≠ n → getLoop t m = getLoop s m)) ∧
    (ceUnder s n = true → MbDone .mbCeStateSet ch (toBe 2 n ++ xs.flatMap wB ++ qs.flatMap wB) s (fun t =>
      t.ce.waits = s.ce.waits ++ [⟨n, .state xs qs⟩] ∧ t.ce.loop = s.ce.loop))) ∧
  (∀ (ch : Fin 16) (n : Nat) (b : Byte) (s : State), Changes s → ceOwner s (tenantOf s ch) n = true →
    MbGives .mbCeFlagsClear ch (toBe 2 n ++ [b]) s (· = wB (getLoop s n).flag) (fun t =>
      (∀ i, bit (getLoop t n).flag i = (bit (getLoop s n).flag i && !(decide (i < 6) && b.getLsbD i))) ∧
      (getLoop t n).status = (getLoop s n).status ∧ ∀ m, m ≠ n → getLoop t m = getLoop s m)) ∧
  (∀ (ch : Fin 16) (s : State), NotCarried s ch → MbReads .mbCeLoad ch [] s (toBe 6 (ceLoad s).floor.toNat ++
    toBe 4 (131072 - cePool s) ++ toBe 4 (s.ce.late % 2 ^ 32) ++ toBe 4 (s.ce.skips % 2 ^ 32)))

/-- 08 R223 to R225: an injection session starts with its settings and nothing captured, stops at the command with what it has, and its
capture is read back. -/
def Obligations.InjectionSessions : Prop :=
  (∀ (ch : Fin 16) (i : Fin 2) (w amp f0 f1 dur : Word) (cs : List (Byte × Byte)) (d pre c : Nat) (s : State), Changes s →
    let r := w &&& 0xFFFFFFFF0000#48
    let n := fld r 47 39
    ceOwner s (tenantOf s ch) n = true → cs.length = 4 → (∀ e ∈ cs, e.1.toNat ≤ 8) → 1 ≤ d → d ≤ 256 → pre < 2 ^ 16 → 1 ≤ c → c ≤ 8192 →
    fld r 38 36 ≤ 4 → (fld r 38 36 = 3 → 7 ≤ fld r 31 28 ∧ 1 ≤ fld r 27 16) → (fld r 38 36 = 2 → 1 ≤ fld r 27 16) →
    effMode s (tenantOf s ch) = 2 → (getInj s i.val).active = false → (getLoop s n).isSet = true →
    fld r 34 32 < (if bit r 35 then ceM (getLoop s n) else ceP (getLoop s n)) →
    MbDone .mbCeInjStart ch ([BitVec.ofNat 8 i.val] ++ wB w ++ wB amp ++ wB f0 ++ wB f1 ++ wB dur ++ cs.flatMap (fun e => [e.1, e.2]) ++
      toBe 2 d ++ toBe 2 pre ++ toBe 2 c) s (fun t =>
      let k := getInj t i.val
      k.active = true ∧ k.reg = r ∧ k.amp = amp ∧ k.f0 = f0 ∧ k.f1 = f1 ∧ k.dur = dur ∧ k.div = d ∧ k.pre = pre ∧ k.want = c ∧ k.cap = [] ∧
      k.injected = 0 ∧ k.prbs = 2 ^ fld r 31 28 - 1 ∧ k.chans = cs.map (fun e => (e.1.toNat, e.2.toNat)))) ∧
  (∀ (ch : Fin 16) (i : Fin 2) (s : State), Changes s → ceOwner s (tenantOf s ch) (injLoop (getInj s i.val)) = true →
    (getInj s i.val).active = true →
    MbGives .mbCeInjStop ch [BitVec.ofNat 8 i.val] s (· = toBe 2 (getInj s i.val).cap.length) (fun t =>
      (getInj t i.val).active = false ∧ (getInj t i.val).cap = (getInj s i.val).cap ∧ t.ce.loop = s.ce.loop)) ∧
  (∀ (ch : Fin 16) (i : Fin 2) (a c : Nat) (s : State), NotCarried s ch → ceOwner s (tenantOf s ch) (injLoop (getInj s i.val)) = true →
    1 ≤ c → c ≤ 160 → a < 2 ^ 16 → a + c ≤ (getInj s i.val).cap.length →
    let k := getInj s i.val
    MbReads .mbCeCapRead ch ([BitVec.ofNat 8 i.val] ++ toBe 2 a ++ toBe 2 c) s (toBe 2 k.seq0 ++ toBe 6 k.dt0 ++ toBe 2 k.div ++
      toBe 2 k.cap.length ++ ((k.cap.drop a).take c).flatMap (fun r => padW 4 r)))

/-! ### Services (09) -/

/-- 09 R231 to R241: a programme's new value is committed, alarms follow their inputs with a new transaction number for each change, and
trend channels take samples at their instants and on change. -/
def Obligations.ProgrammesAlarmsAndTrends : Prop :=
  (∀ (w : Fin 512) (g : Wpg) (s : State), s.ovl.units = [] → serving s = true → tget none s.svc.wpg w.val = some g →
    let t := fld g.cfg 47 43
    let v := wpgValue s g (localMin s t)
    let o := fld g.cfg 32 18
    (bit g.cfg 17 = true → g.last ≠ some v → running s t = true → inPlot s 0 t o = true → tget none s.task.force o = none →
      Answers (exec (.wpgEvaluate w) s) (fun u => (∃ h, tget none u.svc.wpg w.val = some h ∧ h.value = v ∧ h.last = some v ∧
          h.lastAt = devtime s) ∧
        imgWord u o = (if bit g.cfg 41 then setBit (imgWord s o) (fld g.cfg 38 33) (bit v 0) else v) ∧
        ∀ x, x ≠ o → imgWord u x = imgWord s x)) ∧
    ((bit g.cfg 17 = false ∨ g.last = some v) → Answers (exec (.wpgEvaluate w) s) (fun u =>
      (∃ h, tget none u.svc.wpg w.val = some h ∧ h.value = v ∧ h.last = g.last) ∧ u.img.word = s.img.word))) ∧
  (∀ (n : Nat) (a : Alm) (s : State), s.ovl.units = [] → serving s = true → (s.svc.alm.map (·.1)).Nodup → tget none s.svc.alm n = some a →
    let r := almRaw a (svcRead s (fld a.cfg 47 43) (fld a.cfg 31 17))
    let from_ := if r && !a.raw then s.clk else a.since
    Answers (exec .alarmEvaluate s) (fun u => u.img = s.img ∧ ∃ b, tget none u.svc.alm n = some b ∧ b.raw = r ∧ b.cfg = a.cfg ∧ b.shelved = a.shelved ∧
      (r = true → a.active = false → from_ + fld a.cfg 15 8 * 100000000 ≤ s.clk →
        b.active = true ∧ b.trn = (a.trn + 1) % 65536 ∧ b.unack = ackSet a ∧ b.lastAt = devtime s) ∧
      (r = true → a.active = false → s.clk < from_ + fld a.cfg 15 8 * 100000000 → b.active = false ∧ b.trn = a.trn ∧ b.since = from_) ∧
      (r = false → a.active = true → b.active = false ∧ b.trn = (a.trn + 1) % 65536 ∧ b.unack = a.unack ∧ b.lastAt = devtime s) ∧
      (r = a.active → b.active = a.active ∧ b.trn = a.trn ∧ b.unack = a.unack))) ∧
  (∀ (n : Fin 8192) (a : Alm) (l : Nat) (s : State), serving s = true → tget none s.svc.alm n.val = some a → a.shelved = some l → l ≤ s.clk →
    Answers (exec (.shelveEnd n) s) (fun u => tget none u.svc.alm n.val = some { a with shelved := none } ∧
      ∀ m, m ≠ n.val → tget none u.svc.alm m = tget none s.svc.alm m)) ∧
  (∀ (n : Fin 4096) (c : Trd) (s : State), s.ovl.units = [] → serving s = true → tget none s.svc.trd n.val = some c →
    mayRead s (fld c.cfg 47 43) (fld c.cfg 32 18) = true →
    let q := fld (plotQual s (fld c.cfg 32 18 / 64)) 15 0
    let v := trdValue c (imgWord s (fld c.cfg 32 18))
    (trdDue n.val s = true → Answers (exec (.trendSample n) s) (fun u => ∃ d, tget none u.svc.trd n.val = some d ∧
      d.samples = (⟨devtime s, v, q, b2n c.gap.isSome * 2⟩ :: c.samples).take (trdSize c) ∧ d.next = (c.next + 1) % 2 ^ 48 ∧ d.gap = none)) ∧
    (trdOnChange n.val s = true → trdDiffers c (imgWord s (fld c.cfg 32 18)) = true →
      Answers (exec (.trendChangeCheck n) s) (fun u => ∃ d, tget none u.svc.trd n.val = some d ∧
        d.samples = (⟨devtime s, v, q, 1 + b2n c.gap.isSome * 2⟩ :: c.samples).take (trdSize c) ∧ d.next = (c.next + 1) % 2 ^ 48)) ∧
    (trdOnChange n.val s = true → trdDiffers c (imgWord s (fld c.cfg 32 18)) = false →
      Answers (exec (.trendChangeCheck n) s) (fun u => ∃ d, tget none u.svc.trd n.val = some d ∧ d.samples = c.samples ∧ d.next = c.next)))

/-- 09 R242 to R246: meters add each 100 ms to their open record, which closes into the ring at the end of its interval and is saved;
access points decide on each new presentation, and their pulses end. -/
def Obligations.MetersAndAccessPoints : Prop :=
  (∀ (m : Nat) (x : Mtr) (o : EnOpen) (s : State), s.ovl.units = [] → serving s = true → (s.svc.mtr.map (·.1)).Nodup →
    tget none s.svc.mtr m = some x → x.rec_ = some o → setSystem s s.ovl.set = s.svc.sysCode →
    let i := svcRead s (fld x.cfg 47 43) (fld x.cfg 39 25)
    Answers (exec .meterSample s) (fun u => ∃ y, tget none u.svc.mtr m = some y ∧ ∃ r, y.rec_ = some r ∧ r.num = o.num ∧ r.start = o.start ∧
      r.steps = o.steps + 1 ∧
      (i.bad = true → r.flags = o.flags ||| 8 ∧ r.imp = o.imp ∧ r.exp = o.exp) ∧
      (i.bad = false → fld x.cfg 41 40 = 2 → r.imp = o.imp + (enPower i.value).toNat ∧ r.exp = o.exp + (-(enPower i.value)).toNat) ∧
      (i.bad = false → fld x.cfg 41 40 = 0 → y.ref0 = some i.value ∧ r.imp = o.imp + (enCount x.ref0 i.value x.scale).1 ∧ r.exp = o.exp))) ∧
  (∀ (m : Fin 64) (x : Mtr) (o : EnOpen) (s : State), s.ovl.units = [] → serving s = true → tget none s.svc.mtr m.val = some x →
    x.rec_ = some o → enDue m.val s = true →
    Answers (exec (.energyIntervalClose m) s) (fun u =>
      u.silo.enRing = (⟨o.num, o.start, o.steps, m.val, o.sys, o.flags, enRound o.imp % 2 ^ 48, enRound o.exp % 2 ^ 48⟩ :: s.silo.enRing).take 6144 ∧
      (∃ y, tget none u.svc.mtr m.val = some y ∧ ∃ r, y.rec_ = some r ∧ r.num = s.silo.enNext ∧ r.start = wallSec s ∧ r.imp = 0 ∧ r.exp = 0 ∧
        r.steps = 0) ∧ u.silo.enNext = (s.silo.enNext + 1) % 2 ^ 32 ∧
      tget (0, 0) u.silo.enTotal (m.val * 16 + o.sys) = ((tget (0, 0) s.silo.enTotal (m.val * 16 + o.sys)).1 + o.imp,
        (tget (0, 0) s.silo.enTotal (m.val * 16 + o.sys)).2 + o.exp))) ∧
  (∀ (m : Nat) (x : Mtr) (s : State), serving s = true → (s.svc.mtr.map (·.1)).Nodup → tget none s.svc.mtr m = some x →
    Answers (exec .energyAccumSave s) (fun u => tget none u.silo.enSaved m = x.rec_ ∧ u.svc = s.svc)) ∧
  (∀ (n : Fin 256) (a : AccPt) (s : State), s.ovl.units = [] → serving s = true → tget none s.svc.acc n.val = some a →
    let t := fld a.cfg 47 43
    let i := svcRead s t (fld a.cfg 37 23)
    let w := fld a.cfg 22 8
    i.blind = false → a.pres ≠ some (fld i.value 7 0) →
    (accReason s t a i = 0 → inPlot s 0 t w = true → tget none s.task.force w = none →
      Answers (exec (.accessDecision n) s) (fun u => (∃ b, tget none u.svc.acc n.val = some b ∧ b.pres = some (fld i.value 7 0) ∧
          b.grant = some (s.clk + fld a.tim 47 32 * 1000000)) ∧
        imgWord u w = setBit (imgWord s w) (fld a.cfg 7 2) true ∧ ∀ x, x ≠ w → imgWord u x = imgWord s x)) ∧
    (accReason s t a i ≠ 0 → bit a.tim 25 = false →
      Answers (exec (.accessDecision n) s) (fun u => (∃ b, tget none u.svc.acc n.val = some b ∧ b.pres = some (fld i.value 7 0) ∧
          b.grant = a.grant) ∧ u.img.word = s.img.word))) ∧
  (∀ (n : Fin 256) (d : Bool) (a : AccPt) (l : Nat) (s : State), serving s = true → tget none s.svc.acc n.val = some a →
    (if d then a.deny else a.grant) = some l → l ≤ s.clk →
    let t := fld a.cfg 47 43
    let w := fld a.cfg 22 8
    running s t = true → inPlot s 0 t w = true → tget none s.task.force w = none →
    Answers (exec (.accessPulseEnd n d) s) (fun u =>
      tget none u.svc.acc n.val = some (if d then { a with deny := none } else { a with grant := none }) ∧
      imgWord u w = setBit (imgWord s w) (if d then fld a.tim 31 26 else fld a.cfg 7 2) false ∧ ∀ x, x ≠ w → imgWord u x = imgWord s x))

/-- 09 R228 to R241, R246: quotas, calendars, programmes, alarms, trend channels, meters and access points are configured as their
requests say, at both levels. -/
def Obligations.ServiceObjectsAreConfigured : Prop :=
  (∀ (ch : Fin 16) (n : Byte) (q : Word) (s : State), tenantOf s ch = 0 → Changes s → n.toNat < 32 →
    (∀ f ∈ quotaFields, fld q f.1 f.2.1 ≤ f.2.2.2) → (∀ e ∈ (svcUse s n.toNat).zip (quotas q), e.1 ≤ e.2) →
    (∀ f ∈ quotaFields, ((List.range 32).map (fun k => fld (wget (wput n.toNat q s.svc.quota) k) f.1 f.2.1)).sum ≤ f.2.2.2) →
    MbDone .mbSvcQuotaSet ch (n :: wB q) s (fun t => wget t.svc.quota n.toNat = q ∧ ∀ m, m ≠ n.toNat → wget t.svc.quota m = wget s.svc.quota m)) ∧
  (∀ (ch : Fin 16) (k : Byte) (es : List CalEnt) (s : State), Changes s → k.toNat < 2 → es.length ≤ 64 →
    let enc := fun (e : CalEnt) => [BitVec.ofNat 8 e.kind] ++ toBe 2 e.year ++ [BitVec.ofNat 8 e.month, BitVec.ofNat 8 e.day] ++ toBe 2 e.days ++
      [BitVec.ofNat 8 e.dayType]
    (∀ e ∈ es, calEntry (enc e) = some e) →
    MbDone .mbCalSet ch ([k, BitVec.ofNat 8 es.length] ++ es.flatMap enc) s (fun t =>
      tget [] t.svc.cal (tenantOf s ch * 2 + k.toNat) = es ∧
      ∀ m, m ≠ tenantOf s ch * 2 + k.toNat → tget [] t.svc.cal m = tget [] s.svc.cal m)) ∧
  (∀ (ch : Fin 16) (n rd : Nat) (w : Word) (pts : List (List (Nat × Word))) (s : State), Changes s →
    objOwn Wpg.cfg 512 s.svc.wpg (tenantOf s ch) n = true → rd < 2 ^ 32 → pts.length = 15 →
    (∀ b ∈ pts, b.length = 8 ∧ ∀ x ∈ b, minOk x.1 = true) →
    let cfg := setBit (setFld (w &&& 0xFFFFFFFE0000#48) 47 43 (tenantOf s ch)) 42 true
    fld cfg 38 33 < 48 → (bit cfg 17 = true → svcOutOk s (tenantOf s ch) (2, n) (fld cfg 32 18) (wpgLanes cfg) = true) →
    (∀ g : Wpg, g.cfg = cfg → quotaOk { s with svc := { s.svc with wpg := tput none n (some g) s.svc.wpg } } (tenantOf s ch) = true) →
    MbDone .mbWpgSet ch (toBe 2 n ++ [1#8] ++ wB w ++ toBe 4 rd ++ pts.flatMap (fun b => b.flatMap (fun x => toBe 2 x.1 ++ wB x.2))) s (fun t =>
      ∃ g, tget none t.svc.wpg n = some g ∧ g.cfg = cfg ∧ g.read = rd ∧ g.points = pts.map (fun b => b.filter (fun x => x.1 != 0xFFFF)))) ∧
  (∀ (ch : Fin 16) (n o : Nat) (k lane h c : Byte) (wk re : List Nat) (s : State), Changes s →
    objOwn Wpg.cfg 512 s.svc.wpg (tenantOf s ch) n = true → o < 20480 → k.toNat ≤ 1 → lane.toNat < 48 → h.toNat ≤ 1 → c.toNat ≤ 1 →
    wk.length = 8 → re.length = 8 → (∀ m ∈ wk ++ re, minOk m = true) →
    let cfg := wd (tenantOf s ch * 2 ^ 43 + k.toNat * 2 ^ 41 + h.toNat * 2 ^ 40 + c.toNat * 2 ^ 39 + lane.toNat * 2 ^ 33 + o * 2 ^ 18 + 2 ^ 17)
    svcOutOk s (tenantOf s ch) (2, n) o (wpgLanes cfg) = true →
    (∀ g : Wpg, g.cfg = cfg → quotaOk { s with svc := { s.svc with wpg := tput none n (some g) s.svc.wpg } } (tenantOf s ch) = true) →
    MbDone .mbWpgSet ch (toBe 2 n ++ [0#8] ++ toBe 2 o ++ [k, lane, h, c] ++ wk.flatMap (toBe 2) ++ re.flatMap (toBe 2)) s (fun t =>
      ∃ g, tget none t.svc.wpg n = some g ∧ g.cfg = cfg ∧ g.read = 0 ∧
        ∃ on, (k.toNat = 1 → on = 1#48) ∧ g.points = List.replicate 5 (pairPoints on wk) ++ List.replicate 10 (pairPoints on re))) ∧
  (∀ (ch : Fin 16) (n rd : Nat) (w lim hys : Word) (s : State), Changes s → objOwn Alm.cfg 8192 s.svc.alm (tenantOf s ch) n = true → rd < 2 ^ 32 →
    let cfg := setBit (setFld (w &&& 0xFFFFFFFFFF80#48) 47 43 (tenantOf s ch)) 42 true
    mayRead s (tenantOf s ch) (fld cfg 31 17) = true → (fld cfg 41 40 ≠ 0 ∨ fld cfg 37 32 < 48) →
    (∀ a : Alm, a.cfg = cfg → quotaOk (putAlm n a s) (tenantOf s ch) = true) →
    MbDone .mbAlmSet ch (toBe 2 n ++ [1#8] ++ wB w ++ wB lim ++ wB hys ++ toBe 4 rd) s (fun t => ∃ a, tget none t.svc.alm n = some a ∧
      a.cfg = cfg ∧ a.lim = lim ∧ a.hys = hys ∧ a.read = rd ∧ ∀ b, tget none s.svc.alm n = some b → a.active = b.active ∧ a.trn = b.trn)) ∧
  (∀ (ch : Fin 16) (n o : Nat) (k lane prio : Byte) (lim : Word) (s : State), Changes s →
    objOwn Alm.cfg 8192 s.svc.alm (tenantOf s ch) n = true → k.toNat ≤ 3 → prio.toNat ≤ 3 → (k.toNat = 0 → lane.toNat < 48) →
    mayRead s (tenantOf s ch) o = true →
    let cfg := wd (tenantOf s ch * 2 ^ 43 + k.toNat * 2 ^ 40 + prio.toNat * 2 ^ 38 + lane.toNat % 64 * 2 ^ 32 + o * 2 ^ 17)
    (∀ a : Alm, a.cfg = cfg → quotaOk (putAlm n a s) (tenantOf s ch) = true) →
    MbDone .mbAlmSet ch (toBe 2 n ++ [0#8, k] ++ toBe 2 o ++ [lane] ++ wB lim ++ [prio]) s (fun t => ∃ a, tget none t.svc.alm n = some a ∧
      a.cfg = cfg ∧ a.lim = lim ∧ a.read = 0)) ∧
  (∀ (ch : Fin 16) (n : Nat) (w ring db : Word) (s : State), Changes s → objOwn Trd.cfg 4096 s.svc.trd (tenantOf s ch) n = true →
    let cfg := setBit (setFld w 47 43 (tenantOf s ch)) 42 true
    let r := setBit ring 47 false
    mayRead s (tenantOf s ch) (fld cfg 32 18) = true → 1 ≤ fld cfg 17 0 → fld cfg 17 0 ≤ 216000 → fld cfg 41 40 ≤ 2 → 1 ≤ fld r 46 32 →
    fld r 46 32 ≤ 16384 → (bit cfg 39 = true → fld cfg 38 33 < 48) →
    (∀ c : Trd, c.cfg = cfg → c.ring = r → quotaOk (putTrd n c s) (tenantOf s ch) = true) →
    MbDone .mbTrdSet ch (toBe 2 n ++ [1#8] ++ wB w ++ wB ring ++ wB db) s (fun t => ∃ c, tget none t.svc.trd n = some c ∧ c.cfg = cfg ∧
      c.ring = r ∧ c.db = db)) ∧
  (∀ (ch : Fin 16) (n : Byte) (rd : Nat) (w scale : Word) (s : State), tenantOf s ch = 0 → Changes s → n.toNat < 64 → rd < 2 ^ 32 →
    let cfg := setBit (w &&& 0xFFFFFF800000#48) 42 true
    fld cfg 41 40 ≤ 2 → mayRead s (objTenant cfg) (fld cfg 39 25) = true →
    (fld cfg 41 40 = 1 → mayRead s (objTenant cfg) (fld cfg 39 25 + 1) = true) →
    MbDone .mbEnSet ch ([n, 1#8] ++ wB w ++ wB scale ++ toBe 4 rd) s (fun t => ∃ x, tget none t.svc.mtr n.toNat = some x ∧ x.cfg = cfg ∧
      x.scale = scale ∧ x.read = rd ∧ (tget none s.svc.mtr n.toNat = none → x.rec_.isSome = true))) ∧
  (∀ (ch : Fin 16) (n : Byte) (w tim : Word) (s : State), Changes s → objOwn AccPt.cfg 256 s.svc.acc (tenantOf s ch) n.toNat = true →
    let cfg := setBit (setFld (w &&& 0xFFFFFFFFFFFC#48) 47 43 (tenantOf s ch)) 42 true
    let m := tim &&& 0xFFFFFE000000#48
    mayRead s (tenantOf s ch) (fld cfg 37 23) = true → fld cfg 7 2 < 48 → 100 ≤ fld m 47 32 → fld m 47 32 ≤ 60000 →
    (bit m 25 = true → fld m 31 26 < 48) → svcOutOk s (tenantOf s ch) (6, n.toNat) (fld cfg 22 8) (accLanes cfg m) = true →
    (∀ a : AccPt, a.cfg = cfg → quotaOk (putAcc n.toNat a s) (tenantOf s ch) = true) →
    MbDone .mbAccSet ch ([n, 1#8] ++ wB w ++ wB tim) s (fun t => ∃ a, tget none t.svc.acc n.toNat = some a ∧ a.cfg = cfg ∧ a.tim = m))

/-- 09 R238 to R247: objects are listed and read by those who may; alarms are acknowledged and shelved; energy and access lists are set
and read, and local time takes its offset. -/
def Obligations.ServicesAreReadAndOperated : Prop :=
  (∀ (ch : Fin 16) (a : Nat) (k : Byte) (s : State), 1 ≤ k.toNat → k.toNat ≤ 7 → a < 2 ^ 16 →
    let os := ((svcObjects s k.toNat).filter (fun o => decide (a ≤ o.1) &&
      (tenantOf s ch == 0 || o.2.1 == tenantOf s ch || o.2.2.2.testBit (tenantOf s ch)))).take 256
    MbGives .mbSvcList ch (k :: toBe 2 a) s (· = toBe 2 os.length ++ os.flatMap (fun o => toBe 2 o.1 ++ toBe 1 o.2.1 ++ wB o.2.2.1))
      (fun t => t.svc = s.svc)) ∧
  (∀ (ch : Fin 16) (n : Byte) (o : Int) (s : State), tenantOf s ch = 0 → Changes s → n.toNat < 32 → -720 ≤ o → o ≤ 840 →
    MbDone .mbLocalSet ch (n :: toBe 2 (umod 16 o)) s (fun t => tget 0 t.svc.ofs n.toNat = o ∧
      ∀ m, m ≠ n.toNat → tget 0 t.svc.ofs m = tget 0 s.svc.ofs m)) ∧
  (∀ (ch : Fin 16) (n : Nat) (g : Wpg) (s : State), NotCarried s ch → n < 512 → tget none s.svc.wpg n = some g →
    (objTenant g.cfg = tenantOf s ch ∨ g.read.testBit (tenantOf s ch) = true) →
    MbReads .mbWpgGet ch (toBe 2 n) s (wB g.cfg ++ wB g.value ++ toBe 6 g.lastAt)) ∧
  (∀ (ch : Fin 16) (first : Nat) (k : Byte) (s : State), NotCarried s ch → first < 2 ^ 16 → k.toNat ≤ 1 →
    let t := tenantOf s ch
    let as := ((s.svc.alm.filterMap (fun e => e.2.map (fun a => (e.1, a)))).filter (fun e => decide (first ≤ e.1) &&
      (objTenant e.2.cfg == t || e.2.read.testBit t) && (k == 0#8 || e.2.unack.testBit t))).take 200
    MbReads .mbAlmList ch (toBe 2 first ++ [k]) s (toBe 2 as.length ++ as.flatMap (fun e => toBe 2 e.1 ++ bB e.2.active ++ toBe 2 e.2.trn ++
      toBe 4 e.2.unack ++ toBe 1 (fld e.2.cfg 39 38) ++ toBe 4 (shelvedFor s e.2) ++ toBe 6 e.2.lastAt))) ∧
  (∀ (ch : Fin 16) (n trn : Nat) (a : Alm) (s : State), Changes s → n < 8192 → trn < 65536 → tget none s.svc.alm n = some a →
    (ackSet a).testBit (tenantOf s ch) = true →
    (a.trn = trn → MbGives .mbAlmAck ch ([1#8] ++ toBe 2 n ++ toBe 2 trn) s (· = toBe 2 0) (fun t => ∃ b, tget none t.svc.alm n = some b ∧
      b.unack.testBit (tenantOf s ch) = false ∧ b.active = a.active ∧ ∀ k, k ≠ tenantOf s ch → b.unack.testBit k = a.unack.testBit k)) ∧
    (a.trn ≠ trn → MbGives .mbAlmAck ch ([1#8] ++ toBe 2 n ++ toBe 2 trn) s (· = toBe 2 0x0801) (fun t => t.svc = s.svc))) ∧
  (∀ (ch : Fin 16) (n d : Nat) (a : Alm) (s : State), Changes s → n < 8192 → d ≤ 86400 → tget none s.svc.alm n = some a →
    objTenant a.cfg = tenantOf s ch →
    MbDone .mbAlmShelve ch (toBe 2 n ++ toBe 4 d) s (fun t =>
      tget none t.svc.alm n = some { a with shelved := if d = 0 then none else some (s.clk + d * 1000000000) })) ∧
  (∀ (ch : Fin 16) (n first k : Nat) (c : Trd) (s : State), NotCarried s ch → n < 4096 → first < 2 ^ 48 → 1 ≤ k → k ≤ 250 →
    tget none s.svc.trd n = some c → (objTenant c.cfg = tenantOf s ch ∨ bit c.ring (tenantOf s ch) = true) →
    let oldest := (c.next + 2 ^ 48 - c.samples.length) % 2 ^ 48
    MbReads .mbTrdRead ch (toBe 2 n ++ toBe 6 first ++ toBe 2 k) s (toBe 6 oldest ++ toBe 6 (devtime s) ++ toBe 6 (wallSec s) ++
      toBe 6 (wallSub s) ++ ((c.samples.reverse.drop (first - oldest)).take k).flatMap
        (fun x => toBe 6 x.dt ++ wB x.value ++ toBe 2 x.qual ++ toBe 2 x.flags))) ∧
  (∀ (ch : Fin 16) (first k : Nat) (s : State), NotCarried s ch → first < 2 ^ 32 → 1 ≤ k → k ≤ 130 → s.silo.soft = [] → s.silo.hard = [] →
    MbReads .mbEnRead ch (toBe 4 first ++ toBe 2 k) s (toBe 4 ((s.silo.enRing.getLast?.map (·.num)).getD s.silo.enNext) ++
      (s.silo.enRing.reverse.filter (fun r => decide ((r.num + 2 ^ 32 - first) % 2 ^ 32 < k) &&
        enMayRead s (tenantOf s ch) r.meter r.sys)).flatMap enBytes)) ∧
  (∀ (ch : Fin 16) (k m : Nat) (s : State), tenantOf s ch = 0 → Changes s → k < 16 → m < 2 ^ 32 →
    MbDone .mbEnSysSet ch (toBe 1 k ++ toBe 4 m) s (fun t => wget t.svc.sys k = wd m ∧ ∀ j, j ≠ k → wget t.svc.sys j = wget s.svc.sys j)) ∧
  (∀ (ch : Fin 16) (m : Byte) (x : Mtr) (s : State), NotCarried s ch → tget none s.svc.mtr m.toNat = some x → objTenant x.cfg = tenantOf s ch →
    MbReads .mbEnTotals ch [m] s ((List.range 16).flatMap (fun k =>
      toBe 6 (enRound (tget (0, 0) s.silo.enTotal (m.toNat * 16 + k)).1) ++ toBe 6 (enRound (tget (0, 0) s.silo.enTotal (m.toNat * 16 + k)).2)))) ∧
  (∀ (ch : Fin 16) (es : List (Nat × AccEnt)) (s : State), Changes s → 1 ≤ es.length → es.length ≤ 200 → (es.map (·.1)).Nodup →
    (∀ e ∈ es, e.1 < 2 ^ 32 ∧ e.2.groups < 2 ^ 16 ∧ e.2.validTo < 2 ^ 48 ∧ ∀ w l, e.2.prog = some (w, l) → w < 512 ∧ l < 48) →
    quotaOk { s with svc := { s.svc with list := es.foldl (fun l e => tput none (accKey (tenantOf s ch) e.1) (some e.2) l) s.svc.list } }
      (tenantOf s ch) = true →
    MbDone .mbAccListPut ch (toBe 2 es.length ++ es.flatMap (fun e => toBe 4 e.1 ++ toBe 2 e.2.groups ++
      (match e.2.prog with | none => toBe 2 0xFFFF ++ [0#8] | some (w, l) => toBe 2 w ++ [BitVec.ofNat 8 l]) ++ toBe 6 e.2.validTo)) s (fun t =>
      ∀ e ∈ es, tget none t.svc.list (accKey (tenantOf s ch) e.1) = some e.2)) ∧
  (∀ (ch : Fin 16) (ids : List Nat) (s : State), Changes s → 1 ≤ ids.length → ids.length ≤ 1000 → (∀ i ∈ ids, i < 2 ^ 32) →
    MbGives .mbAccListDel ch (toBe 2 ids.length ++ ids.flatMap (toBe 4)) s (fun _ => True) (fun t =>
      (getChan t ch.val).result = some (0x0000, toBe 2 (listCount s (tenantOf s ch) - listCount t (tenantOf s ch))) ∧
      (∀ i ∈ ids, tget none t.svc.list (accKey (tenantOf s ch) i) = none) ∧
      ∀ k, (∀ i ∈ ids, k ≠ accKey (tenantOf s ch) i) → tget none t.svc.list k = tget none s.svc.list k))

/-! ### Field I/O (10) -/

/-- 10 R251 to R256, R260, R261, 15 R370: frames carry the commands to the dies, a die that serves applies them, reports fill their
lanes, silence drives the safe states, and a die whose gate stops or whose supply is low has nothing on. -/
def Obligations.FieldDiesServe : Prop :=
  (∀ (d : Fin 4) (s : State), s.ovl.units = [] → fioRuns s = true → s.task.dev ≠ 4 →
    Answers (exec (.fioOutputFrame d) s) (fun t => (getDie t d.val).sentAt = absNow s ∧ (getDie t d.val).sentCfg = fioCfgOf s d.val ∧
      (∀ n ∈ dieChans d.val, (getDie t d.val).sentFc.getLsbD n = (fcIsOut (getFc s n).cfg && bit (fioCommand s (fioOutWord s) 0) n)) ∧
      (d.val = 3 → (getDie t 3).sentAo = (List.range 4).map (fun n => aoClamp (getAo s n).cfg (fioCommand s (fioAoWord s) n))) ∧
      t.img = s.img)) ∧
  (∀ (d : Fin 4) (s : State), exec (.dieFrameReceived d false) s = .next s) ∧
  (∀ (d : Fin 4) (s : State), (getDie s d.val).silent = false → silenceDue s d.val = false →
    Answers (exec (.dieFrameReceived d true) s) (fun t => (getDie t d.val).frameAt = absNow s ∧ (getDie t d.val).silent = false ∧
      (getDie t d.val).serves = ((getDie s d.val).serves || (getDie s d.val).gateStop.isNone) ∧
      ∀ n ∈ dieChans d.val, (getFc t n).live = (getDie s d.val).sentCfg.fc.getD (n % 16) 0#48 ∧ (getFc t n).cmd = (getDie s d.val).sentFc.getLsbD n ∧
        (fcMODE (getFc s n).live = 3 → fcMODE ((getDie s d.val).sentCfg.fc.getD (n % 16) 0#48) = 3 → (getFc t n).on = ((getDie s d.val).sentFc.getLsbD n &&
          !(getFc s n).ovl && !(getFc s n).therm && !grpBlocked t (n / 4))))) ∧
  (∀ (d : Fin 4) (s : State), (getDie s d.val).silent = true → (getDie s d.val).sentArm = true →
    Answers (exec (.dieFrameReceived d true) s) (fun t => (getDie t d.val).silent = false ∧ (getDie t d.val).fresh = false ∧
      (getDie t d.val).frameAt = absNow s)) ∧
  (∀ (g : Fin 8) (s : State), fioRuns s = true → ownBuffer s = false → fioInWord s < 20480 → inPlot s 1 0 (fioInWord s) = true → fioInWord s ≠ fioDiagWord s →
    tget none s.task.force (fioInWord s) = none →
    Answers (exec (.fioInputReport (.group g)) s) (fun t => (getDie t (g.val / 4)).reportAt = absNow s ∧ (getDie t (g.val / 4)).lost = false ∧
      ∀ l, l < 48 → bit (imgWord t (fioInWord s)) l = if l / 4 = g.val then inLane s l else bit (imgWord s (fioInWord s)) l)) ∧
  (∀ (n : Fin 4) (s : State), fioRuns s = true → ownBuffer s = false → fioAiWord s + n.val < 20480 → fioAiWord s + n.val ≠ fioDiagWord s →
    inPlot s 1 0 (fioAiWord s + n.val) = true →
    tget none s.task.force (fioAiWord s + n.val) = none →
    Answers (exec (.fioInputReport (.ai n)) s) (fun t => imgWord t (fioAiWord s + n.val) = (getAi s n.val).word)) ∧
  (∀ (n : Fin 4) (m : Word) (s : State), fioRuns s = true → ownBuffer s = false → fioAomWord s + n.val < 20480 →
    fioAomWord s + n.val ≠ fioDiagWord s → inPlot s 1 0 (fioAomWord s + n.val) = true → tget none s.task.force (fioAomWord s + n.val) = none →
    Answers (exec (.fioInputReport (.ao n m)) s) (fun t => imgWord t (fioAomWord s + n.val) = m ∧ (getAo t n.val).meas = m)) ∧
  (∀ (d : Fin 4) (s : State), fioRuns s = true → (getDie s d.val).lost = false → (getDie s d.val).reportAt + 2000000 ≤ absNow s →
    Answers (exec (.dieReportTimeout d) s) (fun t => (getDie t d.val).lost = true)) ∧
  (∀ (d : Fin 4) (s : State), silenceDue s d.val = true →
    Answers (exec (.silenceExpiry d) s) (fun t => (getDie t d.val).silent = true ∧
      (∀ n ∈ dieChans d.val, (getFc t n).cmd = (fcIsOut (getFc s n).live && fcSafe (getFc s n).live (getFc s n).cmd)) ∧
      (d.val = 3 → ∀ n, n < 4 → (getAo t n).cmd = aoSafe (getAo s n).live (getAo s n).cmd))) ∧
  (∀ (d : Fin 4) (l : Nat) (s : State), (getDie s d.val).gateStop = some l → (getDie s d.val).serves = true → l + 3000 ≤ absNow s →
    Answers (exec (.serveGateLoss d) s) (fun t => (getDie t d.val).serves = false ∧
      ∀ n ∈ dieChans d.val, fcIsOut (getFc s n).live = true → (getFc t n).on = false)) ∧
  (∀ (k : Fin 10) (low : Bool) (s : State), supplyLow s k.val ≠ low →
    Answers (exec (.fieldSupplyUv k low) s) (fun t => supplyLow t k.val = low ∧
      (low = true → k.val < 8 → ∀ n ∈ grpChans k.val, fcIsOut (getFc s n).live = true → (getFc t n).on = false)))

/-- 10 R255 to R267: inputs are accepted and watched, outputs turn off at overload and come back at a retry, bank groups trip and retry, and
analog channels, tooth sensors and mains inputs report their values and faults. -/
def Obligations.FieldChannelsReport : Prop :=
  (∀ (n : Fin 32) (v : Bool) (s : State), fcIsIn (getFc s n.val).live = true → (getFc s n.val).input ≠ v →
    Answers (exec (.inputFilterAccept n v) s) (fun t => (getFc t n.val).input = v ∧ (getFc t n.val).edges = ((getFc s n.val).edges + 1) % 65536 ∧
      ((if v then bit (getFc s n.val).live 42 else bit (getFc s n.val).live 43) = true → bit (evtSrc s n.val) 22 = true →
        evtPending t n.val = true) ∧ ∀ m, m ≠ n.val → getFc t m = getFc s m)) ∧
  (∀ (n : Fin 32) (b : Bool) (s : State), fcIsIn (getFc s n.val).live = true → bit (getFc s n.val).live 41 = true → (getFc s n.val).wb ≠ b →
    Answers (exec (.wireBreakChange n b) s) (fun t => (getFc t n.val).wb = b ∧
      (getFc t n.val).faults = (if b then min 65535 ((getFc s n.val).faults + 1) else (getFc s n.val).faults))) ∧
  (∀ (n : Fin 32) (th : Bool) (s : State), fcMODE (getFc s n.val).live = 3 → (getFc s n.val).on = true →
    Answers (exec (.outputOverload n th) s) (fun t => (getFc t n.val).on = false ∧ (getFc t n.val).ovl = ((getFc s n.val).ovl || !th) ∧
      (getFc t n.val).therm = ((getFc s n.val).therm || th) ∧ (getFc t n.val).faultAt = absNow s ∧
      (getFc t n.val).faults = min 65535 ((getFc s n.val).faults + 1))) ∧
  (∀ (n : Fin 32) (ok : Bool) (s : State),
    let c := getFc s n.val
    fcMODE c.live = 3 → c.cmd = true → (c.ovl = true ∨ c.therm = true) → grpBlocked s (n.val / 4) = false → c.faultAt + 100000000 ≤ absNow s →
    Answers (exec (.outputRetry n ok) s) (fun t =>
      (ok = true → (getFc t n.val).on = true ∧ (getFc t n.val).ovl = false ∧ (getFc t n.val).therm = false) ∧
      (ok = false → (getFc t n.val).on = c.on ∧ (getFc t n.val).ovl = c.ovl ∧ (getFc t n.val).faultAt = absNow s))) ∧
  (∀ (n : Fin 32) (o : Bool) (s : State), fcMODE (getFc s n.val).live = 3 → bit (getFc s n.val).live 22 = true →
    (getDie s (n.val / 16)).serves = true → (getFc s n.val).opn ≠ o →
    Answers (exec (.openLoadDetect n o) s) (fun t => (getFc t n.val).opn = o ∧ (getFc t n.val).on = (getFc s n.val).on)) ∧
  (∀ (n : Fin 32) (s : State),
    let c := getFc s n.val
    fcIsBank c.live = true → c.on = true → c.hold = false → fld c.live 20 13 ≠ 0 → c.granted + fld c.live 20 13 * 1000000 ≤ absNow s →
    exec (.peakPhaseEnd n) s = .next (updFc n.val (fun c => { c with hold := true }) s)) ∧
  (∀ (g : Fin 8) (s : State), grpOn s g.val ≠ 0 → (getGrp s g.val).trip = false →
    Answers (exec (.groupOverloadTrip g) s) (fun t => (getGrp t g.val).trip = true ∧ (getGrp t g.val).tripAt = absNow s ∧
      ∀ n ∈ grpChans g.val, fcIsBank (getFc s n).live = true → (getFc t n).on = false)) ∧
  (∀ (g : Fin 8) (s : State), (getGrp s g.val).trip = true → (getGrp s g.val).tries < 3 → (getGrp s g.val).tripAt + 1000000000 ≤ absNow s →
    Answers (exec (.groupRetry g) s) (fun t => (getGrp t g.val).trip = false ∧ (getGrp t g.val).tries = (getGrp s g.val).tries + 1)) ∧
  (∀ (n : Fin 4) (raw : Word) (s : State), fioRuns s = true → fld (getAi s n.val).live 47 46 ≠ 0 →
    Answers (exec (.aiSample n raw) s) (fun t => (getAi t n.val).raw = raw ∧
      (fld (getAi s n.val).live 43 30 = 0 → bit (getAi s n.val).live 44 = false →
        (getAi t n.val).word = aiClamp (getAi s n.val).live raw) ∧
      (aiOut (getAi s n.val).live raw = true → (getAi t n.val).fault = true))) ∧
  (∀ (n : Fin 4) (m : Word) (s : State), (getDie s 3).serves = true →
    ((getAo s n.val).low = false → m.toInt * 10 + 2 ^ 32 < (aoDrive s n.val).toInt * 10 →
      Answers (exec (.aoLoopFault n .loopLow true m) s) (fun t => (getAo t n.val).low = true ∧ (getAo t n.val).meas = m)) ∧
    ((getAo s n.val).opn = false → m.toInt * 10 < 2 ^ 32 → (mA 36).toInt ≤ (aoDrive s n.val).toInt →
      Answers (exec (.aoLoopFault n .openLoop true m) s) (fun t => (getAo t n.val).opn = true ∧ (getAo t n.val).meas = m))) ∧
  (∀ (n : Fin 4) (f : Bool) (s : State), tget false s.fio.twFault n.val ≠ f →
    Answers (exec (.twSensorFault n f) s) (fun t => tget false t.fio.twFault n.val = f ∧ t.tb = s.tb)) ∧
  (∀ (m : Fin 2) (s : State), fioRuns s = true → (∀ l, tget none s.fio.overAt m.val = some l → l + 1000000000 ≤ absNow s) →
    exec (.mainsOverRange m) s = .next (gln 0x0931 3 0 (m.val : Nat) 1
      { s with fio := { s.fio with overAt := tput none m.val (some (absNow s)) s.fio.overAt } }))

/-- 10 R252, R254, R258, R268 to R270 and Table 10-13: T0 maps the blocks and sets the channels, groups, dies and tooth sensors; the
states are read by those who may read DIAG_WORD, and deferrals and trips are cleared. -/
def Obligations.FieldCommands : Prop :=
  (∀ (ch : Fin 16) (a b : Word) (s : State), tenantOf s ch = 0 → Changes s →
    let m0 := a &&& 0xFFFFFFFFFFF8#48
    let m1 := b &&& 0xFFFFFFFFFFF8#48
    fioBlockOk s 1 (fld m0 47 33) 1 = true → fioBlockOk s 1 (fld m0 32 18) 1 = true → fioBlockOk s 0 (fld m0 17 3) 1 = true →
    fioBlockOk s 1 (fld m1 47 33) 4 = true → fioBlockOk s 0 (fld m1 32 18) 4 = true → fioBlockOk s 1 (fld m1 17 3) 4 = true →
    fioDisjoint ([(fld m0 47 33, 1), (fld m0 32 18, 1), (fld m0 17 3, 1), (fld m1 47 33, 4), (fld m1 32 18, 4), (fld m1 17 3, 4)].filter
      (fun b => b.1 != 0x7FFF)) = true →
    MbDone .mbFioMapSet ch (wB a ++ wB b) s (fun t => t.fio.map0 = m0 ∧ t.fio.map1 = m1 ∧ t.fio.fc = s.fio.fc)) ∧
  (∀ (ch : Fin 16) (n : Byte) (w : Word) (s : State), tenantOf s ch = 0 → Changes s → n.toNat < 32 →
    let v := setBit (w &&& 0xFFFFFFFFFFC0#48) 44 true
    (fcMODE v = fcMODE (getFc s n.toNat).cfg ∨ devMode s = 1) → fcCfgOk v = true → fcGroupOk s n.toNat v = true →
    MbDone .mbFcSet ch ([n, 1#8] ++ wB w) s (fun t => (getFc t n.toNat).cfg = v ∧ (getFc t n.toNat).live = (getFc s n.toNat).live ∧
      ∀ m, m ≠ n.toNat → getFc t m = getFc s m)) ∧
  (∀ (ch : Fin 16) (n m : Byte) (s : State), tenantOf s ch = 0 → Changes s → n.toNat < 32 → m.toNat ≤ 4 →
    (fcMODE (fcBasic m.toNat) = fcMODE (getFc s n.toNat).cfg ∨ devMode s = 1) → fcGroupOk s n.toNat (fcBasic m.toNat) = true →
    MbDone .mbFcSet ch [n, 0#8, m] s (fun t => (getFc t n.toNat).cfg = fcBasic m.toNat)) ∧
  (∀ (ch : Fin 16) (g : Byte) (w : Word) (s : State), tenantOf s ch = 0 → Changes s → g.toNat < 8 → 1 ≤ fld w 47 45 → fld w 47 45 ≤ 4 →
    MbDone .mbFcGrpSet ch ([g, 1#8] ++ wB w) s (fun t => (getGrp t g.toNat).cfg = setBit (w &&& 0xE00000000000#48) 44 true) ∧
    MbDone .mbFcGrpSet ch [g, 0#8] s (fun t => fld (getGrp t g.toNat).cfg 47 45 =
      (grpChans g.toNat).countP (fun n => fcIsBank (getFc s n).cfg))) ∧
  (∀ (ch : Fin 16) (d : Byte) (w : Word) (s : State), tenantOf s ch = 0 → Changes s → d.toNat < 4 → 2 ≤ fld w 9 0 → fld w 9 0 ≤ 1000 →
    MbDone .mbFioSilSet ch ([d, 1#8] ++ wB w) s (fun t => (getDie t d.toNat).sil = setBit (w &&& 0x3FF#48) 10 true) ∧
    MbDone .mbFioSilSet ch [d, 0#8] s (fun t => (getDie t d.toNat).sil = 20#48)) ∧
  (∀ (ch : Fin 16) (n : Byte) (w lo hi : Word) (s : State), tenantOf s ch = 0 → Changes s → n.toNat < 4 →
    let v := setBit (w &&& 0xFFFFC0000000#48) 45 true
    (fld v 47 46 = fld (getAi s n.toNat).cfg 47 46 ∨ devMode s = 1) → fld v 47 46 ≤ 2 → fld v 43 30 ≤ 10000 →
    MbDone .mbAiSet ch ([n, 1#8] ++ wB w ++ wB lo ++ wB hi) s (fun t => (getAi t n.toNat).cfg = v ∧ (getAi t n.toNat).lo = lo ∧
      (getAi t n.toNat).hi = hi)) ∧
  (∀ (ch : Fin 16) (n r : Byte) (s : State), tenantOf s ch = 0 → Changes s → n.toNat < 4 → r.toNat ≤ 2 →
    (r.toNat = fld (getAi s n.toNat).cfg 47 46 ∨ devMode s = 1) →
    MbDone .mbAiSet ch [n, 0#8, r] s (fun t => (getAi t n.toNat).cfg = wd (r.toNat * 2 ^ 46))) ∧
  (∀ (ch : Fin 16) (n : Byte) (w : Word) (s : State), tenantOf s ch = 0 → Changes s → n.toNat < 4 →
    let v := setBit (w &&& 0xF80000000000#48) 45 true
    (bit v 46 = true ∨ fld v 44 43 ≤ 1) →
    MbDone .mbAoSet ch ([n, 1#8] ++ wB w) s (fun t => (getAo t n.toNat).cfg = v)) ∧
  (∀ (ch : Fin 16) (n en r : Byte) (s : State), tenantOf s ch = 0 → Changes s → n.toNat < 4 → en.toNat ≤ 1 → r.toNat ≤ 1 →
    MbDone .mbAoSet ch [n, 0#8, en, r] s (fun t => bit (getAo t n.toNat).cfg 47 = decide (en.toNat = 1) ∧
      bit (getAo t n.toNat).cfg 46 = decide (r.toNat = 1) ∧ fld (getAo t n.toNat).cfg 44 43 = 1 + r.toNat)) ∧
  (∀ (ch : Fin 16) (n : Byte) (w : Word) (s : State), tenantOf s ch = 0 → Changes s → n.toNat < 4 →
    let v := setBit (w &&& 0xFFC000000000#48) 45 true
    fld v 47 46 ≤ 1 → 1 ≤ fld v 44 38 → fld v 44 38 ≤ 100 →
    MbDone .mbTwElecSet ch ([n, 1#8] ++ wB w) s (fun t => wget t.fio.tw n.toNat = v)) ∧
  (∀ (ch : Fin 16) (n k : Byte) (s : State), tenantOf s ch = 0 → Changes s → n.toNat < 4 → k.toNat ≤ 1 →
    MbDone .mbTwElecSet ch [n, 0#8, k] s (fun t => wget t.fio.tw n.toNat = wd (k.toNat * 2 ^ 46 + 10 * 2 ^ 38))) ∧
  (∀ (ch : Fin 16) (s : State), NotCarried s ch → (tenantOf s ch = 0 ∨ mayRead s (tenantOf s ch) (fioDiagWord s) = true) →
    MbReads .mbFioStat ch [] s ((List.range 32).flatMap (fun n => wB (fcStat s n)) ++ (List.range 4).flatMap (fun n => wB (getAi s n).x) ++
      (List.range 4).flatMap (fun n => wB (getAo s n).meas) ++ (List.range 4).flatMap (fun d => wB (fioSil s d)))) ∧
  (∀ (ch : Fin 16) (m : Word) (s : State), tenantOf s ch = 0 → Changes s →
    MbDone .mbFioClear ch (wB m) s (fun t =>
      (∀ n, n < 32 → bit m n = true → (getGrp t (n / 4)).trip = false ∧ (getGrp t (n / 4)).tries = 0) ∧
      (∀ n, n < 32 → bit m n = true → (getGrp s (n / 4)).trip = false → (getGrp s (n / 4)).tries = 0 → (getFc t n).defer = false)))

/-! ### The safety channel (11) -/

/-- 11 R272, R278 to R291: an evaluation of either path closes a switch only where every instance that its output names permits, and an
instance with an open input never permits; inputs, pulses, timers, sensors and switch tests act on their path alone. -/
def Obligations.SafetyPathsPermit : Prop :=
  (∀ (rb : SoReadback) (a : SafPath) (s : State), s.saf.state = 5 →
    let p := pathNo a
    Answers (match a with | .processor => exec (.sfcEvaluation rb) s | .hardwired => exec (.hwPathEvaluation rb) s) (fun t => (∀ k, k < 4 → (getPath t p).sw.getLsbD k = switchOk t p k) ∧
      (∀ i, i < 16 → namesInputs (sfInst s i) = true →
        (safClosed s p (siA (sfInst s i)) = false ∨ safClosed s p (siB (sfInst s i)) = false) → (getInst t p i).st ≠ 4) ∧
      t.saf.state = 5 ∧ t.saf.block = s.saf.block)) ∧
  (∀ (a : SafPath) (j : Fin 16) (h : Bool) (s : State), s.saf.state ≠ 0 →
    Answers (exec (.safetyInputAccept a j h) s) (fun t =>
      (getIn t (pathNo a) j.val).high = (if inMasked s j.val then (getIn s (pathNo a) j.val).high else h) ∧
      ∀ p i, (p, i) ≠ (pathNo a, j.val) → getIn t p i = getIn s p i)) ∧
  (∀ (a : SafPath) (k : Fin 4) (low : BitVec 16) (o : Bool) (s : State), tpRuns s = true →
    bit (sfGlob s) (44 + k.val) = true →
    Answers (exec (.testPulse a k low o) s) (fun t => (getPath t (pathNo a)).tpOver.getLsbD k.val = o ∧
      (tpCheck s k.val ≠ 0 → tpCheck s k.val ≠ tget 0 (getPath s (pathNo a)).pulse k.val → ∀ j, j < 16 → pulsedFrom s j k.val = true → (getIn t (pathNo a) j).missed = (if low.getLsbD j then 0 else (getIn s (pathNo a) j).missed + 1)))) ∧
  (∀ (a : SafPath) (i : Fin 16) (s : State),
    let x := getInst s (pathNo a) i.val
    s.saf.state = 5 → x.a ≠ x.b → x.st ≠ 5 →
    (siTYPE (sfInst s i.val) = 3 → sfT1 s i.val * 1000000 < sinceChange s (pathNo a) i.val →
      Answers (exec (.guardDtDiscrepancy a i) s) (fun t => (getInst t (pathNo a) i.val).st = 5 ∧ (getInst t (pathNo a) i.val).cause = 2)) ∧
    (siTYPE (sfInst s i.val) = 4 → sfT2 s i.val * 1000000 < sinceChange s (pathNo a) i.val →
      Answers (exec (.doorLoopDisagree a i) s) (fun t => (getInst t (pathNo a) i.val).st = 5 ∧ (getInst t (pathNo a) i.val).cause = 2))) ∧
  (∀ (a : SafPath) (i : Fin 16) (s : State),
    let x := getInst s (pathNo a) i.val
    s.saf.state = 5 → siTYPE (sfInst s i.val) = 4 → x.st = 1 → x.a = true → x.b = true → testFault s (pathNo a) i.val = false →
    safClosed s (pathNo a) (siA (sfInst s i.val)) = true → safClosed s (pathNo a) (siB (sfInst s i.val)) = true →
    sfT1 s i.val * 1000000 ≤ sinceChange s (pathNo a) i.val →
    Answers (exec (.doorLoopSettle a i) s) (fun t => (getInst t (pathNo a) i.val).st = (if siRstEn (sfInst s i.val) then 3 else 4))) ∧
  (∀ (a : SafPath) (i : Fin 16) (s : State),
    s.saf.state = 5 → siTYPE (sfInst s i.val) = 5 → (getInst s (pathNo a) i.val).st = 4 →
    sfT2 s i.val * 1000000000 ≤ sinceChange s (pathNo a) i.val →
    Answers (exec (.maxHoldExpiry a i) s) (fun t => (getInst t (pathNo a) i.val).st = 1 ∧ (getInst t (pathNo a) i.val).opened = false)) ∧
  (∀ (a : SafPath) (i : Fin 16) (s : State), s.saf.state = 5 → siTYPE (sfInst s i.val) = 6 →
    ((getInst s (pathNo a) i.val).st = 1 → (getInst s (pathNo a) i.val).motion + sfT2 s i.val * 100000000 ≤ absNow s →
      Answers (exec (.standstillDeclare a i) s) (fun t => (getInst t (pathNo a) i.val).st = (if siRstEn (sfInst s i.val) then 3 else 4))) ∧
    ((getInst s (pathNo a) i.val).st ≠ 5 →
      (inRange s 0 = false ∧ (getInst s (pathNo a) i.val).a = false ∧ (getInst s (pathNo a) i.val).aAt + 10000000 ≤ absNow s) ∨
        (inRange s 1 = false ∧ (getInst s (pathNo a) i.val).b = false ∧ (getInst s (pathNo a) i.val).bAt + 10000000 ≤ absNow s) →
      Answers (exec (.safetySensorTimeout a i) s) (fun t => (getInst t (pathNo a) i.val).st = 5 ∧ (getInst t (pathNo a) i.val).cause = 4))) ∧
  (∀ (a : SafPath) (i : Fin 16) (ax : Fin 2) (e : Nat) (s : State), s.saf.state = 5 → siTYPE (sfInst s i.val) = 6 →
    (getInst s (pathNo a) i.val).st ≠ 5 →
    let own := tget {} (getPath s (pathNo a)).axle ax.val
    own.edge = some e → absNow s < e + sfT2 s i.val * 100000000 → own.moved.getLsbD i.val = true → (getPath s (pathNo a)).runAt + 10000000000 ≤ absNow s →
    (∀ f, (tget {} (getPath s (pathNo a)).axle (1 - ax.val)).edge = some f → f + 10000000000 ≤ absNow s) →
    Answers (exec (.axleDisagreement a i ax) s) (fun t => (getInst t (pathNo a) i.val).st = 5 ∧ (getInst t (pathNo a) i.val).cause = 5)) ∧
  (∀ (a : SafPath) (k : Fin 4) (s : State), s.saf.state = 5 → tget 0 s.saf.fkind k.val = 0 → testDue s (pathNo a) k.val = true →
    Answers (exec (.soSwitchTest a k true) s) (fun t => t.saf.fkind = s.saf.fkind ∧ (∀ j, j < 4 →
      (getPath t (pathNo a)).sw.getLsbD j = switchOk s (pathNo a) j) ∧ tget none (getPath t (pathNo a)).testAt k.val = some (absNow s)) ∧
    Answers (exec (.soSwitchTest a k false) s) (fun t => tget 0 t.saf.fkind k.val = 1 ∧ (getPath t 0).sw.getLsbD k.val = false ∧
      (getPath t 1).sw.getLsbD k.val = false)) ∧
  (∀ (a : SafPath) (k : Fin 4) (s : State),
    Answers (exec (.gateDriveStop a k) s) (fun t => (getPath t (pathNo a)).sw.getLsbD k.val = false ∧
      (getPath t (pathNo a)).gateOff.getLsbD k.val = true ∧
      (∀ j, j ≠ k.val → (getPath t (pathNo a)).sw.getLsbD j = (getPath s (pathNo a)).sw.getLsbD j) ∧
      ∀ q, q ≠ pathNo a → getPath t q = getPath s q))

/-- 11 R273, R292 to R299, 18 R442: cross-monitoring and self tests stop the channel, the start sequence brings it to its state, the status
word is written after a change, a lockout ends, and the safety domain's power takes the channel off and starts it again. -/
def Obligations.SafetyChannelStates : Prop :=
  (∀ (a : SafPath) (f : CrossFrame) (s : State), s.saf.state = 5 → f.crcOk = true →
    Answers (exec (.crossMonFrame a f) s) (fun t => (getPath t (pathNo a)).frameAt = absNow s ∧
      (∀ l, (getPath s (pathNo a)).perDiff = some l → l + 20000000 ≤ absNow s → (f.periodUs < 950 ∨ 1050 < f.periodUs) →
        t.saf.state = 6 ∧ t.saf.fcode = 2 ∧ (getPath t 0).sw = 0#4 ∧ (getPath t 1).sw = 0#4))) ∧
  (∀ (a : SafPath) (s : State), s.saf.state = 5 → (getPath s (pathNo a)).frameAt + 3000000 ≤ absNow s →
    Answers (exec (.crossMonTimeout a) s) (fun t => t.saf.state = 6 ∧ t.saf.fcode = 1 ∧ (getPath t 0).sw = 0#4 ∧ (getPath t 1).sw = 0#4)) ∧
  (∀ s : State, s.saf.state = 5 →
    Answers (exec (.sfcSelfTest false) s) (fun t => t.saf.state = 6 ∧ t.saf.fcode = 6 ∧ (getPath t 0).sw = 0#4 ∧ (getPath t 1).sw = 0#4)) ∧
  (∀ (tests agree : Bool) (s : State), s.saf.state = 1 → s.saf.startAt + 30000000 ≤ absNow s →
    (s.saf.mode = 0 → Answers (exec (.safetyStartSequence tests agree) s) (fun t => t.saf.state = 2)) ∧
    (s.saf.mode ≠ 0 → s.saf.block = [] → Answers (exec (.safetyStartSequence tests agree) s) (fun t => t.saf.state = 3)) ∧
    (s.saf.mode = 1 → s.saf.block ≠ [] → s.saf.check = none → s.saf.startAt + 60000000 ≤ absNow s →
      Answers (exec (.safetyStartSequence tests true) s) (fun t => t.saf.state = 4)) ∧
    (s.saf.mode ≠ 0 → s.saf.block ≠ [] → s.saf.check = some (blockCheck s.saf.block) →
      s.saf.startAt + 170000000 + fld (sfGlob s) 35 28 * 10000000 ≤ absNow s → pulsesPassed s = true →
      Answers (exec (.safetyStartSequence true true) s) (fun t => t.saf.state = 5 ∧
        ∀ p i, p < 2 → i < 16 → siTYPE (sfInst s i) ≠ 0 → (getInst t p i).st = (if siTYPE (sfInst s i) = 2 then 2 else 1)))) ∧
  (∀ s : State, fioRuns s = true → ownBuffer s = false → fld s.saf.map 47 33 < 20480 → inPlot s 1 0 (fld s.saf.map 47 33) = true → s.saf.told ≠ some (statusWord s) →
    tget none s.task.force (fld s.saf.map 47 33) = none →
    Answers (exec .sfStatusWordUpdate s) (fun t => imgWord t (fld s.saf.map 47 33) = statusWord s ∧ t.saf.told = some (statusWord s) ∧
      ∀ w, w ≠ fld s.saf.map 47 33 → imgWord t w = imgWord s w)) ∧
  (∀ (e : Nat) (s : State), s.saf.lock = some e → e ≤ absNow s →
    exec .lockoutExpiry s = .next { s with saf := { s.saf with lock := none, fails := 0 } }) ∧
  (∀ (mv : Nat) (s : State), mv < 740 → s.sup.asleep = false →
    Answers (exec (.safetyDomainReset mv) s) (fun t => t.saf.state = 0 ∧ t.saf.power = false ∧ t.saf.path = [] ∧ t.saf.block = s.saf.block)) ∧
  (∀ s : State, s.saf.state = 0 → s.sup.asleep = false →
    Answers (exec .safetyDomainPowerUp s) (fun t => t.saf.state = 1 ∧ t.saf.power = true ∧ t.saf.startAt = absNow s))

/-- 11 R275, R295 to R298: the channel is secured once, loaded, confirmed and restarted through T0; a load in mode A waits for its
confirmation, one in mode B needs the password and is logged. -/
def Obligations.SafetyCommands : Prop :=
  (∀ (ch : Fin 16) (s : State), NotCarried s ch → (tenantOf s ch = 0 ∨ mayRead s (tenantOf s ch) (fld s.saf.map 47 33) = true) →
    MbReads .mbSafetyStatus ch [] s (wB (sfChan s) ++ (List.range 16).flatMap (fun i => wB (sfStat s i)) ++
      (List.range 4).flatMap (fun k => wB (soStat s k)) ++ toBe 4 (s.saf.check.getD 0))) ∧
  (∀ (ch : Fin 16) (s : State), tenantOf s ch = 0 → Changes s → s.saf.mode = 0 → s.saf.state = 2 →
    MbDone .mbSafetySecure ch [1#8] s (fun t => t.saf.mode = 1 ∧ t.saf.state = 3) ∧
    ∀ pw : Bytes, 8 ≤ pw.length → pw.length ≤ 32 →
      MbDone .mbSafetySecure ch ([2#8, BitVec.ofNat 8 pw.length] ++ pw) s (fun t => t.saf.mode = 2 ∧ t.saf.state = 3 ∧ passwordOk t pw = true)) ∧
  (∀ (ch : Fin 16) (ws : List Word) (s : State), tenantOf s ch = 0 → Changes s → devMode s = 1 → 3 ≤ s.saf.state → s.saf.state ≤ 6 →
    ws.length = 55 → blockOk (deriveBlock ws) = true → areaFits s 6 = true →
    (s.saf.mode ≠ 2 → MbGives .mbSafetyLoad ch ([1#8] ++ ws.flatMap wB) s (· = toBe 4 (blockCheck (deriveBlock ws)))
      (fun t => t.saf.block = deriveBlock ws ∧ t.saf.check = none ∧ t.saf.state = 4)) ∧
    (∀ pw : Bytes, s.saf.mode = 2 → 8 ≤ pw.length → pw.length ≤ 32 → safLocked s = false → passwordOk s pw = true →
      MbGives .mbSafetyLoad ch ([1#8] ++ ws.flatMap wB ++ [BitVec.ofNat 8 pw.length] ++ pw) s (· = toBe 4 (blockCheck (deriveBlock ws)))
        (fun t => t.saf.block = deriveBlock ws ∧ t.saf.check = some (blockCheck (deriveBlock ws)) ∧ t.saf.state = 1 ∧
          (t.saf.log.head?.map (fun e => (e.kind, e.ch, e.before, e.after))) =
            some (1, ch.val, s.saf.check.getD 0, blockCheck (deriveBlock ws))))) ∧
  (∀ (ch : Fin 16) (s : State), tenantOf s ch = 0 → Changes s → s.saf.state = 4 → areaFits s 6 = true →
    MbDone .mbSafetyConfirm ch (toBe 4 (blockCheck s.saf.block)) s (fun t => t.saf.check = some (blockCheck s.saf.block) ∧ t.saf.state = 1)) ∧
  (∀ (ch : Fin 16) (s : State), tenantOf s ch = 0 → Changes s → (s.saf.state = 5 ∨ s.saf.state = 6) →
    MbDone .mbSafetyRestart ch [] s (fun t => t.saf.state = 1 ∧ t.saf.fkind = [] ∧ (getPath t 0).sw = 0#4 ∧ (getPath t 1).sw = 0#4 ∧
      t.saf.block = s.saf.block)) ∧
  (∀ (ch : Fin 16) (old new : Bytes) (s : State), tenantOf s ch = 0 → Changes s → s.saf.mode = 2 → 8 ≤ old.length → old.length ≤ 32 →
    8 ≤ new.length → new.length ≤ 32 → safLocked s = false → passwordOk s old = true →
    MbDone .mbSafetyPassword ch ([BitVec.ofNat 8 old.length] ++ old ++ [BitVec.ofNat 8 new.length] ++ new) s (fun t =>
      passwordOk t new = true ∧ t.saf.state = s.saf.state)) ∧
  (∀ (ch : Fin 16) (s : State), tenantOf s ch = 0 → NotCarried s ch →
    MbReads .mbSafetyRead ch [] s ((List.range 55).flatMap (fun i => wB (sfWord s i)) ++ toBe 4 (s.saf.check.getD 0))) ∧
  (∀ (ch : Fin 16) (a : Nat) (c : Byte) (s : State), tenantOf s ch = 0 → NotCarried s ch → s.saf.mode = 2 → a < 2 ^ 32 → 1 ≤ c.toNat → c.toNat ≤ 64 →
    s.silo.soft = [] → s.silo.hard = [] →
    MbReads .mbSafetyLogRead ch (toBe 4 a ++ [c]) s ((s.saf.log.reverse.filter (fun e =>
      decide ((e.seq + 2 ^ 32 - a) % 2 ^ 32 < c.toNat))).flatMap safLogBytes))

/-! ### The CAN controllers (12) -/

/-- 12 R306 to R317: the frame that wins arbitration is sent, its attempt ends as the bus says and moves the error counters, bus-off frees
the buffers and is left by recovery, received frames go to the queue of the first filter that takes them, and waiting settings are taken
at a bus idle. -/
def Obligations.CanBusEvents : Prop :=
  (∀ (n : Fin 4) (b : Nat) (f : CanFrame) (s : State),
    let c := getCan s n.val
    (c.bstate = 1 ∨ c.bstate = 2) → (c.buf.map (·.1)).Pairwise (· < ·) → (∀ x, (canBuf c x).state ≠ 2) → (canBuf c b).state = 1 →
    (canBuf c b).frame = some f →
    (∀ x g, (canBuf c x).state = 1 → (canBuf c x).frame = some g → arbKey f < arbKey g ∨ (arbKey f = arbKey g ∧ b ≤ x)) →
    Answers (exec (.canTxStart n) s) (fun t => canBuf (getCan t n.val) b =
        { canBuf c b with state := 2, attempts := (canBuf c b).attempts + 1, sof := devtime s, starved := false } ∧
      t.out = .can n.val { f with esi := f.fd && (decide (127 < c.tec) || decide (127 < c.rec_)) } :: s.out ∧ ∀ x, x ≠ b → canBuf (getCan t n.val) x = canBuf c x)) ∧
  (∀ (n : Fin 4) (b d : Nat) (f : CanFrame) (s : State),
    let c := getCan s n.val
    let v := canBuf c b
    (c.bstate = 1 ∨ c.bstate = 2) → c.tec ≤ 255 → (c.buf.map (·.1)).Pairwise (· < ·) → v.state = 2 → (∀ x, (canBuf c x).state = 2 → x = b) →
    v.frame = some f →
    Answers (exec (.canTxAttemptEnd n .sent d) s) (fun t =>
      let c' := getCan t n.val
      c'.tec = c.tec - 1 ∧ c'.rec_ = c.rec_ ∧ c'.nTx = c.nTx + 1 ∧ (canBuf c' b).state ≠ 1 ∧ (canBuf c' b).state ≠ 2 ∧
      (∀ h, v.handle = some h → (tget [] c'.res v.queue).head? = some ⟨h, 3, v.attempts, v.sof⟩) ∧
      (∀ x, x ≠ b → canBuf c' x = canBuf c x)) ∧
    Answers (exec (.canTxAttemptEnd n .lostArbitration d) s) (fun t =>
      let c' := getCan t n.val
      c'.tec = c.tec ∧ (v.cancel = false → (canBuf c' b).state = 1 ∧ (canBuf c' b).frame = some f) ∧
      (v.cancel = true → ∀ h, v.handle = some h → (tget [] c'.res v.queue).head? = some ⟨h, 4, v.attempts, v.sof⟩)) ∧
    ∀ (l : Fin 7) (exempt : Bool) (k : Nat), Answers (exec (.canTxAttemptEnd n (.error l exempt k) d) s) (fun t =>
      let c' := getCan t n.val
      let step := (if exempt = true ∧ (l.val = 1 ∨ l.val = 3 ∧ c.bstate = 2) then 0 else 8) + 8 * k
      c'.tec = c.tec + step ∧ c'.nErr = c.nErr + 1 ∧ c'.lec = (if l.val = 0 then c.lec else l.val) ∧
      (c.closing = true → c'.bstate = 5 ∧ c'.standby = true) ∧
      (c.closing = false → c.tec + step ≤ 255 → c'.bstate = (if 127 < c.tec + step ∨ 127 < c.rec_ then 2 else 1)) ∧
      (c.tec + step ≤ 255 → v.cancel = false → (fld c.ctl 44 41 = 15 ∨ v.failed + 1 ≤ fld c.ctl 44 41) →
        (canBuf c' b).state = 1 ∧ (canBuf c' b).failed = v.failed + 1 ∧ (canBuf c' b).frame = some f) ∧
      (c.tec + step ≤ 255 → v.cancel = false → fld c.ctl 44 41 ≠ 15 → fld c.ctl 44 41 < v.failed + 1 →
        c'.nAbandoned = c.nAbandoned + 1 ∧ ∀ h, v.handle = some h → (tget [] c'.res v.queue).head? = some ⟨h, 5, v.attempts, v.sof⟩) ∧
      (c.closing = false → 255 < c.tec + step → c'.bstate = 3 ∧ c'.boffAt = s.clk ∧ ∀ x, (canBuf c' x).state ≠ 1 ∧ (canBuf c' x).state ≠ 2))) ∧
  (∀ (n : Fin 4) (b : Fin 64) (s : State), (canBuf (getCan s n.val) b.val).state = 1 → (canBuf (getCan s n.val) b.val).starved = false →
    (canBuf (getCan s n.val) b.val).since + 1000000000 ≤ s.clk →
    Answers (exec (.canTxStarved n b) s) (fun t =>
      canBuf (getCan t n.val) b.val = { canBuf (getCan s n.val) b.val with starved := true } ∧
      ∀ x, x ≠ b.val → canBuf (getCan t n.val) x = canBuf (getCan s n.val) x)) ∧
  (∀ (n : Fin 4) (s : State), (getCan s n.val).bstate = 3 → bit (getCan s n.val).ctl 40 = true →
    (getCan s n.val).boffAt + fld (getCan s n.val).ctl 39 32 * 10000000 ≤ s.clk →
    Answers (exec (.canBoffRecovery n) s) (fun t => getCan t n.val = { getCan s n.val with bstate := 4, byCmd := false })) ∧
  (∀ (n : Fin 4) (s : State), (getCan s n.val).bstate = 4 →
    Answers (exec (.canBusRejoin n) s) (fun t => getCan t n.val = { getCan s n.val with bstate := 1, tec := 0, rec_ := 0 })) ∧
  (∀ (n : Fin 4) (f : CanFrame) (ago : Nat) (s : State),
    let c := getCan s n.val
    (c.bstate = 1 ∨ c.bstate = 2) → (f.fd = true → bit c.ctl 46 = true) → moduleOf s n.val f = none →
    (∀ i, i < 128 → bit (wget c.flt i) 17 = true → fltMatch (wget c.flt i) f = true →
      (∀ j, j < i → bit (wget c.flt j) 17 = false ∨ fltMatch (wget c.flt j) f = false) →
      let q := fld (wget c.flt i) 16 13
      (tget [] c.rx q).length < queCount c q →
      Answers (exec (.canFrameReceived n (.frame f) ago) s) (fun t =>
        tget [] (getCan t n.val).rx q = (if q = 0 then tget [] c.rx q else tget [] c.rx q ++ [⟨f, umod 48 ((devtime s : Int) - ago)⟩]) ∧
        (getCan t n.val).nRx = c.nRx + 1 ∧ (c.rec_ ≤ 127 → (getCan t n.val).rec_ = c.rec_ - 1) ∧
        (127 < c.rec_ → 119 ≤ (getCan t n.val).rec_ ∧ (getCan t n.val).rec_ ≤ 127) ∧ ∀ p, p ≠ q → tget [] (getCan t n.val).rx p = tget [] c.rx p)) ∧
    ((∀ i, i < 128 → bit (wget c.flt i) 17 = false ∨ fltMatch (wget c.flt i) f = false) →
      Answers (exec (.canFrameReceived n (.frame f) ago) s) (fun t => (getCan t n.val).noMatch = Nat.min 255 (c.noMatch + 1) ∧
        (getCan t n.val).rx = c.rx ∧ (getCan t n.val).nRx = c.nRx + 1))) ∧
  (∀ (n : Fin 4) (f : CanFrame) (ago : Nat) (s : State), ((getCan s n.val).bstate = 1 ∨ (getCan s n.val).bstate = 2) →
    f.fd = true → bit (getCan s n.val).ctl 46 = false →
    Answers (exec (.canFrameReceived n (.frame f) ago) s) (fun t =>
      getCan t n.val = { getCan s n.val with pxe := Nat.min 255 ((getCan s n.val).pxe + 1) })) ∧
  (∀ (n : Fin 4) (l : Fin 7) (k ago : Nat) (s : State), ((getCan s n.val).bstate = 1 ∨ (getCan s n.val).bstate = 2) →
    Answers (exec (.canFrameReceived n (.error l k) ago) s) (fun t => (getCan t n.val).rec_ = Nat.min 255 ((getCan s n.val).rec_ + 1 + 8 * k) ∧
      (getCan t n.val).nErr = (getCan s n.val).nErr + 1 ∧ (getCan t n.val).lec = (if l.val = 0 then (getCan s n.val).lec else l.val) ∧
      (getCan t n.val).rx = (getCan s n.val).rx)) ∧
  (∀ (n : Fin 4) (ctl nbt dbt : Word) (s : State), (∀ u ∈ s.ovl.units, u.kind ≠ 2 ∨ u.key ≠ 4000 + n.val) → (getCan s n.val).next = some (ctl, nbt, dbt) →
    ((getCan s n.val).buf.any (fun e => e.2.state == 2)) = false →
    Answers (exec (.canConfigApply n) s) (fun t =>
      let c := getCan t n.val
      c.ctl = ctl ∧ c.nbt = nbt ∧ c.dbt = dbt ∧ c.next = none ∧ c.standby = !bit ctl 47 ∧ (bit ctl 47 = false → c.bstate = 0) ∧
      (bit ctl 47 = true → c.bstate ≠ 0) ∧ ∀ x, (canBuf c x).state ≠ 1))

/-- 12 R305 to R323: T0 configures controllers, queues, filters and wake settings and ends a bus-off; a queue's tenant sends, cancels and
reads its results and its received frames; the status is read and its latched counters clear. -/
def Obligations.CanCommands : Prop :=
  (∀ (ch : Fin 16) (n : Byte) (ctl nbt dbt : Word) (s : State), tenantOf s ch = 0 → Changes s → n.toNat < 4 →
    let c := setBit (ctl &&& 0xFFFF80000000#48) 45 true
    let a := nbt &&& 0xFFFFFFFFC000#48
    let d := dbt &&& 0xFFFFFFFC0000#48
    canTimingOk c a d = true →
    MbDone .mbCanSet ch ([n, 1#8] ++ wB ctl ++ wB nbt ++ wB dbt) s (fun t =>
      getCan t n.toNat = { getCan s n.toNat with next := some (c, a, d) } ∧ ∀ m, m ≠ n.toNat → getCan t m = getCan s m)) ∧
  (∀ (ch : Fin 16) (n en : Byte) (rate data : Nat) (nbt dbt : Word) (s : State), tenantOf s ch = 0 → Changes s → n.toNat < 4 → en.toNat ≤ 1 →
    nominalOf rate = some nbt → dataOf data = some dbt →
    MbDone .mbCanSet ch ([n, 0#8, en] ++ toBe 2 rate ++ toBe 2 data) s (fun t => ∃ ctl, (getCan t n.toNat).next = some (ctl, nbt, dbt) ∧
      (bit ctl 47 = true ↔ en.toNat = 1) ∧ (bit ctl 46 = true ↔ data ≠ 0) ∧ bit ctl 45 = false ∧ fld ctl 44 41 = 3 ∧ bit ctl 40 = true ∧
      fld ctl 39 32 = 10)) ∧
  (∀ (ch : Fin 16) (n q : Byte) (w x : Word) (s : State), tenantOf s ch = 0 → Changes s → n.toNat < 4 → q.toNat < 16 →
    let c := getCan s n.toNat
    let c' := { c with que := wput q.toNat (canQueWord q.toNat w) c.que }
    let a := queFirst c' q.toNat
    let k := queCount c' q.toNat
    k ≤ 128 → a + k ≤ (if queDir c' q.toNat then 64 else 128) → fld x 7 6 ≠ 3 → fld x 12 8 ≤ (if bit x 18 then 29 else 11) →
    (∀ j, j < 16 → j ≠ q.toNat → queDir c' j = queDir c' q.toNat → overlap a k (queFirst c' j) (queCount c' j) = false) →
    MbDone .mbCanQueueSet ch ([n, q] ++ wB w ++ wB x) s (fun t =>
      wget (getCan t n.toNat).que q.toNat = canQueWord q.toNat w ∧ wget (getCan t n.toNat).qtx q.toNat = x &&& 0xFFFFFFFC1FC0#48 ∧
      tget [] (getCan t n.toNat).rx q.toNat = [] ∧ (∀ j, j ≠ q.toNat → wget (getCan t n.toNat).que j = wget c.que j) ∧
      (∀ j, j ≠ q.toNat → tget [] (getCan t n.toNat).rx j = tget [] c.rx j) ∧ ∀ m, m ≠ n.toNat → getCan t m = getCan s m)) ∧
  (∀ (ch : Fin 16) (n f : Byte) (ws : List Word) (s : State), tenantOf s ch = 0 → Changes s → n.toNat < 4 → 1 ≤ ws.length →
    f.toNat + ws.length ≤ 128 →
    (∀ w ∈ ws, fld w 7 6 ≠ 3 ∧ fld w 12 8 ≤ (if bit w 18 then 29 else 11) ∧ queDir (getCan s n.toNat) (fld w 16 13) = false ∧
      queUsed (getCan s n.toNat) (fld w 16 13) = true) →
    MbDone .mbCanFilterSet ch ([n, f, BitVec.ofNat 8 ws.length] ++ ws.flatMap wB) s (fun t =>
      (∀ i, (h : i < ws.length) → wget (getCan t n.toNat).flt (f.toNat + i) = ws[i] &&& 0xFFFFFFFFFFC0#48) ∧
      ∀ j, (j < f.toNat ∨ f.toNat + ws.length ≤ j) → wget (getCan t n.toNat).flt j = wget (getCan s n.toNat).flt j)) ∧
  (∀ (ch : Fin 16) (n q : Byte) (fs : List CanFrame) (s : State), Changes s → ownsQueue s (tenantOf s ch) n.toNat q.toNat = true →
    let c := getCan s n.toNat
    queDir c q.toNat = true → 1 ≤ fs.length → fs.length ≤ 32 →
    (∀ f ∈ fs, fltMatch (wget c.qtx q.toNat) f = true ∧ canTxOk (bit c.ctl 46) f = true ∧ f.esi = false ∧ f.rtr = false) →
    let free := canFree c q.toNat
    fs.length ≤ free.length →
    MbGives .mbCanTx ch ([n, q, BitVec.ofNat 8 fs.length] ++ fs.flatMap (fun f => toBe 4 (idWord f) ++
        [BitVec.ofNat 8 (b2n f.fd + b2n f.brs * 2), BitVec.ofNat 8 f.data.length] ++ f.data)) s
      (· = toBe 4 c.nextHandle) (fun t =>
        (∀ i, (h : i < fs.length) → (k : i < free.length) → ∃ v, canBuf (getCan t n.toNat) free[i] = v ∧ v.state = 1 ∧ v.queue = q.toNat ∧
          v.frame = some fs[i] ∧ (c.nextHandle < 2 ^ 32 → v.handle = some ((c.nextHandle + i) % 2 ^ 32)) ∧ v.failed = 0) ∧
        ∀ x, x ∉ free.take fs.length → canBuf (getCan t n.toNat) x = canBuf c x)) ∧
  (∀ (ch : Fin 16) (n q : Byte) (h : Nat) (s : State), Changes s → ownsQueue s (tenantOf s ch) n.toNat q.toNat = true → h < 2 ^ 32 →
    let c := getCan s n.toNat
    let hit := fun (v : CanBuf) => v.queue == q.toNat && (h == 0xFFFFFFFF || v.handle == some h)
    queDir c q.toNat = true → (c.buf.map (·.1)).Pairwise (· < ·) →
    MbGives .mbCanTxCancel ch ([n, q] ++ toBe 4 h) s (· = toBe 1 (c.buf.countP (fun e => hit e.2 && e.2.state == 1))) (fun t =>
      ∀ b, ((hit (canBuf c b) = true ∧ (canBuf c b).state = 1) → (canBuf (getCan t n.toNat) b).state ≠ 1) ∧
        ((hit (canBuf c b) = true ∧ (canBuf c b).state = 2) → canBuf (getCan t n.toNat) b = { canBuf c b with cancel := true }) ∧
        (hit (canBuf c b) = false → canBuf (getCan t n.toNat) b = canBuf c b))) ∧
  (∀ (ch : Fin 16) (n q : Byte) (h : Nat) (s : State), NotCarried s ch → ownsQueue s (tenantOf s ch) n.toNat q.toNat = true → h < 2 ^ 32 →
    queDir (getCan s n.toNat) q.toNat = true →
    (∀ r, (tget [] (getCan s n.toNat).res q.toNat).find? (fun r => r.handle == h) = some r →
      MbReads .mbCanTxResults ch ([n, q] ++ toBe 4 h ++ [1#8]) s (toBe 4 h ++ toBe 1 r.state ++ toBe 1 r.attempts ++ toBe 6 r.sof)) ∧
    ((∀ r ∈ tget [] (getCan s n.toNat).res q.toNat, r.handle ≠ h) → (∀ e ∈ (getCan s n.toNat).buf, e.2.handle ≠ some h) →
      MbReads .mbCanTxResults ch ([n, q] ++ toBe 4 h ++ [1#8]) s (toBe 4 h ++ toBe 8 0))) ∧
  (∀ (ch : Fin 16) (n q k : Byte) (s : State), Changes s → ownsQueue s (tenantOf s ch) n.toNat q.toNat = true → 1 ≤ k.toNat → k.toNat ≤ 52 →
    queDir (getCan s n.toNat) q.toNat = false →
    let l := tget [] (getCan s n.toNat).rx q.toNat
    MbGives .mbCanRxRead ch [n, q, k] s
      (· = toBe 1 (l.take k.toNat).length ++ (l.take k.toNat).flatMap (fun x => toBe 4 (idWord x.frame) ++
        toBe 1 (b2n x.frame.fd + b2n x.frame.brs * 2 + b2n x.frame.esi * 4 + b2n x.frame.rtr * 8) ++ toBe 1 x.frame.data.length ++
        toBe 6 x.sof ++ x.frame.data))
      (fun t => tget [] (getCan t n.toNat).rx q.toNat = l.drop k.toNat ∧
        ∀ j, j ≠ q.toNat → tget [] (getCan t n.toNat).rx j = tget [] (getCan s n.toNat).rx j)) ∧
  (∀ (ch : Fin 16) (n : Byte) (s : State), tenantOf s ch = 0 → n.toNat < 4 →
    let c := getCan s n.toNat
    MbGives .mbCanStat ch [n] s (· = wB c.ctl ++ wB c.nbt ++ wB c.dbt ++ wB (canStat c) ++ toBe 4 c.nRx ++ toBe 4 c.nTx ++ toBe 4 c.nAbandoned ++
        toBe 4 c.nErr)
      (fun t => getCan t n.toNat = { c with lec := 0, pxe := 0, noMatch := 0 })) ∧
  (∀ (ch : Fin 16) (n : Byte) (s : State), tenantOf s ch = 0 → Changes s → n.toNat < 4 → (getCan s n.toNat).bstate = 3 →
    MbDone .mbCanRecover ch [n] s (fun t => getCan t n.toNat = { getCan s n.toNat with bstate := 4, byCmd := true })) ∧
  (∀ (ch : Fin 16) (n : Byte) (s : State), tenantOf s ch = 0 → Changes s → n.toNat < 4 →
    (∀ k : Byte, k.toNat ≤ 3 → MbDone .mbCanWakeSet ch [n, 0#8, k] s (fun t =>
      getCan t n.toNat = { getCan s n.toNat with wake := setFld 0x028640000000#48 47 46 k.toNat, wid := 0#48, wdata := 0#48 })) ∧
    ∀ w i d : Word, 5 ≤ fld w 44 38 → fld w 44 38 ≤ 50 → 35 ≤ fld w 37 28 → fld w 37 28 ≤ 500 → fld w 26 23 ≤ 8 →
      fld i 12 8 ≤ (if bit i 18 then 29 else 11) →
      MbDone .mbCanWakeSet ch ([n, 1#8] ++ wB w ++ wB i ++ wB d) s (fun t => getCan t n.toNat =
        { getCan s n.toNat with wake := setBit (w &&& 0xFFFFFF800000#48) 45 true, wid := i &&& 0xFFFFFFFC1F00#48, wdata := d }))

/-! ### Ethernet, TRDP process data, PTP (13) -/

/-- 13 R325, R327 to R329, Table 13-4: a MAC that is on takes good frames of its VLAN, answers ARP and echo requests, keeps fragments of
datagrams to the mailbox port and hands whole ones on, and discards and counts the rest; a link change is latched. -/
def Obligations.EthernetReceives : Prop :=
  (∀ (n : Fin 3) (f : EthFrame) (s : State),
    let m := getMac s n.val
    let s' := updMac n.val (fun m => { m with nRx := m.nRx + 1 }) s
    macOn m = true → m.up = true →
    ((f.fcsOk = false ∨ f.len < 64 ∨ (if f.vlan.isSome then 1522 else 1518) < f.len ∨ vlanOk m f.vlan = false ∨
        (isIp f.body = true ∧ f.ipOk = false) ∨ f.body ∈ [.tcp, .ipv6, .igmp, .passFrame, .other]) →
      exec (.ethFrameReceived n f) s = .next (updMac n.val (fun m => { m with nRx := m.nRx + 1, nDisc := m.nDisc + 1 }) s)) ∧
    (f.fcsOk = true → 64 ≤ f.len → f.len ≤ (if f.vlan.isSome then 1522 else 1518) → vlanOk m f.vlan = true → f.ipOk = true →
      (∀ hw ip, f.body = .arpRequest hw ip (macIp m) → (ip ≠ macIp m ∨ hw = m.mac.toNat) →
        Answers (exec (.ethFrameReceived n f) s) (fun t =>
          let r : EthBody := .arpReply m.mac.toNat (macIp m) ip
          t.out = .eth n.val (macTag m r) hw ip r :: s.out)) ∧
      (∀ hw ip x w, f.body = .arpReply hw ip x → ip ≠ macIp m → tget none m.wait ip = some w →
        Answers (exec (.ethFrameReceived n f) s) (fun t => tget none (getMac t n.val).arp ip = some ⟨hw, s.clk⟩ ∧
          tget none (getMac t n.val).wait ip = none ∧
          t.out = (w.frames.map (fun g => Out.eth n.val (macTag m g.2) hw g.1 g.2)).reverse ++ s.out)) ∧
      (∀ src d hop, f.body = .icmpEcho src (macIp m) d → d.length ≤ 1472 →
        (m.echoes < 64 ∨ m.echoAt + 1000000000 ≤ s.clk) → nextHop s n.val src = some hop →
        Answers (exec (.ethFrameReceived n f) s) (fun t =>
          let r : EthBody := .icmpEcho (macIp m) src d
          t.out = .eth n.val (macTag m r) hop src r :: s.out)) ∧
      (f.body = .icmpOther → exec (.ethFrameReceived n f) s = .next s') ∧
      (∀ d, f.body = .udp d → d.dst = macIp m → d.dport = s.eth.port → boot s = false → s.sup.sleeping = false →
        exec (.ethFrameReceived n f) s = exec (.udpMailboxDatagram n d.src d.sport d.data) s) ∧
      (∀ d, f.body = .udp d → (d.dst ≠ macIp m ∨ d.dport ≠ s.eth.port) →
        exec (.ethFrameReceived n f) s = .next (ethDiscard n.val s')) ∧
      (∀ t, f.body = .trdp t → exec (.ethFrameReceived n f) s = exec (.trdpTelegramReceived n t) s) ∧
      (∀ l2 p, f.body = .ptp l2 p → ptpOn s = true → ptpMac s = n.val →
        exec (.ethFrameReceived n f) s = exec (.ptpMessage ⟨true, f.vlan, l2, p⟩) s) ∧
      (∀ l2 p, f.body = .ptp l2 p → (ptpOn s = false ∨ ptpMac s ≠ n.val) → exec (.ethFrameReceived n f) s = .next s') ∧
      (∀ g, f.body = .fragment g → g.dst = macIp m → m.reasm.find? (fun r => r.src == g.src && r.ident == g.ident) = none → g.offset = 0 →
        g.dport = s.eth.port → m.reasm.length < 4 →
        Answers (exec (.ethFrameReceived n f) s) (fun t => (getMac t n.val).reasm = m.reasm ++ [⟨g.src, g.ident, s.clk, [g]⟩])) ∧
      (∀ g r d h, f.body = .fragment g → g.dst = macIp m → m.reasm = [r] → r.src = g.src → r.ident = g.ident → r.parts = [h] →
        h.offset = 0 → h.more = true → h.data.length = g.offset → h.data.length ≠ 0 → g.more = false → g.data ≠ [] →
        h.data ++ g.data = d → d.length ≤ 4096 → boot s = false → s.sup.sleeping = false →
        exec (.ethFrameReceived n f) s = exec (.udpMailboxDatagram n g.src h.sport d) (updMac n.val (fun m => { m with reasm := [] }) s)))) ∧
  (∀ (n : Fin 3) (up : Bool) (mbps : Nat) (s : State), ((getMac s n.val).up ≠ up ∨ (getMac s n.val).mbps ≠ mbps) →
    Answers (exec (.ethLinkChange n up mbps) s) (fun t => (getMac t n.val).up = up ∧ (getMac t n.val).mbps = mbps ∧
      (∀ c, c < 16 → (getChan s c).isOpen = true → (getChan t c).latch.getLsbD 8 = true) ∧
      (up = false → (getMac t n.val).wait = []) ∧
      (ptpOn s = true → ptpMac s = n.val → t.eth.ptp.state = if up then 4 else 1))) ∧
  (∀ (n : Fin 3) (ip : Nat) (w : ArpWait) (s : State), tget none (getMac s n.val).wait ip = some w →
    w.firstAt + w.sent * 100000000 ≤ s.clk →
    (w.sent < 3 → Answers (exec (.arpRetry n ip) s) (fun t =>
      tget none (getMac t n.val).wait ip = some { w with sent := w.sent + 1 } ∧
      (macOn (getMac s n.val) = true → (getMac s n.val).up = true → ∃ tag, t.out = .eth n.val tag broadcastHw ip (arpReq (getMac s n.val) ip) :: s.out))) ∧
    (3 ≤ w.sent → Answers (exec (.arpRetry n ip) s) (fun t => tget none (getMac t n.val).wait ip = none ∧
      (getMac t n.val).nArp = (getMac s n.val).nArp + 1 ∧ (getMac t n.val).nDisc = (getMac s n.val).nDisc + w.frames.length ∧ t.out = s.out))) ∧
  (∀ (n : Fin 3) (ip : Nat) (a : ArpEnt) (s : State), tget none (getMac s n.val).arp ip = some a → a.at_ + 300000000000 ≤ s.clk →
    Answers (exec (.arpEntryAge n ip) s) (fun t => tget none (getMac t n.val).arp ip = none ∧
      ∀ j, j ≠ ip → tget none (getMac t n.val).arp j = tget none (getMac s n.val).arp j)) ∧
  (∀ (n : Fin 3) (src id : Nat) (r : Reasm) (s : State), (getMac s n.val).reasm.find? (fun r => r.src == src && r.ident == id) = some r →
    r.firstAt + 100000000 ≤ s.clk →
    Answers (exec (.reassemblyTimeout n src id) s) (fun t => (getMac t n.val).nReasm = (getMac s n.val).nReasm + 1 ∧
      ∀ x ∈ (getMac t n.val).reasm, x.src ≠ src ∨ x.ident ≠ id))

/-- 13 R330, R332 to R337: a subscription takes each newer telegram of its source once and substitutes its block after its timeout, a
publication sends its block at its instants, and the PTP port follows the best master it hears. -/
def Obligations.ProcessDataAndPtp : Prop :=
  (∀ (n : Fin 3) (k : Nat) (g : Telegram) (s : State),
    let m := getMac s n
    let e := getTrdp s k
    macLive m = true → ownBuffer s = false → (g.dst = macIp m ∨ groupOn s n.val g.dst = true) → g.headerFcs = trdpFcs g →
    g.version.toNat / 256 = 1 → g.msgType = 0x5064#16 →
    (g.etbTopo = 0 ∨ s.eth.etb = 0 ∨ g.etbTopo = s.eth.etb) → (g.opTopo = 0 ∨ s.eth.opTrn = 0 ∨ g.opTopo = s.eth.opTrn) →
    40 + g.dsLen ≤ g.payloadLen → g.payloadLen ≤ 43 + g.dsLen → trdpModule s n.val g.comId = none → trdpSub s n.val g.comId = some k →
    e.active = true → g.dsLen = 6 * trdpCount e → (fld e.src 47 16 = 0 ∨ fld e.src 47 16 = g.srcIp) →
    ((e.timedOut = true ∨ e.last = none ∨ ∃ l, e.last = some l ∧ 1 ≤ (g.seq + 2 ^ 32 - l) % 2 ^ 32 ∧ (g.seq + 2 ^ 32 - l) % 2 ^ 32 ≤ 0x7FFFFFFF) →
      Answers (exec (.trdpTelegramReceived n g) s) (fun t => (getTrdp t k).last = some g.seq ∧ (getTrdp t k).timedOut = false ∧
        (getTrdp t k).nOk = e.nOk + 1 ∧ (getTrdp t k).lastAt = s.clk ∧
        (∀ i, i < trdpCount e → 6 * (i + 1) ≤ g.data.length → tget none s.task.force (trdpWord e + i) = none →
          imgWord t (trdpWord e + i) =
            if unitMay s (trdpUnit k) (trdpWord e + i) then beW g.data (6 * i) else imgWord s (trdpWord e + i)) ∧
        (∀ w, (w < trdpWord e ∨ trdpWord e + trdpCount e ≤ w) → imgWord t w = imgWord s w))) ∧
    (e.timedOut = false → ∀ l, e.last = some l → ((g.seq + 2 ^ 32 - l) % 2 ^ 32 = 0 ∨ 0x7FFFFFFF < (g.seq + 2 ^ 32 - l) % 2 ^ 32) →
      Answers (exec (.trdpTelegramReceived n g) s) (fun t => (getTrdp t k).nDisc = e.nDisc + 1 ∧ (getTrdp t k).last = e.last ∧
        t.img = s.img))) ∧
  (∀ (n : Fin 3) (g : Telegram) (s : State), macLive (getMac s n.val) = true → g.dst ≠ macIp (getMac s n.val) → groupOn s n.val g.dst = false →
    exec (.trdpTelegramReceived n g) s = .next (updMac n.val (fun m => { m with nRx := m.nRx + 1, nDisc := m.nDisc + 1 }) s)) ∧
  (∀ (k : Fin 256) (s : State),
    let e := getTrdp s k.val
    ownBuffer s = false → trdpUsed e = true → trdpPub e = false → e.active = true → e.timedOut = false → e.lastAt + trdpNs e ≤ s.clk →
    Answers (exec (.trdpSubTimeout k) s) (fun t => (getTrdp t k.val).timedOut = true ∧ (getTrdp t k.val).nTmo = e.nTmo + 1 ∧
      (∀ i, i < trdpCount e → tget none s.task.force (trdpWord e + i) = none →
        imgWord t (trdpWord e + i) = if unitMay s (trdpUnit k.val) (trdpWord e + i) = false ∨ fld e.pd 37 36 = 0 then imgWord s (trdpWord e + i)
          else 0#48) ∧
      (∀ w, (w < trdpWord e ∨ trdpWord e + trdpCount e ≤ w) → imgWord t w = imgWord s w))) ∧
  (∀ (k : Fin 256) (s : State),
    let e := getTrdp s k.val
    let m := getMac s (trdpMac e)
    let ws := span (trdpWord e) (trdpCount e)
    trdpUsed e = true → trdpPub e = true → e.active = true → serving s = true → pubInstant s e = true → (e.lastAt ≠ s.clk ∨ e.nOk = 0) →
    (∀ hop, ws.all (mayRead s (trdpTenant e)) = true → macLive m = true → nextHop s (trdpMac e) (fld e.ip 47 16) = some hop →
      (s.eth.trdp.map (·.1)).Nodup →
      let g : Telegram := ⟨macIp m, fld e.ip 47 16, 0x0100#16, 0x5064#16, trdpCom e, s.eth.etb, s.eth.opTrn, 6 * trdpCount e, 0, 0, 0, 0,
        tget 0 m.seq (trdpCom e), 40 + 6 * trdpCount e, ws.flatMap (fun w => wB (imgWord s w))⟩
      Answers (exec (.trdpPublish k) s) (fun t => (getTrdp t k.val).nOk = e.nOk + 1 ∧
        tget 0 (getMac t (trdpMac e)).seq (trdpCom e) = (tget 0 m.seq (trdpCom e) + 1) % 2 ^ 32 ∧
        .eth (trdpMac e) (macTag m (.trdp g)) hop (fld e.ip 47 16) (.trdp { g with headerFcs := trdpFcs g }) ∈ t.out)) ∧
    (ws.all (mayRead s (trdpTenant e)) = true → macLive m = true → nextHop s (trdpMac e) (fld e.ip 47 16) = none →
      Answers (exec (.trdpPublish k) s) (fun t => (getTrdp t k.val).nOk = e.nOk ∧ (getMac t (trdpMac e)).seq = m.seq ∧
        (getTrdp t k.val).lastAt = s.clk)) ∧
    (ws.all (mayRead s (trdpTenant e)) = true → macLive m = false →
      Answers (exec (.trdpPublish k) s) (fun t => (getTrdp t k.val).nOk = e.nOk ∧ (getMac t (trdpMac e)).nDisc = m.nDisc + 1 ∧ t.out = s.out)) ∧
    (ws.all (mayRead s (trdpTenant e)) = false →
      Answers (exec (.trdpPublish k) s) (fun t => (getTrdp t k.val).withheld = true ∧ (getTrdp t k.val).nOk = e.nOk ∧ t.out = s.out))) ∧
  (∀ (v : Option (Nat × Nat)) (l2 : Bool) (a : PtpMaster) (src : Nat) (utc : Int) (scale : Bool) (s : State),
    PtpHears s v l2 → s.pair.rstate ≠ 5 → s.eth.ptp.state ≠ 1 → s.eth.ptp.state ≠ 3 → a.identity ≠ (ptpOwn s).identity →
    (ptpBetter a (ptpOwn s) = true → ptpRole s ≠ 2 →
      (s.eth.ptp.master = none ∨ ∃ b, s.eth.ptp.master = some b ∧ ptpBetter a b = true ∧ b.identity ≠ a.identity) →
      Answers (exec (.ptpMessage ⟨true, v, l2, (.announce (ptpDomain s) a src utc scale)⟩) s) (fun t =>
        t.eth.ptp.master = some a ∧ t.eth.ptp.state = 8 ∧ t.eth.ptp.delay = none)) ∧
    (ptpBetter a (ptpOwn s) = false → ptpRole s ≠ 1 →
      (s.eth.ptp.master = none ∨ ∃ b, s.eth.ptp.master = some b ∧ (ptpBetter b (ptpOwn s) = false ∨ b.identity = a.identity)) →
      Answers (exec (.ptpMessage ⟨true, v, l2, (.announce (ptpDomain s) a src utc scale)⟩) s) (fun t =>
        t.eth.ptp.master = none ∧ t.eth.ptp.state = 6))) ∧
  (∀ (v : Option (Nat × Nat)) (l2 : Bool) (src : Nat) (t1 t2 d : Int) (s : State),
    let o := t2 - ptpIngress s - t1 - d
    PtpHears s v l2 → s.pair.rstate ≠ 5 → (∃ m, s.eth.ptp.master = some m ∧ m.identity = src) → (s.eth.ptp.state = 8 ∨ s.eth.ptp.state = 9) → s.eth.ptp.delay = some d →
    Answers (exec (.ptpMessage ⟨true, v, l2, (.sync (ptpDomain s) src t1 t2)⟩) s) (fun t => t.eth.ptp.state = 9 ∧ t.eth.ptp.lastSync = s.clk ∧
      t.eth.ptp.offset = o ∧ t.eth.ptp.syncT = some (t1, t2 - ptpIngress s) ∧
      (1000000 ≤ o.natAbs → wallNs t = wallNs s - o) ∧ (o.natAbs < 1000000 → wallNs t = wallNs s) ∧
      (s.eth.ptp.state = 9 → o.natAbs < 1000000 → t.eth.ptp.integ = s.eth.ptp.integ + o) ∧
      (s.eth.ptp.state = 9 → o.natAbs ≤ 1000 → 15 ≤ s.eth.ptp.good → t.tb.wallPtp = true) ∧
      (s.eth.ptp.state = 9 → 10000 < o.natAbs → 3 ≤ s.eth.ptp.bad → t.tb.wallPtp = false))) ∧
  (∀ (v : Option (Nat × Nat)) (l2 : Bool) (src port : Nat) (t1 t2 t3 t4 t5 : Int) (s : State), PtpHears s v l2 → s.pair.rstate ≠ 5 →
    let d := ptpDomain s
    let me := (ptpOwn s).identity
    (s.eth.ptp.state = 6 → ptpP2p s = false →
      Answers (exec (.ptpMessage ⟨true, v, l2, (.delayReq d port t4)⟩) s) (fun t => PtpSent s t (.delayResp d me port (t4 - ptpIngress s)))) ∧
    ((s.eth.ptp.state = 8 ∨ s.eth.ptp.state = 9) → ptpP2p s = false → s.eth.ptp.syncT = some (t1, t2) → s.eth.ptp.reqAt = some t3 →
      (∃ m, s.eth.ptp.master = some m ∧ m.identity = src) →
      Answers (exec (.ptpMessage ⟨true, v, l2, (.delayResp d src me t4)⟩) s) (fun t => t.eth.ptp.delay = some (((t2 - t1) + (t4 - t3)).tdiv 2))) ∧
    (ptpP2p s = true → s.eth.ptp.state ≠ 1 → s.eth.ptp.state ≠ 3 →
      Answers (exec (.ptpMessage ⟨true, v, l2, (.pdelayReq d port t2)⟩) s) (fun t =>
        PtpSent s t (.pdelayResp d port (t2 - ptpIngress s) (ptpSentAt s) 0))) ∧
    (ptpP2p s = true → s.eth.ptp.reqAt = some t1 →
      Answers (exec (.ptpMessage ⟨true, v, l2, (.pdelayResp d me t2 t3 t5)⟩) s) (fun t =>
        t.eth.ptp.delay = some (((t5 - ptpIngress s - t1) - (t3 - t2)).tdiv 2)))) ∧
  (∀ (fcs : Bool) (v : Option (Nat × Nat)) (l2 : Bool) (m : PtpMsg) (s : State), s.ovl.units = [] → ptpOn s = true →
    macLive (getMac s (ptpMac s)) = true →
    let k := bodyFrames (.ptp l2 m)
    (fcs = true → PtpHears s v l2 → msgDomain m ≠ some (ptpDomain s) →
      exec (.ptpMessage ⟨fcs, v, l2, m⟩) s = .next (updMac (ptpMac s) (fun m => { m with nRx := m.nRx + k }) s)) ∧
    ((fcs = false ∨ vlanOk (getMac s (ptpMac s)) v = false) →
      exec (.ptpMessage ⟨fcs, v, l2, m⟩) s = .next (updMac (ptpMac s) (fun m => { m with nRx := m.nRx + k, nDisc := m.nDisc + k }) s))) ∧
  (∀ s : State, s.eth.ptp.state = 9 → s.eth.ptp.lastSync + 4 * logNs (fld s.eth.ptp.cfg 15 12) ≤ s.clk →
    Answers (exec .ptpSyncTimeout s) (fun t => t.tb.wallPtp = false ∧ t.eth.ptp = s.eth.ptp)) ∧
  (∀ (k : PtpTimer) (s : State), s.ovl.units = [] → ptpTimerDue k s = false → exec (.ptpPortTimer k) s = .next s) ∧
  (∀ s : State, s.ovl.units = [] →
    (ptpTimerDue .announceSend s = true → Answers (exec (.ptpPortTimer .announceSend) s) (fun t => t.eth.ptp.sentAnn = some s.clk ∧
      PtpSent s t (.announce (ptpDomain s) (ptpOwn s) 0xA0 s.silo.utcOffset true))) ∧
    (ptpTimerDue .syncSend s = true → Answers (exec (.ptpPortTimer .syncSend) s) (fun t => t.eth.ptp.sentSync = some s.clk ∧
      PtpSent s t (.sync (ptpDomain s) (ptpOwn s).identity (ptpSentAt s) 0))) ∧
    (ptpTimerDue .delayReq s = true → Answers (exec (.ptpPortTimer .delayReq) s) (fun t => t.eth.ptp.reqAt = some (ptpSentAt s) ∧
      t.eth.ptp.sentReq = some s.clk ∧
      PtpSent s t (if ptpP2p s then .pdelayReq (ptpDomain s) (ptpOwn s).identity 0 else .delayReq (ptpDomain s) (ptpOwn s).identity 0))) ∧
    (ptpTimerDue .announceTimeout s = true →
      Answers (exec (.ptpPortTimer .announceTimeout) s) (fun t => t.eth.ptp.state = (if ptpRole s = 1 then 4 else 6) ∧
        t.eth.ptp.master = none)))

/-- 13 R326, R332, R335, R336, R340: T0 sets MACs, the mailbox port, process data, topology counters and PTP; settings and counters are
read. -/
def Obligations.NetworkCommands : Prop :=
  (∀ (ch : Fin 16) (n : Byte) (cfg mac ip gw : Word) (s : State), tenantOf s ch = 0 → Changes s → n.toNat < 3 →
    fld cfg 36 25 ≠ 4095 → 8 ≤ fld ip 15 10 → fld ip 15 10 ≤ 30 →
    MbDone .mbEthSet ch ([n, 1#8] ++ wB cfg ++ wB mac ++ wB ip ++ wB gw) s (fun t =>
      getMac t n.toNat = { getMac s n.toNat with cfg := setBit (cfg &&& 0xFFFFFFFF0000#48) 45 true, mac, ip := ip &&& 0xFFFFFFFFFC00#48,
                                                 gw := gw &&& 0xFFFFFFFF0000#48 } ∧
      ∀ m, m ≠ n.toNat → getMac t m = getMac s m)) ∧
  (∀ (ch : Fin 16) (n en k tn pre : Byte) (ip : Nat) (s : State), tenantOf s ch = 0 → Changes s → n.toNat < 3 → en.toNat ≤ 1 → k.toNat ≤ 1 →
    tn.toNat ≤ 31 → ip < 2 ^ 32 → 8 ≤ pre.toNat → pre.toNat ≤ 30 →
    MbDone .mbEthSet ch ([n, 0#8, en, k, tn] ++ toBe 4 ip ++ [pre]) s (fun t =>
      (bit (getMac t n.toNat).cfg 47 = true ↔ en.toNat = 1) ∧ bit (getMac t n.toNat).cfg 45 = false ∧ macVid (getMac t n.toNat) = 0 ∧
      macIp (getMac t n.toNat) = ip ∧ macPrefix (getMac t n.toNat) = pre.toNat ∧ (getMac t n.toNat).mac = ({} : EthMac).mac)) ∧
  (∀ (ch : Fin 16) (port : Nat) (s : State), tenantOf s ch = 0 → Changes s → 0 < port → port < 2 ^ 16 →
    MbDone .mbEthPortSet ch (toBe 2 port) s (fun t => t.eth = { s.eth with port := port })) ∧
  (∀ (ch : Fin 16) (n : Byte) (s : State), NotCarried s ch → n.toNat < 3 →
    let m := getMac s n.toNat
    MbReads .mbEthStat ch [n] s (wB m.cfg ++ wB m.mac ++ wB m.ip ++ bB m.up ++ toBe 4 m.nRx ++ toBe 4 m.nTx ++ toBe 4 m.nDisc ++ toBe 4 m.nArp ++
      toBe 4 m.nReasm)) ∧
  (∀ (ch : Fin 16) (k : Byte) (pd com ip src : Word) (s : State), tenantOf s ch = 0 → Changes s →
    let e : Trdp := { pd := setBit pd 41 true, com := com &&& 0xFFFFFFFF0000#48, ip := ip &&& 0xFFFFFFFF0000#48, src := src &&& 0xFFFFFFFF0000#48 }
    trdpMac e ≤ 2 → fld e.pd 37 36 ≤ 1 → 1 ≤ trdpCount e → trdpCount e ≤ 64 → 1 ≤ fld e.pd 13 0 → fld e.pd 13 0 ≤ 10000 →
    trdpBlockOk s k.toNat e = true → (macComs s (trdpMac e) 1024 k.toNat).contains (trdpCom e, trdpPub e) = false →
    MbDone .mbTrdpSet ch ([k, 1#8] ++ wB pd ++ wB com ++ wB ip ++ wB src) s (fun t =>
      let x := getTrdp t k.toNat
      x.pd = e.pd ∧ x.com = e.com ∧ x.ip = e.ip ∧ x.src = e.src ∧ x.last = none ∧ x.timedOut = false ∧ x.lastAt = s.clk ∧
      ∀ j, j ≠ k.toNat → getTrdp t j = getTrdp s j)) ∧
  (∀ (ch : Fin 16) (k : Byte) (s : State), NotCarried s ch → (tenantOf s ch = 0 ∨ trdpTenant (getTrdp s k.toNat) = tenantOf s ch) →
    let e := getTrdp s k.toNat
    MbReads .mbTrdpGet ch [k] s (wB e.pd ++ wB e.com ++ wB e.ip ++ wB e.src ++ toBe 4 e.nOk ++ toBe 4 e.nDisc ++ toBe 4 e.nTmo ++
      toBe 4 (e.last.getD 0) ++ toBe 4 (trdpDigest s k.toNat) ++ toBe 1 (tget [] s.flash.accepted (2 * 65536 + k.toNat)).length)) ∧
  (∀ (ch : Fin 16) (a b : Nat) (s : State), tenantOf s ch = 0 → Changes s → a < 2 ^ 32 → b < 2 ^ 32 →
    MbDone .mbTrdpTopoSet ch (toBe 4 a ++ toBe 4 b) s (fun t => t.eth = { s.eth with etb := a, opTrn := b })) ∧
  (∀ (ch : Fin 16) (cfg lat : Word) (s : State), tenantOf s ch = 0 → Changes s →
    let c := setBit (cfg &&& 0xFFFFFFFFFFF0#48) 40 true
    fld c 46 45 ≤ 2 → fld c 43 42 ≤ 2 → -4 ≤ sgn 4 (fld c 15 12) → sgn 4 (fld c 15 12) ≤ 4 → 0 ≤ sgn 4 (fld c 11 8) → sgn 4 (fld c 11 8) ≤ 4 →
    -4 ≤ sgn 4 (fld c 7 4) → sgn 4 (fld c 7 4) ≤ 5 →
    MbDone .mbPtpSet ch ([1#8] ++ wB cfg ++ wB lat) s (fun t => t.eth.ptp.cfg = c ∧ t.eth.ptp.lat = lat &&& 0xFFFFFFFF0000#48 ∧
      (bit c 47 = false → t.eth.ptp.state = 3) ∧
      (bit c 47 = true → bit s.eth.ptp.cfg 47 = false → t.eth.ptp.master = none ∧
        t.eth.ptp.state = if (getMac s (fld c 46 45)).up then 4 else 1))) ∧
  (∀ (ch : Fin 16) (s : State), NotCarried s ch →
    MbReads .mbPtpStat ch [] s (toBe 1 s.eth.ptp.state ++ toBe 8 ((s.eth.ptp.master.map (·.identity)).getD (ptpOwn s).identity) ++
      toBe 6 (umod 48 s.eth.ptp.offset) ++ toBe 6 (umod 48 (s.eth.ptp.delay.getD 0)) ++
      toBe 6 (umod 48 (divNear (s.tb.rho * 2 ^ 40) 1000000000)) ++ wB (tbTrust s)))

/-! ### The Pass chain (14) -/

/-- 14 R342 to R348, R355, R357: ports come and go, a numbered frame in order advances its port and waits at the other, one out of order is
asked for again, what waits leaves with the next number, resends and idle frames are sent; markers and publications take effect. -/
def Obligations.PassLinks : Prop :=
  (∀ (p : Fin 2) (up : Bool) (s : State), passOn s = true → (getPort s p.val).up ≠ up →
    (up = true → s.pass.downUntil ≤ s.clk) →
    Answers (exec (.passPortChange p up) s) (fun t => (getPort t p.val).up = up ∧ (getPort t p.val).refused = false ∧
      (getPort t p.val).retry = [] ∧ (getPort t p.val).waiting = [] ∧ (getPort t p.val).rxSeq = 0 ∧ (getPort t p.val).txSeq = 0 ∧
      (up = true → t.out.drop 16 = s.out ∧
        (t.out.take 16).all (fun o => match o with | .pass q g => q == p.val && g.body == .echo (devtime s) 0 | _ => false) = true) ∧
      t.pass.cstate = 1 ∧ t.pass.recAt = s.clk ∧ ∀ c, c < 16 → (getChan s c).isOpen = true → (getChan t c).latch.getLsbD 8 = true)) ∧
  (∀ (p : Fin 2) (s : State), passOn s = true → (getPort s p.val).up = true → (getPort s p.val).echoN = 16 →
    let d := (getPort s p.val).echoD
    (d ≤ passDlyMax s → exec (.passEchoComplete p d) s = .next (updPort p.val (fun x => { x with d, echoN := 17 }) s)) ∧
    (passDlyMax s < d → Answers (exec (.passEchoComplete p d) s) (fun t => (getPort t p.val).d = d ∧ (getPort t p.val).refused = true ∧
      t.pass.cstate = 1))) ∧
  (∀ (p : Fin 2) (f : PassFrame) (dep turn : Nat) (s : State),
    let x := getPort s p.val
    passOn s = true → x.up = true → x.refused = false → passFormat f = true →
    passHeldCredits s p.val + passCredits f.len ≤ 256 → f.fcsOk = true →
    (f.body = .echo dep 0 → Answers (exec (.passFrameReceived p f) s) (fun t => ∃ w : Word,
      (x.waiting = [] → x.again = [] → x.link = [] → 1 ≤ portCredits { x with credRx := f.credit % 65536 } →
        ∃ g, t.out = .pass p.val g :: s.out ∧ g.body = .echo dep (Nat.max 1 (fld w 31 0))) ∧
      (x.waiting ≠ [] → t.out = s.out ∧ (getPort t p.val).link = x.link ++ [.echo dep (Nat.max 1 (fld w 31 0))]))) ∧
    (f.body = .echo dep (turn + 1) → x.echoN < 16 → Answers (exec (.passFrameReceived p f) s) (fun t =>
      (getPort t p.val).echoN = x.echoN + 1 ∧
      (getPort t p.val).echoD = Nat.max x.echoD ((umod 48 ((devtime s : Int) - dep) - (turn + 1)) / 2)))) ∧
  (∀ (p : Fin 2) (f : PassFrame) (s : State),
    let x := getPort s p.val
    passOn s = true → x.up = true → x.refused = false → passFormat f = true →
    passHeldCredits s p.val + passCredits f.len ≤ 256 → passNumbered f.body = true →
    (f.fcsOk = true → f.lseq = (x.rxSeq + 1) % 65536 →
      Answers (exec (.passFrameReceived p f) s) (fun t => (getPort t p.val).rxSeq = f.lseq ∧ (getPort t p.val).gap = none ∧
        (portLive s (1 - p.val) = true → ∃ w, (getPort t (1 - p.val)).waiting = (getPort s (1 - p.val)).waiting ++ [w] ∧ w.frame = f) ∧
        (e2eRight f = false → t.img = s.img))) ∧
    (f.fcsOk = true → f.lseq = (x.rxSeq + 1) % 65536 → e2eRight f = true → f.origin = s.pass.master → passRole s ≠ 3 → ∀ e a, f.body = .marker e a →
      Answers (exec (.passFrameReceived p f) s) (fun t => (getPort t p.val).rxSeq = f.lseq ∧ t.pass.cycle = f.cycle ∧
        t.pass.cycAt = s.clk - a - x.d ∧ t.pass.ecycle = e / 1000 ∧ t.pass.gridOn = true ∧ t.pass.markers = s.pass.markers + 1 ∧
        (portLive s (1 - p.val) = true → ∃ w, (getPort t (1 - p.val)).waiting = (getPort s (1 - p.val)).waiting ++ [w] ∧ w.frame = f))) ∧
    (f.fcsOk = true → f.lseq = (x.rxSeq + 1) % 65536 → e2eRight f = true → ∀ n q ws, f.body = .pub [⟨n, q, ws⟩] → f.frags = 0 → f.frag = 0 →
      passIn s = true → f.origin ≠ s.pass.ownPos → n < 320 → ownPOS (plotOwn s n) = f.origin → ws.length = 64 → ownBuffer s = false →
      (tget {} s.pass.pub (f.origin * 16 + f.group)).part = none →
      (∀ l, (tget {} s.pass.pub (f.origin * 16 + f.group)).last = some l → (tget {} s.pass.pub (f.origin * 16 + f.group)).lost = false →
        1 ≤ (f.cycle + 2 ^ 32 - l) % 2 ^ 32 ∧ (f.cycle + 2 ^ 32 - l) % 2 ^ 32 ≤ 0x7FFFFFFF) →
      Answers (exec (.passFrameReceived p f) s) (fun t =>
        (∀ i, (h : i < ws.length) → tget none s.task.force (64 * n + i) = none → imgWord t (64 * n + i) = ws[i]) ∧
        (∀ w, (w < 64 * n ∨ 64 * n + 64 ≤ w) → imgWord t w = imgWord s w) ∧ (getPlot t n).pubLost = false ∧ (getPlot t n).valid = true ∧
        (tget {} t.pass.pub (f.origin * 16 + f.group)).last = some f.cycle)) ∧
    (f.fcsOk = true → f.lseq ≠ (x.rxSeq + 1) % 65536 → x.gap = none →
      Answers (exec (.passFrameReceived p f) s) (fun t => (getPort t p.val).rxSeq = x.rxSeq ∧ (getPort t p.val).gap = some s.clk ∧
        (x.waiting = [] → x.again = [] → x.link = [] → 1 ≤ portCredits { x with credRx := f.credit % 65536 } →
          ∃ g, t.out = .pass p.val g :: s.out ∧ g.body = .resend ((x.rxSeq + 1) % 65536)) ∧
        (x.waiting ≠ [] → PassBody.resend ((x.rxSeq + 1) % 65536) ∈ (getPort t p.val).link) ∧
        (getPort t (1 - p.val)).waiting = (getPort s (1 - p.val)).waiting)) ∧
    (f.fcsOk = false → Answers (exec (.passFrameReceived p f) s) (fun t => (getPort t p.val).nFcs = x.nFcs + 1 ∧
      (getPort t p.val).rxSeq = x.rxSeq ∧ t.img = s.img))) ∧
  (∀ (p : Fin 2) (w : PassWait) (ws : List PassWait) (s : State), (getPort s p.val).again = [] → (getPort s p.val).waiting = w :: ws →
    portReady s p.val w.frame.len = true →
    Answers (exec (.passForward p) s) (fun t => (getPort t p.val).waiting = ws ∧
      (getPort t p.val).txSeq = ((getPort s p.val).txSeq + 1) % 65536 ∧
      ∃ g, t.out = .pass p.val g :: s.out ∧ g.lseq = ((getPort s p.val).txSeq + 1) % 65536 ∧ g.lack = (getPort s p.val).rxSeq ∧
        g.hops = Nat.min 255 (w.frame.hops + 1) ∧ g.origin = w.frame.origin ∧ g.cycle = w.frame.cycle ∧
        ((∀ e a, w.frame.body ≠ .marker e a) → g.body = w.frame.body) ∧
        ∀ e a, w.frame.body = .marker e a → g.body = .marker e (a + w.d + (s.clk - w.at_)))) ∧
  (∀ (p : Fin 2) (b : PassBody) (bs : List PassBody) (s : State), (getPort s p.val).again = [] → (getPort s p.val).waiting = [] →
    (getPort s p.val).link = b :: bs → portFree (getPort s p.val) = true →
    Answers (exec (.passForward p) s) (fun t => (getPort t p.val).link = bs ∧ (getPort t p.val).txSeq = (getPort s p.val).txSeq ∧
      ∃ g, t.out = .pass p.val g :: s.out ∧ ((∀ d, b ≠ .echo d 0) → g.body = b))) ∧
  (∀ (p : Fin 2) (f : PassFrame) (fs : List PassFrame) (s : State), (getPort s p.val).again = [] → (getPort s p.val).waiting = [] →
    (getPort s p.val).link = [] → (getPort s p.val).own = f :: fs →
    portReady s p.val f.len = true →
    Answers (exec (.passForward p) s) (fun t => (getPort t p.val).own = fs ∧ ∃ g, t.out = .pass p.val g :: s.out ∧ g.body = f.body ∧
      g.hops = f.hops ∧ g.lseq = ((getPort s p.val).txSeq + 1) % 65536)) ∧
  (∀ (p : Fin 2) (g0 : Nat) (s : State), (getPort s p.val).gap = some g0 → portLive s p.val = true → g0 + 10000 ≤ s.clk →
    Answers (exec (.passResendTimer p) s) (fun t => (getPort t p.val).gap = some s.clk ∧
      ((getPort s p.val).waiting = [] → (getPort s p.val).again = [] → (getPort s p.val).link = [] → 1 ≤ portCredits (getPort s p.val) →
        ∃ g, t.out = .pass p.val g :: s.out ∧ g.body = .resend (((getPort s p.val).rxSeq + 1) % 65536)) ∧
      ((getPort s p.val).waiting ≠ [] → PassBody.resend (((getPort s p.val).rxSeq + 1) % 65536) ∈ (getPort t p.val).link))) ∧
  (∀ (p : Fin 2) (s : State),
    let x := getPort s p.val
    let found := x.retry.find? (fun h => h.frame.lseq == x.txSeq && decide (h.times < 2) && !h.void)
    portLive s p.val = true → x.txSeq < 65536 →
    (∀ lseq, lseq < 65536 → 32768 < (x.txSeq + 65537 - lseq) % 65536 → exec (.passResendReceived p lseq) s = .next s) ∧
    (∀ h, found = some h → passCredits h.frame.len ≤ portCredits x → Answers (exec (.passResendReceived p x.txSeq) s) (fun t =>
      (getPort t p.val).nResend = x.nResend + 1 ∧ (getPort t p.val).again = [] ∧
      ∃ g, t.out = .pass p.val g :: s.out ∧ g.body = h.frame.body ∧ g.lseq = h.frame.lseq ∧ g.lack = x.rxSeq)) ∧
    (∀ h, found = some h → portCredits x < passCredits h.frame.len →
      exec (.passResendReceived p x.txSeq) s = .next (updPort p.val (fun x => { x with again := [x.txSeq] }) s)) ∧
    (found = none → 1 ≤ portCredits x → Answers (exec (.passResendReceived p x.txSeq) s) (fun t => (getPort t p.val).nResend = x.nResend ∧
      ∃ g, t.out = .pass p.val g :: s.out ∧ g.body = .skip x.txSeq))) ∧
  (∀ (p : Fin 2) (s : State),
    let x := getPort s p.val
    passOn s = true → s.pass.downUntil ≤ s.clk → x.lastTx + 1000 ≤ s.clk → portFree x = true → portCanStart s p.val = false →
    (x.up = false ∨ x.refused = true ∨ 16 ≤ x.echoN ∨ s.clk < x.echoAt + 50000 → Answers (exec (.passIdleSend p) s) (fun t =>
      (getPort t p.val).lastTx = s.clk ∧ ∃ g, t.out = .pass p.val g :: s.out ∧ g.body = .idle)) ∧
    (x.up = true → x.refused = false → x.echoN < 16 → x.echoAt + 50000 ≤ s.clk → Answers (exec (.passIdleSend p) s) (fun t =>
      (getPort t p.val).lastTx = s.clk ∧ ∃ g, t.out = .pass p.val g :: s.out ∧ g.body = .echo (devtime s) 0)))

/-- 14 R349 to R356, R358, R363, R367: inauguration ends with the lowest position as master, the master sends the markers of the grid, every
device publishes in its slot, lost publications are marked, announced changes take effect at their cycle, and T0 configures the chain. -/
def Obligations.PassChain : Prop :=
  (∀ s : State, passOn s = true → s.pass.cstate = 1 →
    Answers (exec .inaugSend s) (fun t => ∀ p, p < 2 → portLive s p = true → ∃ g, (getPort t p).own = (getPort s p).own ++ [g] ∧
      g.body = .inaug (ownRecord s))) ∧
  (∀ s : State, passOn s = true → s.pass.cstate = 1 → s.pass.recAt + 1000000 ≤ s.clk → s.pass.ring = false → s.pass.ownPos ≠ 0 →
    Answers (exec .inaugComplete s) (fun t => (t.pass.cstate = 2 ∨ t.pass.cstate = 3 ∨ t.pass.cstate = 4) ∧
      ∀ c, c < 16 → (getChan s c).isOpen = true → (getChan t c).latch.getLsbD 8 = true) ∧
    (s.pass.records = [] → Answers (exec .inaugComplete s) (fun t => t.pass.master = s.pass.ownPos ∧
      (t.pass.cstate = 3 ∨ (t.pass.cstate = 4 ∧ t.pass.gcause = 4)) ∧
      ∀ c, c < 16 → (getChan s c).isOpen = true → (getChan t c).latch.getLsbD 8 = true)) ∧
    (∀ r side hops at_, s.pass.records = [⟨r, side, hops, at_⟩] → portLive s (b2n side) = true → recKey r = recKey (ownRecord s) → r.pos ≠ s.pass.ownPos → r.pos ≠ 0 →
      Answers (exec .inaugComplete s) (fun t => t.pass.master = Nat.min r.pos s.pass.ownPos ∧
        ((t.pass.cstate = if r.pos < s.pass.ownPos then 2 else 3) ∨ (t.pass.cstate = 4 ∧ t.pass.gcause = 4)) ∧
        (t.pass.orient = true ↔ r.pos < s.pass.ownPos ∧ side = false)))) ∧
  (∀ s : State, passOn s = true → passRole s = 3 → serving s = true →
    (s.pass.gridOn = true → s.pass.ecycle ≠ 0 → s.pass.cycAt + s.pass.ecycle * 1000000 ≤ s.clk →
      Answers (exec .markerSend s) (fun t => t.pass.cycle = (s.pass.cycle + 1) % 2 ^ 32 ∧ t.pass.cycAt = s.pass.cycAt + s.pass.ecycle * 1000000 ∧
        t.pass.markers = s.pass.markers + 1 ∧ ∀ p, p < 2 → portLive s p = true → ∃ g, (getPort t p).own = (getPort s p).own ++ [g] ∧
          g.cycle = (s.pass.cycle + 1) % 2 ^ 32 ∧
          g.body = .marker (s.pass.ecycle * 1000) 0)) ∧
    (s.pass.gridOn = false → devtime s % 1000000 = 0 →
      Answers (exec .markerSend s) (fun t => t.pass.gridOn = true ∧ t.pass.cycAt = s.clk ∧ t.pass.cycle = (s.pass.cycle + 1) % 2 ^ 32))) ∧
  (∀ s : State, passOn s = true → s.pass.gridOn = true →
    let r := gridOnward s
    2 ≤ passRole r → serving r = true → r.pass.slotAt ≠ some r.pass.cycle →
    (passIn r = true → ∀ c ∈ r.pass.announced, numReached r.pass.cycle c.cycle = false) →
    slotOffset r ≤ 10 * (r.clk - r.pass.cycAt) →
    Answers (exec .publishSlot s) (fun t => t.pass.slotAt = some r.pass.cycle ∧ t.img.word = s.img.word ∧
      ∀ p, p < 2 → portLive s p = true → ∃ g a, (getPort t p).own =
        (getPort s p).own ++ (if passIn r then ((List.range 16).flatMap (groupFrames r)).map (fun f => { passSeal f with sender := s.pass.id + p }) else []) ++
          [g] ∧ g.body = .advert a ∧
        a.inaug.passId = s.pass.id)) ∧
  (∀ (o : Fin 256) (g : Fin 16) (s : State), passOn s = true → passIn s = true → o.val ≠ s.pass.ownPos → groupPlots s o.val g.val ≠ [] →
    (tget {} s.pass.pub (o.val * 16 + g.val)).lost = false → (tget {} s.pass.pub (o.val * 16 + g.val)).seen + passPtmo s ≤ s.pass.markers →
    Answers (exec (.pubTimeout o g) s) (fun t => (tget {} t.pass.pub (o.val * 16 + g.val)).lost = true ∧
      (∀ n ∈ groupPlots s o.val g.val, (getPlot t n).pubLost = true) ∧ t.img.word = s.img.word)) ∧
  (∀ (c : ChainChange) (s : State), passIn s = true → s.pass.gridOn = true →
    s.pass.announced.filter (fun c => numReached s.pass.cycle c.cycle) = [c] →
    let left := s.pass.announced.filter (· != c)
    let r := { s with pass := { s.pass with announced := left, late := s.pass.late.filter (· != c), applied := (c :: s.pass.applied).take 8 } }
    (c.kind = 2 → u8 c.payload 0 ≠ 0 → Answers (exec .chainChangeApply s) (fun t => t.pass.ecycle = u8 c.payload 0 ∧
      (passRole s = 2 → t.pass.announced = left))) ∧
    (c.kind = 1 → Answers (exec .chainChangeApply s) (fun t => (passRole s = 2 → t.pass.announced = left) ∧
      t.pass.cfg = setFld (setFld s.pass.cfg 34 28 (fld (passRequest c.payload) 34 28)) 27 24 (fld (passRequest c.payload) 27 24))) ∧
    (c.kind = 0 → ∀ u, plotChange c.cmd c.tenant c.payload r = some u → Answers (exec .chainChangeApply s) (fun t => t.img = u.img ∧
      ∀ ch, ch < 16 → (c, ch) ∈ u.pass.waiting → (getChan t ch).result = some (0x0000, []))) ∧
    (3 ≤ c.kind → ∀ u, switchApply c r = some u → Answers (exec .chainChangeApply s) (fun t => t.ovl = u.ovl ∧
      ∀ ch, ch < 16 → (c, ch) ∈ u.pass.waiting → (getChan t ch).result = some (0x0000, []))) ∧
    (c.kind = 0 → plotChange c.cmd c.tenant c.payload r = none → Answers (exec .chainChangeApply s) (fun t => t.img = s.img ∧
      t.pass.announced = left ∧ ∀ ch, ch < 16 → (c, ch) ∈ s.pass.waiting → (getChan t ch).result = some (0x0016, [])))) ∧
  (∀ (ch : Fin 16) (w : Word) (s : State), tenantOf s ch = 0 → updating s = false → devMode s = 1 →
    let c := setBit (w &&& 0xFFFFFFFF0000#48) 38 true
    1 ≤ fld c 47 40 → 1 ≤ fld c 34 28 → fld c 34 28 ≤ 100 → 2 ≤ fld c 27 24 → 10 ≤ fld c 23 16 → fld c 23 16 ≤ 200 →
    (passOn s = false → MbDone .mbPassSet ch ([1#8] ++ wB w) s (fun t => t.pass.cfg = c ∧
      (fld s.pass.cfg 47 39 ≠ fld c 47 39 → t.pass.cstate = if bit c 39 then 1 else 0))) ∧
    (passOn s = true → bit c 39 = true → fld s.pass.cfg 47 35 = fld (setBit c 38 (bit s.pass.cfg 38)) 47 35 →
      (fld s.pass.cfg 34 28 ≠ fld c 34 28 ∨ fld s.pass.cfg 27 24 ≠ fld c 27 24) → s.pair.applying = false → s.pass.cstate = 2 →
      chainPending s < 8 →
      MbWaits .mbPassSet ch ([1#8] ++ wB w) s (fun t => fld t.pass.cfg 34 24 = fld s.pass.cfg 34 24 ∧
        t.pass.waiting = s.pass.waiting ++ [(⟨1, 0x0A30, 0, [1#8] ++ wB w, 0⟩, ch.val)]))) ∧
  (∀ (ch : Fin 16) (s : State), NotCarried s ch →
    MbReads .mbPassStat ch [] s (wB (passStat s) ++ toBe 6 s.pass.id ++ toBe 4 s.pass.cycle ++ toBe 4 (chainHash s) ++
      (List.range 2).flatMap (fun i => toBe 4 (getPort s i).d ++ toBe 2 (portCredits (getPort s i)) ++ toBe 4 (getPort s i).nRx ++
        toBe 4 (getPort s i).nTx ++ toBe 4 (getPort s i).nFcs ++ toBe 4 (getPort s i).nResend ++ toBe 4 (getPort s i).nDisc)) ∧
    (∀ a c : Byte, 1 ≤ a.toNat → 1 ≤ c.toNat → c.toNat ≤ 64 → a.toNat + c.toNat ≤ 256 →
      MbReads .mbPassMembers ch [a, c] s ((span a.toNat c.toNat).flatMap (fun i => wB (memberWord (memberOf s i)) ++ toBe 6 (memberOf s i).passId ++
        toBe 1 (memberOf s i).fw.1 ++ toBe 1 (memberOf s i).fw.2.1 ++ toBe 1 (memberOf s i).fw.2.2 ++ toBe 4 (memberOf s i).hash))) ∧
    MbReads .mbPassBudget ch [] s (toBe 4 (passBudget s).2.2.2 ++ toBe 4 (passBudget s).1 ++ toBe 4 (passBudget s).2.1 ++
      toBe 4 (passBudget s).2.2.1 ++ toBe 1 s.pass.ecycle)) ∧
  (∀ (ch : Fin 16) (s : State), tenantOf s ch = 0 → updating s = false → passOn s = true →
    MbDone .mbPassInaug ch [] s (fun t => t.pass.cstate = 1 ∧ t.pass.recAt = s.clk))

/-! ### The hot-standby pair (15) -/

/-- 15 R373 to R383, R385, R386: what a unit sends and hears, how it finds, takes and leaves its role, and how a standby takes the records
of its primary in order and replays its releases. -/
def Obligations.PairUnitsFollowEachOther : Prop :=
  (∀ s : State, pairRuns s = true → s.pair.sentAt + 2000 ≤ s.clk →
    Answers (exec .volleySend s) (fun t => t.pair = { s.pair with sentAt := s.clk } ∧ ∃ v, t.out = .volley v :: s.out ∧ v.crcOk = true ∧
      v.rstate = s.pair.rstate ∧ v.innings = s.silo.innings ∧ v.pairDevtime = wd (devtime s) ∧ v.ack = s.pair.rxNum ∧
      v.srvOut = decide (s.pair.rstate = 2 ∨ s.pair.rstate = 3) ∧ v.progHash = s.prog.hash ∧ v.cfgHash = s.ovl.hash)) ∧
  (∀ s : State, pairRuns s = true → pairBmac s ≠ 3 → macOn (getMac s (pairBmac s)) = true → (getMac s (pairBmac s)).up = true →
    s.pair.beaconAt + pairBper s * 1000000 ≤ s.clk →
    exec .pairBeaconSend s = .next { s with pair := { s.pair with beaconAt := s.clk }, out := .beacon ⟨true, s.pair.rstate, s.silo.innings, s.pair.unitB⟩ :: s.out }) ∧
  (∀ (v : Volley) (s : State), pairRuns s = true →
    (v.crcOk = false → Answers (exec (.volleyReceived v) s) (fun t => t.pair = { s.pair with badVolley := s.pair.badVolley + 1 })) ∧
    (v.crcOk = true →
      (s.pair.rstate = 4 → Answers (exec (.volleyReceived v) s) (fun t => t.pair.rstate = 4 ∧ t.pair.pRstate = v.rstate ∧ t.pair.pinn = v.innings ∧
        t.pair.volleyAt = some s.clk ∧ s.pair.ofs ≤ t.pair.ofs ∧ t.tb.wallW = (v.wallNs : Int) ∧ t.tb.rho = v.rho ∧
        ∀ r ∈ t.pair.unacked, r ∈ s.pair.unacked ∧ numReached v.ack r.num = false)) ∧
      (s.pair.rstate = 1 → (v.rstate = 2 ∨ v.rstate = 3) → Answers (exec (.volleyReceived v) s) (fun t =>
        ((pairMismatch (hearVolley v s)).1 = 0 → t.pair.rstate = 4) ∧
        ((pairMismatch (hearVolley v s)).1 ≠ 0 → t.pair.rstate = 6 ∧ t.pair.mcause = (pairMismatch (hearVolley v s)).1))) ∧
      (s.pair.rstate = 1 → v.rstate = 1 → s.pair.srvLvl = false →
        (v.innings < s.silo.innings ∨ (v.innings = s.silo.innings ∧ s.pair.unitB = false)) →
        Answers (exec (.volleyReceived v) s) (fun t => t.pair.rstate = 2)) ∧
      (s.pair.rstate = 3 → (v.rstate = 5 → Answers (exec (.volleyReceived v) s) (fun t => t.pair.rstate = 3)) ∧
        (v.rstate ≠ 5 → v.rstate ≠ 2 → v.rstate ≠ 3 → Answers (exec (.volleyReceived v) s) (fun t => t.pair.rstate = 2))) ∧
      (s.pair.rstate = 2 → v.rstate = 5 → s.pair.finalSent = true → Answers (exec (.volleyReceived v) s) (fun t => t.pair.rstate = 3 ∧
        t.pair.resyncs = s.pair.resyncs + 1)) ∧
      ((s.pair.rstate = 2 ∨ s.pair.rstate = 3) → (v.rstate = 2 ∨ v.rstate = 3) →
        Answers (exec (.volleyReceived v) s) (fun t =>
          ((s.silo.innings < v.innings ∨ (s.silo.innings = v.innings ∧ s.pair.unitB = true)) → t.pair.rstate ≠ 2 ∧ t.pair.rstate ≠ 3) ∧
          ((v.innings < s.silo.innings ∨ (s.silo.innings = v.innings ∧ s.pair.unitB = false)) → t.pair.rstate = s.pair.rstate))) ∧
      (s.pair.rstate = 5 → (pairMismatch (hearVolley v s)).1 ≠ 0 →
        Answers (exec (.volleyReceived v) s) (fun t => t.pair.rstate = 6 ∧ t.pair.mcause = (pairMismatch (hearVolley v s)).1 ∧ t.task.dev = 1)))) ∧
  (∀ (a : Nat) (s : State), pairRuns s = true → s.pair.volleyAt = some a → a + 8000 ≤ s.clk →
    (s.pair.syncOk = false → Answers (exec .syncPathSilent s) (fun t => t.pair = { s.pair with volleyAt := none })) ∧
    (s.pair.syncOk = true → s.pair.aliveOk = true → Answers (exec .syncPathSilent s) (fun t =>
      t.pair = { s.pair with volleyAt := none, syncOk := false, syncLost := true })) ∧
    (s.pair.syncOk = true → s.pair.aliveOk = false → s.pair.rstate = 5 → s.pair.pRstate ≠ 5 → Answers (exec .syncPathSilent s) (fun t =>
      t.pair.rstate = 2 ∧ t.silo.innings = Nat.max s.silo.innings s.pair.pinn + 1 ∧ t.pair.takeovers = s.pair.takeovers + 1)) ∧
    (s.pair.syncOk = true → s.pair.aliveOk = false → s.pair.rstate = 3 → Answers (exec .syncPathSilent s) (fun t => t.pair.rstate = 2 ∧
      t.silo.innings = s.silo.innings))) ∧
  (∀ s : State, pairRuns s = true → s.pair.aliveOk = true →
    (s.pair.syncOk = true → Answers (exec .alivePathSilent s) (fun t =>
      t.pair = { s.pair with aliveOk := false, aliveLost := true, heardAt := Nat.max s.pair.heardAt (s.clk - 4000) })) ∧
    (s.pair.syncOk = false → s.pair.rstate = 5 → s.pair.pRstate ≠ 5 → Answers (exec .alivePathSilent s) (fun t => t.pair.rstate = 2 ∧
      t.pair.aliveOk = false ∧ t.silo.innings = Nat.max s.silo.innings s.pair.pinn + 1))) ∧
  (∀ s : State, pairRuns s = true → s.pair.aliveOk = false →
    Answers (exec .alivePathRestored s) (fun t => t.pair = { s.pair with aliveOk := true, aliveLost := false, heardAt := s.clk })) ∧
  (∀ s : State, pairRuns s = true →
    (s.pair.srvLvl = true → Answers (exec (.srvInChange false) s) (fun t => t.pair.srvLvl = false ∧ t.pair.rstate = s.pair.rstate ∧
      t.pair.pinn = s.pair.pinn)) ∧
    (s.pair.srvLvl = false → s.pair.rstate = 1 → Answers (exec (.srvInChange true) s) (fun t => t.pair.srvLvl = true ∧ t.pair.rstate = 1 ∧
      t.pair.pinn = s.pair.pinn + (if s.pair.pRstate = 5 then 1 else 0))) ∧
    (s.pair.srvLvl = false → (s.pair.rstate = 2 ∨ s.pair.rstate = 3) → s.pair.pRstate ≠ 5 → s.silo.innings < s.pair.pinn →
      Answers (exec (.srvInChange true) s) (fun t => t.pair.rstate = 1))) ∧
  (∀ (a : Nat) (s : State), pairRuns s = true → s.pair.srvBad = some a → s.pair.srvOk = true → a + 100000 ≤ s.clk →
    Answers (exec .servePathMismatch s) (fun t => t.pair = { s.pair with srvOk := false })) ∧
  (∀ s : State, pairRuns s = true → s.pair.rstate = 1 → s.pair.srvLvl = false → s.pair.aliveOk = false → s.pair.heardAt + 50000000 ≤ s.clk →
    Answers (exec .pairStartTimeout s) (fun t => t.pair.rstate = 2 ∧ t.silo.innings = s.silo.innings + 1)) ∧
  (∀ (b : Beacon) (s : State), pairRuns s = true →
    (b.crcOk = true → b.rstate ≠ 2 → b.rstate ≠ 3 → Answers (exec (.pairBeaconReceived b) s) (fun t =>
      t.pair = { s.pair with pinn := b.innings, pRstate := b.rstate })) ∧
    (b.crcOk = true → (b.rstate = 2 ∨ b.rstate = 3) → (s.pair.rstate = 2 ∨ s.pair.rstate = 3) → s.silo.innings < b.innings →
      Answers (exec (.pairBeaconReceived b) s) (fun t => t.pair.rstate = 1 ∧ t.pair.pinn = b.innings)) ∧
    (b.crcOk = false → Answers (exec (.pairBeaconReceived b) s) (fun t => t.pair = { s.pair with badBeacon := s.pair.badBeacon + 1 }))) ∧
  (∀ (n : Nat) (ok : Bool) (r : PairRec) (s : State), pairRuns s = true →
    ((s.pair.rstate ≠ 4 ∧ s.pair.rstate ≠ 5 ∧ s.pair.rstate ≠ 7) ∨ (s.pair.pRstate ≠ 2 ∧ s.pair.pRstate ≠ 3)) →
    Answers (exec (.pairRecordReceived n ok r) s) (fun t => t.pair = { s.pair with badRecord := s.pair.badRecord + 1 } ∧ t.img = s.img)) ∧
  (∀ (n : Nat) (s : State), pairRuns s = true → (s.pair.rstate = 4 ∨ s.pair.rstate = 5 ∨ s.pair.rstate = 7) →
    (s.pair.pRstate = 2 ∨ s.pair.pRstate = 3) →
    (∀ r, Answers (exec (.pairRecordReceived n false r) s) (fun t => t.pair.badRecord = s.pair.badRecord + 1 ∧
      t.pair.gapAt = s.pair.gapAt.or (some s.clk) ∧ t.pair.rxNum = s.pair.rxNum ∧ t.img = s.img)) ∧
    (s.pair.rxNew = false → n = (s.pair.rxNum + 1) % 2 ^ 32 →
      (∀ (w : Nat) (x : Word), tget none s.task.force w = none → Answers (exec (.pairRecordReceived n true (.unit [(w, x)])) s) (fun t =>
        t.pair.rxNum = n ∧ t.pair.gapAt = none ∧ t.pair.lastUnit = n ∧ imgWord t w = x ∧ ∀ y, y ≠ w → imgWord t y = imgWord s y)) ∧
      (∀ k seg7 quals u c, s.pair.rstate = 5 → Answers (exec (.pairRecordReceived n true (.release k seg7 quals u c)) s) (fun t =>
        t.pair.rxNum = n ∧ t.pair.releases = s.pair.releases ++ [⟨k, seg7, quals, u, c⟩] ∧ t.img = s.img)) ∧
      (∀ kind i q, Answers (exec (.pairRecordReceived n true (.send kind i q)) s) (fun t =>
        tget none t.pair.carried (kind * 65536 + i) = some q ∧ t.img = s.img))) ∧
    (∀ r, s.pair.rxNew = false → n ≠ (s.pair.rxNum + 1) % 2 ^ 32 → numReached s.pair.rxNum n = false →
      exec (.pairRecordReceived n true r) s = .next { s with pair := { s.pair with gapAt := s.pair.gapAt.or (some s.clk) } })) ∧
  (∀ s : State, pairRuns s = true →
    (∀ r rs, s.pair.rstate = 3 → s.pair.unacked = r :: rs → r.at_ + 100000 ≤ s.clk → Answers (exec .recordAckTimeout s) (fun t =>
      t.pair.rstate = 2 ∧ t.pair.unacked = [])) ∧
    (∀ a, s.pair.rstate = 5 → s.pair.gapAt = some a → a + 100000 ≤ s.clk → Answers (exec .recordAckTimeout s) (fun t =>
      t.pair.rstate = if pairAuto s then 4 else 6))) ∧
  (∀ (r : PairRel) (rs : List PairRel) (s : State), pairRuns s = true → s.pair.held = [] → s.pair.releases = r :: rs → taskEx s r.task = none →
    s.pair.rstate = 5 → numReached s.pair.lastUnit r.lastUnit = true → numReached s.pair.lastCommit r.lastCommit = true →
    Answers (exec .replayRelease s) (fun t => t.pair.releases = rs ∧ ∃ e, taskEx t r.task = some e ∧ e.replay = true ∧ e.seg7 = r.seg7 ∧
      e.tenant = taskTenant t r.task ∧ e.n = 0 ∧ (taskEnt t r.task).scancnt = (taskEnt s r.task).scancnt + 1#48))

/-- 15 R384, R388 to R390, R393: resynchronisation and its failures, the handover, the program swap, and the commands of the pair. -/
def Obligations.PairResyncsAndHandsOver : Prop :=
  (∀ (r : ResyncPage) (s : State), pairRuns s = true → s.pair.resync ≠ none →
    (s.pair.rstate = 2 → finalRound s = false →
      let ws := pagesToSend s.pair.sentData s
      (r.final = false ∨ (liveTasks s = [] ∧ cyclicSoon s = false ∧ pageCount ws * 6144 ≤ 100000)) →
      Answers (exec (.resyncRound r) s) (fun t => t.pair.pages = s.pair.pages + pageCount ws ∧ t.pair.finalSent = (s.pair.finalSent || r.final) ∧
        t.pair.sentData = s.core.data ∧ t.out = .page (ownPage r.final ws s) :: s.out)) ∧
    (s.pair.rstate = 4 → (s.pair.pRstate = 2 ∨ s.pair.pRstate = 3) → (r.dataWords.map (·.1)).Nodup → (r.image.map (·.1)).Nodup →
      (r.final = false → Answers (exec (.resyncRound r) s) (fun t => t.pair.rstate = 4 ∧ (∀ e ∈ r.dataWords, wget t.core.data e.1 = e.2) ∧
        (∀ e ∈ r.image, imgWord t e.1 = e.2) ∧ t.task.dev = r.modes.headD s.task.dev ∧ t.task.gridA = some r.grid)) ∧
      (r.final = true → (pairMismatch s).1 = 0 → Answers (exec (.resyncRound r) s) (fun t => t.pair.rstate = 5 ∧
        (∀ e ∈ r.dataWords, wget t.core.data e.1 = e.2) ∧ (∀ e ∈ r.image, imgWord t e.1 = e.2) ∧ t.pair.resyncs = s.pair.resyncs + 1 ∧
        t.pair.resync = none ∧ ∀ c, c < 16 → s.pair.waitCh = some c → (getChan t c).result = some (0x0000, []))) ∧
      (r.final = true → (pairMismatch s).1 ≠ 0 → Answers (exec (.resyncRound r) s) (fun t => t.pair.rstate = 6 ∧
        t.pair.mcause = (pairMismatch s).1)))) ∧
  (∀ (a : Nat) (s : State), pairRuns s = true → s.pair.resync = some a → a + 10000000000 ≤ s.clk →
    (s.pair.rstate = 4 → s.pair.failed < 2 → Answers (exec .resyncTimeout s) (fun t => t.pair.rstate = 4 ∧ t.pair.resync = none ∧
      t.pair.failed = s.pair.failed + 1 ∧ t.pair.retryAt = some (s.clk + 1000000000))) ∧
    (s.pair.rstate = 4 → 2 ≤ s.pair.failed → Answers (exec .resyncTimeout s) (fun t => t.pair.rstate = 6 ∧ t.pair.mcause = 6)) ∧
    (s.pair.rstate ≠ 4 → Answers (exec .resyncTimeout s) (fun t => t.pair.rstate = s.pair.rstate ∧ t.pair.resync = none ∧
      t.pair.retryAt = some (s.clk + 1000000000)))) ∧
  (∀ (a : Nat) (s : State), pairRuns s = true → s.pair.retryAt = some a → a ≤ s.clk →
    ((s.pair.rstate = 4 ∨ (s.pair.rstate = 2 ∧ s.pair.pRstate = 4)) → Answers (exec .resyncRetry s) (fun t => t.pair.resync = some s.clk ∧
      t.pair.pages = 0 ∧ t.pair.retryAt = none ∧ t.pair.rstate = s.pair.rstate))) ∧
  (∀ (h : Handover) (s : State), pairRuns s = true → handoverIdle s = true → s.pair.handover = some h → h.swap = false → h.at_ + 10000 ≤ s.clk →
    (s.pair.rstate = 3 → s.pair.unacked = [] → Answers (exec .handoverReady s) (fun t => t.pair.rstate = 5 ∧ t.pair.handover = none ∧
      ∀ c, c < 16 → h.ch = some c → (getChan t c).result = some (0x0000, []))) ∧
    (s.pair.rstate = 5 → Answers (exec .handoverReady s) (fun t => t.pair.rstate = 3 ∧ t.pair.handover = none ∧
      t.silo.innings = Nat.max s.silo.innings s.pair.pinn + 1))) ∧
  (∀ (h : Handover) (s : State), pairRuns s = true → handoverIdle s = true → s.pair.handover = some h → h.swap = true →
    (h.paged = none → s.pair.rstate = 2 → Answers (exec .handoverReady s) (fun t => t.pair.rstate = 2 ∧
      t.pair.handover = some { h with paged := some s.clk } ∧ t.out = .page (ownPage true (pagesToSend [] s) s) :: s.out)) ∧
    (∀ a, h.paged = some a → a + 510000 ≤ s.clk →
      (s.pair.rstate = 2 → Answers (exec .handoverReady s) (fun t => t.pair.rstate = 6 ∧
        t.pair.mcause = if s.pair.pFw = s.flash.fwVersion then 2 else 1)) ∧
      (s.pair.rstate = 7 → Answers (exec .handoverReady s) (fun t => t.pair.rstate = 2 ∧ t.flash.swapBack = none ∧
        t.silo.innings = Nat.max s.silo.innings s.pair.pinn + 1)))) ∧
  (∀ (ch : Fin 16) (c q : Word) (s : State), tenantOf s ch = 0 → updating s = false → 1 ≤ fld c 42 40 → fld c 42 40 ≤ 5 →
    let cfg := setBit (c &&& 0xFF0000000000#48) 46 true
    (bit cfg 47 = bit s.pair.cfg 47 → MbDone .mbPairSet ch ([1#8] ++ wB c ++ wB q) s (fun t => t.pair.cfg = cfg ∧
      t.pair.peer = q &&& 0xFFFFFFFF0000#48 ∧ t.pair.rstate = s.pair.rstate)) ∧
    (devMode s = 1 → bit cfg 47 ≠ bit s.pair.cfg 47 → s.task.dispAt ≠ none → MbDone .mbPairSet ch ([1#8] ++ wB c ++ wB q) s (fun t =>
      t.pair.cfg = cfg ∧ t.pair.rstate = if bit cfg 47 then 1 else 0))) ∧
  (∀ (ch : Fin 16) (s : State), NotCarried s ch →
    MbReads .mbPairStat ch [] s (wB (pairStat s) ++ toBe 6 (umod 48 s.pair.ofs) ++ toBe 4 s.pair.pinn ++ toBe 1 s.pair.pRstate ++
      toBe 1 s.pair.pFw.1 ++ toBe 1 s.pair.pFw.2.1 ++ toBe 1 s.pair.pFw.2.2 ++ toBe 4 s.pair.pProg ++ toBe 4 s.pair.pCfg ++
      toBe 4 s.pair.takeovers ++ toBe 4 s.pair.divergences ++ toBe 4 s.pair.resyncs ++ toBe 4 s.pair.resends ++ toBe 6 s.pair.takeoverAt)) ∧
  (∀ (ch : Fin 16) (s : State), tenantOf s ch = 0 → updating s = false →
    (s.pair.rstate = 6 → causeHolds s = false → MbWaits .mbPairResync ch [] s (fun t => t.pair.rstate = 4 ∧ t.pair.waitCh = some ch.val ∧
      t.pair.resync = some s.clk ∧ t.pair.mcause = 0)) ∧
    (s.pair.rstate = 3 → s.pair.handover = none → MbWaits .mbPairSwitch ch [] s (fun t => t.pair.handover = some ⟨s.clk, some ch.val, false, none⟩ ∧
      t.pair.rstate = 3)) ∧
    (s.pair.rstate = 6 → pairRuns s = true → s.pair.mcause = 6 → s.pair.cfgBad = none → (s.pair.pRstate = 2 ∨ s.pair.pRstate = 3) → (pairMismatch s).1 = 0 →
      ∀ r : ResyncPage, r.final = true → MbEndsBy .mbPairResync (.resyncRound r) ch [] s (· = []) (fun t => t.pair.rstate = 5 ∧
        t.pair.resyncs = s.pair.resyncs + 1)) ∧
    (s.pair.rstate = 3 → pairRuns s = true → s.pair.handover = none → handoverIdle s = true →
      MbEndsLater .mbPairSwitch .handoverReady 10000 ch [] s (· = []) (fun t => t.pair.rstate = 5 ∧ t.pair.handover = none)) ∧
    (s.pair.rstate = 5 → s.pair.handover = none → MbDone .mbPairSwapBegin ch [1#8] s (fun t => t.pair.rstate = 7 ∧ t.pair.swap = 1 ∧
      t.pair.swapFw = s.flash.boot.fw ∧ t.pair.swapProg = s.flash.boot.prog)) ∧
    (s.pair.rstate ≠ 5 → Asked .mbPairSwapBegin ch [1#8] s → Answers (exec (.mbPairSwapBegin ch [1#8]) s) (fun t => (getChan t ch.val).result = some (0x0016, []) ∧
      t.pair = s.pair)) ∧
    (∀ q, s.pair.rstate = 7 → s.pair.swap = 1 → s.ovl.job = none → loadedBank s 1 s.flash.boot.fw = s.flash.boot.fw →
      loadedBank s 2 s.flash.boot.prog ≠ s.flash.boot.prog → bankProg s (loadedBank s 2 s.flash.boot.prog) = .ok q → bootFits s = true →
      MbDone .mbPairSwapPreview ch [2#8] s (fun t => t.pair.rstate = 7 ∧ t.pair.swap = 2 ∧
        t.flash.boot.prog = loadedBank s 2 s.flash.boot.prog ∧ t.flash.boot.fw = s.flash.boot.fw)) ∧
    (s.pair.rstate = 7 → s.pair.swap = 3 → s.pair.handover = none →
      MbWaits .mbPairSwapCommit ch [3#8] s (fun t => t.pair.handover = some ⟨s.clk, some ch.val, true, none⟩)) ∧
    (s.pair.rstate = 7 → s.pair.swap = 3 → pairRuns s = true → s.pair.handover = none → handoverIdle s = true → serves2 s.pair.pRstate = false →
      MbEndsLater .mbPairSwapCommit .handoverReady 510000 ch [3#8] s (· = []) (fun t => t.pair.rstate = 2)) ∧
    (s.pair.rstate = 7 → s.pair.swap < 2 → s.pair.handover = none →
      MbDone .mbPairSwapAbort ch [4#8] s (fun t => t.pair.rstate = 4 ∧ t.pair.swap = 0 ∧ t.flash.boot = s.flash.boot)))

/-! ### Overlays and the program store (16) -/

/-- 16 R395 to R400: overlays are created, deleted and listed; a request whose set passes its checks begins a transition, is queued behind
one or replaces the queued one, and asks nothing where the set is already in force; two seconds after B the rest changes. -/
def Obligations.OverlayTransitions : Prop :=
  (∀ (ch : Fin 16) (i l c k : Byte) (s : State), tenantOf s ch = 0 → Changes s → i.toNat < 64 → (ovlDesc s i.toNat).layer = 0 → 1 ≤ l.toNat →
    l.toNat ≤ 4 → c.toNat ≤ 15 → k.toNat ≤ 1 →
    MbDone .mbOvlCreate ch [i, l, c, k] s (fun t => ovlDesc t i.toNat = ⟨l.toNat, c.toNat, k.toNat = 1⟩ ∧
      ∀ j, j ≠ i.toNat → ovlDesc t j = ovlDesc s j)) ∧
  (∀ (ch : Fin 16) (i : Byte) (s : State), tenantOf s ch = 0 → Changes s → i.toNat < 64 → ovlBusy s i.toNat = false →
    let b := 438 + i.toNat
    ((regionCopy s 4 i.toNat = none ∨ blockFits s b = true) →
      MbDone .mbOvlDelete ch [i] s (fun t => ovlDesc t i.toNat = ⟨0, 0, false⟩ ∧ regionCopy t 4 i.toNat = none ∧ t.ovl.set = s.ovl.set ∧
        ∀ j, j ≠ i.toNat → j < 64 → ovlDesc t j = ovlDesc s j ∧
          (blockFails s b = none → physBlock s (438 + j) ≠ physBlock s b → regionCopy t 4 j = regionCopy s 4 j))) ∧
    (regionCopy s 4 i.toNat ≠ none → blockFits s b = false → MbRefuses .mbOvlDelete ch [i] s 0x0019)) ∧
  (∀ (ch : Fin 16) (p : Bytes) (l : List Nat) (s : State), tenantOf s ch = 0 → Changes s → p.length = 4 → targetSet s p = some l →
    (∀ k, k < 4 → l.getD k 0xFE ≠ s.ovl.set.getD k 0xFE → (s.ovl.set.getD k 0xFE < 64 → (ovlDesc s (s.ovl.set.getD k 0xFE)).chain = false) ∧
      (l.getD k 0xFE < 64 → (ovlDesc s (l.getD k 0xFE)).chain = false)) →
    requestOk s l = true →
    (s.ovl.set = l → s.ovl.queued = none → NotCarried s ch → MbReads .mbOvlRequest ch p s (toBe 1 3 ++ toBe 2 s.ovl.epoch)) ∧
    (s.ovl.set ≠ l → s.ovl.active = false → MbGives .mbOvlRequest ch p s (fun b => b.head? = some 0#8) (fun _ => True)) ∧
    (s.ovl.set ≠ l → s.ovl.active = false → s.ovl.queued = none → unitsFor s l (composed s l) = [] →
      MbGives .mbOvlRequest ch p s (· = toBe 1 0 ++ toBe 2 ((s.ovl.epoch + 1) % 65536)) (fun t => t.ovl.set = l ∧
        t.ovl.epoch = (s.ovl.epoch + 1) % 65536 ∧ t.ovl.done = (s.ovl.epoch + 1) % 65536 ∧ t.ovl.bAt = s.clk ∧ t.silo.ovlTarget = setVal l ∧
        ∀ c, c < 16 → (getChan s c).isOpen = true → (getChan t c).latch.getLsbD 9 = true)) ∧
    (s.ovl.set ≠ l → s.ovl.active = true → s.ovl.queued = none → MbGives .mbOvlRequest ch p s (· = toBe 1 1 ++ toBe 2 s.ovl.epoch) (fun t =>
      t.ovl = { s.ovl with queued := some l, queuedLevel := 3 })) ∧
    (s.ovl.active = true → s.ovl.queued ≠ none → MbGives .mbOvlRequest ch p s (· = toBe 1 2 ++ toBe 2 s.ovl.epoch) (fun t =>
      t.ovl = { s.ovl with queued := some l, queuedLevel := 3 }))) ∧
  (∀ s : State, s.ovl.active = true → serving s = true → s.ovl.bAt + 2000000000 ≤ s.clk →
    exec .overlayTransitionTimeout s = .next (ovlTimeout s)) ∧
  (∀ (key n : Nat) (s : State), s.ovl.active = true → serving s = true → s.ovl.bAt + 2000000000 ≤ s.clk → s.ovl.queued = none →
    s.ovl.units = [⟨7, key, [(0x0820, n)], []⟩] →
    Answers (exec .overlayTransitionTimeout s) (fun t => tget none t.svc.alm n = none ∧ t.ovl.active = false ∧ t.ovl.units = [] ∧
      t.ovl.done = s.ovl.epoch ∧ t.ovl.set = s.ovl.set ∧ ∀ m, m ≠ n → tget none t.svc.alm m = tget none s.svc.alm m)) ∧
  (∀ (ch : Fin 16) (s : State), NotCarried s ch →
    MbReads .mbOvlStatus ch [] s (wB (ovlEpoch s true) ++ toBe 8 (activeMask s) ++
      toBe 4 (match s.ovl.queued with | some q => setVal q | none => 0xFFFFFFFF) ++ toBe 6 (umod 48 ((s.ovl.bAt : Int) + s.pair.ofs))) ∧
    ∀ a c : Byte, 1 ≤ c.toNat → a.toNat + c.toNat ≤ 64 →
      MbReads .mbOvlList ch [a, c] s ((span a.toNat c.toNat).flatMap (fun i => wB (ovlDescWord s i) ++ toBe 4 (ovlCrc s i) ++
        toBe 4 ((validContent s 4 i).getD []).length ++ toBe 2 ((ovlItems s i).filter (·.tenant == tenantOf s ch)).length)))

/-- 16 R405 to R410: a region copy is staged by its sender, checked at the end, written block by block and then valid with the next
generation; a block that fails gives way to a spare; banks are activated, confirmed and reported. -/
def Obligations.ProgramStore : Prop :=
  (∀ (ch : Fin 16) (r i : Byte) (len crc : Nat) (s : State), tenantOf s ch = 0 → loadAllowed s r.toNat = true → len < 2 ^ 32 → crc < 2 ^ 32 →
    1 ≤ r.toNat → r.toNat ≤ 4 → i.toNat < (if r.toNat = 4 then 64 else 2) →
    len ≤ (if r.toNat = 4 then blockBytes - 32 else (regionBlocks r.toNat i.toNat).2 * blockBytes) →
    s.ovl.staging = none → s.ovl.job = none → copyInForce s r.toNat i.toNat = false → (r.toNat = 4 → (ovlDesc s i.toNat).layer ≠ 0) →
    (r.toNat = 2 → devMode s = 1) →
    MbDone .mbStoreBegin ch ([r, i] ++ toBe 4 len ++ toBe 4 crc) s (fun t =>
      t.ovl = { s.ovl with staging := some ⟨r.toNat, i.toNat, len, crc, [], 0, ch.val, s.clk⟩ } ∧ t.flash = s.flash)) ∧
  (∀ (ch : Fin 16) (g : Staging) (o : Nat) (d : Bytes) (s : State), s.ovl.staging = some g → g.tenant = tenantOf s ch →
    loadAllowed s g.region = true → o < 2 ^ 32 → 1 ≤ d.length → d.length ≤ 4000 → o + d.length ≤ g.length →
    MbDone .mbStoreData ch (toBe 4 o ++ d) s (fun t => ∃ h, t.ovl.staging = some h ∧ h.region = g.region ∧ h.length = g.length ∧
      h.lastAt = s.clk ∧ (∀ i, (k : i < d.length) → tget none h.data (o + i) = some d[i]) ∧
      ∀ j, (j < o ∨ o + d.length ≤ j) → tget none h.data j = tget none g.data j)) ∧
  (∀ (ch : Fin 16) (g : Staging) (s : State), s.ovl.staging = some g → g.tenant = tenantOf s ch → loadAllowed s g.region = true →
    copyInForce s g.region g.index = false →
    (∀ c, stagedContent s g = some c → MbWaits .mbStoreEnd ch [] s (fun t => t.ovl.staging = none ∧ t.flash.block = s.flash.block ∧
      ∃ j, t.ovl.job = some j ∧ j.region = g.region ∧ j.index = g.index ∧ j.content = c ∧ j.gen = nextGen s g.region g.index ∧ j.ch = ch.val ∧
        j.left ≠ [])) ∧
    (∀ c, stagedContent s g = some c → 1 ≤ g.region → g.region ≤ 4 → g.index < 64 → c.length ≤ blockBytes → tget 0 s.flash.erases (physBlock s (regionBlocks g.region g.index).1) + 1 < 100000 →
      MbEndsBy .mbStoreEnd (.flashBlockDone true true) ch [] s (· = toBe 4 (nextGen s g.region g.index)) (fun t =>
        validContent t g.region g.index = some c ∧ t.ovl.job = none ∧ t.ovl.staging = none)) ∧
    (stagedContent s g = none → MbRefuses .mbStoreEnd ch [] s 0x0017)) ∧
  (∀ (b : Nat) (rest : List Nat) (j : FlashJob) (s : State), s.ovl.job = some j → j.left = b :: rest → j.ch < 16 →
    let worn := 100000 ≤ tget 0 s.flash.erases (physBlock s b) + 1
    let others := fun (t : State) => ∀ k, k ≠ physBlock s b → tget none t.flash.block k = tget none s.flash.block k
    (¬ worn → Answers (exec (.flashBlockDone true true) s) (fun t => blockAt t b = some (jobBlock j b) ∧ others t ∧
      t.ovl.job = (if rest = [] then none else some { j with left := rest }) ∧
      (rest = [] → (getChan t j.ch).result = some (0x0000, toBe 4 j.gen)))) ∧
    (¬ worn → rest = [] → b = (regionBlocks j.region j.index).1 → 1 ≤ j.region → j.region ≤ 4 → j.index < 64 → j.gen < 2 ^ 32 →
      j.content.length ≤ blockBytes → (j.region = 1 → Config.signatureOk j.content = true) → Answers (exec (.flashBlockDone true true) s) (fun t =>
      regionCopy t j.region j.index = some ⟨true, j.gen, crc32 j.content, j.content⟩ ∧ validContent t j.region j.index = some j.content)) ∧
    (∀ e v, ¬ (e = true ∧ v = true ∧ ¬ worn) → s.flash.sparesUsed < 10 → Answers (exec (.flashBlockDone e v) s) (fun t =>
      t.ovl.job = some j ∧ t.flash.sparesUsed = s.flash.sparesUsed + 1 ∧ physBlock t b = 502 + s.flash.sparesUsed ∧ others t ∧
      tget none t.flash.block (physBlock s b) = none)) ∧
    (∀ e v, ¬ (e = true ∧ v = true ∧ ¬ worn) → 10 ≤ s.flash.sparesUsed → Answers (exec (.flashBlockDone e v) s) (fun t =>
      t.ovl.job = none ∧ (getChan t j.ch).result = some (0x0019, []) ∧ others t ∧ tget none t.flash.block (physBlock s b) = none))) ∧
  (∀ (e v : Bool) (s : State), s.ovl.job = none → exec (.flashBlockDone e v) s =
    .next (if e && v then s else { s with flash := { s.flash with fault := some (if e then 1 else 0) } })) ∧
  (∀ (g : Staging) (s : State), s.ovl.staging = some g → g.lastAt + 60000000000 ≤ s.clk →
    exec .stagingTimeout s = .next { s with ovl := { s.ovl with staging := none } }) ∧
  (∀ (ch : Fin 16) (s : State), tenantOf s ch = 0 → Changes s → s.pair.rstate = 0 → s.ovl.job = none →
    (bootFits s = true → MbDone .mbBankActivate ch [1#8] s (fun t =>
      t.flash.boot = ⟨(s.flash.boot.gen + 1) % 2 ^ 32, 1 - s.flash.boot.fw, s.flash.boot.prog, true⟩ ∧ t.flash.prevFw = s.flash.boot.fw ∧
      t.ovl.update = true)) ∧
    (bootFits s = false → MbRefuses .mbBankActivate ch [1#8] s 0x0019) ∧
    (∀ q, bootFits s = true → devMode s = 1 → bankProg s (1 - s.flash.boot.prog) = .ok q → MbDone .mbBankActivate ch [2#8] s (fun t =>
      t.flash.boot = ⟨(s.flash.boot.gen + 1) % 2 ^ 32, s.flash.boot.fw, 1 - s.flash.boot.prog, s.flash.boot.trial⟩ ∧ t.ovl.update = true)) ∧
    (∀ rc, devMode s = 1 → bankProg s (1 - s.flash.boot.prog) = .error rc → MbRefuses .mbBankActivate ch [2#8] s rc)) ∧
  (∀ (ch : Fin 16) (s : State), tenantOf s ch = 0 → updating s = false → s.flash.boot.trial = true →
    (bootFits s = false → MbRefuses .mbBankConfirm ch [] s 0x0019) ∧
    (bootFits s = true → s.flash.boot.fw < 2 → s.flash.boot.prog < 2 → MbDone .mbBankConfirm ch [] s (fun t =>
      let b : BootRec := ⟨(s.flash.boot.gen + 1) % 2 ^ 32, s.flash.boot.fw, s.flash.boot.prog, false⟩
      t.flash.boot = b ∧ bootRead t (b.gen % 2) = some b))) ∧
  (∀ (a : Nat) (s : State), s.ovl.resetAt = some a → a ≤ s.clk → Answers (exec .bankActivationReset s) (IsReset 9 0 s)) ∧
  (∀ (ch : Fin 16) (s : State), tenantOf s ch = 0 → MbGives .mbFlashStat ch [] s (fun b => b.take 16 = bootBytes s.flash.boot)
    (fun t => t.flash = s.flash))

/-! ### The Silo, the Gleaner and the real-time clock (17) -/

/-- 17 R425 to R433, R440: the writer puts queued entries into the ring, or holds them in a freeze; buckets regain tokens; a freeze begins, ends
and releases what it held; entries, statistics and classes are read and set. -/
def Obligations.GleanerKeepsEntries : Prop :=
  (∀ (e : GlnEv) (rest : List GlnEv) (s : State), s.gln.queue = e :: rest → s.gln.drops = [] →
    (∀ w, s.gln.wroteAt = some w → w + 10000 ≤ s.clk) →
    (s.gln.frozen = none → Answers (exec .gleanerWrite s) (fun t => t.gln.queue = rest ∧
      tget none t.silo.ring (s.silo.nextSeq % 32768) = some ⟨s.silo.nextSeq, e⟩ ∧ t.silo.nextSeq = (s.silo.nextSeq + 1) % 2 ^ 32 ∧
      (∀ k, k ≠ s.silo.nextSeq % 32768 → tget none t.silo.ring k = tget none s.silo.ring k) ∧
      ∀ c, c < 16 → (getChan s c).isOpen = true → ((chanCfg s c).tenant = e.tenant ∨ (chanCfg s c).tenant = 0) →
        (getChan t c).latch.getLsbD 14 = true)) ∧
    (s.gln.frozen ≠ none → s.silo.hold.length < 256 → Answers (exec .gleanerWrite s) (fun t => t.gln.queue = rest ∧
      t.silo.hold = s.silo.hold ++ [⟨s.silo.nextSeq, e⟩] ∧ t.silo.ring = s.silo.ring ∧ t.silo.nextSeq = (s.silo.nextSeq + 1) % 2 ^ 32)) ∧
    (s.gln.frozen ≠ none → 256 ≤ s.silo.hold.length → Answers (exec .gleanerWrite s) (fun t => t.gln.queue = rest ∧ t.silo = s.silo ∧
      t.gln.dropped = s.gln.dropped + 1))) ∧
  (∀ (w : Nat) (s : State), s.gln.wroteAt = some w → s.clk < w + 10000 → exec .gleanerWrite s = .next s) ∧
  (∀ (c : BitVec 16) (n : Fin 32) (s : State),
    let key := c.toNat * 32 + n.val
    let b := tget {} s.gln.bucket key
    let due := b.from_ + 100000000000 / Nat.max 1 (tget {} s.gln.cls (glnClassOf s c.toNat)).rate
    glnClassOf s c.toNat ≠ 0 → 0 < b.used →
    (s.clk < due → exec (.gleanerTokenGain c n) s = .next s) ∧
    (due ≤ s.clk → Answers (exec (.gleanerTokenGain c n) s) (fun t =>
      tget {} t.gln.bucket key = { used := b.used - 1, from_ := due, suppressed := 0 } ∧
      (b.suppressed = 0 → t.gln.queue = s.gln.queue) ∧
      (b.suppressed ≠ 0 → s.gln.queue.length < 64 → t.gln.queue = s.gln.queue ++ [glnEv 0x1003 3 n.val c.toNat b.suppressed s])))) ∧
  (∀ (a : Nat) (h : GlnEntry) (s : State), s.gln.frozen = some a → a ≤ s.clk →
    Answers (exec .gleanerFreezeExpiry s) (fun t => t.gln.frozen = none ∧ t.silo.hold = [] ∧ t.gln.holdDrops = 0 ∧
      (s.silo.hold = [h] → tget none t.silo.ring (h.seq % 32768) = some h))) ∧
  (∀ (ch : Fin 16) (n : Byte) (s : State), tenantOf s ch = 0 → Changes s →
    (s.gln.frozen = none → 1 ≤ n.toNat → n.toNat ≤ 10 → (∀ p, s.gln.put = some p → p.at_ ≠ s.clk) → MbDone .mbGlnFreeze ch [n] s (fun t =>
      t.gln.frozen = some (s.clk + n.toNat * 1000000000) ∧ t.silo = s.silo)) ∧
    (∀ p, s.gln.frozen = none → 1 ≤ n.toNat → n.toNat ≤ 10 → s.gln.put = some p → p.at_ = s.clk → MbDone .mbGlnFreeze ch [n] s (fun t =>
      t.gln.frozen = some (s.clk + n.toNat * 1000000000) ∧ t.silo.hold = s.silo.hold ++ [p.entry] ∧
      tget none t.silo.ring (p.entry.seq % 32768) = p.before)) ∧
    (s.gln.frozen ≠ none → MbGives .mbGlnUnfreeze ch [] s (· = toBe 2 s.silo.hold.length) (fun t => t.gln.frozen = none ∧ t.silo.hold = [])) ∧
    (∀ (w : Word) (codes : List Nat), codes.length ≤ 64 → (∀ x ∈ codes, x < 2 ^ 16 ∧ glnLimited x = true) → 1 ≤ n.toNat → n.toNat ≤ 15 →
      1 ≤ fld w 31 16 → fld w 31 16 ≤ 1000 → 1 ≤ fld w 14 0 → fld w 14 0 ≤ 20000 →
      MbDone .mbGlnClassSet ch ([n, 1#8] ++ wB w ++ toBe 1 codes.length ++ codes.flatMap (toBe 2)) s (fun t =>
        tget {} t.gln.cls n.toNat = { burst := fld w 31 16, rate := fld w 14 0, expert := true } ∧
        (∀ x ∈ codes, glnClassOf t x = n.toNat) ∧ ∀ k, k ≠ n.toNat → tget {} t.gln.cls k = tget {} s.gln.cls k))) ∧
  (∀ (ch : Fin 16) (s : State), NotCarried s ch →
    MbReads .mbGlnStat ch [] s (toBe 4 (ringOldest s) ++ toBe 4 (ringNewest s) ++ bB s.gln.frozen.isSome ++
      toBe 1 (match s.gln.frozen with | some e => (e - s.clk + 999999999) / 1000000000 | none => 0) ++ toBe 2 s.silo.hold.length ++
      toBe 4 s.gln.suppressed ++ toBe 4 s.gln.dropped ++ toBe 4 s.gln.skipped ++ toBe 4 s.gln.corrections) ∧
    (∀ (first : Nat) (n sub : Byte), first < 2 ^ 32 → 1 ≤ n.toNat → n.toNat ≤ 120 →
      MbGives .mbGlnRead ch (toBe 4 first ++ [n, sub]) s (fun b => b.take 8 = toBe 4 (ringOldest s) ++ toBe 4 (ringNewest s))
        (fun t => t.silo.ring = s.silo.ring ∧ t.silo.nextSeq = s.silo.nextSeq)) ∧
    (∀ (first : Nat) (n sub : Byte), s.silo.ring = [] → first < 2 ^ 32 → 1 ≤ n.toNat → n.toNat ≤ 120 →
      MbReads .mbGlnRead ch (toBe 4 first ++ [n, sub]) s (toBe 4 (ringOldest s) ++ toBe 4 (ringNewest s) ++
        toBe 4 ((ringNewest s + 1) % 2 ^ 32) ++ toBe 1 0)) ∧
    (∀ (q : Nat) (e : GlnEv), q < 2 ^ 32 - 1 → s.silo.nextSeq = q + 1 → s.silo.hold = [] → s.silo.badSlots = [] →
      s.silo.ring = [(q % 32768, some ⟨q, e⟩)] → (tenantOf s ch = 0 ∨ e.tenant = tenantOf s ch) →
      MbReads .mbGlnRead ch (toBe 4 q ++ [1#8, 0#8]) s (toBe 4 q ++ toBe 4 q ++ toBe 4 (q + 1) ++ toBe 1 1 ++
        entryBytes ⟨q, e⟩ (e.tenant == tenantOf s ch)))) ∧
  (∀ (ch : Fin 16) (n : Byte) (s : State), NotCarried s ch → n.toNat < 32 → (tenantOf s ch = 0 ∨ n.toNat = tenantOf s ch) →
    let r := tget {} s.task.ret n.toNat
    let cp := fun (k : Nat) => toBe 4 (tget {} s.silo.desc (n.toNat * 2 + k)).gen ++ bB (retFault s n.toNat k).isNone
    MbReads .mbRetStat ch [n] s (cp 0 ++ cp 1 ++ toBe 2 (segInfo s n.toNat).l2 ++ toBe 1 r.used ++ toBe 2 r.interval ++ toBe 4 r.skippedAll))

/-- 17 R434 to R438, 07 R182: the clock's correction, its supply and its stops, its agreement with wall time, and the commands that read and
set it; wall time set by command steps at once. -/
def Obligations.RealTimeClock : Prop :=
  (∀ s : State,
    let n : Int := (s.rtc.sec : Int) * 32768 + s.rtc.sub + s.rtc.cal
    (s.rtc.periods < 2 ^ 20 → exec .rtcCalAdd s = .next s) ∧
    (2 ^ 20 ≤ s.rtc.periods → exec .rtcCalAdd s = .next { s with rtc := { s.rtc with periods := s.rtc.periods - 2 ^ 20, sec := umod 48 (n.fdiv 32768), sub := (n.fmod 32768).toNat } })) ∧
  (∀ s : State,
    (s.rtc.onVbat = false → Answers (exec (.rtcSupplySwitch true) s) (fun t => t.rtc = { s.rtc with onVbat := true, ranOnVbat := true })) ∧
    exec (.rtcSupplySwitch false) s = .next { s with rtc := { s.rtc with onVbat := false, bkpSecs := if s.rtc.ranOnVbat then s.rtc.bkpSecs else 0 } }) ∧
  (∀ s : State, Answers (exec .oscStopDetect s) (fun t => t.rtc = { s.rtc with oscStop := true, goodFor := 0 } ∧
    (s.rtc.oscStop = false → s.aon.inReset = false → s.sup.asleep = false → t.tb.wallOk = false))) ∧
  (∀ s : State,
    let d : Int := (s.rtc.sec : Int) * 1000000000 + (s.rtc.sub * 1000000000 / 32768 : Nat) - wallNs s
    ((s.tb.wallOk = false ∨ (-1000000 ≤ d ∧ d ≤ 1000000)) → exec .rtcSyncCheck s = .next s) ∧
    (s.tb.wallOk = true → (d < -1000000 ∨ 1000000 < d) →
      (wallSub s ≠ 0 → Answers (exec .rtcSyncCheck s) (fun t => t.rtc = { s.rtc with write := some (wallSec s + 1) })) ∧
      (wallSub s = 0 → Answers (exec .rtcSyncCheck s) (fun t => t.rtc.sec = wallSec s ∧ t.rtc.sub = 0 ∧ t.rtc.write = none)))) ∧
  (∀ (drift : Int) (s : State),
    ((s.rtc.expert = true ∨ s.tb.wallPtp = false) → exec (.rtcCalDerive drift) s = .next s) ∧
    (s.rtc.expert = false → s.tb.wallPtp = true → Answers (exec (.rtcCalDerive drift) s) (fun t =>
      t.rtc = { s.rtc with cal := max (-255) (min 255 (-drift)), derived := max (-255) (min 255 (-drift)) }))) ∧
  (∀ (mv : Nat) (s : State), exec (.vbatCheck mv) s =
    .next { s with rtc := { s.rtc with vbatLow := decide (mv < 2200) }, aon := { s.aon with rails := s.aon.rails.set 5 mv } }) ∧
  (∀ (ch : Fin 16) (s : State), NotCarried s ch →
    MbReads .mbRtcGet ch [] s (toBe 6 s.rtc.sec ++ toBe 2 s.rtc.sub ++ wB (rtcStat s.rtc))) ∧
  (∀ (ch : Fin 16) (s : State), tenantOf s ch = 0 →
    let e := { s with clk := s.clk + (1953125 - s.rtc.acc + 63) / 64 }
    MbGives .mbRtcCapture ch [] s (· = toBe 6 (rtcEdge s.rtc).sec ++ toBe 2 (rtcEdge s.rtc).sub ++ toBe 6 (devtime e) ++ toBe 6 (wallSec e) ++
      toBe 4 (wallSub e)) (fun t => t.rtc = s.rtc)) ∧
  (∀ (ch : Fin 16) (c : Int) (s : State), tenantOf s ch = 0 → Changes s →
    (-255 ≤ c → c ≤ 255 → MbDone .mbRtcCalSet ch ([1#8] ++ toBe 2 (umod 16 c)) s (fun t => t.rtc = { s.rtc with expert := true, cal := c })) ∧
    MbDone .mbRtcCalSet ch [0#8] s (fun t => t.rtc = { s.rtc with expert := false, cal := s.rtc.derived })) ∧
  (∀ (ch : Fin 16) (sec ns : Nat) (utc : Int) (s : State), tenantOf s ch = 0 → Changes s → s.tb.wallPtp = false → sec < 2 ^ 48 →
    ns < 1000000000 → -2 ^ 15 ≤ utc → utc < 2 ^ 15 →
    MbDone .mbWallSet ch (toBe 6 sec ++ toBe 4 ns ++ toBe 2 (umod 16 utc)) s (fun t => wallNs t = (sec : Int) * 1000000000 + ns ∧ t.tb.wallOk = true ∧
      t.silo.utcOffset = utc))

/-! ### Supervision, resets, the system watchdog, sleep (18, 01) -/

/-- 18 R442 to R447, R451 to R457, 01 R26, 15 R371: warnings act at their thresholds, faults reset the device with their cause, the watchdog
takes services in its window and resets without them, and the release of reset starts the device. -/
def Obligations.SupervisionAndResets : Prop :=
  (∀ (r : Fin 5) (b : Bool) (mv : Nat) (s : State), fioRuns s = true → tget false s.aon.railLow r.val ≠ b → b = decide (mv < warnRail r.val) →
    Answers (exec (.railWarning r b mv) s) (fun t => t.aon.rails = s.aon.rails.set r.val mv ∧ tget false t.aon.railLow r.val = b ∧
      (b = true → bit (evtSrc s 357) 22 = true → evtPending t 357 = true) ∧
      (b = false → t.evt = s.evt ∧ tget 0 t.aon.railUpAt r.val = absNow s - 1000000))) ∧
  (∀ (r : Fin 4) (mv : Nat) (s : State), mv < (monitorRail r.val).2 → s.aon.inReset = false → s.sup.asleep = false →
    Answers (exec (.supplyMonitorReset r mv) s) (IsReset 2 r.val s)) ∧
  (∀ (mC : Int) (s : State), fioRuns s = true →
    (120000 < mC → s.sup.tempWarn = false → Answers (exec (.temperatureSample mC) s) (fun t => t.aon.temp = mC ∧ t.sup.tempWarn = true ∧
      (bit (evtSrc s 355) 22 = true → evtPending t 355 = true))) ∧
    (mC ≤ 120000 → s.sup.tempWarn = true → Answers (exec (.temperatureSample mC) s) (fun t => t.aon.temp = mC ∧ t.sup.tempWarn = false)) ∧
    Answers (exec (.temperatureSample mC) s) (fun t => t.aon.temp = mC ∧
      t.aon.coolAt = if mC < 115000 then s.aon.coolAt.or (some (absNow s)) else none)) ∧
  (∀ s : State, fioRuns s = true → 130000 < s.aon.temp → Answers (exec .temperatureCritical s) (IsReset 5 0 s)) ∧
  (∀ s : State, fioRuns s = true →
    (s.sup.holdUp = false → Answers (exec .holdUpBegin s) (fun t => t.sup.holdUp = true ∧ t.sup.holdUpAt = umod 48 (ptime s - 2000) ∧
      t.silo.holdUp = true ∧ (bit (evtSrc s 358) 22 = true → evtPending t 358 = true) ∧ t.aon = s.aon)) ∧
    (s.sup.holdUp = true → Answers (exec .holdUpEnd s) (fun t => t.sup.holdUp = false ∧ t.silo.holdUp = false ∧ t.aon = s.aon))) ∧
  (∀ (mv : Nat) (s : State), fioRuns s = true →
    (s.sup.throttled = false → mv < 765 → Answers (exec (.throttleBegin mv) s) (fun t => t.sup.throttled = true ∧
      t.sup.throttles = (s.sup.throttles + 1) % 2 ^ 32 ∧ t.sup.throttleAt = devtime s ∧ (bit (evtSrc s 353) 22 = true → evtPending t 353 = true) ∧
      ∀ c, c < 16 → (getChan s c).isOpen = true → (getChan t c).latch.getLsbD 4 = true)) ∧
    (s.sup.throttled = true → 790 ≤ mv → Answers (exec (.throttleEnd mv) s) (fun t => t.sup.throttled = false ∧
      t.sup.throttles = s.sup.throttles ∧ (bit (evtSrc s 354) 22 = true → evtPending t 354 = true)))) ∧
  (∀ s : State, Answers (exec .resetNAssert s) (fun t => IsReset 7 0 s t ∧ t.aon.resetN = false)) ∧
  (∀ (a ch : Nat) (s : State), s.sup.resetAt = some (a, ch) → a ≤ s.clk → Answers (exec .mbResetTimer s) (IsReset 8 ch s)) ∧
  (∀ (k : Fin 3) (s : State), fioRuns s = true → Answers (exec (.uncorrectableMemoryError k) s) (IsReset 6 k.val s)) ∧
  (∀ (p : Nat) (s : State), fioRuns s = true →
    ((p * 102 < 4000000 ∨ 4000000 < p * 98) → Answers (exec (.refclkFail p) s) (IsReset 4 0 s)) ∧
    (4000000 ≤ p * 102 → p * 98 ≤ 4000000 → exec (.refclkFail p) s = .next s)) ∧
  (∀ (p : Fin 5) (s : State), fioRuns s = true →
    (p.val < 3 → Answers (exec (.pllLockLoss p) s) (IsReset 4 (1 + p.val) s)) ∧
    (3 ≤ p.val → exec (.pllLockLoss p) s = .next (gln 0x0111 3 0 p.val (devtime s) s))) ∧
  (∀ s : State, s.sup.wdgState ≠ 0 →
    (s.sup.wdgServer = false → s.sup.mpOk = true → (8 + wdgF8 s) * wdgP s ≤ 16 * wdgE s → wdgE s < wdgU s → s.pair.rstate ≠ 5 →
      Answers (exec .firmwareWatchdogService s) (fun t => t.sup.wdgState = 2 ∧ t.sup.wdgAt = s.clk ∧ t.sup.wdgWarned = false ∧
        t.sup.token = wdgToken s.sup.question ∧ 1 ≤ t.sup.question ∧ t.sup.question < 2 ^ 16 ∧ t.aon = s.aon)) ∧
    (s.sup.wdgWarned = false → (if s.sup.wdgSet then fld s.sup.wdgCfg 8 5 else 15) * wdgU s ≤ 16 * wdgE s →
      Answers (exec .watchdogWarning s) (fun t => t.sup = { s.sup with wdgWarned := true } ∧
        (bit (evtSrc s 352) 22 = true → evtPending t 352 = true))) ∧
    (wdgU s ≤ wdgE s → Answers (exec .watchdogLapse s) (IsReset 3 0 s))) ∧
  (∀ s : State, mayStart s = true → Answers (exec .resetRelease s) (fun t => t.aon.inReset = false ∧ t.clk = s.clk + 250000000)) ∧
  (∀ s : State, mayStart s = false → exec .resetRelease s = .next s) ∧
  (∀ s : State, mayStart s = true → bit s.aon.fuse 46 = false → siloHeaderOk s.silo.header = true → s.silo.soft = [] → s.silo.hard = [] → s.silo.ovlTarget = 0xFEFEFEFE → s.flash.journal = [] →
    s.flash.boot.trial = false → s.flash.block = [] → s.svc = State.reset.svc → s.silo.enSaved = [] → s.silo.frozenAtReset = false →
    bit s.pair.cfg 47 = false → s.pair.rstate = 0 → fld s.sup.startCfg 47 46 = 0 → s.prog = State.reset.prog →
    Answers (exec .resetRelease s) (fun t => t.aon.inReset = false ∧ t.clk = s.clk + 250000000 ∧ t.task.dev = 1 ∧
      t.mb.spi.started = true ∧ t.silo.resets = (s.silo.resets + 1) % 2 ^ 32 ∧ (t.silo.resetLog.head?.map (·.cause)).isSome = true ∧
      t.task.gridA.isSome = true ∧ t.sup.wdgState = 1))

/-- 18 R458 to R462, 12 R318 to R320: a wake event sets its bit and is first where none came before, wake frames and patterns count on
controllers that listen, and a wake event in sleep powers the device up by a reset. -/
def Obligations.SleepAndWake : Prop :=
  (∀ s : State, s.aon.wakeOpen = true → s.aon.wakeCause = 0#48 →
    Answers (exec .hostResume s) (fun t => bit t.aon.wakeCause 6 = true ∧ fld t.aon.wakeCause 47 44 = 1 ∧ t.aon.hostWake = s.aon.hostWake) ∧
    (bit s.aon.wakeCfg 47 = true → Answers (exec .wakeInEvent s) (fun t => bit t.aon.wakeCause 5 = true ∧ fld t.aon.wakeCause 47 44 = 2 ∧
      t.aon.hostWake = true)) ∧
    (bit s.aon.wakeCfg 45 = true → (s.aon.alarm.toNat = s.rtc.sec ∨ (s.sup.asleep = true ∧ s.aon.alarm.toNat ≤ s.rtc.sec)) → Answers (exec .rtcAlarmWake s) (fun t => bit t.aon.wakeCause 4 = true ∧
      fld t.aon.wakeCause 47 44 = 3 ∧ t.aon.hostWake = true)) ∧
    (∀ (n : Fin 4) (ps : List (Bool × Nat)), canListens s n.val 1 = true →
      wakePattern (fld (getCan s n.val).wake 44 38 * 100) (fld (getCan s n.val).wake 37 28 * 10000) ps = true →
      Answers (exec (.canWakePattern ⟨n, ps⟩) s) (fun t => bit t.aon.wakeCause n.val = true ∧
      fld t.aon.wakeCause 47 44 = 4 + n.val ∧ t.aon.hostWake = true ∧ t.aon.canWoke = s.aon.canWoke ++ [(n.val * 4 + 1, 0)])) ∧
    (∀ (n : Fin 4) (f : CanFrame) (dlc : Fin 16), canListens s n.val 2 = true → f.fd = false →
      (canWakes (getCan s n.val) dlc.val f = true → Answers (exec (.canWakeFrame n ⟨.frame f, dlc⟩) s) (fun t => bit t.aon.wakeCause n.val = true ∧
        t.aon.canWoke = s.aon.canWoke ++ [(n.val * 4 + 2, f.id)] ∧ (getCan t n.val).frameErr = (getCan s n.val).frameErr - 1)) ∧
      (canWakes (getCan s n.val) dlc.val f = false → Answers (exec (.canWakeFrame n ⟨.frame f, dlc⟩) s) (fun t => t.aon = s.aon))) ∧
    (∀ (n : Fin 4) (l : Fin 7) (k : Nat) (dlc : Fin 16), canListens s n.val 2 = true → Answers (exec (.canWakeFrame n ⟨.error l k, dlc⟩) s) (fun t =>
      (getCan t n.val).frameErr = (getCan s n.val).frameErr + 1 ∧
      (bit t.aon.wakeCause n.val = true ↔ 31 < (getCan s n.val).frameErr + 1)))) ∧
  (∀ s : State, s.aon.wakeOpen = false → exec .hostResume s = .next s) ∧
  (∀ s : State, s.sup.asleep = true → fld s.aon.wakeCause 47 44 ≠ 0 →
    Answers (exec .wakePowerUp s) (fun t => t.aon.inReset = true ∧ t.aon.cause = 0x0A ∧ t.aon.detail = fld s.aon.wakeCause 47 44 ∧
      t.aon.pwrEn = true ∧ t.aon.wakeCause = s.aon.wakeCause ∧ t.sup.asleep = false ∧ t.flash = s.flash ∧ t.saf.state = 1)) ∧
  (∀ (ch : Fin 16) (s : State), tenantOf s ch = 0 → Changes s →
    (devMode s = 1 → MbDone .mbSleep ch [] s (fun t => t.sup.sleepStep = 2 ∧ t.sup.sleepAt = some s.clk ∧ t.aon.wakeCause = 0#48 ∧
      t.aon.wakeOpen = true ∧ t.sup.asleep = s.sup.asleep)) ∧
    (∀ (w a : Word), 1 ≤ fld w 43 36 → MbDone .mbWakeSet ch ([1#8] ++ wB w ++ wB a) s (fun t =>
      t.aon.wakeCfg = setBit (w &&& 0xFFF000000000#48) 44 true ∧ t.aon.alarm = a)) ∧
    (∀ (en : Byte) (a : Word), en.toNat ≤ 1 → MbDone .mbWakeSet ch ([0#8, en] ++ wB a) s (fun t => t.aon.alarm = a ∧
      (bit t.aon.wakeCfg 47 = true ↔ en.toNat = 1) ∧ (bit t.aon.wakeCfg 45 = true ↔ a ≠ 0#48) ∧ fld t.aon.wakeCfg 43 36 = 10)) ∧
    MbDone .mbReset ch [] s (fun t => t.sup = s.sup ∧ t.aon = s.aon)) ∧
  (∀ (ch : Fin 16) (s : State), NotCarried s ch →
    MbReads .mbWakeCause ch [] s (wB s.aon.wakeCause ++ toBe 6 (s.aon.wakeEnd % 2 ^ 48)) ∧
    MbReads .mbPwrStat ch [] s (s.aon.rails.flatMap (toBe 2) ++ toBe 4 (umod 32 s.aon.temp) ++ toBe 4 s.sup.throttles ++ bB s.sup.throttled ++
      bB s.sup.holdUp))

/-- 18 R449 to R463, 00 R15 to R17, 01 Tables 1-8 and 1-9: fuses, watchdog and start-up settings are written by T0 and read back; a register
write acts on each field by its access code. -/
def Obligations.SupervisionCommandsAndRegisterWrites : Prop :=
  (∀ (ch : Fin 16) (s : State), tenantOf s ch = 0 → NotCarried s ch →
    (s.silo.resetLog.length ≤ 8 → MbReads .mbResetLog ch [] s (toBe 4 s.silo.resets ++ toBe 4 s.silo.wdgResets ++
      s.silo.resetLog.flatMap (fun r => toBe 1 r.cause ++ toBe 1 r.detail ++ toBe 6 r.tai) ++ List.replicate (64 - 8 * s.silo.resetLog.length) 0#8)) ∧
    MbReads .mbWdgStat ch [] s (wB s.aon.fuse ++ wB s.sup.wdgCfg ++ wB (wd s.sup.question) ++ wB (wd s.sup.token) ++ wB (wdgStat s))) ∧
  (∀ (ch : Fin 16) (a b c : Byte) (s : State), tenantOf s ch = 0 → Changes s → devMode s = 1 → bit s.aon.fuseBlown 47 = false →
    a.toNat ≤ 1 → b.toNat ≤ 7 → c.toNat ≤ 3 →
    MbDone .mbWdgFuse ch [a, b, c] s (fun t => t.aon.fuseBlown = wd (2 ^ 47 + a.toNat * 2 ^ 46 + b.toNat * 2 ^ 43 + c.toNat * 2 ^ 41) ∧
      t.aon.fuse = s.aon.fuse)) ∧
  (∀ (ch : Fin 16) (a b c : Byte) (s : State), tenantOf s ch = 0 → bit s.aon.fuseBlown 47 = true →
    MbRefuses .mbWdgFuse ch [a, b, c] s 0x0016) ∧
  (∀ (ch : Fin 16) (w : Word) (s : State), tenantOf s ch = 0 → Changes s → devMode s = 1 →
    let c := setBit (w &&& 0xFFFFFFFFFFE0#48) 39 true
    8 ≤ fld c 8 5 → taskKind (taskEnt s (fld c 47 40)) = 1 → taskTenant s (fld c 47 40) = 0 → inPlot s 1 0 (fld c 38 24) = true →
    mappedWord s (fld c 38 24) = false → inPlot s 0 0 (fld c 23 9) = true → otherWriter s (fld c 47 40) (fld c 23 9) = false →
    MbDone .mbWdgSet ch ([1#8] ++ wB w) s (fun t => t.sup = { s.sup with wdgCfg := c, wdgSet := true })) ∧
  (∀ (ch : Fin 16) (w : Word) (s : State), tenantOf s ch = 0 → Changes s →
    let c := setBit (w &&& 0xFFE000000000#48) 45 true
    fld c 47 46 ≤ 2 → 1 ≤ fld c 44 37 →
    MbDone .mbStartSet ch ([1#8] ++ wB w) s (fun t => t.sup = { s.sup with startCfg := c })) ∧
  (∀ (ch : Fin 16) (m : Byte) (s : State), tenantOf s ch = 0 → Changes s → m.toNat ≤ 2 →
    MbDone .mbStartSet ch [0#8, m] s (fun t => t.sup = { s.sup with startCfg := wd (m.toNat * 2 ^ 46 + 3 * 2 ^ 37) })) ∧
  (∀ (k : Fin 8) (v : Word) (s : State), Answers (exec (.registerWrite (.evtPend k) v) s) (fun t =>
    (∀ i, i < 384 → evtPending t i = (evtPending s i && !(decide (i / 48 = k.val) && bit v (i % 48)))) ∧ t.evt.src = s.evt.src)) ∧
  (∀ (n : Fin 384) (v : Word) (s : State), Answers (exec (.registerWrite (.evtSrc n) v) s) (fun t =>
    fld (evtSrc t n.val) 31 22 = fld v 31 22 ∧ fld (evtSrc t n.val) 47 32 = fld (evtSrc s n.val) 47 32 ∧
    (evtFixed n.val = none → fld (evtSrc t n.val) 4 0 = fld v 4 0) ∧
    (evtFixed n.val ≠ none → fld (evtSrc t n.val) 21 0 = fld (evtSrc s n.val) 21 0) ∧ t.evt.pend = s.evt.pend ∧
    ∀ m, m ≠ n.val → evtSrc t m = evtSrc s m)) ∧
  (∀ (v : Word) (s : State) (r : RegName), (∀ k, r ≠ .evtPend k) → (∀ n, r ≠ .evtSrc n) → r ≠ .sfMap →
    exec (.registerWrite r v) s = .next s)

/-! ### Frames -/

/-- 03 R75, R101, 05 R137: a KV48 instruction changes its own execution, and through a trap the modes, the channels' latches, the
Gleaner and the pair's records; no image word, no plot, no register of a unit but those that the device operations name. -/
def Obligations.KvFrames : Prop :=
  (∀ i ∈ ([.add, .sub, .adds, .addsu, .subs, .subsu, .mul, .muls, .mulq, .mulh, .negs, .abss, .min, .minu, .max, .maxu, .mov, .shl, .shr, .sar, .rol, .addi,
      .addsi, .andi, .ori, .xori, .movi, .shli, .shri, .sari, .roli, .lk0, .lk1, .lk2, .lk3, .cmpeq, .cmpne, .cmplt, .cmpltu, .cmple, .cmpleu, .cmpeqi,
      .cmpnei, .cmplti, .cmpltiu, .cmpgti, .cmpgtiu, .tstnz, .tstb, .pand, .por, .pxor, .pandn, .prd, .pwr, .and, .or, .xor, .andn, .not, .edge, .edgef,
      .edgea, .latch, .latchs, .shSplat, .shMerge, .shAny, .shAll, .shNone, .bset, .bclr, .bins, .popc, .clz, .ffs, .extr, .dep, .ld, .st, .imld, .imst,
      .ldb, .stb, .imldb, .imstb, .nop, .tend, .loop, .ret, .br, .call, .mfs, .mts, .schStat, .evtPost, .swev] : List (Kv → Instr)), ∀ o,
    ChangesOnly [.mb, .gln, .core, .task, .pair, .out] (i o)) ∧
  (∀ i ∈ ([.ceRd] : List (Kv → Instr)), ∀ o,
    ChangesOnly [.mb, .gln, .core, .task, .ce, .pair, .out] (i o)) ∧
  (∀ i ∈ ([.schArm, .schCancel] : List (Kv → Instr)), ∀ o,
    ChangesOnly [.mb, .evt, .gln, .core, .task, .img, .tb, .slot, .fio, .can, .eth, .pair, .out] (i o)) ∧
  (∀ i ∈ ([.ceStart] : List (Kv → Instr)), ∀ o,
    ChangesOnly (allBut [.clk, .prog]) (i o))

/-- 02 R46, R70 and each command's own section: the groups of the state that a mailbox command may change; every other group is as it
was. A pair's primary also carries the command to its standby (15 R382). -/
def Obligations.CommandFrames : Prop :=
  (∀ i ∈ ([.mbEvtGet, .mbSessionClose, .mbNop, .mbDeviceInfo, .mbChanStats, .mbTaskGet, .mbForceList, .mbPlotGet, .mbRioGet, .mbTbGet, .mbTbDiag, .mbSchGet,
      .mbCeGet, .mbCeCapRead, .mbCeLoad, .mbWpgGet, .mbAlmList, .mbTrdRead, .mbEnTotals, .mbFioStat, .mbSafetyStatus, .mbSafetyRead, .mbCanTxResults,
      .mbEthStat, .mbTrdpGet, .mbPtpStat, .mbPassStat, .mbPassMembers, .mbPassBudget, .mbPairStat, .mbPairSwitch, .mbOvlStatus, .mbOvlList, .mbFlashStat,
      .mbRetStat, .mbRtcGet, .mbGlnStat, .mbPwrStat, .mbResetLog, .mbWdgStat, .mbReset, .mbWakeCause] : List (Fin 16 → Bytes → Instr)), ∀ ch p,
    ChangesOnly [.mb, .pair, .out] (i ch p)) ∧
  (∀ ch p, ChangesOnly [.mb, .aon, .pair, .out] (.mbWakeSet ch p)) ∧
  (∀ i ∈ ([.mbCanSet, .mbCanQueueSet, .mbCanFilterSet, .mbCanTx, .mbCanTxCancel, .mbCanRxRead, .mbCanStat, .mbCanRecover, .mbCanWakeSet] : List (Fin 16 → Bytes → Instr)), ∀ ch p,
    ChangesOnly [.mb, .can, .pair, .out] (i ch p)) ∧
  (∀ i ∈ ([.mbCeCoefSet, .mbCeFlagsClear] : List (Fin 16 → Bytes → Instr)), ∀ ch p,
    ChangesOnly [.mb, .ce, .pair, .out] (i ch p)) ∧
  (∀ i ∈ ([.mbEthPortSet, .mbTrdpTopoSet] : List (Fin 16 → Bytes → Instr)), ∀ ch p,
    ChangesOnly [.mb, .eth, .pair, .out] (i ch p)) ∧
  (∀ i ∈ ([.mbEvtEnable, .mbEvtClear] : List (Fin 16 → Bytes → Instr)), ∀ ch p,
    ChangesOnly [.mb, .evt, .pair, .out] (i ch p)) ∧
  (∀ i ∈ ([.mbImageRead, .mbRtcCapture, .mbGlnClassSet] : List (Fin 16 → Bytes → Instr)), ∀ ch p,
    ChangesOnly [.mb, .gln, .pair, .out] (i ch p)) ∧
  (∀ ch p, ChangesOnly [.mb, .img, .pair, .out] (.mbPlotPubSet ch p)) ∧
  (∀ ch p, ChangesOnly [.mb, .pair, .flash, .out] (.mbOvlCreate ch p)) ∧
  (∀ ch p, ChangesOnly [.mb, .pair, .out, .free] (.mbSvcList ch p)) ∧
  (∀ i ∈ ([.mbStoreBegin, .mbStoreData] : List (Fin 16 → Bytes → Instr)), ∀ ch p,
    ChangesOnly [.mb, .pair, .ovl, .out] (i ch p)) ∧
  (∀ ch p, ChangesOnly [.mb, .pass, .pair, .out] (.mbPassInaug ch p)) ∧
  (∀ ch p, ChangesOnly [.mb, .silo, .pair, .out] (.mbAckAttn ch p)) ∧
  (∀ ch p, ChangesOnly [.mb, .slot, .pair, .out] (.mbSchAlloc ch p)) ∧
  (∀ ch p, ChangesOnly [.mb, .sup, .pair, .out] (.mbStartSet ch p)) ∧
  (∀ i ∈ ([.mbSvcQuotaSet, .mbEnSysSet] : List (Fin 16 → Bytes → Instr)), ∀ ch p,
    ChangesOnly [.mb, .svc, .pair, .out] (i ch p)) ∧
  (∀ i ∈ ([.mbModeSet, .mbTenantModeSet, .mbTaskStats, .mbTenantSchedSet, .mbRetainSet] : List (Fin 16 → Bytes → Instr)), ∀ ch p,
    ChangesOnly [.mb, .task, .pair, .out] (i ch p)) ∧
  (∀ ch p, ChangesOnly [.mb, .aon, .sup, .pair, .out] (.mbSleep ch p)) ∧
  (∀ ch p, ChangesOnly [.mb, .ce, .pair, .out, .free] (.mbCeStateSet ch p)) ∧
  (∀ ch p, ChangesOnly [.mb, .evt, .gln, .pair, .out] (.mbEvtAlloc ch p)) ∧
  (∀ ch p, ChangesOnly [.mb, .gln, .aon, .pair, .out] (.mbWdgFuse ch p)) ∧
  (∀ i ∈ ([.mbCeInjStart, .mbCeInjStop] : List (Fin 16 → Bytes → Instr)), ∀ ch p,
    ChangesOnly [.mb, .gln, .ce, .pair, .out] (i ch p)) ∧
  (∀ ch p, ChangesOnly [.mb, .gln, .eth, .pair, .out] (.mbEthSet ch p)) ∧
  (∀ i ∈ ([.mbFioMapSet, .mbFcSet, .mbFcGrpSet, .mbFioSilSet, .mbAiSet, .mbAoSet, .mbTwElecSet] : List (Fin 16 → Bytes → Instr)), ∀ ch p,
    ChangesOnly [.mb, .gln, .fio, .pair, .out] (i ch p)) ∧
  (∀ i ∈ ([.mbRioSet, .mbRioIpSet] : List (Fin 16 → Bytes → Instr)), ∀ ch p,
    ChangesOnly [.mb, .gln, .img, .pair, .out] (i ch p)) ∧
  (∀ ch p, ChangesOnly [.mb, .gln, .pair, .out, .free] (.mbSessionOpen ch p)) ∧
  (∀ ch p, ChangesOnly [.mb, .gln, .rtc, .pair, .out] (.mbRtcCalSet ch p)) ∧
  (∀ i ∈ ([.mbGlnFreeze, .mbGlnUnfreeze] : List (Fin 16 → Bytes → Instr)), ∀ ch p,
    ChangesOnly [.mb, .gln, .silo, .pair, .out] (i ch p)) ∧
  (∀ ch p, ChangesOnly [.mb, .gln, .slot, .pair, .out] (.mbSchSet ch p)) ∧
  (∀ i ∈ ([.mbAlmSet, .mbAlmAck, .mbAlmShelve, .mbTrdSet, .mbAccSet, .mbAccListPut, .mbAccListDel] : List (Fin 16 → Bytes → Instr)), ∀ ch p,
    ChangesOnly [.mb, .gln, .svc, .pair, .out] (i ch p)) ∧
  (∀ ch p, ChangesOnly [.mb, .gln, .task, .pair, .out] (.mbForceSet ch p)) ∧
  (∀ ch p, ChangesOnly [.mb, .gln, .tb, .pair, .out] (.mbPosFix ch p)) ∧
  (∀ ch p, ChangesOnly [.mb, .evt, .gln, .ce, .pair, .out] (.mbCeAlloc ch p)) ∧
  (∀ ch p, ChangesOnly [.mb, .evt, .gln, .fio, .pair, .out] (.mbFioClear ch p)) ∧
  (∀ i ∈ ([.mbEnRead, .mbSafetyLogRead, .mbGlnRead] : List (Fin 16 → Bytes → Instr)), ∀ ch p,
    ChangesOnly [.mb, .evt, .gln, .silo, .pair, .out] (i ch p)) ∧
  (∀ ch p, ChangesOnly [.mb, .evt, .gln, .task, .pair, .out] (.mbTaskSet ch p)) ∧
  (∀ i ∈ ([.mbCeSet, .mbCeCoefCommit] : List (Fin 16 → Bytes → Instr)), ∀ ch p,
    ChangesOnly [.mb, .gln, .ce, .pair, .out, .free] (i ch p)) ∧
  (∀ i ∈ ([.mbValueWrite, .mbValueRead] : List (Fin 16 → Bytes → Instr)), ∀ ch p,
    ChangesOnly [.mb, .gln, .core, .task, .pair, .out] (i ch p)) ∧
  (∀ ch p, ChangesOnly [.mb, .gln, .img, .eth, .pair, .out] (.mbTrdpSet ch p)) ∧
  (∀ ch p, ChangesOnly [.mb, .gln, .saf, .pair, .out, .free] (.mbSafetySecure ch p)) ∧
  (∀ ch p, ChangesOnly [.mb, .gln, .silo, .saf, .pair, .out] (.mbSafetyRestart ch p)) ∧
  (∀ ch p, ChangesOnly [.mb, .gln, .silo, .svc, .pair, .out] (.mbEnSet ch p)) ∧
  (∀ i ∈ ([.mbCalSet, .mbWpgSet] : List (Fin 16 → Bytes → Instr)), ∀ ch p,
    ChangesOnly [.mb, .gln, .svc, .pair, .out, .free] (i ch p)) ∧
  (∀ ch p, ChangesOnly [.mb, .gln, .task, .img, .pair, .out] (.mbImageWrite ch p)) ∧
  (∀ ch p, ChangesOnly [.mb, .silo, .pair, .flash, .ovl, .out] (.mbStoreEnd ch p)) ∧
  (∀ ch p, ChangesOnly [.mb, .sup, .task, .img, .pair, .out] (.mbWdgSet ch p)) ∧
  (∀ i ∈ ([.mbChanBind, .mbKeySet, .mbBankConfirm] : List (Fin 16 → Bytes → Instr)), ∀ ch p,
    ChangesOnly [.mb, .evt, .gln, .silo, .pair, .flash, .out] (i ch p)) ∧
  (∀ ch p, ChangesOnly [.mb, .evt, .gln, .tb, .eth, .pair, .out] (.mbPtpSet ch p)) ∧
  (∀ ch p, ChangesOnly [.mb, .evt, .gln, .tb, .slot, .pair, .out] (.mbLpSet ch p)) ∧
  (∀ ch p, ChangesOnly [.mb, .gln, .silo, .saf, .pair, .out, .free] (.mbSafetyPassword ch p)) ∧
  (∀ ch p, ChangesOnly [.mb, .evt, .gln, .silo, .pair, .flash, .ovl, .out] (.mbOvlDelete ch p)) ∧
  (∀ i ∈ ([.mbSafetyLoad, .mbSafetyConfirm] : List (Fin 16 → Bytes → Instr)), ∀ ch p,
    ChangesOnly [.mb, .evt, .gln, .silo, .saf, .pair, .flash, .out] (i ch p)) ∧
  (∀ ch p, ChangesOnly [.mb, .evt, .gln, .slot, .ce, .pass, .pair, .out] (.mbPassSet ch p)) ∧
  (∀ ch p, ChangesOnly [.mb, .evt, .gln, .silo, .img, .eth, .pair, .flash, .out] (.mbTenantAccept ch p)) ∧
  (∀ ch p, ChangesOnly [.mb, .evt, .gln, .task, .img, .can, .eth, .pair, .out] (.mbForceClear ch p)) ∧
  (∀ ch p, ChangesOnly [.mb, .evt, .gln, .task, .tb, .ce, .pair, .out, .free] (.mbMainsSet ch p)) ∧
  (∀ ch p, ChangesOnly [.mb, .evt, .gln, .silo, .core, .prog, .task, .pair, .flash, .ovl, .out] (.mbBankActivate ch p)) ∧
  (∀ ch p, ChangesOnly [.mb, .evt, .gln, .task, .img, .svc, .fio, .can, .eth, .pair, .out] (.mbLocalSet ch p)) ∧
  (∀ i ∈ ([.mbSchArm, .mbSchCancel] : List (Fin 16 → Bytes → Instr)), ∀ ch p,
    ChangesOnly [.mb, .evt, .gln, .task, .img, .tb, .slot, .fio, .can, .eth, .pair, .out] (i ch p)) ∧
  (∀ i ∈ ([.mbPairSet, .mbPairResync] : List (Fin 16 → Bytes → Instr)), ∀ ch p,
    ChangesOnly [.mb, .evt, .gln, .sup, .task, .img, .tb, .ce, .fio, .can, .eth, .pair, .out] (i ch p)) ∧
  (∀ i ∈ ([.mbPlotAssign, .mbPlotRelease, .mbPlotShare] : List (Fin 16 → Bytes → Instr)), ∀ ch p,
    ChangesOnly [.mb, .evt, .gln, .task, .img, .slot, .ce, .fio, .can, .eth, .pass, .pair, .out] (i ch p)) ∧
  (∀ ch p, ChangesOnly (allBut [.clk, .aon, .sup, .core, .prog, .slot, .ce, .saf, .pass, .flash, .ovl, .free]) (.mbWallSet ch p)) ∧
  (∀ i ∈ ([.mbPairSwapBegin, .mbPairSwapPreview, .mbPairSwapCommit, .mbPairSwapAbort] : List (Fin 16 → Bytes → Instr)), ∀ ch p,
    ChangesOnly (allBut [.clk, .rtc, .aon, .slot, .svc, .saf, .pass, .free]) (i ch p)) ∧
  (∀ ch p, ChangesOnly (allBut [.clk, .prog]) (.mbOvlRequest ch p))

/-- What an event of a unit may change: the groups of its own unit, the Gleaner and the event sources it fires, and what else its
own rules name; every other group is as it was. A device reset leaves the RTC and the program store (18 R447). -/
def Obligations.EventFrames : Prop :=
  (∀ i ∈ ([.hostResume, .wakeInEvent, .rtcAlarmWake] : List Instr), ChangesOnly [.aon] i) ∧
  (∀ a, ChangesOnly [.aon] (.canWakePattern a)) ∧
  (∀ a, ChangesOnly [.can] (.canBoffRecovery a)) ∧
  (∀ a b, ChangesOnly [.eth] (.arpEntryAge a b)) ∧
  (∀ a, ChangesOnly [.fio] (.peakPhaseEnd a)) ∧
  (∀ a b, ChangesOnly [.gln] (.gleanerTokenGain a b)) ∧
  ChangesOnly [.ovl] .stagingTimeout ∧
  (∀ i ∈ ([.inaugSend, .markerSend] : List Instr), ChangesOnly [.pass] i) ∧
  ChangesOnly [.rtc] .rtcCalAdd ∧
  ChangesOnly [.saf] .lockoutExpiry ∧
  (∀ a b c, ChangesOnly [.saf] (.safetyInputAccept a b c)) ∧
  (∀ a b, ChangesOnly [.saf] (.gateDriveStop a b)) ∧
  (∀ a, ChangesOnly [.task] (.retainSnapshotDue a)) ∧
  (∀ a b, ChangesOnly [.aon, .can] (.canWakeFrame a b)) ∧
  (∀ a, ChangesOnly [.can, .out] (.canTxStart a)) ∧
  (∀ a b, ChangesOnly [.evt, .fio] (.inputFilterAccept a b)) ∧
  (∀ a, ChangesOnly [.evt, .rtc] (.rtcSupplySwitch a)) ∧
  (∀ a b, ChangesOnly [.evt, .saf] (.registerWrite a b)) ∧
  (∀ a b, ChangesOnly [.gln, .can] (.canTxStarved a b)) ∧
  (∀ a, ChangesOnly [.gln, .can] (.canBusRejoin a)) ∧
  (∀ a b c, ChangesOnly [.gln, .eth] (.reassemblyTimeout a b c)) ∧
  (∀ a, ChangesOnly [.gln, .fio] (.dieReportTimeout a)) ∧
  (∀ a, ChangesOnly [.gln, .fio] (.mainsOverRange a)) ∧
  (∀ a, ChangesOnly [.gln, .img] (.plotStale a)) ∧
  (∀ i ∈ ([.servePathMismatch, .alivePathRestored, .resyncRetry] : List Instr), ChangesOnly [.gln, .pair] i) ∧
  (∀ a b, ChangesOnly [.gln, .pass] (.passEchoComplete a b)) ∧
  ChangesOnly [.gln, .rtc] .rtcSyncCheck ∧
  (∀ a, ChangesOnly [.gln, .rtc] (.rtcCalDerive a)) ∧
  (∀ a b c d, ChangesOnly [.gln, .saf] (.testPulse a b c d)) ∧
  (∀ a b c, ChangesOnly [.gln, .saf] (.soSwitchTest a b c)) ∧
  ChangesOnly [.mb, .gln] .mailboxRequestCheck ∧
  (∀ i ∈ ([.volleySend, .pairBeaconSend] : List Instr), ChangesOnly [.pair, .out] i) ∧
  (∀ a, ChangesOnly [.pass, .out] (.passResendTimer a)) ∧
  (∀ a, ChangesOnly [.pass, .out] (.passIdleSend a)) ∧
  (∀ a, ChangesOnly [.rtc, .aon] (.vbatCheck a)) ∧
  (∀ a b c, ChangesOnly [.evt, .gln, .aon] (.railWarning a b c)) ∧
  (∀ a b c, ChangesOnly [.evt, .gln, .can] (.canTxAttemptEnd a b c)) ∧
  (∀ a b, ChangesOnly [.evt, .gln, .fio] (.wireBreakChange a b)) ∧
  (∀ a b, ChangesOnly [.evt, .gln, .fio] (.outputOverload a b)) ∧
  (∀ a b, ChangesOnly [.evt, .gln, .fio] (.outputRetry a b)) ∧
  (∀ a b, ChangesOnly [.evt, .gln, .fio] (.openLoadDetect a b)) ∧
  (∀ a, ChangesOnly [.evt, .gln, .fio] (.groupOverloadTrip a)) ∧
  (∀ a, ChangesOnly [.evt, .gln, .fio] (.groupRetry a)) ∧
  (∀ a b c d, ChangesOnly [.evt, .gln, .fio] (.aoLoopFault a b c d)) ∧
  (∀ a b, ChangesOnly [.evt, .gln, .fio] (.twSensorFault a b)) ∧
  (∀ a, ChangesOnly [.evt, .gln, .fio] (.serveGateLoss a)) ∧
  (∀ a, ChangesOnly [.evt, .gln, .saf] (.sfcEvaluation a)) ∧
  (∀ a, ChangesOnly [.evt, .gln, .saf] (.hwPathEvaluation a)) ∧
  (∀ a b, ChangesOnly [.evt, .gln, .saf] (.guardDtDiscrepancy a b)) ∧
  (∀ a b, ChangesOnly [.evt, .gln, .saf] (.doorLoopSettle a b)) ∧
  (∀ a b, ChangesOnly [.evt, .gln, .saf] (.doorLoopDisagree a b)) ∧
  (∀ a b, ChangesOnly [.evt, .gln, .saf] (.maxHoldExpiry a b)) ∧
  (∀ a b, ChangesOnly [.evt, .gln, .saf] (.standstillDeclare a b)) ∧
  (∀ a b, ChangesOnly [.evt, .gln, .saf] (.safetySensorTimeout a b)) ∧
  (∀ a b c, ChangesOnly [.evt, .gln, .saf] (.axleDisagreement a b c)) ∧
  ChangesOnly [.evt, .gln, .sup] .watchdogWarning ∧
  ChangesOnly [.evt, .gln, .tb] .ptpSyncTimeout ∧
  (∀ a b, ChangesOnly [.gln, .img, .pass] (.pubTimeout a b)) ∧
  ChangesOnly [.gln, .rtc, .tb] .oscStopDetect ∧
  ChangesOnly [.gln, .silo, .sup] .holdUpEnd ∧
  (∀ a, ChangesOnly [.gln, .silo, .task] (.retainSnapshotNoAnchor a)) ∧
  (∀ a, ChangesOnly [.gln, .silo, .task] (.retainSnapshotWritten a)) ∧
  ChangesOnly [.mb, .gln, .saf] .safetyDomainPowerUp ∧
  (∀ a, ChangesOnly [.mb, .gln, .saf] (.crossMonTimeout a)) ∧
  (∀ a, ChangesOnly [.mb, .gln, .saf] (.sfcSelfTest a)) ∧
  (∀ i ∈ ([.gleanerWrite, .gleanerFreezeExpiry] : List Instr), ChangesOnly [.mb, .gln, .silo] i) ∧
  ChangesOnly [.silo, .pair, .out] .energyAccumSave ∧
  (∀ a, ChangesOnly [.evt, .gln, .aon, .sup] (.temperatureSample a)) ∧
  (∀ a, ChangesOnly [.evt, .gln, .aon, .sup] (.throttleEnd a)) ∧
  (∀ a b, ChangesOnly [.evt, .gln, .fio, .saf] (.dieFrameReceived a b)) ∧
  (∀ a, ChangesOnly [.evt, .gln, .fio, .saf] (.silenceExpiry a)) ∧
  ChangesOnly [.evt, .gln, .img, .pass] .publishSlot ∧
  (∀ a, ChangesOnly [.evt, .gln, .pass, .out] (.passForward a)) ∧
  (∀ a b, ChangesOnly [.evt, .gln, .pass, .out] (.passResendReceived a b)) ∧
  (∀ a, ChangesOnly [.evt, .gln, .tb, .ce] (.mainsCrossingTimeout a)) ∧
  (∀ a, ChangesOnly [.gln, .svc, .pair, .out] (.shelveEnd a)) ∧
  (∀ a b, ChangesOnly [.mb, .evt, .gln, .saf] (.safetyStartSequence a b)) ∧
  (∀ a, ChangesOnly [.mb, .gln, .aon, .out] (.spiWriteFrame a)) ∧
  (∀ a, ChangesOnly [.mb, .gln, .aon, .out] (.spiReadFrame a)) ∧
  (∀ a, ChangesOnly [.mb, .gln, .aon, .out] (.spiPollFrame a)) ∧
  (∀ a, ChangesOnly [.mb, .gln, .aon, .out] (.spiLinkReset a)) ∧
  (∀ a, ChangesOnly [.mb, .gln, .aon, .out] (.spiBadOpcodeFrame a)) ∧
  (∀ a, ChangesOnly [.mb, .gln, .aon, .saf] (.safetyDomainReset a)) ∧
  ChangesOnly [.mb, .gln, .img, .pass] .inaugComplete ∧
  (∀ a b, ChangesOnly [.mb, .gln, .saf, .free] (.crossMonFrame a b)) ∧
  (∀ a b, ChangesOnly [.evt, .gln, .eth, .pair, .out] (.arpRetry a b)) ∧
  (∀ a, ChangesOnly [.evt, .gln, .eth, .pair, .out] (.trdpPublish a)) ∧
  (∀ a b, ChangesOnly [.evt, .gln, .fio, .saf, .free] (.fieldSupplyUv a b)) ∧
  ChangesOnly [.evt, .gln, .silo, .sup, .task] .holdUpBegin ∧
  (∀ a b c d, ChangesOnly [.gln, .task, .img, .pair, .out] (.remoteSetReceived a b c d)) ∧
  (∀ a, ChangesOnly [.gln, .task, .img, .pair, .out] (.remoteModuleTimeout a)) ∧
  ChangesOnly [.gln, .tb, .slot, .pair, .out] .coastTimeout ∧
  (∀ a, ChangesOnly [.mb, .evt, .gln, .aon, .sup] (.throttleBegin a)) ∧
  (∀ a b, ChangesOnly [.mb, .evt, .gln, .pass, .out] (.passPortChange a b)) ∧
  (∀ a, ChangesOnly [.task, .img, .fio, .pair, .out] (.fioInputReport a)) ∧
  ChangesOnly [.task, .img, .saf, .pair, .out] .sfStatusWordUpdate ∧
  (∀ a, ChangesOnly [.evt, .gln, .tb, .slot, .pair, .out] (.axleStillTimeout a)) ∧
  (∀ a, ChangesOnly [.evt, .gln, .tb, .slot, .pair, .out] (.axleReadmit a)) ∧
  (∀ a, ChangesOnly [.evt, .img, .can, .eth, .pair, .out] (.remoteOutputPeriodic a)) ∧
  (∀ a, ChangesOnly [.gln, .task, .img, .eth, .pair, .out] (.trdpSubTimeout a)) ∧
  (∀ a b, ChangesOnly [.mb, .evt, .gln, .silo, .flash, .ovl] (.flashBlockDone a b)) ∧
  (∀ a, ChangesOnly [.mb, .gln, .core, .task, .pair, .out] (.budgetExceeded a)) ∧
  (∀ a, ChangesOnly [.mb, .gln, .core, .task, .pair, .out] (.valueWriteApply a)) ∧
  (∀ a b c d e, ChangesOnly [.mb, .gln, .core, .task, .pair, .out] (.illegalInstruction a b c d e)) ∧
  (∀ a b, ChangesOnly [.evt, .gln, .task, .img, .eth, .pair, .out] (.trdpTelegramReceived a b)) ∧
  (∀ a, ChangesOnly [.evt, .gln, .tb, .slot, .ce, .pair, .out] (.mainsDcDetect a)) ∧
  (∀ a b c d, ChangesOnly [.mb, .evt, .gln, .aon, .eth, .pair, .out] (.udpMailboxDatagram a b c d)) ∧
  (∀ a b c, ChangesOnly [.mb, .evt, .gln, .tb, .eth, .pair, .out] (.ethLinkChange a b c)) ∧
  (∀ a, ChangesOnly [.evt, .gln, .task, .img, .can, .eth, .pair, .out] (.forceTimeout a)) ∧
  (∀ a b c, ChangesOnly [.evt, .gln, .task, .img, .can, .pair, .out, .free] (.canFrameReceived a b c)) ∧
  (∀ a b, ChangesOnly [.evt, .gln, .task, .img, .fio, .pair, .out, .free] (.aiSample a b)) ∧
  (∀ a, ChangesOnly [.evt, .gln, .task, .tb, .slot, .ce, .pair, .out] (.mainsHoldoverExpiry a)) ∧
  (∀ a, ChangesOnly [.evt, .task, .img, .slot, .fio, .can, .eth, .pair, .out] (.pulseEnd a)) ∧
  (∀ a b, ChangesOnly [.evt, .gln, .task, .img, .svc, .fio, .can, .eth, .pair, .out] (.accessPulseEnd a b)) ∧
  (∀ a, ChangesOnly [.mb, .evt, .gln, .silo, .sup, .eth, .pair, .flash, .ovl, .out] (.commandExecutionEnd a)) ∧
  (∀ a, ChangesOnly [.evt, .gln, .task, .img, .tb, .slot, .fio, .can, .eth, .pair, .out] (.toothWindowClose a)) ∧
  (∀ a, ChangesOnly [.evt, .gln, .task, .img, .tb, .slot, .fio, .can, .eth, .pair, .out] (.slotFire a)) ∧
  (∀ a b c d, ChangesOnly [.evt, .gln, .task, .img, .tb, .slot, .ce, .fio, .can, .eth, .pair, .out, .free] (.mainsZeroCrossing a b c d)) ∧
  (∀ a b, ChangesOnly [.evt, .gln, .task, .img, .tb, .slot, .fio, .saf, .can, .eth, .pair, .out, .free] (.toothEdge a b)) ∧
  (∀ i ∈ ([.recordAckTimeout, .resyncTimeout] : List Instr), ChangesOnly [.mb, .evt, .gln, .sup, .task, .img, .tb, .ce, .fio, .can, .eth, .pair, .out] i) ∧
  (∀ a, ChangesOnly [.mb, .evt, .gln, .sup, .task, .img, .tb, .ce, .fio, .can, .eth, .pair, .out] (.srvInChange a)) ∧
  (∀ a, ChangesOnly [.mb, .evt, .gln, .sup, .task, .img, .tb, .ce, .fio, .can, .eth, .pair, .out] (.pairBeaconReceived a)) ∧
  ChangesOnly (allBut [.clk, .rtc, .aon, .prog, .slot, .saf, .pass, .flash, .ovl, .free]) .pairStartTimeout ∧
  (∀ a b, ChangesOnly (allBut [.clk, .silo, .rtc, .aon, .core, .prog, .svc, .saf, .flash, .ovl]) (.passFrameReceived a b)) ∧
  (∀ i ∈ ([.syncPathSilent, .alivePathSilent] : List Instr), ChangesOnly (allBut [.clk, .rtc, .aon, .prog, .saf, .pass, .flash, .ovl, .free]) i) ∧
  ChangesOnly (allBut [.clk, .rtc, .aon, .prog, .saf, .pass, .ovl, .free]) .handoverReady ∧
  (∀ a, ChangesOnly (allBut [.clk, .rtc, .aon, .prog, .saf, .pass, .flash, .ovl]) (.deadlineOverrun a)) ∧
  (∀ a, ChangesOnly (allBut [.clk, .rtc, .aon, .prog, .saf, .pass, .flash, .ovl]) (.modeTransitionInForce a)) ∧
  (∀ a, ChangesOnly (allBut [.clk, .rtc, .aon, .prog, .saf, .pass, .flash, .ovl]) (.volleyReceived a)) ∧
  (∀ i ∈ ([.bankActivationReset, .temperatureCritical, .resetNAssert, .watchdogLapse, .wakePowerUp, .mbResetTimer] : List Instr), ChangesOnly (allBut [.rtc, .flash, .free]) i) ∧
  (∀ a, ChangesOnly (allBut [.rtc, .flash, .free]) (.refclkFail a)) ∧
  (∀ a, ChangesOnly (allBut [.rtc, .flash, .free]) (.pllLockLoss a)) ∧
  (∀ a b, ChangesOnly (allBut [.rtc, .flash, .free]) (.supplyMonitorReset a b)) ∧
  (∀ a, ChangesOnly (allBut [.rtc, .flash, .free]) (.uncorrectableMemoryError a)) ∧
  ChangesOnly (allBut [.rtc, .flash]) .firmwareWatchdogService ∧
  (∀ i ∈ ([.positionTick, .alarmEvaluate, .meterSample, .chainChangeApply, .replayRelease, .overlayTransitionTimeout] : List Instr), ChangesOnly (allBut [.clk, .prog]) i) ∧
  (∀ a, ChangesOnly (allBut [.clk, .prog]) (.ceSampleComplete a)) ∧
  (∀ a, ChangesOnly (allBut [.clk, .prog]) (.wpgEvaluate a)) ∧
  (∀ a, ChangesOnly (allBut [.clk, .prog]) (.trendSample a)) ∧
  (∀ a, ChangesOnly (allBut [.clk, .prog]) (.trendChangeCheck a)) ∧
  (∀ a, ChangesOnly (allBut [.clk, .prog]) (.energyIntervalClose a)) ∧
  (∀ a, ChangesOnly (allBut [.clk, .prog]) (.accessDecision a)) ∧
  (∀ a, ChangesOnly (allBut [.clk, .prog]) (.fioOutputFrame a)) ∧
  (∀ a, ChangesOnly (allBut [.clk, .prog]) (.canConfigApply a)) ∧
  (∀ a b, ChangesOnly (allBut [.clk, .prog]) (.ethFrameReceived a b)) ∧
  (∀ a, ChangesOnly (allBut [.clk, .prog]) (.ptpMessage a)) ∧
  (∀ a b c, ChangesOnly (allBut [.clk, .prog]) (.pairRecordReceived a b c)) ∧
  (∀ a, ChangesOnly (allBut [.clk, .prog]) (.resyncRound a)) ∧
  (∀ a, ChangesOnly (allBut [.clk, .prog]) (.ptpPortTimer a))
end

