-- ==== Sys2Proof/Laws/Tab.lean ====
section
/-! SUPPORT. The laws of sparse tables: a read after a write, and the canonical form that every table operation keeps. -/

namespace Sys2Proof.Machine

variable {α : Type}

@[simp] theorem tget_nil (d : α) (i : Nat) : tget d [] i = d := rfl

theorem tget_cons (d : α) (k : Nat) (v : α) (t : Tab α) (i : Nat) :
    tget d ((k, v) :: t) i = if i = k then v else tget d t i := rfl

variable [DecidableEq α]

/-- A key that has just been written reads as what was written. -/
@[simp] theorem tget_tput_same (d : α) (i : Nat) (v : α) (t : Tab α) : tget d (tput d i v t) i = v := by
  induction t with
  | nil => unfold tput; split <;> simp_all [tget]
  | cons e t ih =>
    obtain ⟨k, w⟩ := e
    unfold tput
    split
    · split
      · exact ih
      · simp [tget]
    · split
      · simp [tget]
      · simp_all [tget]

/-- A write leaves every other key as it was. -/
theorem tget_tput_ne (d : α) (i j : Nat) (v : α) (t : Tab α) (h : j ≠ i) : tget d (tput d i v t) j = tget d t j := by
  induction t with
  | nil => unfold tput; split <;> simp_all [tget]
  | cons e t ih =>
    obtain ⟨k, w⟩ := e
    unfold tput
    split
    · subst_vars
      split
      · simp [tget, h, ih]
      · simp [tget, h]
    · split
      · simp [tget, h]
      · simp [tget, ih]

theorem tget_tput (d : α) (i j : Nat) (v : α) (t : Tab α) : tget d (tput d i v t) j = if j = i then v else tget d t j := by
  split
  · subst_vars; simp
  · exact tget_tput_ne d i j v t ‹_›

theorem tget_tupd (d : α) (i j : Nat) (f : α → α) (t : Tab α) :
    tget d (tupd d i f t) j = if j = i then f (tget d t i) else tget d t j := tget_tput d i j _ t

@[simp] theorem tget_tupd_same (d : α) (i : Nat) (f : α → α) (t : Tab α) : tget d (tupd d i f t) i = f (tget d t i) := by
  simp [tupd]

/-- A lower bound of the keys may be lowered. -/
theorem tabOk_mono {d : α} {lo lo' : Nat} {t : Tab α} (h : tabOk d lo t = true) (hl : lo' ≤ lo) : tabOk d lo' t = true := by
  cases t with
  | nil => rfl
  | cons e t =>
    simp only [tabOk, Bool.and_eq_true, decide_eq_true_eq] at h ⊢
    exact ⟨⟨le_trans hl h.1.1, h.1.2⟩, h.2⟩

/-- The removal of a key keeps the canonical form, whatever the key. -/
theorem tput_default_tabOk (d : α) (i : Nat) : ∀ (t : Tab α) (lo : Nat), tabOk d lo t = true → tabOk d lo (tput d i d t) = true
  | [], lo, _ => by simp [tput, tabOk]
  | (k, w) :: t, lo, h => by
    simp only [tabOk, Bool.and_eq_true, decide_eq_true_eq] at h
    have ih := tput_default_tabOk d i t (k + 1) h.2
    unfold tput
    split
    · simpa using tabOk_mono ih (Nat.le_succ_of_le h.1.1)
    · simp [tabOk, h.1.1, h.1.2, ih]

/-- A write keeps the canonical form. -/
theorem tput_tabOk (d : α) (i : Nat) (v : α) : ∀ (t : Tab α) (lo : Nat), tabOk d lo t = true → lo ≤ i → tabOk d lo (tput d i v t) = true
  | [], lo, _, hi => by
    unfold tput
    split
    · rfl
    · simp [tabOk, hi, ‹¬v = d›]
  | (k, w) :: t, lo, h, hi => by
    by_cases hv : v = d
    · rw [hv]; exact tput_default_tabOk d i _ lo h
    · simp only [tabOk, Bool.and_eq_true, decide_eq_true_eq] at h
      obtain ⟨⟨h1, h2⟩, h3⟩ := h
      unfold tput
      split
      · rename_i hik
        simp [hv, tabOk, hik, h1, h3]
      · split
        · rename_i hk
          simp [tabOk, hi, hv, h2, h3, hk.1]
        · rename_i hne hk
          have hki : k + 1 ≤ i := by
            have : ¬ i < k := fun hlt => hk ⟨hlt, hv⟩
            omega
          simp [tabOk, h1, h2, tput_tabOk d i v t (k + 1) h3 hki]

/-- One word written keeps a memory canonical. -/
theorem wput_wf (i : Nat) (v : Word) (t : Tab Word) (h : Memory.wf t = true) : Memory.wf (wput i v t) = true :=
  tput_tabOk 0#48 i v t 0 h (Nat.zero_le i)

/-- Consecutive words written keep a memory canonical. -/
theorem wputs_wf (vs : List Word) : ∀ (i : Nat) (t : Tab Word), Memory.wf t = true → Memory.wf (wputs i vs t) = true := by
  induction vs with
  | nil => intro i t h; exact h
  | cons v vs ih => intro i t h; exact ih (i + 1) (wput i v t) (wput_wf i v t h)

/-- Entries left out keep the canonical form. -/
theorem tabOk_filter (d : α) (q : Nat × α → Bool) : ∀ (t : Tab α) (lo : Nat), tabOk d lo t = true → tabOk d lo (t.filter q) = true
  | [], _, _ => rfl
  | (k, w) :: t, lo, h => by
    simp only [tabOk, Bool.and_eq_true, decide_eq_true_eq] at h
    have ih := tabOk_filter d q t (k + 1) h.2
    rw [List.filter_cons]
    split
    · simp [tabOk, h.1.1, h.1.2, ih]
    · exact tabOk_mono ih (Nat.le_succ_of_le h.1.1)

/-- Cleared words keep a memory canonical. -/
theorem wclear_wf (i n : Nat) (t : Tab Word) (h : Memory.wf t = true) : Memory.wf (wclear i n t) = true :=
  tabOk_filter 0#48 _ t 0 h

@[simp] theorem wget_wput_same (i : Nat) (v : Word) (t : Tab Word) : wget (wput i v t) i = v := tget_tput_same 0#48 i v t

theorem wget_wput (i j : Nat) (v : Word) (t : Tab Word) : wget (wput i v t) j = if j = i then v else wget t j :=
  tget_tput 0#48 i j v t

end Sys2Proof.Machine
end

