-- ==== Sys2Proof/Laws/Kv.lean ====
section
/-! SUPPORT. What the issue of a KV48 instruction does: the shared lemmas over openDistances, landLoads, retire and kvIssue. -/

namespace Sys2Proof.Machine

/-! ### The opening of distances -/

@[simp] theorem openDistances_w (e : Ex) : (openDistances e).w = e.w := rfl
@[simp] theorem openDistances_p (e : Ex) : (openDistances e).p = e.p := rfl
@[simp] theorem openDistances_sat (e : Ex) : (openDistances e).sat = e.sat := rfl
@[simp] theorem openDistances_ldepth (e : Ex) : (openDistances e).ldepth = e.ldepth := rfl
@[simp] theorem openDistances_pc (e : Ex) : (openDistances e).pc = e.pc := rfl
@[simp] theorem openDistances_n (e : Ex) : (openDistances e).n = e.n := rfl
@[simp] theorem openDistances_cycles (e : Ex) : (openDistances e).cycles = e.cycles := rfl
@[simp] theorem openDistances_tenant (e : Ex) : (openDistances e).tenant = e.tenant := rfl
@[simp] theorem openDistances_core (e : Ex) : (openDistances e).core = e.core := rfl
@[simp] theorem openDistances_phase (e : Ex) : (openDistances e).phase = e.phase := rfl
@[simp] theorem openDistances_loads (e : Ex) : (openDistances e).loads = e.loads := rfl
@[simp] theorem openDistances_posts (e : Ex) : (openDistances e).posts = e.posts := rfl
@[simp] theorem openDistances_segd (e : Ex) : (openDistances e).segd = e.segd := rfl
@[simp] theorem openDistances_wrote (e : Ex) : (openDistances e).wrote = [] := rfl
@[simp] theorem openDistances_view (e : Ex) : (openDistances e).view = e.view := rfl
@[simp] theorem openDistances_plots (e : Ex) : (openDistances e).plots = e.plots := rfl
@[simp] theorem openDistances_ownPos (e : Ex) : (openDistances e).ownPos = e.ownPos := rfl
@[simp] theorem openDistances_seg7 (e : Ex) : (openDistances e).seg7 = e.seg7 := rfl
@[simp] theorem openDistances_consts (e : Ex) : (openDistances e).consts = e.consts := rfl
@[simp] theorem openDistances_overBudget (e : Ex) : (openDistances e).overBudget = e.overBudget := rfl

@[simp] theorem rW_openDistances (e : Ex) (i : BitVec 4) : rW (openDistances e) i = rW e i := rfl
@[simp] theorem rP_openDistances (e : Ex) (i : Nat) : rP (openDistances e) i = rP e i := rfl
@[simp] theorem guardTrue_openDistances (o : Kv) (e : Ex) : guardTrue o (openDistances e) = guardTrue o e := rfl
@[simp] theorem fetchOk_openDistances (e : Ex) (len : Nat) : fetchOk (openDistances e) len = fetchOk e len := rfl
@[simp] theorem effAddr_openDistances (o : Kv) (e : Ex) : effAddr o (openDistances e) = effAddr o e := rfl
@[simp] theorem checkAddr_openDistances (e : Ex) (l : List Nat) (b : Bool) (a : Word) : checkAddr (openDistances e) l b a = checkAddr e l b a := rfl
@[simp] theorem laneReg_openDistances (o : Kv) (e : Ex) : laneReg o (openDistances e) = laneReg o e := rfl

/-! ### Registers and predicates -/

theorem bv4_ne {a b : BitVec 4} (h : a ≠ b) : a.toNat ≠ b.toNat := fun hn => h (BitVec.eq_of_toNat_eq hn)

/-- W registers after a write: Wd reads as written, every other as before. -/
theorem rW_wW (i j : BitVec 4) (v : Word) (e : Ex) : rW (wW i v e) j = if j = i then v else rW e j := by
  unfold rW wW
  rw [wget_wput]
  by_cases h : j = i
  · simp [h]
  · simp [h, bv4_ne h]

@[simp] theorem rW_wW_same (i : BitVec 4) (v : Word) (e : Ex) : rW (wW i v e) i = v := by simp [rW_wW]
@[simp] theorem rP_wW (i : BitVec 4) (v : Word) (e : Ex) (j : Nat) : rP (wW i v e) j = rP e j := rfl

theorem bit8_set (p : BitVec 8) (a b : Nat) (ha : a < 8) (hb : b < 8) (v : Bool) :
    (if v then p ||| BitVec.ofNat 8 (2 ^ a) else p &&& ~~~(BitVec.ofNat 8 (2 ^ a))).getLsbD b = if b = a then v else p.getLsbD b := by
  have hm : (BitVec.ofNat 8 (2 ^ a)).getLsbD b = decide (b = a) := by
    rw [BitVec.getLsbD_ofNat, Nat.testBit_two_pow]
    by_cases h : a = b <;> simp [h, hb, eq_comm]
  cases v <;> by_cases h : b = a <;> simp [hm, h, hb, ha]
  all_goals simp_all

/-- Predicates after a write: Pd reads as written, but for P0, which reads true; every other as before. -/
theorem rP_wP (i j : Nat) (b : Bool) (e : Ex) : rP (wP i b e) j = if j % 8 = i % 8 then (b || decide (i % 8 = 0)) else rP e j := by
  unfold wP rP
  have hi := Nat.mod_lt i (show 0 < 8 by omega)
  have hj := Nat.mod_lt j (show 0 < 8 by omega)
  by_cases h0 : i % 8 = 0
  · by_cases h : j % 8 = i % 8
    · simp [h0, h]
    · simp [h0]; intro h'; omega
  · simp only [h0, if_false, bit8_set _ _ _ hi hj]
    by_cases h : j % 8 = i % 8
    · simp [h, h0]
    · simp [h]

@[simp] theorem rW_wP (i : Nat) (b : Bool) (e : Ex) (j : BitVec 4) : rW (wP i b e) j = rW e j := by
  unfold wP; split <;> rfl

@[simp] theorem rW_sat (e : Ex) (b : Bool) (j : BitVec 4) : rW { e with sat := b } j = rW e j := rfl
@[simp] theorem rP_sat (e : Ex) (b : Bool) (j : Nat) : rP { e with sat := b } j = rP e j := rfl

/-! ### Loads that land -/

/-- A load that lands changes W registers and predicates alone. -/
theorem landLoad_fields (e : Ex) (l : PLoad) :
    (landLoad e l).sat = e.sat ∧ (landLoad e l).n = e.n ∧ (landLoad e l).cycles = e.cycles ∧ (landLoad e l).pc = e.pc ∧
    (landLoad e l).posts = e.posts ∧ (landLoad e l).tenant = e.tenant ∧ (landLoad e l).core = e.core ∧ (landLoad e l).phase = e.phase ∧
    (landLoad e l).ldepth = e.ldepth ∧ (landLoad e l).lp = e.lp ∧ (landLoad e l).imPend = e.imPend ∧ (landLoad e l).outw = e.outw ∧
    (landLoad e l).lpPend = e.lpPend ∧ (landLoad e l).schPend = e.schPend ∧ (landLoad e l).started = e.started ∧
    (landLoad e l).bound = e.bound ∧ (landLoad e l).tendAt = e.tendAt := by
  unfold landLoad; split <;> simp

theorem foldl_landLoad_fields (l : List PLoad) : ∀ e : Ex,
    (l.foldl landLoad e).sat = e.sat ∧ (l.foldl landLoad e).n = e.n ∧ (l.foldl landLoad e).cycles = e.cycles ∧ (l.foldl landLoad e).pc = e.pc ∧
    (l.foldl landLoad e).posts = e.posts ∧ (l.foldl landLoad e).tenant = e.tenant ∧ (l.foldl landLoad e).core = e.core ∧
    (l.foldl landLoad e).phase = e.phase ∧ (l.foldl landLoad e).ldepth = e.ldepth ∧ (l.foldl landLoad e).lp = e.lp ∧
    (l.foldl landLoad e).imPend = e.imPend ∧ (l.foldl landLoad e).outw = e.outw ∧ (l.foldl landLoad e).lpPend = e.lpPend ∧
    (l.foldl landLoad e).schPend = e.schPend ∧ (l.foldl landLoad e).started = e.started ∧ (l.foldl landLoad e).bound = e.bound ∧
    (l.foldl landLoad e).tendAt = e.tendAt := by
  induction l with
  | nil => intro e; simp
  | cons a l ih =>
    intro e
    have h := ih (landLoad e a)
    have g := landLoad_fields e a
    simp only [List.foldl_cons]
    simp only [g] at h
    exact h

theorem foldl_landLoad_rW (r : BitVec 4) : ∀ (l : List PLoad) (e : Ex), (∀ x ∈ l, x.target ≠ r.toNat) → rW (l.foldl landLoad e) r = rW e r
  | [], _, _ => rfl
  | x :: l, e, h => by
    rw [List.foldl_cons, foldl_landLoad_rW r l _ (fun y hy => h y (List.mem_cons_of_mem _ hy))]
    unfold landLoad
    split
    · unfold rW
      exact (wget_wput _ _ _ _).trans (if_neg (fun hh => h x (List.mem_cons_self ..) hh.symm))
    · rfl

theorem foldl_landLoad_rP (i : Nat) (hi : i < 8) : ∀ (l : List PLoad) (e : Ex), (∀ x ∈ l, x.target ≠ 16 + i) → rP (l.foldl landLoad e) i = rP e i
  | [], _, _ => rfl
  | x :: l, e, h => by
    rw [List.foldl_cons, foldl_landLoad_rP i hi l _ (fun y hy => h y (List.mem_cons_of_mem _ hy))]
    unfold landLoad
    split
    · rfl
    · rename_i hx
      have hne : x.target ≠ 16 + i := h x (List.mem_cons_self ..)
      have hm : (BitVec.ofNat 8 (2 ^ (x.target - 16))).getLsbD i = false := by
        rw [BitVec.getLsbD_ofNat, Nat.testBit_two_pow]
        have : x.target - 16 ≠ i := by omega
        simp [this]
      have hi8 : i % 8 = i := Nat.mod_eq_of_lt hi
      generalize BitVec.ofNat 8 (2 ^ (x.target - 16)) = m at hm
      unfold rP
      simp only [hi8]
      split
      · rw [BitVec.getLsbD_and, BitVec.getLsbD_not, hm]; simp [hi]
      · rw [BitVec.getLsbD_or, hm]; simp

theorem landLoads_rW (e : Ex) (r : BitVec 4) (h : e.wrote.contains r.toNat = true ∨ NoLoadLands e r.toNat) : rW (landLoads e) r = rW e r := by
  unfold landLoads
  show rW (List.foldl landLoad e _) r = rW e r
  apply foldl_landLoad_rW
  intro x hx ht
  simp only [List.mem_filter, Bool.and_eq_true, decide_eq_true_eq] at hx
  obtain ⟨hm, hl, hw⟩ := hx
  rcases h with h | h
  · rw [ht, h] at hw; exact absurd hw (by simp)
  · exact absurd hl (Nat.not_le.mpr (h x hm ht))

theorem landLoads_rP (e : Ex) (i : Nat) (hi : i < 8) (h : e.wrote.contains (16 + i) = true ∨ NoLoadLands e (16 + i)) :
    rP (landLoads e) i = rP e i := by
  unfold landLoads
  show rP (List.foldl landLoad e _) i = rP e i
  apply foldl_landLoad_rP i hi
  intro x hx ht
  simp only [List.mem_filter, Bool.and_eq_true, decide_eq_true_eq] at hx
  obtain ⟨hm, hl, hw⟩ := hx
  rcases h with h | h
  · rw [ht, h] at hw; exact absurd hw (by simp)
  · exact absurd hl (Nat.not_le.mpr (h x hm ht))

/-- P0 reads true whatever lands. -/
theorem rP_zero (e : Ex) : rP e 0 = true := rfl

theorem landLoads_fields (e : Ex) :
    (landLoads e).sat = e.sat ∧ (landLoads e).n = e.n ∧ (landLoads e).cycles = e.cycles ∧ (landLoads e).pc = e.pc ∧
    (landLoads e).posts = e.posts ∧ (landLoads e).tenant = e.tenant ∧ (landLoads e).core = e.core ∧ (landLoads e).phase = e.phase ∧
    (landLoads e).ldepth = e.ldepth ∧ (landLoads e).lp = e.lp ∧ (landLoads e).imPend = e.imPend ∧ (landLoads e).outw = e.outw ∧
    (landLoads e).lpPend = e.lpPend ∧ (landLoads e).schPend = e.schPend ∧ (landLoads e).started = e.started ∧
    (landLoads e).bound = e.bound ∧ (landLoads e).tendAt = e.tendAt ∧ (landLoads e).loads = e.loads.filter (fun l => e.n < l.landAt) := by
  have h := foldl_landLoad_fields (e.loads.filter (fun l => l.landAt ≤ e.n && !e.wrote.contains l.target)) e
  unfold landLoads
  exact ⟨h.1, h.2.1, h.2.2.1, h.2.2.2.1, h.2.2.2.2.1, h.2.2.2.2.2.1, h.2.2.2.2.2.2.1, h.2.2.2.2.2.2.2.1, h.2.2.2.2.2.2.2.2.1,
    h.2.2.2.2.2.2.2.2.2.1, h.2.2.2.2.2.2.2.2.2.2.1, h.2.2.2.2.2.2.2.2.2.2.2.1, h.2.2.2.2.2.2.2.2.2.2.2.2.1,
    h.2.2.2.2.2.2.2.2.2.2.2.2.2.1, h.2.2.2.2.2.2.2.2.2.2.2.2.2.2.1, h.2.2.2.2.2.2.2.2.2.2.2.2.2.2.2.1, h.2.2.2.2.2.2.2.2.2.2.2.2.2.2.2.2, rfl⟩

/-! ### Completion -/

/-- The loop end changes loop state alone; away from every LPE it does nothing. -/
theorem loopEnd_away (seq fuel : Nat) (e : Ex) (h : atLoopEnd e = false) : loopEnd seq fuel e = (seq, e) := by
  cases fuel with
  | zero => rfl
  | succ n =>
    unfold loopEnd
    by_cases hd : e.ldepth = 0
    · simp [hd]
    · have hl : lpe e (e.ldepth - 1) ≠ e.pc := by
        intro hc
        have : atLoopEnd e = true := by
          unfold atLoopEnd
          simp only [List.any_eq_true, List.mem_range, beq_iff_eq]
          exact ⟨e.ldepth - 1, by omega, hc⟩
        rw [h] at this
        exact absurd this (by simp)
      simp [hl]

/-- What loopEnd may change. -/
theorem loopEnd_fields (seq : Nat) : ∀ (fuel : Nat) (e : Ex),
    (loopEnd seq fuel e).2 = { e with lp := (loopEnd seq fuel e).2.lp, ldepth := (loopEnd seq fuel e).2.ldepth }
  | 0, e => rfl
  | n + 1, e => by
    unfold loopEnd
    simp only
    split
    · rfl
    · split
      · rfl
      · have h := loopEnd_fields seq n { e with lp := wput (8 + (e.ldepth - 1)) (wd (lpc e (e.ldepth - 1) - 1)) e.lp, ldepth := e.ldepth - 1 }
        rw [h]

/-- Completion in sequence: what lands, the loop state and the next address aside, an execution stays as the effect left it. -/
theorem retire_seq (len cyc : Nat) (e : Ex) :
    ∃ lp ld pc, retire len none cyc e = { landLoads e with lp := lp, ldepth := ld, pc := pc, n := e.n + 1, cycles := e.cycles + cyc } ∧
      (atLoopEnd e = false → pc = (e.pc + len) % 2 ^ 22 ∧ lp = e.lp ∧ ld = e.ldepth) := by
  have hf := landLoads_fields e
  refine ⟨(retire len none cyc e).lp, (retire len none cyc e).ldepth, (retire len none cyc e).pc, ?_, ?_⟩
  · have hl := loopEnd_fields (((landLoads e).pc + len) % 2 ^ 22) 4 (landLoads e)
    unfold retire
    simp only
    generalize hg : loopEnd (((landLoads e).pc + len) % 2 ^ 22) 4 (landLoads e) = r at hl ⊢
    obtain ⟨pc, r⟩ := r
    simp only at hl ⊢
    rw [hl]
    simp [hf.2.1, hf.2.2.1]
  · intro ha
    have ha' : atLoopEnd (landLoads e) = false := by
      rw [← ha]
      unfold atLoopEnd lpe
      rw [hf.2.2.2.2.2.2.2.2.2.1, hf.2.2.2.2.2.2.2.2.1, hf.2.2.2.1]
    unfold retire
    simp only [loopEnd_away _ _ _ ha']
    exact ⟨by rw [hf.2.2.2.1], hf.2.2.2.2.2.2.2.2.2.1, hf.2.2.2.2.2.2.2.2.1⟩

/-! ### Issue -/

/-- Correction leaves a state whose syllables hold no error as it is. -/
theorem correctCode_intact (t pc len : Nat) (s : State) (h : ∀ j, j < len → s.core.codeSoft.contains (t * 2 ^ 22 + (pc + j)) = false) :
    correctCode t pc len s = s := by
  unfold correctCode
  have : ∀ l : List Nat, (∀ j ∈ l, j < len) → l.foldl (fun s j => correctSyl t (pc + j) s) s = s := by
    intro l
    induction l with
    | nil => intro _; rfl
    | cons j l ih =>
      intro hl
      have hj : correctSyl t (pc + j) s = s := by
        unfold correctSyl
        rw [h j (hl j (List.mem_cons_self ..))]; rfl
      rw [List.foldl_cons, hj]
      exact ih (fun x hx => hl x (List.mem_cons_of_mem _ hx))
  exact this _ (fun j hj => List.mem_range.mp hj)

/-- The code at PC spells the same while distances open. -/
@[simp] theorem kvAt_openDistances (c : Fin 8) (e : Ex) (s : State) : kvAt c (openDistances e) s = kvAt c e s := rfl

/-- Opening a core's cycle leaves the budget of a task as it is. -/
@[simp] theorem budgetOf_issueCycle (c k : Nat) (s : State) : budgetOf (issueCycle c s) k = budgetOf s k := rfl

/-- Opening a core's cycle leaves the marks of the code store as they are. -/
@[simp] theorem issueCycle_codeSoft (c : Nat) (s : State) : (issueCycle c s).core.codeSoft = s.core.codeSoft := rfl

/-- A core's store changes one word of the data store and what the cycle remembers of it, nothing else (04 R117). -/
theorem coreStore_only (c key : Nat) (mask v : Word) (s : State) :
    coreStore c key mask v s = { s with core := { s.core with data := (coreStore c key mask v s).core.data, cyc := (coreStore c key mask v s).core.cyc } } := rfl

/-- Every other word of the data store reads as before. -/
theorem coreStore_other (c key j : Nat) (mask v : Word) (s : State) (h : j ≠ key) :
    wget (coreStore c key mask v s).core.data j = wget s.core.data j := by
  show wget (wput key _ s.core.data) j = _
  rw [wget_wput, if_neg h]

/-- A store to a word that no core has stored to in the cycle puts the lanes of the mask. -/
theorem coreStore_first (c key : Nat) (mask v : Word) (s : State) (h : s.core.cyc.words = []) :
    wget (coreStore c key mask v s).core.data key = (wget s.core.data key &&& ~~~mask) ||| (v &&& mask) := by
  unfold coreStore wordCycle storesOn
  simp [h]

/-- An instruction that can issue does what its body says, in the cycle that it opens. -/
theorem kvRun_issues {i : Kv → Instr} {o : Kv} {len k : Nat} {e : Ex} {s : State} (h : KvIssues i o len k e s)
    (body : Kv → Nat → Ex → State → KvRes) :
    kvRun i body o s = .next (match body o k (openDistances e) (issueCycle o.core.val s) with
      | .ok e' s' tgt cyc => if budgetOf s k = 0 ∨ e.cycles + cyc ≤ budgetOf s k then setEx k (some (retire len tgt cyc e')) s'
          else setEx k (some { openDistances e with overBudget := true }) (issueCycle o.core.val s)
      | .trap c p => taskTrap k (openDistances e) c p (issueCycle o.core.val s)) := by
  obtain ⟨hk, hl, h1, h2, h3, h4, h5, h6, h7, h8⟩ := h
  have hc : correctCode e.tenant e.pc len (issueCycle o.core.val s) = issueCycle o.core.val s := correctCode_intact _ _ _ _ h6
  unfold kvRun kvIssue issuing
  simp only [h1, h2, h3, h4, ne_eq, not_true_eq_false, Bool.false_eq_true, or_self, if_false, fetchOk_openDistances, h5, kvAt_openDistances, hk, hl,
    Bool.not_true, guardTrue_openDistances, h7, openDistances_tenant, openDistances_pc, hc]
  unfold issueEx
  simp only [Bool.not_true, Bool.false_eq_true, if_false, openDistances_cycles, budgetOf_issueCycle]
  have h8' : (budgetOf s k == 0 || decide (e.cycles + 1 ≤ budgetOf s k)) = true := by
    rcases h8 with h | h <;> simp [h]
  cases hb : body o k (openDistances e) (issueCycle o.core.val s) with
  | trap c p => exact congrArg _ (if_pos h8')
  | ok e' s' tgt cyc =>
    by_cases hf : budgetOf s k = 0 ∨ e.cycles + cyc ≤ budgetOf s k
    · have hf' : (budgetOf s k == 0 || decide (e.cycles + cyc ≤ budgetOf s k)) = true := by rcases hf with h | h <;> simp [h]
      exact congrArg _ ((if_pos hf').trans (if_pos hf).symm)
    · have hf' : (budgetOf s k == 0 || decide (e.cycles + cyc ≤ budgetOf s k)) = false := by
        rw [not_or] at hf
        simp [hf.1, hf.2]
      exact congrArg _ ((if_neg (show ¬((budgetOf s k == 0 || decide (e.cycles + cyc ≤ budgetOf s k)) = true) by simp [hf'])).trans (if_neg hf).symm)

/-- An instruction on registers alone runs and completes. -/
theorem kvRun_pure {i : Kv → Instr} {o : Kv} {len k : Nat} {e : Ex} {s : State} (h : KvIssues i o len k e s) (f : Kv → Ex → Ex) :
    kvRun i (pureKv f) o s = .next (setEx k (some (retire len none 1 (f o (openDistances e)))) (issueCycle o.core.val s)) := by
  rw [kvRun_issues h]
  exact congrArg _ (if_pos h.paid)

/-- Completion in sequence keeps what KvKeeps says, of an effect that keeps it. -/
theorem retire_keeps (len : Nat) (w : Option (BitVec 4)) (p : Option Nat) (e e1 : Ex)
    (hr : ∀ r : BitVec 4, w ≠ some r → rW e1 r = rW e r)
    (hp : ∀ i, i < 8 → p ≠ some i → rP e1 i = rP e i)
    (hl : e1.loads = e.loads) (hn : e1.n = e.n) (hc : e1.cycles = e.cycles) (hpc : e1.pc = e.pc) (hpo : e1.posts = e.posts)
    (ht : e1.tenant = e.tenant) (hco : e1.core = e.core) (hph : e1.phase = e.phase)
    (hlp : e1.lp = (openDistances e).lp) (hld : e1.ldepth = e.ldepth) :
    KvKeeps len w p e (retire len none 1 e1) := by
  obtain ⟨lp, ld, pc, h, ha⟩ := retire_seq len 1 e1
  have hf := landLoads_fields e1
  rw [h]
  refine ⟨?_, ?_, ?_, ?_, ?_, ?_, ?_⟩
  · intro r hw hnl
    have : NoLoadLands e1 r.toNat := by unfold NoLoadLands; rw [hl, hn]; exact hnl
    exact (landLoads_rW e1 r (.inr this)).trans (hr r hw)
  · intro i hi hw hnl
    have : NoLoadLands e1 (16 + i) := by unfold NoLoadLands; rw [hl, hn]; exact hnl
    exact (landLoads_rP e1 i hi (.inr this)).trans (hp i hi hw)
  · simp [hn]
  · simp [hc]
  · intro hb
    have hb' : atLoopEnd e1 = false := by
      rw [← hb]; unfold atLoopEnd lpe; rw [hlp, hld, hpc]; rfl
    rw [← hpc]; exact (ha hb').1
  · simp [hf, hpo]
  · simp [hf, ht, hco, hph]

/-- An instruction that writes Wd with a value of the registers. -/
theorem kvSets_of_wW {i : Kv → Instr} {len : Nat} {R : Kv → Ex → Word → Prop} (v : Kv → Ex → Word)
    (hi : ∀ o s, exec (i o) s = kvRun i (pureKv fun o e => wW o.d (v o e) e) o s)
    (hv : ∀ o e, v o (openDistances e) = v o e)
    (hR : ∀ o e, R o e (v o e)) : KvSets i len R noSat := by
  intro o k e s h
  refine ⟨_, (hi o s).trans (kvRun_pure h _), ?_, ?_, ?_⟩
  · obtain ⟨lp, ld, pc, hr, -⟩ := retire_seq len 1 (wW o.d (v o (openDistances e)) (openDistances e))
    rw [hr]
    show R o e (rW (landLoads _) o.d)
    rw [landLoads_rW _ _ (.inl (by simp [wW])), rW_wW_same, hv]
    exact hR o e
  · obtain ⟨lp, ld, pc, hr, -⟩ := retire_seq len 1 (wW o.d (v o (openDistances e)) (openDistances e))
    rw [hr]
    show (landLoads _).sat = true ↔ _
    rw [(landLoads_fields _).1]
    simp [noSat, wW]
  · apply retire_keeps <;> try rfl
    · intro r hr
      rw [rW_wW, if_neg (fun h => hr (by rw [h]))]; rfl
    · intro _ _ _; rfl

/-- An instruction that writes Wd with a clamped value and sets SAT. -/
theorem kvSets_of_wSat {i : Kv → Instr} {len : Nat} {R : Kv → Ex → Word → Prop} {S} (v : Kv → Ex → Word × Bool)
    (hi : ∀ o s, exec (i o) s = kvRun i (pureKv fun o e => wSat o.d (v o e) e) o s)
    (hv : ∀ o e, v o (openDistances e) = v o e)
    (hR : ∀ o e, R o e (v o e).1) (hS : ∀ o e, (v o e).2 = true ↔ S o e) : KvSets i len R S := by
  intro o k e s h
  refine ⟨_, (hi o s).trans (kvRun_pure h _), ?_, ?_, ?_⟩
  · obtain ⟨lp, ld, pc, hr, -⟩ := retire_seq len 1 (wSat o.d (v o (openDistances e)) (openDistances e))
    rw [hr]
    show R o e (rW (landLoads _) o.d)
    rw [landLoads_rW _ _ (.inl (by simp [wSat, wW]))]
    unfold wSat
    rw [rW_sat, rW_wW_same, hv]
    exact hR o e
  · obtain ⟨lp, ld, pc, hr, -⟩ := retire_seq len 1 (wSat o.d (v o (openDistances e)) (openDistances e))
    rw [hr]
    show (landLoads _).sat = true ↔ _
    rw [(landLoads_fields _).1]
    simp [wSat, wW, hv, hS]
  · apply retire_keeps <;> try rfl
    · intro r hr
      unfold wSat
      rw [rW_sat, rW_wW, if_neg (fun h => hr (by rw [h]))]; rfl
    · intro _ _ _; rfl

/-- An instruction that writes a truth to Pd under the combine bit. -/
theorem kvTests_of_wPd {i : Kv → Instr} {len : Nat} {R : Kv → Ex → Prop} (b : Kv → Ex → Bool)
    (hi : ∀ o s, exec (i o) s = kvRun i (pureKv fun o e => wPd o (b o e) e) o s)
    (hb : ∀ o e, b o (openDistances e) = b o e) (hR : ∀ o e, b o e = true ↔ R o e) : KvTests i len R := by
  intro o k e s h
  have hd : o.d.toNat % 8 < 8 := Nat.mod_lt _ (by omega)
  have hbit : o.d.getLsbD 3 = decide (8 ≤ o.d.toNat) := by
    have : ∀ d : BitVec 4, d.getLsbD 3 = decide (8 ≤ d.toNat) := by decide
    exact this _
  generalize hx : wPd o (b o (openDistances e)) (openDistances e) = e1
  have h1 : rP e1 (o.d.toNat % 8) = true ↔
      o.d.toNat % 8 = 0 ∨ (R o e ∧ (8 ≤ o.d.toNat → rP e (o.d.toNat % 8) = true)) := by
    rw [← hx, ← hR o e]
    unfold wPd predNo
    rw [rP_wP, hb, rP_openDistances, hbit]
    simp only [if_true, Bool.or_eq_true, Bool.and_eq_true, decide_eq_true_eq, Bool.not_eq_true', decide_eq_false_iff_not]
    constructor
    · rintro (⟨h1, h2⟩ | h1)
      · exact .inr ⟨h1, fun h3 => by rcases h2 with h2 | h2; exacts [absurd h3 h2, h2]⟩
      · exact .inl (by omega)
    · rintro (h1 | ⟨h1, h2⟩)
      · exact .inr (by omega)
      · refine .inl ⟨h1, ?_⟩
        by_cases h3 : 8 ≤ o.d.toNat
        · exact .inr (h2 h3)
        · exact .inl h3
  have hf : e1.loads = e.loads ∧ e1.n = e.n ∧ e1.cycles = e.cycles ∧ e1.pc = e.pc ∧ e1.posts = e.posts ∧ e1.tenant = e.tenant ∧
      e1.core = e.core ∧ e1.phase = e.phase ∧ e1.lp = (openDistances e).lp ∧ e1.ldepth = e.ldepth ∧ e1.sat = e.sat ∧ e1.w = e.w := by
    rw [← hx]; unfold wPd wP; split <;> simp
  have hw : o.d.toNat % 8 = 0 ∨ e1.wrote.contains (16 + o.d.toNat % 8) = true := by
    rw [← hx]; unfold wPd wP predNo
    by_cases h0 : o.d.toNat % 8 % 8 = 0
    · exact .inl (by omega)
    · refine .inr ?_
      rw [if_neg h0]
      simp
  refine ⟨_, (hi o s).trans ((kvRun_pure h _).trans (by rw [hx])), ?_, ?_, ?_⟩
  · obtain ⟨lp, ld, pc, hr, -⟩ := retire_seq len 1 e1
    rw [hr]
    show rP (landLoads e1) (o.d.toNat % 8) = true ↔ _
    rcases hw with hw | hw
    · rw [hw]; simp [rP_zero]
    · rw [landLoads_rP _ _ hd (.inl hw)]; exact h1
  · obtain ⟨lp, ld, pc, hr, -⟩ := retire_seq len 1 e1
    rw [hr]
    show (landLoads e1).sat = _
    rw [(landLoads_fields _).1]; exact hf.2.2.2.2.2.2.2.2.2.2.1
  · obtain ⟨f1, f2, f3, f4, f5, f6, f7, f8, f9, f10, -, f12⟩ := hf
    refine retire_keeps len none _ e e1 ?_ ?_ f1 f2 f3 f4 f5 f6 f7 f8 f9 f10
    · intro r _; unfold rW; rw [f12]
    · intro i hi hne
      rw [← hx]; unfold wPd predNo
      rw [rP_wP, if_neg (fun hc => hne (by rw [Nat.mod_eq_of_lt hi] at hc; rw [hc]; simp)), rP_openDistances]

end Sys2Proof.Machine
end

