-- ==== Sys2Proof/Laws/State.lean ====
section
/-! SUPPORT. The small lemmas of State: for every operation that updates one group of the state, each other group is as it was
(true by rfl, a simp lemma each); and what the read of an entry gives after a write of an entry. -/

namespace Sys2Proof.Machine

/-! emit changes out alone. -/
@[simp] theorem emit_clk (o : Out) (s : State) : (emit o s).clk = s.clk := rfl
@[simp] theorem emit_mb (o : Out) (s : State) : (emit o s).mb = s.mb := rfl
@[simp] theorem emit_evt (o : Out) (s : State) : (emit o s).evt = s.evt := rfl
@[simp] theorem emit_gln (o : Out) (s : State) : (emit o s).gln = s.gln := rfl
@[simp] theorem emit_silo (o : Out) (s : State) : (emit o s).silo = s.silo := rfl
@[simp] theorem emit_rtc (o : Out) (s : State) : (emit o s).rtc = s.rtc := rfl
@[simp] theorem emit_aon (o : Out) (s : State) : (emit o s).aon = s.aon := rfl
@[simp] theorem emit_sup (o : Out) (s : State) : (emit o s).sup = s.sup := rfl
@[simp] theorem emit_core (o : Out) (s : State) : (emit o s).core = s.core := rfl
@[simp] theorem emit_prog (o : Out) (s : State) : (emit o s).prog = s.prog := rfl
@[simp] theorem emit_task (o : Out) (s : State) : (emit o s).task = s.task := rfl
@[simp] theorem emit_img (o : Out) (s : State) : (emit o s).img = s.img := rfl
@[simp] theorem emit_tb (o : Out) (s : State) : (emit o s).tb = s.tb := rfl
@[simp] theorem emit_slot (o : Out) (s : State) : (emit o s).slot = s.slot := rfl
@[simp] theorem emit_ce (o : Out) (s : State) : (emit o s).ce = s.ce := rfl
@[simp] theorem emit_svc (o : Out) (s : State) : (emit o s).svc = s.svc := rfl
@[simp] theorem emit_fio (o : Out) (s : State) : (emit o s).fio = s.fio := rfl
@[simp] theorem emit_saf (o : Out) (s : State) : (emit o s).saf = s.saf := rfl
@[simp] theorem emit_can (o : Out) (s : State) : (emit o s).can = s.can := rfl
@[simp] theorem emit_eth (o : Out) (s : State) : (emit o s).eth = s.eth := rfl
@[simp] theorem emit_pass (o : Out) (s : State) : (emit o s).pass = s.pass := rfl
@[simp] theorem emit_pair (o : Out) (s : State) : (emit o s).pair = s.pair := rfl
@[simp] theorem emit_flash (o : Out) (s : State) : (emit o s).flash = s.flash := rfl
@[simp] theorem emit_ovl (o : Out) (s : State) : (emit o s).ovl = s.ovl := rfl
@[simp] theorem emit_free (o : Out) (s : State) : (emit o s).free = s.free := rfl
@[simp] theorem emit_pending (o : Out) (s : State) : (emit o s).pending = s.pending := rfl

/-! setEvtSrc changes evt alone. -/
@[simp] theorem setEvtSrc_clk (n : Nat) (w : Word) (s : State) : (setEvtSrc n w s).clk = s.clk := rfl
@[simp] theorem setEvtSrc_mb (n : Nat) (w : Word) (s : State) : (setEvtSrc n w s).mb = s.mb := rfl
@[simp] theorem setEvtSrc_gln (n : Nat) (w : Word) (s : State) : (setEvtSrc n w s).gln = s.gln := rfl
@[simp] theorem setEvtSrc_silo (n : Nat) (w : Word) (s : State) : (setEvtSrc n w s).silo = s.silo := rfl
@[simp] theorem setEvtSrc_rtc (n : Nat) (w : Word) (s : State) : (setEvtSrc n w s).rtc = s.rtc := rfl
@[simp] theorem setEvtSrc_aon (n : Nat) (w : Word) (s : State) : (setEvtSrc n w s).aon = s.aon := rfl
@[simp] theorem setEvtSrc_sup (n : Nat) (w : Word) (s : State) : (setEvtSrc n w s).sup = s.sup := rfl
@[simp] theorem setEvtSrc_core (n : Nat) (w : Word) (s : State) : (setEvtSrc n w s).core = s.core := rfl
@[simp] theorem setEvtSrc_prog (n : Nat) (w : Word) (s : State) : (setEvtSrc n w s).prog = s.prog := rfl
@[simp] theorem setEvtSrc_task (n : Nat) (w : Word) (s : State) : (setEvtSrc n w s).task = s.task := rfl
@[simp] theorem setEvtSrc_img (n : Nat) (w : Word) (s : State) : (setEvtSrc n w s).img = s.img := rfl
@[simp] theorem setEvtSrc_tb (n : Nat) (w : Word) (s : State) : (setEvtSrc n w s).tb = s.tb := rfl
@[simp] theorem setEvtSrc_slot (n : Nat) (w : Word) (s : State) : (setEvtSrc n w s).slot = s.slot := rfl
@[simp] theorem setEvtSrc_ce (n : Nat) (w : Word) (s : State) : (setEvtSrc n w s).ce = s.ce := rfl
@[simp] theorem setEvtSrc_svc (n : Nat) (w : Word) (s : State) : (setEvtSrc n w s).svc = s.svc := rfl
@[simp] theorem setEvtSrc_fio (n : Nat) (w : Word) (s : State) : (setEvtSrc n w s).fio = s.fio := rfl
@[simp] theorem setEvtSrc_saf (n : Nat) (w : Word) (s : State) : (setEvtSrc n w s).saf = s.saf := rfl
@[simp] theorem setEvtSrc_can (n : Nat) (w : Word) (s : State) : (setEvtSrc n w s).can = s.can := rfl
@[simp] theorem setEvtSrc_eth (n : Nat) (w : Word) (s : State) : (setEvtSrc n w s).eth = s.eth := rfl
@[simp] theorem setEvtSrc_pass (n : Nat) (w : Word) (s : State) : (setEvtSrc n w s).pass = s.pass := rfl
@[simp] theorem setEvtSrc_pair (n : Nat) (w : Word) (s : State) : (setEvtSrc n w s).pair = s.pair := rfl
@[simp] theorem setEvtSrc_flash (n : Nat) (w : Word) (s : State) : (setEvtSrc n w s).flash = s.flash := rfl
@[simp] theorem setEvtSrc_ovl (n : Nat) (w : Word) (s : State) : (setEvtSrc n w s).ovl = s.ovl := rfl
@[simp] theorem setEvtSrc_out (n : Nat) (w : Word) (s : State) : (setEvtSrc n w s).out = s.out := rfl
@[simp] theorem setEvtSrc_free (n : Nat) (w : Word) (s : State) : (setEvtSrc n w s).free = s.free := rfl
@[simp] theorem setEvtSrc_pending (n : Nat) (w : Word) (s : State) : (setEvtSrc n w s).pending = s.pending := rfl

/-! setPending changes evt alone. -/
@[simp] theorem setPending_clk (n : Nat) (b : Bool) (s : State) : (setPending n b s).clk = s.clk := rfl
@[simp] theorem setPending_mb (n : Nat) (b : Bool) (s : State) : (setPending n b s).mb = s.mb := rfl
@[simp] theorem setPending_gln (n : Nat) (b : Bool) (s : State) : (setPending n b s).gln = s.gln := rfl
@[simp] theorem setPending_silo (n : Nat) (b : Bool) (s : State) : (setPending n b s).silo = s.silo := rfl
@[simp] theorem setPending_rtc (n : Nat) (b : Bool) (s : State) : (setPending n b s).rtc = s.rtc := rfl
@[simp] theorem setPending_aon (n : Nat) (b : Bool) (s : State) : (setPending n b s).aon = s.aon := rfl
@[simp] theorem setPending_sup (n : Nat) (b : Bool) (s : State) : (setPending n b s).sup = s.sup := rfl
@[simp] theorem setPending_core (n : Nat) (b : Bool) (s : State) : (setPending n b s).core = s.core := rfl
@[simp] theorem setPending_prog (n : Nat) (b : Bool) (s : State) : (setPending n b s).prog = s.prog := rfl
@[simp] theorem setPending_task (n : Nat) (b : Bool) (s : State) : (setPending n b s).task = s.task := rfl
@[simp] theorem setPending_img (n : Nat) (b : Bool) (s : State) : (setPending n b s).img = s.img := rfl
@[simp] theorem setPending_tb (n : Nat) (b : Bool) (s : State) : (setPending n b s).tb = s.tb := rfl
@[simp] theorem setPending_slot (n : Nat) (b : Bool) (s : State) : (setPending n b s).slot = s.slot := rfl
@[simp] theorem setPending_ce (n : Nat) (b : Bool) (s : State) : (setPending n b s).ce = s.ce := rfl
@[simp] theorem setPending_svc (n : Nat) (b : Bool) (s : State) : (setPending n b s).svc = s.svc := rfl
@[simp] theorem setPending_fio (n : Nat) (b : Bool) (s : State) : (setPending n b s).fio = s.fio := rfl
@[simp] theorem setPending_saf (n : Nat) (b : Bool) (s : State) : (setPending n b s).saf = s.saf := rfl
@[simp] theorem setPending_can (n : Nat) (b : Bool) (s : State) : (setPending n b s).can = s.can := rfl
@[simp] theorem setPending_eth (n : Nat) (b : Bool) (s : State) : (setPending n b s).eth = s.eth := rfl
@[simp] theorem setPending_pass (n : Nat) (b : Bool) (s : State) : (setPending n b s).pass = s.pass := rfl
@[simp] theorem setPending_pair (n : Nat) (b : Bool) (s : State) : (setPending n b s).pair = s.pair := rfl
@[simp] theorem setPending_flash (n : Nat) (b : Bool) (s : State) : (setPending n b s).flash = s.flash := rfl
@[simp] theorem setPending_ovl (n : Nat) (b : Bool) (s : State) : (setPending n b s).ovl = s.ovl := rfl
@[simp] theorem setPending_out (n : Nat) (b : Bool) (s : State) : (setPending n b s).out = s.out := rfl
@[simp] theorem setPending_free (n : Nat) (b : Bool) (s : State) : (setPending n b s).free = s.free := rfl
@[simp] theorem setPending_pending (n : Nat) (b : Bool) (s : State) : (setPending n b s).pending = s.pending := rfl

/-! updChan changes mb alone. -/
@[simp] theorem updChan_clk (n : Nat) (f : Chan → Chan) (s : State) : (updChan n f s).clk = s.clk := rfl
@[simp] theorem updChan_evt (n : Nat) (f : Chan → Chan) (s : State) : (updChan n f s).evt = s.evt := rfl
@[simp] theorem updChan_gln (n : Nat) (f : Chan → Chan) (s : State) : (updChan n f s).gln = s.gln := rfl
@[simp] theorem updChan_silo (n : Nat) (f : Chan → Chan) (s : State) : (updChan n f s).silo = s.silo := rfl
@[simp] theorem updChan_rtc (n : Nat) (f : Chan → Chan) (s : State) : (updChan n f s).rtc = s.rtc := rfl
@[simp] theorem updChan_aon (n : Nat) (f : Chan → Chan) (s : State) : (updChan n f s).aon = s.aon := rfl
@[simp] theorem updChan_sup (n : Nat) (f : Chan → Chan) (s : State) : (updChan n f s).sup = s.sup := rfl
@[simp] theorem updChan_core (n : Nat) (f : Chan → Chan) (s : State) : (updChan n f s).core = s.core := rfl
@[simp] theorem updChan_prog (n : Nat) (f : Chan → Chan) (s : State) : (updChan n f s).prog = s.prog := rfl
@[simp] theorem updChan_task (n : Nat) (f : Chan → Chan) (s : State) : (updChan n f s).task = s.task := rfl
@[simp] theorem updChan_img (n : Nat) (f : Chan → Chan) (s : State) : (updChan n f s).img = s.img := rfl
@[simp] theorem updChan_tb (n : Nat) (f : Chan → Chan) (s : State) : (updChan n f s).tb = s.tb := rfl
@[simp] theorem updChan_slot (n : Nat) (f : Chan → Chan) (s : State) : (updChan n f s).slot = s.slot := rfl
@[simp] theorem updChan_ce (n : Nat) (f : Chan → Chan) (s : State) : (updChan n f s).ce = s.ce := rfl
@[simp] theorem updChan_svc (n : Nat) (f : Chan → Chan) (s : State) : (updChan n f s).svc = s.svc := rfl
@[simp] theorem updChan_fio (n : Nat) (f : Chan → Chan) (s : State) : (updChan n f s).fio = s.fio := rfl
@[simp] theorem updChan_saf (n : Nat) (f : Chan → Chan) (s : State) : (updChan n f s).saf = s.saf := rfl
@[simp] theorem updChan_can (n : Nat) (f : Chan → Chan) (s : State) : (updChan n f s).can = s.can := rfl
@[simp] theorem updChan_eth (n : Nat) (f : Chan → Chan) (s : State) : (updChan n f s).eth = s.eth := rfl
@[simp] theorem updChan_pass (n : Nat) (f : Chan → Chan) (s : State) : (updChan n f s).pass = s.pass := rfl
@[simp] theorem updChan_pair (n : Nat) (f : Chan → Chan) (s : State) : (updChan n f s).pair = s.pair := rfl
@[simp] theorem updChan_flash (n : Nat) (f : Chan → Chan) (s : State) : (updChan n f s).flash = s.flash := rfl
@[simp] theorem updChan_ovl (n : Nat) (f : Chan → Chan) (s : State) : (updChan n f s).ovl = s.ovl := rfl
@[simp] theorem updChan_out (n : Nat) (f : Chan → Chan) (s : State) : (updChan n f s).out = s.out := rfl
@[simp] theorem updChan_free (n : Nat) (f : Chan → Chan) (s : State) : (updChan n f s).free = s.free := rfl
@[simp] theorem updChan_pending (n : Nat) (f : Chan → Chan) (s : State) : (updChan n f s).pending = s.pending := rfl

/-! updTask changes task alone. -/
@[simp] theorem updTask_clk (n : Nat) (f : TaskEnt → TaskEnt) (s : State) : (updTask n f s).clk = s.clk := rfl
@[simp] theorem updTask_mb (n : Nat) (f : TaskEnt → TaskEnt) (s : State) : (updTask n f s).mb = s.mb := rfl
@[simp] theorem updTask_evt (n : Nat) (f : TaskEnt → TaskEnt) (s : State) : (updTask n f s).evt = s.evt := rfl
@[simp] theorem updTask_gln (n : Nat) (f : TaskEnt → TaskEnt) (s : State) : (updTask n f s).gln = s.gln := rfl
@[simp] theorem updTask_silo (n : Nat) (f : TaskEnt → TaskEnt) (s : State) : (updTask n f s).silo = s.silo := rfl
@[simp] theorem updTask_rtc (n : Nat) (f : TaskEnt → TaskEnt) (s : State) : (updTask n f s).rtc = s.rtc := rfl
@[simp] theorem updTask_aon (n : Nat) (f : TaskEnt → TaskEnt) (s : State) : (updTask n f s).aon = s.aon := rfl
@[simp] theorem updTask_sup (n : Nat) (f : TaskEnt → TaskEnt) (s : State) : (updTask n f s).sup = s.sup := rfl
@[simp] theorem updTask_core (n : Nat) (f : TaskEnt → TaskEnt) (s : State) : (updTask n f s).core = s.core := rfl
@[simp] theorem updTask_prog (n : Nat) (f : TaskEnt → TaskEnt) (s : State) : (updTask n f s).prog = s.prog := rfl
@[simp] theorem updTask_img (n : Nat) (f : TaskEnt → TaskEnt) (s : State) : (updTask n f s).img = s.img := rfl
@[simp] theorem updTask_tb (n : Nat) (f : TaskEnt → TaskEnt) (s : State) : (updTask n f s).tb = s.tb := rfl
@[simp] theorem updTask_slot (n : Nat) (f : TaskEnt → TaskEnt) (s : State) : (updTask n f s).slot = s.slot := rfl
@[simp] theorem updTask_ce (n : Nat) (f : TaskEnt → TaskEnt) (s : State) : (updTask n f s).ce = s.ce := rfl
@[simp] theorem updTask_svc (n : Nat) (f : TaskEnt → TaskEnt) (s : State) : (updTask n f s).svc = s.svc := rfl
@[simp] theorem updTask_fio (n : Nat) (f : TaskEnt → TaskEnt) (s : State) : (updTask n f s).fio = s.fio := rfl
@[simp] theorem updTask_saf (n : Nat) (f : TaskEnt → TaskEnt) (s : State) : (updTask n f s).saf = s.saf := rfl
@[simp] theorem updTask_can (n : Nat) (f : TaskEnt → TaskEnt) (s : State) : (updTask n f s).can = s.can := rfl
@[simp] theorem updTask_eth (n : Nat) (f : TaskEnt → TaskEnt) (s : State) : (updTask n f s).eth = s.eth := rfl
@[simp] theorem updTask_pass (n : Nat) (f : TaskEnt → TaskEnt) (s : State) : (updTask n f s).pass = s.pass := rfl
@[simp] theorem updTask_pair (n : Nat) (f : TaskEnt → TaskEnt) (s : State) : (updTask n f s).pair = s.pair := rfl
@[simp] theorem updTask_flash (n : Nat) (f : TaskEnt → TaskEnt) (s : State) : (updTask n f s).flash = s.flash := rfl
@[simp] theorem updTask_ovl (n : Nat) (f : TaskEnt → TaskEnt) (s : State) : (updTask n f s).ovl = s.ovl := rfl
@[simp] theorem updTask_out (n : Nat) (f : TaskEnt → TaskEnt) (s : State) : (updTask n f s).out = s.out := rfl
@[simp] theorem updTask_free (n : Nat) (f : TaskEnt → TaskEnt) (s : State) : (updTask n f s).free = s.free := rfl
@[simp] theorem updTask_pending (n : Nat) (f : TaskEnt → TaskEnt) (s : State) : (updTask n f s).pending = s.pending := rfl

/-! setEx changes core alone. -/
@[simp] theorem setEx_clk (n : Nat) (e : Option Ex) (s : State) : (setEx n e s).clk = s.clk := rfl
@[simp] theorem setEx_mb (n : Nat) (e : Option Ex) (s : State) : (setEx n e s).mb = s.mb := rfl
@[simp] theorem setEx_evt (n : Nat) (e : Option Ex) (s : State) : (setEx n e s).evt = s.evt := rfl
@[simp] theorem setEx_gln (n : Nat) (e : Option Ex) (s : State) : (setEx n e s).gln = s.gln := rfl
@[simp] theorem setEx_silo (n : Nat) (e : Option Ex) (s : State) : (setEx n e s).silo = s.silo := rfl
@[simp] theorem setEx_rtc (n : Nat) (e : Option Ex) (s : State) : (setEx n e s).rtc = s.rtc := rfl
@[simp] theorem setEx_aon (n : Nat) (e : Option Ex) (s : State) : (setEx n e s).aon = s.aon := rfl
@[simp] theorem setEx_sup (n : Nat) (e : Option Ex) (s : State) : (setEx n e s).sup = s.sup := rfl
@[simp] theorem setEx_prog (n : Nat) (e : Option Ex) (s : State) : (setEx n e s).prog = s.prog := rfl
@[simp] theorem setEx_task (n : Nat) (e : Option Ex) (s : State) : (setEx n e s).task = s.task := rfl
@[simp] theorem setEx_img (n : Nat) (e : Option Ex) (s : State) : (setEx n e s).img = s.img := rfl
@[simp] theorem setEx_tb (n : Nat) (e : Option Ex) (s : State) : (setEx n e s).tb = s.tb := rfl
@[simp] theorem setEx_slot (n : Nat) (e : Option Ex) (s : State) : (setEx n e s).slot = s.slot := rfl
@[simp] theorem setEx_ce (n : Nat) (e : Option Ex) (s : State) : (setEx n e s).ce = s.ce := rfl
@[simp] theorem setEx_svc (n : Nat) (e : Option Ex) (s : State) : (setEx n e s).svc = s.svc := rfl
@[simp] theorem setEx_fio (n : Nat) (e : Option Ex) (s : State) : (setEx n e s).fio = s.fio := rfl
@[simp] theorem setEx_saf (n : Nat) (e : Option Ex) (s : State) : (setEx n e s).saf = s.saf := rfl
@[simp] theorem setEx_can (n : Nat) (e : Option Ex) (s : State) : (setEx n e s).can = s.can := rfl
@[simp] theorem setEx_eth (n : Nat) (e : Option Ex) (s : State) : (setEx n e s).eth = s.eth := rfl
@[simp] theorem setEx_pass (n : Nat) (e : Option Ex) (s : State) : (setEx n e s).pass = s.pass := rfl
@[simp] theorem setEx_pair (n : Nat) (e : Option Ex) (s : State) : (setEx n e s).pair = s.pair := rfl
@[simp] theorem setEx_flash (n : Nat) (e : Option Ex) (s : State) : (setEx n e s).flash = s.flash := rfl
@[simp] theorem setEx_ovl (n : Nat) (e : Option Ex) (s : State) : (setEx n e s).ovl = s.ovl := rfl
@[simp] theorem setEx_out (n : Nat) (e : Option Ex) (s : State) : (setEx n e s).out = s.out := rfl
@[simp] theorem setEx_free (n : Nat) (e : Option Ex) (s : State) : (setEx n e s).free = s.free := rfl
@[simp] theorem setEx_pending (n : Nat) (e : Option Ex) (s : State) : (setEx n e s).pending = s.pending := rfl

/-! setCore changes core alone. -/
@[simp] theorem setCore_clk (n : Nat) (k : Option Nat) (s : State) : (setCore n k s).clk = s.clk := rfl
@[simp] theorem setCore_mb (n : Nat) (k : Option Nat) (s : State) : (setCore n k s).mb = s.mb := rfl
@[simp] theorem setCore_evt (n : Nat) (k : Option Nat) (s : State) : (setCore n k s).evt = s.evt := rfl
@[simp] theorem setCore_gln (n : Nat) (k : Option Nat) (s : State) : (setCore n k s).gln = s.gln := rfl
@[simp] theorem setCore_silo (n : Nat) (k : Option Nat) (s : State) : (setCore n k s).silo = s.silo := rfl
@[simp] theorem setCore_rtc (n : Nat) (k : Option Nat) (s : State) : (setCore n k s).rtc = s.rtc := rfl
@[simp] theorem setCore_aon (n : Nat) (k : Option Nat) (s : State) : (setCore n k s).aon = s.aon := rfl
@[simp] theorem setCore_sup (n : Nat) (k : Option Nat) (s : State) : (setCore n k s).sup = s.sup := rfl
@[simp] theorem setCore_prog (n : Nat) (k : Option Nat) (s : State) : (setCore n k s).prog = s.prog := rfl
@[simp] theorem setCore_task (n : Nat) (k : Option Nat) (s : State) : (setCore n k s).task = s.task := rfl
@[simp] theorem setCore_img (n : Nat) (k : Option Nat) (s : State) : (setCore n k s).img = s.img := rfl
@[simp] theorem setCore_tb (n : Nat) (k : Option Nat) (s : State) : (setCore n k s).tb = s.tb := rfl
@[simp] theorem setCore_slot (n : Nat) (k : Option Nat) (s : State) : (setCore n k s).slot = s.slot := rfl
@[simp] theorem setCore_ce (n : Nat) (k : Option Nat) (s : State) : (setCore n k s).ce = s.ce := rfl
@[simp] theorem setCore_svc (n : Nat) (k : Option Nat) (s : State) : (setCore n k s).svc = s.svc := rfl
@[simp] theorem setCore_fio (n : Nat) (k : Option Nat) (s : State) : (setCore n k s).fio = s.fio := rfl
@[simp] theorem setCore_saf (n : Nat) (k : Option Nat) (s : State) : (setCore n k s).saf = s.saf := rfl
@[simp] theorem setCore_can (n : Nat) (k : Option Nat) (s : State) : (setCore n k s).can = s.can := rfl
@[simp] theorem setCore_eth (n : Nat) (k : Option Nat) (s : State) : (setCore n k s).eth = s.eth := rfl
@[simp] theorem setCore_pass (n : Nat) (k : Option Nat) (s : State) : (setCore n k s).pass = s.pass := rfl
@[simp] theorem setCore_pair (n : Nat) (k : Option Nat) (s : State) : (setCore n k s).pair = s.pair := rfl
@[simp] theorem setCore_flash (n : Nat) (k : Option Nat) (s : State) : (setCore n k s).flash = s.flash := rfl
@[simp] theorem setCore_ovl (n : Nat) (k : Option Nat) (s : State) : (setCore n k s).ovl = s.ovl := rfl
@[simp] theorem setCore_out (n : Nat) (k : Option Nat) (s : State) : (setCore n k s).out = s.out := rfl
@[simp] theorem setCore_free (n : Nat) (k : Option Nat) (s : State) : (setCore n k s).free = s.free := rfl
@[simp] theorem setCore_pending (n : Nat) (k : Option Nat) (s : State) : (setCore n k s).pending = s.pending := rfl

/-! updPlot changes img alone. -/
@[simp] theorem updPlot_clk (n : Nat) (f : PlotSt → PlotSt) (s : State) : (updPlot n f s).clk = s.clk := rfl
@[simp] theorem updPlot_mb (n : Nat) (f : PlotSt → PlotSt) (s : State) : (updPlot n f s).mb = s.mb := rfl
@[simp] theorem updPlot_evt (n : Nat) (f : PlotSt → PlotSt) (s : State) : (updPlot n f s).evt = s.evt := rfl
@[simp] theorem updPlot_gln (n : Nat) (f : PlotSt → PlotSt) (s : State) : (updPlot n f s).gln = s.gln := rfl
@[simp] theorem updPlot_silo (n : Nat) (f : PlotSt → PlotSt) (s : State) : (updPlot n f s).silo = s.silo := rfl
@[simp] theorem updPlot_rtc (n : Nat) (f : PlotSt → PlotSt) (s : State) : (updPlot n f s).rtc = s.rtc := rfl
@[simp] theorem updPlot_aon (n : Nat) (f : PlotSt → PlotSt) (s : State) : (updPlot n f s).aon = s.aon := rfl
@[simp] theorem updPlot_sup (n : Nat) (f : PlotSt → PlotSt) (s : State) : (updPlot n f s).sup = s.sup := rfl
@[simp] theorem updPlot_core (n : Nat) (f : PlotSt → PlotSt) (s : State) : (updPlot n f s).core = s.core := rfl
@[simp] theorem updPlot_prog (n : Nat) (f : PlotSt → PlotSt) (s : State) : (updPlot n f s).prog = s.prog := rfl
@[simp] theorem updPlot_task (n : Nat) (f : PlotSt → PlotSt) (s : State) : (updPlot n f s).task = s.task := rfl
@[simp] theorem updPlot_tb (n : Nat) (f : PlotSt → PlotSt) (s : State) : (updPlot n f s).tb = s.tb := rfl
@[simp] theorem updPlot_slot (n : Nat) (f : PlotSt → PlotSt) (s : State) : (updPlot n f s).slot = s.slot := rfl
@[simp] theorem updPlot_ce (n : Nat) (f : PlotSt → PlotSt) (s : State) : (updPlot n f s).ce = s.ce := rfl
@[simp] theorem updPlot_svc (n : Nat) (f : PlotSt → PlotSt) (s : State) : (updPlot n f s).svc = s.svc := rfl
@[simp] theorem updPlot_fio (n : Nat) (f : PlotSt → PlotSt) (s : State) : (updPlot n f s).fio = s.fio := rfl
@[simp] theorem updPlot_saf (n : Nat) (f : PlotSt → PlotSt) (s : State) : (updPlot n f s).saf = s.saf := rfl
@[simp] theorem updPlot_can (n : Nat) (f : PlotSt → PlotSt) (s : State) : (updPlot n f s).can = s.can := rfl
@[simp] theorem updPlot_eth (n : Nat) (f : PlotSt → PlotSt) (s : State) : (updPlot n f s).eth = s.eth := rfl
@[simp] theorem updPlot_pass (n : Nat) (f : PlotSt → PlotSt) (s : State) : (updPlot n f s).pass = s.pass := rfl
@[simp] theorem updPlot_pair (n : Nat) (f : PlotSt → PlotSt) (s : State) : (updPlot n f s).pair = s.pair := rfl
@[simp] theorem updPlot_flash (n : Nat) (f : PlotSt → PlotSt) (s : State) : (updPlot n f s).flash = s.flash := rfl
@[simp] theorem updPlot_ovl (n : Nat) (f : PlotSt → PlotSt) (s : State) : (updPlot n f s).ovl = s.ovl := rfl
@[simp] theorem updPlot_out (n : Nat) (f : PlotSt → PlotSt) (s : State) : (updPlot n f s).out = s.out := rfl
@[simp] theorem updPlot_free (n : Nat) (f : PlotSt → PlotSt) (s : State) : (updPlot n f s).free = s.free := rfl
@[simp] theorem updPlot_pending (n : Nat) (f : PlotSt → PlotSt) (s : State) : (updPlot n f s).pending = s.pending := rfl

/-! setOwn changes img alone. -/
@[simp] theorem setOwn_clk (n : Nat) (w : Word) (s : State) : (setOwn n w s).clk = s.clk := rfl
@[simp] theorem setOwn_mb (n : Nat) (w : Word) (s : State) : (setOwn n w s).mb = s.mb := rfl
@[simp] theorem setOwn_evt (n : Nat) (w : Word) (s : State) : (setOwn n w s).evt = s.evt := rfl
@[simp] theorem setOwn_gln (n : Nat) (w : Word) (s : State) : (setOwn n w s).gln = s.gln := rfl
@[simp] theorem setOwn_silo (n : Nat) (w : Word) (s : State) : (setOwn n w s).silo = s.silo := rfl
@[simp] theorem setOwn_rtc (n : Nat) (w : Word) (s : State) : (setOwn n w s).rtc = s.rtc := rfl
@[simp] theorem setOwn_aon (n : Nat) (w : Word) (s : State) : (setOwn n w s).aon = s.aon := rfl
@[simp] theorem setOwn_sup (n : Nat) (w : Word) (s : State) : (setOwn n w s).sup = s.sup := rfl
@[simp] theorem setOwn_core (n : Nat) (w : Word) (s : State) : (setOwn n w s).core = s.core := rfl
@[simp] theorem setOwn_prog (n : Nat) (w : Word) (s : State) : (setOwn n w s).prog = s.prog := rfl
@[simp] theorem setOwn_task (n : Nat) (w : Word) (s : State) : (setOwn n w s).task = s.task := rfl
@[simp] theorem setOwn_tb (n : Nat) (w : Word) (s : State) : (setOwn n w s).tb = s.tb := rfl
@[simp] theorem setOwn_slot (n : Nat) (w : Word) (s : State) : (setOwn n w s).slot = s.slot := rfl
@[simp] theorem setOwn_ce (n : Nat) (w : Word) (s : State) : (setOwn n w s).ce = s.ce := rfl
@[simp] theorem setOwn_svc (n : Nat) (w : Word) (s : State) : (setOwn n w s).svc = s.svc := rfl
@[simp] theorem setOwn_fio (n : Nat) (w : Word) (s : State) : (setOwn n w s).fio = s.fio := rfl
@[simp] theorem setOwn_saf (n : Nat) (w : Word) (s : State) : (setOwn n w s).saf = s.saf := rfl
@[simp] theorem setOwn_can (n : Nat) (w : Word) (s : State) : (setOwn n w s).can = s.can := rfl
@[simp] theorem setOwn_eth (n : Nat) (w : Word) (s : State) : (setOwn n w s).eth = s.eth := rfl
@[simp] theorem setOwn_pass (n : Nat) (w : Word) (s : State) : (setOwn n w s).pass = s.pass := rfl
@[simp] theorem setOwn_pair (n : Nat) (w : Word) (s : State) : (setOwn n w s).pair = s.pair := rfl
@[simp] theorem setOwn_flash (n : Nat) (w : Word) (s : State) : (setOwn n w s).flash = s.flash := rfl
@[simp] theorem setOwn_ovl (n : Nat) (w : Word) (s : State) : (setOwn n w s).ovl = s.ovl := rfl
@[simp] theorem setOwn_out (n : Nat) (w : Word) (s : State) : (setOwn n w s).out = s.out := rfl
@[simp] theorem setOwn_free (n : Nat) (w : Word) (s : State) : (setOwn n w s).free = s.free := rfl
@[simp] theorem setOwn_pending (n : Nat) (w : Word) (s : State) : (setOwn n w s).pending = s.pending := rfl

/-! updRio changes img alone. -/
@[simp] theorem updRio_clk (n : Nat) (f : Rio → Rio) (s : State) : (updRio n f s).clk = s.clk := rfl
@[simp] theorem updRio_mb (n : Nat) (f : Rio → Rio) (s : State) : (updRio n f s).mb = s.mb := rfl
@[simp] theorem updRio_evt (n : Nat) (f : Rio → Rio) (s : State) : (updRio n f s).evt = s.evt := rfl
@[simp] theorem updRio_gln (n : Nat) (f : Rio → Rio) (s : State) : (updRio n f s).gln = s.gln := rfl
@[simp] theorem updRio_silo (n : Nat) (f : Rio → Rio) (s : State) : (updRio n f s).silo = s.silo := rfl
@[simp] theorem updRio_rtc (n : Nat) (f : Rio → Rio) (s : State) : (updRio n f s).rtc = s.rtc := rfl
@[simp] theorem updRio_aon (n : Nat) (f : Rio → Rio) (s : State) : (updRio n f s).aon = s.aon := rfl
@[simp] theorem updRio_sup (n : Nat) (f : Rio → Rio) (s : State) : (updRio n f s).sup = s.sup := rfl
@[simp] theorem updRio_core (n : Nat) (f : Rio → Rio) (s : State) : (updRio n f s).core = s.core := rfl
@[simp] theorem updRio_prog (n : Nat) (f : Rio → Rio) (s : State) : (updRio n f s).prog = s.prog := rfl
@[simp] theorem updRio_task (n : Nat) (f : Rio → Rio) (s : State) : (updRio n f s).task = s.task := rfl
@[simp] theorem updRio_tb (n : Nat) (f : Rio → Rio) (s : State) : (updRio n f s).tb = s.tb := rfl
@[simp] theorem updRio_slot (n : Nat) (f : Rio → Rio) (s : State) : (updRio n f s).slot = s.slot := rfl
@[simp] theorem updRio_ce (n : Nat) (f : Rio → Rio) (s : State) : (updRio n f s).ce = s.ce := rfl
@[simp] theorem updRio_svc (n : Nat) (f : Rio → Rio) (s : State) : (updRio n f s).svc = s.svc := rfl
@[simp] theorem updRio_fio (n : Nat) (f : Rio → Rio) (s : State) : (updRio n f s).fio = s.fio := rfl
@[simp] theorem updRio_saf (n : Nat) (f : Rio → Rio) (s : State) : (updRio n f s).saf = s.saf := rfl
@[simp] theorem updRio_can (n : Nat) (f : Rio → Rio) (s : State) : (updRio n f s).can = s.can := rfl
@[simp] theorem updRio_eth (n : Nat) (f : Rio → Rio) (s : State) : (updRio n f s).eth = s.eth := rfl
@[simp] theorem updRio_pass (n : Nat) (f : Rio → Rio) (s : State) : (updRio n f s).pass = s.pass := rfl
@[simp] theorem updRio_pair (n : Nat) (f : Rio → Rio) (s : State) : (updRio n f s).pair = s.pair := rfl
@[simp] theorem updRio_flash (n : Nat) (f : Rio → Rio) (s : State) : (updRio n f s).flash = s.flash := rfl
@[simp] theorem updRio_ovl (n : Nat) (f : Rio → Rio) (s : State) : (updRio n f s).ovl = s.ovl := rfl
@[simp] theorem updRio_out (n : Nat) (f : Rio → Rio) (s : State) : (updRio n f s).out = s.out := rfl
@[simp] theorem updRio_free (n : Nat) (f : Rio → Rio) (s : State) : (updRio n f s).free = s.free := rfl
@[simp] theorem updRio_pending (n : Nat) (f : Rio → Rio) (s : State) : (updRio n f s).pending = s.pending := rfl

/-! updRet changes task alone. -/
@[simp] theorem updRet_clk (n : Nat) (f : RetState → RetState) (s : State) : (updRet n f s).clk = s.clk := rfl
@[simp] theorem updRet_mb (n : Nat) (f : RetState → RetState) (s : State) : (updRet n f s).mb = s.mb := rfl
@[simp] theorem updRet_evt (n : Nat) (f : RetState → RetState) (s : State) : (updRet n f s).evt = s.evt := rfl
@[simp] theorem updRet_gln (n : Nat) (f : RetState → RetState) (s : State) : (updRet n f s).gln = s.gln := rfl
@[simp] theorem updRet_silo (n : Nat) (f : RetState → RetState) (s : State) : (updRet n f s).silo = s.silo := rfl
@[simp] theorem updRet_rtc (n : Nat) (f : RetState → RetState) (s : State) : (updRet n f s).rtc = s.rtc := rfl
@[simp] theorem updRet_aon (n : Nat) (f : RetState → RetState) (s : State) : (updRet n f s).aon = s.aon := rfl
@[simp] theorem updRet_sup (n : Nat) (f : RetState → RetState) (s : State) : (updRet n f s).sup = s.sup := rfl
@[simp] theorem updRet_core (n : Nat) (f : RetState → RetState) (s : State) : (updRet n f s).core = s.core := rfl
@[simp] theorem updRet_prog (n : Nat) (f : RetState → RetState) (s : State) : (updRet n f s).prog = s.prog := rfl
@[simp] theorem updRet_img (n : Nat) (f : RetState → RetState) (s : State) : (updRet n f s).img = s.img := rfl
@[simp] theorem updRet_tb (n : Nat) (f : RetState → RetState) (s : State) : (updRet n f s).tb = s.tb := rfl
@[simp] theorem updRet_slot (n : Nat) (f : RetState → RetState) (s : State) : (updRet n f s).slot = s.slot := rfl
@[simp] theorem updRet_ce (n : Nat) (f : RetState → RetState) (s : State) : (updRet n f s).ce = s.ce := rfl
@[simp] theorem updRet_svc (n : Nat) (f : RetState → RetState) (s : State) : (updRet n f s).svc = s.svc := rfl
@[simp] theorem updRet_fio (n : Nat) (f : RetState → RetState) (s : State) : (updRet n f s).fio = s.fio := rfl
@[simp] theorem updRet_saf (n : Nat) (f : RetState → RetState) (s : State) : (updRet n f s).saf = s.saf := rfl
@[simp] theorem updRet_can (n : Nat) (f : RetState → RetState) (s : State) : (updRet n f s).can = s.can := rfl
@[simp] theorem updRet_eth (n : Nat) (f : RetState → RetState) (s : State) : (updRet n f s).eth = s.eth := rfl
@[simp] theorem updRet_pass (n : Nat) (f : RetState → RetState) (s : State) : (updRet n f s).pass = s.pass := rfl
@[simp] theorem updRet_pair (n : Nat) (f : RetState → RetState) (s : State) : (updRet n f s).pair = s.pair := rfl
@[simp] theorem updRet_flash (n : Nat) (f : RetState → RetState) (s : State) : (updRet n f s).flash = s.flash := rfl
@[simp] theorem updRet_ovl (n : Nat) (f : RetState → RetState) (s : State) : (updRet n f s).ovl = s.ovl := rfl
@[simp] theorem updRet_out (n : Nat) (f : RetState → RetState) (s : State) : (updRet n f s).out = s.out := rfl
@[simp] theorem updRet_free (n : Nat) (f : RetState → RetState) (s : State) : (updRet n f s).free = s.free := rfl
@[simp] theorem updRet_pending (n : Nat) (f : RetState → RetState) (s : State) : (updRet n f s).pending = s.pending := rfl

/-! updAxle changes tb alone. -/
@[simp] theorem updAxle_clk (n : Nat) (f : Axle → Axle) (s : State) : (updAxle n f s).clk = s.clk := rfl
@[simp] theorem updAxle_mb (n : Nat) (f : Axle → Axle) (s : State) : (updAxle n f s).mb = s.mb := rfl
@[simp] theorem updAxle_evt (n : Nat) (f : Axle → Axle) (s : State) : (updAxle n f s).evt = s.evt := rfl
@[simp] theorem updAxle_gln (n : Nat) (f : Axle → Axle) (s : State) : (updAxle n f s).gln = s.gln := rfl
@[simp] theorem updAxle_silo (n : Nat) (f : Axle → Axle) (s : State) : (updAxle n f s).silo = s.silo := rfl
@[simp] theorem updAxle_rtc (n : Nat) (f : Axle → Axle) (s : State) : (updAxle n f s).rtc = s.rtc := rfl
@[simp] theorem updAxle_aon (n : Nat) (f : Axle → Axle) (s : State) : (updAxle n f s).aon = s.aon := rfl
@[simp] theorem updAxle_sup (n : Nat) (f : Axle → Axle) (s : State) : (updAxle n f s).sup = s.sup := rfl
@[simp] theorem updAxle_core (n : Nat) (f : Axle → Axle) (s : State) : (updAxle n f s).core = s.core := rfl
@[simp] theorem updAxle_prog (n : Nat) (f : Axle → Axle) (s : State) : (updAxle n f s).prog = s.prog := rfl
@[simp] theorem updAxle_task (n : Nat) (f : Axle → Axle) (s : State) : (updAxle n f s).task = s.task := rfl
@[simp] theorem updAxle_img (n : Nat) (f : Axle → Axle) (s : State) : (updAxle n f s).img = s.img := rfl
@[simp] theorem updAxle_slot (n : Nat) (f : Axle → Axle) (s : State) : (updAxle n f s).slot = s.slot := rfl
@[simp] theorem updAxle_ce (n : Nat) (f : Axle → Axle) (s : State) : (updAxle n f s).ce = s.ce := rfl
@[simp] theorem updAxle_svc (n : Nat) (f : Axle → Axle) (s : State) : (updAxle n f s).svc = s.svc := rfl
@[simp] theorem updAxle_fio (n : Nat) (f : Axle → Axle) (s : State) : (updAxle n f s).fio = s.fio := rfl
@[simp] theorem updAxle_saf (n : Nat) (f : Axle → Axle) (s : State) : (updAxle n f s).saf = s.saf := rfl
@[simp] theorem updAxle_can (n : Nat) (f : Axle → Axle) (s : State) : (updAxle n f s).can = s.can := rfl
@[simp] theorem updAxle_eth (n : Nat) (f : Axle → Axle) (s : State) : (updAxle n f s).eth = s.eth := rfl
@[simp] theorem updAxle_pass (n : Nat) (f : Axle → Axle) (s : State) : (updAxle n f s).pass = s.pass := rfl
@[simp] theorem updAxle_pair (n : Nat) (f : Axle → Axle) (s : State) : (updAxle n f s).pair = s.pair := rfl
@[simp] theorem updAxle_flash (n : Nat) (f : Axle → Axle) (s : State) : (updAxle n f s).flash = s.flash := rfl
@[simp] theorem updAxle_ovl (n : Nat) (f : Axle → Axle) (s : State) : (updAxle n f s).ovl = s.ovl := rfl
@[simp] theorem updAxle_out (n : Nat) (f : Axle → Axle) (s : State) : (updAxle n f s).out = s.out := rfl
@[simp] theorem updAxle_free (n : Nat) (f : Axle → Axle) (s : State) : (updAxle n f s).free = s.free := rfl
@[simp] theorem updAxle_pending (n : Nat) (f : Axle → Axle) (s : State) : (updAxle n f s).pending = s.pending := rfl

/-! updMains changes tb alone. -/
@[simp] theorem updMains_clk (n : Nat) (f : Mains → Mains) (s : State) : (updMains n f s).clk = s.clk := rfl
@[simp] theorem updMains_mb (n : Nat) (f : Mains → Mains) (s : State) : (updMains n f s).mb = s.mb := rfl
@[simp] theorem updMains_evt (n : Nat) (f : Mains → Mains) (s : State) : (updMains n f s).evt = s.evt := rfl
@[simp] theorem updMains_gln (n : Nat) (f : Mains → Mains) (s : State) : (updMains n f s).gln = s.gln := rfl
@[simp] theorem updMains_silo (n : Nat) (f : Mains → Mains) (s : State) : (updMains n f s).silo = s.silo := rfl
@[simp] theorem updMains_rtc (n : Nat) (f : Mains → Mains) (s : State) : (updMains n f s).rtc = s.rtc := rfl
@[simp] theorem updMains_aon (n : Nat) (f : Mains → Mains) (s : State) : (updMains n f s).aon = s.aon := rfl
@[simp] theorem updMains_sup (n : Nat) (f : Mains → Mains) (s : State) : (updMains n f s).sup = s.sup := rfl
@[simp] theorem updMains_core (n : Nat) (f : Mains → Mains) (s : State) : (updMains n f s).core = s.core := rfl
@[simp] theorem updMains_prog (n : Nat) (f : Mains → Mains) (s : State) : (updMains n f s).prog = s.prog := rfl
@[simp] theorem updMains_task (n : Nat) (f : Mains → Mains) (s : State) : (updMains n f s).task = s.task := rfl
@[simp] theorem updMains_img (n : Nat) (f : Mains → Mains) (s : State) : (updMains n f s).img = s.img := rfl
@[simp] theorem updMains_slot (n : Nat) (f : Mains → Mains) (s : State) : (updMains n f s).slot = s.slot := rfl
@[simp] theorem updMains_ce (n : Nat) (f : Mains → Mains) (s : State) : (updMains n f s).ce = s.ce := rfl
@[simp] theorem updMains_svc (n : Nat) (f : Mains → Mains) (s : State) : (updMains n f s).svc = s.svc := rfl
@[simp] theorem updMains_fio (n : Nat) (f : Mains → Mains) (s : State) : (updMains n f s).fio = s.fio := rfl
@[simp] theorem updMains_saf (n : Nat) (f : Mains → Mains) (s : State) : (updMains n f s).saf = s.saf := rfl
@[simp] theorem updMains_can (n : Nat) (f : Mains → Mains) (s : State) : (updMains n f s).can = s.can := rfl
@[simp] theorem updMains_eth (n : Nat) (f : Mains → Mains) (s : State) : (updMains n f s).eth = s.eth := rfl
@[simp] theorem updMains_pass (n : Nat) (f : Mains → Mains) (s : State) : (updMains n f s).pass = s.pass := rfl
@[simp] theorem updMains_pair (n : Nat) (f : Mains → Mains) (s : State) : (updMains n f s).pair = s.pair := rfl
@[simp] theorem updMains_flash (n : Nat) (f : Mains → Mains) (s : State) : (updMains n f s).flash = s.flash := rfl
@[simp] theorem updMains_ovl (n : Nat) (f : Mains → Mains) (s : State) : (updMains n f s).ovl = s.ovl := rfl
@[simp] theorem updMains_out (n : Nat) (f : Mains → Mains) (s : State) : (updMains n f s).out = s.out := rfl
@[simp] theorem updMains_free (n : Nat) (f : Mains → Mains) (s : State) : (updMains n f s).free = s.free := rfl
@[simp] theorem updMains_pending (n : Nat) (f : Mains → Mains) (s : State) : (updMains n f s).pending = s.pending := rfl

/-! updSlot changes slot alone. -/
@[simp] theorem updSlot_clk (n : Nat) (f : Slot → Slot) (s : State) : (updSlot n f s).clk = s.clk := rfl
@[simp] theorem updSlot_mb (n : Nat) (f : Slot → Slot) (s : State) : (updSlot n f s).mb = s.mb := rfl
@[simp] theorem updSlot_evt (n : Nat) (f : Slot → Slot) (s : State) : (updSlot n f s).evt = s.evt := rfl
@[simp] theorem updSlot_gln (n : Nat) (f : Slot → Slot) (s : State) : (updSlot n f s).gln = s.gln := rfl
@[simp] theorem updSlot_silo (n : Nat) (f : Slot → Slot) (s : State) : (updSlot n f s).silo = s.silo := rfl
@[simp] theorem updSlot_rtc (n : Nat) (f : Slot → Slot) (s : State) : (updSlot n f s).rtc = s.rtc := rfl
@[simp] theorem updSlot_aon (n : Nat) (f : Slot → Slot) (s : State) : (updSlot n f s).aon = s.aon := rfl
@[simp] theorem updSlot_sup (n : Nat) (f : Slot → Slot) (s : State) : (updSlot n f s).sup = s.sup := rfl
@[simp] theorem updSlot_core (n : Nat) (f : Slot → Slot) (s : State) : (updSlot n f s).core = s.core := rfl
@[simp] theorem updSlot_prog (n : Nat) (f : Slot → Slot) (s : State) : (updSlot n f s).prog = s.prog := rfl
@[simp] theorem updSlot_task (n : Nat) (f : Slot → Slot) (s : State) : (updSlot n f s).task = s.task := rfl
@[simp] theorem updSlot_img (n : Nat) (f : Slot → Slot) (s : State) : (updSlot n f s).img = s.img := rfl
@[simp] theorem updSlot_tb (n : Nat) (f : Slot → Slot) (s : State) : (updSlot n f s).tb = s.tb := rfl
@[simp] theorem updSlot_ce (n : Nat) (f : Slot → Slot) (s : State) : (updSlot n f s).ce = s.ce := rfl
@[simp] theorem updSlot_svc (n : Nat) (f : Slot → Slot) (s : State) : (updSlot n f s).svc = s.svc := rfl
@[simp] theorem updSlot_fio (n : Nat) (f : Slot → Slot) (s : State) : (updSlot n f s).fio = s.fio := rfl
@[simp] theorem updSlot_saf (n : Nat) (f : Slot → Slot) (s : State) : (updSlot n f s).saf = s.saf := rfl
@[simp] theorem updSlot_can (n : Nat) (f : Slot → Slot) (s : State) : (updSlot n f s).can = s.can := rfl
@[simp] theorem updSlot_eth (n : Nat) (f : Slot → Slot) (s : State) : (updSlot n f s).eth = s.eth := rfl
@[simp] theorem updSlot_pass (n : Nat) (f : Slot → Slot) (s : State) : (updSlot n f s).pass = s.pass := rfl
@[simp] theorem updSlot_pair (n : Nat) (f : Slot → Slot) (s : State) : (updSlot n f s).pair = s.pair := rfl
@[simp] theorem updSlot_flash (n : Nat) (f : Slot → Slot) (s : State) : (updSlot n f s).flash = s.flash := rfl
@[simp] theorem updSlot_ovl (n : Nat) (f : Slot → Slot) (s : State) : (updSlot n f s).ovl = s.ovl := rfl
@[simp] theorem updSlot_out (n : Nat) (f : Slot → Slot) (s : State) : (updSlot n f s).out = s.out := rfl
@[simp] theorem updSlot_free (n : Nat) (f : Slot → Slot) (s : State) : (updSlot n f s).free = s.free := rfl
@[simp] theorem updSlot_pending (n : Nat) (f : Slot → Slot) (s : State) : (updSlot n f s).pending = s.pending := rfl

/-! updLoop changes ce alone. -/
@[simp] theorem updLoop_clk (n : Nat) (f : CeLoop → CeLoop) (s : State) : (updLoop n f s).clk = s.clk := rfl
@[simp] theorem updLoop_mb (n : Nat) (f : CeLoop → CeLoop) (s : State) : (updLoop n f s).mb = s.mb := rfl
@[simp] theorem updLoop_evt (n : Nat) (f : CeLoop → CeLoop) (s : State) : (updLoop n f s).evt = s.evt := rfl
@[simp] theorem updLoop_gln (n : Nat) (f : CeLoop → CeLoop) (s : State) : (updLoop n f s).gln = s.gln := rfl
@[simp] theorem updLoop_silo (n : Nat) (f : CeLoop → CeLoop) (s : State) : (updLoop n f s).silo = s.silo := rfl
@[simp] theorem updLoop_rtc (n : Nat) (f : CeLoop → CeLoop) (s : State) : (updLoop n f s).rtc = s.rtc := rfl
@[simp] theorem updLoop_aon (n : Nat) (f : CeLoop → CeLoop) (s : State) : (updLoop n f s).aon = s.aon := rfl
@[simp] theorem updLoop_sup (n : Nat) (f : CeLoop → CeLoop) (s : State) : (updLoop n f s).sup = s.sup := rfl
@[simp] theorem updLoop_core (n : Nat) (f : CeLoop → CeLoop) (s : State) : (updLoop n f s).core = s.core := rfl
@[simp] theorem updLoop_prog (n : Nat) (f : CeLoop → CeLoop) (s : State) : (updLoop n f s).prog = s.prog := rfl
@[simp] theorem updLoop_task (n : Nat) (f : CeLoop → CeLoop) (s : State) : (updLoop n f s).task = s.task := rfl
@[simp] theorem updLoop_img (n : Nat) (f : CeLoop → CeLoop) (s : State) : (updLoop n f s).img = s.img := rfl
@[simp] theorem updLoop_tb (n : Nat) (f : CeLoop → CeLoop) (s : State) : (updLoop n f s).tb = s.tb := rfl
@[simp] theorem updLoop_slot (n : Nat) (f : CeLoop → CeLoop) (s : State) : (updLoop n f s).slot = s.slot := rfl
@[simp] theorem updLoop_svc (n : Nat) (f : CeLoop → CeLoop) (s : State) : (updLoop n f s).svc = s.svc := rfl
@[simp] theorem updLoop_fio (n : Nat) (f : CeLoop → CeLoop) (s : State) : (updLoop n f s).fio = s.fio := rfl
@[simp] theorem updLoop_saf (n : Nat) (f : CeLoop → CeLoop) (s : State) : (updLoop n f s).saf = s.saf := rfl
@[simp] theorem updLoop_can (n : Nat) (f : CeLoop → CeLoop) (s : State) : (updLoop n f s).can = s.can := rfl
@[simp] theorem updLoop_eth (n : Nat) (f : CeLoop → CeLoop) (s : State) : (updLoop n f s).eth = s.eth := rfl
@[simp] theorem updLoop_pass (n : Nat) (f : CeLoop → CeLoop) (s : State) : (updLoop n f s).pass = s.pass := rfl
@[simp] theorem updLoop_pair (n : Nat) (f : CeLoop → CeLoop) (s : State) : (updLoop n f s).pair = s.pair := rfl
@[simp] theorem updLoop_flash (n : Nat) (f : CeLoop → CeLoop) (s : State) : (updLoop n f s).flash = s.flash := rfl
@[simp] theorem updLoop_ovl (n : Nat) (f : CeLoop → CeLoop) (s : State) : (updLoop n f s).ovl = s.ovl := rfl
@[simp] theorem updLoop_out (n : Nat) (f : CeLoop → CeLoop) (s : State) : (updLoop n f s).out = s.out := rfl
@[simp] theorem updLoop_free (n : Nat) (f : CeLoop → CeLoop) (s : State) : (updLoop n f s).free = s.free := rfl
@[simp] theorem updLoop_pending (n : Nat) (f : CeLoop → CeLoop) (s : State) : (updLoop n f s).pending = s.pending := rfl

/-! updInj changes ce alone. -/
@[simp] theorem updInj_clk (n : Nat) (f : CeInj → CeInj) (s : State) : (updInj n f s).clk = s.clk := rfl
@[simp] theorem updInj_mb (n : Nat) (f : CeInj → CeInj) (s : State) : (updInj n f s).mb = s.mb := rfl
@[simp] theorem updInj_evt (n : Nat) (f : CeInj → CeInj) (s : State) : (updInj n f s).evt = s.evt := rfl
@[simp] theorem updInj_gln (n : Nat) (f : CeInj → CeInj) (s : State) : (updInj n f s).gln = s.gln := rfl
@[simp] theorem updInj_silo (n : Nat) (f : CeInj → CeInj) (s : State) : (updInj n f s).silo = s.silo := rfl
@[simp] theorem updInj_rtc (n : Nat) (f : CeInj → CeInj) (s : State) : (updInj n f s).rtc = s.rtc := rfl
@[simp] theorem updInj_aon (n : Nat) (f : CeInj → CeInj) (s : State) : (updInj n f s).aon = s.aon := rfl
@[simp] theorem updInj_sup (n : Nat) (f : CeInj → CeInj) (s : State) : (updInj n f s).sup = s.sup := rfl
@[simp] theorem updInj_core (n : Nat) (f : CeInj → CeInj) (s : State) : (updInj n f s).core = s.core := rfl
@[simp] theorem updInj_prog (n : Nat) (f : CeInj → CeInj) (s : State) : (updInj n f s).prog = s.prog := rfl
@[simp] theorem updInj_task (n : Nat) (f : CeInj → CeInj) (s : State) : (updInj n f s).task = s.task := rfl
@[simp] theorem updInj_img (n : Nat) (f : CeInj → CeInj) (s : State) : (updInj n f s).img = s.img := rfl
@[simp] theorem updInj_tb (n : Nat) (f : CeInj → CeInj) (s : State) : (updInj n f s).tb = s.tb := rfl
@[simp] theorem updInj_slot (n : Nat) (f : CeInj → CeInj) (s : State) : (updInj n f s).slot = s.slot := rfl
@[simp] theorem updInj_svc (n : Nat) (f : CeInj → CeInj) (s : State) : (updInj n f s).svc = s.svc := rfl
@[simp] theorem updInj_fio (n : Nat) (f : CeInj → CeInj) (s : State) : (updInj n f s).fio = s.fio := rfl
@[simp] theorem updInj_saf (n : Nat) (f : CeInj → CeInj) (s : State) : (updInj n f s).saf = s.saf := rfl
@[simp] theorem updInj_can (n : Nat) (f : CeInj → CeInj) (s : State) : (updInj n f s).can = s.can := rfl
@[simp] theorem updInj_eth (n : Nat) (f : CeInj → CeInj) (s : State) : (updInj n f s).eth = s.eth := rfl
@[simp] theorem updInj_pass (n : Nat) (f : CeInj → CeInj) (s : State) : (updInj n f s).pass = s.pass := rfl
@[simp] theorem updInj_pair (n : Nat) (f : CeInj → CeInj) (s : State) : (updInj n f s).pair = s.pair := rfl
@[simp] theorem updInj_flash (n : Nat) (f : CeInj → CeInj) (s : State) : (updInj n f s).flash = s.flash := rfl
@[simp] theorem updInj_ovl (n : Nat) (f : CeInj → CeInj) (s : State) : (updInj n f s).ovl = s.ovl := rfl
@[simp] theorem updInj_out (n : Nat) (f : CeInj → CeInj) (s : State) : (updInj n f s).out = s.out := rfl
@[simp] theorem updInj_free (n : Nat) (f : CeInj → CeInj) (s : State) : (updInj n f s).free = s.free := rfl
@[simp] theorem updInj_pending (n : Nat) (f : CeInj → CeInj) (s : State) : (updInj n f s).pending = s.pending := rfl

/-! putAlm changes svc alone. -/
@[simp] theorem putAlm_clk (n : Nat) (a : Alm) (s : State) : (putAlm n a s).clk = s.clk := rfl
@[simp] theorem putAlm_mb (n : Nat) (a : Alm) (s : State) : (putAlm n a s).mb = s.mb := rfl
@[simp] theorem putAlm_evt (n : Nat) (a : Alm) (s : State) : (putAlm n a s).evt = s.evt := rfl
@[simp] theorem putAlm_gln (n : Nat) (a : Alm) (s : State) : (putAlm n a s).gln = s.gln := rfl
@[simp] theorem putAlm_silo (n : Nat) (a : Alm) (s : State) : (putAlm n a s).silo = s.silo := rfl
@[simp] theorem putAlm_rtc (n : Nat) (a : Alm) (s : State) : (putAlm n a s).rtc = s.rtc := rfl
@[simp] theorem putAlm_aon (n : Nat) (a : Alm) (s : State) : (putAlm n a s).aon = s.aon := rfl
@[simp] theorem putAlm_sup (n : Nat) (a : Alm) (s : State) : (putAlm n a s).sup = s.sup := rfl
@[simp] theorem putAlm_core (n : Nat) (a : Alm) (s : State) : (putAlm n a s).core = s.core := rfl
@[simp] theorem putAlm_prog (n : Nat) (a : Alm) (s : State) : (putAlm n a s).prog = s.prog := rfl
@[simp] theorem putAlm_task (n : Nat) (a : Alm) (s : State) : (putAlm n a s).task = s.task := rfl
@[simp] theorem putAlm_img (n : Nat) (a : Alm) (s : State) : (putAlm n a s).img = s.img := rfl
@[simp] theorem putAlm_tb (n : Nat) (a : Alm) (s : State) : (putAlm n a s).tb = s.tb := rfl
@[simp] theorem putAlm_slot (n : Nat) (a : Alm) (s : State) : (putAlm n a s).slot = s.slot := rfl
@[simp] theorem putAlm_ce (n : Nat) (a : Alm) (s : State) : (putAlm n a s).ce = s.ce := rfl
@[simp] theorem putAlm_fio (n : Nat) (a : Alm) (s : State) : (putAlm n a s).fio = s.fio := rfl
@[simp] theorem putAlm_saf (n : Nat) (a : Alm) (s : State) : (putAlm n a s).saf = s.saf := rfl
@[simp] theorem putAlm_can (n : Nat) (a : Alm) (s : State) : (putAlm n a s).can = s.can := rfl
@[simp] theorem putAlm_eth (n : Nat) (a : Alm) (s : State) : (putAlm n a s).eth = s.eth := rfl
@[simp] theorem putAlm_pass (n : Nat) (a : Alm) (s : State) : (putAlm n a s).pass = s.pass := rfl
@[simp] theorem putAlm_pair (n : Nat) (a : Alm) (s : State) : (putAlm n a s).pair = s.pair := rfl
@[simp] theorem putAlm_flash (n : Nat) (a : Alm) (s : State) : (putAlm n a s).flash = s.flash := rfl
@[simp] theorem putAlm_ovl (n : Nat) (a : Alm) (s : State) : (putAlm n a s).ovl = s.ovl := rfl
@[simp] theorem putAlm_out (n : Nat) (a : Alm) (s : State) : (putAlm n a s).out = s.out := rfl
@[simp] theorem putAlm_free (n : Nat) (a : Alm) (s : State) : (putAlm n a s).free = s.free := rfl
@[simp] theorem putAlm_pending (n : Nat) (a : Alm) (s : State) : (putAlm n a s).pending = s.pending := rfl

/-! putTrd changes svc alone. -/
@[simp] theorem putTrd_clk (n : Nat) (c : Trd) (s : State) : (putTrd n c s).clk = s.clk := rfl
@[simp] theorem putTrd_mb (n : Nat) (c : Trd) (s : State) : (putTrd n c s).mb = s.mb := rfl
@[simp] theorem putTrd_evt (n : Nat) (c : Trd) (s : State) : (putTrd n c s).evt = s.evt := rfl
@[simp] theorem putTrd_gln (n : Nat) (c : Trd) (s : State) : (putTrd n c s).gln = s.gln := rfl
@[simp] theorem putTrd_silo (n : Nat) (c : Trd) (s : State) : (putTrd n c s).silo = s.silo := rfl
@[simp] theorem putTrd_rtc (n : Nat) (c : Trd) (s : State) : (putTrd n c s).rtc = s.rtc := rfl
@[simp] theorem putTrd_aon (n : Nat) (c : Trd) (s : State) : (putTrd n c s).aon = s.aon := rfl
@[simp] theorem putTrd_sup (n : Nat) (c : Trd) (s : State) : (putTrd n c s).sup = s.sup := rfl
@[simp] theorem putTrd_core (n : Nat) (c : Trd) (s : State) : (putTrd n c s).core = s.core := rfl
@[simp] theorem putTrd_prog (n : Nat) (c : Trd) (s : State) : (putTrd n c s).prog = s.prog := rfl
@[simp] theorem putTrd_task (n : Nat) (c : Trd) (s : State) : (putTrd n c s).task = s.task := rfl
@[simp] theorem putTrd_img (n : Nat) (c : Trd) (s : State) : (putTrd n c s).img = s.img := rfl
@[simp] theorem putTrd_tb (n : Nat) (c : Trd) (s : State) : (putTrd n c s).tb = s.tb := rfl
@[simp] theorem putTrd_slot (n : Nat) (c : Trd) (s : State) : (putTrd n c s).slot = s.slot := rfl
@[simp] theorem putTrd_ce (n : Nat) (c : Trd) (s : State) : (putTrd n c s).ce = s.ce := rfl
@[simp] theorem putTrd_fio (n : Nat) (c : Trd) (s : State) : (putTrd n c s).fio = s.fio := rfl
@[simp] theorem putTrd_saf (n : Nat) (c : Trd) (s : State) : (putTrd n c s).saf = s.saf := rfl
@[simp] theorem putTrd_can (n : Nat) (c : Trd) (s : State) : (putTrd n c s).can = s.can := rfl
@[simp] theorem putTrd_eth (n : Nat) (c : Trd) (s : State) : (putTrd n c s).eth = s.eth := rfl
@[simp] theorem putTrd_pass (n : Nat) (c : Trd) (s : State) : (putTrd n c s).pass = s.pass := rfl
@[simp] theorem putTrd_pair (n : Nat) (c : Trd) (s : State) : (putTrd n c s).pair = s.pair := rfl
@[simp] theorem putTrd_flash (n : Nat) (c : Trd) (s : State) : (putTrd n c s).flash = s.flash := rfl
@[simp] theorem putTrd_ovl (n : Nat) (c : Trd) (s : State) : (putTrd n c s).ovl = s.ovl := rfl
@[simp] theorem putTrd_out (n : Nat) (c : Trd) (s : State) : (putTrd n c s).out = s.out := rfl
@[simp] theorem putTrd_free (n : Nat) (c : Trd) (s : State) : (putTrd n c s).free = s.free := rfl
@[simp] theorem putTrd_pending (n : Nat) (c : Trd) (s : State) : (putTrd n c s).pending = s.pending := rfl

/-! putMtr changes svc alone. -/
@[simp] theorem putMtr_clk (n : Nat) (x : Mtr) (s : State) : (putMtr n x s).clk = s.clk := rfl
@[simp] theorem putMtr_mb (n : Nat) (x : Mtr) (s : State) : (putMtr n x s).mb = s.mb := rfl
@[simp] theorem putMtr_evt (n : Nat) (x : Mtr) (s : State) : (putMtr n x s).evt = s.evt := rfl
@[simp] theorem putMtr_gln (n : Nat) (x : Mtr) (s : State) : (putMtr n x s).gln = s.gln := rfl
@[simp] theorem putMtr_silo (n : Nat) (x : Mtr) (s : State) : (putMtr n x s).silo = s.silo := rfl
@[simp] theorem putMtr_rtc (n : Nat) (x : Mtr) (s : State) : (putMtr n x s).rtc = s.rtc := rfl
@[simp] theorem putMtr_aon (n : Nat) (x : Mtr) (s : State) : (putMtr n x s).aon = s.aon := rfl
@[simp] theorem putMtr_sup (n : Nat) (x : Mtr) (s : State) : (putMtr n x s).sup = s.sup := rfl
@[simp] theorem putMtr_core (n : Nat) (x : Mtr) (s : State) : (putMtr n x s).core = s.core := rfl
@[simp] theorem putMtr_prog (n : Nat) (x : Mtr) (s : State) : (putMtr n x s).prog = s.prog := rfl
@[simp] theorem putMtr_task (n : Nat) (x : Mtr) (s : State) : (putMtr n x s).task = s.task := rfl
@[simp] theorem putMtr_img (n : Nat) (x : Mtr) (s : State) : (putMtr n x s).img = s.img := rfl
@[simp] theorem putMtr_tb (n : Nat) (x : Mtr) (s : State) : (putMtr n x s).tb = s.tb := rfl
@[simp] theorem putMtr_slot (n : Nat) (x : Mtr) (s : State) : (putMtr n x s).slot = s.slot := rfl
@[simp] theorem putMtr_ce (n : Nat) (x : Mtr) (s : State) : (putMtr n x s).ce = s.ce := rfl
@[simp] theorem putMtr_fio (n : Nat) (x : Mtr) (s : State) : (putMtr n x s).fio = s.fio := rfl
@[simp] theorem putMtr_saf (n : Nat) (x : Mtr) (s : State) : (putMtr n x s).saf = s.saf := rfl
@[simp] theorem putMtr_can (n : Nat) (x : Mtr) (s : State) : (putMtr n x s).can = s.can := rfl
@[simp] theorem putMtr_eth (n : Nat) (x : Mtr) (s : State) : (putMtr n x s).eth = s.eth := rfl
@[simp] theorem putMtr_pass (n : Nat) (x : Mtr) (s : State) : (putMtr n x s).pass = s.pass := rfl
@[simp] theorem putMtr_pair (n : Nat) (x : Mtr) (s : State) : (putMtr n x s).pair = s.pair := rfl
@[simp] theorem putMtr_flash (n : Nat) (x : Mtr) (s : State) : (putMtr n x s).flash = s.flash := rfl
@[simp] theorem putMtr_ovl (n : Nat) (x : Mtr) (s : State) : (putMtr n x s).ovl = s.ovl := rfl
@[simp] theorem putMtr_out (n : Nat) (x : Mtr) (s : State) : (putMtr n x s).out = s.out := rfl
@[simp] theorem putMtr_free (n : Nat) (x : Mtr) (s : State) : (putMtr n x s).free = s.free := rfl
@[simp] theorem putMtr_pending (n : Nat) (x : Mtr) (s : State) : (putMtr n x s).pending = s.pending := rfl

/-! putAcc changes svc alone. -/
@[simp] theorem putAcc_clk (n : Nat) (a : AccPt) (s : State) : (putAcc n a s).clk = s.clk := rfl
@[simp] theorem putAcc_mb (n : Nat) (a : AccPt) (s : State) : (putAcc n a s).mb = s.mb := rfl
@[simp] theorem putAcc_evt (n : Nat) (a : AccPt) (s : State) : (putAcc n a s).evt = s.evt := rfl
@[simp] theorem putAcc_gln (n : Nat) (a : AccPt) (s : State) : (putAcc n a s).gln = s.gln := rfl
@[simp] theorem putAcc_silo (n : Nat) (a : AccPt) (s : State) : (putAcc n a s).silo = s.silo := rfl
@[simp] theorem putAcc_rtc (n : Nat) (a : AccPt) (s : State) : (putAcc n a s).rtc = s.rtc := rfl
@[simp] theorem putAcc_aon (n : Nat) (a : AccPt) (s : State) : (putAcc n a s).aon = s.aon := rfl
@[simp] theorem putAcc_sup (n : Nat) (a : AccPt) (s : State) : (putAcc n a s).sup = s.sup := rfl
@[simp] theorem putAcc_core (n : Nat) (a : AccPt) (s : State) : (putAcc n a s).core = s.core := rfl
@[simp] theorem putAcc_prog (n : Nat) (a : AccPt) (s : State) : (putAcc n a s).prog = s.prog := rfl
@[simp] theorem putAcc_task (n : Nat) (a : AccPt) (s : State) : (putAcc n a s).task = s.task := rfl
@[simp] theorem putAcc_img (n : Nat) (a : AccPt) (s : State) : (putAcc n a s).img = s.img := rfl
@[simp] theorem putAcc_tb (n : Nat) (a : AccPt) (s : State) : (putAcc n a s).tb = s.tb := rfl
@[simp] theorem putAcc_slot (n : Nat) (a : AccPt) (s : State) : (putAcc n a s).slot = s.slot := rfl
@[simp] theorem putAcc_ce (n : Nat) (a : AccPt) (s : State) : (putAcc n a s).ce = s.ce := rfl
@[simp] theorem putAcc_fio (n : Nat) (a : AccPt) (s : State) : (putAcc n a s).fio = s.fio := rfl
@[simp] theorem putAcc_saf (n : Nat) (a : AccPt) (s : State) : (putAcc n a s).saf = s.saf := rfl
@[simp] theorem putAcc_can (n : Nat) (a : AccPt) (s : State) : (putAcc n a s).can = s.can := rfl
@[simp] theorem putAcc_eth (n : Nat) (a : AccPt) (s : State) : (putAcc n a s).eth = s.eth := rfl
@[simp] theorem putAcc_pass (n : Nat) (a : AccPt) (s : State) : (putAcc n a s).pass = s.pass := rfl
@[simp] theorem putAcc_pair (n : Nat) (a : AccPt) (s : State) : (putAcc n a s).pair = s.pair := rfl
@[simp] theorem putAcc_flash (n : Nat) (a : AccPt) (s : State) : (putAcc n a s).flash = s.flash := rfl
@[simp] theorem putAcc_ovl (n : Nat) (a : AccPt) (s : State) : (putAcc n a s).ovl = s.ovl := rfl
@[simp] theorem putAcc_out (n : Nat) (a : AccPt) (s : State) : (putAcc n a s).out = s.out := rfl
@[simp] theorem putAcc_free (n : Nat) (a : AccPt) (s : State) : (putAcc n a s).free = s.free := rfl
@[simp] theorem putAcc_pending (n : Nat) (a : AccPt) (s : State) : (putAcc n a s).pending = s.pending := rfl

/-! updFc changes fio alone. -/
@[simp] theorem updFc_clk (n : Nat) (f : FcCh → FcCh) (s : State) : (updFc n f s).clk = s.clk := rfl
@[simp] theorem updFc_mb (n : Nat) (f : FcCh → FcCh) (s : State) : (updFc n f s).mb = s.mb := rfl
@[simp] theorem updFc_evt (n : Nat) (f : FcCh → FcCh) (s : State) : (updFc n f s).evt = s.evt := rfl
@[simp] theorem updFc_gln (n : Nat) (f : FcCh → FcCh) (s : State) : (updFc n f s).gln = s.gln := rfl
@[simp] theorem updFc_silo (n : Nat) (f : FcCh → FcCh) (s : State) : (updFc n f s).silo = s.silo := rfl
@[simp] theorem updFc_rtc (n : Nat) (f : FcCh → FcCh) (s : State) : (updFc n f s).rtc = s.rtc := rfl
@[simp] theorem updFc_aon (n : Nat) (f : FcCh → FcCh) (s : State) : (updFc n f s).aon = s.aon := rfl
@[simp] theorem updFc_sup (n : Nat) (f : FcCh → FcCh) (s : State) : (updFc n f s).sup = s.sup := rfl
@[simp] theorem updFc_core (n : Nat) (f : FcCh → FcCh) (s : State) : (updFc n f s).core = s.core := rfl
@[simp] theorem updFc_prog (n : Nat) (f : FcCh → FcCh) (s : State) : (updFc n f s).prog = s.prog := rfl
@[simp] theorem updFc_task (n : Nat) (f : FcCh → FcCh) (s : State) : (updFc n f s).task = s.task := rfl
@[simp] theorem updFc_img (n : Nat) (f : FcCh → FcCh) (s : State) : (updFc n f s).img = s.img := rfl
@[simp] theorem updFc_tb (n : Nat) (f : FcCh → FcCh) (s : State) : (updFc n f s).tb = s.tb := rfl
@[simp] theorem updFc_slot (n : Nat) (f : FcCh → FcCh) (s : State) : (updFc n f s).slot = s.slot := rfl
@[simp] theorem updFc_ce (n : Nat) (f : FcCh → FcCh) (s : State) : (updFc n f s).ce = s.ce := rfl
@[simp] theorem updFc_svc (n : Nat) (f : FcCh → FcCh) (s : State) : (updFc n f s).svc = s.svc := rfl
@[simp] theorem updFc_saf (n : Nat) (f : FcCh → FcCh) (s : State) : (updFc n f s).saf = s.saf := rfl
@[simp] theorem updFc_can (n : Nat) (f : FcCh → FcCh) (s : State) : (updFc n f s).can = s.can := rfl
@[simp] theorem updFc_eth (n : Nat) (f : FcCh → FcCh) (s : State) : (updFc n f s).eth = s.eth := rfl
@[simp] theorem updFc_pass (n : Nat) (f : FcCh → FcCh) (s : State) : (updFc n f s).pass = s.pass := rfl
@[simp] theorem updFc_pair (n : Nat) (f : FcCh → FcCh) (s : State) : (updFc n f s).pair = s.pair := rfl
@[simp] theorem updFc_flash (n : Nat) (f : FcCh → FcCh) (s : State) : (updFc n f s).flash = s.flash := rfl
@[simp] theorem updFc_ovl (n : Nat) (f : FcCh → FcCh) (s : State) : (updFc n f s).ovl = s.ovl := rfl
@[simp] theorem updFc_out (n : Nat) (f : FcCh → FcCh) (s : State) : (updFc n f s).out = s.out := rfl
@[simp] theorem updFc_free (n : Nat) (f : FcCh → FcCh) (s : State) : (updFc n f s).free = s.free := rfl
@[simp] theorem updFc_pending (n : Nat) (f : FcCh → FcCh) (s : State) : (updFc n f s).pending = s.pending := rfl

/-! updGrp changes fio alone. -/
@[simp] theorem updGrp_clk (n : Nat) (f : FcGrp → FcGrp) (s : State) : (updGrp n f s).clk = s.clk := rfl
@[simp] theorem updGrp_mb (n : Nat) (f : FcGrp → FcGrp) (s : State) : (updGrp n f s).mb = s.mb := rfl
@[simp] theorem updGrp_evt (n : Nat) (f : FcGrp → FcGrp) (s : State) : (updGrp n f s).evt = s.evt := rfl
@[simp] theorem updGrp_gln (n : Nat) (f : FcGrp → FcGrp) (s : State) : (updGrp n f s).gln = s.gln := rfl
@[simp] theorem updGrp_silo (n : Nat) (f : FcGrp → FcGrp) (s : State) : (updGrp n f s).silo = s.silo := rfl
@[simp] theorem updGrp_rtc (n : Nat) (f : FcGrp → FcGrp) (s : State) : (updGrp n f s).rtc = s.rtc := rfl
@[simp] theorem updGrp_aon (n : Nat) (f : FcGrp → FcGrp) (s : State) : (updGrp n f s).aon = s.aon := rfl
@[simp] theorem updGrp_sup (n : Nat) (f : FcGrp → FcGrp) (s : State) : (updGrp n f s).sup = s.sup := rfl
@[simp] theorem updGrp_core (n : Nat) (f : FcGrp → FcGrp) (s : State) : (updGrp n f s).core = s.core := rfl
@[simp] theorem updGrp_prog (n : Nat) (f : FcGrp → FcGrp) (s : State) : (updGrp n f s).prog = s.prog := rfl
@[simp] theorem updGrp_task (n : Nat) (f : FcGrp → FcGrp) (s : State) : (updGrp n f s).task = s.task := rfl
@[simp] theorem updGrp_img (n : Nat) (f : FcGrp → FcGrp) (s : State) : (updGrp n f s).img = s.img := rfl
@[simp] theorem updGrp_tb (n : Nat) (f : FcGrp → FcGrp) (s : State) : (updGrp n f s).tb = s.tb := rfl
@[simp] theorem updGrp_slot (n : Nat) (f : FcGrp → FcGrp) (s : State) : (updGrp n f s).slot = s.slot := rfl
@[simp] theorem updGrp_ce (n : Nat) (f : FcGrp → FcGrp) (s : State) : (updGrp n f s).ce = s.ce := rfl
@[simp] theorem updGrp_svc (n : Nat) (f : FcGrp → FcGrp) (s : State) : (updGrp n f s).svc = s.svc := rfl
@[simp] theorem updGrp_saf (n : Nat) (f : FcGrp → FcGrp) (s : State) : (updGrp n f s).saf = s.saf := rfl
@[simp] theorem updGrp_can (n : Nat) (f : FcGrp → FcGrp) (s : State) : (updGrp n f s).can = s.can := rfl
@[simp] theorem updGrp_eth (n : Nat) (f : FcGrp → FcGrp) (s : State) : (updGrp n f s).eth = s.eth := rfl
@[simp] theorem updGrp_pass (n : Nat) (f : FcGrp → FcGrp) (s : State) : (updGrp n f s).pass = s.pass := rfl
@[simp] theorem updGrp_pair (n : Nat) (f : FcGrp → FcGrp) (s : State) : (updGrp n f s).pair = s.pair := rfl
@[simp] theorem updGrp_flash (n : Nat) (f : FcGrp → FcGrp) (s : State) : (updGrp n f s).flash = s.flash := rfl
@[simp] theorem updGrp_ovl (n : Nat) (f : FcGrp → FcGrp) (s : State) : (updGrp n f s).ovl = s.ovl := rfl
@[simp] theorem updGrp_out (n : Nat) (f : FcGrp → FcGrp) (s : State) : (updGrp n f s).out = s.out := rfl
@[simp] theorem updGrp_free (n : Nat) (f : FcGrp → FcGrp) (s : State) : (updGrp n f s).free = s.free := rfl
@[simp] theorem updGrp_pending (n : Nat) (f : FcGrp → FcGrp) (s : State) : (updGrp n f s).pending = s.pending := rfl

/-! updDie changes fio alone. -/
@[simp] theorem updDie_clk (n : Nat) (f : FioDie → FioDie) (s : State) : (updDie n f s).clk = s.clk := rfl
@[simp] theorem updDie_mb (n : Nat) (f : FioDie → FioDie) (s : State) : (updDie n f s).mb = s.mb := rfl
@[simp] theorem updDie_evt (n : Nat) (f : FioDie → FioDie) (s : State) : (updDie n f s).evt = s.evt := rfl
@[simp] theorem updDie_gln (n : Nat) (f : FioDie → FioDie) (s : State) : (updDie n f s).gln = s.gln := rfl
@[simp] theorem updDie_silo (n : Nat) (f : FioDie → FioDie) (s : State) : (updDie n f s).silo = s.silo := rfl
@[simp] theorem updDie_rtc (n : Nat) (f : FioDie → FioDie) (s : State) : (updDie n f s).rtc = s.rtc := rfl
@[simp] theorem updDie_aon (n : Nat) (f : FioDie → FioDie) (s : State) : (updDie n f s).aon = s.aon := rfl
@[simp] theorem updDie_sup (n : Nat) (f : FioDie → FioDie) (s : State) : (updDie n f s).sup = s.sup := rfl
@[simp] theorem updDie_core (n : Nat) (f : FioDie → FioDie) (s : State) : (updDie n f s).core = s.core := rfl
@[simp] theorem updDie_prog (n : Nat) (f : FioDie → FioDie) (s : State) : (updDie n f s).prog = s.prog := rfl
@[simp] theorem updDie_task (n : Nat) (f : FioDie → FioDie) (s : State) : (updDie n f s).task = s.task := rfl
@[simp] theorem updDie_img (n : Nat) (f : FioDie → FioDie) (s : State) : (updDie n f s).img = s.img := rfl
@[simp] theorem updDie_tb (n : Nat) (f : FioDie → FioDie) (s : State) : (updDie n f s).tb = s.tb := rfl
@[simp] theorem updDie_slot (n : Nat) (f : FioDie → FioDie) (s : State) : (updDie n f s).slot = s.slot := rfl
@[simp] theorem updDie_ce (n : Nat) (f : FioDie → FioDie) (s : State) : (updDie n f s).ce = s.ce := rfl
@[simp] theorem updDie_svc (n : Nat) (f : FioDie → FioDie) (s : State) : (updDie n f s).svc = s.svc := rfl
@[simp] theorem updDie_saf (n : Nat) (f : FioDie → FioDie) (s : State) : (updDie n f s).saf = s.saf := rfl
@[simp] theorem updDie_can (n : Nat) (f : FioDie → FioDie) (s : State) : (updDie n f s).can = s.can := rfl
@[simp] theorem updDie_eth (n : Nat) (f : FioDie → FioDie) (s : State) : (updDie n f s).eth = s.eth := rfl
@[simp] theorem updDie_pass (n : Nat) (f : FioDie → FioDie) (s : State) : (updDie n f s).pass = s.pass := rfl
@[simp] theorem updDie_pair (n : Nat) (f : FioDie → FioDie) (s : State) : (updDie n f s).pair = s.pair := rfl
@[simp] theorem updDie_flash (n : Nat) (f : FioDie → FioDie) (s : State) : (updDie n f s).flash = s.flash := rfl
@[simp] theorem updDie_ovl (n : Nat) (f : FioDie → FioDie) (s : State) : (updDie n f s).ovl = s.ovl := rfl
@[simp] theorem updDie_out (n : Nat) (f : FioDie → FioDie) (s : State) : (updDie n f s).out = s.out := rfl
@[simp] theorem updDie_free (n : Nat) (f : FioDie → FioDie) (s : State) : (updDie n f s).free = s.free := rfl
@[simp] theorem updDie_pending (n : Nat) (f : FioDie → FioDie) (s : State) : (updDie n f s).pending = s.pending := rfl

/-! updAi changes fio alone. -/
@[simp] theorem updAi_clk (n : Nat) (f : AiCh → AiCh) (s : State) : (updAi n f s).clk = s.clk := rfl
@[simp] theorem updAi_mb (n : Nat) (f : AiCh → AiCh) (s : State) : (updAi n f s).mb = s.mb := rfl
@[simp] theorem updAi_evt (n : Nat) (f : AiCh → AiCh) (s : State) : (updAi n f s).evt = s.evt := rfl
@[simp] theorem updAi_gln (n : Nat) (f : AiCh → AiCh) (s : State) : (updAi n f s).gln = s.gln := rfl
@[simp] theorem updAi_silo (n : Nat) (f : AiCh → AiCh) (s : State) : (updAi n f s).silo = s.silo := rfl
@[simp] theorem updAi_rtc (n : Nat) (f : AiCh → AiCh) (s : State) : (updAi n f s).rtc = s.rtc := rfl
@[simp] theorem updAi_aon (n : Nat) (f : AiCh → AiCh) (s : State) : (updAi n f s).aon = s.aon := rfl
@[simp] theorem updAi_sup (n : Nat) (f : AiCh → AiCh) (s : State) : (updAi n f s).sup = s.sup := rfl
@[simp] theorem updAi_core (n : Nat) (f : AiCh → AiCh) (s : State) : (updAi n f s).core = s.core := rfl
@[simp] theorem updAi_prog (n : Nat) (f : AiCh → AiCh) (s : State) : (updAi n f s).prog = s.prog := rfl
@[simp] theorem updAi_task (n : Nat) (f : AiCh → AiCh) (s : State) : (updAi n f s).task = s.task := rfl
@[simp] theorem updAi_img (n : Nat) (f : AiCh → AiCh) (s : State) : (updAi n f s).img = s.img := rfl
@[simp] theorem updAi_tb (n : Nat) (f : AiCh → AiCh) (s : State) : (updAi n f s).tb = s.tb := rfl
@[simp] theorem updAi_slot (n : Nat) (f : AiCh → AiCh) (s : State) : (updAi n f s).slot = s.slot := rfl
@[simp] theorem updAi_ce (n : Nat) (f : AiCh → AiCh) (s : State) : (updAi n f s).ce = s.ce := rfl
@[simp] theorem updAi_svc (n : Nat) (f : AiCh → AiCh) (s : State) : (updAi n f s).svc = s.svc := rfl
@[simp] theorem updAi_saf (n : Nat) (f : AiCh → AiCh) (s : State) : (updAi n f s).saf = s.saf := rfl
@[simp] theorem updAi_can (n : Nat) (f : AiCh → AiCh) (s : State) : (updAi n f s).can = s.can := rfl
@[simp] theorem updAi_eth (n : Nat) (f : AiCh → AiCh) (s : State) : (updAi n f s).eth = s.eth := rfl
@[simp] theorem updAi_pass (n : Nat) (f : AiCh → AiCh) (s : State) : (updAi n f s).pass = s.pass := rfl
@[simp] theorem updAi_pair (n : Nat) (f : AiCh → AiCh) (s : State) : (updAi n f s).pair = s.pair := rfl
@[simp] theorem updAi_flash (n : Nat) (f : AiCh → AiCh) (s : State) : (updAi n f s).flash = s.flash := rfl
@[simp] theorem updAi_ovl (n : Nat) (f : AiCh → AiCh) (s : State) : (updAi n f s).ovl = s.ovl := rfl
@[simp] theorem updAi_out (n : Nat) (f : AiCh → AiCh) (s : State) : (updAi n f s).out = s.out := rfl
@[simp] theorem updAi_free (n : Nat) (f : AiCh → AiCh) (s : State) : (updAi n f s).free = s.free := rfl
@[simp] theorem updAi_pending (n : Nat) (f : AiCh → AiCh) (s : State) : (updAi n f s).pending = s.pending := rfl

/-! updAo changes fio alone. -/
@[simp] theorem updAo_clk (n : Nat) (f : AoCh → AoCh) (s : State) : (updAo n f s).clk = s.clk := rfl
@[simp] theorem updAo_mb (n : Nat) (f : AoCh → AoCh) (s : State) : (updAo n f s).mb = s.mb := rfl
@[simp] theorem updAo_evt (n : Nat) (f : AoCh → AoCh) (s : State) : (updAo n f s).evt = s.evt := rfl
@[simp] theorem updAo_gln (n : Nat) (f : AoCh → AoCh) (s : State) : (updAo n f s).gln = s.gln := rfl
@[simp] theorem updAo_silo (n : Nat) (f : AoCh → AoCh) (s : State) : (updAo n f s).silo = s.silo := rfl
@[simp] theorem updAo_rtc (n : Nat) (f : AoCh → AoCh) (s : State) : (updAo n f s).rtc = s.rtc := rfl
@[simp] theorem updAo_aon (n : Nat) (f : AoCh → AoCh) (s : State) : (updAo n f s).aon = s.aon := rfl
@[simp] theorem updAo_sup (n : Nat) (f : AoCh → AoCh) (s : State) : (updAo n f s).sup = s.sup := rfl
@[simp] theorem updAo_core (n : Nat) (f : AoCh → AoCh) (s : State) : (updAo n f s).core = s.core := rfl
@[simp] theorem updAo_prog (n : Nat) (f : AoCh → AoCh) (s : State) : (updAo n f s).prog = s.prog := rfl
@[simp] theorem updAo_task (n : Nat) (f : AoCh → AoCh) (s : State) : (updAo n f s).task = s.task := rfl
@[simp] theorem updAo_img (n : Nat) (f : AoCh → AoCh) (s : State) : (updAo n f s).img = s.img := rfl
@[simp] theorem updAo_tb (n : Nat) (f : AoCh → AoCh) (s : State) : (updAo n f s).tb = s.tb := rfl
@[simp] theorem updAo_slot (n : Nat) (f : AoCh → AoCh) (s : State) : (updAo n f s).slot = s.slot := rfl
@[simp] theorem updAo_ce (n : Nat) (f : AoCh → AoCh) (s : State) : (updAo n f s).ce = s.ce := rfl
@[simp] theorem updAo_svc (n : Nat) (f : AoCh → AoCh) (s : State) : (updAo n f s).svc = s.svc := rfl
@[simp] theorem updAo_saf (n : Nat) (f : AoCh → AoCh) (s : State) : (updAo n f s).saf = s.saf := rfl
@[simp] theorem updAo_can (n : Nat) (f : AoCh → AoCh) (s : State) : (updAo n f s).can = s.can := rfl
@[simp] theorem updAo_eth (n : Nat) (f : AoCh → AoCh) (s : State) : (updAo n f s).eth = s.eth := rfl
@[simp] theorem updAo_pass (n : Nat) (f : AoCh → AoCh) (s : State) : (updAo n f s).pass = s.pass := rfl
@[simp] theorem updAo_pair (n : Nat) (f : AoCh → AoCh) (s : State) : (updAo n f s).pair = s.pair := rfl
@[simp] theorem updAo_flash (n : Nat) (f : AoCh → AoCh) (s : State) : (updAo n f s).flash = s.flash := rfl
@[simp] theorem updAo_ovl (n : Nat) (f : AoCh → AoCh) (s : State) : (updAo n f s).ovl = s.ovl := rfl
@[simp] theorem updAo_out (n : Nat) (f : AoCh → AoCh) (s : State) : (updAo n f s).out = s.out := rfl
@[simp] theorem updAo_free (n : Nat) (f : AoCh → AoCh) (s : State) : (updAo n f s).free = s.free := rfl
@[simp] theorem updAo_pending (n : Nat) (f : AoCh → AoCh) (s : State) : (updAo n f s).pending = s.pending := rfl

/-! updPath changes saf alone. -/
@[simp] theorem updPath_clk (n : Nat) (f : SafPathSt → SafPathSt) (s : State) : (updPath n f s).clk = s.clk := rfl
@[simp] theorem updPath_mb (n : Nat) (f : SafPathSt → SafPathSt) (s : State) : (updPath n f s).mb = s.mb := rfl
@[simp] theorem updPath_evt (n : Nat) (f : SafPathSt → SafPathSt) (s : State) : (updPath n f s).evt = s.evt := rfl
@[simp] theorem updPath_gln (n : Nat) (f : SafPathSt → SafPathSt) (s : State) : (updPath n f s).gln = s.gln := rfl
@[simp] theorem updPath_silo (n : Nat) (f : SafPathSt → SafPathSt) (s : State) : (updPath n f s).silo = s.silo := rfl
@[simp] theorem updPath_rtc (n : Nat) (f : SafPathSt → SafPathSt) (s : State) : (updPath n f s).rtc = s.rtc := rfl
@[simp] theorem updPath_aon (n : Nat) (f : SafPathSt → SafPathSt) (s : State) : (updPath n f s).aon = s.aon := rfl
@[simp] theorem updPath_sup (n : Nat) (f : SafPathSt → SafPathSt) (s : State) : (updPath n f s).sup = s.sup := rfl
@[simp] theorem updPath_core (n : Nat) (f : SafPathSt → SafPathSt) (s : State) : (updPath n f s).core = s.core := rfl
@[simp] theorem updPath_prog (n : Nat) (f : SafPathSt → SafPathSt) (s : State) : (updPath n f s).prog = s.prog := rfl
@[simp] theorem updPath_task (n : Nat) (f : SafPathSt → SafPathSt) (s : State) : (updPath n f s).task = s.task := rfl
@[simp] theorem updPath_img (n : Nat) (f : SafPathSt → SafPathSt) (s : State) : (updPath n f s).img = s.img := rfl
@[simp] theorem updPath_tb (n : Nat) (f : SafPathSt → SafPathSt) (s : State) : (updPath n f s).tb = s.tb := rfl
@[simp] theorem updPath_slot (n : Nat) (f : SafPathSt → SafPathSt) (s : State) : (updPath n f s).slot = s.slot := rfl
@[simp] theorem updPath_ce (n : Nat) (f : SafPathSt → SafPathSt) (s : State) : (updPath n f s).ce = s.ce := rfl
@[simp] theorem updPath_svc (n : Nat) (f : SafPathSt → SafPathSt) (s : State) : (updPath n f s).svc = s.svc := rfl
@[simp] theorem updPath_fio (n : Nat) (f : SafPathSt → SafPathSt) (s : State) : (updPath n f s).fio = s.fio := rfl
@[simp] theorem updPath_can (n : Nat) (f : SafPathSt → SafPathSt) (s : State) : (updPath n f s).can = s.can := rfl
@[simp] theorem updPath_eth (n : Nat) (f : SafPathSt → SafPathSt) (s : State) : (updPath n f s).eth = s.eth := rfl
@[simp] theorem updPath_pass (n : Nat) (f : SafPathSt → SafPathSt) (s : State) : (updPath n f s).pass = s.pass := rfl
@[simp] theorem updPath_pair (n : Nat) (f : SafPathSt → SafPathSt) (s : State) : (updPath n f s).pair = s.pair := rfl
@[simp] theorem updPath_flash (n : Nat) (f : SafPathSt → SafPathSt) (s : State) : (updPath n f s).flash = s.flash := rfl
@[simp] theorem updPath_ovl (n : Nat) (f : SafPathSt → SafPathSt) (s : State) : (updPath n f s).ovl = s.ovl := rfl
@[simp] theorem updPath_out (n : Nat) (f : SafPathSt → SafPathSt) (s : State) : (updPath n f s).out = s.out := rfl
@[simp] theorem updPath_free (n : Nat) (f : SafPathSt → SafPathSt) (s : State) : (updPath n f s).free = s.free := rfl
@[simp] theorem updPath_pending (n : Nat) (f : SafPathSt → SafPathSt) (s : State) : (updPath n f s).pending = s.pending := rfl

/-! updInst changes saf alone. -/
@[simp] theorem updInst_clk (p n : Nat) (f : SafInst → SafInst) (s : State) : (updInst p n f s).clk = s.clk := rfl
@[simp] theorem updInst_mb (p n : Nat) (f : SafInst → SafInst) (s : State) : (updInst p n f s).mb = s.mb := rfl
@[simp] theorem updInst_evt (p n : Nat) (f : SafInst → SafInst) (s : State) : (updInst p n f s).evt = s.evt := rfl
@[simp] theorem updInst_gln (p n : Nat) (f : SafInst → SafInst) (s : State) : (updInst p n f s).gln = s.gln := rfl
@[simp] theorem updInst_silo (p n : Nat) (f : SafInst → SafInst) (s : State) : (updInst p n f s).silo = s.silo := rfl
@[simp] theorem updInst_rtc (p n : Nat) (f : SafInst → SafInst) (s : State) : (updInst p n f s).rtc = s.rtc := rfl
@[simp] theorem updInst_aon (p n : Nat) (f : SafInst → SafInst) (s : State) : (updInst p n f s).aon = s.aon := rfl
@[simp] theorem updInst_sup (p n : Nat) (f : SafInst → SafInst) (s : State) : (updInst p n f s).sup = s.sup := rfl
@[simp] theorem updInst_core (p n : Nat) (f : SafInst → SafInst) (s : State) : (updInst p n f s).core = s.core := rfl
@[simp] theorem updInst_prog (p n : Nat) (f : SafInst → SafInst) (s : State) : (updInst p n f s).prog = s.prog := rfl
@[simp] theorem updInst_task (p n : Nat) (f : SafInst → SafInst) (s : State) : (updInst p n f s).task = s.task := rfl
@[simp] theorem updInst_img (p n : Nat) (f : SafInst → SafInst) (s : State) : (updInst p n f s).img = s.img := rfl
@[simp] theorem updInst_tb (p n : Nat) (f : SafInst → SafInst) (s : State) : (updInst p n f s).tb = s.tb := rfl
@[simp] theorem updInst_slot (p n : Nat) (f : SafInst → SafInst) (s : State) : (updInst p n f s).slot = s.slot := rfl
@[simp] theorem updInst_ce (p n : Nat) (f : SafInst → SafInst) (s : State) : (updInst p n f s).ce = s.ce := rfl
@[simp] theorem updInst_svc (p n : Nat) (f : SafInst → SafInst) (s : State) : (updInst p n f s).svc = s.svc := rfl
@[simp] theorem updInst_fio (p n : Nat) (f : SafInst → SafInst) (s : State) : (updInst p n f s).fio = s.fio := rfl
@[simp] theorem updInst_can (p n : Nat) (f : SafInst → SafInst) (s : State) : (updInst p n f s).can = s.can := rfl
@[simp] theorem updInst_eth (p n : Nat) (f : SafInst → SafInst) (s : State) : (updInst p n f s).eth = s.eth := rfl
@[simp] theorem updInst_pass (p n : Nat) (f : SafInst → SafInst) (s : State) : (updInst p n f s).pass = s.pass := rfl
@[simp] theorem updInst_pair (p n : Nat) (f : SafInst → SafInst) (s : State) : (updInst p n f s).pair = s.pair := rfl
@[simp] theorem updInst_flash (p n : Nat) (f : SafInst → SafInst) (s : State) : (updInst p n f s).flash = s.flash := rfl
@[simp] theorem updInst_ovl (p n : Nat) (f : SafInst → SafInst) (s : State) : (updInst p n f s).ovl = s.ovl := rfl
@[simp] theorem updInst_out (p n : Nat) (f : SafInst → SafInst) (s : State) : (updInst p n f s).out = s.out := rfl
@[simp] theorem updInst_free (p n : Nat) (f : SafInst → SafInst) (s : State) : (updInst p n f s).free = s.free := rfl
@[simp] theorem updInst_pending (p n : Nat) (f : SafInst → SafInst) (s : State) : (updInst p n f s).pending = s.pending := rfl

/-! updIn changes saf alone. -/
@[simp] theorem updIn_clk (p n : Nat) (f : SafIn → SafIn) (s : State) : (updIn p n f s).clk = s.clk := rfl
@[simp] theorem updIn_mb (p n : Nat) (f : SafIn → SafIn) (s : State) : (updIn p n f s).mb = s.mb := rfl
@[simp] theorem updIn_evt (p n : Nat) (f : SafIn → SafIn) (s : State) : (updIn p n f s).evt = s.evt := rfl
@[simp] theorem updIn_gln (p n : Nat) (f : SafIn → SafIn) (s : State) : (updIn p n f s).gln = s.gln := rfl
@[simp] theorem updIn_silo (p n : Nat) (f : SafIn → SafIn) (s : State) : (updIn p n f s).silo = s.silo := rfl
@[simp] theorem updIn_rtc (p n : Nat) (f : SafIn → SafIn) (s : State) : (updIn p n f s).rtc = s.rtc := rfl
@[simp] theorem updIn_aon (p n : Nat) (f : SafIn → SafIn) (s : State) : (updIn p n f s).aon = s.aon := rfl
@[simp] theorem updIn_sup (p n : Nat) (f : SafIn → SafIn) (s : State) : (updIn p n f s).sup = s.sup := rfl
@[simp] theorem updIn_core (p n : Nat) (f : SafIn → SafIn) (s : State) : (updIn p n f s).core = s.core := rfl
@[simp] theorem updIn_prog (p n : Nat) (f : SafIn → SafIn) (s : State) : (updIn p n f s).prog = s.prog := rfl
@[simp] theorem updIn_task (p n : Nat) (f : SafIn → SafIn) (s : State) : (updIn p n f s).task = s.task := rfl
@[simp] theorem updIn_img (p n : Nat) (f : SafIn → SafIn) (s : State) : (updIn p n f s).img = s.img := rfl
@[simp] theorem updIn_tb (p n : Nat) (f : SafIn → SafIn) (s : State) : (updIn p n f s).tb = s.tb := rfl
@[simp] theorem updIn_slot (p n : Nat) (f : SafIn → SafIn) (s : State) : (updIn p n f s).slot = s.slot := rfl
@[simp] theorem updIn_ce (p n : Nat) (f : SafIn → SafIn) (s : State) : (updIn p n f s).ce = s.ce := rfl
@[simp] theorem updIn_svc (p n : Nat) (f : SafIn → SafIn) (s : State) : (updIn p n f s).svc = s.svc := rfl
@[simp] theorem updIn_fio (p n : Nat) (f : SafIn → SafIn) (s : State) : (updIn p n f s).fio = s.fio := rfl
@[simp] theorem updIn_can (p n : Nat) (f : SafIn → SafIn) (s : State) : (updIn p n f s).can = s.can := rfl
@[simp] theorem updIn_eth (p n : Nat) (f : SafIn → SafIn) (s : State) : (updIn p n f s).eth = s.eth := rfl
@[simp] theorem updIn_pass (p n : Nat) (f : SafIn → SafIn) (s : State) : (updIn p n f s).pass = s.pass := rfl
@[simp] theorem updIn_pair (p n : Nat) (f : SafIn → SafIn) (s : State) : (updIn p n f s).pair = s.pair := rfl
@[simp] theorem updIn_flash (p n : Nat) (f : SafIn → SafIn) (s : State) : (updIn p n f s).flash = s.flash := rfl
@[simp] theorem updIn_ovl (p n : Nat) (f : SafIn → SafIn) (s : State) : (updIn p n f s).ovl = s.ovl := rfl
@[simp] theorem updIn_out (p n : Nat) (f : SafIn → SafIn) (s : State) : (updIn p n f s).out = s.out := rfl
@[simp] theorem updIn_free (p n : Nat) (f : SafIn → SafIn) (s : State) : (updIn p n f s).free = s.free := rfl
@[simp] theorem updIn_pending (p n : Nat) (f : SafIn → SafIn) (s : State) : (updIn p n f s).pending = s.pending := rfl

/-! updCan changes can alone. -/
@[simp] theorem updCan_clk (n : Nat) (f : CanCtl → CanCtl) (s : State) : (updCan n f s).clk = s.clk := rfl
@[simp] theorem updCan_mb (n : Nat) (f : CanCtl → CanCtl) (s : State) : (updCan n f s).mb = s.mb := rfl
@[simp] theorem updCan_evt (n : Nat) (f : CanCtl → CanCtl) (s : State) : (updCan n f s).evt = s.evt := rfl
@[simp] theorem updCan_gln (n : Nat) (f : CanCtl → CanCtl) (s : State) : (updCan n f s).gln = s.gln := rfl
@[simp] theorem updCan_silo (n : Nat) (f : CanCtl → CanCtl) (s : State) : (updCan n f s).silo = s.silo := rfl
@[simp] theorem updCan_rtc (n : Nat) (f : CanCtl → CanCtl) (s : State) : (updCan n f s).rtc = s.rtc := rfl
@[simp] theorem updCan_aon (n : Nat) (f : CanCtl → CanCtl) (s : State) : (updCan n f s).aon = s.aon := rfl
@[simp] theorem updCan_sup (n : Nat) (f : CanCtl → CanCtl) (s : State) : (updCan n f s).sup = s.sup := rfl
@[simp] theorem updCan_core (n : Nat) (f : CanCtl → CanCtl) (s : State) : (updCan n f s).core = s.core := rfl
@[simp] theorem updCan_prog (n : Nat) (f : CanCtl → CanCtl) (s : State) : (updCan n f s).prog = s.prog := rfl
@[simp] theorem updCan_task (n : Nat) (f : CanCtl → CanCtl) (s : State) : (updCan n f s).task = s.task := rfl
@[simp] theorem updCan_img (n : Nat) (f : CanCtl → CanCtl) (s : State) : (updCan n f s).img = s.img := rfl
@[simp] theorem updCan_tb (n : Nat) (f : CanCtl → CanCtl) (s : State) : (updCan n f s).tb = s.tb := rfl
@[simp] theorem updCan_slot (n : Nat) (f : CanCtl → CanCtl) (s : State) : (updCan n f s).slot = s.slot := rfl
@[simp] theorem updCan_ce (n : Nat) (f : CanCtl → CanCtl) (s : State) : (updCan n f s).ce = s.ce := rfl
@[simp] theorem updCan_svc (n : Nat) (f : CanCtl → CanCtl) (s : State) : (updCan n f s).svc = s.svc := rfl
@[simp] theorem updCan_fio (n : Nat) (f : CanCtl → CanCtl) (s : State) : (updCan n f s).fio = s.fio := rfl
@[simp] theorem updCan_saf (n : Nat) (f : CanCtl → CanCtl) (s : State) : (updCan n f s).saf = s.saf := rfl
@[simp] theorem updCan_eth (n : Nat) (f : CanCtl → CanCtl) (s : State) : (updCan n f s).eth = s.eth := rfl
@[simp] theorem updCan_pass (n : Nat) (f : CanCtl → CanCtl) (s : State) : (updCan n f s).pass = s.pass := rfl
@[simp] theorem updCan_pair (n : Nat) (f : CanCtl → CanCtl) (s : State) : (updCan n f s).pair = s.pair := rfl
@[simp] theorem updCan_flash (n : Nat) (f : CanCtl → CanCtl) (s : State) : (updCan n f s).flash = s.flash := rfl
@[simp] theorem updCan_ovl (n : Nat) (f : CanCtl → CanCtl) (s : State) : (updCan n f s).ovl = s.ovl := rfl
@[simp] theorem updCan_out (n : Nat) (f : CanCtl → CanCtl) (s : State) : (updCan n f s).out = s.out := rfl
@[simp] theorem updCan_free (n : Nat) (f : CanCtl → CanCtl) (s : State) : (updCan n f s).free = s.free := rfl
@[simp] theorem updCan_pending (n : Nat) (f : CanCtl → CanCtl) (s : State) : (updCan n f s).pending = s.pending := rfl

/-! updMac changes eth alone. -/
@[simp] theorem updMac_clk (n : Nat) (f : EthMac → EthMac) (s : State) : (updMac n f s).clk = s.clk := rfl
@[simp] theorem updMac_mb (n : Nat) (f : EthMac → EthMac) (s : State) : (updMac n f s).mb = s.mb := rfl
@[simp] theorem updMac_evt (n : Nat) (f : EthMac → EthMac) (s : State) : (updMac n f s).evt = s.evt := rfl
@[simp] theorem updMac_gln (n : Nat) (f : EthMac → EthMac) (s : State) : (updMac n f s).gln = s.gln := rfl
@[simp] theorem updMac_silo (n : Nat) (f : EthMac → EthMac) (s : State) : (updMac n f s).silo = s.silo := rfl
@[simp] theorem updMac_rtc (n : Nat) (f : EthMac → EthMac) (s : State) : (updMac n f s).rtc = s.rtc := rfl
@[simp] theorem updMac_aon (n : Nat) (f : EthMac → EthMac) (s : State) : (updMac n f s).aon = s.aon := rfl
@[simp] theorem updMac_sup (n : Nat) (f : EthMac → EthMac) (s : State) : (updMac n f s).sup = s.sup := rfl
@[simp] theorem updMac_core (n : Nat) (f : EthMac → EthMac) (s : State) : (updMac n f s).core = s.core := rfl
@[simp] theorem updMac_prog (n : Nat) (f : EthMac → EthMac) (s : State) : (updMac n f s).prog = s.prog := rfl
@[simp] theorem updMac_task (n : Nat) (f : EthMac → EthMac) (s : State) : (updMac n f s).task = s.task := rfl
@[simp] theorem updMac_img (n : Nat) (f : EthMac → EthMac) (s : State) : (updMac n f s).img = s.img := rfl
@[simp] theorem updMac_tb (n : Nat) (f : EthMac → EthMac) (s : State) : (updMac n f s).tb = s.tb := rfl
@[simp] theorem updMac_slot (n : Nat) (f : EthMac → EthMac) (s : State) : (updMac n f s).slot = s.slot := rfl
@[simp] theorem updMac_ce (n : Nat) (f : EthMac → EthMac) (s : State) : (updMac n f s).ce = s.ce := rfl
@[simp] theorem updMac_svc (n : Nat) (f : EthMac → EthMac) (s : State) : (updMac n f s).svc = s.svc := rfl
@[simp] theorem updMac_fio (n : Nat) (f : EthMac → EthMac) (s : State) : (updMac n f s).fio = s.fio := rfl
@[simp] theorem updMac_saf (n : Nat) (f : EthMac → EthMac) (s : State) : (updMac n f s).saf = s.saf := rfl
@[simp] theorem updMac_can (n : Nat) (f : EthMac → EthMac) (s : State) : (updMac n f s).can = s.can := rfl
@[simp] theorem updMac_pass (n : Nat) (f : EthMac → EthMac) (s : State) : (updMac n f s).pass = s.pass := rfl
@[simp] theorem updMac_pair (n : Nat) (f : EthMac → EthMac) (s : State) : (updMac n f s).pair = s.pair := rfl
@[simp] theorem updMac_flash (n : Nat) (f : EthMac → EthMac) (s : State) : (updMac n f s).flash = s.flash := rfl
@[simp] theorem updMac_ovl (n : Nat) (f : EthMac → EthMac) (s : State) : (updMac n f s).ovl = s.ovl := rfl
@[simp] theorem updMac_out (n : Nat) (f : EthMac → EthMac) (s : State) : (updMac n f s).out = s.out := rfl
@[simp] theorem updMac_free (n : Nat) (f : EthMac → EthMac) (s : State) : (updMac n f s).free = s.free := rfl
@[simp] theorem updMac_pending (n : Nat) (f : EthMac → EthMac) (s : State) : (updMac n f s).pending = s.pending := rfl

/-! updTrdp changes eth alone. -/
@[simp] theorem updTrdp_clk (n : Nat) (f : Trdp → Trdp) (s : State) : (updTrdp n f s).clk = s.clk := rfl
@[simp] theorem updTrdp_mb (n : Nat) (f : Trdp → Trdp) (s : State) : (updTrdp n f s).mb = s.mb := rfl
@[simp] theorem updTrdp_evt (n : Nat) (f : Trdp → Trdp) (s : State) : (updTrdp n f s).evt = s.evt := rfl
@[simp] theorem updTrdp_gln (n : Nat) (f : Trdp → Trdp) (s : State) : (updTrdp n f s).gln = s.gln := rfl
@[simp] theorem updTrdp_silo (n : Nat) (f : Trdp → Trdp) (s : State) : (updTrdp n f s).silo = s.silo := rfl
@[simp] theorem updTrdp_rtc (n : Nat) (f : Trdp → Trdp) (s : State) : (updTrdp n f s).rtc = s.rtc := rfl
@[simp] theorem updTrdp_aon (n : Nat) (f : Trdp → Trdp) (s : State) : (updTrdp n f s).aon = s.aon := rfl
@[simp] theorem updTrdp_sup (n : Nat) (f : Trdp → Trdp) (s : State) : (updTrdp n f s).sup = s.sup := rfl
@[simp] theorem updTrdp_core (n : Nat) (f : Trdp → Trdp) (s : State) : (updTrdp n f s).core = s.core := rfl
@[simp] theorem updTrdp_prog (n : Nat) (f : Trdp → Trdp) (s : State) : (updTrdp n f s).prog = s.prog := rfl
@[simp] theorem updTrdp_task (n : Nat) (f : Trdp → Trdp) (s : State) : (updTrdp n f s).task = s.task := rfl
@[simp] theorem updTrdp_img (n : Nat) (f : Trdp → Trdp) (s : State) : (updTrdp n f s).img = s.img := rfl
@[simp] theorem updTrdp_tb (n : Nat) (f : Trdp → Trdp) (s : State) : (updTrdp n f s).tb = s.tb := rfl
@[simp] theorem updTrdp_slot (n : Nat) (f : Trdp → Trdp) (s : State) : (updTrdp n f s).slot = s.slot := rfl
@[simp] theorem updTrdp_ce (n : Nat) (f : Trdp → Trdp) (s : State) : (updTrdp n f s).ce = s.ce := rfl
@[simp] theorem updTrdp_svc (n : Nat) (f : Trdp → Trdp) (s : State) : (updTrdp n f s).svc = s.svc := rfl
@[simp] theorem updTrdp_fio (n : Nat) (f : Trdp → Trdp) (s : State) : (updTrdp n f s).fio = s.fio := rfl
@[simp] theorem updTrdp_saf (n : Nat) (f : Trdp → Trdp) (s : State) : (updTrdp n f s).saf = s.saf := rfl
@[simp] theorem updTrdp_can (n : Nat) (f : Trdp → Trdp) (s : State) : (updTrdp n f s).can = s.can := rfl
@[simp] theorem updTrdp_pass (n : Nat) (f : Trdp → Trdp) (s : State) : (updTrdp n f s).pass = s.pass := rfl
@[simp] theorem updTrdp_pair (n : Nat) (f : Trdp → Trdp) (s : State) : (updTrdp n f s).pair = s.pair := rfl
@[simp] theorem updTrdp_flash (n : Nat) (f : Trdp → Trdp) (s : State) : (updTrdp n f s).flash = s.flash := rfl
@[simp] theorem updTrdp_ovl (n : Nat) (f : Trdp → Trdp) (s : State) : (updTrdp n f s).ovl = s.ovl := rfl
@[simp] theorem updTrdp_out (n : Nat) (f : Trdp → Trdp) (s : State) : (updTrdp n f s).out = s.out := rfl
@[simp] theorem updTrdp_free (n : Nat) (f : Trdp → Trdp) (s : State) : (updTrdp n f s).free = s.free := rfl
@[simp] theorem updTrdp_pending (n : Nat) (f : Trdp → Trdp) (s : State) : (updTrdp n f s).pending = s.pending := rfl

/-! updPtp changes eth alone. -/
@[simp] theorem updPtp_clk (f : Ptp → Ptp) (s : State) : (updPtp f s).clk = s.clk := rfl
@[simp] theorem updPtp_mb (f : Ptp → Ptp) (s : State) : (updPtp f s).mb = s.mb := rfl
@[simp] theorem updPtp_evt (f : Ptp → Ptp) (s : State) : (updPtp f s).evt = s.evt := rfl
@[simp] theorem updPtp_gln (f : Ptp → Ptp) (s : State) : (updPtp f s).gln = s.gln := rfl
@[simp] theorem updPtp_silo (f : Ptp → Ptp) (s : State) : (updPtp f s).silo = s.silo := rfl
@[simp] theorem updPtp_rtc (f : Ptp → Ptp) (s : State) : (updPtp f s).rtc = s.rtc := rfl
@[simp] theorem updPtp_aon (f : Ptp → Ptp) (s : State) : (updPtp f s).aon = s.aon := rfl
@[simp] theorem updPtp_sup (f : Ptp → Ptp) (s : State) : (updPtp f s).sup = s.sup := rfl
@[simp] theorem updPtp_core (f : Ptp → Ptp) (s : State) : (updPtp f s).core = s.core := rfl
@[simp] theorem updPtp_prog (f : Ptp → Ptp) (s : State) : (updPtp f s).prog = s.prog := rfl
@[simp] theorem updPtp_task (f : Ptp → Ptp) (s : State) : (updPtp f s).task = s.task := rfl
@[simp] theorem updPtp_img (f : Ptp → Ptp) (s : State) : (updPtp f s).img = s.img := rfl
@[simp] theorem updPtp_tb (f : Ptp → Ptp) (s : State) : (updPtp f s).tb = s.tb := rfl
@[simp] theorem updPtp_slot (f : Ptp → Ptp) (s : State) : (updPtp f s).slot = s.slot := rfl
@[simp] theorem updPtp_ce (f : Ptp → Ptp) (s : State) : (updPtp f s).ce = s.ce := rfl
@[simp] theorem updPtp_svc (f : Ptp → Ptp) (s : State) : (updPtp f s).svc = s.svc := rfl
@[simp] theorem updPtp_fio (f : Ptp → Ptp) (s : State) : (updPtp f s).fio = s.fio := rfl
@[simp] theorem updPtp_saf (f : Ptp → Ptp) (s : State) : (updPtp f s).saf = s.saf := rfl
@[simp] theorem updPtp_can (f : Ptp → Ptp) (s : State) : (updPtp f s).can = s.can := rfl
@[simp] theorem updPtp_pass (f : Ptp → Ptp) (s : State) : (updPtp f s).pass = s.pass := rfl
@[simp] theorem updPtp_pair (f : Ptp → Ptp) (s : State) : (updPtp f s).pair = s.pair := rfl
@[simp] theorem updPtp_flash (f : Ptp → Ptp) (s : State) : (updPtp f s).flash = s.flash := rfl
@[simp] theorem updPtp_ovl (f : Ptp → Ptp) (s : State) : (updPtp f s).ovl = s.ovl := rfl
@[simp] theorem updPtp_out (f : Ptp → Ptp) (s : State) : (updPtp f s).out = s.out := rfl
@[simp] theorem updPtp_free (f : Ptp → Ptp) (s : State) : (updPtp f s).free = s.free := rfl
@[simp] theorem updPtp_pending (f : Ptp → Ptp) (s : State) : (updPtp f s).pending = s.pending := rfl

/-! updPort changes pass alone. -/
@[simp] theorem updPort_clk (n : Nat) (f : PassPort → PassPort) (s : State) : (updPort n f s).clk = s.clk := rfl
@[simp] theorem updPort_mb (n : Nat) (f : PassPort → PassPort) (s : State) : (updPort n f s).mb = s.mb := rfl
@[simp] theorem updPort_evt (n : Nat) (f : PassPort → PassPort) (s : State) : (updPort n f s).evt = s.evt := rfl
@[simp] theorem updPort_gln (n : Nat) (f : PassPort → PassPort) (s : State) : (updPort n f s).gln = s.gln := rfl
@[simp] theorem updPort_silo (n : Nat) (f : PassPort → PassPort) (s : State) : (updPort n f s).silo = s.silo := rfl
@[simp] theorem updPort_rtc (n : Nat) (f : PassPort → PassPort) (s : State) : (updPort n f s).rtc = s.rtc := rfl
@[simp] theorem updPort_aon (n : Nat) (f : PassPort → PassPort) (s : State) : (updPort n f s).aon = s.aon := rfl
@[simp] theorem updPort_sup (n : Nat) (f : PassPort → PassPort) (s : State) : (updPort n f s).sup = s.sup := rfl
@[simp] theorem updPort_core (n : Nat) (f : PassPort → PassPort) (s : State) : (updPort n f s).core = s.core := rfl
@[simp] theorem updPort_prog (n : Nat) (f : PassPort → PassPort) (s : State) : (updPort n f s).prog = s.prog := rfl
@[simp] theorem updPort_task (n : Nat) (f : PassPort → PassPort) (s : State) : (updPort n f s).task = s.task := rfl
@[simp] theorem updPort_img (n : Nat) (f : PassPort → PassPort) (s : State) : (updPort n f s).img = s.img := rfl
@[simp] theorem updPort_tb (n : Nat) (f : PassPort → PassPort) (s : State) : (updPort n f s).tb = s.tb := rfl
@[simp] theorem updPort_slot (n : Nat) (f : PassPort → PassPort) (s : State) : (updPort n f s).slot = s.slot := rfl
@[simp] theorem updPort_ce (n : Nat) (f : PassPort → PassPort) (s : State) : (updPort n f s).ce = s.ce := rfl
@[simp] theorem updPort_svc (n : Nat) (f : PassPort → PassPort) (s : State) : (updPort n f s).svc = s.svc := rfl
@[simp] theorem updPort_fio (n : Nat) (f : PassPort → PassPort) (s : State) : (updPort n f s).fio = s.fio := rfl
@[simp] theorem updPort_saf (n : Nat) (f : PassPort → PassPort) (s : State) : (updPort n f s).saf = s.saf := rfl
@[simp] theorem updPort_can (n : Nat) (f : PassPort → PassPort) (s : State) : (updPort n f s).can = s.can := rfl
@[simp] theorem updPort_eth (n : Nat) (f : PassPort → PassPort) (s : State) : (updPort n f s).eth = s.eth := rfl
@[simp] theorem updPort_pair (n : Nat) (f : PassPort → PassPort) (s : State) : (updPort n f s).pair = s.pair := rfl
@[simp] theorem updPort_flash (n : Nat) (f : PassPort → PassPort) (s : State) : (updPort n f s).flash = s.flash := rfl
@[simp] theorem updPort_ovl (n : Nat) (f : PassPort → PassPort) (s : State) : (updPort n f s).ovl = s.ovl := rfl
@[simp] theorem updPort_out (n : Nat) (f : PassPort → PassPort) (s : State) : (updPort n f s).out = s.out := rfl
@[simp] theorem updPort_free (n : Nat) (f : PassPort → PassPort) (s : State) : (updPort n f s).free = s.free := rfl
@[simp] theorem updPort_pending (n : Nat) (f : PassPort → PassPort) (s : State) : (updPort n f s).pending = s.pending := rfl

/-! updMember changes pass alone. -/
@[simp] theorem updMember_clk (n : Nat) (f : PassMember → PassMember) (s : State) : (updMember n f s).clk = s.clk := rfl
@[simp] theorem updMember_mb (n : Nat) (f : PassMember → PassMember) (s : State) : (updMember n f s).mb = s.mb := rfl
@[simp] theorem updMember_evt (n : Nat) (f : PassMember → PassMember) (s : State) : (updMember n f s).evt = s.evt := rfl
@[simp] theorem updMember_gln (n : Nat) (f : PassMember → PassMember) (s : State) : (updMember n f s).gln = s.gln := rfl
@[simp] theorem updMember_silo (n : Nat) (f : PassMember → PassMember) (s : State) : (updMember n f s).silo = s.silo := rfl
@[simp] theorem updMember_rtc (n : Nat) (f : PassMember → PassMember) (s : State) : (updMember n f s).rtc = s.rtc := rfl
@[simp] theorem updMember_aon (n : Nat) (f : PassMember → PassMember) (s : State) : (updMember n f s).aon = s.aon := rfl
@[simp] theorem updMember_sup (n : Nat) (f : PassMember → PassMember) (s : State) : (updMember n f s).sup = s.sup := rfl
@[simp] theorem updMember_core (n : Nat) (f : PassMember → PassMember) (s : State) : (updMember n f s).core = s.core := rfl
@[simp] theorem updMember_prog (n : Nat) (f : PassMember → PassMember) (s : State) : (updMember n f s).prog = s.prog := rfl
@[simp] theorem updMember_task (n : Nat) (f : PassMember → PassMember) (s : State) : (updMember n f s).task = s.task := rfl
@[simp] theorem updMember_img (n : Nat) (f : PassMember → PassMember) (s : State) : (updMember n f s).img = s.img := rfl
@[simp] theorem updMember_tb (n : Nat) (f : PassMember → PassMember) (s : State) : (updMember n f s).tb = s.tb := rfl
@[simp] theorem updMember_slot (n : Nat) (f : PassMember → PassMember) (s : State) : (updMember n f s).slot = s.slot := rfl
@[simp] theorem updMember_ce (n : Nat) (f : PassMember → PassMember) (s : State) : (updMember n f s).ce = s.ce := rfl
@[simp] theorem updMember_svc (n : Nat) (f : PassMember → PassMember) (s : State) : (updMember n f s).svc = s.svc := rfl
@[simp] theorem updMember_fio (n : Nat) (f : PassMember → PassMember) (s : State) : (updMember n f s).fio = s.fio := rfl
@[simp] theorem updMember_saf (n : Nat) (f : PassMember → PassMember) (s : State) : (updMember n f s).saf = s.saf := rfl
@[simp] theorem updMember_can (n : Nat) (f : PassMember → PassMember) (s : State) : (updMember n f s).can = s.can := rfl
@[simp] theorem updMember_eth (n : Nat) (f : PassMember → PassMember) (s : State) : (updMember n f s).eth = s.eth := rfl
@[simp] theorem updMember_pair (n : Nat) (f : PassMember → PassMember) (s : State) : (updMember n f s).pair = s.pair := rfl
@[simp] theorem updMember_flash (n : Nat) (f : PassMember → PassMember) (s : State) : (updMember n f s).flash = s.flash := rfl
@[simp] theorem updMember_ovl (n : Nat) (f : PassMember → PassMember) (s : State) : (updMember n f s).ovl = s.ovl := rfl
@[simp] theorem updMember_out (n : Nat) (f : PassMember → PassMember) (s : State) : (updMember n f s).out = s.out := rfl
@[simp] theorem updMember_free (n : Nat) (f : PassMember → PassMember) (s : State) : (updMember n f s).free = s.free := rfl
@[simp] theorem updMember_pending (n : Nat) (f : PassMember → PassMember) (s : State) : (updMember n f s).pending = s.pending := rfl

/-! updPair changes pair alone. -/
@[simp] theorem updPair_clk (f : Pair → Pair) (s : State) : (updPair f s).clk = s.clk := rfl
@[simp] theorem updPair_mb (f : Pair → Pair) (s : State) : (updPair f s).mb = s.mb := rfl
@[simp] theorem updPair_evt (f : Pair → Pair) (s : State) : (updPair f s).evt = s.evt := rfl
@[simp] theorem updPair_gln (f : Pair → Pair) (s : State) : (updPair f s).gln = s.gln := rfl
@[simp] theorem updPair_silo (f : Pair → Pair) (s : State) : (updPair f s).silo = s.silo := rfl
@[simp] theorem updPair_rtc (f : Pair → Pair) (s : State) : (updPair f s).rtc = s.rtc := rfl
@[simp] theorem updPair_aon (f : Pair → Pair) (s : State) : (updPair f s).aon = s.aon := rfl
@[simp] theorem updPair_sup (f : Pair → Pair) (s : State) : (updPair f s).sup = s.sup := rfl
@[simp] theorem updPair_core (f : Pair → Pair) (s : State) : (updPair f s).core = s.core := rfl
@[simp] theorem updPair_prog (f : Pair → Pair) (s : State) : (updPair f s).prog = s.prog := rfl
@[simp] theorem updPair_task (f : Pair → Pair) (s : State) : (updPair f s).task = s.task := rfl
@[simp] theorem updPair_img (f : Pair → Pair) (s : State) : (updPair f s).img = s.img := rfl
@[simp] theorem updPair_tb (f : Pair → Pair) (s : State) : (updPair f s).tb = s.tb := rfl
@[simp] theorem updPair_slot (f : Pair → Pair) (s : State) : (updPair f s).slot = s.slot := rfl
@[simp] theorem updPair_ce (f : Pair → Pair) (s : State) : (updPair f s).ce = s.ce := rfl
@[simp] theorem updPair_svc (f : Pair → Pair) (s : State) : (updPair f s).svc = s.svc := rfl
@[simp] theorem updPair_fio (f : Pair → Pair) (s : State) : (updPair f s).fio = s.fio := rfl
@[simp] theorem updPair_saf (f : Pair → Pair) (s : State) : (updPair f s).saf = s.saf := rfl
@[simp] theorem updPair_can (f : Pair → Pair) (s : State) : (updPair f s).can = s.can := rfl
@[simp] theorem updPair_eth (f : Pair → Pair) (s : State) : (updPair f s).eth = s.eth := rfl
@[simp] theorem updPair_pass (f : Pair → Pair) (s : State) : (updPair f s).pass = s.pass := rfl
@[simp] theorem updPair_flash (f : Pair → Pair) (s : State) : (updPair f s).flash = s.flash := rfl
@[simp] theorem updPair_ovl (f : Pair → Pair) (s : State) : (updPair f s).ovl = s.ovl := rfl
@[simp] theorem updPair_out (f : Pair → Pair) (s : State) : (updPair f s).out = s.out := rfl
@[simp] theorem updPair_free (f : Pair → Pair) (s : State) : (updPair f s).free = s.free := rfl
@[simp] theorem updPair_pending (f : Pair → Pair) (s : State) : (updPair f s).pending = s.pending := rfl

/-! setInnings changes silo alone. -/
@[simp] theorem setInnings_clk (n : Nat) (s : State) : (setInnings n s).clk = s.clk := rfl
@[simp] theorem setInnings_mb (n : Nat) (s : State) : (setInnings n s).mb = s.mb := rfl
@[simp] theorem setInnings_evt (n : Nat) (s : State) : (setInnings n s).evt = s.evt := rfl
@[simp] theorem setInnings_gln (n : Nat) (s : State) : (setInnings n s).gln = s.gln := rfl
@[simp] theorem setInnings_rtc (n : Nat) (s : State) : (setInnings n s).rtc = s.rtc := rfl
@[simp] theorem setInnings_aon (n : Nat) (s : State) : (setInnings n s).aon = s.aon := rfl
@[simp] theorem setInnings_sup (n : Nat) (s : State) : (setInnings n s).sup = s.sup := rfl
@[simp] theorem setInnings_core (n : Nat) (s : State) : (setInnings n s).core = s.core := rfl
@[simp] theorem setInnings_prog (n : Nat) (s : State) : (setInnings n s).prog = s.prog := rfl
@[simp] theorem setInnings_task (n : Nat) (s : State) : (setInnings n s).task = s.task := rfl
@[simp] theorem setInnings_img (n : Nat) (s : State) : (setInnings n s).img = s.img := rfl
@[simp] theorem setInnings_tb (n : Nat) (s : State) : (setInnings n s).tb = s.tb := rfl
@[simp] theorem setInnings_slot (n : Nat) (s : State) : (setInnings n s).slot = s.slot := rfl
@[simp] theorem setInnings_ce (n : Nat) (s : State) : (setInnings n s).ce = s.ce := rfl
@[simp] theorem setInnings_svc (n : Nat) (s : State) : (setInnings n s).svc = s.svc := rfl
@[simp] theorem setInnings_fio (n : Nat) (s : State) : (setInnings n s).fio = s.fio := rfl
@[simp] theorem setInnings_saf (n : Nat) (s : State) : (setInnings n s).saf = s.saf := rfl
@[simp] theorem setInnings_can (n : Nat) (s : State) : (setInnings n s).can = s.can := rfl
@[simp] theorem setInnings_eth (n : Nat) (s : State) : (setInnings n s).eth = s.eth := rfl
@[simp] theorem setInnings_pass (n : Nat) (s : State) : (setInnings n s).pass = s.pass := rfl
@[simp] theorem setInnings_pair (n : Nat) (s : State) : (setInnings n s).pair = s.pair := rfl
@[simp] theorem setInnings_flash (n : Nat) (s : State) : (setInnings n s).flash = s.flash := rfl
@[simp] theorem setInnings_ovl (n : Nat) (s : State) : (setInnings n s).ovl = s.ovl := rfl
@[simp] theorem setInnings_out (n : Nat) (s : State) : (setInnings n s).out = s.out := rfl
@[simp] theorem setInnings_free (n : Nat) (s : State) : (setInnings n s).free = s.free := rfl
@[simp] theorem setInnings_pending (n : Nat) (s : State) : (setInnings n s).pending = s.pending := rfl

/-! updOvl changes ovl alone. -/
@[simp] theorem updOvl_clk (f : Overlays → Overlays) (s : State) : (updOvl f s).clk = s.clk := rfl
@[simp] theorem updOvl_mb (f : Overlays → Overlays) (s : State) : (updOvl f s).mb = s.mb := rfl
@[simp] theorem updOvl_evt (f : Overlays → Overlays) (s : State) : (updOvl f s).evt = s.evt := rfl
@[simp] theorem updOvl_gln (f : Overlays → Overlays) (s : State) : (updOvl f s).gln = s.gln := rfl
@[simp] theorem updOvl_silo (f : Overlays → Overlays) (s : State) : (updOvl f s).silo = s.silo := rfl
@[simp] theorem updOvl_rtc (f : Overlays → Overlays) (s : State) : (updOvl f s).rtc = s.rtc := rfl
@[simp] theorem updOvl_aon (f : Overlays → Overlays) (s : State) : (updOvl f s).aon = s.aon := rfl
@[simp] theorem updOvl_sup (f : Overlays → Overlays) (s : State) : (updOvl f s).sup = s.sup := rfl
@[simp] theorem updOvl_core (f : Overlays → Overlays) (s : State) : (updOvl f s).core = s.core := rfl
@[simp] theorem updOvl_prog (f : Overlays → Overlays) (s : State) : (updOvl f s).prog = s.prog := rfl
@[simp] theorem updOvl_task (f : Overlays → Overlays) (s : State) : (updOvl f s).task = s.task := rfl
@[simp] theorem updOvl_img (f : Overlays → Overlays) (s : State) : (updOvl f s).img = s.img := rfl
@[simp] theorem updOvl_tb (f : Overlays → Overlays) (s : State) : (updOvl f s).tb = s.tb := rfl
@[simp] theorem updOvl_slot (f : Overlays → Overlays) (s : State) : (updOvl f s).slot = s.slot := rfl
@[simp] theorem updOvl_ce (f : Overlays → Overlays) (s : State) : (updOvl f s).ce = s.ce := rfl
@[simp] theorem updOvl_svc (f : Overlays → Overlays) (s : State) : (updOvl f s).svc = s.svc := rfl
@[simp] theorem updOvl_fio (f : Overlays → Overlays) (s : State) : (updOvl f s).fio = s.fio := rfl
@[simp] theorem updOvl_saf (f : Overlays → Overlays) (s : State) : (updOvl f s).saf = s.saf := rfl
@[simp] theorem updOvl_can (f : Overlays → Overlays) (s : State) : (updOvl f s).can = s.can := rfl
@[simp] theorem updOvl_eth (f : Overlays → Overlays) (s : State) : (updOvl f s).eth = s.eth := rfl
@[simp] theorem updOvl_pass (f : Overlays → Overlays) (s : State) : (updOvl f s).pass = s.pass := rfl
@[simp] theorem updOvl_pair (f : Overlays → Overlays) (s : State) : (updOvl f s).pair = s.pair := rfl
@[simp] theorem updOvl_flash (f : Overlays → Overlays) (s : State) : (updOvl f s).flash = s.flash := rfl
@[simp] theorem updOvl_out (f : Overlays → Overlays) (s : State) : (updOvl f s).out = s.out := rfl
@[simp] theorem updOvl_free (f : Overlays → Overlays) (s : State) : (updOvl f s).free = s.free := rfl
@[simp] theorem updOvl_pending (f : Overlays → Overlays) (s : State) : (updOvl f s).pending = s.pending := rfl

/-! setRail changes aon alone. -/
@[simp] theorem setRail_clk (n mv : Nat) (s : State) : (setRail n mv s).clk = s.clk := rfl
@[simp] theorem setRail_mb (n mv : Nat) (s : State) : (setRail n mv s).mb = s.mb := rfl
@[simp] theorem setRail_evt (n mv : Nat) (s : State) : (setRail n mv s).evt = s.evt := rfl
@[simp] theorem setRail_gln (n mv : Nat) (s : State) : (setRail n mv s).gln = s.gln := rfl
@[simp] theorem setRail_silo (n mv : Nat) (s : State) : (setRail n mv s).silo = s.silo := rfl
@[simp] theorem setRail_rtc (n mv : Nat) (s : State) : (setRail n mv s).rtc = s.rtc := rfl
@[simp] theorem setRail_sup (n mv : Nat) (s : State) : (setRail n mv s).sup = s.sup := rfl
@[simp] theorem setRail_core (n mv : Nat) (s : State) : (setRail n mv s).core = s.core := rfl
@[simp] theorem setRail_prog (n mv : Nat) (s : State) : (setRail n mv s).prog = s.prog := rfl
@[simp] theorem setRail_task (n mv : Nat) (s : State) : (setRail n mv s).task = s.task := rfl
@[simp] theorem setRail_img (n mv : Nat) (s : State) : (setRail n mv s).img = s.img := rfl
@[simp] theorem setRail_tb (n mv : Nat) (s : State) : (setRail n mv s).tb = s.tb := rfl
@[simp] theorem setRail_slot (n mv : Nat) (s : State) : (setRail n mv s).slot = s.slot := rfl
@[simp] theorem setRail_ce (n mv : Nat) (s : State) : (setRail n mv s).ce = s.ce := rfl
@[simp] theorem setRail_svc (n mv : Nat) (s : State) : (setRail n mv s).svc = s.svc := rfl
@[simp] theorem setRail_fio (n mv : Nat) (s : State) : (setRail n mv s).fio = s.fio := rfl
@[simp] theorem setRail_saf (n mv : Nat) (s : State) : (setRail n mv s).saf = s.saf := rfl
@[simp] theorem setRail_can (n mv : Nat) (s : State) : (setRail n mv s).can = s.can := rfl
@[simp] theorem setRail_eth (n mv : Nat) (s : State) : (setRail n mv s).eth = s.eth := rfl
@[simp] theorem setRail_pass (n mv : Nat) (s : State) : (setRail n mv s).pass = s.pass := rfl
@[simp] theorem setRail_pair (n mv : Nat) (s : State) : (setRail n mv s).pair = s.pair := rfl
@[simp] theorem setRail_flash (n mv : Nat) (s : State) : (setRail n mv s).flash = s.flash := rfl
@[simp] theorem setRail_ovl (n mv : Nat) (s : State) : (setRail n mv s).ovl = s.ovl := rfl
@[simp] theorem setRail_out (n mv : Nat) (s : State) : (setRail n mv s).out = s.out := rfl
@[simp] theorem setRail_free (n mv : Nat) (s : State) : (setRail n mv s).free = s.free := rfl
@[simp] theorem setRail_pending (n mv : Nat) (s : State) : (setRail n mv s).pending = s.pending := rfl

/-! Reads of an entry after a write of one. -/
theorem getChan_updChan (n m : Nat) (f : Chan → Chan) (s : State) : getChan (updChan n f s) m = if m = n then f (getChan s n) else getChan s m := tget_tupd ..
@[simp] theorem getChan_updChan_same (n : Nat) (f : Chan → Chan) (s : State) : getChan (updChan n f s) n = f (getChan s n) := tget_tupd_same ..
theorem taskEnt_updTask (n m : Nat) (f : TaskEnt → TaskEnt) (s : State) : taskEnt (updTask n f s) m = if m = n then f (taskEnt s n) else taskEnt s m := tget_tupd ..
@[simp] theorem taskEnt_updTask_same (n : Nat) (f : TaskEnt → TaskEnt) (s : State) : taskEnt (updTask n f s) n = f (taskEnt s n) := tget_tupd_same ..
theorem getPlot_updPlot (n m : Nat) (f : PlotSt → PlotSt) (s : State) : getPlot (updPlot n f s) m = if m = n then f (getPlot s n) else getPlot s m := tget_tupd ..
@[simp] theorem getPlot_updPlot_same (n : Nat) (f : PlotSt → PlotSt) (s : State) : getPlot (updPlot n f s) n = f (getPlot s n) := tget_tupd_same ..
theorem getRio_updRio (n m : Nat) (f : Rio → Rio) (s : State) : getRio (updRio n f s) m = if m = n then f (getRio s n) else getRio s m := tget_tupd ..
@[simp] theorem getRio_updRio_same (n : Nat) (f : Rio → Rio) (s : State) : getRio (updRio n f s) n = f (getRio s n) := tget_tupd_same ..
theorem getRet_updRet (n m : Nat) (f : RetState → RetState) (s : State) : getRet (updRet n f s) m = if m = n then f (getRet s n) else getRet s m := tget_tupd ..
@[simp] theorem getRet_updRet_same (n : Nat) (f : RetState → RetState) (s : State) : getRet (updRet n f s) n = f (getRet s n) := tget_tupd_same ..
theorem getAxle_updAxle (n m : Nat) (f : Axle → Axle) (s : State) : getAxle (updAxle n f s) m = if m = n then f (getAxle s n) else getAxle s m := tget_tupd ..
@[simp] theorem getAxle_updAxle_same (n : Nat) (f : Axle → Axle) (s : State) : getAxle (updAxle n f s) n = f (getAxle s n) := tget_tupd_same ..
theorem getMains_updMains (n m : Nat) (f : Mains → Mains) (s : State) : getMains (updMains n f s) m = if m = n then f (getMains s n) else getMains s m := tget_tupd ..
@[simp] theorem getMains_updMains_same (n : Nat) (f : Mains → Mains) (s : State) : getMains (updMains n f s) n = f (getMains s n) := tget_tupd_same ..
theorem getSlot_updSlot (n m : Nat) (f : Slot → Slot) (s : State) : getSlot (updSlot n f s) m = if m = n then f (getSlot s n) else getSlot s m := tget_tupd ..
@[simp] theorem getSlot_updSlot_same (n : Nat) (f : Slot → Slot) (s : State) : getSlot (updSlot n f s) n = f (getSlot s n) := tget_tupd_same ..
theorem getLoop_updLoop (n m : Nat) (f : CeLoop → CeLoop) (s : State) : getLoop (updLoop n f s) m = if m = n then f (getLoop s n) else getLoop s m := tget_tupd ..
@[simp] theorem getLoop_updLoop_same (n : Nat) (f : CeLoop → CeLoop) (s : State) : getLoop (updLoop n f s) n = f (getLoop s n) := tget_tupd_same ..
theorem getInj_updInj (n m : Nat) (f : CeInj → CeInj) (s : State) : getInj (updInj n f s) m = if m = n then f (getInj s n) else getInj s m := tget_tupd ..
@[simp] theorem getInj_updInj_same (n : Nat) (f : CeInj → CeInj) (s : State) : getInj (updInj n f s) n = f (getInj s n) := tget_tupd_same ..
theorem getFc_updFc (n m : Nat) (f : FcCh → FcCh) (s : State) : getFc (updFc n f s) m = if m = n then f (getFc s n) else getFc s m := tget_tupd ..
@[simp] theorem getFc_updFc_same (n : Nat) (f : FcCh → FcCh) (s : State) : getFc (updFc n f s) n = f (getFc s n) := tget_tupd_same ..
theorem getGrp_updGrp (n m : Nat) (f : FcGrp → FcGrp) (s : State) : getGrp (updGrp n f s) m = if m = n then f (getGrp s n) else getGrp s m := tget_tupd ..
@[simp] theorem getGrp_updGrp_same (n : Nat) (f : FcGrp → FcGrp) (s : State) : getGrp (updGrp n f s) n = f (getGrp s n) := tget_tupd_same ..
theorem getDie_updDie (n m : Nat) (f : FioDie → FioDie) (s : State) : getDie (updDie n f s) m = if m = n then f (getDie s n) else getDie s m := tget_tupd ..
@[simp] theorem getDie_updDie_same (n : Nat) (f : FioDie → FioDie) (s : State) : getDie (updDie n f s) n = f (getDie s n) := tget_tupd_same ..
theorem getAi_updAi (n m : Nat) (f : AiCh → AiCh) (s : State) : getAi (updAi n f s) m = if m = n then f (getAi s n) else getAi s m := tget_tupd ..
@[simp] theorem getAi_updAi_same (n : Nat) (f : AiCh → AiCh) (s : State) : getAi (updAi n f s) n = f (getAi s n) := tget_tupd_same ..
theorem getAo_updAo (n m : Nat) (f : AoCh → AoCh) (s : State) : getAo (updAo n f s) m = if m = n then f (getAo s n) else getAo s m := tget_tupd ..
@[simp] theorem getAo_updAo_same (n : Nat) (f : AoCh → AoCh) (s : State) : getAo (updAo n f s) n = f (getAo s n) := tget_tupd_same ..
theorem getPath_updPath (n m : Nat) (f : SafPathSt → SafPathSt) (s : State) : getPath (updPath n f s) m = if m = n then f (getPath s n) else getPath s m := tget_tupd ..
@[simp] theorem getPath_updPath_same (n : Nat) (f : SafPathSt → SafPathSt) (s : State) : getPath (updPath n f s) n = f (getPath s n) := tget_tupd_same ..
theorem getCan_updCan (n m : Nat) (f : CanCtl → CanCtl) (s : State) : getCan (updCan n f s) m = if m = n then f (getCan s n) else getCan s m := tget_tupd ..
@[simp] theorem getCan_updCan_same (n : Nat) (f : CanCtl → CanCtl) (s : State) : getCan (updCan n f s) n = f (getCan s n) := tget_tupd_same ..
theorem getMac_updMac (n m : Nat) (f : EthMac → EthMac) (s : State) : getMac (updMac n f s) m = if m = n then f (getMac s n) else getMac s m := tget_tupd ..
@[simp] theorem getMac_updMac_same (n : Nat) (f : EthMac → EthMac) (s : State) : getMac (updMac n f s) n = f (getMac s n) := tget_tupd_same ..
theorem getTrdp_updTrdp (n m : Nat) (f : Trdp → Trdp) (s : State) : getTrdp (updTrdp n f s) m = if m = n then f (getTrdp s n) else getTrdp s m := tget_tupd ..
@[simp] theorem getTrdp_updTrdp_same (n : Nat) (f : Trdp → Trdp) (s : State) : getTrdp (updTrdp n f s) n = f (getTrdp s n) := tget_tupd_same ..
theorem getPort_updPort (n m : Nat) (f : PassPort → PassPort) (s : State) : getPort (updPort n f s) m = if m = n then f (getPort s n) else getPort s m := tget_tupd ..
@[simp] theorem getPort_updPort_same (n : Nat) (f : PassPort → PassPort) (s : State) : getPort (updPort n f s) n = f (getPort s n) := tget_tupd_same ..
theorem getMember_updMember (n m : Nat) (f : PassMember → PassMember) (s : State) : getMember (updMember n f s) m = if m = n then f (getMember s n) else getMember s m := tget_tupd ..
@[simp] theorem getMember_updMember_same (n : Nat) (f : PassMember → PassMember) (s : State) : getMember (updMember n f s) n = f (getMember s n) := tget_tupd_same ..
theorem taskEx_setEx (n m : Nat) (e : Option Ex) (s : State) : taskEx (setEx n e s) m = if m = n then e else taskEx s m := tget_tput ..
@[simp] theorem taskEx_setEx_same (n : Nat) (e : Option Ex) (s : State) : taskEx (setEx n e s) n = e := tget_tput_same ..
theorem evtSrc_setEvtSrc (n m : Nat) (w : Word) (s : State) : evtSrc (setEvtSrc n w s) m = if m = n then w else evtSrc s m := wget_wput ..
@[simp] theorem evtSrc_setPending (n m : Nat) (b : Bool) (s : State) : evtSrc (setPending n b s) m = evtSrc s m := rfl
@[simp] theorem evtPending_setEvtSrc (n m : Nat) (w : Word) (s : State) : evtPending (setEvtSrc n w s) m = evtPending s m := rfl
theorem plotOwn_setOwn (n m : Nat) (w : Word) (s : State) : plotOwn (setOwn n w s) m = if m = n then w else plotOwn s m := wget_wput ..
@[simp] theorem plotOwn_updPlot (n m : Nat) (f : PlotSt → PlotSt) (s : State) : plotOwn (updPlot n f s) m = plotOwn s m := rfl
@[simp] theorem imgWord_updPlot (n m : Nat) (f : PlotSt → PlotSt) (s : State) : imgWord (updPlot n f s) m = imgWord s m := rfl

/-- The pending bit of a source below 384 after it is set or cleared. -/
theorem evtPending_setPending (n m : Nat) (b : Bool) (s : State) (hn : n < 384) :
    evtPending (setPending n b s) m = if m = n then b else evtPending s m := by
  have hm : (BitVec.ofNat 384 (2 ^ n)).getLsbD m = decide (m = n) := by
    rw [BitVec.getLsbD_ofNat, Nat.testBit_two_pow]
    by_cases h : n = m
    · subst h; simp [hn]
    · simp [h, Ne.symm h]
  by_cases h : m = n
  · subst h
    cases b <;> simp only [evtPending, setPending, if_true, if_false, Bool.false_eq_true, BitVec.getLsbD_or, BitVec.getLsbD_and, BitVec.getLsbD_not, hm] <;> simp
  · cases b <;> simp only [evtPending, setPending, if_true, if_false, Bool.false_eq_true, BitVec.getLsbD_or, BitVec.getLsbD_and, BitVec.getLsbD_not, hm, h]
    · by_cases hl : m < 384
      · simp [hl]
      · simp [BitVec.getLsbD_of_ge _ _ (Nat.le_of_not_lt hl)]
    · simp

/-- Every memory of the machine right after reset is in canonical form: nothing is listed, but for two CAN queues. -/
theorem reset_memories_wf : Memory.wf State.reset.core.data = true ∧ Memory.wf State.reset.core.consts = true ∧
    Memory.wf State.reset.img.word = true ∧ Memory.wf State.reset.img.own = true ∧ Memory.wf State.reset.evt.src = true ∧
    Memory.wf State.reset.silo.ret = true ∧ ∀ n, Memory.wf (getCan State.reset n).que = true :=
  ⟨rfl, rfl, rfl, rfl, rfl, rfl, fun _ => rfl⟩

end Sys2Proof.Machine
end

