-- ==== Sys2Proof/Laws/Ops.lean ====
section
/-! SUPPORT. What the shared operations can do, said once for each: every group of the state that an operation may change, every
other one being as it was; and how a mailbox command ends. -/

namespace Sys2Proof.Machine

/-- fire changes evt at most. -/
theorem fire_only (n : Nat) (s : State) : fire n s = { s with evt := (fire n s).evt } := by
  unfold fire; dsimp only; split
  · rfl
  · split <;> rfl
@[simp] theorem fire_clk (n : Nat) (s : State) : (fire n s).clk = s.clk := by rw [fire_only]
@[simp] theorem fire_mb (n : Nat) (s : State) : (fire n s).mb = s.mb := by rw [fire_only]
@[simp] theorem fire_gln (n : Nat) (s : State) : (fire n s).gln = s.gln := by rw [fire_only]
@[simp] theorem fire_silo (n : Nat) (s : State) : (fire n s).silo = s.silo := by rw [fire_only]
@[simp] theorem fire_rtc (n : Nat) (s : State) : (fire n s).rtc = s.rtc := by rw [fire_only]
@[simp] theorem fire_aon (n : Nat) (s : State) : (fire n s).aon = s.aon := by rw [fire_only]
@[simp] theorem fire_sup (n : Nat) (s : State) : (fire n s).sup = s.sup := by rw [fire_only]
@[simp] theorem fire_core (n : Nat) (s : State) : (fire n s).core = s.core := by rw [fire_only]
@[simp] theorem fire_prog (n : Nat) (s : State) : (fire n s).prog = s.prog := by rw [fire_only]
@[simp] theorem fire_task (n : Nat) (s : State) : (fire n s).task = s.task := by rw [fire_only]
@[simp] theorem fire_img (n : Nat) (s : State) : (fire n s).img = s.img := by rw [fire_only]
@[simp] theorem fire_tb (n : Nat) (s : State) : (fire n s).tb = s.tb := by rw [fire_only]
@[simp] theorem fire_slot (n : Nat) (s : State) : (fire n s).slot = s.slot := by rw [fire_only]
@[simp] theorem fire_ce (n : Nat) (s : State) : (fire n s).ce = s.ce := by rw [fire_only]
@[simp] theorem fire_svc (n : Nat) (s : State) : (fire n s).svc = s.svc := by rw [fire_only]
@[simp] theorem fire_fio (n : Nat) (s : State) : (fire n s).fio = s.fio := by rw [fire_only]
@[simp] theorem fire_saf (n : Nat) (s : State) : (fire n s).saf = s.saf := by rw [fire_only]
@[simp] theorem fire_can (n : Nat) (s : State) : (fire n s).can = s.can := by rw [fire_only]
@[simp] theorem fire_eth (n : Nat) (s : State) : (fire n s).eth = s.eth := by rw [fire_only]
@[simp] theorem fire_pass (n : Nat) (s : State) : (fire n s).pass = s.pass := by rw [fire_only]
@[simp] theorem fire_pair (n : Nat) (s : State) : (fire n s).pair = s.pair := by rw [fire_only]
@[simp] theorem fire_flash (n : Nat) (s : State) : (fire n s).flash = s.flash := by rw [fire_only]
@[simp] theorem fire_ovl (n : Nat) (s : State) : (fire n s).ovl = s.ovl := by rw [fire_only]
@[simp] theorem fire_out (n : Nat) (s : State) : (fire n s).out = s.out := by rw [fire_only]
@[simp] theorem fire_free (n : Nat) (s : State) : (fire n s).free = s.free := by rw [fire_only]
@[simp] theorem fire_pending (n : Nat) (s : State) : (fire n s).pending = s.pending := by rw [fire_only]

/-- gln changes gln at most. -/
theorem gln_only (c l t : Nat) (a b : Int) (s : State) : gln c l t a b s = { s with gln := (gln c l t a b s).gln } := by
  unfold gln; dsimp only; split
  · rfl
  · split <;> rfl
@[simp] theorem gln_clk (c l t : Nat) (a b : Int) (s : State) : (gln c l t a b s).clk = s.clk := by rw [gln_only]
@[simp] theorem gln_mb (c l t : Nat) (a b : Int) (s : State) : (gln c l t a b s).mb = s.mb := by rw [gln_only]
@[simp] theorem gln_evt (c l t : Nat) (a b : Int) (s : State) : (gln c l t a b s).evt = s.evt := by rw [gln_only]
@[simp] theorem gln_silo (c l t : Nat) (a b : Int) (s : State) : (gln c l t a b s).silo = s.silo := by rw [gln_only]
@[simp] theorem gln_rtc (c l t : Nat) (a b : Int) (s : State) : (gln c l t a b s).rtc = s.rtc := by rw [gln_only]
@[simp] theorem gln_aon (c l t : Nat) (a b : Int) (s : State) : (gln c l t a b s).aon = s.aon := by rw [gln_only]
@[simp] theorem gln_sup (c l t : Nat) (a b : Int) (s : State) : (gln c l t a b s).sup = s.sup := by rw [gln_only]
@[simp] theorem gln_core (c l t : Nat) (a b : Int) (s : State) : (gln c l t a b s).core = s.core := by rw [gln_only]
@[simp] theorem gln_prog (c l t : Nat) (a b : Int) (s : State) : (gln c l t a b s).prog = s.prog := by rw [gln_only]
@[simp] theorem gln_task (c l t : Nat) (a b : Int) (s : State) : (gln c l t a b s).task = s.task := by rw [gln_only]
@[simp] theorem gln_img (c l t : Nat) (a b : Int) (s : State) : (gln c l t a b s).img = s.img := by rw [gln_only]
@[simp] theorem gln_tb (c l t : Nat) (a b : Int) (s : State) : (gln c l t a b s).tb = s.tb := by rw [gln_only]
@[simp] theorem gln_slot (c l t : Nat) (a b : Int) (s : State) : (gln c l t a b s).slot = s.slot := by rw [gln_only]
@[simp] theorem gln_ce (c l t : Nat) (a b : Int) (s : State) : (gln c l t a b s).ce = s.ce := by rw [gln_only]
@[simp] theorem gln_svc (c l t : Nat) (a b : Int) (s : State) : (gln c l t a b s).svc = s.svc := by rw [gln_only]
@[simp] theorem gln_fio (c l t : Nat) (a b : Int) (s : State) : (gln c l t a b s).fio = s.fio := by rw [gln_only]
@[simp] theorem gln_saf (c l t : Nat) (a b : Int) (s : State) : (gln c l t a b s).saf = s.saf := by rw [gln_only]
@[simp] theorem gln_can (c l t : Nat) (a b : Int) (s : State) : (gln c l t a b s).can = s.can := by rw [gln_only]
@[simp] theorem gln_eth (c l t : Nat) (a b : Int) (s : State) : (gln c l t a b s).eth = s.eth := by rw [gln_only]
@[simp] theorem gln_pass (c l t : Nat) (a b : Int) (s : State) : (gln c l t a b s).pass = s.pass := by rw [gln_only]
@[simp] theorem gln_pair (c l t : Nat) (a b : Int) (s : State) : (gln c l t a b s).pair = s.pair := by rw [gln_only]
@[simp] theorem gln_flash (c l t : Nat) (a b : Int) (s : State) : (gln c l t a b s).flash = s.flash := by rw [gln_only]
@[simp] theorem gln_ovl (c l t : Nat) (a b : Int) (s : State) : (gln c l t a b s).ovl = s.ovl := by rw [gln_only]
@[simp] theorem gln_out (c l t : Nat) (a b : Int) (s : State) : (gln c l t a b s).out = s.out := by rw [gln_only]
@[simp] theorem gln_free (c l t : Nat) (a b : Int) (s : State) : (gln c l t a b s).free = s.free := by rw [gln_only]
@[simp] theorem gln_pending (c l t : Nat) (a b : Int) (s : State) : (gln c l t a b s).pending = s.pending := by rw [gln_only]

/-- pairSend changes pair and out at most. -/
theorem pairSend_only (r : PairRec) (s : State) : pairSend r s = { s with pair := (pairSend r s).pair, out := (pairSend r s).out } := by
  unfold pairSend; split
  · cases r <;> rfl
  · rfl
@[simp] theorem pairSend_clk (r : PairRec) (s : State) : (pairSend r s).clk = s.clk := by rw [pairSend_only]
@[simp] theorem pairSend_mb (r : PairRec) (s : State) : (pairSend r s).mb = s.mb := by rw [pairSend_only]
@[simp] theorem pairSend_evt (r : PairRec) (s : State) : (pairSend r s).evt = s.evt := by rw [pairSend_only]
@[simp] theorem pairSend_gln (r : PairRec) (s : State) : (pairSend r s).gln = s.gln := by rw [pairSend_only]
@[simp] theorem pairSend_silo (r : PairRec) (s : State) : (pairSend r s).silo = s.silo := by rw [pairSend_only]
@[simp] theorem pairSend_rtc (r : PairRec) (s : State) : (pairSend r s).rtc = s.rtc := by rw [pairSend_only]
@[simp] theorem pairSend_aon (r : PairRec) (s : State) : (pairSend r s).aon = s.aon := by rw [pairSend_only]
@[simp] theorem pairSend_sup (r : PairRec) (s : State) : (pairSend r s).sup = s.sup := by rw [pairSend_only]
@[simp] theorem pairSend_core (r : PairRec) (s : State) : (pairSend r s).core = s.core := by rw [pairSend_only]
@[simp] theorem pairSend_prog (r : PairRec) (s : State) : (pairSend r s).prog = s.prog := by rw [pairSend_only]
@[simp] theorem pairSend_task (r : PairRec) (s : State) : (pairSend r s).task = s.task := by rw [pairSend_only]
@[simp] theorem pairSend_img (r : PairRec) (s : State) : (pairSend r s).img = s.img := by rw [pairSend_only]
@[simp] theorem pairSend_tb (r : PairRec) (s : State) : (pairSend r s).tb = s.tb := by rw [pairSend_only]
@[simp] theorem pairSend_slot (r : PairRec) (s : State) : (pairSend r s).slot = s.slot := by rw [pairSend_only]
@[simp] theorem pairSend_ce (r : PairRec) (s : State) : (pairSend r s).ce = s.ce := by rw [pairSend_only]
@[simp] theorem pairSend_svc (r : PairRec) (s : State) : (pairSend r s).svc = s.svc := by rw [pairSend_only]
@[simp] theorem pairSend_fio (r : PairRec) (s : State) : (pairSend r s).fio = s.fio := by rw [pairSend_only]
@[simp] theorem pairSend_saf (r : PairRec) (s : State) : (pairSend r s).saf = s.saf := by rw [pairSend_only]
@[simp] theorem pairSend_can (r : PairRec) (s : State) : (pairSend r s).can = s.can := by rw [pairSend_only]
@[simp] theorem pairSend_eth (r : PairRec) (s : State) : (pairSend r s).eth = s.eth := by rw [pairSend_only]
@[simp] theorem pairSend_pass (r : PairRec) (s : State) : (pairSend r s).pass = s.pass := by rw [pairSend_only]
@[simp] theorem pairSend_flash (r : PairRec) (s : State) : (pairSend r s).flash = s.flash := by rw [pairSend_only]
@[simp] theorem pairSend_ovl (r : PairRec) (s : State) : (pairSend r s).ovl = s.ovl := by rw [pairSend_only]
@[simp] theorem pairSend_free (r : PairRec) (s : State) : (pairSend r s).free = s.free := by rw [pairSend_only]
@[simp] theorem pairSend_pending (r : PairRec) (s : State) : (pairSend r s).pending = s.pending := by rw [pairSend_only]

/-- setResult changes mb at most. -/
theorem setResult_only (n rc : Nat) (b : Bytes) (s : State) : setResult n rc b s = { s with mb := (setResult n rc b s).mb } := by
  unfold setResult; split <;> rfl
@[simp] theorem setResult_clk (n rc : Nat) (b : Bytes) (s : State) : (setResult n rc b s).clk = s.clk := by rw [setResult_only]
@[simp] theorem setResult_evt (n rc : Nat) (b : Bytes) (s : State) : (setResult n rc b s).evt = s.evt := by rw [setResult_only]
@[simp] theorem setResult_gln (n rc : Nat) (b : Bytes) (s : State) : (setResult n rc b s).gln = s.gln := by rw [setResult_only]
@[simp] theorem setResult_silo (n rc : Nat) (b : Bytes) (s : State) : (setResult n rc b s).silo = s.silo := by rw [setResult_only]
@[simp] theorem setResult_rtc (n rc : Nat) (b : Bytes) (s : State) : (setResult n rc b s).rtc = s.rtc := by rw [setResult_only]
@[simp] theorem setResult_aon (n rc : Nat) (b : Bytes) (s : State) : (setResult n rc b s).aon = s.aon := by rw [setResult_only]
@[simp] theorem setResult_sup (n rc : Nat) (b : Bytes) (s : State) : (setResult n rc b s).sup = s.sup := by rw [setResult_only]
@[simp] theorem setResult_core (n rc : Nat) (b : Bytes) (s : State) : (setResult n rc b s).core = s.core := by rw [setResult_only]
@[simp] theorem setResult_prog (n rc : Nat) (b : Bytes) (s : State) : (setResult n rc b s).prog = s.prog := by rw [setResult_only]
@[simp] theorem setResult_task (n rc : Nat) (b : Bytes) (s : State) : (setResult n rc b s).task = s.task := by rw [setResult_only]
@[simp] theorem setResult_img (n rc : Nat) (b : Bytes) (s : State) : (setResult n rc b s).img = s.img := by rw [setResult_only]
@[simp] theorem setResult_tb (n rc : Nat) (b : Bytes) (s : State) : (setResult n rc b s).tb = s.tb := by rw [setResult_only]
@[simp] theorem setResult_slot (n rc : Nat) (b : Bytes) (s : State) : (setResult n rc b s).slot = s.slot := by rw [setResult_only]
@[simp] theorem setResult_ce (n rc : Nat) (b : Bytes) (s : State) : (setResult n rc b s).ce = s.ce := by rw [setResult_only]
@[simp] theorem setResult_svc (n rc : Nat) (b : Bytes) (s : State) : (setResult n rc b s).svc = s.svc := by rw [setResult_only]
@[simp] theorem setResult_fio (n rc : Nat) (b : Bytes) (s : State) : (setResult n rc b s).fio = s.fio := by rw [setResult_only]
@[simp] theorem setResult_saf (n rc : Nat) (b : Bytes) (s : State) : (setResult n rc b s).saf = s.saf := by rw [setResult_only]
@[simp] theorem setResult_can (n rc : Nat) (b : Bytes) (s : State) : (setResult n rc b s).can = s.can := by rw [setResult_only]
@[simp] theorem setResult_eth (n rc : Nat) (b : Bytes) (s : State) : (setResult n rc b s).eth = s.eth := by rw [setResult_only]
@[simp] theorem setResult_pass (n rc : Nat) (b : Bytes) (s : State) : (setResult n rc b s).pass = s.pass := by rw [setResult_only]
@[simp] theorem setResult_pair (n rc : Nat) (b : Bytes) (s : State) : (setResult n rc b s).pair = s.pair := by rw [setResult_only]
@[simp] theorem setResult_flash (n rc : Nat) (b : Bytes) (s : State) : (setResult n rc b s).flash = s.flash := by rw [setResult_only]
@[simp] theorem setResult_ovl (n rc : Nat) (b : Bytes) (s : State) : (setResult n rc b s).ovl = s.ovl := by rw [setResult_only]
@[simp] theorem setResult_out (n rc : Nat) (b : Bytes) (s : State) : (setResult n rc b s).out = s.out := by rw [setResult_only]
@[simp] theorem setResult_free (n rc : Nat) (b : Bytes) (s : State) : (setResult n rc b s).free = s.free := by rw [setResult_only]
@[simp] theorem setResult_pending (n rc : Nat) (b : Bytes) (s : State) : (setResult n rc b s).pending = s.pending := by rw [setResult_only]

/-- carryChange changes pair and out at most. -/
theorem carryChange_only (n : Nat) (s : State) : carryChange n s = { s with pair := (carryChange n s).pair, out := (carryChange n s).out } := by
  unfold carryChange; split
  · split
    · exact pairSend_only _ s
    · rfl
  · rfl
@[simp] theorem carryChange_clk (n : Nat) (s : State) : (carryChange n s).clk = s.clk := by rw [carryChange_only]
@[simp] theorem carryChange_mb (n : Nat) (s : State) : (carryChange n s).mb = s.mb := by rw [carryChange_only]
@[simp] theorem carryChange_evt (n : Nat) (s : State) : (carryChange n s).evt = s.evt := by rw [carryChange_only]
@[simp] theorem carryChange_gln (n : Nat) (s : State) : (carryChange n s).gln = s.gln := by rw [carryChange_only]
@[simp] theorem carryChange_silo (n : Nat) (s : State) : (carryChange n s).silo = s.silo := by rw [carryChange_only]
@[simp] theorem carryChange_rtc (n : Nat) (s : State) : (carryChange n s).rtc = s.rtc := by rw [carryChange_only]
@[simp] theorem carryChange_aon (n : Nat) (s : State) : (carryChange n s).aon = s.aon := by rw [carryChange_only]
@[simp] theorem carryChange_sup (n : Nat) (s : State) : (carryChange n s).sup = s.sup := by rw [carryChange_only]
@[simp] theorem carryChange_core (n : Nat) (s : State) : (carryChange n s).core = s.core := by rw [carryChange_only]
@[simp] theorem carryChange_prog (n : Nat) (s : State) : (carryChange n s).prog = s.prog := by rw [carryChange_only]
@[simp] theorem carryChange_task (n : Nat) (s : State) : (carryChange n s).task = s.task := by rw [carryChange_only]
@[simp] theorem carryChange_img (n : Nat) (s : State) : (carryChange n s).img = s.img := by rw [carryChange_only]
@[simp] theorem carryChange_tb (n : Nat) (s : State) : (carryChange n s).tb = s.tb := by rw [carryChange_only]
@[simp] theorem carryChange_slot (n : Nat) (s : State) : (carryChange n s).slot = s.slot := by rw [carryChange_only]
@[simp] theorem carryChange_ce (n : Nat) (s : State) : (carryChange n s).ce = s.ce := by rw [carryChange_only]
@[simp] theorem carryChange_svc (n : Nat) (s : State) : (carryChange n s).svc = s.svc := by rw [carryChange_only]
@[simp] theorem carryChange_fio (n : Nat) (s : State) : (carryChange n s).fio = s.fio := by rw [carryChange_only]
@[simp] theorem carryChange_saf (n : Nat) (s : State) : (carryChange n s).saf = s.saf := by rw [carryChange_only]
@[simp] theorem carryChange_can (n : Nat) (s : State) : (carryChange n s).can = s.can := by rw [carryChange_only]
@[simp] theorem carryChange_eth (n : Nat) (s : State) : (carryChange n s).eth = s.eth := by rw [carryChange_only]
@[simp] theorem carryChange_pass (n : Nat) (s : State) : (carryChange n s).pass = s.pass := by rw [carryChange_only]
@[simp] theorem carryChange_flash (n : Nat) (s : State) : (carryChange n s).flash = s.flash := by rw [carryChange_only]
@[simp] theorem carryChange_ovl (n : Nat) (s : State) : (carryChange n s).ovl = s.ovl := by rw [carryChange_only]
@[simp] theorem carryChange_free (n : Nat) (s : State) : (carryChange n s).free = s.free := by rw [carryChange_only]
@[simp] theorem carryChange_pending (n : Nat) (s : State) : (carryChange n s).pending = s.pending := by rw [carryChange_only]

/-- imgPut changes img and task at most. -/
theorem imgPut_only (w : Nat) (v : Word) (s : State) : imgPut w v s = { s with img := (imgPut w v s).img, task := (imgPut w v s).task } := by
  unfold imgPut; split <;> rfl
@[simp] theorem imgPut_clk (w : Nat) (v : Word) (s : State) : (imgPut w v s).clk = s.clk := by rw [imgPut_only]
@[simp] theorem imgPut_mb (w : Nat) (v : Word) (s : State) : (imgPut w v s).mb = s.mb := by rw [imgPut_only]
@[simp] theorem imgPut_evt (w : Nat) (v : Word) (s : State) : (imgPut w v s).evt = s.evt := by rw [imgPut_only]
@[simp] theorem imgPut_gln (w : Nat) (v : Word) (s : State) : (imgPut w v s).gln = s.gln := by rw [imgPut_only]
@[simp] theorem imgPut_silo (w : Nat) (v : Word) (s : State) : (imgPut w v s).silo = s.silo := by rw [imgPut_only]
@[simp] theorem imgPut_rtc (w : Nat) (v : Word) (s : State) : (imgPut w v s).rtc = s.rtc := by rw [imgPut_only]
@[simp] theorem imgPut_aon (w : Nat) (v : Word) (s : State) : (imgPut w v s).aon = s.aon := by rw [imgPut_only]
@[simp] theorem imgPut_sup (w : Nat) (v : Word) (s : State) : (imgPut w v s).sup = s.sup := by rw [imgPut_only]
@[simp] theorem imgPut_core (w : Nat) (v : Word) (s : State) : (imgPut w v s).core = s.core := by rw [imgPut_only]
@[simp] theorem imgPut_prog (w : Nat) (v : Word) (s : State) : (imgPut w v s).prog = s.prog := by rw [imgPut_only]
@[simp] theorem imgPut_tb (w : Nat) (v : Word) (s : State) : (imgPut w v s).tb = s.tb := by rw [imgPut_only]
@[simp] theorem imgPut_slot (w : Nat) (v : Word) (s : State) : (imgPut w v s).slot = s.slot := by rw [imgPut_only]
@[simp] theorem imgPut_ce (w : Nat) (v : Word) (s : State) : (imgPut w v s).ce = s.ce := by rw [imgPut_only]
@[simp] theorem imgPut_svc (w : Nat) (v : Word) (s : State) : (imgPut w v s).svc = s.svc := by rw [imgPut_only]
@[simp] theorem imgPut_fio (w : Nat) (v : Word) (s : State) : (imgPut w v s).fio = s.fio := by rw [imgPut_only]
@[simp] theorem imgPut_saf (w : Nat) (v : Word) (s : State) : (imgPut w v s).saf = s.saf := by rw [imgPut_only]
@[simp] theorem imgPut_can (w : Nat) (v : Word) (s : State) : (imgPut w v s).can = s.can := by rw [imgPut_only]
@[simp] theorem imgPut_eth (w : Nat) (v : Word) (s : State) : (imgPut w v s).eth = s.eth := by rw [imgPut_only]
@[simp] theorem imgPut_pass (w : Nat) (v : Word) (s : State) : (imgPut w v s).pass = s.pass := by rw [imgPut_only]
@[simp] theorem imgPut_pair (w : Nat) (v : Word) (s : State) : (imgPut w v s).pair = s.pair := by rw [imgPut_only]
@[simp] theorem imgPut_flash (w : Nat) (v : Word) (s : State) : (imgPut w v s).flash = s.flash := by rw [imgPut_only]
@[simp] theorem imgPut_ovl (w : Nat) (v : Word) (s : State) : (imgPut w v s).ovl = s.ovl := by rw [imgPut_only]
@[simp] theorem imgPut_out (w : Nat) (v : Word) (s : State) : (imgPut w v s).out = s.out := by rw [imgPut_only]
@[simp] theorem imgPut_free (w : Nat) (v : Word) (s : State) : (imgPut w v s).free = s.free := by rw [imgPut_only]
@[simp] theorem imgPut_pending (w : Nat) (v : Word) (s : State) : (imgPut w v s).pending = s.pending := by rw [imgPut_only]

/-- A state that differs from s in one group only, and then in the same group again, differs from s in it only. -/
theorem foldl_only {α : Type} (f : State → α → State) (put : State → State → State) (h1 : ∀ s a, f s a = put s (f s a))
    (h0 : ∀ s, s = put s s) (h2 : ∀ s t u, put (put s t) u = put s u) :
    ∀ (l : List α) (s : State), l.foldl f s = put s (l.foldl f s)
  | [], s => h0 s
  | a :: l, s => (foldl_only f put h1 h0 h2 l (f s a)).trans
      ((congrArg (fun y => put y (l.foldl f (f s a))) (h1 s a)).trans (h2 s (f s a) _))

/-- fireAll changes evt at most. -/
theorem fireAll_only (l : List Nat) (s : State) : fireAll l s = { s with evt := (fireAll l s).evt } :=
  foldl_only (fun s n => fire n s) (fun s t => { s with evt := t.evt }) (fun s n => fire_only n s) (fun _ => rfl) (fun _ _ _ => rfl) l s
@[simp] theorem fireAll_clk (l : List Nat) (s : State) : (fireAll l s).clk = s.clk := by rw [fireAll_only]
@[simp] theorem fireAll_mb (l : List Nat) (s : State) : (fireAll l s).mb = s.mb := by rw [fireAll_only]
@[simp] theorem fireAll_gln (l : List Nat) (s : State) : (fireAll l s).gln = s.gln := by rw [fireAll_only]
@[simp] theorem fireAll_silo (l : List Nat) (s : State) : (fireAll l s).silo = s.silo := by rw [fireAll_only]
@[simp] theorem fireAll_rtc (l : List Nat) (s : State) : (fireAll l s).rtc = s.rtc := by rw [fireAll_only]
@[simp] theorem fireAll_aon (l : List Nat) (s : State) : (fireAll l s).aon = s.aon := by rw [fireAll_only]
@[simp] theorem fireAll_sup (l : List Nat) (s : State) : (fireAll l s).sup = s.sup := by rw [fireAll_only]
@[simp] theorem fireAll_core (l : List Nat) (s : State) : (fireAll l s).core = s.core := by rw [fireAll_only]
@[simp] theorem fireAll_prog (l : List Nat) (s : State) : (fireAll l s).prog = s.prog := by rw [fireAll_only]
@[simp] theorem fireAll_task (l : List Nat) (s : State) : (fireAll l s).task = s.task := by rw [fireAll_only]
@[simp] theorem fireAll_img (l : List Nat) (s : State) : (fireAll l s).img = s.img := by rw [fireAll_only]
@[simp] theorem fireAll_tb (l : List Nat) (s : State) : (fireAll l s).tb = s.tb := by rw [fireAll_only]
@[simp] theorem fireAll_slot (l : List Nat) (s : State) : (fireAll l s).slot = s.slot := by rw [fireAll_only]
@[simp] theorem fireAll_ce (l : List Nat) (s : State) : (fireAll l s).ce = s.ce := by rw [fireAll_only]
@[simp] theorem fireAll_svc (l : List Nat) (s : State) : (fireAll l s).svc = s.svc := by rw [fireAll_only]
@[simp] theorem fireAll_fio (l : List Nat) (s : State) : (fireAll l s).fio = s.fio := by rw [fireAll_only]
@[simp] theorem fireAll_saf (l : List Nat) (s : State) : (fireAll l s).saf = s.saf := by rw [fireAll_only]
@[simp] theorem fireAll_can (l : List Nat) (s : State) : (fireAll l s).can = s.can := by rw [fireAll_only]
@[simp] theorem fireAll_eth (l : List Nat) (s : State) : (fireAll l s).eth = s.eth := by rw [fireAll_only]
@[simp] theorem fireAll_pass (l : List Nat) (s : State) : (fireAll l s).pass = s.pass := by rw [fireAll_only]
@[simp] theorem fireAll_pair (l : List Nat) (s : State) : (fireAll l s).pair = s.pair := by rw [fireAll_only]
@[simp] theorem fireAll_flash (l : List Nat) (s : State) : (fireAll l s).flash = s.flash := by rw [fireAll_only]
@[simp] theorem fireAll_ovl (l : List Nat) (s : State) : (fireAll l s).ovl = s.ovl := by rw [fireAll_only]
@[simp] theorem fireAll_out (l : List Nat) (s : State) : (fireAll l s).out = s.out := by rw [fireAll_only]
@[simp] theorem fireAll_free (l : List Nat) (s : State) : (fireAll l s).free = s.free := by rw [fireAll_only]
@[simp] theorem fireAll_pending (l : List Nat) (s : State) : (fireAll l s).pending = s.pending := by rw [fireAll_only]

/-- imgPuts changes img and task at most. -/
theorem imgPuts_only (l : List (Nat × Word)) (s : State) : imgPuts l s = { s with img := (imgPuts l s).img, task := (imgPuts l s).task } :=
  foldl_only (fun s (e : Nat × Word) => imgPut e.1 e.2 s) (fun s t => { s with img := t.img, task := t.task }) (fun s e => imgPut_only e.1 e.2 s) (fun _ => rfl) (fun _ _ _ => rfl) l s
@[simp] theorem imgPuts_clk (l : List (Nat × Word)) (s : State) : (imgPuts l s).clk = s.clk := by rw [imgPuts_only]
@[simp] theorem imgPuts_mb (l : List (Nat × Word)) (s : State) : (imgPuts l s).mb = s.mb := by rw [imgPuts_only]
@[simp] theorem imgPuts_evt (l : List (Nat × Word)) (s : State) : (imgPuts l s).evt = s.evt := by rw [imgPuts_only]
@[simp] theorem imgPuts_gln (l : List (Nat × Word)) (s : State) : (imgPuts l s).gln = s.gln := by rw [imgPuts_only]
@[simp] theorem imgPuts_silo (l : List (Nat × Word)) (s : State) : (imgPuts l s).silo = s.silo := by rw [imgPuts_only]
@[simp] theorem imgPuts_rtc (l : List (Nat × Word)) (s : State) : (imgPuts l s).rtc = s.rtc := by rw [imgPuts_only]
@[simp] theorem imgPuts_aon (l : List (Nat × Word)) (s : State) : (imgPuts l s).aon = s.aon := by rw [imgPuts_only]
@[simp] theorem imgPuts_sup (l : List (Nat × Word)) (s : State) : (imgPuts l s).sup = s.sup := by rw [imgPuts_only]
@[simp] theorem imgPuts_core (l : List (Nat × Word)) (s : State) : (imgPuts l s).core = s.core := by rw [imgPuts_only]
@[simp] theorem imgPuts_prog (l : List (Nat × Word)) (s : State) : (imgPuts l s).prog = s.prog := by rw [imgPuts_only]
@[simp] theorem imgPuts_tb (l : List (Nat × Word)) (s : State) : (imgPuts l s).tb = s.tb := by rw [imgPuts_only]
@[simp] theorem imgPuts_slot (l : List (Nat × Word)) (s : State) : (imgPuts l s).slot = s.slot := by rw [imgPuts_only]
@[simp] theorem imgPuts_ce (l : List (Nat × Word)) (s : State) : (imgPuts l s).ce = s.ce := by rw [imgPuts_only]
@[simp] theorem imgPuts_svc (l : List (Nat × Word)) (s : State) : (imgPuts l s).svc = s.svc := by rw [imgPuts_only]
@[simp] theorem imgPuts_fio (l : List (Nat × Word)) (s : State) : (imgPuts l s).fio = s.fio := by rw [imgPuts_only]
@[simp] theorem imgPuts_saf (l : List (Nat × Word)) (s : State) : (imgPuts l s).saf = s.saf := by rw [imgPuts_only]
@[simp] theorem imgPuts_can (l : List (Nat × Word)) (s : State) : (imgPuts l s).can = s.can := by rw [imgPuts_only]
@[simp] theorem imgPuts_eth (l : List (Nat × Word)) (s : State) : (imgPuts l s).eth = s.eth := by rw [imgPuts_only]
@[simp] theorem imgPuts_pass (l : List (Nat × Word)) (s : State) : (imgPuts l s).pass = s.pass := by rw [imgPuts_only]
@[simp] theorem imgPuts_pair (l : List (Nat × Word)) (s : State) : (imgPuts l s).pair = s.pair := by rw [imgPuts_only]
@[simp] theorem imgPuts_flash (l : List (Nat × Word)) (s : State) : (imgPuts l s).flash = s.flash := by rw [imgPuts_only]
@[simp] theorem imgPuts_ovl (l : List (Nat × Word)) (s : State) : (imgPuts l s).ovl = s.ovl := by rw [imgPuts_only]
@[simp] theorem imgPuts_out (l : List (Nat × Word)) (s : State) : (imgPuts l s).out = s.out := by rw [imgPuts_only]
@[simp] theorem imgPuts_free (l : List (Nat × Word)) (s : State) : (imgPuts l s).free = s.free := by rw [imgPuts_only]
@[simp] theorem imgPuts_pending (l : List (Nat × Word)) (s : State) : (imgPuts l s).pending = s.pending := by rw [imgPuts_only]

/-- latchWhere changes mb at most. -/
theorem latchWhere_only (q : Nat → Bool) (b : Nat) (s : State) : latchWhere q b s = { s with mb := (latchWhere q b s).mb } :=
  foldl_only _ (fun s t => { s with mb := t.mb }) (fun s ch => by split <;> rfl) (fun _ => rfl) (fun _ _ _ => rfl) _ s
@[simp] theorem latchWhere_clk (q : Nat → Bool) (b : Nat) (s : State) : (latchWhere q b s).clk = s.clk := by rw [latchWhere_only]
@[simp] theorem latchWhere_evt (q : Nat → Bool) (b : Nat) (s : State) : (latchWhere q b s).evt = s.evt := by rw [latchWhere_only]
@[simp] theorem latchWhere_gln (q : Nat → Bool) (b : Nat) (s : State) : (latchWhere q b s).gln = s.gln := by rw [latchWhere_only]
@[simp] theorem latchWhere_silo (q : Nat → Bool) (b : Nat) (s : State) : (latchWhere q b s).silo = s.silo := by rw [latchWhere_only]
@[simp] theorem latchWhere_rtc (q : Nat → Bool) (b : Nat) (s : State) : (latchWhere q b s).rtc = s.rtc := by rw [latchWhere_only]
@[simp] theorem latchWhere_aon (q : Nat → Bool) (b : Nat) (s : State) : (latchWhere q b s).aon = s.aon := by rw [latchWhere_only]
@[simp] theorem latchWhere_sup (q : Nat → Bool) (b : Nat) (s : State) : (latchWhere q b s).sup = s.sup := by rw [latchWhere_only]
@[simp] theorem latchWhere_core (q : Nat → Bool) (b : Nat) (s : State) : (latchWhere q b s).core = s.core := by rw [latchWhere_only]
@[simp] theorem latchWhere_prog (q : Nat → Bool) (b : Nat) (s : State) : (latchWhere q b s).prog = s.prog := by rw [latchWhere_only]
@[simp] theorem latchWhere_task (q : Nat → Bool) (b : Nat) (s : State) : (latchWhere q b s).task = s.task := by rw [latchWhere_only]
@[simp] theorem latchWhere_img (q : Nat → Bool) (b : Nat) (s : State) : (latchWhere q b s).img = s.img := by rw [latchWhere_only]
@[simp] theorem latchWhere_tb (q : Nat → Bool) (b : Nat) (s : State) : (latchWhere q b s).tb = s.tb := by rw [latchWhere_only]
@[simp] theorem latchWhere_slot (q : Nat → Bool) (b : Nat) (s : State) : (latchWhere q b s).slot = s.slot := by rw [latchWhere_only]
@[simp] theorem latchWhere_ce (q : Nat → Bool) (b : Nat) (s : State) : (latchWhere q b s).ce = s.ce := by rw [latchWhere_only]
@[simp] theorem latchWhere_svc (q : Nat → Bool) (b : Nat) (s : State) : (latchWhere q b s).svc = s.svc := by rw [latchWhere_only]
@[simp] theorem latchWhere_fio (q : Nat → Bool) (b : Nat) (s : State) : (latchWhere q b s).fio = s.fio := by rw [latchWhere_only]
@[simp] theorem latchWhere_saf (q : Nat → Bool) (b : Nat) (s : State) : (latchWhere q b s).saf = s.saf := by rw [latchWhere_only]
@[simp] theorem latchWhere_can (q : Nat → Bool) (b : Nat) (s : State) : (latchWhere q b s).can = s.can := by rw [latchWhere_only]
@[simp] theorem latchWhere_eth (q : Nat → Bool) (b : Nat) (s : State) : (latchWhere q b s).eth = s.eth := by rw [latchWhere_only]
@[simp] theorem latchWhere_pass (q : Nat → Bool) (b : Nat) (s : State) : (latchWhere q b s).pass = s.pass := by rw [latchWhere_only]
@[simp] theorem latchWhere_pair (q : Nat → Bool) (b : Nat) (s : State) : (latchWhere q b s).pair = s.pair := by rw [latchWhere_only]
@[simp] theorem latchWhere_flash (q : Nat → Bool) (b : Nat) (s : State) : (latchWhere q b s).flash = s.flash := by rw [latchWhere_only]
@[simp] theorem latchWhere_ovl (q : Nat → Bool) (b : Nat) (s : State) : (latchWhere q b s).ovl = s.ovl := by rw [latchWhere_only]
@[simp] theorem latchWhere_out (q : Nat → Bool) (b : Nat) (s : State) : (latchWhere q b s).out = s.out := by rw [latchWhere_only]
@[simp] theorem latchWhere_free (q : Nat → Bool) (b : Nat) (s : State) : (latchWhere q b s).free = s.free := by rw [latchWhere_only]
@[simp] theorem latchWhere_pending (q : Nat → Bool) (b : Nat) (s : State) : (latchWhere q b s).pending = s.pending := by rw [latchWhere_only]

/-- A closing session changes its channel and may write a Gleaner event. -/
theorem closeSession_only (n c : Nat) (s : State) : closeSession n c s = { s with mb := (closeSession n c s).mb, gln := (closeSession n c s).gln } := by
  unfold closeSession; dsimp only; split
  · rw [gln_mb]; conv_lhs => rw [gln_only]
    rfl
  · rfl
@[simp] theorem closeSession_clk (n c : Nat) (s : State) : (closeSession n c s).clk = s.clk := by rw [closeSession_only]
@[simp] theorem closeSession_evt (n c : Nat) (s : State) : (closeSession n c s).evt = s.evt := by rw [closeSession_only]
@[simp] theorem closeSession_silo (n c : Nat) (s : State) : (closeSession n c s).silo = s.silo := by rw [closeSession_only]
@[simp] theorem closeSession_rtc (n c : Nat) (s : State) : (closeSession n c s).rtc = s.rtc := by rw [closeSession_only]
@[simp] theorem closeSession_aon (n c : Nat) (s : State) : (closeSession n c s).aon = s.aon := by rw [closeSession_only]
@[simp] theorem closeSession_sup (n c : Nat) (s : State) : (closeSession n c s).sup = s.sup := by rw [closeSession_only]
@[simp] theorem closeSession_core (n c : Nat) (s : State) : (closeSession n c s).core = s.core := by rw [closeSession_only]
@[simp] theorem closeSession_prog (n c : Nat) (s : State) : (closeSession n c s).prog = s.prog := by rw [closeSession_only]
@[simp] theorem closeSession_task (n c : Nat) (s : State) : (closeSession n c s).task = s.task := by rw [closeSession_only]
@[simp] theorem closeSession_img (n c : Nat) (s : State) : (closeSession n c s).img = s.img := by rw [closeSession_only]
@[simp] theorem closeSession_tb (n c : Nat) (s : State) : (closeSession n c s).tb = s.tb := by rw [closeSession_only]
@[simp] theorem closeSession_slot (n c : Nat) (s : State) : (closeSession n c s).slot = s.slot := by rw [closeSession_only]
@[simp] theorem closeSession_ce (n c : Nat) (s : State) : (closeSession n c s).ce = s.ce := by rw [closeSession_only]
@[simp] theorem closeSession_svc (n c : Nat) (s : State) : (closeSession n c s).svc = s.svc := by rw [closeSession_only]
@[simp] theorem closeSession_fio (n c : Nat) (s : State) : (closeSession n c s).fio = s.fio := by rw [closeSession_only]
@[simp] theorem closeSession_saf (n c : Nat) (s : State) : (closeSession n c s).saf = s.saf := by rw [closeSession_only]
@[simp] theorem closeSession_can (n c : Nat) (s : State) : (closeSession n c s).can = s.can := by rw [closeSession_only]
@[simp] theorem closeSession_eth (n c : Nat) (s : State) : (closeSession n c s).eth = s.eth := by rw [closeSession_only]
@[simp] theorem closeSession_pass (n c : Nat) (s : State) : (closeSession n c s).pass = s.pass := by rw [closeSession_only]
@[simp] theorem closeSession_pair (n c : Nat) (s : State) : (closeSession n c s).pair = s.pair := by rw [closeSession_only]
@[simp] theorem closeSession_flash (n c : Nat) (s : State) : (closeSession n c s).flash = s.flash := by rw [closeSession_only]
@[simp] theorem closeSession_ovl (n c : Nat) (s : State) : (closeSession n c s).ovl = s.ovl := by rw [closeSession_only]
@[simp] theorem closeSession_out (n c : Nat) (s : State) : (closeSession n c s).out = s.out := by rw [closeSession_only]
@[simp] theorem closeSession_free (n c : Nat) (s : State) : (closeSession n c s).free = s.free := by rw [closeSession_only]
@[simp] theorem closeSession_pending (n c : Nat) (s : State) : (closeSession n c s).pending = s.pending := by rw [closeSession_only]

/-! ### Event sources -/

/-- A firing source: nothing with ENABLE 0 or a reserved number, else it is pending. -/
theorem evtPending_fire (n m : Nat) (s : State) (hn : n < 384) : evtPending (fire n s) m =
    if m = n ∧ evtReserved n = false ∧ bit (evtSrc s n) 22 = true then true else evtPending s m := by
  unfold fire; dsimp only
  by_cases h1 : evtReserved n = true
  · simp [h1]
  · by_cases h2 : bit (evtSrc s n) 22 = true
    · by_cases h3 : evtPending s n = true
      · by_cases hm : m = n
        · subst hm; simp only [h1, h2, h3, Bool.not_true, Bool.false_eq_true, if_false, if_true, Bool.or_false]
          exact h3
        · simp only [h1, h2, h3, hm, Bool.not_true, Bool.false_eq_true, if_false, if_true, Bool.or_false, false_and]
          rfl
      · by_cases hm : m = n
        · subst hm; simp [h1, h2, h3, evtPending_setPending, hn]
        · simp [h1, h2, h3, hm, evtPending_setPending, hn]
    · simp [h2]

/-! ### How a mailbox command ends -/

@[simp] theorem need_true (rc : Nat) : need true rc = .ok () := rfl
@[simp] theorem need_false (rc : Nat) : need false rc = .error rc := rfl

@[simp] theorem getChan_carryChange (n m : Nat) (s : State) : getChan (carryChange n s) m = getChan s m := by simp [getChan]

/-- The result code and the payload of a command on its channel. -/
theorem getChan_setResult (n m rc : Nat) (b : Bytes) (s : State) (hn : n < 16) :
    getChan (setResult n rc b s) m = if m = n then { getChan s n with result := some (rc, b) } else getChan s m := by
  simp only [setResult, hn, if_true]; exact getChan_updChan ..

/-- A command that passes its checks and replies. -/
theorem runMb_reply {f : Nat → Nat → Bytes → State → MbR} {ch : Fin 16} {code : Nat} {p b : Bytes} {s s' : State}
    (ha : asked s ch.val code p = true) (h : f (chanCfg s ch.val).tenant ch.val p s = reply b s') :
    runMb ch code f p s = .next (setResult ch.val 0x0000 b (carryChange ch.val s')) := by
  unfold runMb; rw [if_pos ha, h]; rfl

/-- A command that passes its checks and still executes. -/
theorem runMb_defer {f : Nat → Nat → Bytes → State → MbR} {ch : Fin 16} {code : Nat} {p : Bytes} {s s' : State}
    (ha : asked s ch.val code p = true) (h : f (chanCfg s ch.val).tenant ch.val p s = defer s') :
    runMb ch code f p s = .next (updChan ch.val (fun c => { c with started := true })
      (if carriedLater ch.val ⟨rcOk, none, s'⟩ s' then s' else carryChange ch.val s')) := by
  unfold runMb; rw [if_pos ha, h]
  cases hc : carriedLater ch.val ⟨rcOk, none, s'⟩ s' <;> simp [finishMb, defer, hc]

/-- A command that a check refuses changes nothing but the result of its channel. -/
theorem runMb_error {f : Nat → Nat → Bytes → State → MbR} {ch : Fin 16} {code : Nat} {p : Bytes} {s : State} {rc : Nat}
    (ha : asked s ch.val code p = true) (h : f (chanCfg s ch.val).tenant ch.val p s = .error rc) :
    runMb ch code f p s = .next (setResult ch.val rc [] s) := by
  unfold runMb; rw [if_pos ha, h]; rfl

/-- Where the channel executes no such request, nothing happens. -/
theorem runMb_idle {f : Nat → Nat → Bytes → State → MbR} {ch : Fin 16} {code : Nat} {p : Bytes} {s : State}
    (ha : asked s ch.val code p = false) : runMb ch code f p s = .next s := by
  unfold runMb; rw [ha]; rfl

end Sys2Proof.Machine
end

