-- ==== Sys2Proof/WellFormed.lean ====
section
/-! DEFINITION. Which commands can stand on the wires at all: operands within the widths that the frames, the registers and the
measurements of the spec give them. The machine's meanings are total and do not ask for well-formedness. -/

namespace Sys2Proof

/-- n fits b bits. -/
def fits (b n : Nat) : Bool := n < 2 ^ b

/-- A signed value fits b bits. -/
def fitsInt (b : Nat) (x : Int) : Bool := decide (-(2 ^ (b - 1) : Nat) ≤ x) && decide (x < (2 ^ (b - 1) : Nat))

/-- Image words by number (00 R8). -/
def imageWords (ws : List (Nat × Word)) : Bool := ws.all (fun e => decide (e.1 < 20480))

/-- As many units as complete groups of 16 edges, and one begun (02 R50, R56). -/
def SpiFrame.wf (f : SpiFrame) : Bool := f.edges ≤ 16 * f.mosi.length

/-- A CAN frame's identifier and data length (12 R303). -/
def CanFrame.wf (f : CanFrame) : Bool :=
  fits (if f.ide then 29 else 11) f.id &&
    (if f.fd then f.data.length ≤ 8 || [12, 16, 20, 24, 32, 48, 64].contains f.data.length else f.data.length ≤ 8) &&
    (!f.rtr || (!f.fd && f.data.length == 0)) && (f.fd || (!f.brs && !f.esi))

/-- An error carries a LEC code of 1 to 6. -/
def CanRx.wf : CanRx → Bool
  | .frame f => f.wf
  | .error l _ => l.val != 0

def CanTxEnd.wf : CanTxEnd → Bool
  | .error l _ _ => l.val != 0
  | _ => true

def Udp.wf (u : Udp) : Bool := fits 32 u.src && fits 32 u.dst && fits 16 u.sport && fits 16 u.dport

def Fragment.wf (f : Fragment) : Bool :=
  fits 32 f.src && fits 32 f.dst && fits 16 f.sport && fits 16 f.dport && fits 16 f.ident && fits 16 f.offset

def Telegram.wf (t : Telegram) : Bool :=
  fits 32 t.srcIp && fits 32 t.dst && fits 32 t.comId && fits 32 t.etbTopo && fits 32 t.opTopo && fits 32 t.dsLen && fits 32 t.seq &&
    fits 32 t.reserved && fits 32 t.replyComId && fits 32 t.replyIp && fits 32 t.headerFcs

def PtpMaster.wf (m : PtpMaster) : Bool :=
  fits 8 m.prio1 && fits 8 m.cls && fits 8 m.accuracy && fits 16 m.variance && fits 8 m.prio2 && fits 64 m.identity

def PtpMsg.wf : PtpMsg → Bool
  | .sync d s _ _ => fits 8 d && fits 64 s
  | .delayReq d p _ | .pdelayReq d p _ | .pdelayResp d p _ _ _ => fits 8 d && fits 64 p
  | .delayResp d s p _ => fits 8 d && fits 64 s && fits 64 p
  | .announce d m ts _ _ => fits 8 d && m.wf && fits 8 ts
  | .malformed => true

def EthBody.wf : EthBody → Bool
  | .arpRequest m a b => fits 48 m && fits 32 a && fits 32 b
  | .arpReply m a b => fits 48 m && fits 32 a && fits 32 b
  | .icmpEcho a b _ => fits 32 a && fits 32 b
  | .udp d => d.wf
  | .trdp t => t.wf
  | .fragment f => f.wf
  | .ptp _ m => m.wf
  | .icmpOther | .tcp | .ipv6 | .igmp | .passFrame | .other => true

/-- A VLAN tag: VID and PCP. -/
def vlanWf (v : Option (Nat × Nat)) : Bool := match v with | some (i, p) => fits 12 i && fits 3 p | none => true

def EthFrame.wf (f : EthFrame) : Bool := f.body.wf && vlanWf f.vlan

def ChainChange.wf (c : ChainChange) : Bool :=
  fits 8 c.kind && fits 16 c.cmd && decide (c.tenant < 32) && fits 32 c.cycle

def InaugRec.wf (r : InaugRec) : Bool :=
  fits 48 r.passId && fits 8 r.pos && fits 8 r.fwMajor && fits 8 r.fwMinor && fits 8 r.fwPatch && fits 32 r.hash

def Advert.wf (a : Advert) : Bool :=
  a.inaug.wf && fits 8 a.mode && fits 8 a.pairRole && fits 32 a.innings && fits 6 a.trust && decide (a.wallNs < 2 ^ 48 * 1000000000) &&
    fits 64 a.overlays && a.changes.all (·.wf) && a.changes.length ≤ 8

def PubPlot.wf (p : PubPlot) : Bool := decide (p.plot < 320) && p.words.length == 64

def PassBody.wf : PassBody → Bool
  | .inaug r => r.wf
  | .advert a => a.wf
  | .pub ps => ps.all (·.wf)
  | .change (.refuse rc) c => fits 16 rc && c.wf
  | .change _ c => c.wf
  | .resend n => fits 16 n
  | .skip n => fits 16 n
  | .echo d t => fits 48 d && fits 32 t
  | .marker e d => fits 32 e && fits 32 d
  | .idle => true

/-- The header of a Pass frame (14 Table 14-1). -/
def PassFrame.wf (f : PassFrame) : Bool :=
  f.body.wf && fits 48 f.dest && fits 48 f.sender && fits 8 f.ver && fits 32 f.check && fits 8 f.origin && fits 8 f.hops &&
    fits 32 f.cycle && fits 16 f.lseq && fits 16 f.lack && fits 16 f.credit && fits 16 f.len && fits 4 f.group && fits 8 f.frag &&
    fits 8 f.frags

/-- A volley (15 R377). -/
def Volley.wf (v : Volley) : Bool :=
  decide (v.rstate ≤ 7) && fits 32 v.innings && fits 32 v.pinn && fits 8 v.mode && fits 63 v.wallNs && fits 48 v.wallDev && fits 32 v.ack &&
    (match v.expected with | some n => fits 32 n | none => true) && fits 8 v.fwMajor && fits 8 v.fwMinor && fits 8 v.fwPatch &&
    fits 32 v.progHash && fits 32 v.cfgHash && fits 8 v.pos

/-- A record of the SYNC link (15 Table 15-6). -/
def PairRec.wf : PairRec → Bool
  | .unit ws => imageWords ws
  | .release k a q u c => decide (k < 256) && a.length == 32 && q.length == 320 && fits 32 u && fits 32 c
  | .commit k _ v c => decide (k < 256) && fits 32 v && fits 8 c
  | .engine ws l ua xh q n => imageWords ws && (match l with | some x => decide (x < 512) | none => true) &&
      ua.length ≤ 8 && xh.length ≤ 16 && q.length ≤ 8 && fits 16 n
  | .slot n st _ => decide (n < 2048) && fits 4 st
  | .send _ _ n => fits 32 n
  | .service a m => a.all (fun e => decide (e.1 < 8192)) && m.all (fun e => decide (e.1 < 64))
  | .change t c p => decide (t < 32) && fits 16 c && p.length ≤ 4064

def Beacon.wf (b : Beacon) : Bool := decide (b.rstate ≤ 7) && fits 32 b.innings

/-- A resync round (15 R384). -/
def ResyncPage.wf (r : ResyncPage) : Bool :=
  imageWords r.image && r.loops.all (fun e => decide (e.1 < 512)) && r.slots.all (fun e => decide (e.1 < 2048)) &&
    r.forces.all (fun e => decide (e.1 < 20480)) && r.modes.length ≤ 33 && r.alarms.all (fun e => decide (e.1 < 8192)) &&
    r.meters.all (fun e => decide (e.1 < 64)) && r.entries.all (fun e => decide (e.1 < 2 ^ 37))

def CrossFrame.wf (f : CrossFrame) : Bool := fits 32 f.periodUs && fits 64 f.interval0 && fits 64 f.interval1

/-- A mailbox payload holds at most 4,064 bytes (02 R39). -/
def payloadWf (p : Bytes) : Bool := p.length ≤ 4064

/-- The operands of a command fit what carries them. -/
def Instr.wf : Instr → Bool
  | .mbEvtAlloc _ p | .mbEvtEnable _ p | .mbEvtClear _ p | .mbEvtGet _ p | .mbSessionOpen _ p | .mbSessionClose _ p | .mbNop _ p
  | .mbAckAttn _ p | .mbDeviceInfo _ p | .mbChanBind _ p | .mbKeySet _ p | .mbChanStats _ p | .mbModeSet _ p
  | .mbTenantModeSet _ p | .mbTaskGet _ p | .mbTaskSet _ p | .mbTaskStats _ p | .mbTenantSchedSet _ p | .mbRetainSet _ p
  | .mbForceSet _ p | .mbForceClear _ p | .mbForceList _ p | .mbValueWrite _ p | .mbValueRead _ p | .mbImageRead _ p
  | .mbImageWrite _ p | .mbPlotGet _ p | .mbPlotAssign _ p | .mbPlotRelease _ p | .mbPlotShare _ p | .mbPlotPubSet _ p
  | .mbRioSet _ p | .mbRioGet _ p | .mbTenantAccept _ p | .mbTbGet _ p | .mbTbDiag _ p | .mbLpSet _ p | .mbMainsSet _ p
  | .mbPosFix _ p | .mbWallSet _ p | .mbSchAlloc _ p | .mbSchSet _ p | .mbSchArm _ p | .mbSchCancel _ p | .mbSchGet _ p
  | .mbCeAlloc _ p | .mbCeSet _ p | .mbCeCoefSet _ p | .mbCeCoefCommit _ p | .mbCeGet _ p | .mbCeStateSet _ p
  | .mbCeFlagsClear _ p | .mbCeInjStart _ p | .mbCeInjStop _ p | .mbCeCapRead _ p | .mbCeLoad _ p | .mbSvcQuotaSet _ p
  | .mbSvcList _ p | .mbLocalSet _ p | .mbCalSet _ p | .mbWpgSet _ p | .mbWpgGet _ p | .mbAlmSet _ p | .mbAlmList _ p
  | .mbAlmAck _ p | .mbAlmShelve _ p | .mbTrdSet _ p | .mbTrdRead _ p | .mbEnSet _ p | .mbEnRead _ p | .mbEnSysSet _ p
  | .mbEnTotals _ p | .mbAccSet _ p | .mbAccListPut _ p | .mbAccListDel _ p | .mbFioMapSet _ p | .mbFcSet _ p | .mbFcGrpSet _ p
  | .mbFioSilSet _ p | .mbAiSet _ p | .mbAoSet _ p | .mbTwElecSet _ p | .mbFioStat _ p | .mbFioClear _ p | .mbSafetyStatus _ p
  | .mbSafetySecure _ p | .mbSafetyLoad _ p | .mbSafetyConfirm _ p | .mbSafetyRestart _ p | .mbSafetyPassword _ p
  | .mbSafetyRead _ p | .mbSafetyLogRead _ p | .mbCanSet _ p | .mbCanQueueSet _ p | .mbCanFilterSet _ p | .mbCanTx _ p
  | .mbCanTxCancel _ p | .mbCanTxResults _ p | .mbCanRxRead _ p | .mbCanStat _ p | .mbCanRecover _ p | .mbCanWakeSet _ p
  | .mbEthSet _ p | .mbEthPortSet _ p | .mbEthStat _ p | .mbTrdpSet _ p | .mbTrdpGet _ p | .mbTrdpTopoSet _ p | .mbRioIpSet _ p
  | .mbPtpSet _ p | .mbPtpStat _ p | .mbPassSet _ p | .mbPassStat _ p | .mbPassMembers _ p | .mbPassBudget _ p | .mbPassInaug _ p
  | .mbPairSet _ p | .mbPairStat _ p | .mbPairResync _ p | .mbPairSwitch _ p | .mbPairSwapBegin _ p | .mbPairSwapPreview _ p
  | .mbPairSwapCommit _ p | .mbPairSwapAbort _ p | .mbOvlCreate _ p | .mbOvlDelete _ p | .mbOvlRequest _ p | .mbOvlStatus _ p
  | .mbOvlList _ p | .mbStoreBegin _ p | .mbStoreData _ p | .mbStoreEnd _ p | .mbBankActivate _ p | .mbBankConfirm _ p
  | .mbFlashStat _ p | .mbRetStat _ p | .mbRtcGet _ p | .mbRtcCapture _ p | .mbRtcCalSet _ p | .mbGlnRead _ p | .mbGlnFreeze _ p
  | .mbGlnUnfreeze _ p | .mbGlnClassSet _ p | .mbGlnStat _ p | .mbPwrStat _ p | .mbResetLog _ p | .mbWdgFuse _ p | .mbWdgSet _ p
  | .mbWdgStat _ p | .mbStartSet _ p | .mbReset _ p | .mbSleep _ p | .mbWakeSet _ p | .mbWakeCause _ p => payloadWf p
  | .spiWriteFrame f | .spiReadFrame f | .spiPollFrame f | .spiLinkReset f | .spiBadOpcodeFrame f => f.wf
  | .udpMailboxDatagram _ ip port data => fits 32 ip && fits 16 port && data.length ≤ 65507
  | .mainsZeroCrossing _ _ _ e => fitsInt 32 e
  | .canFrameReceived _ r _ => r.wf
  | .canWakeFrame _ r => r.rx.wf
  | .canTxAttemptEnd _ e _ => e.wf
  | .ethFrameReceived _ f => f.wf
  | .ethLinkChange _ _ m => m == 10 || m == 100 || m == 1000
  | .arpRetry _ ip | .arpEntryAge _ ip => fits 32 ip
  | .reassemblyTimeout _ a n => fits 32 a && fits 16 n
  | .trdpTelegramReceived _ t => t.wf
  | .ptpMessage r => vlanWf r.vlan && r.msg.wf
  | .passFrameReceived _ f => f.wf
  | .passResendReceived _ n => fits 16 n
  | .crossMonFrame _ f => f.wf
  | .volleyReceived v => v.wf
  | .pairRecordReceived n _ r => fits 32 n && r.wf
  | .pairBeaconReceived b => b.wf
  | .resyncRound r => r.wf
  | .refclkFail _ | .pllLockLoss _ | .commitComplete _ | .registerWrite _ _ | .mailboxRequestCheck | .commandExecutionEnd _
  | .add _ | .sub _ | .adds _ | .addsu _ | .subs _ | .subsu _ | .mul _ | .muls _ | .mulq _ | .mulh _ | .negs _ | .abss _ | .min _
  | .minu _ | .max _ | .maxu _ | .mov _ | .shl _ | .shr _ | .sar _ | .rol _ | .addi _ | .addsi _ | .andi _ | .ori _ | .xori _
  | .movi _ | .shli _ | .shri _ | .sari _ | .roli _ | .lk0 _ | .lk1 _ | .lk2 _ | .lk3 _ | .cmpeq _ | .cmpne _ | .cmplt _
  | .cmpltu _ | .cmple _ | .cmpleu _ | .cmpeqi _ | .cmpnei _ | .cmplti _ | .cmpltiu _ | .cmpgti _ | .cmpgtiu _ | .tstnz _
  | .tstb _ | .pand _ | .por _ | .pxor _ | .pandn _ | .prd _ | .pwr _ | .and _ | .or _ | .xor _ | .andn _ | .not _ | .edge _
  | .edgef _ | .edgea _ | .latch _ | .latchs _ | .shSplat _ | .shMerge _ | .shAny _ | .shAll _ | .shNone _ | .bset _ | .bclr _
  | .bins _ | .popc _ | .clz _ | .ffs _ | .extr _ | .dep _ | .ld _ | .st _ | .imld _ | .imst _ | .ldb _ | .stb _ | .imldb _
  | .imstb _ | .nop _ | .tend _ | .loop _ | .ret _ | .br _ | .call _ | .mfs _ | .mts _ | .ceStart _ | .ceRd _ | .schArm _
  | .schCancel _ | .schStat _ | .evtPost _ | .swev _ | .budgetExceeded _ | .deadlineOverrun _ | .cyclicRelease _
  | .eventTaskRelease _ | .positionIntervalRelease _ | .supplyCycleRelease _ | .modeTransitionInForce _ | .forceTimeout _
  | .valueWriteApply _ | .retainSnapshotDue _ | .retainSnapshotNoAnchor _ | .retainSnapshotWritten _ | .remoteSetReceived _ _ _ _
  | .remoteModuleTimeout _ | .remoteOutputPeriodic _ | .plotStale _ | .positionTick | .toothEdge _ _ | .toothWindowClose _
  | .axleStillTimeout _ | .axleReadmit _ | .coastTimeout | .mainsCrossingTimeout _ | .mainsHoldoverExpiry _ | .mainsDcDetect _
  | .slotFire _ | .pulseEnd _ | .ceRateTrigger _ | .ceSupangTrigger _ | .ceSampleComplete _ | .wpgEvaluate _ | .alarmEvaluate
  | .shelveEnd _ | .trendSample _ | .trendChangeCheck _ | .meterSample | .energyIntervalClose _ | .energyAccumSave
  | .accessDecision _ | .accessPulseEnd _ _ | .fioOutputFrame _ | .dieFrameReceived _ _ | .fioInputReport _ | .dieReportTimeout _
  | .silenceExpiry _ | .fieldSupplyUv _ _ | .inputFilterAccept _ _ | .wireBreakChange _ _ | .outputOverload _ _
  | .outputRetry _ _ | .openLoadDetect _ _ | .peakPhaseEnd _ | .groupOverloadTrip _ | .groupRetry _ | .aiSample _ _
  | .aoLoopFault _ _ _ _ | .twSensorFault _ _ | .mainsOverRange _ | .sfcEvaluation _ | .hwPathEvaluation _
  | .safetyInputAccept _ _ _ | .testPulse _ _ _ _ | .guardDtDiscrepancy _ _ | .doorLoopSettle _ _ | .doorLoopDisagree _ _
  | .maxHoldExpiry _ _ | .standstillDeclare _ _ | .safetySensorTimeout _ _ | .axleDisagreement _ _ _ | .soSwitchTest _ _ _
  | .crossMonTimeout _ | .sfcSelfTest _ | .gateDriveStop _ _ | .safetyStartSequence _ _ | .sfStatusWordUpdate | .lockoutExpiry
  | .canTxStart _ | .canTxStarved _ _ | .canBoffRecovery _ | .canBusRejoin _ | .canConfigApply _ | .canWakePattern _
  | .trdpPublish _ | .trdpSubTimeout _ | .ptpSyncTimeout | .passPortChange _ _ | .passEchoComplete _ _ | .passForward _
  | .passResendTimer _ | .passIdleSend _ | .inaugSend | .inaugComplete | .markerSend | .publishSlot | .pubTimeout _ _
  | .chainChangeApply | .volleySend | .syncPathSilent | .alivePathSilent | .srvInChange _ | .servePathMismatch
  | .recordAckTimeout | .replayRelease | .pairStartTimeout | .pairBeaconSend | .resyncTimeout | .serveGateLoss _ | .handoverReady
  | .overlayTransitionTimeout | .flashBlockDone _ _ | .stagingTimeout | .bankActivationReset | .gleanerWrite
  | .gleanerTokenGain _ _ | .gleanerFreezeExpiry | .rtcCalAdd | .rtcSupplySwitch _ | .oscStopDetect | .rtcSyncCheck
  | .rtcCalDerive _ | .railWarning _ _ _ | .supplyMonitorReset _ _ | .safetyDomainReset _ | .temperatureSample _
  | .temperatureCritical | .holdUpBegin | .holdUpEnd | .throttleBegin _ | .throttleEnd _ | .resetNAssert | .resetRelease
  | .firmwareWatchdogService | .watchdogWarning | .watchdogLapse | .hostResume | .wakeInEvent | .rtcAlarmWake | .wakePowerUp
  | .mbResetTimer | .illegalInstruction _ _ _ _ _ | .ptpPortTimer _ | .alivePathRestored | .vbatCheck _
  | .uncorrectableMemoryError _ | .safetyDomainPowerUp | .resyncRetry => true

end Sys2Proof
end

