-- ==== Sys2Proof/Tests/Slice0.lean ====
section
/-! SUPPORT. Tests: the smoke test of well-formedness, values that the spec works out itself, and for every statement with
hypotheses a witness, a state and operands that meet them, for each of its clauses. The helper states build on one running
device (live), with one unit of it set up in each. -/

namespace Sys2Proof.Tests
open Sys2Proof.Machine
set_option Elab.async false
set_option linter.unusedVariables false

/-! ### How a hypothesis over every value of an Option or of a table is met -/

theorem forall_some {α : Type} {o : Option α} {P : α → Prop} (h : ∀ a ∈ o.toList, P a) : ∀ a, o = some a → P a := by
  intro a ha; subst ha; exact h a (by simp)
theorem passes_of {f : Nat → Nat → Bytes → State → MbR} {ch : Fin 16} {p : Bytes} {s : State}
    (h : (match f (tenantOf s ch) ch.val p s with | .ok _ => true | .error _ => false) = true) : Passes f ch p s := by
  unfold Passes; split at h
  · exact ⟨_, ‹_›⟩
  · cases h
theorem tget_mem {α : Type} (d : α) (t : Tab α) (x : Nat) : tget d t x = d ∨ (x, tget d t x) ∈ t := by
  induction t with
  | nil => exact .inl rfl
  | cons e t ih =>
    obtain ⟨k, v⟩ := e
    by_cases hx : x = k
    · subst hx; simp [tget_cons]
    · simp only [tget_cons, hx, if_false]; rcases ih with h | h
      · exact .inl h
      · exact .inr (List.mem_cons_of_mem _ h)
theorem tget_forall {α : Type} {P : Nat → α → Prop} {d : α} {t : Tab α} (hd : ∀ x, P x d) (h : ∀ e ∈ t, P e.1 e.2) : ∀ x, P x (tget d t x) := by
  intro x
  rcases tget_mem d t x with hx | hx
  · rw [hx]; exact hd x
  · exact h _ hx
theorem tput_some_map {α β : Type} [DecidableEq α] (f : Nat × Option α → β) (n : Nat) (g h : α) (hf : f (n, some g) = f (n, some h)) :
    ∀ t : Tab (Option α), (tput none n (some g) t).map f = (tput none n (some h) t).map f
  | [] => by simp [tput, hf]
  | (k, v) :: t => by
    by_cases h1 : n = k
    · subst h1; simp [tput, hf]
    · by_cases h2 : n < k
      · simp [tput, h1, h2, hf]
      · simp [tput, h1, h2, tput_some_map f n g h hf t]
theorem objCount_tput {α : Type} [DecidableEq α] (cfg : α → Word) (n t : Nat) (g h : α) (tab : Tab (Option α)) (e : cfg g = cfg h) :
    objCount cfg (tput none n (some g) tab) t = objCount cfg (tput none n (some h) tab) t := by
  have H : ∀ l : Tab (Option α), objCount cfg l t =
      (l.map (fun e => match e.2 with | some a => objTenant (cfg a) == t | none => false)).countP id := by
    intro l; simp only [objCount, List.countP_map]; rfl
  rw [H, H, tput_some_map _ n g h (by simp only [e])]
theorem quotaOk_wpg (n t : Nat) (g h : Wpg) (s : State) (e : g.cfg = h.cfg) :
    quotaOk { s with svc := { s.svc with wpg := tput none n (some g) s.svc.wpg } } t =
      quotaOk { s with svc := { s.svc with wpg := tput none n (some h) s.svc.wpg } } t := by
  simp only [quotaOk, svcUse, trdRoom, listCount, objCount_tput Wpg.cfg n t g h _ e]
theorem quotaOk_alm (n t : Nat) (g h : Alm) (s : State) (e : g.cfg = h.cfg) : quotaOk (putAlm n g s) t = quotaOk (putAlm n h s) t := by
  simp only [putAlm, quotaOk, svcUse, trdRoom, listCount, objCount_tput Alm.cfg n t g h _ e]; rfl
theorem quotaOk_acc (n t : Nat) (g h : AccPt) (s : State) (e : g.cfg = h.cfg) : quotaOk (putAcc n g s) t = quotaOk (putAcc n h s) t := by
  simp only [putAcc, quotaOk, svcUse, trdRoom, listCount, objCount_tput AccPt.cfg n t g h _ e]; rfl
theorem quotaOk_trd (n t : Nat) (g h : Trd) (s : State) (e : g.cfg = h.cfg) (r : g.ring = h.ring) :
    quotaOk (putTrd n g s) t = quotaOk (putTrd n h s) t := by
  have H : trdRoom (putTrd n g s) t = trdRoom (putTrd n h s) t := by
    simp only [trdRoom, putTrd]
    rw [tput_some_map _ n g h (by simp only [e, trdSize, r])]
  simp only [quotaOk, svcUse, H]
  simp only [putTrd, listCount, objCount_tput Trd.cfg n t g h _ e]; rfl
theorem passwordOk_of {s : State} {pw salt : Bytes} (h : s.saf.pw = some (salt, pbkdf2 pw salt 16384)) : passwordOk s pw = true := by
  simp [passwordOk, h]

/-! ### Helper states -/
/-- The channel executes a request for this command. -/
def asks (code : Nat) (ch : Fin 16) (p : Bytes) (s : State) : State :=
  updChan ch.val (fun c => { c with exec := some ⟨1, code, (chanCfg s ch.val).tenant, 0, p, [], none⟩, result := none, started := false }) s
def segs : List Word := [0xC000000003E8#48, 0xA000000003E8#48, 0x880000005000#48, 0xD00000005000#48, 0x980000005000#48, 0x4000000003E8#48, 0x800000000010#48, 0#48, 0x800000001388#48]
def exA : Ex := { phase := 1, core := 0, relAt := 1000, tenant := 3, pc := 100, n := 10, cycles := 5, p := 0xAA#8, segd := segs, w := wputs 0 [5, 0x7FFFFFFFFFFF#48, 0x800000000000#48, 0xFFFFFFFFFFFF#48, 0x000180000000#48, 0xFFFF00000000#48, 17#48, 47#48, 48#48, 63#48, 0x123456789ABC#48, 100#48, 0#48, 3#48, 0x2000#48, 500#48] [], loads := [⟨5, 77#48, 11⟩, ⟨18, 1#48, 10⟩, ⟨6, 99#48, 10⟩], started := [⟨4, 1, 7, 3⟩], plots := [(5, 0x010300000000#48)] }
/-- inside a loop -/
def exB : Ex := { exA with pc := 120, ldepth := 2, lp := wputs 0 [100, 110, 0, 0, 120, 120, 0, 0, 3, 1] [], loads := [], lpPend := [⟨2, 115#48, 12⟩], sat := true }
def exC : Ex := { exA with ldepth := 1, lp := wputs 0 [90, 101, 0, 0, 130, 120, 0, 0, 3, 7] [], loads := [], posts := [321] }
def kv (e : Ex) : State := setCore 0 (some 7) (setEx 7 (some e) { State.reset with clk := 5000, core := { State.reset.core with data := [(0, 9#48)] } })
def op (d s t : BitVec 4) (m : BitVec 2) (imm : BitVec 14) : Kv := ⟨0, 0#3, false, d, s, t, m, imm⟩
def exD : Ex := { exA with w := wputs 0 [7, 0x000000000005#48, 0x200000000006#48, 0x400000000140#48, 0x600000000141#48, 0x600000000001#48, 0x800000000150#48, 0xA00000000001#48, 0xC00000000001#48, 63#48, 0x000000000000#48, 100#48, 0x0000000003E8#48, 3#48, 4#48, 500#48] [] }
def exE : Ex := { exD with imPend := [⟨0x141, 44#48, 12⟩, ⟨0x142, 55#48, 9⟩], outw := [(0x141, 1#48), (0x143, 5#48)], lp := wputs 0 [101, 120, 0, 0, 120, 120, 0, 0, 3, 1] [] }
def slots (e : Ex) : State := updSlot 7 (fun x => { x with cfg := setFld x.cfg 44 40 3, sts := 0x100100000000#48 }) (updSlot 3 (fun x => x) (updLoop 4 (fun l => { l with cfg := setFld l.cfg 44 40 3, isSet := true }) (updLoop 5 (fun l => { l with cfg := setFld l.cfg 44 40 3 }) (kv e))))
/-- a task entry -/
def tcfg (kind t prio : Nat) : Word := setFld (setFld (setFld (setFld (setFld 0#48 47 45 kind) 43 40 prio) 39 32 0xFF) 31 27 t) 21 0 100
def own (src t : Nat) : Word := setFld (setFld (setFld 0#48 47 40 1) 39 37 src) 36 32 t
def ents : Tab TaskEnt := [(7, { cfg := tcfg 1 3 4, par := setFld 0#48 17 0 20, lim := setFld 0#48 17 0 20 }),
  (8, { cfg := tcfg 2 3 5, par := setFld 0#48 8 0 5, lim := setFld 0#48 17 0 100 }),
  (9, { cfg := tcfg 3 0 5, par := setFld (setFld 0#48 47 46 3) 25 0 64, lim := setFld 0#48 17 0 100 }),
  (10, { cfg := tcfg 4 0 5, par := setFld (setFld 0#48 46 39 0) 17 0 20, lim := setFld 0#48 17 0 100 })]
def ok : PlotSt := { upd := 1, valid := true, ageFrom := 2000000000 }
def live : State := { State.reset with
  clk := 2000000000
  aon := { State.reset.aon with inReset := false }
  mb := { State.reset.mb with spi := { State.reset.mb.spi with started := true, view := some 0 } }
  flash := { State.reset.flash with keys := [(0, { transport := 1 }), (1, { tenant := 3, transport := 1 }), (2, { tenant := 3, transport := 2, tagreq := true, key := List.replicate 32 7#8 })] }
  task := { State.reset.task with dev := 2, dispAt := some 0, gridA := some 1000000, ent := ents }
  prog := { State.reset.prog with seg := [(3, { ({} : SegInfo) with l0 := 100, l1 := 50, l2 := 4 })], codeLen := [(0, 5000), (3, 5000)] }
  img := { State.reset.img with own := [(5, own 0 3), (6, own 3 3), (7, own 1 0), (8, own 2 3), (9, own 0 0)], plot := [(5, ok), (6, ok), (7, ok), (8, ok), (9, ok)] } }
def ended : Ex := { exA with phase := 3, tendAt := 1500, outw := [(320, 77#48)], imPend := [⟨321, 88#48, 12⟩], posts := [5, 323] }
def evLive : State := setPending 5 true (setEvtSrc 5 (setFld (setFld (setBit (setBit 0#48 22 true) 23 true) 31 24 8) 4 0 3) live)
def posLive : State := { live with tb := { live.tb with pos := 200 }, task := { live.task with ent := tupd {} 9 (fun e => { e with posSeen := 60 }) live.task.ent } }
def forced1 : State := { live with task := { live.task with force := [(321, some ⟨0x5#48, 0x4#48, 0x3#48, 0⟩)] } }
def retLive : State := { updRet 3 (fun r => { r with from_ := 500000000, expert := true }) live with prog := { live.prog with seg := [(3, { l0 := 100, l1 := 50, l2 := 4, retOff := 8 })] } }
/-- module 4 on MAC0 (bus 4), tenant 3, two words in at 512, two words out at 322 -/
def rmod : Word := setFld (setFld (setFld (setFld (setFld (setFld 0#48 47 45 4) 44 40 3) 39 25 512) 24 20 2) 19 5 322) 4 0 2
def rio1 : Rio := { mod := rmod, tmo := wd (77 * 2 ^ 16 + 2 ^ 15 + 50), ip := 0x0A0000050000#48, subst := [5#48, 6#48], lastSeq := some 65535, lastAt := 1900000000, active := true }
def rioLive : State := updRio 4 (fun _ => rio1) live
/-- axle 0 in TRACK with a period of 1 ms -/
def ax : Axle := { cfg := wd (80 * 2 ^ 36 + 60000 * 2 ^ 18 + 2 ^ 15 + 35 * 2 ^ 8), state := 3, tp := 1000000, tLast := some 1999000000, lastAcc := some 1999000000, miss := 1, v := 1000, raw := 1000, agreed := [(1, 1000, 1900000000)], admitted := true }
def axLive : State := updAxle 0 (fun _ => ax) { live with tb := { live.tb with lpCfg := 0x321414281400#48, pos := 500, speed := 123456789, posFrac := 63999999, fix := [(7, 5)], lpOk := true } }
def mains1 : Mains := { cfg := wd (2 ^ 45 + 200 * 2 ^ 36), state := 2, system := 2, freq := 50000, run := 50000, t0 := 1000000000, a0 := 65536, lastX := 1990000000 }
def mnLive : State := updMains 1 (fun _ => mains1) live
def slotW (base act lane word : Nat) : Word := wd (base * 2 ^ 45 + 3 * 2 ^ 40 + act * 2 ^ 36 + 2 ^ 32 + word * 2 ^ 6 + lane)
def slot1 : Slot := { cfg := slotW 0 1 47 321, tgt := wd 1999999999, sts := 0x100100000000#48 }
def slLive : State := updSlot 2047 (fun _ => slot1) (updSlot 9 (fun _ => { cfg := slotW 0 4 0 322, tgt := wd 2000000000, arg := 0xABC#48, sts := 0x1FFF00000000#48 }) (updSlot 8 (fun _ => { cfg := slotW 0 0 0 0 }) live))

/-- loop 5: RATE, tenant 3, one state, one input, one output, integrating -/
def loop5 : CeLoop := { cfg := wd (1 * 2 ^ 45 + 3 * 2 ^ 40 + 2 ^ 39 + 2 ^ 38 + 1 * 2 ^ 31), trig := wd (1000 * 2 ^ 28), map := [wd (512 * 2 ^ 33 + 513 * 2 ^ 18 + 330 * 8)] ++ List.replicate 7 0#48, isSet := true, coef := [1,2,3,4,5,6,7,8,0,100,11,12], xh := [4], q := [5], status := 0xFFFF00000000#48, stage := some [1,2,3,4,5,6,7,8,5,5,11,12], flag := 0x7F#48 }
def loop6 : CeLoop := { loop5 with cfg := setFld loop5.cfg 47 45 3, trig := 0#48 }
def inj0 : CeInj := { reg := wd (5 * 2 ^ 39 + 1 * 2 ^ 36), active := true, cap := [[1, 2, 3, 4], [5, 6, 7]], seq0 := 9, dt0 := 77, div := 3, want := 5 }
def ceLive : State := updInj 1 (fun _ => inj0) (updLoop 7 (fun x => { x with cfg := setFld x.cfg 44 40 3 }) (updLoop 6 (fun _ => loop6) (updLoop 5 (fun _ => loop5) { mnLive with clk := 2001000000 })))
def Q : Word := 0xFFFFFFFFFFFF#48
def wpg1 : Wpg := { cfg := wd (3 * 2 ^ 43 + 2 ^ 41 + 47 * 2 ^ 33 + 333 * 2 ^ 18 + 2 ^ 17), read := 2, points := List.replicate 15 [(0, 1#48)] }
def alm1 : Alm := { cfg := wd (3 * 2 ^ 43 + 1 * 2 ^ 40 + 512 * 2 ^ 17 + 2 * 2 ^ 8 + 2 ^ 7), lim := 10#48, hys := 2#48, read := 1, raw := true, since := 1000000000, trn := 65535 }
def trd1 : Trd := { cfg := wd (3 * 2 ^ 43 + 2 * 2 ^ 40 + 513 * 2 ^ 18 + 10), ring := wd (2 ^ 32 + 1), db := 0#48, next := 5, samples := [⟨5, 6#48, 7, 0⟩, ⟨4, 3#48, 2, 1⟩] }
def open1 : EnOpen := { num := 9, start := 0, steps := 3, sys := 2, flags := 1, imp := 2 ^ 33, exp := 5 }
def mtr1 : Mtr := { cfg := wd (3 * 2 ^ 43 + 2 * 2 ^ 40 + 512 * 2 ^ 25), scale := 1#48, read := 0, rec_ := some open1, ref0 := some 3#48 }
def acc1 : Machine.AccPt := { cfg := wd (3 * 2 ^ 43 + 15 * 2 ^ 38 + 514 * 2 ^ 23 + 334 * 2 ^ 8 + 47 * 4), tim := wd (100 * 2 ^ 32 + 5 * 2 ^ 26), pres := some 4, grant := some 2000000000, deny := some 1 }
def svLive : State := { live with
  clk := 2001000000
  img := { live.img with word := [(512, 11#48), (513, 0xFF#48), (514, wd (77 * 65536 + 5))] }
  silo := { live.silo with enNext := 40, enRing := [⟨7, 1, 2, 1, 2, 3, 4, 5⟩], enTotal := [(18, (2 ^ 33, 2 ^ 31))] }
  svc := { live.svc with
    quota := [(0, wd (100 * 2 ^ 38 + 100 * 2 ^ 29 + 50 * 2 ^ 21 + 30 * 2 ^ 14 + 30 * 2 ^ 7 + 30)), (3, wd (4 * 2 ^ 38 + 4 * 2 ^ 29 + 2 * 2 ^ 21 + 4 * 2 ^ 14 + 4 * 2 ^ 7 + 4))]
    wpg := [(5, some wpg1), (6, some { wpg1 with last := some 1#48 })], alm := [(8191, some alm1)], trd := [(4095, some trd1)]
    mtr := [(1, some mtr1)], acc := [(255, some acc1)], list := [(3 * 2 ^ 32 + 77, some ⟨0x8000, none, 0⟩)] } }
def map0w : Word := wd (448 * 2 ^ 33 + 449 * 2 ^ 18 + 576 * 8)
def map1w : Word := wd (450 * 2 ^ 33 + 577 * 2 ^ 18 + 454 * 8)
/-- a die at work -/
def dieOn : FioDie := { ({} : FioDie) with silent := false, fresh := false, frameAt := 1999900000, serves := true, gateStop := none, reportAt := 1999000000, sentFc := wd 0xFFFF, sentAo := [1, 2, 3, 4] }
def fcc (m : Nat) : Word := wd (m * 2 ^ 45 + 2 ^ 44 + 3 * 2 ^ 42 + 2 ^ 41 + 2 ^ 25 + 3 * 2 ^ 21 + 100 * 2 ^ 13 + 50 * 2 ^ 6)
def fcOn (m : Nat) : FcCh := { ({} : FcCh) with cfg := fcc m, live := fcc m, cmd := true, on := true, granted := 1000000000, edges := 65535 }
def aiw : Word := wd (2 * 2 ^ 46 + 2 ^ 45)
def aow : Word := wd (2 ^ 47 + 2 ^ 46 + 2 ^ 45 + 2 * 2 ^ 43)
def fioLive : State := { live with fio := { live.fio with
  map0 := map0w, map1 := map1w
  fc := [(0, { fcOn 1 with on := false, cmd := false }), (4, fcOn 3), (5, fcOn 3), (8, fcOn 4), (9, fcOn 4), (16, fcOn 3), (31, { fcOn 2 with on := false, cmd := false })]
  grp := [(2, { cfg := wd (2 * 2 ^ 45), live := wd (2 * 2 ^ 45) })]
  die := [(0, dieOn), (1, dieOn), (2, dieOn), (3, dieOn)]
  ai := [(0, { cfg := aiw, live := aiw, word := 77#48 }), (3, { cfg := wd (2 ^ 46), live := wd (2 ^ 46), word := 5#48 })]
  ao := [(0, { cfg := aow, live := aow, cmd := mA 100 }), (3, { cfg := wd (2 ^ 47 + 2 ^ 43), live := wd (2 ^ 47 + 2 ^ 43), cmd := mA 200 })] } }
def rawBlk : List Word := 0#48 :: List.replicate 16 (wd (30 * 2 ^ 36)) ++
  [wd (1 * 2 ^ 45 + 0 * 2 ^ 40 + 1 * 2 ^ 36 + 2 ^ 35 + 2 * 2 ^ 31), 0#48, wd (2 * 2 ^ 45 + 3 * 2 ^ 40 + 4 * 2 ^ 36), 0#48,
   wd (3 * 2 ^ 45 + 5 * 2 ^ 40 + 6 * 2 ^ 36), 0#48, wd (4 * 2 ^ 45 + 7 * 2 ^ 40 + 8 * 2 ^ 36), 0#48,
   wd (5 * 2 ^ 45 + 9 * 2 ^ 40 + 10 * 2 ^ 36), 0#48, wd (6 * 2 ^ 45), 0#48] ++ List.replicate 20 0#48 ++
  [wd (64 * 2 ^ 36 + 90000 * 2 ^ 18), wd (64 * 2 ^ 36 + 90000 * 2 ^ 18), wd (2 ^ 32), wd (2 ^ 33), wd (2 ^ 36), wd (63 * 2 ^ 32)]
def blk : List Word := deriveBlock rawBlk
def iRun : SafInst := { st := 4, a := true, b := true, opened := true, ready := true, motion := 1000000000, aAt := 1000000000, bAt := 1000000000 }
def insts : Tab SafInst := [(0, iRun), (1, iRun), (2, iRun), (3, iRun), (4, iRun), (5, iRun)]
def hi : SafIn := { high := true }
def pRun : SafPathSt := { inp := [(0, hi), (1, hi), (2, {}), (3, hi), (4, hi), (5, hi), (6, hi), (7, hi), (8, hi), (9, hi), (10, hi)], inst := insts, sw := 0xF#4, frameAt := 1999900000 }
def safS (st : Nat) : State := { fioLive with
  saf := { fioLive.saf with state := st, mode := 1, block := blk, check := some (blockCheck blk), path := [(0, pRun), (1, pRun)], current := 1#4, map := wd (458 * 2 ^ 33 + 580 * 2 ^ 18) } }
def safLive : State := safS 5
def fr (id : Nat) (l : Nat) : CanFrame := ⟨id, false, true, true, false, false, List.replicate l 0x5A#8⟩
def frx (id : Nat) (l : Nat) : CanFrame := ⟨id, true, false, false, false, false, List.replicate l 0x5A#8⟩
def quew (tx t fst cnt : Nat) : Word := wd (tx * 2 ^ 47 + t * 2 ^ 42 + 2 ^ 41 + fst * 2 ^ 34 + cnt * 2 ^ 26)
def can0 : CanCtl := { ({} : CanCtl) with
  ctl := wd (2 ^ 47 + 2 ^ 46 + 2 ^ 45 + 3 * 2 ^ 41 + 2 ^ 40 + 10 * 2 ^ 32 + 2 ^ 31), bstate := 1, tec := 5, rec_ := 7
  que := [(0, 0x000080000000#48), (1, 0x800040000000#48), (2, quew 1 3 16 40), (3, quew 0 3 32 2)]
  qtx := [(2, wd (0x100 * 2 ^ 37 + 11 * 2 ^ 8))]
  flt := [(5, wd (0x7F0 * 2 ^ 37 + 2 ^ 17 + 3 * 2 ^ 13 + 4 * 2 ^ 8)), (127, wd (0x1234567 * 2 ^ 19 + 2 ^ 18 + 2 ^ 17 + 3 * 2 ^ 13))]
  rx := [(3, [⟨fr 0x7F1 12, 77⟩])]
  buf := [(16, { state := 1, queue := 2, frame := some (fr 0x101 8), handle := some 9, since := 1000000000 }), (17, { state := 1, queue := 2, frame := some (fr 0x100 0), handle := some 10 }), (18, { state := 1, queue := 2, frame := some (fr 0x100 64), handle := some 11 })]
  res := [(2, [⟨7, 3, 1, 55⟩])], nextHandle := 12 }
def canLive : State := { live with can := { live.can with ctl := [(0, can0), (3, { can0 with bstate := 2, tec := 200 })] } }
def me : Nat := 0x0A000001
def mac0 : EthMac := { ({} : EthMac) with
  cfg := wd (2 ^ 47 + 2 ^ 46 + 2 ^ 45 + 5 * 2 ^ 22 + 6 * 2 ^ 16), mac := 0x0000000000A5#48, ip := wd (me * 2 ^ 16 + 24 * 2 ^ 10), up := true, mbps := 100
  arp := [(0x0A000002, some ⟨7, 1000000000⟩)]
  wait := [(0x0A000003, some ⟨1900000000, 1, [(0x0A000003, .icmpEcho me 0x0A000003 [1#8]), (0x0A000003, .icmpEcho me 0x0A000003 [2#8])]⟩), (0x0A000004, some ⟨1000000000, 3, [(0x0A000004, .icmpEcho me 0x0A000004 [1#8])]⟩)]
  reasm := [⟨0x0A000002, 9, 1900000000, [⟨0x0A000002, me, 999, 52410, 9, 0, true, [1#8, 2#8]⟩]⟩]
  seq := [(1000, 0xFFFFFFFF)] }
def sub0 : Trdp := { ({} : Trdp) with pd := wd (3 * 2 ^ 42 + 2 ^ 41 + 2 ^ 38 + 1 * 2 ^ 36 + 512 * 2 ^ 21 + 2 * 2 ^ 14 + 100), com := wd (2000 * 2 ^ 16), ip := wd (0xE0000001 * 2 ^ 16), last := some 0xFFFFFFFE, lastAt := 1900000000 }
def pub0 : Trdp := { ({} : Trdp) with pd := wd (2 ^ 47 + 3 * 2 ^ 42 + 2 ^ 41 + 322 * 2 ^ 21 + 3 * 2 ^ 14 + 1), com := wd (1000 * 2 ^ 16), ip := wd (0xE0000002 * 2 ^ 16) }
def mst : PtpMaster := ⟨10, 6, 0x20, 5, 128, 77⟩
def tgm (com seq n src dst bad : Nat) : Telegram :=
  let t : Telegram := ⟨src, dst, 0x0100#16, 0x5064#16, com, 0, 0, n, 0, 0, 0, 0, seq, 40 + n, List.replicate n 0x5A#8⟩
  { t with headerFcs := trdpFcs t + bad }
def ptp0 : Ptp := { ({} : Ptp) with cfg := wd (2 ^ 47 + 2 ^ 40 + 3 * 2 ^ 32 + 128 * 2 ^ 24 + 128 * 2 ^ 16), state := 9, master := some mst, delay := some 500, lastSync := 1000000000 }
def ethLive : State := { live with
  clk := 2001000000
  pair := { live.pair with rstate := 2 }
  eth := { live.eth with mac := [(0, mac0), (1, { mac0 with up := false, ip := wd (0x0A010001 * 2 ^ 16 + 24 * 2 ^ 10), reasm := [] }), (2, { mac0 with cfg := mac0.cfg ||| wd (100 * 2 ^ 25) })], trdp := [(0, sub0), (7, { sub0 with pd := wd (3 * 2 ^ 42 + 2 ^ 41 + 514 * 2 ^ 21 + 2 * 2 ^ 14 + 100), com := wd (2001 * 2 ^ 16), last := none }), (255, pub0)], ptp := ptp0 } }
def pf (b : PassBody) (origin lseq len : Nat) : PassFrame := passSeal { wellFormed := true, fcsOk := true, dest := passDest, sender := 77, ver := 1, check := 0, origin, hops := 255, cycle := 0xFFFFFFFF, lseq, lack := 0, credit := 0, len, group := 15, chg := false, frag := 0, frags := 0, body := b }
def prt : PassPort := { ({} : PassPort) with up := true, d := 700, rxSeq := 65535, txSeq := 65535, used := 5, retry := [⟨pf .idle 1 65534 64, 1, false⟩, ⟨pf (.marker 5 6) 1 65535 64, 1, false⟩], lastTx := 2000000000 }
def rec2 : InaugRec := ⟨77, 2, false, true, 1, 0, 0, 5⟩
def chg0 : ChainChange := ⟨2, 0, 0, [20#8], 5⟩
def passLive : State := { live with
  clk := 2001000000
  pair := { live.pair with rstate := 2 }
  img := { live.img with own := [(5, own 0 3), (6, own 3 3), (7, own 1 0), (8, own 2 3), (9, own 0 0), (10, setFld (own 0 3) 47 40 2)], plot := [(5, ok), (6, ok), (7, ok), (8, ok), (9, ok), (10, { pub := wd (15 * 2 ^ 20 + 2 ^ 16) })] }
  pass := { live.pass with
    cfg := wd (2 ^ 40 + 2 ^ 39 + 10 * 2 ^ 28 + 3 * 2 ^ 24 + 200 * 2 ^ 16), id := 99, port := [(0, prt), (1, prt)], cstate := 2, master := 2, ecycle := 10
    member := [(2, { mstate := 3, passId := 77, hops := 1 })], cycle := 0xFFFFFFFF, cycAt := 1990000000, gridOn := true, markers := 50
    pub := [(2 * 16 + 15, { last := some 0xFFFFFFFE, seen := 49 })] } }
def pairOf (r : Nat) : Pair := { ({} : Pair) with
  cfg := wd (2 ^ 47 + 2 ^ 46 + 2 ^ 45 + 0 * 2 ^ 43 + 5 * 2 ^ 40), rstate := r, syncOk := true, aliveOk := true, pinn := 7, pRstate := 2, volleyAt := some 2000990000
  rxNum := 10, rxNew := false, resyncs := 3, resends := 1, sentAt := 2000990000, heardAt := 1900000000 }
def prLive (r : Nat) : State := { ethLive with
  pair := { pairOf r with cfg := wd (2 ^ 47 + 2 ^ 46 + 2 ^ 45 + 5 * 2 ^ 40) }
  silo := { ethLive.silo with innings := 6 } }
/-- a valid volley of unit B -/
def vol (r : Nat) : Volley := { crcOk := true, rstate := r, innings := 6, pinn := 6, mode := 2, fault := false, srvOut := false, pairDevtime := 2001000100#48, wallNs := 55, wallDev := 2000000000, rho := 77, ack := 0, expected := none, fwMajor := ethLive.flash.fwVersion.1, fwMinor := ethLive.flash.fwVersion.2.1, fwPatch := ethLive.flash.fwVersion.2.2, progHash := ethLive.prog.hash, cfgHash := ethLive.ovl.hash, pairId := true, pos := 1, commit := false }
def page0 : ResyncPage := { final := true, dataWords := [(9, 1#48), (5, 2#48)], image := [(700, 3#48), (320, 4#48)], loops := [], slots := [(5, 1#48, 2#48, 3#48)], forces := [], modes := [2, 1], alarms := [], meters := [], entries := [], programmes := [], grid := 77 }
/-- an overlay's content: two items of T3, an access point item that its command refuses... (empty sections) -/
def itemB (cmd : Nat) (p : Bytes) : Bytes := toBe 2 cmd ++ toBe 2 p.length ++ p
/-- a calendar zone offset item (0x0803 is T0's CE allocation?), here the energy system of a meter -/
def ovC (d : OvlDesc) (items : Bytes) (t : Nat) : Bytes := ovlContent d [⟨1, t, items⟩]
def cpy (region index : Nat) (b : Bytes) : Nat × Option Block := ((regionBlocks region index).1, some (copyBlock region index 0 3 b))
def d0 : OvlDesc := ⟨1, 3, false⟩
def d1 : OvlDesc := ⟨2, 15, false⟩
def progB : Bytes := toBe 4 0x50494D47 ++ [1#8, 0#8, 0#8, 0#8] ++ toBe 8 0
def ovLive : State := { svLive with
  flash := { svLive.flash with
    ovl := [(0, d0), (1, d1), (2, ⟨1, 3, true⟩), (63, ⟨4, 0, false⟩)]
    block := [(54, some (copyBlock 1 1 0 2 [1#8])), cpy 2 1 progB, cpy 4 1 (ovC d1 [] 3)] }
  ovl := { svLive.ovl with set := [0xFE, 0xFE, 0xFE, 0xFE], staging := none } }
def stg : Staging := ⟨3, 0, 16, crc32 (toBe 4 0x42434647 ++ [1#8, 0#8, 0#8, 0#8] ++ toBe 8 0), (List.range 16).map (fun i => (i, some ((toBe 4 0x42434647 ++ [1#8, 0#8, 0#8, 0#8] ++ toBe 8 0).getD i 0#8))), 0, 0, 2000000000⟩
def job1 : FlashJob := ⟨3, 1, 5, [1#8, 2#8], [430], 4⟩
def ge : GlnEv := glnEv 0x0401 3 3 7 8 live
def glLive : State := { live with
  clk := 2001000000
  gln := { live.gln with queue := [ge, { ge with p1 := 9 }] }
  silo := { live.silo with nextSeq := 0xFFFFFFFF, ring := [(3, some ⟨3, ge⟩)], hold := [] }
  rtc := { live.rtc with sec := 100, sub := 5, cal := -200, oscStop := false } }
def supLive : State := { evLive with
  clk := 2001000000
  sup := { evLive.sup with wdgState := 2, wdgAt := 1926000000, question := 0xACE1 }
  silo := { evLive.silo with resetLog := [⟨3, 1, 77⟩, ⟨1, 0, 5⟩], resets := 9 } }
def evs (n : Nat) (s : State) : State := setPending n false (setEvtSrc n (setFld (setBit (setBit 0#48 22 true) 23 true) 4 0 0) s)
def wakeLive : State := { canLive with
  clk := 2001000000
  can := { canLive.can with ctl := [(0, { can0 with bstate := 5, frameErr := 31, wid := wd (0x101 * 2 ^ 37), wake := 0x028640000000#48 }), (3, { can0 with bstate := 5 })] }
  rtc := { canLive.rtc with sec := 100 }
  aon := { canLive.aon with wakeOpen := true, canKind := [(0, 3), (3, 2)], wakeCfg := wd (2 ^ 47 + 2 ^ 45), alarm := 100#48 } }
/-- The code at PC spells the row of opcode opc, of len syllables, with operands o. -/
def spell (opc len : Nat) (o : Kv) (e : Ex) (s : State) : State :=
  let at_ := e.tenant * 2 ^ 22 + e.pc
  let code := tput 0 at_ (o.g.toNat * 2 ^ 11 + (if o.n then 1024 else 0) + (len - 1) * 256 + opc)
    (tput 0 (at_ + 1) (if len = 1 then 0 else o.d.toNat * 1024 + o.s.toNat * 64 + o.t.toNat * 4 + o.m.toNat)
      (tput 0 (at_ + 2) o.imm.toNat s.prog.code))
  { s with prog := { s.prog with code := code } }
/-- a sample of loop 4 started, its distance past and its result there -/
def exS : Ex := { exA with w := [(1, 4#48)], done := [⟨4, [1, 2, 3, 4, 5, 6, 7, 8], setFld 0#48 47 32 1⟩] }
/-- past its code -/
def exZ : Ex := { exA with pc := 5000 }

/-- A channel that `asks` has set up asks for its command. -/
theorem asked_asks {i : Fin 16 → Bytes → Instr} {ch : Fin 16} {p : Bytes} {s : State} {code : Nat} (h : commandCode (i ch p) = code) :
    Asked i ch p (asks code ch p s) := by
  subst h
  simp [Asked, asked, asks, getChan, updChan]
theorem passwordOk_asks {pw salt : Bytes} {s : State} {code : Nat} {ch : Fin 16} {p : Bytes} (h : s.saf.pw = some (salt, pbkdf2 pw salt 16384)) :
    passwordOk (asks code ch p s) pw = true := passwordOk_of (s := asks code ch p s) h
theorem asks_saf (code : Nat) (ch : Fin 16) (p : Bytes) (s : State) : (asks code ch p s).saf = s.saf := rfl
theorem e2eRight_seal {f : PassFrame} (h : passNumbered f.body = true) : e2eRight (passSeal f) = true := by
  simp [e2eRight, passSeal, h, passCheck]
theorem issues_of {i : Kv → Instr} {o : Kv} {len k : Nat} {e : Ex} {s : State} (h : kvAt o.core e s = some (i o) ∧ codeLenAt s e.tenant e.pc = len ∧
    (coreTask s o.core.val = some k ∧ taskEx s k = some e) ∧ (e.phase = 1 ∧ e.overBudget = false ∧ fetchOk e len = true) ∧
    (∀ j, j < len → s.core.codeSoft.contains (e.tenant * 2 ^ 22 + (e.pc + j)) = false) ∧ guardTrue o e = true ∧
    (budgetOf s k = 0 ∨ e.cycles + 1 ≤ budgetOf s k)) : KvIssues i o len k e s := by
  obtain ⟨h1, h2, ⟨h3, h4⟩, ⟨h5, h6, h7⟩, h8, h9, h10⟩ := h
  exact { coded := h1, length := h2, onCore := h3, running := h4, phase := h5, within := h6, fetched := h7, intact := h8, guard := h9, paid := h10 }
theorem skips_of {i : Kv → Instr} {o : Kv} {len k : Nat} {e : Ex} {s : State} (h : kvAt o.core e s = some (i o) ∧ codeLenAt s e.tenant e.pc = len ∧
    (coreTask s o.core.val = some k ∧ taskEx s k = some e) ∧ (e.phase = 1 ∧ e.overBudget = false ∧ fetchOk e len = true) ∧
    (∀ j, j < len → s.core.codeSoft.contains (e.tenant * 2 ^ 22 + (e.pc + j)) = false) ∧ guardTrue o e = false ∧
    (budgetOf s k = 0 ∨ e.cycles + 1 ≤ budgetOf s k)) : KvSkips i o len k e s := by
  obtain ⟨h1, h2, ⟨h3, h4⟩, ⟨h5, h6, h7⟩, h8, h9, h10⟩ := h
  exact { coded := h1, length := h2, onCore := h3, running := h4, phase := h5, within := h6, fetched := h7, intact := h8, guard := h9, paid := h10 }
/-! ### Well-formedness (what cannot stand on the wires) -/

def payload (n : Nat) : Bytes := List.replicate n 0#8

/-- One ill-formed command for each check of WellFormed.lean that a frame of the mailbox, of a bus or of the network carries. -/
theorem test_wf_refuses_commands : (
  [.mbNop 0 (payload 4065), .spiPollFrame ⟨[0x5A03#16], 17⟩, .udpMailboxDatagram 0 (2 ^ 32) 0 [], .udpMailboxDatagram 0 0 65536 [],
   .udpMailboxDatagram 0 0 0 (payload 65508), .mainsZeroCrossing 0 50000 0 (2 ^ 31), .mainsZeroCrossing 0 50000 0 (-2 ^ 31 - 1),
   .canFrameReceived 0 (.frame ⟨2048, false, false, false, false, false, []⟩) 0,
   .canFrameReceived 0 (.frame ⟨2 ^ 29, true, false, false, false, false, []⟩) 0,
   .canFrameReceived 0 (.frame ⟨1, false, false, false, false, false, payload 9⟩) 0,
   .canFrameReceived 0 (.frame ⟨1, false, true, false, false, false, payload 13⟩) 0,
   .canFrameReceived 0 (.frame ⟨1, false, true, false, false, true, []⟩) 0,
   .canFrameReceived 0 (.frame ⟨1, false, false, true, false, false, []⟩) 0,
   .canFrameReceived 0 (.error 0 0) 0, .canTxAttemptEnd 0 (.error 0 false 0) 0,
   .canWakeFrame 0 ⟨.frame ⟨2048, false, false, false, false, false, []⟩, 0⟩, .ethLinkChange 0 true 50, .arpRetry 0 (2 ^ 32), .arpEntryAge 0 (2 ^ 32),
   .reassemblyTimeout 0 (2 ^ 32) 0, .reassemblyTimeout 0 0 65536] : List Instr).all (fun i => !i.wf) = true := by decide +kernel

/-- One ill-formed frame body for each check of the network's, the chain's and the pair's frames. -/
theorem test_wf_refuses_frames : (
  [.ethFrameReceived 0 ⟨true, 64, some (4096, 0), true, .other⟩, .ethFrameReceived 0 ⟨true, 64, some (0, 8), true, .other⟩,
   .ethFrameReceived 0 ⟨true, 64, none, true, .arpRequest (2 ^ 48) 0 0⟩, .ethFrameReceived 0 ⟨true, 64, none, true, .arpReply 0 (2 ^ 32) 0⟩,
   .ethFrameReceived 0 ⟨true, 64, none, true, .icmpEcho 0 (2 ^ 32) []⟩, .ethFrameReceived 0 ⟨true, 64, none, true, .udp ⟨0, 65536, 0, 0, []⟩⟩,
   .ethFrameReceived 0 ⟨true, 64, none, true, .fragment ⟨0, 0, 0, 0, 65536, 0, true, []⟩⟩,
   .ethFrameReceived 0 ⟨true, 64, none, true, .ptp true (.delayReq 0 (2 ^ 64) 0)⟩,
   .trdpTelegramReceived 0 { tgm 2000 0 12 5 me 0 with comId := 2 ^ 32 }, .trdpTelegramReceived 0 { tgm 2000 0 12 5 me 0 with replyIp := 2 ^ 32 },
   .ptpMessage ⟨true, none, true, .sync 256 0 0 0⟩, .ptpMessage ⟨true, some (0, 8), true, .sync 0 0 0 0⟩, .ptpMessage ⟨true, none, true, .sync 0 (2 ^ 64) 0 0⟩,
   .ptpMessage ⟨true, none, false, .delayResp 0 0 (2 ^ 64) 0⟩,
   .ptpMessage ⟨true, none, true, .announce 0 ⟨256, 0, 0, 0, 0, 0⟩ 0 0 true⟩, .ptpMessage ⟨true, none, true, .announce 0 ⟨0, 0, 0, 65536, 0, 0⟩ 0 0 true⟩,
   .passFrameReceived 0 { pf .idle 1 0 64 with origin := 256 }, .passFrameReceived 0 { pf .idle 1 0 64 with group := 16 },
   .passFrameReceived 0 { pf .idle 1 0 64 with dest := 2 ^ 48 }, .passFrameReceived 0 { pf .idle 1 0 64 with sender := 2 ^ 48 },
   .passFrameReceived 0 { pf .idle 1 0 64 with ver := 256 }, .passFrameReceived 0 { pf .idle 1 0 64 with check := 2 ^ 32 },
  
   .passFrameReceived 0 { pf (.resend (2 ^ 32)) 1 0 64 with cycle := 0 }, .passFrameReceived 0 (pf (.pub [⟨320, 0, List.replicate 64 0⟩]) 1 0 64),
   .passFrameReceived 0 (pf (.pub [⟨0, 0, []⟩]) 1 0 64), .passFrameReceived 0 (pf (.inaug { rec2 with pos := 256 }) 1 0 64),
   .passFrameReceived 0 (pf (.change .announce { chg0 with tenant := 32 }) 1 0 64), .passFrameReceived 0 (pf (.change (.refuse 65536) chg0) 1 0 64),
   .passFrameReceived 0 (pf (.echo (2 ^ 48) 0) 1 0 64), .passFrameReceived 0 (pf (.marker (2 ^ 32) 0) 1 0 64), .passResendReceived 0 (2 ^ 32),
   .crossMonFrame .processor ⟨true, 2 ^ 32, 0, 0, 0, 0⟩, .crossMonFrame .processor ⟨true, 0, 0, 0, 2 ^ 64, 0⟩,
   .volleyReceived { vol 8 with rstate := 8 }, .volleyReceived { vol 3 with mode := 256 },
   .pairRecordReceived (2 ^ 32) true (.unit []), .pairRecordReceived 0 true (.unit [(20480, 0)]), .pairRecordReceived 0 true (.commit 256 0 0 0),
   .pairRecordReceived 0 true (.slot 2048 0 0), .pairRecordReceived 0 true (.send 0 0 (2 ^ 32)), .pairRecordReceived 0 true (.change 32 0 []),
   .pairRecordReceived 0 true (.service [(8192, ⟨false, 0, false, 0, 0, none, 0⟩)] []),
   .resyncRound { page0 with image := [(20480, 0)] }, .resyncRound { page0 with modes := List.replicate 34 0 }] : List Instr).all (fun i => !i.wf) = true := by decide +kernel

theorem test_wf_accepts : ([.mbNop 0 (payload 4064), .add (op 1 2 3 0 0), .canFrameReceived 0 (.frame ⟨2047, false, true, true, true, false, payload 64⟩) 0,
    .volleyReceived (vol 7), .resyncRound page0] : List Instr).all (·.wf) = true := by decide +kernel

/-- No row of the table gives bits, so no word spells a command, and a state takes no command from a word. -/
theorem test_no_word_spells_a_command : decodeTableWord 14 0x1234 = none ∧ live.withFetchWord 14 0x1234 = live := ⟨rfl, rfl⟩

/-! ### Values that the spec works out itself -/

/-- 00 R7: how one word travels on SPI. -/
theorem test_word_order : packUnits (wB 0x0123456789AB#48) = [0x0123#16, 0x4567#16, 0x89AB#16] := by decide +kernel
/-- 02 R59 and 17 R426: the check values over the nine ASCII bytes "123456789". -/
theorem test_crc : crc32 ((List.range 9).map (fun i => BitVec.ofNat 8 (0x31 + i))) = 0xCBF43926 ∧
    crc16 ((List.range 9).map (fun i => BitVec.ofNat 8 (0x31 + i))) = 0x29B1 := by decide +kernel

/-- The execution of task 7 after one instruction. -/
def after (row : Kv → Instr) (opc len : Nat) (o : Kv) (e : Ex) : Option Ex :=
  match exec (row o) (spell opc len o e (kv e)) with | .next t => taskEx t 7 | _ => none

/-- 04 R108: 1.5 times −1.0 is −1.5. -/
theorem test_mulq : (after .mulq 0x14 2 (op 2 1 3 2 0) { exA with w := wputs 0 [0, 0x000180000000#48, 0, 0xFFFF00000000#48] [] }).map (rW · 2) =
    some 0xFFFE80000000#48 := by decide +kernel

/-! The worked case of 03 (48 door lights), one instruction at a time: the door words as they stand there. -/

def lanes (l : List Nat) : Word := wd (l.map (2 ^ ·)).sum
/-- W2 DOOR_OPEN, W3 RELEASED, W4 OBSTR, W5 control, W6 the previous OBSTR, W7 the latches, W10 to W12 on the way. -/
def doors (w10 w11 w12 : Word) : Ex :=
  { exA with w := wputs 2 [lanes [4, 17], lanes [30, 31, 32, 33, 34, 35], lanes [17], 1#48, 0#48, 0#48, 0#48, 0#48, w10, w11, w12] [], loads := [] }
theorem test_doors_splat : (after .shSplat 0x47 3 (op 10 5 0 0 0) (doors 0 0 0)).map (rW · 10) = some 0xFFFFFFFFFFFF#48 ∧
    (after .shSplat 0x47 3 (op 12 5 0 0 5) (doors 0 0 0)).map (rW · 12) = some 0#48 := by decide +kernel
theorem test_doors_edge : (after .edge 0x45 2 (op 11 4 6 0 0) (doors 0 0 0)).map (rW · 11) = some 0x000000020000#48 := by decide +kernel
theorem test_doors_latch : (after .latch 0x46 2 (op 7 11 12 0 0) (doors 0 0x000000020000#48 0)).map (rW · 7) = some 0x000000020000#48 ∧
    (after .latch 0x46 2 (op 7 11 12 0 0) (doors 0 0x000000020000#48 0x000000020000#48)).map (rW · 7) = some 0#48 := by decide +kernel
theorem test_doors_light : (after .andn 0x43 2 (op 10 10 7 0 0) { doors (lanes [4, 17, 30, 31, 32, 33, 34, 35]) 0 0 with
    w := wputs 7 [lanes [17], 0, 0, lanes [4, 17, 30, 31, 32, 33, 34, 35]] [] }).map (rW · 10) = some 0x000FC0000010#48 := by decide +kernel
/-- 03 R93, the worked case's last paragraph: a loaded register still has its old value at distance 1. -/
theorem test_load_distance : (after .shSplat 0x47 3 (op 10 5 0 0 0) { doors 0 0 0 with w := [], loads := [⟨5, 1#48, 13⟩] }).map (rW · 10) = some 0#48 := by
  decide +kernel

/-! ### One step of the queue -/

/-- The front command runs, the rest stays, and it alone is taken. -/
theorem test_step_front : (match step { live with pending := [.rtcCalAdd, .stagingTimeout] } with | .next t => t.pending | _ => []) = [.stagingTimeout] := by
  decide +kernel
/-- Right after reset nothing waits and no time has passed. -/
theorem test_reset_queue : State.reset.pending = [] ∧ State.reset.clk = 0 := ⟨rfl, rfl⟩

/-! ### Every statement with hypotheses: states and operands that meet them, clause by clause -/

/-- Operands of a form of len syllables with modifier m; fields that the form does not hold are 0. -/
def kop (len m : Nat) (g : BitVec 3) (n : Bool) : Kv :=
  if len = 1 then ⟨0, g, n, 0, 0, 0, 0, 0⟩ else ⟨0, g, n, 2, 1, 3, BitVec.ofNat 2 m, if len = 3 then 5 else 0⟩

/-- Every form of every row meets KvIssues and KvSkips somewhere: the statements of KV48 instructions hold of something. -/
theorem witness_KvArithmetic : ∀ f ∈ kvForms, ∀ m ∈ f.ms, ∃ (o : Kv) (k : Nat) (e : Ex) (s : State), (1 < f.len → o.m.toNat = m) ∧
    KvIssues f.row o f.len k e s := by
  intro f hf m hm
  have h : ∀ f ∈ kvForms, ∀ m ∈ f.ms, let o := kop f.len m 0 false
      let s := spell f.op f.len o exA (kv exA)
      (1 < f.len → o.m.toNat = m) ∧ kvAt o.core exA s = some (f.row o) ∧ codeLenAt s exA.tenant exA.pc = f.len ∧
      (coreTask s o.core.val = some 7 ∧ taskEx s 7 = some exA ∧ fetchOk exA f.len = true) ∧
      (∀ j, j < f.len → s.core.codeSoft.contains (exA.tenant * 2 ^ 22 + (exA.pc + j)) = false) ∧ guardTrue o exA = true ∧
      (budgetOf s 7 = 0 ∨ exA.cycles + 1 ≤ budgetOf s 7) := by decide +kernel
  obtain ⟨h0, h1, h2, ⟨h3, h4, h5⟩, h6, h7, h8⟩ := h f hf m hm
  exact ⟨_, 7, exA, _, h0, h1, h2, h3, h4, rfl, rfl, h5, h6, h7, h8⟩

theorem witness_KvCompares :
    (∃ (o : Kv) (k : Nat) (e : Ex) (s : State), KvIssues .tstb o (lenByM o) k e s ∧ o.m = 0#2 ∧ laneOf o e = 47) ∧
    (∃ (o : Kv) (k : Nat) (e : Ex) (s : State), KvIssues .tstb o (lenByM o) k e s ∧ o.m = 0#2 ∧ laneOf o e = 48) ∧
    (∃ (o : Kv) (k : Nat) (e : Ex) (s : State), KvIssues .tstb o (lenByM o) k e s ∧ o.m = 1#2 ∧ laneOf o e = 47) ∧
    (∃ (o : Kv) (k : Nat) (e : Ex) (s : State), KvIssues .tstb o (lenByM o) k e s ∧ o.m = 1#2 ∧ laneOf o e = 48) :=
  ⟨⟨(op 2 1 1 0 47), 7, exA, spell 0x39 3 (op 2 1 1 0 47) exA (kv exA), issues_of (by decide +kernel), by decide +kernel, by decide +kernel⟩,
   ⟨(op 2 1 1 0 48), 7, exA, spell 0x39 3 (op 2 1 1 0 48) exA (kv exA), issues_of (by decide +kernel), by decide +kernel, by decide +kernel⟩,
   ⟨(op 2 1 7 1 0), 7, exA, spell 0x39 2 (op 2 1 7 1 0) exA (kv exA), issues_of (by decide +kernel), by decide +kernel, by decide +kernel⟩,
   ⟨(op 2 1 8 1 0), 7, exA, spell 0x39 2 (op 2 1 8 1 0) exA (kv exA), issues_of (by decide +kernel), by decide +kernel, by decide +kernel⟩⟩

theorem witness_KvLogic :
    (∃ (o : Kv) (k : Nat) (e : Ex) (s : State), KvIssues .shSplat o (lenByM o) k e s ∧ o.m = 0#2 ∧ laneOf o e = 47) ∧
    (∃ (o : Kv) (k : Nat) (e : Ex) (s : State), KvIssues .shSplat o (lenByM o) k e s ∧ o.m = 0#2 ∧ laneOf o e = 48) ∧
    (∃ (o : Kv) (k : Nat) (e : Ex) (s : State), KvIssues .shSplat o (lenByM o) k e s ∧ o.m = 1#2 ∧ laneOf o e = 47) ∧
    (∃ (o : Kv) (k : Nat) (e : Ex) (s : State), KvIssues .shSplat o (lenByM o) k e s ∧ o.m = 1#2 ∧ laneOf o e = 48) ∧
    (∃ (o : Kv) (k : Nat) (e : Ex) (s : State), KvIssues .bset o (lenByM o) k e s ∧ o.m = 0#2 ∧ laneOf o e = 47) ∧
    (∃ (o : Kv) (k : Nat) (e : Ex) (s : State), KvIssues .bset o (lenByM o) k e s ∧ o.m = 0#2 ∧ laneOf o e = 48) ∧
    (∃ (o : Kv) (k : Nat) (e : Ex) (s : State), KvIssues .bset o (lenByM o) k e s ∧ o.m = 1#2 ∧ laneOf o e = 47) ∧
    (∃ (o : Kv) (k : Nat) (e : Ex) (s : State), KvIssues .bset o (lenByM o) k e s ∧ o.m = 1#2 ∧ laneOf o e = 48) ∧
    (∃ (o : Kv) (k : Nat) (e : Ex) (s : State), KvIssues .bclr o (lenByM o) k e s ∧ o.m = 0#2 ∧ laneOf o e = 47) ∧
    (∃ (o : Kv) (k : Nat) (e : Ex) (s : State), KvIssues .bclr o (lenByM o) k e s ∧ o.m = 0#2 ∧ laneOf o e = 48) ∧
    (∃ (o : Kv) (k : Nat) (e : Ex) (s : State), KvIssues .bclr o (lenByM o) k e s ∧ o.m = 1#2 ∧ laneOf o e = 47) ∧
    (∃ (o : Kv) (k : Nat) (e : Ex) (s : State), KvIssues .bclr o (lenByM o) k e s ∧ o.m = 1#2 ∧ laneOf o e = 48) ∧
    (∃ (o : Kv) (k : Nat) (e : Ex) (s : State), KvIssues .bins o 3 k e s ∧ o.imm.toNat % 64 < 48) ∧
    (∃ (o : Kv) (k : Nat) (e : Ex) (s : State), KvIssues .bins o 3 k e s ∧ 48 ≤ o.imm.toNat % 64) ∧
    (∃ (o : Kv) (k : Nat) (e : Ex) (s : State), KvIssues .extr o 3 k e s ∧ 0 < o.imm.toNat / 64 % 64 ∧ o.imm.toNat % 64 + o.imm.toNat / 64 % 64 = 48) ∧
    (∃ (o : Kv) (k : Nat) (e : Ex) (s : State), KvIssues .extr o 3 k e s ∧ o.imm.toNat % 64 + o.imm.toNat / 64 % 64 = 49) ∧
    (∃ (o : Kv) (k : Nat) (e : Ex) (s : State), KvIssues .extr o 3 k e s ∧ o.imm.toNat / 64 % 64 = 0) ∧
    (∃ (o : Kv) (k : Nat) (e : Ex) (s : State), KvIssues .dep o 3 k e s ∧ 0 < o.imm.toNat / 64 % 64 ∧ o.imm.toNat % 64 + o.imm.toNat / 64 % 64 = 48) ∧
    (∃ (o : Kv) (k : Nat) (e : Ex) (s : State), KvIssues .dep o 3 k e s ∧ o.imm.toNat % 64 + o.imm.toNat / 64 % 64 = 49) ∧
    (∃ (o : Kv) (k : Nat) (e : Ex) (s : State), KvIssues .dep o 3 k e s ∧ o.imm.toNat / 64 % 64 = 0) :=
  ⟨⟨(op 2 1 1 0 47), 7, exA, spell 0x47 3 (op 2 1 1 0 47) exA (kv exA), issues_of (by decide +kernel), by decide +kernel, by decide +kernel⟩,
   ⟨(op 2 1 1 0 48), 7, exA, spell 0x47 3 (op 2 1 1 0 48) exA (kv exA), issues_of (by decide +kernel), by decide +kernel, by decide +kernel⟩,
   ⟨(op 2 1 7 1 0), 7, exA, spell 0x47 2 (op 2 1 7 1 0) exA (kv exA), issues_of (by decide +kernel), by decide +kernel, by decide +kernel⟩,
   ⟨(op 2 1 8 1 0), 7, exA, spell 0x47 2 (op 2 1 8 1 0) exA (kv exA), issues_of (by decide +kernel), by decide +kernel, by decide +kernel⟩,
   ⟨(op 2 1 1 0 47), 7, exA, spell 0x50 3 (op 2 1 1 0 47) exA (kv exA), issues_of (by decide +kernel), by decide +kernel, by decide +kernel⟩,
   ⟨(op 2 1 1 0 48), 7, exA, spell 0x50 3 (op 2 1 1 0 48) exA (kv exA), issues_of (by decide +kernel), by decide +kernel, by decide +kernel⟩,
   ⟨(op 2 1 7 1 0), 7, exA, spell 0x50 2 (op 2 1 7 1 0) exA (kv exA), issues_of (by decide +kernel), by decide +kernel, by decide +kernel⟩,
   ⟨(op 2 1 8 1 0), 7, exA, spell 0x50 2 (op 2 1 8 1 0) exA (kv exA), issues_of (by decide +kernel), by decide +kernel, by decide +kernel⟩,
   ⟨(op 2 1 1 0 47), 7, exA, spell 0x51 3 (op 2 1 1 0 47) exA (kv exA), issues_of (by decide +kernel), by decide +kernel, by decide +kernel⟩,
   ⟨(op 2 1 1 0 48), 7, exA, spell 0x51 3 (op 2 1 1 0 48) exA (kv exA), issues_of (by decide +kernel), by decide +kernel, by decide +kernel⟩,
   ⟨(op 2 1 7 1 0), 7, exA, spell 0x51 2 (op 2 1 7 1 0) exA (kv exA), issues_of (by decide +kernel), by decide +kernel, by decide +kernel⟩,
   ⟨(op 2 1 8 1 0), 7, exA, spell 0x51 2 (op 2 1 8 1 0) exA (kv exA), issues_of (by decide +kernel), by decide +kernel, by decide +kernel⟩,
   ⟨(op 2 1 3 0 47), 7, exA, spell 0x52 3 (op 2 1 3 0 47) exA (kv exA), issues_of (by decide +kernel), by decide +kernel⟩,
   ⟨(op 2 1 3 0 48), 7, exA, spell 0x52 3 (op 2 1 3 0 48) exA (kv exA), issues_of (by decide +kernel), by decide +kernel⟩,
   ⟨(op 2 1 3 0 (40 + 8 * 64)), 7, exA, spell 0x56 3 (op 2 1 3 0 (40 + 8 * 64)) exA (kv exA), issues_of (by decide +kernel), by decide +kernel, by decide +kernel⟩,
   ⟨(op 2 1 3 0 (40 + 9 * 64)), 7, exA, spell 0x56 3 (op 2 1 3 0 (40 + 9 * 64)) exA (kv exA), issues_of (by decide +kernel), by decide +kernel⟩,
   ⟨(op 2 1 3 0 40), 7, exA, spell 0x56 3 (op 2 1 3 0 40) exA (kv exA), issues_of (by decide +kernel), by decide +kernel⟩,
   ⟨(op 2 1 3 0 (40 + 8 * 64)), 7, exA, spell 0x57 3 (op 2 1 3 0 (40 + 8 * 64)) exA (kv exA), issues_of (by decide +kernel), by decide +kernel, by decide +kernel⟩,
   ⟨(op 2 1 3 0 (40 + 9 * 64)), 7, exA, spell 0x57 3 (op 2 1 3 0 (40 + 9 * 64)) exA (kv exA), issues_of (by decide +kernel), by decide +kernel⟩,
   ⟨(op 2 1 3 0 40), 7, exA, spell 0x57 3 (op 2 1 3 0 40) exA (kv exA), issues_of (by decide +kernel), by decide +kernel⟩⟩

theorem witness_KvLoads :
    (∃ (o : Kv) (k : Nat) (e : Ex) (s : State), KvIssues .ld o (lenOfAccess o) k e s ∧ o.m = 0#2 ∧ firstTrap e [0, 4] false (addrOf o e) = none ∧ Intact k e (placeOf e (addrOf o e)) s) ∧
    (∃ (o : Kv) (k : Nat) (e : Ex) (s : State), KvIssues .ld o (lenOfAccess o) k e s ∧ o.m = 1#2 ∧ firstTrap e [0, 4] false (addrOf o e) = none ∧ Intact k e (placeOf e (addrOf o e)) s) ∧
    (∃ (o : Kv) (k : Nat) (e : Ex) (s : State), KvIssues .ld o (lenOfAccess o) k e s ∧ o.m = 2#2 ∧ firstTrap e [0, 4] false (addrOf o e) = none ∧ Intact k e (placeOf e (addrOf o e)) s) ∧
    (∃ (o : Kv) (k : Nat) (e : Ex) (s : State), KvIssues .ld o (lenOfAccess o) k e s ∧ firstTrap e [0, 4] false (addrOf o e) = some 9) ∧
    (∃ (o : Kv) (k : Nat) (e : Ex) (s : State), KvIssues .imld o (lenOfAccess o) k e s ∧ o.m = 0#2 ∧ firstTrap e [1, 2, 3] false (addrOf o e) = none) ∧
    (∃ (o : Kv) (k : Nat) (e : Ex) (s : State), KvIssues .imld o (lenOfAccess o) k e s ∧ o.m = 1#2 ∧ firstTrap e [1, 2, 3] false (addrOf o e) = none) ∧
    (∃ (o : Kv) (k : Nat) (e : Ex) (s : State), KvIssues .imld o (lenOfAccess o) k e s ∧ o.m = 2#2 ∧ firstTrap e [1, 2, 3] false (addrOf o e) = none) ∧
    (∃ (o : Kv) (k : Nat) (e : Ex) (s : State), KvIssues .imld o (lenOfAccess o) k e s ∧ firstTrap e [1, 2, 3] false (addrOf o e) = some 8) ∧
    (∃ (o : Kv) (k : Nat) (e : Ex) (s : State), KvIssues .ldb o 3 k e s ∧ 48 ≤ (rW e o.t).toNat % 64) ∧
    (∃ (o : Kv) (k : Nat) (e : Ex) (s : State), KvIssues .ldb o 3 k e s ∧ (rW e o.t).toNat % 64 < 48 ∧ firstTrap e [0] false (addrOf o e) = none ∧ Intact k e (placeOf e (addrOf o e)) s) ∧
    (∃ (o : Kv) (k : Nat) (e : Ex) (s : State), KvIssues .ldb o 3 k e s ∧ (rW e o.t).toNat % 64 < 48 ∧ firstTrap e [0] false (addrOf o e) = some 9) ∧
    (∃ (o : Kv) (k : Nat) (e : Ex) (s : State), KvIssues .imldb o 3 k e s ∧ 48 ≤ (rW e o.t).toNat % 64) ∧
    (∃ (o : Kv) (k : Nat) (e : Ex) (s : State), KvIssues .imldb o 3 k e s ∧ (rW e o.t).toNat % 64 < 48 ∧ firstTrap e [1, 2, 3] false (addrOf o e) = none) ∧
    (∃ (o : Kv) (k : Nat) (e : Ex) (s : State), KvIssues .imldb o 3 k e s ∧ (rW e o.t).toNat % 64 < 48 ∧ firstTrap e [1, 2, 3] false (addrOf o e) = some 8) :=
  ⟨⟨(op 13 1 13 0 0), 7, exD, spell 0x60 3 (op 13 1 13 0 0) exD (kv exD), issues_of (by decide +kernel), by decide +kernel, by decide +kernel, fun _ => ⟨by decide +kernel, by decide +kernel⟩⟩,
   ⟨(op 13 1 10 1 0), 7, exD, spell 0x60 2 (op 13 1 10 1 0) exD (kv exD), issues_of (by decide +kernel), by decide +kernel, by decide +kernel, fun _ => ⟨by decide +kernel, by decide +kernel⟩⟩,
   ⟨(op 1 1 13 2 0), 7, exD, spell 0x60 3 (op 1 1 13 2 0) exD (kv exD), issues_of (by decide +kernel), by decide +kernel, by decide +kernel, fun _ => ⟨by decide +kernel, by decide +kernel⟩⟩,
   ⟨(op 13 12 13 0 0), 7, exD, spell 0x60 3 (op 13 12 13 0 0) exD (kv exD), issues_of (by decide +kernel), by decide +kernel⟩,
   ⟨(op 13 3 13 0 0), 7, exD, spell 0x62 3 (op 13 3 13 0 0) exD (kv exD), issues_of (by decide +kernel), by decide +kernel, by decide +kernel⟩,
   ⟨(op 13 3 10 1 0), 7, exD, spell 0x62 2 (op 13 3 10 1 0) exD (kv exD), issues_of (by decide +kernel), by decide +kernel, by decide +kernel⟩,
   ⟨(op 3 3 13 2 0), 7, exD, spell 0x62 3 (op 3 3 13 2 0) exD (kv exD), issues_of (by decide +kernel), by decide +kernel, by decide +kernel⟩,
   ⟨(op 13 12 13 0 0), 7, exD, spell 0x62 3 (op 13 12 13 0 0) exD (kv exD), issues_of (by decide +kernel), by decide +kernel⟩,
   ⟨(op 13 1 15 0 0), 7, exD, spell 0x64 3 (op 13 1 15 0 0) exD (kv exD), issues_of (by decide +kernel), by decide +kernel⟩,
   ⟨(op 13 1 11 0 0), 7, exD, spell 0x64 3 (op 13 1 11 0 0) exD (kv exD), issues_of (by decide +kernel), by decide +kernel, by decide +kernel, fun _ => ⟨by decide +kernel, by decide +kernel⟩⟩,
   ⟨(op 13 12 11 0 0), 7, exD, spell 0x64 3 (op 13 12 11 0 0) exD (kv exD), issues_of (by decide +kernel), by decide +kernel, by decide +kernel⟩,
   ⟨(op 13 1 15 0 0), 7, exD, spell 0x66 3 (op 13 1 15 0 0) exD (kv exD), issues_of (by decide +kernel), by decide +kernel⟩,
   ⟨(op 13 3 11 0 0), 7, exD, spell 0x66 3 (op 13 3 11 0 0) exD (kv exD), issues_of (by decide +kernel), by decide +kernel, by decide +kernel⟩,
   ⟨(op 13 12 11 0 0), 7, exD, spell 0x66 3 (op 13 12 11 0 0) exD (kv exD), issues_of (by decide +kernel), by decide +kernel, by decide +kernel⟩⟩

theorem witness_KvStores :
    (∃ (o : Kv) (k : Nat) (e : Ex) (s : State), KvIssues .st o (lenOfAccess o) k e s ∧ o.m = 0#2 ∧ firstTrap e [0] true (addrOf o e) = none) ∧
    (∃ (o : Kv) (k : Nat) (e : Ex) (s : State), KvIssues .st o (lenOfAccess o) k e s ∧ o.m = 1#2 ∧ firstTrap e [0] true (addrOf o e) = none) ∧
    (∃ (o : Kv) (k : Nat) (e : Ex) (s : State), KvIssues .st o (lenOfAccess o) k e s ∧ o.m = 2#2 ∧ firstTrap e [0] true (addrOf o e) = none) ∧
    (∃ (o : Kv) (k : Nat) (e : Ex) (s : State), KvIssues .st o (lenOfAccess o) k e s ∧ firstTrap e [0] true (addrOf o e) = some 9) ∧
    (∃ (o : Kv) (k : Nat) (e : Ex) (s : State), KvIssues .imst o (lenOfAccess o) k e s ∧ o.m = 0#2 ∧ firstTrap e [2] true (addrOf o e) = none) ∧
    (∃ (o : Kv) (k : Nat) (e : Ex) (s : State), KvIssues .imst o (lenOfAccess o) k e s ∧ o.m = 1#2 ∧ firstTrap e [2] true (addrOf o e) = none) ∧
    (∃ (o : Kv) (k : Nat) (e : Ex) (s : State), KvIssues .imst o (lenOfAccess o) k e s ∧ o.m = 2#2 ∧ firstTrap e [2] true (addrOf o e) = none) ∧
    (∃ (o : Kv) (k : Nat) (e : Ex) (s : State), KvIssues .imst o (lenOfAccess o) k e s ∧ firstTrap e [2] true (addrOf o e) = some 11) ∧
    (∃ (o : Kv) (k : Nat) (e : Ex) (s : State), KvIssues .stb o 3 k e s ∧ 48 ≤ (rW e o.t).toNat % 64) ∧
    (∃ (o : Kv) (k : Nat) (e : Ex) (s : State), KvIssues .stb o 3 k e s ∧ (rW e o.t).toNat % 64 < 48 ∧ firstTrap e [0] true (addrOf o e) = none ∧ Intact k e (placeOf e (addrOf o e)) s) ∧
    (∃ (o : Kv) (k : Nat) (e : Ex) (s : State), KvIssues .stb o 3 k e s ∧ (rW e o.t).toNat % 64 < 48 ∧ firstTrap e [0] true (addrOf o e) = some 9) ∧
    (∃ (o : Kv) (k : Nat) (e : Ex) (s : State), KvIssues .imstb o 3 k e s ∧ 48 ≤ (rW e o.t).toNat % 64) ∧
    (∃ (o : Kv) (k : Nat) (e : Ex) (s : State), KvIssues .imstb o 3 k e s ∧ (rW e o.t).toNat % 64 < 48 ∧ firstTrap e [2] true (addrOf o e) = none) ∧
    (∃ (o : Kv) (k : Nat) (e : Ex) (s : State), KvIssues .imstb o 3 k e s ∧ (rW e o.t).toNat % 64 < 48 ∧ firstTrap e [2] true (addrOf o e) = some 8) :=
  ⟨⟨(op 13 7 13 0 0), 7, exD, spell 0x61 3 (op 13 7 13 0 0) exD (kv exD), issues_of (by decide +kernel), by decide +kernel, by decide +kernel⟩,
   ⟨(op 13 7 10 1 0), 7, exD, spell 0x61 2 (op 13 7 10 1 0) exD (kv exD), issues_of (by decide +kernel), by decide +kernel, by decide +kernel⟩,
   ⟨(op 7 7 13 2 0), 7, exD, spell 0x61 3 (op 7 7 13 2 0) exD (kv exD), issues_of (by decide +kernel), by decide +kernel, by decide +kernel⟩,
   ⟨(op 13 12 13 0 0), 7, exD, spell 0x61 3 (op 13 12 13 0 0) exD (kv exD), issues_of (by decide +kernel), by decide +kernel⟩,
   ⟨(op 13 4 13 0 0), 7, exD, spell 0x63 3 (op 13 4 13 0 0) exD (kv exD), issues_of (by decide +kernel), by decide +kernel, by decide +kernel⟩,
   ⟨(op 13 4 10 1 0), 7, exD, spell 0x63 2 (op 13 4 10 1 0) exD (kv exD), issues_of (by decide +kernel), by decide +kernel, by decide +kernel⟩,
   ⟨(op 4 4 13 2 0), 7, exD, spell 0x63 3 (op 4 4 13 2 0) exD (kv exD), issues_of (by decide +kernel), by decide +kernel, by decide +kernel⟩,
   ⟨(op 13 5 13 0 0), 7, exD, spell 0x63 3 (op 13 5 13 0 0) exD (kv exD), issues_of (by decide +kernel), by decide +kernel⟩,
   ⟨(op 13 1 15 0 0), 7, exD, spell 0x65 3 (op 13 1 15 0 0) exD (kv exD), issues_of (by decide +kernel), by decide +kernel⟩,
   ⟨(op 13 7 11 0 0), 7, exD, spell 0x65 3 (op 13 7 11 0 0) exD (kv exD), issues_of (by decide +kernel), by decide +kernel, by decide +kernel, fun _ => ⟨by decide +kernel, by decide +kernel⟩⟩,
   ⟨(op 13 12 11 0 0), 7, exD, spell 0x65 3 (op 13 12 11 0 0) exD (kv exD), issues_of (by decide +kernel), by decide +kernel, by decide +kernel⟩,
   ⟨(op 13 1 15 0 0), 7, exD, spell 0x67 3 (op 13 1 15 0 0) exD (kv exD), issues_of (by decide +kernel), by decide +kernel⟩,
   ⟨(op 13 4 11 0 0), 7, exD, spell 0x67 3 (op 13 4 11 0 0) exD (kv exD), issues_of (by decide +kernel), by decide +kernel, by decide +kernel⟩,
   ⟨(op 13 12 11 0 0), 7, exD, spell 0x67 3 (op 13 12 11 0 0) exD (kv exD), issues_of (by decide +kernel), by decide +kernel, by decide +kernel⟩⟩

theorem witness_KvControl :
    (∃ (o : Kv) (k : Nat) (e : Ex) (s : State), KvIssues .tend o 1 k e s ∧ atLoopEnd (openDistances e) = true) ∧
    (∃ (o : Kv) (k : Nat) (e : Ex) (s : State), KvIssues .ret o 1 k e s ∧ atLoopEnd (openDistances e) = true) ∧
    (∃ (o : Kv) (k : Nat) (e : Ex) (s : State), KvIssues .loop o 1 k e s ∧ atLoopEnd (openDistances e) = true) ∧
    (∃ (o : Kv) (k : Nat) (e : Ex) (s : State), KvIssues .br o 3 k e s ∧ atLoopEnd (openDistances e) = true) ∧
    (∃ (o : Kv) (k : Nat) (e : Ex) (s : State), KvIssues .call o 3 k e s ∧ atLoopEnd (openDistances e) = true) ∧
    (∃ (o : Kv) (k : Nat) (e : Ex) (s : State), KvIssues .tend o 1 k e s ∧ atLoopEnd (openDistances e) = false) ∧
    (∃ (o : Kv) (k : Nat) (e : Ex) (s : State), KvIssues .ret o 1 k e s ∧ atLoopEnd (openDistances e) = false ∧ (budgetOf s k = 0 ∨ e.cycles + 2 ≤ budgetOf s k) ∧ (rW e 15#4).toNat % 2 ^ 22 < codeLimit e) ∧
    (∃ (o : Kv) (k : Nat) (e : Ex) (s : State), KvIssues .ret o 1 k e s ∧ atLoopEnd (openDistances e) = false ∧ (budgetOf s k = 0 ∨ e.cycles + 2 ≤ budgetOf s k) ∧ (rW e 15#4).toNat % 2 ^ 22 = codeLimit e) ∧
    (∃ (o : Kv) (k : Nat) (e : Ex) (s : State), KvIssues .br o (lenByM o) k e s ∧ atLoopEnd (openDistances e) = false ∧ (budgetOf s k = 0 ∨ e.cycles + 2 ≤ budgetOf s k) ∧ (((e.pc : Int) + o.imm.toInt) % 2 ^ 22).toNat = 0) ∧
    (∃ (o : Kv) (k : Nat) (e : Ex) (s : State), KvIssues .br o (lenByM o) k e s ∧ atLoopEnd (openDistances e) = false ∧ (budgetOf s k = 0 ∨ e.cycles + 2 ≤ budgetOf s k) ∧ (rW e o.s).toNat % 2 ^ 22 < codeLimit e) ∧
    (∃ (o : Kv) (k : Nat) (e : Ex) (s : State), KvIssues .br o (lenByM o) k e s ∧ atLoopEnd (openDistances e) = false ∧ (budgetOf s k = 0 ∨ e.cycles + 2 ≤ budgetOf s k) ∧ codeLimit e ≤ (rW e o.s).toNat % 2 ^ 22) ∧
    (∃ (o : Kv) (k : Nat) (e : Ex) (s : State), KvIssues .call o (lenByM o) k e s ∧ atLoopEnd (openDistances e) = false ∧ (budgetOf s k = 0 ∨ e.cycles + 2 ≤ budgetOf s k) ∧ (((e.pc : Int) + o.imm.toInt) % 2 ^ 22).toNat = 0) ∧
    (∃ (o : Kv) (k : Nat) (e : Ex) (s : State), KvIssues .call o (lenByM o) k e s ∧ atLoopEnd (openDistances e) = false ∧ (budgetOf s k = 0 ∨ e.cycles + 2 ≤ budgetOf s k) ∧ (rW e o.s).toNat % 2 ^ 22 < codeLimit e) ∧
    (∃ (o : Kv) (k : Nat) (e : Ex) (s : State), KvIssues .call o (lenByM o) k e s ∧ atLoopEnd (openDistances e) = false ∧ (budgetOf s k = 0 ∨ e.cycles + 2 ≤ budgetOf s k) ∧ codeLimit e ≤ (rW e o.s).toNat % 2 ^ 22) ∧
    (∃ (o : Kv) (k : Nat) (e : Ex) (s : State), KvIssues .loop o 1 k e s ∧ atLoopEnd (openDistances e) = false ∧ (budgetOf s k = 0 ∨ e.cycles + 2 ≤ budgetOf s k) ∧ lpAt e (4 + e.ldepth) ≤ lpAt e e.ldepth) ∧
    (∃ (o : Kv) (k : Nat) (e : Ex) (s : State), KvIssues .loop o 1 k e s ∧ atLoopEnd (openDistances e) = false ∧ (budgetOf s k = 0 ∨ e.cycles + 2 ≤ budgetOf s k) ∧ 4 ≤ e.ldepth) ∧
    (∃ (o : Kv) (k : Nat) (e : Ex) (s : State), KvIssues .loop o 1 k e s ∧ atLoopEnd (openDistances e) = false ∧ (budgetOf s k = 0 ∨ e.cycles + 2 ≤ budgetOf s k) ∧ ¬(4 ≤ e.ldepth ∨ lpAt e (4 + e.ldepth) ≤ lpAt e e.ldepth) ∧ lpAt e (8 + e.ldepth) ≠ 0 ∧ lpAt e e.ldepth = e.pc + 1) ∧
    (∃ (o : Kv) (k : Nat) (e : Ex) (s : State), KvIssues .loop o 1 k e s ∧ atLoopEnd (openDistances e) = false ∧ (budgetOf s k = 0 ∨ e.cycles + 2 ≤ budgetOf s k) ∧ ¬(4 ≤ e.ldepth ∨ lpAt e (4 + e.ldepth) ≤ lpAt e e.ldepth) ∧ lpAt e (8 + e.ldepth) = 0) :=
  ⟨⟨(op 0 0 0 0 0), 7, exB, spell 0x01 1 (op 0 0 0 0 0) exB (kv exB), issues_of (by decide +kernel), by decide +kernel⟩,
   ⟨(op 0 0 0 0 0), 7, exB, spell 0x03 1 (op 0 0 0 0 0) exB (kv exB), issues_of (by decide +kernel), by decide +kernel⟩,
   ⟨(op 0 0 0 0 0), 7, exB, spell 0x02 1 (op 0 0 0 0 0) exB (kv exB), issues_of (by decide +kernel), by decide +kernel⟩,
   ⟨(op 0 0 0 0 0), 7, exB, spell 0x04 3 (op 0 0 0 0 0) exB (kv exB), issues_of (by decide +kernel), by decide +kernel⟩,
   ⟨(op 0 0 0 0 0), 7, exB, spell 0x05 3 (op 0 0 0 0 0) exB (kv exB), issues_of (by decide +kernel), by decide +kernel⟩,
   ⟨(op 0 0 0 0 0), 7, exA, spell 0x01 1 (op 0 0 0 0 0) exA (kv exA), issues_of (by decide +kernel), by decide +kernel⟩,
   ⟨(op 0 0 0 0 0), 7, exA, spell 0x03 1 (op 0 0 0 0 0) exA (kv exA), issues_of (by decide +kernel), by decide +kernel, by decide +kernel, by decide +kernel⟩,
   ⟨(op 0 0 0 0 0), 7, { exA with w := [(15, 5000#48)] }, spell 0x03 1 (op 0 0 0 0 0) { exA with w := [(15, 5000#48)] } (kv { exA with w := [(15, 5000#48)] }), issues_of (by decide +kernel), by decide +kernel, by decide +kernel, by decide +kernel⟩,
   ⟨(op 3 2 1 0 0x3F9C), 7, exA, spell 0x04 3 (op 3 2 1 0 0x3F9C) exA (kv exA), issues_of (by decide +kernel), by decide +kernel, by decide +kernel, by decide +kernel⟩,
   ⟨(op 3 11 1 1 0), 7, exA, spell 0x04 2 (op 3 11 1 1 0) exA (kv exA), issues_of (by decide +kernel), by decide +kernel, by decide +kernel, by decide +kernel⟩,
   ⟨(op 3 14 1 1 0), 7, exA, spell 0x04 2 (op 3 14 1 1 0) exA (kv exA), issues_of (by decide +kernel), by decide +kernel, by decide +kernel, by decide +kernel⟩,
   ⟨(op 3 2 1 0 0x3F9C), 7, exA, spell 0x05 3 (op 3 2 1 0 0x3F9C) exA (kv exA), issues_of (by decide +kernel), by decide +kernel, by decide +kernel, by decide +kernel⟩,
   ⟨(op 3 11 1 1 0), 7, exA, spell 0x05 2 (op 3 11 1 1 0) exA (kv exA), issues_of (by decide +kernel), by decide +kernel, by decide +kernel, by decide +kernel⟩,
   ⟨(op 3 14 1 1 0), 7, exA, spell 0x05 2 (op 3 14 1 1 0) exA (kv exA), issues_of (by decide +kernel), by decide +kernel, by decide +kernel, by decide +kernel⟩,
   ⟨(op 0 0 0 0 0), 7, exA, spell 0x02 1 (op 0 0 0 0 0) exA (kv exA), issues_of (by decide +kernel), by decide +kernel, by decide +kernel, by decide +kernel⟩,
   ⟨(op 0 0 0 0 0), 7, { exA with ldepth := 4 }, spell 0x02 1 (op 0 0 0 0 0) { exA with ldepth := 4 } (kv { exA with ldepth := 4 }), issues_of (by decide +kernel), by decide +kernel, by decide +kernel, by decide +kernel⟩,
   ⟨(op 0 0 0 0 0), 7, exE, spell 0x02 1 (op 0 0 0 0 0) exE (kv exE), issues_of (by decide +kernel), by decide +kernel, by decide +kernel, by decide +kernel, by decide +kernel, by decide +kernel⟩,
   ⟨(op 0 0 0 0 0), 7, { exE with lp := wputs 0 [101, 120, 0, 0, 120, 120, 0, 0, 0, 1] [] }, spell 0x02 1 (op 0 0 0 0 0) { exE with lp := wputs 0 [101, 120, 0, 0, 120, 120, 0, 0, 0, 1] [] } (kv { exE with lp := wputs 0 [101, 120, 0, 0, 120, 120, 0, 0, 0, 1] [] }), issues_of (by decide +kernel), by decide +kernel, by decide +kernel, by decide +kernel, by decide +kernel⟩⟩

theorem witness_KvSpecialRegisters :
    (∃ (o : Kv) (k : Nat) (e : Ex) (s : State), KvIssues .mfs o 3 k e s ∧ o.imm.toNat = 0x0B) ∧
    (∃ (o : Kv) (k : Nat) (e : Ex) (s : State), KvIssues .mfs o 3 k e s ∧ o.imm.toNat = 0x0C ∧ k < 256 ∧ e.tenant < 32 ∧ e.ldepth < 8) ∧
    (∃ (o : Kv) (k : Nat) (e : Ex) (s : State), KvIssues .mfs o 3 k e s ∧ o.imm.toNat = 0x10) ∧
    (∃ (o : Kv) (k : Nat) (e : Ex) (s : State), KvIssues .mfs o 3 k e s ∧ o.imm.toNat = 0x17) ∧
    (∃ (o : Kv) (k : Nat) (e : Ex) (s : State), KvIssues .mfs o 3 k e s ∧ o.imm.toNat = 0x18) ∧
    (∃ (o : Kv) (k : Nat) (e : Ex) (s : State), KvIssues .mts o 3 k e s ∧ 0x10 ≤ o.imm.toNat) ∧
    (∃ (o : Kv) (k : Nat) (e : Ex) (s : State), KvIssues .mts o 3 k e s ∧ (o.imm.toNat ≤ 0x07 ∧ 2 ^ 22 ≤ (rW e o.s).toNat)) ∧
    (∃ (o : Kv) (k : Nat) (e : Ex) (s : State), KvIssues .mts o 3 k e s ∧ (0x08 ≤ o.imm.toNat ∧ o.imm.toNat ≤ 0x0B ∧ 0x1000000 < (rW e o.s).toNat)) ∧
    (∃ (o : Kv) (k : Nat) (e : Ex) (s : State), KvIssues .mts o 3 k e s ∧ (o.imm.toNat ≤ 0x07 ∧ (rW e o.s).toNat < 2 ^ 22)) ∧
    (∃ (o : Kv) (k : Nat) (e : Ex) (s : State), KvIssues .mts o 3 k e s ∧ o.imm.toNat = 0x0C ∧ (rW e o.s).toNat = 1) :=
  ⟨⟨(op 3 2 1 0 0x0B), 7, exA, spell 0x70 3 (op 3 2 1 0 0x0B) exA (kv exA), issues_of (by decide +kernel), by decide +kernel⟩,
   ⟨(op 3 2 1 0 0x0C), 7, exB, spell 0x70 3 (op 3 2 1 0 0x0C) exB (kv exB), issues_of (by decide +kernel), by decide +kernel, by decide +kernel, by decide +kernel, by decide +kernel⟩,
   ⟨(op 3 2 1 0 0x10), 7, exA, spell 0x70 3 (op 3 2 1 0 0x10) exA (kv exA), issues_of (by decide +kernel), by decide +kernel⟩,
   ⟨(op 3 2 1 0 0x17), 7, exA, spell 0x70 3 (op 3 2 1 0 0x17) exA (kv exA), issues_of (by decide +kernel), by decide +kernel⟩,
   ⟨(op 3 2 1 0 0x18), 7, exA, spell 0x70 3 (op 3 2 1 0 0x18) exA (kv exA), issues_of (by decide +kernel), by decide +kernel⟩,
   ⟨(op 3 3 1 0 0x10), 7, exA, spell 0x71 3 (op 3 3 1 0 0x10) exA (kv exA), issues_of (by decide +kernel), by decide +kernel⟩,
   ⟨(op 3 3 1 0 0x07), 7, exA, spell 0x71 3 (op 3 3 1 0 0x07) exA (kv exA), issues_of (by decide +kernel), by decide +kernel⟩,
   ⟨(op 3 3 1 0 0x0B), 7, exA, spell 0x71 3 (op 3 3 1 0 0x0B) exA (kv exA), issues_of (by decide +kernel), by decide +kernel⟩,
   ⟨(op 3 11 1 0 0x07), 7, exA, spell 0x71 3 (op 3 11 1 0 0x07) exA (kv exA), issues_of (by decide +kernel), by decide +kernel⟩,
   ⟨(op 3 0 1 0 0x0C), 7, { exA with w := [(0, 1#48)], sat := true }, spell 0x71 3 (op 3 0 1 0 0x0C) { exA with w := [(0, 1#48)], sat := true } (kv { exA with w := [(0, 1#48)], sat := true }), issues_of (by decide +kernel), by decide +kernel, by decide +kernel⟩⟩

theorem witness_KvDeviceOperations :
    (∃ (o : Kv) (k : Nat) (e : Ex) (s : State), KvIssues .schArm o 2 k e s ∧ 2 ^ 11 ≤ (rW e o.s).toNat) ∧
    (∃ (o : Kv) (k : Nat) (e : Ex) (s : State), KvIssues .schArm o 2 k e s ∧ (rW e o.s).toNat < 2 ^ 11 ∧ slotTenant (getSlot s (rW e o.s).toNat) ≠ e.tenant) ∧
    (∃ (o : Kv) (k : Nat) (e : Ex) (s : State), KvIssues .schArm o 2 k e s ∧ (rW e o.s).toNat < 2 ^ 11 ∧ slotTenant (getSlot s (rW e o.s).toNat) = e.tenant ∧ opsNow (issueCycle o.core.val s) (getSlot s (rW e o.s).toNat) = false) ∧
    (∃ (o : Kv) (k : Nat) (e : Ex) (s : State), KvIssues .schCancel o 2 k e s ∧ 2 ^ 11 ≤ (rW e o.s).toNat) ∧
    (∃ (o : Kv) (k : Nat) (e : Ex) (s : State), KvIssues .schCancel o 2 k e s ∧ (rW e o.s).toNat < 2 ^ 11 ∧ slotTenant (getSlot s (rW e o.s).toNat) ≠ e.tenant) ∧
    (∃ (o : Kv) (k : Nat) (e : Ex) (s : State), KvIssues .schCancel o 2 k e s ∧ (rW e o.s).toNat < 2 ^ 11 ∧ slotTenant (getSlot s (rW e o.s).toNat) = e.tenant ∧ opsNow (issueCycle o.core.val s) (getSlot s (rW e o.s).toNat) = false) ∧
    (∃ (o : Kv) (k : Nat) (e : Ex) (s : State), KvIssues .schStat o 2 k e s ∧ 2 ^ 11 ≤ (rW e o.s).toNat) ∧
    (∃ (o : Kv) (k : Nat) (e : Ex) (s : State), KvIssues .schStat o 2 k e s ∧ (rW e o.s).toNat < 2 ^ 11 ∧ slotTenant (getSlot s (rW e o.s).toNat) ≠ e.tenant) ∧
    (∃ (o : Kv) (k : Nat) (e : Ex) (s : State), KvIssues .schStat o 2 k e s ∧ (rW e o.s).toNat < 2 ^ 11 ∧ slotTenant (getSlot s (rW e o.s).toNat) = e.tenant) ∧
    (∃ (o : Kv) (k : Nat) (e : Ex) (s : State), KvIssues .ceRd o 3 k e s ∧ 2 ^ 9 ≤ (rW e o.s).toNat) ∧
    (∃ (o : Kv) (k : Nat) (e : Ex) (s : State), KvIssues .ceRd o 3 k e s ∧ (rW e o.s).toNat < 2 ^ 9 ∧ o.imm.toNat = 9) ∧
    (∃ (o : Kv) (k : Nat) (e : Ex) (s : State), KvIssues .ceRd o 3 k e s ∧ (rW e o.s).toNat < 2 ^ 9 ∧ o.imm.toNat < 9 ∧ ceTenant (getLoop s (rW e o.s).toNat) ≠ e.tenant) ∧
    (∃ (o : Kv) (k : Nat) (e : Ex) (s : State), KvIssues .ceRd o 3 k e s ∧ (rW e o.s).toNat < 2 ^ 9 ∧ o.imm.toNat < 9 ∧ ceTenant (getLoop s (rW e o.s).toNat) = e.tenant ∧ (∀ x ∈ e.started, x.loop = (rW e o.s).toNat → e.n < x.at_ + x.dist)) ∧
    (∃ (o : Kv) (k : Nat) (e : Ex) (s : State), KvIssues .ceStart o 2 k e s ∧ 2 ^ 9 ≤ (rW e o.s).toNat) ∧
    (∃ (o : Kv) (k : Nat) (e : Ex) (s : State), KvIssues .ceStart o 2 k e s ∧ (rW e o.s).toNat < 2 ^ 9 ∧ ceTrig (getLoop s (rW e o.s).toNat) = 0 ∧ ceTenant (getLoop s (rW e o.s).toNat) ≠ e.tenant) ∧
    (∃ (o : Kv) (k : Nat) (e : Ex) (s : State), KvIssues .ceStart o 2 k e s ∧ (rW e o.s).toNat < 2 ^ 9 ∧ ceTrig (getLoop s (rW e o.s).toNat) = 0 ∧ (e.started.filter (fun x => e.n < x.at_ + x.dist)).length = 8) ∧
    (∃ (o : Kv) (k : Nat) (e : Ex) (s : State), KvIssues .ceStart o 2 k e s ∧ (rW e o.s).toNat < 2 ^ 9 ∧ ceTenant (getLoop s (rW e o.s).toNat) = e.tenant ∧ ceTrig (getLoop s (rW e o.s).toNat) = 0 ∧ s.ovl.units = [] ∧ (getLoop s (rW e o.s).toNat).isSet = true) ∧
    (∃ (o : Kv) (k : Nat) (e : Ex) (s : State), KvIssues .ceStart o 2 k e s ∧ (rW e o.s).toNat < 2 ^ 9 ∧ ceTenant (getLoop s (rW e o.s).toNat) = e.tenant ∧ ceTrig (getLoop s (rW e o.s).toNat) = 0 ∧ s.ovl.units = [] ∧ (getLoop s (rW e o.s).toNat).isSet = false) ∧
    (∃ (o : Kv) (k : Nat) (e : Ex) (s : State), KvIssues .evtPost o 2 k e s ∧ (rW e o.s).toNat = 32) ∧
    (∃ (o : Kv) (k : Nat) (e : Ex) (s : State), KvIssues .evtPost o 2 k e s ∧ (rW e o.s).toNat < 32 ∧ e.tenant ≠ 0 ∧ (rW e o.s).toNat ≠ e.tenant) ∧
    (∃ (o : Kv) (k : Nat) (e : Ex) (s : State), KvIssues .evtPost o 2 k e s ∧ (rW e o.s).toNat = e.tenant ∧ e.posts.length < 16) ∧
    (∃ (o : Kv) (k : Nat) (e : Ex) (s : State), KvIssues .evtPost o 2 k e s ∧ (rW e o.s).toNat = e.tenant ∧ e.posts.length = 16) ∧
    (∃ (o : Kv) (k : Nat) (e : Ex) (s : State), KvIssues .swev o 3 k e s ∧ o.imm.toNat = 16) ∧
    (∃ (o : Kv) (k : Nat) (e : Ex) (s : State), KvIssues .swev o 3 k e s ∧ o.imm.toNat = 15 ∧ evtOwner s (368 + o.imm.toNat) ≠ e.tenant) ∧
    (∃ (o : Kv) (k : Nat) (e : Ex) (s : State), KvIssues .swev o 3 k e s ∧ o.imm.toNat = 15 ∧ evtOwner s (368 + o.imm.toNat) = e.tenant ∧ e.posts.length < 16) ∧
    (∃ (o : Kv) (k : Nat) (e : Ex) (s : State), KvIssues .swev o 3 k e s ∧ evtOwner s (368 + o.imm.toNat) = e.tenant ∧ e.posts.length = 16) :=
  ⟨⟨(op 3 3 1 0 0), 7, { exA with w := wputs 0 [7, 3, 2047, 2048, 4, 511, 512, 5, 31, 32] [], started := [] }, spell 0x7A 2 (op 3 3 1 0 0) { exA with w := wputs 0 [7, 3, 2047, 2048, 4, 511, 512, 5, 31, 32] [], started := [] } (slots { exA with w := wputs 0 [7, 3, 2047, 2048, 4, 511, 512, 5, 31, 32] [], started := [] }), issues_of (by decide +kernel), by decide +kernel⟩,
   ⟨(op 3 2 1 0 0), 7, { exA with w := wputs 0 [7, 3, 2047, 2048, 4, 511, 512, 5, 31, 32] [], started := [] }, spell 0x7A 2 (op 3 2 1 0 0) { exA with w := wputs 0 [7, 3, 2047, 2048, 4, 511, 512, 5, 31, 32] [], started := [] } (slots { exA with w := wputs 0 [7, 3, 2047, 2048, 4, 511, 512, 5, 31, 32] [], started := [] }), issues_of (by decide +kernel), by decide +kernel, by decide +kernel⟩,
   ⟨(op 3 0 1 0 0), 7, { exA with w := wputs 0 [7, 3, 2047, 2048, 4, 511, 512, 5, 31, 32] [], started := [] }, spell 0x7A 2 (op 3 0 1 0 0) { exA with w := wputs 0 [7, 3, 2047, 2048, 4, 511, 512, 5, 31, 32] [], started := [] } (slots { exA with w := wputs 0 [7, 3, 2047, 2048, 4, 511, 512, 5, 31, 32] [], started := [] }), issues_of (by decide +kernel), by decide +kernel, by decide +kernel, by decide +kernel⟩,
   ⟨(op 3 3 1 0 0), 7, { exA with w := wputs 0 [7, 3, 2047, 2048, 4, 511, 512, 5, 31, 32] [], started := [] }, spell 0x7B 2 (op 3 3 1 0 0) { exA with w := wputs 0 [7, 3, 2047, 2048, 4, 511, 512, 5, 31, 32] [], started := [] } (slots { exA with w := wputs 0 [7, 3, 2047, 2048, 4, 511, 512, 5, 31, 32] [], started := [] }), issues_of (by decide +kernel), by decide +kernel⟩,
   ⟨(op 3 2 1 0 0), 7, { exA with w := wputs 0 [7, 3, 2047, 2048, 4, 511, 512, 5, 31, 32] [], started := [] }, spell 0x7B 2 (op 3 2 1 0 0) { exA with w := wputs 0 [7, 3, 2047, 2048, 4, 511, 512, 5, 31, 32] [], started := [] } (slots { exA with w := wputs 0 [7, 3, 2047, 2048, 4, 511, 512, 5, 31, 32] [], started := [] }), issues_of (by decide +kernel), by decide +kernel, by decide +kernel⟩,
   ⟨(op 3 0 1 0 0), 7, { exA with w := wputs 0 [7, 3, 2047, 2048, 4, 511, 512, 5, 31, 32] [], started := [] }, spell 0x7B 2 (op 3 0 1 0 0) { exA with w := wputs 0 [7, 3, 2047, 2048, 4, 511, 512, 5, 31, 32] [], started := [] } (slots { exA with w := wputs 0 [7, 3, 2047, 2048, 4, 511, 512, 5, 31, 32] [], started := [] }), issues_of (by decide +kernel), by decide +kernel, by decide +kernel, by decide +kernel⟩,
   ⟨(op 3 3 1 0 0), 7, { exA with w := wputs 0 [7, 3, 2047, 2048, 4, 511, 512, 5, 31, 32] [], started := [] }, spell 0x7C 2 (op 3 3 1 0 0) { exA with w := wputs 0 [7, 3, 2047, 2048, 4, 511, 512, 5, 31, 32] [], started := [] } (slots { exA with w := wputs 0 [7, 3, 2047, 2048, 4, 511, 512, 5, 31, 32] [], started := [] }), issues_of (by decide +kernel), by decide +kernel⟩,
   ⟨(op 3 2 1 0 0), 7, { exA with w := wputs 0 [7, 3, 2047, 2048, 4, 511, 512, 5, 31, 32] [], started := [] }, spell 0x7C 2 (op 3 2 1 0 0) { exA with w := wputs 0 [7, 3, 2047, 2048, 4, 511, 512, 5, 31, 32] [], started := [] } (slots { exA with w := wputs 0 [7, 3, 2047, 2048, 4, 511, 512, 5, 31, 32] [], started := [] }), issues_of (by decide +kernel), by decide +kernel, by decide +kernel⟩,
   ⟨(op 3 0 1 0 0), 7, { exA with w := wputs 0 [7, 3, 2047, 2048, 4, 511, 512, 5, 31, 32] [], started := [] }, spell 0x7C 2 (op 3 0 1 0 0) { exA with w := wputs 0 [7, 3, 2047, 2048, 4, 511, 512, 5, 31, 32] [], started := [] } (slots { exA with w := wputs 0 [7, 3, 2047, 2048, 4, 511, 512, 5, 31, 32] [], started := [] }), issues_of (by decide +kernel), by decide +kernel, by decide +kernel⟩,
   ⟨(op 3 6 1 0 0), 7, { exA with w := wputs 0 [7, 3, 2047, 2048, 4, 511, 512, 5, 31, 32] [], started := [] }, spell 0x79 3 (op 3 6 1 0 0) { exA with w := wputs 0 [7, 3, 2047, 2048, 4, 511, 512, 5, 31, 32] [], started := [] } (slots { exA with w := wputs 0 [7, 3, 2047, 2048, 4, 511, 512, 5, 31, 32] [], started := [] }), issues_of (by decide +kernel), by decide +kernel⟩,
   ⟨(op 3 5 1 0 9), 7, { exA with w := wputs 0 [7, 3, 2047, 2048, 4, 511, 512, 5, 31, 32] [], started := [] }, spell 0x79 3 (op 3 5 1 0 9) { exA with w := wputs 0 [7, 3, 2047, 2048, 4, 511, 512, 5, 31, 32] [], started := [] } (slots { exA with w := wputs 0 [7, 3, 2047, 2048, 4, 511, 512, 5, 31, 32] [], started := [] }), issues_of (by decide +kernel), by decide +kernel, by decide +kernel⟩,
   ⟨(op 3 5 1 0 8), 7, { exA with w := wputs 0 [7, 3, 2047, 2048, 4, 511, 512, 5, 31, 32] [], started := [] }, spell 0x79 3 (op 3 5 1 0 8) { exA with w := wputs 0 [7, 3, 2047, 2048, 4, 511, 512, 5, 31, 32] [], started := [] } (slots { exA with w := wputs 0 [7, 3, 2047, 2048, 4, 511, 512, 5, 31, 32] [], started := [] }), issues_of (by decide +kernel), by decide +kernel, by decide +kernel, by decide +kernel⟩,
   ⟨(op 3 4 1 0 8), 7, { exA with w := wputs 0 [7, 3, 2047, 2048, 4, 511, 512, 5, 31, 32] [], started := [] }, spell 0x79 3 (op 3 4 1 0 8) { exA with w := wputs 0 [7, 3, 2047, 2048, 4, 511, 512, 5, 31, 32] [], started := [] } (slots { exA with w := wputs 0 [7, 3, 2047, 2048, 4, 511, 512, 5, 31, 32] [], started := [] }), issues_of (by decide +kernel), by decide +kernel, by decide +kernel, by decide +kernel, by decide +kernel⟩,
   ⟨(op 3 6 1 0 0), 7, { exA with w := wputs 0 [7, 3, 2047, 2048, 4, 511, 512, 5, 31, 32] [], started := [] }, spell 0x78 2 (op 3 6 1 0 0) { exA with w := wputs 0 [7, 3, 2047, 2048, 4, 511, 512, 5, 31, 32] [], started := [] } (slots { exA with w := wputs 0 [7, 3, 2047, 2048, 4, 511, 512, 5, 31, 32] [], started := [] }), issues_of (by decide +kernel), by decide +kernel⟩,
   ⟨(op 3 5 1 0 0), 7, { exA with w := wputs 0 [7, 3, 2047, 2048, 4, 511, 512, 5, 31, 32] [], started := [] }, spell 0x78 2 (op 3 5 1 0 0) { exA with w := wputs 0 [7, 3, 2047, 2048, 4, 511, 512, 5, 31, 32] [], started := [] } (slots { exA with w := wputs 0 [7, 3, 2047, 2048, 4, 511, 512, 5, 31, 32] [], started := [] }), issues_of (by decide +kernel), by decide +kernel, by decide +kernel, by decide +kernel⟩,
   ⟨(op 3 4 1 0 0), 7, { exA with w := wputs 0 [7, 3, 2047, 2048, 4, 511, 512, 5, 31, 32] [], started := List.replicate 8 ⟨9, 1, 9, 3⟩ }, spell 0x78 2 (op 3 4 1 0 0) { exA with w := wputs 0 [7, 3, 2047, 2048, 4, 511, 512, 5, 31, 32] [], started := List.replicate 8 ⟨9, 1, 9, 3⟩ } (slots { exA with w := wputs 0 [7, 3, 2047, 2048, 4, 511, 512, 5, 31, 32] [], started := List.replicate 8 ⟨9, 1, 9, 3⟩ }), issues_of (by decide +kernel), by decide +kernel, by decide +kernel, by decide +kernel⟩,
   ⟨(op 3 4 1 0 0), 7, { exA with w := wputs 0 [7, 3, 2047, 2048, 4, 511, 512, 5, 31, 32] [], started := [] }, spell 0x78 2 (op 3 4 1 0 0) { exA with w := wputs 0 [7, 3, 2047, 2048, 4, 511, 512, 5, 31, 32] [], started := [] } (slots { exA with w := wputs 0 [7, 3, 2047, 2048, 4, 511, 512, 5, 31, 32] [], started := [] }), issues_of (by decide +kernel), by decide +kernel, by decide +kernel, by decide +kernel, by decide +kernel, by decide +kernel⟩,
   ⟨(op 3 7 1 0 0), 7, { exA with w := wputs 0 [7, 3, 2047, 2048, 4, 511, 512, 5, 31, 32] [], started := [] }, spell 0x78 2 (op 3 7 1 0 0) { exA with w := wputs 0 [7, 3, 2047, 2048, 4, 511, 512, 5, 31, 32] [], started := [] } (slots { exA with w := wputs 0 [7, 3, 2047, 2048, 4, 511, 512, 5, 31, 32] [], started := [] }), issues_of (by decide +kernel), by decide +kernel, by decide +kernel, by decide +kernel, by decide +kernel, by decide +kernel⟩,
   ⟨(op 3 9 1 0 0), 7, { exA with w := wputs 0 [7, 3, 2047, 2048, 4, 511, 512, 5, 31, 32] [], started := [] }, spell 0x7D 2 (op 3 9 1 0 0) { exA with w := wputs 0 [7, 3, 2047, 2048, 4, 511, 512, 5, 31, 32] [], started := [] } (slots { exA with w := wputs 0 [7, 3, 2047, 2048, 4, 511, 512, 5, 31, 32] [], started := [] }), issues_of (by decide +kernel), by decide +kernel⟩,
   ⟨(op 3 8 1 0 0), 7, { exA with w := wputs 0 [7, 3, 2047, 2048, 4, 511, 512, 5, 31, 32] [], started := [] }, spell 0x7D 2 (op 3 8 1 0 0) { exA with w := wputs 0 [7, 3, 2047, 2048, 4, 511, 512, 5, 31, 32] [], started := [] } (slots { exA with w := wputs 0 [7, 3, 2047, 2048, 4, 511, 512, 5, 31, 32] [], started := [] }), issues_of (by decide +kernel), by decide +kernel, by decide +kernel, by decide +kernel⟩,
   ⟨(op 3 1 1 0 0), 7, { exA with w := wputs 0 [7, 3, 2047, 2048, 4, 511, 512, 5, 31, 32] [], started := [] }, spell 0x7D 2 (op 3 1 1 0 0) { exA with w := wputs 0 [7, 3, 2047, 2048, 4, 511, 512, 5, 31, 32] [], started := [] } (slots { exA with w := wputs 0 [7, 3, 2047, 2048, 4, 511, 512, 5, 31, 32] [], started := [] }), issues_of (by decide +kernel), by decide +kernel, by decide +kernel⟩,
   ⟨(op 3 1 1 0 0), 7, { exA with w := [(1, 3#48)], posts := List.replicate 16 323 }, spell 0x7D 2 (op 3 1 1 0 0) { exA with w := [(1, 3#48)], posts := List.replicate 16 323 } (slots { exA with w := [(1, 3#48)], posts := List.replicate 16 323 }), issues_of (by decide +kernel), by decide +kernel, by decide +kernel⟩,
   ⟨(op 3 1 1 0 16), 7, { exA with w := wputs 0 [7, 3, 2047, 2048, 4, 511, 512, 5, 31, 32] [], started := [] }, spell 0x7E 3 (op 3 1 1 0 16) { exA with w := wputs 0 [7, 3, 2047, 2048, 4, 511, 512, 5, 31, 32] [], started := [] } (slots { exA with w := wputs 0 [7, 3, 2047, 2048, 4, 511, 512, 5, 31, 32] [], started := [] }), issues_of (by decide +kernel), by decide +kernel⟩,
   ⟨(op 3 1 1 0 15), 7, { exA with w := wputs 0 [7, 3, 2047, 2048, 4, 511, 512, 5, 31, 32] [], started := [] }, spell 0x7E 3 (op 3 1 1 0 15) { exA with w := wputs 0 [7, 3, 2047, 2048, 4, 511, 512, 5, 31, 32] [], started := [] } (slots { exA with w := wputs 0 [7, 3, 2047, 2048, 4, 511, 512, 5, 31, 32] [], started := [] }), issues_of (by decide +kernel), by decide +kernel, by decide +kernel⟩,
   ⟨(op 3 1 1 0 15), 7, { exA with tenant := 0 }, spell 0x7E 3 (op 3 1 1 0 15) { exA with tenant := 0 } (slots { exA with tenant := 0 }), issues_of (by decide +kernel), by decide +kernel, by decide +kernel, by decide +kernel⟩,
   ⟨(op 3 1 1 0 15), 7, { exA with tenant := 0, posts := List.replicate 16 323 }, spell 0x7E 3 (op 3 1 1 0 15) { exA with tenant := 0, posts := List.replicate 16 323 } (slots { exA with tenant := 0, posts := List.replicate 16 323 }), issues_of (by decide +kernel), by decide +kernel, by decide +kernel⟩⟩

theorem witness_CeRdOfASample : ∃ (o : Kv) (k : Nat) (e : Ex) (s : State) (x : CeStarted) (r : CeRes), KvIssues .ceRd o 3 k e s ∧
    (rW e o.s).toNat < 2 ^ 9 ∧ o.imm.toNat < 9 ∧ ceTenant (getLoop s (rW e o.s).toNat) = e.tenant ∧
    e.started.find? (fun x => x.loop == (rW e o.s).toNat) = some x ∧ x.at_ + x.dist ≤ e.n ∧
    e.done.find? (fun r => r.loop == (rW e o.s).toNat && fld r.status 47 32 == x.seq) = some r :=
  ⟨op 3 1 1 0 8, 7, exS, spell 0x79 3 (op 3 1 1 0 8) exS (slots exS), ⟨4, 1, 7, 3⟩, ⟨4, [1, 2, 3, 4, 5, 6, 7, 8], setFld 0#48 47 32 1⟩,
   issues_of (by decide +kernel), by decide +kernel, by decide +kernel, by decide +kernel, by decide +kernel, by decide +kernel, by decide +kernel⟩

theorem witness_KvFalseGuardAndUndefinedForms :
    (∀ f ∈ kvForms, ∀ m ∈ f.ms, ∃ (o : Kv) (k : Nat) (e : Ex) (s : State), KvSkips f.row o f.len k e s) ∧
    (∃ x ∈ kvTable, ∃ (o : Kv) (len k : Nat) (e : Ex) (s : State), x.2 o = some len ∧ KvSkips x.1 o len k e s) ∧
    (∃ x ∈ kvTable, ∃ o : Kv, x.2 o = none) ∧
    (∃ x ∈ kvTable, ∃ (o : Kv) (len : Nat), x.2 o = some len ∧ FormatHolds len o) ∧
    (∃ x ∈ kvTable, ∃ (o : Kv) (k : Nat) (e : Ex) (s : State), issuing o.core.val s = some (k, e) ∧ kvAt o.core e s ≠ some (x.1 o)) := by
  refine ⟨?_, ⟨(.add, lenM 0 2), by simp [kvTable], kop 2 0 1 true, 2, 7, exA, spell 0x10 2 (kop 2 0 1 true) exA (kv exA), by decide,
      skips_of (by decide +kernel)⟩, ⟨(.add, lenM 0 2), by simp [kvTable], kop 2 3 0 false, by decide⟩,
    ⟨(.add, lenM 0 2), by simp [kvTable], kop 2 0 0 false, 2, by decide, ⟨by decide, by decide⟩⟩,
    ⟨(.add, lenM 0 2), by simp [kvTable], kop 2 0 0 false, 7, openDistances exA, kv exA, by decide +kernel, by decide +kernel⟩⟩
  intro f hf m hm
  have h : ∀ f ∈ kvForms, ∀ m ∈ f.ms, let o := kop f.len m 1 true
      let s := spell f.op f.len o exA (kv exA)
      kvAt o.core exA s = some (f.row o) ∧ codeLenAt s exA.tenant exA.pc = f.len ∧
      (coreTask s o.core.val = some 7 ∧ taskEx s 7 = some exA ∧ fetchOk exA f.len = true) ∧
      (∀ j, j < f.len → s.core.codeSoft.contains (exA.tenant * 2 ^ 22 + (exA.pc + j)) = false) ∧ guardTrue o exA = false ∧
      (budgetOf s 7 = 0 ∨ exA.cycles + 1 ≤ budgetOf s 7) := by decide +kernel
  obtain ⟨h1, h2, ⟨h3, h4, h5⟩, h6, h7, h8⟩ := h f hf m hm
  exact ⟨_, 7, exA, _, h1, h2, h3, h4, rfl, rfl, h5, h6, h7, h8⟩

theorem witness_KvTrapTaken :
    (∃ (c : Fin 8) (s0 s1 s2 : BitVec 14) (k : Nat) (e : Ex) (s : State), issuing c.val s = some (k, e) ∧
      fetchOk e (sylLen s0.toNat) = true ∧ (∀ j, j < sylLen s0.toNat → s.core.codeSoft.contains (e.tenant * 2 ^ 22 + (e.pc + j)) = false) ∧
      spelled s0.toNat s1.toNat s2.toNat e s = true ∧ syllablesLegal s0.toNat s1.toNat s2.toNat = false) ∧
    (∃ (c : Fin 8) (s0 s1 s2 : BitVec 14) (k : Nat) (e : Ex) (s : State), issuing c.val s = some (k, e) ∧
      fetchOk e (sylLen s0.toNat) = false ∧ spelled s0.toNat s1.toNat s2.toNat e s = true) ∧
    (∃ (k : Nat) (e : Ex) (s : State), taskEx s k = some e ∧ e.tenant = taskTenant s k) :=
  ⟨⟨0, 0x0F, 0, 0, 7, openDistances exA, spell 0x0F 1 (op 0 0 0 0 0) exA (kv exA), by decide +kernel, by decide +kernel, by decide +kernel, by decide +kernel, by decide +kernel⟩,
   ⟨0, 0, 0, 0, 7, openDistances exZ, kv exZ, by decide +kernel, by decide +kernel, by decide +kernel⟩,
   ⟨7, exA, setEx 7 (some exA) live, by decide +kernel, by decide +kernel⟩⟩

theorem witness_StepRunsFrontCommand :
    (∃ (c : Instr) (rest : List Instr) (s : State), s.pending = c :: rest) ∧ (∃ s : State, s.pending = []) :=
  ⟨⟨.stagingTimeout, [.rtcCalAdd], { live with pending := [.stagingTimeout, .rtcCalAdd] }, rfl⟩, ⟨live, rfl⟩⟩
theorem witness_QueueKeepsItsOrder : ∃ (l : List Instr) (s t : State), l <:+ s.pending.tail ∧ l ≠ [] ∧ step s = .next t :=
  ⟨[.rtcCalAdd], { live with pending := [.stagingTimeout, .rtcCalAdd] }, _, List.suffix_refl _, by simp, rfl⟩
theorem witness_ExecutionsWriteOnlyTheirPlots : ∃ s t : State, PlotsAreKept s ∧ (taskEx s 7).isSome = true ∧ step s = .next t :=
  ⟨{ kv { exA with outw := [], imPend := [] } with pending := [.stagingTimeout] }, _, by
    intro k e h
    by_cases hk : k = 7
    · subst hk
      have he : some { exA with outw := [], imPend := [] } = some e := h
      cases he; exact ⟨by simp, by simp⟩
    · have hn : taskEx (setEx 7 (some { exA with outw := [], imPend := [] }) State.reset) k = none := by
        simp [taskEx, setEx, hk, tget_tput]; rfl
      exact absurd (hn.symm.trans h) (by simp), by decide +kernel, rfl⟩
theorem goes_of {i : Instr} {s : State} (h : (match exec i s with | .next _ => true | _ => false) = true) : ∃ t, exec i s = .next t := by
  split at h
  · exact ⟨_, ‹_›⟩
  · cases h
theorem witness_KvFrames : (∃ (o : Kv) (s t : State), exec (.add o) s = .next t) ∧ (∃ (o : Kv) (s t : State), exec (.ceRd o) s = .next t) ∧
    (∃ (o : Kv) (s t : State), exec (.schArm o) s = .next t) ∧ (∃ (o : Kv) (s t : State), exec (.ceStart o) s = .next t) :=
  ⟨⟨_, _, goes_of (s := kv exA) (i := .add (op 2 1 3 0 0)) (by decide +kernel)⟩,
   ⟨_, _, goes_of (s := spell 0x79 3 (op 3 1 1 0 8) exS (slots exS)) (i := .ceRd (op 3 1 1 0 8)) (by decide +kernel)⟩,
   ⟨_, _, goes_of (s := slots exS) (i := .schArm (op 3 1 1 0 0)) (by decide +kernel)⟩,
   ⟨_, _, goes_of (s := slots exS) (i := .ceStart (op 3 1 1 0 0)) (by decide +kernel)⟩⟩
theorem witness_CommandFrames : ∃ (ch : Fin 16) (p : Bytes) (s t : State), exec (.mbNop ch p) s = .next t :=
  ⟨0, [1#8], _, goes_of (s := asks 0x0103 0 [1#8] live) (by decide +kernel)⟩
theorem witness_EventFrames : ∃ (s t : State), exec .stagingTimeout s = .next t := ⟨_, goes_of (s := live) (by decide +kernel)⟩

theorem witness_SpiPortFrames :
    (∃ m : Bytes, ∃ s : State, 16 ≤ m.length ∧ m.length ≤ 4096 ∧ boot s = false ∧ s.sup.sleeping = false ∧ s.sup.asleep = false ∧ s.mb.spi.waiting.length < 2 ∧ ∃ us, us = ([0x5A01#16, BitVec.ofNat 16 m.length] ++ packUnits m)) ∧
    (∃ ch : Fin 16, ∃ n : Nat, ∃ m : Bytes, ∃ s : State, boot s = false ∧ s.sup.sleeping = false ∧ s.sup.asleep = false ∧ (chanCfg s ch.val).transport = 1 ∧ (getChan s ch.val).reply = some m ∧ m ≠ [] ∧ s.mb.spi.view.isSome = true ∧ 6 + (m.length + 1) / 2 ≤ n) ∧
    (∃ ch : Fin 16, ∃ n : Nat, ∃ s : State, boot s = false ∧ s.sup.sleeping = false ∧ s.sup.asleep = false ∧ (chanCfg s ch.val).transport = 1 ∧ s.mb.spi.view.isSome = true ∧ 2 ≤ n) ∧
    (∃ n : Nat, ∃ s : State, boot s = false ∧ s.sup.sleeping = false ∧ s.sup.asleep = false ∧ 32 ≤ n) ∧
    (∃ u : BitVec 16, ∃ n : Nat, ∃ s : State, boot s = false ∧ s.sup.sleeping = false ∧ s.sup.asleep = false ∧ n < 31 ∧ u.toNat ∉ [0x5A01, 0x5A02, 0x5A03]) ∧
    (∃ f : SpiFrame, ∃ s : State, boot s = true ∧ s.sup.asleep = false ∧ f.edges ≠ 0) :=
  ⟨⟨(List.replicate 16 3#8), live, by decide +kernel, by decide +kernel, by decide +kernel, by decide +kernel, ⟨by decide +kernel, by decide +kernel, _, rfl⟩⟩,
   ⟨1, 8, [1#8,2#8,3#8], (updChan 1 (fun c => { c with reply := some [1#8,2#8,3#8], ready := true }) live), by decide +kernel⟩,
   ⟨1, 2, (updChan 1 (fun c => { c with reply := some [1#8,2#8,3#8], ready := true }) live), by decide +kernel⟩,
   ⟨32, ({ (updChan 1 (fun c => { c with isOpen := true, lastSeq := 41 }) live) with mb := { (updChan 1 (fun c => { c with isOpen := true, lastSeq := 41 }) live).mb with spi := { (updChan 1 (fun c => { c with isOpen := true, lastSeq := 41 }) live).mb.spi with waiting := [([1#8, 1#8, 3#8, 0#8] ++ toBe 4 42 ++ toBe 2 259 ++ toBe 2 0 ++ toBe 4 0 ++ [])] } } }), by decide +kernel⟩,
   ⟨(0x5A04#16), 0, ({ (updChan 1 (fun c => { c with isOpen := true, lastSeq := 41 }) live) with mb := { (updChan 1 (fun c => { c with isOpen := true, lastSeq := 41 }) live).mb with spi := { (updChan 1 (fun c => { c with isOpen := true, lastSeq := 41 }) live).mb.spi with waiting := [([1#8, 1#8, 3#8, 0#8] ++ toBe 4 42 ++ toBe 2 259 ++ toBe 2 0 ++ toBe 4 0 ++ [])] } } }), by decide +kernel⟩,
   ⟨⟨[0x5A01#16], 16⟩, State.reset, by decide +kernel⟩⟩

theorem witness_RequestsExecute :
    (∃ m : Bytes, ∃ rest : List Bytes, ∃ s : State, ∃ ch : Fin 16, s.mb.spi.waiting = m :: rest ∧ (chanCfg s ch.val).transport = 1 ∧ ((chanCfg s ch.val).tagreq = true → u8 m 3 = 1) ∧ RequestSound s ch m) ∧
    (∃ s : State, s.mb.spi.waiting = []) ∧
    (∃ mac : Fin 3, ∃ ip : Nat, ∃ port : Nat, ∃ m : Bytes, ∃ s : State, ∃ ch : Fin 16, boot s = false ∧ s.sup.sleeping = false ∧ macOn (getMac s mac.val) = true ∧ macUp s mac.val = true ∧ (chanCfg s ch.val).transport = 2 ∧ ((chanCfg s ch.val).srcIp = 0 ∨ (chanCfg s ch.val).srcIp = ip) ∧ u8 m 3 = 1 ∧ RequestSound s ch m) ∧
    (∃ mac : Fin 3, ∃ ip : Nat, ∃ port : Nat, ∃ m : Bytes, ∃ s : State, (boot s = true ∨ macOn (getMac s mac.val) = false ∨ macUp s mac.val = false)) ∧
    (∃ mac : Fin 3, ∃ ip : Nat, ∃ port : Nat, ∃ m : Bytes, ∃ s : State, (boot s = true ∨ macOn (getMac s mac.val) = false ∨ macUp s mac.val = false)) ∧
    (∃ ch : Fin 16, ∃ r : Req, ∃ rc : Nat, ∃ pl : Bytes, ∃ s : State, (getChan s ch.val).exec = some r ∧ (getChan s ch.val).result = some (rc, pl)) ∧
    (∃ ch : Fin 16, ∃ s : State, ((getChan s ch.val).exec = none ∨ (getChan s ch.val).result = none)) ∧
    (∃ ch : Fin 16, ∃ s : State, ((getChan s ch.val).exec = none ∨ (getChan s ch.val).result = none)) :=
  ⟨⟨([1#8, 1#8, 3#8, 0#8] ++ toBe 4 42 ++ toBe 2 259 ++ toBe 2 0 ++ toBe 4 0 ++ []), [], ({ (updChan 1 (fun c => { c with isOpen := true, lastSeq := 41 }) live) with mb := { (updChan 1 (fun c => { c with isOpen := true, lastSeq := 41 }) live).mb with spi := { (updChan 1 (fun c => { c with isOpen := true, lastSeq := 41 }) live).mb.spi with waiting := [([1#8, 1#8, 3#8, 0#8] ++ toBe 4 42 ++ toBe 2 259 ++ toBe 2 0 ++ toBe 4 0 ++ [])] } } }), 1, by decide +kernel, by decide +kernel, by decide +kernel, ⟨by decide +kernel, by decide +kernel, by decide +kernel, by decide +kernel, by decide +kernel, by decide +kernel⟩⟩,
   ⟨live, by decide +kernel⟩,
   ⟨1, 0x0A000001, 4000, (([1#8, 2#8, 3#8, 1#8] ++ toBe 4 42 ++ toBe 2 259 ++ toBe 2 0 ++ toBe 4 0 ++ []) ++ mbTag (List.replicate 32 7#8) ([1#8, 2#8, 3#8, 1#8] ++ toBe 4 42 ++ toBe 2 259 ++ toBe 2 0 ++ toBe 4 0 ++ []) []), (updMac 1 (fun m => { m with up := true, cfg := wd (2 ^ 47) }) (updChan 2 (fun c => { c with isOpen := true, lastSeq := 41 }) live)), 2, by decide +kernel, by decide +kernel, by decide +kernel, by decide +kernel, ⟨by decide +kernel, by decide +kernel, by decide +kernel, ⟨by decide +kernel, by decide +kernel, by decide +kernel, by decide +kernel, by decide +kernel, by decide +kernel⟩⟩⟩,
   ⟨1, 0x0A000001, 4000, (([1#8, 2#8, 3#8, 1#8] ++ toBe 4 42 ++ toBe 2 259 ++ toBe 2 0 ++ toBe 4 0 ++ []) ++ mbTag (List.replicate 32 7#8) ([1#8, 2#8, 3#8, 1#8] ++ toBe 4 42 ++ toBe 2 259 ++ toBe 2 0 ++ toBe 4 0 ++ []) []), live, by decide +kernel⟩,
   ⟨1, 0x0A000001, 4000, (([1#8, 2#8, 3#8, 1#8] ++ toBe 4 42 ++ toBe 2 259 ++ toBe 2 0 ++ toBe 4 0 ++ []) ++ mbTag (List.replicate 32 7#8) ([1#8, 2#8, 3#8, 1#8] ++ toBe 4 42 ++ toBe 2 259 ++ toBe 2 0 ++ toBe 4 0 ++ []) []), State.reset, by decide +kernel⟩,
   ⟨1, ⟨9, 0x103, 3, 0, [1#8], [], none⟩, 0, [5#8], (updChan 1 (fun c => { c with isOpen := true, exec := some ⟨9, 0x103, 3, 0, [1#8], [], none⟩, result := some (0, [5#8]) }) live), by decide +kernel⟩,
   ⟨1, live, by decide +kernel⟩,
   ⟨1, (updChan 1 (fun c => { c with isOpen := true, exec := some ⟨9, 0x103, 3, 0, [1#8], [], none⟩ }) live), by decide +kernel⟩⟩

theorem witness_SessionChannelAndEventCommands :
    (∃ ch : Fin 16, ∃ s : State, Asked .mbSessionOpen ch [] s) ∧
    (∃ ch : Fin 16, ∃ s : State, NotCarried s ch ∧ Asked .mbSessionClose ch [] s) ∧
    (∃ ch : Fin 16, ∃ a : Byte, ∃ b : Byte, ∃ s : State, Asked .mbAckAttn ch [a, b] s) ∧
    (∃ ch : Fin 16, ∃ k : Fin 16, ∃ s : State, (tenantOf s ch = 0 ∨ tenantOf s k = tenantOf s ch) ∧ NotCarried s ch ∧ Asked .mbChanStats ch [BitVec.ofNat 8 k.val] s) ∧
    (∃ ch : Fin 16, ∃ k : Fin 16, ∃ s : State, (tenantOf s ch = 0 ∨ tenantOf s k = tenantOf s ch) ∧ NotCarried s ch ∧ Asked .mbChanStats ch [BitVec.ofNat 8 k.val] s) ∧
    (∃ ch : Fin 16, ∃ k : Fin 16, ∃ tn : Fin 32, ∃ s : State, tenantOf s ch = 0 ∧ pairRefuses s = false ∧ k ≠ ch ∧ (chanCfg s 0).tenant = 0 ∧ (chanCfg s 0).transport = 1 ∧ (getChan s 0).newCfg = none ∧ k.val ≠ 0 ∧ areaFits s 5 = true ∧ Asked .mbChanBind ch [BitVec.ofNat 8 k.val, BitVec.ofNat 8 tn.val, 1#8, 0#8, 0#8, 0#8, 0#8, 0#8] s) ∧
    (∃ ch : Fin 16, ∃ k : Fin 16, ∃ g : Nat, ∃ wrapped : Bytes, ∃ s : State, tenantOf s ch = 0 ∧ pairRefuses s = false ∧ k ≠ ch ∧ wrapped.length = 32 ∧ (cfgSoon s k.val).keyGen < g ∧ g < 2 ^ 32 ∧ areaFits s 5 = true ∧ Asked .mbKeySet ch ([BitVec.ofNat 8 k.val, 0#8] ++ toBe 4 g ++ wrapped) s) ∧
    (∃ ch : Fin 16, ∃ n : Nat, ∃ tn : Fin 32, ∃ s : State, tenantOf s ch = 0 ∧ Changes s ∧ evtAllocatable n = true ∧ bit (evtSrc s n) 23 = false ∧ Asked .mbEvtAlloc ch (toBe 2 n ++ toBe 2 1 ++ [BitVec.ofNat 8 tn.val, 1#8]) s) ∧
    (∃ ch : Fin 16, ∃ n : Nat, ∃ b : Bool, ∃ s : State, n < 384 ∧ evtOwner s n = tenantOf s ch ∧ Changes s ∧ (b = true ∨ bit (evtSrc s n) 23 = false) ∧ (Asked .mbEvtEnable ch (toBe 2 n ++ [if b then 1#8 else 0#8]) s)) ∧
    (∃ ch : Fin 16, ∃ n : Nat, ∃ b : Bool, ∃ s : State, n < 384 ∧ evtOwner s n = tenantOf s ch ∧ Changes s ∧ (b = true ∨ bit (evtSrc s n) 23 = false) ∧ (Asked .mbEvtEnable ch (toBe 2 n ++ [if b then 1#8 else 0#8]) s)) ∧
    (∃ ch : Fin 16, ∃ n : Nat, ∃ b : Bool, ∃ s : State, n < 384 ∧ evtOwner s n = tenantOf s ch ∧ Changes s ∧ (b = true ∨ bit (evtSrc s n) 23 = false) ∧ (Asked .mbEvtEnable ch (toBe 2 n ++ [if b then 1#8 else 0#8]) s)) ∧
    (∃ ch : Fin 16, ∃ n : Nat, ∃ s : State, n < 384 ∧ (tenantOf s ch = 0 ∨ evtOwner s n = tenantOf s ch) ∧ Changes s ∧ bit (evtSrc s n) 23 = false ∧ Asked .mbEvtClear ch (1#8 :: toBe 2 n) s) ∧
    (∃ ch : Fin 16, ∃ n : Nat, ∃ s : State, n < 384 ∧ (tenantOf s ch = 0 ∨ evtOwner s n = tenantOf s ch) ∧ Changes s ∧ bit (evtSrc s n) 23 = false ∧ Asked .mbEvtClear ch (1#8 :: toBe 2 n) s) ∧
    (∃ ch : Fin 16, ∃ n : Nat, ∃ s : State, n < 384 ∧ NotCarried s ch ∧ Asked .mbEvtGet ch (toBe 2 n ++ [1#8]) s) :=
  ⟨⟨1, (asks 0x0101 (1 : Fin 16) [] live), asked_asks rfl⟩,
   ⟨1, (asks 0x0102 (1 : Fin 16) [] live), forall_some (by decide +kernel), asked_asks rfl⟩,
   ⟨1, (0x80#8), (0xFF#8), (asks 0x0104 (1 : Fin 16) [(0x80#8 : Byte), (0xFF#8 : Byte)] (({ live with silo := { live.silo with wdgResets := 4 } }) : State)), asked_asks rfl⟩,
   ⟨1, 2, (asks 0x0108 (1 : Fin 16) [BitVec.ofNat 8 (2 : Fin 16).val] live), by decide +kernel, forall_some (by decide +kernel), asked_asks rfl⟩,
   ⟨0, 2, (asks 0x0108 (0 : Fin 16) [BitVec.ofNat 8 (2 : Fin 16).val] live), by decide +kernel, forall_some (by decide +kernel), asked_asks rfl⟩,
   ⟨0, 15, 31, (asks 0x0106 (0 : Fin 16) [BitVec.ofNat 8 (15 : Fin 16).val, BitVec.ofNat 8 (31 : Fin 32).val, 1#8, 0#8, 0#8, 0#8, 0#8, 0#8] live), by decide +kernel, by decide +kernel, by decide +kernel, by decide +kernel, ⟨by decide +kernel, by decide +kernel, by decide +kernel, by decide +kernel, asked_asks rfl⟩⟩,
   ⟨0, 2, 0xFFFFFFFF, (List.replicate 32 1#8), (asks 0x0107 (0 : Fin 16) ([BitVec.ofNat 8 (2 : Fin 16).val, 0#8] ++ toBe 4 (0xFFFFFFFF : Nat) ++ ((List.replicate 32 1#8) : Bytes)) live), by decide +kernel, by decide +kernel, by decide +kernel, by decide +kernel, ⟨by decide +kernel, by decide +kernel, by decide +kernel, asked_asks rfl⟩⟩,
   ⟨0, 103, 31, (asks 0x0208 (0 : Fin 16) (toBe 2 (103 : Nat) ++ toBe 2 1 ++ [BitVec.ofNat 8 (31 : Fin 32).val, 1#8]) live), by decide +kernel, ⟨by decide +kernel, by decide +kernel⟩, by decide +kernel, by decide +kernel, asked_asks rfl⟩,
   ⟨0, 5, true, (asks 0x0209 (0 : Fin 16) (toBe 2 (5 : Nat) ++ [if true then 1#8 else 0#8]) live), by decide +kernel, by decide +kernel, ⟨by decide +kernel, by decide +kernel⟩, by decide +kernel, asked_asks rfl⟩,
   ⟨0, 104, false, (asks 0x0209 (0 : Fin 16) (toBe 2 (104 : Nat) ++ [if false then 1#8 else 0#8]) live), by decide +kernel, by decide +kernel, ⟨by decide +kernel, by decide +kernel⟩, by decide +kernel, asked_asks rfl⟩,
   ⟨1, 323, true, (asks 0x0209 (1 : Fin 16) (toBe 2 (323 : Nat) ++ [if true then 1#8 else 0#8]) live), by decide +kernel, by decide +kernel, ⟨by decide +kernel, by decide +kernel⟩, by decide +kernel, asked_asks rfl⟩,
   ⟨0, 383, (asks 0x020A (0 : Fin 16) (1#8 :: toBe 2 (383 : Nat)) ((setPending 383 true live) : State)), by decide +kernel, by decide +kernel, ⟨by decide +kernel, by decide +kernel⟩, by decide +kernel, asked_asks rfl⟩,
   ⟨0, 7, (asks 0x020A (0 : Fin 16) (1#8 :: toBe 2 (7 : Nat)) ((setPending 7 true live) : State)), by decide +kernel, by decide +kernel, ⟨by decide +kernel, by decide +kernel⟩, by decide +kernel, asked_asks rfl⟩,
   ⟨1, 5, (asks 0x020B (1 : Fin 16) (toBe 2 (5 : Nat) ++ [1#8]) live), by decide +kernel, forall_some (by decide +kernel), asked_asks rfl⟩⟩

theorem witness_TasksAreReleased :
    (∃ task : Fin 256, ∃ s : State, ∃ r, r = (freezeReady s) ∧ taskUnit r task.val = none ∧ taskKind (taskEnt r task.val) = 1 ∧ mayRelease r task.val = true ∧ taskEx r task.val = none ∧ (taskEnt r task.val).lastRel ≠ some r.clk ∧ cyclicDue r task.val = true) ∧
    (∃ task : Fin 256, ∃ u : OvlUnit, ∃ s : State, ∃ r, r = (freezeReady s) ∧ taskUnit r task.val = some u ∧ (∃ v ∈ r.ovl.units, v.kind ≠ 5 ∨ v.key ≠ task.val) ∧ serving r = true ∧ taskKind (taskEnt r task.val) = 1 ∧ mayRelease r task.val = true ∧ taskEx r task.val = none ∧ (taskEnt r task.val).lastRel ≠ some r.clk ∧ cyclicDue r task.val = true) ∧
    (∃ task : Fin 256, ∃ s : State, ∃ r, r = (freezeReady s) ∧ taskUnit r task.val = none ∧ taskKind (taskEnt r task.val) = 2 ∧ mayRelease r task.val = true ∧ taskEx r task.val = none ∧ ∃ a, a = ((taskAccepted (taskEnt r task.val)).2.1) ∧ evtPending r (fld a 8 0) = true ∧ (∀ x, (taskEnt r task.val).lastRel = some x → x + fld a 47 30 * 50000 ≤ r.clk)) ∧
    (∃ task : Fin 256, ∃ s : State, ∃ p, p = ((dueEntry s task.val).2.1) ∧ ∃ ms, ms = ((crossed (fld p 25 0 : Nat) (taskEnt s task.val).posSeen s.tb.pos).filter (fun m => (taskEnt s task.val).posHold != some m)) ∧ ∃ r, r = (freezeReady (updTask task.val (fun e => { e with posSeen := s.tb.pos, posHold := ms.getLast? }) s)) ∧ taskUnit r task.val = none ∧ taskKind (taskEnt s task.val) = 3 ∧ mayRelease s task.val = true ∧ mayRelease r task.val = true ∧ taskEx s task.val = none ∧ ms ≠ [] ∧ (if (taskEnt s task.val).posSeen < s.tb.pos then fld p 47 46 = 1 ∨ fld p 47 46 = 3 else fld p 47 46 = 2 ∨ fld p 47 46 = 3)) ∧
    (∃ task : Fin 256, ∃ s : State, ∃ n, n = (b2n (bit (dueEntry s task.val).2.1 47)) ∧ ∃ r, r = (freezeReady (updTask task.val (fun e => { e with cycSeen := some (supang s n / 65536) }) s)) ∧ taskUnit r task.val = none ∧ taskKind (taskEnt s task.val) = 4 ∧ mayRelease r task.val = true ∧ s.pair.handover = none ∧ taskEx s task.val = none ∧ supplyDue s task.val = true) :=
  ⟨⟨7, ({ live with clk := 2000000000 }), _, rfl, by decide +kernel⟩,
   ⟨7, ⟨5, 7, [], []⟩, ({ live with prog := { live.prog with entries := [(7, (taskEnt live 7).cfg, (taskEnt live 7).par, (taskEnt live 7).lim)] }, ovl := { live.ovl with active := true, units := [⟨5, 7, [], []⟩, ⟨2, 4000, [], []⟩] } }), _, rfl, by decide +kernel⟩,
   ⟨8, evLive, _, rfl, by decide +kernel, by decide +kernel, by decide +kernel, by decide +kernel, ⟨_, rfl, by decide +kernel, forall_some (by decide +kernel)⟩⟩,
   ⟨9, posLive, _, rfl, _, rfl, _, rfl, by decide +kernel⟩,
   ⟨10, live, _, rfl, _, rfl, by decide +kernel⟩⟩

theorem witness_ExecutionsEndAndModesChange :
    (∃ task : Fin 256, ∃ e : Ex, ∃ s : State, taskEx s task.val = some e ∧ e.phase = 3 ∧ e.replay = false ∧ firstCommit s task.val e = true ∧ (taskEnt s task.val).due = 0 ∧ s.sup.wdgServer = false) ∧
    (∃ task : Fin 256, ∃ e : Ex, ∃ s : State, taskEx s task.val = some e ∧ e.phase = 3 ∧ e.replay = false ∧ firstCommit s task.val e = true ∧ (taskEnt (commitDone task.val e s) task.val).due ≠ 0 ∧ ∃ r, r = (freezeReady (commitDone task.val e s)) ∧ (taskEnt r task.val).due ≠ 0 ∧ mayRelease r task.val = true ∧ taskUnit r task.val = none) ∧
    (∃ core : Fin 8, ∃ k : Nat, ∃ e : Ex, ∃ s : State, coreTask s core.val = some k ∧ taskEx s k = some e ∧ e.overBudget = true ∧ taskTenant s k = e.tenant) ∧
    (∃ task : Fin 256, ∃ e : Ex, ∃ s : State, taskEx s task.val = some e ∧ e.phase ≠ 3 ∧ e.relAt + fld (taskEnt s task.val).lim 17 0 * 50000 ≤ s.clk) ∧
    (∃ scope : Option (Fin 32), ∃ r : Trans, ∃ s : State, ∃ n, n = (match scope with | some t => t.val | none => 32) ∧ tget none s.task.trans n = some r ∧ (∀ k ∈ liveTasks s, n ≠ 32 ∧ taskTenant s k ≠ n)) :=
  ⟨⟨7, ended, (setCore 0 (some 7) (setEx 7 (some ended) live)), by decide +kernel⟩,
   ⟨7, ended, (updTask 7 (fun e => { e with due := 3 }) (setCore 0 (some 7) (setEx 7 (some ended) live))), by decide +kernel, by decide +kernel, by decide +kernel, by decide +kernel, ⟨by decide +kernel, _, rfl, by decide +kernel⟩⟩,
   ⟨0, 7, { exA with overBudget := true }, (setCore 0 (some 7) (setEx 7 (some { exA with overBudget := true }) live)), by decide +kernel⟩,
   ⟨7, exA, ({ (setCore 0 (some 7) (setEx 7 (some exA) live)) with clk := 1001000 }), by decide +kernel⟩,
   ⟨none, ⟨1, false, 0, some 15⟩, ({ live with task := { (live).task with trans := [(32, some ⟨1, false, 0, some 15⟩)] } }), _, rfl, by decide +kernel⟩⟩

theorem witness_TaskAndModeCommands :
    (∃ ch : Fin 16, ∃ m : Byte, ∃ o : Byte, ∃ s : State, tenantOf s ch = 0 ∧ Changes s ∧ 1 ≤ m.toNat ∧ m.toNat ≤ 3 ∧ o.toNat ≤ 1 ∧ tget none s.task.trans 32 = none ∧ transOk s.task.dev m.toNat = true ∧ Asked .mbModeSet ch [m, o] s) ∧
    (∃ ch : Fin 16, ∃ m : Byte, ∃ o : Byte, ∃ s : State, tenantOf s ch = 0 ∧ Changes s ∧ 1 ≤ m.toNat ∧ m.toNat ≤ 3 ∧ o.toNat ≤ 1 ∧ tget none s.task.trans 32 = none ∧ transOk s.task.dev m.toNat = true ∧ liveTasks s = [] ∧ tget [] s.task.queued 32 = [] ∧ Asked .mbModeSet ch [m, o] s) ∧
    (∃ ch : Fin 16, ∃ n : Byte, ∃ m : Byte, ∃ o : Byte, ∃ s : State, (tenantOf s ch = 0 ∨ tenantOf s ch = n.toNat) ∧ Changes s ∧ n.toNat < 32 ∧ 1 ≤ m.toNat ∧ m.toNat ≤ 3 ∧ o.toNat ≤ 1 ∧ tget none s.task.trans n.toNat = none ∧ transOk (tenMode s n.toNat) m.toNat = true ∧ Asked .mbTenantModeSet ch [n, m, o] s) ∧
    (∃ ch : Fin 16, ∃ n : Byte, ∃ m : Byte, ∃ o : Byte, ∃ s : State, (tenantOf s ch = 0 ∨ tenantOf s ch = n.toNat) ∧ Changes s ∧ n.toNat < 32 ∧ 1 ≤ m.toNat ∧ m.toNat ≤ 3 ∧ o.toNat ≤ 1 ∧ tget none s.task.trans n.toNat = none ∧ transOk (tenMode s n.toNat) m.toNat = true ∧ Asked .mbTenantModeSet ch [n, m, o] s) ∧
    (∃ ch : Fin 16, ∃ n : Byte, ∃ m : Byte, ∃ o : Byte, ∃ s : State, (tenantOf s ch = 0 ∨ tenantOf s ch = n.toNat) ∧ Changes s ∧ n.toNat < 32 ∧ 1 ≤ m.toNat ∧ m.toNat ≤ 3 ∧ o.toNat ≤ 1 ∧ tget none s.task.trans n.toNat = none ∧ transOk (tenMode s n.toNat) m.toNat = true ∧ ∃ k : Fin 32, k.val = n.toNat ∧ (∀ j ∈ liveTasks s, taskTenant s j ≠ k.val) ∧ tget [] s.task.queued k.val = [] ∧ Asked .mbTenantModeSet ch [n, m, o] s) ∧
    (∃ ch : Fin 16, ∃ task : Fin 256, ∃ s : State, NotCarried s ch ∧ taskOwner s (tenantOf s ch) task.val = true ∧ ∃ e, e = (taskEnt s task.val) ∧ Asked .mbTaskGet ch (toBe 2 task.val) s) ∧
    (∃ ch : Fin 16, ∃ task : Fin 256, ∃ p : Bytes, ∃ s : State, be p 0 2 = task.val ∧ Changes s ∧ taskDefined s task.val = true ∧ (tenantOf s ch = 0 ∨ tenantOf s ch = taskTenant s task.val) ∧ ((u8 p 2 = 0 ∧ p.length = 10 ∧ u8 p 3 ≤ 15) ∨ (u8 p 2 = 1 ∧ p.length = 21)) ∧ ∃ n, n = (taskRequest s task.val p) ∧ (fld n.1 47 45 = taskKind (taskEnt s task.val) ∨ effMode s (taskTenant s task.val) = 1) ∧ taskParOk (fld n.1 47 45) n.2.1 n.2.2 = true ∧ schedOk (tenSched s (taskTenant s task.val)) n.1 = true ∧ (∀ i, entrySource n.1 n.2.1 = some i → i < 384 ∧ evtOwner s i = taskTenant s task.val ∧ (bit (evtSrc s i) 23 = true → fld (evtSrc s i) 31 24 = task.val)) ∧ Asked .mbTaskSet ch p s) ∧
    (∃ ch : Fin 16, ∃ task : Fin 256, ∃ p : Bytes, ∃ s : State, be p 0 2 = task.val ∧ Changes s ∧ taskDefined s task.val = true ∧ (tenantOf s ch = 0 ∨ tenantOf s ch = taskTenant s task.val) ∧ ((u8 p 2 = 0 ∧ p.length = 10 ∧ u8 p 3 ≤ 15) ∨ (u8 p 2 = 1 ∧ p.length = 21)) ∧ ∃ n, n = (taskRequest s task.val p) ∧ (fld n.1 47 45 = taskKind (taskEnt s task.val) ∨ effMode s (taskTenant s task.val) = 1) ∧ taskParOk (fld n.1 47 45) n.2.1 n.2.2 = true ∧ schedOk (tenSched s (taskTenant s task.val)) n.1 = true ∧ (∀ i, entrySource n.1 n.2.1 = some i → i < 384 ∧ evtOwner s i = taskTenant s task.val ∧ (bit (evtSrc s i) 23 = true → fld (evtSrc s i) 31 24 = task.val)) ∧ Asked .mbTaskSet ch p s) ∧
    (∃ ch : Fin 16, ∃ task : Fin 256, ∃ c : Bool, ∃ s : State, taskOwner s (tenantOf s ch) task.val = true ∧ (Asked .mbTaskStats ch (toBe 2 task.val ++ [if c then 1#8 else 0#8]) s)) ∧
    (∃ ch : Fin 16, ∃ n : Byte, ∃ prio : Byte, ∃ cores : Byte, ∃ s : State, tenantOf s ch = 0 ∧ Changes s ∧ n.toNat < 32 ∧ (effMode s n.toNat = 1 ∨ effMode s n.toNat = 4) ∧ prio.toNat ≤ 15 ∧ (∀ k, k < 256 → taskDefined s k = true → taskTenant s k = n.toNat → schedOk (wd (prio.toNat * 256 + cores.toNat)) (taskAccepted (taskEnt s k)).1 = true) ∧ Asked .mbTenantSchedSet ch [n, prio, cores] s) ∧
    (∃ ch : Fin 16, ∃ n : Byte, ∃ prio : Byte, ∃ cores : Byte, ∃ s : State, tenantOf s ch = 0 ∧ Changes s ∧ n.toNat < 32 ∧ (effMode s n.toNat = 1 ∨ effMode s n.toNat = 4) ∧ prio.toNat ≤ 15 ∧ (∀ k, k < 256 → taskDefined s k = true → taskTenant s k = n.toNat → schedOk (wd (prio.toNat * 256 + cores.toNat)) (taskAccepted (taskEnt s k)).1 = true) ∧ Asked .mbTenantSchedSet ch [n, prio, cores] s) ∧
    (∃ ch : Fin 16, ∃ x : Bool, ∃ i : Nat, ∃ k : Nat, ∃ s : State, Changes s ∧ 1 ≤ i ∧ i ≤ 6000 ∧ k < 2 ^ 16 ∧ (x = true → k = 0xFFFF ∨ (taskDefined s k = true ∧ taskTenant s k = tenantOf s ch)) ∧ (Asked .mbRetainSet ch ((if x then 1#8 else 0#8) :: toBe 2 i ++ toBe 2 k) s)) ∧
    (∃ ch : Fin 16, ∃ x : Bool, ∃ i : Nat, ∃ k : Nat, ∃ s : State, Changes s ∧ 1 ≤ i ∧ i ≤ 6000 ∧ k < 2 ^ 16 ∧ (x = true → k = 0xFFFF ∨ (taskDefined s k = true ∧ taskTenant s k = tenantOf s ch)) ∧ (Asked .mbRetainSet ch ((if x then 1#8 else 0#8) :: toBe 2 i ++ toBe 2 k) s)) ∧
    (∃ ch : Fin 16, ∃ x : Bool, ∃ i : Nat, ∃ k : Nat, ∃ s : State, Changes s ∧ 1 ≤ i ∧ i ≤ 6000 ∧ k < 2 ^ 16 ∧ (x = true → k = 0xFFFF ∨ (taskDefined s k = true ∧ taskTenant s k = tenantOf s ch)) ∧ (Asked .mbRetainSet ch ((if x then 1#8 else 0#8) :: toBe 2 i ++ toBe 2 k) s)) :=
  ⟨⟨0, (3#8), (0#8), (asks 0x0201 (0 : Fin 16) [(3#8 : Byte), (0#8 : Byte)] live), by decide +kernel, ⟨by decide +kernel, by decide +kernel⟩, by decide +kernel, by decide +kernel, by decide +kernel, by decide +kernel, ⟨by decide +kernel, asked_asks rfl⟩⟩,
   ⟨0, (3#8), (0#8), (asks 0x0201 (0 : Fin 16) [(3#8 : Byte), (0#8 : Byte)] live), by decide +kernel, ⟨by decide +kernel, by decide +kernel⟩, by decide +kernel, by decide +kernel, by decide +kernel, by decide +kernel, ⟨by decide +kernel, by decide +kernel, by decide +kernel, asked_asks rfl⟩⟩,
   ⟨1, (3#8), (1#8), (1#8), (asks 0x0202 (1 : Fin 16) [(3#8 : Byte), (1#8 : Byte), (1#8 : Byte)] live), by decide +kernel, ⟨by decide +kernel, by decide +kernel⟩, by decide +kernel, by decide +kernel, by decide +kernel, by decide +kernel, ⟨by decide +kernel, by decide +kernel, asked_asks rfl⟩⟩,
   ⟨0, (31#8), (1#8), (1#8), (asks 0x0202 (0 : Fin 16) [(31#8 : Byte), (1#8 : Byte), (1#8 : Byte)] live), by decide +kernel, ⟨by decide +kernel, by decide +kernel⟩, by decide +kernel, by decide +kernel, by decide +kernel, by decide +kernel, ⟨by decide +kernel, by decide +kernel, asked_asks rfl⟩⟩,
   ⟨1, (3#8), (1#8), (1#8), (asks 0x0202 (1 : Fin 16) [(3#8 : Byte), (1#8 : Byte), (1#8 : Byte)] live), by decide +kernel, ⟨by decide +kernel, by decide +kernel⟩, by decide +kernel, by decide +kernel, by decide +kernel, by decide +kernel, ⟨by decide +kernel, by decide +kernel, 3, by decide +kernel, by decide +kernel, by decide +kernel, asked_asks rfl⟩⟩,
   ⟨1, 7, (asks 0x0203 (1 : Fin 16) (toBe 2 (7 : Fin 256).val) live), forall_some (by decide +kernel), by decide +kernel, _, rfl, asked_asks rfl⟩,
   ⟨1, 7, (toBe 2 7 ++ [1#8] ++ wB (tcfg 1 3 6) ++ wB (setFld (setFld 0#48 47 30 3) 17 0 40) ++ wB (setFld (setFld 0#48 47 24 9) 17 0 40)), (asks 0x0204 (1 : Fin 16) ((toBe 2 7 ++ [1#8] ++ wB (tcfg 1 3 6) ++ wB (setFld (setFld 0#48 47 30 3) 17 0 40) ++ wB (setFld (setFld 0#48 47 24 9) 17 0 40)) : Bytes) live), by decide +kernel, ⟨by decide +kernel, by decide +kernel⟩, by decide +kernel, by decide +kernel, by decide +kernel, _, rfl, by decide +kernel, by decide +kernel, by decide +kernel, forall_some (by decide +kernel), asked_asks rfl⟩,
   ⟨0, 7, (toBe 2 7 ++ [0#8, 15#8] ++ wB (setFld 0#48 17 0 40)), (asks 0x0204 (0 : Fin 16) ((toBe 2 7 ++ [0#8, 15#8] ++ wB (setFld 0#48 17 0 40)) : Bytes) live), by decide +kernel, ⟨by decide +kernel, by decide +kernel⟩, by decide +kernel, by decide +kernel, by decide +kernel, _, rfl, by decide +kernel, by decide +kernel, by decide +kernel, forall_some (by decide +kernel), asked_asks rfl⟩,
   ⟨1, 7, true, (asks 0x0205 (1 : Fin 16) (toBe 2 (7 : Fin 256).val ++ [if true then 1#8 else 0#8]) live), by decide +kernel, asked_asks rfl⟩,
   ⟨0, (3#8), (4#8), (0xFF#8), (asks 0x0206 (0 : Fin 16) [(3#8 : Byte), (4#8 : Byte), (0xFF#8 : Byte)] (({ live with task := { live.task with dev := 1 } }) : State)), by decide +kernel, ⟨by decide +kernel, by decide +kernel⟩, by decide +kernel, by decide +kernel, by decide +kernel, by decide +kernel, asked_asks rfl⟩,
   ⟨0, (31#8), (15#8), (0#8), (asks 0x0206 (0 : Fin 16) [(31#8 : Byte), (15#8 : Byte), (0#8 : Byte)] (({ live with task := { live.task with dev := 4 } }) : State)), by decide +kernel, ⟨by decide +kernel, by decide +kernel⟩, by decide +kernel, by decide +kernel, by decide +kernel, by decide +kernel, asked_asks rfl⟩,
   ⟨1, true, 6000, 7, (asks 0x0207 (1 : Fin 16) ((if true then 1#8 else 0#8) :: toBe 2 (6000 : Nat) ++ toBe 2 (7 : Nat)) live), ⟨by decide +kernel, by decide +kernel⟩, by decide +kernel, by decide +kernel, by decide +kernel, by decide +kernel, asked_asks rfl⟩,
   ⟨1, false, 1, 9, (asks 0x0207 (1 : Fin 16) ((if false then 1#8 else 0#8) :: toBe 2 (1 : Nat) ++ toBe 2 (9 : Nat)) live), ⟨by decide +kernel, by decide +kernel⟩, by decide +kernel, by decide +kernel, by decide +kernel, by decide +kernel, asked_asks rfl⟩,
   ⟨1, true, 1, 0xFFFF, (asks 0x0207 (1 : Fin 16) ((if true then 1#8 else 0#8) :: toBe 2 (1 : Nat) ++ toBe 2 (0xFFFF : Nat)) live), ⟨by decide +kernel, by decide +kernel⟩, by decide +kernel, by decide +kernel, by decide +kernel, by decide +kernel, asked_asks rfl⟩⟩

theorem witness_ForcesAndValues :
    (∃ ch : Fin 16, ∃ w : Nat, ∃ tmo : Nat, ∃ l : Byte, ∃ v : Word, ∃ s : State, forceOwner s (tenantOf s ch) w = true ∧ Changes s ∧ running s (tenantOf s ch) = true ∧ (l.toNat < 48 ∨ l.toNat = 255) ∧ tmo ≤ 86400 ∧ ((tget none s.task.force w).isSome = true ∨ (s.task.force.filter (fun e => e.2.isSome)).length < 512) ∧ Asked .mbForceSet ch (toBe 2 w ++ [l] ++ wB v ++ toBe 4 tmo) s) ∧
    (∃ ch : Fin 16, ∃ w : Nat, ∃ tmo : Nat, ∃ l : Byte, ∃ v : Word, ∃ s : State, forceOwner s (tenantOf s ch) w = true ∧ Changes s ∧ running s (tenantOf s ch) = true ∧ (l.toNat < 48 ∨ l.toNat = 255) ∧ tmo ≤ 86400 ∧ ((tget none s.task.force w).isSome = true ∨ (s.task.force.filter (fun e => e.2.isSome)).length < 512) ∧ Asked .mbForceSet ch (toBe 2 w ++ [l] ++ wB v ++ toBe 4 tmo) s) ∧
    (∃ ch : Fin 16, ∃ w : Nat, ∃ tmo : Nat, ∃ l : Byte, ∃ v : Word, ∃ s : State, forceOwner s (tenantOf s ch) w = true ∧ Changes s ∧ running s (tenantOf s ch) = true ∧ (l.toNat < 48 ∨ l.toNat = 255) ∧ tmo ≤ 86400 ∧ ((tget none s.task.force w).isSome = true ∨ (s.task.force.filter (fun e => e.2.isSome)).length < 512) ∧ Asked .mbForceSet ch (toBe 2 w ++ [l] ++ wB v ++ toBe 4 tmo) s) ∧
    (∃ ch : Fin 16, ∃ w : Nat, ∃ f : Force, ∃ s : State, forceOwner s (tenantOf s ch) w = true ∧ Changes s ∧ tget none s.task.force w = some f ∧ Asked .mbForceClear ch (toBe 2 w ++ [0xFF#8]) s) ∧
    (∃ ch : Fin 16, ∃ w : Nat, ∃ f : Force, ∃ s : State, forceOwner s (tenantOf s ch) w = true ∧ Changes s ∧ tget none s.task.force w = some f ∧ ∃ l : Byte, l.toNat < 48 ∧ bit f.mask l.toNat = true ∧ Asked .mbForceClear ch (toBe 2 w ++ [l]) s) ∧
    (∃ ch : Fin 16, ∃ i : Nat, ∃ fs : List (Nat × Force), ∃ s : State, NotCarried s ch ∧ (s.task.force = fs.map (fun x => (x.1, some x.2))) ∧ i < 2 ^ 16 ∧ ∃ rs, rs = (((fs.filter (fun x => mayRead s (tenantOf s ch) x.1)).drop i).take 64) ∧ Asked .mbForceList ch (toBe 2 i) s) ∧
    (∃ w : Fin 20480, ∃ f : Force, ∃ s : State, tget none s.task.force w.val = some f ∧ f.until_ ≠ 0 ∧ f.until_ ≤ s.clk ∧ serving s = true) ∧
    (∃ ch : Fin 16, ∃ k : Fin 256, ∃ es : List (Nat × Word), ∃ s : State, Changes s ∧ 1 ≤ es.length ∧ es.length ≤ 64 ∧ taskDefined s k.val = true ∧ taskTenant s k.val = tenantOf s ch ∧ (∀ e ∈ es, e.1 < 2 ^ 32 ∧ handleOk s (tenantOf s ch) e.1 = true) ∧ Asked .mbValueWrite ch (valuePayload ⟨k.val, es, false⟩) s) ∧
    (∃ ch : Fin 16, ∃ k : Fin 256, ∃ es : List (Nat × Word), ∃ s : State, Changes s ∧ 1 ≤ es.length ∧ es.length ≤ 64 ∧ taskDefined s k.val = true ∧ taskTenant s k.val = tenantOf s ch ∧ (∀ e ∈ es, e.1 < 2 ^ 32 ∧ handleOk s (tenantOf s ch) e.1 = true) ∧ taskEx s k.val = none ∧ Asked .mbValueWrite ch (valuePayload ⟨k.val, es, false⟩) s) ∧
    (∃ ch : Fin 16, ∃ k : Fin 256, ∃ es : List (Nat × Word), ∃ s : State, Changes s ∧ 1 ≤ es.length ∧ es.length ≤ 64 ∧ taskDefined s k.val = true ∧ taskTenant s k.val = tenantOf s ch ∧ (∀ e ∈ es, e.1 < 2 ^ 32 ∧ handleOk s (tenantOf s ch) e.1 = true) ∧ ∃ e, taskEx s k.val = some e ∧ Asked .mbValueWrite ch (valuePayload ⟨k.val, es, false⟩) s) ∧
    (∃ ch : Fin 16, ∃ k : Fin 256, ∃ hs : List Nat, ∃ s : State, NotCarried s ch ∧ 1 ≤ hs.length ∧ hs.length ≤ 64 ∧ taskDefined s k.val = true ∧ taskTenant s k.val = tenantOf s ch ∧ taskEx s k.val = none ∧ (∀ h ∈ hs, h < 2 ^ 32 ∧ handleOk s (tenantOf s ch) h = true) ∧ Asked .mbValueRead ch (toBe 2 k.val ++ toBe 1 hs.length ++ hs.flatMap (toBe 4)) s) ∧
    (∃ ch : Fin 16, ∃ j : ValueJob, ∃ s : State, tget none s.task.jobs ch.val = some j ∧ taskEx s j.anchor = none ∧ j.read = false ∧ j.anchor ≠ 0xFFFF) ∧
    (∃ t : Nat, ∃ o : Nat, ∃ v : Word, ∃ s : State, t < 32 ∧ o < 2 ^ 21) :=
  ⟨⟨1, 321, 86400, (47#8), (0xFFFFFFFFFFFF#48), (asks 0x0320 (1 : Fin 16) (toBe 2 (321 : Nat) ++ [(47#8 : Byte)] ++ wB (0xFFFFFFFFFFFF#48 : Word) ++ toBe 4 (86400 : Nat)) live), by decide +kernel, ⟨by decide +kernel, by decide +kernel⟩, by decide +kernel, by decide +kernel, by decide +kernel, by decide +kernel, asked_asks rfl⟩,
   ⟨1, 321, 0, (255#8), (9#48), (asks 0x0320 (1 : Fin 16) (toBe 2 (321 : Nat) ++ [(255#8 : Byte)] ++ wB (9#48 : Word) ++ toBe 4 (0 : Nat)) forced1), by decide +kernel, ⟨by decide +kernel, by decide +kernel⟩, by decide +kernel, by decide +kernel, by decide +kernel, by decide +kernel, asked_asks rfl⟩,
   ⟨1, 383, 0, (0#8), (9#48), (asks 0x0320 (1 : Fin 16) (toBe 2 (383 : Nat) ++ [(0#8 : Byte)] ++ wB (9#48 : Word) ++ toBe 4 (0 : Nat)) forced1), by decide +kernel, ⟨by decide +kernel, by decide +kernel⟩, by decide +kernel, by decide +kernel, by decide +kernel, by decide +kernel, asked_asks rfl⟩,
   ⟨1, 321, (⟨0x5#48, 0x4#48, 0x3#48, 0⟩ : Force), (asks 0x0321 (1 : Fin 16) (toBe 2 (321 : Nat) ++ [0xFF#8]) forced1), by decide +kernel, ⟨by decide +kernel, by decide +kernel⟩, by decide +kernel, asked_asks rfl⟩,
   ⟨1, 321, (⟨0x5#48, 0x4#48, 0x3#48, 0⟩ : Force), (asks 0x0321 (1 : Fin 16) (toBe 2 (321 : Nat) ++ [(0#8 : Byte)]) forced1), by decide +kernel, ⟨by decide +kernel, by decide +kernel⟩, by decide +kernel, (0#8), by decide +kernel, by decide +kernel, asked_asks rfl⟩,
   ⟨1, 0, [], (asks 0x0322 (1 : Fin 16) (toBe 2 (0 : Nat)) live), forall_some (by decide +kernel), by decide +kernel, by decide +kernel, _, rfl, asked_asks rfl⟩,
   ⟨321, (⟨0x5#48, 0x4#48, 0x3#48, 5⟩ : Force), ({ live with task := { live.task with force := [(321, some ⟨0x5#48, 0x4#48, 0x3#48, 5⟩)] } }), by decide +kernel⟩,
   ⟨1, 7, [(3, 5#48), (0x40000002, 6#48)], (asks 0x0401 (1 : Fin 16) (valuePayload ⟨(7 : Fin 256).val, ([(3, 5#48), (0x40000002, 6#48)] : List (Nat × Word)), false⟩) live), ⟨by decide +kernel, by decide +kernel⟩, by decide +kernel, by decide +kernel, by decide +kernel, by decide +kernel, ⟨by decide +kernel, asked_asks rfl⟩⟩,
   ⟨1, 7, [(3, 5#48), (0x40000002, 6#48)], (asks 0x0401 (1 : Fin 16) (valuePayload ⟨(7 : Fin 256).val, ([(3, 5#48), (0x40000002, 6#48)] : List (Nat × Word)), false⟩) live), ⟨by decide +kernel, by decide +kernel⟩, by decide +kernel, by decide +kernel, by decide +kernel, by decide +kernel, ⟨by decide +kernel, by decide +kernel, asked_asks rfl⟩⟩,
   ⟨1, 7, [(99, 5#48)], (asks 0x0401 (1 : Fin 16) (valuePayload ⟨(7 : Fin 256).val, ([(99, 5#48)] : List (Nat × Word)), false⟩) ((setCore 0 (some 7) (setEx 7 (some exA) live)) : State)), ⟨by decide +kernel, by decide +kernel⟩, by decide +kernel, by decide +kernel, by decide +kernel, by decide +kernel, ⟨by decide +kernel, exA, by decide +kernel, asked_asks rfl⟩⟩,
   ⟨1, 7, [3, 0x40000002, 0x80000031], (asks 0x0402 (1 : Fin 16) (toBe 2 (7 : Fin 256).val ++ toBe 1 ([3, 0x40000002, 0x80000031] : List Nat).length ++ ([3, 0x40000002, 0x80000031] : List Nat).flatMap (toBe 4)) live), forall_some (by decide +kernel), by decide +kernel, by decide +kernel, by decide +kernel, by decide +kernel, ⟨by decide +kernel, by decide +kernel, asked_asks rfl⟩⟩,
   ⟨1, (⟨7, [(3, 5#48), (0x40000002, 6#48)], false⟩ : ValueJob), ({ live with task := { live.task with jobs := [(1, some (⟨7, [(3, 5#48), (0x40000002, 6#48)], false⟩ : ValueJob))] } }), by decide +kernel⟩,
   ⟨3, 5, (9#48), live, by decide +kernel⟩⟩

theorem witness_RetentiveSnapshots :
    (∃ n : Fin 32, ∃ s : State, (segInfo s n.val).l2 ≠ 0 ∧ (getRet s n.val).from_ + retNs (getRet s n.val) ≤ s.clk ∧ s.task.dispAt.isSome = true ∧ servesTasks s = true) ∧
    (∃ n : Fin 32, ∃ d : Nat, ∃ s : State, (getRet s n.val).due = some d ∧ (getRet s n.val).writing = none ∧ (segInfo s n.val).l2 ≠ 0 ∧ (retTask s n.val = none ∨ d + retNs (getRet s n.val) ≤ s.clk) ∧ committing s n.val = false) ∧
    (∃ n : Fin 32, ∃ k : Nat, ∃ ws : List Word, ∃ s : State, (getRet s n.val).writing = some (k, ws) ∧ (getRet s n.val).waiting = none) :=
  ⟨⟨3, ({ updRet 3 (fun r => { r with due := some 5, writing := some (0, []) }) retLive with clk := 1500000000 }), by decide +kernel⟩,
   ⟨3, 1999999999, (updRet 3 (fun r => { r with due := some 1999999999 }) retLive), by decide +kernel⟩,
   ⟨3, 1, [1#48,2#48,3#48,4#48], (updRet 3 (fun r => { r with writing := some (1, [1#48,2#48,3#48,4#48]) }) retLive), by decide +kernel⟩⟩

theorem witness_PlotAndImageCommands :
    (∃ ch : Fin 16, ∃ n : Nat, ∃ s : State, n < 320 ∧ NotCarried s ch ∧ (tenantOf s ch = 0 ∨ mayRead s (tenantOf s ch) (64 * n) = true) ∧ Asked .mbPlotGet ch (toBe 2 n) s) ∧
    (∃ ch : Fin 16, ∃ n : Nat, ∃ s : State, n < 320 ∧ NotCarried s ch ∧ (tenantOf s ch = 0 ∨ mayRead s (tenantOf s ch) (64 * n) = true) ∧ Asked .mbPlotGet ch (toBe 2 n) s) ∧
    (∃ ch : Fin 16, ∃ n : Nat, ∃ pos : Byte, ∃ src : Byte, ∃ tn : Byte, ∃ s : State, tenantOf s ch = 0 ∧ Changes s ∧ passOn s = false ∧ n < 320 ∧ ownPOS (plotOwn s n) = 0 ∧ 1 ≤ pos.toNat ∧ src.toNat ≤ 3 ∧ tn.toNat < 32 ∧ Asked .mbPlotAssign ch (toBe 2 n ++ [pos, src, tn]) s) ∧
    (∃ ch : Fin 16, ∃ n : Nat, ∃ s : State, (tenantOf s ch = 0 ∨ ownsPlot s (tenantOf s ch) n = true) ∧ Changes s ∧ passOn s = false ∧ n < 320 ∧ releaseOk s n = true ∧ Asked .mbPlotRelease ch (toBe 2 n) s) ∧
    (∃ ch : Fin 16, ∃ n : Nat, ∃ s : State, (tenantOf s ch = 0 ∨ ownsPlot s (tenantOf s ch) n = true) ∧ Changes s ∧ passOn s = false ∧ n < 320 ∧ releaseOk s n = true ∧ Asked .mbPlotRelease ch (toBe 2 n) s) ∧
    (∃ ch : Fin 16, ∃ n : Nat, ∃ src : Byte, ∃ tn : Byte, ∃ s : State, tenantOf s ch = 0 ∧ Changes s ∧ passOn s = true ∧ s.pair.applying = false ∧ (s.pass.cstate = 2 ∨ s.pass.cstate = 3) ∧ s.pass.announced.length < 8 ∧ n < 320 ∧ ownPOS (plotOwn s n) = 0 ∧ 1 ≤ s.pass.ownPos ∧ s.pass.ownPos < 256 ∧ src.toNat ≤ 3 ∧ tn.toNat < 32 ∧ (∀ u, plotChange 0x0304 0 (toBe 2 n ++ [BitVec.ofNat 8 s.pass.ownPos, src, tn]) s = some u → (passBudget u).2.2.2 ≤ 100000000) ∧ Asked .mbPlotAssign ch (toBe 2 n ++ [BitVec.ofNat 8 s.pass.ownPos, src, tn]) s) ∧
    (∃ ch : Fin 16, ∃ n : Nat, ∃ sh : Nat, ∃ s : State, ownsPlot s (tenantOf s ch) n = true ∧ Changes s ∧ passOn s = false ∧ sh < 2 ^ 32 ∧ Asked .mbPlotShare ch (toBe 2 n ++ toBe 4 sh) s) ∧
    (∃ ch : Fin 16, ∃ n : Nat, ∃ lim : Nat, ∃ cls : Byte, ∃ s : State, ownsPlot s (tenantOf s ch) n = true ∧ Changes s ∧ cls.toNat ≤ 15 ∧ lim < 2 ^ 16 ∧ Asked .mbPlotPubSet ch (toBe 2 n ++ [1#8, cls] ++ toBe 2 lim) s) ∧
    (∃ ch : Fin 16, ∃ a : Nat, ∃ c : Nat, ∃ s : State, NotCarried s ch ∧ 1 ≤ c ∧ c ≤ 512 ∧ (∀ w ∈ span a c, mayRead s (tenantOf s ch) w = true) ∧ Asked .mbImageRead ch (toBe 2 a ++ toBe 2 c) s) ∧
    (∃ ch : Fin 16, ∃ ws : List (Nat × Word), ∃ s : State, Changes s ∧ ownBuffer s = false ∧ running s (tenantOf s ch) = true ∧ 1 ≤ ws.length ∧ ws.length ≤ 64 ∧ (∀ e ∈ ws, inPlot s 3 (tenantOf s ch) e.1 = true) ∧ (Asked .mbImageWrite ch (toBe 1 ws.length ++ ws.flatMap (fun e => toBe 2 e.1 ++ wB e.2)) s)) ∧
    (∃ n : Fin 320, ∃ s : State, bit (plotQual s n.val) 12 ≠ (getPlot s n.val).stale) :=
  ⟨⟨1, 6, (asks 0x0303 (1 : Fin 16) (toBe 2 (6 : Nat)) live), by decide +kernel, forall_some (by decide +kernel), by decide +kernel, asked_asks rfl⟩,
   ⟨0, 319, (asks 0x0303 (0 : Fin 16) (toBe 2 (319 : Nat)) live), by decide +kernel, forall_some (by decide +kernel), by decide +kernel, asked_asks rfl⟩,
   ⟨0, 319, (255#8), (3#8), (31#8), (asks 0x0304 (0 : Fin 16) (toBe 2 (319 : Nat) ++ [(255#8 : Byte), (3#8 : Byte), (31#8 : Byte)]) live), by decide +kernel, ⟨by decide +kernel, by decide +kernel⟩, by decide +kernel, by decide +kernel, by decide +kernel, by decide +kernel, ⟨by decide +kernel, by decide +kernel, asked_asks rfl⟩⟩,
   ⟨0, 10, (asks 0x0305 (0 : Fin 16) (toBe 2 (10 : Nat)) (({ ({ live with task := { live.task with dev := 1 }, img := { live.img with word := [(640, 9#48), (641, 1#48)] } }) with img := { ({ live with task := { live.task with dev := 1 }, img := { live.img with word := [(640, 9#48), (641, 1#48)] } }).img with own := (10, own 0 4) :: [] } }) : State)), by decide +kernel, ⟨by decide +kernel, by decide +kernel⟩, by decide +kernel, by decide +kernel, by decide +kernel, asked_asks rfl⟩,
   ⟨0, 6, (asks 0x0305 (0 : Fin 16) (toBe 2 (6 : Nat)) (({ live with task := { live.task with dev := 1 }, img := { live.img with word := [(640, 9#48), (641, 1#48)] } }) : State)), by decide +kernel, ⟨by decide +kernel, by decide +kernel⟩, by decide +kernel, by decide +kernel, by decide +kernel, asked_asks rfl⟩,
   ⟨0, 319, (2#8), (31#8), (asks 0x0304 (0 : Fin 16) (toBe 2 (319 : Nat) ++ [BitVec.ofNat 8 (({ live with pass := { live.pass with cfg := wd (5 * 2 ^ 40 + 2 ^ 39 + 10 * 2 ^ 28), cstate := 2 } }) : State).pass.ownPos, (2#8 : Byte), (31#8 : Byte)]) (({ live with pass := { live.pass with cfg := wd (5 * 2 ^ 40 + 2 ^ 39 + 10 * 2 ^ 28), cstate := 2 } }) : State)), by decide +kernel, ⟨by decide +kernel, by decide +kernel⟩, by decide +kernel, by decide +kernel, by decide +kernel, by decide +kernel, ⟨by decide +kernel, by decide +kernel, by decide +kernel, by decide +kernel, by decide +kernel, ⟨by decide +kernel, forall_some (by decide +kernel), asked_asks rfl⟩⟩⟩,
   ⟨1, 6, 0xFFFFFFFF, (asks 0x0306 (1 : Fin 16) (toBe 2 (6 : Nat) ++ toBe 4 (0xFFFFFFFF : Nat)) live), by decide +kernel, ⟨by decide +kernel, by decide +kernel⟩, by decide +kernel, by decide +kernel, asked_asks rfl⟩,
   ⟨1, 5, 65535, (15#8), (asks 0x0307 (1 : Fin 16) (toBe 2 (5 : Nat) ++ [1#8, (15#8 : Byte)] ++ toBe 2 (65535 : Nat)) live), by decide +kernel, ⟨by decide +kernel, by decide +kernel⟩, by decide +kernel, by decide +kernel, asked_asks rfl⟩,
   ⟨1, 383, 2, (asks 0x0301 (1 : Fin 16) (toBe 2 (383 : Nat) ++ toBe 2 (2 : Nat)) live), forall_some (by decide +kernel), by decide +kernel, by decide +kernel, by decide +kernel, asked_asks rfl⟩,
   ⟨1, [(384, 5#48), (447, 6#48), (384, 7#48)], (asks 0x0302 (1 : Fin 16) (toBe 1 ([(384, 5#48), (447, 6#48), (384, 7#48)] : List (Nat × Word)).length ++ ([(384, 5#48), (447, 6#48), (384, 7#48)] : List (Nat × Word)).flatMap (fun e => toBe 2 e.1 ++ wB e.2)) live), ⟨by decide +kernel, by decide +kernel⟩, by decide +kernel, by decide +kernel, by decide +kernel, by decide +kernel, ⟨by decide +kernel, asked_asks rfl⟩⟩,
   ⟨6, (updPlot 6 (fun p => { p with stale := !bit (plotQual live 6) 12 }) live), by decide +kernel⟩⟩

theorem witness_RemoteModules :
    (∃ ch : Fin 16, ∃ m : Nat, ∃ w : Word, ∃ tmo : Word, ∃ sub : List Word, ∃ s : State, tenantOf s ch = 0 ∧ Changes s ∧ m < 1024 ∧ sub.length = fld w 24 20 ∧ ∃ r : Rio, r = ({ mod := w, tmo := setBit (setBit tmo 12 false) 13 true }) ∧ rioBus r ≤ 6 ∧ fld r.tmo 15 14 ≤ 2 ∧ 2 ≤ fld r.tmo 11 0 ∧ fld r.tmo 11 0 ≤ 4000 ∧ rioBlocksOk s m r = true ∧ (rioUsed r = true → rioIdsOk s m r = true) ∧ Asked .mbRioSet ch (toBe 2 m ++ [1#8] ++ wB w ++ wB tmo ++ sub.flatMap wB) s) ∧
    (∃ ch : Fin 16, ∃ m : Nat, ∃ id : Nat, ∃ a : Nat, ∃ b : Nat, ∃ bus : Byte, ∃ tn : Byte, ∃ ci : Byte, ∃ co : Byte, ∃ s : State, tenantOf s ch = 0 ∧ Changes s ∧ m < 1024 ∧ id < 2 ^ 32 ∧ bus.toNat ≤ 6 ∧ tn.toNat < 32 ∧ ci.toNat ≤ 16 ∧ co.toNat ≤ 16 ∧ ∃ tmo, tmo = (wd (id * 2 ^ 16 + 2 ^ 14 + 50)) ∧ ∃ mk, mk = (fun (a b : Nat) => wd (bus.toNat * 2 ^ 45 + tn.toNat * 2 ^ 40 + a * 2 ^ 25 + ci.toNat * 2 ^ 20 + b * 2 ^ 5 + co.toNat)) ∧ ∃ others, others = (s.img.rio.filter (fun e => e.1 != m)) ∧ (rioIdsOk s m { mod := mk 0 0, tmo } = true) ∧ (lowestBlock s 2 tn.toNat ci.toNat (others.map (fun e => rioIN e.2)) = some a) ∧ (lowestBlock s 0 tn.toNat co.toNat (others.map (fun e => rioOUT e.2)) = some b) ∧ Asked .mbRioSet ch (toBe 2 m ++ [0#8, bus] ++ toBe 4 id ++ [tn, ci, co]) s) ∧
    (∃ ch : Fin 16, ∃ m : Nat, ∃ s : State, m < 1024 ∧ NotCarried s ch ∧ (tenantOf s ch = 0 ∨ rioTenant (getRio s m) = tenantOf s ch) ∧ ∃ r, r = (getRio s m) ∧ Asked .mbRioGet ch (toBe 2 m) s) ∧
    (∃ ch : Fin 16, ∃ m : Nat, ∃ s : State, m < 1024 ∧ NotCarried s ch ∧ (tenantOf s ch = 0 ∨ rioTenant (getRio s m) = tenantOf s ch) ∧ ∃ r, r = (getRio s m) ∧ Asked .mbRioGet ch (toBe 2 m) s) ∧
    (∃ ch : Fin 16, ∃ m : Nat, ∃ ip : Nat, ∃ s : State, tenantOf s ch = 0 ∧ Changes s ∧ m < 1024 ∧ ip < 2 ^ 32 ∧ Asked .mbRioIpSet ch (toBe 2 m ++ toBe 4 ip) s) ∧
    (∃ ch : Fin 16, ∃ k : Byte, ∃ n : Nat, ∃ d : Nat, ∃ s : State, Changes s ∧ (k = 1#8 ∨ k = 2#8) ∧ d < 2 ^ 32 ∧ n < 2 ^ 16 ∧ areaFits s 5 = true ∧ kindTenant s k.toNat n = some (tenantOf s ch) ∧ Asked .mbTenantAccept ch ([k] ++ toBe 2 n ++ toBe 4 d) s) ∧
    (∃ ch : Fin 16, ∃ k : Byte, ∃ n : Nat, ∃ d : Nat, ∃ s : State, Changes s ∧ (k = 1#8 ∨ k = 2#8) ∧ d < 2 ^ 32 ∧ n < 2 ^ 16 ∧ areaFits s 5 = true ∧ kindTenant s k.toNat n = some (tenantOf s ch) ∧ Asked .mbTenantAccept ch ([k] ++ toBe 2 n ++ toBe 4 d) s) ∧
    (∃ ch : Fin 16, ∃ k : Byte, ∃ n : Nat, ∃ d : Nat, ∃ s : State, Changes s ∧ (k = 1#8 ∨ k = 2#8) ∧ d < 2 ^ 32 ∧ n < 2 ^ 16 ∧ areaFits s 5 = true ∧ kindTenant s k.toNat n = some (tenantOf s ch) ∧ Asked .mbTenantAccept ch ([k] ++ toBe 2 n ++ toBe 4 d) s) ∧
    (∃ m : Fin 1024, ∃ q : BitVec 16, ∃ st : Byte, ∃ ws : List Word, ∃ s : State, ownBuffer s = false ∧ ∃ r, r = (getRio s m.val) ∧ ws.length = (rioIN r).2 ∧ ws ≠ [] ∧ r.active = true ∧ (∀ l, r.lastSeq = some l → r.timedOut = true ∨ (1 ≤ (q.toNat + 65536 - l) % 65536 ∧ (q.toNat + 65536 - l) % 65536 ≤ 32767))) ∧
    (∃ m : Fin 1024, ∃ q : BitVec 16, ∃ st : Byte, ∃ ws : List Word, ∃ s : State, ownBuffer s = false ∧ ∃ r, r = (getRio s m.val) ∧ ws.length = (rioIN r).2 ∧ ws ≠ [] ∧ r.active = true ∧ (∀ l, r.lastSeq = some l → r.timedOut = true ∨ (1 ≤ (q.toNat + 65536 - l) % 65536 ∧ (q.toNat + 65536 - l) % 65536 ≤ 32767))) ∧
    (∃ m : Fin 1024, ∃ q : BitVec 16, ∃ st : Byte, ∃ ws : List Word, ∃ s : State, ∃ r, r = (getRio s m.val) ∧ ws.length = (rioIN r).2 ∧ ws ≠ [] ∧ r.active = true ∧ r.timedOut = false ∧ r.lastSeq = some q.toNat) ∧
    (∃ m : Fin 1024, ∃ s : State, ownBuffer s = false ∧ ∃ r, r = (getRio s m.val) ∧ (rioIN r).2 ≠ 0 ∧ r.active = true ∧ r.timedOut = false ∧ r.lastAt + fld r.tmo 11 0 * 1000000 ≤ s.clk) ∧
    (∃ m : Fin 1024, ∃ s : State, serving s = true ∧ ∃ r, r = (getRio s m.val) ∧ (rioOUT r).2 ≠ 0 ∧ r.active = true ∧ r.outAt + fld r.tmo 11 0 * 250000 ≤ s.clk ∧ (rioBus r < 4 ∨ fld r.ip 47 16 ≠ 0 ∨ r.lastSrc.isSome = true)) :=
  ⟨⟨0, 1023, (setFld (setFld (setFld (setFld 0#48 47 45 5) 44 40 3) 39 25 512) 24 20 2), (wd (99 * 65536 + 2 * 2^14 + 4000)), [1#48, 2#48], (asks 0x0310 (0 : Fin 16) (toBe 2 (1023 : Nat) ++ [1#8] ++ wB ((setFld (setFld (setFld (setFld 0#48 47 45 5) 44 40 3) 39 25 512) 24 20 2) : Word) ++ wB ((wd (99 * 65536 + 2 * 2^14 + 4000)) : Word) ++ ([1#48, 2#48] : List Word).flatMap wB) live), by decide +kernel, ⟨by decide +kernel, by decide +kernel⟩, by decide +kernel, by decide +kernel, _, rfl, by decide +kernel, by decide +kernel, by decide +kernel, by decide +kernel, ⟨by decide +kernel, by decide +kernel, asked_asks rfl⟩⟩,
   ⟨0, 9, 123, 514, 320, (6#8), (3#8), (16#8), (1#8), (asks 0x0310 (0 : Fin 16) (toBe 2 (9 : Nat) ++ [0#8, (6#8 : Byte)] ++ toBe 4 (123 : Nat) ++ [(3#8 : Byte), (16#8 : Byte), (1#8 : Byte)]) rioLive), by decide +kernel, ⟨by decide +kernel, by decide +kernel⟩, by decide +kernel, by decide +kernel, by decide +kernel, by decide +kernel, ⟨by decide +kernel, by decide +kernel, _, rfl, _, rfl, _, rfl, by decide +kernel, by decide +kernel, by decide +kernel, asked_asks rfl⟩⟩,
   ⟨1, 4, (asks 0x0311 (1 : Fin 16) (toBe 2 (4 : Nat)) rioLive), by decide +kernel, forall_some (by decide +kernel), by decide +kernel, _, rfl, asked_asks rfl⟩,
   ⟨0, 1023, (asks 0x0311 (0 : Fin 16) (toBe 2 (1023 : Nat)) rioLive), by decide +kernel, forall_some (by decide +kernel), by decide +kernel, _, rfl, asked_asks rfl⟩,
   ⟨0, 1023, 0xFFFFFFFF, (asks 0x0D26 (0 : Fin 16) (toBe 2 (1023 : Nat) ++ toBe 4 (0xFFFFFFFF : Nat)) rioLive), by decide +kernel, ⟨by decide +kernel, by decide +kernel⟩, by decide +kernel, by decide +kernel, asked_asks rfl⟩,
   ⟨1, (1#8), 4, 0, (asks 0x0312 (1 : Fin 16) ([(1#8 : Byte)] ++ toBe 2 (4 : Nat) ++ toBe 4 (0 : Nat)) rioLive), ⟨by decide +kernel, by decide +kernel⟩, by decide +kernel, by decide +kernel, by decide +kernel, by decide +kernel, ⟨by decide +kernel, asked_asks rfl⟩⟩,
   ⟨1, (1#8), 4, 0xFFFFFFFF, (asks 0x0312 (1 : Fin 16) ([(1#8 : Byte)] ++ toBe 2 (4 : Nat) ++ toBe 4 (0xFFFFFFFF : Nat)) rioLive), ⟨by decide +kernel, by decide +kernel⟩, by decide +kernel, by decide +kernel, by decide +kernel, by decide +kernel, ⟨by decide +kernel, asked_asks rfl⟩⟩,
   ⟨0, (2#8), 255, 17, (asks 0x0312 (0 : Fin 16) ([(2#8 : Byte)] ++ toBe 2 (255 : Nat) ++ toBe 4 (17 : Nat)) rioLive), ⟨by decide +kernel, by decide +kernel⟩, by decide +kernel, by decide +kernel, by decide +kernel, by decide +kernel, ⟨by decide +kernel, asked_asks rfl⟩⟩,
   ⟨4, (0#16), (1#8), [0xFF#48, 0xEE#48], rioLive, by decide +kernel, _, rfl, by decide +kernel, by decide +kernel, by decide +kernel, forall_some (by decide +kernel)⟩,
   ⟨4, (32766#16), (0#8), [0xFF#48, 0xEE#48], rioLive, by decide +kernel, _, rfl, by decide +kernel, by decide +kernel, by decide +kernel, forall_some (by decide +kernel)⟩,
   ⟨4, (65535#16), (0#8), [0xFF#48, 0xEE#48], rioLive, _, rfl, by decide +kernel⟩,
   ⟨4, rioLive, by decide +kernel, _, rfl, by decide +kernel⟩,
   ⟨4, rioLive, by decide +kernel, _, rfl, by decide +kernel⟩⟩

theorem witness_LinePositionAdvances :
    (∃ s : State, s.ovl.units = [] ∧ tickHere s = true) ∧
    (∃ n : Fin 4, ∃ r : Bool, ∃ s : State, ∃ a, a = (getAxle s n.val) ∧ axleOn a = true ∧ tget false s.fio.twFault n.val = false ∧ a.state ≠ 2 ∧ a.state ≠ 3 ∧ (∀ l, a.lastAcc = some l → l + 200000 ≤ s.clk)) ∧
    (∃ n : Fin 4, ∃ r : Bool, ∃ tl : Nat, ∃ s : State, ∃ a, a = (getAxle s n.val) ∧ axleOn a = true ∧ tget false s.fio.twFault n.val = false ∧ a.state = 3 ∧ (a.back = (r != bit a.cfg 16)) ∧ a.tp ≤ pmaxNs s ∧ a.tLast = some tl) ∧
    (∃ n : Fin 4, ∃ r : Bool, ∃ tl : Nat, ∃ s : State, ∃ a, a = (getAxle s n.val) ∧ axleOn a = true ∧ tget false s.fio.twFault n.val = false ∧ a.state = 3 ∧ (a.back = (r != bit a.cfg 16)) ∧ a.tp ≤ pmaxNs s ∧ a.tLast = some tl ∧ s.clk < tl + a.tp - axWindow a) ∧
    (∃ n : Fin 4, ∃ r : Bool, ∃ tl : Nat, ∃ s : State, ∃ a, a = (getAxle s n.val) ∧ axleOn a = true ∧ tget false s.fio.twFault n.val = false ∧ a.state = 3 ∧ (a.back = (r != bit a.cfg 16)) ∧ a.tp ≤ pmaxNs s ∧ a.tLast = some tl ∧ tl + a.tp - axWindow a ≤ s.clk ∧ natDist s.clk (tl + a.tp) ≤ a.tp / 8) ∧
    (∃ n : Fin 4, ∃ tl : Nat, ∃ s : State, ∃ a, a = (getAxle s n.val) ∧ a.state = 3 ∧ a.tp ≤ pmaxNs s ∧ a.tLast = some tl ∧ tl + a.tp + axWindow a ≤ s.clk) ∧
    (∃ n : Fin 4, ∃ tl : Nat, ∃ s : State, ∃ a, a = (getAxle s n.val) ∧ a.state = 3 ∧ a.tp ≤ pmaxNs s ∧ a.tLast = some tl ∧ tl + a.tp + axWindow a ≤ s.clk ∧ a.cand = none) ∧
    (∃ n : Fin 4, ∃ tl : Nat, ∃ s : State, ∃ a, a = (getAxle s n.val) ∧ a.state = 3 ∧ a.tp ≤ pmaxNs s ∧ a.tLast = some tl ∧ tl + a.tp + axWindow a ≤ s.clk ∧ ∃ c, a.cand = some c) ∧
    (∃ n : Fin 4, ∃ s : State, ∃ a, a = (getAxle s n.val) ∧ axleOn a = true ∧ a.state ≠ 1 ∧ a.lastAcc.getD a.onAt + stillNs s ≤ s.clk) ∧
    (∃ n : Fin 4, ∃ l : Nat, ∃ s : State, ∃ a, a = (getAxle s n.val) ∧ a.agreeSince = some l ∧ a.excluded = true ∧ l + 1000000000 ≤ s.clk ∧ (∀ e ∈ (axPasses s).2, e.1 = n.val → e.2 = true)) ∧
    (∃ l : Nat, ∃ s : State, s.tb.coastAt = some l ∧ l + coastNs s < s.clk) :=
  ⟨⟨axLive, by decide +kernel⟩,
   ⟨0, true, (updAxle 0 (fun a => { a with state := 1 }) axLive), _, rfl, by decide +kernel, by decide +kernel, by decide +kernel, by decide +kernel, forall_some (by decide +kernel)⟩,
   ⟨0, false, 1999000000, ({ axLive with clk := 1999500000 }), _, rfl, by decide +kernel⟩,
   ⟨0, false, 1999000000, ({ axLive with clk := 1999500000 }), _, rfl, by decide +kernel⟩,
   ⟨0, false, 1999000000, ({ axLive with clk := 2000000000 }), _, rfl, by decide +kernel⟩,
   ⟨0, 1999000000, ({ axLive with clk := 2000350000 }), _, rfl, by decide +kernel⟩,
   ⟨0, 1999000000, ({ axLive with clk := 2000350000 }), _, rfl, by decide +kernel⟩,
   ⟨0, 1999000000, ({ (updAxle 0 (fun a => { a with cand := some 1999500000 }) axLive) with clk := 2000350000 }), _, rfl, by decide +kernel, by decide +kernel, by decide +kernel, by decide +kernel, ⟨1999500000, by decide +kernel⟩⟩,
   ⟨0, ({ axLive with clk := 4000000000 }), _, rfl, by decide +kernel⟩,
   ⟨0, 1000000000, (updAxle 0 (fun a => { a with excluded := true, agreeSince := some 1000000000 }) axLive), _, rfl, by decide +kernel⟩,
   ⟨1000, ({ axLive with clk := 3000001001, tb := { axLive.tb with coastAt := some 1000 } }), by decide +kernel⟩⟩

theorem witness_SupplyAngleFollows :
    (∃ n : Fin 2, ∃ f : Nat, ∃ ph : BitVec 16, ∃ pe : Int, ∃ s : State, ∃ m, m = (getMains s n.val) ∧ mainsOn m = true ∧ m.overRange = false ∧ mainsInBand m f = true) ∧
    (∃ n : Fin 2, ∃ f : Nat, ∃ ph : BitVec 16, ∃ pe : Int, ∃ s : State, ∃ m, m = (getMains s n.val) ∧ mainsOn m = true ∧ m.overRange = false ∧ mainsInBand m f = true ∧ m.state = 2) ∧
    (∃ n : Fin 2, ∃ f : Nat, ∃ ph : BitVec 16, ∃ pe : Int, ∃ s : State, ∃ m, m = (getMains s n.val) ∧ mainsOn m = true ∧ m.overRange = false ∧ mainsInBand m f = true ∧ m.state = 1 ∧ -182 < pe ∧ pe < 182 ∧ 7 ≤ m.good) ∧
    (∃ n : Fin 2, ∃ f : Nat, ∃ ph : BitVec 16, ∃ pe : Int, ∃ s : State, ∃ m, m = (getMains s n.val) ∧ mainsOn m = true ∧ m.overRange = false ∧ mainsInBand m f = true ∧ m.state = 1 ∧ -182 < pe ∧ pe < 182 ∧ m.good < 7) ∧
    (∃ n : Fin 2, ∃ s : State, ∃ m, m = (getMains s n.val) ∧ m.state = 2 ∧ 1500000000000 ≤ (s.clk - m.lastX) * mainsNominal m.system) ∧
    (∃ n : Fin 2, ∃ s : State, ∃ m, m = (getMains s n.val) ∧ m.state = 3 ∧ m.holdAt + fld m.cfg 43 36 * 10000000 ≤ s.clk) ∧
    (∃ n : Fin 2, ∃ s : State, ∃ m, m = (getMains s n.val) ∧ mainsOn m = true ∧ (m.state = 1 ∨ m.state = 4)) ∧
    (∃ n : Fin 2, ∃ s : State, ∃ m, m = (getMains s n.val) ∧ mainsOn m = true ∧ (m.state = 1 ∨ m.state = 4)) :=
  ⟨⟨1, 50010, (65535#16), (-5), mnLive, _, rfl, by decide +kernel⟩,
   ⟨1, 50010, (65535#16), (-5), mnLive, _, rfl, by decide +kernel⟩,
   ⟨1, 52000, (0#16), 181, (updMains 1 (fun m => { m with state := 1, good := 7 }) mnLive), _, rfl, by decide +kernel⟩,
   ⟨1, 48000, (0#16), (-181), (updMains 1 (fun m => { m with state := 1, good := 6 }) mnLive), _, rfl, by decide +kernel⟩,
   ⟨1, ({ mnLive with clk := 2020000000 }), _, rfl, by decide +kernel⟩,
   ⟨1, ({ (updMains 1 (fun m => { m with state := 3, holdAt := 2000000000 }) mnLive) with clk := 4000000000 }), _, rfl, by decide +kernel⟩,
   ⟨1, (updMains 1 (fun m => { m with state := 1 }) mnLive), _, rfl, by decide +kernel⟩,
   ⟨1, (updMains 1 (fun m => { m with state := 4 }) mnLive), _, rfl, by decide +kernel⟩⟩

theorem witness_SlotsArmAndFire :
    (∃ ch : Fin 16, ∃ a : Nat, ∃ c : Nat, ∃ tn : Byte, ∃ s : State, tenantOf s ch = 0 ∧ Changes s ∧ 1 ≤ c ∧ a + c ≤ 2048 ∧ tn.toNat < 32 ∧ (∀ n, a ≤ n → n < a + c → slotArmed (getSlot s n) = false) ∧ Asked .mbSchAlloc ch (toBe 2 a ++ toBe 2 c ++ [tn]) s) ∧
    (∃ ch : Fin 16, ∃ n : Nat, ∃ w : Word, ∃ arg : Word, ∃ s : State, Changes s ∧ ownsSlot s (tenantOf s ch) n = true ∧ slotArmed (getSlot s n) = false ∧ ∃ w', w' = (setBit (w &&& 0xFFFFFFDFFFFF#48) 39 true) ∧ slotCfgOk s (tenantOf s ch) w' arg = true ∧ Asked .mbSchSet ch (toBe 2 n ++ [1#8] ++ wB w ++ wB arg) s) ∧
    (∃ ch : Fin 16, ∃ n : Nat, ∃ word : Nat, ∃ b : Byte, ∃ a : Byte, ∃ lane : Byte, ∃ ev : Byte, ∃ arg : Word, ∃ s : State, Changes s ∧ ownsSlot s (tenantOf s ch) n = true ∧ slotArmed (getSlot s n) = false ∧ b.toNat ≤ 4 ∧ a.toNat ≤ 5 ∧ (ev.toNat < 128 ∨ ev.toNat = 255) ∧ word < 20480 ∧ lane.toNat < 48 ∧ ∃ w, w = (wd (b.toNat * 2 ^ 45 + tenantOf s ch * 2 ^ 40 + a.toNat * 2 ^ 36 + b2n (b.toNat == 1) * 2 ^ 33 + 2 ^ 32 + b2n (ev.toNat != 255) * 2 ^ 29 + (if ev.toNat = 255 then 0 else ev.toNat) * 2 ^ 22 + word * 2 ^ 6 + lane.toNat)) ∧ slotCfgOk s (tenantOf s ch) w arg = true ∧ Asked .mbSchSet ch (toBe 2 n ++ [0#8, b, a] ++ toBe 2 word ++ [lane, ev] ++ wB arg) s) ∧
    (∃ ch : Fin 16, ∃ n : Nat, ∃ word : Nat, ∃ b : Byte, ∃ a : Byte, ∃ lane : Byte, ∃ ev : Byte, ∃ arg : Word, ∃ s : State, Changes s ∧ ownsSlot s (tenantOf s ch) n = true ∧ slotArmed (getSlot s n) = false ∧ b.toNat ≤ 4 ∧ a.toNat ≤ 5 ∧ (ev.toNat < 128 ∨ ev.toNat = 255) ∧ word < 20480 ∧ lane.toNat < 48 ∧ ∃ w, w = (wd (b.toNat * 2 ^ 45 + tenantOf s ch * 2 ^ 40 + a.toNat * 2 ^ 36 + b2n (b.toNat == 1) * 2 ^ 33 + 2 ^ 32 + b2n (ev.toNat != 255) * 2 ^ 29 + (if ev.toNat = 255 then 0 else ev.toNat) * 2 ^ 22 + word * 2 ^ 6 + lane.toNat)) ∧ slotCfgOk s (tenantOf s ch) w arg = true ∧ Asked .mbSchSet ch (toBe 2 n ++ [0#8, b, a] ++ toBe 2 word ++ [lane, ev] ++ wB arg) s) ∧
    (∃ ch : Fin 16, ∃ n : Nat, ∃ word : Nat, ∃ b : Byte, ∃ a : Byte, ∃ lane : Byte, ∃ ev : Byte, ∃ arg : Word, ∃ s : State, Changes s ∧ ownsSlot s (tenantOf s ch) n = true ∧ slotArmed (getSlot s n) = false ∧ b.toNat ≤ 4 ∧ a.toNat ≤ 5 ∧ (ev.toNat < 128 ∨ ev.toNat = 255) ∧ word < 20480 ∧ lane.toNat < 48 ∧ ∃ w, w = (wd (b.toNat * 2 ^ 45 + tenantOf s ch * 2 ^ 40 + a.toNat * 2 ^ 36 + b2n (b.toNat == 1) * 2 ^ 33 + 2 ^ 32 + b2n (ev.toNat != 255) * 2 ^ 29 + (if ev.toNat = 255 then 0 else ev.toNat) * 2 ^ 22 + word * 2 ^ 6 + lane.toNat)) ∧ slotCfgOk s (tenantOf s ch) w arg = true ∧ Asked .mbSchSet ch (toBe 2 n ++ [0#8, b, a] ++ toBe 2 word ++ [lane, ev] ++ wB arg) s) ∧
    (∃ ch : Fin 16, ∃ n : Nat, ∃ v : Word, ∃ s : State, Changes s ∧ ownsSlot s (tenantOf s ch) n = true ∧ ∃ x : Slot, x = ({ getSlot s n with tgt := v }) ∧ effMode s (slotTenant x) ≠ 1 ∧ effMode s (slotTenant x) ≠ 4 ∧ baseTrusted s (slotBase x) = true ∧ slotPassed s x = false ∧ fireDue s = s ∧ Asked .mbSchArm ch (toBe 2 n ++ wB v) s) ∧
    (∃ ch : Fin 16, ∃ n : Nat, ∃ s : State, Changes s ∧ ownsSlot s (tenantOf s ch) n = true ∧ slotArmed (getSlot s n) = true ∧ fireDue s = s ∧ Asked .mbSchCancel ch (toBe 2 n) s) ∧
    (∃ ch : Fin 16, ∃ n : Nat, ∃ s : State, Changes s ∧ ownsSlot s (tenantOf s ch) n = true ∧ slotArmed (getSlot s n) = true ∧ serving s = true ∧ stepFirst s = s ∧ opsNow s (getSlot s n) = false ∧ slotReached s (getSlot s n) = true ∧ Asked .mbSchCancel ch (toBe 2 n) s) ∧
    (∃ ch : Fin 16, ∃ n : Nat, ∃ s : State, n < 2048 ∧ NotCarried s ch ∧ (tenantOf s ch = 0 ∨ slotTenant (getSlot s n) = tenantOf s ch) ∧ ∃ x, x = (getSlot s n) ∧ Asked .mbSchGet ch (toBe 2 n) s) ∧
    (∃ n : Fin 2048, ∃ s : State, ∃ x, x = (getSlot s n.val) ∧ slotArmed x = true ∧ slotReached s x = true ∧ serving s = true ∧ stepFirst s = s ∧ (∀ e ∈ s.slot, opsNow s e.2 = false)) ∧
    (∃ n : Fin 2048, ∃ at_ : Nat, ∃ w : Nat, ∃ l : Nat, ∃ s : State, (getSlot s n.val).pulse = some (at_, w, l) ∧ at_ ≤ s.clk ∧ inPlot s 0 (slotTenant (getSlot s n.val)) w = true ∧ tget none s.task.force w = none) :=
  ⟨⟨0, 2040, 8, (31#8), (asks 0x0710 (0 : Fin 16) (toBe 2 (2040 : Nat) ++ toBe 2 (8 : Nat) ++ [(31#8 : Byte)]) ((updSlot 2047 (fun x => { x with sts := 0#48 }) slLive) : State)), by decide +kernel, ⟨by decide +kernel, by decide +kernel⟩, by decide +kernel, by decide +kernel, by decide +kernel, by decide +kernel, asked_asks rfl⟩,
   ⟨1, 8, (wd (0 * 2 ^ 45 + 3 * 2 ^ 40 + 5 * 2 ^ 36 + 2^32 + 321 * 2 ^ 6 + 47)), (0xFFFF#48), (asks 0x0711 (1 : Fin 16) (toBe 2 (8 : Nat) ++ [1#8] ++ wB ((wd (0 * 2 ^ 45 + 3 * 2 ^ 40 + 5 * 2 ^ 36 + 2^32 + 321 * 2 ^ 6 + 47)) : Word) ++ wB (0xFFFF#48 : Word)) slLive), ⟨by decide +kernel, by decide +kernel⟩, by decide +kernel, by decide +kernel, _, rfl, by decide +kernel, asked_asks rfl⟩,
   ⟨1, 8, 321, (0#8), (5#8), (47#8), (255#8), (7#48), (asks 0x0711 (1 : Fin 16) (toBe 2 (8 : Nat) ++ [0#8, (0#8 : Byte), (5#8 : Byte)] ++ toBe 2 (321 : Nat) ++ [(47#8 : Byte), (255#8 : Byte)] ++ wB (7#48 : Word)) slLive), ⟨by decide +kernel, by decide +kernel⟩, by decide +kernel, by decide +kernel, by decide +kernel, by decide +kernel, ⟨by decide +kernel, by decide +kernel, by decide +kernel, _, rfl, by decide +kernel, asked_asks rfl⟩⟩,
   ⟨1, 8, 321, (1#8), (0#8), (0#8), (0#8), (7#48), (asks 0x0711 (1 : Fin 16) (toBe 2 (8 : Nat) ++ [0#8, (1#8 : Byte), (0#8 : Byte)] ++ toBe 2 (321 : Nat) ++ [(0#8 : Byte), (0#8 : Byte)] ++ wB (7#48 : Word)) ((setEvtSrc 128 3#48 slLive) : State)), ⟨by decide +kernel, by decide +kernel⟩, by decide +kernel, by decide +kernel, by decide +kernel, by decide +kernel, ⟨by decide +kernel, by decide +kernel, by decide +kernel, _, rfl, by decide +kernel, asked_asks rfl⟩⟩,
   ⟨1, 8, 321, (4#8), (1#8), (0#8), (255#8), (wd (7 * 2^40)), (asks 0x0711 (1 : Fin 16) (toBe 2 (8 : Nat) ++ [0#8, (4#8 : Byte), (1#8 : Byte)] ++ toBe 2 (321 : Nat) ++ [(0#8 : Byte), (255#8 : Byte)] ++ wB ((wd (7 * 2^40)) : Word)) slLive), ⟨by decide +kernel, by decide +kernel⟩, by decide +kernel, by decide +kernel, by decide +kernel, by decide +kernel, ⟨by decide +kernel, by decide +kernel, by decide +kernel, _, rfl, by decide +kernel, asked_asks rfl⟩⟩,
   ⟨1, 8, (wd 2000000001), (asks 0x0712 (1 : Fin 16) (toBe 2 (8 : Nat) ++ wB ((wd 2000000001) : Word)) ((updSlot 8 (fun _ => { cfg := slotW 0 0 0 0 }) live) : State)), ⟨by decide +kernel, by decide +kernel⟩, by decide +kernel, _, rfl, by decide +kernel, by decide +kernel, by decide +kernel, by decide +kernel, ⟨by decide +kernel, asked_asks rfl⟩⟩,
   ⟨1, 2047, (asks 0x0713 (1 : Fin 16) (toBe 2 (2047 : Nat)) ((updSlot 9 (fun x => { x with sts := 0#48 }) (updSlot 2047 (fun x => { x with tgt := wd 3000000000 }) slLive)) : State)), ⟨by decide +kernel, by decide +kernel⟩, by decide +kernel, by decide +kernel, by decide +kernel, asked_asks rfl⟩,
   ⟨1, 2047, (asks 0x0713 (1 : Fin 16) (toBe 2 (2047 : Nat)) slLive), ⟨by decide +kernel, by decide +kernel⟩, by decide +kernel, by decide +kernel, by decide +kernel, by decide +kernel, ⟨by decide +kernel, by decide +kernel, asked_asks rfl⟩⟩,
   ⟨1, 2047, (asks 0x0714 (1 : Fin 16) (toBe 2 (2047 : Nat)) slLive), by decide +kernel, forall_some (by decide +kernel), by decide +kernel, _, rfl, asked_asks rfl⟩,
   ⟨2047, (updSlot 9 (fun x => { x with sts := 0#48 }) slLive), _, rfl, by decide +kernel⟩,
   ⟨8, 2000000000, 321, 47, (updSlot 8 (fun x => { x with pulse := some (2000000000, 321, 47) }) { slLive with img := { slLive.img with word := [(321, 0xFFFFFFFFFFFF#48)] } }), by decide +kernel⟩⟩

theorem witness_TimeBaseCommands :
    (∃ ch : Fin 16, ∃ s : State, NotCarried s ch ∧ Asked .mbTbGet ch [] s) ∧
    (∃ ch : Fin 16, ∃ lp : Word, ∃ ax : Fin 4 → Word, ∃ s : State, tenantOf s ch = 0 ∧ Changes s ∧ 1 ≤ fld lp 47 40 ∧ fld lp 47 40 ≤ 100 ∧ 5 ≤ fld lp 39 32 ∧ fld lp 39 32 ≤ 200 ∧ 1 ≤ fld lp 31 24 ∧ fld lp 31 24 ≤ 100 ∧ 5 ≤ fld lp 23 16 ∧ fld lp 23 16 ≤ 200 ∧ 5 ≤ fld lp 15 8 ∧ fld lp 15 8 ≤ 100 ∧ (∀ n, twOk (twWord (ax n) true) = true) ∧ Asked .mbLpSet ch ([1#8] ++ wB lp ++ wB (ax 0) ++ wB (ax 1) ++ wB (ax 2) ++ wB (ax 3)) s) ∧
    (∃ ch : Fin 16, ∃ en : Fin 4 → Bool, ∃ teeth : Fin 4 → Nat, ∃ diam : Fin 4 → Nat, ∃ s : State, tenantOf s ch = 0 ∧ Changes s ∧ (∀ n, 16 ≤ teeth n ∧ teeth n ≤ 1024 ∧ 30000 ≤ diam n ∧ diam n ≤ 150000) ∧ (Asked .mbLpSet ch ([0#8] ++ ([0, 1, 2, 3] : List (Fin 4)).flatMap (fun n => (if en n then 1#8 else 0#8) :: toBe 2 (teeth n) ++ toBe 4 (diam n))) s)) ∧
    (∃ ch : Fin 16, ∃ n : Fin 2, ∃ w : Word, ∃ s : State, tenantOf s ch = 0 ∧ Changes s ∧ fld w 43 36 ≤ 200 ∧ Asked .mbMainsSet ch ([BitVec.ofNat 8 n.val, 1#8] ++ wB w) s) ∧
    (∃ ch : Fin 16, ∃ n : Fin 2, ∃ en : Byte, ∃ nom : Byte, ∃ s : State, tenantOf s ch = 0 ∧ Changes s ∧ en.toNat ≤ 1 ∧ nom.toNat ≤ 3 ∧ Asked .mbMainsSet ch [BitVec.ofNat 8 n.val, 0#8, en, nom] s) ∧
    (∃ ch : Fin 16, ∃ lf : Word, ∃ tf : Word, ∃ o : Byte, ∃ s : State, tenantOf s ch = 0 ∧ Changes s ∧ ∃ ago, ago = ((devtime s + 2 ^ 48 - tf.toNat) % 2 ^ 48) ∧ ∃ waiting, waiting = ((s.tb.fix.map (·.1)).sum) ∧ ∃ c, c = (lf.toInt - (lineAt s (s.clk - ago) + waiting)) ∧ ago ≤ 1000000000 ∧ -(2 ^ 47) ≤ c ∧ c < 2 ^ 47 ∧ -(2 ^ 47) ≤ s.tb.pos + waiting + c ∧ s.tb.pos + waiting + c < 2 ^ 47 ∧ (o.toNat % 2 = 1 ∨ c.natAbs ≤ 6400000) ∧ Asked .mbPosFix ch (wB lf ++ wB tf ++ [o]) s) ∧
    (∃ ch : Fin 16, ∃ lf : Word, ∃ tf : Word, ∃ o : Byte, ∃ s : State, tenantOf s ch = 0 ∧ Changes s ∧ ∃ ago, ago = ((devtime s + 2 ^ 48 - tf.toNat) % 2 ^ 48) ∧ ∃ waiting, waiting = ((s.tb.fix.map (·.1)).sum) ∧ ∃ c, c = (lf.toInt - (lineAt s (s.clk - ago) + waiting)) ∧ ago ≤ 1000000000 ∧ -(2 ^ 47) ≤ c ∧ c < 2 ^ 47 ∧ -(2 ^ 47) ≤ s.tb.pos + waiting + c ∧ s.tb.pos + waiting + c < 2 ^ 47 ∧ (o.toNat % 2 = 1 ∨ c.natAbs ≤ 6400000) ∧ Asked .mbPosFix ch (wB lf ++ wB tf ++ [o]) s) ∧
    (∃ ch : Fin 16, ∃ lf : Word, ∃ tf : Word, ∃ o : Byte, ∃ s : State, tenantOf s ch = 0 ∧ Changes s ∧ ∃ ago, ago = ((devtime s + 2 ^ 48 - tf.toNat) % 2 ^ 48) ∧ ∃ waiting, waiting = ((s.tb.fix.map (·.1)).sum) ∧ ∃ c, c = (lf.toInt - (lineAt s (s.clk - ago) + waiting)) ∧ ago ≤ 1000000000 ∧ -(2 ^ 47) ≤ c ∧ c < 2 ^ 47 ∧ -(2 ^ 47) ≤ s.tb.pos + waiting + c ∧ s.tb.pos + waiting + c < 2 ^ 47 ∧ (o.toNat % 2 = 1 ∨ c.natAbs ≤ 6400000) ∧ Asked .mbPosFix ch (wB lf ++ wB tf ++ [o]) s) :=
  ⟨⟨1, (asks 0x0701 (1 : Fin 16) [] axLive), forall_some (by decide +kernel), asked_asks rfl⟩,
   ⟨0, (wd (50 * 2^40 + 20 * 2^32 + 30*2^24 + 40 * 2^16 + 25 * 2^8)), (fun n => if n = 0 then 0#48 else ax.cfg), (asks 0x0703 (0 : Fin 16) ([1#8] ++ wB ((wd (50 * 2^40 + 20 * 2^32 + 30*2^24 + 40 * 2^16 + 25 * 2^8)) : Word) ++ wB (((fun n => if n = 0 then 0#48 else ax.cfg) : Fin 4 → Word) 0) ++ wB (((fun n => if n = 0 then 0#48 else ax.cfg) : Fin 4 → Word) 1) ++ wB (((fun n => if n = 0 then 0#48 else ax.cfg) : Fin 4 → Word) 2) ++ wB (((fun n => if n = 0 then 0#48 else ax.cfg) : Fin 4 → Word) 3)) live), by decide +kernel, ⟨by decide +kernel, by decide +kernel⟩, by decide +kernel, by decide +kernel, by decide +kernel, by decide +kernel, ⟨by decide +kernel, by decide +kernel, by decide +kernel, by decide +kernel, by decide +kernel, ⟨by decide +kernel, by decide +kernel, asked_asks rfl⟩⟩⟩,
   ⟨0, (fun n => n == 3), (fun _ => 1024), (fun _ => 30000), (asks 0x0703 (0 : Fin 16) ([0#8] ++ ([0, 1, 2, 3] : List (Fin 4)).flatMap (fun n => (if ((fun n => n == 3) : Fin 4 → Bool) n then 1#8 else 0#8) :: toBe 2 (((fun _ => 1024) : Fin 4 → Nat) n) ++ toBe 4 (((fun _ => 30000) : Fin 4 → Nat) n))) live), by decide +kernel, ⟨by decide +kernel, by decide +kernel⟩, by decide +kernel, asked_asks rfl⟩,
   ⟨0, 1, (wd (3 * 2^46 + 2^45 + 200 * 2^36 + 77 * 2^20)), (asks 0x0704 (0 : Fin 16) ([BitVec.ofNat 8 (1 : Fin 2).val, 1#8] ++ wB ((wd (3 * 2^46 + 2^45 + 200 * 2^36 + 77 * 2^20)) : Word)) mnLive), by decide +kernel, ⟨by decide +kernel, by decide +kernel⟩, by decide +kernel, asked_asks rfl⟩,
   ⟨0, 1, (0#8), (3#8), (asks 0x0704 (0 : Fin 16) [BitVec.ofNat 8 (1 : Fin 2).val, 0#8, (0#8 : Byte), (3#8 : Byte)] mnLive), by decide +kernel, ⟨by decide +kernel, by decide +kernel⟩, by decide +kernel, by decide +kernel, asked_asks rfl⟩,
   ⟨0, (wd 6400000), (wd (devtime live)), (0#8), (asks 0x0705 (0 : Fin 16) (wB ((wd 6400000) : Word) ++ wB ((wd (devtime live)) : Word) ++ [(0#8 : Byte)]) live), by decide +kernel, ⟨by decide +kernel, by decide +kernel⟩, _, rfl, _, rfl, _, rfl, by decide +kernel, by decide +kernel, by decide +kernel, by decide +kernel, ⟨by decide +kernel, by decide +kernel, asked_asks rfl⟩⟩,
   ⟨0, (wd 6400007), (wd (devtime live + 2 ^ 48 - 1000000000)), (0#8), (asks 0x0705 (0 : Fin 16) (wB ((wd 6400007) : Word) ++ wB ((wd (devtime live + 2 ^ 48 - 1000000000)) : Word) ++ [(0#8 : Byte)]) (({ live with tb := { live.tb with fix := [(7, 5)] } }) : State)), by decide +kernel, ⟨by decide +kernel, by decide +kernel⟩, _, rfl, _, rfl, _, rfl, by decide +kernel, by decide +kernel, by decide +kernel, by decide +kernel, ⟨by decide +kernel, by decide +kernel, asked_asks rfl⟩⟩,
   ⟨0, (0xC00000000000#48), (wd (devtime live)), (1#8), (asks 0x0705 (0 : Fin 16) (wB (0xC00000000000#48 : Word) ++ wB ((wd (devtime live)) : Word) ++ [(1#8 : Byte)]) (({ live with tb := { live.tb with pos := -5 } }) : State)), by decide +kernel, ⟨by decide +kernel, by decide +kernel⟩, _, rfl, _, rfl, _, rfl, by decide +kernel, by decide +kernel, by decide +kernel, by decide +kernel, ⟨by decide +kernel, by decide +kernel, asked_asks rfl⟩⟩⟩

theorem witness_ControlEngineSamples :
    (∃ n : Fin 512, ∃ s : State, s.ovl.units = [] ∧ ceRateDue n.val s = true ∧ ceBusy s n.val = false ∧ ∃ r, r = (freezeReady s) ∧ ceBusy r n.val = false) ∧
    (∃ n : Fin 512, ∃ s : State, s.ovl.units = [] ∧ ceRateDue n.val s = true ∧ ceBusy s n.val = true ∧ ceBusy (freezeReady s) n.val = true) ∧
    (∃ n : Fin 512, ∃ s : State, s.ovl.units = []) ∧
    (∃ n : Fin 512, ∃ s : State, s.ovl.units = [] ∧ ceRateDue n.val s = false) ∧
    (∃ n : Fin 512, ∃ s : State, s.ovl.units = [] ∧ ceSupangDue n.val s = false) ∧
    (∃ n : Fin 512, ∃ s : State, s.ovl.units = [] ∧ ceSupangDue n.val s = true ∧ ceBusy s n.val = false ∧ ∃ r, r = (freezeReady s) ∧ ceBusy r n.val = false) ∧
    (∃ n : Fin 512, ∃ s : State, s.ovl.units = [] ∧ ceSupangDue n.val s = true ∧ ceBusy s n.val = true ∧ ceBusy (freezeReady s) n.val = true) ∧
    (∃ n : Fin 512, ∃ j : CeJob, ∃ s : State, s.ovl.units = [] ∧ s.ce.waits = [] ∧ (s.ce.jobs.find? (fun j => j.loop == n.val) = some j) ∧ ceTurn s j = true ∧ (serving s = true ∨ (j.task.isSome = true ∧ (s.pair.rstate = 5 ∨ s.pair.rstate = 7)))) ∧
    (∃ n : Fin 512, ∃ s : State, (s.ce.jobs.find? (fun j => j.loop == n.val) = none)) :=
  ⟨⟨5, ceLive, by decide +kernel, by decide +kernel, by decide +kernel, _, rfl, by decide +kernel⟩,
   ⟨5, ({ ceLive with ce := { ceLive.ce with jobs := [(⟨5, none, 1999999999, []⟩ : CeJob)] } }), by decide +kernel⟩,
   ⟨6, ceLive, by decide +kernel⟩,
   ⟨6, ceLive, by decide +kernel⟩,
   ⟨5, ceLive, by decide +kernel⟩,
   ⟨6, ceLive, by decide +kernel, by decide +kernel, by decide +kernel, _, rfl, by decide +kernel⟩,
   ⟨6, ({ ceLive with ce := { ceLive.ce with jobs := [(⟨6, none, 1999999999, []⟩ : CeJob)] } }), by decide +kernel⟩,
   ⟨5, (⟨5, none, 1999999999, []⟩ : CeJob), ({ ceLive with ce := { ceLive.ce with jobs := [(⟨5, none, 1999999999, []⟩ : CeJob)] } }), by decide +kernel⟩,
   ⟨5, ceLive, by decide +kernel⟩⟩

theorem witness_ControlLoopCommands :
    (∃ ch : Fin 16, ∃ g : Byte, ∃ c : Byte, ∃ tn : Byte, ∃ s : State, tenantOf s ch = 0 ∧ Changes s ∧ 1 ≤ c.toNat ∧ g.toNat + c.toNat ≤ 64 ∧ tn.toNat < 32 ∧ (∀ n, 8 * g.toNat ≤ n → n < 8 * g.toNat + 8 * c.toNat → (getLoop s n).isSet = false) ∧ (∀ i, i < c.toNat → bit (evtSrc s (256 + g.toNat + i)) 23 = false) ∧ Asked .mbCeAlloc ch [g, c, tn] s) ∧
    (∃ ch : Fin 16, ∃ p : Bytes, ∃ s : State, Changes s ∧ ((u8 p 2 = 0 ∧ p.length = 56) ∨ (u8 p 2 = 1 ∧ p.length = 63)) ∧ ceOwner s (tenantOf s ch) (be p 0 2) = true ∧ ∃ n, n = (be p 0 2) ∧ ∃ r, r = (ceRequest p) ∧ ∃ x, x = (getLoop (ceSettled s) n) ∧ ∃ y, y = (ceCandidate (ceSettled s) x r) ∧ ∃ s', s' = (updLoop n (fun _ => y) (ceSettled s)) ∧ r.listed = true ∧ r.fits = true ∧ (∀ w ∈ r.ins, mayRead s (tenantOf s ch) w = true) ∧ (x.isSet = false ∨ effMode s (tenantOf s ch) = 1 ∨ (ceTrig y, ceN y, ceM y, ceP y, ceInteg y, ceLead y) = (ceTrig x, ceN x, ceM x, ceP x, ceInteg x, ceLead x)) ∧ ceSetOk s s' n = true ∧ cePool s' ≤ 131072 ∧ ceLoad s' ≤ 4000000000 ∧ ceUnder s n = true ∧ Asked .mbCeSet ch p s) ∧
    (∃ ch : Fin 16, ∃ p : Bytes, ∃ s : State, Changes s ∧ ((u8 p 2 = 0 ∧ p.length = 56) ∨ (u8 p 2 = 1 ∧ p.length = 63)) ∧ ceOwner s (tenantOf s ch) (be p 0 2) = true ∧ ∃ n, n = (be p 0 2) ∧ ∃ r, r = (ceRequest p) ∧ ∃ x, x = (getLoop (ceSettled s) n) ∧ ∃ y, y = (ceCandidate (ceSettled s) x r) ∧ ∃ s', s' = (updLoop n (fun _ => y) (ceSettled s)) ∧ r.listed = true ∧ r.fits = true ∧ (∀ w ∈ r.ins, mayRead s (tenantOf s ch) w = true) ∧ (x.isSet = false ∨ effMode s (tenantOf s ch) = 1 ∨ (ceTrig y, ceN y, ceM y, ceP y, ceInteg y, ceLead y) = (ceTrig x, ceN x, ceM x, ceP x, ceInteg x, ceLead x)) ∧ ceSetOk s s' n = true ∧ cePool s' ≤ 131072 ∧ ceLoad s' ≤ 4000000000 ∧ ceUnder s n = false ∧ s.ce.waits = [] ∧ Asked .mbCeSet ch p s) ∧
    (∃ ch : Fin 16, ∃ p : Bytes, ∃ s : State, Changes s ∧ ((u8 p 2 = 0 ∧ p.length = 56) ∨ (u8 p 2 = 1 ∧ p.length = 63)) ∧ ceOwner s (tenantOf s ch) (be p 0 2) = true ∧ ∃ n, n = (be p 0 2) ∧ ∃ r, r = (ceRequest p) ∧ ∃ x, x = (getLoop (ceSettled s) n) ∧ ∃ y, y = (ceCandidate (ceSettled s) x r) ∧ ∃ s', s' = (updLoop n (fun _ => y) (ceSettled s)) ∧ r.listed = true ∧ r.fits = true ∧ (∀ w ∈ r.ins, mayRead s (tenantOf s ch) w = true) ∧ (x.isSet = false ∨ effMode s (tenantOf s ch) = 1 ∨ (ceTrig y, ceN y, ceM y, ceP y, ceInteg y, ceLead y) = (ceTrig x, ceN x, ceM x, ceP x, ceInteg x, ceLead x)) ∧ ceSetOk s s' n = true ∧ cePool s' ≤ 131072 ∧ ceLoad s' ≤ 4000000000 ∧ ceUnder s n = false ∧ s.ce.waits = [] ∧ Asked .mbCeSet ch p s) ∧
    (∃ ch : Fin 16, ∃ n : Nat, ∃ o : Nat, ∃ ws : List Word, ∃ s : State, Changes s ∧ ceOwner s (tenantOf s ch) n = true ∧ (getLoop s n).isSet = true ∧ 1 ≤ ws.length ∧ ws.length ≤ 64 ∧ o < 2 ^ 16 ∧ o + ws.length ≤ (getLoop s n).coef.length ∧ ((getLoop s n).stage.isSome = true ∨ cePool s + (getLoop s n).coef.length ≤ 131072) ∧ Asked .mbCeCoefSet ch (toBe 2 n ++ toBe 2 o ++ toBe 1 ws.length ++ ws.flatMap wB) s) ∧
    (∃ ch : Fin 16, ∃ n : Nat, ∃ o : Nat, ∃ ws : List Word, ∃ s : State, Changes s ∧ ceOwner s (tenantOf s ch) n = true ∧ (getLoop s n).isSet = true ∧ 1 ≤ ws.length ∧ ws.length ≤ 64 ∧ o < 2 ^ 16 ∧ o + ws.length ≤ (getLoop s n).coef.length ∧ ((getLoop s n).stage.isSome = true ∨ cePool s + (getLoop s n).coef.length ≤ 131072) ∧ Asked .mbCeCoefSet ch (toBe 2 n ++ toBe 2 o ++ toBe 1 ws.length ++ ws.flatMap wB) s) ∧
    (∃ ch : Fin 16, ∃ n : Nat, ∃ b : List Word, ∃ s : State, Changes s ∧ ceOwner s (tenantOf s ch) n = true ∧ (getLoop s n).isSet = true ∧ (getLoop s n).stage = some b ∧ ceLimitsOk (getLoop s n) b = true ∧ ceUnder s n = false ∧ Asked .mbCeCoefCommit ch (toBe 2 n) s) ∧
    (∃ ch : Fin 16, ∃ n : Nat, ∃ b : List Word, ∃ s : State, Changes s ∧ ceOwner s (tenantOf s ch) n = true ∧ (getLoop s n).isSet = true ∧ (getLoop s n).stage = some b ∧ ceLimitsOk (getLoop s n) b = true ∧ ceUnder s n = true ∧ Asked .mbCeCoefCommit ch (toBe 2 n) s) ∧
    (∃ ch : Fin 16, ∃ n : Nat, ∃ s : State, NotCarried s ch ∧ ceOwner s (tenantOf s ch) n = true ∧ ∃ x, x = (getLoop s n) ∧ Asked .mbCeGet ch (toBe 2 n) s) ∧
    (∃ ch : Fin 16, ∃ n : Nat, ∃ xs : List Word, ∃ qs : List Word, ∃ s : State, Changes s ∧ ceOwner s (tenantOf s ch) n = true ∧ (getLoop s n).isSet = true ∧ xs.length = ceN (getLoop s n) ∧ qs.length = ceM (getLoop s n) ∧ ceUnder s n = false ∧ Asked .mbCeStateSet ch (toBe 2 n ++ xs.flatMap wB ++ qs.flatMap wB) s) ∧
    (∃ ch : Fin 16, ∃ n : Nat, ∃ xs : List Word, ∃ qs : List Word, ∃ s : State, Changes s ∧ ceOwner s (tenantOf s ch) n = true ∧ (getLoop s n).isSet = true ∧ xs.length = ceN (getLoop s n) ∧ qs.length = ceM (getLoop s n) ∧ ceUnder s n = true ∧ Asked .mbCeStateSet ch (toBe 2 n ++ xs.flatMap wB ++ qs.flatMap wB) s) ∧
    (∃ ch : Fin 16, ∃ n : Nat, ∃ b : Byte, ∃ s : State, Changes s ∧ ceOwner s (tenantOf s ch) n = true ∧ Asked .mbCeFlagsClear ch (toBe 2 n ++ [b]) s) ∧
    (∃ ch : Fin 16, ∃ s : State, NotCarried s ch ∧ Asked .mbCeLoad ch [] s) :=
  ⟨⟨0, (63#8), (1#8), (31#8), (asks 0x0601 (0 : Fin 16) [(63#8 : Byte), (1#8 : Byte), (31#8 : Byte)] ceLive), by decide +kernel, ⟨by decide +kernel, by decide +kernel⟩, by decide +kernel, by decide +kernel, by decide +kernel, by decide +kernel, ⟨by decide +kernel, asked_asks rfl⟩⟩,
   ⟨1, (toBe 2 7 ++ [1#8] ++ wB (wd (1 * 2^45 + 2^38 + 2 * 2^31 + 1 * 2^28)) ++ wB (wd (1000 * 2^28)) ++ wB (wd (512 * 2^33 + 513 * 2^18 + 332 * 8)) ++ wB (wd (512 * 2^33 + 1)) ++ List.replicate 36 0#8), (asks 0x0602 (1 : Fin 16) ((toBe 2 7 ++ [1#8] ++ wB (wd (1 * 2^45 + 2^38 + 2 * 2^31 + 1 * 2^28)) ++ wB (wd (1000 * 2^28)) ++ wB (wd (512 * 2^33 + 513 * 2^18 + 332 * 8)) ++ wB (wd (512 * 2^33 + 1)) ++ List.replicate 36 0#8) : Bytes) (({ ceLive with ce := { ceLive.ce with jobs := [(⟨7, none, 1999999999, []⟩ : CeJob)] } }) : State)), ⟨by decide +kernel, by decide +kernel⟩, by decide +kernel, by decide +kernel, _, rfl, _, rfl, _, rfl, _, rfl, _, rfl, by decide +kernel, by decide +kernel, by decide +kernel, by decide +kernel, ⟨by decide +kernel, by decide +kernel, by decide +kernel, by decide +kernel, asked_asks rfl⟩⟩,
   ⟨1, (toBe 2 7 ++ [0#8, 1#8] ++ wB (wd (2000 * 2 ^ 28 + 7)) ++ toBe 2 0 ++ toBe 2 512 ++ [0#8] ++ toBe 2 0xFFFF ++ [1#8] ++ wB 0#48 ++ toBe 2 331 ++ wB (wd (2^31)) ++ wB (wd (2^33)) ++ wB (wi (-5)) ++ wB 5#48 ++ wB 0#48), (asks 0x0602 (1 : Fin 16) ((toBe 2 7 ++ [0#8, 1#8] ++ wB (wd (2000 * 2 ^ 28 + 7)) ++ toBe 2 0 ++ toBe 2 512 ++ [0#8] ++ toBe 2 0xFFFF ++ [1#8] ++ wB 0#48 ++ toBe 2 331 ++ wB (wd (2^31)) ++ wB (wd (2^33)) ++ wB (wi (-5)) ++ wB 5#48 ++ wB 0#48) : Bytes) (({ ceLive with task := { ceLive.task with dev := 1 } }) : State)), ⟨by decide +kernel, by decide +kernel⟩, by decide +kernel, by decide +kernel, _, rfl, _, rfl, _, rfl, _, rfl, _, rfl, by decide +kernel, by decide +kernel, by decide +kernel, by decide +kernel, ⟨by decide +kernel, by decide +kernel, by decide +kernel, by decide +kernel, by decide +kernel, asked_asks rfl⟩⟩,
   ⟨1, (toBe 2 7 ++ [1#8] ++ wB (wd (1 * 2^45 + 2^38 + 2 * 2^31 + 1 * 2^28)) ++ wB (wd (1000 * 2^28)) ++ wB (wd (512 * 2^33 + 513 * 2^18 + 332 * 8)) ++ wB (wd (512 * 2^33 + 1)) ++ List.replicate 36 0#8), (asks 0x0602 (1 : Fin 16) ((toBe 2 7 ++ [1#8] ++ wB (wd (1 * 2^45 + 2^38 + 2 * 2^31 + 1 * 2^28)) ++ wB (wd (1000 * 2^28)) ++ wB (wd (512 * 2^33 + 513 * 2^18 + 332 * 8)) ++ wB (wd (512 * 2^33 + 1)) ++ List.replicate 36 0#8) : Bytes) ceLive), ⟨by decide +kernel, by decide +kernel⟩, by decide +kernel, by decide +kernel, _, rfl, _, rfl, _, rfl, _, rfl, _, rfl, by decide +kernel, by decide +kernel, by decide +kernel, by decide +kernel, ⟨by decide +kernel, by decide +kernel, by decide +kernel, by decide +kernel, by decide +kernel, asked_asks rfl⟩⟩,
   ⟨1, 5, 11, [9#48], (asks 0x0603 (1 : Fin 16) (toBe 2 (5 : Nat) ++ toBe 2 (11 : Nat) ++ toBe 1 ([9#48] : List Word).length ++ ([9#48] : List Word).flatMap wB) ceLive), ⟨by decide +kernel, by decide +kernel⟩, by decide +kernel, by decide +kernel, by decide +kernel, by decide +kernel, ⟨by decide +kernel, by decide +kernel, by decide +kernel, asked_asks rfl⟩⟩,
   ⟨1, 5, 0, [9#48, 8#48], (asks 0x0603 (1 : Fin 16) (toBe 2 (5 : Nat) ++ toBe 2 (0 : Nat) ++ toBe 1 ([9#48, 8#48] : List Word).length ++ ([9#48, 8#48] : List Word).flatMap wB) ((updLoop 5 (fun x => { x with stage := none }) ceLive) : State)), ⟨by decide +kernel, by decide +kernel⟩, by decide +kernel, by decide +kernel, by decide +kernel, by decide +kernel, ⟨by decide +kernel, by decide +kernel, by decide +kernel, asked_asks rfl⟩⟩,
   ⟨1, 5, [1,2,3,4,5,6,7,8,5,5,11,12], (asks 0x0604 (1 : Fin 16) (toBe 2 (5 : Nat)) ceLive), ⟨by decide +kernel, by decide +kernel⟩, by decide +kernel, by decide +kernel, by decide +kernel, by decide +kernel, ⟨by decide +kernel, asked_asks rfl⟩⟩,
   ⟨1, 5, [1,2,3,4,5,6,7,8,5,5,11,12], (asks 0x0604 (1 : Fin 16) (toBe 2 (5 : Nat)) (({ ceLive with ce := { ceLive.ce with jobs := [(⟨5, none, 1999999999, []⟩ : CeJob)] } }) : State)), ⟨by decide +kernel, by decide +kernel⟩, by decide +kernel, by decide +kernel, by decide +kernel, by decide +kernel, ⟨by decide +kernel, asked_asks rfl⟩⟩,
   ⟨1, 5, (asks 0x0605 (1 : Fin 16) (toBe 2 (5 : Nat)) ceLive), forall_some (by decide +kernel), by decide +kernel, _, rfl, asked_asks rfl⟩,
   ⟨1, 5, [77#48], [88#48], (asks 0x0606 (1 : Fin 16) (toBe 2 (5 : Nat) ++ ([77#48] : List Word).flatMap wB ++ ([88#48] : List Word).flatMap wB) ceLive), ⟨by decide +kernel, by decide +kernel⟩, by decide +kernel, by decide +kernel, by decide +kernel, by decide +kernel, ⟨by decide +kernel, asked_asks rfl⟩⟩,
   ⟨1, 5, [77#48], [88#48], (asks 0x0606 (1 : Fin 16) (toBe 2 (5 : Nat) ++ ([77#48] : List Word).flatMap wB ++ ([88#48] : List Word).flatMap wB) (({ ceLive with ce := { ceLive.ce with jobs := [(⟨5, none, 1999999999, []⟩ : CeJob)] } }) : State)), ⟨by decide +kernel, by decide +kernel⟩, by decide +kernel, by decide +kernel, by decide +kernel, by decide +kernel, ⟨by decide +kernel, asked_asks rfl⟩⟩,
   ⟨1, 5, (0xFF#8), (asks 0x0607 (1 : Fin 16) (toBe 2 (5 : Nat) ++ [(0xFF#8 : Byte)]) ceLive), ⟨by decide +kernel, by decide +kernel⟩, by decide +kernel, asked_asks rfl⟩,
   ⟨0, (asks 0x060B (0 : Fin 16) [] ceLive), forall_some (by decide +kernel), asked_asks rfl⟩⟩

theorem witness_InjectionSessions :
    (∃ ch : Fin 16, ∃ i : Fin 2, ∃ w : Word, ∃ amp : Word, ∃ f0 : Word, ∃ f1 : Word, ∃ dur : Word, ∃ cs : List (Byte × Byte), ∃ d : Nat, ∃ pre : Nat, ∃ c : Nat, ∃ s : State, Changes s ∧ ∃ r, r = (w &&& 0xFFFFFFFF0000#48) ∧ ∃ n, n = (fld r 47 39) ∧ ceOwner s (tenantOf s ch) n = true ∧ cs.length = 4 ∧ (∀ e ∈ cs, e.1.toNat ≤ 8) ∧ 1 ≤ d ∧ d ≤ 256 ∧ pre < 2 ^ 16 ∧ 1 ≤ c ∧ c ≤ 8192 ∧ fld r 38 36 ≤ 4 ∧ (fld r 38 36 = 3 → 7 ≤ fld r 31 28) ∧ 1 ≤ fld r 27 16 ∧ (fld r 38 36 = 2 → 1 ≤ fld r 27 16) ∧ effMode s (tenantOf s ch) = 2 ∧ (getInj s i.val).active = false ∧ (getLoop s n).isSet = true ∧ (fld r 34 32 < (if bit r 35 then ceM (getLoop s n) else ceP (getLoop s n))) ∧ (Asked .mbCeInjStart ch ([BitVec.ofNat 8 i.val] ++ wB w ++ wB amp ++ wB f0 ++ wB f1 ++ wB dur ++ cs.flatMap (fun e => [e.1, e.2]) ++ toBe 2 d ++ toBe 2 pre ++ toBe 2 c) s)) ∧
    (∃ ch : Fin 16, ∃ i : Fin 2, ∃ s : State, Changes s ∧ ceOwner s (tenantOf s ch) (injLoop (getInj s i.val)) = true ∧ (getInj s i.val).active = true ∧ Asked .mbCeInjStop ch [BitVec.ofNat 8 i.val] s) ∧
    (∃ ch : Fin 16, ∃ i : Fin 2, ∃ a : Nat, ∃ c : Nat, ∃ s : State, NotCarried s ch ∧ ceOwner s (tenantOf s ch) (injLoop (getInj s i.val)) = true ∧ 1 ≤ c ∧ c ≤ 160 ∧ a < 2 ^ 16 ∧ a + c ≤ (getInj s i.val).cap.length ∧ ∃ k, k = (getInj s i.val) ∧ Asked .mbCeCapRead ch ([BitVec.ofNat 8 i.val] ++ toBe 2 a ++ toBe 2 c) s) :=
  ⟨⟨1, 0, (wd (5 * 2^39 + 3 * 2^36 + 0 * 2^32 + 7 * 2^28 + 1 * 2^16 + 0xFFFF)), 1, 2, 3, 4, [(0,0),(8,255),(1,1),(2,2)], 256, 65535, 8192, (asks 0x0608 (1 : Fin 16) ([BitVec.ofNat 8 (0 : Fin 2).val] ++ wB ((wd (5 * 2^39 + 3 * 2^36 + 0 * 2^32 + 7 * 2^28 + 1 * 2^16 + 0xFFFF)) : Word) ++ wB (1 : Word) ++ wB (2 : Word) ++ wB (3 : Word) ++ wB (4 : Word) ++ ([(0,0),(8,255),(1,1),(2,2)] : List (Byte × Byte)).flatMap (fun e => [e.1, e.2]) ++ toBe 2 (256 : Nat) ++ toBe 2 (65535 : Nat) ++ toBe 2 (8192 : Nat)) ceLive), ⟨by decide +kernel, by decide +kernel⟩, _, rfl, _, rfl, by decide +kernel, by decide +kernel, by simp, by decide +kernel, by decide +kernel, by decide +kernel, by decide +kernel, ⟨by decide +kernel, by decide +kernel, by decide +kernel, by decide +kernel, by decide +kernel, ⟨by decide +kernel, by decide +kernel, by decide +kernel, by decide +kernel, asked_asks rfl⟩⟩⟩,
   ⟨1, 1, (asks 0x0609 (1 : Fin 16) [BitVec.ofNat 8 (1 : Fin 2).val] ceLive), ⟨by decide +kernel, by decide +kernel⟩, by decide +kernel, by decide +kernel, asked_asks rfl⟩,
   ⟨1, 1, 1, 1, (asks 0x060A (1 : Fin 16) ([BitVec.ofNat 8 (1 : Fin 2).val] ++ toBe 2 (1 : Nat) ++ toBe 2 (1 : Nat)) ceLive), forall_some (by decide +kernel), by decide +kernel, by decide +kernel, by decide +kernel, by decide +kernel, ⟨by decide +kernel, _, rfl, asked_asks rfl⟩⟩⟩

theorem witness_ProgrammesAlarmsAndTrends :
    (∃ w : Fin 512, ∃ g : Wpg, ∃ s : State, s.ovl.units = [] ∧ serving s = true ∧ tget none s.svc.wpg w.val = some g ∧ ∃ t, t = (fld g.cfg 47 43) ∧ ∃ v, v = (wpgValue s g (localMin s t)) ∧ ∃ o, o = (fld g.cfg 32 18)) ∧
    (∃ w : Fin 512, ∃ g : Wpg, ∃ s : State, s.ovl.units = [] ∧ serving s = true ∧ tget none s.svc.wpg w.val = some g ∧ ∃ t, t = (fld g.cfg 47 43) ∧ ∃ v, v = (wpgValue s g (localMin s t)) ∧ ∃ o, o = (fld g.cfg 32 18) ∧ bit g.cfg 17 = true ∧ g.last ≠ some v ∧ running s t = true ∧ inPlot s 0 t o = true ∧ tget none s.task.force o = none) ∧
    (∃ w : Fin 512, ∃ g : Wpg, ∃ s : State, s.ovl.units = [] ∧ serving s = true ∧ tget none s.svc.wpg w.val = some g ∧ ∃ t, t = (fld g.cfg 47 43) ∧ ∃ v, v = (wpgValue s g (localMin s t)) ∧ ∃ o, o = (fld g.cfg 32 18) ∧ (bit g.cfg 17 = false ∨ g.last = some v)) ∧
    (∃ n : Nat, ∃ a : Alm, ∃ s : State, s.ovl.units = [] ∧ serving s = true ∧ (s.svc.alm.map (·.1)).Nodup ∧ tget none s.svc.alm n = some a ∧ ∃ r, r = (almRaw a (svcRead s (fld a.cfg 47 43) (fld a.cfg 31 17))) ∧ ∃ from_, from_ = (if r && !a.raw then s.clk else a.since)) ∧
    (∃ n : Fin 8192, ∃ a : Alm, ∃ l : Nat, ∃ s : State, serving s = true ∧ tget none s.svc.alm n.val = some a ∧ a.shelved = some l ∧ l ≤ s.clk) ∧
    (∃ n : Fin 4096, ∃ c : Trd, ∃ s : State, s.ovl.units = [] ∧ serving s = true ∧ tget none s.svc.trd n.val = some c ∧ mayRead s (fld c.cfg 47 43) (fld c.cfg 32 18) = true ∧ ∃ q, q = (fld (plotQual s (fld c.cfg 32 18 / 64)) 15 0) ∧ ∃ v, v = (trdValue c (imgWord s (fld c.cfg 32 18)))) ∧
    (∃ n : Fin 4096, ∃ c : Trd, ∃ s : State, s.ovl.units = [] ∧ serving s = true ∧ tget none s.svc.trd n.val = some c ∧ mayRead s (fld c.cfg 47 43) (fld c.cfg 32 18) = true ∧ ∃ q, q = (fld (plotQual s (fld c.cfg 32 18 / 64)) 15 0) ∧ ∃ v, v = (trdValue c (imgWord s (fld c.cfg 32 18))) ∧ trdDue n.val s = true) ∧
    (∃ n : Fin 4096, ∃ c : Trd, ∃ s : State, s.ovl.units = [] ∧ serving s = true ∧ tget none s.svc.trd n.val = some c ∧ mayRead s (fld c.cfg 47 43) (fld c.cfg 32 18) = true ∧ ∃ q, q = (fld (plotQual s (fld c.cfg 32 18 / 64)) 15 0) ∧ ∃ v, v = (trdValue c (imgWord s (fld c.cfg 32 18))) ∧ trdOnChange n.val s = true ∧ trdDiffers c (imgWord s (fld c.cfg 32 18)) = true) ∧
    (∃ n : Fin 4096, ∃ c : Trd, ∃ s : State, s.ovl.units = [] ∧ serving s = true ∧ tget none s.svc.trd n.val = some c ∧ mayRead s (fld c.cfg 47 43) (fld c.cfg 32 18) = true ∧ ∃ q, q = (fld (plotQual s (fld c.cfg 32 18 / 64)) 15 0) ∧ ∃ v, v = (trdValue c (imgWord s (fld c.cfg 32 18))) ∧ trdOnChange n.val s = true ∧ trdDiffers c (imgWord s (fld c.cfg 32 18)) = false) :=
  ⟨⟨5, wpg1, svLive, by decide +kernel, by decide +kernel, by decide +kernel, _, rfl, _, rfl, _, rfl⟩,
   ⟨5, wpg1, svLive, by decide +kernel, by decide +kernel, by decide +kernel, _, rfl, _, rfl, _, rfl, by decide +kernel⟩,
   ⟨6, { wpg1 with last := some 1#48 }, svLive, by decide +kernel, by decide +kernel, by decide +kernel, _, rfl, _, rfl, _, rfl, by decide +kernel⟩,
   ⟨8191, alm1, svLive, by decide +kernel, by decide +kernel, by decide +kernel, by decide +kernel, ⟨_, rfl, _, rfl⟩⟩,
   ⟨8191, ({ alm1 with shelved := some 2001000000 } : Alm), 2001000000, ({ svLive with svc := { svLive.svc with alm := [(8191, some { alm1 with shelved := some 2001000000 })] } }), by decide +kernel⟩,
   ⟨4095, trd1, svLive, by decide +kernel, by decide +kernel, by decide +kernel, by decide +kernel, ⟨_, rfl, _, rfl⟩⟩,
   ⟨4095, trd1, svLive, by decide +kernel, by decide +kernel, by decide +kernel, by decide +kernel, ⟨_, rfl, _, rfl, by decide +kernel⟩⟩,
   ⟨4095, trd1, svLive, by decide +kernel, by decide +kernel, by decide +kernel, by decide +kernel, ⟨_, rfl, _, rfl, by decide +kernel⟩⟩,
   ⟨4095, ({ trd1 with samples := [⟨5, 255#48, 0, 0⟩] } : Trd), ({ svLive with svc := { svLive.svc with trd := [(4095, some { trd1 with samples := [⟨5, 255#48, 0, 0⟩] })] } }), by decide +kernel, by decide +kernel, by decide +kernel, by decide +kernel, ⟨_, rfl, _, rfl, by decide +kernel⟩⟩⟩

theorem witness_MetersAndAccessPoints :
    (∃ m : Nat, ∃ x : Mtr, ∃ o : EnOpen, ∃ s : State, s.ovl.units = [] ∧ serving s = true ∧ (s.svc.mtr.map (·.1)).Nodup ∧ tget none s.svc.mtr m = some x ∧ x.rec_ = some o ∧ setSystem s s.ovl.set = s.svc.sysCode ∧ ∃ i, i = (svcRead s (fld x.cfg 47 43) (fld x.cfg 39 25))) ∧
    (∃ m : Fin 64, ∃ x : Mtr, ∃ o : EnOpen, ∃ s : State, s.ovl.units = [] ∧ serving s = true ∧ tget none s.svc.mtr m.val = some x ∧ x.rec_ = some o ∧ enDue m.val s = true) ∧
    (∃ m : Nat, ∃ x : Mtr, ∃ s : State, serving s = true ∧ (s.svc.mtr.map (·.1)).Nodup ∧ tget none s.svc.mtr m = some x) ∧
    (∃ n : Fin 256, ∃ a : AccPt, ∃ s : State, s.ovl.units = [] ∧ serving s = true ∧ tget none s.svc.acc n.val = some a ∧ ∃ t, t = (fld a.cfg 47 43) ∧ ∃ i, i = (svcRead s t (fld a.cfg 37 23)) ∧ ∃ w, w = (fld a.cfg 22 8) ∧ i.blind = false ∧ a.pres ≠ some (fld i.value 7 0)) ∧
    (∃ n : Fin 256, ∃ a : AccPt, ∃ s : State, s.ovl.units = [] ∧ serving s = true ∧ tget none s.svc.acc n.val = some a ∧ ∃ t, t = (fld a.cfg 47 43) ∧ ∃ i, i = (svcRead s t (fld a.cfg 37 23)) ∧ ∃ w, w = (fld a.cfg 22 8) ∧ i.blind = false ∧ a.pres ≠ some (fld i.value 7 0) ∧ accReason s t a i = 0 ∧ inPlot s 0 t w = true ∧ tget none s.task.force w = none) ∧
    (∃ n : Fin 256, ∃ a : AccPt, ∃ s : State, s.ovl.units = [] ∧ serving s = true ∧ tget none s.svc.acc n.val = some a ∧ ∃ t, t = (fld a.cfg 47 43) ∧ ∃ i, i = (svcRead s t (fld a.cfg 37 23)) ∧ ∃ w, w = (fld a.cfg 22 8) ∧ i.blind = false ∧ a.pres ≠ some (fld i.value 7 0) ∧ accReason s t a i ≠ 0 ∧ bit a.tim 25 = false) ∧
    (∃ n : Fin 256, ∃ d : Bool, ∃ a : AccPt, ∃ l : Nat, ∃ s : State, serving s = true ∧ tget none s.svc.acc n.val = some a ∧ ((if d then a.deny else a.grant) = some l) ∧ l ≤ s.clk ∧ ∃ t, t = (fld a.cfg 47 43) ∧ ∃ w, w = (fld a.cfg 22 8) ∧ running s t = true ∧ inPlot s 0 t w = true ∧ tget none s.task.force w = none) ∧
    (∃ n : Fin 256, ∃ d : Bool, ∃ a : AccPt, ∃ l : Nat, ∃ s : State, serving s = true ∧ tget none s.svc.acc n.val = some a ∧ ((if d then a.deny else a.grant) = some l) ∧ l ≤ s.clk ∧ ∃ t, t = (fld a.cfg 47 43) ∧ ∃ w, w = (fld a.cfg 22 8) ∧ running s t = true ∧ inPlot s 0 t w = true ∧ tget none s.task.force w = none) :=
  ⟨⟨1, mtr1, open1, svLive, by decide +kernel, by decide +kernel, by decide +kernel, by decide +kernel, ⟨by decide +kernel, by decide +kernel, _, rfl⟩⟩,
   ⟨1, mtr1, open1, ({ svLive with clk := 100000000000 }), by decide +kernel⟩,
   ⟨1, mtr1, svLive, by decide +kernel⟩,
   ⟨255, acc1, svLive, by decide +kernel, by decide +kernel, by decide +kernel, _, rfl, _, rfl, _, rfl, by decide +kernel⟩,
   ⟨255, acc1, svLive, by decide +kernel, by decide +kernel, by decide +kernel, _, rfl, _, rfl, _, rfl, by decide +kernel⟩,
   ⟨255, acc1, ({ svLive with svc := { svLive.svc with list := [] } }), by decide +kernel, by decide +kernel, by decide +kernel, _, rfl, _, rfl, _, rfl, by decide +kernel⟩,
   ⟨255, false, acc1, 2000000000, svLive, by decide +kernel, by decide +kernel, by decide +kernel, by decide +kernel, ⟨_, rfl, _, rfl, by decide +kernel⟩⟩,
   ⟨255, true, acc1, 1, svLive, by decide +kernel, by decide +kernel, by decide +kernel, by decide +kernel, ⟨_, rfl, _, rfl, by decide +kernel⟩⟩⟩

theorem witness_ServiceObjectsAreConfigured :
    (∃ ch : Fin 16, ∃ n : Byte, ∃ q : Word, ∃ s : State, tenantOf s ch = 0 ∧ Changes s ∧ n.toNat < 32 ∧ (∀ f ∈ quotaFields, fld q f.1 f.2.1 ≤ f.2.2.2) ∧ (∀ e ∈ (svcUse s n.toNat).zip (quotas q), e.1 ≤ e.2) ∧ (∀ f ∈ quotaFields, ((List.range 32).map (fun k => fld (wget (wput n.toNat q s.svc.quota) k) f.1 f.2.1)).sum ≤ f.2.2.2) ∧ Asked .mbSvcQuotaSet ch (n :: wB q) s) ∧
    (∃ ch : Fin 16, ∃ k : Byte, ∃ es : List CalEnt, ∃ s : State, Changes s ∧ k.toNat < 2 ∧ es.length ≤ 64 ∧ ∃ enc, enc = (fun (e : CalEnt) => [BitVec.ofNat 8 e.kind] ++ toBe 2 e.year ++ [BitVec.ofNat 8 e.month, BitVec.ofNat 8 e.day] ++ toBe 2 e.days ++ [BitVec.ofNat 8 e.dayType]) ∧ (∀ e ∈ es, calEntry (enc e) = some e) ∧ Asked .mbCalSet ch ([k, BitVec.ofNat 8 es.length] ++ es.flatMap enc) s) ∧
    (∃ ch : Fin 16, ∃ n : Nat, ∃ rd : Nat, ∃ w : Word, ∃ pts : List (List (Nat × Word)), ∃ s : State, Changes s ∧ objOwn Wpg.cfg 512 s.svc.wpg (tenantOf s ch) n = true ∧ rd < 2 ^ 32 ∧ pts.length = 15 ∧ (∀ b ∈ pts, b.length = 8 ∧ ∀ x ∈ b, minOk x.1 = true) ∧ ∃ cfg, cfg = (setBit (setFld (w &&& 0xFFFFFFFE0000#48) 47 43 (tenantOf s ch)) 42 true) ∧ fld cfg 38 33 < 48 ∧ (bit cfg 17 = true → svcOutOk s (tenantOf s ch) (2, n) (fld cfg 32 18) (wpgLanes cfg) = true) ∧ (∀ g : Wpg, g.cfg = cfg → quotaOk { s with svc := { s.svc with wpg := tput none n (some g) s.svc.wpg } } (tenantOf s ch) = true) ∧ (Asked .mbWpgSet ch (toBe 2 n ++ [1#8] ++ wB w ++ toBe 4 rd ++ pts.flatMap (fun b => b.flatMap (fun x => toBe 2 x.1 ++ wB x.2))) s)) ∧
    (∃ ch : Fin 16, ∃ n : Nat, ∃ o : Nat, ∃ k : Byte, ∃ lane : Byte, ∃ h : Byte, ∃ c : Byte, ∃ wk : List Nat, ∃ re : List Nat, ∃ s : State, Changes s ∧ objOwn Wpg.cfg 512 s.svc.wpg (tenantOf s ch) n = true ∧ o < 20480 ∧ k.toNat ≤ 1 ∧ lane.toNat < 48 ∧ h.toNat ≤ 1 ∧ c.toNat ≤ 1 ∧ wk.length = 8 ∧ re.length = 8 ∧ (∀ m ∈ wk ++ re, minOk m = true) ∧ ∃ cfg, cfg = (wd (tenantOf s ch * 2 ^ 43 + k.toNat * 2 ^ 41 + h.toNat * 2 ^ 40 + c.toNat * 2 ^ 39 + lane.toNat * 2 ^ 33 + o * 2 ^ 18 + 2 ^ 17)) ∧ svcOutOk s (tenantOf s ch) (2, n) o (wpgLanes cfg) = true ∧ (∀ g : Wpg, g.cfg = cfg → quotaOk { s with svc := { s.svc with wpg := tput none n (some g) s.svc.wpg } } (tenantOf s ch) = true) ∧ Asked .mbWpgSet ch (toBe 2 n ++ [0#8] ++ toBe 2 o ++ [k, lane, h, c] ++ wk.flatMap (toBe 2) ++ re.flatMap (toBe 2)) s) ∧
    (∃ ch : Fin 16, ∃ n : Nat, ∃ rd : Nat, ∃ w : Word, ∃ lim : Word, ∃ hys : Word, ∃ s : State, Changes s ∧ objOwn Alm.cfg 8192 s.svc.alm (tenantOf s ch) n = true ∧ rd < 2 ^ 32 ∧ ∃ cfg, cfg = (setBit (setFld (w &&& 0xFFFFFFFFFF80#48) 47 43 (tenantOf s ch)) 42 true) ∧ mayRead s (tenantOf s ch) (fld cfg 31 17) = true ∧ (fld cfg 41 40 ≠ 0 ∨ fld cfg 37 32 < 48) ∧ (∀ a : Alm, a.cfg = cfg → quotaOk (putAlm n a s) (tenantOf s ch) = true) ∧ Asked .mbAlmSet ch (toBe 2 n ++ [1#8] ++ wB w ++ wB lim ++ wB hys ++ toBe 4 rd) s) ∧
    (∃ ch : Fin 16, ∃ n : Nat, ∃ o : Nat, ∃ k : Byte, ∃ lane : Byte, ∃ prio : Byte, ∃ lim : Word, ∃ s : State, Changes s ∧ objOwn Alm.cfg 8192 s.svc.alm (tenantOf s ch) n = true ∧ k.toNat ≤ 3 ∧ prio.toNat ≤ 3 ∧ (k.toNat = 0 → lane.toNat < 48) ∧ mayRead s (tenantOf s ch) o = true ∧ ∃ cfg, cfg = (wd (tenantOf s ch * 2 ^ 43 + k.toNat * 2 ^ 40 + prio.toNat * 2 ^ 38 + lane.toNat % 64 * 2 ^ 32 + o * 2 ^ 17)) ∧ (∀ a : Alm, a.cfg = cfg → quotaOk (putAlm n a s) (tenantOf s ch) = true) ∧ Asked .mbAlmSet ch (toBe 2 n ++ [0#8, k] ++ toBe 2 o ++ [lane] ++ wB lim ++ [prio]) s) ∧
    (∃ ch : Fin 16, ∃ n : Nat, ∃ w : Word, ∃ ring : Word, ∃ db : Word, ∃ s : State, Changes s ∧ objOwn Trd.cfg 4096 s.svc.trd (tenantOf s ch) n = true ∧ ∃ cfg, cfg = (setBit (setFld w 47 43 (tenantOf s ch)) 42 true) ∧ ∃ r, r = (setBit ring 47 false) ∧ mayRead s (tenantOf s ch) (fld cfg 32 18) = true ∧ 1 ≤ fld cfg 17 0 ∧ fld cfg 17 0 ≤ 216000 ∧ fld cfg 41 40 ≤ 2 ∧ 1 ≤ fld r 46 32 ∧ fld r 46 32 ≤ 16384 ∧ (bit cfg 39 = true → fld cfg 38 33 < 48) ∧ (∀ c : Trd, c.cfg = cfg → c.ring = r → quotaOk (putTrd n c s) (tenantOf s ch) = true) ∧ Asked .mbTrdSet ch (toBe 2 n ++ [1#8] ++ wB w ++ wB ring ++ wB db) s) ∧
    (∃ ch : Fin 16, ∃ n : Byte, ∃ rd : Nat, ∃ w : Word, ∃ scale : Word, ∃ s : State, tenantOf s ch = 0 ∧ Changes s ∧ n.toNat < 64 ∧ rd < 2 ^ 32 ∧ ∃ cfg, cfg = (setBit (w &&& 0xFFFFFF800000#48) 42 true) ∧ fld cfg 41 40 ≤ 2 ∧ mayRead s (objTenant cfg) (fld cfg 39 25) = true ∧ (fld cfg 41 40 = 1 → mayRead s (objTenant cfg) (fld cfg 39 25 + 1) = true) ∧ Asked .mbEnSet ch ([n, 1#8] ++ wB w ++ wB scale ++ toBe 4 rd) s) ∧
    (∃ ch : Fin 16, ∃ n : Byte, ∃ w : Word, ∃ tim : Word, ∃ s : State, Changes s ∧ objOwn AccPt.cfg 256 s.svc.acc (tenantOf s ch) n.toNat = true ∧ ∃ cfg, cfg = (setBit (setFld (w &&& 0xFFFFFFFFFFFC#48) 47 43 (tenantOf s ch)) 42 true) ∧ ∃ m, m = (tim &&& 0xFFFFFE000000#48) ∧ mayRead s (tenantOf s ch) (fld cfg 37 23) = true ∧ fld cfg 7 2 < 48 ∧ 100 ≤ fld m 47 32 ∧ fld m 47 32 ≤ 60000 ∧ (bit m 25 = true → fld m 31 26 < 48) ∧ svcOutOk s (tenantOf s ch) (6, n.toNat) (fld cfg 22 8) (accLanes cfg m) = true ∧ (∀ a : AccPt, a.cfg = cfg → quotaOk (putAcc n.toNat a s) (tenantOf s ch) = true) ∧ Asked .mbAccSet ch ([n, 1#8] ++ wB w ++ wB tim) s) :=
  ⟨⟨0, (3#8), (wd (256 * 2 ^ 38 + 4 * 2 ^ 29 + 2 * 2 ^ 21 + 4 * 2 ^ 14 + 4 * 2 ^ 7 + 4)), (asks 0x0801 (0 : Fin 16) ((3#8 : Byte) :: wB ((wd (256 * 2 ^ 38 + 4 * 2 ^ 29 + 2 * 2 ^ 21 + 4 * 2 ^ 14 + 4 * 2 ^ 7 + 4)) : Word)) (({ svLive with svc := { svLive.svc with quota := [] } }) : State)), by decide +kernel, ⟨by decide +kernel, by decide +kernel⟩, by decide +kernel, by decide +kernel, by decide +kernel, by decide +kernel, asked_asks rfl⟩,
   ⟨1, (1#8), [⟨1, 2024, 2, 29, 366, 14⟩, ⟨0, 2023, 12, 31, 0, 7⟩, ⟨2, 0, 2, 29, 0, 7⟩], (asks 0x0810 (1 : Fin 16) ([(1#8 : Byte), BitVec.ofNat 8 ([⟨1, 2024, 2, 29, 366, 14⟩, ⟨0, 2023, 12, 31, 0, 7⟩, ⟨2, 0, 2, 29, 0, 7⟩] : List CalEnt).length] ++ ([⟨1, 2024, 2, 29, 366, 14⟩, ⟨0, 2023, 12, 31, 0, 7⟩, ⟨2, 0, 2, 29, 0, 7⟩] : List CalEnt).flatMap (fun (e : CalEnt) => [BitVec.ofNat 8 e.kind] ++ toBe 2 e.year ++ [BitVec.ofNat 8 e.month, BitVec.ofNat 8 e.day] ++ toBe 2 e.days ++ [BitVec.ofNat 8 e.dayType])) svLive), ⟨by decide +kernel, by decide +kernel⟩, by decide +kernel, by decide +kernel, _, rfl, by decide +kernel, asked_asks rfl⟩,
   ⟨1, 511, 0xFFFFFFFF, (wd (2^41 + 0 * 2^33 + 335 * 2^18 + 2^17)), (List.replicate 15 ((0, 5#48) :: (1439, 6#48) :: List.replicate 6 (0xFFFF, 0#48))), (asks 0x0811 (1 : Fin 16) (toBe 2 (511 : Nat) ++ [1#8] ++ wB ((wd (2^41 + 0 * 2^33 + 335 * 2^18 + 2^17)) : Word) ++ toBe 4 (0xFFFFFFFF : Nat) ++ ((List.replicate 15 ((0, 5#48) :: (1439, 6#48) :: List.replicate 6 (0xFFFF, 0#48))) : List (List (Nat × Word))).flatMap (fun b => b.flatMap (fun x => toBe 2 x.1 ++ wB x.2))) svLive), ⟨by decide +kernel, by decide +kernel⟩, by decide +kernel, by decide +kernel, by decide +kernel, by decide +kernel, ⟨_, rfl, by decide +kernel, by decide +kernel, fun g h => (quotaOk_wpg _ _ g { wpg1 with cfg := _ } _ h).trans (by decide +kernel), asked_asks rfl⟩⟩,
   ⟨1, 511, 335, (1#8), (47#8), (1#8), (1#8), [0, 1439, 0xFFFF, 0xFFFF, 0xFFFF, 0xFFFF, 0xFFFF, 0xFFFF], [0, 1439, 0xFFFF, 0xFFFF, 0xFFFF, 0xFFFF, 0xFFFF, 0xFFFF], (asks 0x0811 (1 : Fin 16) (toBe 2 (511 : Nat) ++ [0#8] ++ toBe 2 (335 : Nat) ++ [(1#8 : Byte), (47#8 : Byte), (1#8 : Byte), (1#8 : Byte)] ++ ([0, 1439, 0xFFFF, 0xFFFF, 0xFFFF, 0xFFFF, 0xFFFF, 0xFFFF] : List Nat).flatMap (toBe 2) ++ ([0, 1439, 0xFFFF, 0xFFFF, 0xFFFF, 0xFFFF, 0xFFFF, 0xFFFF] : List Nat).flatMap (toBe 2)) svLive), ⟨by decide +kernel, by decide +kernel⟩, by decide +kernel, by decide +kernel, by decide +kernel, by decide +kernel, ⟨by decide +kernel, by decide +kernel, by decide +kernel, by decide +kernel, by decide +kernel, ⟨_, rfl, by decide +kernel, fun g h => (quotaOk_wpg _ _ g { wpg1 with cfg := _ } _ h).trans (by decide +kernel), asked_asks rfl⟩⟩⟩,
   ⟨1, 8191, 7, (wd (2 * 2^40 + 513 * 2^17)), (1#48), (2#48), (asks 0x0820 (1 : Fin 16) (toBe 2 (8191 : Nat) ++ [1#8] ++ wB ((wd (2 * 2^40 + 513 * 2^17)) : Word) ++ wB (1#48 : Word) ++ wB (2#48 : Word) ++ toBe 4 (7 : Nat)) svLive), ⟨by decide +kernel, by decide +kernel⟩, by decide +kernel, by decide +kernel, _, rfl, by decide +kernel, by decide +kernel, fun a h => (quotaOk_alm _ _ a { alm1 with cfg := _ } _ h).trans (by decide +kernel), asked_asks rfl⟩,
   ⟨1, 0, 513, (0#8), (47#8), (3#8), (9#48), (asks 0x0820 (1 : Fin 16) (toBe 2 (0 : Nat) ++ [0#8, (0#8 : Byte)] ++ toBe 2 (513 : Nat) ++ [(47#8 : Byte)] ++ wB (9#48 : Word) ++ [(3#8 : Byte)]) svLive), ⟨by decide +kernel, by decide +kernel⟩, by decide +kernel, by decide +kernel, by decide +kernel, by decide +kernel, ⟨by decide +kernel, _, rfl, fun a h => (quotaOk_alm _ _ a { alm1 with cfg := _ } _ h).trans (by decide +kernel), asked_asks rfl⟩⟩,
   ⟨1, 0, (wd (2 * 2^40 + 513 * 2^18 + 216000)), (wd (2^32)), (3#48), (asks 0x0830 (1 : Fin 16) (toBe 2 (0 : Nat) ++ [1#8] ++ wB ((wd (2 * 2^40 + 513 * 2^18 + 216000)) : Word) ++ wB ((wd (2^32)) : Word) ++ wB (3#48 : Word)) svLive), ⟨by decide +kernel, by decide +kernel⟩, by decide +kernel, _, rfl, _, rfl, by decide +kernel, by decide +kernel, by decide +kernel, by decide +kernel, ⟨by decide +kernel, by decide +kernel, by decide +kernel, fun c h k => (quotaOk_trd _ _ c { trd1 with cfg := _, ring := _ } _ h k).trans (by decide +kernel), asked_asks rfl⟩⟩,
   ⟨0, (63#8), 5, (wd (1 * 2^40 + 448 * 2^25)), (9#48), (asks 0x0840 (0 : Fin 16) ([(63#8 : Byte), 1#8] ++ wB ((wd (1 * 2^40 + 448 * 2^25)) : Word) ++ wB (9#48 : Word) ++ toBe 4 (5 : Nat)) svLive), by decide +kernel, ⟨by decide +kernel, by decide +kernel⟩, by decide +kernel, by decide +kernel, _, rfl, by decide +kernel, by decide +kernel, by decide +kernel, asked_asks rfl⟩,
   ⟨1, (0#8), (wd (512 * 2^23 + 335*256 + 47 * 4)), (wd (60000 * 2^32 + 2^25 + 47 * 2^26)), (asks 0x0850 (1 : Fin 16) ([(0#8 : Byte), 1#8] ++ wB ((wd (512 * 2^23 + 335*256 + 47 * 4)) : Word) ++ wB ((wd (60000 * 2^32 + 2^25 + 47 * 2^26)) : Word)) svLive), ⟨by decide +kernel, by decide +kernel⟩, by decide +kernel, _, rfl, _, rfl, by decide +kernel, by decide +kernel, by decide +kernel, by decide +kernel, ⟨by decide +kernel, by decide +kernel, fun a h => (quotaOk_acc _ _ a { acc1 with cfg := _ } _ h).trans (by decide +kernel), asked_asks rfl⟩⟩⟩

theorem witness_ServicesAreReadAndOperated :
    (∃ ch : Fin 16, ∃ a : Nat, ∃ k : Byte, ∃ s : State, 1 ≤ k.toNat ∧ k.toNat ≤ 7 ∧ a < 2 ^ 16 ∧ ∃ os, os = (((svcObjects s k.toNat).filter (fun o => decide (a ≤ o.1) && (tenantOf s ch == 0 || o.2.1 == tenantOf s ch || o.2.2.2.testBit (tenantOf s ch)))).take 256) ∧ Asked .mbSvcList ch (k :: toBe 2 a) s) ∧
    (∃ ch : Fin 16, ∃ n : Byte, ∃ o : Int, ∃ s : State, tenantOf s ch = 0 ∧ Changes s ∧ n.toNat < 32 ∧ -720 ≤ o ∧ o ≤ 840 ∧ Asked .mbLocalSet ch (n :: toBe 2 (umod 16 o)) s) ∧
    (∃ ch : Fin 16, ∃ n : Nat, ∃ g : Wpg, ∃ s : State, NotCarried s ch ∧ n < 512 ∧ tget none s.svc.wpg n = some g ∧ (objTenant g.cfg = tenantOf s ch ∨ g.read.testBit (tenantOf s ch) = true) ∧ Asked .mbWpgGet ch (toBe 2 n) s) ∧
    (∃ ch : Fin 16, ∃ first : Nat, ∃ k : Byte, ∃ s : State, NotCarried s ch ∧ first < 2 ^ 16 ∧ k.toNat ≤ 1 ∧ ∃ t, t = (tenantOf s ch) ∧ ∃ as, as = (((s.svc.alm.filterMap (fun e => e.2.map (fun a => (e.1, a)))).filter (fun e => decide (first ≤ e.1) && (objTenant e.2.cfg == t || e.2.read.testBit t) && (k == 0#8 || e.2.unack.testBit t))).take 200) ∧ Asked .mbAlmList ch (toBe 2 first ++ [k]) s) ∧
    (∃ ch : Fin 16, ∃ n : Nat, ∃ trn : Nat, ∃ a : Alm, ∃ s : State, Changes s ∧ n < 8192 ∧ trn < 65536 ∧ tget none s.svc.alm n = some a ∧ (ackSet a).testBit (tenantOf s ch) = true ∧ Asked .mbAlmAck ch ([1#8] ++ toBe 2 n ++ toBe 2 trn) s) ∧
    (∃ ch : Fin 16, ∃ n : Nat, ∃ trn : Nat, ∃ a : Alm, ∃ s : State, Changes s ∧ n < 8192 ∧ trn < 65536 ∧ tget none s.svc.alm n = some a ∧ (ackSet a).testBit (tenantOf s ch) = true ∧ a.trn = trn ∧ Asked .mbAlmAck ch ([1#8] ++ toBe 2 n ++ toBe 2 trn) s) ∧
    (∃ ch : Fin 16, ∃ n : Nat, ∃ trn : Nat, ∃ a : Alm, ∃ s : State, Changes s ∧ n < 8192 ∧ trn < 65536 ∧ tget none s.svc.alm n = some a ∧ (ackSet a).testBit (tenantOf s ch) = true ∧ a.trn ≠ trn ∧ Asked .mbAlmAck ch ([1#8] ++ toBe 2 n ++ toBe 2 trn) s) ∧
    (∃ ch : Fin 16, ∃ n : Nat, ∃ d : Nat, ∃ a : Alm, ∃ s : State, Changes s ∧ n < 8192 ∧ d ≤ 86400 ∧ tget none s.svc.alm n = some a ∧ objTenant a.cfg = tenantOf s ch ∧ Asked .mbAlmShelve ch (toBe 2 n ++ toBe 4 d) s) ∧
    (∃ ch : Fin 16, ∃ n : Nat, ∃ first : Nat, ∃ k : Nat, ∃ c : Trd, ∃ s : State, NotCarried s ch ∧ n < 4096 ∧ first < 2 ^ 48 ∧ 1 ≤ k ∧ k ≤ 250 ∧ tget none s.svc.trd n = some c ∧ (objTenant c.cfg = tenantOf s ch ∨ bit c.ring (tenantOf s ch) = true) ∧ ∃ oldest, oldest = ((c.next + 2 ^ 48 - c.samples.length) % 2 ^ 48) ∧ Asked .mbTrdRead ch (toBe 2 n ++ toBe 6 first ++ toBe 2 k) s) ∧
    (∃ ch : Fin 16, ∃ n : Nat, ∃ first : Nat, ∃ k : Nat, ∃ c : Trd, ∃ s : State, NotCarried s ch ∧ n < 4096 ∧ first < 2 ^ 48 ∧ 1 ≤ k ∧ k ≤ 250 ∧ tget none s.svc.trd n = some c ∧ (objTenant c.cfg = tenantOf s ch ∨ bit c.ring (tenantOf s ch) = true) ∧ ∃ oldest, oldest = ((c.next + 2 ^ 48 - c.samples.length) % 2 ^ 48) ∧ Asked .mbTrdRead ch (toBe 2 n ++ toBe 6 first ++ toBe 2 k) s) ∧
    (∃ ch : Fin 16, ∃ first : Nat, ∃ k : Nat, ∃ s : State, NotCarried s ch ∧ first < 2 ^ 32 ∧ 1 ≤ k ∧ k ≤ 130 ∧ s.silo.soft = [] ∧ s.silo.hard = [] ∧ Asked .mbEnRead ch (toBe 4 first ++ toBe 2 k) s) ∧
    (∃ ch : Fin 16, ∃ k : Nat, ∃ m : Nat, ∃ s : State, tenantOf s ch = 0 ∧ Changes s ∧ k < 16 ∧ m < 2 ^ 32 ∧ Asked .mbEnSysSet ch (toBe 1 k ++ toBe 4 m) s) ∧
    (∃ ch : Fin 16, ∃ m : Byte, ∃ x : Mtr, ∃ s : State, NotCarried s ch ∧ tget none s.svc.mtr m.toNat = some x ∧ objTenant x.cfg = tenantOf s ch ∧ Asked .mbEnTotals ch [m] s) ∧
    (∃ ch : Fin 16, ∃ es : List (Nat × AccEnt), ∃ s : State, Changes s ∧ 1 ≤ es.length ∧ es.length ≤ 200 ∧ (es.map (·.1)).Nodup ∧ (∀ e ∈ es, e.1 < 2 ^ 32 ∧ e.2.groups < 2 ^ 16 ∧ e.2.validTo < 2 ^ 48 ∧ ∀ w l, e.2.prog = some (w, l) → w < 512 ∧ l < 48) ∧ (quotaOk { s with svc := { s.svc with list := es.foldl (fun l e => tput none (accKey (tenantOf s ch) e.1) (some e.2) l) s.svc.list } } (tenantOf s ch) = true) ∧ (Asked .mbAccListPut ch (toBe 2 es.length ++ es.flatMap (fun e => toBe 4 e.1 ++ toBe 2 e.2.groups ++ (match e.2.prog with | none => toBe 2 0xFFFF ++ [0#8] | some (w, l) => toBe 2 w ++ [BitVec.ofNat 8 l]) ++ toBe 6 e.2.validTo)) s)) ∧
    (∃ ch : Fin 16, ∃ ids : List Nat, ∃ s : State, Changes s ∧ 1 ≤ ids.length ∧ ids.length ≤ 1000 ∧ (∀ i ∈ ids, i < 2 ^ 32) ∧ Asked .mbAccListDel ch (toBe 2 ids.length ++ ids.flatMap (toBe 4)) s) :=
  ⟨⟨1, 0, (2#8), (asks 0x0802 (1 : Fin 16) ((2#8 : Byte) :: toBe 2 (0 : Nat)) svLive), by decide +kernel, by decide +kernel, by decide +kernel, _, rfl, asked_asks rfl⟩,
   ⟨0, (31#8), (-720), (asks 0x0803 (0 : Fin 16) ((31#8 : Byte) :: toBe 2 (umod 16 (-720 : Int))) svLive), by decide +kernel, ⟨by decide +kernel, by decide +kernel⟩, by decide +kernel, by decide +kernel, by decide +kernel, asked_asks rfl⟩,
   ⟨1, 5, wpg1, (asks 0x0812 (1 : Fin 16) (toBe 2 (5 : Nat)) svLive), forall_some (by decide +kernel), by decide +kernel, by decide +kernel, by decide +kernel, asked_asks rfl⟩,
   ⟨1, 8191, (0#8), (asks 0x0821 (1 : Fin 16) (toBe 2 (8191 : Nat) ++ [(0#8 : Byte)]) svLive), forall_some (by decide +kernel), by decide +kernel, by decide +kernel, _, rfl, _, rfl, asked_asks rfl⟩,
   ⟨1, 8191, 65535, ({ alm1 with unack := 9 } : Alm), (asks 0x0822 (1 : Fin 16) ([1#8] ++ toBe 2 (8191 : Nat) ++ toBe 2 (65535 : Nat)) (({ svLive with svc := { svLive.svc with alm := [(8191, some { alm1 with unack := 9 })] } }) : State)), ⟨by decide +kernel, by decide +kernel⟩, by decide +kernel, by decide +kernel, by decide +kernel, by decide +kernel, asked_asks rfl⟩,
   ⟨1, 8191, 65535, ({ alm1 with unack := 9 } : Alm), (asks 0x0822 (1 : Fin 16) ([1#8] ++ toBe 2 (8191 : Nat) ++ toBe 2 (65535 : Nat)) (({ svLive with svc := { svLive.svc with alm := [(8191, some { alm1 with unack := 9 })] } }) : State)), ⟨by decide +kernel, by decide +kernel⟩, by decide +kernel, by decide +kernel, by decide +kernel, by decide +kernel, ⟨by decide +kernel, asked_asks rfl⟩⟩,
   ⟨1, 8191, 0, ({ alm1 with unack := 9 } : Alm), (asks 0x0822 (1 : Fin 16) ([1#8] ++ toBe 2 (8191 : Nat) ++ toBe 2 (0 : Nat)) (({ svLive with svc := { svLive.svc with alm := [(8191, some { alm1 with unack := 9 })] } }) : State)), ⟨by decide +kernel, by decide +kernel⟩, by decide +kernel, by decide +kernel, by decide +kernel, by decide +kernel, ⟨by decide +kernel, asked_asks rfl⟩⟩,
   ⟨1, 8191, 86400, alm1, (asks 0x0823 (1 : Fin 16) (toBe 2 (8191 : Nat) ++ toBe 4 (86400 : Nat)) svLive), ⟨by decide +kernel, by decide +kernel⟩, by decide +kernel, by decide +kernel, by decide +kernel, by decide +kernel, asked_asks rfl⟩,
   ⟨1, 4095, 4, 250, trd1, (asks 0x0831 (1 : Fin 16) (toBe 2 (4095 : Nat) ++ toBe 6 (4 : Nat) ++ toBe 2 (250 : Nat)) svLive), forall_some (by decide +kernel), by decide +kernel, by decide +kernel, by decide +kernel, by decide +kernel, ⟨by decide +kernel, by decide +kernel, _, rfl, asked_asks rfl⟩⟩,
   ⟨1, 4095, 0, 1, trd1, (asks 0x0831 (1 : Fin 16) (toBe 2 (4095 : Nat) ++ toBe 6 (0 : Nat) ++ toBe 2 (1 : Nat)) svLive), forall_some (by decide +kernel), by decide +kernel, by decide +kernel, by decide +kernel, by decide +kernel, ⟨by decide +kernel, by decide +kernel, _, rfl, asked_asks rfl⟩⟩,
   ⟨1, 7, 1, (asks 0x0841 (1 : Fin 16) (toBe 4 (7 : Nat) ++ toBe 2 (1 : Nat)) svLive), forall_some (by decide +kernel), by decide +kernel, by decide +kernel, by decide +kernel, by decide +kernel, ⟨by decide +kernel, asked_asks rfl⟩⟩,
   ⟨0, 15, 0xFFFFFFFF, (asks 0x0842 (0 : Fin 16) (toBe 1 (15 : Nat) ++ toBe 4 (0xFFFFFFFF : Nat)) svLive), by decide +kernel, ⟨by decide +kernel, by decide +kernel⟩, by decide +kernel, by decide +kernel, asked_asks rfl⟩,
   ⟨1, (1#8), mtr1, (asks 0x0843 (1 : Fin 16) [(1#8 : Byte)] svLive), forall_some (by decide +kernel), by decide +kernel, by decide +kernel, asked_asks rfl⟩,
   ⟨1, [(5, ⟨0xFFFF, some (511, 47), 9⟩), (0xFFFFFFFF, ⟨1, none, 0⟩)], (asks 0x0851 (1 : Fin 16) (toBe 2 ([(5, ⟨0xFFFF, some (511, 47), 9⟩), (0xFFFFFFFF, ⟨1, none, 0⟩)] : List (Nat × AccEnt)).length ++ ([(5, ⟨0xFFFF, some (511, 47), 9⟩), (0xFFFFFFFF, ⟨1, none, 0⟩)] : List (Nat × AccEnt)).flatMap (fun e => toBe 4 e.1 ++ toBe 2 e.2.groups ++ (match e.2.prog with | none => toBe 2 0xFFFF ++ [0#8] | some (w, l) => toBe 2 w ++ [BitVec.ofNat 8 l]) ++ toBe 6 e.2.validTo)) svLive), ⟨by decide +kernel, by decide +kernel⟩, by decide +kernel, by decide +kernel, by decide +kernel, by simp +arith, by decide +kernel, asked_asks rfl⟩,
   ⟨1, [77, 99], (asks 0x0852 (1 : Fin 16) (toBe 2 ([77, 99] : List Nat).length ++ ([77, 99] : List Nat).flatMap (toBe 4)) svLive), ⟨by decide +kernel, by decide +kernel⟩, by decide +kernel, by decide +kernel, by decide +kernel, asked_asks rfl⟩⟩

theorem witness_FieldDiesServe :
    (∃ d : Fin 4, ∃ s : State, s.ovl.units = [] ∧ fioRuns s = true ∧ s.task.dev ≠ 4) ∧
    (∃ d : Fin 4, ∃ s : State, (getDie s d.val).silent = false ∧ silenceDue s d.val = false) ∧
    (∃ d : Fin 4, ∃ s : State, (getDie s d.val).silent = true ∧ (getDie s d.val).sentArm = true) ∧
    (∃ g : Fin 8, ∃ s : State, fioRuns s = true ∧ ownBuffer s = false ∧ fioInWord s < 20480 ∧ inPlot s 1 0 (fioInWord s) = true ∧ fioInWord s ≠ fioDiagWord s ∧ tget none s.task.force (fioInWord s) = none) ∧
    (∃ n : Fin 4, ∃ s : State, fioRuns s = true ∧ ownBuffer s = false ∧ fioAiWord s + n.val < 20480 ∧ fioAiWord s + n.val ≠ fioDiagWord s ∧ inPlot s 1 0 (fioAiWord s + n.val) = true ∧ tget none s.task.force (fioAiWord s + n.val) = none) ∧
    (∃ n : Fin 4, ∃ m : Word, ∃ s : State, fioRuns s = true ∧ ownBuffer s = false ∧ fioAomWord s + n.val < 20480 ∧ fioAomWord s + n.val ≠ fioDiagWord s ∧ inPlot s 1 0 (fioAomWord s + n.val) = true ∧ tget none s.task.force (fioAomWord s + n.val) = none) ∧
    (∃ d : Fin 4, ∃ s : State, fioRuns s = true ∧ (getDie s d.val).lost = false ∧ (getDie s d.val).reportAt + 2000000 ≤ absNow s) ∧
    (∃ d : Fin 4, ∃ s : State, silenceDue s d.val = true) ∧
    (∃ d : Fin 4, ∃ l : Nat, ∃ s : State, (getDie s d.val).gateStop = some l ∧ (getDie s d.val).serves = true ∧ l + 3000 ≤ absNow s) ∧
    (∃ k : Fin 10, ∃ low : Bool, ∃ s : State, supplyLow s k.val ≠ low) :=
  ⟨⟨0, ({ fioLive with img := { fioLive.img with word := [(448, 0xF0000000000F#48), (449, 0xFFFFFFFFFFFF#48), (576, 0xFFFFFFFFFFF0#48), (577, 0x7FFFFFFFFFFF#48), (578, 0x001000000000#48)] } }), by decide +kernel⟩,
   ⟨0, fioLive, by decide +kernel⟩,
   ⟨2, (updDie 2 (fun x => { x with silent := true, told := true, commit := true, sentArm := true }) fioLive), by decide +kernel⟩,
   ⟨0, ({ fioLive with img := { fioLive.img with word := [(448, 0xF0000000000F#48), (449, 0xFFFFFFFFFFFF#48), (576, 0xFFFFFFFFFFF0#48), (577, 0x7FFFFFFFFFFF#48), (578, 0x001000000000#48)] } }), by decide +kernel⟩,
   ⟨0, ({ fioLive with img := { fioLive.img with word := [(448, 0xF0000000000F#48), (449, 0xFFFFFFFFFFFF#48), (576, 0xFFFFFFFFFFF0#48), (577, 0x7FFFFFFFFFFF#48), (578, 0x001000000000#48)] } }), by decide +kernel⟩,
   ⟨0, (0x123#48), ({ fioLive with img := { fioLive.img with word := [(448, 0xF0000000000F#48), (449, 0xFFFFFFFFFFFF#48), (576, 0xFFFFFFFFFFF0#48), (577, 0x7FFFFFFFFFFF#48), (578, 0x001000000000#48)] } }), by decide +kernel⟩,
   ⟨0, (updDie 0 (fun x => { x with reportAt := 1998000000 }) fioLive), by decide +kernel⟩,
   ⟨0, (updDie 0 (fun x => { x with frameAt := 1998000000 }) fioLive), by decide +kernel⟩,
   ⟨0, 1999997000, (updDie 0 (fun x => { x with gateStop := some 1999997000 }) fioLive), by decide +kernel⟩,
   ⟨1, true, fioLive, by decide +kernel⟩⟩

theorem witness_FieldChannelsReport :
    (∃ n : Fin 32, ∃ v : Bool, ∃ s : State, fcIsIn (getFc s n.val).live = true ∧ (getFc s n.val).input ≠ v) ∧
    (∃ n : Fin 32, ∃ b : Bool, ∃ s : State, fcIsIn (getFc s n.val).live = true ∧ bit (getFc s n.val).live 41 = true ∧ (getFc s n.val).wb ≠ b) ∧
    (∃ n : Fin 32, ∃ th : Bool, ∃ s : State, fcMODE (getFc s n.val).live = 3 ∧ (getFc s n.val).on = true) ∧
    (∃ n : Fin 32, ∃ ok : Bool, ∃ s : State, ∃ c, c = (getFc s n.val) ∧ fcMODE c.live = 3 ∧ c.cmd = true ∧ (c.ovl = true ∨ c.therm = true) ∧ grpBlocked s (n.val / 4) = false ∧ c.faultAt + 100000000 ≤ absNow s) ∧
    (∃ n : Fin 32, ∃ ok : Bool, ∃ s : State, ∃ c, c = (getFc s n.val) ∧ fcMODE c.live = 3 ∧ c.cmd = true ∧ (c.ovl = true ∨ c.therm = true) ∧ grpBlocked s (n.val / 4) = false ∧ c.faultAt + 100000000 ≤ absNow s) ∧
    (∃ n : Fin 32, ∃ o : Bool, ∃ s : State, fcMODE (getFc s n.val).live = 3 ∧ bit (getFc s n.val).live 22 = true ∧ (getDie s (n.val / 16)).serves = true ∧ (getFc s n.val).opn ≠ o) ∧
    (∃ n : Fin 32, ∃ s : State, ∃ c, c = (getFc s n.val) ∧ fcIsBank c.live = true ∧ c.on = true ∧ c.hold = false ∧ fld c.live 20 13 ≠ 0 ∧ c.granted + fld c.live 20 13 * 1000000 ≤ absNow s) ∧
    (∃ g : Fin 8, ∃ s : State, grpOn s g.val ≠ 0 ∧ (getGrp s g.val).trip = false) ∧
    (∃ g : Fin 8, ∃ s : State, (getGrp s g.val).trip = true ∧ (getGrp s g.val).tries < 3 ∧ (getGrp s g.val).tripAt + 1000000000 ≤ absNow s) ∧
    (∃ n : Fin 4, ∃ raw : Word, ∃ s : State, fioRuns s = true ∧ fld (getAi s n.val).live 47 46 ≠ 0) ∧
    (∃ n : Fin 4, ∃ m : Word, ∃ s : State, (getDie s 3).serves = true) ∧
    (∃ n : Fin 4, ∃ m : Word, ∃ s : State, (getDie s 3).serves = true ∧ (getAo s n.val).low = false ∧ m.toInt * 10 + 2 ^ 32 < (aoDrive s n.val).toInt * 10) ∧
    (∃ n : Fin 4, ∃ m : Word, ∃ s : State, (getDie s 3).serves = true ∧ (getAo s n.val).opn = false ∧ m.toInt * 10 < 2 ^ 32 ∧ (mA 36).toInt ≤ (aoDrive s n.val).toInt) ∧
    (∃ n : Fin 4, ∃ f : Bool, ∃ s : State, tget false s.fio.twFault n.val ≠ f) ∧
    (∃ m : Fin 2, ∃ s : State, fioRuns s = true ∧ (∀ l, tget none s.fio.overAt m.val = some l → l + 1000000000 ≤ absNow s)) :=
  ⟨⟨0, true, fioLive, by decide +kernel⟩,
   ⟨0, true, fioLive, by decide +kernel⟩,
   ⟨4, true, fioLive, by decide +kernel⟩,
   ⟨4, true, (updFc 4 (fun x => { x with on := false, ovl := true, faultAt := 1900000000 }) fioLive), _, rfl, by decide +kernel⟩,
   ⟨4, false, (updFc 4 (fun x => { x with on := false, ovl := true, faultAt := 1900000000 }) fioLive), _, rfl, by decide +kernel⟩,
   ⟨16, true, fioLive, by decide +kernel⟩,
   ⟨8, fioLive, _, rfl, by decide +kernel⟩,
   ⟨2, fioLive, by decide +kernel⟩,
   ⟨2, (updGrp 2 (fun x => { x with trip := true, tries := 2, tripAt := 1000000000 }) fioLive), by decide +kernel⟩,
   ⟨0, (0x000300000000#48), fioLive, by decide +kernel⟩,
   ⟨0, (0x000100000000#48), fioLive, by decide +kernel⟩,
   ⟨0, (0x000100000000#48), fioLive, by decide +kernel⟩,
   ⟨0, (0#48), fioLive, by decide +kernel⟩,
   ⟨3, true, fioLive, by decide +kernel⟩,
   ⟨1, fioLive, by decide +kernel, forall_some (by decide +kernel)⟩⟩

theorem witness_FieldCommands :
    (∃ ch : Fin 16, ∃ a : Word, ∃ b : Word, ∃ s : State, tenantOf s ch = 0 ∧ Changes s ∧ ∃ m0, m0 = (a &&& 0xFFFFFFFFFFF8#48) ∧ ∃ m1, m1 = (b &&& 0xFFFFFFFFFFF8#48) ∧ fioBlockOk s 1 (fld m0 47 33) 1 = true ∧ fioBlockOk s 1 (fld m0 32 18) 1 = true ∧ fioBlockOk s 0 (fld m0 17 3) 1 = true ∧ fioBlockOk s 1 (fld m1 47 33) 4 = true ∧ fioBlockOk s 0 (fld m1 32 18) 4 = true ∧ fioBlockOk s 1 (fld m1 17 3) 4 = true ∧ (fioDisjoint ([(fld m0 47 33, 1), (fld m0 32 18, 1), (fld m0 17 3, 1), (fld m1 47 33, 4), (fld m1 32 18, 4), (fld m1 17 3, 4)].filter (fun b => b.1 != 0x7FFF)) = true) ∧ Asked .mbFioMapSet ch (wB a ++ wB b) s) ∧
    (∃ ch : Fin 16, ∃ n : Byte, ∃ w : Word, ∃ s : State, tenantOf s ch = 0 ∧ Changes s ∧ n.toNat < 32 ∧ ∃ v, v = (setBit (w &&& 0xFFFFFFFFFFC0#48) 44 true) ∧ (fcMODE v = fcMODE (getFc s n.toNat).cfg ∨ devMode s = 1) ∧ fcCfgOk v = true ∧ fcGroupOk s n.toNat v = true ∧ Asked .mbFcSet ch ([n, 1#8] ++ wB w) s) ∧
    (∃ ch : Fin 16, ∃ n : Byte, ∃ w : Word, ∃ s : State, tenantOf s ch = 0 ∧ Changes s ∧ n.toNat < 32 ∧ ∃ v, v = (setBit (w &&& 0xFFFFFFFFFFC0#48) 44 true) ∧ (fcMODE v = fcMODE (getFc s n.toNat).cfg ∨ devMode s = 1) ∧ fcCfgOk v = true ∧ fcGroupOk s n.toNat v = true ∧ Asked .mbFcSet ch ([n, 1#8] ++ wB w) s) ∧
    (∃ ch : Fin 16, ∃ n : Byte, ∃ m : Byte, ∃ s : State, tenantOf s ch = 0 ∧ Changes s ∧ n.toNat < 32 ∧ m.toNat ≤ 4 ∧ (fcMODE (fcBasic m.toNat) = fcMODE (getFc s n.toNat).cfg ∨ devMode s = 1) ∧ fcGroupOk s n.toNat (fcBasic m.toNat) = true ∧ Asked .mbFcSet ch [n, 0#8, m] s) ∧
    (∃ ch : Fin 16, ∃ n : Byte, ∃ m : Byte, ∃ s : State, tenantOf s ch = 0 ∧ Changes s ∧ n.toNat < 32 ∧ m.toNat ≤ 4 ∧ (fcMODE (fcBasic m.toNat) = fcMODE (getFc s n.toNat).cfg ∨ devMode s = 1) ∧ fcGroupOk s n.toNat (fcBasic m.toNat) = true ∧ Asked .mbFcSet ch [n, 0#8, m] s) ∧
    (∃ ch : Fin 16, ∃ n : Byte, ∃ m : Byte, ∃ s : State, tenantOf s ch = 0 ∧ Changes s ∧ n.toNat < 32 ∧ m.toNat ≤ 4 ∧ (fcMODE (fcBasic m.toNat) = fcMODE (getFc s n.toNat).cfg ∨ devMode s = 1) ∧ fcGroupOk s n.toNat (fcBasic m.toNat) = true ∧ Asked .mbFcSet ch [n, 0#8, m] s) ∧
    (∃ ch : Fin 16, ∃ g : Byte, ∃ w : Word, ∃ s : State, tenantOf s ch = 0 ∧ Changes s ∧ g.toNat < 8 ∧ 1 ≤ fld w 47 45 ∧ fld w 47 45 ≤ 4 ∧ Asked .mbFcGrpSet ch ([g, 1#8] ++ wB w) s) ∧
    (∃ ch : Fin 16, ∃ d : Byte, ∃ w : Word, ∃ s : State, tenantOf s ch = 0 ∧ Changes s ∧ d.toNat < 4 ∧ 2 ≤ fld w 9 0 ∧ fld w 9 0 ≤ 1000 ∧ Asked .mbFioSilSet ch ([d, 1#8] ++ wB w) s) ∧
    (∃ ch : Fin 16, ∃ n : Byte, ∃ w : Word, ∃ lo : Word, ∃ hi : Word, ∃ s : State, tenantOf s ch = 0 ∧ Changes s ∧ n.toNat < 4 ∧ ∃ v, v = (setBit (w &&& 0xFFFFC0000000#48) 45 true) ∧ (fld v 47 46 = fld (getAi s n.toNat).cfg 47 46 ∨ devMode s = 1) ∧ fld v 47 46 ≤ 2 ∧ fld v 43 30 ≤ 10000 ∧ Asked .mbAiSet ch ([n, 1#8] ++ wB w ++ wB lo ++ wB hi) s) ∧
    (∃ ch : Fin 16, ∃ n : Byte, ∃ w : Word, ∃ lo : Word, ∃ hi : Word, ∃ s : State, tenantOf s ch = 0 ∧ Changes s ∧ n.toNat < 4 ∧ ∃ v, v = (setBit (w &&& 0xFFFFC0000000#48) 45 true) ∧ (fld v 47 46 = fld (getAi s n.toNat).cfg 47 46 ∨ devMode s = 1) ∧ fld v 47 46 ≤ 2 ∧ fld v 43 30 ≤ 10000 ∧ Asked .mbAiSet ch ([n, 1#8] ++ wB w ++ wB lo ++ wB hi) s) ∧
    (∃ ch : Fin 16, ∃ n : Byte, ∃ r : Byte, ∃ s : State, tenantOf s ch = 0 ∧ Changes s ∧ n.toNat < 4 ∧ r.toNat ≤ 2 ∧ (r.toNat = fld (getAi s n.toNat).cfg 47 46 ∨ devMode s = 1) ∧ Asked .mbAiSet ch [n, 0#8, r] s) ∧
    (∃ ch : Fin 16, ∃ n : Byte, ∃ r : Byte, ∃ s : State, tenantOf s ch = 0 ∧ Changes s ∧ n.toNat < 4 ∧ r.toNat ≤ 2 ∧ (r.toNat = fld (getAi s n.toNat).cfg 47 46 ∨ devMode s = 1) ∧ Asked .mbAiSet ch [n, 0#8, r] s) ∧
    (∃ ch : Fin 16, ∃ n : Byte, ∃ w : Word, ∃ s : State, tenantOf s ch = 0 ∧ Changes s ∧ n.toNat < 4 ∧ ∃ v, v = (setBit (w &&& 0xF80000000000#48) 45 true) ∧ (bit v 46 = true ∨ fld v 44 43 ≤ 1) ∧ Asked .mbAoSet ch ([n, 1#8] ++ wB w) s) ∧
    (∃ ch : Fin 16, ∃ n : Byte, ∃ w : Word, ∃ s : State, tenantOf s ch = 0 ∧ Changes s ∧ n.toNat < 4 ∧ ∃ v, v = (setBit (w &&& 0xF80000000000#48) 45 true) ∧ (bit v 46 = true ∨ fld v 44 43 ≤ 1) ∧ Asked .mbAoSet ch ([n, 1#8] ++ wB w) s) ∧
    (∃ ch : Fin 16, ∃ n : Byte, ∃ en : Byte, ∃ r : Byte, ∃ s : State, tenantOf s ch = 0 ∧ Changes s ∧ n.toNat < 4 ∧ en.toNat ≤ 1 ∧ r.toNat ≤ 1 ∧ Asked .mbAoSet ch [n, 0#8, en, r] s) ∧
    (∃ ch : Fin 16, ∃ n : Byte, ∃ w : Word, ∃ s : State, tenantOf s ch = 0 ∧ Changes s ∧ n.toNat < 4 ∧ ∃ v, v = (setBit (w &&& 0xFFC000000000#48) 45 true) ∧ fld v 47 46 ≤ 1 ∧ 1 ≤ fld v 44 38 ∧ fld v 44 38 ≤ 100 ∧ Asked .mbTwElecSet ch ([n, 1#8] ++ wB w) s) ∧
    (∃ ch : Fin 16, ∃ n : Byte, ∃ k : Byte, ∃ s : State, tenantOf s ch = 0 ∧ Changes s ∧ n.toNat < 4 ∧ k.toNat ≤ 1 ∧ Asked .mbTwElecSet ch [n, 0#8, k] s) ∧
    (∃ ch : Fin 16, ∃ s : State, NotCarried s ch ∧ (tenantOf s ch = 0 ∨ mayRead s (tenantOf s ch) (fioDiagWord s) = true) ∧ Asked .mbFioStat ch [] s) ∧
    (∃ ch : Fin 16, ∃ m : Word, ∃ s : State, tenantOf s ch = 0 ∧ Changes s ∧ Asked .mbFioClear ch (wB m) s) :=
  ⟨⟨0, (map0w ||| 7#48), map1w, (asks 0x0C01 (0 : Fin 16) (wB ((map0w ||| 7#48) : Word) ++ wB map1w) fioLive), by decide +kernel, ⟨by decide +kernel, by decide +kernel⟩, _, rfl, _, rfl, by decide +kernel, by decide +kernel, by decide +kernel, by decide +kernel, ⟨by decide +kernel, by decide +kernel, by decide +kernel, asked_asks rfl⟩⟩,
   ⟨0, (31#8), (wd (2 * 2^45 + 200 * 2^33 + 63)), (asks 0x0C02 (0 : Fin 16) ([(31#8 : Byte), 1#8] ++ wB ((wd (2 * 2^45 + 200 * 2^33 + 63)) : Word)) fioLive), by decide +kernel, ⟨by decide +kernel, by decide +kernel⟩, by decide +kernel, _, rfl, by decide +kernel, by decide +kernel, by decide +kernel, asked_asks rfl⟩,
   ⟨0, (31#8), (wd (4 * 2^45 + 2*2^23+ 100 * 2^6)), (asks 0x0C02 (0 : Fin 16) ([(31#8 : Byte), 1#8] ++ wB ((wd (4 * 2^45 + 2*2^23+ 100 * 2^6)) : Word)) (({ fioLive with task := { fioLive.task with dev := 1 } }) : State)), by decide +kernel, ⟨by decide +kernel, by decide +kernel⟩, by decide +kernel, _, rfl, by decide +kernel, by decide +kernel, by decide +kernel, asked_asks rfl⟩,
   ⟨0, (31#8), (4#8), (asks 0x0C02 (0 : Fin 16) [(31#8 : Byte), 0#8, (4#8 : Byte)] (({ fioLive with task := { fioLive.task with dev := 1 } }) : State)), by decide +kernel, ⟨by decide +kernel, by decide +kernel⟩, by decide +kernel, by decide +kernel, by decide +kernel, by decide +kernel, asked_asks rfl⟩,
   ⟨0, (4#8), (3#8), (asks 0x0C02 (0 : Fin 16) [(4#8 : Byte), 0#8, (3#8 : Byte)] fioLive), by decide +kernel, ⟨by decide +kernel, by decide +kernel⟩, by decide +kernel, by decide +kernel, by decide +kernel, by decide +kernel, asked_asks rfl⟩,
   ⟨0, (0#8), (1#8), (asks 0x0C02 (0 : Fin 16) [(0#8 : Byte), 0#8, (1#8 : Byte)] fioLive), by decide +kernel, ⟨by decide +kernel, by decide +kernel⟩, by decide +kernel, by decide +kernel, by decide +kernel, by decide +kernel, asked_asks rfl⟩,
   ⟨0, (7#8), (wd (4 * 2^45 + 77)), (asks 0x0C03 (0 : Fin 16) ([(7#8 : Byte), 1#8] ++ wB ((wd (4 * 2^45 + 77)) : Word)) fioLive), by decide +kernel, ⟨by decide +kernel, by decide +kernel⟩, by decide +kernel, by decide +kernel, by decide +kernel, asked_asks rfl⟩,
   ⟨0, (3#8), (1000#48), (asks 0x0C04 (0 : Fin 16) ([(3#8 : Byte), 1#8] ++ wB (1000#48 : Word)) fioLive), by decide +kernel, ⟨by decide +kernel, by decide +kernel⟩, by decide +kernel, by decide +kernel, by decide +kernel, asked_asks rfl⟩,
   ⟨0, (3#8), (wd (2 * 2^46 + 2^44 + 10000 * 2^30 + 77)), (5#48), (9#48), (asks 0x0C05 (0 : Fin 16) ([(3#8 : Byte), 1#8] ++ wB ((wd (2 * 2^46 + 2^44 + 10000 * 2^30 + 77)) : Word) ++ wB (5#48 : Word) ++ wB (9#48 : Word)) (({ fioLive with task := { fioLive.task with dev := 1 } }) : State)), by decide +kernel, ⟨by decide +kernel, by decide +kernel⟩, by decide +kernel, _, rfl, by decide +kernel, by decide +kernel, by decide +kernel, asked_asks rfl⟩,
   ⟨0, (0#8), (wd (2 * 2^46)), (5#48), (9#48), (asks 0x0C05 (0 : Fin 16) ([(0#8 : Byte), 1#8] ++ wB ((wd (2 * 2^46)) : Word) ++ wB (5#48 : Word) ++ wB (9#48 : Word)) fioLive), by decide +kernel, ⟨by decide +kernel, by decide +kernel⟩, by decide +kernel, _, rfl, by decide +kernel, by decide +kernel, by decide +kernel, asked_asks rfl⟩,
   ⟨0, (3#8), (2#8), (asks 0x0C05 (0 : Fin 16) [(3#8 : Byte), 0#8, (2#8 : Byte)] (({ fioLive with task := { fioLive.task with dev := 1 } }) : State)), by decide +kernel, ⟨by decide +kernel, by decide +kernel⟩, by decide +kernel, by decide +kernel, by decide +kernel, asked_asks rfl⟩,
   ⟨0, (0#8), (2#8), (asks 0x0C05 (0 : Fin 16) [(0#8 : Byte), 0#8, (2#8 : Byte)] fioLive), by decide +kernel, ⟨by decide +kernel, by decide +kernel⟩, by decide +kernel, by decide +kernel, by decide +kernel, asked_asks rfl⟩,
   ⟨0, (3#8), (wd (2^47 + 2^46 + 3 * 2^43)), (asks 0x0C06 (0 : Fin 16) ([(3#8 : Byte), 1#8] ++ wB ((wd (2^47 + 2^46 + 3 * 2^43)) : Word)) fioLive), by decide +kernel, ⟨by decide +kernel, by decide +kernel⟩, by decide +kernel, _, rfl, by decide +kernel, asked_asks rfl⟩,
   ⟨0, (0#8), (wd (2^47 + 2^43)), (asks 0x0C06 (0 : Fin 16) ([(0#8 : Byte), 1#8] ++ wB ((wd (2^47 + 2^43)) : Word)) fioLive), by decide +kernel, ⟨by decide +kernel, by decide +kernel⟩, by decide +kernel, _, rfl, by decide +kernel, asked_asks rfl⟩,
   ⟨0, (3#8), (1#8), (1#8), (asks 0x0C06 (0 : Fin 16) [(3#8 : Byte), 0#8, (1#8 : Byte), (1#8 : Byte)] fioLive), by decide +kernel, ⟨by decide +kernel, by decide +kernel⟩, by decide +kernel, by decide +kernel, by decide +kernel, asked_asks rfl⟩,
   ⟨0, (3#8), (wd (1 * 2^46 + 100 * 2^38)), (asks 0x0C07 (0 : Fin 16) ([(3#8 : Byte), 1#8] ++ wB ((wd (1 * 2^46 + 100 * 2^38)) : Word)) fioLive), by decide +kernel, ⟨by decide +kernel, by decide +kernel⟩, by decide +kernel, _, rfl, by decide +kernel, by decide +kernel, by decide +kernel, asked_asks rfl⟩,
   ⟨0, (3#8), (1#8), (asks 0x0C07 (0 : Fin 16) [(3#8 : Byte), 0#8, (1#8 : Byte)] fioLive), by decide +kernel, ⟨by decide +kernel, by decide +kernel⟩, by decide +kernel, by decide +kernel, asked_asks rfl⟩,
   ⟨0, (asks 0x0C08 (0 : Fin 16) [] fioLive), forall_some (by decide +kernel), by decide +kernel, asked_asks rfl⟩,
   ⟨0, (0xFFFFFFFFFFFF#48), (asks 0x0C09 (0 : Fin 16) (wB (0xFFFFFFFFFFFF#48 : Word)) ((updGrp 2 (fun x => { x with trip := true, tries := 3 }) (updFc 4 (fun x => { x with defer := true }) (updFc 8 (fun x => { x with defer := true }) fioLive))) : State)), by decide +kernel, ⟨by decide +kernel, by decide +kernel⟩, asked_asks rfl⟩⟩

theorem witness_SafetyPathsPermit :
    (∃ rb : SoReadback, ∃ a : SafPath, ∃ s : State, s.saf.state = 5 ∧ ∃ p, p = (pathNo a)) ∧
    (∃ a : SafPath, ∃ j : Fin 16, ∃ h : Bool, ∃ s : State, s.saf.state ≠ 0) ∧
    (∃ a : SafPath, ∃ k : Fin 4, ∃ low : BitVec 16, ∃ o : Bool, ∃ s : State, tpRuns s = true ∧ bit (sfGlob s) (44 + k.val) = true) ∧
    (∃ a : SafPath, ∃ i : Fin 16, ∃ s : State, ∃ x, x = (getInst s (pathNo a) i.val) ∧ s.saf.state = 5 ∧ x.a ≠ x.b ∧ x.st ≠ 5) ∧
    (∃ a : SafPath, ∃ i : Fin 16, ∃ s : State, ∃ x, x = (getInst s (pathNo a) i.val) ∧ s.saf.state = 5 ∧ x.a ≠ x.b ∧ x.st ≠ 5 ∧ siTYPE (sfInst s i.val) = 3 ∧ sfT1 s i.val * 1000000 < sinceChange s (pathNo a) i.val) ∧
    (∃ a : SafPath, ∃ i : Fin 16, ∃ s : State, ∃ x, x = (getInst s (pathNo a) i.val) ∧ s.saf.state = 5 ∧ x.a ≠ x.b ∧ x.st ≠ 5 ∧ siTYPE (sfInst s i.val) = 4 ∧ sfT2 s i.val * 1000000 < sinceChange s (pathNo a) i.val) ∧
    (∃ a : SafPath, ∃ i : Fin 16, ∃ s : State, ∃ x, x = (getInst s (pathNo a) i.val) ∧ s.saf.state = 5 ∧ siTYPE (sfInst s i.val) = 4 ∧ x.st = 1 ∧ x.a = true ∧ x.b = true ∧ testFault s (pathNo a) i.val = false ∧ safClosed s (pathNo a) (siA (sfInst s i.val)) = true ∧ safClosed s (pathNo a) (siB (sfInst s i.val)) = true ∧ sfT1 s i.val * 1000000 ≤ sinceChange s (pathNo a) i.val) ∧
    (∃ a : SafPath, ∃ i : Fin 16, ∃ s : State, s.saf.state = 5 ∧ siTYPE (sfInst s i.val) = 5 ∧ (getInst s (pathNo a) i.val).st = 4 ∧ sfT2 s i.val * 1000000000 ≤ sinceChange s (pathNo a) i.val) ∧
    (∃ a : SafPath, ∃ i : Fin 16, ∃ s : State, s.saf.state = 5 ∧ siTYPE (sfInst s i.val) = 6) ∧
    (∃ a : SafPath, ∃ i : Fin 16, ∃ s : State, s.saf.state = 5 ∧ siTYPE (sfInst s i.val) = 6 ∧ (getInst s (pathNo a) i.val).st = 1 ∧ (getInst s (pathNo a) i.val).motion + sfT2 s i.val * 100000000 ≤ absNow s) ∧
    (∃ a : SafPath, ∃ i : Fin 16, ∃ s : State, s.saf.state = 5 ∧ siTYPE (sfInst s i.val) = 6 ∧ (getInst s (pathNo a) i.val).st ≠ 5 ∧ ((inRange s 0 = false ∧ (getInst s (pathNo a) i.val).a = false ∧ (getInst s (pathNo a) i.val).aAt + 10000000 ≤ absNow s) ∨ (inRange s 1 = false ∧ (getInst s (pathNo a) i.val).b = false ∧ (getInst s (pathNo a) i.val).bAt + 10000000 ≤ absNow s))) ∧
    (∃ a : SafPath, ∃ i : Fin 16, ∃ ax : Fin 2, ∃ e : Nat, ∃ s : State, s.saf.state = 5 ∧ siTYPE (sfInst s i.val) = 6 ∧ (getInst s (pathNo a) i.val).st ≠ 5 ∧ ∃ own, own = (tget {} (getPath s (pathNo a)).axle ax.val) ∧ own.edge = some e ∧ absNow s < e + sfT2 s i.val * 100000000 ∧ own.moved.getLsbD i.val = true ∧ (getPath s (pathNo a)).runAt + 10000000000 ≤ absNow s ∧ (∀ f, (tget {} (getPath s (pathNo a)).axle (1 - ax.val)).edge = some f → f + 10000000000 ≤ absNow s)) ∧
    (∃ a : SafPath, ∃ k : Fin 4, ∃ s : State, s.saf.state = 5 ∧ tget 0 s.saf.fkind k.val = 0 ∧ testDue s (pathNo a) k.val = true) :=
  ⟨⟨⟨1#4, 0#4, 0#4⟩, .processor, safLive, by decide +kernel, _, rfl⟩,
   ⟨.processor, 0, false, safLive, by decide +kernel⟩,
   ⟨.processor, 0, (0#16), false, safLive, by decide +kernel⟩,
   ⟨.processor, 2, (updInst 0 2 (fun x => { x with b := false, st := 1 }) safLive), _, rfl, by decide +kernel⟩,
   ⟨.processor, 2, (updInst 0 2 (fun x => { x with b := false, st := 1 }) safLive), _, rfl, by decide +kernel⟩,
   ⟨.hardwired, 3, (updInst 1 3 (fun x => { x with b := false, st := 1, bAt := 0, aAt := 0 }) ({ safLive with clk := 4000000000 })), _, rfl, by decide +kernel⟩,
   ⟨.processor, 3, (updInst 0 3 (fun x => { x with st := 1 }) safLive), _, rfl, by decide +kernel⟩,
   ⟨.processor, 4, (updInst 0 4 (fun x => { x with aAt := 0 }) ({ safLive with clk := 62000000000 })), by decide +kernel⟩,
   ⟨.hardwired, 5, (updInst 1 5 (fun x => { x with st := 1, motion := 0 }) safLive), by decide +kernel⟩,
   ⟨.hardwired, 5, (updInst 1 5 (fun x => { x with st := 1, motion := 0 }) safLive), by decide +kernel⟩,
   ⟨.processor, 5, (updInst 0 5 (fun x => { x with st := 4, a := false, aAt := 0 }) ({ safLive with fio := { safLive.fio with twFault := [(0, true)] } })), by decide +kernel⟩,
   ⟨.processor, 5, 1, 19999999999, ({ (updPath 0 (fun x => { x with axle := [(1, { edge := some 19999999999, interval := 1000, moved := 0x20#16 })] }) safLive) with clk := 20000000000 }), by decide +kernel, by decide +kernel, by decide +kernel, _, rfl, by decide +kernel, by decide +kernel, by decide +kernel, by decide +kernel, forall_some (by decide +kernel)⟩,
   ⟨.processor, 3, ({ safLive with clk := 20000000000 }), by decide +kernel⟩⟩

theorem witness_SafetyChannelStates :
    (∃ a : SafPath, ∃ f : CrossFrame, ∃ s : State, s.saf.state = 5 ∧ f.crcOk = true) ∧
    (∃ a : SafPath, ∃ s : State, s.saf.state = 5 ∧ (getPath s (pathNo a)).frameAt + 3000000 ≤ absNow s) ∧
    (∃ s : State, s.saf.state = 5) ∧
    (∃ tests : Bool, ∃ agree : Bool, ∃ s : State, s.saf.state = 1 ∧ s.saf.startAt + 30000000 ≤ absNow s) ∧
    (∃ tests : Bool, ∃ agree : Bool, ∃ s : State, s.saf.state = 1 ∧ s.saf.startAt + 30000000 ≤ absNow s ∧ s.saf.mode = 0) ∧
    (∃ tests : Bool, ∃ agree : Bool, ∃ s : State, s.saf.state = 1 ∧ s.saf.startAt + 30000000 ≤ absNow s ∧ s.saf.mode ≠ 0 ∧ s.saf.block = []) ∧
    (∃ tests : Bool, ∃ agree : Bool, ∃ s : State, s.saf.state = 1 ∧ s.saf.startAt + 30000000 ≤ absNow s ∧ s.saf.mode = 1 ∧ s.saf.block ≠ [] ∧ s.saf.check = none ∧ s.saf.startAt + 60000000 ≤ absNow s) ∧
    (∃ tests : Bool, ∃ agree : Bool, ∃ s : State, s.saf.state = 1 ∧ s.saf.startAt + 30000000 ≤ absNow s ∧ s.saf.mode ≠ 0 ∧ s.saf.block ≠ [] ∧ s.saf.check = some (blockCheck s.saf.block) ∧ s.saf.startAt + 170000000 + fld (sfGlob s) 35 28 * 10000000 ≤ absNow s ∧ pulsesPassed s = true) ∧
    (∃ s : State, fioRuns s = true ∧ ownBuffer s = false ∧ fld s.saf.map 47 33 < 20480 ∧ inPlot s 1 0 (fld s.saf.map 47 33) = true ∧ s.saf.told ≠ some (statusWord s) ∧ tget none s.task.force (fld s.saf.map 47 33) = none) ∧
    (∃ e : Nat, ∃ s : State, s.saf.lock = some e ∧ e ≤ absNow s) ∧
    (∃ mv : Nat, ∃ s : State, mv < 740 ∧ s.sup.asleep = false) ∧
    (∃ s : State, s.saf.state = 0 ∧ s.sup.asleep = false) :=
  ⟨⟨.processor, ⟨true, 1000, 0x7FB#16, 0x3F#16, 0, 0⟩, safLive, by decide +kernel⟩,
   ⟨.hardwired, (updPath 1 (fun x => { x with frameAt := 1997000000 }) safLive), by decide +kernel⟩,
   ⟨safLive, by decide +kernel⟩,
   ⟨true, true, ({ safLive with saf := { (safLive).saf with state := 1, startAt := 1000000000, mode := 0 } }), by decide +kernel⟩,
   ⟨true, true, ({ safLive with saf := { (safLive).saf with state := 1, startAt := 1000000000, mode := 0 } }), by decide +kernel⟩,
   ⟨true, false, ({ safLive with saf := { (safLive).saf with state := 1, startAt := 1000000000, block := [] } }), by decide +kernel⟩,
   ⟨false, true, ({ safLive with saf := { (safLive).saf with state := 1, startAt := 1000000000, check := none } }), by decide +kernel⟩,
   ⟨true, true, ({ (updPath 0 (fun x => { x with inp := (List.range 16).map (fun j => (j, { tget {} x.inp j with once := true })) }) (updPath 1 (fun x => { x with inp := (List.range 16).map (fun j => (j, { tget {} x.inp j with once := true })) }) safLive)) with saf := { ((updPath 0 (fun x => { x with inp := (List.range 16).map (fun j => (j, { tget {} x.inp j with once := true })) }) (updPath 1 (fun x => { x with inp := (List.range 16).map (fun j => (j, { tget {} x.inp j with once := true })) }) safLive))).saf with state := 1, startAt := 1000000000 } }), by decide +kernel, by decide +kernel, by decide +kernel, by decide +kernel, ⟨rfl, by decide +kernel⟩⟩,
   ⟨safLive, by decide +kernel⟩,
   ⟨2000000000, ({ safLive with saf := { (safLive).saf with lock := some 2000000000, fails := 3 } }), by decide +kernel⟩,
   ⟨739, safLive, by decide +kernel⟩,
   ⟨({ safLive with saf := { (safLive).saf with state := 0, power := false } }), by decide +kernel⟩⟩

theorem witness_SafetyCommands :
    (∃ ch : Fin 16, ∃ s : State, NotCarried s ch ∧ (tenantOf s ch = 0 ∨ mayRead s (tenantOf s ch) (fld s.saf.map 47 33) = true) ∧ Asked .mbSafetyStatus ch [] s) ∧
    (∃ ch : Fin 16, ∃ s : State, tenantOf s ch = 0 ∧ Changes s ∧ s.saf.mode = 0 ∧ s.saf.state = 2 ∧ Asked .mbSafetySecure ch [1#8] s) ∧
    (∃ ch : Fin 16, ∃ s : State, tenantOf s ch = 0 ∧ Changes s ∧ s.saf.mode = 0 ∧ s.saf.state = 2 ∧ ∃ pw : Bytes, 8 ≤ pw.length ∧ pw.length ≤ 32 ∧ Asked .mbSafetySecure ch ([2#8, BitVec.ofNat 8 pw.length] ++ pw) s) ∧
    (∃ ch : Fin 16, ∃ ws : List Word, ∃ s : State, tenantOf s ch = 0 ∧ Changes s ∧ devMode s = 1 ∧ 3 ≤ s.saf.state ∧ s.saf.state ≤ 6 ∧ ws.length = 55 ∧ blockOk (deriveBlock ws) = true ∧ areaFits s 6 = true ∧ Asked .mbSafetyLoad ch ([1#8] ++ ws.flatMap wB) s) ∧
    (∃ ch : Fin 16, ∃ ws : List Word, ∃ s : State, tenantOf s ch = 0 ∧ Changes s ∧ devMode s = 1 ∧ 3 ≤ s.saf.state ∧ s.saf.state ≤ 6 ∧ ws.length = 55 ∧ blockOk (deriveBlock ws) = true ∧ areaFits s 6 = true ∧ s.saf.mode ≠ 2 ∧ Asked .mbSafetyLoad ch ([1#8] ++ ws.flatMap wB) s) ∧
    (∃ ch : Fin 16, ∃ ws : List Word, ∃ s : State, tenantOf s ch = 0 ∧ Changes s ∧ devMode s = 1 ∧ 3 ≤ s.saf.state ∧ s.saf.state ≤ 6 ∧ ws.length = 55 ∧ blockOk (deriveBlock ws) = true ∧ areaFits s 6 = true ∧ ∃ pw : Bytes, s.saf.mode = 2 ∧ 8 ≤ pw.length ∧ pw.length ≤ 32 ∧ safLocked s = false ∧ passwordOk s pw = true ∧ Asked .mbSafetyLoad ch ([1#8] ++ ws.flatMap wB ++ [BitVec.ofNat 8 pw.length] ++ pw) s) ∧
    (∃ ch : Fin 16, ∃ s : State, tenantOf s ch = 0 ∧ Changes s ∧ s.saf.state = 4 ∧ areaFits s 6 = true ∧ Asked .mbSafetyConfirm ch (toBe 4 (blockCheck s.saf.block)) s) ∧
    (∃ ch : Fin 16, ∃ s : State, tenantOf s ch = 0 ∧ Changes s ∧ (s.saf.state = 5 ∨ s.saf.state = 6) ∧ Asked .mbSafetyRestart ch [] s) ∧
    (∃ ch : Fin 16, ∃ old : Bytes, ∃ new : Bytes, ∃ s : State, tenantOf s ch = 0 ∧ Changes s ∧ s.saf.mode = 2 ∧ 8 ≤ old.length ∧ old.length ≤ 32 ∧ 8 ≤ new.length ∧ new.length ≤ 32 ∧ safLocked s = false ∧ passwordOk s old = true ∧ Asked .mbSafetyPassword ch ([BitVec.ofNat 8 old.length] ++ old ++ [BitVec.ofNat 8 new.length] ++ new) s) ∧
    (∃ ch : Fin 16, ∃ s : State, tenantOf s ch = 0 ∧ NotCarried s ch ∧ Asked .mbSafetyRead ch [] s) ∧
    (∃ ch : Fin 16, ∃ a : Nat, ∃ c : Byte, ∃ s : State, tenantOf s ch = 0 ∧ NotCarried s ch ∧ s.saf.mode = 2 ∧ a < 2 ^ 32 ∧ 1 ≤ c.toNat ∧ c.toNat ≤ 64 ∧ s.silo.soft = [] ∧ s.silo.hard = [] ∧ Asked .mbSafetyLogRead ch (toBe 4 a ++ [c]) s) :=
  ⟨⟨0, (asks 0x0B01 (0 : Fin 16) [] safLive), forall_some (by decide +kernel), by decide +kernel, asked_asks rfl⟩,
   ⟨0, (asks 0x0B02 (0 : Fin 16) [1#8] (({ ({ safLive with task := { safLive.task with dev := 1 } }) with saf := { (({ safLive with task := { safLive.task with dev := 1 } })).saf with mode := 0, state := 2 } }) : State)), by decide +kernel, ⟨by decide +kernel, by decide +kernel⟩, by decide +kernel, by decide +kernel, asked_asks rfl⟩,
   ⟨0, (asks 0x0B02 (0 : Fin 16) ([2#8, BitVec.ofNat 8 ((List.replicate 32 0x41#8) : Bytes).length] ++ ((List.replicate 32 0x41#8) : Bytes)) (({ ({ safLive with task := { safLive.task with dev := 1 } }) with saf := { ({ safLive with task := { safLive.task with dev := 1 } }).saf with mode := 0, state := 2 } }) : State)), by decide +kernel, ⟨by decide +kernel, by decide +kernel⟩, by decide +kernel, by decide +kernel, (List.replicate 32 0x41#8), by decide +kernel, by decide +kernel, asked_asks rfl⟩,
   ⟨0, rawBlk, (asks 0x0B03 (0 : Fin 16) ([1#8] ++ rawBlk.flatMap wB) (({ safLive with task := { safLive.task with dev := 1 } }) : State)), by decide +kernel, ⟨by decide +kernel, by decide +kernel⟩, by decide +kernel, by decide +kernel, by decide +kernel, by decide +kernel, ⟨by decide +kernel, by decide +kernel, asked_asks rfl⟩⟩,
   ⟨0, rawBlk, (asks 0x0B03 (0 : Fin 16) ([1#8] ++ rawBlk.flatMap wB) (({ safLive with task := { safLive.task with dev := 1 } }) : State)), by decide +kernel, ⟨by decide +kernel, by decide +kernel⟩, by decide +kernel, by decide +kernel, by decide +kernel, by decide +kernel, ⟨by decide +kernel, by decide +kernel, by decide +kernel, asked_asks rfl⟩⟩,
   ⟨0, rawBlk, (asks 0x0B03 (0 : Fin 16) ([1#8] ++ rawBlk.flatMap wB ++ [BitVec.ofNat 8 ((List.replicate 8 0x41#8) : Bytes).length] ++ ((List.replicate 8 0x41#8) : Bytes)) (({ ({ safLive with task := { safLive.task with dev := 1 } }) with saf := { ({ safLive with task := { safLive.task with dev := 1 } }).saf with mode := 2, pw := some (List.replicate 16 1#8, pbkdf2 (List.replicate 8 0x41#8) (List.replicate 16 1#8) 16384) } }) : State)), by decide +kernel, ⟨by decide +kernel, by decide +kernel⟩, by decide +kernel, by decide +kernel, by decide +kernel, by decide +kernel, ⟨by decide +kernel, by decide +kernel, (List.replicate 8 0x41#8), by decide +kernel, by decide +kernel, by decide +kernel, by decide +kernel, ⟨passwordOk_asks (salt := List.replicate 16 1#8) rfl, asked_asks rfl⟩⟩⟩,
   ⟨0, (asks 0x0B04 (0 : Fin 16) (toBe 4 (blockCheck (({ ({ safLive with task := { safLive.task with dev := 1 } }) with saf := { (({ safLive with task := { safLive.task with dev := 1 } })).saf with state := 4, check := none } }) : State).saf.block)) (({ ({ safLive with task := { safLive.task with dev := 1 } }) with saf := { (({ safLive with task := { safLive.task with dev := 1 } })).saf with state := 4, check := none } }) : State)), by decide +kernel, ⟨by decide +kernel, by decide +kernel⟩, by decide +kernel, by decide +kernel, (by rw [asks_saf]; exact asked_asks rfl)⟩,
   ⟨0, (asks 0x0B05 (0 : Fin 16) [] (({ safLive with task := { safLive.task with dev := 1 } }) : State)), by decide +kernel, ⟨by decide +kernel, by decide +kernel⟩, by decide +kernel, asked_asks rfl⟩,
   ⟨0, (List.replicate 8 0x41#8), (List.replicate 32 0x42#8), (asks 0x0B06 (0 : Fin 16) ([BitVec.ofNat 8 ((List.replicate 8 0x41#8) : Bytes).length] ++ ((List.replicate 8 0x41#8) : Bytes) ++ [BitVec.ofNat 8 ((List.replicate 32 0x42#8) : Bytes).length] ++ ((List.replicate 32 0x42#8) : Bytes)) (({ ({ safLive with task := { safLive.task with dev := 1 } }) with saf := { ({ safLive with task := { safLive.task with dev := 1 } }).saf with mode := 2, pw := some (List.replicate 16 1#8, pbkdf2 (List.replicate 8 0x41#8) (List.replicate 16 1#8) 16384) } }) : State)), by decide +kernel, ⟨by decide +kernel, by decide +kernel⟩, by decide +kernel, by decide +kernel, by decide +kernel, by decide +kernel, ⟨by decide +kernel, by decide +kernel, passwordOk_asks (salt := List.replicate 16 1#8) rfl, asked_asks rfl⟩⟩,
   ⟨0, (asks 0x0B07 (0 : Fin 16) [] safLive), by decide +kernel, forall_some (by decide +kernel), asked_asks rfl⟩,
   ⟨0, 5, (64#8), (asks 0x0B08 (0 : Fin 16) (toBe 4 (5 : Nat) ++ [(64#8 : Byte)]) (({ ({ safLive with task := { safLive.task with dev := 1 } }) with saf := { (({ safLive with task := { safLive.task with dev := 1 } })).saf with mode := 2, log := [⟨0xFFFFFFFF, 1, 2, 3, 4, 1, 2⟩, ⟨5, 1, 2, 3, 4, 1, 2⟩] } }) : State)), by decide +kernel, forall_some (by decide +kernel), by decide +kernel, by decide +kernel, by decide +kernel, by decide +kernel, ⟨by decide +kernel, by decide +kernel, asked_asks rfl⟩⟩⟩

theorem witness_CanBusEvents :
    (∃ n : Fin 4, ∃ b : Nat, ∃ f : CanFrame, ∃ s : State, ∃ c, c = (getCan s n.val) ∧ (c.bstate = 1 ∨ c.bstate = 2) ∧ (c.buf.map (·.1)).Pairwise (· < ·) ∧ (∀ x, (canBuf c x).state ≠ 2) ∧ (canBuf c b).state = 1 ∧ (canBuf c b).frame = some f ∧ (∀ x g, (canBuf c x).state = 1 → (canBuf c x).frame = some g → arbKey f < arbKey g ∨ (arbKey f = arbKey g ∧ b ≤ x))) ∧
    (∃ n : Fin 4, ∃ b : Nat, ∃ f : CanFrame, ∃ s : State, ∃ c, c = (getCan s n.val) ∧ (c.bstate = 1 ∨ c.bstate = 2) ∧ (c.buf.map (·.1)).Pairwise (· < ·) ∧ (∀ x, (canBuf c x).state ≠ 2) ∧ (canBuf c b).state = 1 ∧ (canBuf c b).frame = some f ∧ (∀ x g, (canBuf c x).state = 1 → (canBuf c x).frame = some g → arbKey f < arbKey g ∨ (arbKey f = arbKey g ∧ b ≤ x))) ∧
    (∃ n : Fin 4, ∃ b : Nat, ∃ d : Nat, ∃ f : CanFrame, ∃ s : State, ∃ c, c = (getCan s n.val) ∧ ∃ v, v = (canBuf c b) ∧ (c.bstate = 1 ∨ c.bstate = 2) ∧ c.tec ≤ 255 ∧ (c.buf.map (·.1)).Pairwise (· < ·) ∧ v.state = 2 ∧ (∀ x, (canBuf c x).state = 2 → x = b) ∧ v.frame = some f) ∧
    (∃ n : Fin 4, ∃ b : Nat, ∃ d : Nat, ∃ f : CanFrame, ∃ s : State, ∃ c, c = (getCan s n.val) ∧ ∃ v, v = (canBuf c b) ∧ (c.bstate = 1 ∨ c.bstate = 2) ∧ c.tec ≤ 255 ∧ (c.buf.map (·.1)).Pairwise (· < ·) ∧ v.state = 2 ∧ (∀ x, (canBuf c x).state = 2 → x = b) ∧ v.frame = some f) ∧
    (∃ n : Fin 4, ∃ b : Nat, ∃ d : Nat, ∃ f : CanFrame, ∃ s : State, ∃ c, c = (getCan s n.val) ∧ ∃ v, v = (canBuf c b) ∧ (c.bstate = 1 ∨ c.bstate = 2) ∧ c.tec ≤ 255 ∧ (c.buf.map (·.1)).Pairwise (· < ·) ∧ v.state = 2 ∧ (∀ x, (canBuf c x).state = 2 → x = b) ∧ v.frame = some f) ∧
    (∃ n : Fin 4, ∃ b : Nat, ∃ d : Nat, ∃ f : CanFrame, ∃ s : State, ∃ c, c = (getCan s n.val) ∧ ∃ v, v = (canBuf c b) ∧ (c.bstate = 1 ∨ c.bstate = 2) ∧ c.tec ≤ 255 ∧ (c.buf.map (·.1)).Pairwise (· < ·) ∧ v.state = 2 ∧ (∀ x, (canBuf c x).state = 2 → x = b) ∧ v.frame = some f ∧ ∃ l : Fin 7, ∃ exempt : Bool, ∃ k : Nat, True) ∧
    (∃ n : Fin 4, ∃ b : Fin 64, ∃ s : State, (canBuf (getCan s n.val) b.val).state = 1 ∧ (canBuf (getCan s n.val) b.val).starved = false ∧ (canBuf (getCan s n.val) b.val).since + 1000000000 ≤ s.clk) ∧
    (∃ n : Fin 4, ∃ s : State, (getCan s n.val).bstate = 3 ∧ bit (getCan s n.val).ctl 40 = true ∧ (getCan s n.val).boffAt + fld (getCan s n.val).ctl 39 32 * 10000000 ≤ s.clk) ∧
    (∃ n : Fin 4, ∃ s : State, (getCan s n.val).bstate = 4) ∧
    (∃ n : Fin 4, ∃ f : CanFrame, ∃ ago : Nat, ∃ s : State, ∃ c, c = (getCan s n.val) ∧ (c.bstate = 1 ∨ c.bstate = 2) ∧ (f.fd = true → bit c.ctl 46 = true) ∧ moduleOf s n.val f = none) ∧
    (∃ n : Fin 4, ∃ f : CanFrame, ∃ ago : Nat, ∃ s : State, ∃ c, c = (getCan s n.val) ∧ (c.bstate = 1 ∨ c.bstate = 2) ∧ (f.fd = true → bit c.ctl 46 = true) ∧ moduleOf s n.val f = none) ∧
    (∃ n : Fin 4, ∃ f : CanFrame, ∃ ago : Nat, ∃ s : State, ∃ c, c = (getCan s n.val) ∧ (c.bstate = 1 ∨ c.bstate = 2) ∧ (f.fd = true → bit c.ctl 46 = true) ∧ moduleOf s n.val f = none) ∧
    (∃ n : Fin 4, ∃ f : CanFrame, ∃ ago : Nat, ∃ s : State, ∃ c, c = (getCan s n.val) ∧ (c.bstate = 1 ∨ c.bstate = 2) ∧ (f.fd = true → bit c.ctl 46 = true) ∧ moduleOf s n.val f = none ∧ ∃ i, i < 128 ∧ bit (wget c.flt i) 17 = true ∧ fltMatch (wget c.flt i) f = true ∧ (∀ j, j < i → bit (wget c.flt j) 17 = false ∨ fltMatch (wget c.flt j) f = false) ∧ ∃ q, q = (fld (wget c.flt i) 16 13) ∧ (tget [] c.rx q).length < queCount c q) ∧
    (∃ n : Fin 4, ∃ f : CanFrame, ∃ ago : Nat, ∃ s : State, ∃ c, c = (getCan s n.val) ∧ (c.bstate = 1 ∨ c.bstate = 2) ∧ (f.fd = true → bit c.ctl 46 = true) ∧ moduleOf s n.val f = none ∧ ∃ i, i < 128 ∧ bit (wget c.flt i) 17 = true ∧ fltMatch (wget c.flt i) f = true ∧ (∀ j, j < i → bit (wget c.flt j) 17 = false ∨ fltMatch (wget c.flt j) f = false) ∧ ∃ q, q = (fld (wget c.flt i) 16 13) ∧ (tget [] c.rx q).length < queCount c q) ∧
    (∃ n : Fin 4, ∃ f : CanFrame, ∃ ago : Nat, ∃ s : State, ∃ c, c = (getCan s n.val) ∧ (c.bstate = 1 ∨ c.bstate = 2) ∧ (f.fd = true → bit c.ctl 46 = true) ∧ moduleOf s n.val f = none ∧ (∀ i, i < 128 → bit (wget c.flt i) 17 = false ∨ fltMatch (wget c.flt i) f = false)) ∧
    (∃ n : Fin 4, ∃ f : CanFrame, ∃ ago : Nat, ∃ s : State, ((getCan s n.val).bstate = 1 ∨ (getCan s n.val).bstate = 2) ∧ f.fd = true ∧ bit (getCan s n.val).ctl 46 = false) ∧
    (∃ n : Fin 4, ∃ l : Fin 7, ∃ k : Nat, ∃ ago : Nat, ∃ s : State, ((getCan s n.val).bstate = 1 ∨ (getCan s n.val).bstate = 2)) ∧
    (∃ n : Fin 4, ∃ l : Fin 7, ∃ k : Nat, ∃ ago : Nat, ∃ s : State, ((getCan s n.val).bstate = 1 ∨ (getCan s n.val).bstate = 2)) ∧
    (∃ n : Fin 4, ∃ ctl : Word, ∃ nbt : Word, ∃ dbt : Word, ∃ s : State, (∀ u ∈ s.ovl.units, u.kind ≠ 2 ∨ u.key ≠ 4000 + n.val) ∧ (getCan s n.val).next = some (ctl, nbt, dbt) ∧ (((getCan s n.val).buf.any (fun e => e.2.state == 2)) = false)) ∧
    (∃ n : Fin 4, ∃ ctl : Word, ∃ nbt : Word, ∃ dbt : Word, ∃ s : State, (∀ u ∈ s.ovl.units, u.kind ≠ 2 ∨ u.key ≠ 4000 + n.val) ∧ (getCan s n.val).next = some (ctl, nbt, dbt) ∧ (((getCan s n.val).buf.any (fun e => e.2.state == 2)) = false)) :=
  ⟨⟨0, 17, (fr 0x100 0), canLive, _, rfl, by decide +kernel, by decide +kernel, tget_forall (P := fun _ (v : CanBuf) => v.state ≠ 2) (fun _ => by decide) (by decide +kernel), by decide +kernel, by decide +kernel, tget_forall (P := fun x (v : CanBuf) => ∀ g, v.state = 1 → v.frame = some g → arbKey (fr 0x100 0) < arbKey g ∨ (arbKey (fr 0x100 0) = arbKey g ∧ 17 ≤ x)) (fun _ _ h => by cases h) (fun e he g _ => forall_some (P := fun g => arbKey (fr 0x100 0) < arbKey g ∨ (arbKey (fr 0x100 0) = arbKey g ∧ 17 ≤ e.1)) (by revert e; decide +kernel) g)⟩,
   ⟨3, 17, (fr 0x100 0), canLive, _, rfl, by decide +kernel, by decide +kernel, tget_forall (P := fun _ (v : CanBuf) => v.state ≠ 2) (fun _ => by decide) (by decide +kernel), by decide +kernel, by decide +kernel, tget_forall (P := fun x (v : CanBuf) => ∀ g, v.state = 1 → v.frame = some g → arbKey (fr 0x100 0) < arbKey g ∨ (arbKey (fr 0x100 0) = arbKey g ∧ 17 ≤ x)) (fun _ _ h => by cases h) (fun e he g _ => forall_some (P := fun g => arbKey (fr 0x100 0) < arbKey g ∨ (arbKey (fr 0x100 0) = arbKey g ∧ 17 ≤ e.1)) (by revert e; decide +kernel) g)⟩,
   ⟨0, 16, 55, (fr 0x101 8), (updCan 0 (fun c => { c with buf := tupd {} 16 (fun v => { v with state := 2, attempts := 3  }) c.buf  }) canLive), _, rfl, _, rfl, by decide +kernel, by decide +kernel, by decide +kernel, by decide +kernel, ⟨tget_forall (P := fun x (v : CanBuf) => v.state = 2 → x = 16) (fun _ h => by cases h) (by decide +kernel), by decide +kernel⟩⟩,
   ⟨3, 16, 55, (fr 0x101 8), (updCan 3 (fun c => { c with buf := tupd {} 16 (fun v => { v with state := 2, attempts := 3  }) c.buf  }) canLive), _, rfl, _, rfl, by decide +kernel, by decide +kernel, by decide +kernel, by decide +kernel, ⟨tget_forall (P := fun x (v : CanBuf) => v.state = 2 → x = 16) (fun _ h => by cases h) (by decide +kernel), by decide +kernel⟩⟩,
   ⟨0, 16, 55, (fr 0x101 8), (updCan 0 (fun c => { c with buf := tupd {} 16 (fun v => { v with state := 2, attempts := 3 , cancel := true }) c.buf  }) canLive), _, rfl, _, rfl, by decide +kernel, by decide +kernel, by decide +kernel, by decide +kernel, ⟨tget_forall (P := fun x (v : CanBuf) => v.state = 2 → x = 16) (fun _ h => by cases h) (by decide +kernel), by decide +kernel⟩⟩,
   ⟨0, 16, 55, (fr 0x101 8), (updCan 0 (fun c => { c with buf := tupd {} 16 (fun v => { v with state := 2, attempts := 3  }) c.buf  }) canLive), _, rfl, _, rfl, by decide +kernel, by decide +kernel, by decide +kernel, by decide +kernel, ⟨tget_forall (P := fun x (v : CanBuf) => v.state = 2 → x = 16) (fun _ h => by cases h) (by decide +kernel), by decide +kernel, 1, false, 0, trivial⟩⟩,
   ⟨0, 16, canLive, by decide +kernel⟩,
   ⟨0, (updCan 0 (fun c => { c with bstate := 3, boffAt := 1900000000 }) canLive), by decide +kernel⟩,
   ⟨0, (updCan 0 (fun c => { c with bstate := 4, tec := 256 }) canLive), by decide +kernel⟩,
   ⟨0, (fr 0x7FF 3), 5, canLive, _, rfl, by decide +kernel⟩,
   ⟨0, (frx 0x1234567 3), 5, canLive, _, rfl, by decide +kernel⟩,
   ⟨3, (fr 0x6FF 3), 5, (updCan 3 (fun c => { c with noMatch := 255, rec_ := 0 }) canLive), _, rfl, by decide +kernel⟩,
   ⟨0, (fr 0x7FF 3), 5, canLive, _, rfl, by decide +kernel, by decide +kernel, by decide +kernel, 5, by decide +kernel, by decide +kernel, by decide +kernel, by decide +kernel, ⟨_, rfl, by decide +kernel⟩⟩,
   ⟨0, (frx 0x1234567 3), 5, canLive, _, rfl, by decide +kernel, by decide +kernel, by decide +kernel, 127, by decide +kernel, by decide +kernel, by decide +kernel, by decide +kernel, ⟨_, rfl, by decide +kernel⟩⟩,
   ⟨3, (fr 0x6FF 3), 5, (updCan 3 (fun c => { c with noMatch := 255, rec_ := 0 }) canLive), _, rfl, by decide +kernel⟩,
   ⟨0, (fr 0x7FF 3), 5, (updCan 0 (fun c => { c with pxe := 255, ctl := setBit c.ctl 46 false }) canLive), by decide +kernel⟩,
   ⟨0, 6, 0, 5, (updCan 0 (fun c => { c with rec_ := 255 }) canLive), by decide +kernel⟩,
   ⟨3, 0, 1, 5, canLive, by decide +kernel⟩,
   ⟨0, (wd (2^47)), (5#48), (6#48), (updCan 0 (fun c => { c with next := some (wd (2^47), 5#48, 6#48) }) canLive), by decide +kernel⟩,
   ⟨3, (0#48), (5#48), (6#48), (updCan 3 (fun c => { c with next := some (0#48, 5#48, 6#48) }) canLive), by decide +kernel⟩⟩

theorem witness_CanCommands :
    (∃ ch : Fin 16, ∃ n : Byte, ∃ ctl : Word, ∃ nbt : Word, ∃ dbt : Word, ∃ s : State, tenantOf s ch = 0 ∧ Changes s ∧ n.toNat < 4 ∧ ∃ c, c = (setBit (ctl &&& 0xFFFF80000000#48) 45 true) ∧ ∃ a, a = (nbt &&& 0xFFFFFFFFC000#48) ∧ ∃ d, d = (dbt &&& 0xFFFFFFFC0000#48) ∧ canTimingOk c a d = true ∧ Asked .mbCanSet ch ([n, 1#8] ++ wB ctl ++ wB nbt ++ wB dbt) s) ∧
    (∃ ch : Fin 16, ∃ n : Byte, ∃ en : Byte, ∃ rate : Nat, ∃ data : Nat, ∃ nbt : Word, ∃ dbt : Word, ∃ s : State, tenantOf s ch = 0 ∧ Changes s ∧ n.toNat < 4 ∧ en.toNat ≤ 1 ∧ nominalOf rate = some nbt ∧ dataOf data = some dbt ∧ Asked .mbCanSet ch ([n, 0#8, en] ++ toBe 2 rate ++ toBe 2 data) s) ∧
    (∃ ch : Fin 16, ∃ n : Byte, ∃ q : Byte, ∃ w : Word, ∃ x : Word, ∃ s : State, tenantOf s ch = 0 ∧ Changes s ∧ n.toNat < 4 ∧ q.toNat < 16 ∧ ∃ c, c = (getCan s n.toNat) ∧ ∃ c', c' = ({ c with que := wput q.toNat (canQueWord q.toNat w) c.que }) ∧ ∃ a, a = (queFirst c' q.toNat) ∧ ∃ k, k = (queCount c' q.toNat) ∧ k ≤ 128 ∧ (a + k ≤ (if queDir c' q.toNat then 64 else 128)) ∧ fld x 7 6 ≠ 3 ∧ (fld x 12 8 ≤ (if bit x 18 then 29 else 11)) ∧ (∀ j, j < 16 → j ≠ q.toNat → queDir c' j = queDir c' q.toNat → overlap a k (queFirst c' j) (queCount c' j) = false) ∧ Asked .mbCanQueueSet ch ([n, q] ++ wB w ++ wB x) s) ∧
    (∃ ch : Fin 16, ∃ n : Byte, ∃ q : Byte, ∃ w : Word, ∃ x : Word, ∃ s : State, tenantOf s ch = 0 ∧ Changes s ∧ n.toNat < 4 ∧ q.toNat < 16 ∧ ∃ c, c = (getCan s n.toNat) ∧ ∃ c', c' = ({ c with que := wput q.toNat (canQueWord q.toNat w) c.que }) ∧ ∃ a, a = (queFirst c' q.toNat) ∧ ∃ k, k = (queCount c' q.toNat) ∧ k ≤ 128 ∧ (a + k ≤ (if queDir c' q.toNat then 64 else 128)) ∧ fld x 7 6 ≠ 3 ∧ (fld x 12 8 ≤ (if bit x 18 then 29 else 11)) ∧ (∀ j, j < 16 → j ≠ q.toNat → queDir c' j = queDir c' q.toNat → overlap a k (queFirst c' j) (queCount c' j) = false) ∧ Asked .mbCanQueueSet ch ([n, q] ++ wB w ++ wB x) s) ∧
    (∃ ch : Fin 16, ∃ n : Byte, ∃ q : Byte, ∃ w : Word, ∃ x : Word, ∃ s : State, tenantOf s ch = 0 ∧ Changes s ∧ n.toNat < 4 ∧ q.toNat < 16 ∧ ∃ c, c = (getCan s n.toNat) ∧ ∃ c', c' = ({ c with que := wput q.toNat (canQueWord q.toNat w) c.que }) ∧ ∃ a, a = (queFirst c' q.toNat) ∧ ∃ k, k = (queCount c' q.toNat) ∧ k ≤ 128 ∧ (a + k ≤ (if queDir c' q.toNat then 64 else 128)) ∧ fld x 7 6 ≠ 3 ∧ (fld x 12 8 ≤ (if bit x 18 then 29 else 11)) ∧ (∀ j, j < 16 → j ≠ q.toNat → queDir c' j = queDir c' q.toNat → overlap a k (queFirst c' j) (queCount c' j) = false) ∧ Asked .mbCanQueueSet ch ([n, q] ++ wB w ++ wB x) s) ∧
    (∃ ch : Fin 16, ∃ n : Byte, ∃ f : Byte, ∃ ws : List Word, ∃ s : State, tenantOf s ch = 0 ∧ Changes s ∧ n.toNat < 4 ∧ 1 ≤ ws.length ∧ f.toNat + ws.length ≤ 128 ∧ (∀ w ∈ ws, fld w 7 6 ≠ 3 ∧ fld w 12 8 ≤ (if bit w 18 then 29 else 11) ∧ queDir (getCan s n.toNat) (fld w 16 13) = false ∧ queUsed (getCan s n.toNat) (fld w 16 13) = true) ∧ Asked .mbCanFilterSet ch ([n, f, BitVec.ofNat 8 ws.length] ++ ws.flatMap wB) s) ∧
    (∃ ch : Fin 16, ∃ n : Byte, ∃ f : Byte, ∃ ws : List Word, ∃ s : State, tenantOf s ch = 0 ∧ Changes s ∧ n.toNat < 4 ∧ 1 ≤ ws.length ∧ f.toNat + ws.length ≤ 128 ∧ (∀ w ∈ ws, fld w 7 6 ≠ 3 ∧ fld w 12 8 ≤ (if bit w 18 then 29 else 11) ∧ queDir (getCan s n.toNat) (fld w 16 13) = false ∧ queUsed (getCan s n.toNat) (fld w 16 13) = true) ∧ Asked .mbCanFilterSet ch ([n, f, BitVec.ofNat 8 ws.length] ++ ws.flatMap wB) s) ∧
    (∃ ch : Fin 16, ∃ n : Byte, ∃ q : Byte, ∃ fs : List CanFrame, ∃ s : State, Changes s ∧ ownsQueue s (tenantOf s ch) n.toNat q.toNat = true ∧ ∃ c, c = (getCan s n.toNat) ∧ queDir c q.toNat = true ∧ 1 ≤ fs.length ∧ fs.length ≤ 32 ∧ (∀ f ∈ fs, fltMatch (wget c.qtx q.toNat) f = true ∧ canTxOk (bit c.ctl 46) f = true ∧ f.esi = false ∧ f.rtr = false) ∧ ∃ free, free = (canFree c q.toNat) ∧ fs.length ≤ free.length ∧ (Asked .mbCanTx ch ([n, q, BitVec.ofNat 8 fs.length] ++ fs.flatMap (fun f => toBe 4 (idWord f) ++ [BitVec.ofNat 8 (b2n f.fd + b2n f.brs * 2), BitVec.ofNat 8 f.data.length] ++ f.data)) s)) ∧
    (∃ ch : Fin 16, ∃ n : Byte, ∃ q : Byte, ∃ h : Nat, ∃ s : State, Changes s ∧ ownsQueue s (tenantOf s ch) n.toNat q.toNat = true ∧ h < 2 ^ 32 ∧ ∃ c, c = (getCan s n.toNat) ∧ ∃ hit, hit = (fun (v : CanBuf) => v.queue == q.toNat && (h == 0xFFFFFFFF || v.handle == some h)) ∧ queDir c q.toNat = true ∧ (c.buf.map (·.1)).Pairwise (· < ·) ∧ Asked .mbCanTxCancel ch ([n, q] ++ toBe 4 h) s) ∧
    (∃ ch : Fin 16, ∃ n : Byte, ∃ q : Byte, ∃ h : Nat, ∃ s : State, NotCarried s ch ∧ ownsQueue s (tenantOf s ch) n.toNat q.toNat = true ∧ h < 2 ^ 32 ∧ queDir (getCan s n.toNat) q.toNat = true ∧ Asked .mbCanTxResults ch ([n, q] ++ toBe 4 h ++ [1#8]) s) ∧
    (∃ ch : Fin 16, ∃ n : Byte, ∃ q : Byte, ∃ h : Nat, ∃ s : State, NotCarried s ch ∧ ownsQueue s (tenantOf s ch) n.toNat q.toNat = true ∧ h < 2 ^ 32 ∧ queDir (getCan s n.toNat) q.toNat = true ∧ ∃ r, ((tget [] (getCan s n.toNat).res q.toNat).find? (fun r => r.handle == h) = some r) ∧ Asked .mbCanTxResults ch ([n, q] ++ toBe 4 h ++ [1#8]) s) ∧
    (∃ ch : Fin 16, ∃ n : Byte, ∃ q : Byte, ∃ h : Nat, ∃ s : State, NotCarried s ch ∧ ownsQueue s (tenantOf s ch) n.toNat q.toNat = true ∧ h < 2 ^ 32 ∧ queDir (getCan s n.toNat) q.toNat = true ∧ (∀ r ∈ tget [] (getCan s n.toNat).res q.toNat, r.handle ≠ h) ∧ (∀ e ∈ (getCan s n.toNat).buf, e.2.handle ≠ some h) ∧ Asked .mbCanTxResults ch ([n, q] ++ toBe 4 h ++ [1#8]) s) ∧
    (∃ ch : Fin 16, ∃ n : Byte, ∃ q : Byte, ∃ k : Byte, ∃ s : State, Changes s ∧ ownsQueue s (tenantOf s ch) n.toNat q.toNat = true ∧ 1 ≤ k.toNat ∧ k.toNat ≤ 52 ∧ queDir (getCan s n.toNat) q.toNat = false ∧ ∃ l, l = (tget [] (getCan s n.toNat).rx q.toNat) ∧ Asked .mbCanRxRead ch [n, q, k] s) ∧
    (∃ ch : Fin 16, ∃ n : Byte, ∃ s : State, tenantOf s ch = 0 ∧ n.toNat < 4 ∧ ∃ c, c = (getCan s n.toNat) ∧ Asked .mbCanStat ch [n] s) ∧
    (∃ ch : Fin 16, ∃ n : Byte, ∃ s : State, tenantOf s ch = 0 ∧ Changes s ∧ n.toNat < 4 ∧ (getCan s n.toNat).bstate = 3 ∧ Asked .mbCanRecover ch [n] s) ∧
    (∃ ch : Fin 16, ∃ n : Byte, ∃ s : State, tenantOf s ch = 0 ∧ Changes s ∧ n.toNat < 4) ∧
    (∃ ch : Fin 16, ∃ n : Byte, ∃ s : State, tenantOf s ch = 0 ∧ Changes s ∧ n.toNat < 4 ∧ ∃ k : Byte, k.toNat ≤ 3 ∧ Asked .mbCanWakeSet ch [n, 0#8, k] s) ∧
    (∃ ch : Fin 16, ∃ n : Byte, ∃ s : State, tenantOf s ch = 0 ∧ Changes s ∧ n.toNat < 4 ∧ ∃ w : Word, ∃ i : Word, ∃ d : Word, 5 ≤ fld w 44 38 ∧ fld w 44 38 ≤ 50 ∧ 35 ≤ fld w 37 28 ∧ fld w 37 28 ≤ 500 ∧ fld w 26 23 ≤ 8 ∧ (fld i 12 8 ≤ (if bit i 18 then 29 else 11)) ∧ Asked .mbCanWakeSet ch ([n, 1#8] ++ wB w ++ wB i ++ wB d) s) :=
  ⟨⟨0, (3#8), (wd (2 ^ 47 + 2 ^ 46 + 3 * 2 ^ 41 + 2 ^ 40 + 10 * 2 ^ 32 + 2 ^ 31 + 55)), (nbtOf 1 127 32 32), (dbtOf 1 29 10 10 1 30), (asks 0x0D01 (0 : Fin 16) ([(3#8 : Byte), 1#8] ++ wB ((wd (2 ^ 47 + 2 ^ 46 + 3 * 2 ^ 41 + 2 ^ 40 + 10 * 2 ^ 32 + 2 ^ 31 + 55)) : Word) ++ wB ((nbtOf 1 127 32 32) : Word) ++ wB ((dbtOf 1 29 10 10 1 30) : Word)) canLive), by decide +kernel, ⟨by decide +kernel, by decide +kernel⟩, by decide +kernel, _, rfl, _, rfl, _, rfl, by decide +kernel, asked_asks rfl⟩,
   ⟨0, (0#8), (1#8), 1000, 8000, (nbtOf 1 63 16 16), (dbtOf 1 6 3 3 1 7), (asks 0x0D01 (0 : Fin 16) ([(0#8 : Byte), 0#8, (1#8 : Byte)] ++ toBe 2 (1000 : Nat) ++ toBe 2 (8000 : Nat)) canLive), by decide +kernel, ⟨by decide +kernel, by decide +kernel⟩, by decide +kernel, by decide +kernel, by decide +kernel, by decide +kernel, asked_asks rfl⟩,
   ⟨0, (0#8), (15#8), (quew 1 3 56 8), (wd (0x1FFFFFFF * 2^19 + 2^18 + 29 * 2^8 + 2 * 2^6)), (asks 0x0D02 (0 : Fin 16) ([(0#8 : Byte), (15#8 : Byte)] ++ wB ((quew 1 3 56 8) : Word) ++ wB ((wd (0x1FFFFFFF * 2^19 + 2^18 + 29 * 2^8 + 2 * 2^6)) : Word)) canLive), by decide +kernel, ⟨by decide +kernel, by decide +kernel⟩, by decide +kernel, by decide +kernel, _, rfl, _, rfl, _, rfl, _, rfl, by decide +kernel, by decide +kernel, by decide +kernel, by decide +kernel, ⟨by decide +kernel, asked_asks rfl⟩⟩,
   ⟨0, (0#8), (2#8), (quew 1 3 16 48), (wd (11 * 2^8 + 63)), (asks 0x0D02 (0 : Fin 16) ([(0#8 : Byte), (2#8 : Byte)] ++ wB ((quew 1 3 16 48) : Word) ++ wB ((wd (11 * 2^8 + 63)) : Word)) canLive), by decide +kernel, ⟨by decide +kernel, by decide +kernel⟩, by decide +kernel, by decide +kernel, _, rfl, _, rfl, _, rfl, _, rfl, by decide +kernel, by decide +kernel, by decide +kernel, by decide +kernel, ⟨by decide +kernel, asked_asks rfl⟩⟩,
   ⟨0, (0#8), (0#8), (quew 1 3 0 0), (wd (11 * 2^8 + 63)), (asks 0x0D02 (0 : Fin 16) ([(0#8 : Byte), (0#8 : Byte)] ++ wB ((quew 1 3 0 0) : Word) ++ wB ((wd (11 * 2^8 + 63)) : Word)) canLive), by decide +kernel, ⟨by decide +kernel, by decide +kernel⟩, by decide +kernel, by decide +kernel, _, rfl, _, rfl, _, rfl, _, rfl, by decide +kernel, by decide +kernel, by decide +kernel, by decide +kernel, ⟨by decide +kernel, asked_asks rfl⟩⟩,
   ⟨0, (0#8), (127#8), [wd (3 * 2^13 + 0xFFF * 2^36 + 2^18 + 29 * 2^8)], (asks 0x0D03 (0 : Fin 16) ([(0#8 : Byte), (127#8 : Byte), BitVec.ofNat 8 ([wd (3 * 2^13 + 0xFFF * 2^36 + 2^18 + 29 * 2^8)] : List Word).length] ++ ([wd (3 * 2^13 + 0xFFF * 2^36 + 2^18 + 29 * 2^8)] : List Word).flatMap wB) canLive), by decide +kernel, ⟨by decide +kernel, by decide +kernel⟩, by decide +kernel, by decide +kernel, by decide +kernel, (by intro w hw; simp only [List.mem_cons, List.not_mem_nil, or_false] at hw; rcases hw with rfl | rfl <;> exact ⟨by decide +kernel, by decide +kernel, by decide +kernel, by decide +kernel⟩), asked_asks rfl⟩,
   ⟨0, (0#8), (0#8), [wd (3 * 2^13 + 63 + 2^6), wd (0 * 2^13 + 2^17)], (asks 0x0D03 (0 : Fin 16) ([(0#8 : Byte), (0#8 : Byte), BitVec.ofNat 8 ([wd (3 * 2^13 + 63 + 2^6), wd (0 * 2^13 + 2^17)] : List Word).length] ++ ([wd (3 * 2^13 + 63 + 2^6), wd (0 * 2^13 + 2^17)] : List Word).flatMap wB) canLive), by decide +kernel, ⟨by decide +kernel, by decide +kernel⟩, by decide +kernel, by decide +kernel, by decide +kernel, (by intro w hw; simp only [List.mem_cons, List.not_mem_nil, or_false] at hw; rcases hw with rfl | rfl <;> exact ⟨by decide +kernel, by decide +kernel, by decide +kernel, by decide +kernel⟩), asked_asks rfl⟩,
   ⟨1, (0#8), (2#8), [fr 0x100 64, fr 0x7FF 0, ⟨0, false, false, false, false, false, [1#8]⟩], (asks 0x0D04 (1 : Fin 16) ([(0#8 : Byte), (2#8 : Byte), BitVec.ofNat 8 ([fr 0x100 64, fr 0x7FF 0, ⟨0, false, false, false, false, false, [1#8]⟩] : List CanFrame).length] ++ ([fr 0x100 64, fr 0x7FF 0, ⟨0, false, false, false, false, false, [1#8]⟩] : List CanFrame).flatMap (fun f => toBe 4 (idWord f) ++ [BitVec.ofNat 8 (b2n f.fd + b2n f.brs * 2), BitVec.ofNat 8 f.data.length] ++ f.data)) ((updCan 0 (fun c => { c with nextHandle := 0xFFFFFFFF }) canLive) : State)), ⟨by decide +kernel, by decide +kernel⟩, by decide +kernel, _, rfl, by decide +kernel, by decide +kernel, by decide +kernel, by decide +kernel, ⟨_, rfl, by decide +kernel, asked_asks rfl⟩⟩,
   ⟨1, (0#8), (2#8), 0xFFFFFFFF, (asks 0x0D05 (1 : Fin 16) ([(0#8 : Byte), (2#8 : Byte)] ++ toBe 4 (0xFFFFFFFF : Nat)) ((updCan 0 (fun c => { c with buf := tupd {} 16 (fun v => { v with state := 2, attempts := 3  }) c.buf  }) canLive) : State)), ⟨by decide +kernel, by decide +kernel⟩, by decide +kernel, by decide +kernel, _, rfl, _, rfl, by decide +kernel, by decide +kernel, asked_asks rfl⟩,
   ⟨1, (0#8), (2#8), 7, (asks 0x0D06 (1 : Fin 16) ([(0#8 : Byte), (2#8 : Byte)] ++ toBe 4 (7 : Nat) ++ [1#8]) canLive), forall_some (by decide +kernel), by decide +kernel, by decide +kernel, by decide +kernel, asked_asks rfl⟩,
   ⟨1, (0#8), (2#8), 7, (asks 0x0D06 (1 : Fin 16) ([(0#8 : Byte), (2#8 : Byte)] ++ toBe 4 (7 : Nat) ++ [1#8]) canLive), forall_some (by decide +kernel), by decide +kernel, by decide +kernel, by decide +kernel, (⟨7,3,1,55⟩), by decide +kernel, asked_asks rfl⟩,
   ⟨1, (0#8), (2#8), 99, (asks 0x0D06 (1 : Fin 16) ([(0#8 : Byte), (2#8 : Byte)] ++ toBe 4 (99 : Nat) ++ [1#8]) canLive), forall_some (by decide +kernel), by decide +kernel, by decide +kernel, by decide +kernel, by decide +kernel, ⟨by decide +kernel, asked_asks rfl⟩⟩,
   ⟨1, (0#8), (3#8), (1#8), (asks 0x0D07 (1 : Fin 16) [(0#8 : Byte), (3#8 : Byte), (1#8 : Byte)] canLive), ⟨by decide +kernel, by decide +kernel⟩, by decide +kernel, by decide +kernel, by decide +kernel, by decide +kernel, ⟨_, rfl, asked_asks rfl⟩⟩,
   ⟨0, (3#8), (asks 0x0D08 (0 : Fin 16) [(3#8 : Byte)] ((updCan 3 (fun c => { c with lec := 3, pxe := 5, noMatch := 9, rec_ := 255 }) canLive) : State)), by decide +kernel, by decide +kernel, _, rfl, asked_asks rfl⟩,
   ⟨0, (0#8), (asks 0x0D09 (0 : Fin 16) [(0#8 : Byte)] ((updCan 0 (fun c => { c with bstate := 3 }) canLive) : State)), by decide +kernel, ⟨by decide +kernel, by decide +kernel⟩, by decide +kernel, by decide +kernel, asked_asks rfl⟩,
   ⟨0, (3#8), canLive, by decide +kernel, ⟨by decide +kernel, by decide +kernel⟩, by decide +kernel⟩,
   ⟨0, (3#8), (asks 0x0D0A (0 : Fin 16) [(3#8 : Byte), 0#8, (3#8 : Byte)] canLive), by decide +kernel, ⟨by decide +kernel, by decide +kernel⟩, by decide +kernel, (3#8), by decide +kernel, asked_asks rfl⟩,
   ⟨0, (3#8), (asks 0x0D0A (0 : Fin 16) ([(3#8 : Byte), 1#8] ++ wB ((wd (5 * 2^38 + 35 * 2^28 + 8 * 2^23)) : Word) ++ wB ((wd (2^18 + 29 * 2^8)) : Word) ++ wB (9#48 : Word)) canLive), by decide +kernel, ⟨by decide +kernel, by decide +kernel⟩, by decide +kernel, (wd (5 * 2^38 + 35 * 2^28 + 8 * 2^23)), (wd (2^18 + 29 * 2^8)), (9#48), by decide +kernel, by decide +kernel, by decide +kernel, by decide +kernel, ⟨by decide +kernel, by decide +kernel, asked_asks rfl⟩⟩⟩

theorem witness_EthernetReceives :
    (∃ n : Fin 3, ∃ f : EthFrame, ∃ s : State, ∃ m, m = (getMac s n.val) ∧ ∃ s', s' = (updMac n.val (fun m => { m with nRx := m.nRx + 1 }) s) ∧ macOn m = true ∧ m.up = true ∧ (f.fcsOk = false ∨ f.len < 64 ∨ (if f.vlan.isSome then 1522 else 1518) < f.len ∨ vlanOk m f.vlan = false ∨ (isIp f.body = true ∧ f.ipOk = false) ∨ f.body ∈ [.tcp, .ipv6, .igmp, .passFrame, .other])) ∧
    (∃ n : Fin 3, ∃ f : EthFrame, ∃ s : State, ∃ m, m = (getMac s n.val) ∧ ∃ s', s' = (updMac n.val (fun m => { m with nRx := m.nRx + 1 }) s) ∧ macOn m = true ∧ m.up = true ∧ (f.fcsOk = false ∨ f.len < 64 ∨ (if f.vlan.isSome then 1522 else 1518) < f.len ∨ vlanOk m f.vlan = false ∨ (isIp f.body = true ∧ f.ipOk = false) ∨ f.body ∈ [.tcp, .ipv6, .igmp, .passFrame, .other])) ∧
    (∃ n : Fin 3, ∃ f : EthFrame, ∃ s : State, ∃ m, m = (getMac s n.val) ∧ ∃ s', s' = (updMac n.val (fun m => { m with nRx := m.nRx + 1 }) s) ∧ macOn m = true ∧ m.up = true ∧ (f.fcsOk = false ∨ f.len < 64 ∨ (if f.vlan.isSome then 1522 else 1518) < f.len ∨ vlanOk m f.vlan = false ∨ (isIp f.body = true ∧ f.ipOk = false) ∨ f.body ∈ [.tcp, .ipv6, .igmp, .passFrame, .other])) ∧
    (∃ n : Fin 3, ∃ f : EthFrame, ∃ s : State, ∃ m, m = (getMac s n.val) ∧ ∃ s', s' = (updMac n.val (fun m => { m with nRx := m.nRx + 1 }) s) ∧ macOn m = true ∧ m.up = true ∧ f.fcsOk = true ∧ 64 ≤ f.len ∧ (f.len ≤ (if f.vlan.isSome then 1522 else 1518)) ∧ vlanOk m f.vlan = true ∧ f.ipOk = true ∧ ∃ hw, ∃ ip, f.body = .arpRequest hw ip (macIp m) ∧ (ip ≠ macIp m ∨ hw = m.mac.toNat)) ∧
    (∃ n : Fin 3, ∃ f : EthFrame, ∃ s : State, ∃ m, m = (getMac s n.val) ∧ ∃ s', s' = (updMac n.val (fun m => { m with nRx := m.nRx + 1 }) s) ∧ macOn m = true ∧ m.up = true ∧ f.fcsOk = true ∧ 64 ≤ f.len ∧ (f.len ≤ (if f.vlan.isSome then 1522 else 1518)) ∧ vlanOk m f.vlan = true ∧ f.ipOk = true ∧ ∃ hw, ∃ ip, f.body = .arpRequest hw ip (macIp m) ∧ (ip ≠ macIp m ∨ hw = m.mac.toNat)) ∧
    (∃ n : Fin 3, ∃ f : EthFrame, ∃ s : State, ∃ m, m = (getMac s n.val) ∧ ∃ s', s' = (updMac n.val (fun m => { m with nRx := m.nRx + 1 }) s) ∧ macOn m = true ∧ m.up = true ∧ f.fcsOk = true ∧ 64 ≤ f.len ∧ (f.len ≤ (if f.vlan.isSome then 1522 else 1518)) ∧ vlanOk m f.vlan = true ∧ f.ipOk = true ∧ ∃ hw, ∃ ip, f.body = .arpRequest hw ip (macIp m) ∧ (ip ≠ macIp m ∨ hw = m.mac.toNat)) ∧
    (∃ n : Fin 3, ∃ f : EthFrame, ∃ s : State, ∃ m, m = (getMac s n.val) ∧ ∃ s', s' = (updMac n.val (fun m => { m with nRx := m.nRx + 1 }) s) ∧ macOn m = true ∧ m.up = true ∧ f.fcsOk = true ∧ 64 ≤ f.len ∧ (f.len ≤ (if f.vlan.isSome then 1522 else 1518)) ∧ vlanOk m f.vlan = true ∧ f.ipOk = true ∧ ∃ hw, ∃ ip, ∃ x, ∃ w, f.body = .arpReply hw ip x ∧ ip ≠ macIp m ∧ tget none m.wait ip = some w) ∧
    (∃ n : Fin 3, ∃ f : EthFrame, ∃ s : State, ∃ m, m = (getMac s n.val) ∧ ∃ s', s' = (updMac n.val (fun m => { m with nRx := m.nRx + 1 }) s) ∧ macOn m = true ∧ m.up = true ∧ f.fcsOk = true ∧ 64 ≤ f.len ∧ (f.len ≤ (if f.vlan.isSome then 1522 else 1518)) ∧ vlanOk m f.vlan = true ∧ f.ipOk = true ∧ ∃ g, ∃ r, ∃ d, ∃ h, f.body = .fragment g ∧ g.dst = macIp m ∧ m.reasm = [r] ∧ r.src = g.src ∧ r.ident = g.ident ∧ r.parts = [h] ∧ h.offset = 0 ∧ h.more = true ∧ h.data.length = g.offset ∧ h.data.length ≠ 0 ∧ g.more = false ∧ g.data ≠ [] ∧ h.data ++ g.data = d ∧ d.length ≤ 4096 ∧ boot s = false ∧ s.sup.sleeping = false) ∧
    (∃ n : Fin 3, ∃ f : EthFrame, ∃ s : State, ∃ m, m = (getMac s n.val) ∧ ∃ s', s' = (updMac n.val (fun m => { m with nRx := m.nRx + 1 }) s) ∧ macOn m = true ∧ m.up = true ∧ f.fcsOk = true ∧ 64 ≤ f.len ∧ (f.len ≤ (if f.vlan.isSome then 1522 else 1518)) ∧ vlanOk m f.vlan = true ∧ f.ipOk = true ∧ ∃ src, ∃ d, ∃ hop, f.body = .icmpEcho src (macIp m) d ∧ d.length ≤ 1472 ∧ (m.echoes < 64 ∨ m.echoAt + 1000000000 ≤ s.clk) ∧ nextHop s n.val src = some hop) ∧
    (∃ n : Fin 3, ∃ f : EthFrame, ∃ s : State, ∃ m, m = (getMac s n.val) ∧ ∃ s', s' = (updMac n.val (fun m => { m with nRx := m.nRx + 1 }) s) ∧ macOn m = true ∧ m.up = true ∧ f.fcsOk = true ∧ 64 ≤ f.len ∧ (f.len ≤ (if f.vlan.isSome then 1522 else 1518)) ∧ vlanOk m f.vlan = true ∧ f.ipOk = true ∧ ∃ src, ∃ d, ∃ hop, f.body = .icmpEcho src (macIp m) d ∧ d.length ≤ 1472 ∧ (m.echoes < 64 ∨ m.echoAt + 1000000000 ≤ s.clk) ∧ nextHop s n.val src = some hop) ∧
    (∃ n : Fin 3, ∃ f : EthFrame, ∃ s : State, ∃ m, m = (getMac s n.val) ∧ ∃ s', s' = (updMac n.val (fun m => { m with nRx := m.nRx + 1 }) s) ∧ macOn m = true ∧ m.up = true ∧ f.fcsOk = true ∧ 64 ≤ f.len ∧ (f.len ≤ (if f.vlan.isSome then 1522 else 1518)) ∧ vlanOk m f.vlan = true ∧ f.ipOk = true ∧ ∃ src, ∃ d, ∃ hop, f.body = .icmpEcho src (macIp m) d ∧ d.length ≤ 1472 ∧ (m.echoes < 64 ∨ m.echoAt + 1000000000 ≤ s.clk) ∧ nextHop s n.val src = some hop) ∧
    (∃ n : Fin 3, ∃ f : EthFrame, ∃ s : State, ∃ m, m = (getMac s n.val) ∧ ∃ s', s' = (updMac n.val (fun m => { m with nRx := m.nRx + 1 }) s) ∧ macOn m = true ∧ m.up = true ∧ f.fcsOk = true ∧ 64 ≤ f.len ∧ (f.len ≤ (if f.vlan.isSome then 1522 else 1518)) ∧ vlanOk m f.vlan = true ∧ f.ipOk = true ∧ f.body = .icmpOther) ∧
    (∃ n : Fin 3, ∃ f : EthFrame, ∃ s : State, ∃ m, m = (getMac s n.val) ∧ ∃ s', s' = (updMac n.val (fun m => { m with nRx := m.nRx + 1 }) s) ∧ macOn m = true ∧ m.up = true ∧ f.fcsOk = true ∧ 64 ≤ f.len ∧ (f.len ≤ (if f.vlan.isSome then 1522 else 1518)) ∧ vlanOk m f.vlan = true ∧ f.ipOk = true ∧ ∃ d, f.body = .udp d ∧ d.dst = macIp m ∧ d.dport = s.eth.port ∧ boot s = false ∧ s.sup.sleeping = false) ∧
    (∃ n : Fin 3, ∃ f : EthFrame, ∃ s : State, ∃ m, m = (getMac s n.val) ∧ ∃ s', s' = (updMac n.val (fun m => { m with nRx := m.nRx + 1 }) s) ∧ macOn m = true ∧ m.up = true ∧ f.fcsOk = true ∧ 64 ≤ f.len ∧ (f.len ≤ (if f.vlan.isSome then 1522 else 1518)) ∧ vlanOk m f.vlan = true ∧ f.ipOk = true ∧ ∃ d, f.body = .udp d ∧ (d.dst ≠ macIp m ∨ d.dport ≠ s.eth.port)) ∧
    (∃ n : Fin 3, ∃ f : EthFrame, ∃ s : State, ∃ m, m = (getMac s n.val) ∧ ∃ s', s' = (updMac n.val (fun m => { m with nRx := m.nRx + 1 }) s) ∧ macOn m = true ∧ m.up = true ∧ f.fcsOk = true ∧ 64 ≤ f.len ∧ (f.len ≤ (if f.vlan.isSome then 1522 else 1518)) ∧ vlanOk m f.vlan = true ∧ f.ipOk = true ∧ ∃ d, f.body = .udp d ∧ (d.dst ≠ macIp m ∨ d.dport ≠ s.eth.port)) ∧
    (∃ n : Fin 3, ∃ f : EthFrame, ∃ s : State, ∃ m, m = (getMac s n.val) ∧ ∃ s', s' = (updMac n.val (fun m => { m with nRx := m.nRx + 1 }) s) ∧ macOn m = true ∧ m.up = true ∧ f.fcsOk = true ∧ 64 ≤ f.len ∧ (f.len ≤ (if f.vlan.isSome then 1522 else 1518)) ∧ vlanOk m f.vlan = true ∧ f.ipOk = true ∧ ∃ t, f.body = .trdp t) ∧
    (∃ n : Fin 3, ∃ f : EthFrame, ∃ s : State, ∃ m, m = (getMac s n.val) ∧ ∃ s', s' = (updMac n.val (fun m => { m with nRx := m.nRx + 1 }) s) ∧ macOn m = true ∧ m.up = true ∧ f.fcsOk = true ∧ 64 ≤ f.len ∧ (f.len ≤ (if f.vlan.isSome then 1522 else 1518)) ∧ vlanOk m f.vlan = true ∧ f.ipOk = true ∧ ∃ t, f.body = .trdp t) ∧
    (∃ n : Fin 3, ∃ f : EthFrame, ∃ s : State, ∃ m, m = (getMac s n.val) ∧ ∃ s', s' = (updMac n.val (fun m => { m with nRx := m.nRx + 1 }) s) ∧ macOn m = true ∧ m.up = true ∧ f.fcsOk = true ∧ 64 ≤ f.len ∧ (f.len ≤ (if f.vlan.isSome then 1522 else 1518)) ∧ vlanOk m f.vlan = true ∧ f.ipOk = true ∧ ∃ l2, ∃ p, f.body = .ptp l2 p ∧ ptpOn s = true ∧ ptpMac s = n.val) ∧
    (∃ n : Fin 3, ∃ f : EthFrame, ∃ s : State, ∃ m, m = (getMac s n.val) ∧ ∃ s', s' = (updMac n.val (fun m => { m with nRx := m.nRx + 1 }) s) ∧ macOn m = true ∧ m.up = true ∧ f.fcsOk = true ∧ 64 ≤ f.len ∧ (f.len ≤ (if f.vlan.isSome then 1522 else 1518)) ∧ vlanOk m f.vlan = true ∧ f.ipOk = true ∧ ∃ l2, ∃ p, f.body = .ptp l2 p ∧ (ptpOn s = false ∨ ptpMac s ≠ n.val)) ∧
    (∃ n : Fin 3, ∃ f : EthFrame, ∃ s : State, ∃ m, m = (getMac s n.val) ∧ ∃ s', s' = (updMac n.val (fun m => { m with nRx := m.nRx + 1 }) s) ∧ macOn m = true ∧ m.up = true ∧ f.fcsOk = true ∧ 64 ≤ f.len ∧ (f.len ≤ (if f.vlan.isSome then 1522 else 1518)) ∧ vlanOk m f.vlan = true ∧ f.ipOk = true ∧ ∃ g, f.body = .fragment g ∧ g.dst = macIp m ∧ (m.reasm.find? (fun r => r.src == g.src && r.ident == g.ident) = none) ∧ g.offset = 0 ∧ g.dport = s.eth.port ∧ m.reasm.length < 4) ∧
    (∃ n : Fin 3, ∃ up : Bool, ∃ mbps : Nat, ∃ s : State, ((getMac s n.val).up ≠ up ∨ (getMac s n.val).mbps ≠ mbps)) ∧
    (∃ n : Fin 3, ∃ up : Bool, ∃ mbps : Nat, ∃ s : State, ((getMac s n.val).up ≠ up ∨ (getMac s n.val).mbps ≠ mbps)) ∧
    (∃ n : Fin 3, ∃ up : Bool, ∃ mbps : Nat, ∃ s : State, ((getMac s n.val).up ≠ up ∨ (getMac s n.val).mbps ≠ mbps)) ∧
    (∃ n : Fin 3, ∃ ip : Nat, ∃ w : ArpWait, ∃ s : State, tget none (getMac s n.val).wait ip = some w ∧ w.firstAt + w.sent * 100000000 ≤ s.clk) ∧
    (∃ n : Fin 3, ∃ ip : Nat, ∃ w : ArpWait, ∃ s : State, tget none (getMac s n.val).wait ip = some w ∧ w.firstAt + w.sent * 100000000 ≤ s.clk ∧ w.sent < 3) ∧
    (∃ n : Fin 3, ∃ ip : Nat, ∃ w : ArpWait, ∃ s : State, tget none (getMac s n.val).wait ip = some w ∧ w.firstAt + w.sent * 100000000 ≤ s.clk ∧ 3 ≤ w.sent) ∧
    (∃ n : Fin 3, ∃ ip : Nat, ∃ a : ArpEnt, ∃ s : State, tget none (getMac s n.val).arp ip = some a ∧ a.at_ + 300000000000 ≤ s.clk) ∧
    (∃ n : Fin 3, ∃ src : Nat, ∃ id : Nat, ∃ r : Reasm, ∃ s : State, ((getMac s n.val).reasm.find? (fun r => r.src == src && r.ident == id) = some r) ∧ r.firstAt + 100000000 ≤ s.clk) :=
  ⟨⟨0, ⟨true, 64, none, true, .other⟩, ethLive, _, rfl, _, rfl, by decide +kernel⟩,
   ⟨0, ⟨true, 64, none, true, .tcp⟩, ethLive, _, rfl, _, rfl, by decide +kernel⟩,
   ⟨0, ⟨true, 64, none, true, .ipv6⟩, ethLive, _, rfl, _, rfl, by decide +kernel⟩,
   ⟨0, ⟨true, 64, none, true, (.arpRequest 7 0x0A000002 me)⟩, ethLive, _, rfl, _, rfl, by decide +kernel, by decide +kernel, by decide +kernel, by decide +kernel, ⟨by decide +kernel, by decide +kernel, by decide +kernel, 7, 0x0A000002, by decide +kernel⟩⟩,
   ⟨0, ⟨true, 1522, (some (0, 7)), true, (.arpRequest 7 0x0A000002 me)⟩, ethLive, _, rfl, _, rfl, by decide +kernel, by decide +kernel, by decide +kernel, by decide +kernel, ⟨by decide +kernel, by decide +kernel, by decide +kernel, 7, 0x0A000002, by decide +kernel⟩⟩,
   ⟨0, ⟨true, 64, none, true, (.arpRequest 165 me me)⟩, ethLive, _, rfl, _, rfl, by decide +kernel, by decide +kernel, by decide +kernel, by decide +kernel, ⟨by decide +kernel, by decide +kernel, by decide +kernel, 165, me, by decide +kernel⟩⟩,
   ⟨0, ⟨true, 64, none, true, (.arpReply 7 0x0A000003 me)⟩, ethLive, _, rfl, _, rfl, by decide +kernel, by decide +kernel, by decide +kernel, by decide +kernel, ⟨by decide +kernel, by decide +kernel, by decide +kernel, 7, 0x0A000003, me, ⟨1900000000, 1, [(0x0A000003, .icmpEcho me 0x0A000003 [1#8]), (0x0A000003, .icmpEcho me 0x0A000003 [2#8])]⟩, by decide +kernel⟩⟩,
   ⟨0, ⟨true, 64, none, true, (.fragment ⟨0x0A000002, me, 999, 52410, 9, 2, false, [3#8]⟩)⟩, ethLive, _, rfl, _, rfl, by decide +kernel, by decide +kernel, by decide +kernel, by decide +kernel, ⟨by decide +kernel, by decide +kernel, by decide +kernel, ⟨0x0A000002, me, 999, 52410, 9, 2, false, [3#8]⟩, ⟨0x0A000002, 9, 1900000000, [⟨0x0A000002, me, 999, 52410, 9, 0, true, [1#8, 2#8]⟩]⟩, [1#8,2#8,3#8], ⟨0x0A000002, me, 999, 52410, 9, 0, true, [1#8, 2#8]⟩, by decide +kernel⟩⟩,
   ⟨0, ⟨true, 64, none, true, (.icmpEcho 0x0A000002 me [1#8, 2#8])⟩, ethLive, _, rfl, _, rfl, by decide +kernel, by decide +kernel, by decide +kernel, by decide +kernel, ⟨by decide +kernel, by decide +kernel, by decide +kernel, 0x0A000002, [1#8, 2#8], 7, by decide +kernel⟩⟩,
   ⟨0, ⟨true, 1514, none, true, (.icmpEcho 0x0A000002 me (List.replicate 1472 1#8))⟩, ethLive, _, rfl, _, rfl, by decide +kernel, by decide +kernel, by decide +kernel, by decide +kernel, ⟨by decide +kernel, by decide +kernel, by decide +kernel, 0x0A000002, (List.replicate 1472 1#8), 7, by decide +kernel⟩⟩,
   ⟨0, ⟨true, 64, none, true, (.icmpEcho 0x0A000002 me [1#8])⟩, (updMac 0 (fun m => { m with echoes := 64, echoAt := 1001000000 }) ethLive), _, rfl, _, rfl, by decide +kernel, by decide +kernel, by decide +kernel, by decide +kernel, ⟨by decide +kernel, by decide +kernel, by decide +kernel, 0x0A000002, [1#8], 7, by decide +kernel⟩⟩,
   ⟨0, ⟨true, 64, none, true, .icmpOther⟩, ethLive, _, rfl, _, rfl, by decide +kernel⟩,
   ⟨0, ⟨true, 64, none, true, (.udp ⟨0x0A000002, 999, me, 52410, [0xA5#8, 1#8, 2#8]⟩)⟩, ethLive, _, rfl, _, rfl, by decide +kernel, by decide +kernel, by decide +kernel, by decide +kernel, ⟨by decide +kernel, by decide +kernel, by decide +kernel, ⟨0x0A000002, 999, me, 52410, [0xA5#8, 1#8, 2#8]⟩, by decide +kernel⟩⟩,
   ⟨0, ⟨true, 64, none, true, (.udp ⟨0x0A000002, 999, me, 52411, [0xA5#8, 1#8, 2#8]⟩)⟩, ethLive, _, rfl, _, rfl, by decide +kernel, by decide +kernel, by decide +kernel, by decide +kernel, ⟨by decide +kernel, by decide +kernel, by decide +kernel, ⟨0x0A000002, 999, me, 52411, [0xA5#8, 1#8, 2#8]⟩, by decide +kernel⟩⟩,
   ⟨0, ⟨true, 64, none, true, (.udp ⟨0x0A000002, 999, 5, 52410, [0xA5#8, 1#8, 2#8]⟩)⟩, ethLive, _, rfl, _, rfl, by decide +kernel, by decide +kernel, by decide +kernel, by decide +kernel, ⟨by decide +kernel, by decide +kernel, by decide +kernel, ⟨0x0A000002, 999, 5, 52410, [0xA5#8, 1#8, 2#8]⟩, by decide +kernel⟩⟩,
   ⟨0, ⟨true, 64, none, true, (.trdp (tgm 2000 0 12 5 me 0))⟩, ethLive, _, rfl, _, rfl, by decide +kernel, by decide +kernel, by decide +kernel, by decide +kernel, ⟨by decide +kernel, by decide +kernel, by decide +kernel, (tgm 2000 0 12 5 me 0), by decide +kernel⟩⟩,
   ⟨0, ⟨true, 64, none, true, (.trdp (tgm 2000 0 12 5 me 1))⟩, ethLive, _, rfl, _, rfl, by decide +kernel, by decide +kernel, by decide +kernel, by decide +kernel, ⟨by decide +kernel, by decide +kernel, by decide +kernel, (tgm 2000 0 12 5 me 1), by decide +kernel⟩⟩,
   ⟨0, ⟨true, 64, none, true, (.ptp false (.sync 3 77 1 2))⟩, ethLive, _, rfl, _, rfl, by decide +kernel, by decide +kernel, by decide +kernel, by decide +kernel, ⟨by decide +kernel, by decide +kernel, by decide +kernel, false, (.sync 3 77 1 2), by decide +kernel⟩⟩,
   ⟨0, ⟨true, 64, none, true, (.ptp false .malformed)⟩, (updPtp (fun m => { m with cfg := 0#48 }) ethLive), _, rfl, _, rfl, by decide +kernel, by decide +kernel, by decide +kernel, by decide +kernel, ⟨by decide +kernel, by decide +kernel, by decide +kernel, false, .malformed, by decide +kernel⟩⟩,
   ⟨0, ⟨true, 64, none, true, (.fragment ⟨0x0A000002, me, 999, 52410, 10, 0, true, [1#8]⟩)⟩, ethLive, _, rfl, _, rfl, by decide +kernel, by decide +kernel, by decide +kernel, by decide +kernel, ⟨by decide +kernel, by decide +kernel, by decide +kernel, ⟨0x0A000002, me, 999, 52410, 10, 0, true, [1#8]⟩, by decide +kernel⟩⟩,
   ⟨0, false, 0, ethLive, by decide +kernel⟩,
   ⟨1, true, 10, ethLive, by decide +kernel⟩,
   ⟨0, true, 1000, ethLive, by decide +kernel⟩,
   ⟨0, 0x0A000003, ⟨1900000000, 1, [(0x0A000003, .icmpEcho me 0x0A000003 [1#8]), (0x0A000003, .icmpEcho me 0x0A000003 [2#8])]⟩, ethLive, by decide +kernel⟩,
   ⟨0, 0x0A000003, ⟨1900000000, 1, [(0x0A000003, .icmpEcho me 0x0A000003 [1#8]), (0x0A000003, .icmpEcho me 0x0A000003 [2#8])]⟩, ethLive, by decide +kernel⟩,
   ⟨2, 0x0A000004, ⟨1000000000, 3, [(0x0A000004, .icmpEcho me 0x0A000004 [1#8])]⟩, ethLive, by decide +kernel⟩,
   ⟨0, 0x0A000002, ⟨7, 1000000000⟩, ({ ethLive with clk := 301000000000 }), by decide +kernel⟩,
   ⟨0, 0x0A000002, 9, ⟨0x0A000002, 9, 1900000000, [⟨0x0A000002, me, 999, 52410, 9, 0, true, [1#8, 2#8]⟩]⟩, ethLive, by decide +kernel⟩⟩

theorem witness_ProcessDataAndPtp :
    (∃ n : Fin 3, ∃ k : Nat, ∃ g : Telegram, ∃ s : State, ∃ m, m = (getMac s n) ∧ ∃ e, e = (getTrdp s k) ∧ macLive m = true ∧ ownBuffer s = false ∧ (g.dst = macIp m ∨ groupOn s n.val g.dst = true) ∧ g.headerFcs = trdpFcs g ∧ g.version.toNat / 256 = 1 ∧ g.msgType = 0x5064#16 ∧ (g.etbTopo = 0 ∨ s.eth.etb = 0 ∨ g.etbTopo = s.eth.etb) ∧ (g.opTopo = 0 ∨ s.eth.opTrn = 0 ∨ g.opTopo = s.eth.opTrn) ∧ 40 + g.dsLen ≤ g.payloadLen ∧ g.payloadLen ≤ 43 + g.dsLen ∧ trdpModule s n.val g.comId = none ∧ trdpSub s n.val g.comId = some k ∧ e.active = true ∧ g.dsLen = 6 * trdpCount e ∧ (fld e.src 47 16 = 0 ∨ fld e.src 47 16 = g.srcIp)) ∧
    (∃ n : Fin 3, ∃ k : Nat, ∃ g : Telegram, ∃ s : State, ∃ m, m = (getMac s n) ∧ ∃ e, e = (getTrdp s k) ∧ macLive m = true ∧ ownBuffer s = false ∧ (g.dst = macIp m ∨ groupOn s n.val g.dst = true) ∧ g.headerFcs = trdpFcs g ∧ g.version.toNat / 256 = 1 ∧ g.msgType = 0x5064#16 ∧ (g.etbTopo = 0 ∨ s.eth.etb = 0 ∨ g.etbTopo = s.eth.etb) ∧ (g.opTopo = 0 ∨ s.eth.opTrn = 0 ∨ g.opTopo = s.eth.opTrn) ∧ 40 + g.dsLen ≤ g.payloadLen ∧ g.payloadLen ≤ 43 + g.dsLen ∧ trdpModule s n.val g.comId = none ∧ trdpSub s n.val g.comId = some k ∧ e.active = true ∧ g.dsLen = 6 * trdpCount e ∧ (fld e.src 47 16 = 0 ∨ fld e.src 47 16 = g.srcIp)) ∧
    (∃ n : Fin 3, ∃ k : Nat, ∃ g : Telegram, ∃ s : State, ∃ m, m = (getMac s n) ∧ ∃ e, e = (getTrdp s k) ∧ macLive m = true ∧ ownBuffer s = false ∧ (g.dst = macIp m ∨ groupOn s n.val g.dst = true) ∧ g.headerFcs = trdpFcs g ∧ g.version.toNat / 256 = 1 ∧ g.msgType = 0x5064#16 ∧ (g.etbTopo = 0 ∨ s.eth.etb = 0 ∨ g.etbTopo = s.eth.etb) ∧ (g.opTopo = 0 ∨ s.eth.opTrn = 0 ∨ g.opTopo = s.eth.opTrn) ∧ 40 + g.dsLen ≤ g.payloadLen ∧ g.payloadLen ≤ 43 + g.dsLen ∧ trdpModule s n.val g.comId = none ∧ trdpSub s n.val g.comId = some k ∧ e.active = true ∧ g.dsLen = 6 * trdpCount e ∧ (fld e.src 47 16 = 0 ∨ fld e.src 47 16 = g.srcIp)) ∧
    (∃ n : Fin 3, ∃ k : Nat, ∃ g : Telegram, ∃ s : State, ∃ m, m = (getMac s n) ∧ ∃ e, e = (getTrdp s k) ∧ macLive m = true ∧ ownBuffer s = false ∧ (g.dst = macIp m ∨ groupOn s n.val g.dst = true) ∧ g.headerFcs = trdpFcs g ∧ g.version.toNat / 256 = 1 ∧ g.msgType = 0x5064#16 ∧ (g.etbTopo = 0 ∨ s.eth.etb = 0 ∨ g.etbTopo = s.eth.etb) ∧ (g.opTopo = 0 ∨ s.eth.opTrn = 0 ∨ g.opTopo = s.eth.opTrn) ∧ 40 + g.dsLen ≤ g.payloadLen ∧ g.payloadLen ≤ 43 + g.dsLen ∧ trdpModule s n.val g.comId = none ∧ trdpSub s n.val g.comId = some k ∧ e.active = true ∧ g.dsLen = 6 * trdpCount e ∧ (fld e.src 47 16 = 0 ∨ fld e.src 47 16 = g.srcIp) ∧ (e.timedOut = true ∨ e.last = none ∨ ∃ l, e.last = some l ∧ 1 ≤ (g.seq + 2 ^ 32 - l) % 2 ^ 32 ∧ (g.seq + 2 ^ 32 - l) % 2 ^ 32 ≤ 0x7FFFFFFF)) ∧
    (∃ n : Fin 3, ∃ k : Nat, ∃ g : Telegram, ∃ s : State, ∃ m, m = (getMac s n) ∧ ∃ e, e = (getTrdp s k) ∧ macLive m = true ∧ ownBuffer s = false ∧ (g.dst = macIp m ∨ groupOn s n.val g.dst = true) ∧ g.headerFcs = trdpFcs g ∧ g.version.toNat / 256 = 1 ∧ g.msgType = 0x5064#16 ∧ (g.etbTopo = 0 ∨ s.eth.etb = 0 ∨ g.etbTopo = s.eth.etb) ∧ (g.opTopo = 0 ∨ s.eth.opTrn = 0 ∨ g.opTopo = s.eth.opTrn) ∧ 40 + g.dsLen ≤ g.payloadLen ∧ g.payloadLen ≤ 43 + g.dsLen ∧ trdpModule s n.val g.comId = none ∧ trdpSub s n.val g.comId = some k ∧ e.active = true ∧ g.dsLen = 6 * trdpCount e ∧ (fld e.src 47 16 = 0 ∨ fld e.src 47 16 = g.srcIp) ∧ e.timedOut = false ∧ ∃ l, e.last = some l ∧ ((g.seq + 2 ^ 32 - l) % 2 ^ 32 = 0 ∨ 0x7FFFFFFF < (g.seq + 2 ^ 32 - l) % 2 ^ 32)) ∧
    (∃ n : Fin 3, ∃ g : Telegram, ∃ s : State, macLive (getMac s n.val) = true ∧ g.dst ≠ macIp (getMac s n.val) ∧ groupOn s n.val g.dst = false) ∧
    (∃ k : Fin 256, ∃ s : State, ∃ e, e = (getTrdp s k.val) ∧ ownBuffer s = false ∧ trdpUsed e = true ∧ trdpPub e = false ∧ e.active = true ∧ e.timedOut = false ∧ e.lastAt + trdpNs e ≤ s.clk) ∧
    (∃ k : Fin 256, ∃ s : State, ∃ e, e = (getTrdp s k.val) ∧ ∃ m, m = (getMac s (trdpMac e)) ∧ ∃ ws, ws = (span (trdpWord e) (trdpCount e)) ∧ trdpUsed e = true ∧ trdpPub e = true ∧ e.active = true ∧ serving s = true ∧ pubInstant s e = true ∧ (e.lastAt ≠ s.clk ∨ e.nOk = 0)) ∧
    (∃ k : Fin 256, ∃ s : State, ∃ e, e = (getTrdp s k.val) ∧ ∃ m, m = (getMac s (trdpMac e)) ∧ ∃ ws, ws = (span (trdpWord e) (trdpCount e)) ∧ trdpUsed e = true ∧ trdpPub e = true ∧ e.active = true ∧ serving s = true ∧ pubInstant s e = true ∧ (e.lastAt ≠ s.clk ∨ e.nOk = 0)) ∧
    (∃ k : Fin 256, ∃ s : State, ∃ e, e = (getTrdp s k.val) ∧ ∃ m, m = (getMac s (trdpMac e)) ∧ ∃ ws, ws = (span (trdpWord e) (trdpCount e)) ∧ trdpUsed e = true ∧ trdpPub e = true ∧ e.active = true ∧ serving s = true ∧ pubInstant s e = true ∧ (e.lastAt ≠ s.clk ∨ e.nOk = 0)) ∧
    (∃ k : Fin 256, ∃ s : State, ∃ e, e = (getTrdp s k.val) ∧ ∃ m, m = (getMac s (trdpMac e)) ∧ ∃ ws, ws = (span (trdpWord e) (trdpCount e)) ∧ trdpUsed e = true ∧ trdpPub e = true ∧ e.active = true ∧ serving s = true ∧ pubInstant s e = true ∧ (e.lastAt ≠ s.clk ∨ e.nOk = 0) ∧ ∃ hop, ws.all (mayRead s (trdpTenant e)) = true ∧ macLive m = true ∧ nextHop s (trdpMac e) (fld e.ip 47 16) = some hop ∧ (s.eth.trdp.map (·.1)).Nodup ∧ ∃ g : Telegram, g = (⟨macIp m, fld e.ip 47 16, 0x0100#16, 0x5064#16, trdpCom e, s.eth.etb, s.eth.opTrn, 6 * trdpCount e, 0, 0, 0, 0, tget 0 m.seq (trdpCom e), 40 + 6 * trdpCount e, ws.flatMap (fun w => wB (imgWord s w))⟩)) ∧
    (∃ k : Fin 256, ∃ s : State, ∃ e, e = (getTrdp s k.val) ∧ ∃ m, m = (getMac s (trdpMac e)) ∧ ∃ ws, ws = (span (trdpWord e) (trdpCount e)) ∧ trdpUsed e = true ∧ trdpPub e = true ∧ e.active = true ∧ serving s = true ∧ pubInstant s e = true ∧ (e.lastAt ≠ s.clk ∨ e.nOk = 0) ∧ ws.all (mayRead s (trdpTenant e)) = true ∧ macLive m = true ∧ nextHop s (trdpMac e) (fld e.ip 47 16) = none) ∧
    (∃ k : Fin 256, ∃ s : State, ∃ e, e = (getTrdp s k.val) ∧ ∃ m, m = (getMac s (trdpMac e)) ∧ ∃ ws, ws = (span (trdpWord e) (trdpCount e)) ∧ trdpUsed e = true ∧ trdpPub e = true ∧ e.active = true ∧ serving s = true ∧ pubInstant s e = true ∧ (e.lastAt ≠ s.clk ∨ e.nOk = 0) ∧ ws.all (mayRead s (trdpTenant e)) = true ∧ macLive m = false) ∧
    (∃ k : Fin 256, ∃ s : State, ∃ e, e = (getTrdp s k.val) ∧ ∃ m, m = (getMac s (trdpMac e)) ∧ ∃ ws, ws = (span (trdpWord e) (trdpCount e)) ∧ trdpUsed e = true ∧ trdpPub e = true ∧ e.active = true ∧ serving s = true ∧ pubInstant s e = true ∧ (e.lastAt ≠ s.clk ∨ e.nOk = 0) ∧ ws.all (mayRead s (trdpTenant e)) = false) ∧
    (∃ v : Option (Nat × Nat), ∃ l2 : Bool, ∃ a : PtpMaster, ∃ src : Nat, ∃ utc : Int, ∃ scale : Bool, ∃ s : State, PtpHears s v l2 ∧ s.pair.rstate ≠ 5 ∧ s.eth.ptp.state ≠ 1 ∧ s.eth.ptp.state ≠ 3 ∧ a.identity ≠ (ptpOwn s).identity) ∧
    (∃ v : Option (Nat × Nat), ∃ l2 : Bool, ∃ a : PtpMaster, ∃ src : Nat, ∃ utc : Int, ∃ scale : Bool, ∃ s : State, PtpHears s v l2 ∧ s.pair.rstate ≠ 5 ∧ s.eth.ptp.state ≠ 1 ∧ s.eth.ptp.state ≠ 3 ∧ a.identity ≠ (ptpOwn s).identity ∧ ptpBetter a (ptpOwn s) = true ∧ ptpRole s ≠ 2 ∧ (s.eth.ptp.master = none ∨ ∃ b, s.eth.ptp.master = some b ∧ ptpBetter a b = true ∧ b.identity ≠ a.identity)) ∧
    (∃ v : Option (Nat × Nat), ∃ l2 : Bool, ∃ a : PtpMaster, ∃ src : Nat, ∃ utc : Int, ∃ scale : Bool, ∃ s : State, PtpHears s v l2 ∧ s.pair.rstate ≠ 5 ∧ s.eth.ptp.state ≠ 1 ∧ s.eth.ptp.state ≠ 3 ∧ a.identity ≠ (ptpOwn s).identity ∧ ptpBetter a (ptpOwn s) = false ∧ ptpRole s ≠ 1 ∧ (s.eth.ptp.master = none ∨ ∃ b, s.eth.ptp.master = some b ∧ (ptpBetter b (ptpOwn s) = false ∨ b.identity = a.identity))) ∧
    (∃ v : Option (Nat × Nat), ∃ l2 : Bool, ∃ src : Nat, ∃ t1 : Int, ∃ t2 : Int, ∃ d : Int, ∃ s : State, ∃ o, o = (t2 - ptpIngress s - t1 - d) ∧ PtpHears s v l2 ∧ s.pair.rstate ≠ 5 ∧ (∃ m, s.eth.ptp.master = some m ∧ m.identity = src) ∧ (s.eth.ptp.state = 8 ∨ s.eth.ptp.state = 9) ∧ s.eth.ptp.delay = some d) ∧
    (∃ v : Option (Nat × Nat), ∃ l2 : Bool, ∃ src : Nat, ∃ t1 : Int, ∃ t2 : Int, ∃ d : Int, ∃ s : State, ∃ o, o = (t2 - ptpIngress s - t1 - d) ∧ PtpHears s v l2 ∧ s.pair.rstate ≠ 5 ∧ (∃ m, s.eth.ptp.master = some m ∧ m.identity = src) ∧ (s.eth.ptp.state = 8 ∨ s.eth.ptp.state = 9) ∧ s.eth.ptp.delay = some d) ∧
    (∃ v : Option (Nat × Nat), ∃ l2 : Bool, ∃ src : Nat, ∃ t1 : Int, ∃ t2 : Int, ∃ d : Int, ∃ s : State, ∃ o, o = (t2 - ptpIngress s - t1 - d) ∧ PtpHears s v l2 ∧ s.pair.rstate ≠ 5 ∧ (∃ m, s.eth.ptp.master = some m ∧ m.identity = src) ∧ (s.eth.ptp.state = 8 ∨ s.eth.ptp.state = 9) ∧ s.eth.ptp.delay = some d) ∧
    (∃ v : Option (Nat × Nat), ∃ l2 : Bool, ∃ src : Nat, ∃ port : Nat, ∃ t1 : Int, ∃ t2 : Int, ∃ t3 : Int, ∃ t4 : Int, ∃ t5 : Int, ∃ s : State, PtpHears s v l2 ∧ s.pair.rstate ≠ 5 ∧ ∃ d, d = (ptpDomain s) ∧ ∃ me, me = ((ptpOwn s).identity)) ∧
    (∃ v : Option (Nat × Nat), ∃ l2 : Bool, ∃ src : Nat, ∃ port : Nat, ∃ t1 : Int, ∃ t2 : Int, ∃ t3 : Int, ∃ t4 : Int, ∃ t5 : Int, ∃ s : State, PtpHears s v l2 ∧ s.pair.rstate ≠ 5 ∧ ∃ d, d = (ptpDomain s) ∧ ∃ me, me = ((ptpOwn s).identity) ∧ s.eth.ptp.state = 6 ∧ ptpP2p s = false) ∧
    (∃ v : Option (Nat × Nat), ∃ l2 : Bool, ∃ src : Nat, ∃ port : Nat, ∃ t1 : Int, ∃ t2 : Int, ∃ t3 : Int, ∃ t4 : Int, ∃ t5 : Int, ∃ s : State, PtpHears s v l2 ∧ s.pair.rstate ≠ 5 ∧ ∃ d, d = (ptpDomain s) ∧ ∃ me, me = ((ptpOwn s).identity) ∧ (s.eth.ptp.state = 8 ∨ s.eth.ptp.state = 9) ∧ ptpP2p s = false ∧ s.eth.ptp.syncT = some (t1, t2) ∧ s.eth.ptp.reqAt = some t3 ∧ (∃ m, s.eth.ptp.master = some m ∧ m.identity = src)) ∧
    (∃ v : Option (Nat × Nat), ∃ l2 : Bool, ∃ src : Nat, ∃ port : Nat, ∃ t1 : Int, ∃ t2 : Int, ∃ t3 : Int, ∃ t4 : Int, ∃ t5 : Int, ∃ s : State, PtpHears s v l2 ∧ s.pair.rstate ≠ 5 ∧ ∃ d, d = (ptpDomain s) ∧ ∃ me, me = ((ptpOwn s).identity) ∧ ptpP2p s = true ∧ s.eth.ptp.state ≠ 1 ∧ s.eth.ptp.state ≠ 3) ∧
    (∃ v : Option (Nat × Nat), ∃ l2 : Bool, ∃ src : Nat, ∃ port : Nat, ∃ t1 : Int, ∃ t2 : Int, ∃ t3 : Int, ∃ t4 : Int, ∃ t5 : Int, ∃ s : State, PtpHears s v l2 ∧ s.pair.rstate ≠ 5 ∧ ∃ d, d = (ptpDomain s) ∧ ∃ me, me = ((ptpOwn s).identity) ∧ ptpP2p s = true ∧ s.eth.ptp.reqAt = some t1) ∧
    (∃ fcs : Bool, ∃ v : Option (Nat × Nat), ∃ l2 : Bool, ∃ m : PtpMsg, ∃ s : State, s.ovl.units = [] ∧ ptpOn s = true ∧ macLive (getMac s (ptpMac s)) = true ∧ ∃ k, k = (bodyFrames (.ptp l2 m))) ∧
    (∃ fcs : Bool, ∃ v : Option (Nat × Nat), ∃ l2 : Bool, ∃ m : PtpMsg, ∃ s : State, s.ovl.units = [] ∧ ptpOn s = true ∧ macLive (getMac s (ptpMac s)) = true ∧ ∃ k, k = (bodyFrames (.ptp l2 m)) ∧ fcs = true ∧ PtpHears s v l2 ∧ msgDomain m ≠ some (ptpDomain s)) ∧
    (∃ fcs : Bool, ∃ v : Option (Nat × Nat), ∃ l2 : Bool, ∃ m : PtpMsg, ∃ s : State, s.ovl.units = [] ∧ ptpOn s = true ∧ macLive (getMac s (ptpMac s)) = true ∧ ∃ k, k = (bodyFrames (.ptp l2 m)) ∧ (fcs = false ∨ vlanOk (getMac s (ptpMac s)) v = false)) ∧
    (∃ s : State, s.eth.ptp.state = 9 ∧ s.eth.ptp.lastSync + 4 * logNs (fld s.eth.ptp.cfg 15 12) ≤ s.clk) ∧
    (∃ k : PtpTimer, ∃ s : State, s.ovl.units = [] ∧ ptpTimerDue k s = false) ∧
    (∃ s : State, s.ovl.units = [] ∧ ptpTimerDue .announceSend s = true) ∧
    (∃ s : State, s.ovl.units = [] ∧ ptpTimerDue .syncSend s = true) ∧
    (∃ s : State, s.ovl.units = [] ∧ ptpTimerDue .delayReq s = true) ∧
    (∃ s : State, s.ovl.units = [] ∧ ptpTimerDue .announceTimeout s = true) :=
  ⟨⟨0, 0, (tgm 2000 0 12 5 me 0), ethLive, _, rfl, _, rfl, by decide +kernel⟩,
   ⟨0, 0, (tgm 2000 0x7FFFFFFD 12 5 me 0), ethLive, _, rfl, _, rfl, by decide +kernel⟩,
   ⟨0, 0, (tgm 2000 0x7FFFFFFE 12 5 me 0), ethLive, _, rfl, _, rfl, by decide +kernel⟩,
   ⟨0, 0, (tgm 2000 0 12 5 me 0), ethLive, _, rfl, _, rfl, by decide +kernel⟩,
   ⟨0, 0, (tgm 2000 0x7FFFFFFE 12 5 me 0), ethLive, _, rfl, _, rfl, by decide +kernel, by decide +kernel, by decide +kernel, by decide +kernel, ⟨by decide +kernel, by decide +kernel, by decide +kernel, by decide +kernel, by decide +kernel, ⟨by decide +kernel, by decide +kernel, by decide +kernel, by decide +kernel, by decide +kernel, ⟨by decide +kernel, by decide +kernel, 0xFFFFFFFE, by decide +kernel⟩⟩⟩⟩,
   ⟨0, (tgm 2000 0 12 5 7 0), ethLive, by decide +kernel⟩,
   ⟨0, ethLive, _, rfl, by decide +kernel⟩,
   ⟨255, ethLive, _, rfl, _, rfl, _, rfl, by decide +kernel⟩,
   ⟨255, (updTrdp 255 (fun m => { m with pd := pub0.pd ||| wd (256 * 2 ^ 21) }) ethLive), _, rfl, _, rfl, _, rfl, by decide +kernel⟩,
   ⟨255, (updMac 0 (fun m => { m with up := false }) ethLive), _, rfl, _, rfl, _, rfl, by decide +kernel⟩,
   ⟨255, ethLive, _, rfl, _, rfl, _, rfl, by decide +kernel, by decide +kernel, by decide +kernel, by decide +kernel, ⟨by decide +kernel, by decide +kernel, ((nextHop ethLive (trdpMac (getTrdp ethLive 255)) (fld (getTrdp ethLive 255).ip 47 16)).getD 0), by decide +kernel, by decide +kernel, by decide +kernel, by decide +kernel, ⟨_, rfl⟩⟩⟩,
   ⟨255, (updMac 0 (fun m => { m with gw := 0#48, arp := [] }) (updTrdp 255 (fun m => { m with ip := wd (0x01020304 * 2 ^ 16) }) ethLive)), _, rfl, _, rfl, _, rfl, by decide +kernel⟩,
   ⟨255, (updMac 0 (fun m => { m with up := false }) ethLive), _, rfl, _, rfl, _, rfl, by decide +kernel⟩,
   ⟨255, (updTrdp 255 (fun m => { m with pd := pub0.pd ||| wd (4 * 2 ^ 42) }) ethLive), _, rfl, _, rfl, _, rfl, by decide +kernel⟩,
   ⟨none, false, ⟨9, 6, 0x20, 5, 128, 78⟩, 0xA0, 0, true, ethLive, ⟨by decide +kernel, by decide +kernel, by decide +kernel, by decide +kernel⟩, by decide +kernel⟩,
   ⟨none, false, ⟨9, 6, 0x20, 5, 128, 78⟩, 0xA0, 0, true, ethLive, ⟨by decide +kernel, by decide +kernel, by decide +kernel, by decide +kernel⟩, by decide +kernel⟩,
   ⟨none, false, ⟨200, 6, 0x20, 5, 128, 78⟩, 0xA0, 0, true, (updPtp (fun m => { m with master := none, state := 4 }) ethLive), ⟨by decide +kernel, by decide +kernel, by decide +kernel, by decide +kernel⟩, by decide +kernel⟩,
   ⟨none, false, 77, 100000, 100400, 500, ethLive, _, rfl, ⟨by decide +kernel, by decide +kernel, by decide +kernel, by decide +kernel⟩, by decide +kernel⟩,
   ⟨none, false, 77, 0, 1000500, 500, ethLive, _, rfl, ⟨by decide +kernel, by decide +kernel, by decide +kernel, by decide +kernel⟩, by decide +kernel⟩,
   ⟨none, false, 77, 0, 1000499, 500, ethLive, _, rfl, ⟨by decide +kernel, by decide +kernel, by decide +kernel, by decide +kernel⟩, by decide +kernel⟩,
   ⟨none, false, 77, 9, 100, 250, 300, 400, 500, (updPtp (fun m => { m with state := 6 }) ethLive), ⟨by decide +kernel, by decide +kernel, by decide +kernel, by decide +kernel⟩, by decide +kernel, _, rfl, _, rfl⟩,
   ⟨none, false, 77, 9, 100, 250, 300, 400, 500, (updPtp (fun m => { m with state := 6 }) ethLive), ⟨by decide +kernel, by decide +kernel, by decide +kernel, by decide +kernel⟩, by decide +kernel, _, rfl, _, rfl, by decide +kernel⟩,
   ⟨none, false, 77, 9, 100, 250, 300, 400, 500, (updPtp (fun m => { m with syncT := some (100, 250), reqAt := some 300 }) ethLive), ⟨by decide +kernel, by decide +kernel, by decide +kernel, by decide +kernel⟩, by decide +kernel, _, rfl, _, rfl, by decide +kernel⟩,
   ⟨none, false, 77, 9, 300, 250, 300, 400, 500, (updPtp (fun m => { m with cfg := ptp0.cfg ||| wd (2 ^ 44), reqAt := some 300 }) ethLive), ⟨by decide +kernel, by decide +kernel, by decide +kernel, by decide +kernel⟩, by decide +kernel, _, rfl, _, rfl, by decide +kernel⟩,
   ⟨none, false, 77, 9, 300, 250, 300, 400, 500, (updPtp (fun m => { m with cfg := ptp0.cfg ||| wd (2 ^ 44), reqAt := some 300 }) ethLive), ⟨by decide +kernel, by decide +kernel, by decide +kernel, by decide +kernel⟩, by decide +kernel, _, rfl, _, rfl, by decide +kernel⟩,
   ⟨true, none, false, (.sync 9 77 1 2), ethLive, by decide +kernel, by decide +kernel, by decide +kernel, _, rfl⟩,
   ⟨true, none, false, (.sync 9 77 1 2), ethLive, by decide +kernel, by decide +kernel, by decide +kernel, _, rfl, by decide +kernel, ⟨by decide +kernel, by decide +kernel, by decide +kernel, by decide +kernel⟩, by decide +kernel⟩,
   ⟨false, none, false, (.sync 3 77 1 2), ethLive, by decide +kernel, by decide +kernel, by decide +kernel, _, rfl, by decide +kernel⟩,
   ⟨(updPtp (fun m => { m with lastSync := 0 }) ({ ethLive with clk := 4000000000 })), by decide +kernel⟩,
   ⟨.syncSend, ethLive, by decide +kernel⟩,
   ⟨(updPtp (fun m => { m with state := 6 }) ethLive), by decide +kernel⟩,
   ⟨(updPtp (fun m => { m with state := 6 }) ethLive), by decide +kernel⟩,
   ⟨ethLive, by decide +kernel⟩,
   ⟨(updPtp (fun m => { m with state := 4, heardAnn := 0, cfg := ptp0.cfg ||| wd (8 * 2 ^ 8) }) ethLive), by decide +kernel⟩⟩

theorem witness_NetworkCommands :
    (∃ ch : Fin 16, ∃ n : Byte, ∃ cfg : Word, ∃ mac : Word, ∃ ip : Word, ∃ gw : Word, ∃ s : State, tenantOf s ch = 0 ∧ Changes s ∧ n.toNat < 3 ∧ fld cfg 36 25 ≠ 4095 ∧ 8 ≤ fld ip 15 10 ∧ fld ip 15 10 ≤ 30 ∧ Asked .mbEthSet ch ([n, 1#8] ++ wB cfg ++ wB mac ++ wB ip ++ wB gw) s) ∧
    (∃ ch : Fin 16, ∃ n : Byte, ∃ en : Byte, ∃ k : Byte, ∃ tn : Byte, ∃ pre : Byte, ∃ ip : Nat, ∃ s : State, tenantOf s ch = 0 ∧ Changes s ∧ n.toNat < 3 ∧ en.toNat ≤ 1 ∧ k.toNat ≤ 1 ∧ tn.toNat ≤ 31 ∧ ip < 2 ^ 32 ∧ 8 ≤ pre.toNat ∧ pre.toNat ≤ 30 ∧ Asked .mbEthSet ch ([n, 0#8, en, k, tn] ++ toBe 4 ip ++ [pre]) s) ∧
    (∃ ch : Fin 16, ∃ port : Nat, ∃ s : State, tenantOf s ch = 0 ∧ Changes s ∧ 0 < port ∧ port < 2 ^ 16 ∧ Asked .mbEthPortSet ch (toBe 2 port) s) ∧
    (∃ ch : Fin 16, ∃ n : Byte, ∃ s : State, NotCarried s ch ∧ n.toNat < 3 ∧ ∃ m, m = (getMac s n.toNat) ∧ Asked .mbEthStat ch [n] s) ∧
    (∃ ch : Fin 16, ∃ k : Byte, ∃ pd : Word, ∃ com : Word, ∃ ip : Word, ∃ src : Word, ∃ s : State, tenantOf s ch = 0 ∧ Changes s ∧ ∃ e : Trdp, e = ({ pd := setBit pd 41 true, com := com &&& 0xFFFFFFFF0000#48, ip := ip &&& 0xFFFFFFFF0000#48, src := src &&& 0xFFFFFFFF0000#48 }) ∧ trdpMac e ≤ 2 ∧ fld e.pd 37 36 ≤ 1 ∧ 1 ≤ trdpCount e ∧ trdpCount e ≤ 64 ∧ 1 ≤ fld e.pd 13 0 ∧ fld e.pd 13 0 ≤ 10000 ∧ trdpBlockOk s k.toNat e = true ∧ (macComs s (trdpMac e) 1024 k.toNat).contains (trdpCom e, trdpPub e) = false ∧ Asked .mbTrdpSet ch ([k, 1#8] ++ wB pd ++ wB com ++ wB ip ++ wB src) s) ∧
    (∃ ch : Fin 16, ∃ k : Byte, ∃ s : State, NotCarried s ch ∧ (tenantOf s ch = 0 ∨ trdpTenant (getTrdp s k.toNat) = tenantOf s ch) ∧ ∃ e, e = (getTrdp s k.toNat) ∧ Asked .mbTrdpGet ch [k] s) ∧
    (∃ ch : Fin 16, ∃ k : Byte, ∃ s : State, NotCarried s ch ∧ (tenantOf s ch = 0 ∨ trdpTenant (getTrdp s k.toNat) = tenantOf s ch) ∧ ∃ e, e = (getTrdp s k.toNat) ∧ Asked .mbTrdpGet ch [k] s) ∧
    (∃ ch : Fin 16, ∃ a : Nat, ∃ b : Nat, ∃ s : State, tenantOf s ch = 0 ∧ Changes s ∧ a < 2 ^ 32 ∧ b < 2 ^ 32 ∧ Asked .mbTrdpTopoSet ch (toBe 4 a ++ toBe 4 b) s) ∧
    (∃ ch : Fin 16, ∃ cfg : Word, ∃ lat : Word, ∃ s : State, tenantOf s ch = 0 ∧ Changes s ∧ ∃ c, c = (setBit (cfg &&& 0xFFFFFFFFFFF0#48) 40 true) ∧ fld c 46 45 ≤ 2 ∧ fld c 43 42 ≤ 2 ∧ -4 ≤ sgn 4 (fld c 15 12) ∧ sgn 4 (fld c 15 12) ≤ 4 ∧ 0 ≤ sgn 4 (fld c 11 8) ∧ sgn 4 (fld c 11 8) ≤ 4 ∧ -4 ≤ sgn 4 (fld c 7 4) ∧ sgn 4 (fld c 7 4) ≤ 5 ∧ Asked .mbPtpSet ch ([1#8] ++ wB cfg ++ wB lat) s) ∧
    (∃ ch : Fin 16, ∃ s : State, NotCarried s ch ∧ Asked .mbPtpStat ch [] s) :=
  ⟨⟨0, (2#8), (wd (2^47 + 4094 * 2^25 + 0xFFFF)), (5#48), (wd (30 * 2^10 + 9)), (0xFFFFFFFFFFFF#48), (asks 0x0D20 (0 : Fin 16) ([(2#8 : Byte), 1#8] ++ wB ((wd (2^47 + 4094 * 2^25 + 0xFFFF)) : Word) ++ wB (5#48 : Word) ++ wB ((wd (30 * 2^10 + 9)) : Word) ++ wB (0xFFFFFFFFFFFF#48 : Word)) ethLive), by decide +kernel, ⟨by decide +kernel, by decide +kernel⟩, by decide +kernel, by decide +kernel, by decide +kernel, by decide +kernel, asked_asks rfl⟩,
   ⟨0, (1#8), (1#8), (1#8), (31#8), (30#8), 0xFFFFFFFF, (asks 0x0D20 (0 : Fin 16) ([(1#8 : Byte), 0#8, (1#8 : Byte), (1#8 : Byte), (31#8 : Byte)] ++ toBe 4 (0xFFFFFFFF : Nat) ++ [(30#8 : Byte)]) ethLive), by decide +kernel, ⟨by decide +kernel, by decide +kernel⟩, by decide +kernel, by decide +kernel, by decide +kernel, by decide +kernel, ⟨by decide +kernel, by decide +kernel, by decide +kernel, asked_asks rfl⟩⟩,
   ⟨0, 65535, (asks 0x0D21 (0 : Fin 16) (toBe 2 (65535 : Nat)) ethLive), by decide +kernel, ⟨by decide +kernel, by decide +kernel⟩, by decide +kernel, by decide +kernel, asked_asks rfl⟩,
   ⟨1, (2#8), (asks 0x0D22 (1 : Fin 16) [(2#8 : Byte)] ethLive), forall_some (by decide +kernel), by decide +kernel, _, rfl, asked_asks rfl⟩,
   ⟨0, (9#8), (wd (3 * 2^42 + 514 * 2^21 + 62 * 2^14 + 1)), (wd (2002 * 2^16 + 5)), (7#48), (9#48), (asks 0x0D23 (0 : Fin 16) ([(9#8 : Byte), 1#8] ++ wB ((wd (3 * 2^42 + 514 * 2^21 + 62 * 2^14 + 1)) : Word) ++ wB ((wd (2002 * 2^16 + 5)) : Word) ++ wB (7#48 : Word) ++ wB (9#48 : Word)) ((updTrdp 7 (fun m => { m with pd := 0#48 }) ethLive) : State)), by decide +kernel, ⟨by decide +kernel, by decide +kernel⟩, _, rfl, by decide +kernel, by decide +kernel, by decide +kernel, by decide +kernel, ⟨by decide +kernel, by decide +kernel, by decide +kernel, by decide +kernel, asked_asks rfl⟩⟩,
   ⟨1, (0#8), (asks 0x0D24 (1 : Fin 16) [(0#8 : Byte)] ethLive), forall_some (by decide +kernel), by decide +kernel, _, rfl, asked_asks rfl⟩,
   ⟨0, (255#8), (asks 0x0D24 (0 : Fin 16) [(255#8 : Byte)] ethLive), forall_some (by decide +kernel), by decide +kernel, _, rfl, asked_asks rfl⟩,
   ⟨0, 0xFFFFFFFF, 1, (asks 0x0D25 (0 : Fin 16) (toBe 4 (0xFFFFFFFF : Nat) ++ toBe 4 (1 : Nat)) ethLive), by decide +kernel, ⟨by decide +kernel, by decide +kernel⟩, by decide +kernel, by decide +kernel, asked_asks rfl⟩,
   ⟨0, (wd (2^47 + 2 * 2^45 + 2 * 2^42 + 5 * 2^32 + 12 * 2^12 + 4 * 2^8 + 5 * 2^4)), (0xFFFFFFFFFFFF#48), (asks 0x0D27 (0 : Fin 16) ([1#8] ++ wB ((wd (2^47 + 2 * 2^45 + 2 * 2^42 + 5 * 2^32 + 12 * 2^12 + 4 * 2^8 + 5 * 2^4)) : Word) ++ wB (0xFFFFFFFFFFFF#48 : Word)) ethLive), by decide +kernel, ⟨by decide +kernel, by decide +kernel⟩, _, rfl, by decide +kernel, by decide +kernel, by decide +kernel, by decide +kernel, ⟨by decide +kernel, by decide +kernel, by decide +kernel, by decide +kernel, asked_asks rfl⟩⟩,
   ⟨1, (asks 0x0D28 (1 : Fin 16) [] ethLive), forall_some (by decide +kernel), asked_asks rfl⟩⟩

theorem witness_PassLinks :
    (∃ p : Fin 2, ∃ up : Bool, ∃ s : State, passOn s = true ∧ (getPort s p.val).up ≠ up ∧ (up = true → s.pass.downUntil ≤ s.clk)) ∧
    (∃ p : Fin 2, ∃ s : State, passOn s = true ∧ (getPort s p.val).up = true ∧ (getPort s p.val).echoN = 16 ∧ ∃ d, d = ((getPort s p.val).echoD) ∧ d ≤ passDlyMax s) ∧
    (∃ p : Fin 2, ∃ s : State, passOn s = true ∧ (getPort s p.val).up = true ∧ (getPort s p.val).echoN = 16 ∧ ∃ d, d = ((getPort s p.val).echoD) ∧ passDlyMax s < d) ∧
    (∃ p : Fin 2, ∃ f : PassFrame, ∃ dep : Nat, ∃ turn : Nat, ∃ s : State, ∃ x, x = (getPort s p.val) ∧ passOn s = true ∧ x.up = true ∧ x.refused = false ∧ passFormat f = true ∧ passHeldCredits s p.val + passCredits f.len ≤ 256 ∧ f.fcsOk = true ∧ f.body = .echo dep 0) ∧
    (∃ p : Fin 2, ∃ f : PassFrame, ∃ dep : Nat, ∃ turn : Nat, ∃ s : State, ∃ x, x = (getPort s p.val) ∧ passOn s = true ∧ x.up = true ∧ x.refused = false ∧ passFormat f = true ∧ passHeldCredits s p.val + passCredits f.len ≤ 256 ∧ f.fcsOk = true ∧ f.body = .echo dep (turn + 1) ∧ x.echoN < 16) ∧
    (∃ p : Fin 2, ∃ f : PassFrame, ∃ s : State, ∃ x, x = (getPort s p.val) ∧ passOn s = true ∧ x.up = true ∧ x.refused = false ∧ passFormat f = true ∧ passHeldCredits s p.val + passCredits f.len ≤ 256 ∧ passNumbered f.body = true ∧ f.fcsOk = true ∧ f.lseq = (x.rxSeq + 1) % 65536) ∧
    (∃ p : Fin 2, ∃ f : PassFrame, ∃ s : State, ∃ x, x = (getPort s p.val) ∧ passOn s = true ∧ x.up = true ∧ x.refused = false ∧ passFormat f = true ∧ passHeldCredits s p.val + passCredits f.len ≤ 256 ∧ passNumbered f.body = true ∧ f.fcsOk = true ∧ f.lseq = (x.rxSeq + 1) % 65536 ∧ e2eRight f = true ∧ f.origin = s.pass.master ∧ passRole s ≠ 3 ∧ ∃ e, ∃ a, f.body = .marker e a) ∧
    (∃ p : Fin 2, ∃ f : PassFrame, ∃ s : State, ∃ x, x = (getPort s p.val) ∧ passOn s = true ∧ x.up = true ∧ x.refused = false ∧ passFormat f = true ∧ passHeldCredits s p.val + passCredits f.len ≤ 256 ∧ passNumbered f.body = true ∧ f.fcsOk = true ∧ f.lseq = (x.rxSeq + 1) % 65536 ∧ e2eRight f = true ∧ ∃ n, ∃ q, ∃ ws, f.body = .pub [⟨n, q, ws⟩] ∧ f.frags = 0 ∧ f.frag = 0 ∧ passIn s = true ∧ f.origin ≠ s.pass.ownPos ∧ n < 320 ∧ ownPOS (plotOwn s n) = f.origin ∧ ws.length = 64 ∧ ownBuffer s = false ∧ (tget {} s.pass.pub (f.origin * 16 + f.group)).part = none ∧ (∀ l, (tget {} s.pass.pub (f.origin * 16 + f.group)).last = some l → (tget {} s.pass.pub (f.origin * 16 + f.group)).lost = false → 1 ≤ (f.cycle + 2 ^ 32 - l) % 2 ^ 32 ∧ (f.cycle + 2 ^ 32 - l) % 2 ^ 32 ≤ 0x7FFFFFFF)) ∧
    (∃ p : Fin 2, ∃ f : PassFrame, ∃ s : State, ∃ x, x = (getPort s p.val) ∧ passOn s = true ∧ x.up = true ∧ x.refused = false ∧ passFormat f = true ∧ passHeldCredits s p.val + passCredits f.len ≤ 256 ∧ passNumbered f.body = true ∧ f.fcsOk = true ∧ f.lseq ≠ (x.rxSeq + 1) % 65536 ∧ x.gap = none) ∧
    (∃ p : Fin 2, ∃ f : PassFrame, ∃ s : State, ∃ x, x = (getPort s p.val) ∧ passOn s = true ∧ x.up = true ∧ x.refused = false ∧ passFormat f = true ∧ passHeldCredits s p.val + passCredits f.len ≤ 256 ∧ passNumbered f.body = true ∧ f.fcsOk = false) ∧
    (∃ p : Fin 2, ∃ w : PassWait, ∃ ws : List PassWait, ∃ s : State, (getPort s p.val).again = [] ∧ (getPort s p.val).waiting = w :: ws ∧ portReady s p.val w.frame.len = true) ∧
    (∃ p : Fin 2, ∃ b : PassBody, ∃ bs : List PassBody, ∃ s : State, (getPort s p.val).again = [] ∧ (getPort s p.val).waiting = [] ∧ (getPort s p.val).link = b :: bs ∧ portFree (getPort s p.val) = true) ∧
    (∃ p : Fin 2, ∃ f : PassFrame, ∃ fs : List PassFrame, ∃ s : State, (getPort s p.val).again = [] ∧ (getPort s p.val).waiting = [] ∧ (getPort s p.val).link = [] ∧ (getPort s p.val).own = f :: fs ∧ portReady s p.val f.len = true) ∧
    (∃ p : Fin 2, ∃ g0 : Nat, ∃ s : State, (getPort s p.val).gap = some g0 ∧ portLive s p.val = true ∧ g0 + 10000 ≤ s.clk) ∧
    (∃ p : Fin 2, ∃ s : State, ∃ x, x = (getPort s p.val) ∧ ∃ found, found = (x.retry.find? (fun h => h.frame.lseq == x.txSeq && decide (h.times < 2) && !h.void)) ∧ portLive s p.val = true ∧ x.txSeq < 65536 ∧ ∃ lseq, lseq < 65536 ∧ 32768 < (x.txSeq + 65537 - lseq) % 65536) ∧
    (∃ p : Fin 2, ∃ s : State, ∃ x, x = (getPort s p.val) ∧ ∃ found, found = (x.retry.find? (fun h => h.frame.lseq == x.txSeq && decide (h.times < 2) && !h.void)) ∧ portLive s p.val = true ∧ x.txSeq < 65536 ∧ ∃ h, found = some h ∧ passCredits h.frame.len ≤ portCredits x) ∧
    (∃ p : Fin 2, ∃ s : State, ∃ x, x = (getPort s p.val) ∧ ∃ found, found = (x.retry.find? (fun h => h.frame.lseq == x.txSeq && decide (h.times < 2) && !h.void)) ∧ portLive s p.val = true ∧ x.txSeq < 65536 ∧ ∃ h, found = some h ∧ portCredits x < passCredits h.frame.len) ∧
    (∃ p : Fin 2, ∃ s : State, ∃ x, x = (getPort s p.val) ∧ ∃ found, found = (x.retry.find? (fun h => h.frame.lseq == x.txSeq && decide (h.times < 2) && !h.void)) ∧ portLive s p.val = true ∧ x.txSeq < 65536 ∧ found = none ∧ 1 ≤ portCredits x) ∧
    (∃ p : Fin 2, ∃ s : State, ∃ x, x = (getPort s p.val) ∧ passOn s = true ∧ s.pass.downUntil ≤ s.clk ∧ x.lastTx + 1000 ≤ s.clk ∧ portFree x = true ∧ portCanStart s p.val = false ∧ (x.up = false ∨ x.refused = true ∨ 16 ≤ x.echoN ∨ s.clk < x.echoAt + 50000)) ∧
    (∃ p : Fin 2, ∃ s : State, ∃ x, x = (getPort s p.val) ∧ passOn s = true ∧ s.pass.downUntil ≤ s.clk ∧ x.lastTx + 1000 ≤ s.clk ∧ portFree x = true ∧ portCanStart s p.val = false ∧ (x.up = false ∨ x.refused = true ∨ 16 ≤ x.echoN ∨ s.clk < x.echoAt + 50000)) ∧
    (∃ p : Fin 2, ∃ s : State, ∃ x, x = (getPort s p.val) ∧ passOn s = true ∧ s.pass.downUntil ≤ s.clk ∧ x.lastTx + 1000 ≤ s.clk ∧ portFree x = true ∧ portCanStart s p.val = false ∧ x.up = true ∧ x.refused = false ∧ x.echoN < 16 ∧ x.echoAt + 50000 ≤ s.clk) :=
  ⟨⟨0, false, passLive, by decide +kernel⟩,
   ⟨0, (updPort 0 (fun m => { m with echoN := 16, echoD := 20000 }) passLive), by decide +kernel, by decide +kernel, by decide +kernel, _, rfl, by decide +kernel⟩,
   ⟨1, (updPort 1 (fun m => { m with echoN := 16, echoD := 20001 }) passLive), by decide +kernel, by decide +kernel, by decide +kernel, _, rfl, by decide +kernel⟩,
   ⟨0, (pf (.echo 55 0) 2 0 64), 55, 0, passLive, _, rfl, by decide +kernel⟩,
   ⟨1, (pf (.echo 1000 300) 2 0 64), 1000, 299, (updPort 1 (fun m => { m with echoN := 3, echoD := 5 }) passLive), _, rfl, by decide +kernel⟩,
   ⟨0, ({ (pf (.marker 10000 600) 2 0 64) with check := 1 } : PassFrame), passLive, _, rfl, by decide +kernel⟩,
   ⟨1, (pf (.marker 10000 600) 2 0 64), passLive, _, rfl, by decide +kernel, by decide +kernel, by decide +kernel, by decide +kernel, ⟨by decide +kernel, by decide +kernel, by decide +kernel, by decide +kernel, e2eRight_seal rfl, by decide +kernel, by decide +kernel, 10000, 600, by decide +kernel⟩⟩,
   ⟨0, (pf (.pub [⟨10, 0x6700#48, (List.replicate 64 9#48)⟩]) 2 0 64), passLive, _, rfl, by decide +kernel, by decide +kernel, by decide +kernel, by decide +kernel, ⟨by decide +kernel, by decide +kernel, by decide +kernel, by decide +kernel, e2eRight_seal rfl, 10, (0x6700#48), (List.replicate 64 9#48), by decide +kernel, by decide +kernel, by decide +kernel, by decide +kernel, ⟨by decide +kernel, by decide +kernel, by decide +kernel, by decide +kernel, by decide +kernel, ⟨by decide +kernel, forall_some (by decide +kernel)⟩⟩⟩⟩,
   ⟨0, (pf (.marker 10000 600) 2 2 64), passLive, _, rfl, by decide +kernel⟩,
   ⟨0, ({ (pf (.marker 10000 600) 2 0 64) with fcsOk := false } : PassFrame), passLive, _, rfl, by decide +kernel⟩,
   ⟨0, ⟨pf (.marker 10 17) 2 7 64, 2000999000, 700, true⟩, [⟨pf (.inaug rec2) 2 7 1536, 2000999000, 700, true⟩], (updPort 0 (fun m => { m with waiting := [⟨pf (.marker 10 17) 2 7 64, 2000999000, 700, true⟩, ⟨pf (.inaug rec2) 2 7 1536, 2000999000, 700, true⟩] }) passLive), by decide +kernel⟩,
   ⟨0, (.resend 5), [.idle], (updPort 0 (fun m => { m with link := [.resend 5, .idle] }) passLive), by decide +kernel⟩,
   ⟨0, (pf (.marker 10000 600) 2 0 64), [], (updPort 0 (fun m => { m with own := [(pf (.marker 10000 600) 2 0 64)] }) passLive), by decide +kernel⟩,
   ⟨0, 2000000000, (updPort 0 (fun m => { m with gap := some 2000000000 }) passLive), by decide +kernel⟩,
   ⟨0, passLive, _, rfl, _, rfl, by decide +kernel, by decide +kernel, 7, by decide +kernel⟩,
   ⟨0, passLive, _, rfl, _, rfl, by decide +kernel, by decide +kernel, ⟨pf (.marker 5 6) 1 65535 64, 1, false⟩, by decide +kernel⟩,
   ⟨0, (updPort 0 (fun m => { m with used := 256 }) passLive), _, rfl, _, rfl, by decide +kernel, by decide +kernel, ⟨pf (.marker 5 6) 1 65535 64, 1, false⟩, by decide +kernel⟩,
   ⟨0, (updPort 0 (fun m => { m with retry := [] }) passLive), _, rfl, _, rfl, by decide +kernel⟩,
   ⟨0, (updPort 0 (fun m => { m with echoN := 17 }) passLive), _, rfl, by decide +kernel⟩,
   ⟨1, (updPort 1 (fun m => { m with up := false }) passLive), _, rfl, by decide +kernel⟩,
   ⟨1, (updPort 1 (fun m => { m with echoN := 3, echoAt := 7 }) passLive), _, rfl, by decide +kernel⟩⟩

theorem witness_PassChain :
    (∃ s : State, passOn s = true ∧ s.pass.cstate = 1) ∧
    (∃ s : State, passOn s = true ∧ s.pass.cstate = 1 ∧ s.pass.recAt + 1000000 ≤ s.clk ∧ s.pass.ring = false ∧ s.pass.ownPos ≠ 0) ∧
    (∃ s : State, passOn s = true ∧ s.pass.cstate = 1 ∧ s.pass.recAt + 1000000 ≤ s.clk ∧ s.pass.ring = false ∧ s.pass.ownPos ≠ 0 ∧ s.pass.records = []) ∧
    (∃ s : State, passOn s = true ∧ s.pass.cstate = 1 ∧ s.pass.recAt + 1000000 ≤ s.clk ∧ s.pass.ring = false ∧ s.pass.ownPos ≠ 0 ∧ ∃ r, ∃ side, ∃ hops, ∃ at_, s.pass.records = [⟨r, side, hops, at_⟩] ∧ portLive s (b2n side) = true ∧ recKey r = recKey (ownRecord s) ∧ r.pos ≠ s.pass.ownPos ∧ r.pos ≠ 0) ∧
    (∃ s : State, passOn s = true ∧ passRole s = 3 ∧ serving s = true ∧ s.pass.gridOn = true ∧ s.pass.ecycle ≠ 0 ∧ s.pass.cycAt + s.pass.ecycle * 1000000 ≤ s.clk) ∧
    (∃ s : State, passOn s = true ∧ passRole s = 3 ∧ serving s = true ∧ s.pass.gridOn = false ∧ devtime s % 1000000 = 0) ∧
    (∃ s : State, passOn s = true ∧ s.pass.gridOn = true ∧ ∃ r, r = (gridOnward s) ∧ 2 ≤ passRole r ∧ serving r = true ∧ r.pass.slotAt ≠ some r.pass.cycle ∧ (passIn r = true → ∀ c ∈ r.pass.announced, numReached r.pass.cycle c.cycle = false) ∧ slotOffset r ≤ 10 * (r.clk - r.pass.cycAt)) ∧
    (∃ o : Fin 256, ∃ g : Fin 16, ∃ s : State, passOn s = true ∧ passIn s = true ∧ o.val ≠ s.pass.ownPos ∧ groupPlots s o.val g.val ≠ [] ∧ (tget {} s.pass.pub (o.val * 16 + g.val)).lost = false ∧ (tget {} s.pass.pub (o.val * 16 + g.val)).seen + passPtmo s ≤ s.pass.markers) ∧
    (∃ c : ChainChange, ∃ s : State, passIn s = true ∧ s.pass.gridOn = true ∧ (s.pass.announced.filter (fun c => numReached s.pass.cycle c.cycle) = [c]) ∧ ∃ left, left = (s.pass.announced.filter (· != c)) ∧ ∃ r, r = ({ s with pass := { s.pass with announced := left, late := s.pass.late.filter (· != c), applied := (c :: s.pass.applied).take 8 } }) ∧ c.kind = 2 ∧ u8 c.payload 0 ≠ 0) ∧
    (∃ c : ChainChange, ∃ s : State, passIn s = true ∧ s.pass.gridOn = true ∧ (s.pass.announced.filter (fun c => numReached s.pass.cycle c.cycle) = [c]) ∧ ∃ left, left = (s.pass.announced.filter (· != c)) ∧ ∃ r, r = ({ s with pass := { s.pass with announced := left, late := s.pass.late.filter (· != c), applied := (c :: s.pass.applied).take 8 } }) ∧ c.kind = 1) ∧
    (∃ c : ChainChange, ∃ s : State, passIn s = true ∧ s.pass.gridOn = true ∧ (s.pass.announced.filter (fun c => numReached s.pass.cycle c.cycle) = [c]) ∧ ∃ left, left = (s.pass.announced.filter (· != c)) ∧ ∃ r, r = ({ s with pass := { s.pass with announced := left, late := s.pass.late.filter (· != c), applied := (c :: s.pass.applied).take 8 } }) ∧ c.kind = 0 ∧ ∃ u, plotChange c.cmd c.tenant c.payload r = some u) ∧
    (∃ c : ChainChange, ∃ s : State, passIn s = true ∧ s.pass.gridOn = true ∧ (s.pass.announced.filter (fun c => numReached s.pass.cycle c.cycle) = [c]) ∧ ∃ left, left = (s.pass.announced.filter (· != c)) ∧ ∃ r, r = ({ s with pass := { s.pass with announced := left, late := s.pass.late.filter (· != c), applied := (c :: s.pass.applied).take 8 } }) ∧ 3 ≤ c.kind ∧ ∃ u, switchApply c r = some u) ∧
    (∃ c : ChainChange, ∃ s : State, passIn s = true ∧ s.pass.gridOn = true ∧ (s.pass.announced.filter (fun c => numReached s.pass.cycle c.cycle) = [c]) ∧ ∃ left, left = (s.pass.announced.filter (· != c)) ∧ ∃ r, r = ({ s with pass := { s.pass with announced := left, late := s.pass.late.filter (· != c), applied := (c :: s.pass.applied).take 8 } }) ∧ c.kind = 0 ∧ plotChange c.cmd c.tenant c.payload r = none) ∧
    (∃ ch : Fin 16, ∃ w : Word, ∃ s : State, tenantOf s ch = 0 ∧ updating s = false ∧ devMode s = 1 ∧ ∃ c, c = (setBit (w &&& 0xFFFFFFFF0000#48) 38 true) ∧ 1 ≤ fld c 47 40 ∧ 1 ≤ fld c 34 28 ∧ fld c 34 28 ≤ 100 ∧ 2 ≤ fld c 27 24 ∧ 10 ≤ fld c 23 16 ∧ fld c 23 16 ≤ 200 ∧ passOn s = false ∧ Asked .mbPassSet ch ([1#8] ++ wB w) s) ∧
    (∃ ch : Fin 16, ∃ w : Word, ∃ s : State, tenantOf s ch = 0 ∧ updating s = false ∧ devMode s = 1 ∧ ∃ c, c = (setBit (w &&& 0xFFFFFFFF0000#48) 38 true) ∧ 1 ≤ fld c 47 40 ∧ 1 ≤ fld c 34 28 ∧ fld c 34 28 ≤ 100 ∧ 2 ≤ fld c 27 24 ∧ 10 ≤ fld c 23 16 ∧ fld c 23 16 ≤ 200 ∧ passOn s = true ∧ bit c 39 = true ∧ fld s.pass.cfg 47 35 = fld (setBit c 38 (bit s.pass.cfg 38)) 47 35 ∧ (fld s.pass.cfg 34 28 ≠ fld c 34 28 ∨ fld s.pass.cfg 27 24 ≠ fld c 27 24) ∧ s.pair.applying = false ∧ s.pass.cstate = 2 ∧ chainPending s < 8 ∧ Asked .mbPassSet ch ([1#8] ++ wB w) s) ∧
    (∃ ch : Fin 16, ∃ s : State, NotCarried s ch ∧ Asked .mbPassStat ch [] s) ∧
    (∃ ch : Fin 16, ∃ s : State, NotCarried s ch ∧ ∃ a : Byte, ∃ c : Byte, 1 ≤ a.toNat ∧ 1 ≤ c.toNat ∧ c.toNat ≤ 64 ∧ a.toNat + c.toNat ≤ 256 ∧ Asked .mbPassMembers ch [a, c] s) ∧
    (∃ ch : Fin 16, ∃ s : State, NotCarried s ch ∧ Asked .mbPassBudget ch [] s) ∧
    (∃ ch : Fin 16, ∃ s : State, tenantOf s ch = 0 ∧ updating s = false ∧ passOn s = true ∧ Asked .mbPassInaug ch [] s) :=
  ⟨⟨({ passLive with pass := { (passLive).pass with cstate := 1, recAt := 2000000000 } }), by decide +kernel⟩,
   ⟨({ passLive with pass := { (passLive).pass with cstate := 1, recAt := 2000000000 } }), by decide +kernel⟩,
   ⟨({ passLive with pass := { (passLive).pass with cstate := 1, recAt := 2000000000 } }), by decide +kernel⟩,
   ⟨({ passLive with pass := { (passLive).pass with cstate := 1, recAt := 2000000000, records := [⟨{ownRecord passLive with pos := 2, passId := 77}, false, 1, 5⟩] } }), by decide +kernel, by decide +kernel, by decide +kernel, by decide +kernel, ⟨by decide +kernel, {ownRecord passLive with pos := 2, passId := 77}, false, 1, 5, rfl, by decide +kernel, (by simp only [recKey, ownRecord, chainHash, passCycleMs, passPtmo, plotOwn, getPlot]), by decide +kernel⟩⟩,
   ⟨({ passLive with pass := { (passLive).pass with cstate := 3, master := 1 } }), by decide +kernel⟩,
   ⟨({ ({ passLive with clk := 2001000000 }) with pass := { (({ passLive with clk := 2001000000 })).pass with cstate := 3, master := 1, gridOn := false } }), by decide +kernel⟩,
   ⟨passLive, by decide +kernel, by decide +kernel, _, rfl, by decide +kernel⟩,
   ⟨2, 15, ({ passLive with pass := { (passLive).pass with pub := [(47, { seen := 47 })] } }), by decide +kernel⟩,
   ⟨⟨2, 0, 0, [20#8], 5⟩, ({ passLive with pass := { (passLive).pass with cycle := 7, announced := [⟨2, 0, 0, [20#8], 5⟩] } }), by decide +kernel, by decide +kernel, by decide +kernel, _, rfl, _, rfl, by decide +kernel⟩,
   ⟨⟨1, 0x0A30, 0, [1#8] ++ wB (wd (2^40 + 2^39 + 20 * 2^28 + 5 * 2^24 + 100 * 2^16)), 7⟩, ({ passLive with pass := { (passLive).pass with cycle := 7, announced := [⟨1, 0x0A30, 0, [1#8] ++ wB (wd (2^40 + 2^39 + 20 * 2^28 + 5 * 2^24 + 100 * 2^16)), 7⟩] } }), by decide +kernel, by decide +kernel, by decide +kernel, _, rfl, _, rfl, by decide +kernel⟩,
   ⟨(⟨0, 0x0304, 0, (toBe 2 20 ++ [0#8, 3#8, 2#8]), 7⟩ : ChainChange), ({ passLive with pass := { passLive.pass with cycle := 7, announced := [(⟨0, 0x0304, 0, (toBe 2 20 ++ [0#8, 3#8, 2#8]), 7⟩ : ChainChange)] } }), by decide +kernel, by decide +kernel, by decide +kernel, _, rfl, _, rfl, by decide +kernel, ((plotChange 0x0304 0 (toBe 2 20 ++ [0#8, 3#8, 2#8]) ({ ({ passLive with pass := { passLive.pass with cycle := 7, announced := [(⟨0, 0x0304, 0, (toBe 2 20 ++ [0#8, 3#8, 2#8]), 7⟩ : ChainChange)] } }) with pass := { ({ passLive with pass := { passLive.pass with cycle := 7, announced := [(⟨0, 0x0304, 0, (toBe 2 20 ++ [0#8, 3#8, 2#8]), 7⟩ : ChainChange)] } }).pass with announced := [], late := [], applied := ((⟨0, 0x0304, 0, (toBe 2 20 ++ [0#8, 3#8, 2#8]), 7⟩ : ChainChange) :: ({ passLive with pass := { passLive.pass with cycle := 7, announced := [(⟨0, 0x0304, 0, (toBe 2 20 ++ [0#8, 3#8, 2#8]), 7⟩ : ChainChange)] } }).pass.applied).take 8 } })).getD State.reset), by decide +kernel⟩,
   ⟨(⟨3, 0x0503, 0, chainSwitch passLive [0xFE, 0xFE, 0xFE, 0xFE], 7⟩ : ChainChange), ({ passLive with pass := { passLive.pass with cycle := 7, announced := [(⟨3, 0x0503, 0, chainSwitch passLive [0xFE, 0xFE, 0xFE, 0xFE], 7⟩ : ChainChange)] } }), by decide +kernel, by decide +kernel, by decide +kernel, _, rfl, _, rfl, by decide +kernel, ((switchApply (⟨3, 0x0503, 0, chainSwitch passLive [0xFE, 0xFE, 0xFE, 0xFE], 7⟩ : ChainChange) ({ ({ passLive with pass := { passLive.pass with cycle := 7, announced := [(⟨3, 0x0503, 0, chainSwitch passLive [0xFE, 0xFE, 0xFE, 0xFE], 7⟩ : ChainChange)] } }) with pass := { ({ passLive with pass := { passLive.pass with cycle := 7, announced := [(⟨3, 0x0503, 0, chainSwitch passLive [0xFE, 0xFE, 0xFE, 0xFE], 7⟩ : ChainChange)] } }).pass with announced := [], late := [], applied := ((⟨3, 0x0503, 0, chainSwitch passLive [0xFE, 0xFE, 0xFE, 0xFE], 7⟩ : ChainChange) :: ({ passLive with pass := { passLive.pass with cycle := 7, announced := [(⟨3, 0x0503, 0, chainSwitch passLive [0xFE, 0xFE, 0xFE, 0xFE], 7⟩ : ChainChange)] } }).pass.applied).take 8 } })).getD State.reset), by decide +kernel⟩,
   ⟨(⟨0, 0x0304, 0, (toBe 2 5 ++ [0#8, 3#8, 2#8]), 7⟩ : ChainChange), ({ passLive with pass := { passLive.pass with cycle := 7, announced := [(⟨0, 0x0304, 0, (toBe 2 5 ++ [0#8, 3#8, 2#8]), 7⟩ : ChainChange)] } }), by decide +kernel, by decide +kernel, by decide +kernel, _, rfl, _, rfl, by decide +kernel⟩,
   ⟨0, (wd (255 * 2^40 + 2^39 + 100 * 2^28 + 15 * 2^24 + 10 * 2^16)), (asks 0x0A30 (0 : Fin 16) ([1#8] ++ wB ((wd (255 * 2^40 + 2^39 + 100 * 2^28 + 15 * 2^24 + 10 * 2^16)) : Word)) (({ live with task := { live.task with dev := 1 } }) : State)), by decide +kernel, by decide +kernel, by decide +kernel, _, rfl, by decide +kernel, by decide +kernel, by decide +kernel, by decide +kernel, ⟨by decide +kernel, by decide +kernel, by decide +kernel, asked_asks rfl⟩⟩,
   ⟨0, (wd (2^40 + 2^39 + 100 * 2^28 + 15 * 2^24 + 10 * 2^16)), (asks 0x0A30 (0 : Fin 16) ([1#8] ++ wB ((wd (2^40 + 2^39 + 100 * 2^28 + 15 * 2^24 + 10 * 2^16)) : Word)) (({ passLive with task := { passLive.task with dev := 1 } }) : State)), by decide +kernel, by decide +kernel, by decide +kernel, _, rfl, by decide +kernel, by decide +kernel, by decide +kernel, by decide +kernel, ⟨by decide +kernel, by decide +kernel, by decide +kernel, by decide +kernel, by decide +kernel, ⟨by decide +kernel, by decide +kernel, by decide +kernel, by decide +kernel, asked_asks rfl⟩⟩⟩,
   ⟨1, (asks 0x0A31 (1 : Fin 16) [] passLive), forall_some (by decide +kernel), asked_asks rfl⟩,
   ⟨1, (asks 0x0A32 (1 : Fin 16) [(192#8 : Byte), (64#8 : Byte)] passLive), forall_some (by decide +kernel), (192#8), (64#8), by decide +kernel, by decide +kernel, by decide +kernel, by decide +kernel, asked_asks rfl⟩,
   ⟨1, (asks 0x0A33 (1 : Fin 16) [] passLive), forall_some (by decide +kernel), asked_asks rfl⟩,
   ⟨0, (asks 0x0A34 (0 : Fin 16) [] passLive), by decide +kernel, by decide +kernel, by decide +kernel, asked_asks rfl⟩⟩

theorem witness_PairUnitsFollowEachOther :
    (∃ s : State, pairRuns s = true ∧ s.pair.sentAt + 2000 ≤ s.clk) ∧
    (∃ s : State, pairRuns s = true ∧ pairBmac s ≠ 3 ∧ macOn (getMac s (pairBmac s)) = true ∧ (getMac s (pairBmac s)).up = true ∧ s.pair.beaconAt + pairBper s * 1000000 ≤ s.clk) ∧
    (∃ v : Volley, ∃ s : State, pairRuns s = true ∧ v.crcOk = false) ∧
    (∃ v : Volley, ∃ s : State, pairRuns s = true ∧ v.crcOk = true ∧ s.pair.rstate = 4) ∧
    (∃ v : Volley, ∃ s : State, pairRuns s = true ∧ v.crcOk = true ∧ s.pair.rstate = 1 ∧ (v.rstate = 2 ∨ v.rstate = 3)) ∧
    (∃ v : Volley, ∃ s : State, pairRuns s = true ∧ v.crcOk = true ∧ s.pair.rstate = 1 ∧ (v.rstate = 2 ∨ v.rstate = 3)) ∧
    (∃ v : Volley, ∃ s : State, pairRuns s = true ∧ v.crcOk = true ∧ s.pair.rstate = 1 ∧ (v.rstate = 2 ∨ v.rstate = 3)) ∧
    (∃ v : Volley, ∃ s : State, pairRuns s = true ∧ v.crcOk = true ∧ s.pair.rstate = 1 ∧ v.rstate = 1 ∧ s.pair.srvLvl = false ∧ (v.innings < s.silo.innings ∨ (v.innings = s.silo.innings ∧ s.pair.unitB = false))) ∧
    (∃ v : Volley, ∃ s : State, pairRuns s = true ∧ v.crcOk = true ∧ s.pair.rstate = 1 ∧ v.rstate = 1 ∧ s.pair.srvLvl = false ∧ (v.innings < s.silo.innings ∨ (v.innings = s.silo.innings ∧ s.pair.unitB = false))) ∧
    (∃ v : Volley, ∃ s : State, pairRuns s = true ∧ v.crcOk = true ∧ s.pair.rstate = 3 ∧ v.rstate = 5) ∧
    (∃ v : Volley, ∃ s : State, pairRuns s = true ∧ v.crcOk = true ∧ s.pair.rstate = 3 ∧ v.rstate ≠ 5 ∧ v.rstate ≠ 2 ∧ v.rstate ≠ 3) ∧
    (∃ v : Volley, ∃ s : State, pairRuns s = true ∧ v.crcOk = true ∧ s.pair.rstate = 2 ∧ v.rstate = 5 ∧ s.pair.finalSent = true) ∧
    (∃ v : Volley, ∃ s : State, pairRuns s = true ∧ v.crcOk = true ∧ (s.pair.rstate = 2 ∨ s.pair.rstate = 3) ∧ (v.rstate = 2 ∨ v.rstate = 3)) ∧
    (∃ v : Volley, ∃ s : State, pairRuns s = true ∧ v.crcOk = true ∧ (s.pair.rstate = 2 ∨ s.pair.rstate = 3) ∧ (v.rstate = 2 ∨ v.rstate = 3)) ∧
    (∃ v : Volley, ∃ s : State, pairRuns s = true ∧ v.crcOk = true ∧ (s.pair.rstate = 2 ∨ s.pair.rstate = 3) ∧ (v.rstate = 2 ∨ v.rstate = 3)) ∧
    (∃ v : Volley, ∃ s : State, pairRuns s = true ∧ v.crcOk = true ∧ s.pair.rstate = 5 ∧ ((pairMismatch (hearVolley v s)).1 ≠ 0)) ∧
    (∃ a : Nat, ∃ s : State, pairRuns s = true ∧ s.pair.volleyAt = some a ∧ a + 8000 ≤ s.clk ∧ s.pair.syncOk = false) ∧
    (∃ a : Nat, ∃ s : State, pairRuns s = true ∧ s.pair.volleyAt = some a ∧ a + 8000 ≤ s.clk ∧ s.pair.syncOk = true ∧ s.pair.aliveOk = true) ∧
    (∃ a : Nat, ∃ s : State, pairRuns s = true ∧ s.pair.volleyAt = some a ∧ a + 8000 ≤ s.clk ∧ s.pair.syncOk = true ∧ s.pair.aliveOk = false ∧ s.pair.rstate = 5 ∧ s.pair.pRstate ≠ 5) ∧
    (∃ a : Nat, ∃ s : State, pairRuns s = true ∧ s.pair.volleyAt = some a ∧ a + 8000 ≤ s.clk ∧ s.pair.syncOk = true ∧ s.pair.aliveOk = false ∧ s.pair.rstate = 3) ∧
    (∃ s : State, pairRuns s = true ∧ s.pair.aliveOk = true ∧ s.pair.syncOk = true) ∧
    (∃ s : State, pairRuns s = true ∧ s.pair.aliveOk = true ∧ s.pair.syncOk = false ∧ s.pair.rstate = 5 ∧ s.pair.pRstate ≠ 5) ∧
    (∃ s : State, pairRuns s = true ∧ s.pair.aliveOk = false) ∧
    (∃ s : State, pairRuns s = true ∧ s.pair.srvLvl = true) ∧
    (∃ s : State, pairRuns s = true ∧ s.pair.srvLvl = false ∧ s.pair.rstate = 1) ∧
    (∃ s : State, pairRuns s = true ∧ s.pair.srvLvl = false ∧ (s.pair.rstate = 2 ∨ s.pair.rstate = 3) ∧ s.pair.pRstate ≠ 5 ∧ s.silo.innings < s.pair.pinn) ∧
    (∃ a : Nat, ∃ s : State, pairRuns s = true ∧ s.pair.srvBad = some a ∧ s.pair.srvOk = true ∧ a + 100000 ≤ s.clk) ∧
    (∃ s : State, pairRuns s = true ∧ s.pair.rstate = 1 ∧ s.pair.srvLvl = false ∧ s.pair.aliveOk = false ∧ s.pair.heardAt + 50000000 ≤ s.clk) ∧
    (∃ b : Beacon, ∃ s : State, pairRuns s = true ∧ b.crcOk = true ∧ b.rstate ≠ 2 ∧ b.rstate ≠ 3) ∧
    (∃ b : Beacon, ∃ s : State, pairRuns s = true ∧ b.crcOk = true ∧ (b.rstate = 2 ∨ b.rstate = 3) ∧ (s.pair.rstate = 2 ∨ s.pair.rstate = 3) ∧ s.silo.innings < b.innings) ∧
    (∃ b : Beacon, ∃ s : State, pairRuns s = true ∧ b.crcOk = false) ∧
    (∃ n : Nat, ∃ ok : Bool, ∃ r : PairRec, ∃ s : State, pairRuns s = true ∧ ((s.pair.rstate ≠ 4 ∧ s.pair.rstate ≠ 5 ∧ s.pair.rstate ≠ 7) ∨ (s.pair.pRstate ≠ 2 ∧ s.pair.pRstate ≠ 3))) ∧
    (∃ n : Nat, ∃ ok : Bool, ∃ r : PairRec, ∃ s : State, pairRuns s = true ∧ ((s.pair.rstate ≠ 4 ∧ s.pair.rstate ≠ 5 ∧ s.pair.rstate ≠ 7) ∨ (s.pair.pRstate ≠ 2 ∧ s.pair.pRstate ≠ 3))) ∧
    (∃ n : Nat, ∃ s : State, pairRuns s = true ∧ (s.pair.rstate = 4 ∨ s.pair.rstate = 5 ∨ s.pair.rstate = 7) ∧ (s.pair.pRstate = 2 ∨ s.pair.pRstate = 3)) ∧
    (∃ n : Nat, ∃ s : State, pairRuns s = true ∧ (s.pair.rstate = 4 ∨ s.pair.rstate = 5 ∨ s.pair.rstate = 7) ∧ (s.pair.pRstate = 2 ∨ s.pair.pRstate = 3) ∧ s.pair.rxNew = false ∧ n = (s.pair.rxNum + 1) % 2 ^ 32 ∧ ∃ w : Nat, ∃ x : Word, tget none s.task.force w = none) ∧
    (∃ n : Nat, ∃ s : State, pairRuns s = true ∧ (s.pair.rstate = 4 ∨ s.pair.rstate = 5 ∨ s.pair.rstate = 7) ∧ (s.pair.pRstate = 2 ∨ s.pair.pRstate = 3) ∧ s.pair.rxNew = false ∧ n = (s.pair.rxNum + 1) % 2 ^ 32 ∧ ∃ w : Nat, ∃ x : Word, tget none s.task.force w = none) ∧
    (∃ n : Nat, ∃ s : State, pairRuns s = true ∧ (s.pair.rstate = 4 ∨ s.pair.rstate = 5 ∨ s.pair.rstate = 7) ∧ (s.pair.pRstate = 2 ∨ s.pair.pRstate = 3) ∧ s.pair.rxNew = false ∧ n = (s.pair.rxNum + 1) % 2 ^ 32 ∧ s.pair.rstate = 5) ∧
    (∃ n : Nat, ∃ s : State, pairRuns s = true ∧ (s.pair.rstate = 4 ∨ s.pair.rstate = 5 ∨ s.pair.rstate = 7) ∧ (s.pair.pRstate = 2 ∨ s.pair.pRstate = 3) ∧ s.pair.rxNew = false ∧ n = (s.pair.rxNum + 1) % 2 ^ 32) ∧
    (∃ n : Nat, ∃ s : State, pairRuns s = true ∧ (s.pair.rstate = 4 ∨ s.pair.rstate = 5 ∨ s.pair.rstate = 7) ∧ (s.pair.pRstate = 2 ∨ s.pair.pRstate = 3) ∧ s.pair.rxNew = false ∧ n ≠ (s.pair.rxNum + 1) % 2 ^ 32 ∧ numReached s.pair.rxNum n = false) ∧
    (∃ s : State, pairRuns s = true ∧ ∃ r, ∃ rs, s.pair.rstate = 3 ∧ s.pair.unacked = r :: rs ∧ r.at_ + 100000 ≤ s.clk) ∧
    (∃ s : State, pairRuns s = true ∧ ∃ a, s.pair.rstate = 5 ∧ s.pair.gapAt = some a ∧ a + 100000 ≤ s.clk) ∧
    (∃ r : PairRel, ∃ rs : List PairRel, ∃ s : State, pairRuns s = true ∧ s.pair.held = [] ∧ s.pair.releases = r :: rs ∧ taskEx s r.task = none ∧ s.pair.rstate = 5 ∧ numReached s.pair.lastUnit r.lastUnit = true ∧ numReached s.pair.lastCommit r.lastCommit = true) :=
  ⟨⟨(prLive 5), by decide +kernel⟩,
   ⟨(prLive 2), by decide +kernel⟩,
   ⟨({ vol 2 with rstate := 2 , crcOk := false } : Volley), (prLive 5), by decide +kernel⟩,
   ⟨({ vol 3 with rstate := 3 , expected := some 3, ack := 3 } : Volley), ({ (prLive 4) with pair := { ((prLive 4)).pair with unacked := [⟨3, 2000000000, .send 1 2 3⟩, ⟨4, 5, .send 1 2 4⟩] } }), by decide +kernel⟩,
   ⟨({ vol 2 with rstate := 2  } : Volley), (prLive 1), by decide +kernel⟩,
   ⟨({ vol 3 with rstate := 3 , progHash := 999 } : Volley), (prLive 1), by decide +kernel⟩,
   ⟨({ vol 2 with rstate := 2 , pairId := false } : Volley), (prLive 1), by decide +kernel⟩,
   ⟨({ vol 1 with rstate := 1  } : Volley), (prLive 1), by decide +kernel⟩,
   ⟨({ vol 1 with rstate := 1 , innings := 5 } : Volley), ({ (prLive 1) with pair := { ((prLive 1)).pair with unitB := true } }), by decide +kernel⟩,
   ⟨({ vol 5 with rstate := 5  } : Volley), (prLive 3), by decide +kernel⟩,
   ⟨({ vol 4 with rstate := 4  } : Volley), (prLive 3), by decide +kernel⟩,
   ⟨({ vol 5 with rstate := 5  } : Volley), ({ (prLive 2) with pair := { ((prLive 2)).pair with finalSent := true } }), by decide +kernel⟩,
   ⟨({ vol 2 with rstate := 2  } : Volley), ({ (prLive 3) with pair := { ((prLive 3)).pair with pRstate := 1 } }), by decide +kernel⟩,
   ⟨({ vol 2 with rstate := 2 , innings := 7 } : Volley), ({ (prLive 2) with pair := { ((prLive 2)).pair with pRstate := 1 } }), by decide +kernel⟩,
   ⟨({ vol 3 with rstate := 3  } : Volley), ({ (prLive 3) with pair := { ((prLive 3)).pair with pRstate := 1, unitB := true } }), by decide +kernel⟩,
   ⟨({ vol 3 with rstate := 3 , progHash := 999 } : Volley), (prLive 5), by decide +kernel⟩,
   ⟨2000990000, ({ (prLive 5) with pair := { ((prLive 5)).pair with syncOk := false } }), by decide +kernel⟩,
   ⟨2000990000, (prLive 5), by decide +kernel⟩,
   ⟨2000992000, ({ (prLive 5) with pair := { ((prLive 5)).pair with aliveOk := false, volleyAt := some 2000992000 } }), by decide +kernel⟩,
   ⟨2000990000, ({ (prLive 3) with pair := { ((prLive 3)).pair with aliveOk := false } }), by decide +kernel⟩,
   ⟨(prLive 2), by decide +kernel⟩,
   ⟨({ (prLive 5) with pair := { ((prLive 5)).pair with syncOk := false } }), by decide +kernel⟩,
   ⟨({ (prLive 5) with pair := { ((prLive 5)).pair with aliveOk := false } }), by decide +kernel⟩,
   ⟨({ (prLive 5) with pair := { ((prLive 5)).pair with srvLvl := true } }), by decide +kernel⟩,
   ⟨({ (prLive 1) with pair := { ((prLive 1)).pair with pRstate := 5 } }), by decide +kernel⟩,
   ⟨(prLive 2), by decide +kernel⟩,
   ⟨2000900000, ({ (prLive 5) with pair := { ((prLive 5)).pair with srvBad := some 2000900000, srvOk := true } }), by decide +kernel⟩,
   ⟨({ (prLive 1) with pair := { ((prLive 1)).pair with aliveOk := false } }), by decide +kernel⟩,
   ⟨⟨true, 5, 9, true⟩, (prLive 5), by decide +kernel⟩,
   ⟨⟨true, 2, 9, true⟩, (prLive 3), by decide +kernel⟩,
   ⟨⟨false, 2, 9, true⟩, (prLive 3), by decide +kernel⟩,
   ⟨11, true, (.send 1 2 3), (prLive 2), by decide +kernel⟩,
   ⟨11, false, (.send 1 2 3), ({ (prLive 5) with pair := { ((prLive 5)).pair with pRstate := 1 } }), by decide +kernel⟩,
   ⟨11, (prLive 5), by decide +kernel⟩,
   ⟨11, (prLive 5), by decide +kernel, by decide +kernel, by decide +kernel, by decide +kernel, ⟨by decide +kernel, 512, (9#48), by decide +kernel⟩⟩,
   ⟨11, (prLive 4), by decide +kernel, by decide +kernel, by decide +kernel, by decide +kernel, ⟨by decide +kernel, 512, (9#48), by decide +kernel⟩⟩,
   ⟨11, (prLive 5), by decide +kernel⟩,
   ⟨11, (prLive 7), by decide +kernel⟩,
   ⟨12, (prLive 7), by decide +kernel⟩,
   ⟨({ (prLive 3) with pair := { ((prLive 3)).pair with unacked := [⟨3, 2000000000, .send 1 2 3⟩] } }), by decide +kernel, ⟨3, 2000000000, .send 1 2 3⟩, [], by decide +kernel⟩,
   ⟨({ (prLive 5) with pair := { ((prLive 5)).pair with gapAt := some 2000900000 } }), by decide +kernel, 2000900000, by decide +kernel⟩,
   ⟨⟨7, [1#48, 2#48], [3#48], 5, 6⟩, [], ({ (prLive 5) with pair := { ((prLive 5)).pair with releases := [⟨7, [1#48, 2#48], [3#48], 5, 6⟩], lastUnit := 5, lastCommit := 6 } }), by decide +kernel⟩⟩

theorem witness_PairResyncsAndHandsOver :
    (∃ r : ResyncPage, ∃ s : State, pairRuns s = true ∧ s.pair.resync ≠ none ∧ s.pair.rstate = 2 ∧ finalRound s = false ∧ ∃ ws, ws = (pagesToSend s.pair.sentData s) ∧ (r.final = false ∨ (liveTasks s = [] ∧ cyclicSoon s = false ∧ pageCount ws * 6144 ≤ 100000))) ∧
    (∃ r : ResyncPage, ∃ s : State, pairRuns s = true ∧ s.pair.resync ≠ none ∧ s.pair.rstate = 2 ∧ finalRound s = false ∧ ∃ ws, ws = (pagesToSend s.pair.sentData s) ∧ (r.final = false ∨ (liveTasks s = [] ∧ cyclicSoon s = false ∧ pageCount ws * 6144 ≤ 100000))) ∧
    (∃ r : ResyncPage, ∃ s : State, pairRuns s = true ∧ s.pair.resync ≠ none ∧ s.pair.rstate = 4 ∧ (s.pair.pRstate = 2 ∨ s.pair.pRstate = 3) ∧ (r.dataWords.map (·.1)).Nodup ∧ (r.image.map (·.1)).Nodup ∧ r.final = false) ∧
    (∃ r : ResyncPage, ∃ s : State, pairRuns s = true ∧ s.pair.resync ≠ none ∧ s.pair.rstate = 4 ∧ (s.pair.pRstate = 2 ∨ s.pair.pRstate = 3) ∧ (r.dataWords.map (·.1)).Nodup ∧ (r.image.map (·.1)).Nodup ∧ r.final = true ∧ ((pairMismatch s).1 = 0)) ∧
    (∃ r : ResyncPage, ∃ s : State, pairRuns s = true ∧ s.pair.resync ≠ none ∧ s.pair.rstate = 4 ∧ (s.pair.pRstate = 2 ∨ s.pair.pRstate = 3) ∧ (r.dataWords.map (·.1)).Nodup ∧ (r.image.map (·.1)).Nodup ∧ r.final = true ∧ ((pairMismatch s).1 ≠ 0)) ∧
    (∃ a : Nat, ∃ s : State, pairRuns s = true ∧ s.pair.resync = some a ∧ a + 10000000000 ≤ s.clk ∧ s.pair.rstate = 4 ∧ s.pair.failed < 2) ∧
    (∃ a : Nat, ∃ s : State, pairRuns s = true ∧ s.pair.resync = some a ∧ a + 10000000000 ≤ s.clk ∧ s.pair.rstate = 4 ∧ 2 ≤ s.pair.failed) ∧
    (∃ a : Nat, ∃ s : State, pairRuns s = true ∧ s.pair.resync = some a ∧ a + 10000000000 ≤ s.clk ∧ s.pair.rstate ≠ 4) ∧
    (∃ a : Nat, ∃ s : State, pairRuns s = true ∧ s.pair.retryAt = some a ∧ a ≤ s.clk ∧ (s.pair.rstate = 4 ∨ (s.pair.rstate = 2 ∧ s.pair.pRstate = 4))) ∧
    (∃ a : Nat, ∃ s : State, pairRuns s = true ∧ s.pair.retryAt = some a ∧ a ≤ s.clk ∧ (s.pair.rstate = 4 ∨ (s.pair.rstate = 2 ∧ s.pair.pRstate = 4))) ∧
    (∃ h : Handover, ∃ s : State, pairRuns s = true ∧ handoverIdle s = true ∧ s.pair.handover = some h ∧ h.swap = false ∧ h.at_ + 10000 ≤ s.clk ∧ s.pair.rstate = 3 ∧ s.pair.unacked = []) ∧
    (∃ h : Handover, ∃ s : State, pairRuns s = true ∧ handoverIdle s = true ∧ s.pair.handover = some h ∧ h.swap = false ∧ h.at_ + 10000 ≤ s.clk ∧ s.pair.rstate = 5) ∧
    (∃ h : Handover, ∃ s : State, pairRuns s = true ∧ handoverIdle s = true ∧ s.pair.handover = some h ∧ h.swap = true ∧ h.paged = none ∧ s.pair.rstate = 2) ∧
    (∃ h : Handover, ∃ s : State, pairRuns s = true ∧ handoverIdle s = true ∧ s.pair.handover = some h ∧ h.swap = true ∧ ∃ a, h.paged = some a ∧ a + 510000 ≤ s.clk ∧ s.pair.rstate = 2) ∧
    (∃ h : Handover, ∃ s : State, pairRuns s = true ∧ handoverIdle s = true ∧ s.pair.handover = some h ∧ h.swap = true ∧ ∃ a, h.paged = some a ∧ a + 510000 ≤ s.clk ∧ s.pair.rstate = 7) ∧
    (∃ ch : Fin 16, ∃ c : Word, ∃ q : Word, ∃ s : State, tenantOf s ch = 0 ∧ updating s = false ∧ 1 ≤ fld c 42 40 ∧ fld c 42 40 ≤ 5 ∧ ∃ cfg, cfg = (setBit (c &&& 0xFF0000000000#48) 46 true) ∧ bit cfg 47 = bit s.pair.cfg 47 ∧ Asked .mbPairSet ch ([1#8] ++ wB c ++ wB q) s) ∧
    (∃ ch : Fin 16, ∃ c : Word, ∃ q : Word, ∃ s : State, tenantOf s ch = 0 ∧ updating s = false ∧ 1 ≤ fld c 42 40 ∧ fld c 42 40 ≤ 5 ∧ ∃ cfg, cfg = (setBit (c &&& 0xFF0000000000#48) 46 true) ∧ devMode s = 1 ∧ bit cfg 47 ≠ bit s.pair.cfg 47 ∧ s.task.dispAt ≠ none ∧ Asked .mbPairSet ch ([1#8] ++ wB c ++ wB q) s) ∧
    (∃ ch : Fin 16, ∃ s : State, NotCarried s ch ∧ Asked .mbPairStat ch [] s) ∧
    (∃ ch : Fin 16, ∃ s : State, tenantOf s ch = 0 ∧ updating s = false ∧ s.pair.rstate = 6 ∧ causeHolds s = false ∧ Asked .mbPairResync ch [] s) ∧
    (∃ ch : Fin 16, ∃ s : State, tenantOf s ch = 0 ∧ updating s = false ∧ s.pair.rstate = 3 ∧ s.pair.handover = none ∧ Asked .mbPairSwitch ch [] s) ∧
    (∃ ch : Fin 16, ∃ s : State, tenantOf s ch = 0 ∧ updating s = false ∧ s.pair.rstate = 6 ∧ pairRuns s = true ∧ s.pair.mcause = 6 ∧ s.pair.cfgBad = none ∧ (s.pair.pRstate = 2 ∨ s.pair.pRstate = 3) ∧ ((pairMismatch s).1 = 0) ∧ ∃ r : ResyncPage, r.final = true ∧ Asked .mbPairResync ch [] s) ∧
    (∃ ch : Fin 16, ∃ s : State, tenantOf s ch = 0 ∧ updating s = false ∧ s.pair.rstate = 3 ∧ pairRuns s = true ∧ s.pair.handover = none ∧ handoverIdle s = true ∧ Asked .mbPairSwitch ch [] s) ∧
    (∃ ch : Fin 16, ∃ s : State, tenantOf s ch = 0 ∧ updating s = false ∧ s.pair.rstate = 5 ∧ s.pair.handover = none ∧ Asked .mbPairSwapBegin ch [1#8] s) ∧
    (∃ ch : Fin 16, ∃ s : State, tenantOf s ch = 0 ∧ updating s = false ∧ s.pair.rstate ≠ 5 ∧ Asked .mbPairSwapBegin ch [1#8] s) ∧
    (∃ ch : Fin 16, ∃ s : State, tenantOf s ch = 0 ∧ updating s = false ∧ ∃ q, s.pair.rstate = 7 ∧ s.pair.swap = 1 ∧ s.ovl.job = none ∧ loadedBank s 1 s.flash.boot.fw = s.flash.boot.fw ∧ loadedBank s 2 s.flash.boot.prog ≠ s.flash.boot.prog ∧ bankProg s (loadedBank s 2 s.flash.boot.prog) = .ok q ∧ bootFits s = true ∧ Asked .mbPairSwapPreview ch [2#8] s) ∧
    (∃ ch : Fin 16, ∃ s : State, tenantOf s ch = 0 ∧ updating s = false ∧ s.pair.rstate = 7 ∧ s.pair.swap = 3 ∧ s.pair.handover = none ∧ Asked .mbPairSwapCommit ch [3#8] s) ∧
    (∃ ch : Fin 16, ∃ s : State, tenantOf s ch = 0 ∧ updating s = false ∧ s.pair.rstate = 7 ∧ s.pair.swap = 3 ∧ pairRuns s = true ∧ s.pair.handover = none ∧ handoverIdle s = true ∧ serves2 s.pair.pRstate = false ∧ Asked .mbPairSwapCommit ch [3#8] s) ∧
    (∃ ch : Fin 16, ∃ s : State, tenantOf s ch = 0 ∧ updating s = false ∧ s.pair.rstate = 7 ∧ s.pair.swap < 2 ∧ s.pair.handover = none ∧ Asked .mbPairSwapAbort ch [4#8] s) :=
  ⟨⟨({ page0 with final := false } : ResyncPage), ({ (prLive 2) with pair := { ((prLive 2)).pair with resync := some 5 } }), by decide +kernel, by decide +kernel, by decide +kernel, by decide +kernel, ⟨_, rfl, by decide +kernel⟩⟩,
   ⟨page0, ({ ({ (prLive 2) with task := { ((prLive 2)).task with ent := [] } }) with pair := { (({ (prLive 2) with task := { ((prLive 2)).task with ent := [] } })).pair with resync := some 5 } }), by decide +kernel, by decide +kernel, by decide +kernel, by decide +kernel, ⟨_, rfl, by decide +kernel⟩⟩,
   ⟨({ page0 with final := false } : ResyncPage), ({ (prLive 4) with pair := { ((prLive 4)).pair with resync := some 5 } }), by decide +kernel⟩,
   ⟨page0, ({ (prLive 4) with pair := { ((prLive 4)).pair with resync := some 5, waitCh := some 3, pUnitB := true, pFw := live.flash.fwVersion, pProg := live.prog.hash, pCfg := live.ovl.hash } }), by decide +kernel⟩,
   ⟨page0, ({ (prLive 4) with pair := { ((prLive 4)).pair with resync := some 5, pProg := 999, pFw := live.flash.fwVersion } }), by decide +kernel⟩,
   ⟨1, ({ ({ (prLive 4) with pair := { ((prLive 4)).pair with resync := some 1, failed := 1 } }) with clk := 10000000001 }), by decide +kernel⟩,
   ⟨1, ({ ({ (prLive 4) with pair := { ((prLive 4)).pair with resync := some 1, failed := 2 } }) with clk := 10000000001 }), by decide +kernel⟩,
   ⟨1, ({ ({ (prLive 2) with pair := { ((prLive 2)).pair with resync := some 1, failed := 2 } }) with clk := 10000000001 }), by decide +kernel⟩,
   ⟨2001000000, ({ (prLive 4) with pair := { ((prLive 4)).pair with retryAt := some 2001000000 } }), by decide +kernel⟩,
   ⟨2001000000, ({ (prLive 2) with pair := { ((prLive 2)).pair with retryAt := some 2001000000, pRstate := 4 } }), by decide +kernel⟩,
   ⟨⟨2000990000, some 3, false, none⟩, ({ (prLive 3) with pair := { ((prLive 3)).pair with handover := some ⟨2000990000, some 3, false, none⟩ } }), by decide +kernel⟩,
   ⟨⟨2000990000, none, false, none⟩, ({ (prLive 5) with pair := { ((prLive 5)).pair with handover := some ⟨2000990000, none, false, none⟩ } }), by decide +kernel⟩,
   ⟨⟨2000990000, none, true, none⟩, ({ (prLive 2) with pair := { ((prLive 2)).pair with handover := some ⟨2000990000, none, true, none⟩ } }), by decide +kernel⟩,
   ⟨⟨2000490000, none, true, some 2000490000⟩, ({ (prLive 2) with pair := { ((prLive 2)).pair with handover := some ⟨2000490000, none, true, some 2000490000⟩ } }), by decide +kernel, by decide +kernel, by decide +kernel, by decide +kernel, ⟨2000490000, by decide +kernel⟩⟩,
   ⟨⟨2000490000, some 3, true, some 2000490000⟩, ({ (prLive 7) with pair := { ((prLive 7)).pair with handover := some ⟨2000490000, some 3, true, some 2000490000⟩ } }), by decide +kernel, by decide +kernel, by decide +kernel, by decide +kernel, ⟨2000490000, by decide +kernel⟩⟩,
   ⟨0, (wd (2^47 + 2^45 + 3 * 2^43 + 5 * 2^40 + 9)), (wd (2^48 - 1)), (asks 0x0A01 (0 : Fin 16) ([1#8] ++ wB ((wd (2^47 + 2^45 + 3 * 2^43 + 5 * 2^40 + 9)) : Word) ++ wB ((wd (2^48 - 1)) : Word)) ((prLive 2) : State)), by decide +kernel, by decide +kernel, by decide +kernel, by decide +kernel, ⟨_, rfl, by decide +kernel, asked_asks rfl⟩⟩,
   ⟨0, (wd (2^47 + 1 * 2^40)), (0#48), (asks 0x0A01 (0 : Fin 16) ([1#8] ++ wB ((wd (2^47 + 1 * 2^40)) : Word) ++ wB (0#48 : Word)) (({ ({ live with clk := 5 }) with task := { (({ live with clk := 5 })).task with dev := 1 } }) : State)), by decide +kernel, by decide +kernel, by decide +kernel, by decide +kernel, ⟨_, rfl, by decide +kernel, by decide +kernel, by decide +kernel, asked_asks rfl⟩⟩,
   ⟨1, (asks 0x0A02 (1 : Fin 16) [] ((prLive 5) : State)), forall_some (by decide +kernel), asked_asks rfl⟩,
   ⟨0, (asks 0x0A03 (0 : Fin 16) [] ((prLive 6) : State)), by decide +kernel, by decide +kernel, by decide +kernel, by decide +kernel, asked_asks rfl⟩,
   ⟨0, (asks 0x0A04 (0 : Fin 16) [] ((prLive 3) : State)), by decide +kernel, by decide +kernel, by decide +kernel, by decide +kernel, asked_asks rfl⟩,
   ⟨0, (asks 0x0A03 (0 : Fin 16) [] (({ (prLive 6) with pair := { ((prLive 6)).pair with mcause := 6, pRstate := 2, pUnitB := true, pFw := live.flash.fwVersion, pProg := live.prog.hash, pCfg := live.ovl.hash } }) : State)), by decide +kernel, by decide +kernel, by decide +kernel, by decide +kernel, ⟨by decide +kernel, by decide +kernel, by decide +kernel, by decide +kernel, page0, by decide +kernel, asked_asks rfl⟩⟩,
   ⟨0, (asks 0x0A04 (0 : Fin 16) [] (({ ({ (prLive 3) with task := { ((prLive 3)).task with ent := [] } }) with pair := { (({ (prLive 3) with task := { ((prLive 3)).task with ent := [] } })).pair with  } }) : State)), by decide +kernel, by decide +kernel, by decide +kernel, by decide +kernel, ⟨by decide +kernel, by decide +kernel, asked_asks rfl⟩⟩,
   ⟨0, (asks 0x0A05 (0 : Fin 16) [1#8] ((prLive 5) : State)), by decide +kernel, by decide +kernel, by decide +kernel, by decide +kernel, asked_asks rfl⟩,
   ⟨0, (asks 0x0A05 (0 : Fin 16) [1#8] ((asks 0x0A05 0 [1#8] (prLive 3)) : State)), by decide +kernel, by decide +kernel, by decide +kernel, asked_asks rfl⟩,
   ⟨0, (asks 0x0A05 (0 : Fin 16) [2#8] (({ prLive 7 with pair := { (prLive 7).pair with swap := 1 }, flash := { (prLive 7).flash with block := [cpy 2 1 progB] } }) : State)), by decide +kernel, by decide +kernel, (match bankProg ({ prLive 7 with pair := { (prLive 7).pair with swap := 1 }, flash := { (prLive 7).flash with block := [cpy 2 1 progB] } }) (loadedBank ({ prLive 7 with pair := { (prLive 7).pair with swap := 1 }, flash := { (prLive 7).flash with block := [cpy 2 1 progB] } }) 2 ({ prLive 7 with pair := { (prLive 7).pair with swap := 1 }, flash := { (prLive 7).flash with block := [cpy 2 1 progB] } }).flash.boot.prog) with | .ok q => q | .error _ => {}), by decide +kernel, by decide +kernel, by decide +kernel, by decide +kernel, ⟨by decide +kernel, (by decide +kernel), by decide +kernel, asked_asks rfl⟩⟩,
   ⟨0, (asks 0x0A05 (0 : Fin 16) [3#8] (({ (prLive 7) with pair := { ((prLive 7)).pair with swap := 3 } }) : State)), by decide +kernel, by decide +kernel, by decide +kernel, by decide +kernel, ⟨by decide +kernel, asked_asks rfl⟩⟩,
   ⟨0, (asks 0x0A05 (0 : Fin 16) [3#8] (({ ({ (prLive 7) with task := { ((prLive 7)).task with ent := [] } }) with pair := { (({ (prLive 7) with task := { ((prLive 7)).task with ent := [] } })).pair with swap := 3, pRstate := 1 } }) : State)), by decide +kernel, by decide +kernel, by decide +kernel, by decide +kernel, ⟨by decide +kernel, by decide +kernel, by decide +kernel, by decide +kernel, asked_asks rfl⟩⟩,
   ⟨0, (asks 0x0A05 (0 : Fin 16) [4#8] (({ (prLive 7) with pair := { ((prLive 7)).pair with swap := 1 } }) : State)), by decide +kernel, by decide +kernel, by decide +kernel, by decide +kernel, ⟨by decide +kernel, asked_asks rfl⟩⟩⟩

theorem witness_OverlayTransitions :
    (∃ ch : Fin 16, ∃ i : Byte, ∃ l : Byte, ∃ c : Byte, ∃ k : Byte, ∃ s : State, tenantOf s ch = 0 ∧ Changes s ∧ i.toNat < 64 ∧ (ovlDesc s i.toNat).layer = 0 ∧ 1 ≤ l.toNat ∧ l.toNat ≤ 4 ∧ c.toNat ≤ 15 ∧ k.toNat ≤ 1 ∧ Asked .mbOvlCreate ch [i, l, c, k] s) ∧
    (∃ ch : Fin 16, ∃ i : Byte, ∃ s : State, tenantOf s ch = 0 ∧ Changes s ∧ i.toNat < 64 ∧ ovlBusy s i.toNat = false ∧ ∃ b, b = (438 + i.toNat) ∧ Asked .mbOvlDelete ch [i] s) ∧
    (∃ ch : Fin 16, ∃ i : Byte, ∃ s : State, tenantOf s ch = 0 ∧ Changes s ∧ i.toNat < 64 ∧ ovlBusy s i.toNat = false ∧ ∃ b, b = (438 + i.toNat) ∧ (regionCopy s 4 i.toNat = none ∨ blockFits s b = true) ∧ Asked .mbOvlDelete ch [i] s) ∧
    (∃ ch : Fin 16, ∃ i : Byte, ∃ s : State, tenantOf s ch = 0 ∧ Changes s ∧ i.toNat < 64 ∧ ovlBusy s i.toNat = false ∧ ∃ b, b = (438 + i.toNat) ∧ regionCopy s 4 i.toNat ≠ none ∧ blockFits s b = false ∧ Asked .mbOvlDelete ch [i] s) ∧
    (∃ ch : Fin 16, ∃ p : Bytes, ∃ l : List Nat, ∃ s : State, tenantOf s ch = 0 ∧ Changes s ∧ p.length = 4 ∧ targetSet s p = some l ∧ (∀ k, k < 4 → l.getD k 0xFE ≠ s.ovl.set.getD k 0xFE → (s.ovl.set.getD k 0xFE < 64 → (ovlDesc s (s.ovl.set.getD k 0xFE)).chain = false) ∧ (l.getD k 0xFE < 64 → (ovlDesc s (l.getD k 0xFE)).chain = false)) ∧ requestOk s l = true ∧ s.ovl.set = l ∧ s.ovl.queued = none ∧ NotCarried s ch ∧ Asked .mbOvlRequest ch p s) ∧
    (∃ ch : Fin 16, ∃ p : Bytes, ∃ l : List Nat, ∃ s : State, tenantOf s ch = 0 ∧ Changes s ∧ p.length = 4 ∧ targetSet s p = some l ∧ (∀ k, k < 4 → l.getD k 0xFE ≠ s.ovl.set.getD k 0xFE → (s.ovl.set.getD k 0xFE < 64 → (ovlDesc s (s.ovl.set.getD k 0xFE)).chain = false) ∧ (l.getD k 0xFE < 64 → (ovlDesc s (l.getD k 0xFE)).chain = false)) ∧ requestOk s l = true ∧ s.ovl.set ≠ l ∧ s.ovl.active = false ∧ Asked .mbOvlRequest ch p s) ∧
    (∃ ch : Fin 16, ∃ p : Bytes, ∃ l : List Nat, ∃ s : State, tenantOf s ch = 0 ∧ Changes s ∧ p.length = 4 ∧ targetSet s p = some l ∧ (∀ k, k < 4 → l.getD k 0xFE ≠ s.ovl.set.getD k 0xFE → (s.ovl.set.getD k 0xFE < 64 → (ovlDesc s (s.ovl.set.getD k 0xFE)).chain = false) ∧ (l.getD k 0xFE < 64 → (ovlDesc s (l.getD k 0xFE)).chain = false)) ∧ requestOk s l = true ∧ s.ovl.set ≠ l ∧ s.ovl.active = false ∧ s.ovl.queued = none ∧ unitsFor s l (composed s l) = [] ∧ Asked .mbOvlRequest ch p s) ∧
    (∃ ch : Fin 16, ∃ p : Bytes, ∃ l : List Nat, ∃ s : State, tenantOf s ch = 0 ∧ Changes s ∧ p.length = 4 ∧ targetSet s p = some l ∧ (∀ k, k < 4 → l.getD k 0xFE ≠ s.ovl.set.getD k 0xFE → (s.ovl.set.getD k 0xFE < 64 → (ovlDesc s (s.ovl.set.getD k 0xFE)).chain = false) ∧ (l.getD k 0xFE < 64 → (ovlDesc s (l.getD k 0xFE)).chain = false)) ∧ requestOk s l = true ∧ s.ovl.set ≠ l ∧ s.ovl.active = true ∧ s.ovl.queued = none ∧ Asked .mbOvlRequest ch p s) ∧
    (∃ ch : Fin 16, ∃ p : Bytes, ∃ l : List Nat, ∃ s : State, tenantOf s ch = 0 ∧ Changes s ∧ p.length = 4 ∧ targetSet s p = some l ∧ (∀ k, k < 4 → l.getD k 0xFE ≠ s.ovl.set.getD k 0xFE → (s.ovl.set.getD k 0xFE < 64 → (ovlDesc s (s.ovl.set.getD k 0xFE)).chain = false) ∧ (l.getD k 0xFE < 64 → (ovlDesc s (l.getD k 0xFE)).chain = false)) ∧ requestOk s l = true ∧ s.ovl.active = true ∧ s.ovl.queued ≠ none ∧ Asked .mbOvlRequest ch p s) ∧
    (∃ s : State, s.ovl.active = true ∧ serving s = true ∧ s.ovl.bAt + 2000000000 ≤ s.clk) ∧
    (∃ key : Nat, ∃ n : Nat, ∃ s : State, s.ovl.active = true ∧ serving s = true ∧ s.ovl.bAt + 2000000000 ≤ s.clk ∧ s.ovl.queued = none ∧ s.ovl.units = [⟨7, key, [(0x0820, n)], []⟩]) ∧
    (∃ ch : Fin 16, ∃ s : State, NotCarried s ch ∧ Asked .mbOvlStatus ch [] s) ∧
    (∃ ch : Fin 16, ∃ s : State, NotCarried s ch ∧ ∃ a : Byte, ∃ c : Byte, 1 ≤ c.toNat ∧ a.toNat + c.toNat ≤ 64 ∧ Asked .mbOvlList ch [a, c] s) :=
  ⟨⟨0, (3#8), (4#8), (15#8), (1#8), (asks 0x0501 (0 : Fin 16) [(3#8 : Byte), (4#8 : Byte), (15#8 : Byte), (1#8 : Byte)] ovLive), by decide +kernel, ⟨by decide +kernel, by decide +kernel⟩, by decide +kernel, by decide +kernel, by decide +kernel, by decide +kernel, ⟨by decide +kernel, by decide +kernel, asked_asks rfl⟩⟩,
   ⟨0, (1#8), (asks 0x0502 (0 : Fin 16) [(1#8 : Byte)] ovLive), by decide +kernel, ⟨by decide +kernel, by decide +kernel⟩, by decide +kernel, by decide +kernel, _, rfl, asked_asks rfl⟩,
   ⟨0, (1#8), (asks 0x0502 (0 : Fin 16) [(1#8 : Byte)] ovLive), by decide +kernel, ⟨by decide +kernel, by decide +kernel⟩, by decide +kernel, by decide +kernel, _, rfl, by decide +kernel, asked_asks rfl⟩,
   ⟨0, (1#8), (asks 0x0502 (0 : Fin 16) [(1#8 : Byte)] (({ ovLive with flash := { (ovLive).flash with sparesUsed := 10, erases := [(439, 99999)] } }) : State)), by decide +kernel, ⟨by decide +kernel, by decide +kernel⟩, by decide +kernel, by decide +kernel, _, rfl, by decide +kernel, by decide +kernel, asked_asks rfl⟩,
   ⟨0, [0xFE#8, 0xFF#8, 0xFE#8, 0xFE#8], [0xFE, 0xFE, 0xFE, 0xFE], (asks 0x0503 (0 : Fin 16) ([0xFE#8, 0xFF#8, 0xFE#8, 0xFE#8] : Bytes) ovLive), by decide +kernel, ⟨by decide +kernel, by decide +kernel⟩, by decide +kernel, by decide +kernel, by decide +kernel, by decide +kernel, ⟨by decide +kernel, by decide +kernel, forall_some (by decide +kernel), asked_asks rfl⟩⟩,
   ⟨0, [0xFE#8, 1#8, 0xFF#8, 63#8], [0xFE, 1, 0xFE, 63], (asks 0x0503 (0 : Fin 16) ([0xFE#8, 1#8, 0xFF#8, 63#8] : Bytes) ovLive), by decide +kernel, ⟨by decide +kernel, by decide +kernel⟩, by decide +kernel, by decide +kernel, by decide +kernel, by decide +kernel, ⟨by decide +kernel, by decide +kernel, asked_asks rfl⟩⟩,
   ⟨0, [0xFF#8, 1#8, 0xFF#8, 63#8], [0xFE, 1, 0xFE, 63], (asks 0x0503 (0 : Fin 16) ([0xFF#8, 1#8, 0xFF#8, 63#8] : Bytes) ovLive), by decide +kernel, ⟨by decide +kernel, by decide +kernel⟩, by decide +kernel, by decide +kernel, by decide +kernel, by decide +kernel, ⟨by decide +kernel, by decide +kernel, by decide +kernel, by decide +kernel, asked_asks rfl⟩⟩,
   ⟨0, [0xFE#8, 0xFF#8, 0xFF#8, 63#8], [0xFE, 0xFE, 0xFE, 63], (asks 0x0503 (0 : Fin 16) ([0xFE#8, 0xFF#8, 0xFF#8, 63#8] : Bytes) (({ ovLive with ovl := { (ovLive).ovl with active := true, units := [⟨2, 4000, [], []⟩], set := [0, 0xFE, 0xFE, 0xFE], bAt := 2000000000 } }) : State)), by decide +kernel, ⟨by decide +kernel, by decide +kernel⟩, by decide +kernel, by decide +kernel, by decide +kernel, by decide +kernel, ⟨by decide +kernel, by decide +kernel, by decide +kernel, asked_asks rfl⟩⟩,
   ⟨0, [0xFE#8, 0xFF#8, 0xFE#8, 0xFE#8], [0xFE, 0xFE, 0xFE, 0xFE], (asks 0x0503 (0 : Fin 16) ([0xFE#8, 0xFF#8, 0xFE#8, 0xFE#8] : Bytes) (({ ovLive with ovl := { (ovLive).ovl with active := true, units := [⟨2, 4000, [], []⟩], set := [0, 0xFE, 0xFE, 0xFE], queued := some [2, 0xFE, 0xFE, 0xFE] } }) : State)), by decide +kernel, ⟨by decide +kernel, by decide +kernel⟩, by decide +kernel, by decide +kernel, by decide +kernel, by decide +kernel, ⟨by decide +kernel, by decide +kernel, asked_asks rfl⟩⟩,
   ⟨({ ({ ovLive with ovl := { (ovLive).ovl with active := true, units := [⟨2, 4000, [], []⟩], set := [0, 0xFE, 0xFE, 0xFE], bAt := 2000000000 } }) with clk := 4001000000 }), by decide +kernel⟩,
   ⟨7, 8191, ({ ({ ovLive with ovl := { (ovLive).ovl with active := true, bAt := 2001000000, units := [⟨7, 7, [(0x0820, 8191)], []⟩] } }) with clk := 4001000000 }), by decide +kernel⟩,
   ⟨1, (asks 0x0504 (1 : Fin 16) [] (({ ovLive with ovl := { (ovLive).ovl with active := true, units := [⟨2, 4000, [], []⟩], set := [0, 0xFE, 0xFE, 0xFE], queued := some [2, 0xFE, 0xFE, 0xFE] } }) : State)), forall_some (by decide +kernel), asked_asks rfl⟩,
   ⟨3, (asks 0x0505 (3 : Fin 16) [(0#8 : Byte), (64#8 : Byte)] ovLive), forall_some (by decide +kernel), (0#8), (64#8), by decide +kernel, by decide +kernel, asked_asks rfl⟩⟩

theorem witness_ProgramStore :
    (∃ ch : Fin 16, ∃ r : Byte, ∃ i : Byte, ∃ len : Nat, ∃ crc : Nat, ∃ s : State, tenantOf s ch = 0 ∧ loadAllowed s r.toNat = true ∧ len < 2 ^ 32 ∧ crc < 2 ^ 32 ∧ 1 ≤ r.toNat ∧ r.toNat ≤ 4 ∧ (i.toNat < (if r.toNat = 4 then 64 else 2)) ∧ (len ≤ (if r.toNat = 4 then blockBytes - 32 else (regionBlocks r.toNat i.toNat).2 * blockBytes)) ∧ s.ovl.staging = none ∧ s.ovl.job = none ∧ copyInForce s r.toNat i.toNat = false ∧ (r.toNat = 4 → (ovlDesc s i.toNat).layer ≠ 0) ∧ (r.toNat = 2 → devMode s = 1) ∧ Asked .mbStoreBegin ch ([r, i] ++ toBe 4 len ++ toBe 4 crc) s) ∧
    (∃ ch : Fin 16, ∃ r : Byte, ∃ i : Byte, ∃ len : Nat, ∃ crc : Nat, ∃ s : State, tenantOf s ch = 0 ∧ loadAllowed s r.toNat = true ∧ len < 2 ^ 32 ∧ crc < 2 ^ 32 ∧ 1 ≤ r.toNat ∧ r.toNat ≤ 4 ∧ (i.toNat < (if r.toNat = 4 then 64 else 2)) ∧ (len ≤ (if r.toNat = 4 then blockBytes - 32 else (regionBlocks r.toNat i.toNat).2 * blockBytes)) ∧ s.ovl.staging = none ∧ s.ovl.job = none ∧ copyInForce s r.toNat i.toNat = false ∧ (r.toNat = 4 → (ovlDesc s i.toNat).layer ≠ 0) ∧ (r.toNat = 2 → devMode s = 1) ∧ Asked .mbStoreBegin ch ([r, i] ++ toBe 4 len ++ toBe 4 crc) s) ∧
    (∃ ch : Fin 16, ∃ r : Byte, ∃ i : Byte, ∃ len : Nat, ∃ crc : Nat, ∃ s : State, tenantOf s ch = 0 ∧ loadAllowed s r.toNat = true ∧ len < 2 ^ 32 ∧ crc < 2 ^ 32 ∧ 1 ≤ r.toNat ∧ r.toNat ≤ 4 ∧ (i.toNat < (if r.toNat = 4 then 64 else 2)) ∧ (len ≤ (if r.toNat = 4 then blockBytes - 32 else (regionBlocks r.toNat i.toNat).2 * blockBytes)) ∧ s.ovl.staging = none ∧ s.ovl.job = none ∧ copyInForce s r.toNat i.toNat = false ∧ (r.toNat = 4 → (ovlDesc s i.toNat).layer ≠ 0) ∧ (r.toNat = 2 → devMode s = 1) ∧ Asked .mbStoreBegin ch ([r, i] ++ toBe 4 len ++ toBe 4 crc) s) ∧
    (∃ ch : Fin 16, ∃ g : Staging, ∃ o : Nat, ∃ d : Bytes, ∃ s : State, s.ovl.staging = some g ∧ g.tenant = tenantOf s ch ∧ loadAllowed s g.region = true ∧ o < 2 ^ 32 ∧ 1 ≤ d.length ∧ d.length ≤ 4000 ∧ o + d.length ≤ g.length ∧ Asked .mbStoreData ch (toBe 4 o ++ d) s) ∧
    (∃ ch : Fin 16, ∃ g : Staging, ∃ s : State, s.ovl.staging = some g ∧ g.tenant = tenantOf s ch ∧ loadAllowed s g.region = true ∧ copyInForce s g.region g.index = false ∧ ∃ c, stagedContent s g = some c ∧ Asked .mbStoreEnd ch [] s) ∧
    (∃ ch : Fin 16, ∃ g : Staging, ∃ s : State, s.ovl.staging = some g ∧ g.tenant = tenantOf s ch ∧ loadAllowed s g.region = true ∧ copyInForce s g.region g.index = false ∧ ∃ c, stagedContent s g = some c ∧ 1 ≤ g.region ∧ g.region ≤ 4 ∧ g.index < 64 ∧ c.length ≤ blockBytes ∧ tget 0 s.flash.erases (physBlock s (regionBlocks g.region g.index).1) + 1 < 100000 ∧ Asked .mbStoreEnd ch [] s) ∧
    (∃ ch : Fin 16, ∃ g : Staging, ∃ s : State, s.ovl.staging = some g ∧ g.tenant = tenantOf s ch ∧ loadAllowed s g.region = true ∧ copyInForce s g.region g.index = false ∧ stagedContent s g = none ∧ Asked .mbStoreEnd ch [] s) ∧
    (∃ b : Nat, ∃ rest : List Nat, ∃ j : FlashJob, ∃ s : State, s.ovl.job = some j ∧ j.left = b :: rest ∧ j.ch < 16 ∧ ∃ worn, worn = (100000 ≤ tget 0 s.flash.erases (physBlock s b) + 1) ∧ ∃ others, others = (fun (t : State) => ∀ k, k ≠ physBlock s b → tget none t.flash.block k = tget none s.flash.block k) ∧ ¬ worn) ∧
    (∃ b : Nat, ∃ rest : List Nat, ∃ j : FlashJob, ∃ s : State, s.ovl.job = some j ∧ j.left = b :: rest ∧ j.ch < 16 ∧ ∃ worn, worn = (100000 ≤ tget 0 s.flash.erases (physBlock s b) + 1) ∧ ∃ others, others = (fun (t : State) => ∀ k, k ≠ physBlock s b → tget none t.flash.block k = tget none s.flash.block k) ∧ ¬ worn ∧ rest = [] ∧ b = (regionBlocks j.region j.index).1 ∧ 1 ≤ j.region ∧ j.region ≤ 4 ∧ j.index < 64 ∧ j.gen < 2 ^ 32 ∧ j.content.length ≤ blockBytes ∧ (j.region = 1 → Config.signatureOk j.content = true)) ∧
    (∃ b : Nat, ∃ rest : List Nat, ∃ j : FlashJob, ∃ s : State, s.ovl.job = some j ∧ j.left = b :: rest ∧ j.ch < 16 ∧ ∃ worn, worn = (100000 ≤ tget 0 s.flash.erases (physBlock s b) + 1) ∧ ∃ others, others = (fun (t : State) => ∀ k, k ≠ physBlock s b → tget none t.flash.block k = tget none s.flash.block k) ∧ ∃ e, ∃ v, (¬ (e = true ∧ v = true ∧ ¬ worn)) ∧ s.flash.sparesUsed < 10) ∧
    (∃ b : Nat, ∃ rest : List Nat, ∃ j : FlashJob, ∃ s : State, s.ovl.job = some j ∧ j.left = b :: rest ∧ j.ch < 16 ∧ ∃ worn, worn = (100000 ≤ tget 0 s.flash.erases (physBlock s b) + 1) ∧ ∃ others, others = (fun (t : State) => ∀ k, k ≠ physBlock s b → tget none t.flash.block k = tget none s.flash.block k) ∧ ∃ e, ∃ v, (¬ (e = true ∧ v = true ∧ ¬ worn)) ∧ 10 ≤ s.flash.sparesUsed) ∧
    (∃ e : Bool, ∃ v : Bool, ∃ s : State, s.ovl.job = none) ∧
    (∃ g : Staging, ∃ s : State, s.ovl.staging = some g ∧ g.lastAt + 60000000000 ≤ s.clk) ∧
    (∃ ch : Fin 16, ∃ s : State, tenantOf s ch = 0 ∧ Changes s ∧ s.pair.rstate = 0 ∧ s.ovl.job = none ∧ bootFits s = true ∧ Asked .mbBankActivate ch [1#8] s) ∧
    (∃ ch : Fin 16, ∃ s : State, tenantOf s ch = 0 ∧ Changes s ∧ s.pair.rstate = 0 ∧ s.ovl.job = none ∧ bootFits s = false ∧ Asked .mbBankActivate ch [1#8] s) ∧
    (∃ ch : Fin 16, ∃ s : State, tenantOf s ch = 0 ∧ Changes s ∧ s.pair.rstate = 0 ∧ s.ovl.job = none ∧ ∃ q, bootFits s = true ∧ devMode s = 1 ∧ bankProg s (1 - s.flash.boot.prog) = .ok q ∧ Asked .mbBankActivate ch [2#8] s) ∧
    (∃ ch : Fin 16, ∃ s : State, tenantOf s ch = 0 ∧ Changes s ∧ s.pair.rstate = 0 ∧ s.ovl.job = none ∧ ∃ rc, devMode s = 1 ∧ bankProg s (1 - s.flash.boot.prog) = .error rc ∧ Asked .mbBankActivate ch [2#8] s) ∧
    (∃ ch : Fin 16, ∃ s : State, tenantOf s ch = 0 ∧ updating s = false ∧ s.flash.boot.trial = true ∧ bootFits s = false ∧ Asked .mbBankConfirm ch [] s) ∧
    (∃ ch : Fin 16, ∃ s : State, tenantOf s ch = 0 ∧ updating s = false ∧ s.flash.boot.trial = true ∧ bootFits s = true ∧ s.flash.boot.fw < 2 ∧ s.flash.boot.prog < 2 ∧ Asked .mbBankConfirm ch [] s) ∧
    (∃ a : Nat, ∃ s : State, s.ovl.resetAt = some a ∧ a ≤ s.clk) ∧
    (∃ ch : Fin 16, ∃ s : State, tenantOf s ch = 0 ∧ Asked .mbFlashStat ch [] s) :=
  ⟨⟨0, (1#8), (1#8), 3144192, 0xFFFFFFFF, (asks 0x0E01 (0 : Fin 16) ([(1#8 : Byte), (1#8 : Byte)] ++ toBe 4 (3144192 : Nat) ++ toBe 4 (0xFFFFFFFF : Nat)) ovLive), by decide +kernel, by decide +kernel, by decide +kernel, by decide +kernel, ⟨by decide +kernel, by decide +kernel, by decide +kernel, by decide +kernel, by decide +kernel, ⟨by decide +kernel, by decide +kernel, by decide +kernel, by decide +kernel, asked_asks rfl⟩⟩⟩,
   ⟨0, (4#8), (63#8), 65472, 0, (asks 0x0E01 (0 : Fin 16) ([(4#8 : Byte), (63#8 : Byte)] ++ toBe 4 (65472 : Nat) ++ toBe 4 (0 : Nat)) ovLive), by decide +kernel, by decide +kernel, by decide +kernel, by decide +kernel, ⟨by decide +kernel, by decide +kernel, by decide +kernel, by decide +kernel, by decide +kernel, ⟨by decide +kernel, by decide +kernel, by decide +kernel, by decide +kernel, asked_asks rfl⟩⟩⟩,
   ⟨0, (2#8), (1#8), 0, 0, (asks 0x0E01 (0 : Fin 16) ([(2#8 : Byte), (1#8 : Byte)] ++ toBe 4 (0 : Nat) ++ toBe 4 (0 : Nat)) (({ ovLive with task := { (ovLive).task with dev := 1 } }) : State)), by decide +kernel, by decide +kernel, by decide +kernel, by decide +kernel, ⟨by decide +kernel, by decide +kernel, by decide +kernel, by decide +kernel, by decide +kernel, ⟨by decide +kernel, by decide +kernel, by decide +kernel, by decide +kernel, asked_asks rfl⟩⟩⟩,
   ⟨0, stg, 15, [7#8], (asks 0x0E02 (0 : Fin 16) (toBe 4 (15 : Nat) ++ ([7#8] : Bytes)) (({ ovLive with ovl := { (ovLive).ovl with staging := some stg } }) : State)), by decide +kernel, by decide +kernel, by decide +kernel, by decide +kernel, ⟨by decide +kernel, by decide +kernel, by decide +kernel, asked_asks rfl⟩⟩,
   ⟨0, stg, (asks 0x0E03 (0 : Fin 16) [] (({ ovLive with ovl := { (ovLive).ovl with staging := some stg } }) : State)), by decide +kernel, by decide +kernel, by decide +kernel, by decide +kernel, ⟨(toBe 4 0x42434647 ++ [1#8, 0#8, 0#8, 0#8] ++ toBe 8 0), by decide +kernel, asked_asks rfl⟩⟩,
   ⟨0, stg, (asks 0x0E03 (0 : Fin 16) [] (({ ovLive with ovl := { (ovLive).ovl with staging := some stg } }) : State)), by decide +kernel, by decide +kernel, by decide +kernel, by decide +kernel, ⟨(toBe 4 0x42434647 ++ [1#8, 0#8, 0#8, 0#8] ++ toBe 8 0), by decide +kernel, by decide +kernel, by decide +kernel, by decide +kernel, ⟨by decide +kernel, by decide +kernel, asked_asks rfl⟩⟩⟩,
   ⟨0, ({ stg with crc := 5 } : Staging), (asks 0x0E03 (0 : Fin 16) [] (({ ovLive with ovl := { (ovLive).ovl with staging := some { stg with crc := 5 } } }) : State)), by decide +kernel, by decide +kernel, by decide +kernel, by decide +kernel, ⟨by decide +kernel, asked_asks rfl⟩⟩,
   ⟨430, [], job1, ({ ovLive with ovl := { (ovLive).ovl with job := some job1 } }), by decide +kernel, by decide +kernel, by decide +kernel, _, rfl, _, rfl, by decide +kernel⟩,
   ⟨430, [], job1, ({ ovLive with ovl := { (ovLive).ovl with job := some job1 } }), by decide +kernel, by decide +kernel, by decide +kernel, _, rfl, _, rfl, by decide +kernel⟩,
   ⟨430, [431], ({ job1 with left := [430, 431] } : FlashJob), ({ ovLive with ovl := { (ovLive).ovl with job := some { job1 with left := [430, 431] } } }), by decide +kernel, by decide +kernel, by decide +kernel, _, rfl, _, rfl, false, true, by decide +kernel⟩,
   ⟨430, [], job1, ({ ({ ovLive with flash := { (ovLive).flash with sparesUsed := 10, erases := [(430, 99999)] } }) with ovl := { (({ ovLive with flash := { (ovLive).flash with sparesUsed := 10, erases := [(430, 99999)] } })).ovl with job := some job1 } }), by decide +kernel, by decide +kernel, by decide +kernel, _, rfl, _, rfl, true, true, by decide +kernel⟩,
   ⟨true, false, ovLive, by decide +kernel⟩,
   ⟨stg, ({ ({ ovLive with ovl := { (ovLive).ovl with staging := some stg } }) with clk := 62000000000 }), by decide +kernel⟩,
   ⟨0, (asks 0x0E04 (0 : Fin 16) [1#8] ovLive), by decide +kernel, ⟨by decide +kernel, by decide +kernel⟩, by decide +kernel, by decide +kernel, by decide +kernel, asked_asks rfl⟩,
   ⟨0, (asks 0x0E04 (0 : Fin 16) [1#8] (({ ovLive with flash := { (ovLive).flash with sparesUsed := 10, erases := [(0, 99999), (1, 99999)] } }) : State)), by decide +kernel, ⟨by decide +kernel, by decide +kernel⟩, by decide +kernel, by decide +kernel, by decide +kernel, asked_asks rfl⟩,
   ⟨0, (asks 0x0E04 (0 : Fin 16) [2#8] (({ ovLive with task := { (ovLive).task with dev := 1 } }) : State)), by decide +kernel, ⟨by decide +kernel, by decide +kernel⟩, by decide +kernel, by decide +kernel, (match bankProg ovLive 1 with | .ok q => q | .error _ => {}), by decide +kernel, by decide +kernel, by decide +kernel, asked_asks rfl⟩,
   ⟨0, (asks 0x0E04 (0 : Fin 16) [2#8] (({ ({ ovLive with flash := { (ovLive).flash with block := [] } }) with task := { (({ ovLive with flash := { (ovLive).flash with block := [] } })).task with dev := 1 } }) : State)), by decide +kernel, ⟨by decide +kernel, by decide +kernel⟩, by decide +kernel, by decide +kernel, 0x0017, by decide +kernel, by decide +kernel, asked_asks rfl⟩,
   ⟨0, (asks 0x0E05 (0 : Fin 16) [] (({ ovLive with flash := { (ovLive).flash with sparesUsed := 10, erases := [(0, 99999), (1, 99999)], boot := ⟨0xFFFFFFFF, 1, 0, true⟩ } }) : State)), by decide +kernel, by decide +kernel, by decide +kernel, by decide +kernel, asked_asks rfl⟩,
   ⟨0, (asks 0x0E05 (0 : Fin 16) [] (({ ovLive with flash := { (ovLive).flash with boot := ⟨0xFFFFFFFF, 1, 0, true⟩ } }) : State)), by decide +kernel, by decide +kernel, by decide +kernel, by decide +kernel, ⟨by decide +kernel, by decide +kernel, asked_asks rfl⟩⟩,
   ⟨5, ({ ovLive with ovl := { (ovLive).ovl with resetAt := some 5 } }), by decide +kernel⟩,
   ⟨0, (asks 0x0E06 (0 : Fin 16) [] ovLive), by decide +kernel, asked_asks rfl⟩⟩

theorem witness_GleanerKeepsEntries :
    (∃ e : GlnEv, ∃ rest : List GlnEv, ∃ s : State, s.gln.queue = e :: rest ∧ s.gln.drops = [] ∧ (∀ w, s.gln.wroteAt = some w → w + 10000 ≤ s.clk) ∧ s.gln.frozen = none) ∧
    (∃ e : GlnEv, ∃ rest : List GlnEv, ∃ s : State, s.gln.queue = e :: rest ∧ s.gln.drops = [] ∧ (∀ w, s.gln.wroteAt = some w → w + 10000 ≤ s.clk) ∧ s.gln.frozen ≠ none ∧ s.silo.hold.length < 256) ∧
    (∃ e : GlnEv, ∃ rest : List GlnEv, ∃ s : State, s.gln.queue = e :: rest ∧ s.gln.drops = [] ∧ (∀ w, s.gln.wroteAt = some w → w + 10000 ≤ s.clk) ∧ s.gln.frozen ≠ none ∧ 256 ≤ s.silo.hold.length) ∧
    (∃ w : Nat, ∃ s : State, s.gln.wroteAt = some w ∧ s.clk < w + 10000) ∧
    (∃ c : BitVec 16, ∃ n : Fin 32, ∃ s : State, ∃ key, key = (c.toNat * 32 + n.val) ∧ ∃ b, b = (tget {} s.gln.bucket key) ∧ ∃ due, due = (b.from_ + 100000000000 / Nat.max 1 (tget {} s.gln.cls (glnClassOf s c.toNat)).rate) ∧ glnClassOf s c.toNat ≠ 0 ∧ 0 < b.used ∧ s.clk < due) ∧
    (∃ c : BitVec 16, ∃ n : Fin 32, ∃ s : State, ∃ key, key = (c.toNat * 32 + n.val) ∧ ∃ b, b = (tget {} s.gln.bucket key) ∧ ∃ due, due = (b.from_ + 100000000000 / Nat.max 1 (tget {} s.gln.cls (glnClassOf s c.toNat)).rate) ∧ glnClassOf s c.toNat ≠ 0 ∧ 0 < b.used ∧ due ≤ s.clk) ∧
    (∃ a : Nat, ∃ h : GlnEntry, ∃ s : State, s.gln.frozen = some a ∧ a ≤ s.clk) ∧
    (∃ ch : Fin 16, ∃ n : Byte, ∃ s : State, tenantOf s ch = 0 ∧ Changes s ∧ s.gln.frozen = none ∧ 1 ≤ n.toNat ∧ n.toNat ≤ 10 ∧ (∀ p, s.gln.put = some p → p.at_ ≠ s.clk) ∧ Asked .mbGlnFreeze ch [n] s) ∧
    (∃ ch : Fin 16, ∃ n : Byte, ∃ s : State, tenantOf s ch = 0 ∧ Changes s ∧ ∃ p, s.gln.frozen = none ∧ 1 ≤ n.toNat ∧ n.toNat ≤ 10 ∧ s.gln.put = some p ∧ p.at_ = s.clk ∧ Asked .mbGlnFreeze ch [n] s) ∧
    (∃ ch : Fin 16, ∃ n : Byte, ∃ s : State, tenantOf s ch = 0 ∧ Changes s ∧ s.gln.frozen ≠ none ∧ Asked .mbGlnUnfreeze ch [] s) ∧
    (∃ ch : Fin 16, ∃ n : Byte, ∃ s : State, tenantOf s ch = 0 ∧ Changes s ∧ ∃ w : Word, ∃ codes : List Nat, codes.length ≤ 64 ∧ (∀ x ∈ codes, x < 2 ^ 16 ∧ glnLimited x = true) ∧ 1 ≤ n.toNat ∧ n.toNat ≤ 15 ∧ 1 ≤ fld w 31 16 ∧ fld w 31 16 ≤ 1000 ∧ 1 ≤ fld w 14 0 ∧ fld w 14 0 ≤ 20000 ∧ Asked .mbGlnClassSet ch ([n, 1#8] ++ wB w ++ toBe 1 codes.length ++ codes.flatMap (toBe 2)) s) ∧
    (∃ ch : Fin 16, ∃ s : State, NotCarried s ch ∧ Asked .mbGlnStat ch [] s) ∧
    (∃ ch : Fin 16, ∃ s : State, NotCarried s ch ∧ ∃ first : Nat, ∃ n : Byte, ∃ sub : Byte, first < 2 ^ 32 ∧ 1 ≤ n.toNat ∧ n.toNat ≤ 120 ∧ Asked .mbGlnRead ch (toBe 4 first ++ [n, sub]) s) ∧
    (∃ ch : Fin 16, ∃ s : State, NotCarried s ch ∧ ∃ first : Nat, ∃ n : Byte, ∃ sub : Byte, s.silo.ring = [] ∧ first < 2 ^ 32 ∧ 1 ≤ n.toNat ∧ n.toNat ≤ 120 ∧ Asked .mbGlnRead ch (toBe 4 first ++ [n, sub]) s) ∧
    (∃ ch : Fin 16, ∃ s : State, NotCarried s ch ∧ ∃ q : Nat, ∃ e : GlnEv, q < 2 ^ 32 - 1 ∧ s.silo.nextSeq = q + 1 ∧ s.silo.hold = [] ∧ s.silo.badSlots = [] ∧ s.silo.ring = [(q % 32768, some ⟨q, e⟩)] ∧ (tenantOf s ch = 0 ∨ e.tenant = tenantOf s ch) ∧ Asked .mbGlnRead ch (toBe 4 q ++ [1#8, 0#8]) s) ∧
    (∃ ch : Fin 16, ∃ s : State, NotCarried s ch ∧ ∃ q : Nat, ∃ e : GlnEv, q < 2 ^ 32 - 1 ∧ s.silo.nextSeq = q + 1 ∧ s.silo.hold = [] ∧ s.silo.badSlots = [] ∧ s.silo.ring = [(q % 32768, some ⟨q, e⟩)] ∧ (tenantOf s ch = 0 ∨ e.tenant = tenantOf s ch) ∧ Asked .mbGlnRead ch (toBe 4 q ++ [1#8, 0#8]) s) ∧
    (∃ ch : Fin 16, ∃ n : Byte, ∃ s : State, NotCarried s ch ∧ n.toNat < 32 ∧ (tenantOf s ch = 0 ∨ n.toNat = tenantOf s ch) ∧ ∃ r, r = (tget {} s.task.ret n.toNat) ∧ ∃ cp, cp = (fun (k : Nat) => toBe 4 (tget {} s.silo.desc (n.toNat * 2 + k)).gen ++ bB (retFault s n.toNat k).isNone) ∧ Asked .mbRetStat ch [n] s) ∧
    (∃ ch : Fin 16, ∃ n : Byte, ∃ s : State, NotCarried s ch ∧ n.toNat < 32 ∧ (tenantOf s ch = 0 ∨ n.toNat = tenantOf s ch) ∧ ∃ r, r = (tget {} s.task.ret n.toNat) ∧ ∃ cp, cp = (fun (k : Nat) => toBe 4 (tget {} s.silo.desc (n.toNat * 2 + k)).gen ++ bB (retFault s n.toNat k).isNone) ∧ Asked .mbRetStat ch [n] s) :=
  ⟨⟨ge, [{ ge with p1 := 9 }], glLive, by decide +kernel, by decide +kernel, forall_some (by decide +kernel), by decide +kernel⟩,
   ⟨ge, [{ ge with p1 := 9 }], ({ glLive with gln := { (glLive).gln with frozen := some 2001000000 } }), by decide +kernel, by decide +kernel, forall_some (by decide +kernel), by decide +kernel⟩,
   ⟨ge, [{ ge with p1 := 9 }], ({ ({ glLive with gln := { (glLive).gln with frozen := some 2001000000 } }) with silo := { (({ glLive with gln := { (glLive).gln with frozen := some 2001000000 } })).silo with hold := List.replicate 256 ⟨1, ge⟩ } }), by decide +kernel, by decide +kernel, forall_some (by decide +kernel), by decide +kernel⟩,
   ⟨2001000000, ({ glLive with gln := { (glLive).gln with wroteAt := some 2001000000 } }), by decide +kernel⟩,
   ⟨(0x0201#16), 3, ({ glLive with gln := { (glLive).gln with bucket := [(0x0201 * 32 + 3, { used := 5, suppressed := 7, from_ := 2001000000 })] } }), _, rfl, _, rfl, _, rfl, by decide +kernel⟩,
   ⟨(0x0201#16), 3, ({ glLive with gln := { (glLive).gln with bucket := [(0x0201 * 32 + 3, { used := 5, suppressed := 7 })] } }), _, rfl, _, rfl, _, rfl, by decide +kernel⟩,
   ⟨2001000000, ⟨0xFFFFFFFF, ge⟩, ({ glLive with gln := { (glLive).gln with frozen := some 2001000000 } }), by decide +kernel⟩,
   ⟨0, (10#8), (asks 0x0902 (0 : Fin 16) [(10#8 : Byte)] glLive), by decide +kernel, ⟨by decide +kernel, by decide +kernel⟩, by decide +kernel, by decide +kernel, by decide +kernel, forall_some (by decide +kernel), asked_asks rfl⟩,
   ⟨0, (10#8), (asks 0x0902 (0 : Fin 16) [(10#8 : Byte)] (({ glLive with gln := { (glLive).gln with put := some ⟨2001000000, ⟨3, ge⟩, some ⟨7, ge⟩, true, [2]⟩ } }) : State)), by decide +kernel, ⟨by decide +kernel, by decide +kernel⟩, ⟨2001000000, ⟨3, ge⟩, some ⟨7, ge⟩, true, [2]⟩, by decide +kernel, by decide +kernel, by decide +kernel, by decide +kernel, ⟨by decide +kernel, asked_asks rfl⟩⟩,
   ⟨0, (1#8), (asks 0x0903 (0 : Fin 16) [] (({ ({ glLive with gln := { (glLive).gln with frozen := some 2001000000 } }) with silo := { (({ glLive with gln := { (glLive).gln with frozen := some 2001000000 } })).silo with hold := [⟨0xFFFFFFFF, ge⟩] } }) : State)), by decide +kernel, ⟨by decide +kernel, by decide +kernel⟩, by decide +kernel, asked_asks rfl⟩,
   ⟨0, (15#8), (asks 0x0904 (0 : Fin 16) ([(15#8 : Byte), 1#8] ++ wB ((wd (1000 * 2^16 + 2^15 + 20000)) : Word) ++ toBe 1 ([0x0201, 0x1102] : List Nat).length ++ ([0x0201, 0x1102] : List Nat).flatMap (toBe 2)) glLive), by decide +kernel, ⟨by decide +kernel, by decide +kernel⟩, (wd (1000 * 2^16 + 2^15 + 20000)), [0x0201, 0x1102], by decide +kernel, by decide +kernel, by decide +kernel, by decide +kernel, ⟨by decide +kernel, by decide +kernel, by decide +kernel, by decide +kernel, asked_asks rfl⟩⟩,
   ⟨1, (asks 0x0905 (1 : Fin 16) [] (({ glLive with gln := { (glLive).gln with frozen := some 2001000000 } }) : State)), forall_some (by decide +kernel), asked_asks rfl⟩,
   ⟨1, (asks 0x0901 (1 : Fin 16) (toBe 4 (0xFFFFFFF0 : Nat) ++ [(120#8 : Byte), (0#8 : Byte)]) glLive), forall_some (by decide +kernel), 0xFFFFFFF0, (120#8), (0#8), by decide +kernel, by decide +kernel, by decide +kernel, asked_asks rfl⟩,
   ⟨1, (asks 0x0901 (1 : Fin 16) (toBe 4 (0xFFFFFFFF : Nat) ++ [(120#8 : Byte), (1#8 : Byte)]) (({ glLive with silo := { (glLive).silo with ring := [] } }) : State)), forall_some (by decide +kernel), 0xFFFFFFFF, (120#8), (1#8), by decide +kernel, by decide +kernel, by decide +kernel, by decide +kernel, asked_asks rfl⟩,
   ⟨1, (asks 0x0901 (1 : Fin 16) (toBe 4 (2 : Nat) ++ [1#8, 0#8]) (({ glLive with silo := { (glLive).silo with nextSeq := 3, hold := [], ring := [(2, some ⟨2, ge⟩)] } }) : State)), forall_some (by decide +kernel), 2, ge, by decide +kernel, by decide +kernel, by decide +kernel, by decide +kernel, ⟨by decide +kernel, by decide +kernel, asked_asks rfl⟩⟩,
   ⟨0, (asks 0x0901 (0 : Fin 16) (toBe 4 (0xFFFFFFFE : Nat) ++ [1#8, 0#8]) (({ glLive with silo := { (glLive).silo with nextSeq := 0xFFFFFFFF, hold := [], ring := [(0xFFFFFFFE % 32768, some ⟨0xFFFFFFFE, ge⟩)] } }) : State)), forall_some (by decide +kernel), 0xFFFFFFFE, ge, by decide +kernel, by decide +kernel, by decide +kernel, by decide +kernel, ⟨by decide +kernel, by decide +kernel, asked_asks rfl⟩⟩,
   ⟨1, (3#8), (asks 0x0403 (1 : Fin 16) [(3#8 : Byte)] glLive), forall_some (by decide +kernel), by decide +kernel, by decide +kernel, _, rfl, _, rfl, asked_asks rfl⟩,
   ⟨0, (31#8), (asks 0x0403 (0 : Fin 16) [(31#8 : Byte)] glLive), forall_some (by decide +kernel), by decide +kernel, by decide +kernel, _, rfl, _, rfl, asked_asks rfl⟩⟩

theorem witness_RealTimeClock :
    (∃ s : State, ∃ n : Int, n = ((s.rtc.sec : Int) * 32768 + s.rtc.sub + s.rtc.cal) ∧ s.rtc.periods < 2 ^ 20) ∧
    (∃ s : State, ∃ n : Int, n = ((s.rtc.sec : Int) * 32768 + s.rtc.sub + s.rtc.cal) ∧ 2 ^ 20 ≤ s.rtc.periods) ∧
    (∃ s : State, s.rtc.onVbat = false) ∧
    (∃ s : State, ∃ d : Int, d = ((s.rtc.sec : Int) * 1000000000 + (s.rtc.sub * 1000000000 / 32768 : Nat) - wallNs s) ∧ (s.tb.wallOk = false ∨ (-1000000 ≤ d ∧ d ≤ 1000000))) ∧
    (∃ s : State, ∃ d : Int, d = ((s.rtc.sec : Int) * 1000000000 + (s.rtc.sub * 1000000000 / 32768 : Nat) - wallNs s) ∧ s.tb.wallOk = true ∧ (d < -1000000 ∨ 1000000 < d)) ∧
    (∃ s : State, ∃ d : Int, d = ((s.rtc.sec : Int) * 1000000000 + (s.rtc.sub * 1000000000 / 32768 : Nat) - wallNs s) ∧ s.tb.wallOk = true ∧ (d < -1000000 ∨ 1000000 < d) ∧ wallSub s ≠ 0) ∧
    (∃ s : State, ∃ d : Int, d = ((s.rtc.sec : Int) * 1000000000 + (s.rtc.sub * 1000000000 / 32768 : Nat) - wallNs s) ∧ s.tb.wallOk = true ∧ (d < -1000000 ∨ 1000000 < d) ∧ wallSub s = 0) ∧
    (∃ drift : Int, ∃ s : State, (s.rtc.expert = true ∨ s.tb.wallPtp = false)) ∧
    (∃ drift : Int, ∃ s : State, s.rtc.expert = false ∧ s.tb.wallPtp = true) ∧
    (∃ ch : Fin 16, ∃ s : State, NotCarried s ch ∧ Asked .mbRtcGet ch [] s) ∧
    (∃ ch : Fin 16, ∃ s : State, tenantOf s ch = 0 ∧ ∃ e, e = ({ s with clk := s.clk + (1953125 - s.rtc.acc + 63) / 64 }) ∧ Asked .mbRtcCapture ch [] s) ∧
    (∃ ch : Fin 16, ∃ c : Int, ∃ s : State, tenantOf s ch = 0 ∧ Changes s ∧ -255 ≤ c ∧ c ≤ 255 ∧ Asked .mbRtcCalSet ch ([1#8] ++ toBe 2 (umod 16 c)) s) ∧
    (∃ ch : Fin 16, ∃ c : Int, ∃ s : State, tenantOf s ch = 0 ∧ Changes s ∧ Asked .mbRtcCalSet ch [0#8] s) ∧
    (∃ ch : Fin 16, ∃ sec : Nat, ∃ ns : Nat, ∃ utc : Int, ∃ s : State, tenantOf s ch = 0 ∧ Changes s ∧ s.tb.wallPtp = false ∧ sec < 2 ^ 48 ∧ ns < 1000000000 ∧ -2 ^ 15 ≤ utc ∧ utc < 2 ^ 15 ∧ Asked .mbWallSet ch (toBe 6 sec ++ toBe 4 ns ++ toBe 2 (umod 16 utc)) s) :=
  ⟨⟨glLive, _, rfl, by decide +kernel⟩,
   ⟨({ glLive with rtc := { (glLive).rtc with sec := 0, sub := 0, cal := -1, periods := 2 ^ 20 } }), _, rfl, by decide +kernel⟩,
   ⟨glLive, by decide +kernel⟩,
   ⟨glLive, _, rfl, by decide +kernel⟩,
   ⟨({ glLive with tb := { (glLive).tb with wallOk := true, wallW := 5000000000, wallD := 2001000000 } }), _, rfl, by decide +kernel⟩,
   ⟨({ glLive with tb := { (glLive).tb with wallOk := true, wallW := 5, wallD := 0 } }), _, rfl, by decide +kernel⟩,
   ⟨({ glLive with tb := { (glLive).tb with wallOk := true, wallW := 5000000000, wallD := 2001000000 } }), _, rfl, by decide +kernel⟩,
   ⟨5, glLive, by decide +kernel⟩,
   ⟨(-300), ({ glLive with tb := { (glLive).tb with wallPtp := true } }), by decide +kernel⟩,
   ⟨1, (asks 0x0720 (1 : Fin 16) [] glLive), forall_some (by decide +kernel), asked_asks rfl⟩,
   ⟨0, (asks 0x0721 (0 : Fin 16) [] glLive), by decide +kernel, _, rfl, asked_asks rfl⟩,
   ⟨0, (-255), (asks 0x0722 (0 : Fin 16) ([1#8] ++ toBe 2 (umod 16 (-255 : Int))) glLive), by decide +kernel, ⟨by decide +kernel, by decide +kernel⟩, by decide +kernel, by decide +kernel, asked_asks rfl⟩,
   ⟨0, 0, (asks 0x0722 (0 : Fin 16) [0#8] glLive), by decide +kernel, ⟨by decide +kernel, by decide +kernel⟩, asked_asks rfl⟩,
   ⟨0, 0xFFFFFFFFFFFF, 999999999, (-32768), (asks 0x0706 (0 : Fin 16) (toBe 6 (0xFFFFFFFFFFFF : Nat) ++ toBe 4 (999999999 : Nat) ++ toBe 2 (umod 16 (-32768 : Int))) glLive), by decide +kernel, ⟨by decide +kernel, by decide +kernel⟩, by decide +kernel, by decide +kernel, by decide +kernel, by decide +kernel, ⟨by decide +kernel, asked_asks rfl⟩⟩⟩

theorem witness_SupervisionAndResets :
    (∃ r : Fin 5, ∃ b : Bool, ∃ mv : Nat, ∃ s : State, fioRuns s = true ∧ tget false s.aon.railLow r.val ≠ b ∧ b = decide (mv < warnRail r.val)) ∧
    (∃ r : Fin 4, ∃ mv : Nat, ∃ s : State, mv < (monitorRail r.val).2 ∧ s.aon.inReset = false ∧ s.sup.asleep = false) ∧
    (∃ mC : Int, ∃ s : State, fioRuns s = true) ∧
    (∃ mC : Int, ∃ s : State, fioRuns s = true ∧ 120000 < mC ∧ s.sup.tempWarn = false) ∧
    (∃ mC : Int, ∃ s : State, fioRuns s = true ∧ mC ≤ 120000 ∧ s.sup.tempWarn = true) ∧
    (∃ s : State, fioRuns s = true ∧ 130000 < s.aon.temp) ∧
    (∃ s : State, fioRuns s = true ∧ s.sup.holdUp = false) ∧
    (∃ s : State, fioRuns s = true ∧ s.sup.holdUp = true) ∧
    (∃ mv : Nat, ∃ s : State, fioRuns s = true ∧ s.sup.throttled = false ∧ mv < 765) ∧
    (∃ mv : Nat, ∃ s : State, fioRuns s = true ∧ s.sup.throttled = true ∧ 790 ≤ mv) ∧
    (∃ a : Nat, ∃ ch : Nat, ∃ s : State, s.sup.resetAt = some (a, ch) ∧ a ≤ s.clk) ∧
    (∃ k : Fin 3, ∃ s : State, fioRuns s = true) ∧
    (∃ p : Nat, ∃ s : State, fioRuns s = true ∧ (p * 102 < 4000000 ∨ 4000000 < p * 98)) ∧
    (∃ p : Nat, ∃ s : State, fioRuns s = true ∧ (p * 102 < 4000000 ∨ 4000000 < p * 98)) ∧
    (∃ p : Nat, ∃ s : State, fioRuns s = true ∧ 4000000 ≤ p * 102 ∧ p * 98 ≤ 4000000) ∧
    (∃ p : Fin 5, ∃ s : State, fioRuns s = true ∧ p.val < 3) ∧
    (∃ p : Fin 5, ∃ s : State, fioRuns s = true ∧ 3 ≤ p.val) ∧
    (∃ s : State, s.sup.wdgState ≠ 0 ∧ s.sup.wdgServer = false ∧ s.sup.mpOk = true ∧ (8 + wdgF8 s) * wdgP s ≤ 16 * wdgE s ∧ wdgE s < wdgU s ∧ s.pair.rstate ≠ 5) ∧
    (∃ s : State, s.sup.wdgState ≠ 0 ∧ s.sup.wdgWarned = false ∧ ((if s.sup.wdgSet then fld s.sup.wdgCfg 8 5 else 15) * wdgU s ≤ 16 * wdgE s)) ∧
    (∃ s : State, s.sup.wdgState ≠ 0 ∧ s.sup.wdgWarned = false ∧ ((if s.sup.wdgSet then fld s.sup.wdgCfg 8 5 else 15) * wdgU s ≤ 16 * wdgE s)) ∧
    (∃ s : State, s.sup.wdgState ≠ 0 ∧ wdgU s ≤ wdgE s) ∧
    (∃ s : State, mayStart s = true) ∧
    (∃ s : State, mayStart s = false) ∧
    (∃ s : State, mayStart s = true ∧ bit s.aon.fuse 46 = false ∧ siloHeaderOk s.silo.header = true ∧ s.silo.soft = [] ∧ s.silo.hard = [] ∧ s.silo.ovlTarget = 0xFEFEFEFE ∧ s.flash.journal = [] ∧ s.flash.boot.trial = false ∧ s.flash.block = [] ∧ s.svc = State.reset.svc ∧ s.silo.enSaved = [] ∧ s.silo.frozenAtReset = false ∧ bit s.pair.cfg 47 = false ∧ s.pair.rstate = 0 ∧ fld s.sup.startCfg 47 46 = 0 ∧ s.prog = State.reset.prog) :=
  ⟨⟨0, true, 799, (evs 357 supLive), by decide +kernel⟩,
   ⟨0, 700, supLive, by decide +kernel⟩,
   ⟨120001, (evs 355 supLive), by decide +kernel⟩,
   ⟨120001, (evs 355 supLive), by decide +kernel⟩,
   ⟨120000, ({ supLive with sup := { (supLive).sup with tempWarn := true } }), by decide +kernel⟩,
   ⟨({ supLive with aon := { (supLive).aon with temp := 130001 } }), by decide +kernel⟩,
   ⟨(evs 358 supLive), by decide +kernel⟩,
   ⟨({ supLive with sup := { (supLive).sup with holdUp := true } }), by decide +kernel⟩,
   ⟨764, (evs 353 supLive), by decide +kernel⟩,
   ⟨790, ({ (evs 354 supLive) with sup := { ((evs 354 supLive)).sup with throttled := true } }), by decide +kernel⟩,
   ⟨5, 3, ({ supLive with sup := { (supLive).sup with resetAt := some (5, 3) } }), by decide +kernel⟩,
   ⟨2, supLive, by decide +kernel⟩,
   ⟨55, supLive, by decide +kernel⟩,
   ⟨41000, supLive, by decide +kernel⟩,
   ⟨40000, supLive, by decide +kernel⟩,
   ⟨2, supLive, by decide +kernel⟩,
   ⟨4, supLive, by decide +kernel⟩,
   ⟨supLive, by decide +kernel⟩,
   ⟨({ supLive with sup := { (supLive).sup with wdgState := 1, wdgAt := 0, wdgSet := true, wdgCfg := 8#48 } }), by decide +kernel⟩,
   ⟨({ (evs 352 supLive) with sup := { ((evs 352 supLive)).sup with wdgAt := 1901000000, wdgServer := true } }), by decide +kernel⟩,
   ⟨({ supLive with sup := { (supLive).sup with wdgAt := 1901000000 } }), by decide +kernel⟩,
   ⟨({ State.reset with silo := { State.reset.silo with header := siloHead 1, ovlTarget := 0xFEFEFEFE } }), by decide +kernel⟩,
   ⟨supLive, by decide +kernel⟩,
   ⟨({ State.reset with silo := { State.reset.silo with header := siloHead 1, ovlTarget := 0xFEFEFEFE } }), by decide +kernel⟩⟩

theorem witness_SleepAndWake :
    (∃ s : State, s.aon.wakeOpen = true ∧ s.aon.wakeCause = 0#48) ∧
    (∃ s : State, s.aon.wakeOpen = true ∧ s.aon.wakeCause = 0#48 ∧ bit s.aon.wakeCfg 47 = true) ∧
    (∃ s : State, s.aon.wakeOpen = true ∧ s.aon.wakeCause = 0#48 ∧ bit s.aon.wakeCfg 45 = true ∧ (s.aon.alarm.toNat = s.rtc.sec ∨ (s.sup.asleep = true ∧ s.aon.alarm.toNat ≤ s.rtc.sec))) ∧
    (∃ s : State, s.aon.wakeOpen = true ∧ s.aon.wakeCause = 0#48 ∧ ∃ n : Fin 4, ∃ ps : List (Bool × Nat), canListens s n.val 1 = true ∧ wakePattern (fld (getCan s n.val).wake 44 38 * 100) (fld (getCan s n.val).wake 37 28 * 10000) ps = true) ∧
    (∃ s : State, s.aon.wakeOpen = true ∧ s.aon.wakeCause = 0#48 ∧ ∃ n : Fin 4, ∃ f : CanFrame, ∃ dlc : Fin 16, canListens s n.val 2 = true ∧ f.fd = false ∧ canWakes (getCan s n.val) dlc.val f = true) ∧
    (∃ s : State, s.aon.wakeOpen = true ∧ s.aon.wakeCause = 0#48 ∧ ∃ n : Fin 4, ∃ f : CanFrame, ∃ dlc : Fin 16, canListens s n.val 2 = true ∧ f.fd = false ∧ canWakes (getCan s n.val) dlc.val f = false) ∧
    (∃ s : State, s.aon.wakeOpen = true ∧ s.aon.wakeCause = 0#48 ∧ ∃ n : Fin 4, ∃ l : Fin 7, ∃ k : Nat, ∃ dlc : Fin 16, canListens s n.val 2 = true) ∧
    (∃ s : State, s.aon.wakeOpen = false) ∧
    (∃ s : State, s.sup.asleep = true ∧ fld s.aon.wakeCause 47 44 ≠ 0) ∧
    (∃ ch : Fin 16, ∃ s : State, tenantOf s ch = 0 ∧ Changes s ∧ devMode s = 1 ∧ Asked .mbSleep ch [] s) ∧
    (∃ ch : Fin 16, ∃ s : State, tenantOf s ch = 0 ∧ Changes s ∧ ∃ w : Word, ∃ a : Word, 1 ≤ fld w 43 36 ∧ Asked .mbWakeSet ch ([1#8] ++ wB w ++ wB a) s) ∧
    (∃ ch : Fin 16, ∃ s : State, tenantOf s ch = 0 ∧ Changes s ∧ ∃ en : Byte, ∃ a : Word, en.toNat ≤ 1 ∧ Asked .mbWakeSet ch ([0#8, en] ++ wB a) s) ∧
    (∃ ch : Fin 16, ∃ s : State, tenantOf s ch = 0 ∧ Changes s ∧ Asked .mbReset ch [] s) ∧
    (∃ ch : Fin 16, ∃ s : State, NotCarried s ch ∧ Asked .mbWakeCause ch [] s) ∧
    (∃ ch : Fin 16, ∃ s : State, NotCarried s ch ∧ Asked .mbPwrStat ch [] s) :=
  ⟨⟨wakeLive, by decide +kernel⟩,
   ⟨wakeLive, by decide +kernel⟩,
   ⟨wakeLive, by decide +kernel⟩,
   ⟨wakeLive, by decide +kernel, by decide +kernel, 0, [(true, 1000), (false, 1000), (true, 1000)], by decide +kernel⟩,
   ⟨wakeLive, by decide +kernel, by decide +kernel, 0, ({ fr 0x101 3 with fd := false }), 3, by decide +kernel⟩,
   ⟨wakeLive, by decide +kernel, by decide +kernel, 0, (frx 5 3), 3, by decide +kernel⟩,
   ⟨wakeLive, by decide +kernel, by decide +kernel, 0, 3, 77, 5, by decide +kernel⟩,
   ⟨supLive, by decide +kernel⟩,
   ⟨({ ({ supLive with aon := { (supLive).aon with wakeCause := wd (7 * 2^44) } }) with sup := { (({ supLive with aon := { (supLive).aon with wakeCause := wd (7 * 2^44) } })).sup with asleep := true } }), by decide +kernel⟩,
   ⟨0, (asks 0x0F08 (0 : Fin 16) [] (({ supLive with task := { (supLive).task with dev := 1 } }) : State)), by decide +kernel, ⟨by decide +kernel, by decide +kernel⟩, by decide +kernel, asked_asks rfl⟩,
   ⟨0, (asks 0x0F09 (0 : Fin 16) ([1#8] ++ wB (0xFFFFFFFFFFFF#48 : Word) ++ wB (5#48 : Word)) supLive), by decide +kernel, ⟨by decide +kernel, by decide +kernel⟩, (0xFFFFFFFFFFFF#48), (5#48), by decide +kernel, asked_asks rfl⟩,
   ⟨0, (asks 0x0F09 (0 : Fin 16) ([0#8, (1#8 : Byte)] ++ wB (0#48 : Word)) supLive), by decide +kernel, ⟨by decide +kernel, by decide +kernel⟩, (1#8), (0#48), by decide +kernel, asked_asks rfl⟩,
   ⟨0, (asks 0x0F07 (0 : Fin 16) [] supLive), by decide +kernel, ⟨by decide +kernel, by decide +kernel⟩, asked_asks rfl⟩,
   ⟨1, (asks 0x0F0A (1 : Fin 16) [] supLive), forall_some (by decide +kernel), asked_asks rfl⟩,
   ⟨1, (asks 0x0F01 (1 : Fin 16) [] (({ supLive with aon := { (supLive).aon with temp := -5 } }) : State)), forall_some (by decide +kernel), asked_asks rfl⟩⟩

theorem witness_SupervisionCommandsAndRegisterWrites :
    (∃ ch : Fin 16, ∃ s : State, tenantOf s ch = 0 ∧ NotCarried s ch ∧ s.silo.resetLog.length ≤ 8 ∧ Asked .mbResetLog ch [] s) ∧
    (∃ ch : Fin 16, ∃ s : State, tenantOf s ch = 0 ∧ NotCarried s ch ∧ Asked .mbWdgStat ch [] s) ∧
    (∃ ch : Fin 16, ∃ a : Byte, ∃ b : Byte, ∃ c : Byte, ∃ s : State, tenantOf s ch = 0 ∧ Changes s ∧ devMode s = 1 ∧ bit s.aon.fuseBlown 47 = false ∧ a.toNat ≤ 1 ∧ b.toNat ≤ 7 ∧ c.toNat ≤ 3 ∧ Asked .mbWdgFuse ch [a, b, c] s) ∧
    (∃ ch : Fin 16, ∃ a : Byte, ∃ b : Byte, ∃ c : Byte, ∃ s : State, tenantOf s ch = 0 ∧ bit s.aon.fuseBlown 47 = true ∧ Asked .mbWdgFuse ch [a, b, c] s) ∧
    (∃ ch : Fin 16, ∃ w : Word, ∃ s : State, tenantOf s ch = 0 ∧ Changes s ∧ devMode s = 1 ∧ ∃ c, c = (setBit (w &&& 0xFFFFFFFFFFE0#48) 39 true) ∧ 8 ≤ fld c 8 5 ∧ taskKind (taskEnt s (fld c 47 40)) = 1 ∧ taskTenant s (fld c 47 40) = 0 ∧ inPlot s 1 0 (fld c 38 24) = true ∧ mappedWord s (fld c 38 24) = false ∧ inPlot s 0 0 (fld c 23 9) = true ∧ otherWriter s (fld c 47 40) (fld c 23 9) = false ∧ Asked .mbWdgSet ch ([1#8] ++ wB w) s) ∧
    (∃ ch : Fin 16, ∃ w : Word, ∃ s : State, tenantOf s ch = 0 ∧ Changes s ∧ ∃ c, c = (setBit (w &&& 0xFFE000000000#48) 45 true) ∧ fld c 47 46 ≤ 2 ∧ 1 ≤ fld c 44 37 ∧ Asked .mbStartSet ch ([1#8] ++ wB w) s) ∧
    (∃ ch : Fin 16, ∃ m : Byte, ∃ s : State, tenantOf s ch = 0 ∧ Changes s ∧ m.toNat ≤ 2 ∧ Asked .mbStartSet ch [0#8, m] s) ∧
    (∃ v : Word, ∃ s : State, ∃ r : RegName, (∀ k, r ≠ .evtPend k) ∧ (∀ n, r ≠ .evtSrc n) ∧ r ≠ .sfMap) :=
  ⟨⟨0, (asks 0x0F02 (0 : Fin 16) [] supLive), by decide +kernel, forall_some (by decide +kernel), by decide +kernel, asked_asks rfl⟩,
   ⟨0, (asks 0x0F05 (0 : Fin 16) [] supLive), by decide +kernel, forall_some (by decide +kernel), asked_asks rfl⟩,
   ⟨0, (1#8), (7#8), (3#8), (asks 0x0F03 (0 : Fin 16) [(1#8 : Byte), (7#8 : Byte), (3#8 : Byte)] (({ supLive with task := { (supLive).task with dev := 1 } }) : State)), by decide +kernel, ⟨by decide +kernel, by decide +kernel⟩, by decide +kernel, by decide +kernel, by decide +kernel, by decide +kernel, ⟨by decide +kernel, asked_asks rfl⟩⟩,
   ⟨0, (1#8), (7#8), (3#8), (asks 0x0F03 (0 : Fin 16) [(1#8 : Byte), (7#8 : Byte), (3#8 : Byte)] (({ ({ supLive with task := { (supLive).task with dev := 1 } }) with aon := { (({ supLive with task := { (supLive).task with dev := 1 } })).aon with fuseBlown := wd (2^47) } }) : State)), by decide +kernel, by decide +kernel, asked_asks rfl⟩,
   ⟨0, (wd (6 * 2^40 + 449 * 2^24 + 577 * 2^9 + 8 * 2^5 + 31)), (asks 0x0F04 (0 : Fin 16) ([1#8] ++ wB ((wd (6 * 2^40 + 449 * 2^24 + 577 * 2^9 + 8 * 2^5 + 31)) : Word)) (({ ({ supLive with task := { supLive.task with ent := (6, { cfg := tcfg 1 0 4 }) :: supLive.task.ent } }) with task := { (({ supLive with task := { supLive.task with ent := (6, { cfg := tcfg 1 0 4 }) :: supLive.task.ent } })).task with dev := 1 } }) : State)), by decide +kernel, ⟨by decide +kernel, by decide +kernel⟩, by decide +kernel, _, rfl, by decide +kernel, by decide +kernel, by decide +kernel, by decide +kernel, ⟨by decide +kernel, by decide +kernel, by decide +kernel, asked_asks rfl⟩⟩,
   ⟨0, (wd (2 * 2^46 + 255 * 2^37 + 7)), (asks 0x0F06 (0 : Fin 16) ([1#8] ++ wB ((wd (2 * 2^46 + 255 * 2^37 + 7)) : Word)) supLive), by decide +kernel, ⟨by decide +kernel, by decide +kernel⟩, _, rfl, by decide +kernel, by decide +kernel, asked_asks rfl⟩,
   ⟨0, (2#8), (asks 0x0F06 (0 : Fin 16) [0#8, (2#8 : Byte)] supLive), by decide +kernel, ⟨by decide +kernel, by decide +kernel⟩, by decide +kernel, asked_asks rfl⟩,
   ⟨(5#48), State.reset, (.ceFlag 0), (fun _ h => by cases h), (fun _ h => by cases h), by decide +kernel⟩⟩

end Sys2Proof.Tests
end

section
/-! SUPPORT. The device right after power-on: what each accessor reads in the reset state, and obligation O2. -/

namespace Sys2Proof.Machine

/-! ### What the accessors read in the reset state -/

/-- Only MBX0 is bound, to the SPI port (02 R41). -/
theorem chanCfg_reset (ch : Nat) : chanCfg State.reset ch = if ch = 0 then { transport := 1 } else {} := rfl

@[simp] theorem getChan_reset (ch : Nat) : getChan State.reset ch = {} := rfl

@[simp] theorem evtPending_reset (n : Nat) : evtPending State.reset n = false := BitVec.getLsbD_zero

@[simp] theorem evtSrc_reset (n : Nat) : evtSrc State.reset n = 0#48 := rfl

@[simp] theorem taskEx_reset (k : Nat) : taskEx State.reset k = none := rfl

@[simp] theorem force_reset (k : Nat) : tget none State.reset.task.force k = none := rfl

@[simp] theorem plotOwn_reset (n : Nat) : plotOwn State.reset n = 0#48 := rfl

@[simp] theorem getPlot_reset (n : Nat) : getPlot State.reset n = {} := rfl

@[simp] theorem getSlot_reset (n : Nat) : getSlot State.reset n = {} := rfl

@[simp] theorem getLoop_reset (n : Nat) : getLoop State.reset n = {} := rfl

@[simp] theorem getCan_reset (n : Nat) : getCan State.reset n = {} := rfl

/-- A device on which nothing executes holds no output word, so its plots are kept. -/
theorem plotsAreKept_of_idle {s : State} (idle : ∀ k, taskEx s k = none) : PlotsAreKept s := by
  intro k e he
  rw [idle k] at he
  contradiction

/-! ### The reset state's parts, chapter by chapter -/

/-- 02 R41: MBX0 is bound to the SPI port for T0, every other mailbox is unbound. -/
theorem mailboxes_reset : (chanCfg State.reset 0).tenant = 0 ∧ (chanCfg State.reset 0).transport = 1 ∧
    ∀ ch, 0 < ch → ch < 16 → (chanCfg State.reset ch).transport = 0 := by
  refine ⟨rfl, rfl, fun ch pos _ => ?_⟩
  rw [chanCfg_reset, if_neg pos.ne']

/-- 02 R48, R69: every session is closed, its cache empty, no response ready and no command in execution. -/
theorem channels_reset (ch : Nat) : (getChan State.reset ch).isOpen = false ∧ (getChan State.reset ch).cache = [] ∧
    (getChan State.reset ch).ready = false ∧ (getChan State.reset ch).exec = none := by
  rw [getChan_reset]
  exact ⟨rfl, rfl, rfl, rfl⟩

/-- 01 Table 1-9: every event source is idle and unbound. -/
theorem eventSources_reset (n : Nat) : evtPending State.reset n = false ∧ bit (evtSrc State.reset n) 23 = false := by
  refine ⟨evtPending_reset n, ?_⟩
  rw [evtSrc_reset]
  exact BitVec.getLsbD_zero

/-- 06 Tables 6-2 and 6-4: every plot is unassigned and without an update. -/
theorem plots_reset (n : Nat) : plotOwn State.reset n = 0#48 ∧ (getPlot State.reset n).valid = false ∧ (getPlot State.reset n).upd = 0 := by
  rw [getPlot_reset]
  exact ⟨plotOwn_reset n, rfl, rfl⟩

/-- 07 Table 7-12, 12 Table 12-10: no slot has a status, no loop is configured, every CAN controller is off. -/
theorem engines_reset (n : Nat) : (getSlot State.reset n).sts = 0#48 ∧ (getLoop State.reset n).isSet = false ∧
    (getCan State.reset n).bstate = 0 := by
  rw [getSlot_reset, getLoop_reset, getCan_reset]
  exact ⟨rfl, rfl, rfl⟩

/-- Settles O2: the mailboxes, sources, plots and engines each by what its accessor reads in the reset state; the image's isolation
holds as nothing executes; the single registers stand at their fields' reset values. -/
theorem resetState : Obligations.ResetState := by
  obtain ⟨tenant, spi, unbound⟩ := mailboxes_reset
  exact ⟨rfl, rfl, rfl, rfl, tenant, spi, unbound, channels_reset, eventSources_reset,
    fun k => ⟨taskEx_reset k, force_reset k⟩, plots_reset, engines_reset, rfl, rfl, rfl, rfl, rfl, plotsAreKept_of_idle taskEx_reset⟩

end Sys2Proof.Machine
end

section
/-! SUPPORT. Frames: which groups of the state an operation leaves as they were. A frame names the groups that may change; simp
works through the operations of a state from the last one inwards, so that a frame's proof is the list of the operations' frames. -/

namespace Sys2Proof.Machine

/-! ### States that differ in the listed groups alone -/

/-- s and t agree on the queue and on every group that is not listed. -/
def Frame (ps : List Part) (s t : State) : Prop := t.pending = s.pending ∧ ∀ p, p ∉ ps → samePart p s t

/-- simp looks at the list alone: the states are for the rules below, which never rewrite inside them. -/
@[congr] theorem Frame.congr_parts {ps qs : List Part} {s t : State} (h : ps = qs) : Frame ps s t = Frame qs s t := by rw [h]

theorem samePart_refl (p : Part) (s : State) : samePart p s s := by cases p <;> rfl

theorem samePart_symm {p : Part} {s t : State} (h : samePart p s t) : samePart p t s := by cases p <;> exact Eq.symm h

theorem samePart_trans {p : Part} {s t u : State} (h : samePart p s t) (k : samePart p t u) : samePart p s u := by
  cases p <;> exact Eq.trans k h

@[simp] theorem Frame.refl (ps : List Part) (s : State) : Frame ps s s := ⟨rfl, fun p _ => samePart_refl p s⟩

theorem Frame.symm {ps : List Part} {s t : State} (h : Frame ps s t) : Frame ps t s :=
  ⟨h.1.symm, fun p hp => samePart_symm (h.2 p hp)⟩

theorem Frame.trans {ps : List Part} {s t u : State} (h : Frame ps s t) (k : Frame ps t u) : Frame ps s u :=
  ⟨k.1.trans h.1, fun p hp => samePart_trans (h.2 p hp) (k.2 p hp)⟩

theorem Frame.mono {ps qs : List Part} {s t : State} (h : Frame ps s t) (hq : ps ⊆ qs) : Frame qs s t :=
  ⟨h.1, fun p hp => h.2 p fun hm => hp (hq hm)⟩

theorem Frame.iff {ps : List Part} {t u : State} (h : Frame ps t u) (s : State) : Frame ps s u ↔ Frame ps s t :=
  ⟨fun k => k.trans h.symm, fun k => k.trans h⟩

/-- Group p is listed, or its two values are the same. -/
def MayDiffer (ps : List Part) (p : Part) {α : Type} (a b : α) : Prop := p ∈ ps ∨ a = b

@[congr] theorem MayDiffer.congr_parts {ps qs : List Part} {p : Part} {α : Type} {a b : α} (h : ps = qs) :
    MayDiffer ps p a b = MayDiffer qs p a b := by rw [h]

@[simp] theorem mayDiffer_self (ps : List Part) (p : Part) {α : Type} (a : α) : MayDiffer ps p a a := .inr rfl

@[simp] theorem mayDiffer_cons (ps : List Part) (p q : Part) {α : Type} (a b : α) :
    MayDiffer (q :: ps) p a b ↔ p = q ∨ MayDiffer ps p a b := by
  simp only [MayDiffer, List.mem_cons, or_assoc]

/-- A record update of t, field by field: simp sees an update `{ t with … }` as the constructor applied to every field. -/
@[simp] theorem frame_mk {ps s t clk mb evt gln silo rtc aon sup core prog task img tb slot ce svc fio saf can eth pass pair flash ovl out free}
    (hclk : MayDiffer ps .clk clk t.clk) (hmb : MayDiffer ps .mb mb t.mb) (hevt : MayDiffer ps .evt evt t.evt)
    (hgln : MayDiffer ps .gln gln t.gln) (hsilo : MayDiffer ps .silo silo t.silo) (hrtc : MayDiffer ps .rtc rtc t.rtc)
    (haon : MayDiffer ps .aon aon t.aon) (hsup : MayDiffer ps .sup sup t.sup) (hcore : MayDiffer ps .core core t.core)
    (hprog : MayDiffer ps .prog prog t.prog) (htask : MayDiffer ps .task task t.task) (himg : MayDiffer ps .img img t.img)
    (htb : MayDiffer ps .tb tb t.tb) (hslot : MayDiffer ps .slot slot t.slot) (hce : MayDiffer ps .ce ce t.ce)
    (hsvc : MayDiffer ps .svc svc t.svc) (hfio : MayDiffer ps .fio fio t.fio) (hsaf : MayDiffer ps .saf saf t.saf)
    (hcan : MayDiffer ps .can can t.can) (heth : MayDiffer ps .eth eth t.eth) (hpass : MayDiffer ps .pass pass t.pass)
    (hpair : MayDiffer ps .pair pair t.pair) (hflash : MayDiffer ps .flash flash t.flash) (hovl : MayDiffer ps .ovl ovl t.ovl)
    (hout : MayDiffer ps .out out t.out) (hfree : MayDiffer ps .free free t.free) :
    Frame ps s (State.mk clk mb evt gln silo rtc aon sup core prog task img tb slot ce svc fio saf can eth pass pair flash ovl out free
      t.pending) ↔ Frame ps s t := by
  suffices h : Frame ps t (State.mk clk mb evt gln silo rtc aon sup core prog task img tb slot ce svc fio saf can eth pass pair flash
      ovl out free t.pending) from h.iff s
  refine ⟨rfl, fun p hp => ?_⟩
  cases p <;> exact Or.resolve_left ‹_› hp

/-- P holds where the condition does, Q where it does not. -/
def Either (c : Prop) (P Q : Prop) : Prop := (c → P) ∧ (¬c → Q)

@[congr] theorem Either.congr_branches {c P Q P' Q' : Prop} (h : P = P') (k : Q = Q') : Either c P Q = Either c P' Q' := by rw [h, k]

@[simp] theorem either_true (c : Prop) : Either c True True := ⟨fun _ => trivial, fun _ => trivial⟩

@[simp] theorem frame_ite {ps s t u} {c : Prop} [Decidable c] :
    Frame ps s (if c then t else u) ↔ Either c (Frame ps s t) (Frame ps s u) := by
  unfold Either; split <;> simp [*]

@[simp] theorem frame_snd_ite {α : Type} {ps : List Part} {s : State} {x y : α × State} {c : Prop} [Decidable c] :
    Frame ps s (if c then x else y).2 ↔ Either c (Frame ps s x.2) (Frame ps s y.2) := by
  unfold Either; split <;> simp [*]

@[simp] theorem frame_fst_ite {α : Type} {ps : List Part} {s : State} {x y : State × α} {c : Prop} [Decidable c] :
    Frame ps s (if c then x else y).1 ↔ Either c (Frame ps s x.1) (Frame ps s y.1) := by
  unfold Either; split <;> simp [*]

@[simp] theorem frame_foldl {α : Type} {ps s t} {f : State → α → State} (l : List α) (hf : ∀ a s, Frame ps s (f s a)) :
    Frame ps s (l.foldl f t) ↔ Frame ps s t := by
  induction l generalizing t with
  | nil => rfl
  | cons a l ih => exact ih.trans ((hf a t).iff s)

@[simp] theorem frame_snd_foldl {α β : Type} {ps : List Part} {s : State} {f : β × State → α → β × State} (l : List α) (b : β × State)
    (hf : ∀ b a, Frame ps b.2 (f b a).2) : Frame ps s (l.foldl f b).2 ↔ Frame ps s b.2 := by
  induction l generalizing b with
  | nil => rfl
  | cons a l ih => exact (ih _).trans ((hf b a).iff s)

@[simp] theorem frame_fst_foldl {α β : Type} {ps : List Part} {s : State} {f : State × β → α → State × β} (l : List α) (b : State × β)
    (hf : ∀ b a, Frame ps b.1 (f b a).1) : Frame ps s (l.foldl f b).1 ↔ Frame ps s b.1 := by
  induction l generalizing b with
  | nil => rfl
  | cons a l ih => exact (ih _).trans ((hf b a).iff s)

theorem Frame.foldl {α : Type} {ps : List Part} {s : State} {f : State → α → State} (l : List α) (hf : ∀ s a, Frame ps s (f s a)) :
    Frame ps s (l.foldl f s) :=
  (frame_foldl l fun a s => hf s a).2 (.refl ps s)

/-! ### Operations that keep every group but the listed -/

/-- Every group of the first list is in the second. -/
def Within (qs ps : List Part) : Prop := qs ⊆ ps

@[simp] theorem within_nil (ps : List Part) : Within [] ps := List.nil_subset ps

@[simp] theorem within_cons (q : Part) (qs ps : List Part) : Within (q :: qs) ps ↔ q ∈ ps ∧ Within qs ps := List.cons_subset

@[simp] theorem within_self (ps : List Part) : Within ps ps := List.Subset.refl ps

/-- The operation changes groups of the list alone, whatever happened before it. -/
abbrev Keeps (qs : List Part) (f : State → State) : Prop := ∀ ps s t, Within qs ps → (Frame ps s (f t) ↔ Frame ps s t)

theorem Keeps.of {qs : List Part} {f : State → State} (h : ∀ s, Frame qs s (f s)) : Keeps qs f :=
  fun _ s t hq => ((h t).mono hq).iff s

/-- All groups but the clock and the programme: what most of the device's own work may reach. -/
abbrev unclocked : List Part :=
  [.mb, .evt, .gln, .silo, .rtc, .aon, .sup, .core, .task, .img, .tb, .slot, .ce, .svc, .fio, .saf, .can, .eth, .pass, .pair, .flash,
    .ovl, .out, .free]

abbrev everyPart : List Part :=
  [.clk, .mb, .evt, .gln, .silo, .rtc, .aon, .sup, .core, .prog, .task, .img, .tb, .slot, .ce, .svc, .fio, .saf, .can, .eth, .pass,
    .pair, .flash, .ovl, .out, .free]

@[simp] theorem mem_allBut {p : Part} {ps : List Part} : p ∈ allBut ps ↔ p ∉ ps := by
  unfold allBut; rw [List.mem_filter]
  cases p <;> simp

/-! ### Checks that stop at an error -/

/-- P holds of what the computation gives where no check stops it. -/
def Passing {α : Type} (x : Except Nat α) (P : α → Prop) : Prop := ∀ a, x = .ok a → P a

@[congr] theorem Passing.congr_rest {α : Type} {x : Except Nat α} {P Q : α → Prop} (h : ∀ a, P a = Q a) : Passing x P = Passing x Q := by
  simp only [Passing, h]

@[simp] theorem passing_true {α : Type} (x : Except Nat α) : Passing x (fun _ => True) := fun _ _ => trivial

@[simp] theorem passing_ok {α : Type} (a : α) (P : α → Prop) : Passing (.ok a) P ↔ P a :=
  ⟨fun h => h a rfl, fun h b hb => by cases hb; exact h⟩

@[simp] theorem passing_error {α : Type} (e : Nat) (P : α → Prop) : Passing (.error e) P := fun _ h => nomatch h

@[simp] theorem passing_bind {α β : Type} (x : Except Nat α) (f : α → Except Nat β) (P : β → Prop) :
    Passing (x >>= f) P ↔ Passing x (fun a => Passing (f a) P) := by
  cases x with
  | error e => exact ⟨fun _ _ h => (nomatch h), fun _ _ h => (nomatch h)⟩
  | ok a => exact ⟨fun h b hb => by cases hb; exact h, fun h => h a rfl⟩

@[simp] theorem passing_ite {α : Type} (x y : Except Nat α) (P : α → Prop) {c : Prop} [Decidable c] :
    Passing (if c then x else y) P ↔ Either c (Passing x P) (Passing y P) := by
  unfold Either; split <;> simp [*]

/-! ### Mailbox commands -/

/-- What a command gives where it is not refused keeps every group that is not listed. -/
def MbFrame (ps : List Part) (s : State) (r : MbR) : Prop := Passing r fun o => Frame ps s o.s

@[congr] theorem MbFrame.congr_parts {ps qs : List Part} {s : State} {r} (h : ps = qs) : MbFrame ps s r = MbFrame qs s r := by rw [h]

@[simp] theorem mbFrame_error (ps s) (rc : Nat) : MbFrame ps s (.error rc) := passing_error rc _

@[simp] theorem mbFrame_ok (ps s rc b t) : MbFrame ps s (.ok ⟨rc, b, t⟩) ↔ Frame ps s t := passing_ok ..

@[simp] theorem mbFrame_reply (ps s b t) : MbFrame ps s (reply b t) ↔ Frame ps s t := mbFrame_ok ..

@[simp] theorem mbFrame_done (ps s t) : MbFrame ps s (done t) ↔ Frame ps s t := mbFrame_ok ..

@[simp] theorem mbFrame_defer (ps s t) : MbFrame ps s (defer t) ↔ Frame ps s t := mbFrame_ok ..

@[simp] theorem mbFrame_ite {ps s} {r r' : MbR} {c : Prop} [Decidable c] :
    MbFrame ps s (if c then r else r') ↔ Either c (MbFrame ps s r) (MbFrame ps s r') := passing_ite ..

@[simp] theorem mbFrame_bind {α : Type} {ps s} (x : Except Nat α) (f : α → MbR) :
    MbFrame ps s (x >>= f) ↔ Passing x (fun a => MbFrame ps s (f a)) := passing_bind ..

/-- The command changes groups of the list alone. -/
abbrev MbKeeps (qs : List Part) (f : State → MbR) : Prop := ∀ ps s t, Within qs ps → Frame ps s t → MbFrame ps s (f t)

theorem MbKeeps.of {qs : List Part} {f : State → MbR} (h : ∀ s, MbFrame qs s (f s)) : MbKeeps qs f :=
  fun _ _ t hq ht o ho => ht.trans ((h t o ho).mono hq)

/-! ### KV48 instructions -/

/-- What an instruction does where it does not trap keeps every group that is not listed. -/
def KvFrame (ps : List Part) (s : State) (r : KvRes) : Prop := ∀ e t tgt c, r = .ok e t tgt c → Frame ps s t

@[simp] theorem kvFrame_ok (ps s e t tgt c) : KvFrame ps s (.ok e t tgt c) ↔ Frame ps s t :=
  ⟨fun h => h _ _ _ _ rfl, fun h _ _ _ _ k => by cases k; exact h⟩

@[simp] theorem kvFrame_kvOk (ps s e t) : KvFrame ps s (kvOk e t) ↔ Frame ps s t := kvFrame_ok ..

@[simp] theorem kvFrame_trap (ps s c p) : KvFrame ps s (.trap c p) := fun _ _ _ _ h => nomatch h

@[simp] theorem kvFrame_ite {ps s} {r r' : KvRes} {c : Prop} [Decidable c] :
    KvFrame ps s (if c then r else r') ↔ Either c (KvFrame ps s r) (KvFrame ps s r') := by
  unfold Either; split <;> simp [*]

theorem KvFrame.after {ps : List Part} {s t : State} {r : KvRes} (h : Frame ps s t) (k : KvFrame ps t r) : KvFrame ps s r :=
  fun e u tgt c hr => h.trans (k e u tgt c hr)

/-! ### Rows of the command table -/

/-- The row goes on to a next state, with groups of the list changed alone. -/
def Goes (ps : List Part) (s : State) (o : Host.Outcome State Fault Refusal) : Prop := ∃ t, o = .next t ∧ Frame ps s t

@[congr] theorem Goes.congr_parts {ps qs : List Part} {s : State} {r} (h : ps = qs) : Goes ps s r = Goes qs s r := by rw [h]

@[simp] theorem goes_next (ps s t) : Goes ps s (.next t) ↔ Frame ps s t := ⟨fun ⟨_, h, k⟩ => by cases h; exact k, fun h => ⟨t, rfl, h⟩⟩

@[simp] theorem goes_ite {ps s} {r r' : Host.Outcome State Fault Refusal} {c : Prop} [Decidable c] :
    Goes ps s (if c then r else r') ↔ Either c (Goes ps s r) (Goes ps s r') := by
  unfold Either; split <;> simp [*]

theorem Goes.mono {ps qs : List Part} {s : State} {r : Host.Outcome State Fault Refusal} (h : Goes ps s r) (hq : ps ⊆ qs) : Goes qs s r :=
  let ⟨t, ht, hf⟩ := h
  ⟨t, ht, hf.mono hq⟩

theorem Goes.every {ps : List Part} {s : State} {r : Host.Outcome State Fault Refusal} (h : Goes ps s r) : Goes everyPart s r :=
  h.mono fun p _ => by cases p <;> simp

theorem changesOnly_of_goes {ps : List Part} {i : Instr} (h : ∀ s, Goes ps s (exec i s)) : ChangesOnly ps i := fun s t ht => by
  obtain ⟨u, hu, hf⟩ := h s
  cases ht.symm.trans hu
  exact hf

end Sys2Proof.Machine
end

section
/-! SUPPORT. What each operation, command and row of the model keeps, in the order of the definitions. -/

namespace Sys2Proof.Machine

/-! ### Operations that several chapters share -/

@[simp] theorem emit_keeps (o : Out) : Keeps [.out] (emit o) := .of fun s => by simp [emit]

@[simp] theorem setLines_keeps (alive srv : Bool) : Keeps [.pair, .out] (setLines alive srv) := .of fun s => by simp [setLines]

@[simp] theorem pairSend_keeps (r : PairRec) : Keeps [.pair, .out] (pairSend r) := .of fun s => by simp [pairSend]

@[simp] theorem drawWord_eq (s : State) : drawWord s = (Config.freeWord s.free, { s with free := s.free + 1 }) := rfl

@[simp] theorem setEvtSrc_keeps (n : Nat) (w : Word) : Keeps [.evt] (setEvtSrc n w) := .of fun s => by simp [setEvtSrc]

@[simp] theorem setPending_keeps (n : Nat) (b : Bool) : Keeps [.evt] (setPending n b) := .of fun s => by simp [setPending]

@[simp] theorem fire_keeps (n : Nat) : Keeps [.evt] (fire n) := .of fun s => by simp [fire]

@[simp] theorem fireAll_keeps (ns : List Nat) : Keeps [.evt] (fireAll ns) := .of fun s => by simp [fireAll]

@[simp] theorem gln_keeps (code level tenant : Nat) (p1 p2 : Int) : Keeps [.gln] (gln code level tenant p1 p2) := .of fun s => by simp [gln]

@[simp] theorem glnReportDrops_keeps : Keeps [.gln] glnReportDrops := .of fun s => by simp [glnReportDrops]

@[simp] theorem updChan_keeps (ch : Nat) (f : Chan → Chan) : Keeps [.mb] (updChan ch f) := .of fun s => by simp [updChan]

@[simp] theorem latchWhere_keeps (q : Nat → Bool) (b : Nat) : Keeps [.mb] (latchWhere q b) := .of fun s => by simp [latchWhere]

@[simp] theorem latchTenant_keeps (t b : Nat) : Keeps [.mb] (latchTenant t b) := .of fun s => by simp [latchTenant]

@[simp] theorem latchAll_keeps (b : Nat) : Keeps [.mb] (latchAll b) := .of fun s => by simp [latchAll]

@[simp] theorem closeSession_keeps (ch cause : Nat) : Keeps [.mb, .gln] (closeSession ch cause) := .of fun s => by simp [closeSession]

@[simp] theorem updTask_keeps (k : Nat) (f : TaskEnt → TaskEnt) : Keeps [.task] (updTask k f) := .of fun s => by simp [updTask]

@[simp] theorem setEx_keeps (k : Nat) (e : Option Ex) : Keeps [.core] (setEx k e) := .of fun s => by simp [setEx]

@[simp] theorem updPlot_keeps (n : Nat) (f : PlotSt → PlotSt) : Keeps [.img] (updPlot n f) := .of fun s => by simp [updPlot]

@[simp] theorem setOwn_keeps (n : Nat) (w : Word) : Keeps [.img] (setOwn n w) := .of fun s => by simp [setOwn]

@[simp] theorem imgSet_keeps (w : Nat) (v : Word) : Keeps [.img] (imgSet w v) := .of fun s => by simp [imgSet]

@[simp] theorem imgPut_keeps (w : Nat) (v : Word) : Keeps [.task, .img] (imgPut w v) := .of fun s => by
  unfold imgPut; split <;> simp

@[simp] theorem imgPuts_keeps (ws : List (Nat × Word)) : Keeps [.task, .img] (imgPuts ws) := .of fun s => by simp [imgPuts]

@[simp] theorem updRio_keeps (m : Nat) (f : Rio → Rio) : Keeps [.img] (updRio m f) := .of fun s => by simp [updRio]

@[simp] theorem plotUpdate_keeps (n : Nat) (unit : Option Nat) (subst : Bool) : Keeps [.img] (plotUpdate n unit subst) := .of fun s => by
  simp [plotUpdate]

@[simp] theorem ioPuts_keeps (ws : List (Nat × Word)) : Keeps [.task, .img, .pair, .out] (ioPuts ws) := .of fun s => by simp [ioPuts]

@[simp] theorem wordUpdate_keeps (w : Nat) : Keeps [.img] (wordUpdate w) := .of fun s => by simp [wordUpdate]

@[simp] theorem unitUpdate_keeps (unit : Nat) (subst : Bool) (ws : List (Nat × Word)) : Keeps [.task, .img, .pair, .out] (unitUpdate unit subst ws) := .of fun s => by
  unfold unitUpdate; split <;> simp

/-! ### Ethernet -/

@[simp] theorem updMac_keeps (n : Nat) (f : EthMac → EthMac) : Keeps [.eth] (updMac n f) := .of fun s => by simp [updMac]

@[simp] theorem ethDiscard_keeps (n : Nat) : Keeps [.eth] (ethDiscard n) := .of fun s => by simp [ethDiscard]

@[simp] theorem updTrdp_keeps (k : Nat) (f : Trdp → Trdp) : Keeps [.eth] (updTrdp k f) := .of fun s => by simp [updTrdp]

@[simp] theorem trdpSent_keeps (k q : Nat) : Keeps [.evt, .eth, .pair, .out] (trdpSent k q) := .of fun s => by simp [trdpSent]

@[simp] theorem sentBody_keeps (n : Nat) (b : EthBody) : Keeps [.evt, .eth, .pair, .out] (fun s => (sentBody n b s).2) := .of fun s => by
  cases b <;> simp [sentBody]

@[simp] theorem ethEmit_keeps (n hop dst : Nat) (b : EthBody) : Keeps [.evt, .eth, .pair, .out] (ethEmit n hop dst b) := .of fun s => by
  have h := sentBody_keeps n b [.evt, .eth, .pair, .out] s s
  unfold ethEmit; dsimp only; split
  · rcases hb : sentBody n b s with ⟨b', t⟩
    simp_all
  · simp

@[simp] theorem ethSend_keeps (n dst : Nat) (b : EthBody) : Keeps [.evt, .eth, .pair, .out] (ethSend n dst b) := .of fun s => by
  unfold ethSend; dsimp only
  (repeat' split) <;> simp

@[simp] theorem udpSend_keeps (n dst sport dport : Nat) (data : Bytes) : Keeps [.evt, .eth, .pair, .out] (udpSend n dst sport dport data) := .of fun s => by
  simp [udpSend]

@[simp] theorem udpReply_keeps (mac ip port : Nat) (m : Bytes) : Keeps [.evt, .eth, .pair, .out] (udpReply mac ip port m) := .of fun s => by
  simp [udpReply]

@[simp] theorem gratuitous_keeps (n : Nat) : Keeps [.evt, .eth, .pair, .out] (gratuitous n) := .of fun s => by simp [gratuitous]

@[simp] theorem trdpSend_keeps (n comId dst : Nat) (data : Bytes) : Keeps [.evt, .eth, .pair, .out] (trdpSend n comId dst data) := .of fun s => by
  simp [trdpSend]

/-! ### Mailboxes -/

@[simp] theorem setResult_keeps (ch rc : Nat) (b : Bytes) : Keeps [.mb] (setResult ch rc b) := .of fun s => by simp [setResult]

@[simp] theorem carryChange_keeps (ch : Nat) : Keeps [.pair, .out] (carryChange ch) := .of fun s => by
  unfold carryChange; split <;> simp

theorem runMb_goes {qs : List Part} {f : Nat → Nat → Bytes → State → MbR} (hf : ∀ t ch p, MbKeeps qs (f t ch p))
    (ch : Fin 16) (code : Nat) (p : Bytes) (s : State) : Goes (.mb :: .pair :: .out :: qs) s (runMb ch code f p s) := by
  have hq : Within qs (.mb :: .pair :: .out :: qs) := by intro p hp; simp [hp]
  simp only [runMb, goes_next, frame_ite, Frame.refl]
  refine ⟨fun _ => ?_, fun _ => trivial⟩
  unfold finishMb; split
  · simp
  next o ho =>
    have h : Frame (.mb :: .pair :: .out :: qs) s o.s := hf _ _ p _ s s hq (.refl ..) o ho
    extract_lets t
    have ht : Frame (.mb :: .pair :: .out :: qs) s t := by simp [t, h]
    split <;> simp [ht]

@[simp] theorem siloRead_keeps (addr len : Nat) : Keeps [.evt, .gln, .silo] (siloRead addr len) := .of fun s => by simp [siloRead]

@[simp] theorem siloPut_keeps (addr len : Nat) : Keeps [.silo] (siloPut addr len) := .of fun s => by simp [siloPut]

@[simp] theorem erasePhys_keeps (k : Nat) : Keeps [.evt, .flash] (erasePhys k) := .of fun s => by simp [erasePhys]

@[simp] theorem eraseBlock_keeps (b : Nat) : Keeps [.evt, .flash] (eraseBlock b) := .of fun s => by simp [eraseBlock]

@[simp] theorem putBlock_keeps (b : Nat) (x1 : Block) : Keeps [.flash] (putBlock b x1) := .of fun s => by simp [putBlock]

@[simp] theorem retireBlock_keeps (b cause : Nat) : Keeps [.evt, .gln, .flash] (retireBlock b cause) := .of fun s => by simp [retireBlock]

@[simp] theorem journalPut_keeps (b region index gen : Nat) (complete : Bool) : Keeps [.silo, .flash] (journalPut b region index gen complete) := .of fun s => by
  simp [journalPut]

@[simp] theorem copyDone_keeps (region index gen : Nat) : Keeps [.evt, .gln] (copyDone region index gen) := .of fun s => by simp [copyDone]

@[simp] theorem writeBlock_keeps (b region index gen : Nat) (x4 : Option Block) : Keeps [.evt, .gln, .silo, .flash] (writeBlock b region index gen x4) := .of fun s => by
  unfold writeBlock; dsimp only
  (repeat' split) <;> simp

@[simp] theorem smallStore_keeps (region gen : Nat) (content : Bytes) : Keeps [.evt, .gln, .silo, .flash] (smallStore region gen content) := .of fun s => by
  simp [smallStore]

@[simp] theorem storeArea_keeps (region : Nat) : Keeps [.evt, .gln, .silo, .flash] (storeArea region) := .of fun s => by simp [storeArea]

/-! ### CAN -/

@[simp] theorem updCan_keeps (n : Nat) (f : CanCtl → CanCtl) : Keeps [.can] (updCan n f) := .of fun s => by simp [updCan]

@[simp] theorem canLeft_keeps (n : Nat) (was : CanCtl) : Keeps [.gln] (canLeft n was) := .of fun s => by simp [canLeft]

@[simp] theorem canClose_keeps (n : Nat) : Keeps [.gln, .can] (canClose n) := .of fun s => by simp [canClose]

@[simp] theorem canSleep_keeps (n : Nat) : Keeps [.gln, .can] (canSleep n) := .of fun s => by simp [canSleep]

@[simp] theorem canJudge_keeps (n : Nat) (was : CanCtl) : Keeps [.evt, .gln, .can] (canJudge n was) := .of fun s => by simp [canJudge]

@[simp] theorem judgeRio_keeps (m : Nat) : Keeps [.gln, .img] (judgeRio m) := .of fun s => by simp [judgeRio]

@[simp] theorem remoteSet_keeps (m seq mstat : Nat) (words : List Word) : Keeps [.gln, .task, .img, .pair, .out] (remoteSet m seq mstat words) := .of fun s => by
  simp [remoteSet]; split <;> simp

@[simp] theorem remoteMalformed_keeps (m seq : Nat) : Keeps [.gln, .img] (remoteMalformed m seq) := .of fun s => by simp [remoteMalformed]

@[simp] theorem remoteCanFrame_keeps (m : Nat) (f : CanFrame) : Keeps [.gln, .task, .img, .pair, .out] (remoteCanFrame m f) := .of fun s => by
  unfold remoteCanFrame; dsimp only
  (repeat' split) <;> simp

@[simp] theorem canStore_keeps (n q : Nat) (f : CanFrame) (sof : Nat) : Keeps [.evt, .gln, .can] (canStore n q f sof) := .of fun s => by
  simp [canStore]

@[simp] theorem canRoute_keeps (n : Nat) (f : CanFrame) (sof : Nat) : Keeps [.evt, .gln, .task, .img, .can, .pair, .out] (canRoute n f sof) := .of fun s => by
  unfold canRoute; dsimp only
  (repeat' split) <;> simp

/-! ### The image -/

@[simp] theorem remoteOutput_keeps (m : Nat) : Keeps [.evt, .img, .can, .eth, .pair, .out] (remoteOutput m) := .of fun s => by
  simp [remoteOutput]; split <;> simp

@[simp] theorem fioCommit_keeps : Keeps [.fio] fioCommit := .of fun s => by simp [fioCommit]

@[simp] theorem commitOnly_keeps (ws : List (Nat × Word)) : Keeps [.evt, .task, .img, .fio, .can, .eth, .pair, .out] (commitOnly ws) := .of fun s => by
  simp [commitOnly]

@[simp] theorem commitWords_keeps (ws : List (Nat × Word)) : Keeps [.evt, .task, .img, .fio, .can, .eth, .pair, .out] (commitWords ws) := .of fun s => by
  simp [commitWords]

@[simp] theorem restoreWord_keeps (w : Nat) (f : Force) (x2 : Option Force) : Keeps [.evt, .task, .img, .can, .eth, .pair, .out] (restoreWord w f x2) := .of fun s => by
  simp [restoreWord]

/-! ### Scheduler slots -/

@[simp] theorem updSlot_keeps (n : Nat) (f : Slot → Slot) : Keeps [.slot] (updSlot n f) := .of fun s => by simp [updSlot]

@[simp] theorem slotEnd_keeps (n st : Nat) : Keeps [.slot, .pair, .out] (slotEnd n st) := .of fun s => by simp [slotEnd]

@[simp] theorem fireWord_keeps (n w : Nat) : Keeps [.evt, .task, .img, .tb, .fio, .can, .eth, .pair, .out] (fireWord n w) := .of fun s => by
  simp [fireWord]

@[simp] theorem startPulse_keeps (n w : Nat) : Keeps [.slot] (startPulse n w) := .of fun s => by simp [startPulse]

@[simp] theorem slotAct_keeps (n : Nat) : Keeps [.evt, .gln, .task, .img, .tb, .slot, .fio, .can, .eth, .pair, .out] (slotAct n) := .of fun s => by
  simp [slotAct]

@[simp] theorem slotFire_keeps (st n : Nat) : Keeps [.evt, .gln, .task, .img, .tb, .slot, .fio, .can, .eth, .pair, .out] (slotFire st n) := .of fun s => by
  simp [slotFire]

@[simp] theorem lineMove_keeps (d : Int) : Keeps [.tb] (lineMove d) := .of fun s => by simp [lineMove]

@[simp] theorem slotsStep_keeps (b : Nat) (a c : Int) : Keeps [.evt, .gln, .task, .img, .tb, .slot, .fio, .can, .eth, .pair, .out] (slotsStep b a c) := .of fun s => by
  simp [slotsStep]

@[simp] theorem applyFix_keeps (c : Int) (tf : Nat) : Keeps [.evt, .gln, .task, .img, .tb, .slot, .fio, .can, .eth, .pair, .out] (applyFix c tf) := .of fun s => by
  simp [applyFix]

@[simp] theorem applyFixes_keeps : Keeps [.evt, .gln, .task, .img, .tb, .slot, .fio, .can, .eth, .pair, .out] applyFixes := .of fun s => by
  simp [applyFixes]

@[simp] theorem stepFirst_keeps : Keeps [.evt, .gln, .task, .img, .tb, .slot, .fio, .can, .eth, .pair, .out] stepFirst := .of fun s => by
  simp [stepFirst]

@[simp] theorem slotFireFirst_keeps (n : Nat) : Keeps [.evt, .gln, .task, .img, .tb, .slot, .fio, .can, .eth, .pair, .out] (slotFireFirst n) := .of fun s => by
  simp [slotFireFirst]

@[simp] theorem fireReached_keeps (q : Slot → Bool) : Keeps [.evt, .gln, .task, .img, .tb, .slot, .fio, .can, .eth, .pair, .out] (fireReached q) := .of fun s => by
  simp [fireReached]

@[simp] theorem fireWith_keeps (q : Slot → Bool) : Keeps [.evt, .gln, .task, .img, .tb, .slot, .fio, .can, .eth, .pair, .out] (fireWith q) := .of fun s => by
  simp [fireWith]

@[simp] theorem fireDue_keeps : Keeps [.evt, .gln, .task, .img, .tb, .slot, .fio, .can, .eth, .pair, .out] fireDue := .of fun s => by simp [fireDue]

@[simp] theorem slotArm_keeps (n : Nat) (t : Word) : Keeps [.evt, .gln, .task, .img, .tb, .slot, .fio, .can, .eth, .pair, .out] (slotArm n t) := .of fun s => by
  simp [slotArm]

@[simp] theorem slotCancel_keeps (n : Nat) : Keeps [.slot, .pair, .out] (slotCancel n) := .of fun s => by simp [slotCancel]

@[simp] theorem slotDo_keeps (n : Nat) (arm : Option Word) : Keeps [.evt, .gln, .task, .img, .tb, .slot, .fio, .can, .eth, .pair, .out] (slotDo n arm) := .of fun s => by
  unfold slotDo; split <;> simp

@[simp] theorem slotOp_keeps (rank n : Nat) (arm : Option Word) : Keeps [.evt, .gln, .task, .img, .tb, .slot, .fio, .can, .eth, .pair, .out] (slotOp rank n arm) := .of fun s => by
  simp [slotOp]

@[simp] theorem scanFire_keeps (k : Nat) : Keeps [.evt, .gln, .task, .img, .tb, .slot, .fio, .can, .eth, .pair, .out] (scanFire k) := .of fun s => by
  simp [scanFire]

@[simp] theorem confirmedFire_keeps : Keeps [.evt, .gln, .task, .img, .tb, .slot, .fio, .can, .eth, .pair, .out] confirmedFire := .of fun s => by
  simp [confirmedFire]

@[simp] theorem slotsLost_keeps (b : Nat) (all : Bool) : Keeps [.gln, .slot, .pair, .out] (slotsLost b all) := .of fun s => by simp [slotsLost]

@[simp] theorem slotsStop_keeps (t : Nat) : Keeps [.gln, .slot, .pair, .out] (slotsStop t) := .of fun s => by simp [slotsStop]

@[simp] theorem slotsPlots_keeps : Keeps [.slot] slotsPlots := .of fun s => by simp [slotsPlots]

theorem execSlotFire_goes (slot : Fin 2048) (s : State) : Goes [.evt, .gln, .task, .img, .tb, .slot, .fio, .can, .eth, .pair, .out] s (execSlotFire slot s) := by simp [execSlotFire]

theorem execPulseEnd_goes (slot : Fin 2048) (s : State) : Goes [.evt, .task, .img, .slot, .fio, .can, .eth, .pair, .out] s (execPulseEnd slot s) := by
  unfold execPulseEnd; dsimp only; split <;> simp

/-! ### Compute engines -/

@[simp] theorem updLoop_keeps (n : Nat) (f : CeLoop → CeLoop) : Keeps [.ce] (updLoop n f) := .of fun s => by simp [updLoop]

@[simp] theorem updInj_keeps (i : Nat) (f : CeInj → CeInj) : Keeps [.ce] (updInj i f) := .of fun s => by simp [updInj]

@[simp] theorem injEnd_keeps (i cause : Nat) : Keeps [.gln, .ce] (injEnd i cause) := .of fun s => by simp [injEnd]

@[simp] theorem ceDeriveAgain_keeps (n : Nat) : Keeps [.ce, .free] (ceDeriveAgain n) := .of fun s => by simp [ceDeriveAgain]

@[simp] theorem ceTake_keeps (w : CeWait) : Keeps [.ce, .free] (ceTake w) := .of fun s => by
  unfold ceTake; split <;> simp

@[simp] theorem ceChange_keeps (w : CeWait) : Keeps [.ce, .free] (ceChange w) := .of fun s => by simp [ceChange]

@[simp] theorem ceSettle_keeps (ns : List Nat) : Keeps [.ce, .free] (ceSettle ns) := .of fun s => by simp [ceSettle]

@[simp] theorem ceSettled_keeps : Keeps [.ce, .free] ceSettled := .of fun s => by simp [ceSettled]

@[simp] theorem injSample_keeps (x0 : CeLoop) (c : CeCalc) (ua : List Int) (dt seq i : Nat) : Keeps [.gln, .ce] (fun s => injSample x0 c ua dt seq s i) := .of fun s => by
  simp [injSample]

@[simp] theorem ceReport_keeps (n : Nat) (old new : CeLoop) (c : CeCalc) : Keeps [.evt, .gln] (ceReport n old new c) := .of fun s => by
  simp [ceReport]

@[simp] theorem ceFinish_keeps (dt : Nat) (sel : Option (Int × Bool)) (c : CeCalc) : Keeps [.evt, .gln, .ce] (ceFinish dt sel c) := .of fun s => by
  simp [ceFinish]

@[simp] theorem ceCommit_keeps (n : Nat) (group : Bool) (ua : List Int) : Keeps [.evt, .gln, .task, .img, .ce, .fio, .can, .eth, .pair, .out] (ceCommit n group ua) := .of fun s => by
  simp [ceCommit]

@[simp] theorem ceComplete_keeps (j : CeJob) : Keeps [.evt, .gln, .core, .task, .img, .ce, .fio, .can, .eth, .pair, .out, .free] (ceComplete j) := .of fun s => by
  unfold ceComplete; dsimp only
  (repeat' split) <;> simp

@[simp] theorem ceTrigger_keeps (n : Nat) : Keeps [.ce] (ceTrigger n) := .of fun s => by simp [ceTrigger]

@[simp] theorem seqLater_keeps (n : Nat) (i : CeJob) : Keeps [.core] (fun s => seqLater n s i) := .of fun s => by
  unfold seqLater; split
  · simp
  · split <;> simp

@[simp] theorem ceStartScan_keeps (n k : Nat) (e : Ex) : Keeps [.core, .ce] (fun s => (ceStartScan n k e s).2) := .of fun s => by
  simp [ceStartScan]

@[simp] theorem ceSupangTrigger_keeps (n : Nat) : Keeps [.ce] (ceSupangTrigger n) := .of fun s => by simp [ceSupangTrigger]

@[simp] theorem ceStop_keeps (t : Nat) : Keeps [.gln, .ce, .free] (ceStop t) := .of fun s => by simp [ceStop]

@[simp] theorem ceRestart_keeps (t : Nat) : Keeps [.ce] (ceRestart t) := .of fun s => by simp [ceRestart]

@[simp] theorem cePlots_keeps : Keeps [.ce] cePlots := .of fun s => by simp [cePlots]

@[simp] theorem ceRederive_keeps (p : CeLoop → Bool) : Keeps [.ce, .free] (ceRederive p) := .of fun s => by simp [ceRederive]

@[simp] theorem ceMainsChanged_keeps (n : Nat) : Keeps [.ce, .free] (ceMainsChanged n) := .of fun s => by simp [ceMainsChanged]

/-! ### Field I/O -/

@[simp] theorem updFc_keeps (n : Nat) (f : FcCh → FcCh) : Keeps [.fio] (updFc n f) := .of fun s => by simp [updFc]

@[simp] theorem updGrp_keeps (g : Nat) (f : FcGrp → FcGrp) : Keeps [.fio] (updGrp g f) := .of fun s => by simp [updGrp]

@[simp] theorem updDie_keeps (d : Nat) (f : FioDie → FioDie) : Keeps [.fio] (updDie d f) := .of fun s => by simp [updDie]

@[simp] theorem updAi_keeps (n : Nat) (f : AiCh → AiCh) : Keeps [.fio] (updAi n f) := .of fun s => by simp [updAi]

@[simp] theorem updAo_keeps (n : Nat) (f : AoCh → AoCh) : Keeps [.fio] (updAo n f) := .of fun s => by simp [updAo]

@[simp] theorem fioGln_keeps (code p1 p2 : Nat) : Keeps [.gln] (fioGln code p1 p2) := .of fun s => by simp [fioGln]

@[simp] theorem laneGln_keeps (code p1 p2 : Nat) : Keeps [.gln] (laneGln code p1 p2) := .of fun s => by simp [laneGln]

@[simp] theorem outDiagFire_keeps (n : Nat) : Keeps [.evt] (outDiagFire n) := .of fun s => by simp [outDiagFire]

@[simp] theorem fcFault_keeps (n : Nat) : Keeps [.fio] (fcFault n) := .of fun s => by simp [fcFault]

@[simp] theorem outFault_keeps (code n : Nat) : Keeps [.evt, .gln, .fio] (outFault code n) := .of fun s => by simp [outFault]

@[simp] theorem bankRelease_keeps (g : Nat) : Keeps [.fio] (bankRelease g) := .of fun s => by simp [bankRelease]

@[simp] theorem bankRequest_keeps (g now : Nat) : Keeps [.fio] (bankRequest g now) := .of fun s => by simp [bankRequest]

@[simp] theorem bankGrant_keeps (g now : Nat) : Keeps [.evt, .gln, .fio] (bankGrant g now) := .of fun s => by simp [bankGrant]

@[simp] theorem plainDrive_keeps (g : Nat) : Keeps [.fio] (plainDrive g) := .of fun s => by simp [plainDrive]

@[simp] theorem grpDrive_keeps (now g : Nat) : Keeps [.evt, .gln, .fio] (fun s => grpDrive now s g) := .of fun s => by simp [grpDrive]

@[simp] theorem dieDrive_keeps (d : Nat) : Keeps [.evt, .gln, .fio] (dieDrive d) := .of fun s => by simp [dieDrive]

@[simp] theorem dieSafe_keeps (d : Nat) : Keeps [.evt, .gln, .fio] (dieSafe d) := .of fun s => by simp [dieSafe]

@[simp] theorem readSilent_keeps (d : Nat) : Keeps [.gln, .fio] (readSilent d) := .of fun s => by simp [readSilent]

@[simp] theorem fioFrame_keeps (d : Nat) : Keeps [.gln, .fio] (fioFrame d) := .of fun s => by simp [fioFrame]

@[simp] theorem dieTake_keeps (d : Nat) : Keeps [.fio] (dieTake d) := .of fun s => by simp [dieTake]

@[simp] theorem dieCommands_keeps (d : Nat) : Keeps [.fio] (dieCommands d) := .of fun s => by simp [dieCommands]

@[simp] theorem enterSilence_keeps (d : Nat) : Keeps [.evt, .gln, .fio, .saf] (enterSilence d) := .of fun s => by simp [enterSilence]

@[simp] theorem diePowerUp_keeps (d : Nat) : Keeps [.fio, .saf] (diePowerUp d) := .of fun s => by simp [diePowerUp]

@[simp] theorem supplyReturn_keeps (d : Nat) : Keeps [.fio, .saf, .free] (supplyReturn d) := .of fun s => by simp [supplyReturn]

@[simp] theorem dieAccept_keeps (d : Nat) : Keeps [.evt, .gln, .fio, .saf] (dieAccept d) := .of fun s => by simp [dieAccept]

@[simp] theorem fioReport_keeps (d unit : Nat) (ws : List (Nat × Word)) : Keeps [.task, .img, .fio, .pair, .out] (fioReport d unit ws) := .of fun s => by
  simp [fioReport]

@[simp] theorem reportGroup_keeps (g : Nat) : Keeps [.task, .img, .fio, .pair, .out] (reportGroup g) := .of fun s => by simp [reportGroup]

@[simp] theorem reportAi_keeps (n : Nat) : Keeps [.task, .img, .fio, .pair, .out] (reportAi n) := .of fun s => by simp [reportAi]

@[simp] theorem reportAo_keeps (n : Nat) (measured : Word) : Keeps [.task, .img, .fio, .pair, .out] (reportAo n measured) := .of fun s => by
  simp [reportAo]

@[simp] theorem aiFilter_keeps (n : Nat) (v : Word) : Keeps [.free] (fun s => (aiFilter n v s).2) := .of fun s => by
  simp [aiFilter]

@[simp] theorem aiScale_keeps (a : AiCh) (x : Word) : Keeps [.free] (fun s => (aiScale a x s).2) := .of fun s => by
  simp [aiScale]

@[simp] theorem aiSample_keeps (n : Nat) (raw : Word) : Keeps [.evt, .gln, .task, .img, .fio, .pair, .out, .free] (aiSample n raw) := .of fun s => by
  have hf := aiFilter_keeps n (aiClamp (getAi s n).live raw) [.evt, .gln, .task, .img, .fio, .pair, .out, .free] s s
  unfold aiSample; dsimp only
  rcases hx : aiFilter n (aiClamp (getAi s n).live raw) s with ⟨x, t⟩
  have hs := aiScale_keeps (getAi t n) x [.evt, .gln, .task, .img, .fio, .pair, .out, .free] s t
  rcases hv : aiScale (getAi t n) x t with ⟨v, u⟩
  simp_all

/-! ### Safety domain -/

@[simp] theorem updPath_keeps (p : Nat) (f : SafPathSt → SafPathSt) : Keeps [.saf] (updPath p f) := .of fun s => by simp [updPath]

@[simp] theorem updInst_keeps (p i : Nat) (f : SafInst → SafInst) : Keeps [.saf] (updInst p i f) := .of fun s => by simp [updInst]

@[simp] theorem updIn_keeps (p j : Nat) (f : SafIn → SafIn) : Keeps [.saf] (updIn p j f) := .of fun s => by simp [updIn]

@[simp] theorem safGln_keeps (code p1 p2 : Nat) : Keeps [.gln, .saf] (safGln code p1 p2) := .of fun s => by simp [safGln]

@[simp] theorem safState_keeps (st : Nat) : Keeps [.mb, .gln, .saf] (safState st) := .of fun s => by simp [safState]

@[simp] theorem safFault_keeps (code p : Nat) : Keeps [.mb, .gln, .saf] (safFault code p) := .of fun s => by simp [safFault]

@[simp] theorem outputFault_keeps (k kind : Nat) : Keeps [.gln, .saf] (outputFault k kind) := .of fun s => by simp [outputFault]

@[simp] theorem safStart_keeps : Keeps [.mb, .gln, .saf] safStart := .of fun s => by simp [safStart]

@[simp] theorem safOff_keeps : Keeps [.mb, .gln, .saf] safOff := .of fun s => by simp [safOff]

@[simp] theorem setInst_keeps (p i st cause : Nat) : Keeps [.evt, .gln, .saf] (setInst p i st cause) := .of fun s => by simp [setInst]

@[simp] theorem toDemand_keeps (p i : Nat) (o : Bool) : Keeps [.evt, .gln, .saf] (toDemand p i o) := .of fun s => by simp [toDemand]

@[simp] theorem safPermit_keeps (p i : Nat) : Keeps [.evt, .gln, .saf] (safPermit p i) := .of fun s => by simp [safPermit]

@[simp] theorem sampleInst_keeps (p i : Nat) : Keeps [.saf] (sampleInst p i) := .of fun s => by simp [sampleInst]

@[simp] theorem demandInst_keeps (p i : Nat) : Keeps [.evt, .gln, .saf] (demandInst p i) := .of fun s => by simp [demandInst]

@[simp] theorem faultInst_keeps (p i : Nat) : Keeps [.evt, .gln, .saf] (faultInst p i) := .of fun s => by
  simp [faultInst]; split <;> simp

@[simp] theorem permitInst_keeps (p i : Nat) : Keeps [.evt, .gln, .saf] (permitInst p i) := .of fun s => by
  unfold permitInst; dsimp only; split <;> simp

@[simp] theorem resetInst_keeps (p i : Nat) (waited : Bool) : Keeps [.evt, .gln, .saf] (resetInst p i waited) := .of fun s => by simp [resetInst]

@[simp] theorem evalInsts_keeps (p : Nat) : Keeps [.evt, .gln, .saf] (evalInsts p) := .of fun s => by simp [evalInsts]

@[simp] theorem driveSwitches_keeps (p : Nat) : Keeps [.saf] (driveSwitches p) := .of fun s => by simp [driveSwitches]

@[simp] theorem evalPath_keeps (p : Nat) (rb : SoReadback) : Keeps [.evt, .gln, .saf] (evalPath p rb) := .of fun s => by simp [evalPath]

@[simp] theorem safEdge_keeps (n : Nat) : Keeps [.saf, .free] (safEdge n) := .of fun s => by
  unfold safEdge; split
  · simp
  · refine Frame.foldl _ fun s p => ?_
    extract_lets now x iv t
    have ht : Frame [.saf, .free] s t := by simp [t]
    split
    · exact ht
    · refine ht.trans (Frame.foldl _ fun s i => ?_)
      split
      · simp
      · split
        rename_i moves u hu
        have hu' : Frame [.saf, .free] s u := by
          rw [← show _ = u from congrArg Prod.snd hu]; simp
        extract_lets v
        split <;> simp [v, hu']

/-! ### Axles -/

@[simp] theorem updAxle_keeps (n : Nat) (f : Axle → Axle) : Keeps [.tb] (updAxle n f) := .of fun s => by simp [updAxle]

@[simp] theorem axJudge_keeps : Keeps [.evt, .gln, .tb] axJudge := .of fun s => by simp [axJudge]

@[simp] theorem lpFall_keeps : Keeps [.gln, .tb, .slot, .pair, .out] lpFall := .of fun s => by simp [lpFall]

@[simp] theorem axFuse_keeps : Keeps [.evt, .gln, .tb, .slot, .pair, .out] axFuse := .of fun s => by simp [axFuse]

@[simp] theorem axDecide_keeps (n t : Nat) : Keeps [.evt, .gln, .tb, .slot, .pair, .out] (axDecide n t) := .of fun s => by simp [axDecide]

@[simp] theorem axReject_keeps (n : Nat) : Keeps [.evt, .gln, .tb] (axReject n) := .of fun s => by simp [axReject]

@[simp] theorem axDropCand_keeps (n : Nat) : Keeps [.evt, .gln, .tb] (axDropCand n) := .of fun s => by simp [axDropCand]

@[simp] theorem axAccept_keeps (n x1 : Nat) : Keeps [.evt, .gln, .task, .img, .tb, .slot, .fio, .can, .eth, .pair, .out] (axAccept n x1) := .of fun s => by
  simp [axAccept]

@[simp] theorem axStart_keeps (n : Nat) (back : Bool) : Keeps [.tb] (axStart n back) := .of fun s => by simp [axStart]

@[simp] theorem axTrack_keeps (n : Nat) (before : Option Nat) : Keeps [.gln, .tb] (axTrack n before) := .of fun s => by
  unfold axTrack; dsimp only; split <;> simp

@[simp] theorem axEdgeStart_keeps (n : Nat) : Keeps [.evt, .gln, .task, .img, .tb, .slot, .fio, .can, .eth, .pair, .out] (axEdgeStart n) := .of fun s => by
  unfold axEdgeStart; dsimp only; split <;> simp

@[simp] theorem axEdgeTrack_keeps (n : Nat) : Keeps [.evt, .gln, .task, .img, .tb, .slot, .fio, .can, .eth, .pair, .out] (axEdgeTrack n) := .of fun s => by
  simp [axEdgeTrack]; split <;> simp

theorem execToothEdge_goes (tw : Fin 4) (reverse : Bool) (s : State) : Goes [.evt, .gln, .task, .img, .tb, .slot, .fio, .saf, .can, .eth, .pair, .out, .free] s (execToothEdge tw reverse s) := by simp [execToothEdge]

theorem execToothWindowClose_goes (tw : Fin 4) (s : State) : Goes [.evt, .gln, .task, .img, .tb, .slot, .fio, .can, .eth, .pair, .out] s (execToothWindowClose tw s) := by
  simp [execToothWindowClose]; split <;> simp

theorem execAxleStillTimeout_goes (tw : Fin 4) (s : State) : Goes [.evt, .gln, .tb, .slot, .pair, .out] s (execAxleStillTimeout tw s) := by simp [execAxleStillTimeout]

theorem execAxleReadmit_goes (tw : Fin 4) (s : State) : Goes [.evt, .gln, .tb, .slot, .pair, .out] s (execAxleReadmit tw s) := by
  unfold execAxleReadmit; dsimp only; split <;> simp

theorem execCoastTimeout_goes (s : State) : Goes [.gln, .tb, .slot, .pair, .out] s (execCoastTimeout s) := by
  unfold execCoastTimeout; split <;> simp

@[simp] theorem leaveTargets_keeps : Keeps [.slot] leaveTargets := .of fun s => by simp [leaveTargets]

@[simp] theorem positionTick_keeps : Keeps [.evt, .gln, .task, .img, .tb, .slot, .fio, .can, .eth, .pair, .out] positionTick := .of fun s => by
  simp [positionTick]

@[simp] theorem updMains_keeps (n : Nat) (f : Mains → Mains) : Keeps [.tb] (updMains n f) := .of fun s => by simp [updMains]

@[simp] theorem mainsEnter_keeps (n st : Nat) : Keeps [.evt, .gln, .tb, .ce] (mainsEnter n st) := .of fun s => by simp [mainsEnter]

@[simp] theorem mainsRef_keeps (n v run : Nat) : Keeps [.tb] (mainsRef n v run) := .of fun s => by simp [mainsRef]

theorem execMainsZeroCrossing_goes (mains : Fin 2) (freqMHz : Nat) (phase : BitVec 16) (phaseErr : Int) (s : State) : Goes [.evt, .gln, .task, .img, .tb, .slot, .ce, .fio, .can, .eth, .pair, .out, .free] s (execMainsZeroCrossing mains freqMHz phase phaseErr s) := by
  simp [execMainsZeroCrossing]; split <;> simp

theorem execMainsCrossingTimeout_goes (mains : Fin 2) (s : State) : Goes [.evt, .gln, .tb, .ce] s (execMainsCrossingTimeout mains s) := by simp [execMainsCrossingTimeout]

@[simp] theorem leaveAngle_keeps (n : Nat) : Keeps [.task, .tb] (leaveAngle n) := .of fun s => by simp [leaveAngle]

theorem execMainsHoldoverExpiry_goes (mains : Fin 2) (s : State) : Goes [.evt, .gln, .task, .tb, .slot, .ce, .pair, .out] s (execMainsHoldoverExpiry mains s) := by simp [execMainsHoldoverExpiry]

theorem execMainsDcDetect_goes (mains : Fin 2) (s : State) : Goes [.evt, .gln, .tb, .slot, .ce, .pair, .out] s (execMainsDcDetect mains s) := by simp [execMainsDcDetect]

/-! ### Event sources -/

@[simp] theorem evtAssign_keeps (t : Nat) (en : Bool) (n : Nat) : Keeps [.evt] (fun s => evtAssign t en s n) := .of fun s => by simp [evtAssign]

@[simp] theorem mbEvtAlloc_keeps (t _ch : Nat) (p : Bytes) : MbKeeps [.evt, .gln] (mbEvtAlloc t _ch p) := .of fun s => by simp [mbEvtAlloc]

@[simp] theorem mbEvtEnable_keeps (t _ch : Nat) (p : Bytes) : MbKeeps [.evt] (mbEvtEnable t _ch p) := .of fun s => by simp [mbEvtEnable]

@[simp] theorem mbEvtClear_keeps (t _ch : Nat) (p : Bytes) : MbKeeps [.evt] (mbEvtClear t _ch p) := .of fun s => by simp [mbEvtClear]

@[simp] theorem mbEvtGet_keeps (t _ch : Nat) (p : Bytes) : MbKeeps [] (mbEvtGet t _ch p) := .of fun s => by simp [mbEvtGet]

/-! ### Gleaner and SILO -/

@[simp] theorem ringWrite_keeps (e : GlnEntry) : Keeps [.mb, .gln, .silo] (ringWrite e) := .of fun s => by simp [ringWrite]

@[simp] theorem glnPut_keeps (e : GlnEntry) : Keeps [.mb, .gln, .silo] (glnPut e) := .of fun s => by simp [glnPut]

@[simp] theorem holdPut_keeps (e : GlnEntry) : Keeps [.silo] (holdPut e) := .of fun s => by simp [holdPut]

@[simp] theorem freezeFirst_keeps : Keeps [.mb, .gln, .silo] freezeFirst := .of fun s => by
  unfold freezeFirst; split <;> simp

@[simp] theorem glnWriteOne_keeps : Keeps [.mb, .gln, .silo] glnWriteOne := .of fun s => by
  unfold glnWriteOne; split <;> simp

theorem execGleanerWrite_goes (s : State) : Goes [.mb, .gln, .silo] s (execGleanerWrite s) := by simp [execGleanerWrite]

@[simp] theorem glnFlush_keeps : Keeps [.mb, .gln, .silo] glnFlush := .of fun s => by simp [glnFlush]

theorem execGleanerTokenGain_goes (code : BitVec 16) (tenant : Fin 32) (s : State) : Goes [.gln] s (execGleanerTokenGain code tenant s) := by simp [execGleanerTokenGain]

@[simp] theorem unfreeze_keeps (cause : Nat) : Keeps [.mb, .gln, .silo] (unfreeze cause) := .of fun s => by simp [unfreeze]

theorem execGleanerFreezeExpiry_goes (s : State) : Goes [.mb, .gln, .silo] s (execGleanerFreezeExpiry s) := by
  unfold execGleanerFreezeExpiry; split <;> simp

@[simp] theorem mbGlnFreeze_keeps (t ch : Nat) (p : Bytes) : MbKeeps [.mb, .gln, .silo] (mbGlnFreeze t ch p) := .of fun s => by simp [mbGlnFreeze]

@[simp] theorem mbGlnUnfreeze_keeps (t _ch : Nat) (p : Bytes) : MbKeeps [.mb, .gln, .silo] (mbGlnUnfreeze t _ch p) := .of fun s => by
  simp [mbGlnUnfreeze]

@[simp] theorem glnScan_keeps (t sub : Nat) (fuel want seq : Nat) (a : GlnScan) (ps : List Part) (s : State) (hp : Within [.evt, .gln, .silo] ps) :
    Frame ps s (glnScan t sub fuel want seq a).s ↔ Frame ps s a.s := by
  refine Frame.iff (.mono ?_ hp) s
  induction fuel generalizing want seq a with
  | zero => exact .refl ..
  | succ fuel ih =>
    cases want with
    | zero => exact .refl ..
    | succ want =>
      unfold glnScan; dsimp only
      split
      · refine .trans ?_ (ih ..)
        simp
      · split
        · refine .trans ?_ (ih ..)
          simp
        · split <;> exact .trans (by simp) (ih ..)

@[simp] theorem mbGlnRead_keeps (t _ch : Nat) (p : Bytes) : MbKeeps [.evt, .gln, .silo] (mbGlnRead t _ch p) := .of fun s => by
  simp [mbGlnRead, apply_ite GlnScan.s]

@[simp] theorem mbGlnClassSet_keeps (t _ch : Nat) (p : Bytes) : MbKeeps [.gln] (mbGlnClassSet t _ch p) := .of fun s => by simp [mbGlnClassSet]

@[simp] theorem mbGlnStat_keeps (_t _ch : Nat) (p : Bytes) : MbKeeps [] (mbGlnStat _t _ch p) := .of fun s => by simp [mbGlnStat]

@[simp] theorem retPutWords_keeps (t k : Nat) (ws : List Word) : Keeps [.silo] (retPutWords t k ws) := .of fun s => by simp [retPutWords]

@[simp] theorem retPutDesc_keeps (t k : Nat) (ws : List Word) : Keeps [.silo] (retPutDesc t k ws) := .of fun s => by simp [retPutDesc]

@[simp] theorem retWriteNow_keeps (t : Nat) (ws : List Word) : Keeps [.silo] (retWriteNow t ws) := .of fun s => by simp [retWriteNow]

@[simp] theorem putSeg2_keeps (t : Nat) (ws : List Word) : Keeps [.core] (putSeg2 t ws) := .of fun s => by simp [putSeg2]

@[simp] theorem initSeg_keeps (seg owner len : Nat) : Keeps [.core] (initSeg seg owner len) := .of fun s => by simp [initSeg]

@[simp] theorem retChoose_keeps (t : Nat) : Keeps [.evt, .gln, .silo, .core, .task] (retChoose t) := .of fun s => by
  unfold retChoose; dsimp only
  (repeat' split) <;> simp

@[simp] theorem mbRetStat_keeps (t _ch : Nat) (p : Bytes) : MbKeeps [] (mbRetStat t _ch p) := .of fun s => by simp [mbRetStat]

@[simp] theorem rtcApplyWrite_keeps : Keeps [.gln, .rtc] rtcApplyWrite := .of fun s => by
  unfold rtcApplyWrite; split <;> simp

@[simp] theorem rtcWrite_keeps : Keeps [.gln, .rtc] rtcWrite := .of fun s => by simp [rtcWrite]

theorem execRtcCalAdd_goes (s : State) : Goes [.rtc] s (execRtcCalAdd s) := by simp [execRtcCalAdd]

theorem execRtcSupplySwitch_goes (toVbat : Bool) (s : State) : Goes [.evt, .rtc] s (execRtcSupplySwitch toVbat s) := by simp [execRtcSupplySwitch]

@[simp] theorem setWallOk_keeps (b : Bool) : Keeps [.gln, .tb] (setWallOk b) := .of fun s => by simp [setWallOk]

theorem execOscStopDetect_goes (s : State) : Goes [.gln, .rtc, .tb] s (execOscStopDetect s) := by simp [execOscStopDetect]

theorem execRtcSyncCheck_goes (s : State) : Goes [.gln, .rtc] s (execRtcSyncCheck s) := by simp [execRtcSyncCheck]

@[simp] theorem setCal_keeps (c : Int) : Keeps [.gln, .rtc] (setCal c) := .of fun s => by simp [setCal]

theorem execRtcCalDerive_goes (drift : Int) (s : State) : Goes [.gln, .rtc] s (execRtcCalDerive drift s) := by simp [execRtcCalDerive]

theorem execVbatCheck_goes (mv : Nat) (s : State) : Goes [.rtc, .aon] s (execVbatCheck mv s) := by simp [execVbatCheck]

@[simp] theorem mbRtcGet_keeps (_t _ch : Nat) (p : Bytes) : MbKeeps [] (mbRtcGet _t _ch p) := .of fun s => by simp [mbRtcGet]

@[simp] theorem mbRtcCapture_keeps (t _ch : Nat) (p : Bytes) : MbKeeps [.gln] (mbRtcCapture t _ch p) := .of fun s => by simp [mbRtcCapture]

@[simp] theorem mbRtcCalSet_keeps (t _ch : Nat) (p : Bytes) : MbKeeps [.gln, .rtc] (mbRtcCalSet t _ch p) := .of fun s => by simp [mbRtcCalSet]

/-! ### Tasks -/

@[simp] theorem setCore_keeps (c : Nat) (k : Option Nat) : Keeps [.core] (setCore c k) := .of fun s => by simp [setCore]

@[simp] theorem preempt_keeps (j : Nat) (e : Ex) : Keeps [.core] (preempt j e) := .of fun s => by simp [preempt]

@[simp] theorem place_keeps (k c : Nat) : Keeps [.core] (place k c) := .of fun s => by
  unfold place; dsimp only
  (repeat' split) <;> simp

@[simp] theorem dispatchN_keeps (n : Nat) : Keeps [.core] (dispatchN n) := .of fun s => by
  induction n generalizing s with
  | zero => simp [dispatchN]
  | succ n ih => 
    unfold dispatchN; split
    · exact .trans (by simp) (ih _)
    · simp

@[simp] theorem dispatch_keeps : Keeps [.core] dispatch := .of fun s => by simp [dispatch]

@[simp] theorem noteStop_keeps (k : Nat) (e : Ex) (cause : Nat) : Keeps [.pair, .out] (noteStop k e cause) := .of fun s => by simp [noteStop]

@[simp] theorem applyNextEntry_keeps (k : Nat) : Keeps [.task] (applyNextEntry k) := .of fun s => by simp [applyNextEntry]

@[simp] theorem releaseTask_keeps {qs : List Part} {onCount : Nat → State → State} (k : Nat) (ho : ∀ k, Keeps qs (onCount k)) : Keeps (.core :: .task :: .pair :: .out :: qs) (releaseTask onCount k) := .of fun s => by
  have hq : Within qs (.core :: .task :: .pair :: .out :: qs) := by intro p hp; simp [hp]
  simp [releaseTask, ho, hq]

@[simp] theorem takeSource_keeps (n : Nat) : Keeps [.evt, .gln] (takeSource n) := .of fun s => by simp [takeSource]

@[simp] theorem dropEx_keeps (k : Nat) : Keeps [.core] (dropEx k) := .of fun s => by
  unfold dropEx; split <;> simp

@[simp] theorem dropWhere_keeps (q : Nat → Bool) : Keeps [.core] (dropWhere q) := .of fun s => by simp [dropWhere]

@[simp] theorem refuseTrans_keeps (scope : Nat) : Keeps [.mb, .task] (refuseTrans scope) := .of fun s => by simp [refuseTrans]

@[simp] theorem enterFault_keeps (scope cause : Nat) : Keeps [.mb, .core, .task] (enterFault scope cause) := .of fun s => by simp [enterFault]

@[simp] theorem taskTrap_keeps (k : Nat) (e : Ex) (cause : Nat) (p2 : Int) : Keeps [.mb, .gln, .core, .task, .pair, .out] (taskTrap k e cause p2) := .of fun s => by
  simp [taskTrap]

/-! ### Resets and power -/

@[simp] theorem deviceReset_keeps (cause detail : Nat) : Keeps everyPart (deviceReset cause detail) := .of fun s => by simp [deviceReset]

@[simp] theorem closeSessions_keeps : Keeps [.mb, .gln] closeSessions := .of fun s => by simp [closeSessions]

@[simp] theorem selfFault_keeps (cause detail : Nat) : Keeps everyPart (selfFault cause detail) := .of fun s => by simp [selfFault]

@[simp] theorem wdgDraw_keeps : Keeps [.sup, .task, .img, .pair, .out, .free] wdgDraw := .of fun s => by simp [wdgDraw]

@[simp] theorem wdgStart_keeps (hw : Bool) : Keeps [.gln, .sup, .task, .img, .pair, .out, .free] (wdgStart hw) := .of fun s => by simp [wdgStart]

@[simp] theorem wdgExpire_keeps (detail token : Nat) : Keeps everyPart (wdgExpire detail token) := .of fun s => by simp [wdgExpire]

@[simp] theorem wdgService_keeps (token : Nat) : Keeps everyPart (wdgService token) := .of fun s => by simp [wdgService]

@[simp] theorem wdgCommit_keeps (k : Nat) (ws : List (Nat × Word)) : Keeps everyPart (wdgCommit k ws) := .of fun s => by
  unfold wdgCommit; split <;> simp

@[simp] theorem wdgServerCheck_keeps : Keeps [.sup] wdgServerCheck := .of fun s => by simp [wdgServerCheck]

theorem execFirmwareWatchdogService_goes (s : State) : Goes everyPart s (execFirmwareWatchdogService s) := by simp [execFirmwareWatchdogService]

theorem execWatchdogWarning_goes (s : State) : Goes [.evt, .gln, .sup] s (execWatchdogWarning s) := by simp [execWatchdogWarning]

theorem execWatchdogLapse_goes (s : State) : Goes everyPart s (execWatchdogLapse s) := by simp [execWatchdogLapse]

/-! ### Services -/

@[simp] theorem svcNote_keeps (kind num owner w : Nat) (was now : Bool) : Keeps [.gln] (svcNote kind num owner w was now) := .of fun s => by
  simp [svcNote]

theorem svcPut_written {s t : State} {owner w : Nat} {lane : Option Nat} {v : Word} (h : svcPut s owner w lane v = .written t) :
    Frame [.evt, .task, .img, .fio, .can, .eth, .pair, .out] s t := by
  unfold svcPut at h; split at h
  · cases h
  · split at h
    · cases h
    · cases h; simp

@[simp] theorem wpgEval_keeps (w : Nat) : Keeps [.evt, .gln, .task, .img, .svc, .fio, .can, .eth, .pair, .out] (wpgEval w) := .of fun s => by
  unfold wpgEval; split
  · simp
  · dsimp only; split
    · simp
    · split
      next h => simp [(svcPut_written h).mono]
      · simp
      · simp

@[simp] theorem wpgJump_keeps (q : Nat → Bool) (ns : Int) : Keeps [.evt, .gln, .task, .img, .svc, .fio, .can, .eth, .pair, .out] (wpgJump q ns) := .of fun s => by
  unfold wpgJump; split
  · simp
  · refine Frame.foldl _ fun s e => ?_
    split <;> simp

@[simp] theorem enStore_keeps (m : Nat) (o : EnOpen) (flags tenant : Nat) : Keeps [.gln, .silo] (enStore m o flags tenant) := .of fun s => by
  simp [enStore]

@[simp] theorem enOpen_keeps (m flags : Nat) : Keeps [.silo, .svc] (enOpen m flags) := .of fun s => by
  unfold enOpen; split <;> simp

@[simp] theorem enTurn_keeps (m closeFlags openFlags : Nat) : Keeps [.gln, .silo, .svc] (enTurn m closeFlags openFlags) := .of fun s => by
  unfold enTurn; split
  · split <;> simp
  · simp

@[simp] theorem enTurnAll_keeps (closeFlags openFlags : Nat) : Keeps [.gln, .silo, .svc] (enTurnAll closeFlags openFlags) := .of fun s => by
  simp [enTurnAll]

@[simp] theorem enSave_keeps : Keeps [.silo] enSave := .of fun s => by simp [enSave]

@[simp] theorem wallStepUtc_keeps (new u : Int) (cause : Nat) : Keeps [.evt, .gln, .silo, .task, .img, .tb, .svc, .fio, .can, .eth, .pair, .out] (wallStepUtc new u cause) := .of fun s => by
  simp [wallStepUtc]

@[simp] theorem wallStep_keeps (new : Int) (cause : Nat) : Keeps [.evt, .gln, .silo, .task, .img, .tb, .svc, .fio, .can, .eth, .pair, .out] (wallStep new cause) := .of fun s => by
  simp [wallStep]

@[simp] theorem setRho_keeps (rho : Int) : Keeps [.tb] (setRho rho) := .of fun s => by simp [setRho]

@[simp] theorem setUtc_keeps (u : Int) : Keeps [.evt, .gln, .silo, .task, .img, .svc, .fio, .can, .eth, .pair, .out] (setUtc u) := .of fun s => by
  simp [setUtc]

@[simp] theorem setOfs_keeps (n : Nat) (o : Int) : Keeps [.evt, .gln, .task, .img, .svc, .fio, .can, .eth, .pair, .out] (setOfs n o) := .of fun s => by
  simp [setOfs]

@[simp] theorem svcEnter_keeps (t : Nat) : Keeps [.svc] (svcEnter t) := .of fun s => by simp [svcEnter]

@[simp] theorem svcStop_keeps (t : Nat) : Keeps [.svc] (svcStop t) := .of fun s => by simp [svcStop]

/-! ### Modes -/

@[simp] theorem updRet_keeps (t : Nat) (f : RetState → RetState) : Keeps [.task] (updRet t f) := .of fun s => by simp [updRet]

@[simp] theorem retSnap_keeps (t : Nat) : Keeps [.silo, .task] (retSnap t) := .of fun s => by simp [retSnap]

@[simp] theorem holdNext_keeps : Keeps [.silo, .task] holdNext := .of fun s => by
  unfold holdNext; split <;> simp

@[simp] theorem holdSnapshots_keeps : Keeps [.silo, .task] holdSnapshots := .of fun s => by simp [holdSnapshots]

@[simp] theorem retAnchor_keeps (k : Nat) : Keeps [.silo, .task] (retAnchor k) := .of fun s => by simp [retAnchor]

theorem execRetainSnapshotDue_goes (tenant : Fin 32) (s : State) : Goes [.task] s (execRetainSnapshotDue tenant s) := by simp [execRetainSnapshotDue]

theorem execRetainSnapshotNoAnchor_goes (tenant : Fin 32) (s : State) : Goes [.gln, .silo, .task] s (execRetainSnapshotNoAnchor tenant s) := by
  unfold execRetainSnapshotNoAnchor; dsimp only; split <;> simp

theorem execRetainSnapshotWritten_goes (tenant : Fin 32) (s : State) : Goes [.gln, .silo, .task] s (execRetainSnapshotWritten tenant s) := by
  unfold execRetainSnapshotWritten; dsimp only
  (repeat' split) <;> simp

@[simp] theorem forceRemove_keeps (w cause : Nat) : Keeps [.evt, .gln, .task, .img, .can, .eth, .pair, .out] (forceRemove w cause) := .of fun s => by
  unfold forceRemove; split <;> simp

theorem execForceTimeout_goes (word : Fin 20480) (s : State) : Goes [.evt, .gln, .task, .img, .can, .eth, .pair, .out] s (execForceTimeout word s) := by
  unfold execForceTimeout; split <;> simp

@[simp] theorem stopTenants_keeps (snap : Bool) (ts : List Nat) : Keeps [.evt, .gln, .silo, .task, .img, .tb, .slot, .ce, .svc, .fio, .can, .eth, .pair, .out, .free] (stopTenants snap ts) := .of fun s => by
  unfold stopTenants
  extract_lets t u 
  have ht : Frame [.evt, .gln, .silo, .task, .img, .tb, .slot, .ce, .svc, .fio, .can, .eth, .pair, .out, .free] s t := by simp [t]
  have hu : Frame [.evt, .gln, .silo, .task, .img, .tb, .slot, .ce, .svc, .fio, .can, .eth, .pair, .out, .free] s u := by
    unfold u; split <;> simp [ht]
  refine hu.trans (Frame.foldl _ fun s t => ?_)
  simp

@[simp] theorem warmStart_keeps (cold : Bool) (t : Nat) : Keeps [.evt, .core, .ce, .svc] (warmStart cold t) := .of fun s => by simp [warmStart]

@[simp] theorem setScopeMode_keeps (scope m : Nat) : Keeps [.task] (setScopeMode scope m) := .of fun s => by simp [setScopeMode]

@[simp] theorem applyMode_keeps (scope m cause : Nat) (cold : Bool) : Keeps [.mb, .evt, .gln, .silo, .sup, .core, .task, .img, .tb, .slot, .ce, .svc, .fio, .can, .eth, .pair, .out, .free] (applyMode scope m cause cold) := .of fun s => by
  simp [applyMode]

@[simp] theorem nextTrans_keeps (scope n : Nat) : Keeps [.mb, .task] (nextTrans scope n) := .of fun s => by
  induction n generalizing s with
  | zero => simp [nextTrans]
  | succ n ih =>
    unfold nextTrans; split
    · simp
    · dsimp only; split
      · simp
      · refine .trans ?_ (ih _)
        split <;> simp

@[simp] theorem finishTrans_keeps (scope : Nat) (r : Trans) : Keeps [.mb, .evt, .gln, .silo, .sup, .core, .task, .img, .tb, .slot, .ce, .svc, .fio, .can, .eth, .pair, .out, .free] (finishTrans scope r) := .of fun s => by
  unfold finishTrans; split <;> simp

theorem execModeTransitionInForce_goes (scope : Option (Fin 32)) (s : State) : Goes [.mb, .evt, .gln, .silo, .sup, .core, .task, .img, .tb, .slot, .ce, .svc, .fio, .can, .eth, .pair, .out, .free] s (execModeTransitionInForce scope s) := by
  unfold execModeTransitionInForce; dsimp only; split <;> simp

theorem execBudgetExceeded_goes (core : Fin 8) (s : State) : Goes [.mb, .gln, .core, .task, .pair, .out] s (execBudgetExceeded core s) := by
  unfold execBudgetExceeded; dsimp only
  (repeat' split) <;> simp

theorem execDeadlineOverrun_goes (task : Fin 256) (s : State) : Goes [.mb, .evt, .gln, .silo, .sup, .core, .task, .img, .tb, .slot, .ce, .svc, .fio, .can, .eth, .pair, .out, .free] s (execDeadlineOverrun task s) := by
  unfold execDeadlineOverrun; dsimp only; split <;> simp

@[simp] theorem commitEx_keeps (k : Nat) (e : Ex) : Keeps [.evt, .silo, .core, .task, .img, .fio, .can, .eth, .pair, .out] (commitEx k e) := .of fun s => by
  simp [commitEx]

/-! ### Pass -/

@[simp] theorem updPort_keeps (p : Nat) (f : PassPort → PassPort) : Keeps [.pass] (updPort p f) := .of fun s => by simp [updPort]

@[simp] theorem updMember_keeps (p : Nat) (f : PassMember → PassMember) : Keeps [.pass] (updMember p f) := .of fun s => by simp [updMember]

@[simp] theorem passOwn_keeps (f : PassFrame) : Keeps [.pass] (passOwn f) := .of fun s => by simp [passOwn]

@[simp] theorem portStart_keeps (p : Nat) (f : PassFrame) : Keeps [.pass, .out] (portStart p f) := .of fun s => by simp [portStart]

@[simp] theorem portEmit_keeps (p : Nat) (b : PassBody) : Keeps [.pass, .out] (portEmit p b) := .of fun s => by simp [portEmit]

@[simp] theorem linkSend_keeps (p : Nat) (b : PassBody) : Keeps [.pass, .out] (linkSend p b) := .of fun s => by simp [linkSend]

@[simp] theorem portClear_keeps (p : Nat) : Keeps [.pass] (portClear p) := .of fun s => by simp [portClear]

@[simp] theorem inaugStart_keeps : Keeps [.pass] inaugStart := .of fun s => by simp [inaugStart]

@[simp] theorem chainAnnounce_keeps (c : ChainChange) : Keeps [.pass] (chainAnnounce c) := .of fun s => by simp [chainAnnounce]

@[simp] theorem chainSubmit_keeps (c : ChainChange) : Keeps [.pass] (chainSubmit c) := .of fun s => by simp [chainSubmit]

@[simp] theorem chainRequest_keeps (kind cmd t ch : Nat) (p : Bytes) : MbKeeps [.pass] (chainRequest kind cmd t ch p) := .of fun s => by
  simp [chainRequest]

/-! ### TRDP -/

@[simp] theorem judgeTrdp_keeps (k : Nat) : Keeps [.gln, .eth] (judgeTrdp k) := .of fun s => by simp [judgeTrdp]

@[simp] theorem dropUnit_keeps (u : Nat) : Keeps [.img] (dropUnit u) := .of fun s => by simp [dropUnit]

@[simp] theorem updPtp_keeps (f : Ptp → Ptp) : Keeps [.eth] (updPtp f) := .of fun s => by simp [updPtp]

@[simp] theorem setWallPtp_keeps (b : Bool) : Keeps [.evt, .gln, .tb] (setWallPtp b) := .of fun s => by simp [setWallPtp]

@[simp] theorem setPtpState_keeps (n : Nat) : Keeps [.evt, .gln, .tb, .eth] (setPtpState n) := .of fun s => by simp [setPtpState]

@[simp] theorem ptpListen_keeps : Keeps [.evt, .gln, .tb, .eth] ptpListen := .of fun s => by simp [ptpListen]

/-! ### Commands of the image -/

@[simp] theorem imageDenied_keeps (t ch w : Nat) : MbKeeps [.gln] (imageDenied t ch w) := .of fun s => by simp [imageDenied]

@[simp] theorem mbImageRead_keeps (t ch : Nat) (p : Bytes) : MbKeeps [.gln] (mbImageRead t ch p) := .of fun s => by
  unfold mbImageRead; dsimp only; split <;> simp

@[simp] theorem mbImageWrite_keeps (t ch : Nat) (p : Bytes) : MbKeeps [.gln, .task, .img, .pair, .out] (mbImageWrite t ch p) := .of fun s => by
  unfold mbImageWrite; dsimp only; split <;> simp

@[simp] theorem mbPlotGet_keeps (t _ch : Nat) (p : Bytes) : MbKeeps [] (mbPlotGet t _ch p) := .of fun s => by simp [mbPlotGet]

@[simp] theorem freshPlot_keeps (n : Nat) (o : Word) : Keeps [.img] (freshPlot n o) := .of fun s => by simp [freshPlot]

@[simp] theorem plotTableChanged_keeps : Keeps [.slot, .ce] plotTableChanged := .of fun s => by simp [plotTableChanged]

@[simp] theorem plotAssign_keeps (n : Nat) (p : Bytes) : Keeps [.gln, .img, .slot, .ce] (plotAssign n p) := .of fun s => by simp [plotAssign]

@[simp] theorem plotRelease_keeps (t n : Nat) : Keeps [.evt, .gln, .task, .img, .slot, .ce, .fio, .can, .eth, .pair, .out] (plotRelease t n) := .of fun s => by
  simp [plotRelease]

@[simp] theorem plotShare_keeps (n share : Nat) : Keeps [.gln, .img, .slot, .ce] (plotShare n share) := .of fun s => by simp [plotShare]

theorem plotChange_some {cmd t : Nat} {p : Bytes} {s u : State} (h : plotChange cmd t p s = some u) :
    Frame [.evt, .gln, .task, .img, .slot, .ce, .fio, .can, .eth, .pair, .out] s u := by
  unfold plotChange at h; extract_lets n at h
  split at h
  · obtain ⟨-, h⟩ := Option.ite_none_right_eq_some.1 h
    simp [← Option.some.inj h]
  · split at h
    · obtain ⟨-, h⟩ := Option.ite_none_right_eq_some.1 h
      simp [← Option.some.inj h]
    · obtain ⟨-, h⟩ := Option.ite_none_right_eq_some.1 h
      obtain ⟨-, h⟩ := Option.ite_none_right_eq_some.1 h
      simp [← Option.some.inj h]

@[simp] theorem plotCommand_keeps (cmd t ch pos : Nat) (p : Bytes) : MbKeeps [.evt, .gln, .task, .img, .slot, .ce, .fio, .can, .eth, .pass, .pair, .out] (plotCommand cmd t ch pos p) := .of fun s => by
  unfold plotCommand; split
  · simp
  · split
    next h => simp [(plotChange_some h).mono]
    · simp

@[simp] theorem mbPlotAssign_keeps (t ch : Nat) (p : Bytes) : MbKeeps [.evt, .gln, .task, .img, .slot, .ce, .fio, .can, .eth, .pass, .pair, .out] (mbPlotAssign t ch p) := .of fun s => by
  simp [mbPlotAssign]

@[simp] theorem mbPlotRelease_keeps (t ch : Nat) (p : Bytes) : MbKeeps [.evt, .gln, .task, .img, .slot, .ce, .fio, .can, .eth, .pass, .pair, .out] (mbPlotRelease t ch p) := .of fun s => by
  simp [mbPlotRelease]

@[simp] theorem mbPlotShare_keeps (t ch : Nat) (p : Bytes) : MbKeeps [.evt, .gln, .task, .img, .slot, .ce, .fio, .can, .eth, .pass, .pair, .out] (mbPlotShare t ch p) := .of fun s => by
  simp [mbPlotShare]

@[simp] theorem mbPlotPubSet_keeps (t _ch : Nat) (p : Bytes) : MbKeeps [.img] (mbPlotPubSet t _ch p) := .of fun s => by simp [mbPlotPubSet]

theorem execPlotStale_goes (plot : Fin 320) (s : State) : Goes [.gln, .img] s (execPlotStale plot s) := by simp [execPlotStale]

@[simp] theorem setRio_keeps (m : Nat) (w tmo : Word) (subst : List Word) : Keeps [.gln, .img] (setRio m w tmo subst) := .of fun s => by simp [setRio]

@[simp] theorem mbRioSet_keeps (t _ch : Nat) (p : Bytes) : MbKeeps [.gln, .img] (mbRioSet t _ch p) := .of fun s => by
  unfold mbRioSet; dsimp only
  (repeat' split) <;> simp

@[simp] theorem mbRioGet_keeps (t _ch : Nat) (p : Bytes) : MbKeeps [] (mbRioGet t _ch p) := .of fun s => by simp [mbRioGet]

@[simp] theorem mbTenantAccept_keeps (t _ch : Nat) (p : Bytes) : MbKeeps [.evt, .gln, .silo, .img, .eth, .flash] (mbTenantAccept t _ch p) := .of fun s => by
  simp [mbTenantAccept]

theorem execRemoteSetReceived_goes (m : Fin 1024) (seq : BitVec 16) (mstat : Byte) (words : List Word) (s : State) : Goes [.gln, .task, .img, .pair, .out] s (execRemoteSetReceived m seq mstat words s) := by simp [execRemoteSetReceived]

theorem execRemoteModuleTimeout_goes (m : Fin 1024) (s : State) : Goes [.gln, .task, .img, .pair, .out] s (execRemoteModuleTimeout m s) := by simp [execRemoteModuleTimeout]

theorem execRemoteOutputPeriodic_goes (m : Fin 1024) (s : State) : Goes [.evt, .img, .can, .eth, .pair, .out] s (execRemoteOutputPeriodic m s) := by simp [execRemoteOutputPeriodic]

/-! ### Requests and the mailbox port -/

@[simp] theorem hostFrame_keeps : Keeps [.aon] hostFrame := .of fun s => by simp [hostFrame]

@[simp] theorem judge_keeps (ch : Nat) (m : Bytes) : Keeps [.mb, .gln] (fun s => (judge ch m s).2) := .of fun s => by
  unfold judge
  extract_lets cfg c seq cmd dig d
  split
  · simp
  split
  · simp
  split
  · simp
  split
  · simp
  split
  · split
    · simp
    · split <;> simp
  · simp

@[simp] theorem accept_keeps (ch : Nat) (m : Bytes) (udp : Option (Nat × Nat × Nat)) : Keeps [.mb] (accept ch m udp) := .of fun s => by simp [accept]

@[simp] theorem answerSpi_keeps (ch : Nat) (m : Bytes) (rc : Nat) (pl : Bytes) : Keeps [.mb] (answerSpi ch m rc pl) := .of fun s => by
  simp [answerSpi]

@[simp] theorem countDiscard_keeps (result : Nat) (ch : Option Nat) : Keeps [.mb, .gln] (countDiscard result ch) := .of fun s => by
  unfold countDiscard; split <;> simp

@[simp] theorem frameResult_keeps (r : Nat) : Keeps [.mb] (frameResult r) := .of fun s => by simp [frameResult]

@[simp] theorem discardFrame_keeps (result : Nat) (ch : Option Nat) : Keeps [.mb, .gln] (discardFrame result ch) := .of fun s => by
  simp [discardFrame]

@[simp] theorem discardWaiting_keeps : Keeps [.mb, .gln] discardWaiting := .of fun s => by simp [discardWaiting]

@[simp] theorem checkWrite_keeps (m : Bytes) : Keeps [.mb, .gln] (checkWrite m) := .of fun s => by
  unfold checkWrite; extract_lets ch
  have h := judge_keeps ch m [.mb, .gln] s s (by simp)
  split
  · simp
  split
  · simp
  split
  · simp
  split
  · simp
  split
  next hj => simp [hj] at h; simp [h]
  next hj => simp [hj] at h; simp [h]

theorem execMailboxRequestCheck_goes (s : State) : Goes [.mb, .gln] s (execMailboxRequestCheck s) := by
  unfold execMailboxRequestCheck; split <;> simp

@[simp] theorem miso_keeps (n : Nat) (us : List (BitVec 16)) : Keeps [.out] (miso n us) := .of fun s => by simp [miso]

@[simp] theorem takeView_keeps (ch : Nat) : Keeps [.mb] (takeView ch) := .of fun s => by simp [takeView]

theorem spiFrame_keeps {ps : List Part} {drive : List (BitVec 16) → State → List (BitVec 16)} {body : List (BitVec 16) → State → State}
    (hb : ∀ us s, Frame ps s (body us s)) (hw : Within [.mb, .gln, .aon, .out] ps) (f : SpiFrame) (s : State) : Frame ps s (spiFrame f drive body s) := by
  obtain ⟨hmb, hgln, haon, hout, -⟩ : .mb ∈ ps ∧ .gln ∈ ps ∧ .aon ∈ ps ∧ .out ∈ ps ∧ True := by simpa using hw
  unfold spiFrame; split
  · simp
  extract_lets us h
  split
  · simp [h, *]
  split
  · simp [h, *]
  · exact .trans (by simp [h, *]) (hb ..)

@[simp] theorem writeBody_keeps (us : List (BitVec 16)) : Keeps [.mb, .gln] (writeBody us) := .of fun s => by simp [writeBody]

@[simp] theorem readBody_keeps (us : List (BitVec 16)) : Keeps [.mb] (readBody us) := .of fun s => by simp [readBody]

@[simp] theorem pollBody_keeps (us : List (BitVec 16)) : Keeps [.mb] (pollBody us) := .of fun s => by simp [pollBody]

theorem opcodeFrame_keeps {ps : List Part} {drive : List (BitVec 16) → State → List (BitVec 16)} {body : List (BitVec 16) → State → State}
    (hb : ∀ us s, Frame ps s (body us s)) (hw : Within [.mb, .gln, .aon, .out] ps) (op : Nat) (f : SpiFrame) (s : State) : Frame ps s (opcodeFrame op f drive body s) := by
  unfold opcodeFrame; split
  · simp
  · exact spiFrame_keeps hb hw f s

theorem execSpiWriteFrame_goes (f : SpiFrame) (s : State) : Goes [.mb, .gln, .aon, .out] s (execSpiWriteFrame f s) := by
  simp [execSpiWriteFrame, opcodeFrame_keeps]

theorem execSpiReadFrame_goes (f : SpiFrame) (s : State) : Goes [.mb, .gln, .aon, .out] s (execSpiReadFrame f s) := by
  simp [execSpiReadFrame, opcodeFrame_keeps]

theorem execSpiPollFrame_goes (f : SpiFrame) (s : State) : Goes [.mb, .gln, .aon, .out] s (execSpiPollFrame f s) := by
  simp [execSpiPollFrame, opcodeFrame_keeps]

theorem execSpiLinkReset_goes (f : SpiFrame) (s : State) : Goes [.mb, .gln, .aon, .out] s (execSpiLinkReset f s) := by
  simp [execSpiLinkReset, spiFrame_keeps]

theorem execSpiBadOpcodeFrame_goes (f : SpiFrame) (s : State) : Goes [.mb, .gln, .aon, .out] s (execSpiBadOpcodeFrame f s) := by
  simp [execSpiBadOpcodeFrame, spiFrame_keeps]

@[simp] theorem discardUdp_keeps (ch : Option Nat) (ip port : Nat) : Keeps [.mb, .gln] (discardUdp ch ip port) := .of fun s => by
  unfold discardUdp; split <;> simp

@[simp] theorem checkUdp_keeps (mac ip port : Nat) (m : Bytes) : Keeps [.mb, .evt, .gln, .aon, .eth, .pair, .out] (checkUdp mac ip port m) := .of fun s => by
  unfold checkUdp; extract_lets ch cfg
  have h := judge_keeps ch m [.mb, .evt, .gln, .aon, .eth, .pair, .out] s (hostFrame s) (by simp)
  split
  · simp
  split
  · simp
  split
  · simp
  split
  · simp
  split
  next hj => simp [hj] at h; simp [h]
  next hj => simp [hj] at h; simp [h]

theorem execUdpMailboxDatagram_goes (mac : Fin 3) (ip port : Nat) (data : Bytes) (s : State) : Goes [.mb, .evt, .gln, .aon, .eth, .pair, .out] s (execUdpMailboxDatagram mac ip port data s) := by simp [execUdpMailboxDatagram]

@[simp] theorem applyChanCfg_keeps (ch : Nat) (c : ChanCfg) : Keeps [.mb, .evt, .gln, .silo, .flash] (applyChanCfg ch c) := .of fun s => by
  simp [applyChanCfg]

@[simp] theorem formReply_keeps (ch : Nat) (r : Req) (rc : Nat) (pl : Bytes) : Keeps [.mb, .evt, .gln, .silo, .sup, .eth, .pair, .flash, .ovl, .out] (formReply ch r rc pl) := .of fun s => by
  unfold formReply
  extract_lets tagged msg cacheIt s1 s2 s3 x4 s4 x5 s5 x6 s6
  have h1 : Frame [.mb, .evt, .gln, .silo, .sup, .eth, .pair, .flash, .ovl, .out] s s1 := by simp [s1]
  have h2 : Frame [.mb, .evt, .gln, .silo, .sup, .eth, .pair, .flash, .ovl, .out] s s2 := by
    unfold s2; split <;> simp [h1]
  have h6 : Frame [.mb, .evt, .gln, .silo, .sup, .eth, .pair, .flash, .ovl, .out] s s6 := by
    simp [s6, s5, s4, s3, h2]
  split <;> simp [h6]

theorem execCommandExecutionEnd_goes (ch : Fin 16) (s : State) : Goes [.mb, .evt, .gln, .silo, .sup, .eth, .pair, .flash, .ovl, .out] s (execCommandExecutionEnd ch s) := by
  unfold execCommandExecutionEnd; dsimp only; split <;> simp

@[simp] theorem mbSessionOpen_keeps (t ch : Nat) (p : Bytes) : MbKeeps [.mb, .gln, .free] (mbSessionOpen t ch p) := .of fun s => by
  simp [mbSessionOpen]

@[simp] theorem mbSessionClose_keeps (_t _ch : Nat) (p : Bytes) : MbKeeps [] (mbSessionClose _t _ch p) := .of fun s => by simp [mbSessionClose]

@[simp] theorem mbNop_keeps (_t _ch : Nat) (p : Bytes) : MbKeeps [] (mbNop _t _ch p) := .of fun s => by simp [mbNop]

@[simp] theorem mbAckAttn_keeps (_t ch : Nat) (p : Bytes) : MbKeeps [.mb, .silo] (mbAckAttn _t ch p) := .of fun s => by simp [mbAckAttn]

@[simp] theorem mbDeviceInfo_keeps (_t _ch : Nat) (p : Bytes) : MbKeeps [] (mbDeviceInfo _t _ch p) := .of fun s => by simp [mbDeviceInfo]

@[simp] theorem changeChan_keeps (self ch : Nat) (n : ChanNew) : Keeps [.mb, .evt, .gln, .silo, .flash] (changeChan self ch n) := .of fun s => by
  simp [changeChan]

@[simp] theorem mbChanBind_keeps (t ch : Nat) (p : Bytes) : MbKeeps [.mb, .evt, .gln, .silo, .flash] (mbChanBind t ch p) := .of fun s => by
  simp [mbChanBind]

@[simp] theorem mbKeySet_keeps (t ch : Nat) (p : Bytes) : MbKeeps [.mb, .evt, .gln, .silo, .flash] (mbKeySet t ch p) := .of fun s => by
  simp [mbKeySet]

@[simp] theorem mbChanStats_keeps (t _ch : Nat) (p : Bytes) : MbKeeps [] (mbChanStats t _ch p) := .of fun s => by simp [mbChanStats]

/-! ### The pair -/

@[simp] theorem pairGln_keeps (code : Nat) (p1 p2 : Int) : Keeps [.gln] (pairGln code p1 p2) := .of fun s => by simp [pairGln]

@[simp] theorem updPair_keeps (f : Pair → Pair) : Keeps [.pair] (updPair f) := .of fun s => by simp [updPair]

@[simp] theorem setGates_keeps (on : Bool) : Keeps [.fio] (setGates on) := .of fun s => by simp [setGates]

@[simp] theorem startServing_keeps : Keeps [.mb, .evt, .gln, .sup, .core, .task, .img, .ce, .svc, .fio, .can, .eth, .pair, .out] startServing := .of fun s => by
  unfold startServing
  extract_lets s1 m x2 s2 s3 s4
  have h1 : Frame [.mb, .evt, .gln, .sup, .core, .task, .img, .ce, .svc, .fio, .can, .eth, .pair, .out] s s1 := by
    unfold s1; split <;> simp
  have h3 : Frame [.mb, .evt, .gln, .sup, .core, .task, .img, .ce, .svc, .fio, .can, .eth, .pair, .out] s s3 := by simp [s3, s2, h1]
  clear_value s3
  simp [s4, h3]

@[simp] theorem serviceEnds_keeps (n : Nat) : Keeps [.task, .ce] (serviceEnds n) := .of fun s => by simp [serviceEnds]

@[simp] theorem setRstate_keeps (n : Nat) : Keeps [.mb, .evt, .gln, .sup, .task, .img, .tb, .ce, .fio, .can, .eth, .pair, .out] (setRstate n) := .of fun s => by
  unfold setRstate
  extract_lets old
  split
  · simp
  rename_i was mode s1 s2 s3 s4 x5 s5 s6 s7 s8 h
  have h1 : Frame [.mb, .evt, .gln, .sup, .task, .img, .tb, .ce, .fio, .can, .eth, .pair, .out] s s1 := by simp [s1]
  clear_value s1
  have h2 : Frame [.mb, .evt, .gln, .sup, .task, .img, .tb, .ce, .fio, .can, .eth, .pair, .out] s s2 := by simp [s2, h1]
  clear_value s2
  have h3 : Frame [.mb, .evt, .gln, .sup, .task, .img, .tb, .ce, .fio, .can, .eth, .pair, .out] s s3 := by simp [s3, h2]
  clear_value s3
  have h5 : Frame [.mb, .evt, .gln, .sup, .task, .img, .tb, .ce, .fio, .can, .eth, .pair, .out] s s5 := by simp [s5, s4, h3]
  clear_value s5
  have h6 : Frame [.mb, .evt, .gln, .sup, .task, .img, .tb, .ce, .fio, .can, .eth, .pair, .out] s s6 := by simp [s6, h5]
  clear_value s6
  have h7 : Frame [.mb, .evt, .gln, .sup, .task, .img, .tb, .ce, .fio, .can, .eth, .pair, .out] s s7 := by simp [s7, h6]
  clear_value s7
  have h8 : Frame [.mb, .evt, .gln, .sup, .task, .img, .tb, .ce, .fio, .can, .eth, .pair, .out] s s8 := by simp [s8, h7]
  clear_value s8
  simp [h8]

@[simp] theorem pairAnswer_keeps (ch : Option Nat) (rc : Nat) : Keeps [.mb] (pairAnswer ch rc) := .of fun s => by
  unfold pairAnswer; split <;> simp

@[simp] theorem endWaits_keeps : Keeps [.mb, .pair] endWaits := .of fun s => by
  unfold endWaits; split <;> simp

@[simp] theorem toSolo_keeps : Keeps [.mb, .evt, .gln, .sup, .task, .img, .tb, .ce, .fio, .can, .eth, .pair, .out] toSolo := .of fun s => by
  simp [toSolo]

@[simp] theorem toSyncing_keeps : Keeps [.mb, .evt, .gln, .sup, .task, .img, .tb, .ce, .fio, .can, .eth, .pair, .out] toSyncing := .of fun s => by
  simp [toSyncing]

@[simp] theorem toDetached_keeps (cause : Nat) : Keeps [.mb, .evt, .gln, .sup, .task, .img, .tb, .ce, .fio, .can, .eth, .pair, .out] (toDetached cause) := .of fun s => by
  simp [toDetached]

@[simp] theorem toStart_keeps : Keeps [.mb, .evt, .gln, .sup, .task, .img, .tb, .ce, .fio, .can, .eth, .pair, .out] toStart := .of fun s => by
  simp [toStart]

@[simp] theorem setInnings_keeps (n : Nat) : Keeps [.silo] (setInnings n) := .of fun s => by simp [setInnings]

@[simp] theorem raiseInnings_keeps : Keeps [.silo] raiseInnings := .of fun s => by simp [raiseInnings]

@[simp] theorem trendGap_keeps (cause : Nat) : Keeps [.svc] (trendGap cause) := .of fun s => by simp [trendGap]

@[simp] theorem carriedOn_keeps : Keeps [.img, .eth] carriedOn := .of fun s => by
  unfold carriedOn
  refine Frame.foldl _ fun s e => ?_
  split <;> simp

@[simp] theorem reachedFire_keeps : Keeps [.evt, .gln, .task, .img, .tb, .slot, .fio, .can, .eth, .pair, .out] reachedFire := .of fun s => by
  simp [reachedFire]

@[simp] theorem takeover_keeps (cause role : Nat) : Keeps [.mb, .evt, .gln, .silo, .sup, .core, .task, .img, .tb, .slot, .ce, .svc, .fio, .can, .eth, .pair, .out] (takeover cause role) := .of fun s => by
  unfold takeover
  extract_lets s0 own s1 s2 s3 s4 s5
  have h2 : Frame [.mb, .evt, .gln, .silo, .sup, .core, .task, .img, .tb, .slot, .ce, .svc, .fio, .can, .eth, .pair, .out] s s2 := by
    simp [s2, s1, s0]
  have h3 : Frame [.mb, .evt, .gln, .silo, .sup, .core, .task, .img, .tb, .slot, .ce, .svc, .fio, .can, .eth, .pair, .out] s s3 :=
    h2.trans (Frame.foldl _ fun s k => by split <;> simp)
  simp [s5, s4, h3]

@[simp] theorem bothSilent_keeps : Keeps [.mb, .evt, .gln, .silo, .sup, .core, .task, .img, .tb, .slot, .ce, .svc, .fio, .can, .eth, .pair, .out] bothSilent := .of fun s => by
  simp [bothSilent]

@[simp] theorem conflict_keeps : Keeps [.mb, .evt, .gln, .sup, .task, .img, .tb, .ce, .fio, .can, .eth, .pair, .out] conflict := .of fun s => by
  simp [conflict]

@[simp] theorem inningsHeard_keeps (path innings rstate : Nat) : Keeps [.mb, .evt, .gln, .sup, .task, .img, .tb, .ce, .fio, .can, .eth, .pair, .out] (inningsHeard path innings rstate) := .of fun s => by
  simp [inningsHeard]

@[simp] theorem mismatched_keeps (c : Nat × Nat) : Keeps [.mb, .evt, .gln, .sup, .task, .img, .tb, .ce, .fio, .can, .eth, .pair, .out] (mismatched c) := .of fun s => by
  simp [mismatched]

@[simp] theorem leaveSync_keeps : Keeps [.mb, .evt, .gln, .sup, .task, .img, .tb, .ce, .fio, .can, .eth, .pair, .out] leaveSync := .of fun s => by
  simp [leaveSync]

@[simp] theorem diverge_keeps (k kind theirs ours : Nat) : Keeps [.mb, .evt, .gln, .sup, .task, .img, .tb, .ce, .fio, .can, .eth, .pair, .out] (diverge k kind theirs ours) := .of fun s => by
  simp [diverge]

@[simp] theorem settleEnds_keeps (a : Nat) : Keeps [.mb, .evt, .gln, .sup, .task, .img, .tb, .ce, .fio, .can, .eth, .pair, .out] (settleEnds a) := .of fun s => by
  induction a generalizing s with
  | zero => simp [settleEnds]
  | succ n ih =>
    unfold settleEnds; split
    · simp
    · split
      · simp
      · split
        · exact .trans (by simp) (ih _)
        · simp

@[simp] theorem settle_keeps : Keeps [.mb, .evt, .gln, .sup, .task, .img, .tb, .ce, .fio, .can, .eth, .pair, .out] settle := .of fun s => by
  simp [settle]

@[simp] theorem replayRelease_keeps (r : PairRel) : Keeps [.evt, .gln, .core, .task] (replayRelease r) := .of fun s => by simp [replayRelease]

/-! ### Ethernet rows -/

@[simp] theorem ptpAnnounce_keeps (m : PtpMaster) : Keeps [.evt, .gln, .tb, .eth] (ptpAnnounce m) := .of fun s => by
  simp [ptpAnnounce]; split <;> simp

@[simp] theorem ptpOffset_keeps (t1 t2 d : Int) : Keeps [.evt, .gln, .silo, .rtc, .task, .img, .tb, .svc, .fio, .can, .eth, .pair, .out] (ptpOffset t1 t2 d) := .of fun s => by
  simp [ptpOffset]

@[simp] theorem ptpSend_keeps (m : PtpMsg) : Keeps [.evt, .eth, .pair, .out] (ptpSend m) := .of fun s => by simp [ptpSend]

@[simp] theorem ptpTake_keeps (m : PtpMsg) : Keeps [.evt, .gln, .silo, .rtc, .task, .img, .tb, .svc, .fio, .can, .eth, .pair, .out] (ptpTake m) := .of fun s => by
  unfold ptpTake; dsimp only
  (repeat' split) <;> simp

@[simp] theorem ptpReceive_keeps (n : Nat) (l2 : Bool) (m : PtpMsg) : Keeps [.evt, .gln, .silo, .rtc, .task, .img, .tb, .svc, .fio, .can, .eth, .pair, .out] (ptpReceive n l2 m) := .of fun s => by
  simp [ptpReceive]

theorem execPtpSyncTimeout_goes (s : State) : Goes [.evt, .gln, .tb] s (execPtpSyncTimeout s) := by simp [execPtpSyncTimeout]

@[simp] theorem ptpTimer_keeps (k : PtpTimer) : Keeps [.evt, .gln, .tb, .eth, .pair, .out] (ptpTimer k) := .of fun s => by
  unfold ptpTimer; split <;> simp

theorem execEthLinkChange_goes (mac : Fin 3) (up : Bool) (mbps : Nat) (s : State) : Goes [.mb, .evt, .gln, .tb, .eth, .pair, .out] s (execEthLinkChange mac up mbps s) := by simp [execEthLinkChange]

@[simp] theorem arpLearn_keeps (n ip mac : Nat) : Keeps [.evt, .eth, .pair, .out] (arpLearn n ip mac) := .of fun s => by
  unfold arpLearn; dsimp only; split <;> simp

@[simp] theorem arpClaim_keeps (n claimant : Nat) : Keeps [.evt, .gln, .eth, .pair, .out] (arpClaim n claimant) := .of fun s => by simp [arpClaim]

theorem execArpRetry_goes (mac : Fin 3) (ip : Nat) (s : State) : Goes [.evt, .gln, .eth, .pair, .out] s (execArpRetry mac ip s) := by
  unfold execArpRetry; dsimp only; split <;> simp

theorem execArpEntryAge_goes (mac : Fin 3) (ip : Nat) (s : State) : Goes [.eth] s (execArpEntryAge mac ip s) := by
  unfold execArpEntryAge; dsimp only; split <;> simp

@[simp] theorem trdpRefuse_keeps (n cause comId tenant : Nat) : Keeps [.gln, .eth] (trdpRefuse n cause comId tenant) := .of fun s => by
  simp [trdpRefuse]

@[simp] theorem moduleTelegram_keeps (n m : Nat) (t : Telegram) : Keeps [.gln, .task, .img, .eth, .pair, .out] (moduleTelegram n m t) := .of fun s => by
  simp [moduleTelegram]

@[simp] theorem subTelegram_keeps (n k : Nat) (t : Telegram) : Keeps [.evt, .gln, .task, .img, .eth, .pair, .out] (subTelegram n k t) := .of fun s => by
  simp [subTelegram]

@[simp] theorem trdpReceive_keeps (n : Nat) (t : Telegram) : Keeps [.evt, .gln, .task, .img, .eth, .pair, .out] (trdpReceive n t) := .of fun s => by
  unfold trdpReceive; split <;> simp

@[simp] theorem trdpArrive_keeps (n : Nat) (t : Telegram) : Keeps [.evt, .gln, .task, .img, .eth, .pair, .out] (trdpArrive n t) := .of fun s => by
  simp [trdpArrive]

theorem execTrdpTelegramReceived_goes (mac : Fin 3) (t : Telegram) (s : State) : Goes [.evt, .gln, .task, .img, .eth, .pair, .out] s (execTrdpTelegramReceived mac t s) := by simp [execTrdpTelegramReceived]

theorem execTrdpPublish_goes (k : Fin 256) (s : State) : Goes [.evt, .gln, .eth, .pair, .out] s (execTrdpPublish k s) := by simp [execTrdpPublish]

theorem execTrdpSubTimeout_goes (k : Fin 256) (s : State) : Goes [.gln, .task, .img, .eth, .pair, .out] s (execTrdpSubTimeout k s) := by simp [execTrdpSubTimeout]

@[simp] theorem reasmDrop_keeps (n src ident : Nat) : Keeps [.gln, .eth] (reasmDrop n src ident) := .of fun s => by simp [reasmDrop]

@[simp] theorem fragReceive_keeps (n : Nat) (f : Fragment) : Keeps [.mb, .evt, .gln, .aon, .eth, .pair, .out] (fragReceive n f) := .of fun s => by
  unfold fragReceive; dsimp only
  (repeat' split) <;> simp

theorem execReassemblyTimeout_goes (mac : Fin 3) (src ident : Nat) (s : State) : Goes [.gln, .eth] s (execReassemblyTimeout mac src ident s) := by
  unfold execReassemblyTimeout; dsimp only; split <;> simp

@[simp] theorem echoReceive_keeps (n src dst : Nat) (data : Bytes) : Keeps [.evt, .eth, .pair, .out] (echoReceive n src dst data) := .of fun s => by
  simp [echoReceive]

@[simp] theorem ptpIn_keeps (r : PtpRx) : Keeps [.evt, .gln, .silo, .rtc, .task, .img, .tb, .svc, .fio, .can, .eth, .pair, .out] (ptpIn r) := .of fun s => by
  simp [ptpIn]

@[simp] theorem ethIn_keeps (n : Nat) (f : EthFrame) : Keeps [.mb, .evt, .gln, .silo, .rtc, .aon, .task, .img, .tb, .svc, .fio, .can, .eth, .pair, .out] (ethIn n f) := .of fun s => by
  unfold ethIn; dsimp only
  (repeat' split) <;> simp

@[simp] theorem mbEthSet_keeps (t _ch : Nat) (p : Bytes) : MbKeeps [.gln, .eth] (mbEthSet t _ch p) := .of fun s => by
  unfold mbEthSet
  extract_lets n put
  have hp (cfg mac ip gw : Word) (pre : Nat) : MbFrame [.gln, .eth] s (put cfg mac ip gw pre) := by simp [put]
  simp [hp]

@[simp] theorem mbEthPortSet_keeps (t _ch : Nat) (p : Bytes) : MbKeeps [.eth] (mbEthPortSet t _ch p) := .of fun s => by simp [mbEthPortSet]

@[simp] theorem mbEthStat_keeps (_t _ch : Nat) (p : Bytes) : MbKeeps [] (mbEthStat _t _ch p) := .of fun s => by simp [mbEthStat]

@[simp] theorem setTrdp_keeps (k : Nat) (n : Trdp) : Keeps [.gln, .img, .eth] (setTrdp k n) := .of fun s => by simp [setTrdp]

@[simp] theorem mbTrdpSet_keeps (t _ch : Nat) (p : Bytes) : MbKeeps [.gln, .img, .eth] (mbTrdpSet t _ch p) := .of fun s => by simp [mbTrdpSet]

@[simp] theorem mbTrdpGet_keeps (t _ch : Nat) (p : Bytes) : MbKeeps [] (mbTrdpGet t _ch p) := .of fun s => by simp [mbTrdpGet]

@[simp] theorem mbTrdpTopoSet_keeps (t _ch : Nat) (p : Bytes) : MbKeeps [.eth] (mbTrdpTopoSet t _ch p) := .of fun s => by simp [mbTrdpTopoSet]

@[simp] theorem mbRioIpSet_keeps (t _ch : Nat) (p : Bytes) : MbKeeps [.gln, .img] (mbRioIpSet t _ch p) := .of fun s => by simp [mbRioIpSet]

@[simp] theorem setPtp_keeps (cfg lat : Word) : Keeps [.evt, .gln, .tb, .eth] (setPtp cfg lat) := .of fun s => by simp [setPtp]

@[simp] theorem mbPtpSet_keeps (t _ch : Nat) (p : Bytes) : MbKeeps [.evt, .gln, .tb, .eth] (mbPtpSet t _ch p) := .of fun s => by simp [mbPtpSet]

@[simp] theorem mbPtpStat_keeps (_t _ch : Nat) (p : Bytes) : MbKeeps [] (mbPtpStat _t _ch p) := .of fun s => by simp [mbPtpStat]

/-! ### Field I/O rows -/

theorem execDieFrameReceived_goes (die : Fin 4) (crcOk : Bool) (s : State) : Goes [.evt, .gln, .fio, .saf] s (execDieFrameReceived die crcOk s) := by simp [execDieFrameReceived]

theorem execFioInputReport_goes (u : FioUnit) (s : State) : Goes [.task, .img, .fio, .pair, .out] s (execFioInputReport u s) := by
  simp [execFioInputReport]; split <;> simp

theorem execDieReportTimeout_goes (die : Fin 4) (s : State) : Goes [.gln, .fio] s (execDieReportTimeout die s) := by simp [execDieReportTimeout]

theorem execSilenceExpiry_goes (die : Fin 4) (s : State) : Goes [.evt, .gln, .fio, .saf] s (execSilenceExpiry die s) := by simp [execSilenceExpiry]

theorem execServeGateLoss_goes (die : Fin 4) (s : State) : Goes [.evt, .gln, .fio] s (execServeGateLoss die s) := by
  unfold execServeGateLoss; split <;> simp

theorem execFieldSupplyUv_goes (supply : Fin 10) (low : Bool) (s : State) : Goes [.evt, .gln, .fio, .saf, .free] s (execFieldSupplyUv supply low s) := by simp [execFieldSupplyUv]

theorem execInputFilterAccept_goes (n : Fin 32) (v : Bool) (s : State) : Goes [.evt, .fio] s (execInputFilterAccept n v s) := by simp [execInputFilterAccept]

theorem execWireBreakChange_goes (n : Fin 32) (broken : Bool) (s : State) : Goes [.evt, .gln, .fio] s (execWireBreakChange n broken s) := by simp [execWireBreakChange]

theorem execOutputOverload_goes (n : Fin 32) (therm : Bool) (s : State) : Goes [.evt, .gln, .fio] s (execOutputOverload n therm s) := by simp [execOutputOverload]

theorem execOutputRetry_goes (n : Fin 32) (ok : Bool) (s : State) : Goes [.evt, .gln, .fio] s (execOutputRetry n ok s) := by simp [execOutputRetry]

theorem execOpenLoadDetect_goes (n : Fin 32) (isOpen : Bool) (s : State) : Goes [.evt, .gln, .fio] s (execOpenLoadDetect n isOpen s) := by simp [execOpenLoadDetect]

theorem execPeakPhaseEnd_goes (n : Fin 32) (s : State) : Goes [.fio] s (execPeakPhaseEnd n s) := by simp [execPeakPhaseEnd]

theorem execGroupOverloadTrip_goes (g : Fin 8) (s : State) : Goes [.evt, .gln, .fio] s (execGroupOverloadTrip g s) := by simp [execGroupOverloadTrip]

theorem execGroupRetry_goes (g : Fin 8) (s : State) : Goes [.evt, .gln, .fio] s (execGroupRetry g s) := by simp [execGroupRetry]

theorem execAiSample_goes (n : Fin 4) (raw : Word) (s : State) : Goes [.evt, .gln, .task, .img, .fio, .pair, .out, .free] s (execAiSample n raw s) := by simp [execAiSample]

theorem execAoLoopFault_goes (n : Fin 4) (kind : AoFault) (set : Bool) (measured : Word) (s : State) : Goes [.evt, .gln, .fio] s (execAoLoopFault n kind set measured s) := by
  simp [execAoLoopFault]; split <;> simp

theorem execTwSensorFault_goes (n : Fin 4) (fault : Bool) (s : State) : Goes [.evt, .gln, .fio] s (execTwSensorFault n fault s) := by simp [execTwSensorFault]

theorem execMainsOverRange_goes (mains : Fin 2) (s : State) : Goes [.gln, .fio] s (execMainsOverRange mains s) := by simp [execMainsOverRange]

@[simp] theorem mbFioMapSet_keeps (t _ch : Nat) (p : Bytes) : MbKeeps [.gln, .fio] (mbFioMapSet t _ch p) := .of fun s => by simp [mbFioMapSet]

@[simp] theorem grpBasic_keeps (g : Nat) : Keeps [.fio] (grpBasic g) := .of fun s => by simp [grpBasic]

@[simp] theorem mbFcSet_keeps (t _ch : Nat) (p : Bytes) : MbKeeps [.gln, .fio] (mbFcSet t _ch p) := .of fun s => by simp [mbFcSet]

@[simp] theorem mbFcGrpSet_keeps (t _ch : Nat) (p : Bytes) : MbKeeps [.gln, .fio] (mbFcGrpSet t _ch p) := .of fun s => by simp [mbFcGrpSet]

@[simp] theorem mbFioSilSet_keeps (t _ch : Nat) (p : Bytes) : MbKeeps [.gln, .fio] (mbFioSilSet t _ch p) := .of fun s => by simp [mbFioSilSet]

@[simp] theorem mbAiSet_keeps (t _ch : Nat) (p : Bytes) : MbKeeps [.gln, .fio] (mbAiSet t _ch p) := .of fun s => by simp [mbAiSet]

@[simp] theorem mbAoSet_keeps (t _ch : Nat) (p : Bytes) : MbKeeps [.gln, .fio] (mbAoSet t _ch p) := .of fun s => by simp [mbAoSet]

@[simp] theorem mbTwElecSet_keeps (t _ch : Nat) (p : Bytes) : MbKeeps [.gln, .fio] (mbTwElecSet t _ch p) := .of fun s => by simp [mbTwElecSet]

@[simp] theorem mbFioStat_keeps (t _ch : Nat) (p : Bytes) : MbKeeps [] (mbFioStat t _ch p) := .of fun s => by simp [mbFioStat]

@[simp] theorem mbFioClear_keeps (t _ch : Nat) (p : Bytes) : MbKeeps [.evt, .gln, .fio] (mbFioClear t _ch p) := .of fun s => by simp [mbFioClear]

/-! ### Operands of an instruction -/

@[simp] theorem issueCycle_keeps (c : Nat) : Keeps [.core] (issueCycle c) := .of fun s => by simp [issueCycle]

@[simp] theorem coreStore_keeps (c key : Nat) (mask v : Word) : Keeps [.core] (coreStore c key mask v) := .of fun s => by simp [coreStore]

@[simp] theorem correctData_keeps (key tenant : Nat) : Keeps [.gln, .core] (correctData key tenant) := .of fun s => by simp [correctData]

/-! ### Execution of an instruction -/

@[simp] theorem correctSyl_keeps (t pc : Nat) : Keeps [.gln, .core] (correctSyl t pc) := .of fun s => by simp [correctSyl]

@[simp] theorem correctCode_keeps (t pc len : Nat) : Keeps [.gln, .core] (correctCode t pc len) := .of fun s => by simp [correctCode]

theorem issueEx_keeps {ps : List Part} {body : Nat → Ex → State → KvRes} (hb : ∀ k e s, KvFrame ps s (body k e s))
    (hw : Within [.mb, .gln, .core, .task, .pair, .out] ps) (k len : Nat) (g : Bool) (e : Ex) (s : State) : Frame ps s (issueEx k len g body e s) := by
  obtain ⟨hmb, hgln, hcore, htask, hpair, hout, -⟩ : .mb ∈ ps ∧ .gln ∈ ps ∧ .core ∈ ps ∧ .task ∈ ps ∧ .pair ∈ ps ∧ .out ∈ ps ∧ True := by simpa using hw
  unfold issueEx; extract_lets budget fits
  split
  · simp [*]
  · split
    next hbody => simp [hb k e s _ _ _ _ hbody, *]
    · simp [*]

theorem kvRun_goes {ps : List Part} {i : Kv → Instr} {body : Kv → Nat → Ex → State → KvRes} (hb : ∀ o k e s, KvFrame ps s (body o k e s))
    (hw : Within [.mb, .gln, .core, .task, .pair, .out] ps) (o : Kv) (s : State) : Goes ps s (kvRun i body o s) := by
  obtain ⟨hmb, hgln, hcore, htask, hpair, hout, -⟩ : .mb ∈ ps ∧ .gln ∈ ps ∧ .core ∈ ps ∧ .task ∈ ps ∧ .pair ∈ ps ∧ .out ∈ ps ∧ True := by simpa using hw
  simp only [kvRun, goes_next]
  unfold kvIssue; split
  · simp
  extract_lets len u
  have hu : Frame ps s u := by simp [u, *]
  clear_value u
  split
  · simp
  split
  · simp [*]
  · exact .trans (by simp [*]) (issueEx_keeps (hb o) hw ..)

theorem execIllegalInstruction_goes (core : Fin 8) (s0 s1 s2 : BitVec 14) (ecc : Bool) (s : State) : Goes [.mb, .gln, .core, .task, .pair, .out] s (execIllegalInstruction core s0 s1 s2 ecc s) := by
  unfold execIllegalInstruction; split <;> simp

@[simp] theorem kvFrame_pureKv (f : Kv → Ex → Ex) (ps : List Part) (o : Kv) (k : Nat) (e : Ex) (s : State) : KvFrame ps s (pureKv f o k e s) := by
  simp [pureKv]

/-! ### Device instructions -/

theorem kvFrame_devObj {ps : List Part} {s : State} {o : Kv} {e : Ex} {b : Nat} {bad : Nat → Option Nat} {owner : Nat → Nat} {f : Nat → KvRes}
    (h : ∀ v, KvFrame ps s (f v)) : KvFrame ps s (devObj o e b bad owner f) := by
  unfold devObj; extract_lets v; split
  · simp
  · split <;> simp [h]

@[simp] theorem ceReadKv_keeps (k n : Nat) (e : Ex) : Keeps [.gln, .ce] (fun s => (ceReadKv k n e s).2.2) := .of fun s => by
  unfold ceReadKv; extract_lets prev; split
  · simp
  · split
    · simp
    · split <;> simp

@[simp] theorem kvFrame_addPost (ps : List Part) (src : Nat) (owned : Bool) (e : Ex) (s : State) : KvFrame ps s (addPost src owned e s) := by
  simp [addPost]

/-! ### Commands of the tasks -/

@[simp] theorem modeRequest_keeps (scope m options ch : Nat) : MbKeeps [.task] (modeRequest scope m options ch) := .of fun s => by simp [modeRequest]

@[simp] theorem mbModeSet_keeps (t ch : Nat) (p : Bytes) : MbKeeps [.task] (mbModeSet t ch p) := .of fun s => by simp [mbModeSet]

@[simp] theorem mbTenantModeSet_keeps (t ch : Nat) (p : Bytes) : MbKeeps [.task] (mbTenantModeSet t ch p) := .of fun s => by simp [mbTenantModeSet]

@[simp] theorem mbTaskGet_keeps (t _ch : Nat) (p : Bytes) : MbKeeps [] (mbTaskGet t _ch p) := .of fun s => by simp [mbTaskGet]

@[simp] theorem mbTaskStats_keeps (t _ch : Nat) (p : Bytes) : MbKeeps [.task] (mbTaskStats t _ch p) := .of fun s => by simp [mbTaskStats]

@[simp] theorem bindSource_keeps (k : Nat) (old new : Option Nat) : Keeps [.evt] (bindSource k old new) := .of fun s => by
  unfold bindSource; dsimp only
  (repeat' split) <;> simp

@[simp] theorem setTaskEntry_keeps (k : Nat) (n : Word × Word × Word) : Keeps [.evt, .task] (setTaskEntry k n) := .of fun s => by simp [setTaskEntry]

@[simp] theorem mbTaskSet_keeps (t _ch : Nat) (p : Bytes) : MbKeeps [.evt, .gln, .task] (mbTaskSet t _ch p) := .of fun s => by simp [mbTaskSet]

@[simp] theorem mbTenantSchedSet_keeps (t _ch : Nat) (p : Bytes) : MbKeeps [.task] (mbTenantSchedSet t _ch p) := .of fun s => by
  simp [mbTenantSchedSet]

@[simp] theorem mbRetainSet_keeps (t _ch : Nat) (p : Bytes) : MbKeeps [.task] (mbRetainSet t _ch p) := .of fun s => by simp [mbRetainSet]

@[simp] theorem mbForceSet_keeps (t _ch : Nat) (p : Bytes) : MbKeeps [.gln, .task] (mbForceSet t _ch p) := .of fun s => by simp [mbForceSet]

@[simp] theorem mbForceClear_keeps (t _ch : Nat) (p : Bytes) : MbKeeps [.evt, .gln, .task, .img, .can, .eth, .pair, .out] (mbForceClear t _ch p) := .of fun s => by
  unfold mbForceClear; dsimp only; split <;> simp

@[simp] theorem mbForceList_keeps (t _ch : Nat) (p : Bytes) : MbKeeps [] (mbForceList t _ch p) := .of fun s => by simp [mbForceList]

@[simp] theorem putValue_keeps (t : Nat) (e : Nat × Word) : Keeps [.core] (putValue t e) := .of fun s => by
  unfold putValue; split <;> simp

@[simp] theorem valueStep_keeps (t : Nat) (j : ValueJob) : Keeps [.gln, .core] (fun s => (valueStep t j s).2) := .of fun s => by
  simp [valueStep]

@[simp] theorem valueJob_keeps (t ch : Nat) (j : ValueJob) : MbKeeps [.gln, .core, .task] (valueJob t ch j) := .of fun s => by
  simp [valueJob]

@[simp] theorem mbValueWrite_keeps (t ch : Nat) (p : Bytes) : MbKeeps [.gln, .core, .task] (mbValueWrite t ch p) := .of fun s => by
  simp [mbValueWrite]

@[simp] theorem mbValueRead_keeps (t ch : Nat) (p : Bytes) : MbKeeps [.gln, .core, .task] (mbValueRead t ch p) := .of fun s => by simp [mbValueRead]

theorem execValueWriteApply_goes (ch : Fin 16) (s : State) : Goes [.mb, .gln, .core, .task, .pair, .out] s (execValueWriteApply ch s) := by
  unfold execValueWriteApply; split <;> simp

/-! ### Programme containers -/

@[simp] theorem installProg_keeps (p : Prog) : Keeps [.evt, .core, .prog, .task] (installProg p) := .of fun s => by simp [installProg]

@[simp] theorem activateProg_keeps (q : Prog) : Keeps [.evt, .silo, .core, .prog, .task] (activateProg q) := .of fun s => by simp [activateProg]

/-! ### CAN rows -/

@[simp] theorem recAfterGood_keeps (n : Nat) : Keeps [.can, .free] (recAfterGood n) := .of fun s => by simp [recAfterGood]

theorem execCanFrameReceived_goes (n : Fin 4) (r : CanRx) (sofAgo : Nat) (s : State) : Goes [.evt, .gln, .task, .img, .can, .pair, .out, .free] s (execCanFrameReceived n r sofAgo s) := by
  unfold execCanFrameReceived; split <;> simp

theorem execCanTxStart_goes (n : Fin 4) (s : State) : Goes [.can, .out] s (execCanTxStart n s) := by
  unfold execCanTxStart; dsimp only
  (repeat' split) <;> simp

@[simp] theorem canTdc_keeps (n : Nat) (f : CanFrame) (delay : Nat) : Keeps [.gln, .can] (canTdc n f delay) := .of fun s => by simp [canTdc]

theorem execCanTxAttemptEnd_goes (n : Fin 4) (e : CanTxEnd) (loopDelay : Nat) (s : State) : Goes [.evt, .gln, .can] s (execCanTxAttemptEnd n e loopDelay s) := by
  unfold execCanTxAttemptEnd; dsimp only
  (repeat' split) <;> simp

theorem execCanTxStarved_goes (n : Fin 4) (b : Fin 64) (s : State) : Goes [.gln, .can] s (execCanTxStarved n b s) := by simp [execCanTxStarved]

theorem execCanBoffRecovery_goes (n : Fin 4) (s : State) : Goes [.can] s (execCanBoffRecovery n s) := by simp [execCanBoffRecovery]

theorem execCanBusRejoin_goes (n : Fin 4) (s : State) : Goes [.gln, .can] s (execCanBusRejoin n s) := by simp [execCanBusRejoin]

@[simp] theorem canApply_keeps (n : Nat) : Keeps [.evt, .gln, .can] (canApply n) := .of fun s => by
  unfold canApply; dsimp only; split <;> simp

@[simp] theorem mbCanSet_keeps (t _ch : Nat) (p : Bytes) : MbKeeps [.can] (mbCanSet t _ch p) := .of fun s => by
  simp [mbCanSet]; split <;> simp

@[simp] theorem mbCanQueueSet_keeps (t _ch : Nat) (p : Bytes) : MbKeeps [.can] (mbCanQueueSet t _ch p) := .of fun s => by simp [mbCanQueueSet]

@[simp] theorem mbCanFilterSet_keeps (t _ch : Nat) (p : Bytes) : MbKeeps [.can] (mbCanFilterSet t _ch p) := .of fun s => by simp [mbCanFilterSet]

@[simp] theorem mbCanTx_keeps (t _ch : Nat) (p : Bytes) : MbKeeps [.can] (mbCanTx t _ch p) := .of fun s => by simp [mbCanTx]

@[simp] theorem mbCanTxCancel_keeps (t _ch : Nat) (p : Bytes) : MbKeeps [.can] (mbCanTxCancel t _ch p) := .of fun s => by simp [mbCanTxCancel]

@[simp] theorem mbCanTxResults_keeps (t _ch : Nat) (p : Bytes) : MbKeeps [] (mbCanTxResults t _ch p) := .of fun s => by simp [mbCanTxResults]

@[simp] theorem mbCanRxRead_keeps (t _ch : Nat) (p : Bytes) : MbKeeps [.can] (mbCanRxRead t _ch p) := .of fun s => by simp [mbCanRxRead]

@[simp] theorem mbCanStat_keeps (t _ch : Nat) (p : Bytes) : MbKeeps [.can] (mbCanStat t _ch p) := .of fun s => by simp [mbCanStat]

@[simp] theorem mbCanRecover_keeps (t _ch : Nat) (p : Bytes) : MbKeeps [.can] (mbCanRecover t _ch p) := .of fun s => by simp [mbCanRecover]

@[simp] theorem mbCanWakeSet_keeps (t _ch : Nat) (p : Bytes) : MbKeeps [.can] (mbCanWakeSet t _ch p) := .of fun s => by simp [mbCanWakeSet]

/-! ### Commands of the compute engines -/

@[simp] theorem mbCeAlloc_keeps (t _ch : Nat) (p : Bytes) : MbKeeps [.evt, .gln, .ce] (mbCeAlloc t _ch p) := .of fun s => by simp [mbCeAlloc]

@[simp] theorem mbCeSet_keeps (t _ch : Nat) (p : Bytes) : MbKeeps [.gln, .ce, .free] (mbCeSet t _ch p) := .of fun s => by simp [mbCeSet]

@[simp] theorem mbCeCoefSet_keeps (t _ch : Nat) (p : Bytes) : MbKeeps [.ce] (mbCeCoefSet t _ch p) := .of fun s => by simp [mbCeCoefSet]

@[simp] theorem mbCeCoefCommit_keeps (t _ch : Nat) (p : Bytes) : MbKeeps [.gln, .ce, .free] (mbCeCoefCommit t _ch p) := .of fun s => by
  simp [mbCeCoefCommit]; split <;> simp

@[simp] theorem mbCeGet_keeps (t _ch : Nat) (p : Bytes) : MbKeeps [] (mbCeGet t _ch p) := .of fun s => by simp [mbCeGet]

@[simp] theorem mbCeStateSet_keeps (t _ch : Nat) (p : Bytes) : MbKeeps [.ce, .free] (mbCeStateSet t _ch p) := .of fun s => by simp [mbCeStateSet]

@[simp] theorem mbCeFlagsClear_keeps (t _ch : Nat) (p : Bytes) : MbKeeps [.ce] (mbCeFlagsClear t _ch p) := .of fun s => by simp [mbCeFlagsClear]

@[simp] theorem mbCeInjStart_keeps (t _ch : Nat) (p : Bytes) : MbKeeps [.gln, .ce] (mbCeInjStart t _ch p) := .of fun s => by simp [mbCeInjStart]

@[simp] theorem mbCeInjStop_keeps (t _ch : Nat) (p : Bytes) : MbKeeps [.gln, .ce] (mbCeInjStop t _ch p) := .of fun s => by simp [mbCeInjStop]

@[simp] theorem mbCeCapRead_keeps (t _ch : Nat) (p : Bytes) : MbKeeps [] (mbCeCapRead t _ch p) := .of fun s => by simp [mbCeCapRead]

@[simp] theorem mbCeLoad_keeps (_t _ch : Nat) (p : Bytes) : MbKeeps [] (mbCeLoad _t _ch p) := .of fun s => by simp [mbCeLoad]

/-! ### Commands of the pair -/

@[simp] theorem pairEnableChanged_keeps (on : Bool) : Keeps [.mb, .evt, .gln, .sup, .task, .img, .tb, .ce, .fio, .can, .eth, .pair, .out] (pairEnableChanged on) := .of fun s => by
  simp [pairEnableChanged]

@[simp] theorem mbPairSet_keeps (t _ch : Nat) (p : Bytes) : MbKeeps [.mb, .evt, .gln, .sup, .task, .img, .tb, .ce, .fio, .can, .eth, .pair, .out] (mbPairSet t _ch p) := .of fun s => by
  simp [mbPairSet]

@[simp] theorem mbPairStat_keeps (_t _ch : Nat) (p : Bytes) : MbKeeps [] (mbPairStat _t _ch p) := .of fun s => by simp [mbPairStat]

/-! ### Pass rows -/

@[simp] theorem passGln_keeps (code level : Nat) (p1 p2 : Int) : Keeps [.gln] (passGln code level p1 p2) := .of fun s => by simp [passGln]

@[simp] theorem passPortSet_keeps (p : Nat) (up : Bool) : Keeps [.mb, .evt, .gln, .pass, .out] (passPortSet p up) := .of fun s => by
  unfold passPortSet
  split
  · simp
  extract_lets s1 s2 s3 s4 s5
  have h3 : Frame [.mb, .evt, .gln, .pass, .out] s s3 := by simp [s3, s2, s1]
  have h5 : Frame [.mb, .evt, .gln, .pass, .out] s s5 := by simp [s5, s4, h3]
  clear_value s5
  simp [h5]

theorem execPassPortChange_goes (port : Fin 2) (up : Bool) (s : State) : Goes [.mb, .evt, .gln, .pass, .out] s (execPassPortChange port up s) := by simp [execPassPortChange]

@[simp] theorem echoAnswer_keeps (p dep turn : Nat) : Keeps [.pass] (echoAnswer p dep turn) := .of fun s => by simp [echoAnswer]

@[simp] theorem linkRefuse_keeps (p : Nat) : Keeps [.pass] (linkRefuse p) := .of fun s => by simp [linkRefuse]

theorem execPassEchoComplete_goes (port : Fin 2) (d : Nat) (s : State) : Goes [.gln, .pass] s (execPassEchoComplete port d s) := by simp [execPassEchoComplete]

@[simp] theorem passFree_keeps (p len : Nat) : Keeps [.pass] (passFree p len) := .of fun s => by simp [passFree]

@[simp] theorem cycleEnds_keeps (c : Nat) : Keeps [.pass] (cycleEnds c) := .of fun s => by simp [cycleEnds]

@[simp] theorem portSend_keeps (p : Nat) (f : PassFrame) : Keeps [.pass, .out] (portSend p f) := .of fun s => by simp [portSend]

@[simp] theorem portAgain_keeps (p : Nat) (a : List Nat) : Keeps [.evt, .gln, .pass, .out] (portAgain p a) := .of fun s => by
  induction a generalizing s with
  | nil => simp [portAgain]
  | cons q qs ih =>
    unfold portAgain; dsimp only; split
    · split
      · exact .trans (by simp) (ih _)
      · simp
    · split
      · exact .trans (by simp) (ih _)
      · simp

theorem execPassForward_goes (port : Fin 2) (s : State) : Goes [.evt, .gln, .pass, .out] s (execPassForward port s) := by
  simp [execPassForward]; split <;> simp

@[simp] theorem passResend_keeps (p lseq : Nat) : Keeps [.evt, .gln, .pass, .out] (passResend p lseq) := .of fun s => by simp [passResend]

theorem execPassResendReceived_goes (port : Fin 2) (lseq : Nat) (s : State) : Goes [.evt, .gln, .pass, .out] s (execPassResendReceived port lseq s) := by simp [execPassResendReceived]

theorem execPassResendTimer_goes (port : Fin 2) (s : State) : Goes [.pass, .out] s (execPassResendTimer port s) := by
  unfold execPassResendTimer; dsimp only; split <;> simp

theorem execPassIdleSend_goes (port : Fin 2) (s : State) : Goes [.pass, .out] s (execPassIdleSend port s) := by simp [execPassIdleSend]

@[simp] theorem originLost_keeps (o : Nat) : Keeps [.gln, .img, .pass] (originLost o) := .of fun s => by simp [originLost]

@[simp] theorem guestPlots_keeps : Keeps [.img] guestPlots := .of fun s => by simp [guestPlots]

@[simp] theorem budgetFit_keeps (a : Nat) : Keeps [.gln, .pass] (budgetFit a) := .of fun s => by
  induction a generalizing s with
  | zero => simp [budgetFit]
  | succ n ih =>
    unfold budgetFit; split
    · simp
    · split
      · simp
      · split <;> exact .trans (by simp) (ih _)

@[simp] theorem budgetSet_keeps : Keeps [.mb, .gln, .pass] budgetSet := .of fun s => by simp [budgetSet]

@[simp] theorem answerChange_keeps (c : ChainChange) (rc : Nat) : Keeps [.mb, .pass] (answerChange c rc) := .of fun s => by simp [answerChange]

@[simp] theorem inaugResult_keeps : Keeps [.mb, .gln, .img, .pass] inaugResult := .of fun s => by
  unfold inaugResult
  extract_lets own first heard rs old cause others keep dups far members master put table isMaster known beyondF x1 s1 s2 isIn s3 s4 s5 s6 s7
  have h2 : Frame [.mb, .gln, .img, .pass] s s2 := by simp [s2, s1]
  have h3 : Frame [.mb, .gln, .img, .pass] s s3 := h2.trans (Frame.foldl _ fun s p => by simp)
  have h6 : Frame [.mb, .gln, .img, .pass] s s6 := by simp [s6, s5, s4, h3]
  simp [s7, h6]

theorem execInaugComplete_goes (s : State) : Goes [.mb, .gln, .img, .pass] s (execInaugComplete s) := by
  unfold execInaugComplete; split
  · simp
  extract_lets ring u
  have hu : Frame [.mb, .gln, .img, .pass] s u := by simp [u]
  clear_value u
  simp [hu]

theorem execInaugSend_goes (s : State) : Goes [.pass] s (execInaugSend s) := by simp [execInaugSend]

theorem execMarkerSend_goes (s : State) : Goes [.pass] s (execMarkerSend s) := by simp [execMarkerSend]

@[simp] theorem gridOnward_keeps : Keeps [.pass] gridOnward := .of fun s => by simp [gridOnward]

@[simp] theorem selfRole_keeps (c cause : Nat) : Keeps [.pass] (selfRole c cause) := .of fun s => by simp [selfRole]

@[simp] theorem readmit_keeps (a : Advert) : Keeps [.gln, .pass] (readmit a) := .of fun s => by simp [readmit]

theorem execPublishSlot_goes (s : State) : Goes [.evt, .gln, .img, .pass] s (execPublishSlot s) := by simp [execPublishSlot]

theorem execPubTimeout_goes (origin : Fin 256) (group : Fin 16) (s : State) : Goes [.gln, .img, .pass] s (execPubTimeout origin group s) := by simp [execPubTimeout]

@[simp] theorem passDiscard_keeps (p cause origin type : Nat) : Keeps [.gln, .pass] (passDiscard p cause origin type) := .of fun s => by
  simp [passDiscard]

@[simp] theorem pubAccept_keeps (p o g cycle : Nat) (plots : List PubPlot) : Keeps [.evt, .gln, .task, .img, .pass, .pair, .out] (pubAccept p o g cycle plots) := .of fun s => by
  simp [pubAccept]

@[simp] theorem pubFrame_keeps (p : Nat) (f : PassFrame) (plots : List PubPlot) : Keeps [.evt, .gln, .task, .img, .pass, .pair, .out] (pubFrame p f plots) := .of fun s => by
  unfold pubFrame; dsimp only
  (repeat' split) <;> simp

@[simp] theorem learnChange_keeps (c : ChainChange) : Keeps [.pass] (fun s => learnChange s c) := .of fun s => by simp [learnChange]

@[simp] theorem markerFrame_keeps (p : Nat) (f : PassFrame) (ecycleUs accDly : Nat) : Keeps [.pass] (markerFrame p f ecycleUs accDly) := .of fun s => by
  simp [markerFrame]

@[simp] theorem inaugFrame_keeps (p : Nat) (f : PassFrame) (r : InaugRec) : Keeps [.pass] (inaugFrame p f r) := .of fun s => by simp [inaugFrame]

@[simp] theorem advertDiffs_keeps (o : Nat) (a : Advert) : Keeps [.gln, .pass] (advertDiffs o a) := .of fun s => by simp [advertDiffs]

@[simp] theorem advertGuest_keeps (f : PassFrame) : Keeps [.gln, .img, .pass] (advertGuest f) := .of fun s => by
  unfold advertGuest; split <;> simp

@[simp] theorem selfGuest_keeps : Keeps [.gln, .img, .pass] selfGuest := .of fun s => by
  unfold selfGuest; split <;> simp

@[simp] theorem advertFrame_keeps (f : PassFrame) (a : Advert) : Keeps [.mb, .evt, .gln, .sup, .task, .img, .tb, .ce, .fio, .can, .eth, .pass, .pair, .out] (advertFrame f a) := .of fun s => by
  simp [advertFrame]

@[simp] theorem passUse_keeps (p : Nat) (f : PassFrame) : Keeps [.mb, .evt, .gln, .sup, .task, .img, .tb, .ce, .fio, .can, .eth, .pass, .pair, .out] (passUse p f) := .of fun s => by
  unfold passUse; split <;> simp

@[simp] theorem passGap_keeps (p : Nat) : Keeps [.pass, .out] (passGap p) := .of fun s => by simp [passGap]

@[simp] theorem gapEntry_keeps (p : Nat) : Keeps [.gln] (gapEntry p) := .of fun s => by simp [gapEntry]

@[simp] theorem passFcs_keeps (p : Nat) : Keeps [.evt, .gln, .pass] (passFcs p) := .of fun s => by simp [passFcs]

@[simp] theorem passLinkFields_keeps (p : Nat) (f : PassFrame) : Keeps [.pass] (passLinkFields p f) := .of fun s => by simp [passLinkFields]

@[simp] theorem passNumberedFrame_keeps (p : Nat) (f : PassFrame) : Keeps [.mb, .evt, .gln, .sup, .task, .img, .tb, .ce, .fio, .can, .eth, .pass, .pair, .out] (passNumberedFrame p f) := .of fun s => by
  simp [passNumberedFrame]

@[simp] theorem passLinkFrame_keeps (p : Nat) (b : PassBody) : Keeps [.evt, .gln, .pass, .out, .free] (passLinkFrame p b) := .of fun s => by
  unfold passLinkFrame; split <;> simp

theorem execPassFrameReceived_goes (port : Fin 2) (f : PassFrame) (s : State) : Goes [.mb, .evt, .gln, .sup, .task, .img, .tb, .ce, .fio, .can, .eth, .pass, .pair, .out, .free] s (execPassFrameReceived port f s) := by
  unfold execPassFrameReceived
  extract_lets p t
  split
  · simp
  rename_i s1 s2 s3 h
  have h2 : Frame [.mb, .evt, .gln, .sup, .task, .img, .tb, .ce, .fio, .can, .eth, .pass, .pair, .out, .free] s s2 := by simp [s2, s1]
  clear_value s2
  have h3 : Frame [.mb, .evt, .gln, .sup, .task, .img, .tb, .ce, .fio, .can, .eth, .pass, .pair, .out, .free] s s3 := by simp [s3, h2]
  clear_value s3
  split
  · simp [h2]
  split
  · split <;> simp [h2]
  · simp [h2, h3]

@[simp] theorem mbPassStat_keeps (_t _ch : Nat) (p : Bytes) : MbKeeps [] (mbPassStat _t _ch p) := .of fun s => by simp [mbPassStat]

@[simp] theorem mbPassMembers_keeps (_t _ch : Nat) (p : Bytes) : MbKeeps [] (mbPassMembers _t _ch p) := .of fun s => by simp [mbPassMembers]

@[simp] theorem mbPassBudget_keeps (_t _ch : Nat) (p : Bytes) : MbKeeps [] (mbPassBudget _t _ch p) := .of fun s => by simp [mbPassBudget]

@[simp] theorem mbPassInaug_keeps (t _ch : Nat) (p : Bytes) : MbKeeps [.pass] (mbPassInaug t _ch p) := .of fun s => by simp [mbPassInaug]

@[simp] theorem passOff_keeps : Keeps [.pass] passOff := .of fun s => by simp [passOff]

@[simp] theorem passLocal_keeps (w : Word) : Keeps [.mb, .evt, .gln, .slot, .ce, .pass, .out] (passLocal w) := .of fun s => by simp [passLocal]

@[simp] theorem mbPassSet_keeps (t ch : Nat) (p : Bytes) : MbKeeps [.mb, .evt, .gln, .slot, .ce, .pass, .out] (mbPassSet t ch p) := .of fun s => by
  simp [mbPassSet]

/-! ### Safety rows -/

theorem execSfcEvaluation_goes (rb : SoReadback) (s : State) : Goes [.evt, .gln, .saf] s (execSfcEvaluation rb s) := by simp [execSfcEvaluation]

theorem execHwPathEvaluation_goes (rb : SoReadback) (s : State) : Goes [.evt, .gln, .saf] s (execHwPathEvaluation rb s) := by simp [execHwPathEvaluation]

theorem execSafetyInputAccept_goes (path : SafPath) (j : Fin 16) (high : Bool) (s : State) : Goes [.saf] s (execSafetyInputAccept path j high s) := by simp [execSafetyInputAccept]

@[simp] theorem pulseInput_keeps (p j : Nat) (low : Bool) : Keeps [.gln, .saf] (pulseInput p j low) := .of fun s => by simp [pulseInput]

theorem execTestPulse_goes (path : SafPath) (k : Fin 4) (readLow : BitVec 16) (overload : Bool) (s : State) : Goes [.gln, .saf] s (execTestPulse path k readLow overload s) := by simp [execTestPulse]

@[simp] theorem disagreeFault_keeps (ty p i ms : Nat) : Keeps [.evt, .gln, .saf] (disagreeFault ty p i ms) := .of fun s => by simp [disagreeFault]

theorem execGuardDtDiscrepancy_goes (path : SafPath) (i : Fin 16) (s : State) : Goes [.evt, .gln, .saf] s (execGuardDtDiscrepancy path i s) := by simp [execGuardDtDiscrepancy]

theorem execDoorLoopDisagree_goes (path : SafPath) (i : Fin 16) (s : State) : Goes [.evt, .gln, .saf] s (execDoorLoopDisagree path i s) := by simp [execDoorLoopDisagree]

theorem execDoorLoopSettle_goes (path : SafPath) (i : Fin 16) (s : State) : Goes [.evt, .gln, .saf] s (execDoorLoopSettle path i s) := by simp [execDoorLoopSettle]

theorem execMaxHoldExpiry_goes (path : SafPath) (i : Fin 16) (s : State) : Goes [.evt, .gln, .saf] s (execMaxHoldExpiry path i s) := by simp [execMaxHoldExpiry]

theorem execStandstillDeclare_goes (path : SafPath) (i : Fin 16) (s : State) : Goes [.evt, .gln, .saf] s (execStandstillDeclare path i s) := by simp [execStandstillDeclare]

theorem execSafetySensorTimeout_goes (path : SafPath) (i : Fin 16) (s : State) : Goes [.evt, .gln, .saf] s (execSafetySensorTimeout path i s) := by simp [execSafetySensorTimeout]

theorem execAxleDisagreement_goes (path : SafPath) (i : Fin 16) (axle : Fin 2) (s : State) : Goes [.evt, .gln, .saf] s (execAxleDisagreement path i axle s) := by simp [execAxleDisagreement]

@[simp] theorem testSwitch_keeps (p k : Nat) : Keeps [.saf] (testSwitch p k) := .of fun s => by simp [testSwitch]

theorem execSoSwitchTest_goes (path : SafPath) (k : Fin 4) (pass : Bool) (s : State) : Goes [.gln, .saf] s (execSoSwitchTest path k pass s) := by simp [execSoSwitchTest]

theorem execGateDriveStop_goes (path : SafPath) (k : Fin 4) (s : State) : Goes [.saf] s (execGateDriveStop path k s) := by simp [execGateDriveStop]

@[simp] theorem compareAxle_keeps (p a theirs : Nat) : Keeps [.saf] (compareAxle p a theirs) := .of fun s => by simp [compareAxle]

theorem execCrossMonFrame_goes (path : SafPath) (f : CrossFrame) (s : State) : Goes [.mb, .gln, .saf, .free] s (execCrossMonFrame path f s) := by
  unfold execCrossMonFrame
  extract_lets p
  split
  · simp
  rename_i now s1 s2 x open_ h
  have h2 : Frame [.mb, .gln, .saf, .free] s s2 := by simp [s2, s1]
  clear_value s2
  split
  rename_i f' u hu
  have hu : Frame [.mb, .gln, .saf, .free] s u := by
    rw [← show _ = u from congrArg Prod.snd hu]; simp [h2]
  simp [hu]

theorem execCrossMonTimeout_goes (path : SafPath) (s : State) : Goes [.mb, .gln, .saf] s (execCrossMonTimeout path s) := by simp [execCrossMonTimeout]

theorem execSfcSelfTest_goes (pass : Bool) (s : State) : Goes [.mb, .gln, .saf] s (execSfcSelfTest pass s) := by simp [execSfcSelfTest]

@[simp] theorem startInsts_keeps (p : Nat) : Keeps [.evt, .gln, .saf] (startInsts p) := .of fun s => by simp [startInsts]

theorem execSafetyStartSequence_goes (testsPass pathsAgree : Bool) (s : State) : Goes [.mb, .evt, .gln, .saf] s (execSafetyStartSequence testsPass pathsAgree s) := by simp [execSafetyStartSequence]

theorem execSfStatusWordUpdate_goes (s : State) : Goes [.task, .img, .saf, .pair, .out] s (execSfStatusWordUpdate s) := by simp [execSfStatusWordUpdate]

@[simp] theorem safLog_keeps (kind ch before after : Nat) : Keeps [.silo, .saf] (safLog kind ch before after) := .of fun s => by simp [safLog]

@[simp] theorem passwordWrong_keeps (ch : Nat) : Keeps [.gln, .silo, .saf] (passwordWrong ch) := .of fun s => by simp [passwordWrong]

@[simp] theorem setPassword_keeps (pw : Bytes) : Keeps [.saf, .free] (setPassword pw) := .of fun s => by simp [setPassword]

theorem execLockoutExpiry_goes (s : State) : Goes [.saf] s (execLockoutExpiry s) := by
  unfold execLockoutExpiry; split <;> simp

@[simp] theorem mbSafetyStatus_keeps (t _ch : Nat) (p : Bytes) : MbKeeps [] (mbSafetyStatus t _ch p) := .of fun s => by simp [mbSafetyStatus]

@[simp] theorem mbSafetySecure_keeps (t _ch : Nat) (p : Bytes) : MbKeeps [.mb, .gln, .saf, .free] (mbSafetySecure t _ch p) := .of fun s => by
  simp [mbSafetySecure]

@[simp] theorem mbSafetyLoad_keeps (t ch : Nat) (p : Bytes) : MbKeeps [.mb, .evt, .gln, .silo, .saf, .flash] (mbSafetyLoad t ch p) := .of fun s => by
  simp [mbSafetyLoad]

@[simp] theorem mbSafetyConfirm_keeps (t _ch : Nat) (p : Bytes) : MbKeeps [.mb, .evt, .gln, .silo, .saf, .flash] (mbSafetyConfirm t _ch p) := .of fun s => by
  simp [mbSafetyConfirm]

@[simp] theorem mbSafetyRestart_keeps (t ch : Nat) (p : Bytes) : MbKeeps [.mb, .gln, .silo, .saf] (mbSafetyRestart t ch p) := .of fun s => by
  simp [mbSafetyRestart]

@[simp] theorem mbSafetyPassword_keeps (t ch : Nat) (p : Bytes) : MbKeeps [.gln, .silo, .saf, .free] (mbSafetyPassword t ch p) := .of fun s => by
  simp [mbSafetyPassword]

@[simp] theorem mbSafetyRead_keeps (t _ch : Nat) (p : Bytes) : MbKeeps [] (mbSafetyRead t _ch p) := .of fun s => by simp [mbSafetyRead]

@[simp] theorem mbSafetyLogRead_keeps (t _ch : Nat) (p : Bytes) : MbKeeps [.evt, .gln, .silo] (mbSafetyLogRead t _ch p) := .of fun s => by
  simp [mbSafetyLogRead, -List.foldl_reverse, -List.filter_reverse]

/-! ### Commands of the scheduler and the timebase -/

@[simp] theorem mbTbGet_keeps (_t _ch : Nat) (p : Bytes) : MbKeeps [] (mbTbGet _t _ch p) := .of fun s => by simp [mbTbGet]

@[simp] theorem mbTbDiag_keeps (_t _ch : Nat) (p : Bytes) : MbKeeps [] (mbTbDiag _t _ch p) := .of fun s => by simp [mbTbDiag]

@[simp] theorem setAxle_keeps (n : Nat) (w : Word) : Keeps [.tb] (setAxle n w) := .of fun s => by simp [setAxle]

@[simp] theorem mbLpSet_keeps (t _ch : Nat) (p : Bytes) : MbKeeps [.evt, .gln, .tb, .slot, .pair, .out] (mbLpSet t _ch p) := .of fun s => by
  simp [mbLpSet]

@[simp] theorem setMains_keeps (n : Nat) (w : Word) : Keeps [.evt, .gln, .task, .tb, .ce, .free] (setMains n w) := .of fun s => by simp [setMains]

@[simp] theorem mbMainsSet_keeps (t _ch : Nat) (p : Bytes) : MbKeeps [.evt, .gln, .task, .tb, .ce, .free] (mbMainsSet t _ch p) := .of fun s => by
  simp [mbMainsSet]

@[simp] theorem fixRefused_keeps (c : Int) (tf : Nat) : MbKeeps [.gln] (fixRefused c tf) := .of fun s => by simp [fixRefused]

@[simp] theorem mbPosFix_keeps (t _ch : Nat) (p : Bytes) : MbKeeps [.gln, .tb] (mbPosFix t _ch p) := .of fun s => by
  simp [mbPosFix]

@[simp] theorem mbSchAlloc_keeps (t _ch : Nat) (p : Bytes) : MbKeeps [.slot] (mbSchAlloc t _ch p) := .of fun s => by simp [mbSchAlloc]

@[simp] theorem setSlot_keeps (n : Nat) (w arg : Word) : Keeps [.gln, .slot] (setSlot n w arg) := .of fun s => by simp [setSlot]

@[simp] theorem mbSchSet_keeps (t _ch : Nat) (p : Bytes) : MbKeeps [.gln, .slot] (mbSchSet t _ch p) := .of fun s => by simp [mbSchSet]

@[simp] theorem mbSchArm_keeps (t _ch : Nat) (p : Bytes) : MbKeeps [.evt, .gln, .task, .img, .tb, .slot, .fio, .can, .eth, .pair, .out] (mbSchArm t _ch p) := .of fun s => by
  simp [mbSchArm]

@[simp] theorem mbSchCancel_keeps (t _ch : Nat) (p : Bytes) : MbKeeps [.evt, .gln, .task, .img, .tb, .slot, .fio, .can, .eth, .pair, .out] (mbSchCancel t _ch p) := .of fun s => by
  simp [mbSchCancel]

@[simp] theorem mbSchGet_keeps (t _ch : Nat) (p : Bytes) : MbKeeps [] (mbSchGet t _ch p) := .of fun s => by simp [mbSchGet]

/-! ### Service rows -/

@[simp] theorem svcCarry_keeps (s₀ : State) : Keeps [.pair, .out] (svcCarry s₀) := .of fun s => by simp [svcCarry]

@[simp] theorem svcTake_keeps (a : List (Nat × AlmState)) (m : List (Nat × MtrState)) : Keeps [.silo, .svc] (svcTake a m) := .of fun s => by
  simp [svcTake]

theorem svcEvent_goes {ps : List Part} {f : State → State} (hf : ∀ s, Frame ps s (f s)) (hw : Within [.pair, .out] ps) (s : State) : Goes ps s (svcEvent f s) := by
  obtain ⟨hpair, hout, -⟩ : .pair ∈ ps ∧ .out ∈ ps ∧ True := by simpa using hw
  simp [svcEvent, hf, hpair, hout]

@[simp] theorem putAlm_keeps (n : Nat) (a : Alm) : Keeps [.svc] (putAlm n a) := .of fun s => by simp [putAlm]

@[simp] theorem almChange_keeps (n : Nat) (a : Alm) (active : Bool) : Keeps [.gln, .svc] (almChange n a active) := .of fun s => by simp [almChange]

@[simp] theorem almEval_keeps (n : Nat) : Keeps [.gln, .svc] (almEval n) := .of fun s => by
  unfold almEval; split <;> simp

@[simp] theorem almEvalAll_keeps : Keeps [.gln, .svc] almEvalAll := .of fun s => by simp [almEvalAll]

@[simp] theorem shelveEnd_keeps (n : Nat) : Keeps [.gln, .svc] (shelveEnd n) := .of fun s => by
  unfold shelveEnd; split
  · simp
  · split <;> simp

theorem execShelveEnd_goes (a : Fin 8192) (s : State) : Goes [.gln, .svc, .pair, .out] s (execShelveEnd a s) :=
  svcEvent_goes (fun s => by simp) (by simp) s

@[simp] theorem putTrd_keeps (n : Nat) (c : Trd) : Keeps [.svc] (putTrd n c) := .of fun s => by simp [putTrd]

@[simp] theorem trdTake_keeps (n : Nat) (c : Trd) (i : SvcIn) (onChange : Bool) : Keeps [.gln, .svc] (trdTake n c i onChange) := .of fun s => by
  unfold trdTake; split <;> simp

@[simp] theorem trdStep_keeps {f : Trd → SvcIn → State → State} (n : Nat) (hf : ∀ x i, Keeps [.gln, .svc] (f x i)) : Keeps [.gln, .svc] (trdStep n f) := .of fun s => by
  unfold trdStep; split
  · simp
  · simp [hf]

@[simp] theorem trdSample_keeps (n : Nat) : Keeps [.gln, .svc] (trdSample n) := trdStep_keeps n fun x i => .of fun s => by simp

@[simp] theorem trdCheck_keeps (n : Nat) : Keeps [.gln, .svc] (trdCheck n) := trdStep_keeps n fun x i => .of fun s => by simp

@[simp] theorem putMtr_keeps (n : Nat) (x1 : Mtr) : Keeps [.svc] (putMtr n x1) := .of fun s => by simp [putMtr]

@[simp] theorem enStep_keeps (m : Nat) : Keeps [.gln, .silo, .svc] (enStep m) := .of fun s => by
  unfold enStep; dsimp only
  (repeat' split) <;> simp

@[simp] theorem enSample_keeps (code : Nat) : Keeps [.gln, .silo, .svc] (enSample code) := .of fun s => by simp [enSample]

theorem execEnergyAccumSave_goes (s : State) : Goes [.silo, .pair, .out] s (execEnergyAccumSave s) :=
  svcEvent_goes (fun s => by simp) (by simp) s

@[simp] theorem putAcc_keeps (n : Nat) (a : AccPt) : Keeps [.svc] (putAcc n a) := .of fun s => by simp [putAcc]

@[simp] theorem accPulse_keeps (n : Nat) (deny : Bool) (a : AccPt) : Keeps [.evt, .gln, .task, .img, .svc, .fio, .can, .eth, .pair, .out] (accPulse n deny a) := .of fun s => by
  unfold accPulse; extract_lets t w lane stop
  split
  next h => simp [(svcPut_written h).mono]
  · simp
  · simp

@[simp] theorem accDecide_keeps (n : Nat) : Keeps [.evt, .gln, .task, .img, .svc, .fio, .can, .eth, .pair, .out] (accDecide n) := .of fun s => by
  unfold accDecide; split <;> simp

theorem execAccessPulseEnd_goes (p : Fin 256) (deny : Bool) (s : State) : Goes [.pair, .out, .evt, .gln, .task, .img, .svc, .fio, .can, .eth] s (execAccessPulseEnd p deny s) := by
  unfold execAccessPulseEnd; extract_lets n
  refine svcEvent_goes (fun s => ?_) (by simp) s
  split
  · simp
  · split
    · split
      · simp
      extract_lets lane b
      split
      next h => simp [(svcPut_written h).mono]
      · split <;> simp
      · simp
    · simp

/-! ### Commands of the services -/

@[simp] theorem svcSaid_keeps (kind n t : Nat) (cfg : Word) : Keeps [.gln] (svcSaid kind n t cfg) := .of fun s => by simp [svcSaid]

@[simp] theorem mbSvcQuotaSet_keeps (t _ch : Nat) (p : Bytes) : MbKeeps [.svc] (mbSvcQuotaSet t _ch p) := .of fun s => by simp [mbSvcQuotaSet]

@[simp] theorem mbSvcList_keeps (t _ch : Nat) (p : Bytes) : MbKeeps [.free] (mbSvcList t _ch p) := .of fun s => by simp [mbSvcList]

@[simp] theorem mbLocalSet_keeps (t _ch : Nat) (p : Bytes) : MbKeeps [.evt, .gln, .task, .img, .svc, .fio, .can, .eth, .pair, .out] (mbLocalSet t _ch p) := .of fun s => by
  simp [mbLocalSet]

@[simp] theorem mbCalSet_keeps (t _ch : Nat) (p : Bytes) : MbKeeps [.gln, .svc, .free] (mbCalSet t _ch p) := .of fun s => by simp [mbCalSet]

@[simp] theorem mbWpgSet_keeps (t _ch : Nat) (p : Bytes) : MbKeeps [.gln, .svc, .free] (mbWpgSet t _ch p) := .of fun s => by simp [mbWpgSet]

@[simp] theorem mbWpgGet_keeps (t _ch : Nat) (p : Bytes) : MbKeeps [] (mbWpgGet t _ch p) := .of fun s => by
  unfold mbWpgGet; split <;> simp

@[simp] theorem mbAlmSet_keeps (t _ch : Nat) (p : Bytes) : MbKeeps [.gln, .svc] (mbAlmSet t _ch p) := .of fun s => by simp [mbAlmSet]

@[simp] theorem mbAlmList_keeps (t _ch : Nat) (p : Bytes) : MbKeeps [] (mbAlmList t _ch p) := .of fun s => by simp [mbAlmList]

@[simp] theorem almAck_keeps (t n trn : Nat) : Keeps [.gln, .svc] (fun s => (almAck t n trn s).2) := .of fun s => by
  unfold almAck; split <;> simp

@[simp] theorem mbAlmAck_keeps (t _ch : Nat) (p : Bytes) : MbKeeps [.gln, .svc] (mbAlmAck t _ch p) := .of fun s => by
  simp [mbAlmAck]

@[simp] theorem mbAlmShelve_keeps (t _ch : Nat) (p : Bytes) : MbKeeps [.gln, .svc] (mbAlmShelve t _ch p) := .of fun s => by
  unfold mbAlmShelve; dsimp only; split <;> simp

@[simp] theorem mbTrdSet_keeps (t _ch : Nat) (p : Bytes) : MbKeeps [.gln, .svc] (mbTrdSet t _ch p) := .of fun s => by simp [mbTrdSet]

@[simp] theorem mbTrdRead_keeps (t _ch : Nat) (p : Bytes) : MbKeeps [] (mbTrdRead t _ch p) := .of fun s => by
  unfold mbTrdRead; split <;> simp

@[simp] theorem mbEnSet_keeps (t _ch : Nat) (p : Bytes) : MbKeeps [.gln, .silo, .svc] (mbEnSet t _ch p) := .of fun s => by
  unfold mbEnSet; dsimp only
  (repeat' split) <;> simp

@[simp] theorem mbEnRead_keeps (t _ch : Nat) (p : Bytes) : MbKeeps [.evt, .gln, .silo] (mbEnRead t _ch p) := .of fun s => by
  simp [mbEnRead, -List.foldl_reverse, -List.filter_reverse]

@[simp] theorem mbEnSysSet_keeps (t _ch : Nat) (p : Bytes) : MbKeeps [.svc] (mbEnSysSet t _ch p) := .of fun s => by simp [mbEnSysSet]

@[simp] theorem mbEnTotals_keeps (t _ch : Nat) (p : Bytes) : MbKeeps [] (mbEnTotals t _ch p) := .of fun s => by simp [mbEnTotals]

@[simp] theorem mbAccSet_keeps (t _ch : Nat) (p : Bytes) : MbKeeps [.gln, .svc] (mbAccSet t _ch p) := .of fun s => by simp [mbAccSet]

@[simp] theorem mbAccListPut_keeps (t _ch : Nat) (p : Bytes) : MbKeeps [.gln, .svc] (mbAccListPut t _ch p) := .of fun s => by simp [mbAccListPut]

@[simp] theorem mbAccListDel_keeps (t _ch : Nat) (p : Bytes) : MbKeeps [.gln, .svc] (mbAccListDel t _ch p) := .of fun s => by simp [mbAccListDel]

@[simp] theorem mbWallSet_keeps (t _ch : Nat) (p : Bytes) : MbKeeps [.evt, .gln, .silo, .rtc, .task, .img, .tb, .svc, .fio, .can, .eth, .pair, .out] (mbWallSet t _ch p) := .of fun s => by
  simp [mbWallSet]

/-! ### Commands of the supervisor -/

@[simp] theorem mbPwrStat_keeps (_t _ch : Nat) (p : Bytes) : MbKeeps [] (mbPwrStat _t _ch p) := .of fun s => by simp [mbPwrStat]

@[simp] theorem mbResetLog_keeps (t _ch : Nat) (p : Bytes) : MbKeeps [] (mbResetLog t _ch p) := .of fun s => by simp [mbResetLog]

@[simp] theorem mbWdgFuse_keeps (t ch : Nat) (p : Bytes) : MbKeeps [.gln, .aon] (mbWdgFuse t ch p) := .of fun s => by simp [mbWdgFuse]

@[simp] theorem mbWdgSet_keeps (t _ch : Nat) (p : Bytes) : MbKeeps [.sup, .task, .img, .pair, .out] (mbWdgSet t _ch p) := .of fun s => by
  simp [mbWdgSet]

@[simp] theorem mbWdgStat_keeps (t _ch : Nat) (p : Bytes) : MbKeeps [] (mbWdgStat t _ch p) := .of fun s => by simp [mbWdgStat]

@[simp] theorem mbStartSet_keeps (t _ch : Nat) (p : Bytes) : MbKeeps [.sup] (mbStartSet t _ch p) := .of fun s => by simp [mbStartSet]

@[simp] theorem mbReset_keeps (t _ch : Nat) (p : Bytes) : MbKeeps [] (mbReset t _ch p) := .of fun s => by simp [mbReset]

@[simp] theorem mbSleep_keeps (t _ch : Nat) (p : Bytes) : MbKeeps [.aon, .sup] (mbSleep t _ch p) := .of fun s => by simp [mbSleep]

@[simp] theorem mbWakeSet_keeps (t _ch : Nat) (p : Bytes) : MbKeeps [.aon] (mbWakeSet t _ch p) := .of fun s => by simp [mbWakeSet]

@[simp] theorem mbWakeCause_keeps (_t _ch : Nat) (p : Bytes) : MbKeeps [] (mbWakeCause _t _ch p) := .of fun s => by simp [mbWakeCause]

/-! ### The table of commands -/

@[simp] theorem mbOf_keeps {code : Nat} {f : Nat → Nat → Bytes → State → MbR} (h : mbOf code = some f) (t ch : Nat) (p : Bytes) : MbKeeps unclocked (f t ch p) := .of fun s => by
  unfold mbOf at h; split at h <;> cases h <;> simp

/-! ### Overlays -/

@[simp] theorem hashChange_keeps : Keeps [.evt, .gln, .ovl] hashChange := .of fun s => by simp [hashChange]

@[simp] theorem sfMapItem_keeps (i : Item) : Keeps [.saf] (fun s => (sfMapItem i s).2) := .of fun s => by simp [sfMapItem]

@[simp] theorem itemResult_keeps (mode : Nat) (i : Item) : Keeps unclocked (fun s => (itemResult mode i s).2) := .of fun s => by
  unfold itemResult; split
  · simp
  split
  · simp
  split
  · simp
  next f hf =>
    extract_lets plot x1 x2 x3 x4 s1
    split
    · simp
    next o ho =>
      have ht : Frame unclocked s o.s := mbOf_keeps hf i.tenant 16 i.payload unclocked s s1 (by simp) (by simp [s1]) o ho
      extract_lets t y1 y2 y3 y4 t'
      have ht' : Frame unclocked s t' := by simp [t', t, ht]
      split
      · simp
      split
      · simp [ht']
      split
      · simp
      · simp [ht']

@[simp] theorem resetObj_keeps (o : Nat × Nat) : Keeps [.evt, .gln, .task, .img, .tb, .slot, .ce, .svc, .fio, .can, .eth, .pair, .out, .free] (resetObj o) := .of fun s => by
  unfold resetObj; split <;> simp

@[simp] theorem applyLast_keeps (a : List Item) : Keeps unclocked (applyLast a) := .of fun s => by
  induction a generalizing s with
  | nil => simp [applyLast]
  | cons i l ih => simp [applyLast, ih]

@[simp] theorem runItems_keeps (is : List Item) : Keeps unclocked (runItems is) := .of fun s => by
  simp [runItems]

@[simp] theorem loopChange_keeps (n : Nat) (is : List Item) : Keeps unclocked (loopChange n is) := .of fun s => by simp [loopChange]

@[simp] theorem slotChange_keeps (n : Nat) (is : List Item) : Keeps unclocked (slotChange n is) := .of fun s => by simp [slotChange]

@[simp] theorem taskChange_keeps (k : Nat) (is : List Item) : Keeps [.evt, .gln, .task] (taskChange k is) := .of fun s => by simp [taskChange]

@[simp] theorem constChange_keeps (is : List Item) (o : Nat × Nat) : Keeps [.core] (constChange is o) := .of fun s => by simp [constChange]

@[simp] theorem entryChange_keeps (is : List Item) (o : Nat × Nat) : Keeps [.gln, .svc] (entryChange is o) := .of fun s => by simp [entryChange]

@[simp] theorem objChange_keeps (is : List Item) (o : Nat × Nat) : Keeps unclocked (objChange is o) := .of fun s => by
  unfold objChange; split
  · simp
  · simp
  · simp
  · simp
  · simp
  · split <;> simp

@[simp] theorem constsChanged_keeps (u : OvlUnit) : Keeps [.gln] (constsChanged u) := .of fun s => by simp [constsChanged]

@[simp] theorem unitApply_keeps (u : OvlUnit) : Keeps unclocked (unitApply u) := .of fun s => by simp [unitApply]

@[simp] theorem ovlItemResult_keeps (i : Item) : Keeps unclocked (fun s => (ovlItemResult i s).2) := .of fun s => by simp [ovlItemResult]

@[simp] theorem updOvl_keeps (f : Overlays → Overlays) : Keeps [.ovl] (updOvl f) := .of fun s => by simp [updOvl]

@[simp] theorem unitChange_keeps (u : OvlUnit) : Keeps unclocked (unitChange u) := .of fun s => by simp [unitChange]

@[simp] theorem beginOvl_keeps (set : List Nat) (level : Nat) : Keeps unclocked (beginOvl set level) := .of fun s => by simp [beginOvl]

@[simp] theorem endOvl_keeps (a : Nat) : Keeps unclocked (endOvl a) := .of fun s => by
  induction a generalizing s with
  | zero => simp [endOvl]
  | succ n ih =>
    unfold endOvl; split
    · simp
    extract_lets lv ql dur q t u
    have hu : Frame unclocked s u := by simp [u, t]
    clear_value q
    split
    · exact hu
    split
    · exact hu
    · extract_lets rc
      split
      · exact .trans (by simp [hu]) (ih _)
      · simp [hu]

@[simp] theorem boundary_keeps (q : OvlUnit → Bool) : Keeps unclocked (boundary q) := .of fun s => by simp [boundary]

theorem atBoundary_keeps {ps : List Part} {f : State → State} (hf : ∀ s, Frame ps s (f s)) (hw : Within unclocked ps) (q : OvlUnit → Bool) (due : State → Bool) (s : State) :
    Frame ps s (atBoundary q due f s) := by
  have hb : Frame ps s (boundary q s) := (boundary_keeps q ps s s hw).2 (.refl ..)
  unfold atBoundary; extract_lets t
  split
  · exact hb.trans (hf t)
  · split
    · exact hb
    · simp

@[simp] theorem boundaryTick_keeps : Keeps unclocked boundaryTick := .of fun s => by simp [boundaryTick]

@[simp] theorem queueOvl_keeps (set : List Nat) (level : Nat) : Keeps [.pair, .ovl, .out] (queueOvl set level) := .of fun s => by simp [queueOvl]

@[simp] theorem requestOvl_keeps (set : List Nat) (level ch : Nat) : Keeps unclocked (fun s => (requestOvl set level ch s).2) := .of fun s => by
  unfold requestOvl; split
  · simp
  · split <;> simp

/-! ### Overlay boundaries -/

@[simp] theorem tickTasks_keeps : Keeps [.task] tickTasks := .of fun s => by simp [tickTasks]

@[simp] theorem clearHolds_keeps : Keeps [.task] clearHolds := .of fun s => by simp [clearHolds]

theorem execPositionTick_goes (s : State) : Goes unclocked s (execPositionTick s) := by simp [execPositionTick]

theorem execFioOutputFrame_goes (die : Fin 4) (s : State) : Goes unclocked s (execFioOutputFrame die s) := by simp [execFioOutputFrame]

theorem execCanConfigApply_goes (n : Fin 4) (s : State) : Goes unclocked s (execCanConfigApply n s) := by simp [execCanConfigApply]

theorem execPtpMessage_goes (r : PtpRx) (s : State) : Goes unclocked s (execPtpMessage r s) := by
  simp [execPtpMessage, atBoundary_keeps]

theorem execPtpPortTimer_goes (k : PtpTimer) (s : State) : Goes unclocked s (execPtpPortTimer k s) := by
  simp [execPtpPortTimer, atBoundary_keeps]

theorem execEthFrameReceived_goes (mac : Fin 3) (f : EthFrame) (s : State) : Goes unclocked s (execEthFrameReceived mac f s) := by
  unfold execEthFrameReceived; extract_lets due
  rw [goes_next]; split <;> simp [atBoundary_keeps]

theorem ceBoundary_keeps {ps : List Part} {f : State → State} (hf : ∀ s, Frame ps s (f s)) (hw : Within unclocked ps) (n : Nat) (due : State → Bool) (s : State) :
    Frame ps s (ceBoundary n due f s) := by
  simp [ceBoundary, hf, atBoundary_keeps hf hw]

theorem execCeSampleComplete_goes (loop : Fin 512) (s : State) : Goes unclocked s (execCeSampleComplete loop s) := by
  unfold execCeSampleComplete; split <;> simp

theorem execWpgEvaluate_goes (w : Fin 512) (s : State) : Goes unclocked s (execWpgEvaluate w s) := by
  unfold execWpgEvaluate; extract_lets ts
  exact svcEvent_goes (fun s => by simp) (by simp) s

theorem execAlarmEvaluate_goes (s : State) : Goes unclocked s (execAlarmEvaluate s) :=
  svcEvent_goes (fun s => by simp) (by simp) s

theorem execTrendSample_goes (c : Fin 4096) (s : State) : Goes unclocked s (execTrendSample c s) :=
  svcEvent_goes (atBoundary_keeps (fun s => by simp) (by simp) _ _) (by simp) s

theorem execTrendChangeCheck_goes (c : Fin 4096) (s : State) : Goes unclocked s (execTrendChangeCheck c s) :=
  svcEvent_goes (atBoundary_keeps (fun s => by simp) (by simp) _ _) (by simp) s

theorem execMeterSample_goes (s : State) : Goes unclocked s (execMeterSample s) :=
  svcEvent_goes (fun s => by simp) (by simp) s

theorem execEnergyIntervalClose_goes (m : Fin 64) (s : State) : Goes unclocked s (execEnergyIntervalClose m s) :=
  svcEvent_goes (atBoundary_keeps (fun s => by simp) (by simp) _ _) (by simp) s

theorem execAccessDecision_goes (p : Fin 256) (s : State) : Goes unclocked s (execAccessDecision p s) := by
  unfold execAccessDecision; extract_lets ts
  exact svcEvent_goes (fun s => by simp) (by simp) s

/-! ### Overlay rows -/

@[simp] theorem mbOvlCreate_keeps (t _ch : Nat) (p : Bytes) : MbKeeps [.flash] (mbOvlCreate t _ch p) := .of fun s => by simp [mbOvlCreate]

@[simp] theorem mbOvlDelete_keeps (t _ch : Nat) (p : Bytes) : MbKeeps [.evt, .gln, .silo, .flash, .ovl] (mbOvlDelete t _ch p) := .of fun s => by
  unfold mbOvlDelete; dsimp only; split <;> simp

@[simp] theorem mbOvlRequest_keeps (t ch : Nat) (p : Bytes) : MbKeeps unclocked (mbOvlRequest t ch p) := .of fun s => by
  unfold mbOvlRequest; simp only [mbFrame_bind]
  intro _ _ _ _ _ _
  split <;> simp

@[simp] theorem canQuit_keeps (n : Nat) : Keeps [.evt, .gln, .can] (canQuit n) := .of fun s => by simp [canQuit]

@[simp] theorem canRetake_keeps (n : Nat) : Keeps [.gln, .can] (canRetake n) := .of fun s => by
  unfold canRetake; split <;> simp

@[simp] theorem lateUnit_keeps (u : OvlUnit) : Keeps unclocked (fun s => lateUnit s u) := .of fun s => by simp [lateUnit]

@[simp] theorem ovlTimeout_keeps : Keeps unclocked ovlTimeout := .of fun s => by simp [ovlTimeout]

theorem execOverlayTransitionTimeout_goes (s : State) : Goes unclocked s (execOverlayTransitionTimeout s) := by simp [execOverlayTransitionTimeout]

@[simp] theorem mbOvlStatus_keeps (_t _ch : Nat) (p : Bytes) : MbKeeps [] (mbOvlStatus _t _ch p) := .of fun s => by simp [mbOvlStatus]

@[simp] theorem mbOvlList_keeps (t _ch : Nat) (p : Bytes) : MbKeeps [] (mbOvlList t _ch p) := .of fun s => by simp [mbOvlList]

@[simp] theorem mbStoreBegin_keeps (t ch : Nat) (p : Bytes) : MbKeeps [.ovl] (mbStoreBegin t ch p) := .of fun s => by simp [mbStoreBegin]

@[simp] theorem mbStoreData_keeps (t _ch : Nat) (p : Bytes) : MbKeeps [.ovl] (mbStoreData t _ch p) := .of fun s => by simp [mbStoreData]

@[simp] theorem mbStoreEnd_keeps (t ch : Nat) (p : Bytes) : MbKeeps [.silo, .flash, .ovl] (mbStoreEnd t ch p) := .of fun s => by
  unfold mbStoreEnd; simp only [mbFrame_bind]
  intro _ _ _ _ g _ _ _ _ _
  split <;> simp

@[simp] theorem endJob_keeps (rc : Nat) (b : Bytes) (j : FlashJob) : Keeps [.mb, .ovl] (endJob rc b j) := .of fun s => by simp [endJob]

@[simp] theorem finishJob_keeps (j : FlashJob) : Keeps [.mb, .evt, .gln, .ovl] (finishJob j) := .of fun s => by simp [finishJob]

@[simp] theorem flashBlock_keeps (eraseOk verifyOk : Bool) (j : FlashJob) : Keeps [.mb, .evt, .gln, .silo, .flash, .ovl] (flashBlock eraseOk verifyOk j) := .of fun s => by
  unfold flashBlock; dsimp only
  (repeat' split) <;> simp

theorem execFlashBlockDone_goes (eraseOk verifyOk : Bool) (s : State) : Goes [.mb, .evt, .gln, .silo, .flash, .ovl] s (execFlashBlockDone eraseOk verifyOk s) := by
  unfold execFlashBlockDone; split <;> simp

theorem execStagingTimeout_goes (s : State) : Goes [.ovl] s (execStagingTimeout s) := by
  unfold execStagingTimeout; split <;> simp

@[simp] theorem putBoot_keeps (fw prog : Nat) (trial : Bool) : Keeps [.evt, .gln, .silo, .flash] (putBoot fw prog trial) := .of fun s => by
  simp [putBoot]

@[simp] theorem mbBankActivate_keeps (t _ch : Nat) (p : Bytes) : MbKeeps [.evt, .gln, .silo, .core, .prog, .task, .flash, .ovl] (mbBankActivate t _ch p) := .of fun s => by
  simp [mbBankActivate]

theorem execBankActivationReset_goes (s : State) : Goes everyPart s (execBankActivationReset s) := by
  unfold execBankActivationReset; split <;> simp

@[simp] theorem mbBankConfirm_keeps (t _ch : Nat) (p : Bytes) : MbKeeps [.evt, .gln, .silo, .flash] (mbBankConfirm t _ch p) := .of fun s => by
  simp [mbBankConfirm]

@[simp] theorem mbFlashStat_keeps (t _ch : Nat) (p : Bytes) : MbKeeps [] (mbFlashStat t _ch p) := .of fun s => by simp [mbFlashStat]

/-! ### Changes of the chain -/

theorem switchApply_some {c : ChainChange} {s t : State} (h : switchApply c s = some t) : Frame unclocked s t := by
  unfold switchApply at h; split at h
  · cases h; simp
  · extract_lets u l at h
    obtain ⟨-, h⟩ := Option.ite_none_right_eq_some.1 h
    simp [← Option.some.inj h, u]

theorem changeEffect_some {c : ChainChange} {s t : State} (h : changeEffect c s = some t) : Frame unclocked s t := by
  unfold changeEffect at h; split at h
  · exact (plotChange_some h).mono (by simp)
  · extract_lets at h; simp [← Option.some.inj h]
  · simp [← Option.some.inj h]
  · exact switchApply_some h

@[simp] theorem applyChange_keeps (c : ChainChange) : Keeps unclocked (applyChange c) := .of fun s => by
  unfold applyChange; extract_lets late x u
  have hu : Frame unclocked s u := by simp [u]
  split
  · simp [hu]
  next t ht => simp [hu.trans (changeEffect_some ht)]

theorem execChainChangeApply_goes (s : State) : Goes unclocked s (execChainChangeApply s) := by simp [execChainChangeApply]

/-! ### Control instructions -/

theorem kvFrame_ctl {ps : List Part} {s : State} {e : Ex} {r : KvRes} (h : KvFrame ps s r) : KvFrame ps s (ctl e r) := by
  unfold ctl; split <;> simp [h]

@[simp] theorem kvFrame_jump (ps : List Part) (tgt : Nat) (e' e : Ex) (s : State) : KvFrame ps s (jump tgt e' e s) := by
  simp [jump]

/-! ### Memory instructions -/

theorem kvFrame_access {ps : List Part} {s : State} {o : Kv} {e : Ex} {kinds : List Nat} {write : Bool} {f : Place → KvRes}
    (h : ∀ pl, KvFrame ps s (f pl)) : KvFrame ps s (access o e kinds write f) := by
  unfold access; split <;> simp [h]

theorem kvFrame_readData {ps : List Part} {k : Nat} {o : Kv} {e : Ex} {s : State} {pl : Place} {f : Word → State → KvRes}
    (hw : Within [.gln, .core] ps) (h : ∀ v t, Frame ps s t → KvFrame ps s (f v t)) : KvFrame ps s (readData k o e s pl f) := by
  obtain ⟨hgln, hcore, -⟩ : .gln ∈ ps ∧ .core ∈ ps ∧ True := by simpa using hw
  unfold readData; extract_lets key; split
  · simp
  · exact h _ _ (by simp [*])

@[simp] theorem writeData_keeps (k : Nat) (e : Ex) (pl : Place) (mask v : Word) : Keeps [.core] (writeData k e pl mask v) := .of fun s => by
  simp [writeData]

theorem kvFrame_bitLane {ps : List Part} {s : State} {o : Kv} {e : Ex} {f : Nat → KvRes} (h : ∀ n, KvFrame ps s (f n)) : KvFrame ps s (bitLane o e f) := by
  simp [bitLane, h]

/-! ### Pair rows -/

theorem execVolleySend_goes (s : State) : Goes [.pair, .out] s (execVolleySend s) := by simp [execVolleySend]

theorem execPairBeaconSend_goes (s : State) : Goes [.pair, .out] s (execPairBeaconSend s) := by simp [execPairBeaconSend]

@[simp] theorem resendFrom_keeps (n : Nat) : Keeps [.pair, .out] (resendFrom n) := .of fun s => by simp [resendFrom]

@[simp] theorem measureOfs_keeps (v : Volley) : Keeps [.pair, .free] (measureOfs v) := .of fun s => by simp [measureOfs]

@[simp] theorem adjustOfs_keeps : Keeps [.pair] adjustOfs := .of fun s => by
  unfold adjustOfs; split <;> simp

@[simp] theorem takeWall_keeps (v : Volley) : Keeps [.tb] (takeWall v) := .of fun s => by simp [takeWall]

@[simp] theorem volleyStart_keeps (v : Volley) : Keeps [.mb, .evt, .gln, .sup, .core, .task, .img, .tb, .ce, .svc, .fio, .can, .eth, .pair, .out] (volleyStart v) := .of fun s => by
  simp [volleyStart]

@[simp] theorem resyncBegin_keeps : Keeps [.gln, .pair] resyncBegin := .of fun s => by simp [resyncBegin]

@[simp] theorem volleyServing_keeps (v : Volley) : Keeps [.mb, .evt, .gln, .sup, .task, .img, .tb, .ce, .fio, .can, .eth, .pair, .out] (volleyServing v) := .of fun s => by
  simp [volleyServing]

@[simp] theorem followMode_keeps (v : Volley) : Keeps [.mb, .evt, .gln, .silo, .sup, .core, .task, .img, .tb, .slot, .ce, .svc, .fio, .can, .eth, .pair, .out, .free] (followMode v) := .of fun s => by
  simp [followMode]

@[simp] theorem volleyStandby_keeps (was : Nat) (v : Volley) : Keeps [.mb, .evt, .gln, .sup, .task, .img, .tb, .ce, .fio, .can, .eth, .pair, .out] (volleyStandby was v) := .of fun s => by
  simp [volleyStandby]

@[simp] theorem storeWait_keeps : Keeps [.pair] storeWait := .of fun s => by simp [storeWait]

@[simp] theorem hearVolley_keeps (v : Volley) : Keeps [.gln, .pair, .out, .free] (hearVolley v) := .of fun s => by
  unfold hearVolley; split <;> simp

@[simp] theorem volleyTake_keeps (v : Volley) : Keeps [.mb, .evt, .gln, .silo, .sup, .core, .task, .img, .tb, .slot, .ce, .svc, .fio, .can, .eth, .pair, .out, .free] (volleyTake v) := .of fun s => by
  unfold volleyTake; dsimp only; split <;> simp

theorem execVolleyReceived_goes (v : Volley) (s : State) : Goes [.mb, .evt, .gln, .silo, .sup, .core, .task, .img, .tb, .slot, .ce, .svc, .fio, .can, .eth, .pair, .out, .free] s (execVolleyReceived v s) := by simp [execVolleyReceived]

theorem execSyncPathSilent_goes (s : State) : Goes [.mb, .evt, .gln, .silo, .sup, .core, .task, .img, .tb, .slot, .ce, .svc, .fio, .can, .eth, .pair, .out] s (execSyncPathSilent s) := by
  unfold execSyncPathSilent; split <;> simp

theorem execAlivePathSilent_goes (s : State) : Goes [.mb, .evt, .gln, .silo, .sup, .core, .task, .img, .tb, .slot, .ce, .svc, .fio, .can, .eth, .pair, .out] s (execAlivePathSilent s) := by simp [execAlivePathSilent]

theorem execAlivePathRestored_goes (s : State) : Goes [.gln, .pair] s (execAlivePathRestored s) := by simp [execAlivePathRestored]

theorem execSrvInChange_goes (high : Bool) (s : State) : Goes [.mb, .evt, .gln, .sup, .task, .img, .tb, .ce, .fio, .can, .eth, .pair, .out] s (execSrvInChange high s) := by simp [execSrvInChange]

theorem execServePathMismatch_goes (s : State) : Goes [.gln, .pair] s (execServePathMismatch s) := by
  unfold execServePathMismatch; split <;> simp

theorem execPairStartTimeout_goes (s : State) : Goes [.mb, .evt, .gln, .silo, .sup, .core, .task, .img, .tb, .ce, .svc, .fio, .can, .eth, .pair, .out] s (execPairStartTimeout s) := by simp [execPairStartTimeout]

theorem execPairBeaconReceived_goes (b : Beacon) (s : State) : Goes [.mb, .evt, .gln, .sup, .task, .img, .tb, .ce, .fio, .can, .eth, .pair, .out] s (execPairBeaconReceived b s) := by simp [execPairBeaconReceived]

theorem changeOf_keeps {cmd : Nat} {f : Nat → Nat → Bytes → State → MbR} (h : changeOf cmd = some f) (t ch : Nat) (p : Bytes) : MbKeeps unclocked (f t ch p) := by
  unfold changeOf at h; split at h
  · cases h; exact .of fun s => by simp
  · cases h; exact .of fun s => by simp
  · cases h; exact .of fun s => by simp
  · cases h; exact .of fun s => by simp
  · cases h; exact .of fun s => by simp
  · exact mbOf_keeps h t ch p

@[simp] theorem carriedUnit_keeps (kind key : Nat) : Keeps unclocked (carriedUnit kind key) := .of fun s => by
  unfold carriedUnit; split <;> simp

@[simp] theorem runChange_keeps (tenant cmd : Nat) (p : Bytes) : Keeps unclocked (runChange tenant cmd p) := .of fun s => by
  unfold runChange; split
  · simp
  · simp
  · simp
  · simp
  · simp
  · split
    · simp
    next f hf =>
      split
      · simp
      next o ho =>
        have h : Frame unclocked s o.s := changeOf_keeps hf tenant 16 p unclocked s _ (by simp) (by simp) o ho
        simp [h]

@[simp] theorem applyHeld_keeps (a : Nat) : Keeps unclocked (applyHeld a) := .of fun s => by
  induction a generalizing s with
  | zero => simp [applyHeld]
  | succ n ih =>
    unfold applyHeld; split
    · simp
    · split
      · exact .trans (by simp) (ih _)
      · simp

@[simp] theorem heldTick_keeps : Keeps unclocked heldTick := .of fun s => by simp [heldTick]

@[simp] theorem recordUnit_keeps (num : Nat) (ws : List (Nat × Word)) : Keeps [.sup, .task, .img, .pair] (recordUnit num ws) := .of fun s => by
  unfold recordUnit; dsimp only; split <;> simp

@[simp] theorem wpgSeen_keeps (ws : List (Nat × Word)) : Keeps [.svc] (wpgSeen ws) := .of fun s => by simp [wpgSeen]

@[simp] theorem recordEngine_keeps (ws : List (Nat × Word)) (loop : Option Nat) (ua xh q : List Word) (seq : Nat) : Keeps [.evt, .task, .img, .ce, .svc, .fio, .can, .eth, .pair, .out] (recordEngine ws loop ua xh q seq) := .of fun s => by
  unfold recordEngine; dsimp only; split <;> simp

@[simp] theorem recordTake_keeps (num : Nat) (r : PairRec) : Keeps unclocked (recordTake num r) := .of fun s => by
  unfold recordTake; split <;> simp

@[simp] theorem recordBad_keeps : Keeps [.gln, .pair] recordBad := .of fun s => by simp [recordBad]

@[simp] theorem recordOrder_keeps (num : Nat) (r : PairRec) : Keeps unclocked (recordOrder num r) := .of fun s => by
  unfold recordOrder; split
  · extract_lets before; simp
  split
  · simp
  split <;> simp

theorem execPairRecordReceived_goes (num : Nat) (crcOk : Bool) (r : PairRec) (s : State) : Goes unclocked s (execPairRecordReceived num crcOk r s) := by simp [execPairRecordReceived]

@[simp] theorem ackTimeout_keeps : Keeps [.mb, .evt, .gln, .sup, .task, .img, .tb, .ce, .fio, .can, .eth, .pair, .out] ackTimeout := .of fun s => by
  unfold ackTimeout; dsimp only; split <;> simp

theorem execRecordAckTimeout_goes (s : State) : Goes [.mb, .evt, .gln, .sup, .task, .img, .tb, .ce, .fio, .can, .eth, .pair, .out] s (execRecordAckTimeout s) := by simp [execRecordAckTimeout]

theorem execReplayRelease_goes (s : State) : Goes unclocked s (execReplayRelease s) := by
  unfold execReplayRelease; dsimp only; split <;> simp

/-! ### Releases -/

@[simp] theorem releaseAt_keeps (k : Nat) : Keeps unclocked (releaseAt k) := .of fun s => by
  unfold releaseAt
  refine (releaseTask_keeps k scanFire_keeps _ _ _ (by simp)).2 (by simp)

@[simp] theorem mergedRelease_keeps (k : Nat) : Keeps unclocked (mergedRelease k) := .of fun s => by simp [mergedRelease]

@[simp] theorem commitSeen_keeps (t : Nat) (ws : List Nat) : Keeps [.core, .ce] (commitSeen t ws) := .of fun s => by
  unfold commitSeen; extract_lets -underBinder u
  have hu : Frame [.core, .ce] s u := Frame.foldl _ fun s k => by
    split
    · split <;> simp
    · simp
  simp [hu]

@[simp] theorem commitDone_keeps (k : Nat) (e : Ex) : Keeps everyPart (commitDone k e) := .of fun s => by simp [commitDone]

theorem commitAll_keeps (n : Nat) (s : State) (ks : List Nat) : Frame everyPart s (commitAll n s ks).1 := by
  induction n generalizing s ks with
  | zero => simp [commitAll]
  | succ n ih =>
    unfold commitAll; split
    · exact .trans (by simp) (ih _ _)
    · simp

@[simp] theorem freezeReady_keeps : Keeps everyPart freezeReady := .of fun s => by
  unfold freezeReady; extract_lets r
  have hr : Frame everyPart s r.1 := .trans (by simp) (commitAll_keeps ..)
  exact hr.trans (Frame.foldl _ fun s k => by simp)

theorem execCeRateTrigger_goes (loop : Fin 512) (s : State) : Goes everyPart s (execCeRateTrigger loop s) := by
  simp [execCeRateTrigger, ceBoundary_keeps]

theorem execCeSupangTrigger_goes (loop : Fin 512) (s : State) : Goes everyPart s (execCeSupangTrigger loop s) := by
  simp [execCeSupangTrigger, ceBoundary_keeps]

theorem execCyclicRelease_goes (task : Fin 256) (s : State) : Goes everyPart s (execCyclicRelease task s) := by simp [execCyclicRelease]

theorem execEventTaskRelease_goes (task : Fin 256) (s : State) : Goes everyPart s (execEventTaskRelease task s) := by simp [execEventTaskRelease]

@[simp] theorem dueRelease_keeps (k n : Nat) : Keeps everyPart (dueRelease k n) := .of fun s => by simp [dueRelease]

@[simp] theorem heldReleases_keeps : Keeps everyPart heldReleases := .of fun s => by simp [heldReleases]

theorem execPositionIntervalRelease_goes (task : Fin 256) (s : State) : Goes everyPart s (execPositionIntervalRelease task s) := by simp [execPositionIntervalRelease]

theorem execSupplyCycleRelease_goes (task : Fin 256) (s : State) : Goes everyPart s (execSupplyCycleRelease task s) := by simp [execSupplyCycleRelease]

@[simp] theorem replayCommit_keeps (k : Nat) (e : Ex) : Keeps everyPart (replayCommit k e) := .of fun s => by
  unfold replayCommit; split <;> simp

theorem execCommitComplete_goes (task : Fin 256) (s : State) : Goes everyPart s (execCommitComplete task s) := by
  unfold execCommitComplete; dsimp only; split <;> simp

/-! ### Programme swap of a pair -/

@[simp] theorem pageLoops_keeps (r : ResyncPage) : Keeps [.ce] (pageLoops r) := .of fun s => by simp [pageLoops]

@[simp] theorem pageServices_keeps (r : ResyncPage) : Keeps [.silo, .svc] (pageServices r) := .of fun s => by simp [pageServices]

@[simp] theorem pageImage_keeps (r : ResyncPage) : Keeps [.img] (pageImage r) := .of fun s => by simp [pageImage]

@[simp] theorem pageData_keeps (ws : List (Nat × Word)) : Keeps [.core] (pageData ws) := .of fun s => by simp [pageData]

@[simp] theorem latchModes_keeps (before : State) : Keeps [.mb] (latchModes before) := .of fun s => by simp [latchModes]

@[simp] theorem pageRest_keeps (r : ResyncPage) : Keeps [.mb, .task, .slot] (pageRest r) := .of fun s => by
  simp [pageRest]

@[simp] theorem resyncDone_keeps : Keeps [.mb, .evt, .gln, .sup, .task, .img, .tb, .ce, .fio, .can, .eth, .pair, .out] resyncDone := .of fun s => by
  simp [resyncDone]

@[simp] theorem warmAll_keeps : Keeps [.evt, .core, .ce, .svc] warmAll := .of fun s => by simp [warmAll]

@[simp] theorem swapPage_keeps (r : ResyncPage) : Keeps [.evt, .silo, .core, .img, .ce, .svc, .pair] (swapPage r) := .of fun s => by simp [swapPage]

@[simp] theorem takePage_keeps (r : ResyncPage) : Keeps [.mb, .evt, .gln, .silo, .sup, .core, .task, .img, .tb, .slot, .ce, .svc, .fio, .can, .eth, .pair, .out] (takePage r) := .of fun s => by
  simp [takePage]

@[simp] theorem sendPage_keeps (final : Bool) : Keeps [.pair, .out] (sendPage final) := .of fun s => by simp [sendPage]

@[simp] theorem sendSwapPage_keeps : Keeps [.out] sendSwapPage := .of fun s => by simp [sendSwapPage]

theorem execResyncRound_goes (r : ResyncPage) (s : State) : Goes [.mb, .evt, .gln, .silo, .sup, .core, .task, .img, .tb, .slot, .ce, .svc, .fio, .can, .eth, .pair, .out] s (execResyncRound r s) := by
  simp [execResyncRound]; split <;> simp

@[simp] theorem resyncAbandon_keeps : Keeps [.mb, .evt, .gln, .sup, .task, .img, .tb, .ce, .fio, .can, .eth, .pair, .out] resyncAbandon := .of fun s => by
  simp [resyncAbandon]

theorem execResyncTimeout_goes (s : State) : Goes [.mb, .evt, .gln, .sup, .task, .img, .tb, .ce, .fio, .can, .eth, .pair, .out] s (execResyncTimeout s) := by
  unfold execResyncTimeout; split <;> simp

theorem execResyncRetry_goes (s : State) : Goes [.gln, .pair] s (execResyncRetry s) := by
  unfold execResyncRetry; split <;> simp

@[simp] theorem handOver_keeps (h : Handover) : Keeps [.mb, .evt, .gln, .sup, .task, .img, .tb, .ce, .fio, .can, .eth, .pair, .out] (handOver h) := .of fun s => by
  simp [handOver]

@[simp] theorem takeOver_keeps (h : Handover) : Keeps [.mb, .evt, .gln, .silo, .sup, .core, .task, .img, .tb, .slot, .ce, .svc, .fio, .can, .eth, .pair, .flash, .out] (takeOver h) := .of fun s => by
  simp [takeOver]

@[simp] theorem swapHandover_keeps (h : Handover) : Keeps [.mb, .evt, .gln, .silo, .sup, .core, .task, .img, .tb, .slot, .ce, .svc, .fio, .can, .eth, .pair, .flash, .out] (swapHandover h) := .of fun s => by
  unfold swapHandover; split <;> simp

theorem execHandoverReady_goes (s : State) : Goes [.mb, .evt, .gln, .silo, .sup, .core, .task, .img, .tb, .slot, .ce, .svc, .fio, .can, .eth, .pair, .flash, .out] s (execHandoverReady s) := by
  unfold execHandoverReady; split <;> simp

@[simp] theorem mbPairResync_keeps (t ch : Nat) (p : Bytes) : MbKeeps [.mb, .evt, .gln, .sup, .task, .img, .tb, .ce, .fio, .can, .eth, .pair, .out] (mbPairResync t ch p) := .of fun s => by
  simp [mbPairResync]

@[simp] theorem mbPairSwitch_keeps (t ch : Nat) (p : Bytes) : MbKeeps [.pair] (mbPairSwitch t ch p) := .of fun s => by simp [mbPairSwitch]

@[simp] theorem bankReset_keeps : Keeps [.ovl] bankReset := .of fun s => by simp [bankReset]

theorem swapBanks_passing (fw prog : Nat) (trial : Bool) (s : State) :
    Passing (swapBanks fw prog trial s) (Frame [.evt, .gln, .silo, .core, .prog, .task, .flash] s) := by
  simp [swapBanks]

theorem swapBegin_passing (s : State) : Passing (swapBegin s) (Frame [.mb, .evt, .gln, .sup, .task, .img, .tb, .ce, .fio, .can, .eth, .pair, .out] s) := by
  simp [swapBegin]

theorem swapPreview_passing (s : State) : Passing (swapPreview s) (Frame [.evt, .gln, .silo, .core, .prog, .task, .pair, .flash, .ovl, .out] s) := by
  simp only [swapPreview, passing_bind]
  intro _ _ _ _ u hu
  have hu : Frame [.evt, .gln, .silo, .core, .prog, .task, .pair, .flash, .ovl, .out] s u := (swapBanks_passing _ _ _ _ u hu).mono (by simp)
  simp [hu]

theorem swapCommit_passing (ch : Nat) (s : State) : Passing (swapCommit ch s) (Frame [.pair] s) := by
  simp [swapCommit]

theorem swapAbort_passing (s : State) : Passing (swapAbort s) (Frame [.mb, .evt, .gln, .silo, .sup, .core, .prog, .task, .img, .tb, .ce, .fio, .can, .eth, .pair, .flash, .ovl, .out] s) := by
  unfold swapAbort
  refine (passing_bind ..).2 fun _ _ => ?_
  extract_lets fwNow x1 x2 t restored
  have ht : Frame [.mb, .evt, .gln, .silo, .sup, .core, .prog, .task, .img, .tb, .ce, .fio, .can, .eth, .pair, .flash, .ovl, .out] s t := by simp [t]
  have hr (u : State) (hu : Frame [.mb, .evt, .gln, .silo, .sup, .core, .prog, .task, .img, .tb, .ce, .fio, .can, .eth, .pair, .flash, .ovl, .out] s u) :
      Passing (restored u) (Frame [.mb, .evt, .gln, .silo, .sup, .core, .prog, .task, .img, .tb, .ce, .fio, .can, .eth, .pair, .flash, .ovl, .out] s) := by
    simp [restored, hu]
  clear_value restored
  split
  · exact (passing_bind ..).2 fun u hu => hr u (ht.trans ((swapBanks_passing _ _ _ _ u hu).mono (by simp)))
  · exact hr t ht

@[simp] theorem mbPairSwap_keeps (op t ch : Nat) (p : Bytes) : MbKeeps [.mb, .evt, .gln, .silo, .sup, .core, .prog, .task, .img, .tb, .ce, .fio, .can, .eth, .pair, .flash, .ovl, .out] (mbPairSwap op t ch p) := .of fun s => by
  simp only [mbPairSwap, mbFrame_bind]
  intro _ _ _ _ _ _ _ _
  split
  · simp
  next u h =>
    have hu : Frame [.mb, .evt, .gln, .silo, .sup, .core, .prog, .task, .img, .tb, .ce, .fio, .can, .eth, .pair, .flash, .ovl, .out] s u := by
      split at h
      · exact (swapBegin_passing s u h).mono (by simp)
      · exact (swapPreview_passing s u h).mono (by simp)
      · exact (swapCommit_passing ch s u h).mono (by simp)
      · exact swapAbort_passing s u h
    simp [hu]

/-! ### Registers -/

@[simp] theorem writeEvtSrc_keeps (n : Nat) (v : Word) : Keeps [.evt] (writeEvtSrc n v) := .of fun s => by simp [writeEvtSrc]

theorem execRegisterWrite_goes (reg : RegName) (value : Word) (s : State) : Goes [.evt, .saf] s (execRegisterWrite reg value s) := by
  unfold execRegisterWrite; split <;> simp

/-! ### Supervisor rows -/

@[simp] theorem setRail_keeps (n mv : Nat) : Keeps [.aon] (setRail n mv) := .of fun s => by simp [setRail]

theorem execRailWarning_goes (rail : Fin 5) (below : Bool) (mv : Nat) (s : State) : Goes [.evt, .gln, .aon] s (execRailWarning rail below mv s) := by simp [execRailWarning]

theorem execSupplyMonitorReset_goes (rail : Fin 4) (mv : Nat) (s : State) : Goes everyPart s (execSupplyMonitorReset rail mv s) := by simp [execSupplyMonitorReset]

theorem execSafetyDomainReset_goes (mv : Nat) (s : State) : Goes [.mb, .gln, .aon, .saf] s (execSafetyDomainReset mv s) := by
  unfold execSafetyDomainReset; dsimp only
  (repeat' split) <;> simp

theorem execSafetyDomainPowerUp_goes (s : State) : Goes [.mb, .gln, .saf] s (execSafetyDomainPowerUp s) := by simp [execSafetyDomainPowerUp]

theorem execTemperatureSample_goes (mC : Int) (s : State) : Goes [.evt, .gln, .aon, .sup] s (execTemperatureSample mC s) := by simp [execTemperatureSample]

theorem execTemperatureCritical_goes (s : State) : Goes everyPart s (execTemperatureCritical s) := by simp [execTemperatureCritical]

theorem execHoldUpBegin_goes (s : State) : Goes [.evt, .gln, .silo, .sup, .task] s (execHoldUpBegin s) := by simp [execHoldUpBegin]

theorem execHoldUpEnd_goes (s : State) : Goes [.gln, .silo, .sup] s (execHoldUpEnd s) := by simp [execHoldUpEnd]

theorem execThrottleBegin_goes (mv : Nat) (s : State) : Goes [.mb, .evt, .gln, .aon, .sup] s (execThrottleBegin mv s) := by simp [execThrottleBegin]

theorem execThrottleEnd_goes (mv : Nat) (s : State) : Goes [.evt, .gln, .aon, .sup] s (execThrottleEnd mv s) := by simp [execThrottleEnd]

theorem execResetNAssert_goes (s : State) : Goes everyPart s (execResetNAssert s) := by simp [execResetNAssert]

theorem execMbResetTimer_goes (s : State) : Goes everyPart s (execMbResetTimer s) := by
  unfold execMbResetTimer; split <;> simp

theorem execUncorrectableMemoryError_goes (kind : Fin 3) (s : State) : Goes everyPart s (execUncorrectableMemoryError kind s) := by simp [execUncorrectableMemoryError]

theorem execRefclkFail_goes (periodPs : Nat) (s : State) : Goes everyPart s (execRefclkFail periodPs s) := by simp [execRefclkFail]

theorem execPllLockLoss_goes (pll : Fin 5) (s : State) : Goes everyPart s (execPllLockLoss pll s) := by simp [execPllLockLoss]

@[simp] theorem wakeEvent_keeps (b code : Nat) : Keeps [.aon] (wakeEvent b code) := .of fun s => by simp [wakeEvent]

theorem execHostResume_goes (s : State) : Goes [.aon] s (execHostResume s) := by simp [execHostResume]

theorem execWakeInEvent_goes (s : State) : Goes [.aon] s (execWakeInEvent s) := by simp [execWakeInEvent]

theorem execRtcAlarmWake_goes (s : State) : Goes [.aon] s (execRtcAlarmWake s) := by simp [execRtcAlarmWake]

@[simp] theorem canWake_keeps (n kind id : Nat) : Keeps [.aon] (canWake n kind id) := .of fun s => by simp [canWake]

theorem execCanWakePattern_goes (p : CanPhases) (s : State) : Goes [.aon] s (execCanWakePattern p s) := by simp [execCanWakePattern]

theorem execCanWakeFrame_goes (n : Fin 4) (r : CanWakeRx) (s : State) : Goes [.aon, .can] s (execCanWakeFrame n r s) := by
  unfold execCanWakeFrame; split <;> simp

@[simp] theorem sleepStep_keeps (k : Nat) : Keeps [.mb, .gln, .silo, .aon, .sup, .task, .fio, .saf, .can, .eth, .pass] (sleepStep k) := .of fun s => by
  unfold sleepStep; split <;> simp

@[simp] theorem sleepTick_keeps : Keeps [.mb, .gln, .silo, .aon, .sup, .task, .fio, .saf, .can, .eth, .pass] sleepTick := .of fun s => by
  unfold sleepTick; split <;> simp

theorem execWakePowerUp_goes (s : State) : Goes everyPart s (execWakePowerUp s) := by simp [execWakePowerUp]

/-! ### Start-up -/

@[simp] theorem passTo_keeps (n : Nat) : Keeps [.clk, .rtc] (passTo n) := .of fun s => by simp [passTo]

@[simp] theorem siloFormat_keeps : Keeps [.gln, .silo, .saf, .flash] siloFormat := .of fun s => by simp [siloFormat]

@[simp] theorem siloCheck_keeps : Keeps [.evt, .gln, .silo, .saf, .flash] siloCheck := .of fun s => by simp [siloCheck]

@[simp] theorem journalRecover_keeps (e : Journal) : Keeps [.evt, .gln, .flash] (journalRecover e) := .of fun s => by simp [journalRecover]

@[simp] theorem journalRecovery_keeps : Keeps [.evt, .gln, .silo, .flash] journalRecovery := .of fun s => by
  simp [journalRecovery,  -List.foldl_reverse, -List.filter_reverse]

@[simp] theorem bootSelect_keeps : Keeps [.flash] bootSelect := .of fun s => by
  unfold bootSelect; split <;> simp

@[simp] theorem bootBank_keeps : Keeps [.evt, .gln, .silo, .flash] bootBank := .of fun s => by
  unfold bootBank; dsimp only; split <;> simp

@[simp] theorem invalidCopies_keeps : Keeps [.gln] invalidCopies := .of fun s => by simp [invalidCopies]

@[simp] theorem resetRecord_keeps : Keeps [.evt, .gln, .silo, .aon] resetRecord := .of fun s => by simp [resetRecord]

@[simp] theorem wallFromRtc_keeps : Keeps [.clk, .evt, .gln, .silo, .rtc, .task, .img, .tb, .svc, .fio, .can, .eth, .pair, .out] wallFromRtc := .of fun s => by
  simp [wallFromRtc]

@[simp] theorem ringRead_keeps : Keeps [.evt, .gln, .silo] ringRead := .of fun s => by simp [ringRead]

@[simp] theorem holdRead_keeps : Keeps [.evt, .gln, .silo] holdRead := .of fun s => by simp [holdRead]

@[simp] theorem seqRestore_keeps : Keeps [.evt, .gln, .silo] seqRestore := .of fun s => by
  unfold seqRestore; dsimp only; split <;> simp

@[simp] theorem heldEntries_keeps : Keeps [.mb, .evt, .gln, .silo] heldEntries := .of fun s => by simp [heldEntries]

theorem startItem_keeps {ps : List Part} {run : Item → State → Nat × State} (hr : ∀ i s, Frame ps s (run i s).2) (hg : .gln ∈ ps)
    (region index : Nat) (i : Item) (a : State × List Item) : Frame ps a.1 (startItem region index run i a).1 := by
  simp [startItem, hr, hg]

theorem startItems_keeps {ps : List Part} {run : Item → State → Nat × State} (hr : ∀ i s, Frame ps s (run i s).2) (hg : .gln ∈ ps)
    (region index : Nat) (is : List Item) (s : State) : Frame ps s (startItems region index run is s).1 := by
  simp [startItems, startItem_keeps hr hg]

@[simp] theorem startProg_keeps : Keeps [.evt, .gln, .core, .prog, .task] startProg := .of fun s => by
  unfold startProg; dsimp only
  (repeat' split) <;> simp

@[simp] theorem enRecover_keeps (saved : Tab (Option EnOpen)) : Keeps [.gln, .silo] (enRecover saved) := .of fun s => by
  unfold enRecover; extract_lets o u
  have hu : Frame [.gln, .silo] s u := Frame.foldl _ fun s e => by split <;> simp
  simp [hu]

@[simp] theorem startOvls_keeps (set : List Nat) (q : Item → Bool) : Keeps unclocked (startOvls set q) := .of fun s =>
  Frame.foldl _ fun s i => startItems_keeps (by simp) (by simp) ..

@[simp] theorem configure_keeps : Keeps everyPart configure := .of fun s => by
  unfold configure
  extract_lets s1 saved x2 s2 base items set s3 x4 x5 s4 a b s5 x6 s6 x7 s7
  have h2 : Frame everyPart s s2 := by simp [s2, s1]
  clear_value s2
  have h4 : Frame everyPart s s4 := by simp [s4, s3, h2]
  clear_value s4
  have ha : Frame everyPart s a.1 := h4.trans (startItems_keeps (fun i s => by simp) (by simp) ..)
  clear_value a
  have hb : Frame everyPart s b.1 := .trans (t := startProg (startOvls set (fun i => !lateItem i) a.1)) (by simp [ha])
    (startItems_keeps (fun i s => by simp) (by simp) ..)
  clear_value b
  simp [s7, s6, s5, hb]

@[simp] theorem serviceStart_keeps : Keeps [.mb, .gln, .aon] serviceStart := .of fun s => by simp [serviceStart]

@[simp] theorem dispatcherStart_keeps : Keeps [.task] dispatcherStart := .of fun s => by simp [dispatcherStart]

@[simp] theorem wakeReports_keeps : Keeps [.evt, .gln, .aon] wakeReports := .of fun s => by simp [wakeReports]

@[simp] theorem swapReturn_keeps (back : Nat × Nat) : Keeps [.mb, .evt, .gln, .sup, .task, .img, .tb, .ce, .fio, .can, .eth, .pair, .flash, .out] (swapReturn back) := .of fun s => by
  simp [swapReturn]

@[simp] theorem startEnd_keeps : Keeps [.mb, .evt, .gln, .aon, .sup, .core, .task, .img, .tb, .ce, .svc, .fio, .can, .eth, .pair, .flash, .out] startEnd := .of fun s => by
  simp [startEnd]; split <;> simp

@[simp] theorem startUp_keeps : Keeps everyPart startUp := .of fun s => by
  unfold startUp; dsimp only; split <;> simp

theorem execResetRelease_goes (s : State) : Goes everyPart s (execResetRelease s) := by simp [execResetRelease]

/-! ### One nanosecond -/

@[simp] theorem ofsTick_keeps : Keeps [.pair] ofsTick := .of fun s => by simp [ofsTick]

end Sys2Proof.Machine
end

section
/-! SUPPORT. The rows of the command table that the tables of commands and of instructions lead to, and a row of any kind: every row
goes on to a next state and leaves the queue as it was. Obligations O3 and O59. -/

namespace Sys2Proof.Machine

/-! ### Rows of the pair's swap -/

theorem swapRow_goes (op : Nat) (ch : Fin 16) (p : Bytes) (s : State) :
    Goes [.mb, .pair, .out, .mb, .evt, .gln, .silo, .sup, .core, .prog, .task, .img, .tb, .ce, .fio, .can, .eth, .pair, .flash, .ovl, .out] s (swapRow op ch p s) := by
  unfold swapRow; split
  · simp
  · exact runMb_goes (mbPairSwap_keeps op) ch _ p s

/-! ### Rows of KV48 instructions that do more than set a register -/

@[simp] theorem kvFrame_withLane (ps : List Part) (o : Kv) (e : Ex) (s : State) (f : Nat → Ex) : KvFrame ps s (withLane o e s f) := by
  simp [withLane]

@[simp] theorem kvFrame_withField (ps : List Part) (o : Kv) (s : State) (f : Nat → Nat → Ex) : KvFrame ps s (withField o s f) := by
  simp [withField]

theorem kvFrame_ceStartKv (o : Kv) (k : Nat) (e : Ex) (s : State) : KvFrame unclocked s (ceStartKv o k e s) :=
  kvFrame_devObj fun n => by simp

theorem kvFrame_ceStartB (o : Kv) (k : Nat) (e : Ex) (s : State) : KvFrame unclocked s (ceStartB o k e s) := by
  unfold ceStartB; extract_lets n
  split
  · simp
  · simp only [kvFrame_ite]
    exact ⟨fun _ => kvFrame_ceStartKv o k e s, fun _ => .after (by simp) (kvFrame_ceStartKv o k e _)⟩

/-- What issuing an instruction may change by itself. -/
abbrev kvParts : List Part := [.mb, .gln, .core, .task, .pair, .out]

theorem execTstb_goes (o : Kv) (s : State) : Goes kvParts s (execTstb o s) :=
  kvRun_goes (fun _ _ _ _ => by simp) (by simp) o s

theorem execShSplat_goes (o : Kv) (s : State) : Goes kvParts s (execShSplat o s) :=
  kvRun_goes (fun _ _ _ _ => by simp) (by simp) o s

theorem execBset_goes (o : Kv) (s : State) : Goes kvParts s (execBset o s) :=
  kvRun_goes (fun _ _ _ _ => by simp) (by simp) o s

theorem execBclr_goes (o : Kv) (s : State) : Goes kvParts s (execBclr o s) :=
  kvRun_goes (fun _ _ _ _ => by simp) (by simp) o s

theorem execBins_goes (o : Kv) (s : State) : Goes kvParts s (execBins o s) :=
  kvRun_goes (fun _ _ _ _ => by simp) (by simp) o s

theorem execExtr_goes (o : Kv) (s : State) : Goes kvParts s (execExtr o s) :=
  kvRun_goes (fun _ _ _ _ => by simp) (by simp) o s

theorem execDep_goes (o : Kv) (s : State) : Goes kvParts s (execDep o s) :=
  kvRun_goes (fun _ _ _ _ => by simp) (by simp) o s

theorem execLd_goes (o : Kv) (s : State) : Goes kvParts s (execLd o s) :=
  kvRun_goes (fun _ _ _ _ => kvFrame_access fun _ => kvFrame_readData (by simp) fun _ _ h => by simp [h]) (by simp) o s

theorem execSt_goes (o : Kv) (s : State) : Goes kvParts s (execSt o s) :=
  kvRun_goes (fun _ _ _ _ => kvFrame_access fun _ => by simp) (by simp) o s

theorem execImld_goes (o : Kv) (s : State) : Goes kvParts s (execImld o s) :=
  kvRun_goes (fun _ _ _ _ => kvFrame_access fun _ => by simp) (by simp) o s

theorem execImst_goes (o : Kv) (s : State) : Goes kvParts s (execImst o s) :=
  kvRun_goes (fun _ _ _ _ => kvFrame_access fun _ => by simp) (by simp) o s

theorem execLdb_goes (o : Kv) (s : State) : Goes kvParts s (execLdb o s) :=
  kvRun_goes (fun _ _ _ _ => kvFrame_bitLane fun _ => kvFrame_access fun _ => kvFrame_readData (by simp) fun _ _ h => by simp [h]) (by simp) o s

theorem execStb_goes (o : Kv) (s : State) : Goes kvParts s (execStb o s) :=
  kvRun_goes (fun _ _ _ _ => kvFrame_bitLane fun _ => kvFrame_access fun _ => kvFrame_readData (by simp) fun _ _ h => by simp [h]) (by simp) o s

theorem execImldb_goes (o : Kv) (s : State) : Goes kvParts s (execImldb o s) :=
  kvRun_goes (fun _ _ _ _ => kvFrame_bitLane fun _ => kvFrame_access fun _ => by simp) (by simp) o s

theorem execImstb_goes (o : Kv) (s : State) : Goes kvParts s (execImstb o s) :=
  kvRun_goes (fun _ _ _ _ => kvFrame_bitLane fun _ => kvFrame_access fun _ => by simp) (by simp) o s

theorem execTend_goes (o : Kv) (s : State) : Goes kvParts s (execTend o s) :=
  kvRun_goes (fun _ _ _ _ => kvFrame_ctl (by simp)) (by simp) o s

theorem execLoop_goes (o : Kv) (s : State) : Goes kvParts s (execLoop o s) :=
  kvRun_goes (fun _ _ _ _ => kvFrame_ctl (by simp)) (by simp) o s

theorem execRet_goes (o : Kv) (s : State) : Goes kvParts s (execRet o s) :=
  kvRun_goes (fun _ _ _ _ => kvFrame_ctl (by simp)) (by simp) o s

theorem execBr_goes (o : Kv) (s : State) : Goes kvParts s (execBr o s) :=
  kvRun_goes (fun _ _ _ _ => kvFrame_ctl (by simp)) (by simp) o s

theorem execCall_goes (o : Kv) (s : State) : Goes kvParts s (execCall o s) :=
  kvRun_goes (fun _ _ _ _ => kvFrame_ctl (by simp)) (by simp) o s

theorem execMfs_goes (o : Kv) (s : State) : Goes kvParts s (execMfs o s) :=
  kvRun_goes (fun _ _ _ _ => by simp) (by simp) o s

theorem execMts_goes (o : Kv) (s : State) : Goes kvParts s (execMts o s) :=
  kvRun_goes (fun _ _ _ _ => by simp) (by simp) o s

theorem execCeStart_goes (o : Kv) (s : State) : Goes unclocked s (execCeStart o s) :=
  kvRun_goes kvFrame_ceStartB (by simp) o s

theorem execCeRd_goes (o : Kv) (s : State) : Goes (.ce :: kvParts) s (execCeRd o s) :=
  kvRun_goes (fun _ _ _ _ => kvFrame_devObj fun _ => by simp) (by simp) o s

theorem execSchArm_goes (o : Kv) (s : State) : Goes ([.evt, .img, .tb, .slot, .fio, .can, .eth] ++ kvParts) s (execSchArm o s) :=
  kvRun_goes (fun _ _ _ _ => kvFrame_devObj fun _ => by simp) (by simp) o s

theorem execSchCancel_goes (o : Kv) (s : State) : Goes ([.evt, .img, .tb, .slot, .fio, .can, .eth] ++ kvParts) s (execSchCancel o s) :=
  kvRun_goes (fun _ _ _ _ => kvFrame_devObj fun _ => by simp) (by simp) o s

theorem execSchStat_goes (o : Kv) (s : State) : Goes kvParts s (execSchStat o s) :=
  kvRun_goes (fun _ _ _ _ => kvFrame_devObj fun _ => by simp) (by simp) o s

theorem execEvtPost_goes (o : Kv) (s : State) : Goes kvParts s (execEvtPost o s) :=
  kvRun_goes (fun _ _ _ _ => by simp [kvFrame_addPost]) (by simp) o s

theorem execSwev_goes (o : Kv) (s : State) : Goes kvParts s (execSwev o s) :=
  kvRun_goes (fun _ _ _ _ => by simp [kvFrame_addPost]) (by simp) o s

/-! ### Any row, and a step -/

theorem exec_goes (i : Instr) (s : State) : Goes everyPart s (exec i s) :=
  match i with
  | .refclkFail periodPs => (execRefclkFail_goes periodPs s).every
  | .pllLockLoss pll => (execPllLockLoss_goes pll s).every
  | .commitComplete task => (execCommitComplete_goes task s).every
  | .registerWrite reg value => (execRegisterWrite_goes reg value s).every
  | .mbEvtAlloc ch p => (runMb_goes mbEvtAlloc_keeps ch _ p s).every
  | .mbEvtEnable ch p => (runMb_goes mbEvtEnable_keeps ch _ p s).every
  | .mbEvtClear ch p => (runMb_goes mbEvtClear_keeps ch _ p s).every
  | .mbEvtGet ch p => (runMb_goes mbEvtGet_keeps ch _ p s).every
  | .spiWriteFrame f => (execSpiWriteFrame_goes f s).every
  | .spiReadFrame f => (execSpiReadFrame_goes f s).every
  | .spiPollFrame f => (execSpiPollFrame_goes f s).every
  | .spiLinkReset f => (execSpiLinkReset_goes f s).every
  | .mailboxRequestCheck => (execMailboxRequestCheck_goes s).every
  | .udpMailboxDatagram mac ip port data => (execUdpMailboxDatagram_goes mac ip port data s).every
  | .commandExecutionEnd ch => (execCommandExecutionEnd_goes ch s).every
  | .mbSessionOpen ch p => (runMb_goes mbSessionOpen_keeps ch _ p s).every
  | .mbSessionClose ch p => (runMb_goes mbSessionClose_keeps ch _ p s).every
  | .mbNop ch p => (runMb_goes mbNop_keeps ch _ p s).every
  | .mbAckAttn ch p => (runMb_goes mbAckAttn_keeps ch _ p s).every
  | .mbDeviceInfo ch p => (runMb_goes mbDeviceInfo_keeps ch _ p s).every
  | .mbChanBind ch p => (runMb_goes mbChanBind_keeps ch _ p s).every
  | .mbKeySet ch p => (runMb_goes mbKeySet_keeps ch _ p s).every
  | .mbChanStats ch p => (runMb_goes mbChanStats_keeps ch _ p s).every
  | .add o => kvRun_goes (ps := everyPart) (kvFrame_pureKv _ _) (by simp) o s
  | .sub o => kvRun_goes (ps := everyPart) (kvFrame_pureKv _ _) (by simp) o s
  | .adds o => kvRun_goes (ps := everyPart) (kvFrame_pureKv _ _) (by simp) o s
  | .addsu o => kvRun_goes (ps := everyPart) (kvFrame_pureKv _ _) (by simp) o s
  | .subs o => kvRun_goes (ps := everyPart) (kvFrame_pureKv _ _) (by simp) o s
  | .subsu o => kvRun_goes (ps := everyPart) (kvFrame_pureKv _ _) (by simp) o s
  | .mul o => kvRun_goes (ps := everyPart) (kvFrame_pureKv _ _) (by simp) o s
  | .muls o => kvRun_goes (ps := everyPart) (kvFrame_pureKv _ _) (by simp) o s
  | .mulq o => kvRun_goes (ps := everyPart) (kvFrame_pureKv _ _) (by simp) o s
  | .mulh o => kvRun_goes (ps := everyPart) (kvFrame_pureKv _ _) (by simp) o s
  | .negs o => kvRun_goes (ps := everyPart) (kvFrame_pureKv _ _) (by simp) o s
  | .abss o => kvRun_goes (ps := everyPart) (kvFrame_pureKv _ _) (by simp) o s
  | .min o => kvRun_goes (ps := everyPart) (kvFrame_pureKv _ _) (by simp) o s
  | .minu o => kvRun_goes (ps := everyPart) (kvFrame_pureKv _ _) (by simp) o s
  | .max o => kvRun_goes (ps := everyPart) (kvFrame_pureKv _ _) (by simp) o s
  | .maxu o => kvRun_goes (ps := everyPart) (kvFrame_pureKv _ _) (by simp) o s
  | .mov o => kvRun_goes (ps := everyPart) (kvFrame_pureKv _ _) (by simp) o s
  | .shl o => kvRun_goes (ps := everyPart) (kvFrame_pureKv _ _) (by simp) o s
  | .shr o => kvRun_goes (ps := everyPart) (kvFrame_pureKv _ _) (by simp) o s
  | .sar o => kvRun_goes (ps := everyPart) (kvFrame_pureKv _ _) (by simp) o s
  | .rol o => kvRun_goes (ps := everyPart) (kvFrame_pureKv _ _) (by simp) o s
  | .addi o => kvRun_goes (ps := everyPart) (kvFrame_pureKv _ _) (by simp) o s
  | .addsi o => kvRun_goes (ps := everyPart) (kvFrame_pureKv _ _) (by simp) o s
  | .andi o => kvRun_goes (ps := everyPart) (kvFrame_pureKv _ _) (by simp) o s
  | .ori o => kvRun_goes (ps := everyPart) (kvFrame_pureKv _ _) (by simp) o s
  | .xori o => kvRun_goes (ps := everyPart) (kvFrame_pureKv _ _) (by simp) o s
  | .movi o => kvRun_goes (ps := everyPart) (kvFrame_pureKv _ _) (by simp) o s
  | .shli o => kvRun_goes (ps := everyPart) (kvFrame_pureKv _ _) (by simp) o s
  | .shri o => kvRun_goes (ps := everyPart) (kvFrame_pureKv _ _) (by simp) o s
  | .sari o => kvRun_goes (ps := everyPart) (kvFrame_pureKv _ _) (by simp) o s
  | .roli o => kvRun_goes (ps := everyPart) (kvFrame_pureKv _ _) (by simp) o s
  | .lk0 o => kvRun_goes (ps := everyPart) (kvFrame_pureKv _ _) (by simp) o s
  | .lk1 o => kvRun_goes (ps := everyPart) (kvFrame_pureKv _ _) (by simp) o s
  | .lk2 o => kvRun_goes (ps := everyPart) (kvFrame_pureKv _ _) (by simp) o s
  | .lk3 o => kvRun_goes (ps := everyPart) (kvFrame_pureKv _ _) (by simp) o s
  | .cmpeq o => kvRun_goes (ps := everyPart) (kvFrame_pureKv _ _) (by simp) o s
  | .cmpne o => kvRun_goes (ps := everyPart) (kvFrame_pureKv _ _) (by simp) o s
  | .cmplt o => kvRun_goes (ps := everyPart) (kvFrame_pureKv _ _) (by simp) o s
  | .cmpltu o => kvRun_goes (ps := everyPart) (kvFrame_pureKv _ _) (by simp) o s
  | .cmple o => kvRun_goes (ps := everyPart) (kvFrame_pureKv _ _) (by simp) o s
  | .cmpleu o => kvRun_goes (ps := everyPart) (kvFrame_pureKv _ _) (by simp) o s
  | .cmpeqi o => kvRun_goes (ps := everyPart) (kvFrame_pureKv _ _) (by simp) o s
  | .cmpnei o => kvRun_goes (ps := everyPart) (kvFrame_pureKv _ _) (by simp) o s
  | .cmplti o => kvRun_goes (ps := everyPart) (kvFrame_pureKv _ _) (by simp) o s
  | .cmpltiu o => kvRun_goes (ps := everyPart) (kvFrame_pureKv _ _) (by simp) o s
  | .cmpgti o => kvRun_goes (ps := everyPart) (kvFrame_pureKv _ _) (by simp) o s
  | .cmpgtiu o => kvRun_goes (ps := everyPart) (kvFrame_pureKv _ _) (by simp) o s
  | .tstnz o => kvRun_goes (ps := everyPart) (kvFrame_pureKv _ _) (by simp) o s
  | .tstb o => (execTstb_goes o s).every
  | .pand o => kvRun_goes (ps := everyPart) (kvFrame_pureKv _ _) (by simp) o s
  | .por o => kvRun_goes (ps := everyPart) (kvFrame_pureKv _ _) (by simp) o s
  | .pxor o => kvRun_goes (ps := everyPart) (kvFrame_pureKv _ _) (by simp) o s
  | .pandn o => kvRun_goes (ps := everyPart) (kvFrame_pureKv _ _) (by simp) o s
  | .prd o => kvRun_goes (ps := everyPart) (kvFrame_pureKv _ _) (by simp) o s
  | .pwr o => kvRun_goes (ps := everyPart) (kvFrame_pureKv _ _) (by simp) o s
  | .and o => kvRun_goes (ps := everyPart) (kvFrame_pureKv _ _) (by simp) o s
  | .or o => kvRun_goes (ps := everyPart) (kvFrame_pureKv _ _) (by simp) o s
  | .xor o => kvRun_goes (ps := everyPart) (kvFrame_pureKv _ _) (by simp) o s
  | .andn o => kvRun_goes (ps := everyPart) (kvFrame_pureKv _ _) (by simp) o s
  | .not o => kvRun_goes (ps := everyPart) (kvFrame_pureKv _ _) (by simp) o s
  | .edge o => kvRun_goes (ps := everyPart) (kvFrame_pureKv _ _) (by simp) o s
  | .edgef o => kvRun_goes (ps := everyPart) (kvFrame_pureKv _ _) (by simp) o s
  | .edgea o => kvRun_goes (ps := everyPart) (kvFrame_pureKv _ _) (by simp) o s
  | .latch o => kvRun_goes (ps := everyPart) (kvFrame_pureKv _ _) (by simp) o s
  | .latchs o => kvRun_goes (ps := everyPart) (kvFrame_pureKv _ _) (by simp) o s
  | .shSplat o => (execShSplat_goes o s).every
  | .shMerge o => kvRun_goes (ps := everyPart) (kvFrame_pureKv _ _) (by simp) o s
  | .shAny o => kvRun_goes (ps := everyPart) (kvFrame_pureKv _ _) (by simp) o s
  | .shAll o => kvRun_goes (ps := everyPart) (kvFrame_pureKv _ _) (by simp) o s
  | .shNone o => kvRun_goes (ps := everyPart) (kvFrame_pureKv _ _) (by simp) o s
  | .bset o => (execBset_goes o s).every
  | .bclr o => (execBclr_goes o s).every
  | .bins o => (execBins_goes o s).every
  | .popc o => kvRun_goes (ps := everyPart) (kvFrame_pureKv _ _) (by simp) o s
  | .clz o => kvRun_goes (ps := everyPart) (kvFrame_pureKv _ _) (by simp) o s
  | .ffs o => kvRun_goes (ps := everyPart) (kvFrame_pureKv _ _) (by simp) o s
  | .extr o => (execExtr_goes o s).every
  | .dep o => (execDep_goes o s).every
  | .ld o => (execLd_goes o s).every
  | .st o => (execSt_goes o s).every
  | .imld o => (execImld_goes o s).every
  | .imst o => (execImst_goes o s).every
  | .ldb o => (execLdb_goes o s).every
  | .stb o => (execStb_goes o s).every
  | .imldb o => (execImldb_goes o s).every
  | .imstb o => (execImstb_goes o s).every
  | .nop o => kvRun_goes (ps := everyPart) (kvFrame_pureKv _ _) (by simp) o s
  | .tend o => (execTend_goes o s).every
  | .loop o => (execLoop_goes o s).every
  | .ret o => (execRet_goes o s).every
  | .br o => (execBr_goes o s).every
  | .call o => (execCall_goes o s).every
  | .mfs o => (execMfs_goes o s).every
  | .mts o => (execMts_goes o s).every
  | .ceStart o => (execCeStart_goes o s).every
  | .ceRd o => (execCeRd_goes o s).every
  | .schArm o => (execSchArm_goes o s).every
  | .schCancel o => (execSchCancel_goes o s).every
  | .schStat o => (execSchStat_goes o s).every
  | .evtPost o => (execEvtPost_goes o s).every
  | .swev o => (execSwev_goes o s).every
  | .budgetExceeded core => (execBudgetExceeded_goes core s).every
  | .deadlineOverrun task => (execDeadlineOverrun_goes task s).every
  | .cyclicRelease task => (execCyclicRelease_goes task s).every
  | .eventTaskRelease task => (execEventTaskRelease_goes task s).every
  | .positionIntervalRelease task => (execPositionIntervalRelease_goes task s).every
  | .supplyCycleRelease task => (execSupplyCycleRelease_goes task s).every
  | .modeTransitionInForce scope => (execModeTransitionInForce_goes scope s).every
  | .mbModeSet ch p => (runMb_goes mbModeSet_keeps ch _ p s).every
  | .mbTenantModeSet ch p => (runMb_goes mbTenantModeSet_keeps ch _ p s).every
  | .mbTaskGet ch p => (runMb_goes mbTaskGet_keeps ch _ p s).every
  | .mbTaskSet ch p => (runMb_goes mbTaskSet_keeps ch _ p s).every
  | .mbTaskStats ch p => (runMb_goes mbTaskStats_keeps ch _ p s).every
  | .mbTenantSchedSet ch p => (runMb_goes mbTenantSchedSet_keeps ch _ p s).every
  | .mbRetainSet ch p => (runMb_goes mbRetainSet_keeps ch _ p s).every
  | .mbForceSet ch p => (runMb_goes mbForceSet_keeps ch _ p s).every
  | .mbForceClear ch p => (runMb_goes mbForceClear_keeps ch _ p s).every
  | .mbForceList ch p => (runMb_goes mbForceList_keeps ch _ p s).every
  | .forceTimeout word => (execForceTimeout_goes word s).every
  | .mbValueWrite ch p => (runMb_goes mbValueWrite_keeps ch _ p s).every
  | .mbValueRead ch p => (runMb_goes mbValueRead_keeps ch _ p s).every
  | .valueWriteApply ch => (execValueWriteApply_goes ch s).every
  | .retainSnapshotDue tenant => (execRetainSnapshotDue_goes tenant s).every
  | .retainSnapshotNoAnchor tenant => (execRetainSnapshotNoAnchor_goes tenant s).every
  | .retainSnapshotWritten tenant => (execRetainSnapshotWritten_goes tenant s).every
  | .mbImageRead ch p => (runMb_goes mbImageRead_keeps ch _ p s).every
  | .mbImageWrite ch p => (runMb_goes mbImageWrite_keeps ch _ p s).every
  | .mbPlotGet ch p => (runMb_goes mbPlotGet_keeps ch _ p s).every
  | .mbPlotAssign ch p => (runMb_goes mbPlotAssign_keeps ch _ p s).every
  | .mbPlotRelease ch p => (runMb_goes mbPlotRelease_keeps ch _ p s).every
  | .mbPlotShare ch p => (runMb_goes mbPlotShare_keeps ch _ p s).every
  | .mbPlotPubSet ch p => (runMb_goes mbPlotPubSet_keeps ch _ p s).every
  | .mbRioSet ch p => (runMb_goes mbRioSet_keeps ch _ p s).every
  | .mbRioGet ch p => (runMb_goes mbRioGet_keeps ch _ p s).every
  | .mbTenantAccept ch p => (runMb_goes mbTenantAccept_keeps ch _ p s).every
  | .remoteSetReceived m seq mstat words => (execRemoteSetReceived_goes m seq mstat words s).every
  | .remoteModuleTimeout m => (execRemoteModuleTimeout_goes m s).every
  | .remoteOutputPeriodic m => (execRemoteOutputPeriodic_goes m s).every
  | .plotStale plot => (execPlotStale_goes plot s).every
  | .positionTick => (execPositionTick_goes s).every
  | .toothEdge tw reverse => (execToothEdge_goes tw reverse s).every
  | .toothWindowClose tw => (execToothWindowClose_goes tw s).every
  | .axleStillTimeout tw => (execAxleStillTimeout_goes tw s).every
  | .axleReadmit tw => (execAxleReadmit_goes tw s).every
  | .coastTimeout => (execCoastTimeout_goes s).every
  | .mainsZeroCrossing mains freqMHz phase phaseErr => (execMainsZeroCrossing_goes mains freqMHz phase phaseErr s).every
  | .mainsCrossingTimeout mains => (execMainsCrossingTimeout_goes mains s).every
  | .mainsHoldoverExpiry mains => (execMainsHoldoverExpiry_goes mains s).every
  | .mainsDcDetect mains => (execMainsDcDetect_goes mains s).every
  | .slotFire slot => (execSlotFire_goes slot s).every
  | .pulseEnd slot => (execPulseEnd_goes slot s).every
  | .mbTbGet ch p => (runMb_goes mbTbGet_keeps ch _ p s).every
  | .mbTbDiag ch p => (runMb_goes mbTbDiag_keeps ch _ p s).every
  | .mbLpSet ch p => (runMb_goes mbLpSet_keeps ch _ p s).every
  | .mbMainsSet ch p => (runMb_goes mbMainsSet_keeps ch _ p s).every
  | .mbPosFix ch p => (runMb_goes mbPosFix_keeps ch _ p s).every
  | .mbWallSet ch p => (runMb_goes mbWallSet_keeps ch _ p s).every
  | .mbSchAlloc ch p => (runMb_goes mbSchAlloc_keeps ch _ p s).every
  | .mbSchSet ch p => (runMb_goes mbSchSet_keeps ch _ p s).every
  | .mbSchArm ch p => (runMb_goes mbSchArm_keeps ch _ p s).every
  | .mbSchCancel ch p => (runMb_goes mbSchCancel_keeps ch _ p s).every
  | .mbSchGet ch p => (runMb_goes mbSchGet_keeps ch _ p s).every
  | .ceRateTrigger loop => (execCeRateTrigger_goes loop s).every
  | .ceSupangTrigger loop => (execCeSupangTrigger_goes loop s).every
  | .ceSampleComplete loop => (execCeSampleComplete_goes loop s).every
  | .mbCeAlloc ch p => (runMb_goes mbCeAlloc_keeps ch _ p s).every
  | .mbCeSet ch p => (runMb_goes mbCeSet_keeps ch _ p s).every
  | .mbCeCoefSet ch p => (runMb_goes mbCeCoefSet_keeps ch _ p s).every
  | .mbCeCoefCommit ch p => (runMb_goes mbCeCoefCommit_keeps ch _ p s).every
  | .mbCeGet ch p => (runMb_goes mbCeGet_keeps ch _ p s).every
  | .mbCeStateSet ch p => (runMb_goes mbCeStateSet_keeps ch _ p s).every
  | .mbCeFlagsClear ch p => (runMb_goes mbCeFlagsClear_keeps ch _ p s).every
  | .mbCeInjStart ch p => (runMb_goes mbCeInjStart_keeps ch _ p s).every
  | .mbCeInjStop ch p => (runMb_goes mbCeInjStop_keeps ch _ p s).every
  | .mbCeCapRead ch p => (runMb_goes mbCeCapRead_keeps ch _ p s).every
  | .mbCeLoad ch p => (runMb_goes mbCeLoad_keeps ch _ p s).every
  | .wpgEvaluate w => (execWpgEvaluate_goes w s).every
  | .alarmEvaluate => (execAlarmEvaluate_goes s).every
  | .shelveEnd a => (execShelveEnd_goes a s).every
  | .trendSample c => (execTrendSample_goes c s).every
  | .trendChangeCheck c => (execTrendChangeCheck_goes c s).every
  | .meterSample => (execMeterSample_goes s).every
  | .energyIntervalClose m => (execEnergyIntervalClose_goes m s).every
  | .energyAccumSave => (execEnergyAccumSave_goes s).every
  | .accessDecision p => (execAccessDecision_goes p s).every
  | .accessPulseEnd p deny => (execAccessPulseEnd_goes p deny s).every
  | .mbSvcQuotaSet ch p => (runMb_goes mbSvcQuotaSet_keeps ch _ p s).every
  | .mbSvcList ch p => (runMb_goes mbSvcList_keeps ch _ p s).every
  | .mbLocalSet ch p => (runMb_goes mbLocalSet_keeps ch _ p s).every
  | .mbCalSet ch p => (runMb_goes mbCalSet_keeps ch _ p s).every
  | .mbWpgSet ch p => (runMb_goes mbWpgSet_keeps ch _ p s).every
  | .mbWpgGet ch p => (runMb_goes mbWpgGet_keeps ch _ p s).every
  | .mbAlmSet ch p => (runMb_goes mbAlmSet_keeps ch _ p s).every
  | .mbAlmList ch p => (runMb_goes mbAlmList_keeps ch _ p s).every
  | .mbAlmAck ch p => (runMb_goes mbAlmAck_keeps ch _ p s).every
  | .mbAlmShelve ch p => (runMb_goes mbAlmShelve_keeps ch _ p s).every
  | .mbTrdSet ch p => (runMb_goes mbTrdSet_keeps ch _ p s).every
  | .mbTrdRead ch p => (runMb_goes mbTrdRead_keeps ch _ p s).every
  | .mbEnSet ch p => (runMb_goes mbEnSet_keeps ch _ p s).every
  | .mbEnRead ch p => (runMb_goes mbEnRead_keeps ch _ p s).every
  | .mbEnSysSet ch p => (runMb_goes mbEnSysSet_keeps ch _ p s).every
  | .mbEnTotals ch p => (runMb_goes mbEnTotals_keeps ch _ p s).every
  | .mbAccSet ch p => (runMb_goes mbAccSet_keeps ch _ p s).every
  | .mbAccListPut ch p => (runMb_goes mbAccListPut_keeps ch _ p s).every
  | .mbAccListDel ch p => (runMb_goes mbAccListDel_keeps ch _ p s).every
  | .fioOutputFrame die => (execFioOutputFrame_goes die s).every
  | .dieFrameReceived die crcOk => (execDieFrameReceived_goes die crcOk s).every
  | .fioInputReport u => (execFioInputReport_goes u s).every
  | .dieReportTimeout die => (execDieReportTimeout_goes die s).every
  | .silenceExpiry die => (execSilenceExpiry_goes die s).every
  | .fieldSupplyUv supply low => (execFieldSupplyUv_goes supply low s).every
  | .inputFilterAccept n v => (execInputFilterAccept_goes n v s).every
  | .wireBreakChange n broken => (execWireBreakChange_goes n broken s).every
  | .outputOverload n therm => (execOutputOverload_goes n therm s).every
  | .outputRetry n ok => (execOutputRetry_goes n ok s).every
  | .openLoadDetect n isOpen => (execOpenLoadDetect_goes n isOpen s).every
  | .peakPhaseEnd n => (execPeakPhaseEnd_goes n s).every
  | .groupOverloadTrip g => (execGroupOverloadTrip_goes g s).every
  | .groupRetry g => (execGroupRetry_goes g s).every
  | .aiSample n raw => (execAiSample_goes n raw s).every
  | .aoLoopFault n kind set measured => (execAoLoopFault_goes n kind set measured s).every
  | .twSensorFault n fault => (execTwSensorFault_goes n fault s).every
  | .mainsOverRange mains => (execMainsOverRange_goes mains s).every
  | .mbFioMapSet ch p => (runMb_goes mbFioMapSet_keeps ch _ p s).every
  | .mbFcSet ch p => (runMb_goes mbFcSet_keeps ch _ p s).every
  | .mbFcGrpSet ch p => (runMb_goes mbFcGrpSet_keeps ch _ p s).every
  | .mbFioSilSet ch p => (runMb_goes mbFioSilSet_keeps ch _ p s).every
  | .mbAiSet ch p => (runMb_goes mbAiSet_keeps ch _ p s).every
  | .mbAoSet ch p => (runMb_goes mbAoSet_keeps ch _ p s).every
  | .mbTwElecSet ch p => (runMb_goes mbTwElecSet_keeps ch _ p s).every
  | .mbFioStat ch p => (runMb_goes mbFioStat_keeps ch _ p s).every
  | .mbFioClear ch p => (runMb_goes mbFioClear_keeps ch _ p s).every
  | .sfcEvaluation rb => (execSfcEvaluation_goes rb s).every
  | .hwPathEvaluation rb => (execHwPathEvaluation_goes rb s).every
  | .safetyInputAccept path j high => (execSafetyInputAccept_goes path j high s).every
  | .testPulse path k readLow overload => (execTestPulse_goes path k readLow overload s).every
  | .guardDtDiscrepancy path inst => (execGuardDtDiscrepancy_goes path inst s).every
  | .doorLoopSettle path inst => (execDoorLoopSettle_goes path inst s).every
  | .doorLoopDisagree path inst => (execDoorLoopDisagree_goes path inst s).every
  | .maxHoldExpiry path inst => (execMaxHoldExpiry_goes path inst s).every
  | .standstillDeclare path inst => (execStandstillDeclare_goes path inst s).every
  | .safetySensorTimeout path inst => (execSafetySensorTimeout_goes path inst s).every
  | .axleDisagreement path inst axle => (execAxleDisagreement_goes path inst axle s).every
  | .soSwitchTest path k pass => (execSoSwitchTest_goes path k pass s).every
  | .crossMonFrame path f => (execCrossMonFrame_goes path f s).every
  | .crossMonTimeout path => (execCrossMonTimeout_goes path s).every
  | .sfcSelfTest pass => (execSfcSelfTest_goes pass s).every
  | .gateDriveStop path k => (execGateDriveStop_goes path k s).every
  | .safetyStartSequence testsPass pathsAgree => (execSafetyStartSequence_goes testsPass pathsAgree s).every
  | .sfStatusWordUpdate => (execSfStatusWordUpdate_goes s).every
  | .lockoutExpiry => (execLockoutExpiry_goes s).every
  | .mbSafetyStatus ch p => (runMb_goes mbSafetyStatus_keeps ch _ p s).every
  | .mbSafetySecure ch p => (runMb_goes mbSafetySecure_keeps ch _ p s).every
  | .mbSafetyLoad ch p => (runMb_goes mbSafetyLoad_keeps ch _ p s).every
  | .mbSafetyConfirm ch p => (runMb_goes mbSafetyConfirm_keeps ch _ p s).every
  | .mbSafetyRestart ch p => (runMb_goes mbSafetyRestart_keeps ch _ p s).every
  | .mbSafetyPassword ch p => (runMb_goes mbSafetyPassword_keeps ch _ p s).every
  | .mbSafetyRead ch p => (runMb_goes mbSafetyRead_keeps ch _ p s).every
  | .mbSafetyLogRead ch p => (runMb_goes mbSafetyLogRead_keeps ch _ p s).every
  | .canFrameReceived n r sofAgo => (execCanFrameReceived_goes n r sofAgo s).every
  | .canTxStart n => (execCanTxStart_goes n s).every
  | .canTxAttemptEnd n e loopDelay => (execCanTxAttemptEnd_goes n e loopDelay s).every
  | .canTxStarved n b => (execCanTxStarved_goes n b s).every
  | .canBoffRecovery n => (execCanBoffRecovery_goes n s).every
  | .canBusRejoin n => (execCanBusRejoin_goes n s).every
  | .canConfigApply n => (execCanConfigApply_goes n s).every
  | .canWakePattern n => (execCanWakePattern_goes n s).every
  | .canWakeFrame n r => (execCanWakeFrame_goes n r s).every
  | .mbCanSet ch p => (runMb_goes mbCanSet_keeps ch _ p s).every
  | .mbCanQueueSet ch p => (runMb_goes mbCanQueueSet_keeps ch _ p s).every
  | .mbCanFilterSet ch p => (runMb_goes mbCanFilterSet_keeps ch _ p s).every
  | .mbCanTx ch p => (runMb_goes mbCanTx_keeps ch _ p s).every
  | .mbCanTxCancel ch p => (runMb_goes mbCanTxCancel_keeps ch _ p s).every
  | .mbCanTxResults ch p => (runMb_goes mbCanTxResults_keeps ch _ p s).every
  | .mbCanRxRead ch p => (runMb_goes mbCanRxRead_keeps ch _ p s).every
  | .mbCanStat ch p => (runMb_goes mbCanStat_keeps ch _ p s).every
  | .mbCanRecover ch p => (runMb_goes mbCanRecover_keeps ch _ p s).every
  | .mbCanWakeSet ch p => (runMb_goes mbCanWakeSet_keeps ch _ p s).every
  | .ethFrameReceived mac f => (execEthFrameReceived_goes mac f s).every
  | .ethLinkChange mac up mbps => (execEthLinkChange_goes mac up mbps s).every
  | .arpRetry mac ip => (execArpRetry_goes mac ip s).every
  | .arpEntryAge mac ip => (execArpEntryAge_goes mac ip s).every
  | .reassemblyTimeout mac src ident => (execReassemblyTimeout_goes mac src ident s).every
  | .trdpTelegramReceived mac t => (execTrdpTelegramReceived_goes mac t s).every
  | .trdpPublish k => (execTrdpPublish_goes k s).every
  | .trdpSubTimeout k => (execTrdpSubTimeout_goes k s).every
  | .ptpMessage m => (execPtpMessage_goes m s).every
  | .ptpSyncTimeout => (execPtpSyncTimeout_goes s).every
  | .mbEthSet ch p => (runMb_goes mbEthSet_keeps ch _ p s).every
  | .mbEthPortSet ch p => (runMb_goes mbEthPortSet_keeps ch _ p s).every
  | .mbEthStat ch p => (runMb_goes mbEthStat_keeps ch _ p s).every
  | .mbTrdpSet ch p => (runMb_goes mbTrdpSet_keeps ch _ p s).every
  | .mbTrdpGet ch p => (runMb_goes mbTrdpGet_keeps ch _ p s).every
  | .mbTrdpTopoSet ch p => (runMb_goes mbTrdpTopoSet_keeps ch _ p s).every
  | .mbRioIpSet ch p => (runMb_goes mbRioIpSet_keeps ch _ p s).every
  | .mbPtpSet ch p => (runMb_goes mbPtpSet_keeps ch _ p s).every
  | .mbPtpStat ch p => (runMb_goes mbPtpStat_keeps ch _ p s).every
  | .passPortChange port up => (execPassPortChange_goes port up s).every
  | .passEchoComplete port d => (execPassEchoComplete_goes port d s).every
  | .passFrameReceived port f => (execPassFrameReceived_goes port f s).every
  | .passForward port => (execPassForward_goes port s).every
  | .passResendTimer port => (execPassResendTimer_goes port s).every
  | .passResendReceived port lseq => (execPassResendReceived_goes port lseq s).every
  | .passIdleSend port => (execPassIdleSend_goes port s).every
  | .inaugSend => (execInaugSend_goes s).every
  | .inaugComplete => (execInaugComplete_goes s).every
  | .markerSend => (execMarkerSend_goes s).every
  | .publishSlot => (execPublishSlot_goes s).every
  | .pubTimeout origin group => (execPubTimeout_goes origin group s).every
  | .chainChangeApply => (execChainChangeApply_goes s).every
  | .mbPassSet ch p => (runMb_goes mbPassSet_keeps ch _ p s).every
  | .mbPassStat ch p => (runMb_goes mbPassStat_keeps ch _ p s).every
  | .mbPassMembers ch p => (runMb_goes mbPassMembers_keeps ch _ p s).every
  | .mbPassBudget ch p => (runMb_goes mbPassBudget_keeps ch _ p s).every
  | .mbPassInaug ch p => (runMb_goes mbPassInaug_keeps ch _ p s).every
  | .volleySend => (execVolleySend_goes s).every
  | .volleyReceived v => (execVolleyReceived_goes v s).every
  | .syncPathSilent => (execSyncPathSilent_goes s).every
  | .alivePathSilent => (execAlivePathSilent_goes s).every
  | .srvInChange high => (execSrvInChange_goes high s).every
  | .servePathMismatch => (execServePathMismatch_goes s).every
  | .pairRecordReceived num crcOk r => (execPairRecordReceived_goes num crcOk r s).every
  | .recordAckTimeout => (execRecordAckTimeout_goes s).every
  | .replayRelease => (execReplayRelease_goes s).every
  | .pairStartTimeout => (execPairStartTimeout_goes s).every
  | .pairBeaconSend => (execPairBeaconSend_goes s).every
  | .pairBeaconReceived b => (execPairBeaconReceived_goes b s).every
  | .resyncRound r => (execResyncRound_goes r s).every
  | .resyncTimeout => (execResyncTimeout_goes s).every
  | .serveGateLoss die => (execServeGateLoss_goes die s).every
  | .handoverReady => (execHandoverReady_goes s).every
  | .mbPairSet ch p => (runMb_goes mbPairSet_keeps ch _ p s).every
  | .mbPairStat ch p => (runMb_goes mbPairStat_keeps ch _ p s).every
  | .mbPairResync ch p => (runMb_goes mbPairResync_keeps ch _ p s).every
  | .mbPairSwitch ch p => (runMb_goes mbPairSwitch_keeps ch _ p s).every
  | .mbPairSwapBegin ch p => (swapRow_goes _ ch p s).every
  | .mbPairSwapPreview ch p => (swapRow_goes _ ch p s).every
  | .mbPairSwapCommit ch p => (swapRow_goes _ ch p s).every
  | .mbPairSwapAbort ch p => (swapRow_goes _ ch p s).every
  | .mbOvlCreate ch p => (runMb_goes mbOvlCreate_keeps ch _ p s).every
  | .mbOvlDelete ch p => (runMb_goes mbOvlDelete_keeps ch _ p s).every
  | .mbOvlRequest ch p => (runMb_goes mbOvlRequest_keeps ch _ p s).every
  | .overlayTransitionTimeout => (execOverlayTransitionTimeout_goes s).every
  | .mbOvlStatus ch p => (runMb_goes mbOvlStatus_keeps ch _ p s).every
  | .mbOvlList ch p => (runMb_goes mbOvlList_keeps ch _ p s).every
  | .mbStoreBegin ch p => (runMb_goes mbStoreBegin_keeps ch _ p s).every
  | .mbStoreData ch p => (runMb_goes mbStoreData_keeps ch _ p s).every
  | .mbStoreEnd ch p => (runMb_goes mbStoreEnd_keeps ch _ p s).every
  | .flashBlockDone eraseOk verifyOk => (execFlashBlockDone_goes eraseOk verifyOk s).every
  | .stagingTimeout => (execStagingTimeout_goes s).every
  | .mbBankActivate ch p => (runMb_goes mbBankActivate_keeps ch _ p s).every
  | .bankActivationReset => (execBankActivationReset_goes s).every
  | .mbBankConfirm ch p => (runMb_goes mbBankConfirm_keeps ch _ p s).every
  | .mbFlashStat ch p => (runMb_goes mbFlashStat_keeps ch _ p s).every
  | .gleanerWrite => (execGleanerWrite_goes s).every
  | .gleanerTokenGain code tenant => (execGleanerTokenGain_goes code tenant s).every
  | .gleanerFreezeExpiry => (execGleanerFreezeExpiry_goes s).every
  | .rtcCalAdd => (execRtcCalAdd_goes s).every
  | .rtcSupplySwitch toVbat => (execRtcSupplySwitch_goes toVbat s).every
  | .oscStopDetect => (execOscStopDetect_goes s).every
  | .rtcSyncCheck => (execRtcSyncCheck_goes s).every
  | .rtcCalDerive driftPp2p20 => (execRtcCalDerive_goes driftPp2p20 s).every
  | .mbRetStat ch p => (runMb_goes mbRetStat_keeps ch _ p s).every
  | .mbRtcGet ch p => (runMb_goes mbRtcGet_keeps ch _ p s).every
  | .mbRtcCapture ch p => (runMb_goes mbRtcCapture_keeps ch _ p s).every
  | .mbRtcCalSet ch p => (runMb_goes mbRtcCalSet_keeps ch _ p s).every
  | .mbGlnRead ch p => (runMb_goes mbGlnRead_keeps ch _ p s).every
  | .mbGlnFreeze ch p => (runMb_goes mbGlnFreeze_keeps ch _ p s).every
  | .mbGlnUnfreeze ch p => (runMb_goes mbGlnUnfreeze_keeps ch _ p s).every
  | .mbGlnClassSet ch p => (runMb_goes mbGlnClassSet_keeps ch _ p s).every
  | .mbGlnStat ch p => (runMb_goes mbGlnStat_keeps ch _ p s).every
  | .railWarning rail below mv => (execRailWarning_goes rail below mv s).every
  | .supplyMonitorReset rail mv => (execSupplyMonitorReset_goes rail mv s).every
  | .safetyDomainReset mv => (execSafetyDomainReset_goes mv s).every
  | .temperatureSample mC => (execTemperatureSample_goes mC s).every
  | .temperatureCritical => (execTemperatureCritical_goes s).every
  | .holdUpBegin => (execHoldUpBegin_goes s).every
  | .holdUpEnd => (execHoldUpEnd_goes s).every
  | .throttleBegin mv => (execThrottleBegin_goes mv s).every
  | .throttleEnd mv => (execThrottleEnd_goes mv s).every
  | .resetNAssert => (execResetNAssert_goes s).every
  | .resetRelease => (execResetRelease_goes s).every
  | .firmwareWatchdogService => (execFirmwareWatchdogService_goes s).every
  | .watchdogWarning => (execWatchdogWarning_goes s).every
  | .watchdogLapse => (execWatchdogLapse_goes s).every
  | .hostResume => (execHostResume_goes s).every
  | .wakeInEvent => (execWakeInEvent_goes s).every
  | .rtcAlarmWake => (execRtcAlarmWake_goes s).every
  | .wakePowerUp => (execWakePowerUp_goes s).every
  | .mbPwrStat ch p => (runMb_goes mbPwrStat_keeps ch _ p s).every
  | .mbResetLog ch p => (runMb_goes mbResetLog_keeps ch _ p s).every
  | .mbWdgFuse ch p => (runMb_goes mbWdgFuse_keeps ch _ p s).every
  | .mbWdgSet ch p => (runMb_goes mbWdgSet_keeps ch _ p s).every
  | .mbWdgStat ch p => (runMb_goes mbWdgStat_keeps ch _ p s).every
  | .mbStartSet ch p => (runMb_goes mbStartSet_keeps ch _ p s).every
  | .mbReset ch p => (runMb_goes mbReset_keeps ch _ p s).every
  | .mbResetTimer => (execMbResetTimer_goes s).every
  | .mbSleep ch p => (runMb_goes mbSleep_keeps ch _ p s).every
  | .mbWakeSet ch p => (runMb_goes mbWakeSet_keeps ch _ p s).every
  | .mbWakeCause ch p => (runMb_goes mbWakeCause_keeps ch _ p s).every
  | .spiBadOpcodeFrame f => (execSpiBadOpcodeFrame_goes f s).every
  | .illegalInstruction core s0 s1 s2 ecc => (execIllegalInstruction_goes core s0 s1 s2 ecc s).every
  | .ptpPortTimer k => (execPtpPortTimer_goes k s).every
  | .alivePathRestored => (execAlivePathRestored_goes s).every
  | .vbatCheck mv => (execVbatCheck_goes mv s).every
  | .uncorrectableMemoryError kind => (execUncorrectableMemoryError_goes kind s).every
  | .safetyDomainPowerUp => (execSafetyDomainPowerUp_goes s).every
  | .resyncRetry => (execResyncRetry_goes s).every

@[simp] theorem tick_keeps : Keeps everyPart tick := .of fun s => by simp [tick]

theorem step_of_front {c : Instr} {rest : List Instr} {s : State} (h : s.pending = c :: rest) :
    step s = exec c { s with pending := rest } := by
  simp [step, h]

theorem step_of_empty {s : State} (h : s.pending = []) : step s = .next (tick s) := by
  simp [step, h]

theorem step_pending (s : State) : Answers (step s) fun t => t.pending = s.pending.tail := by
  cases h : s.pending with
  | nil =>
    have ht : Frame everyPart s (tick s) := by simp
    exact ⟨_, step_of_empty h, ht.1.trans h⟩
  | cons c rest =>
    obtain ⟨t, ht, hf⟩ := exec_goes c { s with pending := rest }
    exact ⟨t, (step_of_front h).trans ht, hf.1⟩

/-- Settles O3: every row keeps the queue that it runs on, and a step runs it on what follows the front command. -/
theorem queueKeepsItsOrder : Obligations.QueueKeepsItsOrder := by
  refine ⟨fun c s => ?_, fun l s t hl hs => ?_, step_pending⟩
  · obtain ⟨t, ht, hf⟩ := exec_goes c s
    exact ⟨t, ht, hf.1⟩
  · obtain ⟨u, hu, hq⟩ := step_pending s
    cases hs.symm.trans hu
    exact hq ▸ hl

/-! ### What a mailbox command leaves as it was -/

/-- A mailbox command's row changes what the command does, and the channel, the pair and the outside. -/
theorem changesOnly_of_runMb {ps : List Part} {i : Fin 16 → Bytes → Instr} {code : Nat} {f : Nat → Nat → Bytes → State → MbR}
    (hi : ∀ ch p s, exec (i ch p) s = runMb ch code f p s) (hf : ∀ t ch p s, MbFrame ps s (f t ch p s)) 
    (hw : Within [.mb, .pair, .out] ps) (ch : Fin 16) (p : Bytes) : ChangesOnly ps (i ch p) :=
  changesOnly_of_goes fun s => by
    rw [hi]
    exact (runMb_goes (fun t ch p => .of (hf t ch p)) ch code p s).mono (by simpa [Within] using hw)

theorem changesOnly_of_swapRow {ps : List Part} {i : Fin 16 → Bytes → Instr} {op : Nat} (hi : ∀ ch p s, exec (i ch p) s = swapRow op ch p s)
    (hps : ps = allBut [.clk, .rtc, .aon, .slot, .svc, .saf, .pass, .free]) (ch : Fin 16) (p : Bytes) : ChangesOnly ps (i ch p) :=
  changesOnly_of_goes fun s => by
    rw [hi]
    exact (swapRow_goes op ch p s).mono (by simp [hps])

/-- Settles O59: each command's row is its frame, with what the channel, the pair and the port record of the command. -/
theorem commandFrames : Obligations.CommandFrames := by
  simp only [Obligations.CommandFrames, List.forall_mem_cons, List.not_mem_nil, false_imp_iff, implies_true, and_true]
  and_intros
  any_goals exact changesOnly_of_runMb (fun _ _ _ => rfl) (fun _ _ _ _ => by simp) (by simp)
  all_goals exact changesOnly_of_swapRow (fun _ _ _ => rfl) rfl

end Sys2Proof.Machine
end

section
/-! SUPPORT. The SPI port without a channel. Obligation O15. -/

namespace Sys2Proof.Machine

/-- The mailbox service runs, and no channel is bound to the SPI port. -/
def portless : State :=
  { State.reset with mb := { State.reset.mb with spi := { State.reset.mb.spi with started := true, view := none } } }

/-- Refutes O15: its first clause does not ask for a channel on the SPI port. On a running device without one (`portless`) a whole
WRITE of 16 zero bytes with the right CRC is discarded with result 9, BAD_CHANNEL (02 R51), and not taken with result 0.
The statement speaks of every state, and asks for a bound channel in its READ and POLL clauses alone. -/
theorem not_spiPortFrames : ¬ Obligations.SpiPortFrames := by
  intro h
  obtain ⟨t, ht, -, taken, -⟩ := h.1 (List.replicate 16 0#8) portless (by decide) (by decide) rfl rfl rfl (by decide)
  have discarded : t.mb.spi.lastResult = 9 := by
    cases ht
    decide +kernel
  rw [taken] at discarded
  contradiction

end Sys2Proof.Machine
end

section
/-! SUPPORT. Requests: the checks of a sound message, and the end of a command. Obligation O16. -/

namespace Sys2Proof.Machine

/-! ### A sound request passes the checks (02 R46) -/

/-- The checks read the channels and their settings alone. -/
theorem RequestSound.congr {s t : State} {ch : Fin 16} {m : Bytes} (h : RequestSound s ch m) (hc : t.mb.chan = s.mb.chan)
    (hk : t.flash.keys = s.flash.keys) : RequestSound t ch m := by
  obtain ⟨header, length, tenant, tag, idle, inOrder⟩ := h
  constructor <;> simp_all [tenantOf, chanCfg, getChan]

theorem RequestSound.headerOk {s : State} {ch : Fin 16} {m : Bytes} (h : RequestSound s ch m) : headerOk m = true := by
  obtain ⟨version, -, flags, zero⟩ := h.header
  simp [Machine.headerOk, version, flags, zero]

theorem RequestSound.lengthOk {s : State} {ch : Fin 16} {m : Bytes} (h : RequestSound s ch m) : lengthOk m = true := by
  obtain ⟨total, payload⟩ := h.length
  simpa [Machine.lengthOk, payload] using total

theorem RequestSound.tagOk {s : State} {ch : Fin 16} {m : Bytes} (h : RequestSound s ch m) (tagged : u8 m 3 = 1) :
    tagOk s ch.val m = true := by
  simp [Machine.tagOk, h.tag tagged]

theorem RequestSound.judge {s : State} {ch : Fin 16} {m : Bytes} (h : RequestSound s ch m) : judge ch.val m s = (.accept, s) := by
  have tenant : u8 m 2 = (chanCfg s ch.val).tenant := h.tenant
  unfold Machine.judge
  rcases h.inOrder with opens | ⟨isOpen, next⟩
  · simp [tenant, opens, h.idle]
  · simp [tenant, isOpen, next, h.idle]

theorem accept_taken (s : State) (ch : Fin 16) (m : Bytes) (udp : Option (Nat × Nat × Nat)) :
    RequestTaken s (accept ch.val m udp s) ch m udp := by
  constructor <;> simp +contextual [accept, rcUnknownCmd]

/-- What a request finds on its channel is all that its acceptance is judged by. -/
theorem RequestTaken.congr {s s' t : State} {ch : Fin 16} {m : Bytes} {udp : Option (Nat × Nat × Nat)} (h : RequestTaken s t ch m udp)
    (hc : getChan s ch.val = getChan s' ch.val) : RequestTaken s' t ch m udp := by
  obtain ⟨executes, lastSeq, cached, opening, result, isOpen⟩ := h
  rw [hc] at lastSeq cached opening isOpen
  exact ⟨executes, lastSeq, cached, opening, result, isOpen⟩

theorem checkWrite_sound {s : State} {ch : Fin 16} {m : Bytes} (h : RequestSound s ch m) (spi : (chanCfg s ch.val).transport = 1)
    (tagged : (chanCfg s ch.val).tagreq = true → u8 m 3 = 1) : checkWrite m s = accept ch.val m none s := by
  obtain ⟨-, channel, flags, -⟩ := h.header
  have noTagFault : (((chanCfg s ch.val).tagreq && u8 m 3 == 0) || (u8 m 3 == 1 && !Machine.tagOk s ch.val m)) = false := by
    by_cases ht : u8 m 3 = 1
    · simp [ht, h.tagOk ht]
    · have : (chanCfg s ch.val).tagreq = false := by simpa using mt tagged ht
      simp [ht, this]
  simp [checkWrite, channel, spi, h.headerOk, h.lengthOk, noTagFault, h.judge]

theorem checkUdp_sound {s : State} {ch : Fin 16} {m : Bytes} (mac ip port : Nat) (h : RequestSound s ch m) (udp : (chanCfg s ch.val).transport = 2)
    (source : (chanCfg s ch.val).srcIp = 0 ∨ (chanCfg s ch.val).srcIp = ip) (tagged : u8 m 3 = 1) :
    checkUdp mac ip port m s = accept ch.val m (some (mac, ip, port)) (hostFrame s) := by
  obtain ⟨-, channel, -, -⟩ := h.header
  have whole : ¬ m.length < 16 := by have := h.length.1; omega
  have fromSource : ¬ ((chanCfg s ch.val).srcIp ≠ 0 ∧ (chanCfg s ch.val).srcIp ≠ ip) := by tauto
  have judged : Machine.judge ch.val m (hostFrame s) = (.accept, hostFrame s) := (h.congr (t := hostFrame s) rfl rfl).judge
  simp [checkUdp, channel, whole, udp, fromSource, h.headerOk, h.lengthOk, tagged, h.tagOk tagged, judged]

/-! ### The end of a command (02 R39, R48, R53) -/

theorem Frame.mb {ps : List Part} {s t : State} (h : Frame ps s t) (hp : .mb ∉ ps) : t.mb = s.mb := h.2 .mb hp

theorem Frame.sup {ps : List Part} {s t : State} (h : Frame ps s t) (hp : .sup ∉ ps) : t.sup = s.sup := h.2 .sup hp

theorem Frame.clk {ps : List Part} {s t : State} (h : Frame ps s t) (hp : .clk ∉ ps) : t.clk = s.clk := h.2 .clk hp

theorem getChan_congr {s t : State} (h : t.mb = s.mb) (ch : Nat) : getChan t ch = getChan s ch := by rw [getChan, h, getChan]

/-- A channel as it was, but that its session may have been closed and settings may have come into force. -/
structure SessionMayClose (c c' : Chan) : Prop where
  exec : c'.exec = c.exec
  result : c'.result = c.result
  reply : c'.reply = c.reply
  ready : c'.ready = c.ready
  cache : c'.cache = c.cache ∨ c'.cache = []
  isOpen : c'.isOpen = c.isOpen ∨ c'.isOpen = false

theorem SessionMayClose.refl (c : Chan) : SessionMayClose c c := ⟨rfl, rfl, rfl, rfl, .inl rfl, .inl rfl⟩

theorem SessionMayClose.trans {c d e : Chan} (h : SessionMayClose c d) (k : SessionMayClose d e) : SessionMayClose c e where
  exec := k.exec.trans h.exec
  result := k.result.trans h.result
  reply := k.reply.trans h.reply
  ready := k.ready.trans h.ready
  cache := k.cache.elim (fun e => e ▸ h.cache) .inr
  isOpen := k.isOpen.elim (fun e => e ▸ h.isOpen) .inr

theorem SessionMayClose.closed {c c' : Chan} (h : SessionMayClose c c') (closed : c.isOpen = false ∧ c.cache = []) :
    c'.isOpen = false ∧ c'.cache = [] :=
  ⟨h.isOpen.elim (·.trans closed.1) id, h.cache.elim (·.trans closed.2) id⟩

theorem getChan_closeSession (ch cause : Nat) (s : State) :
    getChan (closeSession ch cause s) ch = { getChan s ch with isOpen := false, cache := [], latch := 0#16 } := by
  unfold closeSession; extract_lets was t
  have ht : getChan t ch = { getChan s ch with isOpen := false, cache := [], latch := 0#16 } := getChan_updChan_same ..
  split
  · rw [getChan_congr (gln_mb ..), ht]
  · exact ht

theorem closeSession_mayClose (ch cause : Nat) (s : State) : SessionMayClose (getChan s ch) (getChan (closeSession ch cause s) ch) := by
  rw [getChan_closeSession]
  exact ⟨rfl, rfl, rfl, rfl, .inr rfl, .inr rfl⟩

theorem applyChanCfg_mayClose (ch : Nat) (c : ChanCfg) (s : State) : SessionMayClose (getChan s ch) (getChan (applyChanCfg ch c s) ch) := by
  unfold applyChanCfg; extract_lets t x u v
  have ht : SessionMayClose (getChan s ch) (getChan t ch) := by
    unfold t; split
    · exact closeSession_mayClose ch 1 s
    · rw [getChan_updChan_same]
      exact ⟨rfl, rfl, rfl, rfl, .inr rfl, .inl rfl⟩
  have hu : Frame [.evt, .gln, .silo, .flash] t u := by simp [u]
  rw [← getChan_congr (hu.mb (by decide))] at ht
  exact ht

/-- The channel when the reply to request r has been formed, before what follows the reply. -/
def replied (s : State) (ch : Nat) (r : Req) (rc : Nat) (pl : Bytes) (c : Chan) : Chan :=
  let msg := replyMsg s ch r.tenantByte r.seq r.cmd rc pl (r.udp.isSome || (chanCfg s ch).tagreq)
  { c with
    exec := none, result := none, started := false
    cache := if r.cmd ≠ 0x0101 then c.cache.map (fun e => if e.seq = r.seq ∧ e.digest = r.digest then { e with reply := some (rc, pl) } else e) else c.cache
    reply := if r.udp.isSome || c.rejectedSince then c.reply else some msg
    ready := if r.udp.isSome || c.rejectedSince then c.ready else true }

/-- The reply is formed, and sent where it goes by UDP. -/
def replySent (ch : Nat) (r : Req) (rc : Nat) (pl : Bytes) (s : State) : State :=
  let t := updChan ch (replied s ch r rc pl) s
  match r.udp with
  | some (mac, ip, port) => udpReply mac ip port (replyMsg s ch r.tenantByte r.seq r.cmd rc pl (r.udp.isSome || (chanCfg s ch).tagreq)) t
  | none => t

/-- What a command makes happen at its reply: a session closes, the device falls asleep, a reset is due. -/
def replyEnds (ch : Nat) (r : Req) (rc : Nat) (s : State) : State :=
  let s := if r.cmd = 0x0102 ∧ rc = 0 then closeSession ch 0 s else s
  let s := if r.cmd = 0x0F08 ∧ rc = 0 then { s with sup := { s.sup with sleeping := true } } else s
  let s := if r.cmd = 0x0F07 ∧ rc = 0 then { s with sup := { s.sup with resetAt := some (s.clk + 100000000, ch) } } else s
  if r.cmd = 0x0E04 ∧ rc = 0 ∧ s.ovl.update then
    (if u8 r.payload 0 = 1 then { s with ovl := { s.ovl with resetAt := some (s.clk + 100000000) } }
      else { s with ovl := { s.ovl with update := false } }) else s

/-- Settings that waited for the reply come into force. -/
def settingsApplied (ch : Nat) (s : State) : State :=
  match (getChan s ch).newCfg with
  | some n => applyChanCfg ch (n.on (chanCfg s ch)) (updChan ch (fun x => { x with newCfg := none }) s)
  | none => s

theorem formReply_eq (ch : Nat) (r : Req) (rc : Nat) (pl : Bytes) (s : State) :
    formReply ch r rc pl s = settingsApplied ch (replyEnds ch r rc (replySent ch r rc pl s)) := rfl

theorem replySent_frame (ch : Nat) (r : Req) (rc : Nat) (pl : Bytes) (s : State) :
    Frame [.evt, .eth, .pair, .out] (updChan ch (replied s ch r rc pl) s) (replySent ch r rc pl s) := by
  unfold replySent; extract_lets t; split <;> simp [t]

theorem getChan_replySent (ch : Nat) (r : Req) (rc : Nat) (pl : Bytes) (s : State) :
    getChan (replySent ch r rc pl s) ch = replied s ch r rc pl (getChan s ch) :=
  (getChan_congr ((replySent_frame ..).mb (by decide)) ch).trans (getChan_updChan_same ..)

theorem getChan_replyEnds (ch : Nat) (r : Req) (rc : Nat) (s : State) :
    getChan (replyEnds ch r rc s) ch = getChan (if r.cmd = 0x0102 ∧ rc = 0 then closeSession ch 0 s else s) ch := by
  have h : Frame [.sup, .ovl] (if r.cmd = 0x0102 ∧ rc = 0 then closeSession ch 0 s else s) (replyEnds ch r rc s) := by
    unfold replyEnds; extract_lets t x u y v
    change Frame _ t _
    have hv : Frame [.sup, .ovl] t v := by simp [v, u]
    simp [hv]
  exact getChan_congr (h.mb (by decide)) ch

theorem replyEnds_mayClose (ch : Nat) (r : Req) (rc : Nat) (s : State) : SessionMayClose (getChan s ch) (getChan (replyEnds ch r rc s) ch) := by
  rw [getChan_replyEnds]
  split
  · exact closeSession_mayClose ch 0 s
  · exact .refl _

/-- MB_SESSION_CLOSE closes the session at its reply (02 R69). -/
theorem replyEnds_closes {ch : Nat} {r : Req} {s : State} (h : r.cmd = 0x0102) :
    (getChan (replyEnds ch r 0 s) ch).isOpen = false ∧ (getChan (replyEnds ch r 0 s) ch).cache = [] := by
  rw [getChan_replyEnds, if_pos ⟨h, rfl⟩, getChan_closeSession]
  exact ⟨rfl, rfl⟩

/-- The device is in SLEEP from the reply to MB_SLEEP on (02 R64). -/
theorem replyEnds_sleeps {ch : Nat} {r : Req} {s : State} (h : r.cmd = 0x0F08) : (replyEnds ch r 0 s).sup.sleeping = true := by
  simp [replyEnds, h]

/-- The reset that MB_RESET asks for is due 100 ms after its reply (18 R463). -/
theorem replyEnds_resets {ch : Nat} {r : Req} {s : State} (h : r.cmd = 0x0F07) :
    (replyEnds ch r 0 s).sup.resetAt = some (s.clk + 100000000, ch) := by
  simp [replyEnds, h]

theorem settingsApplied_mayClose (ch : Nat) (s : State) : SessionMayClose (getChan s ch) (getChan (settingsApplied ch s) ch) := by
  unfold settingsApplied; split
  · refine .trans ?_ (applyChanCfg_mayClose ..)
    rw [getChan_updChan_same]
    exact ⟨rfl, rfl, rfl, rfl, .inl rfl, .inl rfl⟩
  · exact .refl _

theorem settingsApplied_sup (ch : Nat) (s : State) : (settingsApplied ch s).sup = s.sup := by
  have h : Frame [.mb, .evt, .gln, .silo, .flash] s (settingsApplied ch s) := by
    unfold settingsApplied; split <;> simp
  exact h.sup (by decide)

/-- A cache entry of the request holds the reply, if the request is one that is cached (02 R48). -/
theorem replied_cache {s : State} {ch : Nat} {r : Req} {rc : Nat} {pl : Bytes} {c : Chan} (hr : r.cmd ≠ 0x0101) :
    ∀ x ∈ (replied s ch r rc pl c).cache, x.seq = r.seq → x.digest = r.digest → x.reply = some (rc, pl) := by
  intro x hx hseq hdig
  simp only [replied, hr, ne_eq, not_false_eq_true, if_true, List.mem_map] at hx
  obtain ⟨e, -, rfl⟩ := hx
  split at hseq <;> simp_all

theorem formReply_channel (ch : Nat) (r : Req) (rc : Nat) (pl : Bytes) (s : State) :
    SessionMayClose (replied s ch r rc pl (getChan s ch)) (getChan (formReply ch r rc pl s) ch) := by
  rw [formReply_eq, ← getChan_replySent]
  exact (replyEnds_mayClose ..).trans (settingsApplied_mayClose ..)

theorem execCommandExecutionEnd_ended {ch : Fin 16} {r : Req} {rc : Nat} {pl : Bytes} {s : State} (he : (getChan s ch.val).exec = some r)
    (hr : (getChan s ch.val).result = some (rc, pl)) : exec (.commandExecutionEnd ch) s = .next (formReply ch.val r rc pl s) := by
  change execCommandExecutionEnd ch s = _
  simp [execCommandExecutionEnd, he, hr]

theorem execCommandExecutionEnd_idle {ch : Fin 16} {s : State} (h : (getChan s ch.val).exec = none ∨ (getChan s ch.val).result = none) :
    exec (.commandExecutionEnd ch) s = .next s := by
  change execCommandExecutionEnd ch s = _
  unfold execCommandExecutionEnd; extract_lets c
  split
  next he hr => exact absurd h (by simp [c] at he hr; simp [he, hr])
  · rfl

theorem execMailboxRequestCheck_runs {m : Bytes} {rest : List Bytes} {s : State} (h : s.mb.spi.waiting = m :: rest) :
    exec .mailboxRequestCheck s = .next (checkWrite m { s with mb := { s.mb with spi := { s.mb.spi with waiting := rest } } }) := by
  change execMailboxRequestCheck s = _
  simp [execMailboxRequestCheck, h]

theorem execMailboxRequestCheck_idle {s : State} (h : s.mb.spi.waiting = []) : exec .mailboxRequestCheck s = .next s := by
  change execMailboxRequestCheck s = _
  simp [execMailboxRequestCheck, h]

theorem execUdpMailboxDatagram_runs {mac : Fin 3} {ip port : Nat} {m : Bytes} {s : State} (hb : boot s = false) (hs : s.sup.sleeping = false)
    (hon : macOn (getMac s mac.val) = true) (hup : macUp s mac.val = true) : exec (.udpMailboxDatagram mac ip port m) s =
      .next (checkUdp mac.val ip port m (updMac mac.val (fun x => { x with nRx := x.nRx + 1 }) s)) := by
  change execUdpMailboxDatagram mac ip port m s = _
  simp [execUdpMailboxDatagram, hb, hs, hon, hup]

theorem execUdpMailboxDatagram_deaf {mac : Fin 3} {ip port : Nat} {m : Bytes} {s : State}
    (h : boot s = true ∨ macOn (getMac s mac.val) = false ∨ macUp s mac.val = false) : exec (.udpMailboxDatagram mac ip port m) s = .next s := by
  change execUdpMailboxDatagram mac ip port m s = _
  rcases h with h | h | h <;> simp [execUdpMailboxDatagram, h]

/-- Settles O16: a sound message passes each check in turn and is accepted; the end of a command is the reply, then what the reply
brings about, then the settings that waited for it. -/
theorem requestsExecute : Obligations.RequestsExecute := by
  refine ⟨?waiting, fun _ => execMailboxRequestCheck_idle, ?udp, fun _ _ _ _ _ => execUdpMailboxDatagram_deaf, ?ended, fun _ _ => execCommandExecutionEnd_idle⟩
  case waiting =>
    intro m rest s ch waits spi tagged sound
    have runs := execMailboxRequestCheck_runs waits
    have sound' : RequestSound { s with mb := { s.mb with spi := { s.mb.spi with waiting := rest } } } ch m := sound.congr rfl rfl
    rw [checkWrite_sound sound' spi tagged] at runs
    exact ⟨_, runs, rfl, (accept_taken ..).congr rfl⟩
  case udp =>
    intro mac ip port m s ch started awake on up udp source tagged sound
    have runs := execUdpMailboxDatagram_runs (ip := ip) (port := port) (m := m) started awake on up
    have sound' : RequestSound (updMac mac.val (fun x => { x with nRx := x.nRx + 1 }) s) ch m := sound.congr rfl rfl
    rw [checkUdp_sound mac.val ip port sound' udp source tagged] at runs
    exact ⟨_, runs, (accept_taken ..).congr rfl⟩
  case ended =>
    intro ch r rc pl s executes ended
    refine ⟨_, execCommandExecutionEnd_ended executes ended, ?_⟩
    have kept := formReply_channel ch.val r rc pl s
    refine ⟨kept.exec, kept.result, fun spi fresh => ?_, fun byUdp => ?_, fun cached x hx => ?_, fun closes ok => ?_, fun sleeps ok => ?_, fun resets ok => ?_⟩
    · simp [kept.ready, kept.reply, replied, spi, fresh]
    · have : r.udp.isSome = true := Option.isSome_iff_ne_none.2 byUdp
      simp [kept.ready, kept.reply, replied, this]
    · rcases kept.cache with same | empty
      · exact replied_cache cached x (same ▸ hx)
      · simp [empty] at hx
    · subst ok
      rw [formReply_eq]
      exact (settingsApplied_mayClose ..).closed (replyEnds_closes closes)
    · subst ok
      rw [formReply_eq, settingsApplied_sup]
      exact replyEnds_sleeps sleeps
    · subst ok
      rw [formReply_eq, settingsApplied_sup, replyEnds_resets resets, (replySent_frame ..).clk (by decide)]
      rfl

end Sys2Proof.Machine
end

section
/-! SUPPORT. Bytes and fields of words, how a command answers, and the session, channel and event source commands. Obligation O17. -/

namespace Sys2Proof.Machine

/-! ### Bytes (00 R7) -/

@[simp] theorem length_toBe (n v : Nat) : (toBe n v).length = n := by
  induction n with
  | zero => rfl
  | succ n ih => simp [toBe, ih]

theorem foldl_beVal (p : Bytes) (a : Nat) : p.foldl (fun a b => a * 256 + b.toNat) a = a * 256 ^ p.length + beVal p := by
  induction p generalizing a with
  | nil => simp [beVal]
  | cons b p ih =>
    have front : beVal (b :: p) = b.toNat * 256 ^ p.length + beVal p := by simpa [beVal] using ih b.toNat
    rw [List.foldl_cons, ih, front, List.length_cons]
    ring

theorem beVal_cons (b : Byte) (p : Bytes) : beVal (b :: p) = b.toNat * 256 ^ p.length + beVal p := by
  simpa [beVal] using foldl_beVal p b.toNat

theorem beVal_toBe (n v : Nat) : beVal (toBe n v) = v % 256 ^ n := by
  induction n with
  | zero => simp [toBe, beVal, Nat.mod_one]
  | succ n ih =>
    rw [toBe, beVal_cons, ih, length_toBe, BitVec.toNat_ofNat, pow_succ 256 n, @Nat.mod_mul (256 ^ n) 256 v, Nat.mul_comm, Nat.add_comm]

theorem be_toBe_append {n v : Nat} (h : v < 256 ^ n) (p : Bytes) : be (toBe n v ++ p) 0 n = v := by
  simp [be, beVal_toBe, Nat.mod_eq_of_lt h]

theorem be_append_right (a p : Bytes) (o n : Nat) : be (a ++ p) (a.length + o) n = be p o n := by
  simp [be]

/-! ### Fields of a word (00 R5) -/

theorem testBit_fld (w : Word) (hi lo k : Nat) : (fld w hi lo).testBit k = (decide (k < hi + 1 - lo) && w.getLsbD (lo + k)) := by
  simp [fld, Nat.testBit_mod_two_pow, Nat.testBit_shiftRight, BitVec.getLsbD]

theorem getLsbD_setBit {i : Nat} (hi : i < 48) (w : Word) (b : Bool) (j : Nat) :
    (setBit w i b).getLsbD j = if j = i then b else w.getLsbD j := by
  have mask : (BitVec.ofNat 48 (2 ^ i)).getLsbD j = decide (j = i) := by
    rw [BitVec.getLsbD_ofNat, Nat.testBit_two_pow]
    by_cases h : j = i
    · simp [h, hi]
    · simp [h, Ne.symm h]
  have wide : w.getLsbD j = true → j < 48 := BitVec.lt_of_getLsbD
  unfold setBit; dsimp only
  by_cases h : j = i <;> cases b <;> by_cases hw : w.getLsbD j = true <;> simp_all

theorem getLsbD_setFld {hi lo : Nat} (hhi : hi < 48) (w : Word) (v j : Nat) :
    (setFld w hi lo v).getLsbD j = if lo ≤ j ∧ j ≤ hi then v.testBit (j - lo) else w.getLsbD j := by
  have mask : (BitVec.ofNat 48 ((2 ^ (hi + 1 - lo) - 1) <<< lo)).getLsbD j = decide (lo ≤ j ∧ j ≤ hi) := by
    rw [BitVec.getLsbD_ofNat, Nat.testBit_shiftLeft, Nat.testBit_two_pow_sub_one]
    by_cases h : lo ≤ j ∧ j ≤ hi
    · simp only [h, and_self, decide_true, Bool.and_eq_true, decide_eq_true_eq, true_and]; omega
    · simp only [h, decide_false]; simp; omega
  have wide : w.getLsbD j = true → j < 48 := BitVec.lt_of_getLsbD
  unfold setFld; dsimp only
  rw [BitVec.getLsbD_or, BitVec.getLsbD_and, BitVec.getLsbD_and, BitVec.getLsbD_not, mask, BitVec.getLsbD_ofNat, Nat.testBit_shiftLeft]
  by_cases h : lo ≤ j ∧ j ≤ hi
  · have : j < 48 := by omega
    simp [h, this]
  · by_cases hw : w.getLsbD j = true
    · simp [h, wide hw]
    · simp [h, hw]

@[simp] theorem bit_setBit_same {i : Nat} (hi : i < 48) (w : Word) (b : Bool) : bit (setBit w i b) i = b := by
  simp [bit, getLsbD_setBit hi]

theorem bit_setFld {hi lo : Nat} (hhi : hi < 48) (w : Word) (v i : Nat) :
    bit (setFld w hi lo v) i = if lo ≤ i ∧ i ≤ hi then v.testBit (i - lo) else bit w i := getLsbD_setFld hhi w v i

theorem fld_setFld_same {hi lo : Nat} (hhi : hi < 48) (w : Word) (v : Nat) : fld (setFld w hi lo v) hi lo = v % 2 ^ (hi + 1 - lo) := by
  refine Nat.eq_of_testBit_eq fun k => ?_
  rw [testBit_fld, getLsbD_setFld hhi, Nat.testBit_mod_two_pow]
  by_cases h : k < hi + 1 - lo
  · rw [if_pos (by omega), Nat.add_sub_cancel_left]
  · simp [h]

theorem fld_setFld_of_lt {hi lo hi' lo' : Nat} (hhi : hi < 48) (h : hi' < lo) (w : Word) (v : Nat) :
    fld (setFld w hi lo v) hi' lo' = fld w hi' lo' := by
  refine Nat.eq_of_testBit_eq fun k => ?_
  rw [testBit_fld, testBit_fld, getLsbD_setFld hhi]
  by_cases hk : k < hi' + 1 - lo'
  · rw [if_neg (by omega)]
  · simp [hk]

theorem fld_setBit_of_lt {i hi lo : Nat} (hi' : i < 48) (h : hi < i) (w : Word) (b : Bool) : fld (setBit w i b) hi lo = fld w hi lo := by
  refine Nat.eq_of_testBit_eq fun k => ?_
  rw [testBit_fld, testBit_fld, getLsbD_setBit hi']
  by_cases hk : k < hi + 1 - lo
  · rw [if_neg (by omega)]
  · simp [hk]

/-! ### How an asked command answers -/

theorem asked_runs {i : Fin 16 → Bytes → Instr} {ch : Fin 16} {p b : Bytes} {s s' : State} {f : Nat → Nat → Bytes → State → MbR}
    (hi : ∀ s, exec (i ch p) s = runMb ch (commandCode (i ch p)) f p s) (ha : Asked i ch p s) (hf : f (tenantOf s ch) ch.val p s = reply b s') :
    exec (i ch p) s = .next (setResult ch.val 0x0000 b (carryChange ch.val s')) :=
  (hi s).trans (runMb_reply ha hf)

/-- A command that replies: what it leaves on its channel and outside the mailboxes, the pair and the port is what it did. -/
theorem mbGives_of_reply {i : Fin 16 → Bytes → Instr} {ch : Fin 16} {p b : Bytes} {s s' : State} {f : Nat → Nat → Bytes → State → MbR}
    {R : Bytes → Prop} {P : State → Prop} (hi : ∀ s, exec (i ch p) s = runMb ch (commandCode (i ch p)) f p s)
    (hf : f (tenantOf s ch) ch.val p s = reply b s') (hR : R b)
    (hP : ∀ t, Frame [.mb, .pair, .out] s' t → getChan t ch.val = { getChan s' ch.val with result := some (0x0000, b) } → P t) :
    MbGives i ch p s R P := fun ha => by
  have own : getChan (setResult ch.val 0x0000 b (carryChange ch.val s')) ch.val = { getChan s' ch.val with result := some (0x0000, b) } := by
    simp [getChan_setResult _ _ _ _ _ ch.isLt]
  exact ⟨_, asked_runs hi ha hf, b, by rw [own], hR, hP _ (by simp) own⟩

theorem carryChange_of_notCarried {s : State} {ch : Fin 16} (h : NotCarried s ch) : carryChange ch.val s = s := by
  unfold carryChange; split
  next r hr => simp [h r hr]
  · rfl

theorem mbReads_of_reply {i : Fin 16 → Bytes → Instr} {ch : Fin 16} {p b : Bytes} {s : State} {f : Nat → Nat → Bytes → State → MbR}
    (hi : ∀ s, exec (i ch p) s = runMb ch (commandCode (i ch p)) f p s) (hn : NotCarried s ch) (hf : f (tenantOf s ch) ch.val p s = reply b s) :
    MbReads i ch p s b := fun ha => by
  rw [asked_runs hi ha hf, carryChange_of_notCarried hn]

/-- A command goes on past a check that it passes. -/
theorem need_then {b : Bool} {rc : Nat} {f : Unit → MbR} {r : MbR} (h : b = true) (hf : f () = r) : (need b rc >>= f) = r := by
  rw [h]; exact hf

/-! ### Sessions (02 R65, R68, R69) -/

theorem mbSessionOpen_gives (ch : Fin 16) (s : State) : MbGives .mbSessionOpen ch [] s (fun b => b = toBe 4 (Config.random32 s.free).toNat)
    (fun t => (getChan t ch.val).isOpen = true ∧ (getChan t ch.val).cache = [] ∧ (getChan t ch.val).lastSeq = (Config.random32 s.free).toNat ∧
      t.free = s.free + 1) := by
  refine mbGives_of_reply (f := mbSessionOpen) (fun _ => rfl) rfl rfl fun t kept own => ?_
  have free := kept.2 .free (by decide)
  rw [own, getChan_congr (gln_mb ..), getChan_updChan_same]
  exact ⟨rfl, rfl, rfl, free.trans (gln_free ..)⟩

theorem mbSessionClose_reads {ch : Fin 16} {s : State} (h : NotCarried s ch) : MbReads .mbSessionClose ch [] s [] :=
  mbReads_of_reply (f := mbSessionClose) (fun _ => rfl) h rfl

theorem mbNop_reads {ch : Fin 16} {s : State} (h : NotCarried s ch) : MbReads .mbNop ch [] s [] :=
  mbReads_of_reply (f := mbNop) (fun _ => rfl) h rfl

theorem mbDeviceInfo_reads {ch : Fin 16} {s : State} (h : NotCarried s ch) : MbReads .mbDeviceInfo ch [] s (toBe 2 0x4816 ++ toBe 1 s.flash.variant ++ toBe 1 s.flash.fwVersion.1 ++ toBe 1 s.flash.fwVersion.2.1 ++
      toBe 1 s.flash.fwVersion.2.2 ++ toBe 4 s.ovl.hash) :=
  mbReads_of_reply (f := mbDeviceInfo) (fun _ => rfl) h rfl

theorem ofNat_be_pair (a b : Byte) : BitVec.ofNat 16 (be [a, b] 0 2) = a ++ b := by
  refine BitVec.eq_of_toNat_eq ?_
  have fits : a.toNat * 256 + b.toNat < 2 ^ 16 := by have := a.isLt; have := b.isLt; omega
  have joined : (a ++ b).toNat = a.toNat * 256 + b.toNat := by
    rw [BitVec.toNat_append, ← Nat.shiftLeft_add_eq_or_of_lt b.isLt, Nat.shiftLeft_eq]
  simpa [be, beVal, joined] using fits

theorem mbAckAttn_done (ch : Fin 16) (a b : Byte) (s : State) : MbDone .mbAckAttn ch [a, b] s (fun t =>
    (getChan t ch.val).latch = (getChan s ch.val).latch &&& ~~~(a ++ b) ∧
    ((a ++ b).getLsbD 7 = true → tget 0 t.silo.ackWdg ch.val = s.silo.wdgResets)) := by
  refine mbGives_of_reply (f := mbAckAttn) (fun _ => rfl) rfl rfl fun t kept own => ?_
  rw [ofNat_be_pair] at kept own
  have silo := kept.2 .silo (by decide)
  refine ⟨?_, fun wdg => ?_⟩
  · rw [own]; split <;> simp [getChan, updChan]
  · rw [silo]; simp [wdg, bitWDG]

theorem u8_ofNat {n : Nat} (h : n < 256) (p : Bytes) : u8 (BitVec.ofNat 8 n :: p) 0 = n := by
  simpa [u8] using h

theorem mbChanStats_reads {ch k : Fin 16} {s : State} (h : tenantOf s ch = 0 ∨ tenantOf s k = tenantOf s ch) (hn : NotCarried s ch) :
    MbReads .mbChanStats ch [BitVec.ofNat 8 k.val] s (toBe 4 (getChan s k.val).badTag ++ toBe 4 (getChan s k.val).seqConflict ++
      toBe 4 (getChan s k.val).seqWindow ++ toBe 4 (getChan s k.val).discDgram ++ toBe 4 (getChan s k.val).discFrame) := by
  refine mbReads_of_reply (f := mbChanStats) (fun _ => rfl) hn ?_
  have allowed : (tenantOf s ch == 0 || short [BitVec.ofNat 8 k.val] 1 || decide (k.val < 16) && (chanCfg s k.val).tenant == tenantOf s ch) = true := by
    rcases h with h | h
    · simp [h]
    · simp [show (chanCfg s k.val).tenant = tenantOf s ch from h]
  unfold mbChanStats
  rw [u8_ofNat (by omega)]
  exact need_then allowed (need_then rfl (need_then (by simp) rfl))

/-! ### Settings of a channel (02 R42, R43, R61) -/

@[simp] theorem keys_siloPut (addr len : Nat) (s : State) : (siloPut addr len s).flash.keys = s.flash.keys := rfl

@[simp] theorem keys_eraseBlock (b : Nat) (s : State) : (eraseBlock b s).flash.keys = s.flash.keys := by simp [eraseBlock, erasePhys]

@[simp] theorem keys_putBlock (b : Nat) (x : Block) (s : State) : (putBlock b x s).flash.keys = s.flash.keys := rfl

@[simp] theorem keys_retireBlock (b cause : Nat) (s : State) : (retireBlock b cause s).flash.keys = s.flash.keys := by simp [retireBlock]

@[simp] theorem keys_journalPut (b region index gen : Nat) (complete : Bool) (s : State) :
    (journalPut b region index gen complete s).flash.keys = s.flash.keys := by
  unfold journalPut; dsimp only; split <;> rfl

@[simp] theorem keys_writeBlock (b region index gen : Nat) (x : Option Block) (s : State) :
    (writeBlock b region index gen x s).flash.keys = s.flash.keys := by
  unfold writeBlock; dsimp only; split
  · cases x <;> simp
  · split
    · rfl
    · cases x <;> simp

@[simp] theorem keys_storeArea (region : Nat) (s : State) : (storeArea region s).flash.keys = s.flash.keys := by
  unfold storeArea smallStore; dsimp only; split
  · rfl
  · simp [copyDone]

theorem chanCfg_congr {s t : State} (h : t.flash.keys = s.flash.keys) (k : Nat) : chanCfg t k = chanCfg s k := by rw [chanCfg, h, chanCfg]

theorem chanCfg_applyChanCfg (ch : Nat) (c : ChanCfg) (s : State) : chanCfg (applyChanCfg ch c s) ch = c := by
  unfold applyChanCfg; extract_lets t x u v
  change chanCfg u ch = c
  simp [chanCfg, u]

/-- Settings of another channel come into force at once. -/
theorem chanCfg_changeChan {self ch : Nat} (h : ch ≠ self) (n : ChanNew) (s : State) :
    chanCfg (changeChan self ch n s) ch = n.on (chanCfg s ch) := by
  unfold changeChan; rw [if_neg h.symm]
  exact chanCfg_applyChanCfg ..

@[simp] theorem chanCfg_gln (code level tenant : Nat) (p1 p2 : Int) (s : State) (k : Nat) : chanCfg (gln code level tenant p1 p2 s) k = chanCfg s k := by
  simp [chanCfg]

theorem u8_ofNat_second {n : Nat} (h : n < 256) (a : Byte) (p : Bytes) : u8 (a :: BitVec.ofNat 8 n :: p) 1 = n := by
  simpa [u8] using h

/-- T0 keeps channel 0 on the SPI port whatever another channel takes (02 R42). -/
theorem t0Remains_of_zero {s : State} {k : Nat} (c : ChanCfg) (hk : k ≠ 0) (tenant : (chanCfg s 0).tenant = 0) (spi : (chanCfg s 0).transport = 1)
    (fixed : (getChan s 0).newCfg = none) : t0Remains s k c = true := by
  simp only [t0Remains, List.any_eq_true, List.mem_range]
  exact ⟨0, by omega, by simp [hk.symm, cfgSoon, fixed, tenant, spi]⟩

theorem mbChanBind_done {ch k : Fin 16} {tn : Fin 32} {s : State} (t0 : tenantOf s ch = 0) (accepts : pairRefuses s = false) (other : k ≠ ch)
    (tenant0 : (chanCfg s 0).tenant = 0) (spi0 : (chanCfg s 0).transport = 1) (fixed0 : (getChan s 0).newCfg = none) (hk : k.val ≠ 0)
    (fits : areaFits s 5 = true) :
    MbDone .mbChanBind ch [BitVec.ofNat 8 k.val, BitVec.ofNat 8 tn.val, 1#8, 0#8, 0#8, 0#8, 0#8, 0#8] s (fun t =>
      (chanCfg t k.val).tenant = tn.val ∧ (chanCfg t k.val).transport = 1 ∧ (chanCfg t k.val).tagreq = false ∧
      (chanCfg t k.val).key = (chanCfg s k.val).key) := by
  have foreign : k.val ≠ ch.val := fun e => other (Fin.ext e)
  have request : ChanNew.bind tn.val (u8 [BitVec.ofNat 8 k.val, BitVec.ofNat 8 tn.val, 1#8, 0#8, 0#8, 0#8, 0#8, 0#8] 2)
      (bit (wd (u8 [BitVec.ofNat 8 k.val, BitVec.ofNat 8 tn.val, 1#8, 0#8, 0#8, 0#8, 0#8, 0#8] 3)) 0)
      (be [BitVec.ofNat 8 k.val, BitVec.ofNat 8 tn.val, 1#8, 0#8, 0#8, 0#8, 0#8, 0#8] 4 4) = .bind tn.val 1 false 0 := by
    simp [u8, be, beVal, bit, wd]
  obtain ⟨u, runs, settings⟩ : ∃ u, mbChanBind (tenantOf s ch) ch.val [BitVec.ofNat 8 k.val, BitVec.ofNat 8 tn.val, 1#8, 0#8, 0#8, 0#8, 0#8, 0#8] s = done u ∧
      chanCfg u k.val = (ChanNew.bind tn.val 1 false 0).on (chanCfg s k.val) := by
    unfold mbChanBind
    rw [u8_ofNat (n := k.val) (by omega), u8_ofNat_second (n := tn.val) (by omega)]
    refine ⟨_, need_then (by simp [t0]) (need_then rfl (need_then (by simp [accepts]) (need_then (by simp [u8])
      (need_then (Bool.and_eq_true_iff.2 ⟨t0Remains_of_zero _ hk tenant0 spi0 fixed0, rfl⟩) (need_then fits rfl))))), ?_⟩
    split
    next same => exact (of_decide_eq_true (Bool.and_eq_true_iff.1 same).1).symm.trans (by rw [request])
    · rw [chanCfg_changeChan foreign, chanCfg_gln, request]
  refine mbGives_of_reply (f := mbChanBind) (fun _ => rfl) runs rfl fun t kept _ => ?_
  rw [chanCfg_congr (congrArg Flash.keys (kept.2 .flash (by decide))), settings]
  exact ⟨rfl, rfl, rfl, rfl⟩

theorem mbKeySet_done {ch k : Fin 16} {g : Nat} {wrapped : Bytes} {s : State} (t0 : tenantOf s ch = 0) (accepts : pairRefuses s = false) (other : k ≠ ch)
    (whole : wrapped.length = 32) (newer : (cfgSoon s k.val).keyGen < g) (hg : g < 2 ^ 32) (fits : areaFits s 5 = true) :
    MbDone .mbKeySet ch ([BitVec.ofNat 8 k.val, 0#8] ++ toBe 4 g ++ wrapped) s (fun t => (chanCfg t k.val).keyGen = g ∧
      (chanCfg t k.val).tenant = (chanCfg s k.val).tenant ∧
      (chanCfg t k.val).key = xorBytes wrapped (hmac (chanCfg s ch.val).key ([0x4B#8, 0x57#8, 0x52#8, 0x50#8, BitVec.ofNat 8 k.val] ++ toBe 4 g))) := by
  have foreign : k.val ≠ ch.val := fun e => other (Fin.ext e)
  have gen : be ([BitVec.ofNat 8 k.val, 0#8] ++ toBe 4 g ++ wrapped) 2 4 = g := by
    rw [List.append_assoc]
    exact (be_append_right [BitVec.ofNat 8 k.val, 0#8] _ 0 4).trans (be_toBe_append hg wrapped)
  have channel : u8 ([BitVec.ofNat 8 k.val, 0#8] ++ toBe 4 g ++ wrapped) 0 = k.val := u8_ofNat (by omega) _
  have key : ([BitVec.ofNat 8 k.val, 0#8] ++ toBe 4 g ++ wrapped).drop 6 = wrapped := List.drop_left' (by simp)
  have zero : u8 ([BitVec.ofNat 8 k.val, 0#8] ++ toBe 4 g ++ wrapped) 1 = 0 := rfl
  have long : ([BitVec.ofNat 8 k.val, 0#8] ++ toBe 4 g ++ wrapped).length = 38 := by simp [whole]
  have runs : mbKeySet (tenantOf s ch) ch.val ([BitVec.ofNat 8 k.val, 0#8] ++ toBe 4 g ++ wrapped) s = done (gln 0x020A 3 (chanCfg s k.val).tenant k.val g
      (changeChan ch.val k.val (.key (xorBytes wrapped (hmac (chanCfg s ch.val).key ([0x4B#8, 0x57#8, 0x52#8, 0x50#8, BitVec.ofNat 8 k.val] ++ toBe 4 g))) g) s)) := by
    unfold mbKeySet
    rw [channel, gen, key, zero]
    exact need_then (by simp [t0]) (need_then (by rw [long]; rfl) (need_then (by simp [accepts]) (need_then (by simp [newer]) (need_then fits rfl))))
  refine mbGives_of_reply (f := mbKeySet) (fun _ => rfl) runs rfl fun t kept _ => ?_
  rw [chanCfg_congr (congrArg Flash.keys (kept.2 .flash (by decide))), chanCfg_gln, chanCfg_changeChan foreign]
  exact ⟨rfl, rfl, rfl⟩

/-! ### Event sources (01 R31 to R36) -/

theorem evtSrc_congr {s t : State} (h : t.evt = s.evt) (n : Nat) : evtSrc t n = evtSrc s n := by rw [evtSrc, h, evtSrc]

theorem evtPending_congr {s t : State} (h : t.evt = s.evt) (n : Nat) : evtPending t n = evtPending s n := by rw [evtPending, h, evtPending]

theorem evtOwner_congr {s t : State} (h : t.evt = s.evt) (n : Nat) : evtOwner t n = evtOwner s n := by
  rw [evtOwner, evtSrc_congr h, evtOwner]

theorem evtAllocatable_lt {n : Nat} (h : evtAllocatable n = true) : n < 384 := by
  simp [evtAllocatable] at h; omega

/-- A source that a command may allocate has no fixed owner. -/
theorem evtOwner_of_allocatable {n : Nat} (h : evtAllocatable n = true) (s : State) : evtOwner s n = fld (evtSrc s n) 4 0 := by
  have free : evtFixed n = none := by
    simp [evtAllocatable] at h
    rw [evtFixed, if_neg (by omega), if_neg (by omega)]
  rw [evtOwner, free, Option.getD_none]

@[simp] theorem span_one (a : Nat) : span a 1 = [a] := rfl

theorem evtSrc_evtAssign_same (t n : Nat) (en : Bool) (s : State) : evtSrc (evtAssign t en s n) n =
    if fld (evtSrc s n) 4 0 = t then setBit (setFld (evtSrc s n) 4 0 t) 22 en else setFld (setBit (setFld (evtSrc s n) 4 0 t) 22 en) 47 40 0 := by
  by_cases same : fld (evtSrc s n) 4 0 = t <;> simp [evtAssign, same, evtSrc_setEvtSrc]

theorem evtSrc_evtAssign_other {t n m : Nat} (h : m ≠ n) (en : Bool) (s : State) : evtSrc (evtAssign t en s n) m = evtSrc s m := by
  unfold evtAssign; dsimp only
  split <;> simp [evtSrc_setEvtSrc, h]

theorem owner_evtAssign {t : Nat} (ht : t < 32) (n : Nat) (en : Bool) (s : State) : fld (evtSrc (evtAssign t en s n) n) 4 0 = t := by
  have set : fld (setBit (setFld (evtSrc s n) 4 0 t) 22 en) 4 0 = t := by
    rw [fld_setBit_of_lt (by decide) (by decide), fld_setFld_same (by decide)]; exact Nat.mod_eq_of_lt ht
  rw [evtSrc_evtAssign_same]; split
  · exact set
  · rw [fld_setFld_of_lt (by decide) (by decide), set]

theorem enable_evtAssign (t n : Nat) (en : Bool) (s : State) : bit (evtSrc (evtAssign t en s n) n) 22 = en := by
  rw [evtSrc_evtAssign_same]; split
  · exact bit_setBit_same (by decide) ..
  · rw [bit_setFld (by decide), if_neg (by decide), bit_setBit_same (by decide)]

/-- A new owner finds the source neither pending nor overrun (01 R33). -/
theorem evtAssign_new_owner {t n : Nat} {s : State} (hn : n < 384) (new : fld (evtSrc s n) 4 0 ≠ t) (en : Bool) :
    evtPending (evtAssign t en s n) n = false ∧ fld (evtSrc (evtAssign t en s n) n) 47 40 = 0 := by
  constructor
  · simp [evtAssign, new, evtPending_setPending, hn]
  · rw [evtSrc_evtAssign_same, if_neg new, fld_setFld_same (by decide), Nat.zero_mod]

theorem mbEvtAlloc_done {ch : Fin 16} {n : Nat} {tn : Fin 32} {s : State} (t0 : tenantOf s ch = 0) (changes : Changes s)
    (allocatable : evtAllocatable n = true) (unbound : bit (evtSrc s n) 23 = false) :
    MbDone .mbEvtAlloc ch (toBe 2 n ++ toBe 2 1 ++ [BitVec.ofNat 8 tn.val, 1#8]) s (fun t => evtOwner t n = tn.val ∧ bit (evtSrc t n) 22 = true ∧
      (evtOwner s n ≠ tn.val → evtPending t n = false ∧ fld (evtSrc t n) 47 40 = 0) ∧ ∀ m, m ≠ n → evtSrc t m = evtSrc s m) := by
  obtain ⟨running, accepts⟩ := changes
  have hn := evtAllocatable_lt allocatable
  have first : be (toBe 2 n ++ toBe 2 1 ++ [BitVec.ofNat 8 tn.val, 1#8]) 0 2 = n := by
    rw [List.append_assoc]; exact be_toBe_append (by omega) _
  have count : be (toBe 2 n ++ toBe 2 1 ++ [BitVec.ofNat 8 tn.val, 1#8]) 2 2 = 1 := by
    rw [List.append_assoc]; exact be_append_right (toBe 2 n) _ 0 2
  have tenant : u8 (toBe 2 n ++ toBe 2 1 ++ [BitVec.ofNat 8 tn.val, 1#8]) 4 = tn.val := by
    simp [u8, toBe]; omega
  have enable : u8 (toBe 2 n ++ toBe 2 1 ++ [BitVec.ofNat 8 tn.val, 1#8]) 5 = 1 := rfl
  obtain ⟨u, runs, events⟩ : ∃ u, mbEvtAlloc (tenantOf s ch) ch.val (toBe 2 n ++ toBe 2 1 ++ [BitVec.ofNat 8 tn.val, 1#8]) s = done u ∧
      u.evt = (evtAssign tn.val true s n).evt := by
    unfold mbEvtAlloc
    rw [first, count, tenant, enable]
    refine ⟨_, need_then (by simp [t0]) (need_then (by simp [allocatable]) (need_then (by simp) (need_then (by simp [running, accepts, unbound])
      (need_then (by simp; omega) rfl)))), ?_⟩
    rw [gln_evt]; rfl
  refine mbGives_of_reply (f := mbEvtAlloc) (fun _ => rfl) runs rfl fun t kept _ => ?_
  have here := (kept.2 .evt (by decide)).trans events
  rw [evtOwner_congr here, evtSrc_congr here, evtPending_congr here, evtOwner_of_allocatable allocatable, evtOwner_of_allocatable allocatable]
  exact ⟨owner_evtAssign tn.isLt .., enable_evtAssign .., (evtAssign_new_owner hn · true),
    fun m other => (evtSrc_congr here m).trans (evtSrc_evtAssign_other other true s)⟩

theorem mbEvtEnable_done {ch : Fin 16} {n : Nat} {b : Bool} {s : State} (hn : n < 384) (own : evtOwner s n = tenantOf s ch) (changes : Changes s)
    (unbound : b = true ∨ bit (evtSrc s n) 23 = false) :
    MbDone .mbEvtEnable ch (toBe 2 n ++ [if b then 1#8 else 0#8]) s (fun t => bit (evtSrc t n) 22 = b ∧ ∀ m, m ≠ n → evtSrc t m = evtSrc s m) := by
  obtain ⟨running, accepts⟩ := changes
  have source : be (toBe 2 n ++ [if b then 1#8 else 0#8]) 0 2 = n := be_toBe_append (by omega) _
  have flag : u8 (toBe 2 n ++ [if b then 1#8 else 0#8]) 2 = b2n b := by cases b <;> rfl
  have runs : mbEvtEnable (tenantOf s ch) ch.val (toBe 2 n ++ [if b then 1#8 else 0#8]) s = done (setEvtSrc n (setBit (evtSrc s n) 22 b) s) := by
    unfold mbEvtEnable
    rw [source, flag]
    cases b with
    | true => exact need_then (by simp [hn, own]) (need_then (by simp) (need_then (by simp [running, accepts, b2n]) (need_then rfl rfl)))
    | false =>
      have free : bit (evtSrc s n) 23 = false := by simpa using unbound
      exact need_then (by simp [hn, own]) (need_then (by simp) (need_then (by simp [running, accepts, free]) (need_then rfl rfl)))
  refine mbGives_of_reply (f := mbEvtEnable) (fun _ => rfl) runs rfl fun t kept _ => ?_
  have here := kept.2 .evt (by decide)
  refine ⟨?_, fun m other => ?_⟩
  · rw [evtSrc_congr here, evtSrc_setEvtSrc, if_pos rfl, bit_setBit_same (by decide)]
  · rw [evtSrc_congr here, evtSrc_setEvtSrc, if_neg other]

theorem mbEvtClear_done {ch : Fin 16} {n : Nat} {s : State} (hn : n < 384) (allowed : tenantOf s ch = 0 ∨ evtOwner s n = tenantOf s ch)
    (changes : Changes s) (unbound : bit (evtSrc s n) 23 = false) :
    MbDone .mbEvtClear ch (1#8 :: toBe 2 n) s (fun t => evtPending t n = false ∧ fld (evtSrc t n) 47 40 = 0 ∧
      ∀ m, m ≠ n → m < 384 → evtPending t m = evtPending s m) := by
  obtain ⟨running, accepts⟩ := changes
  have sources : (items (1#8 :: toBe 2 n) 1 2 (((1#8 :: toBe 2 n).length - 1) / 2)).map beVal = [n] := by
    have one : items (1#8 :: toBe 2 n) 1 2 (((1#8 :: toBe 2 n).length - 1) / 2) = [toBe 2 n] := by simp [items, toBe]
    rw [one, List.map_singleton, beVal_toBe, Nat.mod_eq_of_lt (by omega)]
  have runs : mbEvtClear (tenantOf s ch) ch.val (1#8 :: toBe 2 n) s = done (setPending n false (setEvtSrc n (setFld (evtSrc s n) 47 40 0) s)) := by
    unfold mbEvtClear
    rw [sources]
    refine need_then ?_ (need_then (by simp [u8]) (need_then (by simp [running, accepts, unbound]) (need_then (by simp [u8, hn]) rfl)))
    rcases allowed with h | h <;> simp [h, hn]
  refine mbGives_of_reply (f := mbEvtClear) (fun _ => rfl) runs rfl fun t kept _ => ?_
  have here := kept.2 .evt (by decide)
  refine ⟨?_, ?_, fun m other _ => ?_⟩
  · rw [evtPending_congr here, evtPending_setPending _ _ _ _ hn, if_pos rfl]
  · rw [evtSrc_congr here, evtSrc_setPending, evtSrc_setEvtSrc, if_pos rfl, fld_setFld_same (by decide), Nat.zero_mod]
  · rw [evtPending_congr here, evtPending_setPending _ _ _ _ hn, if_neg other, evtPending_setEvtSrc]

theorem mbEvtGet_reads {ch : Fin 16} {n : Nat} {s : State} (hn : n < 384) (notCarried : NotCarried s ch) :
    MbReads .mbEvtGet ch (toBe 2 n ++ [1#8]) s
      (if tenantOf s ch = 0 ∨ evtOwner s n = tenantOf s ch then wB (setFld (evtSrc s n) 4 0 (evtOwner s n)) ++ [if evtPending s n then 1#8 else 0#8]
        else toBe 7 0) := by
  refine mbReads_of_reply (f := mbEvtGet) (fun _ => rfl) notCarried ?_
  have source : be (toBe 2 n ++ [1#8]) 0 2 = n := be_toBe_append (by omega) _
  have count : u8 (toBe 2 n ++ [1#8]) 2 = 1 := rfl
  have flag : bB (evtPending s n) = [if evtPending s n then 1#8 else 0#8] := by cases evtPending s n <;> rfl
  unfold mbEvtGet
  refine need_then (by simp) ?_
  rw [source, count]
  refine need_then (by simp; omega) ?_
  simp [flag]

/-- Settles O17: each command passes its checks in the order of check 9 to check 12, and then does or answers what its section says. -/
theorem sessionChannelAndEventCommands : Obligations.SessionChannelAndEventCommands :=
  ⟨mbSessionOpen_gives,
    fun _ _ notCarried => ⟨mbSessionClose_reads notCarried, mbNop_reads notCarried, mbDeviceInfo_reads notCarried⟩,
    mbAckAttn_done,
    fun _ _ _ => mbChanStats_reads,
    fun _ _ _ _ => mbChanBind_done,
    fun _ _ _ _ _ => mbKeySet_done,
    fun _ _ _ _ => mbEvtAlloc_done,
    fun _ _ _ _ => mbEvtEnable_done,
    fun _ _ _ => mbEvtClear_done,
    fun _ _ _ => mbEvtGet_reads⟩

end Sys2Proof.Machine
end

section
/-! SUPPORT. KV48 instructions, from what a body answers to what the row does: how a body's answer becomes the row's next state, what
completion leaves of an effect, the effects that several rows share, and fields of words as numbers. -/

namespace Sys2Proof.Machine

/-! ### From the answer of a body to the next state of the row -/

/-- A body that answers an effect: the instruction completes, where its cycles are left in the budget. -/
theorem exec_of_ok {i : Kv → Instr} {o : Kv} {len k : Nat} {e e1 : Ex} {s s1 : State} {tgt : Option Nat} {cyc : Nat}
    {body : Kv → Nat → Ex → State → KvRes} (h : KvIssues i o len k e s) (row : exec (i o) s = kvRun i body o s)
    (answer : body o k (openDistances e) (issueCycle o.core.val s) = .ok e1 s1 tgt cyc)
    (paid : budgetOf s k = 0 ∨ e.cycles + cyc ≤ budgetOf s k) :
    exec (i o) s = .next (setEx k (some (retire len tgt cyc e1)) s1) := by
  rw [row, kvRun_issues h, answer]
  exact congrArg _ (if_pos paid)

/-- A body that answers an effect in sequence: its one cycle is left, as the instruction issues. -/
theorem exec_of_kvOk {i : Kv → Instr} {o : Kv} {len k : Nat} {e e1 : Ex} {s s1 : State} {body : Kv → Nat → Ex → State → KvRes}
    (h : KvIssues i o len k e s) (row : exec (i o) s = kvRun i body o s)
    (answer : body o k (openDistances e) (issueCycle o.core.val s) = kvOk e1 s1) :
    exec (i o) s = .next (setEx k (some (retire len none 1 e1)) s1) :=
  exec_of_ok h row answer h.paid

/-- A body that answers a trap: the row traps. -/
theorem kvTraps_of_trap {i : Kv → Instr} {o : Kv} {len k : Nat} {e : Ex} {s : State} {c : Nat} {p : Int}
    {body : Kv → Nat → Ex → State → KvRes} (h : KvIssues i o len k e s) (row : exec (i o) s = kvRun i body o s)
    (answer : body o k (openDistances e) (issueCycle o.core.val s) = .trap c p) : KvTraps i o k e s c p := by
  unfold KvTraps
  rw [row, kvRun_issues h, answer]

/-- A row whose guard is false completes with no effect, whatever its body (03 R78). -/
theorem kvRun_skips {i : Kv → Instr} {o : Kv} {len k : Nat} {e : Ex} {s : State} (h : KvSkips i o len k e s)
    (body : Kv → Nat → Ex → State → KvRes) :
    kvRun i body o s = .next (setEx k (some (retire len none 1 (openDistances e))) (issueCycle o.core.val s)) := by
  obtain ⟨coded, length, onCore, running, phase, within, fetched, intact, guard, paid⟩ := h
  have corrected : correctCode e.tenant e.pc len (issueCycle o.core.val s) = issueCycle o.core.val s := correctCode_intact _ _ _ _ intact
  have fits : (budgetOf s k == 0 || decide (e.cycles + 1 ≤ budgetOf s k)) = true := by
    rcases paid with h | h <;> simp [h]
  unfold kvRun kvIssue issuing
  simp only [onCore, running, phase, within, ne_eq, not_true_eq_false, Bool.false_eq_true, or_self, if_false, fetchOk_openDistances,
    fetched, kvAt_openDistances, coded, length, Bool.not_true, guardTrue_openDistances, guard, openDistances_tenant, openDistances_pc,
    corrected]
  unfold issueEx
  simp only [Bool.not_false, if_true, openDistances_cycles, budgetOf_issueCycle]
  exact congrArg _ (if_pos fits)

/-! ### What completion leaves of an effect -/

/-- A taken branch: loads land, the target is the next address. -/
theorem retire_jump (len t cyc : Nat) (e : Ex) :
    retire len (some t) cyc e = { landLoads e with pc := t, n := e.n + 1, cycles := e.cycles + cyc } := by
  obtain ⟨-, n, cycles, -⟩ := landLoads_fields e
  unfold retire
  simp only [n, cycles]

/-- Completion in sequence and to a target: what lands aside, loop state, address and counts alone change. -/
theorem retire_landed (len : Nat) (tgt : Option Nat) (cyc : Nat) (e : Ex) :
    ∃ lp ld pc, retire len tgt cyc e = { landLoads e with lp := lp, ldepth := ld, pc := pc, n := e.n + 1, cycles := e.cycles + cyc } := by
  cases tgt with
  | none =>
    obtain ⟨lp, ld, pc, h, -⟩ := retire_seq len cyc e
    exact ⟨lp, ld, pc, h⟩
  | some t => exact ⟨_, _, _, retire_jump len t cyc e⟩

@[simp] theorem retire_n (len : Nat) (tgt : Option Nat) (cyc : Nat) (e : Ex) : (retire len tgt cyc e).n = e.n + 1 := by
  obtain ⟨lp, ld, pc, h⟩ := retire_landed len tgt cyc e
  rw [h]

@[simp] theorem retire_cycles (len : Nat) (tgt : Option Nat) (cyc : Nat) (e : Ex) : (retire len tgt cyc e).cycles = e.cycles + cyc := by
  obtain ⟨lp, ld, pc, h⟩ := retire_landed len tgt cyc e
  rw [h]

@[simp] theorem retire_sat (len : Nat) (tgt : Option Nat) (cyc : Nat) (e : Ex) : (retire len tgt cyc e).sat = e.sat := by
  obtain ⟨lp, ld, pc, h⟩ := retire_landed len tgt cyc e
  rw [h]; exact (landLoads_fields e).1

@[simp] theorem retire_phase (len : Nat) (tgt : Option Nat) (cyc : Nat) (e : Ex) : (retire len tgt cyc e).phase = e.phase := by
  obtain ⟨lp, ld, pc, h⟩ := retire_landed len tgt cyc e
  rw [h]; simp [landLoads_fields e]

@[simp] theorem retire_tendAt (len : Nat) (tgt : Option Nat) (cyc : Nat) (e : Ex) : (retire len tgt cyc e).tendAt = e.tendAt := by
  obtain ⟨lp, ld, pc, h⟩ := retire_landed len tgt cyc e
  rw [h]; simp [landLoads_fields e]

@[simp] theorem retire_imPend (len : Nat) (tgt : Option Nat) (cyc : Nat) (e : Ex) : (retire len tgt cyc e).imPend = e.imPend := by
  obtain ⟨lp, ld, pc, h⟩ := retire_landed len tgt cyc e
  rw [h]; simp [landLoads_fields e]

@[simp] theorem retire_lpPend (len : Nat) (tgt : Option Nat) (cyc : Nat) (e : Ex) : (retire len tgt cyc e).lpPend = e.lpPend := by
  obtain ⟨lp, ld, pc, h⟩ := retire_landed len tgt cyc e
  rw [h]; simp [landLoads_fields e]

@[simp] theorem retire_loads (len : Nat) (tgt : Option Nat) (cyc : Nat) (e : Ex) :
    (retire len tgt cyc e).loads = e.loads.filter (fun l => e.n < l.landAt) := by
  obtain ⟨lp, ld, pc, h⟩ := retire_landed len tgt cyc e
  rw [h]; simp [landLoads_fields e]

/-- A register that the instruction wrote, or on which nothing lands, reads after completion as its effect left it. -/
theorem rW_retire {len : Nat} {tgt : Option Nat} {cyc : Nat} {e : Ex} {r : BitVec 4}
    (h : e.wrote.contains r.toNat = true ∨ NoLoadLands e r.toNat) : rW (retire len tgt cyc e) r = rW e r := by
  obtain ⟨lp, ld, pc, hr⟩ := retire_landed len tgt cyc e
  rw [hr]; exact landLoads_rW e r h

/-- A predicate that the instruction wrote, or on which nothing lands, reads after completion as its effect left it. -/
theorem rP_retire {len : Nat} {tgt : Option Nat} {cyc : Nat} {e : Ex} {i : Nat} (hi : i < 8)
    (h : e.wrote.contains (16 + i) = true ∨ NoLoadLands e (16 + i)) : rP (retire len tgt cyc e) i = rP e i := by
  obtain ⟨lp, ld, pc, hr⟩ := retire_landed len tgt cyc e
  rw [hr]; exact landLoads_rP e i hi h

/-- Completion in sequence of no effect. -/
theorem retire_keeps_idle (len : Nat) (e : Ex) : KvKeeps len none none e (retire len none 1 (openDistances e)) := by
  apply retire_keeps <;> intros <;> rfl

/-! ### Effects that several rows share -/

/-- Wd holds what was written to it after completion, whatever was to land there. -/
theorem retire_wW (len : Nat) (d : BitVec 4) (v : Word) (e : Ex) :
    rW (retire len none 1 (wW d v (openDistances e))) d = v ∧ KvKeeps len (some d) none e (retire len none 1 (wW d v (openDistances e))) := by
  constructor
  · rw [rW_retire (.inl (by simp [wW])), rW_wW_same]
  · apply retire_keeps <;> try (intros; rfl)
    intro r other
    rw [rW_wW, if_neg (fun same => other (by rw [same])), rW_openDistances]

/-- A compare's write to Pd changes predicates alone, and marks Pd as written where it is not P0. -/
theorem wPd_fields (o : Kv) (b : Bool) (e : Ex) :
    (wPd o b e).w = e.w ∧ (wPd o b e).sat = e.sat ∧ (wPd o b e).loads = e.loads ∧ (wPd o b e).n = e.n ∧ (wPd o b e).cycles = e.cycles ∧
    (wPd o b e).pc = e.pc ∧ (wPd o b e).posts = e.posts ∧ (wPd o b e).tenant = e.tenant ∧ (wPd o b e).core = e.core ∧
    (wPd o b e).phase = e.phase ∧ (wPd o b e).lp = e.lp ∧ (wPd o b e).ldepth = e.ldepth ∧
    (o.d.toNat % 8 = 0 ∨ (wPd o b e).wrote.contains (16 + o.d.toNat % 8) = true) := by
  unfold wPd wP predNo
  split <;> simp_all

theorem combineBit_eq (d : BitVec 4) : d.getLsbD 3 = decide (8 ≤ d.toNat) := by
  revert d; decide

/-- Pd after a truth is written to it under the combine bit (03 R77). -/
theorem rP_wPd (o : Kv) (b : Bool) (e : Ex) : rP (wPd o b e) (o.d.toNat % 8) = true ↔
    o.d.toNat % 8 = 0 ∨ (b = true ∧ (8 ≤ o.d.toNat → rP e (o.d.toNat % 8) = true)) := by
  unfold wPd predNo
  rw [rP_wP, if_pos rfl, combineBit_eq]
  by_cases zero : o.d.toNat % 8 = 0
  · simp [zero]
  · by_cases combined : 8 ≤ o.d.toNat <;> simp [zero, combined]

theorem retire_wPd (len : Nat) (o : Kv) (b : Bool) (e : Ex) :
    KvKeeps len none (some (o.d.toNat % 8)) e (retire len none 1 (wPd o b (openDistances e))) ∧
    (rP (retire len none 1 (wPd o b (openDistances e))) (o.d.toNat % 8) = true ↔
      o.d.toNat % 8 = 0 ∨ (b = true ∧ (8 ≤ o.d.toNat → rP e (o.d.toNat % 8) = true))) := by
  obtain ⟨w, -, loads, n, cycles, pc, posts, tenant, core, phase, lp, ldepth, wrote⟩ := wPd_fields o b (openDistances e)
  constructor
  · refine retire_keeps len none _ e _ (fun r _ => ?_) (fun i hi other => ?_) loads n cycles pc posts tenant core phase lp ldepth
    · unfold rW; rw [w]; rfl
    · unfold wPd predNo
      rw [rP_wP, if_neg, rP_openDistances]
      intro same
      rw [Nat.mod_eq_of_lt hi, Nat.mod_mod] at same
      exact other (by rw [same])
  · rcases wrote with zero | wrote
    · simp [zero, rP_zero]
    · rw [rP_retire (Nat.mod_lt _ (by decide)) (.inl wrote), rP_wPd, rP_openDistances]

/-! ### Fields of a word as quotients and remainders (00 R5) -/

theorem fld_eq_div (w : Word) (hi lo : Nat) : fld w hi lo = w.toNat / 2 ^ lo % 2 ^ (hi + 1 - lo) := by
  rw [fld, Nat.shiftRight_eq_div_pow]

theorem fld_top (w : Word) : fld w 47 45 = w.toNat / 2 ^ 45 := by
  have := w.isLt
  rw [fld_eq_div]; omega

theorem fld_bottom (w : Word) (hi : Nat) : fld w hi 0 = w.toNat % 2 ^ (hi + 1) := by
  rw [fld_eq_div, Nat.pow_zero, Nat.div_one, Nat.sub_zero]

theorem bit_eq_decide (w : Word) (i : Nat) : bit w i = decide (w.toNat / 2 ^ i % 2 = 1) := by
  simp [bit, BitVec.getLsbD, Nat.testBit_eq_decide_div_mod_eq]

theorem fld_lt (w : Word) (hi lo : Nat) : fld w hi lo < 2 ^ (hi + 1 - lo) := Nat.mod_lt _ (Nat.two_pow_pos _)

end Sys2Proof.Machine
end

section
/-! SUPPORT. Compares, tests and predicate logic (04 R111, Table 4-4). Obligation O6. -/

namespace Sys2Proof.Machine

/-! ### Immediates and predicate registers -/

theorem toInt_sx (o : Kv) : (sx o).toInt = o.imm.toInt := BitVec.toInt_signExtend_of_le (by decide)

theorem toNat_zx (o : Kv) : (zx o).toNat = o.imm.toNat := BitVec.toNat_setWidth_of_le (by decide)

/-- PRD's word (04 Table 4-4): the eight predicates, P0 as it reads. -/
theorem getLsbD_predicates (e : Ex) {j : Nat} (hj : j < 48) : ((e.p ||| 1#8).setWidth 48).getLsbD j = (decide (j < 8) && rP e j) := by
  unfold rP
  by_cases low : j < 8
  · have mask : (1#8).getLsbD j = (j == 0) := by simp [BitVec.getLsbD_one, beq_eq_decide]
    rw [BitVec.getLsbD_setWidth, BitVec.getLsbD_or, Nat.mod_eq_of_lt low, mask]
    simp [hj, low, Bool.or_comm]
  · have nonzero : j ≠ 0 := by omega
    simp [low, nonzero, BitVec.getLsbD_of_ge _ _ (Nat.le_of_not_lt low)]

/-! ### PWR -/

/-- What PWR does to the predicates named in a list. -/
def writePreds (v : Word) (l : List Nat) (e : Ex) : Ex := l.foldl (fun x i => wP i (v.getLsbD i) x) e

theorem writePreds_fields (v : Word) (l : List Nat) (e : Ex) :
    (writePreds v l e).w = e.w ∧ (writePreds v l e).sat = e.sat ∧ (writePreds v l e).loads = e.loads ∧ (writePreds v l e).n = e.n ∧
    (writePreds v l e).cycles = e.cycles := by
  unfold writePreds
  induction l generalizing e with
  | nil => exact ⟨rfl, rfl, rfl, rfl, rfl⟩
  | cons i l ih =>
    have one : (wP i (v.getLsbD i) e).w = e.w ∧ (wP i (v.getLsbD i) e).sat = e.sat ∧ (wP i (v.getLsbD i) e).loads = e.loads ∧
        (wP i (v.getLsbD i) e).n = e.n ∧ (wP i (v.getLsbD i) e).cycles = e.cycles := by
      unfold wP; split <;> simp
    rw [List.foldl_cons]
    obtain ⟨w, sat, loads, n, cycles⟩ := one
    rw [← w, ← sat, ← loads, ← n, ← cycles]
    exact ih _

/-- Each predicate of P1 to P7 takes its bit, and none of the others is written over it. -/
theorem rP_writePreds (v : Word) (l : List Nat) (hl : ∀ i ∈ l, 1 ≤ i ∧ i ≤ 7) (e : Ex) (j : Nat) (hj : j < 8) :
    rP (writePreds v l e) j = if j ∈ l then v.getLsbD j else rP e j := by
  unfold writePreds
  induction l generalizing e with
  | nil => simp
  | cons i l ih =>
    obtain ⟨low, high⟩ := hl i (List.mem_cons_self ..)
    have hi : i % 8 = i := Nat.mod_eq_of_lt (by omega)
    rw [List.foldl_cons, ih (fun x hx => hl x (List.mem_cons_of_mem _ hx)), rP_wP, hi, Nat.mod_eq_of_lt hj]
    have nonzero : i ≠ 0 := by omega
    by_cases here : j = i
    · subst here; simp [nonzero]
    · simp [here]

theorem wrote_writePreds (v : Word) (l : List Nat) (hl : ∀ i ∈ l, 1 ≤ i ∧ i ≤ 7) (e : Ex) (j : Nat) (hj : j ∈ l ∨ 16 + j ∈ e.wrote) :
    16 + j ∈ (writePreds v l e).wrote := by
  unfold writePreds
  induction l generalizing e with
  | nil => simpa using hj
  | cons i l ih =>
    obtain ⟨low, high⟩ := hl i (List.mem_cons_self ..)
    have wrote : (wP i (v.getLsbD i) e).wrote = (16 + i) :: e.wrote := by
      have hi : i % 8 = i := Nat.mod_eq_of_lt (by omega)
      unfold wP; rw [hi, if_neg (by omega)]
    refine ih (fun x hx => hl x (List.mem_cons_of_mem _ hx)) _ ?_
    rw [wrote]
    rcases hj with hj | hj
    · rcases List.mem_cons.mp hj with here | later
      · exact .inr (by rw [here]; exact List.mem_cons_self ..)
      · exact .inl later
    · exact .inr (List.mem_cons_of_mem _ hj)

theorem pwr_writes {o : Kv} {k : Nat} {e : Ex} {s : State} (h : KvIssues .pwr o 2 k e s) :
    ∃ e', exec (.pwr o) s = .next (setEx k (some e') (issueCycle o.core.val s)) ∧
      (∀ i, 1 ≤ i → i ≤ 7 → rP e' i = (rW e o.s).getLsbD i) ∧ (∀ r : BitVec 4, NoLoadLands e r.toNat → rW e' r = rW e r) ∧
      e'.sat = e.sat ∧ e'.n = e.n + 1 ∧ e'.cycles = e.cycles + 1 := by
  have named : ∀ i ∈ List.range' 1 7, 1 ≤ i ∧ i ≤ 7 := by decide
  obtain ⟨w, sat, loads, n, cycles⟩ := writePreds_fields (rW e o.s) (List.range' 1 7) (openDistances e)
  refine ⟨_, exec_of_kvOk (e1 := writePreds (rW e o.s) (List.range' 1 7) (openDistances e)) h rfl rfl, ?_, ?_, ?_, ?_, ?_⟩
  · intro i low high
    have mem : i ∈ List.range' 1 7 := List.mem_range'_1.mpr ⟨low, by omega⟩
    have wrote := List.contains_iff_mem.mpr (wrote_writePreds (rW e o.s) _ named (openDistances e) i (.inl mem))
    rw [rP_retire (by omega) (.inl wrote), rP_writePreds _ _ named _ _ (by omega), if_pos mem]
  · intro r none
    have none : NoLoadLands (writePreds (rW e o.s) (List.range' 1 7) (openDistances e)) r.toNat := by
      unfold NoLoadLands; rw [loads, n]; exact none
    rw [rW_retire (.inr none)]
    exact congrArg (wget · r.toNat) w
  · rw [retire_sat, sat]; rfl
  · rw [retire_n, n]; rfl
  · rw [retire_cycles, cycles]; rfl

/-! ### TSTB -/

/-- A lane below 48 is used, one of 48 and more traps with its number (03 R86). -/
theorem withLane_eq (o : Kv) (e : Ex) (s : State) (f : Nat → Ex) :
    withLane o (openDistances e) s f = if laneOf o e < 48 then kvOk (f (laneOf o e)) s else .trap trBadValue (laneOf o e) := by
  have lane : (if o.m = 0#2 then laneImm o else laneReg o (openDistances e)) = laneOf o e := rfl
  unfold withLane
  rw [lane]
  by_cases h : laneOf o e < 48
  · rw [if_pos h]; exact if_neg (by omega)
  · rw [if_neg h]; exact if_pos (by omega)

theorem tstb_tests {o : Kv} {k : Nat} {e : Ex} {s : State} (h : KvIssues .tstb o (lenByM o) k e s) (lane : laneOf o e < 48) :
    ∃ e', exec (.tstb o) s = .next (setEx k (some e') (issueCycle o.core.val s)) ∧ KvKeeps (lenByM o) none (some (o.d.toNat % 8)) e e' ∧
      (rP e' (o.d.toNat % 8) = true ↔ o.d.toNat % 8 = 0 ∨
        ((rW e o.s).getLsbD (laneOf o e) = true ∧ (8 ≤ o.d.toNat → rP e (o.d.toNat % 8) = true))) :=
  ⟨_, exec_of_kvOk h rfl ((withLane_eq ..).trans (if_pos lane)), retire_wPd (lenByM o) o ((rW e o.s).getLsbD (laneOf o e)) e⟩

theorem tstb_traps {o : Kv} {k : Nat} {e : Ex} {s : State} (h : KvIssues .tstb o (lenByM o) k e s) (lane : ¬ laneOf o e < 48) :
    KvTraps .tstb o k e s 0x06 (laneOf o e) :=
  kvTraps_of_trap h rfl ((withLane_eq ..).trans (if_neg lane))

/-! ### TSTNZ -/

theorem and_ne_zero_iff (a b : Word) : ((a &&& b) != 0#48) = true ↔ ∃ j, a.getLsbD j = true ∧ b.getLsbD j = true := by
  rw [bne_iff_ne, ne_eq, ← not_iff_not, not_not]
  constructor
  · rintro h ⟨j, ha, hb⟩
    have := congrArg (fun v : Word => v.getLsbD j) h
    simp [ha, hb] at this
  · intro h
    apply BitVec.eq_of_getLsbD_eq
    intro j _
    rw [BitVec.getLsbD_and, BitVec.getLsbD_zero, Bool.and_eq_false_iff]
    by_contra hc
    rw [not_or, Bool.not_eq_false, Bool.not_eq_false] at hc
    exact h ⟨j, hc⟩

/-- Settles O6: each compare and test writes the truth that its row names (`kvTests_of_wPd`), PRD reads and PWR writes the predicates bit
by bit, TSTB tests the lane that it names. -/
theorem kvCompares : Obligations.KvCompares :=
  ⟨kvTests_of_wPd _ (fun _ _ => rfl) (fun _ _ => rfl) fun _ _ => beq_iff_eq,
    kvTests_of_wPd _ (fun _ _ => rfl) (fun _ _ => rfl) fun _ _ => bne_iff_ne,
    kvTests_of_wPd _ (fun _ _ => rfl) (fun _ _ => rfl) fun _ _ => BitVec.slt_iff_toInt_lt,
    kvTests_of_wPd _ (fun _ _ => rfl) (fun _ _ => rfl) fun _ _ => BitVec.ult_iff_toNat_lt,
    kvTests_of_wPd _ (fun _ _ => rfl) (fun _ _ => rfl) fun _ _ => BitVec.sle_iff_toInt_le,
    kvTests_of_wPd _ (fun _ _ => rfl) (fun _ _ => rfl) fun _ _ => BitVec.ule_iff_toNat_le,
    kvTests_of_wPd _ (fun _ _ => rfl) (fun _ _ => rfl) fun o _ => by rw [beq_iff_eq, ← BitVec.toInt_inj, toInt_sx],
    kvTests_of_wPd _ (fun _ _ => rfl) (fun _ _ => rfl) fun o _ => by rw [bne_iff_ne, ne_eq, ← BitVec.toInt_inj, toInt_sx],
    kvTests_of_wPd _ (fun _ _ => rfl) (fun _ _ => rfl) fun o _ => by rw [BitVec.slt_iff_toInt_lt, toInt_sx],
    kvTests_of_wPd _ (fun _ _ => rfl) (fun _ _ => rfl) fun o _ => by rw [BitVec.ult_iff_toNat_lt, toNat_zx],
    kvTests_of_wPd _ (fun _ _ => rfl) (fun _ _ => rfl) fun o _ => by rw [BitVec.slt_iff_toInt_lt, toInt_sx],
    kvTests_of_wPd _ (fun _ _ => rfl) (fun _ _ => rfl) fun o _ => by rw [BitVec.ult_iff_toNat_lt, toNat_zx],
    kvTests_of_wPd _ (fun _ _ => rfl) (fun _ _ => rfl) fun _ _ => and_ne_zero_iff _ _,
    kvTests_of_wPd _ (fun _ _ => rfl) (fun _ _ => rfl) fun _ _ => Bool.and_eq_true_iff,
    kvTests_of_wPd _ (fun _ _ => rfl) (fun _ _ => rfl) fun _ _ => Bool.or_eq_true_iff,
    kvTests_of_wPd _ (fun _ _ => rfl) (fun _ _ => rfl) fun _ _ => bne_iff_ne,
    kvTests_of_wPd _ (fun _ _ => rfl) (fun _ _ => rfl) fun _ _ => by rw [Bool.and_eq_true_iff, Bool.not_eq_true']; rfl,
    kvSets_of_wW _ (fun _ _ => rfl) (fun _ _ => rfl) fun _ e _ => getLsbD_predicates e,
    fun _ _ _ _ => pwr_writes,
    fun o _ e _ h => if lane : laneOf o e < 48 then (if_pos lane).mpr (tstb_tests h lane) else (if_neg lane).mpr (tstb_traps h lane)⟩

end Sys2Proof.Machine
end

section
/-! SUPPORT. Loads and stores: the address checks, the side effect of mode 2, pending loads, and the words of the data store and of the
output image (03 R84, R93, R94; 04 R114 to R117). Obligations O8 and O9. -/

namespace Sys2Proof.Machine

/-! ### Address checks (03 R84) -/

/-- The right that an access lacks: bit 46 to write, bit 47 to read (03 Table 3-4). -/
theorem right_missing_iff (d : Word) (write : Bool) : (!(if write then bit d 46 else bit d 47)) = true ↔
    (if write then d.toNat / 2 ^ 46 % 2 else d.toNat / 2 ^ 47) = 0 := by
  have := d.isLt
  cases write <;> simp only [bit_eq_decide, if_true, if_false, Bool.false_eq_true, Bool.not_eq_true', decide_eq_false_iff_not] <;> omega

/-- The model's checks fail with the first trap of the statements and pass to the same place. -/
theorem checkAddr_eq (e : Ex) (kinds : List Nat) (write : Bool) (a : Word) :
    checkAddr e kinds write a = (firstTrap e kinds write a).elim (.ok (placeOf e a)) .error := by
  have contained (k : Nat) : (!kinds.contains k) = true ↔ k ∉ kinds := by simp
  have refused (b : Bool) : (!b) = true ↔ b = false := by simp
  unfold checkAddr firstTrap placeOf
  simp only [fld_top]
  generalize e.segd.getD (a.toNat / 2 ^ 45) 0#48 = d
  rw [fld_bottom, fld_bottom, fld_eq_div a 44, fld_eq_div d 45]
  generalize hk : d.toNat / 2 ^ 43 % 2 ^ (45 + 1 - 43) = kind
  generalize a.toNat % 2 ^ (20 + 1) = off
  simp only [right_missing_iff, contained, refused (plotCheck ..)]
  generalize (if write then d.toNat / 2 ^ 46 % 2 else d.toNat / 2 ^ 47) = right
  -- the same checks in the same order on both sides
  (split; · rfl); (split; · rfl); (split; · rfl); (split; · rfl); (split <;> rfl)

theorem access_trap {o : Kv} {e : Ex} {kinds : List Nat} {write : Bool} {f : Place → KvRes} {c : Nat}
    (trap : firstTrap e kinds write (addrOf o e) = some c) :
    access o (openDistances e) kinds write f = .trap c (addrOf o e).toNat := by
  have checked : checkAddr (openDistances e) kinds write (effAddr o (openDistances e)) = .error c :=
    (checkAddr_eq e kinds write (addrOf o e)).trans (by rw [trap]; rfl)
  unfold access
  rw [checked]; rfl

theorem access_pass {o : Kv} {e : Ex} {kinds : List Nat} {write : Bool} {f : Place → KvRes}
    (pass : firstTrap e kinds write (addrOf o e) = none) : access o (openDistances e) kinds write f = f (placeOf e (addrOf o e)) := by
  have checked : checkAddr (openDistances e) kinds write (effAddr o (openDistances e)) = .ok (placeOf e (addrOf o e)) :=
    (checkAddr_eq e kinds write (addrOf o e)).trans (by rw [pass]; rfl)
  unfold access
  rw [checked]

/-- A bit form whose lane is 48 and more traps before its address is looked at (03 R86, R99). -/
theorem bitLane_trap {o : Kv} {e : Ex} {f : Nat → KvRes} (lane : 48 ≤ (rW e o.t).toNat % 64) :
    bitLane o (openDistances e) f = .trap trBadValue ((rW e o.t).toNat % 64 : Nat) := if_pos lane

theorem bitLane_pass {o : Kv} {e : Ex} {f : Nat → KvRes} (lane : ¬ 48 ≤ (rW e o.t).toNat % 64) :
    bitLane o (openDistances e) f = f ((rW e o.t).toNat % 64) := if_neg lane

/-- A place without an error is read, and nothing is corrected. -/
theorem readData_intact {k : Nat} {e : Ex} {pl : Place} {s : State} (intact : Intact k e pl s) (o : Kv) (c : Nat)
    (f : Word → State → KvRes) :
    readData k o (openDistances e) (issueCycle c s) pl f = f (dataWord k e pl (issueCycle c s)) (issueCycle c s) := by
  unfold readData; extract_lets key
  by_cases data : pl.kind = 0
  · obtain ⟨hard, soft⟩ := intact data
    have hard : (issueCycle c s).core.hardBad.contains key = false := hard
    have soft : (issueCycle c s).core.softBad.contains key = false := soft
    have same : correctData key (openDistances e).tenant (issueCycle c s) = issueCycle c s := by
      unfold correctData; rw [soft]; rfl
    rw [if_neg (by rw [hard]; simp), if_pos data, same]; rfl
  · rw [if_neg (fun both => data both.1), if_neg data]; rfl

/-! ### What an access leaves of its execution -/

/-- The effect of an access: mode 2 increments Ws, the writes of the output image are l, and the loads `new` are issued. -/
def accessed (o : Kv) (e : Ex) (l : List PWrite) (new : List PLoad) : Ex :=
  { postInc o (openDistances e) with imPend := l, loads := e.loads ++ new }

theorem postInc_accessed (o : Kv) (e : Ex) : postInc o (openDistances e) = accessed o e (openDistances e).imPend [] := by
  unfold accessed postInc
  rw [List.append_nil]
  split <;> rfl

theorem addLoad_accessed (o : Kv) (e : Ex) (t : Nat) (v : Word) :
    addLoad t v (postInc o (openDistances e)) = accessed o e (openDistances e).imPend [⟨t, v, e.n + 2⟩] := by
  unfold addLoad accessed postInc
  split <;> rfl

theorem addImst_accessed (o : Kv) (e : Ex) (w : Nat) (v : Word) :
    postInc o (addImst w v (openDistances e)) = accessed o e (⟨w, v, e.n + 3⟩ :: (openDistances e).imPend) [] := by
  unfold addImst accessed postInc
  rw [List.append_nil]
  split <;> rfl

theorem accessed_fields (o : Kv) (e : Ex) (l : List PWrite) (new : List PLoad) :
    (accessed o e l new).p = e.p ∧ (accessed o e l new).n = e.n ∧ (accessed o e l new).cycles = e.cycles ∧ (accessed o e l new).pc = e.pc ∧
    (accessed o e l new).posts = e.posts ∧ (accessed o e l new).tenant = e.tenant ∧ (accessed o e l new).core = e.core ∧
    (accessed o e l new).phase = e.phase ∧ (accessed o e l new).lp = (openDistances e).lp ∧ (accessed o e l new).ldepth = e.ldepth := by
  unfold accessed postInc
  split <;> exact ⟨rfl, rfl, rfl, rfl, rfl, rfl, rfl, rfl, rfl, rfl⟩

/-- Mode 2 alone writes a register, Ws. -/
theorem rW_accessed (o : Kv) (e : Ex) (l : List PWrite) (new : List PLoad) (r : BitVec 4) :
    rW (accessed o e l new) r = if incOf o = some r then rW e o.s + o.imm.signExtend 48 else rW e r := by
  unfold accessed postInc incOf
  by_cases two : o.m = 2#2
  · simp only [if_pos two, Option.some.injEq]
    exact (rW_wW ..).trans (if_congr eq_comm rfl rfl)
  · simp only [if_neg two]; rfl

theorem accessed_wrote {o : Kv} (two : o.m = 2#2) (e : Ex) (l : List PWrite) (new : List PLoad) :
    (accessed o e l new).wrote.contains o.s.toNat = true := by
  unfold accessed postInc
  simp [if_pos two, wW]

theorem retire_accessed_increments {len : Nat} {o : Kv} {e : Ex} {l : List PWrite} {new : List PLoad} :
    Incremented o e (retire len none 1 (accessed o e l new)) := fun two => by
  rw [rW_retire (.inl (accessed_wrote two e l new)), rW_accessed, if_pos (by rw [incOf, if_pos two])]

/-- A load that the access issues lands later, so that only the loads pending before it may land with it. -/
theorem retire_accessed_keeps {len : Nat} {o : Kv} {e : Ex} {l : List PWrite} {new : List PLoad} (later : ∀ x ∈ new, e.n < x.landAt) :
    KvKeeps len (incOf o) none e (retire len none 1 (accessed o e l new)) := by
  obtain ⟨p, n, cycles, pc, posts, tenant, core, phase, lp, ldepth⟩ := accessed_fields o e l new
  have none (r : Nat) (h : NoLoadLands e r) : NoLoadLands (accessed o e l new) r := by
    intro x hx ht
    rw [n]
    rcases List.mem_append.mp hx with old | issued
    · exact h x old ht
    · exact later x issued
  obtain ⟨lp', ldepth', pc', retired, next⟩ := retire_seq len 1 (accessed o e l new)
  refine ⟨fun r other h => ?_, fun i hi _ h => ?_, ?_, ?_, fun away => ?_, ?_, ?_⟩
  · rw [rW_retire (.inr (none _ h)), rW_accessed, if_neg other]
  · rw [rP_retire hi (.inr (none _ h))]
    unfold rP; rw [p]
  · rw [retire_n, n]
  · rw [retire_cycles, cycles]
  · have away : atLoopEnd (accessed o e l new) = false := by
      rw [← away]; unfold atLoopEnd lpe; rw [lp, ldepth, pc]; rfl
    rw [retired, ← pc]; exact (next away).1
  · rw [retired]; simp [landLoads_fields (accessed o e l new), posts]
  · rw [retired]; simp [landLoads_fields (accessed o e l new), tenant, core, phase]

theorem retire_accessed_load {len : Nat} {o : Kv} {e : Ex} {l : List PWrite} {t : Nat} {v : Word} :
    WithLoad e (retire len none 1 (accessed o e l [⟨t, v, e.n + 2⟩])) t v := by
  obtain ⟨-, n, -⟩ := accessed_fields o e l [⟨t, v, e.n + 2⟩]
  unfold WithLoad
  rw [retire_loads, n]
  unfold accessed
  simp

/-! ### Loads (04 R114, R115) -/

section Rows
variable {i : Kv → Instr} {o : Kv} {len k : Nat} {e : Ex} {s : State} {body : Kv → Nat → Ex → State → KvRes}

/-- An access whose body answers a load: the word is pending, to land two instructions later. -/
theorem delivers_of_load {t : Nat} {v : Word} (h : KvIssues i o len k e s) (row : exec (i o) s = kvRun i body o s)
    (answer : body o k (openDistances e) (issueCycle o.core.val s) = kvOk (addLoad t v (postInc o (openDistances e))) (issueCycle o.core.val s)) :
    ∃ e', exec (i o) s = .next (setEx k (some e') (issueCycle o.core.val s)) ∧ WithLoad e e' t v ∧ Incremented o e e' ∧
      KvKeeps len (incOf o) none e e' := by
  rw [addLoad_accessed] at answer
  exact ⟨_, exec_of_kvOk h row answer, retire_accessed_load, retire_accessed_increments, retire_accessed_keeps (by simp)⟩

/-- As for a word, for a bit: a load of P0 alone leaves nothing pending. -/
theorem delivers_of_loadPred {b : Bool} (h : KvIssues i o len k e s) (row : exec (i o) s = kvRun i body o s)
    (answer : body o k (openDistances e) (issueCycle o.core.val s) = kvOk (loadPred o b (postInc o (openDistances e))) (issueCycle o.core.val s)) :
    ∃ e', exec (i o) s = .next (setEx k (some e') (issueCycle o.core.val s)) ∧
      (o.d.toNat % 8 ≠ 0 → WithLoad e e' (16 + o.d.toNat % 8) (if b then 1#48 else 0#48)) ∧ Incremented o e e' ∧
      KvKeeps len (incOf o) none e e' := by
  by_cases zero : o.d.toNat % 8 = 0
  · rw [show loadPred o b (postInc o (openDistances e)) = _ from if_pos zero, postInc_accessed] at answer
    exact ⟨_, exec_of_kvOk h row answer, (absurd zero ·), retire_accessed_increments, retire_accessed_keeps (by simp)⟩
  · rw [show loadPred o b (postInc o (openDistances e)) = _ from if_neg zero] at answer
    obtain ⟨e', ran, load, rest⟩ := delivers_of_load h row answer
    exact ⟨e', ran, fun _ => load, rest⟩

end Rows

/-- Settles O8 (a bit load of P0 with mode 2 increments Ws by log 122): each load traps with the first check that fails, and where none
does, what it reads is left pending. -/
theorem kvLoads : Obligations.KvLoads := by
  refine ⟨fun o k e s h => ?_, fun o k e s h => ?_, fun o k e s h => ?_, fun o k e s h => ?_⟩
  case refine_1 =>
    cases checks : firstTrap e [0, 4] false (addrOf o e) with
    | some c => exact kvTraps_of_trap h rfl (access_trap checks)
    | none => exact fun intact => delivers_of_load h rfl ((access_pass checks).trans (readData_intact intact ..))
  case refine_2 =>
    cases checks : firstTrap e [1, 2, 3] false (addrOf o e) with
    | some c => exact kvTraps_of_trap h rfl (access_trap checks)
    | none => exact delivers_of_load h rfl (access_pass checks)
  case refine_3 =>
    intro n
    by_cases lane : 48 ≤ n
    · rw [if_pos lane]
      exact kvTraps_of_trap h rfl (bitLane_trap lane)
    rw [if_neg lane]
    cases checks : firstTrap e [0] false (addrOf o e) with
    | some c => exact kvTraps_of_trap h rfl ((bitLane_pass lane).trans (access_trap checks))
    | none =>
      exact fun intact => delivers_of_loadPred h rfl
        (((bitLane_pass lane).trans (access_pass checks)).trans (readData_intact intact ..))
  case refine_4 =>
    intro n
    by_cases lane : 48 ≤ n
    · rw [if_pos lane]
      exact kvTraps_of_trap h rfl (bitLane_trap lane)
    rw [if_neg lane]
    cases checks : firstTrap e [1, 2, 3] false (addrOf o e) with
    | some c => exact kvTraps_of_trap h rfl ((bitLane_pass lane).trans (access_trap checks))
    | none => exact delivers_of_loadPred h rfl ((bitLane_pass lane).trans (access_pass checks))

/-! ### Stores (04 R114, R116, R117) -/

theorem storesOn_append (v : Word) (a b : List CoreWrite) : storesOn v (a ++ b) = storesOn (storesOn v a) b := List.foldl_append

section Rows
variable {i : Kv → Instr} {o : Kv} {len k : Nat} {e : Ex} {s : State} {body : Kv → Nat → Ex → State → KvRes}

/-- An access whose body answers a store to lanes of a word: the word takes them over what the core finds there, and what
higher-numbered cores have stored to it in the cycle stands over it; every other word is as before. -/
theorem stores_of_writeData {pl : Place} {mask v : Word} (h : KvIssues i o len k e s) (row : exec (i o) s = kvRun i body o s)
    (answer : body o k (openDistances e) (issueCycle o.core.val s) =
      kvOk (postInc o (openDistances e)) (writeData k (openDistances e) pl mask v (issueCycle o.core.val s))) :
    ∃ e' d words, exec (i o) s = .next (setEx k (some e')
        { s with core := { s.core with data := d, cyc := { (issueCycle o.core.val s).core.cyc with words } } }) ∧
      Replaced s.core.data d (placeKey k e pl)
        (storesOn ((coreWord e.core (placeKey k e pl) (issueCycle o.core.val s) &&& ~~~mask) ||| (v &&& mask))
          ((wordCycle (placeKey k e pl) (issueCycle o.core.val s)).writes.filter (fun x => e.core ≤ x.core))) ∧
      Incremented o e e' ∧ KvKeeps len (incOf o) none e e' := by
  rw [postInc_accessed] at answer
  refine ⟨_, _, _, exec_of_kvOk h row answer, fun b => ?_, retire_accessed_increments, retire_accessed_keeps (by simp)⟩
  rw [wget_wput, storesOn_append]
  rfl

/-- An access whose body answers a write of the output image: the write is pending in the execution. -/
theorem holds_of_addImst {w : Nat} {v : Word} (h : KvIssues i o len k e s) (row : exec (i o) s = kvRun i body o s)
    (answer : body o k (openDistances e) (issueCycle o.core.val s) =
      kvOk (postInc o (addImst w v (openDistances e))) (issueCycle o.core.val s)) :
    ∃ e', exec (i o) s = .next (setEx k (some e') (issueCycle o.core.val s)) ∧ WithImst e e' w v ∧ Incremented o e e' ∧
      KvKeeps len (incOf o) none e e' := by
  rw [addImst_accessed] at answer
  exact ⟨_, exec_of_kvOk h row answer, retire_imPend .., retire_accessed_increments, retire_accessed_keeps (by simp)⟩

end Rows

/-- A store of the whole word leaves nothing of what was there. -/
theorem masked_whole (u v : Word) : (u &&& ~~~(BitVec.allOnes 48)) ||| (v &&& BitVec.allOnes 48) = v := by
  rw [BitVec.not_allOnes, BitVec.and_zero, BitVec.and_allOnes, BitVec.zero_or]

/-- A store of one lane changes that lane alone, whatever the other lanes of the stored word hold. -/
theorem getLsbD_masked_lane {n : Nat} (hn : n < 48) (u v : Word) (b : Bool) {j : Nat} (hj : j < 48) :
    ((u &&& ~~~(wd (2 ^ n))) ||| (setBit v n b &&& wd (2 ^ n))).getLsbD j = if j = n then b else u.getLsbD j := by
  have mask : (wd (2 ^ n)).getLsbD j = decide (j = n) := by
    rw [BitVec.getLsbD_ofNat, Nat.testBit_two_pow]
    simp [hj, eq_comm]
  rw [BitVec.getLsbD_or, BitVec.getLsbD_and, BitVec.getLsbD_and, BitVec.getLsbD_not, mask, getLsbD_setBit hn]
  by_cases here : j = n <;> simp [here, hj]

/-- Settles O9 (a store leaves the error mark of its word by log 13): each store traps with the first check that fails; where none does, a
data store changes its word alone (`stores_of_writeData`), and an image store is held in the execution (`holds_of_addImst`). -/
theorem kvStores : Obligations.KvStores := by
  refine ⟨fun o k e s h => ?_, fun o k e s h => ?_, fun o k e s h => ?_, fun o k e s h => ?_⟩
  case refine_1 =>
    cases checks : firstTrap e [0] true (addrOf o e) with
    | some c => exact kvTraps_of_trap h rfl (access_trap checks)
    | none =>
      obtain ⟨e', d, words, ran, replaced, rest⟩ := stores_of_writeData h rfl (access_pass checks)
      rw [masked_whole] at replaced
      exact ⟨e', d, words, ran, replaced, rest⟩
  case refine_2 =>
    cases checks : firstTrap e [2] true (addrOf o e) with
    | some c => exact kvTraps_of_trap h rfl (access_trap checks)
    | none => exact holds_of_addImst h rfl (access_pass checks)
  case refine_3 =>
    intro n
    by_cases lane : 48 ≤ n
    · rw [if_pos lane]
      exact kvTraps_of_trap h rfl (bitLane_trap lane)
    rw [if_neg lane]
    cases checks : firstTrap e [0] true (addrOf o e) with
    | some c => exact kvTraps_of_trap h rfl ((bitLane_pass lane).trans (access_trap checks))
    | none =>
      intro intact
      obtain ⟨e', d, words, ran, replaced, rest⟩ := stores_of_writeData h rfl
        (((bitLane_pass lane).trans (access_pass checks)).trans (readData_intact intact ..))
      exact ⟨e', d, words, _, ran, replaced, fun j hj => getLsbD_masked_lane (Nat.lt_of_not_le lane) _ _ _ hj, rest⟩
  case refine_4 =>
    intro n
    by_cases lane : 48 ≤ n
    · rw [if_pos lane]
      exact kvTraps_of_trap h rfl (bitLane_trap lane)
    rw [if_neg lane]
    cases checks : firstTrap e [2] true (addrOf o e) with
    | some c => exact kvTraps_of_trap h rfl ((bitLane_pass lane).trans (access_trap checks))
    | none =>
      obtain ⟨e', ran, held, rest⟩ := holds_of_addImst h rfl ((bitLane_pass lane).trans (access_pass checks))
      exact ⟨e', _, ran, held, fun j _ => getLsbD_setBit (Nat.lt_of_not_le lane) _ _ j, rest⟩

end Sys2Proof.Machine
end

section
/-! SUPPORT. NOP, TEND, branches, calls, returns and LOOP (03 R76, R87 to R92; 04 R118). Obligation O10. -/

namespace Sys2Proof.Machine

/-! ### Control instructions and the end of a loop's body (03 R90) -/

theorem ctl_trap {e : Ex} (last : atLoopEnd e = true) (r : KvRes) : ctl e r = .trap trLoopFault 0 := if_pos last

theorem ctl_pass {e : Ex} (away : atLoopEnd e = false) (r : KvRes) : ctl e r = r := by
  unfold ctl; rw [away]; rfl

/-- What the rows of a control instruction have in common: their body is guarded by the loop end. -/
theorem kvTraps_of_ctl {i : Kv → Instr} {o : Kv} {len k : Nat} {e : Ex} {s : State} {body : Kv → Nat → Ex → State → KvRes}
    (h : KvIssues i o len k e s) (last : atLoopEnd (openDistances e) = true)
    (row : exec (i o) s = kvRun i (fun o k e s => ctl e (body o k e s)) o s) : KvTraps i o k e s 0x04 0 :=
  kvTraps_of_trap h row (ctl_trap last _)

/-! ### Targets (03 R87, R92; 04 Table 4-8) -/

theorem jump_inside {e : Ex} {t : Nat} (inside : t < codeLimit e) (e' : Ex) (s : State) :
    jump t e' (openDistances e) s = .ok e' s (some t) 2 := by
  refine if_neg (Nat.not_le.mpr ?_)
  rw [fld_bottom]; exact inside

theorem jump_outside {e : Ex} {t : Nat} (outside : ¬ t < codeLimit e) (e' : Ex) (s : State) :
    jump t e' (openDistances e) s = .trap trCodeLimit t := by
  refine if_pos ?_
  rw [fld_bottom]; exact Nat.le_of_not_lt outside

/-- The target of a branch or call: relative to the instruction by IMM, or the low 22 bits of Ws. -/
def targetOf (o : Kv) (e : Ex) : Nat :=
  if o.m = 0#2 then (((e.pc : Int) + o.imm.toInt) % 2 ^ 22).toNat else (rW e o.s).toNat % 2 ^ 22

theorem branchTarget_eq (o : Kv) (e : Ex) : branchTarget o (openDistances e) = targetOf o e := by
  unfold branchTarget targetOf
  refine if_congr Iff.rfl ?_ (fld_bottom _ _)
  have imm : (sx o).toInt = o.imm.toInt := toInt_sx o
  rw [BitVec.toInt_eq_toNat_cond] at imm
  rw [BitVec.toNat_add, BitVec.toNat_ofNat, openDistances_pc]
  have := (sx o).isLt
  split at imm <;> omega

/-- Leaving loops only ends them. -/
theorem leaveLoops_ldepth (t : Nat) (fuel : Nat) (e : Ex) : ∃ d ≤ e.ldepth, leaveLoops t fuel e = { e with ldepth := d } := by
  induction fuel generalizing e with
  | zero => exact ⟨_, Nat.le_refl _, rfl⟩
  | succ n ih =>
    unfold leaveLoops; extract_lets d
    split
    · exact ⟨_, Nat.le_refl _, rfl⟩
    · obtain ⟨d', le, eq⟩ := ih { e with ldepth := d }
      exact ⟨d', Nat.le_trans le (Nat.sub_le ..), eq⟩

/-! ### What each row does -/

section Rows
variable {o : Kv} {len k : Nat} {e : Ex} {s : State}

/-- A control instruction away from every loop end that jumps inside CSEG goes to its target, in two cycles. -/
theorem exec_of_jump {i : Kv → Instr} {body : Kv → Nat → Ex → State → KvRes} {e1 : Ex} {t : Nat} (h : KvIssues i o len k e s)
    (away : atLoopEnd (openDistances e) = false) (paid : budgetOf s k = 0 ∨ e.cycles + 2 ≤ budgetOf s k) (inside : t < codeLimit e)
    (row : exec (i o) s = kvRun i (fun o k e s => ctl e (body o k e s)) o s)
    (answer : body o k (openDistances e) (issueCycle o.core.val s) = jump t e1 (openDistances e) (issueCycle o.core.val s)) :
    exec (i o) s = .next (setEx k (some (retire len (some t) 2 e1)) (issueCycle o.core.val s)) :=
  exec_of_ok h row ((ctl_pass away _).trans (answer.trans (jump_inside inside _ _))) paid

/-- One that jumps outside CSEG traps with its target (03 R87). -/
theorem kvTraps_of_jump {i : Kv → Instr} {body : Kv → Nat → Ex → State → KvRes} {e1 : Ex} {t : Nat} (h : KvIssues i o len k e s)
    (away : atLoopEnd (openDistances e) = false) (outside : ¬ t < codeLimit e)
    (row : exec (i o) s = kvRun i (fun o k e s => ctl e (body o k e s)) o s)
    (answer : body o k (openDistances e) (issueCycle o.core.val s) = jump t e1 (openDistances e) (issueCycle o.core.val s)) :
    KvTraps i o k e s 0x01 t :=
  kvTraps_of_trap h row ((ctl_pass away _).trans (answer.trans (jump_outside outside _ _)))

theorem nop_idles (h : KvIssues .nop o 1 k e s) :
    ∃ e', exec (.nop o) s = .next (setEx k (some e') (issueCycle o.core.val s)) ∧ e'.sat = e.sat ∧ KvKeeps 1 none none e e' :=
  ⟨_, exec_of_kvOk h rfl rfl, retire_sat .., retire_keeps_idle 1 e⟩

theorem tend_ends (h : KvIssues .tend o 1 k e s) (away : atLoopEnd (openDistances e) = false) :
    Answers (exec (.tend o) s) (fun t => ∃ e', taskEx t k = some e' ∧ e'.phase = 3 ∧ e'.tendAt = s.clk ∧ e'.loads = [] ∧
      t.img = s.img ∧ fld (taskEnt t k).stat 47 24 = max (fld (taskEnt s k).stat 47 24) (min (2 ^ 24 - 1) ((s.clk - e.relAt) / 1000))) := by
  refine ⟨_, exec_of_kvOk h rfl (ctl_pass away _), _, taskEx_setEx_same .., retire_phase .., retire_tendAt .., retire_loads .., rfl, ?_⟩
  have greatest := fld_lt (taskEnt s k).stat 47 24
  show fld (taskEnt (updTask k _ (issueCycle o.core.val s)) k).stat 47 24 = _
  rw [taskEnt_updTask_same, fld_setFld_same (by decide)]
  refine Nat.mod_eq_of_lt (Nat.max_lt.mpr ⟨greatest, ?_⟩)
  exact Nat.lt_of_le_of_lt (Nat.min_le_left ..) (by decide)

theorem ret_returns (h : KvIssues .ret o 1 k e s) (away : atLoopEnd (openDistances e) = false)
    (paid : budgetOf s k = 0 ∨ e.cycles + 2 ≤ budgetOf s k) :
    let a := (rW e 15#4).toNat % 2 ^ 22
    if a < codeLimit e then ∃ e', exec (.ret o) s = .next (setEx k (some e') (issueCycle o.core.val s)) ∧ e'.pc = a ∧
      e'.cycles = e.cycles + 2 ∧ e'.n = e.n + 1
    else KvTraps .ret o k e s 0x01 a := by
  intro a
  have target : fld (rW (openDistances e) 15#4) 21 0 = a := fld_bottom _ _
  split
  next inside =>
    exact ⟨_, exec_of_jump (e1 := openDistances e) h away paid inside rfl (by rw [target]), by rw [retire_jump], retire_cycles .., retire_n ..⟩
  next outside => exact kvTraps_of_jump (e1 := openDistances e) h away outside rfl (by rw [target])

theorem br_branches (h : KvIssues .br o (lenByM o) k e s) (away : atLoopEnd (openDistances e) = false)
    (paid : budgetOf s k = 0 ∨ e.cycles + 2 ≤ budgetOf s k) :
    if targetOf o e < codeLimit e then ∃ e', exec (.br o) s = .next (setEx k (some e') (issueCycle o.core.val s)) ∧ e'.pc = targetOf o e ∧
      e'.cycles = e.cycles + 2 ∧ e'.n = e.n + 1 ∧ e'.ldepth ≤ e.ldepth
    else KvTraps .br o k e s 0x01 (targetOf o e) := by
  split
  next inside =>
    obtain ⟨d, le, left⟩ := leaveLoops_ldepth (targetOf o e) 4 (openDistances e)
    refine ⟨_, exec_of_jump (e1 := { openDistances e with ldepth := d }) h away paid inside rfl ?_, ?_, retire_cycles .., retire_n .., ?_⟩
    · rw [branchTarget_eq, left]
    · rw [retire_jump]
    · rw [retire_jump]
      simpa [landLoads_fields] using le
  next outside => exact kvTraps_of_jump h away outside rfl (by rw [branchTarget_eq])

theorem call_calls (h : KvIssues .call o (lenByM o) k e s) (away : atLoopEnd (openDistances e) = false)
    (paid : budgetOf s k = 0 ∨ e.cycles + 2 ≤ budgetOf s k) :
    if targetOf o e < codeLimit e then ∃ e', exec (.call o) s = .next (setEx k (some e') (issueCycle o.core.val s)) ∧ e'.pc = targetOf o e ∧
      e'.cycles = e.cycles + 2 ∧ e'.n = e.n + 1 ∧ e'.ldepth = e.ldepth ∧ (rW e' 15#4).toNat = (e.pc + lenByM o) % 2 ^ 22
    else KvTraps .call o k e s 0x01 (targetOf o e) := by
  have length : codeLenAt (issueCycle o.core.val s) (openDistances e).tenant (openDistances e).pc = lenByM o := h.length
  split
  next inside =>
    refine ⟨_, exec_of_jump (e1 := wW 15#4 (wd ((e.pc + lenByM o) % 2 ^ 22)) (openDistances e)) h away paid inside rfl
      (by rw [branchTarget_eq, length]; rfl), ?_, retire_cycles .., retire_n .., ?_, ?_⟩
    · rw [retire_jump]
    · rw [retire_jump]; simp [landLoads_fields, wW]
    · rw [rW_retire (.inl (by simp [wW])), rW_wW_same, BitVec.toNat_ofNat]
      exact Nat.mod_eq_of_lt (Nat.lt_of_lt_of_le (Nat.mod_lt _ (by decide)) (by decide))
  next outside => exact kvTraps_of_jump h away outside rfl (by rw [branchTarget_eq])

/-- LOOP faults: no loop set is left, the body is empty, or it does not lie inside the body of the loop around it (03 R90). -/
abbrev LoopFaults (e : Ex) : Prop :=
  4 ≤ e.ldepth ∨ lpAt e (4 + e.ldepth) ≤ lpAt e e.ldepth ∨
    (0 < e.ldepth ∧ (lpAt e e.ldepth < lpAt e (e.ldepth - 1) ∨ lpAt e (3 + e.ldepth) < lpAt e (4 + e.ldepth)))

/-- The model's two conditions for a fault, in the order that it asks them. -/
theorem loopFaults_iff (e : Ex) : LoopFaults e ↔ 4 ≤ e.ldepth ∨ (¬ 4 ≤ e.ldepth ∧ (lpAt e (4 + e.ldepth) ≤ lpAt e e.ldepth ∨
    (0 < e.ldepth ∧ (lpAt e e.ldepth < lpAt e (e.ldepth - 1) ∨ lpAt e (4 + (e.ldepth - 1)) < lpAt e (4 + e.ldepth))))) := by
  unfold LoopFaults
  by_cases inner : 0 < e.ldepth
  · rw [show 4 + (e.ldepth - 1) = 3 + e.ldepth by omega]
    tauto
  · simp only [inner]; tauto

/-- What LOOP does away from every loop end. -/
def loopEffect (e : Ex) (s : State) : KvRes :=
  if 4 ≤ e.ldepth then .trap trLoopFault 0
  else if lpe e e.ldepth ≤ lps e e.ldepth ∨
      (0 < e.ldepth ∧ (lps e e.ldepth < lps e (e.ldepth - 1) ∨ lpe e (e.ldepth - 1) < lpe e e.ldepth)) then .trap trLoopFault 0
  else if lpc e e.ldepth = 0 then .ok e s (some ((lpe e e.ldepth + codeLenAt s e.tenant (lpe e e.ldepth)) % 2 ^ 22)) 2
  else .ok { e with ldepth := e.ldepth + 1 } s (some (lps e e.ldepth)) (if lps e e.ldepth = e.pc + 1 then 1 else 2)

theorem exec_loop (o : Kv) (s : State) : exec (.loop o) s = kvRun .loop (fun _ _ e s => ctl e (loopEffect e s)) o s := rfl

theorem loopEffect_fault (s : State) (fault : LoopFaults e) : loopEffect (openDistances e) s = .trap trLoopFault 0 := by
  rcases (loopFaults_iff e).mp fault with deep | ⟨shallow, body⟩
  · exact if_pos deep
  · exact (if_neg shallow).trans (if_pos body)

theorem loopEffect_skip (s : State) (sound : ¬ LoopFaults e) (none : lpAt e (8 + e.ldepth) = 0) :
    loopEffect (openDistances e) s =
      .ok (openDistances e) s (some ((lpAt e (4 + e.ldepth) + codeLenAt s e.tenant (lpAt e (4 + e.ldepth))) % 2 ^ 22)) 2 := by
  obtain ⟨shallow, body⟩ := not_or.mp (mt (loopFaults_iff e).mpr sound)
  exact (if_neg shallow).trans ((if_neg fun faulty => body ⟨shallow, faulty⟩).trans (if_pos none))

theorem loopEffect_enter (s : State) (sound : ¬ LoopFaults e) (rounds : lpAt e (8 + e.ldepth) ≠ 0) :
    loopEffect (openDistances e) s =
      .ok { openDistances e with ldepth := e.ldepth + 1 } s (some (lpAt e e.ldepth)) (if lpAt e e.ldepth = e.pc + 1 then 1 else 2) := by
  obtain ⟨shallow, body⟩ := not_or.mp (mt (loopFaults_iff e).mpr sound)
  exact (if_neg shallow).trans ((if_neg fun faulty => body ⟨shallow, faulty⟩).trans (if_neg rounds))

theorem loop_loops (h : KvIssues .loop o 1 k e s) (away : atLoopEnd (openDistances e) = false)
    (paid : budgetOf s k = 0 ∨ e.cycles + 2 ≤ budgetOf s k) :
    if LoopFaults e then KvTraps .loop o k e s 0x04 0
    else if lpAt e (8 + e.ldepth) = 0 then
      ∃ e', exec (.loop o) s = .next (setEx k (some e') (issueCycle o.core.val s)) ∧ e'.ldepth = e.ldepth ∧
        e'.pc = (lpAt e (4 + e.ldepth) + codeLenAt s e.tenant (lpAt e (4 + e.ldepth))) % 2 ^ 22 ∧ e'.cycles = e.cycles + 2
    else
      ∃ e', exec (.loop o) s = .next (setEx k (some e') (issueCycle o.core.val s)) ∧ e'.ldepth = e.ldepth + 1 ∧ e'.pc = lpAt e e.ldepth ∧
        e'.cycles = e.cycles + (if lpAt e e.ldepth = e.pc + 1 then 1 else 2) := by
  split
  next fault => exact kvTraps_of_trap h (exec_loop o s) ((ctl_pass away _).trans (loopEffect_fault _ fault))
  next sound =>
  split
  next none =>
    refine ⟨_, exec_of_ok h (exec_loop o s) ((ctl_pass away _).trans (loopEffect_skip _ sound none)) paid, ?_, ?_, retire_cycles ..⟩
    · rw [retire_jump]; simp [landLoads_fields]
    · rw [retire_jump]; rfl
  next rounds =>
    have paid' : budgetOf s k = 0 ∨ e.cycles + (if lpAt e e.ldepth = e.pc + 1 then 1 else 2) ≤ budgetOf s k := by
      refine paid.imp_right fun fits => ?_
      split <;> omega
    refine ⟨_, exec_of_ok h (exec_loop o s) ((ctl_pass away _).trans (loopEffect_enter _ sound rounds)) paid', ?_, ?_, retire_cycles ..⟩
    · rw [retire_jump]; simp [landLoads_fields]
    · rw [retire_jump]

end Rows

/-- Settles O10 (the fault at a loop's end before the target's check by log 121, the cost of a LOOP with count 0 by log 97): at the end of
a loop's body every control instruction traps; elsewhere each does what its row says. -/
theorem kvControl : Obligations.KvControl := by
  refine ⟨fun _ _ _ _ => nop_idles, fun i member o len k e s h last => ?_, fun _ _ _ _ => tend_ends, fun _ _ _ _ => ret_returns,
    fun _ _ _ _ => br_branches, fun _ _ _ _ => call_calls, fun _ _ _ _ => loop_loops⟩
  simp only [List.mem_cons, List.not_mem_nil, or_false] at member
  obtain rfl | rfl | rfl | rfl | rfl := member <;> exact kvTraps_of_ctl h last rfl

end Sys2Proof.Machine
end

section
/-! SUPPORT. The decoder against the table of KV48 instructions: which lines of the encoding belong to a row, what decodes to a row, and
syllables that spell it (03 R74, R75, R99; 04 R106, R119). A false guard (03 R78). Obligation O13. -/

namespace Sys2Proof.Machine

/-! ### Rows and lines

The table of the statements and the encoding both name rows by functions from operands to instructions. Rows are compared by the number
of the constructor that they build, so that the facts about the two lists are checks of finite data. -/

/-- The fields that decide an instruction's length: M, and whether its special register exists. -/
def lengthFields (m : BitVec 2) (special : Bool) : Kv :=
  { core := 0, g := 0, n := false, d := 0, s := 0, t := 0, m, imm := if special then 0 else 0x0D }

/-- The number of the constructor that a row builds. -/
def rowNo (row : Kv → Instr) : Nat := (row (lengthFields 0 true)).ctorIdx

/-- The line of the encoding that belongs to a row with modifier m. -/
def lineOf (row : Kv → Instr) (m : Nat) : Option KvForm := kvForms.find? (fun f => rowNo f.row == rowNo row && f.ms.contains m)

/-- The length of a line, where the special register exists that a line of MFS or MTS asks for (04 R119). -/
def lineLength (special : Bool) (f : KvForm) : Option Nat :=
  if (f.op ≠ 0x70 ∧ f.op ≠ 0x71) ∨ special = true then some f.len else none

theorem forall_mem_of_map_eq {α β : Type} {l : List α} {f g : α → β} (h : l.map f = l.map g) : ∀ x ∈ l, f x = g x :=
  List.map_inj_left.mp h

theorem kvTable_builds : ∀ x ∈ kvTable, (fun o => (x.1 o).ctorIdx) = fun _ => rowNo x.1 := forall_mem_of_map_eq rfl

theorem kvForms_build : ∀ f ∈ kvForms, (fun o => (f.row o).ctorIdx) = fun _ => rowNo f.row := forall_mem_of_map_eq rfl

/-- The row of the table with a number. -/
def rowAt (n : Nat) : Option (Kv → Instr) := (kvTable.find? (fun x => rowNo x.1 == n)).map (·.1)

theorem rowAt_kvTable : ∀ x ∈ kvTable, rowAt (rowNo x.1) = some x.1 := forall_mem_of_map_eq rfl

theorem rowAt_kvForms : ∀ f ∈ kvForms, rowAt (rowNo f.row) = some f.row := forall_mem_of_map_eq rfl

theorem lineOf_kvForms : ∀ f ∈ kvForms, f.ms.map (lineOf f.row) = f.ms.map (fun _ => some f) := forall_mem_of_map_eq rfl

theorem kvForm_kvForms : ∀ f ∈ kvForms, f.ms.map (kvForm f.op) = f.ms.map (fun _ => some f) := forall_mem_of_map_eq rfl

theorem kvTable_injective : ∀ x ∈ kvTable, ∀ o o', x.1 o = x.1 o' → o = o' := by simp [kvTable]

theorem lenM_fields (m n : Nat) (o : Kv) (b : Bool) : lenM m n (lengthFields o.m b) = lenM m n o := rfl
theorem lenTwo_fields (o : Kv) (b : Bool) : lenTwo (lengthFields o.m b) = lenTwo o := rfl
theorem lenWord_fields (o : Kv) (b : Bool) : lenWord (lengthFields o.m b) = lenWord o := rfl
theorem lenBit_fields (o : Kv) (b : Bool) : lenBit (lengthFields o.m b) = lenBit o := rfl
theorem lenSpecial_fields (o : Kv) : lenSpecial (lengthFields o.m (specialOk o.imm.toNat)) = lenSpecial o := by
  unfold lenSpecial lengthFields specialOk
  by_cases h : o.imm.toNat ≤ 12 ∨ 16 ≤ o.imm.toNat ∧ o.imm.toNat ≤ 24 <;> simp [h]

theorem kvTable_length_fields : ∀ x ∈ kvTable, ∀ o, x.2 (lengthFields o.m (specialOk o.imm.toNat)) = x.2 o := by
  simp [kvTable, lenM_fields, lenTwo_fields, lenWord_fields, lenBit_fields, lenSpecial_fields]

theorem kvTable_lineLength : ∀ (m : BitVec 2) (special : Bool), ∀ x ∈ kvTable,
    x.2 (lengthFields m special) = (lineOf x.1 m.toNat).bind (lineLength special) := by
  unfold lineLength
  decide +kernel

/-- The length of a row by the table is that of its line in the encoding. -/
theorem kvTable_length {x : (Kv → Instr) × (Kv → Option Nat)} (hx : x ∈ kvTable) (o : Kv) :
    x.2 o = (lineOf x.1 o.m.toNat).bind (lineLength (specialOk o.imm.toNat)) :=
  (kvTable_length_fields x hx o).symm.trans (kvTable_lineLength _ _ x hx)

/-- Rows that build the same instruction are the same row, of the same operands. -/
theorem kvTable_row_eq {x : (Kv → Instr) × (Kv → Option Nat)} (hx : x ∈ kvTable) {f : KvForm} (hf : f ∈ kvForms) {o o' : Kv}
    (same : x.1 o = f.row o') : x.1 = f.row ∧ o = o' := by
  have number : rowNo x.1 = rowNo f.row := calc
    rowNo x.1 = (x.1 o).ctorIdx := (congrFun (kvTable_builds x hx) o).symm
    _ = (f.row o').ctorIdx := by rw [same]
    _ = rowNo f.row := congrFun (kvForms_build f hf) o'
  have row : x.1 = f.row := Option.some.inj ((rowAt_kvTable x hx).symm.trans ((congrArg rowAt number).trans (rowAt_kvForms f hf)))
  exact ⟨row, kvTable_injective x hx o o' (same.trans (congrFun row o').symm)⟩

/-- The line of a row is in the encoding, holds the modifier and leads to the row. -/
theorem lineOf_some {x : (Kv → Instr) × (Kv → Option Nat)} (hx : x ∈ kvTable) {m : Nat} {f : KvForm} (line : lineOf x.1 m = some f) :
    f ∈ kvForms ∧ m ∈ f.ms ∧ f.row = x.1 := by
  have hf := List.mem_of_find?_eq_some line
  have found := List.find?_some line
  rw [Bool.and_eq_true, beq_iff_eq, List.contains_iff_mem] at found
  obtain ⟨number, modifier⟩ := found
  exact ⟨hf, modifier, Option.some.inj ((rowAt_kvForms f hf).symm.trans ((congrArg rowAt number).trans (rowAt_kvTable x hx)))⟩

/-! ### What decodes to a row -/

/-- Syllables that decode stand on a line of the encoding. -/
theorem kvDecode_some {c : Fin 8} {s0 s1 s2 : Nat} {i : Instr} (h : kvDecode c s0 s1 s2 = some i) :
    ∃ f ∈ kvForms, i = f.row (kvFields c s0 s1 s2) ∧ (kvFields c s0 s1 s2).m.toNat ∈ f.ms ∧
      lineLength (specialOk (kvFields c s0 s1 s2).imm.toNat) f = some (sylLen s0) := by
  unfold kvDecode at h
  extract_lets o at h
  cases line : kvForm (s0 % 2 ^ 8) o.m.toNat with
  | none => rw [line] at h; cases h
  | some f =>
    have found := List.find?_some line
    rw [Bool.and_eq_true, List.contains_iff_mem] at found
    rw [line] at h
    by_cases legal : f.len = sylLen s0 ∧ ((f.op ≠ 0x70 ∧ f.op ≠ 0x71) ∨ specialOk o.imm.toNat)
    · have row : f.row o = i := Option.some.inj ((if_pos legal).symm.trans h)
      exact ⟨f, List.mem_of_find?_eq_some line, row.symm, found.2, (if_pos legal.2).trans (by rw [legal.1])⟩
    · exact absurd ((if_neg legal).symm.trans h) (by simp)

/-- What decodes to a row of the table has the row's length. -/
theorem length_of_kvDecode {x : (Kv → Instr) × (Kv → Option Nat)} (hx : x ∈ kvTable) {c : Fin 8} {o : Kv} {s0 s1 s2 : Nat}
    (h : kvDecode c s0 s1 s2 = some (x.1 o)) : x.2 o = some (sylLen s0) := by
  obtain ⟨f, hf, row, modifier, length⟩ := kvDecode_some h
  obtain ⟨same, fields⟩ := kvTable_row_eq hx hf row
  rw [← fields] at modifier length
  have line : lineOf x.1 o.m.toNat = some f := by
    rw [same]; exact List.map_inj_left.mp (lineOf_kvForms f hf) _ modifier
  rw [kvTable_length hx, line]
  exact length

/-! ### Syllables that spell a row -/

/-- Syllable 0 of an instruction of len syllables with opcode op (03 Table 3-2). -/
def syllable0 (o : Kv) (len op : Nat) : BitVec 14 :=
  BitVec.ofNat 14 (o.g.toNat * 2 ^ 11 + (if o.n then 2 ^ 10 else 0) + (len - 1) * 2 ^ 8 + op)

/-- Syllable 1: the registers and M. -/
def syllable1 (o : Kv) : BitVec 14 := BitVec.ofNat 14 (o.d.toNat * 2 ^ 10 + o.s.toNat * 2 ^ 6 + o.t.toNat * 2 ^ 2 + o.m.toNat)

section Syllables
variable {o : Kv} {len op : Nat}

theorem toNat_syllable0 (hlen : 1 ≤ len ∧ len ≤ 3) (hop : op < 2 ^ 8) :
    (syllable0 o len op).toNat = o.g.toNat * 2 ^ 11 + (if o.n then 2 ^ 10 else 0) + (len - 1) * 2 ^ 8 + op := by
  have := o.g.isLt
  unfold syllable0
  rw [BitVec.toNat_ofNat, Nat.mod_eq_of_lt]
  split <;> omega

theorem toNat_syllable1 : (syllable1 o).toNat = o.d.toNat * 2 ^ 10 + o.s.toNat * 2 ^ 6 + o.t.toNat * 2 ^ 2 + o.m.toNat := by
  have := o.d.isLt; have := o.s.isLt; have := o.t.isLt; have := o.m.isLt
  unfold syllable1
  rw [BitVec.toNat_ofNat, Nat.mod_eq_of_lt]
  omega

theorem sylLen_syllable0 (hlen : 1 ≤ len ∧ len ≤ 3) (hop : op < 2 ^ 8) : sylLen (syllable0 o len op).toNat = len := by
  unfold sylLen
  rw [toNat_syllable0 hlen hop]
  split <;> omega

theorem opcode_syllable0 (hlen : 1 ≤ len ∧ len ≤ 3) (hop : op < 2 ^ 8) : (syllable0 o len op).toNat % 2 ^ 8 = op := by
  rw [toNat_syllable0 hlen hop]
  split <;> omega

/-- The syllables carry the operands that the format of their length holds. -/
theorem kvFields_syllables (hlen : 1 ≤ len ∧ len ≤ 3) (hop : op < 2 ^ 8) (format : FormatHolds len o) (short : len = 1 → o.m = 0#2) :
    kvFields o.core (syllable0 o len op).toNat (syllable1 o).toNat o.imm.toNat = o := by
  have first := toNat_syllable0 (o := o) hlen hop
  have second := toNat_syllable1 (o := o)
  have length := sylLen_syllable0 (o := o) hlen hop
  obtain ⟨one, two⟩ := format
  unfold kvFields
  rw [length]
  generalize (syllable0 o len op).toNat = x at first ⊢
  generalize (syllable1 o).toNat = y at second ⊢
  have guard : BitVec.ofNat 3 (x / 2 ^ 11) = o.g := by
    apply BitVec.eq_of_toNat_eq
    rw [BitVec.toNat_ofNat, first]; split <;> omega
  have inverse : (x / 2 ^ 10 % 2 == 1) = o.n := by
    rw [first]
    cases o.n
    · rw [beq_eq_false_iff_ne, if_neg Bool.false_ne_true]; omega
    · rw [beq_iff_eq, if_pos rfl]; omega
  have imm : (if len ≤ 2 then 0 else BitVec.ofNat 14 o.imm.toNat) = o.imm := by
    split
    next short => exact (two short).symm
    next => simp
  have registers : BitVec.ofNat 4 ((if len = 1 then 0 else y) / 2 ^ 10) = o.d ∧ BitVec.ofNat 4 ((if len = 1 then 0 else y) / 2 ^ 6) = o.s ∧
      BitVec.ofNat 4 ((if len = 1 then 0 else y) / 2 ^ 2) = o.t ∧ BitVec.ofNat 2 (if len = 1 then 0 else y) = o.m := by
    by_cases alone : len = 1
    · obtain ⟨d, s, t⟩ := one alone
      rw [if_pos alone, d, s, t, short alone]
      exact ⟨rfl, rfl, rfl, rfl⟩
    · have := o.d.isLt; have := o.s.isLt; have := o.t.isLt; have := o.m.isLt
      rw [if_neg alone, second]
      refine ⟨?_, ?_, ?_, ?_⟩ <;> (apply BitVec.eq_of_toNat_eq; rw [BitVec.toNat_ofNat]; omega)
  obtain ⟨d, s, t, m⟩ := registers
  simp only [guard, inverse, imm, d, s, t, m]

end Syllables

/-- Every line has an opcode of 8 bits and a length of one to three syllables; one of a single syllable holds no M. -/
theorem kvForms_shape : ∀ f ∈ kvForms, f.op < 2 ^ 8 ∧ (1 ≤ f.len ∧ f.len ≤ 3) ∧ (f.len = 1 → ∀ m ∈ f.ms, m = 0) := by
  decide +kernel

/-- The line of a row spells it. -/
theorem kvDecode_syllables {f : KvForm} (hf : f ∈ kvForms) {o : Kv} (modifier : o.m.toNat ∈ f.ms) (format : FormatHolds f.len o)
    (length : lineLength (specialOk o.imm.toNat) f = some f.len) :
    sylLen (syllable0 o f.len f.op).toNat = f.len ∧
      kvDecode o.core (syllable0 o f.len f.op).toNat (syllable1 o).toNat o.imm.toNat = some (f.row o) := by
  obtain ⟨opcode, hlen, one⟩ := kvForms_shape f hf
  have fields := kvFields_syllables hlen opcode format (fun alone => BitVec.eq_of_toNat_eq (one alone _ modifier))
  have found : kvForm f.op o.m.toNat = some f := List.map_inj_left.mp (kvForm_kvForms f hf) _ modifier
  have legal : (f.op ≠ 0x70 ∧ f.op ≠ 0x71) ∨ specialOk o.imm.toNat = true := by
    by_contra illegal
    exact absurd ((if_neg illegal).symm.trans length) (by simp)
  refine ⟨sylLen_syllable0 hlen opcode, ?_⟩
  unfold kvDecode
  rw [fields, opcode_syllable0 hlen opcode, sylLen_syllable0 hlen opcode]
  simp only [found]
  exact if_pos ⟨trivial, legal⟩

theorem spells_of_length {x : (Kv → Instr) × (Kv → Option Nat)} (hx : x ∈ kvTable) {o : Kv} {len : Nat} (length : x.2 o = some len)
    (format : FormatHolds len o) : ∃ s0 s1 s2 : BitVec 14,
      sylLen s0.toNat = len ∧ kvDecode o.core s0.toNat s1.toNat s2.toNat = some (x.1 o) := by
  rw [kvTable_length hx, Option.bind_eq_some_iff] at length
  obtain ⟨f, line, length⟩ := length
  obtain ⟨hf, modifier, row⟩ := lineOf_some hx line
  have same : f.len = len := by
    unfold lineLength at length
    split at length
    · exact Option.some.inj length
    · cases length
  subst same
  rw [← row]
  exact ⟨_, _, _, kvDecode_syllables hf modifier format length⟩

/-! ### Rows run only where the code spells them, and under a true guard -/

/-- Every row of the table issues by way of kvRun. -/
theorem kvTable_runs : ∀ x ∈ kvTable, ∃ body, ∀ o s, exec (x.1 o) s = kvRun x.1 body o s := by
  simp only [kvTable, List.forall_mem_append, List.forall_mem_cons, List.not_mem_nil, IsEmpty.forall_iff, implies_true, and_true]
  repeat' apply And.intro
  all_goals exact ⟨_, fun _ _ => rfl⟩

theorem kvRun_of_uncoded {i : Kv → Instr} {body : Kv → Nat → Ex → State → KvRes} {o : Kv} {k : Nat} {e : Ex} {s : State}
    (running : issuing o.core.val s = some (k, e)) (uncoded : kvAt o.core e s ≠ some (i o)) : kvRun i body o s = .next s := by
  unfold kvRun kvIssue
  rw [running]
  exact congrArg _ (if_pos uncoded)

/-- Settles O13 (that a row runs only where the code at PC spells it is log 96): a false guard completes with no effect; the table's
lengths are those of the encoding's lines, so that what is undefined does not decode and what is defined is spelled by its line; a row
that the code does not spell is not run. -/
theorem kvFalseGuardAndUndefinedForms : Obligations.KvFalseGuardAndUndefinedForms := by
  refine ⟨fun x hx o len k e s _ skips => ?_, fun x hx o s0 s1 s2 undefined coded => ?_, fun x hx o len => spells_of_length hx,
    fun x hx o k e s running uncoded => ?_⟩
  · obtain ⟨body, runs⟩ := kvTable_runs x hx
    exact ⟨_, (runs o s).trans (kvRun_skips skips body), retire_sat .., retire_keeps_idle len e⟩
  · rw [length_of_kvDecode hx coded] at undefined
    cases undefined
  · obtain ⟨body, runs⟩ := kvTable_runs x hx
    exact (runs o s).trans (kvRun_of_uncoded running uncoded)

end Sys2Proof.Machine
end

section
/-! SUPPORT. MFS and MTS (03 R97, R98; 04 R119). Obligation O11. -/

namespace Sys2Proof.Machine

section Rows
variable {o : Kv} {k : Nat} {e : Ex} {s : State}

/-! ### MFS -/

theorem readSpecial_loop {n : Nat} (loop : n ≤ 0x0B) : readSpecial k n (openDistances e) = wget (openDistances e).lp n := if_pos loop

theorem readSpecial_tstat : readSpecial k 0x0C (openDistances e) = tstat k e := rfl

theorem readSpecial_segment {n : Nat} (low : 0x10 ≤ n) (high : n ≤ 0x17) :
    readSpecial k n (openDistances e) = setFld (e.segd.getD (n - 0x10) 0#48) 42 22 0 := by
  unfold readSpecial
  rw [if_neg (by omega), if_neg (by omega), if_neg (by omega)]; rfl

theorem readSpecial_code : readSpecial k 0x18 (openDistances e) = setFld (e.segd.getD 8 0#48) 44 23 0 := rfl

/-- A field that reads as 0 hides what it holds. -/
theorem getLsbD_setFld_zero {hi lo : Nat} (hhi : hi < 48) (w : Word) (j : Nat) :
    (setFld w hi lo 0).getLsbD j = (!decide (lo ≤ j ∧ j ≤ hi) && w.getLsbD j) := by
  rw [getLsbD_setFld hhi]
  by_cases h : lo ≤ j ∧ j ≤ hi <;> simp [h]

/-- The fields of TSTAT (03 Table 3-10) do not overlap. -/
theorem toNat_tstat (task : k < 256) (tenant : e.tenant < 32) (depth : e.ldepth < 8) :
    (tstat k e).toNat = k * 2 ^ 16 + e.tenant * 2 ^ 11 + e.ldepth * 2 ^ 8 + (if e.sat then 1 else 0) := by
  unfold tstat b2n
  rw [BitVec.toNat_ofNat, Nat.mod_eq_of_lt]
  split <;> omega

theorem mfs_reads (h : KvIssues .mfs o 3 k e s) :
    ∃ e', exec (.mfs o) s = .next (setEx k (some e') (issueCycle o.core.val s)) ∧ e'.sat = e.sat ∧ KvKeeps 3 (some o.d) none e e' ∧
      rW e' o.d = readSpecial k o.imm.toNat (openDistances e) := by
  obtain ⟨value, keeps⟩ := retire_wW 3 o.d (readSpecial k o.imm.toNat (openDistances e)) e
  exact ⟨_, exec_of_kvOk h rfl rfl, retire_sat .., keeps, value⟩

/-! ### MTS -/

/-- The row's code names a special register that exists. -/
theorem mts_names (h : KvIssues .mts o 3 k e s) : o.imm.toNat ≤ 0x0C ∨ 0x10 ≤ o.imm.toNat := by
  have length := length_of_kvDecode (x := (.mts, lenSpecial)) (by simp [kvTable]) h.coded
  by_contra undefined
  rw [not_or] at undefined
  have nothing : lenSpecial o = none := if_neg fun special => by omega
  cases nothing.symm.trans length

/-- What MTS refuses to write to a loop register or TSTAT (03 R98). -/
abbrev MtsRefuses (n v : Nat) : Prop :=
  (n ≤ 0x07 ∧ 2 ^ 22 ≤ v) ∨ (0x08 ≤ n ∧ n ≤ 0x0B ∧ 0x1000000 < v) ∨ (n = 0x0C ∧ (v / 2 ^ 24 ≠ 0 ∨ v / 2 % 2 ^ 7 ≠ 0))

theorem specialValueOk_iff {n : Nat} (special : n ≤ 0x0C) (v : Word) : specialValueOk n v = true ↔ ¬ MtsRefuses n v.toNat := by
  have := v.isLt
  unfold specialValueOk MtsRefuses
  rw [fld_eq_div, fld_eq_div]
  split
  · rw [decide_eq_true_eq]; omega
  · split
    · rw [decide_eq_true_eq]; omega
    · rw [Bool.and_eq_true, beq_iff_eq, beq_iff_eq]; omega

/-- What MTS does. -/
def mtsEffect (o : Kv) (e : Ex) (s : State) : KvRes :=
  if 0x10 ≤ o.imm.toNat then .trap trDescWrite 0
  else if !specialValueOk o.imm.toNat (rW e o.s) then .trap trBadValue (rW e o.s).toNat
  else if o.imm.toNat = 0x0C then kvOk { e with sat := e.sat && !(rW e o.s).getLsbD 0 } s
  else kvOk { e with lpPend := e.lpPend ++ [⟨o.imm.toNat, rW e o.s, e.n + 3⟩] } s

theorem exec_mts (o : Kv) (s : State) : exec (.mts o) s = kvRun .mts (fun o _ e s => mtsEffect o e s) o s := rfl

theorem mts_descriptor (h : KvIssues .mts o 3 k e s) (descriptor : 0x10 ≤ o.imm.toNat) : KvTraps .mts o k e s 0x05 0 :=
  kvTraps_of_trap h (exec_mts o s) (if_pos descriptor)

theorem mts_refused (h : KvIssues .mts o 3 k e s) (special : ¬ 0x10 ≤ o.imm.toNat) (refused : MtsRefuses o.imm.toNat (rW e o.s).toNat) :
    KvTraps .mts o k e s 0x06 (rW e o.s).toNat := by
  have named : o.imm.toNat ≤ 0x0C := (mts_names h).resolve_right special
  have bad : (!specialValueOk o.imm.toNat (rW e o.s)) = true := by
    rw [Bool.not_eq_true', ← Bool.not_eq_true, specialValueOk_iff named, not_not]; exact refused
  exact kvTraps_of_trap h (exec_mts o s) ((if_neg special).trans (if_pos bad))

theorem mtsEffect_accepted (h : KvIssues .mts o 3 k e s) (special : ¬ 0x10 ≤ o.imm.toNat)
    (accepted : ¬ MtsRefuses o.imm.toNat (rW e o.s).toNat) (s : State) : mtsEffect o (openDistances e) s =
      if o.imm.toNat = 0x0C then kvOk { openDistances e with sat := e.sat && !(rW e o.s).getLsbD 0 } s
      else kvOk { openDistances e with lpPend := (openDistances e).lpPend ++ [⟨o.imm.toNat, rW e o.s, e.n + 3⟩] } s := by
  have named : o.imm.toNat ≤ 0x0C := (mts_names h).resolve_right special
  have good : ¬ (!specialValueOk o.imm.toNat (rW (openDistances e) o.s)) = true := by
    rw [Bool.not_eq_true', Bool.not_eq_false, specialValueOk_iff named]; exact accepted
  exact (if_neg special).trans (if_neg good)

theorem mts_loop (h : KvIssues .mts o 3 k e s) (loop : o.imm.toNat ≤ 0x0B) (accepted : ¬ MtsRefuses o.imm.toNat (rW e o.s).toNat) :
    ∃ e', exec (.mts o) s = .next (setEx k (some e') (issueCycle o.core.val s)) ∧ e'.sat = e.sat ∧ KvKeeps 3 none none e e' ∧
      e'.lpPend = e.lpPend.filter (fun x => e.n < x.visible) ++ [⟨o.imm.toNat, rW e o.s, e.n + 3⟩] := by
  refine ⟨_, exec_of_kvOk h (exec_mts o s) ((mtsEffect_accepted h (by omega) accepted _).trans (if_neg (by omega))), retire_sat .., ?_,
    retire_lpPend ..⟩
  apply retire_keeps <;> intros <;> rfl

theorem mts_tstat (h : KvIssues .mts o 3 k e s) (tstat : o.imm.toNat = 0x0C) (accepted : ¬ MtsRefuses o.imm.toNat (rW e o.s).toNat) :
    ∃ e', exec (.mts o) s = .next (setEx k (some e') (issueCycle o.core.val s)) ∧
      (e'.sat = true ↔ e.sat = true ∧ (rW e o.s).toNat % 2 = 0) ∧ KvKeeps 3 none none e e' := by
  refine ⟨_, exec_of_kvOk h (exec_mts o s) ((mtsEffect_accepted h (by omega) accepted _).trans (if_pos tstat)), ?_, ?_⟩
  · have even : (rW e o.s).getLsbD 0 = decide ((rW e o.s).toNat % 2 = 1) := by
      simp [BitVec.getLsbD, Nat.testBit_zero]
    rw [retire_sat, even]
    simp
  · apply retire_keeps <;> intros <;> rfl

end Rows

/-- Settles O11: MFS reads each kind of special register (`readSpecial_loop` and its companions); MTS refuses a descriptor, then a value,
and writes a loop register or TSTAT. -/
theorem kvSpecialRegisters : Obligations.KvSpecialRegisters := by
  refine ⟨fun o k e s h => ?_, fun o k e s h => ?_⟩
  · obtain ⟨e', ran, sat, keeps, value⟩ := mfs_reads h
    refine ⟨e', ran, sat, keeps, fun loop => ?_, fun tstat task tenant depth => ?_, fun low high j _ => ?_, fun code j _ => ?_⟩
    · rw [value, readSpecial_loop loop]
    · rw [value, tstat, readSpecial_tstat, toNat_tstat task tenant depth]
    · rw [value, readSpecial_segment low high, getLsbD_setFld_zero (by decide)]
    · rw [value, code, readSpecial_code, getLsbD_setFld_zero (by decide)]
  · intro n v
    by_cases descriptor : 0x10 ≤ n
    · rw [if_pos descriptor]
      exact mts_descriptor h descriptor
    rw [if_neg descriptor]
    by_cases refused : MtsRefuses n v
    · rw [if_pos refused]
      exact mts_refused h descriptor refused
    rw [if_neg refused]
    by_cases loop : n ≤ 0x0B
    · rw [if_pos loop]
      exact mts_loop h loop refused
    · rw [if_neg loop]
      exact mts_tstat h (by have := mts_names h; omega) refused

end Sys2Proof.Machine
end

section
/-! SUPPORT. Illegal and unreadable code, and what a trap does: the execution ends without commit and its tenant's transition to FAULT
begins (03 R87, R100, R101; 05 R143, R145). Obligation O14. -/

namespace Sys2Proof.Machine

/-! ### ILLEGAL_INSTRUCTION -/

section Illegal
variable {c : Fin 8} {s0 s1 s2 : BitVec 14} {ecc : Bool} {k : Nat} {e : Ex} {s : State}

/-- The row acts where what was read holds an error or stands at PC. -/
theorem illegal_acts (running : issuing c.val s = some (k, e)) (read : ecc = true ∨ spelled s0.toNat s1.toNat s2.toNat e s = true) :
    exec (.illegalInstruction c s0 s1 s2 ecc) s =
      if !fetchOk e (sylLen s0.toNat) then .next (taskTrap k e trCodeLimit e.pc s)
      else if ecc then .next (taskTrap k e trEccCode 0 (correctCode e.tenant e.pc (sylLen s0.toNat) s))
      else if syllablesLegal s0.toNat s1.toNat s2.toNat then .next s
      else .next (taskTrap k e trIllegal 0 (correctCode e.tenant e.pc (sylLen s0.toNat) s)) := by
  have here : ¬ (!ecc && !spelled s0.toNat s1.toNat s2.toNat e s) = true := by
    rcases read with h | h <;> simp [h]
  show execIllegalInstruction c s0 s1 s2 ecc s = _
  unfold execIllegalInstruction
  rw [running]
  exact if_neg here

theorem illegal_outside (running : issuing c.val s = some (k, e)) (outside : fetchOk e (sylLen s0.toNat) = false)
    (read : ecc = true ∨ spelled s0.toNat s1.toNat s2.toNat e s = true) :
    exec (.illegalInstruction c s0 s1 s2 ecc) s = .next (taskTrap k e 0x01 e.pc s) := by
  rw [illegal_acts running read, outside]; rfl

theorem illegal_traps (running : issuing c.val s = some (k, e)) (inside : fetchOk e (sylLen s0.toNat) = true)
    (intact : ∀ j, j < sylLen s0.toNat → s.core.codeSoft.contains (e.tenant * 2 ^ 22 + (e.pc + j)) = false)
    (bad : ecc = true ∨ (spelled s0.toNat s1.toNat s2.toNat e s = true ∧ syllablesLegal s0.toNat s1.toNat s2.toNat = false)) :
    exec (.illegalInstruction c s0 s1 s2 ecc) s = .next (taskTrap k e (if ecc then 0x02 else 0x03) 0 s) := by
  rw [illegal_acts running (bad.imp_right And.left), inside, correctCode_intact _ _ _ _ intact]
  cases ecc with
  | true => rfl
  | false =>
    obtain ⟨-, illegal⟩ := bad.resolve_left Bool.false_ne_true
    rw [illegal]; rfl

end Illegal

/-! ### Executions that are gone stay gone -/

theorem mem_of_tget {α : Type} {d v : α} {i : Nat} {t : Tab α} (h : tget d t i = v) (listed : v ≠ d) : (i, v) ∈ t := by
  induction t with
  | nil => exact absurd h.symm listed
  | cons a t ih =>
    rw [tget_cons] at h
    split at h
    next here => rw [here, ← h]; exact List.mem_cons_self ..
    next => exact List.mem_cons_of_mem _ (ih h)

theorem mem_liveTasks {s : State} {k : Nat} {e : Ex} (running : taskEx s k = some e) : k ∈ liveTasks s :=
  List.mem_filterMap.mpr ⟨(k, some e), mem_of_tget running (by simp), rfl⟩

section Idle
variable {s t : State} {k : Nat}

/-- A record written for a task that executes is not task k's, where that does not. -/
theorem taskEx_setEx_idle {j : Nat} {e : Ex} (running : taskEx s j = some e) (idle : taskEx s k = none) (gone : taskEx t k = none)
    (x : Option Ex) : taskEx (setEx j x t) k = none := by
  rw [taskEx_setEx, if_neg, gone]
  rintro rfl
  cases idle.symm.trans running

/-- What is placed on a core, and what it displaces, was executing before. -/
theorem taskEx_place_idle (idle : taskEx s k = none) (j c : Nat) : taskEx (place j c s) k = none := by
  unfold place
  extract_lets t
  have displaced : taskEx t k = none := by
    simp only [t]
    split
    · split
      next running => exact taskEx_setEx_idle running idle idle _
      next => exact idle
    · exact idle
  split
  next running => exact taskEx_setEx_idle running displaced displaced _
  next => exact displaced

theorem taskEx_dispatchN_idle (n : Nat) (idle : taskEx s k = none) : taskEx (dispatchN n s) k = none := by
  induction n generalizing s with
  | zero => exact idle
  | succ n ih =>
    unfold dispatchN
    split
    · exact ih (taskEx_place_idle idle _ _)
    · exact idle

/-- The dispatcher starts no execution: it places what is waiting. -/
theorem taskEx_dispatch_idle (idle : taskEx s k = none) : taskEx (dispatch s) k = none := taskEx_dispatchN_idle _ idle

end Idle

/-! ### The entry to FAULT (05 R143, R145) -/

/-- An operation leaves each group that it does not list. -/
theorem Keeps.samePart {qs : List Part} {f : State → State} (keeps : Keeps qs f) {p : Part} (other : p ∉ qs) (s : State) :
    samePart p s (f s) := ((keeps qs s s (within_self qs)).mpr (.refl qs s)).2 p other

theorem taskEx_dropEx (j : Nat) (s : State) (k : Nat) : taskEx (dropEx j s) k = if k = j then none else taskEx s k := by
  unfold dropEx
  split
  next e running =>
    extract_lets t
    have freed : taskEx (if (coreTask t e.core == some j) = true then setCore e.core none t else t) k = taskEx t k := by
      split <;> rfl
    exact freed.trans (taskEx_setEx ..)
  next idle =>
    split
    next same => rw [same]; exact idle
    next => rfl

@[simp] theorem taskTenant_dropEx (j : Nat) (s : State) (k : Nat) : taskTenant (dropEx j s) k = taskTenant s k := by
  have task : (dropEx j s).task = s.task := (dropEx_keeps j).samePart (p := .task) (by decide) s
  unfold taskTenant taskEnt
  rw [task]

theorem taskEx_dropFold (q : Nat → Bool) (k : Nat) (l : List Nat) (s : State) (chosen : q (taskTenant s k) = true)
    (h : k ∈ l ∨ taskEx s k = none) : taskEx (l.foldl (fun s k => if q (taskTenant s k) then dropEx k s else s) s) k = none := by
  induction l generalizing s with
  | nil => exact h.resolve_left List.not_mem_nil
  | cons j l ih =>
    rw [List.foldl_cons]
    by_cases same : k = j
    · subst same
      rw [if_pos chosen]
      exact ih _ (by rw [taskTenant_dropEx]; exact chosen) (.inr (by rw [taskEx_dropEx, if_pos rfl]))
    · have rest : k ∈ l ∨ taskEx s k = none := h.imp_left fun mem => (List.mem_cons.mp mem).resolve_left same
      split
      · exact ih _ (by rw [taskTenant_dropEx]; exact chosen) (rest.imp_right fun idle => by rw [taskEx_dropEx, if_neg same, idle])
      · exact ih _ chosen rest

/-- An execution of a tenant that the drop concerns is gone. -/
theorem taskEx_dropWhere {q : Nat → Bool} {k : Nat} {e : Ex} {s : State} (running : taskEx s k = some e)
    (chosen : q (taskTenant s k) = true) : taskEx (dropWhere q s) k = none :=
  taskEx_dropFold q k _ s chosen (.inl (mem_liveTasks running))

theorem taskEx_of_core {s t : State} (same : t.core = s.core) (k : Nat) : taskEx t k = taskEx s k :=
  congrArg (fun core : Cores => tget none core.ex k) same

theorem enterFault_stops {k : Nat} {e : Ex} {s : State} (running : taskEx s k = some e) {scope : Nat} (own : taskTenant s k = scope)
    (cause : Nat) : taskEx (enterFault scope cause s) k = none := by
  unfold enterFault
  extract_lets dropped refused
  have stopped : taskEx dropped k = none := taskEx_dropWhere running (by simp [own])
  have kept : refused.core = dropped.core := (refuseTrans_keeps scope).samePart (p := .core) (by decide) dropped
  exact taskEx_dispatch_idle ((taskEx_of_core kept k).trans stopped)

theorem enterFault_begins (scope cause : Nat) (s : State) :
    tget none (enterFault scope cause s).task.trans scope = some ⟨4, false, cause, none⟩ := by
  have kept (t : State) : (dispatch t).task = t.task := dispatch_keeps.samePart (p := .task) (by decide) t
  unfold enterFault
  rw [kept]
  exact tget_tput_same ..

/-- A trap stops the execution that it meets, its tenant's transition to FAULT begins, and no word of the image changes (03 R100). -/
theorem taskTrap_stops {k : Nat} {e : Ex} {s : State} (running : taskEx s k = some e) (own : e.tenant = taskTenant s k) (cause : Nat)
    (p2 : Int) : taskEx (taskTrap k e cause p2 s) k = none ∧ (taskTrap k e cause p2 s).img = s.img ∧
      tget none (taskTrap k e cause p2 s).task.trans e.tenant = some ⟨4, false, 1, none⟩ := by
  refine ⟨?_, (taskTrap_keeps k e cause p2).samePart (p := .img) (by decide) s, ?_⟩
  · have core : (noteStop k e cause s).core = s.core := (noteStop_keeps k e cause).samePart (p := .core) (by decide) s
    have task : (noteStop k e cause s).task = s.task := (noteStop_keeps k e cause).samePart (p := .task) (by decide) s
    have tenant : taskTenant (noteStop k e cause s) k = e.tenant := by
      rw [own]; unfold taskTenant taskEnt; rw [task]
    exact (taskEx_of_core (gln_core ..) k).trans (enterFault_stops ((taskEx_of_core core k).trans running) tenant 1)
  · unfold taskTrap
    rw [gln_task]
    exact enterFault_begins ..

/-- Settles O14 (CODE_LIMIT with PC at the fetch by log 21, a transition that is only begun by log 15): code outside CSEG, unreadable or
illegal traps with its cause (`illegal_outside`, `illegal_traps`), and a trap stops its execution (`taskTrap_stops`). -/
theorem kvTrapTaken : Obligations.KvTrapTaken :=
  ⟨fun _ _ _ _ _ _ _ _ => illegal_traps, fun _ _ _ _ _ _ _ _ => illegal_outside,
    fun _ _ cause p2 _ running own => taskTrap_stops running own cause p2⟩

end Sys2Proof.Machine
end

section
/-! SUPPORT. Arithmetic, shifts, rotations and constants (04 R108 to R110, Tables 4-2 and 4-3). Obligation O5. -/

namespace Sys2Proof.Machine

/-! ### Clamps and the SAT flag (04 R108) -/

theorem clampI_eq_max_min {lo hi : Int} (ordered : lo ≤ hi) (x : Int) : clampI lo hi x = max lo (min hi x) := by
  unfold clampI
  split
  · omega
  · split <;> omega

theorem sat48_fst (x : Int) : (sat48 x).1 = satWord x := congrArg wi (clampI_eq_max_min (by decide) x)

theorem sat48_snd (x : Int) : (sat48 x).2 = true ↔ clamps x := by
  unfold sat48 clamps minS48 maxS48
  rw [Bool.or_eq_true, decide_eq_true_eq, decide_eq_true_eq]

theorem usat48_fst (x : Int) : (usat48 x).1 = usatWord x := congrArg wi (clampI_eq_max_min (by decide) x)

theorem usat48_snd (x : Int) : (usat48 x).2 = true ↔ uclamps x := by
  unfold usat48 uclamps
  rw [Bool.or_eq_true, decide_eq_true_eq, decide_eq_true_eq]

/-- An instruction that writes sat(x) to Wd. -/
theorem kvSets_of_sat {i : Kv → Instr} {len : Nat} (x : Kv → Ex → Int)
    (row : ∀ o s, exec (i o) s = kvRun i (pureKv fun o e => wSat o.d (sat48 (x o e)) e) o s)
    (read : ∀ o e, x o (openDistances e) = x o e) :
    KvSets i len (fun o e v => v = satWord (x o e)) (fun o e => clamps (x o e)) :=
  kvSets_of_wSat _ row (fun o e => congrArg sat48 (read o e)) (fun _ _ => sat48_fst _) (fun _ _ => sat48_snd _)

/-- An instruction that writes usat(x) to Wd. -/
theorem kvSets_of_usat {i : Kv → Instr} {len : Nat} (x : Kv → Ex → Int)
    (row : ∀ o s, exec (i o) s = kvRun i (pureKv fun o e => wSat o.d (usat48 (x o e)) e) o s)
    (read : ∀ o e, x o (openDistances e) = x o e) :
    KvSets i len (fun o e v => v = usatWord (x o e)) (fun o e => uclamps (x o e)) :=
  kvSets_of_wSat _ row (fun o e => congrArg usat48 (read o e)) (fun _ _ => usat48_fst _) (fun _ _ => usat48_snd _)

/-! ### Products, rounded or in part -/

theorem int_shiftRight_eq_div (x : Int) (n : Nat) : x >>> n = x / 2 ^ n := by
  rw [Int.shiftRight_eq_div_pow, Nat.cast_pow, Nat.cast_ofNat]

/-- The model's shift of an integer computes on its constructors as the shift by a natural number does. -/
theorem mulqExact_eq (a b : Word) : mulqExact a b = (a.toInt * b.toInt + 2 ^ 31) / 2 ^ 32 := by
  unfold mulqExact
  generalize a.toInt * b.toInt + 2 ^ 31 = x
  cases x with
  | ofNat n => exact int_shiftRight_eq_div (.ofNat n) 32
  | negSucc n => exact int_shiftRight_eq_div (.negSucc n) 32

theorem mulHigh_eq (a b : Word) : mulHigh a b = wi (a.toInt * b.toInt / 2 ^ 48) := by
  unfold mulHigh
  generalize a.toInt * b.toInt = x
  cases x with
  | ofNat n => exact congrArg wi (int_shiftRight_eq_div (.ofNat n) 48)
  | negSucc n => exact congrArg wi (int_shiftRight_eq_div (.negSucc n) 48)

/-- Bits [95:48] of a signed product fit a word: the product lies between -2^94 and 2^94. -/
theorem toInt_mulHigh (a b : Word) : (mulHigh a b).toInt = a.toInt * b.toInt / 2 ^ 48 := by
  have bound (x : Word) : |x.toInt| ≤ 2 ^ 47 := by
    have low := BitVec.le_toInt x
    have high := BitVec.toInt_lt (x := x)
    rw [abs_le]; omega
  have product : |a.toInt * b.toInt| ≤ 2 ^ 94 :=
    calc |a.toInt * b.toInt| = |a.toInt| * |b.toInt| := abs_mul ..
      _ ≤ 2 ^ 47 * 2 ^ 47 := mul_le_mul (bound a) (bound b) (abs_nonneg _) (by norm_num)
      _ = 2 ^ 94 := by norm_num
  rw [abs_le] at product
  rw [mulHigh_eq, BitVec.toInt_ofInt]
  exact Int.bmod_eq_of_le (by omega) (by omega)

/-! ### Modular sums and choices -/

theorem toInt_sub_emod (a b : Word) : (a - b).toInt % 2 ^ 48 = (a.toInt - b.toInt) % 2 ^ 48 := by
  rw [BitVec.toInt_sub]; exact Int.bmod_emod ..

theorem toInt_add_emod (a b : Word) : (a + b).toInt % 2 ^ 48 = (a.toInt + b.toInt) % 2 ^ 48 := by
  rw [BitVec.toInt_add]; exact Int.bmod_emod ..

theorem toInt_ite_slt_min (a b : Word) : (if a.slt b then a else b).toInt = min a.toInt b.toInt := by
  simp only [BitVec.slt_iff_toInt_lt]
  split <;> omega

theorem toNat_ite_ult_min (a b : Word) : (if a.ult b then a else b).toNat = min a.toNat b.toNat := by
  simp only [BitVec.ult_iff_toNat_lt]
  split <;> omega

theorem toInt_ite_slt_max (a b : Word) : (if a.slt b then b else a).toInt = max a.toInt b.toInt := by
  simp only [BitVec.slt_iff_toInt_lt]
  split <;> omega

theorem toNat_ite_ult_max (a b : Word) : (if a.ult b then b else a).toNat = max a.toNat b.toNat := by
  simp only [BitVec.ult_iff_toNat_lt]
  split <;> omega

/-! ### Immediates and constants (04 R110) -/

/-- Above bit 13 the sign-extended immediate repeats it. -/
theorem getLsbD_sx (o : Kv) {j : Nat} (hj : j < 48) : (sx o).getLsbD j = o.imm.getLsbD (min j 13) := by
  unfold sx
  rw [BitVec.getLsbD_signExtend, BitVec.msb_eq_getLsbD_last]
  by_cases low : j < 14
  · rw [if_pos low, Nat.min_eq_left (by omega)]; simp [hj]
  · rw [if_neg low, Nat.min_eq_right (by omega)]; simp [hj]

/-- Lanes of a word with a field set to a number's low bits. -/
theorem getLsbD_setFld_bits {n hi lo : Nat} (hhi : hi < 48) (w : Word) (v : BitVec n) (j : Nat) :
    (setFld w hi lo v.toNat).getLsbD j = if lo ≤ j ∧ j ≤ hi then v.getLsbD (j - lo) else w.getLsbD j := getLsbD_setFld hhi w v.toNat j

/-- LK3 places the low six bits of the immediate, all that its field holds. -/
theorem getLsbD_setFld_lane (w : Word) (o : Kv) {j : Nat} (hj : j < 48) :
    (setFld w 47 42 (laneImm o)).getLsbD j = if 42 ≤ j then o.imm.getLsbD (j - 42) else w.getLsbD j := by
  have field : (42 ≤ j ∧ j ≤ 47) ↔ 42 ≤ j := by omega
  rw [getLsbD_setFld (by decide), if_congr field rfl rfl]
  refine if_ctx_congr Iff.rfl (fun high => ?_) (fun _ => rfl)
  have lane : (o.imm.toNat % 2 ^ 6).testBit (j - 42) = (decide (j - 42 < 6) && o.imm.toNat.testBit (j - 42)) := Nat.testBit_mod_two_pow ..
  rw [decide_eq_true (by omega), Bool.true_and] at lane
  exact lane

/-! ### Shifts and rotations, by amounts of 48 and more too (04 R109) -/

theorem toNat_shlW (a : Word) (n : Nat) : (shlW a n).toNat = a.toNat * 2 ^ n % 2 ^ 48 := by
  unfold shlW; rw [BitVec.toNat_shiftLeft, Nat.shiftLeft_eq]

theorem toNat_shrW (a : Word) (n : Nat) : (shrW a n).toNat = a.toNat / 2 ^ n := by
  unfold shrW; rw [BitVec.toNat_ushiftRight, Nat.shiftRight_eq_div_pow]

theorem toInt_sarW (a : Word) (n : Nat) : (sarW a n).toInt = a.toInt / 2 ^ n := by
  unfold sarW; rw [BitVec.toInt_sshiftRight, int_shiftRight_eq_div]

/-- Lane j goes n lanes up, past lane 47 to lane 0. -/
theorem getLsbD_rolW (a : Word) (n : Nat) {j : Nat} (hj : j < 48) : (rolW a n).getLsbD ((j + n) % 48) = a.getLsbD j := by
  unfold rolW
  rw [BitVec.getLsbD_rotateLeft, Nat.mod_mod]
  by_cases wraps : (j + n) % 48 < n % 48
  · rw [decide_eq_true wraps, cond_true]
    congr 1; omega
  · rw [decide_eq_false wraps, cond_false, decide_eq_true (by omega), Bool.true_and]
    congr 1; omega

/-- Settles O5: sums, products, choices and constants write the word that their row names (`kvSets_of_wW`), clamped ones set SAT where
their clamp changes the value (`kvSets_of_sat`, `kvSets_of_usat`), shifts and rotations are those of their amount's low six bits. -/
theorem kvArithmetic : Obligations.KvArithmetic :=
  ⟨kvSets_of_wW _ (fun _ _ => rfl) (fun _ _ => rfl) fun _ _ => BitVec.toNat_add ..,
    kvSets_of_wW _ (fun _ _ => rfl) (fun _ _ => rfl) fun _ _ => toInt_sub_emod ..,
    kvSets_of_sat _ (fun _ _ => rfl) (fun _ _ => rfl),
    kvSets_of_usat _ (fun _ _ => rfl) (fun _ _ => rfl),
    kvSets_of_sat _ (fun _ _ => rfl) (fun _ _ => rfl),
    kvSets_of_usat _ (fun _ _ => rfl) (fun _ _ => rfl),
    kvSets_of_wW _ (fun _ _ => rfl) (fun _ _ => rfl) fun _ _ => BitVec.toNat_mul ..,
    kvSets_of_sat _ (fun _ _ => rfl) (fun _ _ => rfl),
    by simpa only [mulqExact_eq] using
      kvSets_of_sat (i := .mulq) (len := 2) (fun o e => mulqExact (rW e o.s) (rW e o.t)) (fun _ _ => rfl) (fun _ _ => rfl),
    kvSets_of_wW _ (fun _ _ => rfl) (fun _ _ => rfl) fun _ _ => toInt_mulHigh ..,
    kvSets_of_sat _ (fun _ _ => rfl) (fun _ _ => rfl),
    by simpa only [Int.natCast_natAbs] using
      kvSets_of_sat (i := .abss) (len := 2) (fun o e => ((rW e o.s).toInt.natAbs : Nat)) (fun _ _ => rfl) (fun _ _ => rfl),
    kvSets_of_wW _ (fun _ _ => rfl) (fun _ _ => rfl) fun _ _ => toInt_ite_slt_min ..,
    kvSets_of_wW _ (fun _ _ => rfl) (fun _ _ => rfl) fun _ _ => toNat_ite_ult_min ..,
    kvSets_of_wW _ (fun _ _ => rfl) (fun _ _ => rfl) fun _ _ => toInt_ite_slt_max ..,
    kvSets_of_wW _ (fun _ _ => rfl) (fun _ _ => rfl) fun _ _ => toNat_ite_ult_max ..,
    kvSets_of_wW _ (fun _ _ => rfl) (fun _ _ => rfl) fun _ _ => rfl,
    kvSets_of_wW _ (fun _ _ => rfl) (fun _ _ => rfl) fun o _ => by rw [toInt_add_emod, toInt_sx],
    by simpa only [toInt_sx] using
      kvSets_of_sat (i := .addsi) (len := 3) (fun o e => (rW e o.s).toInt + (sx o).toInt) (fun _ _ => rfl) (fun _ _ => rfl),
    kvSets_of_wW _ (fun _ _ => rfl) (fun _ _ => rfl) fun o _ => toInt_sx o,
    kvSets_of_wW _ (fun _ _ => rfl) (fun _ _ => rfl) fun o _ _ hj => by rw [BitVec.getLsbD_and, getLsbD_sx o hj],
    kvSets_of_wW _ (fun _ _ => rfl) (fun _ _ => rfl) fun o _ _ hj => by rw [BitVec.getLsbD_or, getLsbD_sx o hj],
    kvSets_of_wW _ (fun _ _ => rfl) (fun _ _ => rfl) fun o _ _ hj => by rw [BitVec.getLsbD_xor, getLsbD_sx o hj],
    kvSets_of_wW _ (fun _ _ => rfl) (fun _ _ => rfl) fun _ _ => toNat_shlW ..,
    kvSets_of_wW _ (fun _ _ => rfl) (fun _ _ => rfl) fun _ _ => toNat_shrW ..,
    kvSets_of_wW _ (fun _ _ => rfl) (fun _ _ => rfl) fun _ _ => toInt_sarW ..,
    kvSets_of_wW _ (fun _ _ => rfl) (fun _ _ => rfl) fun _ _ _ => getLsbD_rolW _ _,
    kvSets_of_wW _ (fun _ _ => rfl) (fun _ _ => rfl) fun _ _ => toNat_shlW ..,
    kvSets_of_wW _ (fun _ _ => rfl) (fun _ _ => rfl) fun _ _ => toNat_shrW ..,
    kvSets_of_wW _ (fun _ _ => rfl) (fun _ _ => rfl) fun _ _ => toInt_sarW ..,
    kvSets_of_wW _ (fun _ _ => rfl) (fun _ _ => rfl) fun _ _ _ => getLsbD_rolW _ _,
    kvSets_of_wW _ (fun _ _ => rfl) (fun _ _ => rfl) fun o _ => toNat_zx o,
    kvSets_of_wW _ (fun _ _ => rfl) (fun _ _ => rfl) fun _ _ j _ => getLsbD_setFld_bits (by decide) _ _ j,
    kvSets_of_wW _ (fun _ _ => rfl) (fun _ _ => rfl) fun _ _ j _ => getLsbD_setFld_bits (by decide) _ _ j,
    kvSets_of_wW _ (fun _ _ => rfl) (fun _ _ => rfl) fun _ _ _ => getLsbD_setFld_lane _ _⟩

end Sys2Proof.Machine
end

section
/-! SUPPORT. Sheaf, lane and field instructions (04 R112, R113, Tables 4-5 and 4-6). Obligation O7. -/

namespace Sys2Proof.Machine

/-! ### Lane by lane (04 R112) -/

theorem getLsbD_and_not (a b : Word) (j : Nat) : (a &&& ~~~b).getLsbD j = (a.getLsbD j && !b.getLsbD j) := by
  have lane : a.getLsbD j = true → j < 48 := BitVec.lt_of_getLsbD
  rw [BitVec.getLsbD_and, BitVec.getLsbD_not]
  by_cases set : a.getLsbD j = true
  · simp [lane set]
  · simp [set]

theorem getLsbD_merge (m t d : Word) (j : Nat) :
    ((t &&& m) ||| (d &&& ~~~m)).getLsbD j = if m.getLsbD j then t.getLsbD j else d.getLsbD j := by
  rw [BitVec.getLsbD_or, getLsbD_and_not, BitVec.getLsbD_and]
  cases m.getLsbD j <;> simp

theorem getLsbD_splat (b : Bool) {j : Nat} (hj : j < 48) : (splat b).getLsbD j = b := by
  cases b
  · exact BitVec.getLsbD_zero
  · exact (BitVec.getLsbD_allOnes ..).trans (decide_eq_true hj)

theorem eq_allOnes_iff_lanes (a : Word) : a = BitVec.allOnes 48 ↔ ∀ j, j < 48 → a.getLsbD j = true := by
  constructor
  · rintro rfl j hj
    exact (BitVec.getLsbD_allOnes ..).trans (decide_eq_true hj)
  · intro h
    refine BitVec.eq_of_getLsbD_eq fun j hj => ?_
    rw [h j hj, BitVec.getLsbD_allOnes, decide_eq_true hj]

/-! ### Counts and searches (04 R113) -/

/-- A count of lanes fits a word. -/
theorem toNat_count {n : Nat} (h : n ≤ 48) : (wd n).toNat = n := Nat.mod_eq_of_lt (Nat.lt_of_le_of_lt h (by decide))

theorem toNat_popCount (a : Word) : (wd (popCount a)).toNat = ((List.range 48).filter (fun j => a.getLsbD j)).length := by
  have few : popCount a ≤ 48 := List.countP_le_length.trans_eq List.length_range
  rw [toNat_count few]
  exact List.countP_eq_length_filter

/-- A search through the lanes, which answers 48 where none is found. -/
theorem searchLanes (p : Nat → Bool) :
    let n := ((List.range 48).find? p).getD 48
    n ≤ 48 ∧ (∀ j, j < 48 → j < n → p j = false) ∧ (n < 48 → p n = true) := by
  cases found : (List.range 48).find? p with
  | none =>
    have nowhere := List.find?_range_eq_none.mp found
    exact ⟨Nat.le_refl 48, fun j hj _ => by simpa using nowhere j hj, fun h => absurd h (Nat.lt_irrefl 48)⟩
  | some i =>
    obtain ⟨here, lane, before⟩ := List.find?_range_eq_some.mp found
    exact ⟨Nat.le_of_lt (List.mem_range.mp lane), fun j _ hj => by simpa using before j hj, fun _ => here⟩

theorem clzW_counts (a : Word) : (wd (clzW a)).toNat ≤ 48 ∧ (∀ j, 48 - (wd (clzW a)).toNat ≤ j → a.getLsbD j = false) ∧
    ((wd (clzW a)).toNat < 48 → a.getLsbD (47 - (wd (clzW a)).toNat) = true) := by
  obtain ⟨bound, above, here⟩ := searchLanes fun i => a.getLsbD (47 - i)
  rw [show (wd (clzW a)).toNat = clzW a from toNat_count bound]
  refine ⟨bound, fun j hj => ?_, here⟩
  by_cases lane : j < 48
  · have clear := above (47 - j) (by omega) (by change _ < clzW a; omega)
    rwa [show 47 - (47 - j) = j by omega] at clear
  · exact BitVec.getLsbD_of_ge _ _ (Nat.le_of_not_lt lane)

theorem ffsW_finds (a : Word) : (wd (ffsW a)).toNat ≤ 48 ∧ (∀ j, j < (wd (ffsW a)).toNat → a.getLsbD j = false) ∧
    ((wd (ffsW a)).toNat < 48 → a.getLsbD (wd (ffsW a)).toNat = true) := by
  obtain ⟨bound, below, here⟩ := searchLanes fun i => a.getLsbD i
  rw [show (wd (ffsW a)).toNat = ffsW a from toNat_count bound]
  exact ⟨bound, fun j hj => below j (Nat.lt_of_lt_of_le hj bound) hj, here⟩

/-! ### Rows that write Wd where their operands are sound -/

/-- A row whose body answers a write of Wd. -/
theorem sets_of_wW {i : Kv → Instr} {o : Kv} {len k : Nat} {e : Ex} {s : State} {v : Word} {body : Kv → Nat → Ex → State → KvRes}
    (h : KvIssues i o len k e s) (row : exec (i o) s = kvRun i body o s)
    (answer : body o k (openDistances e) (issueCycle o.core.val s) = kvOk (wW o.d v (openDistances e)) (issueCycle o.core.val s)) :
    ∃ e', exec (i o) s = .next (setEx k (some e') (issueCycle o.core.val s)) ∧ rW e' o.d = v ∧ e'.sat = e.sat ∧
      KvKeeps len (some o.d) none e e' := by
  obtain ⟨value, keeps⟩ := retire_wW len o.d v e
  exact ⟨_, exec_of_kvOk h row answer, value, retire_sat .., keeps⟩

/-- An instruction that names a lane writes Wd from it, or traps with it (03 R86). -/
theorem kvLaneSets_of_withLane {i : Kv → Instr} {R : Kv → Ex → Nat → Word → Prop} (v : Kv → Ex → Nat → Word)
    (row : ∀ o s, exec (i o) s = kvRun i (fun o _ e s => withLane o e s fun n => wW o.d (v o e n) e) o s)
    (read : ∀ o e n, v o (openDistances e) n = v o e n) (value : ∀ o e n, n < 48 → R o e n (v o e n)) : KvLaneSets i R := by
  intro o k e s h
  split
  next lane =>
    obtain ⟨e', ran, written, rest⟩ := sets_of_wW h (row o s) ((withLane_eq ..).trans (if_pos lane))
    refine ⟨e', ran, ?_, rest⟩
    rw [written, read]
    exact value o e _ lane
  next beyond => exact kvTraps_of_trap h (row o s) ((withLane_eq ..).trans (if_neg beyond))

section Rows
variable {o : Kv} {k : Nat} {e : Ex} {s : State}

/-- BINS. -/
theorem bins_inserts (h : KvIssues .bins o 3 k e s) :
    if o.imm.toNat % 64 < 48 then
      ∃ e', exec (.bins o) s = .next (setEx k (some e') (issueCycle o.core.val s)) ∧ KvKeeps 3 (some o.d) none e e' ∧
        (∀ j, j < 48 → (rW e' o.d).getLsbD j = if j = o.imm.toNat % 64 then rP e (o.t.toNat % 8) else (rW e o.s).getLsbD j)
    else KvTraps .bins o k e s 0x06 (o.imm.toNat % 64 : Nat) := by
  split
  next lane =>
    obtain ⟨e', ran, written, -, keeps⟩ := sets_of_wW h rfl (if_neg (Nat.not_le.mpr lane))
    refine ⟨e', ran, keeps, fun j _ => ?_⟩
    rw [written]
    exact getLsbD_setBit lane ..
  next beyond => exact kvTraps_of_trap h rfl (if_pos (Nat.le_of_not_lt beyond))

/-- A field that EXTR and DEP can name, by its lowest bit and its width: not empty, and inside the word. -/
abbrev FieldFits (imm : Nat) : Prop := 0 < imm / 64 % 64 ∧ imm % 64 + imm / 64 % 64 ≤ 48

theorem withField_eq (o : Kv) (s : State) (f : Nat → Nat → Ex) :
    withField o s f = if FieldFits o.imm.toNat then kvOk (f (o.imm.toNat % 64) (o.imm.toNat / 64 % 64)) s
      else .trap trBadValue o.imm.toNat := by
  unfold withField FieldFits
  by_cases fits : 0 < o.imm.toNat / 64 % 64 ∧ o.imm.toNat % 64 + o.imm.toNat / 64 % 64 ≤ 48
  · rw [if_pos fits]; exact if_neg (by omega)
  · rw [if_neg fits]; exact if_pos (by omega)

/-- A field from bit l of n bits, as a word. -/
theorem toNat_field {n : Nat} (w : Word) (l : Nat) (wide : 0 < n) : (wd (fld w (l + n - 1) l)).toNat = w.toNat / 2 ^ l % 2 ^ n := by
  rw [fld_eq_div, show l + n - 1 + 1 - l = n by omega]
  refine Nat.mod_eq_of_lt ?_
  calc w.toNat / 2 ^ l % 2 ^ n ≤ w.toNat / 2 ^ l := Nat.mod_le ..
    _ ≤ w.toNat := Nat.div_le_self ..
    _ < 2 ^ 48 := w.isLt

/-- EXTR. -/
theorem extr_extracts (h : KvIssues .extr o 3 k e s) :
    if FieldFits o.imm.toNat then
      ∃ e', exec (.extr o) s = .next (setEx k (some e') (issueCycle o.core.val s)) ∧ KvKeeps 3 (some o.d) none e e' ∧
        (rW e' o.d).toNat = (rW e o.s).toNat / 2 ^ (o.imm.toNat % 64) % 2 ^ (o.imm.toNat / 64 % 64)
    else KvTraps .extr o k e s 0x06 o.imm.toNat := by
  split
  next fits =>
    obtain ⟨e', ran, written, -, keeps⟩ := sets_of_wW h rfl ((withField_eq ..).trans (if_pos fits))
    refine ⟨e', ran, keeps, ?_⟩
    rw [written]
    exact toNat_field _ _ fits.1
  next unfit => exact kvTraps_of_trap h rfl ((withField_eq ..).trans (if_neg unfit))

/-- DEP. -/
theorem dep_deposits (h : KvIssues .dep o 3 k e s) :
    if FieldFits o.imm.toNat then
      ∃ e', exec (.dep o) s = .next (setEx k (some e') (issueCycle o.core.val s)) ∧ KvKeeps 3 (some o.d) none e e' ∧
        ∀ j, j < 48 → (rW e' o.d).getLsbD j =
          if o.imm.toNat % 64 ≤ j ∧ j < o.imm.toNat % 64 + o.imm.toNat / 64 % 64 then (rW e o.s).getLsbD (j - o.imm.toNat % 64)
          else (rW e o.d).getLsbD j
    else KvTraps .dep o k e s 0x06 o.imm.toNat := by
  split
  next fits =>
    obtain ⟨e', ran, written, -, keeps⟩ := sets_of_wW h rfl ((withField_eq ..).trans (if_pos fits))
    obtain ⟨wide, inside⟩ := fits
    refine ⟨e', ran, keeps, fun j _ => ?_⟩
    rw [written, getLsbD_setFld_bits (by omega)]
    exact if_congr (by omega) rfl rfl
  next unfit => exact kvTraps_of_trap h rfl ((withField_eq ..).trans (if_neg unfit))

end Rows

/-- Settles O7: sheaf rows compute each lane of Wd or Pd from the same lane of their operands, counts and searches are over the 48 lanes
(`searchLanes`), lane rows act on the lane that they name or trap with it (`kvLaneSets_of_withLane`), field rows on a field that fits
(`withField_eq`). -/
theorem kvLogic : Obligations.KvLogic :=
  ⟨kvSets_of_wW _ (fun _ _ => rfl) (fun _ _ => rfl) fun _ _ _ => BitVec.getLsbD_and,
    kvSets_of_wW _ (fun _ _ => rfl) (fun _ _ => rfl) fun _ _ _ => BitVec.getLsbD_or,
    kvSets_of_wW _ (fun _ _ => rfl) (fun _ _ => rfl) fun _ _ _ => BitVec.getLsbD_xor,
    kvSets_of_wW _ (fun _ _ => rfl) (fun _ _ => rfl) fun _ _ => getLsbD_and_not _ _,
    kvSets_of_wW _ (fun _ _ => rfl) (fun _ _ => rfl) fun _ _ j hj => by rw [BitVec.getLsbD_not, decide_eq_true hj, Bool.true_and],
    kvSets_of_wW _ (fun _ _ => rfl) (fun _ _ => rfl) fun _ _ => getLsbD_and_not _ _,
    kvSets_of_wW _ (fun _ _ => rfl) (fun _ _ => rfl) fun _ _ _ => by rw [BitVec.and_comm, getLsbD_and_not, Bool.and_comm],
    kvSets_of_wW _ (fun _ _ => rfl) (fun _ _ => rfl) fun _ _ _ => BitVec.getLsbD_xor,
    kvSets_of_wW _ (fun _ _ => rfl) (fun _ _ => rfl) fun _ _ _ => by rw [getLsbD_and_not, BitVec.getLsbD_or],
    kvSets_of_wW _ (fun _ _ => rfl) (fun _ _ => rfl) fun _ _ _ => by rw [BitVec.getLsbD_or, getLsbD_and_not],
    kvSets_of_wW _ (fun _ _ => rfl) (fun _ _ => rfl) fun _ _ => getLsbD_merge _ _ _,
    kvSets_of_wW _ (fun _ _ => rfl) (fun _ _ => rfl) fun _ _ => toNat_popCount _,
    kvSets_of_wW _ (fun _ _ => rfl) (fun _ _ => rfl) fun _ _ => clzW_counts _,
    kvSets_of_wW _ (fun _ _ => rfl) (fun _ _ => rfl) fun _ _ => ffsW_finds _,
    kvTests_of_wPd _ (fun _ _ => rfl) (fun _ _ => rfl) fun _ _ => bne_iff_ne,
    kvTests_of_wPd _ (fun _ _ => rfl) (fun _ _ => rfl) fun _ _ => beq_iff_eq.trans (eq_allOnes_iff_lanes _),
    kvTests_of_wPd _ (fun _ _ => rfl) (fun _ _ => rfl) fun _ _ => beq_iff_eq,
    kvLaneSets_of_withLane _ (fun _ _ => rfl) (fun _ _ _ => rfl) fun _ _ _ _ _ => getLsbD_splat _,
    kvLaneSets_of_withLane _ (fun _ _ => rfl) (fun _ _ _ => rfl) fun _ _ n lane j _ => by
      rw [getLsbD_setBit lane]; by_cases here : j = n <;> simp [here],
    kvLaneSets_of_withLane _ (fun _ _ => rfl) (fun _ _ _ => rfl) fun _ _ n lane j _ => by
      rw [getLsbD_setBit lane]; by_cases here : j = n <;> simp [here],
    fun _ _ _ _ => bins_inserts, fun _ _ _ _ => extr_extracts, fun _ _ _ _ => dep_deposits⟩

end Sys2Proof.Machine
end

section
/-! SUPPORT. Device operations of the KV48: the order of their checks, scheduler slots through the firings of a tick, results and starts
of the control engine, posts (04 R120 to R123; 03 R95, R96; 07 R199 to R201). Obligation O12. -/

namespace Sys2Proof.Machine

/-! ### The checks of a device operation (04 R120, 03 Table 3-11) -/

section Checks
variable {o : Kv} {e : Ex} {b : Nat} {bad : Nat → Option Nat} {owner : Nat → Nat} {f : Nat → KvRes}

theorem devObj_number (high : 2 ^ b ≤ (rW e o.s).toNat) : devObj o e b bad owner f = .trap trBadValue (rW e o.s).toNat := if_pos high

theorem devObj_value {x : Nat} (low : ¬ 2 ^ b ≤ (rW e o.s).toNat) (wrong : bad (rW e o.s).toNat = some x) :
    devObj o e b bad owner f = .trap trBadValue x := by
  unfold devObj
  exact (if_neg low).trans (by rw [wrong])

/-- Past the checks of its values, the operation acts for the owner of the object alone. -/
theorem devObj_sound (low : ¬ 2 ^ b ≤ (rW e o.s).toNat) (good : bad (rW e o.s).toNat = none) :
    devObj o e b bad owner f = if owner (rW e o.s).toNat ≠ e.tenant then .trap trDeviceRights (rW e o.s).toNat else f (rW e o.s).toNat := by
  unfold devObj
  exact (if_neg low).trans (by rw [good])

theorem devObj_foreign (low : ¬ 2 ^ b ≤ (rW e o.s).toNat) (good : bad (rW e o.s).toNat = none)
    (foreign : owner (rW e o.s).toNat ≠ e.tenant) : devObj o e b bad owner f = .trap trDeviceRights (rW e o.s).toNat :=
  (devObj_sound low good).trans (if_pos foreign)

theorem devObj_own (low : ¬ 2 ^ b ≤ (rW e o.s).toNat) (good : bad (rW e o.s).toNat = none)
    (own : owner (rW e o.s).toNat = e.tenant) : devObj o e b bad owner f = f (rW e o.s).toNat :=
  (devObj_sound low good).trans (if_neg (not_not.mpr own))

end Checks

/-! ### What firings leave of a slot -/

theorem getSlot_of_slots {s t : State} (same : t.slot = s.slot) (n : Nat) : getSlot t n = getSlot s n := by
  unfold getSlot; rw [same]

/-- Slot n has the target, the count of armings and the operations of the cycle that it had: what a firing of any slot leaves of it. -/
structure SlotKept (n : Nat) (s t : State) : Prop where
  target : (getSlot t n).tgt = (getSlot s n).tgt
  count : fld (getSlot t n).sts 43 32 = fld (getSlot s n).sts 43 32
  ops : (getSlot t n).ops = (getSlot s n).ops

namespace SlotKept
variable {n : Nat} {s t u : State}

theorem refl (n : Nat) (s : State) : SlotKept n s s := ⟨rfl, rfl, rfl⟩

theorem trans (h : SlotKept n s t) (k : SlotKept n t u) : SlotKept n s u :=
  ⟨k.target.trans h.target, k.count.trans h.count, k.ops.trans h.ops⟩

theorem of_eq (same : getSlot t n = getSlot s n) : SlotKept n s t := ⟨by rw [same], by rw [same], by rw [same]⟩

theorem of_slots (same : t.slot = s.slot) : SlotKept n s t := of_eq (getSlot_of_slots same n)

/-- An operation on other groups than the slots. -/
theorem of_keeps {qs : List Part} {f : State → State} (keeps : Keeps qs f) (other : .slot ∉ qs) (n : Nat) (s : State) : SlotKept n s (f s) :=
  of_slots (keeps.samePart (p := .slot) other s)

/-- A write of another slot. -/
theorem of_updSlot_other {m : Nat} (other : n ≠ m) (f : Slot → Slot) (s : State) : SlotKept n s (updSlot m f s) :=
  of_eq (by rw [getSlot_updSlot, if_neg other])

/-- A write of any slot that spares its target, its count and its operations. -/
theorem of_updSlot {m : Nat} {f : Slot → Slot}
    (spares : ∀ x, (f x).tgt = x.tgt ∧ fld (f x).sts 43 32 = fld x.sts 43 32 ∧ (f x).ops = x.ops) : SlotKept n s (updSlot m f s) := by
  by_cases here : n = m
  · subst here
    obtain ⟨target, count, ops⟩ := spares (getSlot s n)
    exact ⟨by rw [getSlot_updSlot_same, target], by rw [getSlot_updSlot_same, count], by rw [getSlot_updSlot_same, ops]⟩
  · exact of_updSlot_other here f s

theorem foldl {α : Type} {f : State → α → State} (each : ∀ s a, SlotKept n s (f s a)) (l : List α) (s : State) :
    SlotKept n s (l.foldl f s) := by
  induction l generalizing s with
  | nil => exact refl n s
  | cons a l ih => exact (each s a).trans (ih _)

end SlotKept

theorem gln_slotKept (code level tenant : Nat) (p1 p2 : Int) (n : Nat) (s : State) : SlotKept n s (gln code level tenant p1 p2 s) :=
  .of_keeps (gln_keeps code level tenant p1 p2) (by decide) n s

/-- A field above the one that is set. -/
theorem fld_setFld_above {hi lo hi' lo' : Nat} (hhi : hi < 48) (h : hi < lo') (w : Word) (v : Nat) :
    fld (setFld w hi lo v) hi' lo' = fld w hi' lo' := by
  refine Nat.eq_of_testBit_eq fun k => ?_
  rw [testBit_fld, testBit_fld, getLsbD_setFld hhi, if_neg (by omega)]

/-- The end of a slot's arming changes STATE and the time alone (07 Table 7-12). -/
theorem slotEnd_slotKept (m st n : Nat) (s : State) : SlotKept n s (slotEnd m st s) := by
  unfold slotEnd
  refine .trans (t := updSlot m _ s) ?_ (.of_keeps (pairSend_keeps _) (by decide) n _)
  refine .of_updSlot fun x => ⟨rfl, ?_, rfl⟩
  rw [fld_setFld_above (by decide) (by decide), fld_setFld_of_lt (by decide) (by decide)]

theorem slotState_slotEnd {st : Nat} (known : st < 16) (n : Nat) (s : State) : slotState (getSlot (slotEnd n st s) n) = st := by
  have sent (r : PairRec) (t : State) : getSlot (pairSend r t) n = getSlot t n :=
    getSlot_of_slots ((pairSend_keeps r).samePart (p := .slot) (by decide) t) n
  unfold slotEnd
  rw [sent, getSlot_updSlot_same]
  unfold slotState
  rw [fld_setFld_above (by decide) (by decide), fld_setFld_same (by decide)]
  exact Nat.mod_eq_of_lt known

theorem startPulse_slotKept (m w n : Nat) (s : State) : SlotKept n s (startPulse m w s) := by
  have ends (l : List (Nat × Slot)) (s : State) : SlotKept n s
      { s with slot := l.foldl (fun t e => tupd {} e.1 (fun x => { x with pulse := none }) t) s.slot } := by
    induction l generalizing s with
    | nil => exact .refl n s
    | cons a l ih =>
      have one : SlotKept n s (updSlot a.1 (fun x => { x with pulse := none }) s) := .of_updSlot fun _ => ⟨rfl, rfl, rfl⟩
      exact one.trans (ih _)
  unfold startPulse; extract_lets x l on t
  split
  · exact .refl n s
  · have ended : SlotKept n s t := ends _ s
    exact ended.trans (.of_updSlot fun _ => ⟨rfl, rfl, rfl⟩)

theorem slotAct_slotKept (m n : Nat) (s : State) : SlotKept n s (slotAct m s) := by
  have noted (b : Bool) (s : State) : SlotKept n s (updSlot m (fun x => { x with noted := b }) s) :=
    .of_updSlot fun _ => ⟨rfl, rfl, rfl⟩
  unfold slotAct; extract_lets x w t
  have written : SlotKept n s t := (noted false s).trans (.of_keeps (fireWord_keeps m w) (by decide) n _)
  split
  · exact .refl n s
  · split
    · split
      · exact .refl n s
      · exact (noted true s).trans (gln_slotKept ..)
    · split
      · exact written.trans (startPulse_slotKept ..)
      · exact written

theorem slotFire_slotKept (st m n : Nat) (s : State) : SlotKept n s (slotFire st m s) := by
  unfold slotFire; extract_lets x acted posted
  have raised : SlotKept n acted posted := by
    unfold posted
    split
    · exact .of_keeps (fire_keeps _) (by decide) n _
    · exact .refl n _
  exact (slotAct_slotKept m n s).trans (raised.trans (slotEnd_slotKept ..))

theorem slotsStep_slotKept (b : Nat) (a c : Int) (n : Nat) (s : State) : SlotKept n s (slotsStep b a c s) := by
  refine .foldl (fun s m => ?_) _ s
  extract_lets x
  split
  · exact (slotFire_slotKept ..).trans (gln_slotKept ..)
  · exact (slotEnd_slotKept ..).trans (gln_slotKept ..)

theorem applyFix_slotKept (c : Int) (tf n : Nat) (s : State) : SlotKept n s (applyFix c tf s) := by
  unfold applyFix; extract_lets a _ _ t
  have moved : SlotKept n s t := .of_slots rfl
  exact moved.trans ((slotsStep_slotKept ..).trans (gln_slotKept ..))

theorem stepFirst_slotKept (n : Nat) (s : State) : SlotKept n s (stepFirst s) := by
  unfold stepFirst
  split
  · unfold applyFixes
    have taken : SlotKept n s { s with tb := { s.tb with fix := [] } } := .of_slots rfl
    exact taken.trans (.foldl (fun s (f : Int × Nat) => applyFix_slotKept f.1 f.2 n s) _ _)
  · exact .refl n s

/-- A slot that operations of this cycle have not reached: no firing takes it back behind them. -/
abbrev Unreached (n : Nat) (s : State) : Prop := opsNow s (getSlot s n) = false

/-- An operation that leaves the clock and the cores leaves the cycle being worked through. -/
theorem opsNow_of_keeps {qs : List Part} {f : State → State} (keeps : Keeps qs f) (other : .clk ∉ qs ∧ .core ∉ qs) (s : State) (x : Slot) :
    opsNow (f s) x = opsNow s x := by
  obtain ⟨clk, core⟩ := other
  unfold opsNow
  rw [keeps.samePart (p := .clk) clk s, keeps.samePart (p := .core) core s]

theorem unreached_of_keeps {n : Nat} {s : State} (unreached : Unreached n s) {qs : List Part} {f : State → State} (keeps : Keeps qs f)
    (other : .clk ∉ qs ∧ .core ∉ qs) (kept : SlotKept n s (f s)) : Unreached n (f s) := by
  have same : opsNow (f s) (getSlot (f s) n) = opsNow (f s) (getSlot s n) := by unfold opsNow; rw [kept.ops]
  exact same.trans ((opsNow_of_keeps keeps other s _).trans unreached)

theorem slotFireFirst_slotKept {n : Nat} {s : State} (unreached : Unreached n s) (m : Nat) : SlotKept n s (slotFireFirst m s) := by
  unfold slotFireFirst; extract_lets x fired _ marked
  have fires : SlotKept n s fired := slotFire_slotKept ..
  split
  next reached =>
    have other : n ≠ m := by
      rintro rfl
      have now : opsNow fired x = opsNow s x := opsNow_of_keeps (slotFire_keeps 2 n) (by decide) s x
      cases reached.symm.trans (now.trans unreached)
    have marks : SlotKept n s marked := fires.trans (.of_updSlot_other other ..)
    split
    · exact marks.trans (.of_updSlot_other other ..)
    · exact marks
  next => exact fires

/-- Firings of other slots do not reach a slot either. -/
theorem slotFireFirst_unreached {n : Nat} {s : State} (unreached : Unreached n s) (m : Nat) : Unreached n (slotFireFirst m s) :=
  unreached_of_keeps unreached (slotFireFirst_keeps m) (by decide) (slotFireFirst_slotKept unreached m)

theorem fireReached_slotKept {n : Nat} {s : State} (unreached : Unreached n s) (q : Slot → Bool) : SlotKept n s (fireReached q s) := by
  unfold fireReached
  generalize List.filterMap _ s.slot = l
  induction l generalizing s with
  | nil => exact .refl n s
  | cons m l ih => exact (slotFireFirst_slotKept unreached m).trans (ih (slotFireFirst_unreached unreached m))

theorem fireDue_slotKept {n : Nat} {s : State} (unreached : Unreached n s) : SlotKept n s (fireDue s) := by
  have stepped : SlotKept n s (stepFirst s) := stepFirst_slotKept n s
  have still : Unreached n (stepFirst s) := unreached_of_keeps unreached stepFirst_keeps (by decide) stepped
  unfold fireDue fireWith; extract_lets t
  split
  · exact stepped.trans (fireReached_slotKept still _)
  · exact stepped

/-! ### Arming and cancelling a slot that the cycle's operations have not reached (07 R197, R198, R201) -/

/-- Whatever an arming comes to, the slot keeps the target that it was given and the count that it took. -/
theorem slotArm_slotKept (n : Nat) (t : Word) (s : State) :
    SlotKept n (updSlot n (fun x => { x with tgt := t, ref := s.tb.pos, sts := setFld x.sts 43 32 (fld x.sts 43 32 + 1) }) s) (slotArm n t s) := by
  have armed (s : State) : SlotKept n s (updSlot n (fun x => { x with sts := setFld x.sts 47 44 1 }) s) :=
    .of_updSlot fun x => ⟨rfl, fld_setFld_of_lt (by decide) (by decide) x.sts 1, rfl⟩
  unfold slotArm; extract_lets given x m b dc
  split
  · exact slotEnd_slotKept ..
  · split
    · exact slotEnd_slotKept ..
    · split
      · split
        · exact (slotEnd_slotKept ..).trans (gln_slotKept ..)
        · split
          · exact slotFire_slotKept ..
          · exact armed _
      · exact armed _

theorem slotState_slotCancel (n : Nat) (s : State) :
    slotState (getSlot (slotCancel n s) n) = if slotState (getSlot s n) = 1 then 3 else slotState (getSlot s n) := by
  have armed : slotArmed (getSlot s n) = true ↔ slotState (getSlot s n) = 1 := beq_iff_eq
  unfold slotCancel
  by_cases h : slotState (getSlot s n) = 1
  · rw [if_pos (armed.mpr h), if_pos h]
    exact slotState_slotEnd (by decide) n s
  · rw [if_neg (mt armed.mp h), if_neg h]

/-- The first operation of a cycle on a slot acts after the firings that are due, and is noted. -/
theorem slotOp_unreached {n : Nat} {s : State} (unreached : Unreached n s) (rank : Nat) (arm : Option Word) :
    ∃ ops, slotOp rank n arm s = updSlot n (fun x => { x with ops := ops }) (slotDo n arm (fireDue s)) := by
  have still : Unreached n (fireDue s) := unreached_of_keeps unreached fireDue_keeps (by decide) (fireDue_slotKept unreached)
  unfold slotOp; extract_lets t x done b
  have first : ¬ (opsNow t x && decide (rank < x.ops.rank)) = true := by rw [still]; simp
  rw [if_neg first]
  exact ⟨_, rfl⟩

theorem slotOp_arms {n : Nat} {s : State} (unreached : Unreached n s) (rank : Nat) (t : Word) :
    (getSlot (slotOp rank n (some t) s) n).tgt = t ∧
      fld (getSlot (slotOp rank n (some t) s) n).sts 43 32 = (fld (getSlot s n).sts 43 32 + 1) % 4096 := by
  obtain ⟨ops, acts⟩ := slotOp_unreached unreached rank (some t)
  obtain ⟨target, count, -⟩ := slotArm_slotKept n t (fireDue s)
  rw [getSlot_updSlot_same] at target count
  have arms : slotDo n (some t) (fireDue s) = slotArm n t (fireDue s) := rfl
  rw [acts, arms, getSlot_updSlot_same]
  rw [fld_setFld_same (by decide), (fireDue_slotKept unreached).count] at count
  dsimp only at target ⊢
  exact ⟨target, count⟩

theorem slotOp_cancels {n : Nat} {s : State} (unreached : Unreached n s) (rank : Nat) :
    slotState (getSlot (slotOp rank n none s) n) =
      if slotState (getSlot (fireDue s) n) = 1 then 3 else slotState (getSlot (fireDue s) n) := by
  obtain ⟨ops, acts⟩ := slotOp_unreached unreached rank none
  rw [acts, getSlot_updSlot_same]
  exact slotState_slotCancel n (fireDue s)

/-! ### What the rows leave of their execution -/

@[simp] theorem retire_started (len : Nat) (tgt : Option Nat) (cyc : Nat) (e : Ex) : (retire len tgt cyc e).started = e.started := by
  obtain ⟨lp, ld, pc, h⟩ := retire_landed len tgt cyc e
  rw [h]; simp [landLoads_fields e]

@[simp] theorem retire_posts (len : Nat) (tgt : Option Nat) (cyc : Nat) (e : Ex) : (retire len tgt cyc e).posts = e.posts := by
  obtain ⟨lp, ld, pc, h⟩ := retire_landed len tgt cyc e
  rw [h]; simp [landLoads_fields e]

section Rows
variable {o : Kv} {k : Nat} {e : Ex} {s : State}

/-! ### SCH.ARM, SCH.CANCEL and SCH.STAT (04 R122) -/

theorem slotRow_traps {i : Kv → Instr} {body : Kv → Nat → Ex → State → Nat → KvRes} (h : KvIssues i o 2 k e s)
    (row : exec (i o) s = kvRun i (fun o k e s => devObj o e 11 anyValue (fun n => slotTenant (getSlot s n)) (body o k e s)) o s) :
    if 2 ^ 11 ≤ (rW e o.s).toNat then KvTraps i o k e s 0x06 (rW e o.s).toNat
    else slotTenant (getSlot s (rW e o.s).toNat) ≠ e.tenant → KvTraps i o k e s 0x0D (rW e o.s).toNat := by
  split
  next high => exact kvTraps_of_trap h row (devObj_number high)
  next low => exact fun foreign => kvTraps_of_trap h row (devObj_foreign low rfl foreign)

/-- An operation of the tenant's own slot acts by its rank, the core's number and one (07 R201), and the execution goes on. -/
theorem exec_of_slotOp {i : Kv → Instr} {arm : Option Word} {body : Kv → Nat → Ex → State → KvRes} (h : KvIssues i o 2 k e s)
    (low : (rW e o.s).toNat < 2 ^ 11) (own : slotTenant (getSlot s (rW e o.s).toNat) = e.tenant) (row : exec (i o) s = kvRun i body o s)
    (acts : body o k (openDistances e) (issueCycle o.core.val s) = devObj o (openDistances e) 11 anyValue (fun n => slotTenant (getSlot s n))
      fun n => kvOk (schSeen n (openDistances e) (slotOp (o.core.val + 1) n arm (issueCycle o.core.val s)))
        (slotOp (o.core.val + 1) n arm (issueCycle o.core.val s))) :
    ∃ e', exec (i o) s = .next (setEx k e' (slotOp (o.core.val + 1) (rW e o.s).toNat arm (issueCycle o.core.val s))) :=
  ⟨_, exec_of_kvOk h row (acts.trans (devObj_own (e := openDistances e) (Nat.not_le.mpr low) rfl own))⟩

theorem getSlot_setEx (k : Nat) (e : Option Ex) (s : State) (n : Nat) : getSlot (setEx k e s) n = getSlot s n := rfl

theorem schArm_arms (h : KvIssues .schArm o 2 k e s) (low : (rW e o.s).toNat < 2 ^ 11)
    (own : slotTenant (getSlot s (rW e o.s).toNat) = e.tenant) (unreached : Unreached (rW e o.s).toNat (issueCycle o.core.val s)) :
    Answers (exec (.schArm o) s) (fun t => (getSlot t (rW e o.s).toNat).tgt = rW e o.t ∧
      fld (getSlot t (rW e o.s).toNat).sts 43 32 = (fld (getSlot s (rW e o.s).toNat).sts 43 32 + 1) % 4096) := by
  obtain ⟨e', ran⟩ := exec_of_slotOp (arm := some (rW e o.t)) h low own rfl rfl
  refine ⟨_, ran, ?_⟩
  beta_reduce
  rw [getSlot_setEx]
  exact slotOp_arms unreached ..

theorem schCancel_cancels (h : KvIssues .schCancel o 2 k e s) (low : (rW e o.s).toNat < 2 ^ 11)
    (own : slotTenant (getSlot s (rW e o.s).toNat) = e.tenant) (unreached : Unreached (rW e o.s).toNat (issueCycle o.core.val s)) :
    let u := fireDue (issueCycle o.core.val s)
    Answers (exec (.schCancel o) s) (fun t => slotState (getSlot t (rW e o.s).toNat) =
      if slotState (getSlot u (rW e o.s).toNat) = 1 then 3 else slotState (getSlot u (rW e o.s).toNat)) := by
  obtain ⟨e', ran⟩ := exec_of_slotOp (arm := none) h low own rfl rfl
  refine ⟨_, ran, ?_⟩
  beta_reduce
  rw [getSlot_setEx]
  exact slotOp_cancels unreached _

theorem schStat_reads (h : KvIssues .schStat o 2 k e s) (low : (rW e o.s).toNat < 2 ^ 11)
    (own : slotTenant (getSlot s (rW e o.s).toNat) = e.tenant) :
    ∃ e', exec (.schStat o) s = .next (setEx k (some e') (issueCycle o.core.val s)) ∧
      rW e' o.d = wget (openDistances e).schSnap (rW e o.s).toNat ∧ KvKeeps 2 (some o.d) none e e' := by
  obtain ⟨e', ran, written, -, keeps⟩ := sets_of_wW h rfl (devObj_own (Nat.not_le.mpr low) rfl own)
  exact ⟨e', ran, written, keeps⟩

/-! ### CE.RD (04 R121, 03 R96) -/

/-- What CE.RD does with the result that it reads. -/
def ceRdEffect (o : Kv) (k : Nat) (e : Ex) (s : State) (n : Nat) : KvRes :=
  kvOk (wW o.d (cePart (ceP (getLoop (ceReadKv k n e s).2.2 n)) (ceReadKv k n e s).1 o.imm.toNat) (ceReadKv k n e s).2.1) (ceReadKv k n e s).2.2

theorem exec_ceRd (o : Kv) (s : State) : exec (.ceRd o) s =
    kvRun .ceRd (fun o k e s => devObj o e 9 (fun _ => if 9 ≤ o.imm.toNat then some o.imm.toNat else none)
      (fun n => ceTenant (getLoop s n)) (ceRdEffect o k e s)) o s := rfl

/-- Where no sample of the loop has its distance behind it, CE.RD reads what stands. -/
theorem ceReadKv_open {n : Nat} (pending : ∀ x ∈ e.started, x.loop = n → e.n < x.at_ + x.dist) (s : State) :
    ceReadKv k n (openDistances e) s = (cePrevious (openDistances e) n, openDistances e, s) := by
  have started : (openDistances e).started = e.started := rfl
  unfold ceReadKv
  rw [started]
  cases found : e.started.find? (fun x => x.loop == n) with
  | none => rfl
  | some x => exact if_pos (pending x (List.mem_of_find?_eq_some found) (by simpa using List.find?_some found))

/-- A sample past its distance whose result stands is bound by the read (03 R96). -/
theorem ceReadKv_bound {n : Nat} {x : CeStarted} {r : CeRes} (sample : e.started.find? (fun x => x.loop == n) = some x)
    (past : x.at_ + x.dist ≤ e.n) (ready : e.done.find? (fun r => r.loop == n && fld r.status 47 32 == x.seq) = some r) (s : State) :
    ceReadKv k n (openDistances e) s = (r, ceBind (openDistances e) n r, s) := by
  have started : (openDistances e).started = e.started := rfl
  have done : (openDistances e).done = e.done := rfl
  unfold ceReadKv
  rw [started, done, sample]
  have ended : ¬ (openDistances e).n < x.at_ + x.dist := Nat.not_lt.mpr past
  dsimp only
  rw [if_neg ended, ready]

theorem ceRd_reads (h : KvIssues .ceRd o 3 k e s) :
    let n := (rW e o.s).toNat
    let p := o.imm.toNat
    if 2 ^ 9 ≤ n then KvTraps .ceRd o k e s 0x06 n
    else if 9 ≤ p then KvTraps .ceRd o k e s 0x06 p
    else if ceTenant (getLoop s n) ≠ e.tenant then KvTraps .ceRd o k e s 0x0D n
    else (∀ x ∈ e.started, x.loop = n → e.n < x.at_ + x.dist) →
      ∃ e', exec (.ceRd o) s = .next (setEx k (some e') (issueCycle o.core.val s)) ∧ KvKeeps 3 (some o.d) none e e' ∧
        rW e' o.d = cePart (ceP (getLoop s n)) (cePrevious (openDistances e) n) p := by
  intro n p
  split
  next high => exact kvTraps_of_trap h (exec_ceRd o s) (devObj_number high)
  next low =>
  split
  next wrong => exact kvTraps_of_trap h (exec_ceRd o s) (devObj_value low (if_pos wrong))
  next part =>
  split
  next foreign => exact kvTraps_of_trap h (exec_ceRd o s) (devObj_foreign low (if_neg part) foreign)
  next own =>
  intro pending
  have effect : ceRdEffect o k (openDistances e) (issueCycle o.core.val s) n =
      kvOk (wW o.d (cePart (ceP (getLoop s n)) (cePrevious (openDistances e) n) p) (openDistances e)) (issueCycle o.core.val s) := by
    unfold ceRdEffect; rw [ceReadKv_open pending]; rfl
  obtain ⟨e', ran, written, -, keeps⟩ := sets_of_wW h (exec_ceRd o s)
    ((devObj_own (e := openDistances e) low (if_neg part) (not_not.mp own)).trans effect)
  exact ⟨e', ran, keeps, written⟩

theorem ceRd_binds {x : CeStarted} {r : CeRes} (h : KvIssues .ceRd o 3 k e s) :
    let n := (rW e o.s).toNat
    n < 2 ^ 9 → o.imm.toNat < 9 → ceTenant (getLoop s n) = e.tenant → e.started.find? (fun x => x.loop == n) = some x →
    x.at_ + x.dist ≤ e.n → e.done.find? (fun r => r.loop == n && fld r.status 47 32 == x.seq) = some r →
      ∃ e', exec (.ceRd o) s = .next (setEx k (some e') (issueCycle o.core.val s)) ∧ rW e' o.d = cePart (ceP (getLoop s n)) r o.imm.toNat ∧
        e'.n = e.n + 1 ∧ ∀ y ∈ e'.started, y.loop ≠ n := by
  intro n low part own sample past ready
  have effect : ceRdEffect o k (openDistances e) (issueCycle o.core.val s) n =
      kvOk (wW o.d (cePart (ceP (getLoop s n)) r o.imm.toNat) (ceBind (openDistances e) n r)) (issueCycle o.core.val s) := by
    unfold ceRdEffect; rw [ceReadKv_bound sample past ready]; rfl
  refine ⟨_, exec_of_kvOk h (exec_ceRd o s)
    ((devObj_own (e := openDistances e) (Nat.not_le.mpr low) (if_neg (Nat.not_le.mpr part)) own).trans effect), ?_, retire_n .., fun y hy => ?_⟩
  · rw [rW_retire (.inl (by simp [wW])), rW_wW_same]
  · rw [retire_started] at hy
    simpa using (List.mem_filter.mp hy).2

/-! ### CE.START (04 R121) -/

/-- Numbering the samples that stand behind a new one changes executions alone. -/
theorem foldl_seqLater_ce (n : Nat) (l : List CeJob) (s : State) : (l.foldl (seqLater n) s).ce = s.ce := by
  have one (s : State) (i : CeJob) : (seqLater n s i).ce = s.ce := by
    unfold seqLater
    split
    · rfl
    · split <;> rfl
  induction l generalizing s with
  | nil => rfl
  | cons i l ih => exact (ih _).trans (one s i)

/-- The engine has one sample more. -/
theorem ceStartScan_jobs (n k : Nat) (e : Ex) (s : State) : (ceStartScan n k e s).2.ce.jobs.length = s.ce.jobs.length + 1 := by
  have parts := List.length_eq_length_filter_add (l := s.ce.jobs) (startsLater s e.core)
  unfold ceStartScan
  rw [foldl_seqLater_ce]
  simp only [List.length_append, List.length_cons, List.length_nil]
  omega

/-- What CE.START does past its checks. -/
def ceStartEffect (k : Nat) (e : Ex) (s : State) (n : Nat) : KvRes :=
  if !(getLoop s n).isSet then kvOk e s
  else kvOk { e with started := ⟨n, (ceStartScan n k e s).1, e.n, ceDistance s n⟩ :: e.started } (ceStartScan n k e s).2

theorem ceStartEffect_unset {n : Nat} (bare : (getLoop s n).isSet = false) (e : Ex) : ceStartEffect k e s n = kvOk e s := by
  unfold ceStartEffect; rw [bare]; rfl

theorem ceStartEffect_set {n : Nat} (configured : (getLoop s n).isSet = true) (e : Ex) : ceStartEffect k e s n =
    kvOk { e with started := ⟨n, (ceStartScan n k e s).1, e.n, ceDistance s n⟩ :: e.started } (ceStartScan n k e s).2 := by
  unfold ceStartEffect; rw [configured]; rfl

theorem ceStartKv_eq (o : Kv) (k : Nat) (e : Ex) (s : State) :
    ceStartKv o k e s = devObj o e 9 (fun n => if ceTrig (getLoop s n) ≠ 0 ∨ 8 ≤ ceOutstanding e then some n else none)
      (fun n => ceTenant (getLoop s n)) (ceStartEffect k e s) := rfl

/-- With no overlay waiting, no loop changes before its start. -/
theorem ceStartB_unchanged (idle : s.ovl.units = []) (e : Ex) : ceStartB o k e s = ceStartKv o k e s := by
  unfold ceStartB
  rw [idle]
  simp only [List.any_nil, Bool.not_false, Bool.or_true, if_true]
  split
  next trap => exact trap.symm
  next => rfl

theorem ceStart_traps {c : Nat} {p : Int} (h : KvIssues .ceStart o 2 k e s)
    (trap : ceStartKv o k (openDistances e) (issueCycle o.core.val s) = .trap c p) : KvTraps .ceStart o k e s c p :=
  kvTraps_of_trap h rfl (by unfold ceStartB; rw [trap])

theorem ceStart_starts (h : KvIssues .ceStart o 2 k e s) :
    let n := (rW e o.s).toNat
    if 2 ^ 9 ≤ n ∨ ceTrig (getLoop s n) ≠ 0 ∨ 8 ≤ (e.started.filter (fun x => e.n < x.at_ + x.dist)).length then KvTraps .ceStart o k e s 0x06 n
    else if ceTenant (getLoop s n) ≠ e.tenant then KvTraps .ceStart o k e s 0x0D n
    else s.ovl.units = [] → Answers (exec (.ceStart o) s) (fun t => ∃ e', taskEx t k = some e' ∧
      (if (getLoop s n).isSet then
        (∃ d, e'.started = ⟨n, (fld (getLoop s n).status 47 32 + startsAhead (issueCycle o.core.val s) n e.core + 1) % 65536, e.n, d⟩ :: e.started) ∧
          t.ce.jobs.length = s.ce.jobs.length + 1
      else e'.started = e.started ∧ t.ce = s.ce)) := by
  intro n
  rw [← List.countP_eq_length_filter]
  by_cases high : 2 ^ 9 ≤ n
  · rw [if_pos (.inl high)]
    exact ceStart_traps h ((ceStartKv_eq ..).trans (devObj_number high))
  by_cases wrong : ceTrig (getLoop s n) ≠ 0 ∨ 8 ≤ e.started.countP (fun x => e.n < x.at_ + x.dist)
  · rw [if_pos (.inr wrong)]
    exact ceStart_traps h ((ceStartKv_eq ..).trans (devObj_value high (if_pos wrong)))
  rw [if_neg (not_or.mpr ⟨high, wrong⟩)]
  split
  next foreign => exact ceStart_traps h ((ceStartKv_eq ..).trans (devObj_foreign high (if_neg wrong) foreign))
  next own =>
  intro idle
  have effect : ceStartB o k (openDistances e) (issueCycle o.core.val s) = ceStartEffect k (openDistances e) (issueCycle o.core.val s) n :=
    (ceStartB_unchanged (s := issueCycle o.core.val s) idle _).trans
      ((ceStartKv_eq ..).trans (devObj_own (e := openDistances e) high (if_neg wrong) (not_not.mp own)))
  cases configured : (getLoop s n).isSet with
  | false =>
    exact ⟨_, exec_of_kvOk h rfl (effect.trans (ceStartEffect_unset (s := issueCycle o.core.val s) configured _)), _, taskEx_setEx_same ..,
      retire_started .., rfl⟩
  | true =>
    exact ⟨_, exec_of_kvOk h rfl (effect.trans (ceStartEffect_set (s := issueCycle o.core.val s) configured _)), _, taskEx_setEx_same ..,
      ⟨_, retire_started ..⟩, ceStartScan_jobs ..⟩

/-! ### Posts (04 R123) -/

/-- A post is held where fewer than sixteen are and the tenant may post the source; else it traps. -/
theorem posts_of_addPost {i : Kv → Instr} {len src : Nat} {owned : Bool} {body : Kv → Nat → Ex → State → KvRes} (h : KvIssues i o len k e s)
    (row : exec (i o) s = kvRun i body o s)
    (answer : body o k (openDistances e) (issueCycle o.core.val s) = addPost src owned (openDistances e) (issueCycle o.core.val s)) :
    if 16 ≤ e.posts.length then KvTraps i o k e s 0x06 src
    else if owned = false then KvTraps i o k e s 0x0D src
    else ∃ e', exec (i o) s = .next (setEx k (some e') (issueCycle o.core.val s)) ∧ e'.posts = e.posts ++ [src] ∧ e'.n = e.n + 1 := by
  unfold addPost at answer
  split
  next full => exact kvTraps_of_trap h row (answer.trans (if_pos full))
  next room =>
  cases owned with
  | false => exact kvTraps_of_trap h row (answer.trans (if_neg room))
  | true => exact ⟨_, exec_of_kvOk h row (answer.trans (if_neg room)), retire_posts .., retire_n ..⟩

theorem evtPost_posts (h : KvIssues .evtPost o 2 k e s) :
    let n := (rW e o.s).toNat
    if 32 ≤ n then KvTraps .evtPost o k e s 0x06 n
    else if 16 ≤ e.posts.length then KvTraps .evtPost o k e s 0x06 (320 + n : Nat)
    else if e.tenant ≠ 0 ∧ n ≠ e.tenant then KvTraps .evtPost o k e s 0x0D (320 + n : Nat)
    else ∃ e', exec (.evtPost o) s = .next (setEx k (some e') (issueCycle o.core.val s)) ∧ e'.posts = e.posts ++ [320 + n] ∧ e'.n = e.n + 1 := by
  intro n
  split
  next high => exact kvTraps_of_trap h rfl (if_pos high)
  next low =>
  have foreign : (e.tenant == 0 || n == e.tenant) = false ↔ e.tenant ≠ 0 ∧ n ≠ e.tenant := by simp
  have posts := posts_of_addPost (src := 320 + n) (owned := e.tenant == 0 || n == e.tenant) h rfl (if_neg low)
  simpa only [foreign] using posts

theorem swev_posts (h : KvIssues .swev o 3 k e s) :
    let n := o.imm.toNat
    if 16 ≤ n then KvTraps .swev o k e s 0x06 n
    else if 16 ≤ e.posts.length then KvTraps .swev o k e s 0x06 (368 + n : Nat)
    else if evtOwner s (368 + n) ≠ e.tenant then KvTraps .swev o k e s 0x0D (368 + n : Nat)
    else ∃ e', exec (.swev o) s = .next (setEx k (some e') (issueCycle o.core.val s)) ∧ e'.posts = e.posts ++ [368 + n] ∧ e'.n = e.n + 1 := by
  intro n
  split
  next high => exact kvTraps_of_trap h rfl (if_pos high)
  next low =>
  have foreign : (evtOwner s (368 + n) == e.tenant) = false ↔ evtOwner s (368 + n) ≠ e.tenant := beq_eq_false_iff_ne
  have posts := posts_of_addPost (src := 368 + n) (owned := evtOwner s (368 + n) == e.tenant) h rfl (if_neg low)
  simpa only [foreign] using posts

end Rows

/-- Settles O12 (the values before the owner by log 23, outstanding samples and the start of an unset loop by log 98, the value in the trap
of CE.RD by log 99): each operation checks its values, then the owner (`devObj_sound`); an arming or a cancellation acts on the slot as
the firings of the tick leave it (`slotOp_unreached`), the engine's rows on their loop's samples, a post waits for the commit. -/
theorem kvDeviceOperations : Obligations.KvDeviceOperations := by
  refine ⟨fun i member o k e s h => ?_, fun _ _ _ _ => schArm_arms, fun _ _ _ _ => schCancel_cancels, fun _ _ _ _ => schStat_reads,
    fun _ _ _ _ => ceRd_reads, fun _ _ _ _ _ _ => ceRd_binds, fun _ _ _ _ => ceStart_starts, fun _ _ _ _ => evtPost_posts,
    fun _ _ _ _ => swev_posts⟩
  simp only [List.mem_cons, List.not_mem_nil, or_false] at member
  obtain rfl | rfl | rfl := member <;> exact slotRow_traps h rfl

end Sys2Proof.Machine
end

section
/-! SUPPORT. What it is for a state to keep the plots of its executions where another does, and how that passes through operations,
commands and rows: rules for simp to work from the last operation of a state inwards. Obligation O4. -/

namespace Sys2Proof.Machine

/-! ### What it is to keep the plots -/

/-- Every output word that the execution holds lies in a TASK plot that its tenant owns at its own device. -/
def OwnPlots (e : Ex) : Prop :=
  (∀ x ∈ e.outw, plotCheck e 2 x.1 true = true) ∧ (∀ x ∈ e.imPend, plotCheck e 2 x.key true = true)

/-- Where s keeps its plots, t keeps its own. -/
def Follows (s t : State) : Prop := PlotsAreKept s → PlotsAreKept t

/-- As Follows, but no rule of simp looks into it. -/
def FollowsBy (s t : State) : Prop := PlotsAreKept s → PlotsAreKept t

/-- simp leaves the states alone, which are for the rules below. -/
@[congr] theorem Follows.congr_states {s t : State} : Follows s t = Follows s t := rfl

@[congr] theorem FollowsBy.congr_states {s t : State} : FollowsBy s t = FollowsBy s t := rfl

@[simp] theorem Follows.refl (s : State) : Follows s s := id

theorem Follows.trans {s t u : State} (h : Follows s t) (k : Follows t u) : Follows s u := k ∘ h

/-- For simp to work from the last operation of a state inwards a rule is an equivalence; the second disjunct makes it one. -/
theorem Follows.iff_or {t u : State} (h : Follows t u) (s : State) : Follows s u ↔ Follows s t ∨ FollowsBy s u :=
  ⟨.inr, fun k => k.elim (·.trans h) id⟩

/-- The operation keeps the plots, whatever happened before it. -/
abbrev KeepsPlots (f : State → State) : Prop := ∀ s t, Follows s (f t) ↔ Follows s t ∨ FollowsBy s (f t)

theorem KeepsPlots.of {f : State → State} (h : ∀ s, Follows s (f s)) : KeepsPlots f := fun s t => (h t).iff_or s

theorem Follows.of_ex {s t : State} (h : t.core.ex = s.core.ex) : Follows s t :=
  fun kept k e he => kept k e (by rw [taskEx, ← h]; exact he)

/-- All groups but the cores, which hold the executions. -/
abbrev coreless : List Part :=
  [.clk, .mb, .evt, .gln, .silo, .rtc, .aon, .sup, .prog, .task, .img, .tb, .slot, .ce, .svc, .fio, .saf, .can, .eth, .pass, .pair,
    .flash, .ovl, .out, .free]

theorem Follows.of_frame {ps : List Part} {s t : State} (h : Frame ps s t) (hp : .core ∉ ps) : Follows s t :=
  .of_ex (by rw [show t.core = s.core from h.2 .core hp])

@[simp] theorem follows_frame {f : State → State} (s t : State) (h : Frame coreless t (f t)) :
    Follows s (f t) ↔ Follows s t ∨ FollowsBy s (f t) := (Follows.of_frame h (by decide)).iff_or s

@[simp] theorem follows_mk {s t : State} {clk mb evt gln silo rtc aon sup core prog task img tb slot ce svc fio saf can eth pass pair flash ovl out free}
    (h : core.ex = t.core.ex) :
    Follows s (State.mk clk mb evt gln silo rtc aon sup core prog task img tb slot ce svc fio saf can eth pass pair flash ovl out free
      t.pending) ↔ Follows s t ∨ FollowsBy s (State.mk clk mb evt gln silo rtc aon sup core prog task img tb slot ce svc fio saf can eth
        pass pair flash ovl out free t.pending) :=
  (Follows.of_ex (t := State.mk ..) h).iff_or s

@[simp] theorem follows_ite {s t u : State} {c : Prop} [Decidable c] :
    Follows s (if c then t else u) ↔ Either c (Follows s t) (Follows s u) := by
  unfold Either; split <;> simp [*]

@[simp] theorem follows_fst_ite {α : Type} {s : State} {x y : State × α} {c : Prop} [Decidable c] :
    Follows s (if c then x else y).1 ↔ Either c (Follows s x.1) (Follows s y.1) := by
  unfold Either; split <;> simp [*]

@[simp] theorem follows_snd_ite {α : Type} {s : State} {x y : α × State} {c : Prop} [Decidable c] :
    Follows s (if c then x else y).2 ↔ Either c (Follows s x.2) (Follows s y.2) := by
  unfold Either; split <;> simp [*]

theorem Follows.foldl {α : Type} {f : State → α → State} (hf : ∀ s a, Follows s (f s a)) (l : List α) (s : State) : Follows s (l.foldl f s) := by
  induction l generalizing s with
  | nil => exact .refl s
  | cons a l ih => exact (hf s a).trans (ih _)

@[simp] theorem follows_foldl {α : Type} {s t : State} {f : State → α → State} (l : List α) :
    Follows s (l.foldl f t) ↔ (Follows s t ∧ ∀ u a, Follows u (f u a)) ∨ FollowsBy s (l.foldl f t) :=
  ⟨.inr, fun h => h.elim (fun ⟨ht, hf⟩ => ht.trans (.foldl hf l t)) id⟩

@[simp] theorem follows_snd_foldl {α β : Type} {s : State} {f : β × State → α → β × State} (l : List α) (b : β × State)
    (hf : ∀ b a, Follows b.2 (f b a).2) : Follows s (l.foldl f b).2 ↔ Follows s b.2 ∨ FollowsBy s (l.foldl f b).2 := by
  refine Follows.iff_or ?_ s
  induction l generalizing b with
  | nil => exact .refl _
  | cons a l ih => exact (hf b a).trans (ih _)

@[simp] theorem follows_fst_foldl {α β : Type} {s : State} {f : State × β → α → State × β} (l : List α) (b : State × β)
    (hf : ∀ b a, Follows b.1 (f b a).1) : Follows s (l.foldl f b).1 ↔ Follows s b.1 ∨ FollowsBy s (l.foldl f b).1 := by
  refine Follows.iff_or ?_ s
  induction l generalizing b with
  | nil => exact .refl _
  | cons a l ih => exact (hf b a).trans (ih _)

/-! ### Commands and rows -/

/-- What a command gives where it is not refused keeps the plots. -/
def MbFollows (s : State) (r : MbR) : Prop := Passing r fun o => Follows s o.s

@[congr] theorem MbFollows.congr_states {s : State} {r} : MbFollows s r = MbFollows s r := rfl

@[simp] theorem MbFollows.of_frame {s : State} {r : MbR} (h : MbFrame coreless s r) : MbFollows s r :=
  fun o ho => .of_frame (h o ho) (by decide)

@[simp] theorem mbFollows_error (s) (rc : Nat) : MbFollows s (.error rc) := passing_error rc _

@[simp] theorem mbFollows_ok (s rc b t) : MbFollows s (.ok ⟨rc, b, t⟩) ↔ Follows s t := passing_ok ..

@[simp] theorem mbFollows_reply (s b t) : MbFollows s (reply b t) ↔ Follows s t := mbFollows_ok ..

@[simp] theorem mbFollows_done (s t) : MbFollows s (done t) ↔ Follows s t := mbFollows_ok ..

@[simp] theorem mbFollows_defer (s t) : MbFollows s (defer t) ↔ Follows s t := mbFollows_ok ..

@[simp] theorem mbFollows_ite {s} {r r' : MbR} {c : Prop} [Decidable c] :
    MbFollows s (if c then r else r') ↔ Either c (MbFollows s r) (MbFollows s r') := passing_ite ..

@[simp] theorem mbFollows_bind {α : Type} {s} (x : Except Nat α) (f : α → MbR) :
    MbFollows s (x >>= f) ↔ Passing x (fun a => MbFollows s (f a)) := passing_bind ..

/-- The row goes on to states that keep the plots alone. -/
def RowFollows (s : State) (o : Host.Outcome State Fault Refusal) : Prop := ∀ t, o = .next t → Follows s t

@[congr] theorem RowFollows.congr_states {s : State} {o} : RowFollows s o = RowFollows s o := rfl

@[simp] theorem rowFollows_next (s t) : RowFollows s (.next t) ↔ Follows s t := ⟨fun h => h t rfl, fun h _ ht => by cases ht; exact h⟩

@[simp] theorem rowFollows_ite {s} {r r' : Host.Outcome State Fault Refusal} {c : Prop} [Decidable c] :
    RowFollows s (if c then r else r') ↔ Either c (RowFollows s r) (RowFollows s r') := by
  unfold Either; split <;> simp [*]

theorem RowFollows.of_goes {ps : List Part} {s : State} {r : Host.Outcome State Fault Refusal} (h : Goes ps s r) (hp : .core ∉ ps) :
    RowFollows s r := by
  obtain ⟨t, rfl, hf⟩ := h
  exact (rowFollows_next s t).2 (.of_frame hf hp)

theorem runMb_follows {f : Nat → Nat → Bytes → State → MbR} {ch : Fin 16} {code : Nat} {p : Bytes} {s : State}
    (hf : ∀ t, MbFollows s (f t ch.val p s)) : RowFollows s (runMb ch code f p s) := by
  unfold runMb finishMb
  split
  · split
    · simp
    next o ho =>
      have h : Follows s o.s := hf _ o ho
      extract_lets t
      have ht : Follows s t := by simp [t, h]
      split <;> simp [ht]
  · simp

/-! ### Executions written -/

theorem Follows.setEx {k : Nat} {s t : State} {e : Option Ex} (h : Follows s t) (he : ∀ x, e = some x → PlotsAreKept s → OwnPlots x) :
    Follows s (setEx k e t) := by
  intro kept n x hx
  simp only [taskEx, Machine.setEx, tget_tput] at hx
  split at hx
  · exact he x hx kept
  · exact h kept n x hx

end Sys2Proof.Machine
end

section
/-! SUPPORT. The operations on tasks, compute engines, segments, modes, the pair and values keep the plots. Obligation O4. -/

namespace Sys2Proof.Machine

/-! ### Executions that are written, released and dropped -/

/-- A record update of a live execution that leaves its words and its plots as they were. -/
theorem Follows.setEx_live {k : Nat} {s t : State} {e x : Ex} (h : Follows s t) (he : taskEx s k = some e) (hx : OwnPlots e → OwnPlots x) :
    Follows s (Machine.setEx k (some x) t) :=
  h.setEx fun _ hy kept => by cases hy; exact hx (kept k e he)

theorem ownPlots_newEx (s : State) (k : Nat) : OwnPlots (newEx s k) := by simp [OwnPlots, newEx]

@[simp] theorem setCore_plots (c : Nat) (k : Option Nat) : KeepsPlots (setCore c k) := .of fun s => by simp [setCore]

theorem preempt_follows {j : Nat} {e : Ex} {s : State} (he : taskEx s j = some e) : Follows s (preempt j e s) := by
  unfold preempt
  exact .setEx_live (by simp) he id

@[simp] theorem place_plots (k c : Nat) : KeepsPlots (place k c) := .of fun s => by
  unfold place; extract_lets t
  have ht : Follows s t := by
    unfold t; split
    · split
      next he => exact preempt_follows he
      · exact .refl s
    · exact .refl s
  clear_value t
  split
  next he => exact ht.trans (((setCore_plots ..).2 (.inl (.setEx_live (.refl t) he id))))
  · exact ht

@[simp] theorem dispatchN_plots (n : Nat) : KeepsPlots (dispatchN n) := .of fun s => by
  induction n generalizing s with
  | zero => exact .refl s
  | succ n ih =>
    unfold dispatchN; split
    · exact .trans (by simp) (ih _)
    · exact .refl s

@[simp] theorem dispatch_plots : KeepsPlots dispatch := .of fun s => by simp [dispatch]

@[simp] theorem releaseTask_plots {onCount : Nat → State → State} (k : Nat) (ho : ∀ k, KeepsPlots (onCount k)) :
    KeepsPlots (releaseTask onCount k) := .of fun s => by
  unfold releaseTask; extract_lets s1 s2 s3 t q c s4 e
  have h4 : Follows s s4 := by simp [s4, c, s3, s2, s1, ho]
  refine (dispatch_plots ..).2 (.inl (.setEx ?_ fun x hx _ => ?_))
  · simp [h4]
  · cases hx; exact ownPlots_newEx s4 k

@[simp] theorem dropEx_plots (k : Nat) : KeepsPlots (dropEx k) := .of fun s => by
  have gone : Follows s (setEx k none s) := .setEx (.refl s) fun _ h => nomatch h
  unfold dropEx; split <;> simp [gone]

@[simp] theorem dropWhere_plots (q : Nat → Bool) : KeepsPlots (dropWhere q) := .of fun s => by simp [dropWhere]

@[simp] theorem enterFault_plots (scope cause : Nat) : KeepsPlots (enterFault scope cause) := .of fun s => by simp [enterFault]

@[simp] theorem taskTrap_plots (k : Nat) (e : Ex) (cause : Nat) (p2 : Int) : KeepsPlots (taskTrap k e cause p2) := .of fun s => by
  simp [taskTrap]

/-! ### Compute engines -/

@[simp] theorem ceComplete_plots (j : CeJob) : KeepsPlots (ceComplete j) := .of fun s => by
  unfold ceComplete; extract_lets _ s1 n ms cs sel lead ua s2 s3 s4
  have h4 : Follows s s4 := by simp [s4, s3, s2, s1]
  clear_value s4
  refine (follows_frame (f := ceSettle _) _ _ (by simp)).2 (.inl ?_)
  split
  · simp [h4]
  · split
    · exact h4
    next he => exact h4.trans (.setEx_live (.refl s4) he id)

theorem seqLater_follows (n : Nat) (s : State) (i : CeJob) : Follows s (seqLater n s i) := by
  unfold seqLater; split
  · exact .refl s
  · split
    · exact .refl s
    next he => exact .setEx_live (.refl s) he id

@[simp] theorem ceStartScan_plots (n k : Nat) (e : Ex) : KeepsPlots (fun s => (ceStartScan n k e s).2) := .of fun s => by
  simp [ceStartScan, seqLater_follows]

/-! ### Segments -/

@[simp] theorem putSeg2_plots (t : Nat) (ws : List Word) : KeepsPlots (putSeg2 t ws) := .of fun s => by simp [putSeg2]

@[simp] theorem initSeg_plots (seg owner len : Nat) : KeepsPlots (initSeg seg owner len) := .of fun s => by simp [initSeg]

@[simp] theorem retChoose_plots (t : Nat) : KeepsPlots (retChoose t) := .of fun s => by
  unfold retChoose; dsimp only
  (repeat' split) <;> simp

/-! ### Resets -/

@[simp] theorem deviceReset_plots (cause detail : Nat) : KeepsPlots (deviceReset cause detail) :=
  .of fun _ _ => plotsAreKept_of_idle fun _ => rfl

@[simp] theorem selfFault_plots (cause detail : Nat) : KeepsPlots (selfFault cause detail) := .of fun s => by simp [selfFault]

@[simp] theorem wdgExpire_plots (detail token : Nat) : KeepsPlots (wdgExpire detail token) := .of fun s => by simp [wdgExpire]

@[simp] theorem wdgService_plots (token : Nat) : KeepsPlots (wdgService token) := .of fun s => by simp [wdgService]

@[simp] theorem wdgCommit_plots (k : Nat) (ws : List (Nat × Word)) : KeepsPlots (wdgCommit k ws) := .of fun s => by
  unfold wdgCommit; split <;> simp

/-! ### Modes -/

@[simp] theorem setPending_plots (n : Nat) (b : Bool) : KeepsPlots (setPending n b) := .of fun s => by simp

@[simp] theorem retSnap_plots (t : Nat) : KeepsPlots (retSnap t) := .of fun s => by simp

@[simp] theorem warmStart_plots (cold : Bool) (t : Nat) : KeepsPlots (warmStart cold t) := .of fun s => by simp [warmStart]

@[simp] theorem applyMode_plots (scope m cause : Nat) (cold : Bool) : KeepsPlots (applyMode scope m cause cold) := .of fun s => by
  simp [applyMode]

@[simp] theorem finishTrans_plots (scope : Nat) (r : Trans) : KeepsPlots (finishTrans scope r) := .of fun s => by
  unfold finishTrans; split <;> simp

@[simp] theorem commitEx_plots (k : Nat) (e : Ex) : KeepsPlots (commitEx k e) := .of fun s => by simp [commitEx]

/-! ### The pair -/

@[simp] theorem startServing_plots : KeepsPlots startServing := .of fun s => by
  unfold startServing
  extract_lets s1 m x2 s2 s3 s4
  have h1 : Follows s s1 := by
    unfold s1; split <;> simp
  have h3 : Follows s s3 := by simp [s3, s2, h1]
  clear_value s3
  simp [s4, h3]

@[simp] theorem takeover_plots (cause role : Nat) : KeepsPlots (takeover cause role) := .of fun s => by
  unfold takeover
  extract_lets s0 own s1 s2 s3 s4 s5
  have h2 : Follows s s2 := by simp [s2, s1, s0]
  have h3 : Follows s s3 := h2.trans (.foldl (fun s k => by
    split
    next he => exact .setEx_live (.refl s) he id
    · exact .refl s) _ _)
  simp [s5, s4, h3]

@[simp] theorem bothSilent_plots : KeepsPlots bothSilent := .of fun s => by simp [bothSilent]

@[simp] theorem replayRelease_plots (r : PairRel) : KeepsPlots (replayRelease r) := .of fun s => by
  unfold replayRelease; extract_lets k s1 s2 s3 c s4 e
  have h4 : Follows s s4 := by simp [s4, c, s3, s2, s1]
  exact (dispatch_plots ..).2 (.inl (h4.setEx fun x hx _ => by cases hx; exact ownPlots_newEx s4 k))

/-! ### Values and programs -/

@[simp] theorem putValue_plots (t : Nat) (e : Nat × Word) : KeepsPlots (putValue t e) := .of fun s => by
  unfold putValue; split
  · exact .of_ex rfl
  · exact .of_ex rfl
  · exact .of_ex rfl
  · exact .refl s

@[simp] theorem valueStep_plots (t : Nat) (j : ValueJob) : KeepsPlots (fun s => (valueStep t j s).2) := .of fun s => by
  simp [valueStep]

@[simp] theorem valueJob_plots (t ch : Nat) (j : ValueJob) (s : State) : MbFollows s (valueJob t ch j s) := by
  simp [valueJob]

@[simp] theorem mbValueWrite_plots (t ch : Nat) (p : Bytes) (s : State) : MbFollows s (mbValueWrite t ch p s) := by
  simp [mbValueWrite]

@[simp] theorem mbValueRead_plots (t ch : Nat) (p : Bytes) (s : State) : MbFollows s (mbValueRead t ch p s) := by simp [mbValueRead]

theorem follows_stores (s : State) (prog : Prog) (task : Tasks) (consts data : Tab Word) :
    Follows s { s with prog, task, core := { s.core with consts, data } } := .of_ex rfl

theorem unbindAll_follows (s : State) :
    Follows s ((List.range 384).foldl (fun s n => if bit (evtSrc s n) 23 then setEvtSrc n (setBit (evtSrc s n) 23 false) s else s) s) := by
  simp

theorem bindAll_follows (p : Prog) (s : State) :
    Follows s (p.entries.foldl (fun s e => bindSource e.1 none (entrySource e.2.1 e.2.2.1) s) s) := by
  simp

@[simp] theorem installProg_plots (p : Prog) : KeepsPlots (installProg p) := .of fun s =>
  .trans (.trans (unbindAll_follows s) (follows_stores _ _ _ _ _)) (bindAll_follows p _)

@[simp] theorem activateProg_plots (q : Prog) : KeepsPlots (activateProg q) := .of fun s => by
  unfold activateProg; extract_lets p ws carried x1 s1
  have h1 : Follows s s1 := (installProg_plots ..).2 (.inl (.of_ex rfl))
  clear_value s1
  simp [h1]

/-! ### The table of commands -/

theorem mbOf_plots {code : Nat} {f : Nat → Nat → Bytes → State → MbR} (h : mbOf code = some f) (t ch : Nat) (p : Bytes) (s : State) :
    MbFollows s (f t ch p s) := by
  unfold mbOf at h; split at h <;> cases h <;> simp

end Sys2Proof.Machine
end

section
/-! SUPPORT. Overlays, their boundaries and the changes of the chain keep the plots. Obligation O4. -/

namespace Sys2Proof.Machine

@[simp] theorem follows_frame_fst {α : Type} {f : State → State × α} (s t : State) (h : Frame coreless t (f t).1) :
    Follows s (f t).1 ↔ Follows s t ∨ FollowsBy s (f t).1 := (Follows.of_frame h (by decide)).iff_or s

@[simp] theorem follows_frame_snd {α : Type} {f : State → α × State} (s t : State) (h : Frame coreless t (f t).2) :
    Follows s (f t).2 ↔ Follows s t ∨ FollowsBy s (f t).2 := (Follows.of_frame h (by decide)).iff_or s

/-! ### Overlays -/

@[simp] theorem itemResult_plots (mode : Nat) (i : Item) : KeepsPlots (fun s => (itemResult mode i s).2) := .of fun s => by
  unfold itemResult; split
  · simp
  split
  · simp
  split
  · simp
  next f hf =>
    extract_lets plot x1 x2 x3 x4 s1
    split
    · simp
    next o ho =>
      have h1 : Follows s s1 := by simp [s1]
      have ht : Follows s o.s := h1.trans (mbOf_plots hf i.tenant 16 i.payload s1 o ho)
      clear_value s1
      extract_lets t y1 y2 y3 y4 t'
      have ht' : Follows s t' := by simp [t', t, ht]
      split
      · simp
      split
      · simp [ht']
      split
      · simp
      · simp [ht']

@[simp] theorem applyLast_plots (a : List Item) : KeepsPlots (applyLast a) := .of fun s => by
  induction a generalizing s with
  | nil => simp [applyLast]
  | cons i l ih => simp [applyLast, ih]

@[simp] theorem runItems_plots (is : List Item) : KeepsPlots (runItems is) := .of fun s => by simp [runItems]

@[simp] theorem loopChange_plots (n : Nat) (is : List Item) : KeepsPlots (loopChange n is) := .of fun s => by simp [loopChange]

@[simp] theorem slotChange_plots (n : Nat) (is : List Item) : KeepsPlots (slotChange n is) := .of fun s => by simp [slotChange]

@[simp] theorem constChange_plots (is : List Item) (o : Nat × Nat) : KeepsPlots (constChange is o) := .of fun s => by simp [constChange]

@[simp] theorem objChange_plots (is : List Item) (o : Nat × Nat) : KeepsPlots (objChange is o) := .of fun s => by
  unfold objChange; split
  · simp
  · simp
  · simp
  · simp
  · simp
  · split <;> simp

@[simp] theorem unitApply_plots (u : OvlUnit) : KeepsPlots (unitApply u) := .of fun s => by simp [unitApply]

@[simp] theorem ovlItemResult_plots (i : Item) : KeepsPlots (fun s => (ovlItemResult i s).2) := .of fun s => by simp [ovlItemResult]

@[simp] theorem unitChange_plots (u : OvlUnit) : KeepsPlots (unitChange u) := .of fun s => by simp [unitChange]

@[simp] theorem beginOvl_plots (set : List Nat) (level : Nat) : KeepsPlots (beginOvl set level) := .of fun s => by simp [beginOvl]

@[simp] theorem endOvl_plots (a : Nat) : KeepsPlots (endOvl a) := .of fun s => by
  induction a generalizing s with
  | zero => simp [endOvl]
  | succ n ih =>
    unfold endOvl; split
    · simp
    extract_lets lv ql dur q t u
    have hu : Follows s u := by simp [u, t]
    clear_value q u
    split
    · exact hu
    split
    · exact hu
    · extract_lets rc
      split
      · exact .trans (by simp [hu]) (ih _)
      · simp [hu]

@[simp] theorem boundary_plots (q : OvlUnit → Bool) : KeepsPlots (boundary q) := .of fun s => by simp [boundary]

theorem Follows.atBoundary {f : State → State} (hf : ∀ s, Follows s (f s)) (q : OvlUnit → Bool) (due : State → Bool) (s : State) :
    Follows s (atBoundary q due f s) := by
  have hb : Follows s (boundary q s) := by simp
  unfold Machine.atBoundary; extract_lets t
  split
  · exact hb.trans (hf t)
  · split
    · exact hb
    · exact .refl s

@[simp] theorem follows_atBoundary {f : State → State} {q : OvlUnit → Bool} {due : State → Bool} {s t : State} :
    Follows s (atBoundary q due f t) ↔ (Follows s t ∧ ∀ u, Follows u (f u)) ∨ FollowsBy s (atBoundary q due f t) :=
  ⟨.inr, fun h => h.elim (fun ⟨ht, hf⟩ => ht.trans (.atBoundary hf q due t)) id⟩

@[simp] theorem follows_ceBoundary {f : State → State} {n : Nat} {due : State → Bool} {s t : State} :
    Follows s (ceBoundary n due f t) ↔ (Follows s t ∧ ∀ u, Follows u (f u)) ∨ FollowsBy s (ceBoundary n due f t) :=
  ⟨.inr, fun h => h.elim (fun ⟨ht, hf⟩ => ht.trans (by simp [ceBoundary, hf])) id⟩

@[simp] theorem boundaryTick_plots : KeepsPlots boundaryTick := .of fun s => by simp [boundaryTick]

@[simp] theorem requestOvl_plots (set : List Nat) (level ch : Nat) : KeepsPlots (fun s => (requestOvl set level ch s).2) := .of fun s => by
  unfold requestOvl; split
  · simp
  · split <;> simp

/-! ### Overlay boundaries -/

theorem execPositionTick_plots (s : State) : RowFollows s (execPositionTick s) := by simp [execPositionTick]

theorem execFioOutputFrame_plots (die : Fin 4) (s : State) : RowFollows s (execFioOutputFrame die s) := by simp [execFioOutputFrame]

theorem execCanConfigApply_plots (n : Fin 4) (s : State) : RowFollows s (execCanConfigApply n s) := by simp [execCanConfigApply]

theorem execPtpMessage_plots (r : PtpRx) (s : State) : RowFollows s (execPtpMessage r s) := by simp [execPtpMessage]

theorem execPtpPortTimer_plots (k : PtpTimer) (s : State) : RowFollows s (execPtpPortTimer k s) := by simp [execPtpPortTimer]

theorem execEthFrameReceived_plots (mac : Fin 3) (f : EthFrame) (s : State) : RowFollows s (execEthFrameReceived mac f s) := by
  unfold execEthFrameReceived; extract_lets due
  rw [rowFollows_next]; split <;> simp

theorem execCeSampleComplete_plots (loop : Fin 512) (s : State) : RowFollows s (execCeSampleComplete loop s) := by
  unfold execCeSampleComplete; split <;> simp

theorem svcEvent_follows {f : State → State} {s : State} (hf : ∀ s, Follows s (f s)) : RowFollows s (svcEvent f s) := by
  simp [svcEvent, hf]

theorem execWpgEvaluate_plots (w : Fin 512) (s : State) : RowFollows s (execWpgEvaluate w s) := by
  unfold execWpgEvaluate; extract_lets ts
  exact svcEvent_follows fun s => by simp

theorem execAlarmEvaluate_plots (s : State) : RowFollows s (execAlarmEvaluate s) := svcEvent_follows fun s => by simp

theorem execTrendSample_plots (c : Fin 4096) (s : State) : RowFollows s (execTrendSample c s) :=
  svcEvent_follows fun s => by simp

theorem execTrendChangeCheck_plots (c : Fin 4096) (s : State) : RowFollows s (execTrendChangeCheck c s) :=
  svcEvent_follows fun s => by simp

theorem execMeterSample_plots (s : State) : RowFollows s (execMeterSample s) := svcEvent_follows fun s => by simp

theorem execEnergyIntervalClose_plots (m : Fin 64) (s : State) : RowFollows s (execEnergyIntervalClose m s) :=
  svcEvent_follows fun s => by simp

theorem execAccessDecision_plots (p : Fin 256) (s : State) : RowFollows s (execAccessDecision p s) := by
  unfold execAccessDecision; extract_lets ts
  exact svcEvent_follows fun s => by simp

/-! ### Overlay rows -/

@[simp] theorem mbOvlRequest_plots (t ch : Nat) (p : Bytes) (s : State) : MbFollows s (mbOvlRequest t ch p s) := by
  unfold mbOvlRequest; simp only [mbFollows_bind]
  intro _ _ _ _ _ _
  split <;> simp

@[simp] theorem lateUnit_plots (u : OvlUnit) : KeepsPlots (fun s => lateUnit s u) := .of fun s => by simp [lateUnit]

@[simp] theorem ovlTimeout_plots : KeepsPlots ovlTimeout := .of fun s => by simp [ovlTimeout]

theorem execOverlayTransitionTimeout_plots (s : State) : RowFollows s (execOverlayTransitionTimeout s) := by simp [execOverlayTransitionTimeout]

@[simp] theorem mbBankActivate_plots (t _ch : Nat) (p : Bytes) (s : State) : MbFollows s (mbBankActivate t _ch p s) := by
  simp [mbBankActivate]

theorem execBankActivationReset_plots (s : State) : RowFollows s (execBankActivationReset s) := by
  unfold execBankActivationReset; split <;> simp

/-! ### Changes of the chain -/

theorem switchApply_plots {c : ChainChange} {s t : State} (h : switchApply c s = some t) : Follows s t := by
  unfold switchApply at h; split at h
  · cases h; simp
  · extract_lets u l at h
    obtain ⟨-, h⟩ := Option.ite_none_right_eq_some.1 h
    simp [← Option.some.inj h, u]

theorem changeEffect_plots {c : ChainChange} {s t : State} (h : changeEffect c s = some t) : Follows s t := by
  unfold changeEffect at h; split at h
  · exact .of_frame (plotChange_some h) (by decide)
  · extract_lets at h; simp [← Option.some.inj h]
  · simp [← Option.some.inj h]
  · exact switchApply_plots h

@[simp] theorem applyChange_plots (c : ChainChange) : KeepsPlots (applyChange c) := .of fun s => by
  unfold applyChange; extract_lets late x u
  have hu : Follows s u := by simp [u]
  clear_value u
  split
  · simp [hu]
  next t ht => simp [hu.trans (changeEffect_plots ht)]

theorem execChainChangeApply_plots (s : State) : RowFollows s (execChainChangeApply s) := by simp [execChainChangeApply]

end Sys2Proof.Machine
end

section
/-! SUPPORT. The rows of the pair, of releases and commits, of resets and of the start-up keep the plots. Obligation O4. -/

namespace Sys2Proof.Machine

/-! ### Pair rows -/

@[simp] theorem volleyStart_plots (v : Volley) : KeepsPlots (volleyStart v) := .of fun s => by simp [volleyStart]

@[simp] theorem followMode_plots (v : Volley) : KeepsPlots (followMode v) := .of fun s => by simp [followMode]

@[simp] theorem volleyTake_plots (v : Volley) : KeepsPlots (volleyTake v) := .of fun s => by
  unfold volleyTake; extract_lets was s1 s2
  have h2 : Follows s s2 := by simp [s2, s1]
  clear_value s2
  split <;> simp [h2]

theorem execVolleyReceived_plots (v : Volley) (s : State) : RowFollows s (execVolleyReceived v s) := by simp [execVolleyReceived]

theorem execSyncPathSilent_plots (s : State) : RowFollows s (execSyncPathSilent s) := by
  unfold execSyncPathSilent; split <;> simp

theorem execAlivePathSilent_plots (s : State) : RowFollows s (execAlivePathSilent s) := by simp [execAlivePathSilent]

theorem execPairStartTimeout_plots (s : State) : RowFollows s (execPairStartTimeout s) := by simp [execPairStartTimeout]

theorem changeOf_plots {cmd : Nat} {f : Nat → Nat → Bytes → State → MbR} (h : changeOf cmd = some f) (t ch : Nat) (p : Bytes) (s : State) :
    MbFollows s (f t ch p s) := by
  unfold changeOf at h; split at h
  · cases h; simp
  · cases h; simp
  · cases h; simp
  · cases h; simp
  · cases h; simp
  · exact mbOf_plots h t ch p s

@[simp] theorem carriedUnit_plots (kind key : Nat) : KeepsPlots (carriedUnit kind key) := .of fun s => by
  unfold carriedUnit; split <;> simp

@[simp] theorem runChange_plots (tenant cmd : Nat) (p : Bytes) : KeepsPlots (runChange tenant cmd p) := .of fun s => by
  unfold runChange; split
  · simp
  · simp
  · simp
  · simp
  · simp
  · split
    · simp
    next f hf =>
      split
      · simp
      next o ho =>
        have h : Follows s o.s := .trans (by simp) (changeOf_plots hf tenant 16 p _ o ho)
        simp [h]

@[simp] theorem applyHeld_plots (a : Nat) : KeepsPlots (applyHeld a) := .of fun s => by
  induction a generalizing s with
  | zero => simp [applyHeld]
  | succ n ih =>
    unfold applyHeld; split
    · simp
    · split
      · exact .trans (by simp) (ih _)
      · simp

@[simp] theorem heldTick_plots : KeepsPlots heldTick := .of fun s => by simp [heldTick]

@[simp] theorem recordTake_plots (num : Nat) (r : PairRec) : KeepsPlots (recordTake num r) := .of fun s => by
  unfold recordTake; split <;> simp

@[simp] theorem recordOrder_plots (num : Nat) (r : PairRec) : KeepsPlots (recordOrder num r) := .of fun s => by
  unfold recordOrder; split
  · extract_lets before; simp
  split
  · simp
  split <;> simp

theorem execPairRecordReceived_plots (num : Nat) (crcOk : Bool) (r : PairRec) (s : State) :
    RowFollows s (execPairRecordReceived num crcOk r s) := by simp [execPairRecordReceived]

theorem execReplayRelease_plots (s : State) : RowFollows s (execReplayRelease s) := by
  unfold execReplayRelease; dsimp only; split <;> simp

/-! ### Releases -/

theorem scanFire_plots (k : Nat) : KeepsPlots (scanFire k) := .of fun s => by simp

@[simp] theorem releaseAt_plots (k : Nat) : KeepsPlots (releaseAt k) := .of fun s =>
  (releaseTask_plots k scanFire_plots _ _).2 (.inl (by simp))

@[simp] theorem mergedRelease_plots (k : Nat) : KeepsPlots (mergedRelease k) := .of fun s => by simp [mergedRelease]

/-- Word for word what was frozen changes, and the plot table and the words of the execution stay. -/
@[simp] theorem commitSeen_plots (t : Nat) (ws : List Nat) : KeepsPlots (commitSeen t ws) := .of fun s => by
  unfold commitSeen; extract_lets -underBinder u
  have hu : Follows s u := .foldl (fun s k => by
    split
    next he =>
      split
      · exact .setEx_live (by simp) he id
      · exact .refl s
    · exact .refl s) _ s
  clear_value u
  simp [hu]

@[simp] theorem commitDone_plots (k : Nat) (e : Ex) : KeepsPlots (commitDone k e) := .of fun s => by simp [commitDone]

theorem commitAll_plots (n : Nat) (s : State) (ks : List Nat) : Follows s (commitAll n s ks).1 := by
  induction n generalizing s ks with
  | zero => exact .refl s
  | succ n ih =>
    unfold commitAll; split
    · exact .trans (by simp) (ih _ _)
    · exact .refl s

@[simp] theorem freezeReady_plots : KeepsPlots freezeReady := .of fun s => by
  unfold freezeReady; extract_lets r
  have hr : Follows s r.1 := .trans (by simp) (commitAll_plots _ _ _)
  exact hr.trans (.foldl (f := fun s k => mergedRelease k s) (fun s k => by simp) _ _)

theorem execCeRateTrigger_plots (loop : Fin 512) (s : State) : RowFollows s (execCeRateTrigger loop s) := by simp [execCeRateTrigger]

theorem execCeSupangTrigger_plots (loop : Fin 512) (s : State) : RowFollows s (execCeSupangTrigger loop s) := by
  simp [execCeSupangTrigger]

theorem execCyclicRelease_plots (task : Fin 256) (s : State) : RowFollows s (execCyclicRelease task s) := by simp [execCyclicRelease]

theorem execEventTaskRelease_plots (task : Fin 256) (s : State) : RowFollows s (execEventTaskRelease task s) := by
  simp [execEventTaskRelease]

@[simp] theorem dueRelease_plots (k n : Nat) : KeepsPlots (dueRelease k n) := .of fun s => by simp [dueRelease]

@[simp] theorem heldReleases_plots : KeepsPlots heldReleases := .of fun s => by simp [heldReleases]

theorem execPositionIntervalRelease_plots (task : Fin 256) (s : State) : RowFollows s (execPositionIntervalRelease task s) := by
  simp [execPositionIntervalRelease]

theorem execSupplyCycleRelease_plots (task : Fin 256) (s : State) : RowFollows s (execSupplyCycleRelease task s) := by
  simp [execSupplyCycleRelease]

@[simp] theorem replayCommit_plots (k : Nat) (e : Ex) : KeepsPlots (replayCommit k e) := .of fun s => by
  unfold replayCommit; split <;> simp

theorem execCommitComplete_plots (task : Fin 256) (s : State) : RowFollows s (execCommitComplete task s) := by
  unfold execCommitComplete; dsimp only; split <;> simp

/-! ### Programme swap of a pair -/

@[simp] theorem pageData_plots (ws : List (Nat × Word)) : KeepsPlots (pageData ws) := .of fun s => by simp [pageData]

@[simp] theorem warmAll_plots : KeepsPlots warmAll := .of fun s => by simp [warmAll]

@[simp] theorem swapPage_plots (r : ResyncPage) : KeepsPlots (swapPage r) := .of fun s => by simp [swapPage]

@[simp] theorem takePage_plots (r : ResyncPage) : KeepsPlots (takePage r) := .of fun s => by simp [takePage]

theorem execResyncRound_plots (r : ResyncPage) (s : State) : RowFollows s (execResyncRound r s) := by
  simp [execResyncRound]; split <;> simp

@[simp] theorem takeOver_plots (h : Handover) : KeepsPlots (takeOver h) := .of fun s => by simp [takeOver]

@[simp] theorem swapHandover_plots (h : Handover) : KeepsPlots (swapHandover h) := .of fun s => by
  unfold swapHandover; split <;> simp

theorem execHandoverReady_plots (s : State) : RowFollows s (execHandoverReady s) := by
  unfold execHandoverReady; split <;> simp

theorem swapBegin_follows (s : State) : Passing (swapBegin s) (Follows s) := fun u hu => .of_frame (swapBegin_passing s u hu) (by decide)

theorem swapCommit_follows (ch : Nat) (s : State) : Passing (swapCommit ch s) (Follows s) :=
  fun u hu => .of_frame (swapCommit_passing ch s u hu) (by decide)

theorem swapBanks_follows (fw prog : Nat) (trial : Bool) (s : State) : Passing (swapBanks fw prog trial s) (Follows s) := by
  simp [swapBanks]

theorem swapPreview_follows (s : State) : Passing (swapPreview s) (Follows s) := by
  simp only [swapPreview, passing_bind]
  intro _ _ _ _ u hu
  have hu : Follows s u := swapBanks_follows _ _ _ _ u hu
  simp [hu]

theorem swapAbort_follows (s : State) : Passing (swapAbort s) (Follows s) := by
  unfold swapAbort
  refine (passing_bind ..).2 fun _ _ => ?_
  extract_lets fwNow x1 x2 t restored
  have ht : Follows s t := by simp [t]
  have hr (u : State) (hu : Follows s u) : Passing (restored u) (Follows s) := by simp [restored, hu]
  clear_value restored
  split
  · exact (passing_bind ..).2 fun u hu => hr u (ht.trans (swapBanks_follows _ _ _ _ u hu))
  · exact hr t ht

@[simp] theorem mbPairSwap_plots (op t ch : Nat) (p : Bytes) (s : State) : MbFollows s (mbPairSwap op t ch p s) := by
  simp only [mbPairSwap, mbFollows_bind]
  intro _ _ _ _ _ _ _ _
  split
  · simp
  next u h =>
    have hu : Follows s u := by
      split at h
      · exact swapBegin_follows s u h
      · exact swapPreview_follows s u h
      · exact swapCommit_follows ch s u h
      · exact swapAbort_follows s u h
    simp [hu]

theorem swapRow_plots (op : Nat) (ch : Fin 16) (p : Bytes) (s : State) : RowFollows s (swapRow op ch p s) := by
  unfold swapRow; split
  · simp
  · exact runMb_follows fun t => mbPairSwap_plots op t ch p s

/-! ### Supervisor rows -/

theorem execSupplyMonitorReset_plots (rail : Fin 4) (mv : Nat) (s : State) : RowFollows s (execSupplyMonitorReset rail mv s) := by
  simp [execSupplyMonitorReset]

theorem execTemperatureCritical_plots (s : State) : RowFollows s (execTemperatureCritical s) := by simp [execTemperatureCritical]

theorem execResetNAssert_plots (s : State) : RowFollows s (execResetNAssert s) := by simp [execResetNAssert]

theorem execMbResetTimer_plots (s : State) : RowFollows s (execMbResetTimer s) := by
  unfold execMbResetTimer; split <;> simp

theorem execUncorrectableMemoryError_plots (kind : Fin 3) (s : State) : RowFollows s (execUncorrectableMemoryError kind s) := by
  simp [execUncorrectableMemoryError]

theorem execRefclkFail_plots (periodPs : Nat) (s : State) : RowFollows s (execRefclkFail periodPs s) := by simp [execRefclkFail]

theorem execPllLockLoss_plots (pll : Fin 5) (s : State) : RowFollows s (execPllLockLoss pll s) := by simp [execPllLockLoss]

theorem execWakePowerUp_plots (s : State) : RowFollows s (execWakePowerUp s) := by simp [execWakePowerUp]

/-! ### Start-up -/

@[simp] theorem startProg_plots : KeepsPlots startProg := .of fun s => by
  unfold startProg; dsimp only
  (repeat' split) <;> simp

theorem startItem_follows {run : Item → State → Nat × State} (hr : ∀ i s, Follows s (run i s).2) (region index : Nat) (i : Item)
    (a : State × List Item) : Follows a.1 (startItem region index run i a).1 := by
  simp [startItem, hr]

theorem startItems_follows {run : Item → State → Nat × State} (hr : ∀ i s, Follows s (run i s).2) (region index : Nat) (is : List Item)
    (s : State) : Follows s (startItems region index run is s).1 := by
  simp [startItems, startItem_follows hr]

theorem itemResult_follows (i : Item) (s : State) : Follows s (itemResult 1 i s).2 := by simp

@[simp] theorem startOvls_plots (set : List Nat) (q : Item → Bool) : KeepsPlots (startOvls set q) := .of fun s =>
  .foldl (fun s i => startItems_follows (fun i s => by simp) _ _ _ s) _ s

@[simp] theorem configure_plots : KeepsPlots configure := .of fun s => by
  unfold configure
  extract_lets s1 saved x2 s2 base items set s3 x4 x5 s4 a b s5 x6 s6 x7 s7
  have h2 : Follows s s2 := by simp [s2, s1]
  clear_value s2
  have h4 : Follows s s4 := by simp [s4, s3, h2]
  clear_value s4
  have ha : Follows s a.1 := h4.trans (startItems_follows itemResult_follows _ _ _ _)
  clear_value a
  have hb : Follows s b.1 := .trans (t := startProg (startOvls set (fun i => !lateItem i) a.1)) (by simp [ha])
    (startItems_follows itemResult_follows _ _ _ _)
  clear_value b
  simp [s7, s6, s5, hb]

@[simp] theorem startEnd_plots : KeepsPlots startEnd := .of fun s => by
  simp [startEnd]; split <;> simp

@[simp] theorem startUp_plots : KeepsPlots startUp := .of fun s => by
  unfold startUp; dsimp only; split <;> simp

theorem execResetRelease_plots (s : State) : RowFollows s (execResetRelease s) := by simp [execResetRelease]

end Sys2Proof.Machine
end

section
/-! SUPPORT. What an instruction does to the output words of its execution: an access that passes its checks adds a word of the tenant's own
plots, and no other effect adds any. Obligation O4. -/

namespace Sys2Proof.Machine

/-! ### Words of an execution that issues -/

@[simp] theorem ownPlots_wW (i : BitVec 4) (v : Word) (e : Ex) : OwnPlots (wW i v e) ↔ OwnPlots e := .rfl

@[simp] theorem ownPlots_wP (i : Nat) (b : Bool) (e : Ex) : OwnPlots (wP i b e) ↔ OwnPlots e := by unfold wP; split <;> rfl

@[simp] theorem ownPlots_wPd (o : Kv) (b : Bool) (e : Ex) : OwnPlots (wPd o b e) ↔ OwnPlots e := ownPlots_wP ..

@[simp] theorem ownPlots_wSat (i : BitVec 4) (r : Word × Bool) (e : Ex) : OwnPlots (wSat i r e) ↔ OwnPlots e := .rfl

@[simp] theorem ownPlots_foldl_wP (b : Nat → Bool) (l : List Nat) (e : Ex) : OwnPlots (l.foldl (fun x i => wP i (b i) x) e) ↔ OwnPlots e := by
  induction l generalizing e with
  | nil => rfl
  | cons i l ih => simp [ih]

@[simp] theorem ownPlots_addLoad (n : Nat) (v : Word) (e : Ex) : OwnPlots (addLoad n v e) ↔ OwnPlots e := .rfl

@[simp] theorem ownPlots_loadPred (o : Kv) (b : Bool) (e : Ex) : OwnPlots (loadPred o b e) ↔ OwnPlots e := by unfold loadPred; split <;> rfl

@[simp] theorem ownPlots_postInc (o : Kv) (e : Ex) : OwnPlots (postInc o e) ↔ OwnPlots e := by unfold postInc; split <;> rfl

@[simp] theorem ownPlots_schSeen (n : Nat) (e : Ex) (s : State) : OwnPlots (schSeen n e s) ↔ OwnPlots e := .rfl

@[simp] theorem ownPlots_ceBind (e : Ex) (n : Nat) (r : CeRes) : OwnPlots (ceBind e n r) ↔ OwnPlots e := .rfl

@[simp] theorem ownPlots_leaveLoops (tgt n : Nat) (e : Ex) : OwnPlots (leaveLoops tgt n e) ↔ OwnPlots e := by
  induction n generalizing e with
  | zero => rfl
  | succ n ih =>
    unfold leaveLoops; extract_lets d
    split
    · rfl
    · exact ih _

@[simp] theorem ownPlots_loopEnd (seq n : Nat) (e : Ex) : OwnPlots (loopEnd seq n e).2 ↔ OwnPlots e := by
  induction n generalizing e with
  | zero => rfl
  | succ n ih =>
    unfold loopEnd; extract_lets d c e'
    split
    · rfl
    · split
      · rfl
      · exact ih _

@[simp] theorem ownPlots_landLoad (e : Ex) (l : PLoad) : OwnPlots (landLoad e l) ↔ OwnPlots e := by unfold landLoad; split <;> rfl

@[simp] theorem ownPlots_landLoads (e : Ex) : OwnPlots (landLoads e) ↔ OwnPlots e := by
  have (l : List PLoad) (e : Ex) : OwnPlots (l.foldl landLoad e) ↔ OwnPlots e := by
    induction l generalizing e with
    | nil => rfl
    | cons a l ih => simp [ih]
  exact this _ e

@[simp] theorem ownPlots_retire (len : Nat) (tgt : Option Nat) (cyc : Nat) (e : Ex) : OwnPlots (retire len tgt cyc e) ↔ OwnPlots e := by
  cases tgt with
  | none => exact (ownPlots_loopEnd (((landLoads e).pc + len) % 2 ^ 22) 4 (landLoads e)).trans (ownPlots_landLoads e)
  | some t => exact ownPlots_landLoads e

/-- Words of the output image that become visible were pending before. -/
theorem ownPlots_openDistances {e : Ex} (h : OwnPlots e) : OwnPlots (openDistances e) := by
  have hf (l : List PWrite) (hl : ∀ x ∈ l, plotCheck e 2 x.key true = true) :
      ∀ x ∈ l.foldr (fun x l => (x.key, x.value) :: l.filter (fun y => y.1 != x.key)) e.outw, plotCheck e 2 x.1 true = true := by
    induction l with
    | nil => exact h.1
    | cons a l ih =>
      intro x hx
      rw [List.foldr_cons, List.mem_cons] at hx
      rcases hx with rfl | hx
      · exact hl a (List.mem_cons_self ..)
      · exact ih (fun y hy => hl y (List.mem_cons_of_mem a hy)) x (List.mem_of_mem_filter hx)
  exact ⟨hf _ fun x hx => h.2 x (List.mem_of_mem_filter hx), fun x hx => h.2 x (List.mem_of_mem_filter hx)⟩

/-- An access of the output image that passes its checks names a word of the tenant's own TASK plots (06 Table 6-5). -/
theorem plotCheck_of_checkAddr {e : Ex} {a : Word} {pl : Place} (h : checkAddr e [2] true a = .ok pl) : plotCheck e 2 pl.off true = true := by
  simp only [checkAddr, if_true] at h
  split at h
  · cases h
  split at h
  · cases h
  next hk =>
    simp only [List.contains_cons, List.contains_nil, Bool.or_false, Bool.not_eq_true, Bool.not_eq_false', beq_iff_eq] at hk
    split at h
    · cases h
    split at h
    · cases h
    split at h
    · cases h
    next hp =>
      cases h
      rw [hk] at hp
      simpa using hp

theorem ownPlots_addImst {w : Nat} {v : Word} {e : Ex} (hw : plotCheck e 2 w true = true) (h : OwnPlots e) : OwnPlots (addImst w v e) := by
  refine ⟨h.1, fun x hx => ?_⟩
  rcases List.mem_cons.1 hx with rfl | hx
  · exact hw
  · exact h.2 x hx

/-! ### Effects of instructions -/

/-- Where the instruction passes its checks, the state it leads to keeps the plots, and its execution its own. -/
def KvOwns (e : Ex) (s : State) (r : KvRes) : Prop := ∀ e' s' tgt cyc, r = .ok e' s' tgt cyc → Follows s s' ∧ (OwnPlots e → OwnPlots e')

@[congr] theorem KvOwns.congr_states {e : Ex} {s : State} {r : KvRes} : KvOwns e s r = KvOwns e s r := rfl

@[simp] theorem kvOwns_ok {e e' : Ex} {s s' : State} {tgt : Option Nat} {cyc : Nat} :
    KvOwns e s (.ok e' s' tgt cyc) ↔ Follows s s' ∧ (OwnPlots e → OwnPlots e') :=
  ⟨fun h => h _ _ _ _ rfl, fun h _ _ _ _ hr => by cases hr; exact h⟩

@[simp] theorem kvOwns_kvOk {e e' : Ex} {s s' : State} : KvOwns e s (kvOk e' s') ↔ Follows s s' ∧ (OwnPlots e → OwnPlots e') := kvOwns_ok

@[simp] theorem kvOwns_trap {e : Ex} {s : State} {c : Nat} {p : Int} : KvOwns e s (.trap c p) := fun _ _ _ _ h => nomatch h

@[simp] theorem kvOwns_ite {e : Ex} {s : State} {r r' : KvRes} {c : Prop} [Decidable c] :
    KvOwns e s (if c then r else r') ↔ Either c (KvOwns e s r) (KvOwns e s r') := by
  unfold Either; split <;> simp [*]

@[simp] theorem kvOwns_pureKv {f : Kv → Ex → Ex} {o : Kv} {k : Nat} {e : Ex} {s : State} :
    KvOwns e s (pureKv f o k e s) ↔ (OwnPlots e → OwnPlots (f o e)) := by simp [pureKv]

@[simp] theorem kvOwns_ctl {e x : Ex} {s : State} {r : KvRes} : KvOwns e s (ctl x r) ↔ Either (atLoopEnd x = true) True (KvOwns e s r) := by
  simp [ctl]

@[simp] theorem kvOwns_jump {e e' x : Ex} {s : State} {tgt : Nat} (h : OwnPlots e → OwnPlots e') : KvOwns e s (jump tgt e' x s) := by
  simpa [jump, Either] using fun _ => h

@[simp] theorem kvOwns_withLane {o : Kv} {e x : Ex} {s : State} {f : Nat → Ex} (h : ∀ n, OwnPlots e → OwnPlots (f n)) :
    KvOwns e s (withLane o x s f) := by
  simpa [withLane, Either] using fun _ => h _

@[simp] theorem kvOwns_withField {o : Kv} {e : Ex} {s : State} {f : Nat → Nat → Ex} (h : ∀ l n, OwnPlots e → OwnPlots (f l n)) :
    KvOwns e s (withField o s f) := by
  simpa [withField, Either] using fun _ _ => h _ _

theorem KvOwns.bitLane {o : Kv} {e x : Ex} {s : State} {f : Nat → KvRes} (h : ∀ n, KvOwns e s (f n)) : KvOwns e s (bitLane o x f) := by
  simpa [Machine.bitLane, Either] using fun _ => h _

theorem KvOwns.access {o : Kv} {e : Ex} {s : State} {kinds : List Nat} {write : Bool} {f : Place → KvRes}
    (h : ∀ pl, checkAddr e kinds write (effAddr o e) = .ok pl → KvOwns e s (f pl)) : KvOwns e s (access o e kinds write f) := by
  unfold Machine.access; split
  · simp
  next pl hpl => exact h pl hpl

@[simp] theorem correctData_plots (key tenant : Nat) : KeepsPlots (correctData key tenant) := .of fun s => by simp [correctData]

@[simp] theorem correctSyl_plots (t pc : Nat) : KeepsPlots (correctSyl t pc) := .of fun s => by simp [correctSyl]

@[simp] theorem correctCode_plots (t pc len : Nat) : KeepsPlots (correctCode t pc len) := .of fun s => by simp [correctCode]

theorem KvOwns.readData {k : Nat} {o : Kv} {e : Ex} {s : State} {pl : Place} {f : Word → State → KvRes}
    (h : ∀ v t, Follows s t → KvOwns e s (f v t)) : KvOwns e s (readData k o e s pl f) := by
  unfold Machine.readData; extract_lets key
  split
  · simp
  · exact h _ _ (by simp)

theorem KvOwns.devObj {o : Kv} {e : Ex} {s : State} {b : Nat} {bad : Nat → Option Nat} {owner : Nat → Nat} {f : Nat → KvRes}
    (h : ∀ n, KvOwns e s (f n)) : KvOwns e s (devObj o e b bad owner f) := by
  unfold Machine.devObj; extract_lets v
  split
  · simp
  · split
    · simp
    · split
      · simp
      · exact h v

@[simp] theorem kvOwns_addPost {src : Nat} {owned : Bool} {e : Ex} {s : State} : KvOwns e s (addPost src owned e s) := by
  unfold addPost; split
  · simp
  · split
    · simp
    · exact kvOwns_kvOk.2 ⟨.refl s, id⟩

@[simp] theorem coreStore_plots (c key : Nat) (mask v : Word) : KeepsPlots (coreStore c key mask v) := .of fun _ => .of_ex rfl

@[simp] theorem writeData_plots (k : Nat) (e : Ex) (pl : Place) (mask v : Word) : KeepsPlots (writeData k e pl mask v) := .of fun _ => by
  simp [writeData]

theorem KvOwns.after {e : Ex} {s t : State} {r : KvRes} (h : Follows s t) (hr : KvOwns e t r) : KvOwns e s r :=
  fun e' s' tgt cyc hok => ⟨h.trans (hr e' s' tgt cyc hok).1, (hr e' s' tgt cyc hok).2⟩

theorem kvOwns_ceStartKv (o : Kv) (k : Nat) (e : Ex) (s : State) : KvOwns e s (ceStartKv o k e s) :=
  .devObj fun n => by
    split
    · simp
    · exact kvOwns_kvOk.2 ⟨(ceStartScan_plots n k e s s).2 (.inl (.refl s)), id⟩

theorem kvOwns_ceStartB (o : Kv) (k : Nat) (e : Ex) (s : State) : KvOwns e s (ceStartB o k e s) := by
  unfold ceStartB; extract_lets n
  split
  · simp
  · simp only [kvOwns_ite]
    exact ⟨fun _ => kvOwns_ceStartKv o k e s, fun _ => .after (by simp) (kvOwns_ceStartKv o k e _)⟩

theorem kvOwns_ceReadKv (k n : Nat) (e : Ex) (s : State) : Follows s (ceReadKv k n e s).2.2 ∧ (OwnPlots e → OwnPlots (ceReadKv k n e s).2.1) := by
  unfold ceReadKv; extract_lets prev
  split
  · simp
  · split
    · simp
    · split <;> simp

/-! ### Issue -/

@[simp] theorem issueCycle_plots (c : Nat) : KeepsPlots (issueCycle c) := .of fun _ => .of_ex rfl

theorem Follows.issueEx {k len : Nat} {g : Bool} {body : Nat → Ex → State → KvRes} {e : Ex} {s t : State} (h : Follows s t)
    (he : PlotsAreKept s → OwnPlots e) (hb : KvOwns e t (body k e t)) : Follows s (issueEx k len g body e t) := by
  unfold Machine.issueEx; extract_lets budget fits
  split
  · split
    · exact h.setEx fun x hx kept => by cases hx; simpa using he kept
    · exact h.setEx fun x hx kept => by cases hx; exact he kept
  · split
    next e' s' tgt cyc hok =>
      obtain ⟨hs, hw⟩ := hb e' s' tgt cyc hok
      split
      · exact (h.trans hs).setEx fun x hx kept => by cases hx; simpa using hw (he kept)
      · exact h.setEx fun x hx kept => by cases hx; exact he kept
    next c p hok =>
      split
      · simp [h]
      · exact h.setEx fun x hx kept => by cases hx; exact he kept

theorem ownPlots_of_issuing {c k : Nat} {e : Ex} {s : State} (h : issuing c s = some (k, e)) (kept : PlotsAreKept s) : OwnPlots e := by
  unfold issuing at h
  split at h
  · cases h
  · split at h
    · cases h
    next he =>
      split at h
      · cases h
      · cases h; exact ownPlots_openDistances (kept _ _ he)

theorem kvRun_follows {i : Kv → Instr} {body : Kv → Nat → Ex → State → KvRes} (hb : ∀ o k e s, KvOwns e s (body o k e s)) (o : Kv) (s : State) :
    RowFollows s (kvRun i body o s) := by
  unfold kvRun
  rw [rowFollows_next]
  unfold kvIssue
  split
  · exact .refl s
  next k e he =>
    extract_lets len t
    split
    · exact .refl s
    · have ht : Follows s t := by simp [t]
      clear_value t
      split
      · simp [ht]
      · exact .issueEx ((correctCode_plots _ _ _ s t).2 (.inl ht)) (ownPlots_of_issuing he) (hb o k e _)

/-! ### Rows -/

theorem execIllegalInstruction_plots (core : Fin 8) (s0 s1 s2 : BitVec 14) (ecc : Bool) (s : State) :
    RowFollows s (execIllegalInstruction core s0 s1 s2 ecc s) := by
  unfold execIllegalInstruction; dsimp only
  split
  · simp
  · simp

theorem execLd_plots (o : Kv) (s : State) : RowFollows s (execLd o s) :=
  kvRun_follows (fun _ _ _ _ => .access fun _ _ => .readData fun _ _ h => by simp [h]) o s

theorem execSt_plots (o : Kv) (s : State) : RowFollows s (execSt o s) := kvRun_follows (fun _ _ _ _ => .access fun _ _ => by simp) o s

theorem execImld_plots (o : Kv) (s : State) : RowFollows s (execImld o s) := kvRun_follows (fun _ _ _ _ => .access fun _ _ => by simp) o s

theorem execImst_plots (o : Kv) (s : State) : RowFollows s (execImst o s) :=
  kvRun_follows (fun _ _ _ _ => .access fun _ h => by simpa using ownPlots_addImst (plotCheck_of_checkAddr h)) o s

theorem execLdb_plots (o : Kv) (s : State) : RowFollows s (execLdb o s) :=
  kvRun_follows (fun _ _ _ _ => .bitLane fun _ => .access fun _ _ => .readData fun _ _ h => by simp [h]) o s

theorem execStb_plots (o : Kv) (s : State) : RowFollows s (execStb o s) :=
  kvRun_follows (fun _ _ _ _ => .bitLane fun _ => .access fun _ _ => .readData fun _ _ h => by simp [h]) o s

theorem execImldb_plots (o : Kv) (s : State) : RowFollows s (execImldb o s) :=
  kvRun_follows (fun _ _ _ _ => .bitLane fun _ => .access fun _ _ => by simp) o s

theorem execImstb_plots (o : Kv) (s : State) : RowFollows s (execImstb o s) :=
  kvRun_follows (fun _ _ _ _ => .bitLane fun _ => .access fun _ h => by simpa using ownPlots_addImst (plotCheck_of_checkAddr h)) o s

theorem execTend_plots (o : Kv) (s : State) : RowFollows s (execTend o s) :=
  kvRun_follows (fun _ _ e s => kvOwns_ctl.2 ⟨fun _ => trivial, fun _ => by exact kvOwns_kvOk.2 ⟨by simp, id⟩⟩) o s

theorem execLoop_plots (o : Kv) (s : State) : RowFollows s (execLoop o s) :=
  kvRun_follows (fun _ _ e s => by
    refine kvOwns_ctl.2 ⟨fun _ => trivial, fun _ => ?_⟩
    extract_lets d
    split
    · simp
    · split
      · simp
      · split
        · simp
        · exact kvOwns_ok.2 ⟨.refl s, id⟩) o s

theorem execMts_plots (o : Kv) (s : State) : RowFollows s (execMts o s) :=
  kvRun_follows (fun _ _ e s => by
    extract_lets n v
    split
    · simp
    · split
      · simp
      · split
        · exact kvOwns_kvOk.2 ⟨.refl s, id⟩
        · exact kvOwns_kvOk.2 ⟨.refl s, id⟩) o s

theorem execCeStart_plots (o : Kv) (s : State) : RowFollows s (execCeStart o s) := kvRun_follows kvOwns_ceStartB o s

theorem execCeRd_plots (o : Kv) (s : State) : RowFollows s (execCeRd o s) :=
  kvRun_follows (fun _ _ _ _ => .devObj fun _ => by simpa using kvOwns_ceReadKv ..) o s

theorem execSchArm_plots (o : Kv) (s : State) : RowFollows s (execSchArm o s) := kvRun_follows (fun _ _ _ _ => .devObj fun _ => by simp) o s

theorem execSchCancel_plots (o : Kv) (s : State) : RowFollows s (execSchCancel o s) :=
  kvRun_follows (fun _ _ _ _ => .devObj fun _ => by simp) o s

theorem execSchStat_plots (o : Kv) (s : State) : RowFollows s (execSchStat o s) :=
  kvRun_follows (fun _ _ _ _ => .devObj fun _ => by simp) o s

end Sys2Proof.Machine
end

section
/-! SUPPORT. Every row and every step keep the plots. Obligation O4. -/

namespace Sys2Proof.Machine

theorem execBudgetExceeded_plots (core : Fin 8) (s : State) : RowFollows s (execBudgetExceeded core s) := by
  unfold execBudgetExceeded; dsimp only
  (repeat' split) <;> simp

theorem execDeadlineOverrun_plots (task : Fin 256) (s : State) : RowFollows s (execDeadlineOverrun task s) := by
  unfold execDeadlineOverrun; dsimp only; split <;> simp

theorem execModeTransitionInForce_plots (scope : Option (Fin 32)) (s : State) : RowFollows s (execModeTransitionInForce scope s) := by
  unfold execModeTransitionInForce; dsimp only; split <;> simp

theorem execValueWriteApply_plots (ch : Fin 16) (s : State) : RowFollows s (execValueWriteApply ch s) := by
  unfold execValueWriteApply; split <;> simp

theorem execFirmwareWatchdogService_plots (s : State) : RowFollows s (execFirmwareWatchdogService s) := by simp [execFirmwareWatchdogService]

theorem execWatchdogLapse_plots (s : State) : RowFollows s (execWatchdogLapse s) := by simp [execWatchdogLapse]

/-! ### Any row, and a step -/

/-- Whatever a row does, the executions hold words of their tenants' own plots afterwards where they did before. -/
theorem exec_follows (i : Instr) (s : State) : RowFollows s (exec i s) :=
  match i with
  | .add o | .sub o | .adds o | .addsu o | .subs o | .subsu o | .mul o | .muls o | .mulq o | .mulh o | .negs o | .abss o | .min o
  | .minu o | .max o | .maxu o | .mov o | .shl o | .shr o | .sar o | .rol o | .addi o | .addsi o | .andi o | .ori o | .xori o
  | .movi o | .shli o | .shri o | .sari o | .roli o | .lk0 o | .lk1 o | .lk2 o | .lk3 o | .cmpeq o | .cmpne o | .cmplt o
  | .cmpltu o | .cmple o | .cmpleu o | .cmpeqi o | .cmpnei o | .cmplti o | .cmpltiu o | .cmpgti o | .cmpgtiu o | .tstnz o
  | .pand o | .por o | .pxor o | .pandn o | .prd o | .pwr o | .and o | .or o | .xor o | .andn o | .not o | .edge o | .edgef o
  | .edgea o | .latch o | .latchs o | .shMerge o | .shAny o | .shAll o | .shNone o | .popc o | .clz o | .ffs o | .nop o | .tstb o
  | .shSplat o | .bset o | .bclr o | .bins o | .extr o | .dep o | .ret o | .br o | .call o | .mfs o | .evtPost o | .swev o =>
    kvRun_follows (fun _ _ _ _ => by simp) o s
  | .mbEvtAlloc ch p | .mbEvtEnable ch p | .mbEvtClear ch p | .mbEvtGet ch p | .mbSessionOpen ch p | .mbSessionClose ch p
  | .mbNop ch p | .mbAckAttn ch p | .mbDeviceInfo ch p | .mbChanBind ch p | .mbKeySet ch p | .mbChanStats ch p | .mbModeSet ch p
  | .mbTenantModeSet ch p | .mbTaskGet ch p | .mbTaskSet ch p | .mbTaskStats ch p | .mbTenantSchedSet ch p | .mbRetainSet ch p
  | .mbForceSet ch p | .mbForceClear ch p | .mbForceList ch p | .mbValueWrite ch p | .mbValueRead ch p | .mbImageRead ch p
  | .mbImageWrite ch p | .mbPlotGet ch p | .mbPlotAssign ch p | .mbPlotRelease ch p | .mbPlotShare ch p | .mbPlotPubSet ch p
  | .mbRioSet ch p | .mbRioGet ch p | .mbTenantAccept ch p | .mbTbGet ch p | .mbTbDiag ch p | .mbLpSet ch p | .mbMainsSet ch p
  | .mbPosFix ch p | .mbWallSet ch p | .mbSchAlloc ch p | .mbSchSet ch p | .mbSchArm ch p | .mbSchCancel ch p | .mbSchGet ch p
  | .mbCeAlloc ch p | .mbCeSet ch p | .mbCeCoefSet ch p | .mbCeCoefCommit ch p | .mbCeGet ch p | .mbCeStateSet ch p
  | .mbCeFlagsClear ch p | .mbCeInjStart ch p | .mbCeInjStop ch p | .mbCeCapRead ch p | .mbCeLoad ch p | .mbSvcQuotaSet ch p
  | .mbSvcList ch p | .mbLocalSet ch p | .mbCalSet ch p | .mbWpgSet ch p | .mbWpgGet ch p | .mbAlmSet ch p | .mbAlmList ch p
  | .mbAlmAck ch p | .mbAlmShelve ch p | .mbTrdSet ch p | .mbTrdRead ch p | .mbEnSet ch p | .mbEnRead ch p | .mbEnSysSet ch p
  | .mbEnTotals ch p | .mbAccSet ch p | .mbAccListPut ch p | .mbAccListDel ch p | .mbFioMapSet ch p | .mbFcSet ch p
  | .mbFcGrpSet ch p | .mbFioSilSet ch p | .mbAiSet ch p | .mbAoSet ch p | .mbTwElecSet ch p | .mbFioStat ch p | .mbFioClear ch p
  | .mbSafetyStatus ch p | .mbSafetySecure ch p | .mbSafetyLoad ch p | .mbSafetyConfirm ch p | .mbSafetyRestart ch p
  | .mbSafetyPassword ch p | .mbSafetyRead ch p | .mbSafetyLogRead ch p | .mbCanSet ch p | .mbCanQueueSet ch p
  | .mbCanFilterSet ch p | .mbCanTx ch p | .mbCanTxCancel ch p | .mbCanTxResults ch p | .mbCanRxRead ch p | .mbCanStat ch p
  | .mbCanRecover ch p | .mbCanWakeSet ch p | .mbEthSet ch p | .mbEthPortSet ch p | .mbEthStat ch p | .mbTrdpSet ch p
  | .mbTrdpGet ch p | .mbTrdpTopoSet ch p | .mbRioIpSet ch p | .mbPtpSet ch p | .mbPtpStat ch p | .mbPassSet ch p
  | .mbPassStat ch p | .mbPassMembers ch p | .mbPassBudget ch p | .mbPassInaug ch p | .mbPairSet ch p | .mbPairStat ch p
  | .mbPairResync ch p | .mbPairSwitch ch p | .mbOvlCreate ch p | .mbOvlDelete ch p | .mbOvlRequest ch p | .mbOvlStatus ch p
  | .mbOvlList ch p | .mbStoreBegin ch p | .mbStoreData ch p | .mbStoreEnd ch p | .mbBankActivate ch p | .mbBankConfirm ch p
  | .mbFlashStat ch p | .mbRetStat ch p | .mbRtcGet ch p | .mbRtcCapture ch p | .mbRtcCalSet ch p | .mbGlnRead ch p
  | .mbGlnFreeze ch p | .mbGlnUnfreeze ch p | .mbGlnClassSet ch p | .mbGlnStat ch p | .mbPwrStat ch p | .mbResetLog ch p
  | .mbWdgFuse ch p | .mbWdgSet ch p | .mbWdgStat ch p | .mbStartSet ch p | .mbReset ch p | .mbSleep ch p | .mbWakeSet ch p
  | .mbWakeCause ch p =>
    runMb_follows fun _ => by simp
  | .registerWrite reg value => .of_goes (execRegisterWrite_goes reg value s) (by simp)
  | .spiWriteFrame f => .of_goes (execSpiWriteFrame_goes f s) (by simp)
  | .spiReadFrame f => .of_goes (execSpiReadFrame_goes f s) (by simp)
  | .spiPollFrame f => .of_goes (execSpiPollFrame_goes f s) (by simp)
  | .spiLinkReset f => .of_goes (execSpiLinkReset_goes f s) (by simp)
  | .mailboxRequestCheck => .of_goes (execMailboxRequestCheck_goes s) (by simp)
  | .udpMailboxDatagram mac ip port data => .of_goes (execUdpMailboxDatagram_goes mac ip port data s) (by simp)
  | .commandExecutionEnd ch => .of_goes (execCommandExecutionEnd_goes ch s) (by simp)
  | .forceTimeout word => .of_goes (execForceTimeout_goes word s) (by simp)
  | .retainSnapshotDue tenant => .of_goes (execRetainSnapshotDue_goes tenant s) (by simp)
  | .retainSnapshotNoAnchor tenant => .of_goes (execRetainSnapshotNoAnchor_goes tenant s) (by simp)
  | .retainSnapshotWritten tenant => .of_goes (execRetainSnapshotWritten_goes tenant s) (by simp)
  | .remoteSetReceived m seq mstat words => .of_goes (execRemoteSetReceived_goes m seq mstat words s) (by simp)
  | .remoteModuleTimeout m => .of_goes (execRemoteModuleTimeout_goes m s) (by simp)
  | .remoteOutputPeriodic m => .of_goes (execRemoteOutputPeriodic_goes m s) (by simp)
  | .plotStale plot => .of_goes (execPlotStale_goes plot s) (by simp)
  | .toothEdge tw reverse => .of_goes (execToothEdge_goes tw reverse s) (by simp)
  | .toothWindowClose tw => .of_goes (execToothWindowClose_goes tw s) (by simp)
  | .axleStillTimeout tw => .of_goes (execAxleStillTimeout_goes tw s) (by simp)
  | .axleReadmit tw => .of_goes (execAxleReadmit_goes tw s) (by simp)
  | .coastTimeout => .of_goes (execCoastTimeout_goes s) (by simp)
  | .mainsZeroCrossing mains freqMHz phase phaseErr => .of_goes (execMainsZeroCrossing_goes mains freqMHz phase phaseErr s) (by simp)
  | .mainsCrossingTimeout mains => .of_goes (execMainsCrossingTimeout_goes mains s) (by simp)
  | .mainsHoldoverExpiry mains => .of_goes (execMainsHoldoverExpiry_goes mains s) (by simp)
  | .mainsDcDetect mains => .of_goes (execMainsDcDetect_goes mains s) (by simp)
  | .slotFire slot => .of_goes (execSlotFire_goes slot s) (by simp)
  | .pulseEnd slot => .of_goes (execPulseEnd_goes slot s) (by simp)
  | .shelveEnd a => .of_goes (execShelveEnd_goes a s) (by simp)
  | .energyAccumSave => .of_goes (execEnergyAccumSave_goes s) (by simp)
  | .accessPulseEnd p deny => .of_goes (execAccessPulseEnd_goes p deny s) (by simp)
  | .dieFrameReceived die crcOk => .of_goes (execDieFrameReceived_goes die crcOk s) (by simp)
  | .fioInputReport u => .of_goes (execFioInputReport_goes u s) (by simp)
  | .dieReportTimeout die => .of_goes (execDieReportTimeout_goes die s) (by simp)
  | .silenceExpiry die => .of_goes (execSilenceExpiry_goes die s) (by simp)
  | .fieldSupplyUv supply low => .of_goes (execFieldSupplyUv_goes supply low s) (by simp)
  | .inputFilterAccept n v => .of_goes (execInputFilterAccept_goes n v s) (by simp)
  | .wireBreakChange n broken => .of_goes (execWireBreakChange_goes n broken s) (by simp)
  | .outputOverload n therm => .of_goes (execOutputOverload_goes n therm s) (by simp)
  | .outputRetry n ok => .of_goes (execOutputRetry_goes n ok s) (by simp)
  | .openLoadDetect n isOpen => .of_goes (execOpenLoadDetect_goes n isOpen s) (by simp)
  | .peakPhaseEnd n => .of_goes (execPeakPhaseEnd_goes n s) (by simp)
  | .groupOverloadTrip g => .of_goes (execGroupOverloadTrip_goes g s) (by simp)
  | .groupRetry g => .of_goes (execGroupRetry_goes g s) (by simp)
  | .aiSample n raw => .of_goes (execAiSample_goes n raw s) (by simp)
  | .aoLoopFault n kind set measured => .of_goes (execAoLoopFault_goes n kind set measured s) (by simp)
  | .twSensorFault n fault => .of_goes (execTwSensorFault_goes n fault s) (by simp)
  | .mainsOverRange mains => .of_goes (execMainsOverRange_goes mains s) (by simp)
  | .sfcEvaluation rb => .of_goes (execSfcEvaluation_goes rb s) (by simp)
  | .hwPathEvaluation rb => .of_goes (execHwPathEvaluation_goes rb s) (by simp)
  | .safetyInputAccept path j high => .of_goes (execSafetyInputAccept_goes path j high s) (by simp)
  | .testPulse path k readLow overload => .of_goes (execTestPulse_goes path k readLow overload s) (by simp)
  | .guardDtDiscrepancy path inst => .of_goes (execGuardDtDiscrepancy_goes path inst s) (by simp)
  | .doorLoopSettle path inst => .of_goes (execDoorLoopSettle_goes path inst s) (by simp)
  | .doorLoopDisagree path inst => .of_goes (execDoorLoopDisagree_goes path inst s) (by simp)
  | .maxHoldExpiry path inst => .of_goes (execMaxHoldExpiry_goes path inst s) (by simp)
  | .standstillDeclare path inst => .of_goes (execStandstillDeclare_goes path inst s) (by simp)
  | .safetySensorTimeout path inst => .of_goes (execSafetySensorTimeout_goes path inst s) (by simp)
  | .axleDisagreement path inst axle => .of_goes (execAxleDisagreement_goes path inst axle s) (by simp)
  | .soSwitchTest path k pass => .of_goes (execSoSwitchTest_goes path k pass s) (by simp)
  | .crossMonFrame path f => .of_goes (execCrossMonFrame_goes path f s) (by simp)
  | .crossMonTimeout path => .of_goes (execCrossMonTimeout_goes path s) (by simp)
  | .sfcSelfTest pass => .of_goes (execSfcSelfTest_goes pass s) (by simp)
  | .gateDriveStop path k => .of_goes (execGateDriveStop_goes path k s) (by simp)
  | .safetyStartSequence testsPass pathsAgree => .of_goes (execSafetyStartSequence_goes testsPass pathsAgree s) (by simp)
  | .sfStatusWordUpdate => .of_goes (execSfStatusWordUpdate_goes s) (by simp)
  | .lockoutExpiry => .of_goes (execLockoutExpiry_goes s) (by simp)
  | .canFrameReceived n r sofAgo => .of_goes (execCanFrameReceived_goes n r sofAgo s) (by simp)
  | .canTxStart n => .of_goes (execCanTxStart_goes n s) (by simp)
  | .canTxAttemptEnd n e loopDelay => .of_goes (execCanTxAttemptEnd_goes n e loopDelay s) (by simp)
  | .canTxStarved n b => .of_goes (execCanTxStarved_goes n b s) (by simp)
  | .canBoffRecovery n => .of_goes (execCanBoffRecovery_goes n s) (by simp)
  | .canBusRejoin n => .of_goes (execCanBusRejoin_goes n s) (by simp)
  | .canWakePattern n => .of_goes (execCanWakePattern_goes n s) (by simp)
  | .canWakeFrame n r => .of_goes (execCanWakeFrame_goes n r s) (by simp)
  | .ethLinkChange mac up mbps => .of_goes (execEthLinkChange_goes mac up mbps s) (by simp)
  | .arpRetry mac ip => .of_goes (execArpRetry_goes mac ip s) (by simp)
  | .arpEntryAge mac ip => .of_goes (execArpEntryAge_goes mac ip s) (by simp)
  | .reassemblyTimeout mac src ident => .of_goes (execReassemblyTimeout_goes mac src ident s) (by simp)
  | .trdpTelegramReceived mac t => .of_goes (execTrdpTelegramReceived_goes mac t s) (by simp)
  | .trdpPublish k => .of_goes (execTrdpPublish_goes k s) (by simp)
  | .trdpSubTimeout k => .of_goes (execTrdpSubTimeout_goes k s) (by simp)
  | .ptpSyncTimeout => .of_goes (execPtpSyncTimeout_goes s) (by simp)
  | .passPortChange port up => .of_goes (execPassPortChange_goes port up s) (by simp)
  | .passEchoComplete port d => .of_goes (execPassEchoComplete_goes port d s) (by simp)
  | .passFrameReceived port f => .of_goes (execPassFrameReceived_goes port f s) (by simp)
  | .passForward port => .of_goes (execPassForward_goes port s) (by simp)
  | .passResendTimer port => .of_goes (execPassResendTimer_goes port s) (by simp)
  | .passResendReceived port lseq => .of_goes (execPassResendReceived_goes port lseq s) (by simp)
  | .passIdleSend port => .of_goes (execPassIdleSend_goes port s) (by simp)
  | .inaugSend => .of_goes (execInaugSend_goes s) (by simp)
  | .inaugComplete => .of_goes (execInaugComplete_goes s) (by simp)
  | .markerSend => .of_goes (execMarkerSend_goes s) (by simp)
  | .publishSlot => .of_goes (execPublishSlot_goes s) (by simp)
  | .pubTimeout origin group => .of_goes (execPubTimeout_goes origin group s) (by simp)
  | .volleySend => .of_goes (execVolleySend_goes s) (by simp)
  | .srvInChange high => .of_goes (execSrvInChange_goes high s) (by simp)
  | .servePathMismatch => .of_goes (execServePathMismatch_goes s) (by simp)
  | .recordAckTimeout => .of_goes (execRecordAckTimeout_goes s) (by simp)
  | .pairBeaconSend => .of_goes (execPairBeaconSend_goes s) (by simp)
  | .pairBeaconReceived b => .of_goes (execPairBeaconReceived_goes b s) (by simp)
  | .resyncTimeout => .of_goes (execResyncTimeout_goes s) (by simp)
  | .serveGateLoss die => .of_goes (execServeGateLoss_goes die s) (by simp)
  | .flashBlockDone eraseOk verifyOk => .of_goes (execFlashBlockDone_goes eraseOk verifyOk s) (by simp)
  | .stagingTimeout => .of_goes (execStagingTimeout_goes s) (by simp)
  | .gleanerWrite => .of_goes (execGleanerWrite_goes s) (by simp)
  | .gleanerTokenGain code tenant => .of_goes (execGleanerTokenGain_goes code tenant s) (by simp)
  | .gleanerFreezeExpiry => .of_goes (execGleanerFreezeExpiry_goes s) (by simp)
  | .rtcCalAdd => .of_goes (execRtcCalAdd_goes s) (by simp)
  | .rtcSupplySwitch toVbat => .of_goes (execRtcSupplySwitch_goes toVbat s) (by simp)
  | .oscStopDetect => .of_goes (execOscStopDetect_goes s) (by simp)
  | .rtcSyncCheck => .of_goes (execRtcSyncCheck_goes s) (by simp)
  | .rtcCalDerive driftPp2p20 => .of_goes (execRtcCalDerive_goes driftPp2p20 s) (by simp)
  | .railWarning rail below mv => .of_goes (execRailWarning_goes rail below mv s) (by simp)
  | .safetyDomainReset mv => .of_goes (execSafetyDomainReset_goes mv s) (by simp)
  | .temperatureSample mC => .of_goes (execTemperatureSample_goes mC s) (by simp)
  | .holdUpBegin => .of_goes (execHoldUpBegin_goes s) (by simp)
  | .holdUpEnd => .of_goes (execHoldUpEnd_goes s) (by simp)
  | .throttleBegin mv => .of_goes (execThrottleBegin_goes mv s) (by simp)
  | .throttleEnd mv => .of_goes (execThrottleEnd_goes mv s) (by simp)
  | .watchdogWarning => .of_goes (execWatchdogWarning_goes s) (by simp)
  | .hostResume => .of_goes (execHostResume_goes s) (by simp)
  | .wakeInEvent => .of_goes (execWakeInEvent_goes s) (by simp)
  | .rtcAlarmWake => .of_goes (execRtcAlarmWake_goes s) (by simp)
  | .spiBadOpcodeFrame f => .of_goes (execSpiBadOpcodeFrame_goes f s) (by simp)
  | .alivePathRestored => .of_goes (execAlivePathRestored_goes s) (by simp)
  | .vbatCheck mv => .of_goes (execVbatCheck_goes mv s) (by simp)
  | .safetyDomainPowerUp => .of_goes (execSafetyDomainPowerUp_goes s) (by simp)
  | .resyncRetry => .of_goes (execResyncRetry_goes s) (by simp)
  | .refclkFail periodPs => execRefclkFail_plots periodPs s
  | .pllLockLoss pll => execPllLockLoss_plots pll s
  | .commitComplete task => execCommitComplete_plots task s
  | .ld o => execLd_plots o s
  | .st o => execSt_plots o s
  | .imld o => execImld_plots o s
  | .imst o => execImst_plots o s
  | .ldb o => execLdb_plots o s
  | .stb o => execStb_plots o s
  | .imldb o => execImldb_plots o s
  | .imstb o => execImstb_plots o s
  | .tend o => execTend_plots o s
  | .loop o => execLoop_plots o s
  | .mts o => execMts_plots o s
  | .ceStart o => execCeStart_plots o s
  | .ceRd o => execCeRd_plots o s
  | .schArm o => execSchArm_plots o s
  | .schCancel o => execSchCancel_plots o s
  | .schStat o => execSchStat_plots o s
  | .cyclicRelease task => execCyclicRelease_plots task s
  | .eventTaskRelease task => execEventTaskRelease_plots task s
  | .positionIntervalRelease task => execPositionIntervalRelease_plots task s
  | .supplyCycleRelease task => execSupplyCycleRelease_plots task s
  | .positionTick => execPositionTick_plots s
  | .ceRateTrigger loop => execCeRateTrigger_plots loop s
  | .ceSupangTrigger loop => execCeSupangTrigger_plots loop s
  | .ceSampleComplete loop => execCeSampleComplete_plots loop s
  | .wpgEvaluate w => execWpgEvaluate_plots w s
  | .alarmEvaluate => execAlarmEvaluate_plots s
  | .trendSample c => execTrendSample_plots c s
  | .trendChangeCheck c => execTrendChangeCheck_plots c s
  | .meterSample => execMeterSample_plots s
  | .energyIntervalClose m => execEnergyIntervalClose_plots m s
  | .accessDecision p => execAccessDecision_plots p s
  | .fioOutputFrame die => execFioOutputFrame_plots die s
  | .canConfigApply n => execCanConfigApply_plots n s
  | .ethFrameReceived mac f => execEthFrameReceived_plots mac f s
  | .ptpMessage m => execPtpMessage_plots m s
  | .chainChangeApply => execChainChangeApply_plots s
  | .volleyReceived v => execVolleyReceived_plots v s
  | .syncPathSilent => execSyncPathSilent_plots s
  | .alivePathSilent => execAlivePathSilent_plots s
  | .pairRecordReceived num crcOk r => execPairRecordReceived_plots num crcOk r s
  | .replayRelease => execReplayRelease_plots s
  | .pairStartTimeout => execPairStartTimeout_plots s
  | .resyncRound r => execResyncRound_plots r s
  | .handoverReady => execHandoverReady_plots s
  | .mbPairSwapBegin ch p => swapRow_plots _ ch p s
  | .mbPairSwapPreview ch p => swapRow_plots _ ch p s
  | .mbPairSwapCommit ch p => swapRow_plots _ ch p s
  | .mbPairSwapAbort ch p => swapRow_plots _ ch p s
  | .overlayTransitionTimeout => execOverlayTransitionTimeout_plots s
  | .bankActivationReset => execBankActivationReset_plots s
  | .supplyMonitorReset rail mv => execSupplyMonitorReset_plots rail mv s
  | .temperatureCritical => execTemperatureCritical_plots s
  | .resetNAssert => execResetNAssert_plots s
  | .resetRelease => execResetRelease_plots s
  | .wakePowerUp => execWakePowerUp_plots s
  | .mbResetTimer => execMbResetTimer_plots s
  | .illegalInstruction core s0 s1 s2 ecc => execIllegalInstruction_plots core s0 s1 s2 ecc s
  | .ptpPortTimer k => execPtpPortTimer_plots k s
  | .uncorrectableMemoryError kind => execUncorrectableMemoryError_plots kind s
  | .budgetExceeded core => execBudgetExceeded_plots core s
  | .deadlineOverrun task => execDeadlineOverrun_plots task s
  | .modeTransitionInForce scope => execModeTransitionInForce_plots scope s
  | .valueWriteApply ch => execValueWriteApply_plots ch s
  | .firmwareWatchdogService => execFirmwareWatchdogService_plots s
  | .watchdogLapse => execWatchdogLapse_plots s

@[simp] theorem tick_plots : KeepsPlots tick := .of fun s => by simp [tick]

/-- Settles O4: a command at the front of the queue keeps the plots by its row (`exec_follows`), a nanosecond by `tick_plots`. -/
theorem executionsWriteOnlyTheirPlots : Obligations.ExecutionsWriteOnlyTheirPlots := by
  intro s t kept hstep
  cases h : s.pending with
  | nil =>
    cases (step_of_empty h).symm.trans hstep
    exact (show Follows s (tick s) by simp) kept
  | cons c rest =>
    have hc : exec c { s with pending := rest } = .next t := (step_of_front h).symm.trans hstep
    exact exec_follows c _ t hc kept

end Sys2Proof.Machine
end

section
/-! SUPPORT. A hold-up snapshot that follows the one being written. Obligation O22. -/

namespace Sys2Proof.Machine

/-- A device whose power fails while the snapshot of T0's one retentive word is being written: the hold-up snapshot of T0 comes next
(17 R422). -/
def heldWhileWriting : State :=
  { State.reset with
    prog := { State.reset.prog with seg := [(0, { l2 := 1 })] }
    task := { State.reset.task with ret := [(0, { writing := some (0, [0#48]) })], holdSnaps := [0] } }

/-- Once the one is written the hold-up snapshot is being written, into the other copy. -/
theorem heldWhileWriting_next : Answers (exec (.retainSnapshotWritten 0) heldWhileWriting) fun t =>
    (getRet t 0).writing = some (1, [0#48]) := ⟨_, rfl, rfl⟩

/-- Refutes O22 (log 33): its third clause leaves out the snapshots of a hold-up, which go on when the one being written is done
(17 R422): the same tenant's next one is then being written already (`heldWhileWriting`). -/
theorem not_retentiveSnapshots : ¬ Obligations.RetentiveSnapshots := by
  rintro ⟨-, -, written⟩
  obtain ⟨t, ht, idle, -⟩ := written 0 0 [0#48] heldWhileWriting rfl rfl
  obtain ⟨u, hu, busy⟩ := heldWhileWriting_next
  cases ht.symm.trans hu
  exact absurd (idle.symm.trans busy) (by simp)

end Sys2Proof.Machine
end

section
/-! SUPPORT. A release whose count fires a scheduler slot. Obligation O18. -/

namespace Sys2Proof.Machine

/-- Task 0 of T0, cyclic every 50 µs and due now, with an armed slot that sets a lane of T0's own plot at the task's first count. -/
def dueWithCountSlot : State :=
  { State.reset with
    task := { State.reset.task with dev := 2, dispAt := some 0, gridA := some 0, ent := [(0, { cfg := wd (2 ^ 45), par := 1#48 })] }
    slot := [(0, { cfg := wd (4 * 2 ^ 45 + 2 ^ 36), tgt := 1#48, sts := wd (2 ^ 44) })]
    img := { State.reset.img with own := [(0, wd (2 ^ 40))] } }

/-- The task may be released, and nothing has fired yet when its freeze comes. -/
theorem dueWithCountSlot_due :
    let r := freezeReady dueWithCountSlot
    taskUnit r 0 = none ∧ taskKind (taskEnt r 0) = 1 ∧ mayRelease r 0 = true ∧ taskEx r 0 = none ∧ (taskEnt r 0).lastRel ≠ some r.clk ∧
      cyclicDue r 0 = true ∧ r.tb.fired.2 = [] := by
  decide

/-- Its release counts, and at the count the slot fires: the firing stands among the tick's. -/
theorem dueWithCountSlot_fires : Answers (exec (.cyclicRelease 0) dueWithCountSlot) fun t => t.tb.fired.2 = [⟨0, 0#48, 1#48, [0]⟩] :=
  ⟨_, rfl, rfl⟩

/-- Refutes O18: the frame of a release (log 28, 29) keeps the time bases as they were at the freeze, but a SCANCNT slot whose target the
count reaches fires in that same tick and is noted among the tick's firings (07 R199, R200; `dueWithCountSlot`). -/
theorem not_tasksAreReleased : ¬ Obligations.TasksAreReleased := by
  rintro ⟨cyclic, -⟩
  obtain ⟨unit, kind, may, idle, last, due, before⟩ := dueWithCountSlot_due
  obtain ⟨t, ht, -, -, frame⟩ := cyclic 0 dueWithCountSlot unit kind may idle last due
  obtain ⟨u, hu, fired⟩ := dueWithCountSlot_fires
  cases ht.symm.trans hu
  have same : t.tb = (freezeReady dueWithCountSlot).tb := frame .tb (by decide)
  rw [same, before] at fired
  exact absurd fired (by simp)

end Sys2Proof.Machine
end

section
/-! SUPPORT. A commit in the cycle of a release of its tenant. Obligation O19. -/

namespace Sys2Proof.Machine

/-- The execution of task 0 has ended with TEND and a word of T0's plot 0 to commit. -/
def endedNow : Ex := { phase := 3, ownPos := 1, plots := [(0, wd (2 ^ 40))], outw := [(0, 1#48)] }

/-- In the cycle of that TEND task 1 of T0 is released and has used nothing of what it froze. -/
def endsAtRelease : State :=
  { State.reset with
    task := { State.reset.task with dev := 2, dispAt := some 0, ent := [(0, { cfg := wd (2 ^ 45) }), (1, { cfg := wd (2 ^ 45) })] }
    img := { State.reset.img with own := [(0, wd (2 ^ 40))] }
    core := { State.reset.core with ex := [(0, some endedNow), (1, some { ownPos := 1, plots := [(0, wd (2 ^ 40))] })], cur := [(0, 1)] } }

/-- The first commit of the device is task 0's, nothing of the task fell due meanwhile, and no watchdog is served by it. -/
theorem endsAtRelease_commits :
    taskEx endsAtRelease 0 = some endedNow ∧ firstCommit endsAtRelease 0 endedNow = true ∧ (taskEnt endsAtRelease 0).due = 0 ∧
      endsAtRelease.sup.wdgServer = false := ⟨rfl, by decide, rfl, rfl⟩

/-- The commit changes the quality of the plot as task 1 sees it. -/
theorem endsAtRelease_quality : Answers (exec (.commitComplete 0) endsAtRelease) fun t =>
    wget t.core.data (dsKey 6 1 0) ≠ wget endsAtRelease.core.data (dsKey 6 1 0) :=
  ⟨_, rfl, by decide⟩

/-- Refutes O19 (log 15, 27): its first clause keeps the core data, but a commit completes before a freeze of the same cycle (01 R20), so
a task released in the cycle of the TEND takes the plot's new quality word into its SEG6 (`endsAtRelease`). -/
theorem not_executionsEndAndModesChange : ¬ Obligations.ExecutionsEndAndModesChange := by
  rintro ⟨commit, -⟩
  obtain ⟨running, first, none_due, unwatched⟩ := endsAtRelease_commits
  obtain ⟨t, ht, -, -, -, -, data⟩ := commit 0 endedNow endsAtRelease running rfl rfl first none_due unwatched
  obtain ⟨u, hu, quality⟩ := endsAtRelease_quality
  cases ht.symm.trans hu
  exact quality (by rw [data])

end Sys2Proof.Machine
end

section
/-! SUPPORT. Counters that are to be cleared in UPDATE. Obligation O20. -/

namespace Sys2Proof.Machine

/-- T0's channel executes a request to read and clear the counters of task 0, and the device is in UPDATE. -/
def clearsInUpdate : State :=
  { State.reset with
    ovl := { State.reset.ovl with update := true }
    mb := { State.reset.mb with chan := [(0, { isOpen := true, exec := some ⟨1, 0x0205, 0, 0, toBe 2 0 ++ [1#8], [], none⟩ })] } }

/-- The device refuses it with BAD_STATE. -/
theorem clearsInUpdate_refused : Answers (exec (.mbTaskStats 0 (toBe 2 0 ++ [1#8])) clearsInUpdate) fun t =>
    (getChan t 0).result = some (rcBadState, []) := ⟨_, rfl, by decide⟩

/-- Refutes O20 (log 115): its clause of MB_TASK_STATS with the clear flag lets the device be in UPDATE, where every command that does not
only read is refused with BAD_STATE (02 R64; `clearsInUpdate`). -/
theorem not_taskAndModeCommands : ¬ Obligations.TaskAndModeCommands := by
  rintro ⟨-, -, -, -, stats, -⟩
  obtain ⟨t, ht, b, ok, -⟩ := stats 0 0 true clearsInUpdate (by decide) (by unfold Asked; decide)
  obtain ⟨u, hu, refused⟩ := clearsInUpdate_refused
  cases ht.symm.trans hu
  exact absurd (ok.symm.trans refused) (by simp [rcBadState])

end Sys2Proof.Machine
end

section
/-! SUPPORT. Words in messages, commands that wait, and the force records: set, cleared, timed out. Obligation O21. -/

namespace Sys2Proof.Machine

/-! ### Words in messages -/

theorem beW_wB_append (v : Word) (p : Bytes) : beW (wB v ++ p) 0 = v := by
  rw [beW, wB, be_toBe_append (show v.toNat < 256 ^ 6 from v.isLt) p]
  exact BitVec.eq_of_toNat_eq (by simp)

theorem beW_append_right (a p : Bytes) (o : Nat) : beW (a ++ p) (a.length + o) = beW p o := congrArg wd (be_append_right a p o 6)

/-! ### Commands that wait -/

/-- A command that waits: its channel has the result that it had, and outside the mailboxes, the pair and the port stands what it did. -/
theorem mbWaits_of_defer {i : Fin 16 → Bytes → Instr} {ch : Fin 16} {p : Bytes} {s s' : State} {f : Nat → Nat → Bytes → State → MbR}
    {P : State → Prop} (hi : ∀ s, exec (i ch p) s = runMb ch (commandCode (i ch p)) f p s) (hf : f (tenantOf s ch) ch.val p s = defer s')
    (own : getChan s' ch.val = getChan s ch.val) (hP : ∀ t, Frame [.mb, .pair, .out] s' t → P t) : MbWaits i ch p s P := fun ha => by
  refine ⟨_, (hi s).trans (runMb_defer ha hf), ?_, hP _ (by simp)⟩
  rw [getChan_updChan_same]
  split <;> simp [own]

/-! ### Words restored (05 R150) -/

theorem foldl_reads {α β : Type} {f : State → α → State} (r : State → β) (each : ∀ s a, r (f s a) = r s) (l : List α) (s : State) :
    r (l.foldl f s) = r s := by
  induction l generalizing s with
  | nil => rfl
  | cons a l ih => exact (ih _).trans (each s a)

theorem word_remoteOutput (m : Nat) (s : State) : (remoteOutput m s).img.word = s.img.word := by
  unfold remoteOutput; dsimp only
  split
  · rfl
  · split
    · simp [updRio]
    · split
      · rfl
      · simp only [pairSend_img, updRio]
        exact congrArg Image.word ((trdpSend_keeps _ _ _ _).samePart (p := .img) (by decide) s)

/-- A word restored shows its unforced value, under what still forces it, and no other word changes. -/
theorem word_restoreWord (w : Nat) (f : Force) (g : Option Force) (s : State) :
    (restoreWord w f g s).img.word = wput w (match g with | some g => forced g f.free | none => f.free) s.img.word := by
  unfold restoreWord; extract_lets v t o src u
  split
  · rfl
  · split
    · rfl
    · exact foldl_reads (·.img.word) (fun s m => word_remoteOutput m s) _ _

theorem force_restoreWord (w : Nat) (f : Force) (g : Option Force) (s : State) :
    (restoreWord w f g s).task.force = tput none w g s.task.force := by
  unfold restoreWord; extract_lets v t o src u
  split
  · rfl
  · split
    · rfl
    · exact foldl_reads (·.task.force) (fun s m => congrArg Tasks.force ((remoteOutput_keeps m).samePart (p := .task) (by decide) s)) _ _

/-! ### Forces set (05 R148) -/

/-- The lanes that MB_FORCE_SET adds to a record: all with FF, else one. -/
def forceOn (l : Nat) (v : Word) (f : Force) : Force :=
  if l = 0xFF then { f with mask := BitVec.allOnes 48, value := v }
  else { f with mask := setBit f.mask l true, value := setBit f.value l (bit v l) }

theorem forceOn_lane {l : Nat} (hl : l < 48) (v : Word) (f : Force) :
    bit (forceOn l v f).mask l = true ∧ bit (forceOn l v f).value l = bit v l ∧
      ∀ j, j ≠ l → bit (forceOn l v f).mask j = bit f.mask j ∧ bit (forceOn l v f).value j = bit f.value j := by
  unfold forceOn
  rw [if_neg (by omega)]
  exact ⟨bit_setBit_same hl .., bit_setBit_same hl .., fun j other =>
    ⟨(getLsbD_setBit hl ..).trans (if_neg other), (getLsbD_setBit hl ..).trans (if_neg other)⟩⟩

theorem forceOwner_lt {s : State} {t w : Nat} (h : forceOwner s t w = true) : w < 20480 := by
  simp only [forceOwner, Bool.and_eq_true, decide_eq_true_eq] at h
  exact h.1

/-- The record as the command leaves it. -/
def forceAfter (s : State) (w l : Nat) (v : Word) (tmo : Nat) : Force :=
  { forceOn l v ((tget none s.task.force w).getD ⟨0#48, 0#48, imgWord s w, 0⟩) with until_ := if tmo = 0 then 0 else s.clk + tmo * 1000000000 }

theorem mbForceSet_runs {ch : Fin 16} {w tmo : Nat} {l : Byte} {v : Word} {s : State} (owner : forceOwner s (tenantOf s ch) w = true)
    (changes : Changes s) (runs : running s (tenantOf s ch) = true) (lane : l.toNat < 48 ∨ l.toNat = 255) (short : tmo ≤ 86400)
    (room : (tget none s.task.force w).isSome = true ∨ (s.task.force.filter (fun e => e.2.isSome)).length < 512) :
    mbForceSet (tenantOf s ch) ch.val (toBe 2 w ++ [l] ++ wB v ++ toBe 4 tmo) s =
      done (gln 0x0309 3 (tenantOf s ch) (laneCode l.toNat w) (forceAfter s w l.toNat v tmo).value.toNat
        { s with task := { s.task with force := tput none w (some (forceAfter s w l.toNat v tmo)) s.task.force } }) := by
  obtain ⟨idle, accepts⟩ := changes
  have hw := forceOwner_lt owner
  have word : be (toBe 2 w ++ [l] ++ wB v ++ toBe 4 tmo) 0 2 = w := by
    simp only [List.append_assoc]; exact be_toBe_append (by omega) _
  have lanes : u8 (toBe 2 w ++ [l] ++ wB v ++ toBe 4 tmo) 2 = l.toNat := by simp [u8, toBe]
  have value : beW (toBe 2 w ++ [l] ++ wB v ++ toBe 4 tmo) 3 = v := by
    rw [List.append_assoc]; exact (beW_append_right (toBe 2 w ++ [l]) _ 0).trans (beW_wB_append v _)
  have timeout : be (toBe 2 w ++ [l] ++ wB v ++ toBe 4 tmo) 9 4 = tmo :=
    (be_append_right (toBe 2 w ++ [l] ++ wB v) _ 0 4).trans (by simpa using be_toBe_append (n := 4) (v := tmo) (by omega) [])
  have listed : laneOk l.toNat = true := by simpa [laneOk] using lane
  unfold mbForceSet
  simp only [word, lanes, value, timeout]
  refine need_then (by simp [owner]) (need_then rfl ?_)
  rw [stSel, if_pos listed]
  exact need_then (by simp [idle, accepts, runs]) (need_then (by simp [listed, short]) (need_then (by simpa using room) rfl))

theorem mbForceSet_done {ch : Fin 16} {w tmo : Nat} {l : Byte} {v : Word} {s : State} (owner : forceOwner s (tenantOf s ch) w = true)
    (changes : Changes s) (runs : running s (tenantOf s ch) = true) (lane : l.toNat < 48 ∨ l.toNat = 255) (short : tmo ≤ 86400)
    (room : (tget none s.task.force w).isSome = true ∨ (s.task.force.filter (fun e => e.2.isSome)).length < 512) :
    MbDone .mbForceSet ch (toBe 2 w ++ [l] ++ wB v ++ toBe 4 tmo) s (fun t => ∃ f, tget none t.task.force w = some f ∧
      (l.toNat = 255 → f.mask = BitVec.allOnes 48 ∧ f.value = v) ∧
      (l.toNat < 48 → bit f.mask l.toNat = true ∧ bit f.value l.toNat = bit v l.toNat ∧
        ∀ g, tget none s.task.force w = some g → ∀ j, j ≠ l.toNat → bit f.mask j = bit g.mask j ∧ bit f.value j = bit g.value j) ∧
      f.until_ = (if tmo = 0 then 0 else s.clk + tmo * 1000000000) ∧
      (∀ x, x ≠ w → tget none t.task.force x = tget none s.task.force x)) := by
  refine mbGives_of_reply (f := mbForceSet) (fun _ => rfl) (mbForceSet_runs owner changes runs lane short room) rfl fun t kept _ => ?_
  have force : t.task.force = tput none w (some (forceAfter s w l.toNat v tmo)) s.task.force := by
    rw [kept.2 .task (by decide), gln_task]
  rw [force]
  refine ⟨_, tget_tput_same .., fun all => ?_, fun one => ?_, rfl, fun x other => tget_tput_ne _ _ _ _ _ other⟩
  · rw [all]; exact ⟨rfl, rfl⟩
  · obtain ⟨mask, value, others⟩ := forceOn_lane one v ((tget none s.task.force w).getD ⟨0#48, 0#48, imgWord s w, 0⟩)
    refine ⟨mask, value, fun g held => ?_⟩
    rw [held] at others
    simpa [forceAfter, held] using others

/-! ### Forces ended (05 R150) -/

/-- A record without a lane forces nothing. -/
theorem forced_of_no_lane {f : Force} (h : f.mask = 0#48) (v : Word) : forced f v = v := by
  simp only [forced, h, BitVec.not_zero, BitVec.and_allOnes, BitVec.and_zero, BitVec.or_zero]

/-- A record that is there is removed and its word restored. -/
theorem forceRemove_some {w : Nat} {f : Force} {s : State} (held : tget none s.task.force w = some f) (cause : Nat) :
    (forceRemove w cause s).task.force = tput none w none s.task.force ∧ (forceRemove w cause s).img.word = wput w f.free s.img.word := by
  unfold forceRemove; rw [held]
  exact ⟨by rw [gln_task, force_restoreWord], by rw [gln_img, word_restoreWord]⟩

/-- MB_FORCE_CLEAR goes past its checks. -/
theorem mbForceClear_runs {ch : Fin 16} {w : Nat} {l : Byte} {s : State} (owner : forceOwner s (tenantOf s ch) w = true) (changes : Changes s)
    (lane : laneOk l.toNat = true) : mbForceClear (tenantOf s ch) ch.val (toBe 2 w ++ [l]) s =
      match tget none s.task.force w with
      | none => done s
      | some f =>
        if l.toNat = 0xFF then done (forceRemove w 0 s)
        else if !bit f.mask l.toNat then done s
        else
          let g := { f with mask := setBit f.mask l.toNat false }
          done (gln 0x030A 3 (tenantOf s ch) (laneCode l.toNat w) 0 (restoreWord w f (if g.mask = 0#48 then none else some g) s)) := by
  obtain ⟨idle, accepts⟩ := changes
  have hw := forceOwner_lt owner
  have word : be (toBe 2 w ++ [l]) 0 2 = w := be_toBe_append (by omega) _
  have lanes : u8 (toBe 2 w ++ [l]) 2 = l.toNat := by simp [u8, toBe]
  unfold mbForceClear
  simp only [word, lanes]
  refine need_then (by simp [owner]) (need_then (by simp) ?_)
  rw [stSel, if_pos lane]
  exact need_then (by simp [idle, accepts]) (need_then lane rfl)

theorem mbForceClear_all {ch : Fin 16} {w : Nat} {f : Force} {s : State} (owner : forceOwner s (tenantOf s ch) w = true) (changes : Changes s)
    (held : tget none s.task.force w = some f) :
    MbDone .mbForceClear ch (toBe 2 w ++ [0xFF#8]) s (fun t => tget none t.task.force w = none ∧ imgWord t w = f.free ∧
      (∀ x, x ≠ w → imgWord t x = imgWord s x ∧ tget none t.task.force x = tget none s.task.force x)) := by
  have runs : mbForceClear (tenantOf s ch) ch.val (toBe 2 w ++ [0xFF#8]) s = done (forceRemove w 0 s) := by
    rw [mbForceClear_runs owner changes rfl, held]; rfl
  refine mbGives_of_reply (f := mbForceClear) (fun _ => rfl) runs rfl fun t kept _ => ?_
  obtain ⟨force, word⟩ := forceRemove_some held 0
  have task : t.task.force = tput none w none s.task.force := by rw [kept.2 .task (by decide), force]
  have image : t.img.word = wput w f.free s.img.word := by rw [kept.2 .img (by decide), word]
  simp only [imgWord, task, image]
  exact ⟨tget_tput_same .., wget_wput_same .., fun x other => ⟨(wget_wput ..).trans (if_neg other), tget_tput_ne _ _ _ _ _ other⟩⟩

theorem mbForceClear_lane {ch : Fin 16} {w : Nat} {f : Force} {s : State} (owner : forceOwner s (tenantOf s ch) w = true) (changes : Changes s)
    (held : tget none s.task.force w = some f) (l : Byte) (hl : l.toNat < 48) (on : bit f.mask l.toNat = true) :
    MbDone .mbForceClear ch (toBe 2 w ++ [l]) s (fun t =>
      imgWord t w = forced { f with mask := setBit f.mask l.toNat false } f.free ∧
      ((tget none t.task.force w).isSome = true ↔ setBit f.mask l.toNat false ≠ 0#48)) := by
  have runs := mbForceClear_runs owner changes (l := l) (by simp [laneOk, hl])
  simp only [held, if_neg (show ¬ l.toNat = 0xFF by omega), on, Bool.not_true, Bool.false_eq_true, if_false] at runs
  refine mbGives_of_reply (f := mbForceClear) (fun _ => rfl) runs rfl fun t kept _ => ?_
  have task := congrArg Tasks.force (kept.2 .task (by decide))
  have image := congrArg Image.word (kept.2 .img (by decide))
  rw [gln_task, force_restoreWord] at task
  rw [gln_img, word_restoreWord] at image
  simp only [imgWord, task, image, wget_wput_same, tget_tput_same]
  by_cases free : setBit f.mask l.toNat false = 0#48
  · simp [free, forced_of_no_lane]
  · simp [free]

theorem forceTimeout_ends (w : Fin 20480) (f : Force) (s : State) (held : tget none s.task.force w.val = some f) (timed : f.until_ ≠ 0)
    (past : f.until_ ≤ s.clk) (serves : serving s = true) :
    Answers (exec (.forceTimeout w) s) (fun t => tget none t.task.force w.val = none ∧ imgWord t w.val = f.free) := by
  have runs : exec (.forceTimeout w) s = .next (forceRemove w.val 1 (pairSend (.change 0 0xF004 (toBe 2 w.val)) s)) := by
    change execForceTimeout w s = _
    simp [execForceTimeout, held, timed, past, serves]
  obtain ⟨force, word⟩ := forceRemove_some (s := pairSend (.change 0 0xF004 (toBe 2 w.val)) s) (by rw [pairSend_task]; exact held) 1
  exact ⟨_, runs, by rw [force, tget_tput_same], by rw [imgWord, word, wget_wput_same]⟩

end Sys2Proof.Machine
end

section
/-! SUPPORT. The list of forces, handles and the items of a payload. Obligation O21. -/

namespace Sys2Proof.Machine

/-! ### Forces listed (05 R149) -/

theorem be_toBe {n v : Nat} (h : v < 256 ^ n) : be (toBe n v) 0 n = v := by simpa using be_toBe_append h []

/-- Remaining seconds are rounded up. -/
theorem ceilDiv_seconds (a : Nat) : ceilDiv a 1000000000 = (a + 999999999) / 1000000000 := by
  unfold ceilDiv; omega

/-- The records of words that may be read. -/
theorem filterMap_readable (p : Nat → Bool) (fs : List (Nat × Force)) :
    fs.filterMap (fun x => if p x.1 = true then some (x.1, x.2) else none) = fs.filter (fun x => p x.1) := by
  rw [← List.filterMap_eq_filter]; rfl

theorem mbForceList_reads {ch : Fin 16} {i : Nat} {fs : List (Nat × Force)} {s : State} (notCarried : NotCarried s ch)
    (records : s.task.force = fs.map (fun x => (x.1, some x.2))) (hi : i < 2 ^ 16) :
    let rs := ((fs.filter (fun x => mayRead s (tenantOf s ch) x.1)).drop i).take 64
    MbReads .mbForceList ch (toBe 2 i) s (toBe 2 rs.length ++ rs.flatMap (fun x =>
      toBe 2 x.1 ++ wB x.2.mask ++ wB x.2.value ++ toBe 4 ((x.2.until_ - s.clk + 999999999) / 1000000000))) := by
  intro rs
  refine mbReads_of_reply (f := mbForceList) (fun _ => rfl) notCarried (need_then (by simp) ?_)
  have seen := filterMap_readable (mayRead s (tenantOf s ch)) fs
  simp only [records, List.filterMap_map, Function.comp_def, seen, be_toBe (n := 2) (v := i) (by omega), ceilDiv_seconds]
  rfl

/-! ### Handles (05 R151) -/

theorem handleOf_low {o : Nat} (h : o < 2 ^ 21) : handleOf o = some (0, o) := by
  rw [handleOf, if_pos (by omega)]; simp only [Option.some.injEq, Prod.mk.injEq]; omega

theorem handleOf_retentive {o : Nat} (h : o < 2 ^ 21) : handleOf (2 ^ 30 + o) = some (1, o) := by
  rw [handleOf, if_pos (by omega)]; simp only [Option.some.injEq, Prod.mk.injEq]; omega

theorem handleOf_constant {o : Nat} (h : o < 2 ^ 21) : handleOf (2 ^ 31 + o) = some (2, o) := by
  rw [handleOf, if_pos (by omega)]; simp only [Option.some.injEq, Prod.mk.injEq]; omega

/-- A value that has been written by a handle is read by it. -/
theorem valueAt_putValue_same {h : Nat} (named : (handleOf h).isSome = true) (t : Nat) (v : Word) (s : State) :
    valueAt (putValue t (h, v) s) t h = v := by
  unfold valueAt putValue
  split
  next o here => simp [here]
  next o here => simp [here]
  next c o low mid here => simp [here]
  next none_ => simp [none_] at named

theorem valueAt_putValue (t o : Nat) (v : Word) (s : State) (_ht : t < 32) (ho : o < 2 ^ 21) : valueAt (putValue t (o, v) s) t o = v ∧
    valueAt (putValue t (2 ^ 30 + o, v) s) t (2 ^ 30 + o) = v ∧ valueAt (putValue t (2 ^ 31 + o, v) s) t (2 ^ 31 + o) = v :=
  ⟨valueAt_putValue_same (by rw [handleOf_low ho]; rfl) .., valueAt_putValue_same (by rw [handleOf_retentive ho]; rfl) ..,
    valueAt_putValue_same (by rw [handleOf_constant ho]; rfl) ..⟩

/-- What a value leaves in the cores depends on the cores alone. -/
theorem core_putValue {s s' : State} (h : s.core = s'.core) (t : Nat) (e : Nat × Word) : (putValue t e s).core = (putValue t e s').core := by
  unfold putValue; split <;> simp [h]

theorem core_putValues {s s' : State} (h : s.core = s'.core) (t : Nat) (es : List (Nat × Word)) :
    (es.foldl (fun s e => putValue t e s) s).core = (es.foldl (fun s e => putValue t e s) s').core := by
  induction es generalizing s s' with
  | nil => exact h
  | cons e es ih => exact ih (core_putValue h t e)

/-! ### Items of a payload -/

/-- Items of equal length behind a head are what they were before they were put into the payload. -/
theorem items_flatMap {α : Type} {enc : α → Bytes} {n : Nat} (len : ∀ x, (enc x).length = n) (xs : List α) (head : Bytes) :
    items (head ++ xs.flatMap enc) head.length n xs.length = xs.map enc := by
  induction xs generalizing head with
  | nil => rfl
  | cons x xs ih =>
    have rest := ih (head ++ enc x)
    rw [List.length_append, len x, List.append_assoc] at rest
    rw [List.length_cons, items, List.map_cons, List.flatMap_cons, rest, List.drop_left, List.take_left' (len x)]

theorem length_flatMap_const {α : Type} {enc : α → Bytes} {n : Nat} (len : ∀ x, (enc x).length = n) (xs : List α) :
    (xs.flatMap enc).length = n * xs.length := by
  simp [List.length_flatMap, len, Nat.mul_comm]

@[simp] theorem length_wB (v : Word) : (wB v).length = 6 := length_toBe ..

end Sys2Proof.Machine
end

section
/-! SUPPORT. Values written and read by handle, and what waits for its anchor. Obligation O21. -/

namespace Sys2Proof.Machine

/-! ### Values by handle (05 R151 to R154) -/

/-- A value command whose checks pass: its step at once while the anchor is idle, else it waits. -/
theorem valueJob_passes {t ch : Nat} {j : ValueJob} {s : State} (some_ : 1 ≤ j.entries.length) (few : j.entries.length ≤ 64)
    (anchored : j.anchor ≠ 0xFFFF) (defined : taskDefined s j.anchor = true) (owned : taskTenant s j.anchor = t)
    (handles : ∀ e ∈ j.entries, handleOk s t e.1 = true) : valueJob t ch j s =
      if (taskEx s j.anchor).isNone then reply (valueStep t j s).1 (valueStep t j s).2
      else defer { s with task := { s.task with jobs := tput none ch (some j) s.task.jobs } } := by
  unfold valueJob
  refine need_then (by simp [some_, few]) (need_then (by simp [anchored, defined, owned]) (need_then (by simpa using handles) ?_))
  simp [anchored]

/-- The step of a write that has an anchor. -/
theorem valueStep_write {t : Nat} {j : ValueJob} (write : j.read = false) (anchored : j.anchor ≠ 0xFFFF) (s : State) : valueStep t j s =
    (wB (taskEnt s j.anchor).scancnt, gln 0x030B 2 t (j.anchor * 256 + j.entries.length : Nat) (taskEnt s j.anchor).scancnt.toNat
      (j.entries.foldl (fun s e => putValue t e s) s)) := by
  simp [valueStep, write, anchored]

/-- The step of a read. -/
theorem valueStep_read {t : Nat} {j : ValueJob} (read : j.read = true) (s : State) :
    valueStep t j s = (j.entries.flatMap (fun e => wB (valueAt s t e.1)), s) := by
  simp [valueStep, read]

/-- Values leave the tasks alone. -/
theorem task_putValues (t : Nat) (es : List (Nat × Word)) (s : State) : (es.foldl (fun s e => putValue t e s) s).task = s.task :=
  foldl_reads (·.task) (fun s e => by unfold putValue; split <;> rfl) es s

theorem tenantOf_putValue (t : Nat) (e : Nat × Word) (s : State) (ch : Fin 16) : tenantOf (putValue t e s) ch = tenantOf s ch := by
  have keys : (putValue t e s).flash.keys = s.flash.keys := by unfold putValue; split <;> rfl
  rw [tenantOf, tenantOf, chanCfg, chanCfg, keys]

/-- All values of a list are written for the tenant of the channel as it was before the first. -/
theorem putValues_tenantOf (ch : Fin 16) (es : List (Nat × Word)) (s : State) : es.foldl (fun s e => putValue (tenantOf s ch) e s) s =
    es.foldl (fun s' e => putValue (tenantOf s ch) e s') s := by
  induction es generalizing s with
  | nil => simp only [List.foldl_nil]
  | cons e es ih => rw [List.foldl_cons, ih, tenantOf_putValue, List.foldl_cons]

/-- A task is no constants-only anchor. -/
theorem task_ne_noAnchor {k : Fin 256} : (k.val : Nat) ≠ 0xFFFF := by omega

/-- One value of a write as the payload holds it. -/
def valueBytes (e : Nat × Word) : Bytes := toBe 4 e.1 ++ wB e.2

theorem length_valueBytes (e : Nat × Word) : (valueBytes e).length = 10 := by simp [valueBytes]

theorem valueBytes_read {e : Nat × Word} (h : e.1 < 2 ^ 32) : (be (valueBytes e) 0 4, beW (valueBytes e) 4) = e :=
  Prod.ext (be_toBe_append (by simpa using h) _)
    ((beW_append_right (toBe 4 e.1) _ 0).trans (by simpa using beW_wB_append e.2 []))

/-- The payload of a value command: the anchor, the count, one item each. -/
theorem valueItems_read {α : Type} {enc : α → Bytes} {n k : Nat} (len : ∀ x, (enc x).length = n) (hk : k < 2 ^ 16) {xs : List α}
    (few : xs.length ≤ 64) : be (toBe 2 k ++ toBe 1 xs.length ++ xs.flatMap enc) 0 2 = k ∧
      u8 (toBe 2 k ++ toBe 1 xs.length ++ xs.flatMap enc) 2 = xs.length ∧
      items (toBe 2 k ++ toBe 1 xs.length ++ xs.flatMap enc) 3 n xs.length = xs.map enc ∧
      (toBe 2 k ++ toBe 1 xs.length ++ xs.flatMap enc).length = 3 + n * xs.length := by
  refine ⟨?_, ?_, items_flatMap len xs (toBe 2 k ++ toBe 1 xs.length), ?_⟩
  · rw [List.append_assoc]; exact be_toBe_append (by omega) _
  · simp [u8, toBe]; omega
  · simp only [List.length_append, length_toBe, length_flatMap_const len]

theorem mbValueWrite_job {t ch k : Nat} {es : List (Nat × Word)} {s : State} (changes : Changes s) (hk : k < 2 ^ 16) (few : es.length ≤ 64)
    (handles : ∀ e ∈ es, e.1 < 2 ^ 32) : mbValueWrite t ch (valuePayload ⟨k, es, false⟩) s = valueJob t ch ⟨k, es, false⟩ s := by
  obtain ⟨idle, accepts⟩ := changes
  obtain ⟨anchor, count, items, length⟩ := valueItems_read length_valueBytes hk few
  have entries : (es.map valueBytes).map (fun b => (be b 0 4, beW b 4)) = es := by
    rw [List.map_map]
    exact List.map_congr_left (fun e he => valueBytes_read (handles e he)) |>.trans (List.map_id es)
  change mbValueWrite t ch (toBe 2 k ++ toBe 1 es.length ++ es.flatMap valueBytes) s = _
  unfold mbValueWrite
  simp only [anchor, count, items, entries]
  exact need_then (by rw [length]; simp) (need_then (by simp [idle, accepts]) rfl)

section Write
variable {ch : Fin 16} {k : Fin 256} {es : List (Nat × Word)} {s : State} (changes : Changes s) (some_ : 1 ≤ es.length) (few : es.length ≤ 64)
  (defined : taskDefined s k.val = true) (owned : taskTenant s k.val = tenantOf s ch)
  (handles : ∀ e ∈ es, e.1 < 2 ^ 32 ∧ handleOk s (tenantOf s ch) e.1 = true)
include changes some_ few defined owned handles

theorem mbValueWrite_passes : mbValueWrite (tenantOf s ch) ch.val (valuePayload ⟨k.val, es, false⟩) s =
    if (taskEx s k.val).isNone then reply (valueStep (tenantOf s ch) ⟨k.val, es, false⟩ s).1 (valueStep (tenantOf s ch) ⟨k.val, es, false⟩ s).2
    else defer { s with task := { s.task with jobs := tput none ch.val (some ⟨k.val, es, false⟩) s.task.jobs } } := by
  rw [mbValueWrite_job changes (by omega) few fun e he => (handles e he).1]
  exact valueJob_passes some_ few (by simp only; omega) defined owned fun e he => (handles e he).2

/-- While the anchor is idle the values are written at once. -/
theorem mbValueWrite_gives (idle : taskEx s k.val = none) :
    MbGives .mbValueWrite ch (valuePayload ⟨k.val, es, false⟩) s (· = wB (taskEnt s k.val).scancnt)
      (fun t => t.core = (es.foldl (fun s e => putValue (tenantOf s ch) e s) s).core) := by
  have runs := mbValueWrite_passes changes some_ few defined owned handles
  rw [idle, Option.isNone_none, if_pos rfl, valueStep_write rfl task_ne_noAnchor] at runs
  exact mbGives_of_reply (f := mbValueWrite) (fun _ => rfl) runs rfl fun t kept _ => by
    rw [kept.2 .core (by decide), putValues_tenantOf]
    dsimp only
    rw [gln_core]

/-- While it runs they wait for the end of its execution. -/
theorem mbValueWrite_waits {e : Ex} (runs : taskEx s k.val = some e) : MbWaits .mbValueWrite ch (valuePayload ⟨k.val, es, false⟩) s
    (fun t => tget none t.task.jobs ch.val = some ⟨k.val, es, false⟩ ∧ t.core = s.core) := by
  have waits := mbValueWrite_passes changes some_ few defined owned handles
  rw [runs, if_neg (by simp)] at waits
  refine mbWaits_of_defer (f := mbValueWrite) (fun _ => rfl) waits rfl fun t kept => ?_
  rw [kept.2 .task (by decide), kept.2 .core (by decide)]
  exact ⟨tget_tput_same .., rfl⟩

end Write

theorem mbValueRead_reads {ch : Fin 16} {k : Fin 256} {hs : List Nat} {s : State} (notCarried : NotCarried s ch) (some_ : 1 ≤ hs.length)
    (few : hs.length ≤ 64) (defined : taskDefined s k.val = true) (owned : taskTenant s k.val = tenantOf s ch) (idle : taskEx s k.val = none)
    (handles : ∀ h ∈ hs, h < 2 ^ 32 ∧ handleOk s (tenantOf s ch) h = true) :
    MbReads .mbValueRead ch (toBe 2 k.val ++ toBe 1 hs.length ++ hs.flatMap (toBe 4)) s (hs.flatMap (fun h => wB (valueAt s (tenantOf s ch) h))) := by
  obtain ⟨anchor, count, items, length⟩ := valueItems_read (length_toBe 4) (show k.val < 2 ^ 16 by omega) few
  have entries : (hs.map (toBe 4)).map (fun b => (beVal b, 0#48)) = hs.map (fun h => (h, 0#48)) := by
    rw [List.map_map]
    exact List.map_congr_left fun h hh => by
      rw [Function.comp, beVal_toBe, Nat.mod_eq_of_lt (show h < 256 ^ 4 from (handles h hh).1)]
  refine mbReads_of_reply (f := mbValueRead) (fun _ => rfl) notCarried ?_
  unfold mbValueRead
  simp only [anchor, count, items, entries]
  refine need_then (by rw [length]; simp) ?_
  have passes := valueJob_passes (ch := ch.val) (j := ⟨k.val, hs.map (fun h => (h, 0#48)), true⟩) (by simpa using some_) (by simpa using few)
    task_ne_noAnchor defined owned (by simpa using fun h hh => (handles h hh).2)
  rw [idle, Option.isNone_none, if_pos rfl, valueStep_read rfl] at passes
  rw [passes, List.flatMap_map]

/-- The job of a channel that is written: it waits no more, its values stand and its channel has the answer. -/
def jobWritten (ch : Nat) (j : ValueJob) (s : State) : State :=
  let t := (chanCfg s ch).tenant
  let sc := (taskEnt s j.anchor).scancnt
  let s' := { s with task := { s.task with jobs := tput none ch none s.task.jobs } }
  setResult ch rcOk (wB sc) (pairSend (.change t 0x0401 (valuePayload j))
    (gln 0x030B 2 t (j.anchor * 256 + j.entries.length : Nat) sc.toNat (j.entries.foldl (fun s e => putValue t e s) s')))

theorem valueWriteApply_runs {ch : Fin 16} {j : ValueJob} {s : State} (waits : tget none s.task.jobs ch.val = some j)
    (idle : taskEx s j.anchor = none) (write : j.read = false) (anchored : j.anchor ≠ 0xFFFF) :
    exec (.valueWriteApply ch) s = .next (jobWritten ch.val j s) := by
  change execValueWriteApply ch s = _
  simp only [execValueWriteApply, waits, idle, valueStep_write write anchored, write]
  rfl

/-- What waited for its anchor is written once the anchor is idle. -/
theorem valueWriteApply_writes (ch : Fin 16) (j : ValueJob) (s : State) (waits : tget none s.task.jobs ch.val = some j)
    (idle : taskEx s j.anchor = none) (write : j.read = false) (anchored : j.anchor ≠ 0xFFFF) :
    Answers (exec (.valueWriteApply ch) s) (fun t => tget none t.task.jobs ch.val = none ∧
      (getChan t ch.val).result = some (0x0000, wB (taskEnt s j.anchor).scancnt) ∧
      t.core = (j.entries.foldl (fun s e => putValue (tenantOf s ch) e s) s).core) := by
  refine ⟨_, valueWriteApply_runs waits idle write anchored, ?_, ?_, ?_⟩
  · rw [jobWritten, setResult_task, pairSend_task, gln_task, task_putValues]
    exact tget_tput_same ..
  · rw [jobWritten, getChan_setResult _ _ _ _ _ ch.isLt, if_pos rfl]; rfl
  · rw [jobWritten, setResult_core, pairSend_core, gln_core, putValues_tenantOf]
    exact core_putValues (by rfl) ..

/-- Settles O21: the eight clauses, each by the lemma that says what its instruction does. That the list's remaining seconds are
rounded up is the model's choice (log 31). -/
theorem forcesAndValues : Obligations.ForcesAndValues :=
  ⟨fun _ _ _ _ _ _ => mbForceSet_done,
    fun _ _ _ _ owner changes held => ⟨mbForceClear_all owner changes held, mbForceClear_lane owner changes held⟩,
    fun _ _ _ _ => mbForceList_reads, forceTimeout_ends,
    fun _ _ _ _ changes some_ few defined owned handles =>
      ⟨mbValueWrite_gives changes some_ few defined owned handles, fun _ => mbValueWrite_waits changes some_ few defined owned handles⟩,
    fun _ _ _ _ => mbValueRead_reads, valueWriteApply_writes, valueAt_putValue⟩

end Sys2Proof.Machine
end

section
/-! SUPPORT. What slots that fire and fixes of LINEPOS leave of the time bases (07 R191, R200, R202). Obligations O25, O26. -/

namespace Sys2Proof.Machine

/-! ### Slots that fire -/

/-- t has the time bases of s, but for what slots have written in the tick. -/
def BasesKept (s t : State) : Prop := t.tb = { s.tb with fired := t.tb.fired }

namespace BasesKept
variable {s t u : State}

theorem refl (s : State) : BasesKept s s := rfl

theorem trans (h : BasesKept s t) (k : BasesKept t u) : BasesKept s u :=
  Eq.trans k (congrArg (fun b : TimeBase => { b with fired := u.tb.fired }) h)

theorem of_tb (same : t.tb = s.tb) : BasesKept s t := by
  unfold BasesKept; rw [same]

theorem of_keeps {qs : List Part} {f : State → State} (keeps : Keeps qs f) (other : .tb ∉ qs) (s : State) : BasesKept s (f s) :=
  of_tb (keeps.samePart (p := .tb) other s)

theorem foldl {α : Type} {f : State → α → State} (each : ∀ s a, BasesKept s (f s a)) (l : List α) (s : State) :
    BasesKept s (l.foldl f s) := by
  induction l generalizing s with
  | nil => exact refl s
  | cons a l ih => exact (each s a).trans (ih _)

/-- Whatever does not see what slots have written reads as it did. -/
theorem reads {α : Type} (h : BasesKept s t) (r : TimeBase → α) (blind : r { s.tb with fired := t.tb.fired } = r s.tb) : r t.tb = r s.tb :=
  (congrArg r h).trans blind

theorem axle (h : BasesKept s t) (n : Nat) : getAxle t n = getAxle s n := by
  rw [getAxle, h.reads TimeBase.axle rfl, getAxle]

theorem mains (h : BasesKept s t) (n : Nat) : getMains t n = getMains s n := by
  rw [getMains, h.reads TimeBase.mains rfl, getMains]

end BasesKept

theorem fireWord_basesKept (n w : Nat) (s : State) : BasesKept s (fireWord n w s) := by
  unfold fireWord; extract_lets f ns v old
  have noted : BasesKept s { s with tb := { s.tb with fired := (s.clk, ⟨w, f.before, v, ns⟩ :: old) } } := rfl
  exact noted.trans (.of_keeps (commitWords_keeps _) (by decide) _)

theorem slotAct_basesKept (n : Nat) (s : State) : BasesKept s (slotAct n s) := by
  unfold slotAct; extract_lets x w t
  have written : BasesKept s t := .trans (t := updSlot n (fun x => { x with noted := false }) s) rfl (fireWord_basesKept ..)
  split
  · exact .refl s
  · split
    · split
      · exact .refl s
      · exact .trans (t := updSlot n (fun x => { x with noted := true }) s) rfl (.of_tb (gln_tb ..))
    · split
      · exact written.trans (.of_keeps (startPulse_keeps n w) (by decide) _)
      · exact written

theorem slotFire_basesKept (st n : Nat) (s : State) : BasesKept s (slotFire st n s) := by
  unfold slotFire; extract_lets x acted posted
  have raised : BasesKept acted posted := by
    unfold posted
    split
    · exact .of_tb (fire_tb ..)
    · exact .refl _
  exact (slotAct_basesKept n s).trans (raised.trans (.of_keeps (slotEnd_keeps n st) (by decide) _))

theorem slotFireFirst_basesKept (n : Nat) (s : State) : BasesKept s (slotFireFirst n s) := by
  have marked (n : Nat) (f : Slot → Slot) (s : State) : BasesKept s (updSlot n f s) := rfl
  unfold slotFireFirst; extract_lets x fired _ ops
  have fires : BasesKept s fired := slotFire_basesKept ..
  split
  · split
    · exact (fires.trans (marked ..)).trans (marked ..)
    · exact fires.trans (marked ..)
  · exact fires

theorem fireReached_basesKept (q : Slot → Bool) (s : State) : BasesKept s (fireReached q s) :=
  .foldl (fun s n => slotFireFirst_basesKept n s) _ s

theorem slotsStep_basesKept (b : Nat) (a c : Int) (s : State) : BasesKept s (slotsStep b a c s) := by
  refine .foldl (fun s m => ?_) _ s
  extract_lets x
  split
  · exact (slotFire_basesKept ..).trans (.of_tb (gln_tb ..))
  · exact (BasesKept.of_keeps (slotEnd_keeps m 4) (by decide) s).trans (.of_tb (gln_tb ..))

/-! ### Fixes of LINEPOS (07 R191) -/

/-- LINEPOS has moved by d counts; its fraction, SPEED and the fixes that wait are as they were. -/
structure LineMoved (d : Int) (s t : State) : Prop where
  pos : t.tb.pos = s.tb.pos + d
  posFrac : t.tb.posFrac = s.tb.posFrac
  speed : t.tb.speed = s.tb.speed
  fix : t.tb.fix = s.tb.fix

theorem LineMoved.of_basesKept {d : Int} {s t u : State} (h : LineMoved d s t) (k : BasesKept t u) : LineMoved d s u where
  pos := (k.reads TimeBase.pos rfl).trans h.pos
  posFrac := (k.reads TimeBase.posFrac rfl).trans h.posFrac
  speed := (k.reads TimeBase.speed rfl).trans h.speed
  fix := (k.reads TimeBase.fix rfl).trans h.fix

theorem LineMoved.trans {c d : Int} {s t u : State} (h : LineMoved c s t) (k : LineMoved d t u) : LineMoved (c + d) s u where
  pos := by rw [k.pos, h.pos, add_assoc]
  posFrac := k.posFrac.trans h.posFrac
  speed := k.speed.trans h.speed
  fix := k.fix.trans h.fix

theorem applyFix_lineMoved (c : Int) (tf : Nat) (s : State) : LineMoved c s (applyFix c tf s) := by
  unfold applyFix; extract_lets a _ _ t
  have moved : LineMoved c s t := ⟨rfl, rfl, rfl, rfl⟩
  exact moved.of_basesKept ((slotsStep_basesKept ..).trans (.of_tb (gln_tb ..)))

theorem foldl_applyFix_lineMoved (fs : List (Int × Nat)) (s : State) :
    LineMoved (fs.map (·.1)).sum s (fs.foldl (fun s f => applyFix f.1 f.2 s) s) := by
  induction fs generalizing s with
  | nil => exact ⟨by simp, rfl, rfl, rfl⟩
  | cons f fs ih => rw [List.map_cons, List.sum_cons]; exact (applyFix_lineMoved f.1 f.2 s).trans (ih _)

/-- Every fix that waits is applied, and none waits any more. -/
theorem applyFixes_lineMoved (s : State) : LineMoved (s.tb.fix.map (·.1)).sum { s with tb := { s.tb with fix := [] } } (applyFixes s) :=
  foldl_applyFix_lineMoved ..

/-! ### The position tick (07 R189) -/

theorem boundary_of_no_units {s : State} (none_ : s.ovl.units = []) (q : OvlUnit → Bool) : boundary q s = s := by
  unfold boundary; rw [if_pos (by simp [none_])]

theorem positionTick_moves {s : State} (units : s.ovl.units = []) (tick : tickHere s = true) : Answers (exec .positionTick s) (fun t =>
    t.tb.pos = s.tb.pos + (s.tb.posFrac + s.tb.speed).fdiv 64000000 + (s.tb.fix.map (·.1)).sum ∧
    t.tb.posFrac = (s.tb.posFrac + s.tb.speed).fmod 64000000 ∧ t.tb.fix = [] ∧ t.tb.speed = s.tb.speed) := by
  have runs : exec .positionTick s = .next (clearHolds (positionTick (tickTasks s))) := by
    change execPositionTick s = _
    simp [execPositionTick, tick, boundary_of_no_units units]
  have left (t : State) : (leaveTargets t).tb = t.tb := leaveTargets_keeps.samePart (p := .tb) (by decide) t
  obtain ⟨pos, posFrac, speed, fix⟩ := applyFixes_lineMoved (lineMove s.tb.speed (tickTasks s))
  refine ⟨_, runs, ?_, ?_, ?_, ?_⟩ <;> simp only [clearHolds, positionTick, left]
  · exact pos
  · exact posFrac
  · exact fix
  · exact speed

end Sys2Proof.Machine
end

section
/-! SUPPORT. What fusion, decisions and firings leave of the axles: the teeth, speeds and settings (07 R186 to R190). Obligation O25. -/

namespace Sys2Proof.Machine

/-! ### Teeth -/

/-- An axle but for what fusion and fixes make of it: its tooth position, admission, exclusion and agreements. -/
def axTeeth (a : Axle) : Axle := { a with pos := 0, admitted := false, excluded := false, agreeSince := none, agreed := [] }

/-- Every axle has the settings, teeth and speed that it had, and LINEPOS its settings. -/
structure TeethKept (s t : State) : Prop where
  teeth : ∀ n, axTeeth (getAxle t n) = axTeeth (getAxle s n)
  settings : t.tb.lpCfg = s.tb.lpCfg

namespace TeethKept
variable {s t u : State}

theorem refl (s : State) : TeethKept s s := ⟨fun _ => rfl, rfl⟩

theorem trans (h : TeethKept s t) (k : TeethKept t u) : TeethKept s u :=
  ⟨fun n => (k.teeth n).trans (h.teeth n), k.settings.trans h.settings⟩

theorem of_basesKept (h : BasesKept s t) : TeethKept s t := ⟨fun n => congrArg axTeeth (h.axle n), h.reads TimeBase.lpCfg rfl⟩

theorem of_tb (same : t.tb = s.tb) : TeethKept s t := of_basesKept (.of_tb same)

theorem of_updAxle {n : Nat} {f : Axle → Axle} (s : State) (spares : ∀ a, axTeeth (f a) = axTeeth a := by intro a; rfl) : TeethKept s (updAxle n f s) := by
  refine ⟨fun m => ?_, rfl⟩
  rw [getAxle_updAxle]; split
  next here => rw [spares, here]
  next => rfl

/-- What is read of an axle's teeth is as it was. -/
theorem reads {α : Type} (h : TeethKept s t) (n : Nat) (r : Axle → α) (teeth : ∀ a, r (axTeeth a) = r a) :
    r (getAxle t n) = r (getAxle s n) := by
  rw [← teeth, h.teeth, teeth]

end TeethKept

/-! ### Judgement and fusion (07 R188, R189) -/

/-- What a judgement does: agreements end, are noted and begin, and axles that do not pass are excluded. -/
theorem axJudge_induction {P : State → Prop} {s : State} (before : P s)
    (ends : ∀ n t, P t → P (updAxle n (fun a => { a with agreeSince := none }) t))
    (notes : ∀ n (g : Axle → List (Nat × Nat × Nat)) t, P t → P (updAxle n (fun a => { a with agreed := g a }) t))
    (begins : ∀ n t, (getAxle t n).excluded = true → P t → P (updAxle n (fun a => { a with agreeSince := a.agreeSince.or (some t.clk) }) t))
    (excludes : ∀ n d t, (n, false) ∈ (axPasses s).2 → P t →
      P (gln 0x0505 3 0 n d (fire (48 + 2 * n) (updAxle n (fun a => { a with excluded := true }) t)))) : P (axJudge s) := by
  unfold axJudge
  split
  next ref ps passes =>
  rw [passes] at excludes
  extract_lets near s₁ met s₂ s₃
  have unhealthy : P s₁ := List.foldlRecOn _ _ before fun t ht n _ => by
    split
    · exact ht
    · exact ends n t ht
  have agreed : P s₂ := List.foldlRecOn _ _ unhealthy fun t ht n _ => notes n _ t ht
  refine List.foldlRecOn _ _ agreed fun t ht e he => ?_
  obtain ⟨n, ok⟩ := e
  dsimp only
  cases ok with
  | true =>
    rw [if_pos rfl]; split
    next out => exact begins n t out ht
    next => exact ht
  | false =>
    rw [if_neg (by decide)]; split
    · exact ends n t ht
    · exact excludes n _ _ he (ends n t ht)

theorem axJudge_teethKept (s : State) : TeethKept s (axJudge s) := by
  refine axJudge_induction (.refl s) (fun n t h => ?_) (fun n g t h => ?_) (fun n t _ h => ?_) fun n d t _ h => ?_
  · exact h.trans (.of_updAxle t)
  · exact h.trans (.of_updAxle t)
  · exact h.trans (.of_updAxle t)
  · have out : TeethKept t (updAxle n (fun a => { a with excluded := true }) t) := .of_updAxle t
    exact h.trans (out.trans (.of_tb (by rw [gln_tb, fire_tb])))

theorem lpFall_tb (s : State) : (lpFall s).tb = { s.tb with lpOk := false } := by
  have lost (t : State) : (slotsLost 1 false t).tb = t.tb := (slotsLost_keeps 1 false).samePart (p := .tb) (by decide) t
  unfold lpFall
  cases h : s.tb.lpOk with
  | true => rw [if_pos rfl, lost, gln_tb]
  | false => rw [if_neg (by decide), ← h]

/-- LINEPOS has been judged (07 Table 7-1). -/
def judging (s : State) : State := { s with tb := { s.tb with judged := true } }

/-- t has the axles of s, admitted anew, and the settings of LINEPOS. -/
structure AdmittedAnew (s t : State) : Prop where
  axles : ∀ n, ∃ b, getAxle t n = { getAxle s n with admitted := b }
  settings : t.tb.lpCfg = s.tb.lpCfg

theorem AdmittedAnew.of_axle {s t u : State} (h : AdmittedAnew s t) (axle : u.tb.axle = t.tb.axle) (settings : u.tb.lpCfg = t.tb.lpCfg) :
    AdmittedAnew s u := by
  refine ⟨fun n => ?_, settings.trans h.settings⟩
  have same : getAxle u n = getAxle t n := by
    rw [getAxle, axle, getAxle]
  rw [same]; exact h.axles n

theorem AdmittedAnew.updAxle {s t : State} (h : AdmittedAnew s t) (n : Nat) (b : Bool) :
    AdmittedAnew s (updAxle n (fun a => { a with admitted := b }) t) := by
  refine ⟨fun m => ?_, h.settings⟩
  obtain ⟨c, hc⟩ := h.axles m
  rw [getAxle_updAxle]; split
  next here => exact ⟨b, by rw [← here, hc]⟩
  next => exact ⟨c, hc⟩

/-- Fusion judges the axles, and of them settles the admission alone. -/
theorem axFuse_admits (s : State) : AdmittedAnew (axJudge (judging s)) (axFuse s) := by
  unfold axFuse; extract_lets _ judged ns was admits _ fell vs moved
  have admitted : AdmittedAnew judged admits :=
    List.foldlRecOn _ _ ⟨fun n => ⟨(getAxle judged n).admitted, rfl⟩, rfl⟩ fun t ht n _ => ht.updAxle n _
  have coasts : AdmittedAnew judged fell := by
    unfold fell; split
    · exact admitted.of_axle (by rw [gln_tb]) (by rw [gln_tb])
    · exact admitted
  split
  · split
    · exact coasts
    · exact coasts.of_axle (by rw [lpFall_tb]) (by rw [lpFall_tb])
  · split
    · exact admitted.of_axle (by simp only [moved]; rfl) (by simp only [moved]; rfl)
    · exact admitted.of_axle (by rw [gln_tb]) (by rw [gln_tb])

theorem axFuse_teethKept (s : State) : TeethKept s (axFuse s) := by
  have judged : TeethKept s (axJudge (judging s)) := .trans (t := judging s) ⟨fun _ => rfl, rfl⟩ (axJudge_teethKept _)
  obtain ⟨axles, settings⟩ := axFuse_admits s
  refine judged.trans ⟨fun n => ?_, settings⟩
  obtain ⟨b, hb⟩ := axles n
  rw [hb]; rfl

/-! ### Decisions, and the confirmed slots that fire at them (07 R189, R199) -/

theorem lineMove_teethKept (d : Int) (s : State) : TeethKept s (lineMove d s) := ⟨fun _ => rfl, rfl⟩

theorem axDecide_teethKept (n x : Nat) (s : State) : TeethKept s (axDecide n x s) := by
  unfold axDecide; extract_lets was fused k
  have fuses : TeethKept s fused := axFuse_teethKept s
  split
  · exact fuses
  · split
    · exact fuses.trans (.of_updAxle _)
    · exact fuses.trans (lineMove_teethKept ..)

/-- A fix moves the axles' tooth positions alone. -/
theorem applyFix_teethKept (c : Int) (tf : Nat) (s : State) : TeethKept s (applyFix c tf s) := by
  have shifts (l : Tab Axle) (s : State) : TeethKept s { s with tb := { s.tb with
      axle := l.foldl (fun t e => tupd {} e.1 (fun x => { x with pos := x.pos + c * 65536 }) t) s.tb.axle } } := by
    induction l generalizing s with
    | nil => exact .refl s
    | cons e l ih =>
      have one : TeethKept s (updAxle e.1 (fun x => { x with pos := x.pos + c * 65536 }) s) := .of_updAxle s
      exact one.trans (ih _)
  unfold applyFix; extract_lets a _ _ t
  have moved : TeethKept s t := .trans (shifts s.tb.axle s) ⟨fun _ => rfl, rfl⟩
  exact moved.trans (.of_basesKept ((slotsStep_basesKept ..).trans (.of_tb (gln_tb ..))))

theorem stepFirst_teethKept (s : State) : TeethKept s (stepFirst s) := by
  have taken : TeethKept s { s with tb := { s.tb with fix := [] } } := ⟨fun _ => rfl, rfl⟩
  unfold stepFirst
  split
  · exact List.foldlRecOn _ _ taken fun t ht f _ => ht.trans (applyFix_teethKept f.1 f.2 t)
  · exact .refl s

theorem fireWith_teethKept (q : Slot → Bool) (s : State) : TeethKept s (fireWith q s) := by
  unfold fireWith; extract_lets t
  have stepped : TeethKept s t := stepFirst_teethKept s
  split
  · exact stepped.trans (.of_basesKept (fireReached_basesKept q t))
  · exact stepped

/-- What an accepted tooth of axle n brings: the decision, then the confirmed slots. -/
theorem decision_teethKept (n x : Nat) (s : State) :
    TeethKept s (if (getAxle (axDecide n x s) n).admitted then confirmedFire (axDecide n x s) else axDecide n x s) := by
  have decides := axDecide_teethKept n x s
  split
  · exact decides.trans ((stepFirst_teethKept _).trans (fireWith_teethKept ..))
  · exact decides

theorem axAccept_teethKept (n x : Nat) (s : State) : TeethKept (updAxle n (axTake s x) s) (axAccept n x s) := decision_teethKept n x _

end Sys2Proof.Machine
end

section
/-! SUPPORT. Tooth edges and windows, axles that stand still or are readmitted, and coasting (07 R186 to R190). Obligation O25. -/

namespace Sys2Proof.Machine

/-! ### A tooth that is taken (07 R186) -/

@[simp] theorem axTake_state (s : State) (x : Nat) (a : Axle) : (axTake s x a).state = a.state := by
  unfold axTake; dsimp only; split
  · split <;> rfl
  · rfl

@[simp] theorem axTake_back (s : State) (x : Nat) (a : Axle) : (axTake s x a).back = a.back := by
  unfold axTake; dsimp only; split
  · split <;> rfl
  · rfl

@[simp] theorem axTake_cand (s : State) (x : Nat) (a : Axle) : (axTake s x a).cand = a.cand := by
  unfold axTake; dsimp only; split
  · split <;> rfl
  · rfl

theorem axAccept_takes (n x : Nat) (s : State) : (getAxle (axAccept n x s) n).tLast = some x ∧ (getAxle (axAccept n x s) n).miss = 0 ∧
    (getAxle (axAccept n x s) n).state = (getAxle s n).state ∧ (getAxle (axAccept n x s) n).cand = (getAxle s n).cand := by
  have kept := axAccept_teethKept n x s
  refine ⟨?_, ?_, ?_, ?_⟩
  · rw [kept.reads n Axle.tLast fun _ => rfl, getAxle_updAxle_same]; rfl
  · rw [kept.reads n Axle.miss fun _ => rfl, getAxle_updAxle_same]; rfl
  · rw [kept.reads n Axle.state fun _ => rfl, getAxle_updAxle_same, axTake_state]
  · rw [kept.reads n Axle.cand fun _ => rfl, getAxle_updAxle_same, axTake_cand]

/-! ### Tooth edges (07 R186, R187) -/

/-- The safety channel takes an edge of a tooth sensor beside the axle. -/
theorem safEdge_beside (n : Nat) (s : State) : (safEdge n s).tb = s.tb ∧ (safEdge n s).fio = s.fio ∧ (safEdge n s).clk = s.clk :=
  ⟨(safEdge_keeps n).samePart (p := .tb) (by decide) s, (safEdge_keeps n).samePart (p := .fio) (by decide) s,
    (safEdge_keeps n).samePart (p := .clk) (by decide) s⟩

theorem getAxle_safEdge (n m : Nat) (s : State) : getAxle (safEdge n s) m = getAxle s m := by
  rw [getAxle, (safEdge_beside n s).1, getAxle]

/-- An edge that comes late enough is the axle's tooth; after no accepted period START stays. -/
theorem axEdgeStart_takes {n : Nat} {s : State} (late : ∀ l, (getAxle s n).lastAcc = some l → l + 200000 ≤ s.clk)
    (first : (getAxle s n).lastPer = none) : TeethKept (updAxle n (axTake s s.clk) s) (axEdgeStart n s) := by
  unfold axEdgeStart; extract_lets a tracked decided
  have untracked : tracked = updAxle n (axTake s s.clk) s := by
    have none_ : a.lastPer = none := first
    unfold tracked; rw [none_]; rfl
  split
  next l acc =>
    rw [if_neg (Nat.not_lt.mpr (late l acc))]
    exact .trans (.of_tb (by rw [untracked])) (decision_teethKept n tracked.clk tracked)
  next => exact axDecide_teethKept n s.clk _

/-- An axle enters START with the tooth of such an edge. -/
theorem axEdgeStart_axStart {n : Nat} {s : State} (late : ∀ l, (getAxle s n).lastAcc = some l → l + 200000 ≤ s.clk) (back : Bool) :
    let a := getAxle (axEdgeStart n (axStart n back s)) n
    a.state = 2 ∧ a.lastAcc = some s.clk ∧ a.back = back ∧ a.tLast = some s.clk := by
  have started : getAxle (axStart n back s) n =
      { getAxle s n with state := 2, back, tLast := none, lastPer := none, cand := none, miss := 0 } := getAxle_updAxle_same ..
  have kept := axEdgeStart_takes (s := axStart n back s) (by rw [started]; exact late) (by rw [started])
  refine ⟨?_, ?_, ?_, ?_⟩
  · rw [kept.reads n Axle.state fun _ => rfl, getAxle_updAxle_same, axTake_state, started]
  · rw [kept.reads n Axle.lastAcc fun _ => rfl, getAxle_updAxle_same]; rfl
  · rw [kept.reads n Axle.back fun _ => rfl, getAxle_updAxle_same, axTake_back, started]
  · rw [kept.reads n Axle.tLast fun _ => rfl, getAxle_updAxle_same]; rfl

theorem toothEdge_starts {n : Fin 4} {s : State} (on : axleOn (getAxle s n.val) = true) (sound : tget false s.fio.twFault n.val = false)
    (unstarted : (getAxle s n.val).state ≠ 2) (untracked : (getAxle s n.val).state ≠ 3)
    (late : ∀ l, (getAxle s n.val).lastAcc = some l → l + 200000 ≤ s.clk) (r : Bool) :
    Answers (exec (.toothEdge n r) s) (fun t => (getAxle t n.val).state = 2 ∧ (getAxle t n.val).lastAcc = some s.clk ∧
      (getAxle t n.val).back = (r != bit (getAxle s n.val).cfg 16) ∧ (getAxle t n.val).tLast = some s.clk) := by
  obtain ⟨-, fio, clk⟩ := safEdge_beside n.val s
  have runs : exec (.toothEdge n r) s = .next (axEdgeStart n.val (axStart n.val (r != bit (getAxle s n.val).cfg 16) (safEdge n.val s))) := by
    change execToothEdge n r s = _
    simp [execToothEdge, getAxle_safEdge, fio, sound, on, unstarted, untracked]
  have starts := axEdgeStart_axStart (s := safEdge n.val s) (by rwa [getAxle_safEdge, clk]) (r != bit (getAxle s n.val).cfg 16)
  rw [clk] at starts
  exact ⟨_, runs, starts⟩

/-- A rejected edge is counted; nothing else of the time bases changes. -/
theorem axReject_tb (n : Nat) (s : State) :
    (axReject n s).tb = (updAxle n (fun a => { a with reject := Nat.min 65535 (a.reject + 1) }) s).tb := by
  unfold axReject; dsimp only
  rw [gln_tb, fire_tb]

theorem getAxle_axReject (n : Nat) (s : State) :
    getAxle (axReject n s) n = { getAxle s n with reject := Nat.min 65535 ((getAxle s n).reject + 1) } := by
  rw [getAxle, axReject_tb]; exact getAxle_updAxle_same ..

theorem axDropCand_state (n : Nat) (s : State) : (getAxle (axDropCand n s) n).state = (getAxle s n).state := by
  unfold axDropCand; split
  · rw [getAxle_axReject, getAxle_updAxle_same]
  · rfl

section Track
variable {n : Fin 4} {r : Bool} {tl : Nat} {s : State} (on : axleOn (getAxle s n.val) = true)
  (sound : tget false s.fio.twFault n.val = false) (track : (getAxle s n.val).state = 3)
  (way : (getAxle s n.val).back = (r != bit (getAxle s n.val).cfg 16)) (window : (getAxle s n.val).tp ≤ pmaxNs s)
  (last : (getAxle s n.val).tLast = some tl)

include on sound track way window in
theorem toothEdge_runs_track : exec (.toothEdge n r) s = .next (axEdgeTrack n.val (safEdge n.val s)) := by
  obtain ⟨tb, fio, -⟩ := safEdge_beside n.val s
  change execToothEdge n r s = _
  have within : ¬ pmaxNs (safEdge n.val s) < (getAxle s n.val).tp := by rw [pmaxNs, tb]; exact Nat.not_lt.mpr window
  simp [execToothEdge, getAxle_safEdge, fio, sound, on, track, ← way, within]

include on sound track way window last

/-- An edge before the window is rejected. -/
theorem toothEdge_rejects (early : s.clk < tl + (getAxle s n.val).tp - axWindow (getAxle s n.val)) :
    Answers (exec (.toothEdge n r) s) (fun t => (getAxle t n.val).reject = min 65535 ((getAxle s n.val).reject + 1) ∧
      (getAxle t n.val).tLast = some tl ∧ t.tb.pos = s.tb.pos) := by
  obtain ⟨tb, -, clk⟩ := safEdge_beside n.val s
  have rejects : axEdgeTrack n.val (safEdge n.val s) = axReject n.val (safEdge n.val s) := by
    rw [axEdgeTrack]
    simp only [getAxle_safEdge, clk, last, Option.getD_some]
    exact if_pos early
  refine ⟨_, toothEdge_runs_track on sound track way window, ?_⟩
  beta_reduce
  rw [rejects, getAxle_axReject, axReject_tb, getAxle_safEdge]
  have pos : (safEdge n.val s).tb.pos = s.tb.pos := by rw [tb]
  exact ⟨rfl, last, pos⟩

/-- An edge in the window and near its middle is accepted. -/
theorem toothEdge_accepts (inside : tl + (getAxle s n.val).tp - axWindow (getAxle s n.val) ≤ s.clk)
    (near : natDist s.clk (tl + (getAxle s n.val).tp) ≤ (getAxle s n.val).tp / 8) :
    Answers (exec (.toothEdge n r) s) (fun t => (getAxle t n.val).tLast = some s.clk ∧ (getAxle t n.val).miss = 0 ∧
      (getAxle t n.val).state = 3) := by
  obtain ⟨-, -, clk⟩ := safEdge_beside n.val s
  have accepts : axEdgeTrack n.val (safEdge n.val s) = axAccept n.val s.clk (axDropCand n.val (safEdge n.val s)) := by
    rw [axEdgeTrack]
    simp only [getAxle_safEdge, clk, last, Option.getD_some]
    exact (if_neg (Nat.not_lt.mpr inside)).trans (if_pos near)
  obtain ⟨tLast, miss, state, -⟩ := axAccept_takes n.val s.clk (axDropCand n.val (safEdge n.val s))
  refine ⟨_, (toothEdge_runs_track on sound track way window).trans (congrArg _ accepts), tLast, miss, ?_⟩
  rw [state, axDropCand_state, getAxle_safEdge, track]

end Track

/-! ### Windows that close (07 R186) -/

/-- An axle with the tooth that no edge brought. -/
def axSynthesised (tp : Nat) (a : Axle) : Axle :=
  { a with tLast := some tp, miss := a.miss + 1, synth := Nat.min 65535 (a.synth + 1),
           pos := a.pos + (axPitch a : Int) * (if a.back then -1 else 1) }

/-- The axle has that tooth, with its count and its source. -/
def toothSynthesised (n tp : Nat) (s : State) : State :=
  let t := updAxle n (axSynthesised tp) s
  gln 0x0502 3 0 n (getAxle t n).synth (fire (48 + 2 * n) t)

theorem getAxle_toothSynthesised (n tp : Nat) (s : State) : getAxle (toothSynthesised n tp s) n = axSynthesised tp (getAxle s n) := by
  rw [toothSynthesised, getAxle, gln_tb, fire_tb]; exact getAxle_updAxle_same ..

/-- The axle is lost, with its source. -/
def axleLost (n : Nat) (s : State) : State :=
  let t := updAxle n (fun a => { a with state := 4, miss := 0, wasLost := true }) s
  gln 0x0503 3 0 n t.tb.pos (fire (49 + 2 * n) t)

theorem getAxle_axleLost (n : Nat) (s : State) :
    getAxle (axleLost n s) n = { getAxle s n with state := 4, miss := 0, wasLost := true } := by
  rw [axleLost, getAxle, gln_tb, fire_tb]; exact getAxle_updAxle_same ..

section Close
variable {n : Fin 4} {tl : Nat} {s : State} (track : (getAxle s n.val).state = 3) (window : (getAxle s n.val).tp ≤ pmaxNs s)
  (last : (getAxle s n.val).tLast = some tl) (closed : tl + (getAxle s n.val).tp + axWindow (getAxle s n.val) ≤ s.clk)
include track window last closed

/-- The candidate is the tooth. -/
theorem toothWindowClose_accepts {c : Nat} (found : (getAxle s n.val).cand = some c) :
    Answers (exec (.toothWindowClose n) s) (fun t => (getAxle t n.val).tLast = some c ∧ (getAxle t n.val).cand = none ∧
      (getAxle t n.val).miss = 0) := by
  have runs : exec (.toothWindowClose n) s = .next (axAccept n.val c (updAxle n.val (fun a => { a with cand := none }) s)) := by
    change execToothWindowClose n s = _
    simp [execToothWindowClose, track, window, last, closed, found]
  obtain ⟨tLast, miss, -, cand⟩ := axAccept_takes n.val c (updAxle n.val (fun a => { a with cand := none }) s)
  exact ⟨_, runs, tLast, by rw [cand, getAxle_updAxle_same], miss⟩

/-- What a window closed without a candidate leaves: the tooth synthesised in its place. -/
theorem toothWindowClose_runs (none_ : (getAxle s n.val).cand = none) : exec (.toothWindowClose n) s =
    .next (if (getAxle s n.val).miss + 1 = 3 then axFuse (axleLost n.val (toothSynthesised n.val (tl + (getAxle s n.val).tp) s))
      else axDecide n.val (tl + (getAxle s n.val).tp) (toothSynthesised n.val (tl + (getAxle s n.val).tp) s)) := by
  have within : ¬ pmaxNs s < (getAxle s n.val).tp := Nat.not_lt.mpr window
  have past : ¬ s.clk < tl + (getAxle s n.val).tp + axWindow (getAxle s n.val) := Nat.not_lt.mpr closed
  change execToothWindowClose n s = _
  simp only [execToothWindowClose, track, last, none_, within, past, Option.getD_some, Option.isNone_some, bne_self_eq_false,
    decide_false, Bool.or_false, Bool.false_eq_true, if_false]
  split <;> rfl

/-- The tooth synthesised stands where it was expected; at the third in a row the axle is lost. -/
theorem toothWindowClose_synthesises (none_ : (getAxle s n.val).cand = none) : Answers (exec (.toothWindowClose n) s) (fun t =>
    (getAxle t n.val).tLast = some (tl + (getAxle s n.val).tp) ∧ (getAxle t n.val).synth = min 65535 ((getAxle s n.val).synth + 1) ∧
    ((getAxle s n.val).miss + 1 ≠ 3 → (getAxle t n.val).miss = (getAxle s n.val).miss + 1 ∧ (getAxle t n.val).state = 3) ∧
    ((getAxle s n.val).miss + 1 = 3 → (getAxle t n.val).state = 4)) := by
  refine ⟨_, toothWindowClose_runs track window last closed none_, ?_⟩
  beta_reduce
  split
  next third =>
    have kept := axFuse_teethKept (axleLost n.val (toothSynthesised n.val (tl + (getAxle s n.val).tp) s))
    rw [kept.reads n.val Axle.tLast fun _ => rfl, kept.reads n.val Axle.synth fun _ => rfl, kept.reads n.val Axle.state fun _ => rfl,
      getAxle_axleLost, getAxle_toothSynthesised]
    exact ⟨rfl, rfl, fun other => absurd third other, fun _ => rfl⟩
  next third =>
    have kept := axDecide_teethKept n.val (tl + (getAxle s n.val).tp) (toothSynthesised n.val (tl + (getAxle s n.val).tp) s)
    rw [kept.reads n.val Axle.tLast fun _ => rfl, kept.reads n.val Axle.synth fun _ => rfl, kept.reads n.val Axle.state fun _ => rfl,
      kept.reads n.val Axle.miss fun _ => rfl, getAxle_toothSynthesised]
    exact ⟨rfl, rfl, fun _ => ⟨rfl, track⟩, fun here => absurd here third⟩

end Close

/-! ### Axles that stand still or are readmitted, and coasting (07 R187, R188, R190) -/

theorem axleStillTimeout_stills {n : Fin 4} {s : State} (on : axleOn (getAxle s n.val) = true) (moving : (getAxle s n.val).state ≠ 1)
    (silent : (getAxle s n.val).lastAcc.getD (getAxle s n.val).onAt + stillNs s ≤ s.clk) :
    Answers (exec (.axleStillTimeout n) s) (fun t => (getAxle t n.val).state = 1 ∧ (getAxle t n.val).v = 0) := by
  let still := updAxle n.val (fun a => { a with state := 1, v := 0, raw := 0, cand := none, miss := 0 }) s
  have runs : exec (.axleStillTimeout n) s = .next (axFuse still) := by
    change execAxleStillTimeout n s = _
    simp [execAxleStillTimeout, on, moving, silent, still]
  have kept := axFuse_teethKept still
  refine ⟨_, runs, ?_⟩
  beta_reduce
  rw [kept.reads n.val Axle.state fun _ => rfl, kept.reads n.val Axle.v fun _ => rfl, getAxle_updAxle_same]
  exact ⟨rfl, rfl⟩

/-- What a judgement reads of an axle. -/
def axJudged (a : Axle) : Nat × Bool × Nat × Nat × List (Nat × Nat × Nat) := (a.state, axleOn a, a.v, a.raw, a.agreed)

/-- Axles of which the same is read pass the same. -/
theorem axPasses_congr {s t : State} (clk : t.clk = s.clk) (settings : t.tb.lpCfg = s.tb.lpCfg)
    (same : ∀ n, axJudged (getAxle t n) = axJudged (getAxle s n)) : axPasses t = axPasses s := by
  simp only [axJudged, Prod.mk.injEq] at same
  have healthy (n : Nat) : axHealthy (getAxle t n) = axHealthy (getAxle s n) := by
    obtain ⟨state, on, -⟩ := same n
    rw [axHealthy, state, on, axHealthy]
  have speed (n : Nat) : axV (getAxle t n) = axV (getAxle s n) := by
    obtain ⟨state, -, v, -⟩ := same n
    rw [axV, state, v, axV]
  have raw (n : Nat) : axRaw (getAxle t n) = axRaw (getAxle s n) := by
    obtain ⟨state, -, -, raw, -⟩ := same n
    rw [axRaw, state, raw, axRaw]
  have agreed (n : Nat) : (getAxle t n).agreed = (getAxle s n).agreed := (same n).2.2.2.2
  have tolerance (r v : Nat) : inTol t r v = inTol s r v := by simp only [inTol, settings]
  have bound (d : Nat) : accBound t d = accBound s d := by simp only [accBound, settings]
  unfold axPasses
  simp only [healthy, speed, raw, agreed, tolerance, bound, clk]

/-- Axle n is not excluded, agrees since no instant, and has its tooth at p. -/
structure Readmitted (n : Nat) (p : Int) (s : State) : Prop where
  inside : (getAxle s n).excluded = false
  since : (getAxle s n).agreeSince = none
  pos : (getAxle s n).pos = p

theorem Readmitted.updAxle {n : Nat} {p : Int} {s : State} (h : Readmitted n p s) (m : Nat) {f : Axle → Axle}
    (spares : m = n → (f (getAxle s n)).excluded = (getAxle s n).excluded ∧ ((f (getAxle s n)).agreeSince = none) ∧
      (f (getAxle s n)).pos = (getAxle s n).pos) : Readmitted n p (updAxle m f s) := by
  by_cases here : m = n
  · obtain ⟨excluded, since, pos⟩ := spares here
    subst here
    exact ⟨by rw [getAxle_updAxle_same, excluded, h.inside], by rw [getAxle_updAxle_same, since], by rw [getAxle_updAxle_same, pos, h.pos]⟩
  · have other : getAxle (Machine.updAxle m f s) n = getAxle s n := by rw [getAxle_updAxle, if_neg (Ne.symm here)]
    exact ⟨by rw [other, h.inside], by rw [other, h.since], by rw [other, h.pos]⟩

/-- An axle that passes stays readmitted through the judgement. -/
theorem axJudge_readmitted {n : Nat} {p : Int} {s : State} (h : Readmitted n p s) (passes : (n, false) ∉ (axPasses s).2) :
    Readmitted n p (axJudge s) := by
  refine axJudge_induction h (fun m t ht => ht.updAxle m fun _ => ⟨rfl, rfl, rfl⟩) (fun m g t ht => ht.updAxle m fun _ => ⟨rfl, ht.since, rfl⟩)
    (fun m t out ht => ht.updAxle m fun here => ?_) fun m d t fails ht => ?_
  · rw [here, ht.inside] at out; cases out
  · have other : m ≠ n := by rintro rfl; exact passes fails
    obtain ⟨inside, since, pos⟩ := ht.updAxle m (f := fun a => { a with excluded := true }) fun here => absurd here other
    have same : getAxle (gln 0x0505 3 0 m d (fire (48 + 2 * m) (updAxle m (fun a => { a with excluded := true }) t))) n =
        getAxle (updAxle m (fun a => { a with excluded := true }) t) n := by
      rw [getAxle, gln_tb, fire_tb, getAxle]
    exact ⟨by rw [same, inside], by rw [same, since], by rw [same, pos]⟩

/-- An axle that is back among the others, with its tooth at p. -/
def axBack (p : Int) (a : Axle) : Axle := { a with excluded := false, agreeSince := none, pos := p }

theorem axleReadmit_readmits {n : Fin 4} {l : Nat} {s : State} (agrees : (getAxle s n.val).agreeSince = some l)
    (out : (getAxle s n.val).excluded = true) (long : l + 1000000000 ≤ s.clk) (passes : ∀ e ∈ (axPasses s).2, e.1 = n.val → e.2 = true) :
    Answers (exec (.axleReadmit n) s) (fun t => (getAxle t n.val).excluded = false ∧ (getAxle t n.val).agreeSince = none ∧
      (getAxle t n.val).pos = s.tb.pos * 65536) := by
  let back := gln 0x0506 3 0 n.val s.tb.pos (updAxle n.val (axBack (s.tb.pos * 65536)) s)
  let judged := judging back
  have runs : exec (.axleReadmit n) s = .next (axFuse back) := by
    change execAxleReadmit n s = _
    simp [execAxleReadmit, agrees, out, long]; rfl
  have bases : back.tb = (updAxle n.val (axBack (s.tb.pos * 65536)) s).tb := gln_tb ..
  have axle (m : Nat) : getAxle judged m = getAxle (updAxle n.val (axBack (s.tb.pos * 65536)) s) m := by
    change tget {} back.tb.axle m = _
    rw [bases, getAxle]
  have same : axPasses judged = axPasses s := by
    refine axPasses_congr (gln_clk ..) ?_ fun m => ?_
    · change back.tb.lpCfg = _
      rw [bases]; rfl
    · rw [axle, getAxle_updAxle]; split
      next here => rw [here]; rfl
      next => rfl
  have readmitted : Readmitted n.val (s.tb.pos * 65536) judged := by
    constructor <;> rw [axle, getAxle_updAxle_same] <;> rfl
  obtain ⟨inside, since, pos⟩ := axJudge_readmitted readmitted fun fails => by
    rw [same] at fails
    exact Bool.false_ne_true (passes _ fails rfl)
  obtain ⟨b, fused⟩ := (axFuse_admits back).axles n.val
  refine ⟨_, runs, ?_⟩
  beta_reduce
  rw [fused]
  exact ⟨inside, since, pos⟩

theorem coastTimeout_falls {l : Nat} {s : State} (coasts : s.tb.coastAt = some l) (long : l + coastNs s < s.clk) :
    Answers (exec .coastTimeout s) (fun t => t.tb.lpOk = false ∧ t.tb.pos = s.tb.pos) := by
  have runs : exec .coastTimeout s = .next (lpFall s) := by
    change execCoastTimeout s = _
    simp [execCoastTimeout, coasts, long]
  refine ⟨_, runs, ?_⟩
  beta_reduce
  rw [lpFall_tb]
  exact ⟨rfl, rfl⟩

/-- Settles O25: the tick moves LINEPOS by SPEED and the waiting fixes (`positionTick_moves`); of the axles each row does what its lemma
says, and what fusion, decisions and firings then do leaves the teeth (`TeethKept`). That a tick falls on every 250th count is log 37;
the position that a readmitted axle takes is log 6. -/
theorem linePositionAdvances : Obligations.LinePositionAdvances :=
  ⟨fun _ => positionTick_moves,
    fun _ r _ on sound unstarted untracked late => toothEdge_starts on sound unstarted untracked late r,
    fun _ _ _ _ on sound track way window last =>
      ⟨toothEdge_rejects on sound track way window last, toothEdge_accepts on sound track way window last⟩,
    fun _ _ _ track window last closed =>
      ⟨toothWindowClose_synthesises track window last closed, fun _ => toothWindowClose_accepts track window last closed⟩,
    fun _ _ => axleStillTimeout_stills,
    fun _ _ _ => axleReadmit_readmits,
    fun _ _ => coastTimeout_falls⟩

end Sys2Proof.Machine
end

section
/-! SUPPORT. The mains inputs: what a change of state, a reference, a step and a loss leave of them (07 R193, R194, R203). Obligation O26. -/

namespace Sys2Proof.Machine

/-! ### Mains inputs through the shared operations -/

theorem getMains_of_tb {s t : State} (same : t.tb = s.tb) (n : Nat) : getMains t n = getMains s n := by
  rw [getMains, same, getMains]

/-- SUPANG is what the input's reference, frequency and the clock make it. -/
theorem supang_congr {s t : State} {n : Nat} (clk : t.clk = s.clk) (run : (getMains t n).run = (getMains s n).run)
    (t0 : (getMains t n).t0 = (getMains s n).t0) (a0 : (getMains t n).a0 = (getMains s n).a0) : supang t n = supang s n := by
  simp only [supang, clk, run, t0, a0]

theorem supang_lt (s : State) (n : Nat) : supang s n < 2 ^ 48 := by
  unfold supang; dsimp only
  split <;> exact Nat.mod_lt _ (by decide)

@[simp] theorem getMains_mainsEnter_same (n st : Nat) (s : State) :
    getMains (mainsEnter n st s) n = { getMains s n with state := st, good := 0, fromLost := false } := by
  unfold mainsEnter; extract_lets entered _ seen raised
  have sees : seen.tb = entered.tb := by unfold seen; split <;> rfl
  have raises : raised.tb = entered.tb := by
    unfold raised
    split
    · rw [fire_tb, sees]
    · split
      · rw [fire_tb, sees]
      · exact sees
  rw [getMains_of_tb ((gln_tb ..).trans raises), getMains_updMains_same]

@[simp] theorem getMains_mainsRef_same (n v run : Nat) (s : State) :
    getMains (mainsRef n v run s) n = { getMains s n with t0 := s.clk, a0 := v, run } := getMains_updMains_same ..

@[simp] theorem getMains_ceMainsChanged (k n : Nat) (s : State) : getMains (ceMainsChanged k s) n = getMains s n :=
  getMains_of_tb ((ceMainsChanged_keeps k).samePart (p := .tb) (by decide) s) n

@[simp] theorem getMains_slotsLost (b : Nat) (all : Bool) (n : Nat) (s : State) : getMains (slotsLost b all s) n = getMains s n :=
  getMains_of_tb ((slotsLost_keeps b all).samePart (p := .tb) (by decide) s) n

@[simp] theorem getMains_slotsStep (b : Nat) (a c : Int) (n : Nat) (s : State) : getMains (slotsStep b a c s) n = getMains s n :=
  (slotsStep_basesKept b a c s).mains n

@[simp] theorem getMains_gln (code level tenant : Nat) (p1 p2 : Int) (n : Nat) (s : State) :
    getMains (gln code level tenant p1 p2 s) n = getMains s n := getMains_of_tb (gln_tb ..) n

@[simp] theorem getMains_leaveAngle_same (n : Nat) (s : State) : getMains (leaveAngle n s) n = { getMains s n with leftAt := s.clk } :=
  getMains_updMains_same ..

theorem mainsEnter_clk (n st : Nat) (s : State) : (mainsEnter n st s).clk = s.clk :=
  (mainsEnter_keeps n st).samePart (p := .clk) (by decide) s

theorem slotsLost_clk (b : Nat) (all : Bool) (s : State) : (slotsLost b all s).clk = s.clk :=
  (slotsLost_keeps b all).samePart (p := .clk) (by decide) s

/-- An angle that has just been set reads as it was set. -/
theorem supang_of_ref {t : State} {n v : Nat} (now : (getMains t n).t0 = t.clk) (set : (getMains t n).a0 = v) (low : v < 2 ^ 48) :
    supang t n = v := by
  unfold supang
  simp only [now, set, Nat.sub_self, Nat.zero_mul, Nat.zero_div, Nat.add_zero, ite_self]
  exact Nat.mod_eq_of_lt low

/-! ### Crossings (07 R193, R194) -/

/-- A frequency that lies in a band fits its field. -/
theorem min_of_mainsInBand {m : Mains} {f : Nat} (band : mainsInBand m f = true) : Nat.min 65535 f = f := by
  have known : mainsBand f ≠ 0 := by
    unfold mainsInBand at band
    simp only [Bool.and_eq_true, bne_iff_ne] at band
    exact band.1
  have high : f ≤ 62400 := by
    by_contra h
    refine known ?_
    unfold mainsBand
    rw [if_neg (by simp; omega), if_neg (by simp; omega), if_neg (by simp; omega)]
  exact Nat.min_eq_right (by omega)

/-- The nearest value that has the measured angle. -/
theorem nearestAngle_mod (cur : Nat) {ang : Nat} (low : ang < 65536) : umod 48 ((cur : Int) + nearestAngle cur ang) % 65536 = ang := by
  unfold nearestAngle sgn umod; dsimp only
  split <;> omega

theorem umod_lt (n : Nat) (v : Int) : umod n v < 2 ^ n := by
  unfold umod
  have := Int.emod_lt_of_pos v (show (0 : Int) < ((2 ^ n : Nat) : Int) by positivity)
  have := Int.emod_nonneg v (show ((2 ^ n : Nat) : Int) ≠ 0 by positivity)
  omega

/-- The input with what a crossing measures, before its state acts on it. -/
def mainsCrossed (n f : Nat) (pe : Int) (s : State) : State :=
  updMains n (fun m => { m with lastX := s.clk }) (updMains n (fun m => { m with freq := Nat.min 65535 f, pherr := pe }) s)

@[simp] theorem getMains_mainsCrossed (n f : Nat) (pe : Int) (s : State) :
    getMains (mainsCrossed n f pe s) n = { getMains s n with freq := Nat.min 65535 f, pherr := pe, lastX := s.clk } := by
  rw [mainsCrossed, getMains_updMains_same, getMains_updMains_same]

section Crossing
variable {n : Fin 2} {f : Nat} {ph : BitVec 16} {pe : Int} {s : State} (on : mainsOn (getMains s n.val) = true)
  (inRange : (getMains s n.val).overRange = false) (band : mainsInBand (getMains s n.val) f = true)
include on inRange band

/-- A locked input follows the crossing. -/
theorem mainsZeroCrossing_follows (locked : (getMains s n.val).state = 2) : Answers (exec (.mainsZeroCrossing n f ph pe) s) (fun t =>
    supang t n.val % 65536 = (ph.toNat + fld (getMains s n.val).cfg 35 20) % 65536 ∧ (getMains t n.val).state = 2 ∧
      (getMains t n.val).lastX = s.clk ∧ (getMains t n.val).freq = f ∧ (getMains t n.val).pherr = pe) := by
  let cur := supang (updMains n.val (fun m => { m with freq := Nat.min 65535 f, pherr := pe }) s) n.val
  let ang := (ph.toNat + fld (getMains s n.val).cfg 35 20) % 65536
  let v := umod 48 ((cur : Int) + nearestAngle cur ang)
  have runs : exec (.mainsZeroCrossing n f ph pe) s = .next (mainsRef n.val v f (mainsCrossed n.val f pe s)) := by
    change execMainsZeroCrossing n f ph pe s = _
    simp only [execMainsZeroCrossing, on, inRange, band, locked, Bool.not_true, Bool.or_false, Bool.false_eq_true, if_false]
    rfl
  have angle : v % 65536 = ang := nearestAngle_mod cur (Nat.mod_lt _ (by decide))
  refine ⟨_, runs, ?_⟩
  beta_reduce
  rw [supang_of_ref (v := v) (by rw [getMains_mainsRef_same]; rfl) (by rw [getMains_mainsRef_same]) (umod_lt ..), getMains_mainsRef_same, getMains_mainsCrossed]
  exact ⟨angle, locked, rfl, min_of_mainsInBand band, rfl⟩

variable (search : (getMains s n.val).state = 1) (close : -182 < pe ∧ pe < 182)
include search close

/-- An input that searches locks at its eighth good crossing. -/
theorem mainsZeroCrossing_locks (seven : 7 ≤ (getMains s n.val).good) : Answers (exec (.mainsZeroCrossing n f ph pe) s) (fun t =>
    (getMains t n.val).state = 2 ∧ (getMains t n.val).system = mainsBand f) := by
  change Answers (execMainsZeroCrossing n f ph pe s) _
  have eighth : ¬ (getMains s n.val).good + 1 < 8 := by omega
  simp only [execMainsZeroCrossing, on, inRange, band, search, close, eighth, Bool.not_true, Bool.or_false, Bool.false_eq_true, if_false,
    and_self, decide_true]
  split
  · refine ⟨_, rfl, ?_⟩
    beta_reduce
    split <;> simp
  · refine ⟨_, rfl, ?_⟩
    beta_reduce
    split <;> simp

/-- Before, the crossing is counted. -/
theorem mainsZeroCrossing_counts (few : (getMains s n.val).good < 7) : Answers (exec (.mainsZeroCrossing n f ph pe) s) (fun t =>
    (getMains t n.val).state = 1 ∧ (getMains t n.val).good = (getMains s n.val).good + 1) := by
  have runs : exec (.mainsZeroCrossing n f ph pe) s = .next (updMains n.val (fun m => { m with good := m.good + 1 }) (mainsCrossed n.val f pe s)) := by
    change execMainsZeroCrossing n f ph pe s = _
    have more : (getMains s n.val).good + 1 < 8 := by omega
    simp only [execMainsZeroCrossing, on, inRange, band, search, close, more, Bool.not_true, Bool.or_false, Bool.false_eq_true, if_false,
      and_self, decide_true, if_true]
    rfl
  refine ⟨_, runs, ?_⟩
  beta_reduce
  rw [getMains_updMains_same, getMains_mainsCrossed]
  exact ⟨search, rfl⟩

end Crossing

/-! ### Crossings that stay away, and direct current (07 R193, R203) -/

theorem mainsCrossingTimeout_holds {n : Fin 2} {s : State} (locked : (getMains s n.val).state = 2)
    (away : 1500000000000 ≤ (s.clk - (getMains s n.val).lastX) * mainsNominal (getMains s n.val).system) :
    Answers (exec (.mainsCrossingTimeout n) s) (fun t => (getMains t n.val).state = 3 ∧ (getMains t n.val).holdAt = s.clk ∧
      supang t n.val = supang s n.val) := by
  have runs : exec (.mainsCrossingTimeout n) s = .next (updMains n.val (fun m => { m with holdAt := s.clk }) (mainsEnter n.val 3 s)) := by
    change execMainsCrossingTimeout n s = _
    simp [execMainsCrossingTimeout, locked, away]
  have held : getMains (updMains n.val (fun m => { m with holdAt := s.clk }) (mainsEnter n.val 3 s)) n.val =
      { getMains s n.val with state := 3, good := 0, fromLost := false, holdAt := s.clk } := by
    rw [getMains_updMains_same, getMains_mainsEnter_same]
  refine ⟨_, runs, ?_⟩
  beta_reduce
  rw [held]
  exact ⟨rfl, rfl, supang_congr (mainsEnter_clk ..) (by rw [held]) (by rw [held]) (by rw [held])⟩

theorem mainsHoldoverExpiry_loses {n : Fin 2} {s : State} (holds : (getMains s n.val).state = 3)
    (long : (getMains s n.val).holdAt + fld (getMains s n.val).cfg 43 36 * 10000000 ≤ s.clk) :
    Answers (exec (.mainsHoldoverExpiry n) s) (fun t => (getMains t n.val).state = 4 ∧ (getMains t n.val).leftAt = s.clk) := by
  have runs : exec (.mainsHoldoverExpiry n) s = .next (slotsLost (2 + n.val) false (leaveAngle n.val (mainsEnter n.val 4 s))) := by
    change execMainsHoldoverExpiry n s = _
    simp [execMainsHoldoverExpiry, holds, long]
  refine ⟨_, runs, ?_⟩
  beta_reduce
  rw [getMains_slotsLost, getMains_leaveAngle_same, getMains_mainsEnter_same]
  exact ⟨rfl, mainsEnter_clk ..⟩

theorem mainsDcDetect_stops {n : Fin 2} {s : State} (on : mainsOn (getMains s n.val) = true)
    (unlocked : (getMains s n.val).state = 1 ∨ (getMains s n.val).state = 4) :
    Answers (exec (.mainsDcDetect n) s) (fun t => (getMains t n.val).state = 5 ∧ supang t n.val = supang s n.val / 65536 * 65536) := by
  let stopped := mainsRef n.val (supang s n.val / 65536 * 65536) 0 (mainsEnter n.val 5 s)
  have runs : exec (.mainsDcDetect n) s = .next (slotsLost (2 + n.val) true stopped) := by
    change execMainsDcDetect n s = _
    simp [execMainsDcDetect, on, unlocked, stopped]
  have whole : supang s n.val / 65536 * 65536 < 2 ^ 48 := (Nat.div_mul_le_self ..).trans_lt (supang_lt s n.val)
  have now : (slotsLost (2 + n.val) true stopped).clk = (mainsEnter n.val 5 s).clk := slotsLost_clk ..
  refine ⟨_, runs, ?_⟩
  beta_reduce
  rw [supang_of_ref (by rw [now, getMains_slotsLost, getMains_mainsRef_same]) (by rw [getMains_slotsLost, getMains_mainsRef_same]) whole,
    getMains_slotsLost, getMains_mainsRef_same, getMains_mainsEnter_same]
  exact ⟨rfl, rfl⟩

/-- Settles O26: what each crossing, its absence and a DC supply make of an input, each by the lemma of its row. -/
theorem supplyAngleFollows : Obligations.SupplyAngleFollows :=
  ⟨fun _ _ _ _ _ on inRange band => ⟨mainsZeroCrossing_follows on inRange band,
      fun search low high => mainsZeroCrossing_locks on inRange band search ⟨low, high⟩,
      fun search low high => mainsZeroCrossing_counts on inRange band search ⟨low, high⟩⟩,
    fun _ _ => mainsCrossingTimeout_holds,
    fun _ _ => mainsHoldoverExpiry_loses,
    fun _ _ => mainsDcDetect_stops⟩

end Sys2Proof.Machine
end

section
/-! SUPPORT. A slot that fires on a word after a higher-numbered slot has fired on it in the same tick. Obligation O27. -/

namespace Sys2Proof.Machine

/-- Slot 5 has cleared lane 0 of T0's word 0 in this tick; slot 3, armed on DEVTIME to set the lane, has reached its target. -/
def setsAfterClear : State :=
  { State.reset with
    slot := [(3, { cfg := wd (2 ^ 36), sts := wd (2 ^ 44) }), (5, { cfg := wd (2 * 2 ^ 36), sts := wd (2 * 2 ^ 44) })]
    tb := { State.reset.tb with fired := (0, [⟨0, 0#48, 0#48, [5]⟩]) }
    img := { State.reset.img with own := [(0, wd (2 ^ 40))] } }

/-- Slot 3 is due, alone, and its word is T0's and not forced. -/
theorem setsAfterClear_due :
    let x := getSlot setsAfterClear 3
    slotArmed x = true ∧ slotReached setsAfterClear x = true ∧ serving setsAfterClear = true ∧ stepFirst setsAfterClear = setsAfterClear ∧
      (∀ e ∈ setsAfterClear.slot, opsNow setsAfterClear e.2 = false) ∧ armedSlots setsAfterClear (slotReached setsAfterClear) = [3] ∧
      slotWordOk setsAfterClear x = true ∧ tget none setsAfterClear.task.force (slotWord x) = none :=
  ⟨by decide, by decide, rfl, rfl, by decide, by decide, by decide, rfl⟩

/-- When it fires the clear of the higher-numbered slot stands. -/
theorem setsAfterClear_fires : Answers (exec (.slotFire 3) setsAfterClear) fun t => imgWord t 0 = 0#48 := ⟨_, rfl, by decide⟩

/-- Refutes O27: its clause of SLOT_FIRE makes the word what the slot's action makes of it as it stands, but the slots that fire in one
tick act in ascending number (07 R200), so that of a higher-numbered slot that has fired on the word already in this tick stands
(`setsAfterClear`). -/
theorem not_slotsArmAndFire : ¬ Obligations.SlotsArmAndFire := by
  rintro ⟨-, -, -, -, -, -, fires, -⟩
  obtain ⟨armed, reached, serves, step, unreached, alone, own, free⟩ := setsAfterClear_due
  obtain ⟨t, ht, -, -, image⟩ := fires 3 setsAfterClear armed reached serves step unreached
  obtain ⟨u, hu, cleared⟩ := setsAfterClear_fires
  cases ht.symm.trans hu
  have set : imgWord t 0 = 1#48 := (image alone).1 own free
  exact absurd (set.symm.trans cleared) (by decide)

end Sys2Proof.Machine
end

section
/-! SUPPORT. The commands of the time bases: reads, the settings of LINEPOS, its axles and the mains inputs, and fixes (07 R186, R191 to
R193, R204). Obligation O28. -/

namespace Sys2Proof.Machine

/-! ### Checks of a command with two forms (02 R482) -/

/-- A command goes on past checks that pass. -/
theorem ok_then {x : Except Nat Unit} {f : Unit → MbR} {r : MbR} (h : x = .ok ()) (hf : f () = r) : (x >>= f) = r := by
  rw [h]; exact hf

theorem formLen_ok {p : Bytes} {o n : Nat} {forms : List (Nat × Nat)} (form : forms.find? (fun f => f.1 == u8 p o) = some (u8 p o, n))
    (long : o < p.length) (length : p.length = n) : formLen p o forms = .ok () := by
  unfold formLen
  rw [form, decide_eq_true long]
  simp [lenIs, length]; rfl

theorem stSel_ok {s : State} (changes : Changes s) (listed : Bool) : stSel listed s true = .ok () := by
  obtain ⟨idle, accepts⟩ := changes
  cases listed
  · rfl
  · simp [stSel, stChg, idle, accepts]

/-! ### Reads (07 R204) -/

theorem mbTbGet_reads {ch : Fin 16} {s : State} (h : NotCarried s ch) : MbReads .mbTbGet ch [] s (toBe 6 (devtime s) ++ toBe 6 (wallSec s) ++
    toBe 6 (wallSub s) ++ toBe 2 (umod 16 s.silo.utcOffset) ++ toBe 6 (umod 48 s.tb.pos) ++ toBe 6 (umod 48 s.tb.speed) ++
    toBe 6 (supang s 0) ++ toBe 6 (supang s 1) ++ wB (tbTrust s)) :=
  mbReads_of_reply (f := mbTbGet) (fun _ => rfl) h rfl

theorem mbTbDiag_reads {ch : Fin 16} {s : State} (h : NotCarried s ch) : MbReads .mbTbDiag ch [] s
    ((List.range 4).flatMap (fun n => wB (twStat (getAxle s n))) ++ (List.range 2).flatMap (fun n => wB (mainsStat (getMains s n)))) :=
  mbReads_of_reply (f := mbTbDiag) (fun _ => rfl) h rfl

/-! ### Settings of LINEPOS and its axles (07 R186) -/

theorem getAxle_setAxle_cfg (n m : Nat) (w : Word) (s : State) :
    (getAxle (setAxle n w s) m).cfg = if m = n then w else (getAxle s m).cfg := by
  unfold setAxle; rw [getAxle_updAxle]
  split
  · split
    · rfl
    · split <;> rfl
  · rfl

theorem setAxle_lpCfg (n : Nat) (w : Word) (s : State) : (setAxle n w s).tb.lpCfg = s.tb.lpCfg := rfl

/-- The four axles take their settings, and fusion follows. -/
def setAxles (ws : List Word) (s : State) : State := axFuse ((ws.zip (List.range 4)).foldl (fun s e => setAxle e.2 e.1 s) s)

theorem setAxles_settings (w : Fin 4 → Word) (s : State) :
    (setAxles [w 0, w 1, w 2, w 3] s).tb.lpCfg = s.tb.lpCfg ∧ ∀ n : Fin 4, (getAxle (setAxles [w 0, w 1, w 2, w 3] s) n.val).cfg = w n := by
  have four : ([w 0, w 1, w 2, w 3].zip (List.range 4)).foldl (fun s e => setAxle e.2 e.1 s) s =
      setAxle 3 (w 3) (setAxle 2 (w 2) (setAxle 1 (w 1) (setAxle 0 (w 0) s))) := rfl
  have kept := axFuse_teethKept (setAxle 3 (w 3) (setAxle 2 (w 2) (setAxle 1 (w 1) (setAxle 0 (w 0) s))))
  rw [setAxles, four]
  refine ⟨kept.settings.trans (by simp only [setAxle_lpCfg]), fun n => ?_⟩
  rw [kept.reads n.val Axle.cfg fun _ => rfl]
  simp only [getAxle_setAxle_cfg]
  fin_cases n <;> rfl

/-- A command that ends with the settings taken. -/
theorem mbLpSet_done {ch : Fin 16} {p : Bytes} {s : State} {lp : Word} {w : Fin 4 → Word}
    (runs : mbLpSet (tenantOf s ch) ch.val p s = done (setAxles [w 0, w 1, w 2, w 3] { s with tb := { s.tb with lpCfg := lp } })) :
    MbDone .mbLpSet ch p s (fun t => t.tb.lpCfg = lp ∧ ∀ n : Fin 4, (getAxle t n.val).cfg = w n) := by
  refine mbGives_of_reply (f := mbLpSet) (fun _ => rfl) runs rfl fun t kept _ => ?_
  obtain ⟨settings, axles⟩ := setAxles_settings w { s with tb := { s.tb with lpCfg := lp } }
  have same := kept.2 .tb (by decide)
  refine ⟨(congrArg TimeBase.lpCfg same).trans settings, fun n => ?_⟩
  rw [getAxle, same]; exact axles n

theorem mbLpSet_expert {ch : Fin 16} {lp : Word} {ax : Fin 4 → Word} {s : State} (t0 : tenantOf s ch = 0) (changes : Changes s)
    (acc : 1 ≤ fld lp 47 40) (acc' : fld lp 47 40 ≤ 100) (slip : 5 ≤ fld lp 39 32) (slip' : fld lp 39 32 ≤ 200)
    (coast : 1 ≤ fld lp 31 24) (coast' : fld lp 31 24 ≤ 100) (pmax : 5 ≤ fld lp 23 16) (pmax' : fld lp 23 16 ≤ 200)
    (still : 5 ≤ fld lp 15 8) (still' : fld lp 15 8 ≤ 100) (axles : ∀ n, twOk (twWord (ax n) true) = true) :
    MbDone .mbLpSet ch ([1#8] ++ wB lp ++ wB (ax 0) ++ wB (ax 1) ++ wB (ax 2) ++ wB (ax 3)) s (fun t =>
      t.tb.lpCfg = setBit (lp &&& 0xFFFFFFFFFF00#48) 7 true ∧ ∀ n : Fin 4, (getAxle t n.val).cfg = twWord (ax n) true) := by
  refine mbLpSet_done (w := fun n => twWord (ax n) true) ?_
  have level : u8 ([1#8] ++ wB lp ++ wB (ax 0) ++ wB (ax 1) ++ wB (ax 2) ++ wB (ax 3)) 0 = 1 := rfl
  have lpW : beW ([1#8] ++ wB lp ++ wB (ax 0) ++ wB (ax 1) ++ wB (ax 2) ++ wB (ax 3)) 1 = lp := by
    simp only [List.append_assoc]
    exact (beW_append_right [1#8] _ 0).trans (beW_wB_append lp _)
  have words : items ([1#8] ++ wB lp ++ wB (ax 0) ++ wB (ax 1) ++ wB (ax 2) ++ wB (ax 3)) 7 6 4 = [wB (ax 0), wB (ax 1), wB (ax 2), wB (ax 3)] := by
    have enc := items_flatMap (enc := fun n => wB (ax n)) (n := 6) (fun _ => length_wB _) [0, 1, 2, 3] ([1#8] ++ wB lp)
    simpa using enc
  have value (v : Word) : wd (beVal (wB v)) = v := by rw [wB, beVal_toBe, Nat.mod_eq_of_lt (show v.toNat < 256 ^ 6 from v.isLt)]; simp
  unfold mbLpSet
  simp only [level, lpW, words, List.map_cons, List.map_nil, value]
  refine need_then (by simp [t0]) (ok_then (formLen_ok (n := 31) rfl (by simp) (by simp)) (ok_then (stSel_ok changes _) (need_then rfl ?_)))
  rw [if_neg (by decide)]
  refine need_then ?_ rfl
  simp [acc, acc', slip, slip', coast, coast', pmax, pmax', still, still', axles]


/-- TW_CFG of the basic level: teeth, diameter, enable and the derived window of 35 per cent. -/
def basicTw (en : Bool) (teeth diam : Nat) : Word := wd (teeth * 2 ^ 36 + diam * 2 ^ 18 + b2n en * 2 ^ 15 + 35 * 2 ^ 8)

theorem twOk_basicTw {teeth diam : Nat} (enough : 16 ≤ teeth) (few : teeth ≤ 1024) (wide : 30000 ≤ diam) (narrow : diam ≤ 150000) (en : Bool) :
    twOk (basicTw en teeth diam) = true := by
  have on : b2n en ≤ 1 := by cases en <;> decide
  have number : (basicTw en teeth diam).toNat = teeth * 2 ^ 36 + diam * 2 ^ 18 + b2n en * 2 ^ 15 + 35 * 2 ^ 8 := by
    rw [basicTw, BitVec.toNat_ofNat]; exact Nat.mod_eq_of_lt (by omega)
  have top : fld (basicTw en teeth diam) 47 36 = teeth := by rw [fld, number, Nat.shiftRight_eq_div_pow]; omega
  have middle : fld (basicTw en teeth diam) 35 18 = diam := by rw [fld, number, Nat.shiftRight_eq_div_pow]; omega
  have window : fld (basicTw en teeth diam) 14 8 = 35 := by rw [fld, number, Nat.shiftRight_eq_div_pow]; omega
  simp [twOk, top, middle, window, enough, few, wide, narrow]

/-- One axle of the basic level as the payload holds it. -/
def basicAxle (en : Bool) (teeth diam : Nat) : Bytes := (if en then 1#8 else 0#8) :: toBe 2 teeth ++ toBe 4 diam

theorem length_basicAxle (en : Bool) (teeth diam : Nat) : (basicAxle en teeth diam).length = 7 := by simp [basicAxle]

theorem basicAxle_read {teeth diam : Nat} (few : teeth ≤ 1024) (narrow : diam ≤ 150000) (en : Bool) :
    u8 (basicAxle en teeth diam) 0 = b2n en ∧ be (basicAxle en teeth diam) 1 2 = teeth ∧ be (basicAxle en teeth diam) 3 4 = diam := by
  refine ⟨by cases en <;> rfl, ?_, ?_⟩
  · exact (be_append_right [if en then 1#8 else 0#8] _ 0 2).trans (be_toBe_append (by omega) _)
  · exact (be_append_right ((if en then 1#8 else 0#8) :: toBe 2 teeth) _ 0 4).trans (by simpa using be_toBe_append (n := 4) (v := diam) (by omega) [])

theorem mbLpSet_basic {ch : Fin 16} {en : Fin 4 → Bool} {teeth diam : Fin 4 → Nat} {s : State} (t0 : tenantOf s ch = 0) (changes : Changes s)
    (axles : ∀ n, 16 ≤ teeth n ∧ teeth n ≤ 1024 ∧ 30000 ≤ diam n ∧ diam n ≤ 150000) :
    MbDone .mbLpSet ch ([0#8] ++ ([0, 1, 2, 3] : List (Fin 4)).flatMap (fun n => basicAxle (en n) (teeth n) (diam n))) s
      (fun t => t.tb.lpCfg = 0x321414281400#48 ∧ ∀ n : Fin 4, (getAxle t n.val).cfg = basicTw (en n) (teeth n) (diam n)) := by
  refine mbLpSet_done (w := fun n => basicTw (en n) (teeth n) (diam n)) ?_
  have level (l : Bytes) : u8 ([0#8] ++ l) 0 = 0 := rfl
  have levelled (l : Bytes) : levelOk ([0#8] ++ l) 0 = true := rfl
  have each : items ([0#8] ++ ([0, 1, 2, 3] : List (Fin 4)).flatMap (fun n => basicAxle (en n) (teeth n) (diam n))) 1 7 4 =
      ([0, 1, 2, 3] : List (Fin 4)).map (fun n => basicAxle (en n) (teeth n) (diam n)) :=
    items_flatMap (fun _ => length_basicAxle ..) [0, 1, 2, 3] [0#8]
  have length := length_flatMap_const (enc := fun n => basicAxle (en n) (teeth n) (diam n)) (fun _ => length_basicAxle ..) [0, 1, 2, 3]
  have flags (n : Fin 4) : u8 (basicAxle (en n) (teeth n) (diam n)) 0 ≤ 1 := by
    rw [(basicAxle_read (axles n).2.1 (axles n).2.2.2 _).1]; cases en n <;> decide
  have fits (n : Fin 4) : be (basicAxle (en n) (teeth n) (diam n)) 1 2 < 4096 ∧ be (basicAxle (en n) (teeth n) (diam n)) 3 4 < 262144 := by
    obtain ⟨-, few, -, narrow⟩ := axles n
    obtain ⟨-, counts, widths⟩ := basicAxle_read few narrow (en n)
    omega
  have word (n : Fin 4) : wd (be (basicAxle (en n) (teeth n) (diam n)) 1 2 % 4096 * 2 ^ 36 +
      be (basicAxle (en n) (teeth n) (diam n)) 3 4 % 2 ^ 18 * 2 ^ 18 + u8 (basicAxle (en n) (teeth n) (diam n)) 0 * 2 ^ 15 + 35 * 2 ^ 8) =
      basicTw (en n) (teeth n) (diam n) := by
    obtain ⟨-, few, -, narrow⟩ := axles n
    obtain ⟨enable, counts, widths⟩ := basicAxle_read few narrow (en n)
    rw [enable, counts, widths, Nat.mod_eq_of_lt (by omega), Nat.mod_eq_of_lt (by omega), basicTw]
  have sound (n : Fin 4) : twOk (basicTw (en n) (teeth n) (diam n)) = true :=
    twOk_basicTw (axles n).1 (axles n).2.1 (axles n).2.2.1 (axles n).2.2.2 _
  unfold mbLpSet
  simp only [level, levelled, each, List.map_cons, List.map_nil, word]
  refine need_then (by simp [t0]) (ok_then (formLen_ok (n := 29) rfl (by simp) (by simpa using length)) (ok_then (stSel_ok changes _)
    (need_then (by simp [flags]) ?_)))
  rw [if_pos trivial]
  exact need_then (by simp [fits, sound]) rfl

/-! ### Mains inputs (07 R192, R193) -/

theorem setMains_cfg (n : Nat) (w : Word) (s : State) : (getMains (setMains n w s) n).cfg = w := by
  unfold setMains; extract_lets m left _ told
  have set : (getMains told n).cfg = w := by
    unfold told; split
    · rw [getMains_updMains_same]
    · rw [getMains_ceMainsChanged, getMains_updMains_same]
  have leaves (t : State) : (getMains (left t) n).cfg = (getMains t n).cfg := by
    unfold left; split
    · rw [getMains_leaveAngle_same]
    · rfl
  split
  · split
    · exact set
    · rw [getMains_mainsRef_same]
      exact (leaves _).trans (by rw [getMains_mainsEnter_same]; exact set)
  · split
    · rw [getMains_mainsEnter_same]; exact set
    · exact set

/-- An input that is not enabled is off. -/
theorem setMains_off {w : Word} (off : bit w 45 = false) (n : Nat) (s : State) : (getMains (setMains n w s) n).state = 0 := by
  unfold setMains; extract_lets m left _ told
  have state : (getMains told n).state = m.state := by
    unfold told; split
    · rw [getMains_updMains_same]
    · rw [getMains_ceMainsChanged, getMains_updMains_same]
  have leaves (t : State) : (getMains (left t) n).state = (getMains t n).state := by
    unfold left; split
    · rw [getMains_leaveAngle_same]
    · rfl
  rw [if_pos (by simp [off])]
  split
  next idle => exact state.trans idle
  next =>
    rw [getMains_mainsRef_same]
    exact (leaves _).trans (by rw [getMains_mainsEnter_same])

theorem mbMainsSet_expert {ch : Fin 16} {n : Fin 2} {w : Word} {s : State} (t0 : tenantOf s ch = 0) (changes : Changes s)
    (holdover : fld w 43 36 ≤ 200) : MbDone .mbMainsSet ch ([BitVec.ofNat 8 n.val, 1#8] ++ wB w) s (fun t =>
      (getMains t n.val).cfg = setBit (w &&& 0xFFFFFFF00000#48) 44 true) := by
  have input : u8 ([BitVec.ofNat 8 n.val, 1#8] ++ wB w) 0 = n.val := u8_ofNat (by omega) _
  have level : u8 ([BitVec.ofNat 8 n.val, 1#8] ++ wB w) 1 = 1 := rfl
  have levelled : levelOk ([BitVec.ofNat 8 n.val, 1#8] ++ wB w) 1 = true := rfl
  have low : n.val ≤ 1 := by omega
  have word : beW ([BitVec.ofNat 8 n.val, 1#8] ++ wB w) 2 = w :=
    (beW_append_right [BitVec.ofNat 8 n.val, 1#8] _ 0).trans (by simpa using beW_wB_append w [])
  have runs : mbMainsSet (tenantOf s ch) ch.val ([BitVec.ofNat 8 n.val, 1#8] ++ wB w) s =
      done (setMains n.val (setBit (w &&& 0xFFFFFFF00000#48) 44 true) s) := by
    unfold mbMainsSet
    simp only [input, level, levelled, word]
    refine need_then (by simp [t0]) (ok_then (formLen_ok (n := 8) rfl (by simp) (by simp)) (ok_then (stSel_ok changes _)
      (need_then (by simp [low]) ?_)))
    rw [if_neg (by decide)]
    exact need_then (by simp [holdover]) rfl
  refine mbGives_of_reply (f := mbMainsSet) (fun _ => rfl) runs rfl fun t kept _ => ?_
  rw [getMains_of_tb (kept.2 .tb (by decide)), setMains_cfg]

theorem mbMainsSet_basic {ch : Fin 16} {n : Fin 2} {en nom : Byte} {s : State} (t0 : tenantOf s ch = 0) (changes : Changes s)
    (enable : en.toNat ≤ 1) (nominal : nom.toNat ≤ 3) : MbDone .mbMainsSet ch [BitVec.ofNat 8 n.val, 0#8, en, nom] s (fun t =>
      (getMains t n.val).cfg = wd (nom.toNat * 2 ^ 46 + en.toNat * 2 ^ 45 + 200 * 2 ^ 36) ∧
      (en.toNat = 0 → (getMains t n.val).state = 0)) := by
  have input : u8 [BitVec.ofNat 8 n.val, 0#8, en, nom] 0 = n.val := u8_ofNat (by omega) _
  have level : u8 [BitVec.ofNat 8 n.val, 0#8, en, nom] 1 = 0 := rfl
  have levelled : levelOk [BitVec.ofNat 8 n.val, 0#8, en, nom] 1 = true := rfl
  have low : n.val ≤ 1 := by omega
  have enabled : u8 [BitVec.ofNat 8 n.val, 0#8, en, nom] 2 = en.toNat := rfl
  have band : u8 [BitVec.ofNat 8 n.val, 0#8, en, nom] 3 = nom.toNat := rfl
  have runs : mbMainsSet (tenantOf s ch) ch.val [BitVec.ofNat 8 n.val, 0#8, en, nom] s =
      done (setMains n.val (wd (nom.toNat * 2 ^ 46 + en.toNat * 2 ^ 45 + 200 * 2 ^ 36)) s) := by
    unfold mbMainsSet
    simp only [input, level, levelled, enabled, band]
    refine need_then (by simp [t0]) (ok_then (formLen_ok (n := 4) rfl (by simp) (by simp)) (ok_then (stSel_ok changes _)
      (need_then (by simp [low, enable, nominal]) ?_)))
    rw [if_pos trivial]
  refine mbGives_of_reply (f := mbMainsSet) (fun _ => rfl) runs rfl fun t kept _ => ?_
  rw [getMains_of_tb (kept.2 .tb (by decide)), setMains_cfg]
  refine ⟨rfl, fun zero => setMains_off ?_ ..⟩
  rw [zero]
  have : nom.toNat = 0 ∨ nom.toNat = 1 ∨ nom.toNat = 2 ∨ nom.toNat = 3 := by omega
  rcases this with h | h | h | h <;> rw [h] <;> decide

/-! ### Fixes of LINEPOS (07 R191) -/

theorem sgn_toNat (v : Word) : sgn 48 v.toNat = v.toInt := by
  have := v.isLt
  unfold sgn
  rw [BitVec.toInt_eq_toNat_cond]
  simp only [Nat.mod_eq_of_lt this]
  split <;> split <;> omega

/-- An instant at most a second ago is not to come. -/
theorem not_later_of_ago {t now : Nat} (ht : t < 2 ^ 48) (hn : now < 2 ^ 48) (ago : (now + 2 ^ 48 - t) % 2 ^ 48 ≤ 1000000000) :
    later t now = false := by
  unfold later; dsimp only
  rw [Nat.mod_eq_of_lt hn]
  simp only [Bool.and_eq_false_iff, decide_eq_false_iff_not]
  omega

theorem mbPosFix_gives {ch : Fin 16} {lf tf : Word} {o : Byte} {s : State} (t0 : tenantOf s ch = 0) (changes : Changes s) :
    let ago := (devtime s + 2 ^ 48 - tf.toNat) % 2 ^ 48
    let waiting := (s.tb.fix.map (·.1)).sum
    let c := lf.toInt - (lineAt s (s.clk - ago) + waiting)
    ago ≤ 1000000000 → -(2 ^ 47) ≤ c → c < 2 ^ 47 → -(2 ^ 47) ≤ s.tb.pos + waiting + c → s.tb.pos + waiting + c < 2 ^ 47 →
    (o.toNat % 2 = 1 ∨ c.natAbs ≤ 6400000) →
    MbGives .mbPosFix ch (wB lf ++ wB tf ++ [o]) s (· = toBe 6 (umod 48 c)) (fun t =>
      t.tb.fix = s.tb.fix ++ [(c, tf.toNat)] ∧ t.tb.pos = s.tb.pos) := by
  intro ago waiting c recent low high low' high' forced
  obtain ⟨idle, accepts⟩ := changes
  have line : be (wB lf ++ wB tf ++ [o]) 0 6 = lf.toNat := by
    rw [List.append_assoc]; exact be_toBe_append (n := 6) lf.isLt _
  have time : be (wB lf ++ wB tf ++ [o]) 6 6 = tf.toNat := by
    have second := be_append_right (wB lf) (wB tf ++ [o]) 0 6
    rw [length_wB] at second
    rw [List.append_assoc]; exact second.trans (be_toBe_append (n := 6) tf.isLt _)
  have options : u8 (wB lf ++ wB tf ++ [o]) 12 = o.toNat := by simp [u8]
  have past : later tf.toNat (devtime s) = false := not_later_of_ago tf.isLt (umod_lt ..) recent
  have runs : mbPosFix (tenantOf s ch) ch.val (wB lf ++ wB tf ++ [o]) s =
      reply (toBe 6 (umod 48 c)) { s with tb := { s.tb with fix := s.tb.fix ++ [(c, tf.toNat)] } } := by
    unfold mbPosFix
    simp only [line, time, options, sgn_toNat]
    refine need_then (by simp [t0]) (need_then (by simp) (need_then (by simp [idle, accepts]) ?_))
    have known : ¬ (later tf.toNat (devtime s) || decide (1000000000 < ago)) = true := by
      rw [past, Bool.false_or, decide_eq_true_eq]; omega
    have within : ¬ (decide (6400000 < c.natAbs) && o.toNat % 2 == 0 || !decide (-(2 ^ 47 : Int) ≤ c ∧ c ≤ 2 ^ 47 - 1) ||
        !decide (-(2 ^ 47 : Int) ≤ s.tb.pos + waiting + c ∧ s.tb.pos + waiting + c ≤ 2 ^ 47 - 1)) = true := by
      simp only [Bool.or_eq_true, Bool.and_eq_true, Bool.not_eq_true', decide_eq_true_eq, decide_eq_false_iff_not, beq_iff_eq]
      omega
    exact (if_neg known).trans (if_neg within)
  refine mbGives_of_reply (f := mbPosFix) (fun _ => rfl) runs rfl fun t kept _ => ?_
  have same : t.tb = { s.tb with fix := s.tb.fix ++ [(c, tf.toNat)] } := kept.2 .tb (by decide)
  rw [same]
  exact ⟨rfl, rfl⟩

/-- Settles O28: the reads answer what stands, and each setting and fix passes its checks and is taken, by the lemma of its form. -/
theorem timeBaseCommands : Obligations.TimeBaseCommands :=
  ⟨fun _ _ notCarried => ⟨mbTbGet_reads notCarried, mbTbDiag_reads notCarried⟩,
    fun _ _ _ _ t0 changes acc acc' slip slip' coast coast' pmax pmax' still still' axles =>
      mbLpSet_expert t0 changes acc acc' slip slip' coast coast' pmax pmax' still still' axles,
    fun _ _ _ _ _ => mbLpSet_basic,
    fun _ _ _ _ => mbMainsSet_expert,
    fun _ _ _ _ _ => mbMainsSet_basic,
    fun _ _ _ _ _ => mbPosFix_gives⟩

end Sys2Proof.Machine
end

section
/-! SUPPORT. The commands of the control engine's loops: given to a tenant, configured, tuned, their state and flags set and read (08 R206,
R208, R218 to R222). Obligation O30. -/

namespace Sys2Proof.Machine

/-! ### Checks, words in messages and fields of words -/

theorem stSel_of_true {s : State} (changes : Changes s) (listed : Bool) {b : Bool} (h : b = true) : stSel listed s b = .ok () := by
  rw [h]; exact stSel_ok changes listed

theorem wd_beVal_wB (v : Word) : wd (beVal (wB v)) = v := by
  rw [wB, beVal_toBe, Nat.mod_eq_of_lt (show v.toNat < 256 ^ 6 from v.isLt)]; simp

/-- Words at the end of a message are read as they were put there. -/
theorem items_words (head : Bytes) (ws : List Word) :
    (items (head ++ ws.flatMap wB) head.length 6 ws.length).map (fun b => wd (beVal b)) = ws := by
  rw [items_flatMap length_wB, List.map_map]
  exact (List.map_congr_left fun w _ => wd_beVal_wB w).trans (List.map_id ws)

theorem fld_setBit_of_gt {i hi lo : Nat} (hi' : i < 48) (h : i < lo) (w : Word) (b : Bool) : fld (setBit w i b) hi lo = fld w hi lo := by
  refine Nat.eq_of_testBit_eq fun k => ?_
  rw [testBit_fld, testBit_fld, getLsbD_setBit hi', if_neg (by omega)]

/-! ### Loops read and written -/

theorem getLoop_of_loops {s t : State} (same : t.ce.loop = s.ce.loop) (n : Nat) : getLoop t n = getLoop s n := by
  rw [getLoop, same, getLoop]

theorem getLoop_of_ce {s t : State} (same : t.ce = s.ce) (n : Nat) : getLoop t n = getLoop s n :=
  getLoop_of_loops (congrArg Ce.loop same) n

theorem getLoop_updLoop_other {n m : Nat} (h : m ≠ n) (f : CeLoop → CeLoop) (s : State) : getLoop (updLoop n f s) m = getLoop s m := by
  rw [getLoop_updLoop, if_neg h]

/-- Loops of a list written one by one, each once. -/
theorem getLoop_foldl_updLoop (f : CeLoop → CeLoop) {l : List Nat} (once : l.Nodup) (s : State) (m : Nat) :
    getLoop (l.foldl (fun s n => updLoop n (fun _ => f (getLoop s n)) s) s) m = if m ∈ l then f (getLoop s m) else getLoop s m := by
  induction l generalizing s with
  | nil => simp
  | cons n l ih =>
    obtain ⟨fresh, rest⟩ := List.nodup_cons.mp once
    rw [List.foldl_cons, ih rest, getLoop_updLoop]
    by_cases here : m = n
    · subst here; simp [fresh]
    · simp [here]

theorem ceOwner_elim {s : State} {t n : Nat} (own : ceOwner s t n = true) : n < 512 ∧ ceTenant (getLoop s n) = t := by
  simpa [ceOwner] using own

/-! ### MB_CE_ALLOC (08 R206) -/

/-- A loop as a tenant is given it: unconfigured, with its SEQ and flags. -/
def ceGiven (ten : Nat) (x : CeLoop) : CeLoop :=
  { cfg := setFld 0#48 44 40 ten, status := setFld 0#48 47 32 (fld x.status 47 32), flag := x.flag }

/-- The loops of c groups from group g on. -/
def ceGroupLoops (g c : Nat) : List Nat := (List.range (8 * c)).map (8 * g + ·)

theorem mem_ceGroupLoops {g c n : Nat} : n ∈ ceGroupLoops g c ↔ 8 * g ≤ n ∧ n < 8 * g + 8 * c := by
  simp only [ceGroupLoops, List.mem_map, List.mem_range]
  exact ⟨by omega, fun h => ⟨n - 8 * g, by omega, by omega⟩⟩

theorem nodup_ceGroupLoops (g c : Nat) : (ceGroupLoops g c).Nodup :=
  List.nodup_range.map fun _ _ => Nat.add_left_cancel

theorem evtAssign_ce (t : Nat) (en : Bool) (s : State) (n : Nat) : (evtAssign t en s n).ce = s.ce := by
  unfold evtAssign; dsimp only
  split <;> rfl

/-- Sources assigned one by one belong to the tenant. -/
theorem owner_foldl_evtAssign {ten : Nat} (valid : ten < 32) (en : State → Nat → Bool) (a c : Nat) (s : State) {i : Nat} (hi : i < c) :
    fld (evtSrc ((List.range c).foldl (fun s i => evtAssign ten (en s (a + i)) s (a + i)) s) (a + i)) 4 0 = ten := by
  induction c with
  | zero => omega
  | succ c ih =>
    rw [List.range_succ, List.foldl_append, List.foldl_cons, List.foldl_nil]
    by_cases last : i = c
    · rw [last, owner_evtAssign valid]
    · rw [evtSrc_evtAssign_other (by omega), ih (by omega)]

/-- The interrupt sources of the groups have the owner that was assigned. -/
theorem evtOwner_of_group {n : Nat} (low : 256 ≤ n) (high : n < 320) (s : State) : evtOwner s n = fld (evtSrc s n) 4 0 := by
  have free : evtFixed n = none := by rw [evtFixed, if_neg (by omega), if_neg (by omega)]
  rw [evtOwner, free, Option.getD_none]

theorem mbCeAlloc_done {ch : Fin 16} {g c tn : Byte} {s : State} (t0 : tenantOf s ch = 0) (changes : Changes s) (some_ : 1 ≤ c.toNat)
    (inside : g.toNat + c.toNat ≤ 64) (valid : tn.toNat < 32)
    (bare : ∀ n, 8 * g.toNat ≤ n → n < 8 * g.toNat + 8 * c.toNat → (getLoop s n).isSet = false)
    (unbound : ∀ i, i < c.toNat → bit (evtSrc s (256 + g.toNat + i)) 23 = false) :
    MbDone .mbCeAlloc ch [g, c, tn] s (fun t =>
      (∀ n, 8 * g.toNat ≤ n → n < 8 * g.toNat + 8 * c.toNat → ceTenant (getLoop t n) = tn.toNat ∧ (getLoop t n).isSet = false ∧
        fld (getLoop t n).status 47 32 = fld (getLoop s n).status 47 32) ∧
      (∀ n, (n < 8 * g.toNat ∨ 8 * g.toNat + 8 * c.toNat ≤ n) → getLoop t n = getLoop s n) ∧
      ∀ i, i < c.toNat → evtOwner t (256 + g.toNat + i) = tn.toNat) := by
  obtain ⟨idle, accepts⟩ := changes
  obtain ⟨u, runs, loops, owners⟩ : ∃ u, mbCeAlloc (tenantOf s ch) ch.val [g, c, tn] s = done u ∧
      u.ce.loop = ((ceGroupLoops g.toNat c.toNat).foldl (fun s n => updLoop n (fun _ => ceGiven tn.toNat (getLoop s n)) s) s).ce.loop ∧
      ∀ i, i < c.toNat → evtOwner u (256 + g.toNat + i) = tn.toNat := by
    have free : (ceGroupLoops g.toNat c.toNat).all (fun n => !(getLoop s n).isSet || effMode s (ceTenant (getLoop s n)) == 1 ||
        effMode s (ceTenant (getLoop s n)) == 4) = true := by
      rw [List.all_eq_true]; intro n mem
      obtain ⟨low, high⟩ := mem_ceGroupLoops.mp mem
      rw [bare n low high]; rfl
    have sources : (List.range c.toNat).all (fun i => !bit (evtSrc s (256 + g.toNat + i)) 23 ||
        evtOwner s (256 + g.toNat + i) == tn.toNat) = true := by
      rw [List.all_eq_true]; intro i mem
      rw [unbound i (List.mem_range.mp mem)]; rfl
    refine ⟨_, need_then (by simp [t0]) (need_then rfl (need_then ?_ (need_then ?_ rfl))), ?_, fun i hi => ?_⟩
    · rw [idle, accepts]
      exact (Bool.or_eq_true _ _).mpr (.inr ((Bool.and_eq_true _ _).mpr ⟨free, sources⟩))
    · simp [some_, inside, valid, u8]
    · rw [gln_ce, foldl_reads (fun s => s.ce) fun s i => evtAssign_ce ..]
      rfl
    · rw [evtOwner_of_group (by omega) (by omega), evtSrc_congr (gln_evt ..)]
      exact owner_foldl_evtAssign valid (fun s n => bit (evtSrc s n) 22) (256 + g.toNat) c.toNat _ hi
  refine mbGives_of_reply (f := mbCeAlloc) (fun _ => rfl) runs rfl fun t kept _ => ?_
  have reads (n : Nat) : getLoop t n = if n ∈ ceGroupLoops g.toNat c.toNat then ceGiven tn.toNat (getLoop s n) else getLoop s n :=
    (getLoop_of_loops ((congrArg Ce.loop (kept.2 .ce (by decide))).trans loops) n).trans
      (getLoop_foldl_updLoop _ (nodup_ceGroupLoops ..) s n)
  refine ⟨fun n low high => ?_, fun n out => ?_, fun i hi => (evtOwner_congr (kept.2 .evt (by decide)) _).trans (owners i hi)⟩
  · rw [reads, if_pos (mem_ceGroupLoops.mpr ⟨low, high⟩)]
    exact ⟨(fld_setFld_same (by decide) ..).trans (Nat.mod_eq_of_lt valid), rfl,
      (fld_setFld_same (by decide) ..).trans (Nat.mod_eq_of_lt (fld_lt ..))⟩
  · rw [reads, if_neg (by rw [mem_ceGroupLoops]; omega)]

/-! ### Changes that wait for a sample under way, and changes that take effect (08 R221) -/

theorem ceChange_waits {w : CeWait} {s : State} (under : ceUnder s w.loop = true) :
    (ceChange w s).ce.waits = s.ce.waits ++ [w] ∧ (ceChange w s).ce.loop = s.ce.loop := by
  rw [ceChange, if_pos under]; exact ⟨rfl, rfl⟩

theorem ceChange_now {w : CeWait} {s : State} (ended : ceUnder s w.loop = false) : ceChange w s = ceTake w s := by
  rw [ceChange, if_neg (by simp [ended])]

theorem getLoop_ceDeriveAgain_other {n m : Nat} (h : n ≠ m) (s : State) : getLoop (ceDeriveAgain m s) n = getLoop s n := by
  unfold ceDeriveAgain; dsimp only
  split
  · exact getLoop_updLoop_other h _ s
  · rfl

theorem getLoop_foldl_ceDeriveAgain {n : Nat} {l : List Nat} (h : n ∉ l) (s : State) :
    getLoop (l.foldl (fun s m => ceDeriveAgain m s) s) n = getLoop s n := by
  induction l generalizing s with
  | nil => rfl
  | cons m l ih =>
    obtain ⟨other, rest⟩ := not_or.mp (h ∘ List.mem_cons.mpr)
    exact (ih rest _).trans (getLoop_ceDeriveAgain_other other s)

/-- A loop is no member of the group that it leads. -/
theorem not_mem_ceMembers (s : State) (n : Nat) : n ∉ ceMembers s n := by
  simp [ceMembers, ceNaming]

/-- The members derive anew with a configured loop, which itself is as the request leaves it. -/
theorem getLoop_ceTake_set (n : Nat) (r : CeReq) (s : State) : getLoop (ceTake ⟨n, .set r⟩ s) n = ceCandidate s (getLoop s n) r := by
  unfold ceTake; dsimp only
  rw [getLoop_foldl_ceDeriveAgain (not_mem_ceMembers _ n)]
  split <;> exact getLoop_updLoop_same ..

/-- With no change waiting the settled engine is the engine as it stands. -/
theorem ceSettled_of_none {s : State} (settled : s.ce.waits = []) : ceSettled s = s := by
  have same : { s.ce with waits := [] } = s.ce := by rw [← settled]
  rw [ceSettled, ceSettle, settled]
  exact congrArg (fun ce => { s with ce }) same

/-! ### MB_CE_SET (08 R208, R220, R221) -/

/-- The block size is of the configuration word alone. -/
theorem ceSize_congr {x y : CeLoop} (h : x.cfg = y.cfg) : ceSize x = ceSize y := by
  simp only [ceSize, offQINIT, offRC, offUMAX, offUMIN, offT, offKQ, offKE, offK, offL, offC, offB, ceN, ceM, ceP, ceI, ceInteg, h]

/-- What the request says of a loop is what the candidate has; its tenant stays. -/
theorem ceCandidate_requested (s : State) (x : CeLoop) (r : CeReq) : (ceCandidate s x r).isSet = true ∧ (ceCandidate s x r).map = r.map ∧
    (ceCandidate s x r).trig = r.trig ∧ (ceCandidate s x r).cfg = setBit (setFld r.cfg 44 40 (ceTenant x)) 39 r.expert := by
  unfold ceCandidate; dsimp only
  split <;> split <;> exact ⟨rfl, rfl, rfl, rfl⟩

theorem ceTenant_ceCandidate (s : State) (x : CeLoop) (r : CeReq) : ceTenant (ceCandidate s x r) = ceTenant x := by
  obtain ⟨-, -, -, cfg⟩ := ceCandidate_requested s x r
  rw [ceTenant, cfg, fld_setBit_of_gt (by decide) (by decide), fld_setFld_same (by decide)]
  exact Nat.mod_eq_of_lt (fld_lt ..)

/-- A request that keeps the block size keeps the state. -/
theorem ceCandidate_state {s : State} {x : CeLoop} {r : CeReq} (size : ceSize (ceCandidate s x r) = x.coef.length) :
    (ceCandidate s x r).xh = x.xh ∧ (ceCandidate s x r).q = x.q := by
  obtain ⟨-, -, -, cfg⟩ := ceCandidate_requested s x r
  have same (y : CeLoop) (h : y.cfg = setBit (setFld r.cfg 44 40 (ceTenant x)) 39 r.expert) : (ceSize y == x.coef.length) = true := by
    rw [ceSize_congr (h.trans cfg.symm), size, beq_self_eq_true]
  unfold ceCandidate; dsimp only
  rw [if_pos (same _ rfl)]
  split <;> exact ⟨rfl, rfl⟩

/-- The configuration of a loop that a tenant in RUN or HOLD may not change: trigger, dimensions, integral part and lead. -/
def ceShape (x : CeLoop) : Nat × Nat × Nat × Nat × Bool × Nat := (ceTrig x, ceN x, ceM x, ceP x, ceInteg x, ceLead x)

/-- The loop as MB_CE_SET with payload p configures it once every accepted change is in force. -/
def ceChosen (s : State) (p : Bytes) : CeLoop := ceCandidate (ceSettled s) (getLoop (ceSettled s) (be p 0 2)) (ceRequest p)

/-- The engine with that loop in place, as the checks of the command judge it. -/
def ceInstalled (s : State) (p : Bytes) : State := updLoop (be p 0 2) (fun _ => ceChosen s p) (ceSettled s)

/-- The payload p is one that tenant t's MB_CE_SET passes its checks 9 to 12 with. -/
structure CeSetSound (s : State) (t : Nat) (p : Bytes) : Prop where
  form : (u8 p 2 = 0 ∧ p.length = 56) ∨ (u8 p 2 = 1 ∧ p.length = 63)
  owner : ceOwner s t (be p 0 2) = true
  listed : (ceRequest p).listed = true
  fits : (ceRequest p).fits = true
  readable : ∀ w ∈ (ceRequest p).ins, mayRead s t w = true
  shape : (getLoop (ceSettled s) (be p 0 2)).isSet = false ∨ effMode s t = 1 ∨
    ceShape (ceChosen s p) = ceShape (getLoop (ceSettled s) (be p 0 2))
  settable : ceSetOk s (ceInstalled s p) (be p 0 2) = true
  pool : cePool (ceInstalled s p) ≤ 131072
  load : ceLoad (ceInstalled s p) ≤ 4000000000

theorem mbCeSet_passes {s : State} {t : Nat} {p : Bytes} (changes : Changes s) (h : CeSetSound s t p) (ch : Nat) : ∃ k : Nat,
    mbCeSet t ch p s = reply (toBe 2 (ceSize (ceChosen s p)))
      (gln 0x0701 3 t (be p 0 2) k (ceChange ⟨be p 0 2, .set (ceRequest p)⟩ s)) := by
  obtain ⟨form, owner, listed, fits, readable, shape, settable, pool, load⟩ := h
  have long : 2 < p.length := by omega
  have formed : formLen p 2 [(0, 56), (1, 63)] = .ok () := by
    rcases form with ⟨level, length⟩ | ⟨level, length⟩
    · exact formLen_ok (n := 56) (by simp [level]) long length
    · exact formLen_ok (n := 63) (by simp [level]) long length
  have levelled : levelOk p 2 = true := decide_eq_true (by omega)
  have inputs : (ceRequest p).ins.all (fun w => 20480 ≤ w || mayRead s t w) = true := by
    rw [List.all_eq_true]; intro w mem
    rw [readable w mem, Bool.or_true]
  have allowed : (!(getLoop (ceSettled s) (be p 0 2)).isSet ||
      ceShape (ceChosen s p) == ceShape (getLoop (ceSettled s) (be p 0 2)) || effMode s t == 1) = true := by
    rcases shape with bare | stopped | same
    · simp [bare]
    · simp [stopped]
    · simp [same]
  refine ⟨_, need_then ?_ (need_then owner (ok_then formed (need_then ?_ (ok_then (stSel_of_true changes _ allowed) (need_then ?_ (need_then settable
    (need_then ?_ rfl)))))))⟩
  · simp [short]; omega
  · rw [inputs, Bool.or_true]
  · simp [levelled, listed, fits]
  · exact (Bool.and_eq_true _ _).mpr ⟨decide_eq_true pool, decide_eq_true load⟩

/-- While a sample is under way the configuration waits for its end. -/
theorem mbCeSet_waits {s : State} {ch : Fin 16} {p : Bytes} (changes : Changes s) (h : CeSetSound s (tenantOf s ch) p)
    (under : ceUnder s (be p 0 2) = true) : MbGives .mbCeSet ch p s (· = toBe 2 (ceSize (ceChosen s p))) (fun t =>
      getLoop t (be p 0 2) = getLoop s (be p 0 2) ∧ t.ce.waits = s.ce.waits ++ [⟨be p 0 2, .set (ceRequest p)⟩]) := by
  obtain ⟨k, runs⟩ := mbCeSet_passes changes h ch.val
  refine mbGives_of_reply (f := mbCeSet) (fun _ => rfl) runs rfl fun t kept _ => ?_
  have same := (kept.2 .ce (by decide)).trans (gln_ce ..)
  obtain ⟨waits, loops⟩ := ceChange_waits (w := ⟨be p 0 2, .set (ceRequest p)⟩) under
  exact ⟨(getLoop_of_ce same _).trans (getLoop_of_loops loops _), (congrArg Ce.waits same).trans waits⟩

/-- With no sample under way and no change waiting the configuration is in force at once. -/
theorem mbCeSet_configures {s : State} {ch : Fin 16} {p : Bytes} (changes : Changes s) (h : CeSetSound s (tenantOf s ch) p)
    (ended : ceUnder s (be p 0 2) = false) (settled : s.ce.waits = []) :
    MbGives .mbCeSet ch p s (· = toBe 2 (ceSize (ceChosen s p))) (fun t => (getLoop t (be p 0 2)).isSet = true ∧
      (getLoop t (be p 0 2)).cfg = (ceChosen s p).cfg ∧ (getLoop t (be p 0 2)).map = (ceRequest p).map ∧
      (getLoop t (be p 0 2)).trig = (ceRequest p).trig ∧ ceTenant (getLoop t (be p 0 2)) = ceTenant (getLoop s (be p 0 2)) ∧
      (ceSize (ceChosen s p) = (getLoop s (be p 0 2)).coef.length →
        (getLoop t (be p 0 2)).xh = (getLoop s (be p 0 2)).xh ∧ (getLoop t (be p 0 2)).q = (getLoop s (be p 0 2)).q)) := by
  obtain ⟨k, runs⟩ := mbCeSet_passes changes h ch.val
  have chosen : ceChosen s p = ceCandidate s (getLoop s (be p 0 2)) (ceRequest p) := by rw [ceChosen, ceSettled_of_none settled]
  refine mbGives_of_reply (f := mbCeSet) (fun _ => rfl) runs rfl fun t kept _ => ?_
  have same := (kept.2 .ce (by decide)).trans (gln_ce ..)
  rw [getLoop_of_ce same, ceChange_now ended, getLoop_ceTake_set, chosen]
  obtain ⟨configured, map, trig, -⟩ := ceCandidate_requested s (getLoop s (be p 0 2)) (ceRequest p)
  exact ⟨configured, rfl, map, trig, ceTenant_ceCandidate .., ceCandidate_state⟩

/-! ### MB_CE_COEF_SET and MB_CE_COEF_COMMIT (08 R221) -/

/-- The payload of MB_CE_COEF_SET: loop, offset, count and the words. -/
def coefPayload (n o : Nat) (ws : List Word) : Bytes := toBe 2 n ++ toBe 2 o ++ toBe 1 ws.length ++ ws.flatMap wB

theorem length_coefPayload (n o : Nat) (ws : List Word) : (coefPayload n o ws).length = 5 + 6 * ws.length := by
  simp [coefPayload, length_flatMap_const length_wB]; omega

theorem coefPayload_reads {n o : Nat} {ws : List Word} (hn : n < 2 ^ 16) (ho : o < 2 ^ 16) (few : ws.length < 256) :
    be (coefPayload n o ws) 0 2 = n ∧ be (coefPayload n o ws) 2 2 = o ∧ u8 (coefPayload n o ws) 4 = ws.length ∧
      (items (coefPayload n o ws) 5 6 ws.length).map (fun i => wd (beVal i)) = ws := by
  refine ⟨?_, ?_, ?_, items_words (toBe 2 n ++ toBe 2 o ++ toBe 1 ws.length) ws⟩
  · simp only [coefPayload, List.append_assoc]
    exact be_toBe_append (n := 2) hn _
  · simp only [coefPayload, List.append_assoc]
    exact (be_append_right (toBe 2 n) _ 0 2).trans (be_toBe_append (n := 2) ho _)
  · simp [coefPayload, u8, toBe]; omega

theorem mbCeCoefSet_done {ch : Fin 16} {n o : Nat} {ws : List Word} {s : State} (changes : Changes s)
    (own : ceOwner s (tenantOf s ch) n = true) (configured : (getLoop s n).isSet = true) (some_ : 1 ≤ ws.length) (few : ws.length ≤ 64)
    (ho : o < 2 ^ 16) (inside : o + ws.length ≤ (getLoop s n).coef.length)
    (room : (getLoop s n).stage.isSome = true ∨ cePool s + (getLoop s n).coef.length ≤ 131072) :
    MbDone .mbCeCoefSet ch (coefPayload n o ws) s (fun t =>
      let b := (getLoop s n).stage.getD (getLoop s n).coef
      (getLoop t n).stage = some (b.take o ++ ws ++ b.drop (o + ws.length)) ∧ (getLoop t n).coef = (getLoop s n).coef ∧
      ∀ m, m ≠ n → getLoop t m = getLoop s m) := by
  obtain ⟨idle, accepts⟩ := changes
  obtain ⟨hn, -⟩ := ceOwner_elim own
  obtain ⟨loop, offset, count, words⟩ := coefPayload_reads (n := n) (by omega) ho (show ws.length < 256 by omega)
  have length := length_coefPayload n o ws
  have runs : mbCeCoefSet (tenantOf s ch) ch.val (coefPayload n o ws) s = done (updLoop n (fun x => { x with
      stage := some (((getLoop s n).stage.getD (getLoop s n).coef).take o ++ ws ++
        ((getLoop s n).stage.getD (getLoop s n).coef).drop (o + ws.length)) }) s) := by
    unfold mbCeCoefSet
    simp only [loop, offset, count, words]
    refine need_then (by simp [short, length]; omega) (need_then own (need_then (by simp [length]) (need_then (by simp [length])
      (need_then (by simp [idle, accepts, configured]) (need_then (by simp [some_, few, inside]) (need_then ?_ rfl))))))
    simpa using room
  refine mbGives_of_reply (f := mbCeCoefSet) (fun _ => rfl) runs rfl fun t kept _ => ?_
  have same := kept.2 .ce (by decide)
  refine ⟨?_, ?_, fun m other => (getLoop_of_ce same m).trans (getLoop_updLoop_other other ..)⟩ <;>
    rw [getLoop_of_ce same, getLoop_updLoop_same]

/-- The loop has no staging copy. -/
def ceUnstaged (n : Nat) (s : State) : State := updLoop n (fun x => { x with stage := none }) s

theorem ceUnder_ceUnstaged (n : Nat) (s : State) : ceUnder (ceUnstaged n s) n = ceUnder s n := by
  unfold ceUnder ceHead ceUnstaged
  rw [getLoop_updLoop_same]
  rfl

theorem mbCeCoefCommit_passes {ch : Fin 16} {n : Nat} {b : List Word} {s : State} (changes : Changes s)
    (own : ceOwner s (tenantOf s ch) n = true) (configured : (getLoop s n).isSet = true) (staged : (getLoop s n).stage = some b)
    (limits : ceLimitsOk (getLoop s n) b = true) {q : Nat}
    (seq : (fld (getLoop s n).status 47 32 + if ceUnder s n then 2 else 1) % 65536 = q) :
    mbCeCoefCommit (tenantOf s ch) ch.val (toBe 2 n) s =
      reply (toBe 2 q) (gln 0x0702 3 (tenantOf s ch) n q (ceChange ⟨n, .block b⟩ (ceUnstaged n s))) := by
  obtain ⟨idle, accepts⟩ := changes
  obtain ⟨hn, -⟩ := ceOwner_elim own
  have loop : be (toBe 2 n) 0 2 = n := be_toBe (by omega)
  unfold mbCeCoefCommit
  simp only [loop, staged, seq]
  exact need_then rfl (need_then own (need_then rfl (need_then (by simp [idle, accepts, configured]) (need_then limits rfl))))

/-- A committed block is in force at once where no sample is under way: with it the level is expert, and the state stays. -/
theorem mbCeCoefCommit_commits {ch : Fin 16} {n : Nat} {b : List Word} {s : State} (changes : Changes s)
    (own : ceOwner s (tenantOf s ch) n = true) (configured : (getLoop s n).isSet = true) (staged : (getLoop s n).stage = some b)
    (limits : ceLimitsOk (getLoop s n) b = true) (ended : ceUnder s n = false) :
    MbGives .mbCeCoefCommit ch (toBe 2 n) s (· = toBe 2 ((fld (getLoop s n).status 47 32 + 1) % 65536)) (fun t =>
      (getLoop t n).coef = b ∧ (getLoop t n).stage = none ∧ ceExpert (getLoop t n) = true ∧ (getLoop t n).xh = (getLoop s n).xh ∧
      (getLoop t n).q = (getLoop s n).q ∧ ∀ m, m ≠ n → getLoop t m = getLoop s m) := by
  have runs := mbCeCoefCommit_passes changes own configured staged limits (by rw [ended])
  refine mbGives_of_reply (f := mbCeCoefCommit) (fun _ => rfl) runs rfl fun t kept _ => ?_
  have same := (kept.2 .ce (by decide)).trans (gln_ce ..)
  rw [ceChange_now ((ceUnder_ceUnstaged n s).trans ended)] at same
  have taken : getLoop t n = { getLoop s n with stage := none, coef := b, basic := [], cfg := setBit (getLoop s n).cfg 39 true } := by
    rw [getLoop_of_ce same, ceTake, getLoop_updLoop_same, ceUnstaged, getLoop_updLoop_same]
  rw [taken]
  refine ⟨rfl, rfl, bit_setBit_same (by decide) .., rfl, rfl, fun m other => ?_⟩
  rw [getLoop_of_ce same, ceTake, getLoop_updLoop_other other, ceUnstaged, getLoop_updLoop_other other]

/-- A committed block waits for the end of a sample under way. -/
theorem mbCeCoefCommit_waits {ch : Fin 16} {n : Nat} {b : List Word} {s : State} (changes : Changes s)
    (own : ceOwner s (tenantOf s ch) n = true) (configured : (getLoop s n).isSet = true) (staged : (getLoop s n).stage = some b)
    (limits : ceLimitsOk (getLoop s n) b = true) (under : ceUnder s n = true) :
    MbGives .mbCeCoefCommit ch (toBe 2 n) s (· = toBe 2 ((fld (getLoop s n).status 47 32 + 2) % 65536)) (fun t =>
      (getLoop t n).coef = (getLoop s n).coef ∧ (getLoop t n).stage = none ∧ t.ce.waits = s.ce.waits ++ [⟨n, .block b⟩] ∧
      ∀ m, m ≠ n → getLoop t m = getLoop s m) := by
  have runs := mbCeCoefCommit_passes changes own configured staged limits (by rw [under])
  refine mbGives_of_reply (f := mbCeCoefCommit) (fun _ => rfl) runs rfl fun t kept _ => ?_
  have same := (kept.2 .ce (by decide)).trans (gln_ce ..)
  obtain ⟨waits, loops⟩ := ceChange_waits (w := ⟨n, .block b⟩) ((ceUnder_ceUnstaged n s).trans under)
  have reads (m : Nat) : getLoop t m = getLoop (ceUnstaged n s) m := (getLoop_of_ce same m).trans (getLoop_of_loops loops m)
  rw [reads, ceUnstaged, getLoop_updLoop_same]
  exact ⟨rfl, rfl, (congrArg Ce.waits same).trans waits, fun m other => (reads m).trans (getLoop_updLoop_other other ..)⟩

/-! ### MB_CE_GET and MB_CE_LOAD (08 R217, R226) -/

/-- A loop's owner reads the whole of it. -/
theorem mbCeGet_reads {ch : Fin 16} {n : Nat} {s : State} (notCarried : NotCarried s ch) (own : ceOwner s (tenantOf s ch) n = true) :
    let x := getLoop s n
    MbReads .mbCeGet ch (toBe 2 n) s (wB (ceCfgWord s n) ++ wB x.trig ++ padW 8 x.map ++ wB (ceSts s n) ++ wB x.flag ++ padW 8 x.ua ++
      padW 16 x.xh ++ padW 8 x.q) := by
  obtain ⟨hn, tenant⟩ := ceOwner_elim own
  have loop : be (toBe 2 n) 0 2 = n := be_toBe (by omega)
  refine mbReads_of_reply (f := mbCeGet) (fun _ => rfl) notCarried ?_
  unfold mbCeGet
  simp only [loop, tenant, beq_self_eq_true, if_true]
  exact need_then rfl (need_then (by rw [own, Bool.or_true]) (need_then rfl (need_then (decide_eq_true hn) rfl)))

theorem mbCeLoad_reads {ch : Fin 16} {s : State} (notCarried : NotCarried s ch) : MbReads .mbCeLoad ch [] s
    (toBe 6 (ceLoad s).floor.toNat ++ toBe 4 (131072 - cePool s) ++ toBe 4 (s.ce.late % 2 ^ 32) ++ toBe 4 (s.ce.skips % 2 ^ 32)) :=
  mbReads_of_reply (f := mbCeLoad) (fun _ => rfl) notCarried rfl

/-! ### MB_CE_STATE_SET (08 R221) -/

theorem mbCeStateSet_passes {ch : Fin 16} {n : Nat} {xs qs : List Word} {s : State} (changes : Changes s)
    (own : ceOwner s (tenantOf s ch) n = true) (configured : (getLoop s n).isSet = true) (states : xs.length = ceN (getLoop s n))
    (integrals : qs.length = ceM (getLoop s n)) :
    mbCeStateSet (tenantOf s ch) ch.val (toBe 2 n ++ xs.flatMap wB ++ qs.flatMap wB) s = done (ceChange ⟨n, .state xs qs⟩ s) := by
  obtain ⟨idle, accepts⟩ := changes
  obtain ⟨hn, -⟩ := ceOwner_elim own
  rw [List.append_assoc, ← List.flatMap_append]
  have loop : be (toBe 2 n ++ (xs ++ qs).flatMap wB) 0 2 = n := be_toBe_append (by omega) _
  have length : (toBe 2 n ++ (xs ++ qs).flatMap wB).length = 2 + 6 * xs.length + 6 * qs.length := by
    rw [List.length_append, length_toBe, length_flatMap_const length_wB, List.length_append, Nat.mul_add, Nat.add_assoc]
  have words : (items (toBe 2 n ++ (xs ++ qs).flatMap wB) 2 6 (xs.length + qs.length)).map (fun b => wd (beVal b)) = xs ++ qs := by
    rw [← List.length_append]; exact items_words (toBe 2 n) (xs ++ qs)
  unfold mbCeStateSet
  simp only [loop, ← states, ← integrals, words, List.take_left', List.drop_left', configured, if_true]
  exact need_then rfl (need_then own (need_then (by rw [length, beq_self_eq_true]) (need_then (by simp [idle, accepts]) rfl)))

/-- Where no sample is under way the state is set at once. -/
theorem mbCeStateSet_sets {ch : Fin 16} {n : Nat} {xs qs : List Word} {s : State} (changes : Changes s)
    (own : ceOwner s (tenantOf s ch) n = true) (configured : (getLoop s n).isSet = true) (states : xs.length = ceN (getLoop s n))
    (integrals : qs.length = ceM (getLoop s n)) (ended : ceUnder s n = false) :
    MbDone .mbCeStateSet ch (toBe 2 n ++ xs.flatMap wB ++ qs.flatMap wB) s (fun t => (getLoop t n).xh = xs ∧ (getLoop t n).q = qs ∧
      (getLoop t n).status = (getLoop s n).status ∧ ∀ m, m ≠ n → getLoop t m = getLoop s m) := by
  refine mbGives_of_reply (f := mbCeStateSet) (fun _ => rfl) (mbCeStateSet_passes changes own configured states integrals) rfl
    fun t kept _ => ?_
  have same := kept.2 .ce (by decide)
  rw [ceChange_now ended] at same
  rw [getLoop_of_ce same, ceTake, getLoop_updLoop_same]
  exact ⟨rfl, rfl, rfl, fun m other => (getLoop_of_ce same m).trans (getLoop_updLoop_other other ..)⟩

/-- The state waits for the end of a sample under way. -/
theorem mbCeStateSet_waits {ch : Fin 16} {n : Nat} {xs qs : List Word} {s : State} (changes : Changes s)
    (own : ceOwner s (tenantOf s ch) n = true) (configured : (getLoop s n).isSet = true) (states : xs.length = ceN (getLoop s n))
    (integrals : qs.length = ceM (getLoop s n)) (under : ceUnder s n = true) :
    MbDone .mbCeStateSet ch (toBe 2 n ++ xs.flatMap wB ++ qs.flatMap wB) s (fun t =>
      t.ce.waits = s.ce.waits ++ [⟨n, .state xs qs⟩] ∧ t.ce.loop = s.ce.loop) := by
  refine mbGives_of_reply (f := mbCeStateSet) (fun _ => rfl) (mbCeStateSet_passes changes own configured states integrals) rfl
    fun t kept _ => ?_
  rw [kept.2 .ce (by decide)]
  exact ceChange_waits under

/-! ### MB_CE_FLAGS_CLEAR (08 R218) -/

/-- The low six bits that a byte names are cleared. -/
theorem bit_clearFlags (w : Word) (b : Byte) (i : Nat) :
    bit (w &&& ~~~(wd (b.toNat % 64))) i = (bit w i && !(decide (i < 6) && b.getLsbD i)) := by
  have named : (wd (b.toNat % 64)).getLsbD i = (decide (i < 48) && (decide (i < 6) && b.getLsbD i)) := by
    rw [BitVec.getLsbD_ofNat, show 64 = 2 ^ 6 from rfl, Nat.testBit_mod_two_pow]; rfl
  have wide : w.getLsbD i = true → i < 48 := BitVec.lt_of_getLsbD
  rw [bit, bit, BitVec.getLsbD_and, BitVec.getLsbD_not, named]
  cases h : w.getLsbD i with
  | false => rfl
  | true => simp [wide h]

theorem mbCeFlagsClear_gives {ch : Fin 16} {n : Nat} {b : Byte} {s : State} (changes : Changes s)
    (own : ceOwner s (tenantOf s ch) n = true) : MbGives .mbCeFlagsClear ch (toBe 2 n ++ [b]) s (· = wB (getLoop s n).flag) (fun t =>
      (∀ i, bit (getLoop t n).flag i = (bit (getLoop s n).flag i && !(decide (i < 6) && b.getLsbD i))) ∧
      (getLoop t n).status = (getLoop s n).status ∧ ∀ m, m ≠ n → getLoop t m = getLoop s m) := by
  obtain ⟨idle, accepts⟩ := changes
  obtain ⟨hn, -⟩ := ceOwner_elim own
  have loop : be (toBe 2 n ++ [b]) 0 2 = n := be_toBe_append (by omega) _
  have flags : u8 (toBe 2 n ++ [b]) 2 = b.toNat := rfl
  have runs : mbCeFlagsClear (tenantOf s ch) ch.val (toBe 2 n ++ [b]) s =
      reply (wB (getLoop s n).flag) (updLoop n (fun y => { y with flag := y.flag &&& ~~~(wd (b.toNat % 64)) }) s) := by
    unfold mbCeFlagsClear
    simp only [loop, flags]
    exact need_then rfl (need_then own (need_then rfl (need_then (by simp [idle, accepts]) rfl)))
  refine mbGives_of_reply (f := mbCeFlagsClear) (fun _ => rfl) runs rfl fun t kept _ => ?_
  have same := kept.2 .ce (by decide)
  rw [getLoop_of_ce same, getLoop_updLoop_same]
  exact ⟨fun i => bit_clearFlags .., rfl, fun m other => (getLoop_of_ce same m).trans (getLoop_updLoop_other other ..)⟩

/-- Settles O30: each command passes its checks, and then sets, stages, commits or answers what its lemma says; a change of a loop with a
sample under way waits for its end, and the SEQ answered counts that sample too (the model's choice, log 44). -/
theorem controlLoopCommands : Obligations.ControlLoopCommands :=
  ⟨fun _ _ _ _ _ => mbCeAlloc_done,
    fun _ _ _ changes form owner listed fits readable shape settable pool load =>
      have sound : CeSetSound _ _ _ := ⟨form, owner, listed, fits, readable, shape, settable, pool, load⟩
      ⟨mbCeSet_waits changes sound, mbCeSet_configures changes sound⟩,
    fun _ _ _ _ _ => mbCeCoefSet_done,
    fun _ _ _ _ changes own configured staged limits => ⟨mbCeCoefCommit_commits changes own configured staged limits,
      mbCeCoefCommit_waits changes own configured staged limits⟩,
    fun _ _ _ => mbCeGet_reads,
    fun _ _ _ _ _ changes own configured states integrals => ⟨mbCeStateSet_sets changes own configured states integrals,
      mbCeStateSet_waits changes own configured states integrals⟩,
    fun _ _ _ _ => mbCeFlagsClear_gives,
    fun _ _ => mbCeLoad_reads⟩

end Sys2Proof.Machine
end

section
/-! SUPPORT. Injection sessions: started with the settings of a request, stopped by command, and their capture read back (08 R223 to R225).
Obligation O31. -/

namespace Sys2Proof.Machine

/-! ### Fields of messages behind others -/

/-- A field is read past a part of a message that ends before it. -/
theorem be_append_of_le {a : Bytes} {o : Nat} (h : a.length ≤ o) (p : Bytes) (n : Nat) : be (a ++ p) o n = be p (o - a.length) n := by
  rw [← be_append_right a p, Nat.add_sub_cancel' h]

theorem beW_append_of_le {a : Bytes} {o : Nat} (h : a.length ≤ o) (p : Bytes) : beW (a ++ p) o = beW p (o - a.length) :=
  congrArg wd (be_append_of_le h p 6)

theorem beW_cons_of_pos {o : Nat} (h : 0 < o) (b : Byte) (p : Bytes) : beW (b :: p) o = beW p (o - 1) :=
  beW_append_of_le (a := [b]) h p

/-- Items of a message that end before a later part are those without it. -/
theorem items_append_left {p : Bytes} {o n k : Nat} (h : o + n * k ≤ p.length) (q : Bytes) : items (p ++ q) o n k = items p o n k := by
  induction k generalizing o with
  | zero => rfl
  | succ k ih =>
    rw [Nat.mul_succ] at h
    rw [items, items, ih (by omega), List.drop_append_of_le_length (by omega), List.take_append_of_le_length (by simp; omega)]

/-! ### MB_CE_INJ_START (08 R223, Table 8-14) -/

theorem getInj_of_ce {s t : State} (same : t.ce = s.ce) (i : Nat) : getInj t i = getInj s i := by rw [getInj, same, getInj]

/-- What a request of MB_CE_INJ_START names: the session, its register word, the amplitude, the frequencies, the duration, the capture
channels as kind and index, the divider, the entries before the injection and the entries in all. -/
structure InjRequest where
  session : Fin 2
  w : Word
  amp : Word
  f0 : Word
  f1 : Word
  dur : Word
  chans : List (Byte × Byte)
  div : Nat
  pre : Nat
  want : Nat

/-- CE_INJ as the request sets it. -/
def InjRequest.reg (q : InjRequest) : Word := q.w &&& 0xFFFFFFFF0000#48

def InjRequest.loop (q : InjRequest) : Nat := fld q.reg 47 39

/-- The payload up to its channels. -/
abbrev InjRequest.head (q : InjRequest) : Bytes :=
  [BitVec.ofNat 8 q.session.val] ++ wB q.w ++ wB q.amp ++ wB q.f0 ++ wB q.f1 ++ wB q.dur

/-- The request as its payload spells it (08 Table 8-14). -/
abbrev InjRequest.payload (q : InjRequest) : Bytes :=
  q.head ++ q.chans.flatMap (fun e => [e.1, e.2]) ++ toBe 2 q.div ++ toBe 2 q.pre ++ toBe 2 q.want

/-- The session as it starts: the settings of the request, and nothing injected or captured. -/
def InjRequest.started (q : InjRequest) : CeInj :=
  { reg := q.reg, active := true, amp := q.amp, f0 := q.f0, f1 := q.f1, dur := q.dur, chans := q.chans.map (fun e => (e.1.toNat, e.2.toNat))
    div := q.div, pre := q.pre, want := q.want, prbs := 2 ^ fld q.reg 31 28 - 1 }

/-- Every field of the request has a listed value (08 Tables 8-9, 8-14). -/
structure InjRequest.Listed (q : InjRequest) : Prop where
  four : q.chans.length = 4
  kinds : ∀ e ∈ q.chans, e.1.toNat ≤ 8
  div_pos : 1 ≤ q.div
  div_le : q.div ≤ 256
  pre_lt : q.pre < 2 ^ 16
  want_pos : 1 ≤ q.want
  want_le : q.want ≤ 8192
  signal : fld q.reg 38 36 ≤ 4
  prbs : fld q.reg 38 36 = 3 → 7 ≤ fld q.reg 31 28 ∧ 1 ≤ fld q.reg 27 16
  step : fld q.reg 38 36 = 2 → 1 ≤ fld q.reg 27 16

/-- The channels end at byte 39. -/
theorem InjRequest.length_channels {q : InjRequest} (four : q.chans.length = 4) :
    (q.head ++ q.chans.flatMap (fun e => [e.1, e.2])).length = 39 := by
  simp [head, length_flatMap_const (enc := fun e : Byte × Byte => [e.1, e.2]) (n := 2) (fun _ => rfl), four]

theorem InjRequest.length_payload {q : InjRequest} (four : q.chans.length = 4) : q.payload.length = 45 := by
  rw [payload, List.length_append, List.length_append, List.length_append, length_channels four, length_toBe, length_toBe, length_toBe]

/-- The words of the payload. -/
theorem InjRequest.payload_words (q : InjRequest) : u8 q.payload 0 = q.session.val ∧ beW q.payload 1 = q.w ∧ beW q.payload 7 = q.amp ∧
    beW q.payload 13 = q.f0 ∧ beW q.payload 19 = q.f1 ∧ beW q.payload 25 = q.dur := by
  simp [payload, head, u8_ofNat (show q.session.val < 256 by omega), beW_cons_of_pos, beW_append_of_le, beW_wB_append]

/-- The counts behind the channels. -/
theorem InjRequest.payload_counts {q : InjRequest} (four : q.chans.length = 4) (hd : q.div < 2 ^ 16) (hp : q.pre < 2 ^ 16)
    (hw : q.want < 2 ^ 16) : be q.payload 39 2 = q.div ∧ be q.payload 41 2 = q.pre ∧ be q.payload 43 2 = q.want := by
  have counts (o : Nat) : be q.payload (39 + o) 2 = be (toBe 2 q.div ++ (toBe 2 q.pre ++ toBe 2 q.want)) o 2 := by
    rw [← length_channels four, payload, List.append_assoc _ (toBe 2 q.pre), List.append_assoc _ (toBe 2 q.div)]
    exact be_append_right ..
  refine ⟨(counts 0).trans (be_toBe_append (n := 2) hd _), (counts 2).trans ?_, (counts 4).trans ?_⟩
  · exact (be_append_right (toBe 2 q.div) _ 0 2).trans (be_toBe_append (n := 2) hp _)
  · rw [← List.append_assoc]
    exact (be_append_right (toBe 2 q.div ++ toBe 2 q.pre) _ 0 2).trans (be_toBe (n := 2) hw)

/-- The capture channels of the payload. -/
theorem InjRequest.payload_chans {q : InjRequest} (four : q.chans.length = 4) :
    (items q.payload 31 2 4).map (fun b => (u8 b 0, u8 b 1)) = q.chans.map (fun e => (e.1.toNat, e.2.toNat)) := by
  have each : items (q.head ++ q.chans.flatMap (fun e => [e.1, e.2])) 31 2 4 = q.chans.map (fun e => [e.1, e.2]) := by
    rw [← four]; exact items_flatMap (enc := fun e => [e.1, e.2]) (n := 2) (fun _ => rfl) q.chans q.head
  rw [payload, List.append_assoc, List.append_assoc, items_append_left (by rw [length_channels four]), each, List.map_map]
  rfl

/-- A request with listed fields, for a configured loop of a tenant in RUN, starts a session that was not active. -/
theorem mbCeInjStart_starts {ch : Fin 16} {q : InjRequest} {s : State} (changes : Changes s) (own : ceOwner s (tenantOf s ch) q.loop = true)
    (listed : q.Listed) (runs : effMode s (tenantOf s ch) = 2) (ended : (getInj s q.session.val).active = false)
    (configured : (getLoop s q.loop).isSet = true)
    (index : fld q.reg 34 32 < if bit q.reg 35 then ceM (getLoop s q.loop) else ceP (getLoop s q.loop)) :
    MbDone .mbCeInjStart ch q.payload s (fun t =>
      let k := getInj t q.session.val
      k.active = true ∧ k.reg = q.reg ∧ k.amp = q.amp ∧ k.f0 = q.f0 ∧ k.f1 = q.f1 ∧ k.dur = q.dur ∧ k.div = q.div ∧ k.pre = q.pre ∧
      k.want = q.want ∧ k.cap = [] ∧ k.injected = 0 ∧ k.prbs = 2 ^ fld q.reg 31 28 - 1 ∧
      k.chans = q.chans.map (fun e => (e.1.toNat, e.2.toNat))) := by
  obtain ⟨four, kinds, div_pos, div_le, pre_lt, want_pos, want_le, signal, prbs, step⟩ := listed
  obtain ⟨session, regWord, amp, f0, f1, dur⟩ := q.payload_words
  obtain ⟨div, pre, want⟩ := InjRequest.payload_counts four (by omega) pre_lt (by omega)
  have chans := InjRequest.payload_chans four
  have length := InjRequest.length_payload four
  have reg : q.w &&& 0xFFFFFFFF0000#48 = q.reg := rfl
  have loop : fld q.reg 47 39 = q.loop := rfl
  have passes : ∃ k : Nat, mbCeInjStart (tenantOf s ch) ch.val q.payload s =
      done (gln 0x0706 3 (tenantOf s ch) k (fld q.reg 38 36) (updInj q.session.val (fun _ => q.started) s)) := by
    unfold mbCeInjStart
    simp only [session, regWord, amp, f0, f1, dur, div, pre, want, chans, reg, loop]
    refine ⟨_, need_then ?_ (need_then own (need_then ?_ (ok_then (stSel_of_true changes _ ?_) (need_then ?_ rfl))))⟩
    · rw [short, length]; rfl
    · rw [length, beq_self_eq_true]
    · simp [runs, ended, configured]
    · simp only [Bool.and_eq_true, Bool.or_eq_true, bne_iff_ne, decide_eq_true_eq, List.all_map, Function.comp_def, List.all_eq_true]
      exact ⟨⟨⟨⟨⟨⟨⟨⟨⟨q.session.isLt, signal⟩, kinds⟩, div_pos⟩, div_le⟩, want_pos⟩, want_le⟩, imp_iff_not_or.mp prbs⟩, imp_iff_not_or.mp step⟩, index⟩
  obtain ⟨k, passes⟩ := passes
  refine mbGives_of_reply (f := mbCeInjStart) (fun _ => rfl) passes rfl fun t kept _ => ?_
  rw [getInj_of_ce ((kept.2 .ce (by decide)).trans (gln_ce ..)), getInj_updInj_same]
  exact ⟨rfl, rfl, rfl, rfl, rfl, rfl, rfl, rfl, rfl, rfl, rfl, rfl, rfl⟩

/-! ### MB_CE_INJ_STOP and MB_CE_CAP_READ (08 R224, R225) -/

/-- A session that ends is not active, and keeps what it has; the loops stay. -/
theorem injEnd_ends (i cause : Nat) (s : State) :
    getInj (injEnd i cause s) i = { getInj s i with active := false } ∧ (injEnd i cause s).ce.loop = s.ce.loop := by
  unfold injEnd; dsimp only
  exact ⟨(getInj_of_ce (gln_ce ..) i).trans (getInj_updInj_same ..), by rw [gln_ce]; rfl⟩

theorem mbCeInjStop_gives {ch : Fin 16} {i : Fin 2} {s : State} (changes : Changes s)
    (own : ceOwner s (tenantOf s ch) (injLoop (getInj s i.val)) = true) (active : (getInj s i.val).active = true) :
    MbGives .mbCeInjStop ch [BitVec.ofNat 8 i.val] s (· = toBe 2 (getInj s i.val).cap.length) (fun t =>
      (getInj t i.val).active = false ∧ (getInj t i.val).cap = (getInj s i.val).cap ∧ t.ce.loop = s.ce.loop) := by
  obtain ⟨idle, accepts⟩ := changes
  have session : u8 [BitVec.ofNat 8 i.val] 0 = i.val := u8_ofNat (by omega) _
  have runs : mbCeInjStop (tenantOf s ch) ch.val [BitVec.ofNat 8 i.val] s =
      reply (toBe 2 (getInj s i.val).cap.length) (injEnd i.val 1 s) := by
    unfold mbCeInjStop
    simp only [session, active, if_true]
    exact need_then rfl (need_then (by rw [own, decide_eq_true i.isLt]; rfl) (need_then rfl (need_then (by simp [idle, accepts]) rfl)))
  refine mbGives_of_reply (f := mbCeInjStop) (fun _ => rfl) runs rfl fun t kept _ => ?_
  have same := kept.2 .ce (by decide)
  obtain ⟨session, loops⟩ := injEnd_ends i.val 1 s
  rw [getInj_of_ce same, session]
  exact ⟨rfl, rfl, (congrArg Ce.loop same).trans loops⟩

theorem mbCeCapRead_reads {ch : Fin 16} {i : Fin 2} {a c : Nat} {s : State} (notCarried : NotCarried s ch)
    (own : ceOwner s (tenantOf s ch) (injLoop (getInj s i.val)) = true) (some_ : 1 ≤ c) (few : c ≤ 160) (ha : a < 2 ^ 16)
    (inside : a + c ≤ (getInj s i.val).cap.length) :
    let k := getInj s i.val
    MbReads .mbCeCapRead ch ([BitVec.ofNat 8 i.val] ++ toBe 2 a ++ toBe 2 c) s (toBe 2 k.seq0 ++ toBe 6 k.dt0 ++ toBe 2 k.div ++
      toBe 2 k.cap.length ++ ((k.cap.drop a).take c).flatMap (fun r => padW 4 r)) := by
  have session : u8 ([BitVec.ofNat 8 i.val] ++ toBe 2 a ++ toBe 2 c) 0 = i.val := u8_ofNat (by omega) _
  have first : be ([BitVec.ofNat 8 i.val] ++ toBe 2 a ++ toBe 2 c) 1 2 = a := by
    rw [List.append_assoc, be_append_of_le (by simp)]
    exact be_toBe_append (n := 2) ha _
  have count : be ([BitVec.ofNat 8 i.val] ++ toBe 2 a ++ toBe 2 c) 3 2 = c := by
    rw [be_append_of_le (by simp)]
    exact be_toBe (n := 2) (by omega)
  refine mbReads_of_reply (f := mbCeCapRead) (fun _ => rfl) notCarried ?_
  unfold mbCeCapRead
  simp only [session, first, count]
  exact need_then rfl (need_then (by rw [own, decide_eq_true i.isLt]; rfl) (need_then rfl (need_then (by simp [some_, few, inside]) rfl)))

/-- Settles O31: a session starts as its request says, ends at the command with its entries, and its entries are read where they stand. -/
theorem injectionSessions : Obligations.InjectionSessions := by
  refine ⟨fun ch i w amp f0 f1 dur cs d pre c s changes => ?_, fun _ _ _ => mbCeInjStop_gives, fun _ _ _ _ _ => mbCeCapRead_reads⟩
  intro r n own four kinds div_pos div_le pre_lt want_pos want_le signal prbs step runs ended configured index
  exact mbCeInjStart_starts (q := ⟨i, w, amp, f0, f1, dur, cs, d, pre, c⟩) changes own
    ⟨four, kinds, div_pos, div_le, pre_lt, want_pos, want_le, signal, prbs, step⟩ runs ended configured index

end Sys2Proof.Machine
end

section
/-! SUPPORT. What the events of the services share: the words that they commit, what they leave of the reads of inputs and of time, objects
that one event takes in turn. Obligations O32, O33. -/

namespace Sys2Proof.Machine

/-! ### Reads that an event of a service leaves -/

theorem devtime_congr {s t : State} (clk : t.clk = s.clk) (ofs : t.pair.ofs = s.pair.ofs) : devtime t = devtime s := by
  rw [devtime, ptime, clk, ofs, devtime, ptime]

/-- A state that differs from s in the Gleaner, the Silo and the services alone, written as an update of s: what reads none of them reads as in s. -/
theorem eq_of_serviceFrame {s t : State} (h : Frame [.gln, .silo, .svc] s t) : t = { s with gln := t.gln, silo := t.silo, svc := t.svc } := by
  obtain ⟨pending, same⟩ := h
  have keeps (p : Part) (other : p ∉ [Part.gln, .silo, .svc]) : samePart p s t := same p other
  cases s; cases t
  simp only [State.mk.injEq, true_and]
  exact ⟨keeps .clk (by decide), keeps .mb (by decide), keeps .evt (by decide), keeps .rtc (by decide), keeps .aon (by decide),
    keeps .sup (by decide), keeps .core (by decide), keeps .prog (by decide), keeps .task (by decide), keeps .img (by decide),
    keeps .tb (by decide), keeps .slot (by decide), keeps .ce (by decide), keeps .fio (by decide), keeps .saf (by decide),
    keeps .can (by decide), keeps .eth (by decide), keeps .pass (by decide), keeps .pair (by decide), keeps .flash (by decide),
    keeps .ovl (by decide), keeps .out (by decide), keeps .free (by decide), pending⟩

theorem svcRead_of_frame {s t : State} (h : Frame [.gln, .silo, .svc] s t) (owner w : Nat) : svcRead t owner w = svcRead s owner w := by
  rw [eq_of_serviceFrame h]; rfl

theorem devtime_of_frame {s t : State} (h : Frame [.gln, .silo, .svc] s t) : devtime t = devtime s := by
  rw [eq_of_serviceFrame h]; rfl

theorem wallSec_of_frame {s t : State} (h : Frame [.gln, .silo, .svc] s t) : wallSec t = wallSec s := by
  rw [eq_of_serviceFrame h]; rfl

theorem running_of_frame {s t : State} (h : Frame [.gln, .silo, .svc] s t) (tenant : Nat) : running t tenant = running s tenant := by
  rw [eq_of_serviceFrame h]; rfl

theorem inPlot_of_frame {s t : State} (h : Frame [.gln, .silo, .svc] s t) (src tenant w : Nat) : inPlot t src tenant w = inPlot s src tenant w := by
  rw [eq_of_serviceFrame h]; rfl

theorem svcNote_only (kind num owner w : Nat) (was now : Bool) (s : State) :
    svcNote kind num owner w was now s = { s with gln := (svcNote kind num owner w was now s).gln } := by
  unfold svcNote; split
  · rfl
  · exact gln_only ..

@[simp] theorem svcNote_svc (kind num owner w : Nat) (was now : Bool) (s : State) : (svcNote kind num owner w was now s).svc = s.svc := by
  rw [svcNote_only]

@[simp] theorem svcNote_clk (kind num owner w : Nat) (was now : Bool) (s : State) : (svcNote kind num owner w was now s).clk = s.clk := by
  rw [svcNote_only]

/-- A word that may be read is not blind. -/
theorem svcRead_of_mayRead {s : State} {owner w : Nat} (may : mayRead s owner w = true) :
    (svcRead s owner w).blind = false ∧ (svcRead s owner w).value = imgWord s w ∧ (svcRead s owner w).qual = plotQual s (w / 64) := by
  rw [svcRead, if_pos may]; exact ⟨rfl, rfl, rfl⟩

/-! ### Events at the unit that serves (09 R234) -/

/-- An event at the unit that serves leaves what its function does, outside the pair and the port. -/
theorem svcEvent_answers {i : Instr} {f : State → State} {s : State} {P : State → Prop} (runs : exec i s = svcEvent f s)
    (serves : serving s = true) (after : ∀ t, Frame [.pair, .out] (f s) t → P t) : Answers (exec i s) P := by
  refine ⟨svcCarry s (f s), ?_, after _ (by simp)⟩
  rw [runs, svcEvent, if_pos serves]

/-- A boundary event that is due, while no unit waits for it. -/
theorem atBoundary_of_due {q : OvlUnit → Bool} {due : State → Bool} {f : State → State} {s : State} (units : s.ovl.units = [])
    (isDue : due s = true) : atBoundary q due f s = f s := by
  rw [atBoundary, boundary_of_no_units units, if_pos isDue]

/-! ### Words that a service commits (09 R233) -/

@[simp] theorem ofs_pairSend (r : PairRec) (s : State) : (pairSend r s).pair.ofs = s.pair.ofs := by
  unfold pairSend; split
  · cases r <;> rfl
  · rfl

@[simp] theorem ofs_trdpSent (k q : Nat) (s : State) : (trdpSent k q s).pair.ofs = s.pair.ofs := by
  unfold trdpSent; extract_lets t
  have sent : t.pair.ofs = s.pair.ofs := ofs_pairSend ..
  split
  · rw [fire_pair]; exact sent
  · exact sent

@[simp] theorem ofs_sentBody (n : Nat) (b : EthBody) (s : State) : (sentBody n b s).2.pair.ofs = s.pair.ofs := by
  cases b
  case trdp => exact foldl_reads (·.pair.ofs) (fun s k => ofs_trdpSent k _ s) _ _
  all_goals rfl

@[simp] theorem ofs_ethEmit (n hop dst : Nat) (b : EthBody) (s : State) : (ethEmit n hop dst b s).pair.ofs = s.pair.ofs := by
  unfold ethEmit; extract_lets m
  split
  · exact ofs_sentBody n b s
  · rfl

@[simp] theorem ofs_ethSend (n dst : Nat) (b : EthBody) (s : State) : (ethSend n dst b s).pair.ofs = s.pair.ofs := by
  have discarded : (ethDiscard n s).pair.ofs = s.pair.ofs := rfl
  unfold ethSend; dsimp only
  (repeat' split) <;> simp [discarded]

theorem ofs_remoteOutput (m : Nat) (s : State) : (remoteOutput m s).pair.ofs = s.pair.ofs := by
  unfold remoteOutput; dsimp only
  split
  · rfl
  · split
    · rw [ofs_pairSend]; rfl
    · split
      · rfl
      · rw [ofs_pairSend]
        exact ofs_ethSend ..

/-- Plot n takes part in a commit. -/
def markedUpdate (s : State) (n : Nat) : State := updPlot n (fun p => { p with marked := true }) (plotUpdate n none false s)

theorem ofs_commitWords (ws : List (Nat × Word)) (s : State) : (commitWords ws s).pair.ofs = s.pair.ofs := by
  unfold commitWords commitOnly; extract_lets t u
  have plots : u.pair.ofs = t.pair.ofs := foldl_reads (f := markedUpdate) (·.pair.ofs) (fun _ _ => rfl) _ _
  rw [ofs_pairSend, foldl_reads (·.pair.ofs) (fun s m => ofs_remoteOutput m s), plots]
  exact congrArg Pair.ofs (imgPuts_pair ws s)

theorem devtime_commitWords (ws : List (Nat × Word)) (s : State) : devtime (commitWords ws s) = devtime s :=
  devtime_congr ((commitWords_keeps ws).samePart (p := .clk) (by decide) s) (ofs_commitWords ws s)

/-- A commit of one word that is not forced writes it, and no other. -/
theorem word_commitWords_one {w : Nat} {s : State} (free : tget none s.task.force w = none) (v : Word) :
    (commitWords [(w, v)] s).img.word = wput w v s.img.word := by
  have put : imgPuts [(w, v)] s = imgSet w v s := by
    change imgPut w v s = _
    rw [imgPut, free]
  unfold commitWords commitOnly; extract_lets t u
  have plots : u.img.word = t.img.word := foldl_reads (f := markedUpdate) (·.img.word) (fun _ _ => rfl) _ _
  rw [pairSend_img, foldl_reads (·.img.word) (fun s m => word_remoteOutput m s), plots]
  change (imgPuts [(w, v)] s).img.word = _
  rw [put]; rfl

/-- What a service makes of a word: one lane of it, or the whole. -/
def laneWritten (lane : Option Nat) (v old : Word) : Word :=
  match lane with
  | some l => setBit old l (bit v 0)
  | none => v

/-- t stands after a commit of value v to word w in s. -/
structure Commits (w : Nat) (v : Word) (s t : State) : Prop where
  word : t.img.word = wput w v s.img.word
  devtime : devtime t = devtime s

theorem Commits.imgWord {w : Nat} {v : Word} {s t : State} (h : Commits w v s t) :
    imgWord t w = v ∧ ∀ x, x ≠ w → imgWord t x = imgWord s x := by
  unfold Machine.imgWord
  rw [h.word]
  exact ⟨wget_wput_same .., fun x other => (wget_wput ..).trans (if_neg other)⟩

/-- A service of a tenant that runs writes a word of the tenant's own plot that no record forces. -/
theorem svcPut_commits {s : State} {t w : Nat} (runs : running s t = true) (own : inPlot s 0 t w = true)
    (free : tget none s.task.force w = none) (lane : Option Nat) (v : Word) :
    ∃ u, svcPut s t w lane v = .written u ∧ Commits w (laneWritten lane v (imgWord s w)) s u := by
  refine ⟨commitWords [(w, laneWritten lane v (imgWord s w))] s, ?_, word_commitWords_one free _,
    devtime_commitWords ..⟩
  have unforced : unforcedWord s w = imgWord s w := by rw [unforcedWord, free]
  unfold svcPut
  rw [runs, own, unforced]
  cases lane <;> rfl

/-! ### Objects that one event takes in turn -/

/-- A fold that takes each element once: what holds until its turn comes, and what holds from then on. -/
theorem foldl_once {α σ : Type} {f : σ → α → σ} {before after : σ → Prop} {a : α} {l : List α} (once : l.Nodup) (mem : a ∈ l)
    (others : ∀ s, ∀ b ∈ l, b ≠ a → before s → before (f s b)) (turn : ∀ s, before s → after (f s a))
    (later : ∀ s, ∀ b ∈ l, b ≠ a → after s → after (f s b)) {s : σ} (start : before s) : after (l.foldl f s) := by
  obtain ⟨pre, post, rfl⟩ := List.append_of_mem mem
  obtain ⟨-, right, apart⟩ := List.nodup_append.mp once
  have waits : before (pre.foldl f s) := List.foldlRecOn pre f start fun u hu b hb =>
    others u b (by simp [hb]) (apart b hb a List.mem_cons_self) hu
  rw [List.foldl_append, List.foldl_cons]
  exact List.foldlRecOn post f (turn _ waits) fun u hu b hb =>
    later u b (by simp [hb]) (fun same => (List.nodup_cons.mp right).1 (same ▸ hb)) hu

end Sys2Proof.Machine
end

section
/-! SUPPORT. Programmes, alarms and trend channels: what their events make of them (09 R231 to R241). Obligation O32. -/

namespace Sys2Proof.Machine

/-! ### Programmes (09 R233, R237) -/

def putWpg (n : Nat) (g : Wpg) (s : State) : State := { s with svc := { s.svc with wpg := tput none n (some g) s.svc.wpg } }

theorem execWpgEvaluate_answers {w : Fin 512} {s : State} {P : State → Prop} (units : s.ovl.units = []) (serves : serving s = true)
    (after : ∀ t, Frame [.pair, .out] (wpgEval w.val s) t → P t) : Answers (exec (.wpgEvaluate w) s) P := by
  obtain ⟨q, runs⟩ : ∃ q, exec (.wpgEvaluate w) s = svcEvent (fun s => wpgEval w.val (boundary q s)) s := ⟨_, rfl⟩
  refine svcEvent_answers runs serves ?_
  rwa [boundary_of_no_units units]

/-- Programme g when value v has been committed at DEVTIME dt. -/
def wpgCommitted (v : Word) (dt : Nat) (g : Wpg) : Wpg := { g with value := v, last := some v, lastAt := dt, noted := false }

/-- A new value of a programme with an output is committed. -/
theorem wpgEval_written {w : Nat} {g : Wpg} {s u : State} (found : tget none s.svc.wpg w = some g) (out : bit g.cfg 17 = true)
    (new : g.last ≠ some (wpgValue s g (localMin s (fld g.cfg 47 43))))
    (written : svcPut s (fld g.cfg 47 43) (fld g.cfg 32 18) (if bit g.cfg 41 then some (fld g.cfg 38 33) else none)
      (wpgValue s g (localMin s (fld g.cfg 47 43))) = .written u) :
    wpgEval w s = putWpg w (wpgCommitted (wpgValue s g (localMin s (fld g.cfg 47 43))) (devtime u) g) u := by
  unfold wpgEval
  rw [found]; dsimp only
  rw [if_neg (by simp [out, new]), written]; rfl

/-- A programme without an output, or whose value has been committed before, takes its present value alone. -/
theorem wpgEval_unwritten {w : Nat} {g : Wpg} {s : State} (found : tget none s.svc.wpg w = some g)
    (same : bit g.cfg 17 = false ∨ g.last = some (wpgValue s g (localMin s (fld g.cfg 47 43)))) :
    wpgEval w s = putWpg w { g with value := wpgValue s g (localMin s (fld g.cfg 47 43)) } s := by
  unfold wpgEval
  rw [found]; dsimp only
  rw [if_pos (by simpa using same)]; rfl

/-- The word that a programme makes of its output word. -/
theorem laneWritten_wpg (g : Wpg) (v old : Word) : laneWritten (if bit g.cfg 41 then some (fld g.cfg 38 33) else none) v old =
    if bit g.cfg 41 then setBit old (fld g.cfg 38 33) (bit v 0) else v := by
  split <;> rfl

theorem wpgEvaluate_answers {w : Fin 512} {g : Wpg} {s : State} (units : s.ovl.units = []) (serves : serving s = true)
    (found : tget none s.svc.wpg w.val = some g) :
    let t := fld g.cfg 47 43
    let v := wpgValue s g (localMin s t)
    let o := fld g.cfg 32 18
    (bit g.cfg 17 = true → g.last ≠ some v → running s t = true → inPlot s 0 t o = true → tget none s.task.force o = none →
      Answers (exec (.wpgEvaluate w) s) (fun u => (∃ h, tget none u.svc.wpg w.val = some h ∧ h.value = v ∧ h.last = some v ∧
          h.lastAt = devtime s) ∧
        imgWord u o = (if bit g.cfg 41 then setBit (imgWord s o) (fld g.cfg 38 33) (bit v 0) else v) ∧
        ∀ x, x ≠ o → imgWord u x = imgWord s x)) ∧
    ((bit g.cfg 17 = false ∨ g.last = some v) → Answers (exec (.wpgEvaluate w) s) (fun u =>
      (∃ h, tget none u.svc.wpg w.val = some h ∧ h.value = v ∧ h.last = g.last) ∧ u.img.word = s.img.word)) := by
  intro t v o
  refine ⟨fun out new runs own free => ?_, fun same => ?_⟩
  · obtain ⟨u, written, commits⟩ := svcPut_commits runs own free (if bit g.cfg 41 then some (fld g.cfg 38 33) else none) v
    refine execWpgEvaluate_answers units serves fun x kept => ?_
    rw [wpgEval_written found out new written] at kept
    obtain ⟨here, others⟩ := commits.imgWord
    have image (k : Nat) : imgWord x k = imgWord u k := by rw [imgWord, kept.2 .img (by decide), putWpg, imgWord]
    rw [kept.2 .svc (by decide), image, here, laneWritten_wpg]
    exact ⟨⟨_, tget_tput_same .., rfl, rfl, commits.devtime⟩, rfl, fun k other => (image k).trans (others k other)⟩
  · refine execWpgEvaluate_answers units serves fun x kept => ?_
    rw [wpgEval_unwritten found same] at kept
    rw [kept.2 .svc (by decide), kept.2 .img (by decide)]
    exact ⟨⟨_, tget_tput_same .., rfl, rfl⟩, rfl⟩

/-! ### Alarms (09 R238 to R240) -/

/-- Alarm a after a change of its condition at DEVTIME dt. -/
def almTurned (dt : Nat) (active : Bool) (a : Alm) : Alm :=
  { a with active, trn := (a.trn + 1) % 65536, lastAt := dt, unack := if active then ackSet a else a.unack }

/-- Alarm a with its input read at instant clk: the condition before DELAY, and since when it holds. -/
def almSeen (clk : Nat) (i : SvcIn) (a : Alm) : Alm :=
  { a with blind := i.blind, since := if almRaw a i && !a.raw then clk else a.since, raw := almRaw a i }

/-- Alarm a after an evaluation. -/
def almEvaluated (clk dt : Nat) (i : SvcIn) (a : Alm) : Alm :=
  let b := almSeen clk i a
  let due := b.raw && decide (b.since + fld b.cfg 15 8 * 100000000 ≤ clk)
  if b.raw && !b.active && due then almTurned dt true b
  else if !b.raw && b.active then almTurned dt false b
  else b

theorem alm_putAlm (n m : Nat) (a : Alm) (s : State) :
    tget none (putAlm n a s).svc.alm m = if m = n then some a else tget none s.svc.alm m := tget_tput ..

theorem alm_almChange (n m : Nat) (a : Alm) (active : Bool) (s : State) : tget none (almChange n a active s).svc.alm m =
    if m = n then some (almTurned (devtime s) active a) else tget none s.svc.alm m := by
  unfold almChange; extract_lets trn b t
  have put : tget none t.svc.alm m = if m = n then some (almTurned (devtime s) active a) else tget none s.svc.alm m := alm_putAlm ..
  split
  · exact put
  · rw [gln_svc]; exact put

/-- An evaluation changes its own alarm alone. -/
theorem alm_almEval {n : Nat} {a : Alm} {s : State} (found : tget none s.svc.alm n = some a) (m : Nat) :
    tget none (almEval n s).svc.alm m = if m = n then
      some (almEvaluated s.clk (devtime s) (svcRead s (fld a.cfg 47 43) (fld a.cfg 31 17)) a) else tget none s.svc.alm m := by
  unfold almEval
  split
  next none_ => cases found.symm.trans none_
  next a' here =>
  cases found.symm.trans here
  extract_lets t w i u raw b due
  have clk : u.clk = s.clk := svcNote_clk ..
  have time : devtime u = devtime s := devtime_of_frame (by simp [u])
  have held : u.svc = s.svc := svcNote_svc ..
  have evaluated : almEvaluated s.clk (devtime s) i a = if (raw && !a.active && due) = true then almTurned (devtime s) true b
      else if (!raw && a.active) = true then almTurned (devtime s) false b else b := by
    simp only [due, b, clk]; rfl
  rw [evaluated]
  split
  · rw [alm_almChange, time, held]
  · split
    · rw [alm_almChange, time, held]
    · rw [alm_putAlm, held]

section Evaluated
variable {clk dt : Nat} {i : SvcIn} {a : Alm}

theorem almEvaluated_of_due (raw : almRaw a i = true) (normal : a.active = false)
    (due : (almSeen clk i a).since + fld a.cfg 15 8 * 100000000 ≤ clk) : almEvaluated clk dt i a = almTurned dt true (almSeen clk i a) := by
  have here : (almSeen clk i a).raw = true ∧ (almSeen clk i a).active = false ∧ (almSeen clk i a).cfg = a.cfg := ⟨raw, normal, rfl⟩
  simp [almEvaluated, here, due]

theorem almEvaluated_of_cleared (raw : almRaw a i = false) (active : a.active = true) :
    almEvaluated clk dt i a = almTurned dt false (almSeen clk i a) := by
  have here : (almSeen clk i a).raw = false ∧ (almSeen clk i a).active = true := ⟨raw, active⟩
  simp [almEvaluated, here]

theorem almEvaluated_of_same (same : almRaw a i = a.active) : almEvaluated clk dt i a = almSeen clk i a := by
  have here : (almSeen clk i a).raw = (almSeen clk i a).active := same
  simp [almEvaluated, here]

theorem almEvaluated_of_early (raw : almRaw a i = true) (early : clk < (almSeen clk i a).since + fld a.cfg 15 8 * 100000000) :
    almEvaluated clk dt i a = almSeen clk i a := by
  have here : (almSeen clk i a).raw = true ∧ (almSeen clk i a).cfg = a.cfg := ⟨raw, rfl⟩
  simp [almEvaluated, here, early]

/-- What an evaluation makes of an alarm, case by case (R238). -/
theorem almEvaluated_cases (clk dt : Nat) (i : SvcIn) (a : Alm) :
    let r := almRaw a i
    let from_ := if r && !a.raw then clk else a.since
    let b := almEvaluated clk dt i a
    b.raw = r ∧ b.cfg = a.cfg ∧ b.shelved = a.shelved ∧
      (r = true → a.active = false → from_ + fld a.cfg 15 8 * 100000000 ≤ clk →
        b.active = true ∧ b.trn = (a.trn + 1) % 65536 ∧ b.unack = ackSet a ∧ b.lastAt = dt) ∧
      (r = true → a.active = false → clk < from_ + fld a.cfg 15 8 * 100000000 → b.active = false ∧ b.trn = a.trn ∧ b.since = from_) ∧
      (r = false → a.active = true → b.active = false ∧ b.trn = (a.trn + 1) % 65536 ∧ b.unack = a.unack ∧ b.lastAt = dt) ∧
      (r = a.active → b.active = a.active ∧ b.trn = a.trn ∧ b.unack = a.unack) := by
  intro r from_ b
  have settings : b.raw = r ∧ b.cfg = a.cfg ∧ b.shelved = a.shelved := by
    simp only [b, almEvaluated]
    split
    · exact ⟨rfl, rfl, rfl⟩
    · split <;> exact ⟨rfl, rfl, rfl⟩
  obtain ⟨raw, cfg, shelved⟩ := settings
  refine ⟨raw, cfg, shelved, fun rises normal due => ?_, fun rises normal early => ?_, fun falls active => ?_, fun same => ?_⟩
  · rw [show b = _ from almEvaluated_of_due rises normal due]
    exact ⟨rfl, rfl, rfl, rfl⟩
  · rw [show b = _ from almEvaluated_of_early rises early]
    exact ⟨normal, rfl, rfl⟩
  · rw [show b = _ from almEvaluated_of_cleared falls active]
    exact ⟨rfl, rfl, rfl, rfl⟩
  · rw [show b = _ from almEvaluated_of_same same]
    exact ⟨rfl, rfl, rfl⟩

end Evaluated

/-- Every alarm has its evaluation once, from the state in which the event finds it. -/
theorem alm_almEvalAll {n : Nat} {a : Alm} {s : State} (once : (s.svc.alm.map (·.1)).Nodup) (found : tget none s.svc.alm n = some a) :
    tget none (almEvalAll s).svc.alm n = some (almEvaluated s.clk (devtime s) (svcRead s (fld a.cfg 47 43) (fld a.cfg 31 17)) a) := by
  have listed : n ∈ s.svc.alm.map (·.1) := List.mem_map_of_mem (mem_of_tget found (Option.some_ne_none a))
  have each (u : State) (m : Nat) (kept : Frame [.gln, .silo, .svc] s u) : Frame [.gln, .silo, .svc] s (almEval m u) := by simp [kept]
  have apart (u : State) (m : Nat) (other : m ≠ n) : tget none (almEval m u).svc.alm n = tget none u.svc.alm n := by
    cases found : tget none u.svc.alm m with
    | none => simp [almEval, found]
    | some b => rw [alm_almEval found, if_neg other.symm]
  refine (foldl_once (f := fun s n => almEval n s) (before := fun u => Frame [.gln, .silo, .svc] s u ∧ tget none u.svc.alm n = some a)
    (after := fun u => Frame [.gln, .silo, .svc] s u ∧ tget none u.svc.alm n = some (almEvaluated s.clk (devtime s)
      (svcRead s (fld a.cfg 47 43) (fld a.cfg 31 17)) a)) once listed ?_ ?_ ?_ ⟨.refl _ s, found⟩).2
  · exact fun u m _ other ⟨kept, here⟩ => ⟨each u m kept, (apart u m other).trans here⟩
  · rintro u ⟨kept, here⟩
    refine ⟨each u n kept, ?_⟩
    rw [alm_almEval here, if_pos rfl, svcRead_of_frame kept, devtime_of_frame kept, kept.clk (by decide)]
  · exact fun u m _ other ⟨kept, here⟩ => ⟨each u m kept, (apart u m other).trans here⟩

theorem alarmEvaluate_answers {n : Nat} {a : Alm} {s : State} (units : s.ovl.units = []) (serves : serving s = true)
    (once : (s.svc.alm.map (·.1)).Nodup) (found : tget none s.svc.alm n = some a) :
    let r := almRaw a (svcRead s (fld a.cfg 47 43) (fld a.cfg 31 17))
    let from_ := if r && !a.raw then s.clk else a.since
    Answers (exec .alarmEvaluate s) (fun u => u.img = s.img ∧ ∃ b, tget none u.svc.alm n = some b ∧ b.raw = r ∧ b.cfg = a.cfg ∧ b.shelved = a.shelved ∧
      (r = true → a.active = false → from_ + fld a.cfg 15 8 * 100000000 ≤ s.clk →
        b.active = true ∧ b.trn = (a.trn + 1) % 65536 ∧ b.unack = ackSet a ∧ b.lastAt = devtime s) ∧
      (r = true → a.active = false → s.clk < from_ + fld a.cfg 15 8 * 100000000 → b.active = false ∧ b.trn = a.trn ∧ b.since = from_) ∧
      (r = false → a.active = true → b.active = false ∧ b.trn = (a.trn + 1) % 65536 ∧ b.unack = a.unack ∧ b.lastAt = devtime s) ∧
      (r = a.active → b.active = a.active ∧ b.trn = a.trn ∧ b.unack = a.unack)) := by
  intro r from_
  refine svcEvent_answers (f := fun s => almEvalAll (boundary (svcUnits 3) s)) rfl serves fun t kept => ?_
  rw [boundary_of_no_units units] at kept
  have image : (almEvalAll s).img = s.img := almEvalAll_keeps.samePart (p := .img) (by decide) s
  refine ⟨(kept.2 .img (by decide)).trans image, _, ?_, almEvaluated_cases s.clk (devtime s) _ a⟩
  rw [kept.2 .svc (by decide)]
  exact alm_almEvalAll once found

/-- Shelving ends, and nothing else changes of any alarm (R240). -/
theorem shelveEnd_answers {n : Fin 8192} {a : Alm} {l : Nat} {s : State} (serves : serving s = true)
    (found : tget none s.svc.alm n.val = some a) (shelved : a.shelved = some l) (ended : l ≤ s.clk) :
    Answers (exec (.shelveEnd n) s) (fun u => tget none u.svc.alm n.val = some { a with shelved := none } ∧
      ∀ m, m ≠ n.val → tget none u.svc.alm m = tget none s.svc.alm m) := by
  have ends : (shelveEnd n.val s).svc = (putAlm n.val { a with shelved := none } s).svc := by
    unfold shelveEnd
    simp only [found, shelved, if_pos ended, gln_svc]
  refine svcEvent_answers rfl serves fun t kept => ?_
  rw [kept.2 .svc (by decide), ends]
  exact ⟨(alm_putAlm ..).trans (if_pos rfl), fun m other => (alm_putAlm ..).trans (if_neg other)⟩

/-! ### Trend channels (09 R241) -/

theorem trd_putTrd (n m : Nat) (c : Trd) (s : State) :
    tget none (putTrd n c s).svc.trd m = if m = n then some c else tget none s.svc.trd m := tget_tput ..

/-- Channel c with sample x taken. -/
def trdWith (x : Sample) (c : Trd) : Trd := { c with samples := (x :: c.samples).take (trdSize c), next := (c.next + 1) % 2 ^ 48, gap := none }

theorem trd_trdTake (n : Nat) (c : Trd) (i : SvcIn) (onChange : Bool) (s : State) : tget none (trdTake n c i onChange s).svc.trd n =
    some (trdWith ⟨devtime s, trdValue c i.value, fld i.qual 15 0, b2n onChange + b2n c.gap.isSome * 2⟩ c) := by
  unfold trdTake; extract_lets x t
  have put : tget none t.svc.trd n = some (trdWith x c) := (trd_putTrd ..).trans (if_pos rfl)
  split
  · rw [gln_svc]; exact put
  · exact put

/-- A channel whose word may be read goes on with its input as read. -/
theorem trdStep_of_mayRead {n : Nat} {c : Trd} {s : State} (found : tget none s.svc.trd n = some c)
    (may : mayRead s (fld c.cfg 47 43) (fld c.cfg 32 18) = true) (f : Trd → SvcIn → State → State) :
    ∃ t, Frame [.gln, .silo, .svc] s t ∧ tget none t.svc.trd n = some { c with blind := false } ∧
      trdStep n f s = f { c with blind := false } (svcRead s (fld c.cfg 47 43) (fld c.cfg 32 18)) t := by
  obtain ⟨sees, -, -⟩ := svcRead_of_mayRead may
  unfold trdStep
  split
  next none_ => cases found.symm.trans none_
  next c' here =>
  cases found.symm.trans here
  extract_lets t w i u d v
  have open_ : i.blind = false := sees
  have seen : d = { c with blind := false } := by simp only [d, open_]
  rw [open_, if_neg (by decide), ← seen]
  exact ⟨v, by simp [v, u], (trd_putTrd ..).trans (if_pos rfl), rfl⟩

theorem trendEvents_answer {n : Fin 4096} {c : Trd} {s : State} (units : s.ovl.units = []) (serves : serving s = true)
    (found : tget none s.svc.trd n.val = some c) (may : mayRead s (fld c.cfg 47 43) (fld c.cfg 32 18) = true) :
    let q := fld (plotQual s (fld c.cfg 32 18 / 64)) 15 0
    let v := trdValue c (imgWord s (fld c.cfg 32 18))
    (trdDue n.val s = true → Answers (exec (.trendSample n) s) (fun u => ∃ d, tget none u.svc.trd n.val = some d ∧
      d.samples = (⟨devtime s, v, q, b2n c.gap.isSome * 2⟩ :: c.samples).take (trdSize c) ∧ d.next = (c.next + 1) % 2 ^ 48 ∧ d.gap = none)) ∧
    (trdOnChange n.val s = true → trdDiffers c (imgWord s (fld c.cfg 32 18)) = true →
      Answers (exec (.trendChangeCheck n) s) (fun u => ∃ d, tget none u.svc.trd n.val = some d ∧
        d.samples = (⟨devtime s, v, q, 1 + b2n c.gap.isSome * 2⟩ :: c.samples).take (trdSize c) ∧ d.next = (c.next + 1) % 2 ^ 48)) ∧
    (trdOnChange n.val s = true → trdDiffers c (imgWord s (fld c.cfg 32 18)) = false →
      Answers (exec (.trendChangeCheck n) s) (fun u => ∃ d, tget none u.svc.trd n.val = some d ∧ d.samples = c.samples ∧ d.next = c.next)) := by
  intro q v
  obtain ⟨-, value, qual⟩ := svcRead_of_mayRead may
  refine ⟨fun due => ?_, fun due differs => ?_, fun due same => ?_⟩ <;> refine svcEvent_answers rfl serves fun x kept => ?_ <;>
    rw [atBoundary_of_due units due] at kept <;> rw [kept.2 .svc (by decide)]
  · obtain ⟨t, frame, -, runs⟩ := trdStep_of_mayRead found may fun x i s => trdTake n.val x i false s
    rw [trdSample, runs, trd_trdTake, devtime_of_frame frame, value, qual]
    exact ⟨_, rfl, congrArg (fun k => (Sample.mk _ _ _ k :: c.samples).take _) (Nat.zero_add _), rfl, rfl⟩
  · obtain ⟨t, frame, -, runs⟩ := trdStep_of_mayRead found may fun x i s => if trdDiffers x i.value then trdTake n.val x i true s else s
    have differs' : trdDiffers { c with blind := false } (imgWord s (fld c.cfg 32 18)) = true := differs
    rw [trdCheck, runs, value, if_pos differs', trd_trdTake, devtime_of_frame frame, value, qual]
    exact ⟨_, rfl, rfl, rfl⟩
  · obtain ⟨t, frame, here, runs⟩ := trdStep_of_mayRead found may fun x i s => if trdDiffers x i.value then trdTake n.val x i true s else s
    have same' : trdDiffers { c with blind := false } (imgWord s (fld c.cfg 32 18)) = false := same
    rw [trdCheck, runs, value, same', if_neg (by decide), here]
    exact ⟨_, rfl, rfl, rfl⟩

/-- Settles O32: a programme that finds a new value commits one word; every alarm is evaluated once in its turn; a channel whose word may
be read takes its sample. -/
theorem programmesAlarmsAndTrends : Obligations.ProgrammesAlarmsAndTrends :=
  ⟨fun _ _ _ => wpgEvaluate_answers, fun _ _ _ => alarmEvaluate_answers, fun _ _ _ _ => shelveEnd_answers, fun _ _ _ => trendEvents_answer⟩

end Sys2Proof.Machine
end

section
/-! SUPPORT. Meters and access points: what their events make of them (09 R242 to R246). Obligation O33. -/

namespace Sys2Proof.Machine

/-! ### The 100 ms step of a meter (09 R242, R243) -/

theorem mtr_putMtr (n m : Nat) (x : Mtr) (s : State) :
    tget none (putMtr n x s).svc.mtr m = if m = n then some x else tget none s.svc.mtr m := tget_tput ..

/-- Meter x, whose open record is o, with one step of inputs i and j in the record. -/
def enStepped (i j : SvcIn) (o : EnOpen) (x : Mtr) : Mtr :=
  let o := { o with steps := o.steps + 1 }
  if i.bad || j.bad then { x with rec_ := some { o with flags := o.flags ||| 8 } }
  else if fld x.cfg 41 40 = 2 then
    { x with rec_ := some { o with imp := o.imp + (enPower i.value).toNat, exp := o.exp + (-enPower i.value).toNat } }
  else
    { x with
      ref0 := some i.value, ref1 := some j.value
      rec_ := some { o with
        imp := o.imp + (enCount x.ref0 i.value x.scale).1
        exp := o.exp + (if fld x.cfg 41 40 = 1 then enCount x.ref1 j.value x.scale else (0, false)).1 } }

/-- The second input of a meter: its second counter, where it has one, else the only input. -/
def enSecond (s : State) (x : Mtr) : SvcIn :=
  if fld x.cfg 41 40 = 1 then svcRead s (fld x.cfg 47 43) (fld x.cfg 39 25 + 1) else svcRead s (fld x.cfg 47 43) (fld x.cfg 39 25)

theorem svc_gln_ite (c : Prop) [Decidable c] (code level tenant : Nat) (p1 p2 : Int) (s : State) :
    (if c then gln code level tenant p1 p2 s else s).svc = s.svc := by
  split
  · exact gln_svc ..
  · rfl

/-- Meter m, which was x with the open record o, has had a step with the inputs as s reads them; x has kept note of unreadable words besides. -/
def MtrStepped (s : State) (m : Nat) (x : Mtr) (o : EnOpen) (u : State) : Prop :=
  ∃ now at_, tget none u.svc.mtr m =
    some (enStepped (svcRead s (fld x.cfg 47 43) (fld x.cfg 39 25)) (enSecond s x) o { x with blind := now, blindAt := at_ })

/-- A step of a meter with an open record puts its inputs into it. -/
theorem mtr_enStep {m : Nat} {x : Mtr} {o : EnOpen} {s : State} (found : tget none s.svc.mtr m = some x) (opened : x.rec_ = some o) :
    MtrStepped s m x o (enStep m s) := by
  unfold enStep
  split
  next none_ => cases found.symm.trans none_
  next x' here =>
  cases found.symm.trans here
  extract_lets u
  have same : u = s := if_neg (by simp [opened])
  rw [same]
  split
  next none_ => cases found.symm.trans none_
  next x' here =>
  cases found.symm.trans here
  extract_lets t w i j now at_ v y p q e
  have record : p = o := by simp only [p, y, opened, Option.getD_some]
  have written (z : Mtr) : tget none (putMtr m z v).svc.mtr m = some z := (mtr_putMtr ..).trans (if_pos rfl)
  refine ⟨now, at_, ?_⟩
  change _ = some (enStepped i j o y)
  simp only [q, record, enStepped]
  split
  · exact written _
  · split
    · exact written _
    · rw [svc_gln_ite, svc_gln_ite]
      exact written _

/-- A step of another meter leaves this one. -/
theorem mtr_enStep_other {m n : Nat} (other : m ≠ n) (s : State) : tget none (enStep m s).svc.mtr n = tget none s.svc.mtr n := by
  have opens : tget none (enOpen m 0 s).svc.mtr n = tget none s.svc.mtr n := by
    unfold enOpen
    split
    · rfl
    · exact tget_tput_ne _ _ _ _ _ other.symm
  unfold enStep
  split
  · rfl
  extract_lets u
  have before : tget none u.svc.mtr n = tget none s.svc.mtr n := by
    unfold u; split
    · exact opens
    · rfl
  rw [← before]
  split
  · rfl
  extract_lets t w i j now at_ v y p q e
  have written (z : Mtr) : tget none (putMtr m z v).svc.mtr n = tget none u.svc.mtr n := by
    rw [mtr_putMtr, if_neg other.symm, svcNote_svc]
  split
  · exact written _
  · split
    · exact written _
    · dsimp only
      rw [svc_gln_ite, svc_gln_ite]
      exact written _

/-- What a step makes of a meter and of its record, case by case (R242, R243). -/
theorem enStepped_cases {i j : SvcIn} {o : EnOpen} {x : Mtr} (second : fld x.cfg 41 40 ≠ 1 → j = i) :
    ∃ r, (enStepped i j o x).rec_ = some r ∧ r.num = o.num ∧ r.start = o.start ∧ r.steps = o.steps + 1 ∧
      (i.bad = true → r.flags = o.flags ||| 8 ∧ r.imp = o.imp ∧ r.exp = o.exp) ∧
      (i.bad = false → fld x.cfg 41 40 = 2 → r.imp = o.imp + (enPower i.value).toNat ∧ r.exp = o.exp + (-(enPower i.value)).toNat) ∧
      (i.bad = false → fld x.cfg 41 40 = 0 → (enStepped i j o x).ref0 = some i.value ∧
        r.imp = o.imp + (enCount x.ref0 i.value x.scale).1 ∧ r.exp = o.exp) := by
  unfold enStepped; extract_lets p
  have single (good : i.bad = false) (kind : fld x.cfg 41 40 ≠ 1) : (i.bad || j.bad) = false := by rw [second kind, good]; rfl
  split
  next bad =>
    refine ⟨_, rfl, rfl, rfl, rfl, fun _ => ⟨rfl, rfl, rfl⟩, fun good kind => ?_, fun good kind => ?_⟩ <;>
      exact absurd bad (by rw [single good (by omega)]; decide)
  next fine =>
  have good : i.bad ≠ true := fun bad => fine (by rw [bad]; rfl)
  split
  next power => exact ⟨_, rfl, rfl, rfl, rfl, fun bad => absurd bad good, fun _ _ => ⟨rfl, rfl⟩, fun _ kind => by omega⟩
  next counts =>
    refine ⟨_, rfl, rfl, rfl, rfl, fun bad => absurd bad good, fun _ kind => absurd kind counts, fun _ kind => ⟨rfl, rfl, ?_⟩⟩
    rw [if_neg (by omega)]; rfl

/-- Every meter has its step once, under the system that its record counts for. -/
theorem mtr_enSample {m : Nat} {x : Mtr} {o : EnOpen} {s : State} (once : (s.svc.mtr.map (·.1)).Nodup)
    (found : tget none s.svc.mtr m = some x) (opened : x.rec_ = some o) :
    MtrStepped s m x o (enSample s.svc.sysCode s) := by
  have steps : enSample s.svc.sysCode s = (s.svc.mtr.map (·.1)).foldl (fun s m => enStep m s) s := by rw [enSample, if_pos rfl]
  have listed : m ∈ s.svc.mtr.map (·.1) := List.mem_map_of_mem (mem_of_tget found (Option.some_ne_none x))
  have each (u : State) (k : Nat) (kept : Frame [.gln, .silo, .svc] s u) : Frame [.gln, .silo, .svc] s (enStep k u) := by simp [kept]
  rw [steps]
  refine foldl_once (f := fun s m => enStep m s) (before := fun u => Frame [.gln, .silo, .svc] s u ∧ tget none u.svc.mtr m = some x)
    (after := MtrStepped s m x o) once listed ?_ ?_ ?_ ⟨.refl _ s, found⟩
  · exact fun u k _ other ⟨kept, here⟩ => ⟨each u k kept, (mtr_enStep_other other u).trans here⟩
  · rintro u ⟨kept, here⟩
    obtain ⟨now, at_, stepped⟩ := mtr_enStep here opened
    have second : enSecond u x = enSecond s x := by simp only [enSecond, svcRead_of_frame kept]
    rw [svcRead_of_frame kept, second] at stepped
    exact ⟨now, at_, stepped⟩
  · exact fun u k _ other ⟨now, at_, stepped⟩ => ⟨now, at_, (mtr_enStep_other other u).trans stepped⟩

theorem meterSample_answers {m : Nat} {x : Mtr} {o : EnOpen} {s : State} (units : s.ovl.units = []) (serves : serving s = true)
    (once : (s.svc.mtr.map (·.1)).Nodup) (found : tget none s.svc.mtr m = some x) (opened : x.rec_ = some o)
    (system : setSystem s s.ovl.set = s.svc.sysCode) :
    let i := svcRead s (fld x.cfg 47 43) (fld x.cfg 39 25)
    Answers (exec .meterSample s) (fun u => ∃ y, tget none u.svc.mtr m = some y ∧ ∃ r, y.rec_ = some r ∧ r.num = o.num ∧ r.start = o.start ∧
      r.steps = o.steps + 1 ∧
      (i.bad = true → r.flags = o.flags ||| 8 ∧ r.imp = o.imp ∧ r.exp = o.exp) ∧
      (i.bad = false → fld x.cfg 41 40 = 2 → r.imp = o.imp + (enPower i.value).toNat ∧ r.exp = o.exp + (-(enPower i.value)).toNat) ∧
      (i.bad = false → fld x.cfg 41 40 = 0 → y.ref0 = some i.value ∧ r.imp = o.imp + (enCount x.ref0 i.value x.scale).1 ∧ r.exp = o.exp)) := by
  intro i
  obtain ⟨q, runs⟩ : ∃ q, exec .meterSample s = svcEvent (fun s => enSample (setSystem s s.ovl.set) (boundary q s)) s := ⟨_, rfl⟩
  refine svcEvent_answers runs serves fun t kept => ?_
  rw [boundary_of_no_units units, system] at kept
  rw [kept.2 .svc (by decide)]
  obtain ⟨now, at_, stepped⟩ := mtr_enSample once found opened
  exact ⟨_, stepped, enStepped_cases fun kind => if_neg kind⟩

/-! ### Records that close and open (09 R244, R245) -/

/-- The record that closes as o, with its energy rounded. -/
def enClosed (m : Nat) (o : EnOpen) : EnRec :=
  ⟨o.num, o.start, o.steps, m, o.sys, o.flags, enRound o.imp % 2 ^ 48, enRound o.exp % 2 ^ 48⟩

/-- A record that closes goes to the front of the ring, and its energy into the registers of its meter and system. -/
theorem enStore_stores (m : Nat) (o : EnOpen) (tenant : Nat) (s : State) :
    (enStore m o 0 tenant s).silo.enRing = (enClosed m o :: s.silo.enRing).take 6144 ∧
    (enStore m o 0 tenant s).silo.enTotal = tput (0, 0) (m * 16 + o.sys) ((tget (0, 0) s.silo.enTotal (m * 16 + o.sys)).1 + o.imp,
      (tget (0, 0) s.silo.enTotal (m * 16 + o.sys)).2 + o.exp) s.silo.enTotal ∧
    (enStore m o 0 tenant s).silo.enNext = s.silo.enNext := by
  have flags : o.flags ||| 0 = o.flags := Nat.or_zero _
  unfold enStore; extract_lets f tot r _ t
  have closed : r = enClosed m o := by simp only [r, f, flags]; rfl
  have same : (if f = 0 then t else gln 0x0828 3 tenant (m * 256 + o.sys : Nat) f t).silo = t.silo := by
    split
    · rfl
    · exact gln_silo ..
  rw [same, ← closed]
  exact ⟨rfl, rfl, rfl⟩

/-- The record that opens for a meter now. -/
def enOpened (s : State) : EnOpen :=
  { num := s.silo.enNext, start := wallSec s, sys := s.svc.sysCode, flags := if s.tb.wallOk then 0 else 4 }

theorem enOpen_of_found {m : Nat} {x : Mtr} {s : State} (found : tget none s.svc.mtr m = some x) :
    tget none (enOpen m 0 s).svc.mtr m = some { x with rec_ := some (enOpened s) } ∧ (enOpen m 0 s).silo.enRing = s.silo.enRing ∧
    (enOpen m 0 s).silo.enTotal = s.silo.enTotal ∧ (enOpen m 0 s).silo.enNext = (s.silo.enNext + 1) % 2 ^ 32 := by
  have opened : (EnOpen.mk s.silo.enNext (wallSec s) 0 s.svc.sysCode (0 ||| (if s.tb.wallOk then 0 else 4)) 0 0) = enOpened s := by
    rw [Nat.zero_or]; rfl
  unfold enOpen
  split
  next none_ => cases found.symm.trans none_
  next x' here =>
  cases found.symm.trans here
  exact ⟨(tget_tput_same ..).trans (congrArg (fun r => some { x with rec_ := some r }) opened), rfl, rfl, rfl⟩

theorem energyIntervalClose_answers {m : Fin 64} {x : Mtr} {o : EnOpen} {s : State} (units : s.ovl.units = []) (serves : serving s = true)
    (found : tget none s.svc.mtr m.val = some x) (opened : x.rec_ = some o) (due : enDue m.val s = true) :
    Answers (exec (.energyIntervalClose m) s) (fun u =>
      u.silo.enRing = (⟨o.num, o.start, o.steps, m.val, o.sys, o.flags, enRound o.imp % 2 ^ 48, enRound o.exp % 2 ^ 48⟩ :: s.silo.enRing).take 6144 ∧
      (∃ y, tget none u.svc.mtr m.val = some y ∧ ∃ r, y.rec_ = some r ∧ r.num = s.silo.enNext ∧ r.start = wallSec s ∧ r.imp = 0 ∧ r.exp = 0 ∧
        r.steps = 0) ∧ u.silo.enNext = (s.silo.enNext + 1) % 2 ^ 32 ∧
      tget (0, 0) u.silo.enTotal (m.val * 16 + o.sys) = ((tget (0, 0) s.silo.enTotal (m.val * 16 + o.sys)).1 + o.imp,
        (tget (0, 0) s.silo.enTotal (m.val * 16 + o.sys)).2 + o.exp)) := by
  refine svcEvent_answers rfl serves fun t kept => ?_
  have turns : enTurn m.val 0 0 s = enOpen m.val 0 (enStore m.val o 0 (fld x.cfg 47 43) s) := by
    unfold enTurn
    simp only [found, opened]
  rw [atBoundary_of_due units due, turns] at kept
  have stored : Frame [.gln, .silo] s (enStore m.val o 0 (fld x.cfg 47 43) s) := by simp
  obtain ⟨ring, total, next⟩ := enStore_stores m.val o (fld x.cfg 47 43) s
  have found' : tget none (enStore m.val o 0 (fld x.cfg 47 43) s).svc.mtr m.val = some x := by
    rw [stored.2 .svc (by decide), found]
  have wall : wallSec (enStore m.val o 0 (fld x.cfg 47 43) s) = wallSec s := wallSec_of_frame (by simp)
  obtain ⟨meter, ring', total', next'⟩ := enOpen_of_found found'
  rw [kept.2 .silo (by decide), kept.2 .svc (by decide), ring', total', next', ring, total, next]
  exact ⟨rfl, ⟨_, meter, _, rfl, next, wall, rfl, rfl, rfl⟩, rfl, tget_tput_same ..⟩

/-- The accumulators of every meter are saved (R245). -/
theorem energyAccumSave_answers {m : Nat} {x : Mtr} {s : State} (serves : serving s = true) (once : (s.svc.mtr.map (·.1)).Nodup)
    (found : tget none s.svc.mtr m = some x) : Answers (exec .energyAccumSave s) (fun u => tget none u.silo.enSaved m = x.rec_ ∧ u.svc = s.svc) := by
  refine svcEvent_answers rfl serves fun t kept => ?_
  rw [kept.2 .silo (by decide), kept.2 .svc (by decide)]
  refine ⟨?_, rfl⟩
  have listed := mem_of_tget found (Option.some_ne_none x)
  unfold enSave; extract_lets put
  refine foldl_once (f := put) (before := fun _ => True) (after := fun t => tget none t m = x.rec_) once.of_map listed (fun _ _ _ _ _ => trivial)
    (fun t _ => tget_tput_same ..) ?_ trivial
  rintro t ⟨k, y⟩ mem other saved
  have apart : m ≠ k := fun same => other (List.inj_on_of_nodup_map once mem listed same.symm)
  cases y with
  | none => exact saved
  | some y => exact (tget_tput_ne _ _ _ _ _ apart).trans saved

/-! ### Access points (09 R246) -/

theorem acc_putAcc (n m : Nat) (a : AccPt) (s : State) :
    tget none (putAcc n a s).svc.acc m = if m = n then some a else tget none s.svc.acc m := tget_tput ..

/-- Access point a after a decision on what its input presents. -/
def accDecided (i : SvcIn) (a : AccPt) : AccPt := { a with blind := false, pres := some (fld i.value 7 0) }

/-- The checks of a decision read lists, programmes and time, which its notes leave. -/
theorem accReason_noted (n kind num owner w t : Nat) (was now : Bool) (a b : AccPt) (i : SvcIn) (s : State) :
    accReason (putAcc n b (svcNote kind num owner w was now s)) t { a with blind := i.blind } i = accReason s t a i := by
  rw [svcNote_only]; rfl

theorem running_of_granted {s : State} {t : Nat} {a : AccPt} {i : SvcIn} (granted : accReason s t a i = 0) : running s t = true := by
  by_contra stopped
  rw [accReason, if_pos (by simpa using stopped)] at granted
  cases granted

/-- A new presentation is decided: the checks give the reason, and the pulse that belongs to it begins. -/
theorem accDecide_of_new {n : Nat} {a : AccPt} {s : State} (found : tget none s.svc.acc n = some a) :
    let t := fld a.cfg 47 43
    let i := svcRead s t (fld a.cfg 37 23)
    i.blind = false → a.pres ≠ some (fld i.value 7 0) →
    ∃ z, Frame [.gln, .silo, .svc] s z ∧ tget none z.svc.acc n = some (accDecided i a) ∧
      accDecide n s = gln 0x0830 3 t (n * 256 + accReason s t a i : Nat) (fld i.value 47 16)
        (if accReason s t a i = 0 then accPulse n false (accDecided i a) z
          else if bit a.tim 25 then accPulse n true (accDecided i a) z else z) := by
  intro t i sees new
  unfold accDecide
  split
  next none_ => cases found.symm.trans none_
  next a' here =>
  cases found.symm.trans here
  extract_lets word j u b v pres r c z y
  have reason : r = accReason s t a i := accReason_noted ..
  have decided : c = accDecided i a := by simp only [c, b, accDecided, ← sees]; rfl
  rw [if_neg (by simpa using ⟨sees, new⟩), reason]
  refine ⟨z, by simp [z, v, u], (acc_putAcc ..).trans ?_, ?_⟩
  · rw [if_pos rfl, decided]
  · rw [← reason, ← decided]

/-- The pulse of a grant has begun when its lane has been written. -/
theorem accPulse_written {n : Nat} {a : AccPt} {s u : State}
    (written : svcPut s (fld a.cfg 47 43) (fld a.cfg 22 8) (some (fld a.cfg 7 2)) 1#48 = .written u) :
    accPulse n false a s = putAcc n { a with grant := some (s.clk + fld a.tim 47 32 * 1000000), noted := false } u := by
  unfold accPulse; extract_lets t w lane stop
  have same : svcPut s t w (some lane) 1#48 = .written u := written
  rw [same]; rfl

theorem accessDecision_answers {n : Fin 256} {a : AccPt} {s : State} (units : s.ovl.units = []) (serves : serving s = true)
    (found : tget none s.svc.acc n.val = some a) :
    let t := fld a.cfg 47 43
    let i := svcRead s t (fld a.cfg 37 23)
    let w := fld a.cfg 22 8
    i.blind = false → a.pres ≠ some (fld i.value 7 0) →
    (accReason s t a i = 0 → inPlot s 0 t w = true → tget none s.task.force w = none →
      Answers (exec (.accessDecision n) s) (fun u => (∃ b, tget none u.svc.acc n.val = some b ∧ b.pres = some (fld i.value 7 0) ∧
          b.grant = some (s.clk + fld a.tim 47 32 * 1000000)) ∧
        imgWord u w = setBit (imgWord s w) (fld a.cfg 7 2) true ∧ ∀ x, x ≠ w → imgWord u x = imgWord s x)) ∧
    (accReason s t a i ≠ 0 → bit a.tim 25 = false →
      Answers (exec (.accessDecision n) s) (fun u => (∃ b, tget none u.svc.acc n.val = some b ∧ b.pres = some (fld i.value 7 0) ∧
          b.grant = a.grant) ∧ u.img.word = s.img.word)) := by
  intro t i w sees new
  obtain ⟨q, runs⟩ : ∃ q, exec (.accessDecision n) s = svcEvent (fun s => accDecide n.val (boundary q s)) s := ⟨_, rfl⟩
  obtain ⟨z, frame, here, decides⟩ := accDecide_of_new found sees new
  refine ⟨fun granted own free => ?_, fun refused silent => ?_⟩ <;> refine svcEvent_answers runs serves fun x kept => ?_ <;>
    rw [boundary_of_no_units units, decides] at kept
  · have runs : running z t = true := (running_of_frame frame t).trans (running_of_granted granted)
    obtain ⟨u, written, commits⟩ := svcPut_commits runs ((inPlot_of_frame frame ..).trans own) (by rw [frame.2 .task (by decide), free])
      (some (fld a.cfg 7 2)) 1#48
    have begins : accPulse n.val false (accDecided i a) z =
        putAcc n.val { accDecided i a with grant := some (z.clk + fld a.tim 47 32 * 1000000), noted := false } u := accPulse_written written
    rw [if_pos granted, begins] at kept
    obtain ⟨written', others⟩ := commits.imgWord
    have image (k : Nat) : imgWord x k = imgWord u k := by rw [imgWord, kept.2 .img (by decide), gln_img, imgWord]; rfl
    have before (k : Nat) : imgWord z k = imgWord s k := by rw [imgWord, frame.2 .img (by decide), imgWord]
    rw [kept.2 .svc (by decide), gln_svc, image, written', frame.2 .clk (by decide), before]
    exact ⟨⟨_, (acc_putAcc ..).trans (if_pos rfl), rfl, rfl⟩, rfl, fun k other => (image k).trans ((others k other).trans (before k))⟩
  · rw [if_neg refused, silent, if_neg (by decide)] at kept
    rw [kept.2 .svc (by decide), kept.2 .img (by decide), gln_svc, gln_img, here, frame.2 .img (by decide)]
    exact ⟨⟨_, rfl, rfl, rfl⟩, rfl⟩

/-- Access point a with its grant pulse, or its deny pulse, at an end. -/
def accPulseOver (deny : Bool) (a : AccPt) : AccPt := if deny then { a with deny := none } else { a with grant := none }

theorem accessPulseEnd_answers {n : Fin 256} {d : Bool} {a : AccPt} {l : Nat} {s : State} (serves : serving s = true)
    (found : tget none s.svc.acc n.val = some a) (pulse : (if d then a.deny else a.grant) = some l) (ended : l ≤ s.clk) :
    let t := fld a.cfg 47 43
    let w := fld a.cfg 22 8
    running s t = true → inPlot s 0 t w = true → tget none s.task.force w = none →
    Answers (exec (.accessPulseEnd n d) s) (fun u =>
      tget none u.svc.acc n.val = some (if d then { a with deny := none } else { a with grant := none }) ∧
      imgWord u w = setBit (imgWord s w) (if d then fld a.tim 31 26 else fld a.cfg 7 2) false ∧ ∀ x, x ≠ w → imgWord u x = imgWord s x) := by
  intro t w runs own free
  obtain ⟨u, written, commits⟩ := svcPut_commits runs own free (some (if d then fld a.tim 31 26 else fld a.cfg 7 2)) 0#48
  have owned : (accPulseOver d a).cfg = a.cfg := by cases d <;> rfl
  have put : svcPut s (fld (accPulseOver d a).cfg 47 43) (fld (accPulseOver d a).cfg 22 8)
      (some (if d then fld a.tim 31 26 else fld a.cfg 7 2)) 0#48 = .written u := by rw [owned]; exact written
  obtain ⟨f, row, cleared⟩ : ∃ f, exec (.accessPulseEnd n d) s = svcEvent f s ∧ f s = putAcc n.val (accPulseOver d a) u := by
    have row : exec (.accessPulseEnd n d) s = execAccessPulseEnd n d s := rfl
    unfold execAccessPulseEnd at row
    refine ⟨_, row, ?_⟩
    simp only [found, pulse, if_neg (Nat.not_lt.mpr ended)]
    unfold accPulseOver at put ⊢
    rw [put]
  refine svcEvent_answers row serves fun x kept => ?_
  rw [cleared] at kept
  obtain ⟨here, others⟩ := commits.imgWord
  have image (k : Nat) : imgWord x k = imgWord u k := by rw [imgWord, kept.2 .img (by decide), imgWord]; rfl
  rw [kept.2 .svc (by decide), image, here]
  exact ⟨(acc_putAcc ..).trans (if_pos rfl), rfl, fun k other => (image k).trans (others k other)⟩

/-- Settles O33: every meter has its step once in its turn, a record that is due moves into the ring and a new one opens, and access points
decide by their checks and end their pulses with one commit. -/
theorem metersAndAccessPoints : Obligations.MetersAndAccessPoints :=
  ⟨fun _ _ _ _ => meterSample_answers, fun _ _ _ _ => energyIntervalClose_answers, fun _ _ _ => energyAccumSave_answers,
    fun _ _ _ => accessDecision_answers, fun _ _ _ _ _ => accessPulseEnd_answers⟩

end Sys2Proof.Machine
end

section
/-! SUPPORT. The commands that list, read and operate service objects (09 R236 to R247). Obligation O35. -/

namespace Sys2Proof.Machine

/-! ### Checks and fields of messages -/

theorem lenIs_ok {p : Bytes} {n : Nat} (length : p.length = n) : lenIs p n = .ok () := by
  rw [lenIs, length, beq_self_eq_true]; rfl

theorem stChg_ok {s : State} (changes : Changes s) : stChg s true = .ok () := by
  obtain ⟨idle, accepts⟩ := changes
  simp [stChg, idle, accepts]

/-- A field that follows a first field. -/
theorem be_second {n v m w : Nat} (fits : w < 256 ^ m) (p : Bytes) : be (toBe n v ++ (toBe m w ++ p)) n m = w := by
  rw [be_append_of_le (by simp), length_toBe, Nat.sub_self]
  exact be_toBe_append fits p

/-! ### Objects listed (09 R247) -/

theorem mbSvcList_gives {ch : Fin 16} {a : Nat} {k : Byte} {s : State} (least : 1 ≤ k.toNat) (most : k.toNat ≤ 7) (fits : a < 2 ^ 16) :
    let os := ((svcObjects s k.toNat).filter (fun o => decide (a ≤ o.1) &&
      (tenantOf s ch == 0 || o.2.1 == tenantOf s ch || o.2.2.2.testBit (tenantOf s ch)))).take 256
    MbGives .mbSvcList ch (k :: toBe 2 a) s (· = toBe 2 os.length ++ os.flatMap (fun o => toBe 2 o.1 ++ toBe 1 o.2.1 ++ wB o.2.2.1))
      (fun t => t.svc = s.svc) := by
  intro os
  have kind : u8 (k :: toBe 2 a) 0 = k.toNat := rfl
  have first : be (k :: toBe 2 a) 1 2 = a := (be_append_right [k] (toBe 2 a) 0 2).trans (be_toBe fits)
  refine mbGives_of_reply (f := mbSvcList) (s' := { s with free := s.free + 1 }) (fun _ => rfl) ?_ rfl fun t kept _ => kept.2 .svc (by decide)
  unfold mbSvcList
  simp only [kind, first]
  exact ok_then (lenIs_ok (by simp)) (need_then (by simp [least, most]) rfl)

/-! ### Local time (09 R236) -/

theorem sgn_umod {o : Int} (low : -32768 ≤ o) (high : o < 32768) : sgn 16 (umod 16 o) = o := by
  have value : umod 16 o % 2 ^ 16 = (o % 65536).toNat := by simp only [umod]; omega
  unfold sgn; extract_lets u
  have here : u = (o % 65536).toNat := value
  split <;> omega

theorem ofs_wpgEval (w : Nat) (s : State) : (wpgEval w s).svc.ofs = s.svc.ofs := by
  unfold wpgEval
  split
  · rfl
  · dsimp only
    split
    · rfl
    · split
      next u written =>
        have same : u.svc = s.svc := (svcPut_written written).2 .svc (by decide)
        have offsets : u.svc.ofs = s.svc.ofs := congrArg Svc.ofs same
        exact offsets
      · split
        · rfl
        · rw [gln_svc]
      · rfl

theorem ofs_wpgJump (q : Nat → Bool) (ns : Int) (s : State) : (wpgJump q ns s).svc.ofs = s.svc.ofs := by
  unfold wpgJump
  split
  · rfl
  · refine foldl_reads (·.svc.ofs) (fun s e => ?_) _ s
    split
    · dsimp only
      split
      · split
        · rw [gln_svc, ofs_wpgEval]
        · exact ofs_wpgEval ..
      · rfl
    · rfl

theorem ofs_setOfs (n : Nat) (o : Int) (s : State) : (setOfs n o s).svc.ofs = tput 0 n o s.svc.ofs := by
  unfold setOfs; extract_lets d t
  split
  · rfl
  · exact ofs_wpgJump ..

theorem mbLocalSet_done {ch : Fin 16} {n : Byte} {o : Int} {s : State} (t0 : tenantOf s ch = 0) (changes : Changes s) (hn : n.toNat < 32)
    (low : -720 ≤ o) (high : o ≤ 840) : MbDone .mbLocalSet ch (n :: toBe 2 (umod 16 o)) s (fun t => tget 0 t.svc.ofs n.toNat = o ∧
      ∀ m, m ≠ n.toNat → tget 0 t.svc.ofs m = tget 0 s.svc.ofs m) := by
  have tenant : u8 (n :: toBe 2 (umod 16 o)) 0 = n.toNat := rfl
  have offset : sgn 16 (be (n :: toBe 2 (umod 16 o)) 1 2) = o := by
    rw [show be (n :: toBe 2 (umod 16 o)) 1 2 = umod 16 o from
      (be_append_right [n] (toBe 2 (umod 16 o)) 0 2).trans (be_toBe (umod_lt 16 o)), sgn_umod (by omega) (by omega)]
  have runs : mbLocalSet (tenantOf s ch) ch.val (n :: toBe 2 (umod 16 o)) s = done (setOfs n.toNat o s) := by
    unfold mbLocalSet
    simp only [tenant, offset]
    exact need_then (by simp [t0]) (ok_then (lenIs_ok (by simp)) (ok_then (stChg_ok changes) (need_then (by simp [hn, low, high]) rfl)))
  refine mbGives_of_reply (f := mbLocalSet) (fun _ => rfl) runs rfl fun t kept _ => ?_
  rw [kept.2 .svc (by decide), ofs_setOfs]
  exact ⟨tget_tput_same .., fun m other => tget_tput_ne _ _ _ _ _ other⟩

/-! ### Programmes and alarms read (09 R247) -/

theorem mbWpgGet_reads {ch : Fin 16} {n : Nat} {g : Wpg} {s : State} (notCarried : NotCarried s ch) (hn : n < 512)
    (found : tget none s.svc.wpg n = some g) (may : objTenant g.cfg = tenantOf s ch ∨ g.read.testBit (tenantOf s ch) = true) :
    MbReads .mbWpgGet ch (toBe 2 n) s (wB g.cfg ++ wB g.value ++ toBe 6 g.lastAt) := by
  refine mbReads_of_reply (f := mbWpgGet) (fun _ => rfl) notCarried (need_then rfl ?_)
  simp only [be_toBe (n := 2) (v := n) (by omega), found]
  exact need_then (by simpa using may) (ok_then (lenIs_ok (by simp)) rfl)

theorem mbAlmList_reads {ch : Fin 16} {first : Nat} {k : Byte} {s : State} (notCarried : NotCarried s ch) (fits : first < 2 ^ 16) (hk : k.toNat ≤ 1) :
    let t := tenantOf s ch
    let as := ((s.svc.alm.filterMap (fun e => e.2.map (fun a => (e.1, a)))).filter (fun e => decide (first ≤ e.1) &&
      (objTenant e.2.cfg == t || e.2.read.testBit t) && (k == 0#8 || e.2.unack.testBit t))).take 200
    MbReads .mbAlmList ch (toBe 2 first ++ [k]) s (toBe 2 as.length ++ as.flatMap (fun e => toBe 2 e.1 ++ bB e.2.active ++ toBe 2 e.2.trn ++
      toBe 4 e.2.unack ++ toBe 1 (fld e.2.cfg 39 38) ++ toBe 4 (shelvedFor s e.2) ++ toBe 6 e.2.lastAt)) := by
  intro t as
  have from_ : be (toBe 2 first ++ [k]) 0 2 = first := be_toBe_append fits _
  have kind : u8 (toBe 2 first ++ [k]) 2 = k.toNat := rfl
  have all : (k.toNat == 0) = (k == 0#8) := by
    rw [Bool.eq_iff_iff, beq_iff_eq, beq_iff_eq, ← BitVec.toNat_inj]; rfl
  refine mbReads_of_reply (f := mbAlmList) (fun _ => rfl) notCarried ?_
  unfold mbAlmList
  simp only [from_, kind, all]
  exact ok_then (lenIs_ok (by simp)) (need_then (by simpa using hk) rfl)

/-! ### Alarms acknowledged and shelved (09 R238, R240) -/

/-- A bit that is set is cleared, alone, when its power is taken away. -/
theorem testBit_sub_two_pow {a t : Nat} (set : a.testBit t = true) (k : Nat) : (a - 2 ^ t).testBit k = (a.testBit k && decide (k ≠ t)) := by
  induction t generalizing a k with
  | zero =>
    have odd : a % 2 = 1 := by simpa using set
    cases k with
    | zero => simp; omega
    | succ k => rw [Nat.testBit_succ, Nat.testBit_succ, show (a - 2 ^ 0) / 2 = a / 2 by omega]; simp
  | succ t ih =>
    have large : 2 ^ (t + 1) ≤ a := Nat.ge_two_pow_of_testBit set
    rw [Nat.pow_succ] at large ⊢
    cases k with
    | zero => simp; omega
    | succ k =>
      rw [Nat.testBit_succ, show (a - 2 ^ t * 2) / 2 = a / 2 - 2 ^ t by omega, ih ((Nat.testBit_succ ..).symm.trans set), Nat.testBit_succ]
      simp

/-- Alarm a acknowledged by tenant t. -/
def almAcked (t : Nat) (a : Alm) : Alm := { a with unack := if a.unack.testBit t then a.unack - 2 ^ t else a.unack }

theorem testBit_almAcked (t : Nat) (a : Alm) (k : Nat) : (almAcked t a).unack.testBit k = (a.unack.testBit k && decide (k ≠ t)) := by
  unfold almAcked; dsimp only
  split
  next set => exact testBit_sub_two_pow set k
  next clear =>
    by_cases same : k = t
    · subst same; simpa using clear
    · simp [same]

/-- One acknowledgement by a tenant that may: of the present transaction, or of one that is past. -/
theorem almAck_of_set {t n trn : Nat} {a : Alm} {s : State} (found : tget none s.svc.alm n = some a) (may : (ackSet a).testBit t = true) :
    almAck t n trn s = if a.trn = trn then (0, gln 0x0811 3 t n trn (putAlm n (almAcked t a) s)) else (0x0801, s) := by
  unfold almAck
  rw [found]; dsimp only
  rw [may, if_neg (by decide), ite_not]; rfl

theorem mbAlmAck_runs {ch : Fin 16} {n trn : Nat} {s : State} (changes : Changes s) (hn : n < 8192) (ht : trn < 65536) :
    mbAlmAck (tenantOf s ch) ch.val ([1#8] ++ toBe 2 n ++ toBe 2 trn) s =
      reply (toBe 2 (almAck (tenantOf s ch) n trn s).1) (almAck (tenantOf s ch) n trn s).2 := by
  have count : u8 ([1#8] ++ toBe 2 n ++ toBe 2 trn) 0 = 1 := rfl
  have entry : items ([1#8] ++ toBe 2 n ++ toBe 2 trn) 1 4 1 = [toBe 2 n ++ toBe 2 trn] := by simp [items]
  have alarm : be (toBe 2 n ++ toBe 2 trn) 0 2 = n := be_toBe_append (by omega) _
  have transaction : be (toBe 2 n ++ toBe 2 trn) 2 2 = trn := (be_append_right (toBe 2 n) _ 0 2).trans (be_toBe (by omega))
  unfold mbAlmAck
  simp only [count, entry, List.foldl_cons, List.foldl_nil, alarm, transaction]
  refine need_then rfl (ok_then (lenIs_ok (by simp)) (ok_then (stChg_ok changes) (need_then rfl ?_)))
  simp

theorem mbAlmAck_gives {ch : Fin 16} {n trn : Nat} {a : Alm} {s : State} (changes : Changes s) (hn : n < 8192) (ht : trn < 65536)
    (found : tget none s.svc.alm n = some a) (may : (ackSet a).testBit (tenantOf s ch) = true) :
    (a.trn = trn → MbGives .mbAlmAck ch ([1#8] ++ toBe 2 n ++ toBe 2 trn) s (· = toBe 2 0) (fun t => ∃ b, tget none t.svc.alm n = some b ∧
      b.unack.testBit (tenantOf s ch) = false ∧ b.active = a.active ∧ ∀ k, k ≠ tenantOf s ch → b.unack.testBit k = a.unack.testBit k)) ∧
    (a.trn ≠ trn → MbGives .mbAlmAck ch ([1#8] ++ toBe 2 n ++ toBe 2 trn) s (· = toBe 2 0x0801) (fun t => t.svc = s.svc)) := by
  have runs := mbAlmAck_runs (ch := ch) changes hn ht
  rw [almAck_of_set found may] at runs
  refine ⟨fun present => ?_, fun past => ?_⟩
  · rw [if_pos present] at runs
    refine mbGives_of_reply (f := mbAlmAck) (fun _ => rfl) runs rfl fun t kept _ => ⟨almAcked (tenantOf s ch) a, ?_, ?_, rfl, fun k other => ?_⟩
    · rw [kept.2 .svc (by decide), gln_svc, alm_putAlm, if_pos rfl]
    · simp [testBit_almAcked]
    · simp [testBit_almAcked, other]
  · rw [if_neg past] at runs
    exact mbGives_of_reply (f := mbAlmAck) (fun _ => rfl) runs rfl fun t kept _ => kept.2 .svc (by decide)

theorem mbAlmShelve_done {ch : Fin 16} {n d : Nat} {a : Alm} {s : State} (changes : Changes s) (hn : n < 8192) (hd : d ≤ 86400)
    (found : tget none s.svc.alm n = some a) (own : objTenant a.cfg = tenantOf s ch) :
    MbDone .mbAlmShelve ch (toBe 2 n ++ toBe 4 d) s (fun t =>
      tget none t.svc.alm n = some { a with shelved := if d = 0 then none else some (s.clk + d * 1000000000) }) := by
  have alarm : be (toBe 2 n ++ toBe 4 d) 0 2 = n := be_toBe_append (by omega) _
  have time : be (toBe 2 n ++ toBe 4 d) 2 4 = d := (be_append_right (toBe 2 n) _ 0 4).trans (be_toBe (by omega))
  obtain ⟨u, runs, shelves⟩ : ∃ u, mbAlmShelve (tenantOf s ch) ch.val (toBe 2 n ++ toBe 4 d) s = done u ∧
      tget none u.svc.alm n = some { a with shelved := if d = 0 then none else some (s.clk + d * 1000000000) } := by
    unfold mbAlmShelve
    simp only [alarm, time, found]
    have ownership : (objTenant a.cfg == tenantOf s ch) = true := by rw [own, beq_self_eq_true]
    have length : lenIs (toBe 2 n ++ toBe 4 d) 6 = .ok () := lenIs_ok (by simp)
    rcases Nat.eq_zero_or_pos d with rfl | positive
    · refine ⟨_, need_then rfl (need_then ownership (ok_then length (ok_then (stChg_ok changes) (need_then rfl rfl)))), ?_⟩
      split
      · rw [gln_svc, alm_putAlm, if_pos rfl, if_pos rfl]
      next never =>
        have none_ : a.shelved = none := by simpa using never
        rw [found, if_pos rfl, ← none_]
    · refine ⟨_, need_then rfl (need_then ownership (ok_then length (ok_then (stChg_ok changes) (need_then (decide_eq_true hd)
        (if_neg (by omega)))))), ?_⟩
      rw [gln_svc, alm_putAlm, if_pos rfl, if_neg (by omega)]
  refine mbGives_of_reply (f := mbAlmShelve) (fun _ => rfl) runs rfl fun t kept _ => ?_
  rw [kept.2 .svc (by decide), shelves]

/-! ### Trends and energy read (09 R241, R245; where a read starts and which records it returns, log 49) -/

theorem mbTrdRead_reads {ch : Fin 16} {n first k : Nat} {c : Trd} {s : State} (notCarried : NotCarried s ch) (hn : n < 4096)
    (fits : first < 2 ^ 48) (least : 1 ≤ k) (most : k ≤ 250) (found : tget none s.svc.trd n = some c)
    (may : objTenant c.cfg = tenantOf s ch ∨ bit c.ring (tenantOf s ch) = true) :
    let oldest := (c.next + 2 ^ 48 - c.samples.length) % 2 ^ 48
    MbReads .mbTrdRead ch (toBe 2 n ++ toBe 6 first ++ toBe 2 k) s (toBe 6 oldest ++ toBe 6 (devtime s) ++ toBe 6 (wallSec s) ++
      toBe 6 (wallSub s) ++ ((c.samples.reverse.drop (first - oldest)).take k).flatMap
        (fun x => toBe 6 x.dt ++ wB x.value ++ toBe 2 x.qual ++ toBe 2 x.flags)) := by
  intro oldest
  have channel : be (toBe 2 n ++ toBe 6 first ++ toBe 2 k) 0 2 = n := by
    rw [List.append_assoc]; exact be_toBe_append (n := 2) (by omega) _
  have from_ : be (toBe 2 n ++ toBe 6 first ++ toBe 2 k) 2 6 = first := by
    rw [List.append_assoc]; exact be_second (n := 2) (m := 6) (by omega) _
  have count : be (toBe 2 n ++ toBe 6 first ++ toBe 2 k) 8 2 = k := by
    rw [be_append_of_le (by simp)]; exact be_toBe (n := 2) (by omega)
  refine mbReads_of_reply (f := mbTrdRead) (fun _ => rfl) notCarried (need_then rfl ?_)
  simp only [channel, from_, count, found]
  exact need_then (by simpa using may) (ok_then (lenIs_ok (by simp)) (need_then (by simp [least, most]) rfl))

/-- Bytes of the Silo without errors are read and nothing changes. -/
theorem siloRead_clean {s : State} (soft : s.silo.soft = []) (hard : s.silo.hard = []) (addr len : Nat) : siloRead addr len s = s := by
  unfold siloRead
  simp [soft, hard]

theorem mbEnRead_reads {ch : Fin 16} {first k : Nat} {s : State} (notCarried : NotCarried s ch) (fits : first < 2 ^ 32) (least : 1 ≤ k)
    (most : k ≤ 130) (soft : s.silo.soft = []) (hard : s.silo.hard = []) :
    MbReads .mbEnRead ch (toBe 4 first ++ toBe 2 k) s (toBe 4 ((s.silo.enRing.getLast?.map (·.num)).getD s.silo.enNext) ++
      (s.silo.enRing.reverse.filter (fun r => decide ((r.num + 2 ^ 32 - first) % 2 ^ 32 < k) &&
        enMayRead s (tenantOf s ch) r.meter r.sys)).flatMap enBytes) := by
  have from_ : be (toBe 4 first ++ toBe 2 k) 0 4 = first := be_toBe_append (by omega) _
  have count : be (toBe 4 first ++ toBe 2 k) 4 2 = k := (be_append_right (toBe 4 first) _ 0 2).trans (be_toBe (by omega))
  have whole (r : EnRec) : (!siloTorn s (enAddr r) 30) = true := by rw [siloTorn, hard]; rfl
  have unchanged (rs : List EnRec) : rs.foldl (fun s r => siloRead (enAddr r) 30 s) s = s :=
    List.foldl_fixed' (fun r => siloRead_clean soft hard (enAddr r) 30) rs
  refine mbReads_of_reply (f := mbEnRead) (fun _ => rfl) notCarried ?_
  unfold mbEnRead
  simp only [from_, count, List.filter_eq_self.mpr fun r _ => whole r, unchanged, List.head?_reverse]
  exact ok_then (lenIs_ok (by simp)) (need_then (by simp [least, most]) rfl)

theorem mbEnSysSet_done {ch : Fin 16} {k m : Nat} {s : State} (t0 : tenantOf s ch = 0) (changes : Changes s) (hk : k < 16) (hm : m < 2 ^ 32) :
    MbDone .mbEnSysSet ch (toBe 1 k ++ toBe 4 m) s (fun t => wget t.svc.sys k = wd m ∧ ∀ j, j ≠ k → wget t.svc.sys j = wget s.svc.sys j) := by
  have system : u8 (toBe 1 k ++ toBe 4 m) 0 = k := by simp [u8, toBe]; omega
  have mask : be (toBe 1 k ++ toBe 4 m) 1 4 = m := (be_append_right (toBe 1 k) _ 0 4).trans (be_toBe (by omega))
  have runs : mbEnSysSet (tenantOf s ch) ch.val (toBe 1 k ++ toBe 4 m) s =
      done { s with svc := { s.svc with sys := wput k (wd m) s.svc.sys } } := by
    unfold mbEnSysSet
    simp only [system, mask]
    exact need_then (by simp [t0]) (ok_then (lenIs_ok (by simp)) (ok_then (stChg_ok changes) (need_then (by simp [hk]) rfl)))
  refine mbGives_of_reply (f := mbEnSysSet) (fun _ => rfl) runs rfl fun t kept _ => ?_
  rw [kept.2 .svc (by decide)]
  exact ⟨wget_wput_same .., fun j other => (wget_wput ..).trans (if_neg other)⟩

theorem enMayRead_of_own {s : State} {t m : Nat} {x : Mtr} (found : tget none s.svc.mtr m = some x) (own : objTenant x.cfg = t) (k : Nat) :
    enMayRead s t m k = true := by
  rw [enMayRead, found]; simp [own]

theorem mbEnTotals_reads {ch : Fin 16} {m : Byte} {x : Mtr} {s : State} (notCarried : NotCarried s ch)
    (found : tget none s.svc.mtr m.toNat = some x) (own : objTenant x.cfg = tenantOf s ch) :
    MbReads .mbEnTotals ch [m] s ((List.range 16).flatMap (fun k =>
      toBe 6 (enRound (tget (0, 0) s.silo.enTotal (m.toNat * 16 + k)).1) ++ toBe 6 (enRound (tget (0, 0) s.silo.enTotal (m.toNat * 16 + k)).2))) := by
  have meter : u8 [m] 0 = m.toNat := rfl
  have may := enMayRead_of_own found own
  have some_ : (List.range 16).any (enMayRead s (tenantOf s ch) m.toNat) = true := List.any_eq_true.mpr ⟨0, by simp, may 0⟩
  refine mbReads_of_reply (f := mbEnTotals) (fun _ => rfl) notCarried ?_
  unfold mbEnTotals
  simp only [meter, may, if_true]
  exact need_then rfl (need_then (by rw [some_]; rfl) (ok_then (lenIs_ok rfl) rfl))

/-! ### Access lists (09 R246) -/

/-- A list entry in a message: its ID, groups, programme and lane, and how long it is valid. -/
def accEntBytes (e : Nat × AccEnt) : Bytes :=
  toBe 4 e.1 ++ toBe 2 e.2.groups ++
    (match e.2.prog with | none => toBe 2 0xFFFF ++ [0#8] | some (w, l) => toBe 2 w ++ [BitVec.ofNat 8 l]) ++ toBe 6 e.2.validTo

/-- The fields of an entry fit the message, and its programme and lane are listed. -/
structure AccEntFits (e : Nat × AccEnt) : Prop where
  id : e.1 < 2 ^ 32
  groups : e.2.groups < 2 ^ 16
  validTo : e.2.validTo < 2 ^ 48
  prog : ∀ w l, e.2.prog = some (w, l) → w < 512 ∧ l < 48

theorem length_accEntBytes (e : Nat × AccEnt) : (accEntBytes e).length = 15 := by
  unfold accEntBytes
  split <;> simp

/-- The fields of an entry are read where they were put. -/
theorem entryFields {id groups w valid : Nat} (hid : id < 2 ^ 32) (hgroups : groups < 2 ^ 16) (hw : w < 2 ^ 16) (hvalid : valid < 2 ^ 48) (l : Byte) :
    let b := toBe 4 id ++ toBe 2 groups ++ (toBe 2 w ++ [l]) ++ toBe 6 valid
    be b 0 4 = id ∧ be b 4 2 = groups ∧ be b 6 2 = w ∧ u8 b 8 = l.toNat ∧ be b 9 6 = valid := by
  simp only [List.append_assoc]
  refine ⟨be_toBe_append (by omega) _, be_second (by omega) _, ?_, rfl, ?_⟩
  · rw [be_append_of_le (by simp), length_toBe]
    exact be_second (n := 2) (m := 2) (by omega) _
  · rw [be_append_of_le (by simp), be_append_of_le (by simp), be_append_of_le (by simp), be_append_of_le (by simp)]
    simp only [length_toBe]
    exact be_toBe (n := 6) (by omega)

theorem listEntry_accEntBytes {e : Nat × AccEnt} (fits : AccEntFits e) : listEntry (accEntBytes e) = e := by
  obtain ⟨id, groups, prog, validTo⟩ := e
  obtain ⟨hid, hgroups, hvalid, hprog⟩ := fits
  cases prog with
  | none =>
    obtain ⟨first, second, third, -, last⟩ := entryFields hid hgroups (w := 0xFFFF) (by omega) hvalid 0#8
    simp only [listEntry, accEntBytes, first, second, third, last, if_true]
  | some x =>
    obtain ⟨w, l⟩ := x
    obtain ⟨hw, hl⟩ := hprog w l rfl
    obtain ⟨first, second, third, fourth, last⟩ := entryFields hid hgroups (w := w) (by omega) hvalid (BitVec.ofNat 8 l)
    have lane : (BitVec.ofNat 8 l).toNat = l := by simp; omega
    simp only [listEntry, accEntBytes, first, second, third, fourth, last, lane, if_neg (show ¬ w = 0xFFFF by omega)]

/-- An entry put into the list is there when all have been, each under an ID of its own. -/
theorem tget_foldl_putEntry {t : Nat} {es : List (Nat × AccEnt)} (once : (es.map (·.1)).Nodup) (list : Tab (Option AccEnt))
    {e : Nat × AccEnt} (mem : e ∈ es) :
    tget none (es.foldl (fun l e => tput none (accKey t e.1) (some e.2) l) list) (accKey t e.1) = some e.2 := by
  refine foldl_once (before := fun _ => True) (after := fun l => tget none l (accKey t e.1) = some e.2) once.of_map mem
    (fun _ _ _ _ _ => trivial) (fun _ _ => tget_tput_same ..) ?_ trivial
  intro l b inside other here
  have apart : accKey t e.1 ≠ accKey t b.1 := fun same =>
    other (List.inj_on_of_nodup_map once inside mem (by simp only [accKey] at same; omega))
  exact (tget_tput_ne _ _ _ _ _ apart).trans here

theorem mbAccListPut_done {ch : Fin 16} {es : List (Nat × AccEnt)} {s : State} (changes : Changes s) (least : 1 ≤ es.length)
    (most : es.length ≤ 200) (once : (es.map (·.1)).Nodup) (fits : ∀ e ∈ es, AccEntFits e)
    (quota : quotaOk { s with svc := { s.svc with list := es.foldl (fun l e => tput none (accKey (tenantOf s ch) e.1) (some e.2) l) s.svc.list } }
      (tenantOf s ch) = true) :
    MbDone .mbAccListPut ch (toBe 2 es.length ++ es.flatMap accEntBytes) s (fun t =>
      ∀ e ∈ es, tget none t.svc.list (accKey (tenantOf s ch) e.1) = some e.2) := by
  have count : be (toBe 2 es.length ++ es.flatMap accEntBytes) 0 2 = es.length := be_toBe_append (by omega) _
  have length : (toBe 2 es.length ++ es.flatMap accEntBytes).length = 2 + 15 * es.length := by
    rw [List.length_append, length_toBe, length_flatMap_const length_accEntBytes]
  have entries : (items (toBe 2 es.length ++ es.flatMap accEntBytes) 2 15 es.length).map listEntry = es := by
    have parts := items_flatMap length_accEntBytes es (toBe 2 es.length)
    rw [length_toBe] at parts
    rw [parts, List.map_map]
    exact (List.map_congr_left fun e he => listEntry_accEntBytes (fits e he)).trans (List.map_id es)
  have runs : ∃ u, mbAccListPut (tenantOf s ch) ch.val (toBe 2 es.length ++ es.flatMap accEntBytes) s = done u ∧
      u.svc.list = es.foldl (fun l e => tput none (accKey (tenantOf s ch) e.1) (some e.2) l) s.svc.list := by
    unfold mbAccListPut
    simp only [count, entries]
    refine ⟨_, need_then (by simp) (ok_then (lenIs_ok length) (ok_then (stChg_ok changes) (need_then ?_ (need_then quota rfl)))), ?_⟩
    · simp only [least, most, decide_true, Bool.and_true, Bool.true_and, List.all_eq_true]
      intro e he
      split
      next w l prog => simpa using (fits e he).prog w l prog
      · rfl
    · rw [gln_svc]
  obtain ⟨u, runs, list⟩ := runs
  refine mbGives_of_reply (f := mbAccListPut) (fun _ => rfl) runs rfl fun t kept _ => ?_
  rw [kept.2 .svc (by decide), list]
  exact fun e he => tget_foldl_putEntry once _ he

/-- IDs taken out of the list are gone, and every other key reads as it did. -/
theorem tget_foldl_removeEntry (t : Nat) (ids : List Nat) (list : Tab (Option AccEnt)) (k : Nat) :
    tget none (ids.foldl (fun l i => tput none (accKey t i) none l) list) k = if k ∈ ids.map (accKey t) then none else tget none list k := by
  induction ids generalizing list with
  | nil => simp
  | cons i ids ih =>
    rw [List.foldl_cons, ih, tget_tput]
    by_cases here : k = accKey t i <;> simp [here]

/-- Tenant t's list without the entries of some IDs. -/
def accListWithout (t : Nat) (ids : List Nat) (s : State) : State :=
  { s with svc := { s.svc with list := ids.foldl (fun l i => tput none (accKey t i) none l) s.svc.list } }

theorem mbAccListDel_gives {ch : Fin 16} {ids : List Nat} {s : State} (changes : Changes s) (least : 1 ≤ ids.length) (most : ids.length ≤ 1000)
    (fits : ∀ i ∈ ids, i < 2 ^ 32) :
    MbGives .mbAccListDel ch (toBe 2 ids.length ++ ids.flatMap (toBe 4)) s (fun _ => True) (fun t =>
      (getChan t ch.val).result = some (0x0000, toBe 2 (listCount s (tenantOf s ch) - listCount t (tenantOf s ch))) ∧
      (∀ i ∈ ids, tget none t.svc.list (accKey (tenantOf s ch) i) = none) ∧
      ∀ k, (∀ i ∈ ids, k ≠ accKey (tenantOf s ch) i) → tget none t.svc.list k = tget none s.svc.list k) := by
  have count : be (toBe 2 ids.length ++ ids.flatMap (toBe 4)) 0 2 = ids.length := be_toBe_append (by omega) _
  have length : (toBe 2 ids.length ++ ids.flatMap (toBe 4)).length = 2 + 4 * ids.length := by
    rw [List.length_append, length_toBe, length_flatMap_const (length_toBe 4)]
  have entries : items (toBe 2 ids.length ++ ids.flatMap (toBe 4)) 2 4 ids.length = ids.map (toBe 4) := by
    have parts := items_flatMap (length_toBe 4) ids (toBe 2 ids.length)
    rwa [length_toBe] at parts
  have removed (l : Tab (Option AccEnt)) : (ids.map (toBe 4)).foldl (fun l b => tput none (accKey (tenantOf s ch) (beVal b)) none l) l =
      ids.foldl (fun l i => tput none (accKey (tenantOf s ch) i) none l) l := by
    rw [List.foldl_map]
    exact List.foldl_ext _ _ _ fun l i hi => by rw [beVal_toBe, Nat.mod_eq_of_lt (by have := fits i hi; omega)]
  have runs : mbAccListDel (tenantOf s ch) ch.val (toBe 2 ids.length ++ ids.flatMap (toBe 4)) s =
      reply (toBe 2 (listCount s (tenantOf s ch) - listCount (accListWithout (tenantOf s ch) ids s) (tenantOf s ch)))
        (gln 0x0831 3 (tenantOf s ch) (listCount (accListWithout (tenantOf s ch) ids s) (tenantOf s ch))
          (listCount s (tenantOf s ch) - listCount (accListWithout (tenantOf s ch) ids s) (tenantOf s ch) : Nat)
          (accListWithout (tenantOf s ch) ids s)) := by
    unfold mbAccListDel
    simp only [count, entries, removed]
    exact need_then (by simp) (ok_then (lenIs_ok length) (ok_then (stChg_ok changes) (need_then (by simp [least, most]) rfl)))
  refine mbGives_of_reply (f := mbAccListDel) (fun _ => rfl) runs trivial fun t kept own => ?_
  have same : t.svc = (accListWithout (tenantOf s ch) ids s).svc := (kept.2 .svc (by decide)).trans (gln_svc ..)
  have left : listCount t (tenantOf s ch) = listCount (accListWithout (tenantOf s ch) ids s) (tenantOf s ch) := by rw [listCount, same, listCount]
  rw [own, same, left]
  refine ⟨rfl, fun i hi => (tget_foldl_removeEntry ..).trans (if_pos (List.mem_map_of_mem hi)), fun k apart => ?_⟩
  refine (tget_foldl_removeEntry ..).trans (if_neg fun mem => ?_)
  obtain ⟨i, hi, here⟩ := List.mem_map.mp mem
  exact apart i hi here.symm

/-- Settles O35: each command passes its checks in the order of check 9 to check 12, and then answers what stands or does what its section
says. Where MB_TRD_READ starts, which records MB_EN_READ returns, the options of MB_ALM_LIST and the programmes that a list entry may name
are the model's choice (log 49). -/
theorem servicesAreReadAndOperated : Obligations.ServicesAreReadAndOperated :=
  ⟨fun _ _ _ _ => mbSvcList_gives, fun _ _ _ _ => mbLocalSet_done, fun _ _ _ _ => mbWpgGet_reads, fun _ _ _ _ => mbAlmList_reads,
    fun _ _ _ _ _ => mbAlmAck_gives, fun _ _ _ _ _ => mbAlmShelve_done, fun _ _ _ _ _ _ => mbTrdRead_reads, fun _ _ _ _ => mbEnRead_reads,
    fun _ _ _ _ => mbEnSysSet_done, fun _ _ _ _ => mbEnTotals_reads,
    fun _ _ _ changes least most once fits => mbAccListPut_done changes least most once fun e he =>
      let ⟨id, groups, validTo, prog⟩ := fits e he
      ⟨id, groups, validTo, prog⟩,
    fun _ _ _ => mbAccListDel_gives⟩

end Sys2Proof.Machine
end

section
/-! SUPPORT. Registers of the field dies: the operations that leave them, and entries of a table that are written one by one (10 R250 to
R270). Obligations O36 to O38. -/

namespace Sys2Proof.Machine

/-! ### Reads of the field registers -/

theorem getFc_of_fio {s t : State} (same : t.fio = s.fio) (n : Nat) : getFc t n = getFc s n := by rw [getFc, same, getFc]

theorem getGrp_of_fio {s t : State} (same : t.fio = s.fio) (g : Nat) : getGrp t g = getGrp s g := by rw [getGrp, same, getGrp]

theorem getDie_of_fio {s t : State} (same : t.fio = s.fio) (d : Nat) : getDie t d = getDie s d := by rw [getDie, same, getDie]

theorem getAi_of_fio {s t : State} (same : t.fio = s.fio) (n : Nat) : getAi t n = getAi s n := by rw [getAi, same, getAi]

theorem getAo_of_fio {s t : State} (same : t.fio = s.fio) (n : Nat) : getAo t n = getAo s n := by rw [getAo, same, getAo]

@[simp] theorem fioGln_fio (code p1 p2 : Nat) (s : State) : (fioGln code p1 p2 s).fio = s.fio :=
  (fioGln_keeps code p1 p2).samePart (p := .fio) (by decide) s

@[simp] theorem laneGln_fio (code p1 p2 : Nat) (s : State) : (laneGln code p1 p2 s).fio = s.fio :=
  (laneGln_keeps code p1 p2).samePart (p := .fio) (by decide) s

@[simp] theorem outDiagFire_fio (n : Nat) (s : State) : (outDiagFire n s).fio = s.fio :=
  (outDiagFire_keeps n).samePart (p := .fio) (by decide) s

@[simp] theorem getFc_fire (m n : Nat) (s : State) : getFc (fire m s) n = getFc s n := getFc_of_fio (fire_fio ..) n

@[simp] theorem getFc_laneGln (code p1 p2 n : Nat) (s : State) : getFc (laneGln code p1 p2 s) n = getFc s n := getFc_of_fio (laneGln_fio ..) n

@[simp] theorem getFc_outDiagFire (m n : Nat) (s : State) : getFc (outDiagFire m s) n = getFc s n := getFc_of_fio (outDiagFire_fio ..) n

@[simp] theorem getGrp_laneGln (code p1 p2 g : Nat) (s : State) : getGrp (laneGln code p1 p2 s) g = getGrp s g :=
  getGrp_of_fio (laneGln_fio ..) g

@[simp] theorem getDie_fioGln (code p1 p2 d : Nat) (s : State) : getDie (fioGln code p1 p2 s) d = getDie s d := getDie_of_fio (fioGln_fio ..) d

@[simp] theorem getAi_fire (m n : Nat) (s : State) : getAi (fire m s) n = getAi s n := getAi_of_fio (fire_fio ..) n

@[simp] theorem getAi_laneGln (code p1 p2 n : Nat) (s : State) : getAi (laneGln code p1 p2 s) n = getAi s n := getAi_of_fio (laneGln_fio ..) n

@[simp] theorem getAo_fire (m n : Nat) (s : State) : getAo (fire m s) n = getAo s n := getAo_of_fio (fire_fio ..) n

@[simp] theorem getAo_laneGln (code p1 p2 n : Nat) (s : State) : getAo (laneGln code p1 p2 s) n = getAo s n := getAo_of_fio (laneGln_fio ..) n

theorem getFc_updFc_other {n m : Nat} (h : m ≠ n) (f : FcCh → FcCh) (s : State) : getFc (updFc n f s) m = getFc s m := by
  rw [getFc_updFc, if_neg h]

@[simp] theorem getFc_updGrp (g n : Nat) (f : FcGrp → FcGrp) (s : State) : getFc (updGrp g f s) n = getFc s n := rfl

theorem getGrp_updGrp_other {n m : Nat} (h : m ≠ n) (f : FcGrp → FcGrp) (s : State) : getGrp (updGrp n f s) m = getGrp s m := by
  rw [getGrp_updGrp, if_neg h]

/-- What does not see the count of faults reads as before an occurrence. -/
theorem fcFault_reads {α : Type} (r : FcCh → α) (blind : ∀ c k, r { c with faults := k } = r c) (m n : Nat) (s : State) :
    r (getFc (fcFault m s) n) = r (getFc s n) := by
  rw [fcFault, getFc_updFc]
  split
  next same => rw [same]; exact blind ..
  · rfl

/-- An occurrence of an output's fault is counted, and the channel is as it was but for the count. -/
@[simp] theorem getFc_outFault (code n : Nat) (s : State) :
    getFc (outFault code n s) n = { getFc s n with faults := min 65535 ((getFc s n).faults + 1) } := by
  simp only [outFault, fcFault, getFc_outDiagFire, getFc_laneGln, getFc_updFc_same]

/-- The firmware runs only out of reset. -/
theorem not_inReset_of_fioRuns {s : State} (runs : fioRuns s = true) : s.aon.inReset = false := by
  simp only [fioRuns, Bool.and_eq_true, Bool.not_eq_true'] at runs
  exact runs.1

/-! ### Entries written one by one -/

/-- Entries of a table updated one by one, each once. -/
theorem tget_foldl_tupd {α : Type} [DecidableEq α] (d : α) (f : Nat → α → α) {l : List Nat} (once : l.Nodup) (t : Tab α) (m : Nat) :
    tget d (l.foldl (fun t n => tupd d n (f n) t) t) m = if m ∈ l then f m (tget d t m) else tget d t m := by
  induction l generalizing t with
  | nil => simp
  | cons n l ih =>
    obtain ⟨fresh, rest⟩ := List.nodup_cons.mp once
    rw [List.foldl_cons, ih rest, tget_tupd]
    by_cases here : m = n
    · subst here; simp [fresh]
    · simp [here]

theorem getFc_foldl_updFc (f : Nat → FcCh → FcCh) {l : List Nat} (once : l.Nodup) (s : State) (m : Nat) :
    getFc (l.foldl (fun s n => updFc n (f n) s) s) m = if m ∈ l then f m (getFc s m) else getFc s m := by
  have table : (l.foldl (fun s n => updFc n (f n) s) s).fio.fc = l.foldl (fun t n => tupd {} n (f n) t) s.fio.fc :=
    (List.foldl_hom (fun s : State => s.fio.fc) fun _ _ => rfl).symm
  rw [getFc, table, tget_foldl_tupd _ _ once, getFc]

theorem getAo_foldl_updAo (f : Nat → AoCh → AoCh) {l : List Nat} (once : l.Nodup) (s : State) (m : Nat) :
    getAo (l.foldl (fun s n => updAo n (f n) s) s) m = if m ∈ l then f m (getAo s m) else getAo s m := by
  have table : (l.foldl (fun s n => updAo n (f n) s) s).fio.ao = l.foldl (fun t n => tupd {} n (f n) t) s.fio.ao :=
    (List.foldl_hom (fun s : State => s.fio.ao) fun _ _ => rfl).symm
  rw [getAo, table, tget_foldl_tupd _ _ once, getAo]

/-- Entries of the channels and groups that are written leave the dies. -/
@[simp] theorem die_foldl_updFc (f : Nat → FcCh → FcCh) (l : List Nat) (s : State) :
    (l.foldl (fun s n => updFc n (f n) s) s).fio.die = s.fio.die := foldl_reads (·.fio.die) (fun _ _ => by rfl) l s

@[simp] theorem die_foldl_updGrp (f : Nat → FcGrp → FcGrp) (l : List Nat) (s : State) :
    (l.foldl (fun s g => updGrp g (f g) s) s).fio.die = s.fio.die := foldl_reads (·.fio.die) (fun _ _ => by rfl) l s

@[simp] theorem die_foldl_updAi (f : Nat → AiCh → AiCh) (l : List Nat) (s : State) :
    (l.foldl (fun s n => updAi n (f n) s) s).fio.die = s.fio.die := foldl_reads (·.fio.die) (fun _ _ => by rfl) l s

@[simp] theorem die_foldl_updAo (f : Nat → AoCh → AoCh) (l : List Nat) (s : State) :
    (l.foldl (fun s n => updAo n (f n) s) s).fio.die = s.fio.die := foldl_reads (·.fio.die) (fun _ _ => by rfl) l s

/-! ### Channels of groups and dies (10 R250) -/

theorem mem_span {a n k : Nat} : k ∈ span a n ↔ a ≤ k ∧ k < a + n := List.mem_range'_1

theorem nodup_span (a n : Nat) : (span a n).Nodup := List.nodup_range'

theorem mem_grpChans {g n : Nat} : n ∈ grpChans g ↔ n / 4 = g := by
  rw [grpChans, mem_span]; omega

theorem nodup_grpChans (g : Nat) : (grpChans g).Nodup := nodup_span ..

/-- The groups of the FC dies. -/
theorem mem_dieChans {d n : Nat} : n ∈ dieChans d ↔ d < 2 ∧ n / 16 = d := by
  unfold dieChans
  split
  · rw [mem_span]; omega
  · simp; omega

theorem nodup_dieChans (d : Nat) : (dieChans d).Nodup := by
  unfold dieChans
  split
  · exact nodup_span ..
  · exact List.nodup_nil

end Sys2Proof.Machine
end

section
/-! SUPPORT. The output stages of a group: what a change of its commands, its supply, its trip or its die makes of its switches (10 R257,
R258, R260). Obligations O36 to O38. -/

namespace Sys2Proof.Machine

/-! ### What output stages may change -/

/-- c' is c but for what an output stage decides: the switch, its phase and grant, the request and its deferral. -/
def StageOf (c c' : FcCh) : Prop := c' = { c with on := c'.on, hold := c'.hold, req := c'.req, granted := c'.granted, defer := c'.defer }

namespace StageOf
variable {c c' c'' : FcCh}

theorem refl (c : FcCh) : StageOf c c := rfl

theorem trans (h : StageOf c c') (k : StageOf c' c'') : StageOf c c'' :=
  Eq.trans k (congrArg (fun x : FcCh =>
    { x with on := c''.on, hold := c''.hold, req := c''.req, granted := c''.granted, defer := c''.defer }) h)

/-- Whatever does not see a stage's decisions reads as it did. -/
theorem reads {α : Type} (h : StageOf c c') (r : FcCh → α)
    (blind : r { c with on := c'.on, hold := c'.hold, req := c'.req, granted := c'.granted, defer := c'.defer } = r c) : r c' = r c :=
  (congrArg r h).trans blind

theorem live (h : StageOf c c') : c'.live = c.live := h.reads FcCh.live rfl

theorem cmd (h : StageOf c c') : c'.cmd = c.cmd := h.reads FcCh.cmd rfl

end StageOf

/-- The output stages of the channels l have acted between s and t, and all else of the field dies is as it was. -/
structure StagesAct (l : List Nat) (s t : State) : Prop where
  beside : t.fio = { s.fio with fc := t.fio.fc }
  others : ∀ n, n ∉ l → getFc t n = getFc s n
  stage : ∀ n, StageOf (getFc s n) (getFc t n)

namespace StagesAct
variable {l m : List Nat} {s t u : State}

theorem of_fio (same : t.fio = s.fio) : StagesAct l s t where
  beside := by rw [same]
  others n _ := getFc_of_fio same n
  stage n := by rw [getFc_of_fio same]; exact .refl _

theorem refl (s : State) : StagesAct l s s := of_fio rfl

theorem trans (h : StagesAct l s t) (k : StagesAct l t u) : StagesAct l s u where
  beside := k.beside.trans (congrArg (fun f : Fio => { f with fc := u.fio.fc }) h.beside)
  others n out := (k.others n out).trans (h.others n out)
  stage n := (h.stage n).trans (k.stage n)

theorem mono (h : StagesAct l s t) (sub : ∀ n ∈ l, n ∈ m) : StagesAct m s t where
  beside := h.beside
  others n out := h.others n fun mem => out (sub n mem)
  stage := h.stage

theorem updFc {n : Nat} {f : FcCh → FcCh} (mem : n ∈ l) (stage : ∀ c, StageOf c (f c)) (s : State) : StagesAct l s (updFc n f s) where
  beside := rfl
  others k out := getFc_updFc_other (fun same => out (by rw [same]; exact mem)) f s
  stage k := by
    rw [getFc_updFc]
    split
    next same => subst same; exact stage _
    · exact .refl _

theorem foldl {α : Type} {f : State → α → State} {as : List α} (each : ∀ s, ∀ a ∈ as, StagesAct l s (f s a)) (s : State) :
    StagesAct l s (as.foldl f s) :=
  List.foldlRecOn as f (refl s) fun u hu a ha => hu.trans (each u a ha)

theorem die (h : StagesAct l s t) (d : Nat) : getDie t d = getDie s d := by rw [getDie, h.beside, getDie]

theorem grp (h : StagesAct l s t) (g : Nat) : getGrp t g = getGrp s g := by rw [getGrp, h.beside, getGrp]

theorem ao (h : StagesAct l s t) (n : Nat) : getAo t n = getAo s n := by rw [getAo, h.beside, getAo]

theorem low (h : StagesAct l s t) (k : Nat) : supplyLow t k = supplyLow s k := by rw [supplyLow, h.beside, supplyLow]

theorem blocked (h : StagesAct l s t) (g : Nat) : grpBlocked t g = grpBlocked s g := by
  simp only [grpBlocked, dieDrives, h.die, h.grp, h.low]

end StagesAct

/-! ### The bank rules, step by step (10 R258) -/

theorem mem_insertBy {α : Type} {r : α → α → Bool} {a b : α} {l : List α} : b ∈ insertBy r a l ↔ b = a ∨ b ∈ l := by
  induction l with
  | nil => simp [insertBy]
  | cons c l ih =>
    unfold insertBy
    split
    · simp
    · simp [ih]; tauto

theorem mem_sortBy {α : Type} {r : α → α → Bool} {b : α} {l : List α} : b ∈ sortBy r l ↔ b ∈ l := by
  induction l with
  | nil => rfl
  | cons a l ih => rw [sortBy, List.foldr_cons, mem_insertBy, ← sortBy, ih, List.mem_cons]

/-- A pass over the channels of a group, where the step at a channel acts on its stage alone and as F says. -/
theorem groupPass {g : Nat} {step : State → Nat → State} {F : Bool → FcCh → FcCh} (acts : ∀ u k, StagesAct [k] u (step u k))
    (own : ∀ u k, getFc (step u k) k = F (grpBlocked u g) (getFc u k)) (s : State) :
    StagesAct (grpChans g) s ((grpChans g).foldl step s) ∧
      ∀ n ∈ grpChans g, getFc ((grpChans g).foldl step s) n = F (grpBlocked s g) (getFc s n) := by
  have apart {n k : Nat} (other : k ≠ n) (u : State) : getFc (step u k) n = getFc u n := (acts u k).others n (by simp [other.symm])
  refine ⟨.foldl (fun u k mem => (acts u k).mono fun n hn => by rwa [List.mem_singleton.mp hn]) s, fun n mem => ?_⟩
  refine foldl_once (before := fun u => getFc u n = getFc s n ∧ grpBlocked u g = grpBlocked s g)
    (after := fun u => getFc u n = F (grpBlocked s g) (getFc s n)) (nodup_grpChans g) mem ?_ ?_ ?_ ⟨rfl, rfl⟩
  · rintro u k - other ⟨channel, blocked⟩
    exact ⟨(apart other u).trans channel, ((acts u k).blocked g).trans blocked⟩
  · rintro u ⟨channel, blocked⟩
    rw [own, channel, blocked]
  · rintro u k - other done
    exact (apart other u).trans done

/-- What the first step of the bank rules makes of a channel. -/
def releasedStage (blocked : Bool) (c : FcCh) : FcCh :=
  if fcIsBank c.live && (!c.cmd || blocked) then { c with on := false, hold := false, req := none } else c

theorem bankRelease_pass (g : Nat) (s : State) : StagesAct (grpChans g) s (bankRelease g s) ∧
    ∀ n ∈ grpChans g, getFc (bankRelease g s) n = releasedStage (grpBlocked s g) (getFc s n) := by
  refine groupPass (fun u k => ?_) (fun u k => ?_) s
  · split
    · exact .updFc (by simp) (fun _ => by rfl) u
    · exact .refl u
  · unfold releasedStage
    split
    · rw [getFc_updFc_same]
    · rfl

theorem bankRelease_acts (g : Nat) (s : State) : StagesAct (grpChans g) s (bankRelease g s) := (bankRelease_pass g s).1

theorem getFc_bankRelease {g n : Nat} (mem : n ∈ grpChans g) (s : State) :
    getFc (bankRelease g s) n = releasedStage (grpBlocked s g) (getFc s n) := (bankRelease_pass g s).2 n mem

/-- What the plain output stages make of a channel. -/
def plainStage (blocked : Bool) (c : FcCh) : FcCh :=
  if fcMODE c.live = 3 then { c with on := c.cmd && !c.ovl && !c.therm && !blocked }
  else if c.live = 0#48 || fcMODE c.live < 3 then { c with on := false, req := none } else c

theorem plainDrive_pass (g : Nat) (s : State) : StagesAct (grpChans g) s (plainDrive g s) ∧
    ∀ n ∈ grpChans g, getFc (plainDrive g s) n = plainStage (grpBlocked s g) (getFc s n) := by
  refine groupPass (fun u k => ?_) (fun u k => ?_) s
  · dsimp only
    split
    · exact .updFc (by simp) (fun _ => by rfl) u
    · split
      · exact .updFc (by simp) (fun _ => by rfl) u
      · exact .refl u
  · unfold plainStage; dsimp only
    split
    · rw [getFc_updFc_same]
    · split
      · rw [getFc_updFc_same]
      · rfl

theorem plainDrive_acts (g : Nat) (s : State) : StagesAct (grpChans g) s (plainDrive g s) := (plainDrive_pass g s).1

theorem getFc_plainDrive {g n : Nat} (mem : n ∈ grpChans g) (s : State) :
    getFc (plainDrive g s) n = plainStage (grpBlocked s g) (getFc s n) := (plainDrive_pass g s).2 n mem

theorem bankRequest_acts (g now : Nat) (s : State) : StagesAct (grpChans g) s (bankRequest g now s) := by
  unfold bankRequest
  split
  · exact .refl s
  · refine .foldl (fun u n mem => ?_) s
    dsimp only
    split
    · exact .updFc mem (fun _ => by rfl) u
    · exact .refl u

theorem bankGrant_acts (g now : Nat) (s : State) : StagesAct (grpChans g) s (bankGrant g now s) := by
  refine .foldl (fun u n queued => ?_) s
  have mem : n ∈ grpChans g := (List.mem_filter.mp (mem_sortBy.mp queued)).1
  split
  · exact .updFc mem (fun _ => by rfl) u
  · split
    · exact (StagesAct.updFc mem (f := fun c => { c with defer := true }) (fun _ => rfl) u).trans (.of_fio (by simp))
    · split
      · exact .of_fio (by simp)
      · exact .refl u

/-! ### A group and a die (10 R257, R258, R260) -/

theorem grpDrive_acts (now g : Nat) (s : State) : StagesAct (grpChans g) s (grpDrive now s g) :=
  (bankRelease_acts g s).trans ((bankRequest_acts g now _).trans ((bankGrant_acts g now _).trans (plainDrive_acts g _)))

/-- A plain output follows its command where it may. -/
theorem grpDrive_plain {now g n : Nat} {s : State} (mem : n ∈ grpChans g) (plain : fcMODE (getFc s n).live = 3) :
    (getFc (grpDrive now s g) n).on = ((getFc s n).cmd && !(getFc s n).ovl && !(getFc s n).therm && !grpBlocked s g) := by
  have bank := (bankRelease_acts g s).trans ((bankRequest_acts g now _).trans (bankGrant_acts g now _))
  have stage := bank.stage n
  rw [grpDrive, getFc_plainDrive mem, bank.blocked, plainStage, if_pos (by rw [stage.live]; exact plain)]
  simp only [stage.cmd, stage.reads FcCh.ovl rfl, stage.reads FcCh.therm rfl]

/-- In a group that may not be on the bank rules stop at their first step. -/
theorem grpDrive_blocked {g : Nat} {s : State} (blocked : grpBlocked s g = true) (now : Nat) :
    grpDrive now s g = plainDrive g (bankRelease g s) := by
  have still : grpBlocked (bankRelease g s) g = true := ((bankRelease_acts g s).blocked g).trans blocked
  have none_ : bankQueue (bankRelease g s) g = [] := by
    unfold bankQueue
    rw [List.filter_eq_nil_iff.mpr]
    · rfl
    · intro n mem
      rw [getFc_bankRelease mem, blocked, releasedStage]
      split
      · simp
      next on => simp only [Bool.or_true, Bool.and_true] at on; simp [on]
  rw [grpDrive, bankRequest, if_pos still, bankGrant, none_]
  rfl

/-- No output of a group that may not be on is on. -/
theorem grpDrive_off {now g n : Nat} {s : State} (blocked : grpBlocked s g = true) (mem : n ∈ grpChans g)
    (output : fcIsOut (getFc s n).live = true) : (getFc (grpDrive now s g) n).on = false := by
  rw [grpDrive_blocked blocked, getFc_plainDrive mem, (bankRelease_acts g s).blocked, blocked, getFc_bankRelease mem, blocked]
  simp only [fcIsOut, Bool.or_eq_true, beq_iff_eq] at output
  rcases output with plain | bank
  · simp [releasedStage, plainStage, fcIsBank, plain]
  · have set : (getFc s n).live ≠ 0#48 := fun zero => by rw [zero] at bank; exact absurd bank (by decide)
    simp [releasedStage, plainStage, fcIsBank, bank, set]

theorem dieDrive_acts (d : Nat) (s : State) : StagesAct (dieChans d) s (dieDrive d s) := by
  unfold dieDrive
  split
  next low =>
    refine .foldl (fun u g mem => (grpDrive_acts _ g u).mono fun n inside => ?_) s
    rw [mem_span] at mem
    rw [mem_grpChans] at inside
    exact mem_dieChans.mpr ⟨low, by omega⟩
  · exact .refl s

/-- A channel of a die ends as the drive of its group leaves it, which finds it as it was. -/
theorem dieDrive_channel {d n : Nat} (mem : n ∈ dieChans d) (s : State) :
    ∃ u, StagesAct (dieChans d) s u ∧ getFc u n = getFc s n ∧ getFc (dieDrive d s) n = getFc (grpDrive (absNow s) u (n / 4)) n := by
  obtain ⟨low, here⟩ := mem_dieChans.mp mem
  have inside {g : Nat} (hg : g ∈ span (4 * d) 4) (u : State) : StagesAct (dieChans d) u (grpDrive (absNow s) u g) :=
    (grpDrive_acts _ g u).mono fun k hk => by
      rw [mem_span] at hg
      rw [mem_grpChans] at hk
      exact mem_dieChans.mpr ⟨low, by omega⟩
  have apart {g : Nat} (other : g ≠ n / 4) (u : State) : getFc (grpDrive (absNow s) u g) n = getFc u n :=
    (grpDrive_acts _ g u).others n fun hn => other (mem_grpChans.mp hn).symm
  have group : n / 4 ∈ span (4 * d) 4 := mem_span.mpr (by omega)
  rw [dieDrive, if_pos low]
  refine foldl_once (before := fun u => StagesAct (dieChans d) s u ∧ getFc u n = getFc s n)
    (after := fun t => ∃ u, StagesAct (dieChans d) s u ∧ getFc u n = getFc s n ∧ getFc t n = getFc (grpDrive (absNow s) u (n / 4)) n)
    (nodup_span (4 * d) 4) group ?_ ?_ ?_ ⟨.refl s, rfl⟩
  · rintro u g hg other ⟨acts, same⟩
    exact ⟨acts.trans (inside hg u), (apart other u).trans same⟩
  · rintro u ⟨acts, same⟩
    exact ⟨u, acts, same, rfl⟩
  · rintro t g - other ⟨u, acts, same, done⟩
    exact ⟨u, acts, same, (apart other t).trans done⟩

theorem dieDrive_plain {d n : Nat} {s : State} (mem : n ∈ dieChans d) (plain : fcMODE (getFc s n).live = 3) :
    (getFc (dieDrive d s) n).on = ((getFc s n).cmd && !(getFc s n).ovl && !(getFc s n).therm && !grpBlocked s (n / 4)) := by
  obtain ⟨u, acts, same, done⟩ := dieDrive_channel mem s
  rw [done, grpDrive_plain (mem_grpChans.mpr rfl) (by rw [same]; exact plain), same, acts.blocked]

/-- A die that does not drive has no output on. -/
theorem dieDrive_off {d n : Nat} {s : State} (idle : dieDrives s d = false) (mem : n ∈ dieChans d)
    (output : fcIsOut (getFc s n).live = true) : (getFc (dieDrive d s) n).on = false := by
  obtain ⟨u, acts, same, done⟩ := dieDrive_channel mem s
  have blocked : grpBlocked u (n / 4) = true := by
    have die : n / 4 / 4 = d := by have := (mem_dieChans.mp mem).2; omega
    rw [acts.blocked, grpBlocked, die, idle]
    rfl
  rw [done]
  exact grpDrive_off blocked (mem_grpChans.mpr rfl) (by rw [same]; exact output)

end Sys2Proof.Machine
end

section
/-! SUPPORT. Frames to the field dies, their reports, silence, the serve gate and the supplies (10 R250 to R254, R260, R261, 15 R370).
Obligations O36 and O37. -/

namespace Sys2Proof.Machine

/-! ### Lanes of a word -/

/-- Lanes of a word, each set to its value of f. -/
theorem bit_withLanes (f : Nat → Bool) {ns : List Nat} (low : ∀ n ∈ ns, n < 48) (w : Word) (l : Nat) :
    bit (withLanes w (ns.map fun n => (n, f n))) l = if l ∈ ns then f l else bit w l := by
  induction ns generalizing w with
  | nil => simp [withLanes]
  | cons n ns ih =>
    have first : withLanes w ((n :: ns).map fun n => (n, f n)) = withLanes (setBit w n (f n)) (ns.map fun n => (n, f n)) := rfl
    rw [first, ih fun k hk => low k (List.mem_cons_of_mem _ hk)]
    have here : bit (setBit w n (f n)) l = if l = n then f n else bit w l := getLsbD_setBit (low n List.mem_cons_self) w (f n) l
    rw [here]
    by_cases same : l = n
    · subst same; simp
    · simp [same]

/-! ### Output frames (10 R252, R261, R263) -/

theorem fioGln_only (code p1 p2 : Nat) (s : State) : fioGln code p1 p2 s = { s with gln := (fioGln code p1 p2 s).gln } := by
  unfold fioGln
  split
  · rfl
  · exact gln_only ..

/-- Reading SILENT is a Gleaner entry and a note at the die. -/
theorem readSilent_only (d : Nat) (s : State) :
    readSilent d s = { s with gln := (readSilent d s).gln, fio := { s.fio with die := (readSilent d s).fio.die } } := by
  unfold readSilent
  split
  · rw [fioGln_fio, fioGln_only]; rfl
  · rfl

theorem getDie_readSilent (d : Nat) (s : State) :
    ∃ told commit, getDie (readSilent d s) d = { getDie s d with told := told, commit := commit } := by
  unfold readSilent
  split
  · exact ⟨true, false, by rw [getDie_fioGln, getDie_updDie_same]⟩
  · exact ⟨_, _, rfl⟩

/-- Whatever sees neither the Gleaner nor the dies reads as it did before SILENT was read. -/
theorem readSilent_reads {α : Type} (r : State → α) (d : Nat) (s : State)
    (blind : ∀ g x, r { s with gln := g, fio := { s.fio with die := x } } = r s) : r (readSilent d s) = r s :=
  (congrArg r (readSilent_only d s)).trans (blind ..)

theorem fioCfgOf_readSilent (d : Nat) (s : State) : fioCfgOf (readSilent d s) d = fioCfgOf s d := by
  obtain ⟨told, commit, die⟩ := getDie_readSilent d s
  have channels : { fioCfgOf (readSilent d s) d with sil := 0#48 } = { fioCfgOf s d with sil := 0#48 } :=
    readSilent_reads (fun u => { fioCfgOf u d with sil := 0#48 }) d s fun _ _ => rfl
  have silence : (fioCfgOf (readSilent d s) d).sil = (fioCfgOf s d).sil := by simp only [fioCfgOf, die]
  calc fioCfgOf (readSilent d s) d = { { fioCfgOf (readSilent d s) d with sil := 0#48 } with sil := (fioCfgOf (readSilent d s) d).sil } := rfl
    _ = fioCfgOf s d := by rw [channels, silence]

/-- Outside an overrun a frame carries the lanes of OUT_WORD to the outputs. -/
theorem getLsbD_frameFc {d n : Nat} {s : State} (live : s.task.dev ≠ 4) (mem : n ∈ dieChans d) :
    (frameFc s d).getLsbD n = (fcIsOut (getFc s n).cfg && bit (fioCommand s (fioOutWord s) 0) n) := by
  have lanes : frameFc s d = withLanes 0#48 ((dieChans d).map fun n =>
      (n, fcIsOut (getFc s n).cfg && bit (fioCommand s (fioOutWord s) 0) n)) := by
    simp only [frameFc, if_neg live, withLanes, List.foldl_map]
  have low : ∀ n ∈ dieChans d, n < 48 := fun k hk => by have := mem_dieChans.mp hk; omega
  rw [lanes]
  exact (bit_withLanes _ low _ n).trans (if_pos mem)

theorem fioOutputFrame_answers {d : Fin 4} {s : State} (units : s.ovl.units = []) (runs : fioRuns s = true) (live : s.task.dev ≠ 4) :
    Answers (exec (.fioOutputFrame d) s) (fun t => (getDie t d.val).sentAt = absNow s ∧ (getDie t d.val).sentCfg = fioCfgOf s d.val ∧
      (∀ n ∈ dieChans d.val, (getDie t d.val).sentFc.getLsbD n = (fcIsOut (getFc s n).cfg && bit (fioCommand s (fioOutWord s) 0) n)) ∧
      (d.val = 3 → (getDie t 3).sentAo = (List.range 4).map (fun n => aoClamp (getAo s n).cfg (fioCommand s (fioAoWord s) n))) ∧
      t.img = s.img) := by
  refine ⟨fioFrame d.val s, ?_, ?_⟩
  · change execFioOutputFrame d s = _
    rw [execFioOutputFrame, if_pos runs, boundary_of_no_units units]
  have dev : (readSilent d.val s).task.dev ≠ 4 := (readSilent_reads (·.task.dev) d.val s fun _ _ => rfl) ▸ live
  have die : getDie (fioFrame d.val s) d.val = _ := getDie_updDie_same ..
  refine ⟨?_, ?_, fun n mem => ?_, fun three => ?_, readSilent_reads (·.img) d.val s fun _ _ => rfl⟩
  · rw [die]; exact readSilent_reads absNow d.val s fun _ _ => rfl
  · rw [die]; exact fioCfgOf_readSilent d.val s
  · rw [die]
    exact (getLsbD_frameFc dev mem).trans
      (readSilent_reads (fun u => fcIsOut (getFc u n).cfg && bit (fioCommand u (fioOutWord u) 0) n) d.val s fun _ _ => rfl)
  · rw [three] at die
    rw [three, die]
    dsimp only
    rw [if_pos rfl]
    refine List.map_congr_left fun n _ => ?_
    rw [frameAo, if_neg (three ▸ dev)]
    exact readSilent_reads (fun u => aoClamp (getAo u n).cfg (fioCommand u (fioAoWord u) n)) 3 s fun _ _ => rfl

/-! ### Reports (10 R253) -/

theorem imgWord_imgPut_other {w x : Nat} (h : x ≠ w) (v : Word) (s : State) : imgWord (imgPut w v s) x = imgWord s x := by
  have set (v : Word) : imgWord (imgSet w v s) x = imgWord s x := (wget_wput ..).trans (if_neg h)
  unfold imgPut
  split <;> exact set _

theorem imgWord_imgPut_free {w : Nat} {s : State} (free : tget none s.task.force w = none) (v : Word) :
    imgWord (imgPut w v s) w = v := by
  rw [imgPut, free]
  exact wget_wput_same ..

/-- A unit's word stands in the image where the unit may write it and no record forces it. -/
theorem imgWord_unitUpdate {unit w : Nat} {v : Word} {ws : List (Nat × Word)} {s : State} (serves : ownBuffer s = false)
    (may : unitMay s unit w = true) (free : tget none s.task.force w = none) (apart : ∀ e ∈ ws, e.1 ≠ w) :
    imgWord (unitUpdate unit false ((w, v) :: ws) s) w = v := by
  have plots (ns : List Nat) (u : State) : imgWord (ns.foldl (fun s n => plotUpdate n (some unit) false s) u) w = imgWord u w :=
    foldl_reads (fun u => imgWord u w) (fun _ _ => by rfl) ns u
  have later : ∀ es : List (Nat × Word), (∀ e ∈ es, e.1 ≠ w) → ∀ u, imgWord (imgPuts es u) w = imgWord u w := fun es other u =>
    List.foldlRecOn (motive := fun t => imgWord t w = imgWord u w) es _ rfl fun t ht e he =>
      (imgWord_imgPut_other (other e he).symm ..).trans ht
  unfold unitUpdate
  rw [List.filter_cons_of_pos (by exact may)]
  simp only [plots]
  rw [ioPuts, if_neg (by simp [serves]), imgWord, pairSend_img, ← imgWord]
  exact (later _ (fun e he => apart e (List.mem_filter.mp he).1) _).trans (imgWord_imgPut_free free v)

theorem fioReport_fio (d unit : Nat) (ws : List (Nat × Word)) (s : State) :
    (fioReport d unit ws s).fio = (updDie d (fun x => { x with reportAt := absNow s, lost := false }) s).fio :=
  (unitUpdate_keeps unit false ws).samePart (p := .fio) (by decide) _

theorem getDie_fioReport (d unit : Nat) (ws : List (Nat × Word)) (s : State) :
    getDie (fioReport d unit ws s) d = { getDie s d with reportAt := absNow s, lost := false } := by
  rw [getDie_of_fio (fioReport_fio ..), getDie_updDie_same]

/-- A report leaves the analog inputs. -/
theorem getAi_reportAi (m n : Nat) (s : State) : getAi (reportAi m s) n = getAi s n := getAi_of_fio (fioReport_fio ..) n

/-- The first word of a report stands in the image where the block lies in a plot of T0's field inputs. -/
theorem imgWord_fioReport {d unit w : Nat} {v : Word} {ws : List (Nat × Word)} {s : State} (field : unit < 64) (serves : ownBuffer s = false)
    (plot : inPlot s 1 0 w = true) (free : tget none s.task.force w = none) (apart : ∀ e ∈ ws, e.1 ≠ w) :
    imgWord (fioReport d unit ((w, v) :: ws) s) w = v :=
  imgWord_unitUpdate serves ((if_pos (by simp [field])).trans plot) free apart

theorem laneUpdate_apart {s : State} {w x : Nat} (h : w ≠ x) (ls : List (Nat × Bool)) : ∀ e ∈ laneUpdate s w ls, e.1 ≠ x := by
  unfold laneUpdate
  split <;> simp [h]

/-- The next unit update starts from the word in the image where that is not forced. -/
theorem ioWord_free {s : State} {w : Nat} (serves : ownBuffer s = false) (free : tget none s.task.force w = none) :
    ioWord s w = imgWord s w := by
  rw [ioWord, if_neg (by simp [serves]), unforcedWord, free]

/-- The report of a unit. -/
def unitReport (u : FioUnit) (s : State) : State :=
  match u with
  | .group g => reportGroup g.val s
  | .ai n => reportAi n.val s
  | .ao n m => reportAo n.val m s

theorem fioInputReport_next {s : State} (runs : fioRuns s = true) (u : FioUnit) : exec (.fioInputReport u) s = .next (unitReport u s) := by
  cases u <;> exact congrArg Host.Outcome.next (if_neg (by simp [runs]))

theorem reportGroup_answers {g : Fin 8} {s : State} (runs : fioRuns s = true) (serves : ownBuffer s = false) (mapped : fioInWord s < 20480)
    (plot : inPlot s 1 0 (fioInWord s) = true) (apart : fioInWord s ≠ fioDiagWord s) (free : tget none s.task.force (fioInWord s) = none) :
    Answers (exec (.fioInputReport (.group g)) s) (fun t => (getDie t (g.val / 4)).reportAt = absNow s ∧ (getDie t (g.val / 4)).lost = false ∧
      ∀ l, l < 48 → bit (imgWord t (fioInWord s)) l = if l / 4 = g.val then inLane s l else bit (imgWord s (fioInWord s)) l) := by
  refine ⟨_, fioInputReport_next runs _, ?_, ?_, fun l _ => ?_⟩
  · exact congrArg FioDie.reportAt (getDie_fioReport ..)
  · exact congrArg FioDie.lost (getDie_fioReport ..)
  · have word : imgWord (reportGroup g.val s) (fioInWord s) =
        withLanes (imgWord s (fioInWord s)) ((grpChans g.val).map fun n => (n, inLane s n)) := by
      rw [reportGroup, laneUpdate, if_pos mapped, ioWord_free serves free]
      exact imgWord_fioReport (by omega) serves plot free (laneUpdate_apart apart.symm _)
    dsimp only [unitReport]
    rw [word, bit_withLanes _ fun n hn => by have := mem_grpChans.mp hn; omega]
    simp only [mem_grpChans]

theorem reportAi_answers {n : Fin 4} {s : State} (runs : fioRuns s = true) (serves : ownBuffer s = false)
    (mapped : fioAiWord s + n.val < 20480) (apart : fioAiWord s + n.val ≠ fioDiagWord s) (plot : inPlot s 1 0 (fioAiWord s + n.val) = true)
    (free : tget none s.task.force (fioAiWord s + n.val) = none) :
    Answers (exec (.fioInputReport (.ai n)) s) (fun t => imgWord t (fioAiWord s + n.val) = (getAi s n.val).word) := by
  refine ⟨_, fioInputReport_next runs _, ?_⟩
  dsimp only [unitReport]
  rw [reportAi, if_pos mapped]
  exact imgWord_fioReport (by omega) serves plot free (laneUpdate_apart apart.symm _)

theorem reportAo_answers {n : Fin 4} {s : State} (runs : fioRuns s = true) (serves : ownBuffer s = false)
    (mapped : fioAomWord s + n.val < 20480) (apart : fioAomWord s + n.val ≠ fioDiagWord s)
    (plot : inPlot s 1 0 (fioAomWord s + n.val) = true) (free : tget none s.task.force (fioAomWord s + n.val) = none) (m : Word) :
    Answers (exec (.fioInputReport (.ao n m)) s) (fun t => imgWord t (fioAomWord s + n.val) = m ∧ (getAo t n.val).meas = m) := by
  refine ⟨_, fioInputReport_next runs _, ?_, ?_⟩
  · dsimp only [unitReport]
    unfold reportAo; extract_lets u
    rw [if_pos (show fioAomWord u + n.val < 20480 from mapped)]
    exact imgWord_fioReport (s := u) (by omega) serves plot free (laneUpdate_apart (s := u) apart.symm _)
  · dsimp only [unitReport]
    rw [reportAo, getAo_of_fio (fioReport_fio ..)]
    exact congrArg AoCh.meas (getAo_updAo_same n.val (fun a => { a with meas := m }) s)

theorem dieReportTimeout_answers {d : Fin 4} {s : State} (runs : fioRuns s = true) (heard : (getDie s d.val).lost = false)
    (due : (getDie s d.val).reportAt + 2000000 ≤ absNow s) :
    Answers (exec (.dieReportTimeout d) s) (fun t => (getDie t d.val).lost = true) := by
  change Answers (execDieReportTimeout d s) _
  unfold execDieReportTimeout; dsimp only
  rw [if_pos (by simp [runs, heard, due])]
  exact ⟨_, rfl, by simp⟩

/-! ### Configuration and commands of a frame (10 R252, R261) -/

/-- A configuration taken leaves a die but for its own silence time. -/
theorem dieTake_die (d : Nat) (s : State) :
    (dieTake d s).fio.die = (updDie d (fun x => { x with liveSil := (getDie s d).sentCfg.sil }) s).fio.die := by
  have sensors (live : Tab Word) (u : State) : ({ u with fio := { u.fio with twLive := live } } : State).fio.die = u.fio.die := rfl
  unfold dieTake; extract_lets c u channels inputs outputs field
  split
  · rw [die_foldl_updGrp]
    exact die_foldl_updFc ..
  · split
    · refine (sensors _ _).trans ?_
      unfold outputs
      rw [die_foldl_updAo]
      exact die_foldl_updAi ..
    · rfl

theorem getDie_dieTake (d : Nat) (s : State) : getDie (dieTake d s) d = { getDie s d with liveSil := (getDie s d).sentCfg.sil } := by
  rw [getDie, dieTake_die]
  exact getDie_updDie_same ..

theorem getFc_dieTake {d n : Nat} (mem : n ∈ dieChans d) (s : State) :
    getFc (dieTake d s) n = fcTake ((getDie s d).sentCfg.fc.getD (n % 16) 0#48) (getFc s n) := by
  unfold dieTake; extract_lets c u
  rw [if_pos (mem_dieChans.mp mem).1]
  have groups (f : Nat → FcGrp → FcGrp) (l : List Nat) (v : State) : getFc (l.foldl (fun s g => updGrp g (f g) s) v) n = getFc v n :=
    foldl_reads (fun v => getFc v n) (fun _ _ => by rfl) l v
  rw [groups, getFc_foldl_updFc _ (nodup_dieChans d), if_pos mem]
  rfl

/-- A channel of the same MODE keeps its faults as it takes its register. -/
theorem fcTake_of_mode {w : Word} {c : FcCh} (same : fcMODE c.live = fcMODE w) :
    fcTake w c = { c with live := w, wb := c.wb && bit w 41, opn := c.opn && bit w 22 } := by
  rw [fcTake, if_pos same]

theorem dieCommands_die (d : Nat) (s : State) : (dieCommands d s).fio.die = s.fio.die := by
  unfold dieCommands; dsimp only
  split
  · rw [die_foldl_updAo, die_foldl_updFc]
  · rw [die_foldl_updFc]

theorem getDie_dieCommands (d k : Nat) (s : State) : getDie (dieCommands d s) k = getDie s k := by rw [getDie, dieCommands_die, getDie]

theorem getFc_dieCommands {d n : Nat} (mem : n ∈ dieChans d) (s : State) :
    getFc (dieCommands d s) n = { getFc s n with cmd := (getDie s d).sentFc.getLsbD n } := by
  unfold dieCommands; extract_lets x u
  have other : d ≠ 3 := by have := (mem_dieChans.mp mem).1; omega
  rw [if_neg other]
  exact (getFc_foldl_updFc (fun n c => { c with cmd := x.sentFc.getLsbD n }) (nodup_dieChans d) s n).trans (if_pos mem)

/-! ### Frames received (10 R252, R258, R260, R261) -/

/-- What every accepted frame does first, before the die acts on it: its timer restarts, it serves while its gate toggles, and it
takes its configuration. -/
def frameTaken (d : Nat) (s : State) : State :=
  dieTake d (updDie d (fun x => { x with frameAt := absNow s, serves := x.serves || x.gateStop.isNone }) s)

theorem getDie_frameTaken (d : Nat) (s : State) : getDie (frameTaken d s) d = { getDie s d with
    frameAt := absNow s, serves := (getDie s d).serves || (getDie s d).gateStop.isNone, liveSil := (getDie s d).sentCfg.sil } := by
  rw [frameTaken, getDie_dieTake, getDie_updDie_same]

theorem getFc_frameTaken {d n : Nat} (mem : n ∈ dieChans d) (s : State) :
    getFc (frameTaken d s) n = fcTake ((getDie s d).sentCfg.fc.getD (n % 16) 0#48) (getFc s n) := by
  rw [frameTaken, getFc_dieTake mem, getDie_updDie_same]
  rfl

/-- How a die acts on a frame that it has taken: commands count out of silence, a re-arming frame ends silence, and any other frame leaves
a silent die in its safe states. -/
def frameActs (d : Nat) (s : State) : State :=
  if !(getDie s d).silent then dieDrive d (dieCommands d s)
  else if (getDie s d).sentArm then
    dieDrive d (dieCommands d (fioGln 0x0911 d 0
      (updDie d (fun x => { x with silent := false, fresh := false, told := false, commit := false, sentArm := false }) s)))
  else if (getDie s d).fresh then dieDrive d s
  else dieSafe d s

theorem dieAccept_of_early {d : Nat} {s : State} (early : silenceDue s d = false) : dieAccept d s = frameActs d (frameTaken d s) := by
  have same : (if silenceDue s d then enterSilence d s else s) = s := if_neg (by simp [early])
  unfold dieAccept
  rw [same]
  rfl

theorem dieFrameReceived_awake {d : Fin 4} {s : State} (awake : (getDie s d.val).silent = false) (early : silenceDue s d.val = false) :
    Answers (exec (.dieFrameReceived d true) s) (fun t => (getDie t d.val).frameAt = absNow s ∧ (getDie t d.val).silent = false ∧
      (getDie t d.val).serves = ((getDie s d.val).serves || (getDie s d.val).gateStop.isNone) ∧
      ∀ n ∈ dieChans d.val, (getFc t n).live = (getDie s d.val).sentCfg.fc.getD (n % 16) 0#48 ∧
        (getFc t n).cmd = (getDie s d.val).sentFc.getLsbD n ∧
        (fcMODE (getFc s n).live = 3 → fcMODE ((getDie s d.val).sentCfg.fc.getD (n % 16) 0#48) = 3 →
          (getFc t n).on = ((getDie s d.val).sentFc.getLsbD n && !(getFc s n).ovl && !(getFc s n).therm && !grpBlocked t (n / 4)))) := by
  have taken := getDie_frameTaken d.val s
  have accepts : dieAccept d.val s = dieDrive d.val (dieCommands d.val (frameTaken d.val s)) := by
    rw [dieAccept_of_early early, frameActs, if_pos (by simp [taken, awake])]
  have acts := dieDrive_acts d.val (dieCommands d.val (frameTaken d.val s))
  have die : getDie (dieAccept d.val s) d.val = getDie (frameTaken d.val s) d.val := by
    rw [accepts, acts.die, getDie_dieCommands]
  refine ⟨dieAccept d.val s, rfl, ?_, ?_, ?_, fun n mem => ?_⟩
  · rw [die, taken]
  · rw [die, taken]; exact awake
  · rw [die, taken]
  have commanded := getFc_dieCommands mem (frameTaken d.val s)
  rw [getFc_frameTaken mem, taken] at commanded
  rw [accepts, (acts.stage n).live, (acts.stage n).cmd, commanded]
  refine ⟨rfl, rfl, fun was is => ?_⟩
  rw [dieDrive_plain mem (by rw [commanded]; exact is), acts.blocked, commanded, fcTake_of_mode (was.trans is.symm)]

theorem dieFrameReceived_rearms {d : Fin 4} {s : State} (silent : (getDie s d.val).silent = true) (arms : (getDie s d.val).sentArm = true) :
    Answers (exec (.dieFrameReceived d true) s) (fun t => (getDie t d.val).silent = false ∧ (getDie t d.val).fresh = false ∧
      (getDie t d.val).frameAt = absNow s) := by
  have taken := getDie_frameTaken d.val s
  refine ⟨dieAccept d.val s, rfl, ?_⟩
  dsimp only
  rw [dieAccept_of_early (by simp [silenceDue, silent]), frameActs, if_neg (by simp [taken, silent]), if_pos (by simp [taken, arms]),
    (dieDrive_acts ..).die, getDie_dieCommands, getDie_fioGln, getDie_updDie_same, taken]
  exact ⟨rfl, rfl, rfl⟩

/-! ### Silence, the serve gate and the supplies (10 R251, R260, 15 R370) -/

theorem dieSafe_die (d k : Nat) (s : State) : getDie (dieSafe d s) k = getDie s k := by
  unfold dieSafe; extract_lets u v
  have channels : getDie u k = getDie s k := foldl_reads (getDie · k) (fun _ _ => by rfl) _ _
  have analog : getDie v k = getDie u k := by
    unfold v
    split
    · exact foldl_reads (getDie · k) (fun _ _ => by rfl) _ _
    · rfl
  rw [(dieDrive_acts d v).die, analog, channels]

theorem dieSafe_cmd {d n : Nat} (mem : n ∈ dieChans d) (s : State) :
    (getFc (dieSafe d s) n).cmd = (fcIsOut (getFc s n).live && fcSafe (getFc s n).live (getFc s n).cmd) := by
  unfold dieSafe; extract_lets u v
  have other : d ≠ 3 := by have := (mem_dieChans.mp mem).1; omega
  have channels : getFc u n = { getFc s n with cmd := fcIsOut (getFc s n).live && fcSafe (getFc s n).live (getFc s n).cmd } :=
    (getFc_foldl_updFc (fun _ c => { c with cmd := fcIsOut c.live && fcSafe c.live c.cmd }) (nodup_dieChans d) s n).trans (if_pos mem)
  rw [((dieDrive_acts d v).stage n).cmd, show v = u from if_neg other, channels]

theorem dieSafe_ao {n : Nat} (low : n < 4) (s : State) : (getAo (dieSafe 3 s) n).cmd = aoSafe (getAo s n).live (getAo s n).cmd := by
  unfold dieSafe; extract_lets u v
  have channels : getAo u n = getAo s n := foldl_reads (getAo · n) (fun _ _ => by rfl) _ _
  rw [(dieDrive_acts 3 v).ao]
  exact (congrArg AoCh.cmd ((getAo_foldl_updAo (fun _ a => { a with cmd := aoSafe a.live a.cmd }) List.nodup_range u n).trans
    (if_pos (List.mem_range.mpr low)))).trans (by rw [channels])

theorem silenceExpiry_answers {d : Fin 4} {s : State} (due : silenceDue s d.val = true) :
    Answers (exec (.silenceExpiry d) s) (fun t => (getDie t d.val).silent = true ∧
      (∀ n ∈ dieChans d.val, (getFc t n).cmd = (fcIsOut (getFc s n).live && fcSafe (getFc s n).live (getFc s n).cmd)) ∧
      (d.val = 3 → ∀ n, n < 4 → (getAo t n).cmd = aoSafe (getAo s n).live (getAo s n).cmd)) := by
  refine ⟨enterSilence d.val s, ?_, ?_⟩
  · change execSilenceExpiry d s = _
    rw [execSilenceExpiry, if_pos due]
  unfold enterSilence; extract_lets safe saf opened
  have field : opened.fio = safe.fio := by unfold opened; split <;> rfl
  have beside {α : Type} (r : Fio → α) (blind : ∀ f x, r { f with die := x } = r f) :
      r (if fioRuns opened && !boot opened then readSilent d.val opened else opened).fio = r safe.fio := by
    split
    · exact (readSilent_reads (fun u => r u.fio) _ _ fun _ _ => blind ..).trans (congrArg r field)
    · exact congrArg r field
  have silent : (getDie safe d.val).silent = true := by rw [dieSafe_die, getDie_updDie_same]
  refine ⟨?_, fun n mem => ?_, fun three n low => ?_⟩
  · split
    · obtain ⟨told, commit, die⟩ := getDie_readSilent d.val opened
      rw [die]; exact (congrArg FioDie.silent (getDie_of_fio field _)).trans silent
    · rw [getDie_of_fio field]; exact silent
  · exact (congrArg FcCh.cmd (beside (fun f => tget ({} : FcCh) f.fc n) fun _ _ => rfl)).trans (dieSafe_cmd mem _)
  · refine (congrArg AoCh.cmd (beside (fun f => tget ({} : AoCh) f.ao n) fun _ _ => rfl)).trans ?_
    unfold safe
    rw [three]
    exact dieSafe_ao low _

theorem serveGateLoss_answers {d : Fin 4} {l : Nat} {s : State} (stopped : (getDie s d.val).gateStop = some l)
    (served : (getDie s d.val).serves = true) (due : l + 3000 ≤ absNow s) :
    Answers (exec (.serveGateLoss d) s) (fun t => (getDie t d.val).serves = false ∧
      ∀ n ∈ dieChans d.val, fcIsOut (getFc s n).live = true → (getFc t n).on = false) := by
  change Answers (execServeGateLoss d s) _
  unfold execServeGateLoss
  simp only [stopped]
  rw [if_pos (by simp [served, due])]
  refine ⟨_, rfl, ?_, fun n mem output => dieDrive_off (by simp [dieDrives]) mem output⟩
  rw [(dieDrive_acts ..).die, getDie_updDie_same]

/-- A supply that is low counts a fault at its channels, and leaves the supplies and the channels' registers. -/
theorem supplyFaults_leaves (l : List Nat) (s : State) :
    let t := l.foldl (fun s n => if fcMODE (getFc s n).live = 0 then s
      else if fcIsOut (getFc s n).live then outDiagFire n (fcFault n s) else fcFault n s) s
    t.fio.uv = s.fio.uv ∧ ∀ n, (getFc t n).live = (getFc s n).live := by
  have counted (u : State) (k n : Nat) : (getFc (fcFault k u) n).live = (getFc u n).live := fcFault_reads FcCh.live (fun _ _ => rfl) k n u
  constructor
  · refine foldl_reads (·.fio.uv) (fun u k => ?_) l s
    split
    · rfl
    · split
      · rw [outDiagFire_fio]; rfl
      · rfl
  · intro n
    refine foldl_reads (fun u => (getFc u n).live) (fun u k => ?_) l s
    split
    · rfl
    · split
      · rw [getFc_outDiagFire]; exact counted u k n
      · exact counted u k n

theorem diePowerUp_uv (d : Nat) (s : State) : (diePowerUp d s).fio.uv = s.fio.uv := by
  unfold diePowerUp; extract_lets a b c saf e f g
  have channels : b.fio.uv = s.fio.uv := foldl_reads (·.fio.uv) (fun _ _ => by rfl) _ _
  have groups : c.fio.uv = b.fio.uv := by
    unfold c
    split
    · exact foldl_reads (·.fio.uv) (fun _ _ => by rfl) _ _
    · rfl
  have switches : e.fio.uv = c.fio.uv := by unfold e; split <;> rfl
  have inputs : f.fio.uv = e.fio.uv := foldl_reads (·.fio.uv) (fun _ _ => by rfl) _ _
  have outputs : g.fio.uv = f.fio.uv := foldl_reads (·.fio.uv) (fun _ _ => by rfl) _ _
  split
  · exact outputs.trans (inputs.trans (switches.trans (groups.trans channels)))
  · exact switches.trans (groups.trans channels)

theorem supplyReturn_uv (d : Nat) (s : State) : (supplyReturn d s).fio.uv = s.fio.uv := by
  unfold supplyReturn; dsimp only
  split
  · exact diePowerUp_uv ..
  · rfl

theorem fieldSupplyUv_answers {k : Fin 10} {low : Bool} {s : State} (change : supplyLow s k.val ≠ low) :
    Answers (exec (.fieldSupplyUv k low) s) (fun t => supplyLow t k.val = low ∧
      (low = true → k.val < 8 → ∀ n ∈ grpChans k.val, fcIsOut (getFc s n).live = true → (getFc t n).on = false)) := by
  change Answers (execFieldSupplyUv k low s) _
  unfold execFieldSupplyUv; extract_lets m back field told powered counted
  rw [if_neg (by simpa [m] using change)]
  have noted : tget false told.fio.uv m = low := by simp [told]
  have supply : tget false powered.fio.uv m = low := by
    unfold powered
    split
    · rw [supplyReturn_uv]; exact noted
    · exact noted
  split
  next fc =>
    have faults := supplyFaults_leaves (grpChans m) powered
    have still : supplyLow counted m = low := by
      unfold counted supplyLow
      split
      · rw [faults.1]; exact supply
      · exact supply
    refine ⟨_, rfl, ((grpDrive_acts ..).low m).trans still, fun isLow _ n mem output => ?_⟩
    subst isLow
    refine grpDrive_off (by simp [grpBlocked, still]) mem ?_
    have live : (getFc counted n).live = (getFc s n).live := by
      unfold counted
      rw [if_pos rfl, faults.2]
      exact congrArg FcCh.live (getFc_of_fio (fioGln_fio ..) n)
    rw [live]; exact output
  next other =>
    split
    · refine ⟨_, rfl, ?_, fun _ fc => absurd fc other⟩
      refine (foldl_reads (fun u => supplyLow u m) (fun u n => ?_) _ powered).trans supply
      split
      · rw [supplyLow, fire_fio, supplyLow]
      · rfl
    · exact ⟨_, rfl, supply, fun _ fc => absurd fc other⟩

/-- Settles O36: a frame carries what stands in the image and the registers; a die that accepts one takes it and drives its groups; where a
die does not drive or a supply is low, the drive of the group turns its outputs off. That a die keeps what its last accepted frame carried,
and holds it apart from the registers as set, is the model's reading (log 81). -/
theorem fieldDiesServe : Obligations.FieldDiesServe :=
  ⟨fun _ _ => fioOutputFrame_answers, fun _ _ => rfl, fun _ _ => dieFrameReceived_awake, fun _ _ => dieFrameReceived_rearms,
    fun _ _ => reportGroup_answers, fun _ _ => reportAi_answers,
    fun _ m _ runs serves mapped apart plot free => reportAo_answers runs serves mapped apart plot free m,
    fun _ _ => dieReportTimeout_answers, fun _ _ => silenceExpiry_answers, fun _ _ _ => serveGateLoss_answers,
    fun _ _ _ => fieldSupplyUv_answers⟩

end Sys2Proof.Machine
end

section
/-! SUPPORT. Field channels at work: inputs, plain outputs, bank groups, analog channels, tooth sensors and mains inputs (10 R255 to R267).
Obligation O37. -/

namespace Sys2Proof.Machine

/-! ### Inputs (10 R255, R256) -/

/-- A source of an FC channel that is enabled is pending once it has fired. -/
theorem evtPending_fire_channel {n : Nat} (channel : n < 32) {s : State} (enabled : bit (evtSrc s n) 22 = true) :
    evtPending (fire n s) n = true := by
  rw [evtPending_fire n n s (by omega), if_pos]
  refine ⟨rfl, ?_, enabled⟩
  simp [evtReserved]; omega

theorem inputFilterAccept_answers {n : Fin 32} {v : Bool} {s : State} (input : fcIsIn (getFc s n.val).live = true)
    (change : (getFc s n.val).input ≠ v) :
    Answers (exec (.inputFilterAccept n v) s) (fun t => (getFc t n.val).input = v ∧ (getFc t n.val).edges = ((getFc s n.val).edges + 1) % 65536 ∧
      ((if v then bit (getFc s n.val).live 42 else bit (getFc s n.val).live 43) = true → bit (evtSrc s n.val) 22 = true →
        evtPending t n.val = true) ∧ ∀ m, m ≠ n.val → getFc t m = getFc s m) := by
  change Answers (execInputFilterAccept n v s) _
  unfold execInputFilterAccept; extract_lets c u
  rw [if_neg (by simp [c, input, change])]
  refine ⟨_, rfl, ?_⟩
  by_cases told : (if v then bit c.live 42 else bit c.live 43) = true
  · rw [if_pos told]
    simp only [getFc_fire]
    exact ⟨by simp [u], by simp [u], fun _ enabled => evtPending_fire_channel n.isLt enabled, fun m other => getFc_updFc_other other _ s⟩
  · rw [if_neg told]
    exact ⟨by simp [u], by simp [u], fun set => absurd set told, fun m other => getFc_updFc_other other _ s⟩

theorem wireBreakChange_answers {n : Fin 32} {b : Bool} {s : State} (input : fcIsIn (getFc s n.val).live = true)
    (watched : bit (getFc s n.val).live 41 = true) (change : (getFc s n.val).wb ≠ b) :
    Answers (exec (.wireBreakChange n b) s) (fun t => (getFc t n.val).wb = b ∧
      (getFc t n.val).faults = (if b then min 65535 ((getFc s n.val).faults + 1) else (getFc s n.val).faults)) := by
  change Answers (execWireBreakChange n b s) _
  unfold execWireBreakChange; extract_lets c u
  rw [if_neg (by simp [c, input, watched, change])]
  refine ⟨_, rfl, ?_⟩
  cases b
  · simp [u]
  · simp [u, fcFault]

/-! ### Plain outputs (10 R257) -/

theorem outputOverload_answers {n : Fin 32} {s : State} (plain : fcMODE (getFc s n.val).live = 3) (on : (getFc s n.val).on = true)
    (th : Bool) : Answers (exec (.outputOverload n th) s) (fun t => (getFc t n.val).on = false ∧
      (getFc t n.val).ovl = ((getFc s n.val).ovl || !th) ∧ (getFc t n.val).therm = ((getFc s n.val).therm || th) ∧
      (getFc t n.val).faultAt = absNow s ∧ (getFc t n.val).faults = min 65535 ((getFc s n.val).faults + 1)) := by
  change Answers (execOutputOverload n th s) _
  unfold execOutputOverload; extract_lets c u
  rw [if_neg (by simp [c, plain, on])]
  refine ⟨_, rfl, ?_⟩
  simp [u]

theorem outputRetry_answers {n : Fin 32} {s : State} (plain : fcMODE (getFc s n.val).live = 3) (cmd : (getFc s n.val).cmd = true)
    (faulty : (getFc s n.val).ovl = true ∨ (getFc s n.val).therm = true) (free : grpBlocked s (n.val / 4) = false)
    (due : (getFc s n.val).faultAt + 100000000 ≤ absNow s) (ok : Bool) : Answers (exec (.outputRetry n ok) s) (fun t =>
      (ok = true → (getFc t n.val).on = true ∧ (getFc t n.val).ovl = false ∧ (getFc t n.val).therm = false) ∧
      (ok = false → (getFc t n.val).on = (getFc s n.val).on ∧ (getFc t n.val).ovl = (getFc s n.val).ovl ∧
        (getFc t n.val).faultAt = absNow s)) := by
  change Answers (execOutputRetry n ok s) _
  unfold execOutputRetry; extract_lets k c back told again
  have flagged : (c.ovl || c.therm) = true := by simpa using faulty
  rw [if_neg (by simp [c, k, plain, cmd, flagged, free, due])]
  cases ok
  · exact ⟨_, rfl, nofun, fun _ => by simp [again, c, k]⟩
  · refine ⟨_, rfl, fun _ => ?_, nofun⟩
    have channel : getFc (if c.therm = true then laneGln 0x0907 k 0 told else told) n.val = getFc back n.val := by
      unfold told
      (repeat' split) <;> simp
    rw [channel]
    simp [back, k]

theorem openLoadDetect_answers {n : Fin 32} {o : Bool} {s : State} (plain : fcMODE (getFc s n.val).live = 3)
    (watched : bit (getFc s n.val).live 22 = true) (serves : (getDie s (n.val / 16)).serves = true) (change : (getFc s n.val).opn ≠ o) :
    Answers (exec (.openLoadDetect n o) s) (fun t => (getFc t n.val).opn = o ∧ (getFc t n.val).on = (getFc s n.val).on) := by
  change Answers (execOpenLoadDetect n o s) _
  unfold execOpenLoadDetect; extract_lets c u
  rw [if_neg (by simp [c, plain, watched, serves, change])]
  refine ⟨_, rfl, ?_⟩
  split <;> simp [u]

/-! ### Bank groups (10 R259) -/

theorem peakPhaseEnd_next {n : Fin 32} {s : State} (bank : fcIsBank (getFc s n.val).live = true) (on : (getFc s n.val).on = true)
    (peak : (getFc s n.val).hold = false) (timed : fld (getFc s n.val).live 20 13 ≠ 0)
    (due : (getFc s n.val).granted + fld (getFc s n.val).live 20 13 * 1000000 ≤ absNow s) :
    exec (.peakPhaseEnd n) s = .next (updFc n.val (fun c => { c with hold := true }) s) := by
  change execPeakPhaseEnd n s = _
  unfold execPeakPhaseEnd; dsimp only
  rw [if_pos (by simp [bank, on, peak, timed, due])]

/-- The fault of a group counts at its bank members, and their switches and the groups are as they were. -/
theorem bankFaults_leaves (l : List Nat) (s : State) :
    let t := l.foldl (fun s n => if fcIsBank (getFc s n).live then outDiagFire n (fcFault n s) else s) s
    t.fio.grp = s.fio.grp ∧ ∀ n, (getFc t n).on = (getFc s n).on := by
  constructor
  · refine foldl_reads (·.fio.grp) (fun u k => ?_) l s
    split
    · rw [outDiagFire_fio]; rfl
    · rfl
  · intro n
    refine foldl_reads (fun u => (getFc u n).on) (fun u k => ?_) l s
    split
    · rw [getFc_outDiagFire]
      exact fcFault_reads FcCh.on (fun _ _ => rfl) k n u
    · rfl

theorem groupOverloadTrip_answers {g : Fin 8} {s : State} (loaded : grpOn s g.val ≠ 0) (up : (getGrp s g.val).trip = false) :
    Answers (exec (.groupOverloadTrip g) s) (fun t => (getGrp t g.val).trip = true ∧ (getGrp t g.val).tripAt = absNow s ∧
      ∀ n ∈ grpChans g.val, fcIsBank (getFc s n).live = true → (getFc t n).on = false) := by
  change Answers (execGroupOverloadTrip g s) _
  unfold execGroupOverloadTrip; extract_lets k on again tripped driven
  rw [if_neg (by simp [on, k, loaded, up])]
  obtain ⟨grps, ons⟩ := bankFaults_leaves (grpChans k) driven
  have acts : StagesAct (grpChans k) tripped (grpDrive (absNow tripped) tripped k) := grpDrive_acts ..
  have trip : getGrp driven k = { getGrp s k with trip := true, tripAt := absNow s, tries := if again then (getGrp s k).tries else 0 } := by
    rw [getGrp_laneGln, acts.grp, getGrp_updGrp_same]
  refine ⟨_, rfl, ?_, ?_, fun n mem bank => ?_⟩
  · rw [getGrp, grps]; exact congrArg FcGrp.trip trip
  · rw [getGrp, grps]; exact congrArg FcGrp.tripAt trip
  · have blocked : grpBlocked tripped k = true := by simp [grpBlocked, tripped]
    rw [ons, getFc_laneGln]
    exact grpDrive_off blocked mem (by rw [fcIsOut, Bool.or_eq_true]; exact .inr bank)

theorem groupRetry_answers {g : Fin 8} {s : State} (trip : (getGrp s g.val).trip = true) (few : (getGrp s g.val).tries < 3)
    (due : (getGrp s g.val).tripAt + 1000000000 ≤ absNow s) :
    Answers (exec (.groupRetry g) s) (fun t => (getGrp t g.val).trip = false ∧ (getGrp t g.val).tries = (getGrp s g.val).tries + 1) := by
  change Answers (execGroupRetry g s) _
  unfold execGroupRetry; dsimp only
  rw [if_pos (by simp [trip, few, due])]
  refine ⟨_, rfl, ?_⟩
  dsimp only
  rw [(grpDrive_acts ..).grp, getGrp_updGrp_same]
  exact ⟨rfl, rfl⟩

/-! ### Analog channels (10 R262, R264) -/

theorem aiFilter_of_no_tau {n : Nat} {s : State} (tau : fld (getAi s n).live 43 30 = 0) (v : Word) : aiFilter n v s = (v, s) := by
  unfold aiFilter
  simp [tau]

theorem aiScale_of_unscaled {a : AiCh} (unscaled : bit a.live 44 = false) (x : Word) (s : State) : aiScale a x s = (x, s) := by
  unfold aiScale
  simp [unscaled]

/-- A sample fills its input: the value as it came in, its word, and the fault at once where it is out of range. -/
theorem getAi_aiSample (n : Nat) (raw : Word) (s : State) : (getAi (aiSample n raw s) n).raw = raw ∧
    (fld (getAi s n).live 43 30 = 0 → bit (getAi s n).live 44 = false → (getAi (aiSample n raw s) n).word = aiClamp (getAi s n).live raw) ∧
    (aiOut (getAi s n).live raw = true → (getAi (aiSample n raw s) n).fault = true) := by
  have filtered : (aiFilter n (aiClamp (getAi s n).live raw) s).2.fio = s.fio := (aiFilter_keeps n _).samePart (p := .fio) (by decide) s
  have unfiltered : fld (getAi s n).live 43 30 = 0 → aiFilter n (aiClamp (getAi s n).live raw) s = (aiClamp (getAi s n).live raw, s) :=
    fun tau => aiFilter_of_no_tau tau _
  have noted (starts ends : Bool) (t : State) :
      getAi (if starts then fire (60 + n) (laneGln 0x0920 n 1 t) else if ends then laneGln 0x0920 n 0 t else t) n = getAi t n := by
    (repeat' split) <;> simp
  unfold aiSample; dsimp only
  rcases hx : aiFilter n (aiClamp (getAi s n).live raw) s with ⟨x, t⟩
  rw [hx] at filtered unfiltered
  have unscaled : bit (getAi t n).live 44 = false → aiScale (getAi t n) x t = (x, t) := fun off => aiScale_of_unscaled off x t
  rcases hv : aiScale (getAi t n) x t with ⟨v, u⟩
  rw [hv, getAi_of_fio filtered] at unscaled
  dsimp only
  rw [getAi_reportAi, noted, getAi_updAi_same]
  refine ⟨rfl, fun tau off => ?_, fun out => by simp [out]⟩
  exact (congrArg Prod.fst (unscaled off)).trans (congrArg Prod.fst (unfiltered tau))

theorem aiSample_answers {n : Fin 4} {s : State} (runs : fioRuns s = true) (used : fld (getAi s n.val).live 47 46 ≠ 0) (raw : Word) :
    Answers (exec (.aiSample n raw) s) (fun t => (getAi t n.val).raw = raw ∧
      (fld (getAi s n.val).live 43 30 = 0 → bit (getAi s n.val).live 44 = false →
        (getAi t n.val).word = aiClamp (getAi s n.val).live raw) ∧
      (aiOut (getAi s n.val).live raw = true → (getAi t n.val).fault = true)) := by
  refine ⟨aiSample n.val raw s, ?_, getAi_aiSample n.val raw s⟩
  change execAiSample n raw s = _
  rw [execAiSample, if_pos (by simp [runs, used])]

theorem aoLoopFault_low {n : Fin 4} {m : Word} {s : State} (serves : (getDie s 3).serves = true) (up : (getAo s n.val).low = false)
    (below : m.toInt * 10 + 2 ^ 32 < (aoDrive s n.val).toInt * 10) :
    Answers (exec (.aoLoopFault n .loopLow true m) s) (fun t => (getAo t n.val).low = true ∧ (getAo t n.val).meas = m) := by
  change Answers (execAoLoopFault n .loopLow true m s) _
  unfold execAoLoopFault; dsimp only
  have holds : decide (m.toInt * 10 + 2 ^ 32 < (aoDrive s n.val).toInt * 10) = true := decide_eq_true below
  rw [if_neg (by simp [serves]), if_pos rfl, holds, if_neg (by simp [up])]
  exact ⟨_, rfl, by simp⟩

theorem aoLoopFault_open {n : Fin 4} {m : Word} {s : State} (serves : (getDie s 3).serves = true) (up : (getAo s n.val).opn = false)
    (little : m.toInt * 10 < 2 ^ 32) (commanded : (mA 36).toInt ≤ (aoDrive s n.val).toInt) :
    Answers (exec (.aoLoopFault n .openLoop true m) s) (fun t => (getAo t n.val).opn = true ∧ (getAo t n.val).meas = m) := by
  change Answers (execAoLoopFault n .openLoop true m s) _
  unfold execAoLoopFault; dsimp only
  have condition : (decide (m.toInt * 10 < 2 ^ 32) && decide ((mA 36).toInt ≤ (aoDrive s n.val).toInt)) = true := by
    rw [decide_eq_true little, decide_eq_true commanded]; rfl
  rw [if_neg (by simp [serves]), condition, if_neg (by simp [up])]
  exact ⟨_, rfl, by simp⟩

/-! ### Tooth sensors and mains inputs (10 R266, R267) -/

theorem twSensorFault_answers {n : Fin 4} {f : Bool} {s : State} (change : tget false s.fio.twFault n.val ≠ f) :
    Answers (exec (.twSensorFault n f) s) (fun t => tget false t.fio.twFault n.val = f ∧ t.tb = s.tb) := by
  change Answers (execTwSensorFault n f s) _
  unfold execTwSensorFault; extract_lets k field noted told
  rw [if_neg (by simp [k, change])]
  have same : told.tb = s.tb := (fioGln_keeps _ _ _).samePart (p := .tb) (by decide) noted
  have fault : tget false told.fio.twFault k = f := by simp [told, noted]
  refine ⟨_, rfl, ?_⟩
  split
  · rw [fire_fio, fire_tb]; exact ⟨fault, same⟩
  · exact ⟨fault, same⟩

theorem mainsOverRange_next {m : Fin 2} {s : State} (runs : fioRuns s = true)
    (due : ∀ l, tget none s.fio.overAt m.val = some l → l + 1000000000 ≤ absNow s) :
    exec (.mainsOverRange m) s = .next (gln 0x0931 3 0 (m.val : Nat) 1
      { s with fio := { s.fio with overAt := tput none m.val (some (absNow s)) s.fio.overAt } }) := by
  change execMainsOverRange m s = _
  unfold execMainsOverRange; extract_lets k isDue
  have hdue : isDue = true := by
    unfold isDue
    split
    next l last => simp [due l last]
    · rfl
  rw [hdue, runs, Bool.and_self, if_pos rfl, fioGln, if_neg (by simp [not_inReset_of_fioRuns runs])]
  rfl

/-- Settles O37: each event passes its guards and then does what its rule says; a trip turns a group's members off through the drive of the
group's outputs. The second parameter 1 of 0x0931 is the model's choice (log 82), and so is that an analog input's fault is judged on the
sample as it comes in, and its word formed from the clamped one (log 84). -/
theorem fieldChannelsReport : Obligations.FieldChannelsReport :=
  ⟨fun _ _ _ => inputFilterAccept_answers, fun _ _ _ => wireBreakChange_answers, fun _ th _ plain on => outputOverload_answers plain on th,
    fun _ ok _ plain cmd faulty free due => outputRetry_answers plain cmd faulty free due ok, fun _ _ _ => openLoadDetect_answers,
    fun _ _ => peakPhaseEnd_next, fun _ _ => groupOverloadTrip_answers, fun _ _ => groupRetry_answers,
    fun _ raw _ runs used => aiSample_answers runs used raw,
    fun _ _ _ serves => ⟨aoLoopFault_low serves, aoLoopFault_open serves⟩,
    fun _ _ _ => twSensorFault_answers, fun _ _ => mainsOverRange_next⟩

end Sys2Proof.Machine
end

section
/-! SUPPORT. The commands that map the field words, set channels, groups, dies and sensors, and read and clear their states (10 R252, R254,
R258, R268 to R270, Table 10-13). Obligation O38. -/

namespace Sys2Proof.Machine

/-! ### Fields and payloads -/

/-- A mask that covers a field leaves it. -/
theorem fld_and_of_ones {hi lo : Nat} {m : Word} (ones : fld m hi lo = 2 ^ (hi + 1 - lo) - 1) (w : Word) :
    fld (w &&& m) hi lo = fld w hi lo := by
  refine Nat.eq_of_testBit_eq fun k => ?_
  have covered : (fld m hi lo).testBit k = decide (k < hi + 1 - lo) := by rw [ones, Nat.testBit_two_pow_sub_one]
  rw [testBit_fld] at covered
  rw [testBit_fld, testBit_fld, BitVec.getLsbD_and]
  by_cases inside : k < hi + 1 - lo
  · simp only [inside, decide_true, Bool.true_and] at covered ⊢
    rw [covered, Bool.and_true]
  · simp [inside]

/-- The word behind the selector and the level of an expert form. -/
theorem beW_third (a b : Byte) (w : Word) (p : Bytes) : beW (a :: b :: (wB w ++ p)) 2 = w :=
  (beW_append_right [a, b] _ 0).trans (beW_wB_append w p)

/-- An expert form names its object and its level, and gives its word. -/
theorem expertForm {q : Bytes} (n : Byte) (w : Word) (p : Bytes) (payload : q = n :: 1#8 :: (wB w ++ p)) :
    u8 q 0 = n.toNat ∧ u8 q 1 = 1 ∧ levelOk q 1 = true ∧ beW q 2 = w := by
  subst payload
  exact ⟨rfl, rfl, rfl, beW_third ..⟩

/-- A basic form names its object and its level. -/
theorem basicForm (n : Byte) (p : Bytes) : u8 (n :: 0#8 :: p) 0 = n.toNat ∧ u8 (n :: 0#8 :: p) 1 = 0 ∧ levelOk (n :: 0#8 :: p) 1 = true :=
  ⟨rfl, rfl, rfl⟩

/-- A setting command of T0 whose form, state and fields pass does what it is for. -/
theorem setting_passes {t : Nat} {p : Bytes} {forms : List (Nat × Nat)} {listed allowed fields : Bool} {s x : State} (t0 : t = 0)
    (form : formLen p 1 forms = .ok ()) (changes : Changes s) (state : allowed = true) (sound : fields = true) :
    (do perm (t = 0); formLen p 1 forms; stSel listed s allowed; par fields; done x : MbR) = done x :=
  need_then (by simp [t0]) (ok_then form (ok_then (stSel_of_true changes _ state) (need_then sound rfl)))

/-- A setting command that ends with an entry: outside the mailboxes stands what it set. -/
theorem fieldSet_done {i : Fin 16 → Bytes → Instr} {ch : Fin 16} {p : Bytes} {s x : State} {f : Nat → Nat → Bytes → State → MbR} {n : Nat}
    {P : State → Prop} (hi : ∀ s, exec (i ch p) s = runMb ch (commandCode (i ch p)) f p s)
    (runs : f (tenantOf s ch) ch.val p s = done (fioGln 0x0940 n 0 x)) (after : ∀ t, t.fio = x.fio → P t) : MbDone i ch p s P :=
  mbGives_of_reply hi runs rfl fun t kept _ => after t ((kept.2 .fio (by decide)).trans (fioGln_fio ..))

/-! ### The map (10 R254) -/

theorem mbFioMapSet_done {ch : Fin 16} {a b : Word} {s : State} (t0 : tenantOf s ch = 0) (changes : Changes s) :
    let m0 := a &&& 0xFFFFFFFFFFF8#48
    let m1 := b &&& 0xFFFFFFFFFFF8#48
    fioBlockOk s 1 (fld m0 47 33) 1 = true → fioBlockOk s 1 (fld m0 32 18) 1 = true → fioBlockOk s 0 (fld m0 17 3) 1 = true →
    fioBlockOk s 1 (fld m1 47 33) 4 = true → fioBlockOk s 0 (fld m1 32 18) 4 = true → fioBlockOk s 1 (fld m1 17 3) 4 = true →
    fioDisjoint ([(fld m0 47 33, 1), (fld m0 32 18, 1), (fld m0 17 3, 1), (fld m1 47 33, 4), (fld m1 32 18, 4), (fld m1 17 3, 4)].filter
      (fun b => b.1 != 0x7FFF)) = true →
    MbDone .mbFioMapSet ch (wB a ++ wB b) s (fun t => t.fio.map0 = m0 ∧ t.fio.map1 = m1 ∧ t.fio.fc = s.fio.fc) := by
  intro m0 m1 inWord diagWord outWord aiWord aoWord aomWord disjoint
  have first : beW (wB a ++ wB b) 0 = a := beW_wB_append a _
  have second : beW (wB a ++ wB b) 6 = b := (beW_append_right (wB a) _ 0).trans (by simpa using beW_wB_append b [])
  refine fieldSet_done (f := mbFioMapSet) (n := 0) (x := { s with fio := { s.fio with map0 := m0, map1 := m1 } }) (fun _ => rfl) ?_ fun t same => ?_
  · unfold mbFioMapSet
    rw [first, second]
    refine need_then (by simp [t0]) (ok_then (lenIs_ok (by simp)) (ok_then (stChg_ok changes) (need_then ?_ rfl)))
    simp only [Bool.and_eq_true]
    exact ⟨⟨⟨⟨⟨⟨inWord, diagWord⟩, outWord⟩, aiWord⟩, aoWord⟩, aomWord⟩, disjoint⟩
  · rw [same]; exact ⟨rfl, rfl, rfl⟩

/-! ### FC channels and groups (10 R258, R268) -/

/-- FC_CFG of an expert form: its fields, and the expert level. -/
def fcExpert (w : Word) : Word := setBit (w &&& 0xFFFFFFFFFFC0#48) 44 true

theorem grpBasic_fc (g n : Nat) (s : State) : getFc (grpBasic g s) n = getFc s n := by
  unfold grpBasic
  split <;> rfl

/-- A channel's register set, with the group's basic MAX_ON behind it. -/
def fcSet (n : Nat) (w : Word) (s : State) : State := grpBasic (n / 4) (updFc n (fun c => { c with cfg := w }) s)

theorem getFc_fcSet (n m : Nat) (w : Word) (s : State) :
    getFc (fcSet n w s) m = if m = n then { getFc s n with cfg := w } else getFc s m := by
  rw [fcSet, grpBasic_fc, getFc_updFc]

theorem mbFcSet_expert {ch : Fin 16} {n : Byte} {w : Word} {s : State} (t0 : tenantOf s ch = 0) (changes : Changes s) (channel : n.toNat < 32)
    (mode : fcMODE (fcExpert w) = fcMODE (getFc s n.toNat).cfg ∨ devMode s = 1) (fields : fcCfgOk (fcExpert w) = true)
    (group : fcGroupOk s n.toNat (fcExpert w) = true) :
    MbDone .mbFcSet ch ([n, 1#8] ++ wB w) s (fun t => (getFc t n.toNat).cfg = fcExpert w ∧ (getFc t n.toNat).live = (getFc s n.toNat).live ∧
      ∀ m, m ≠ n.toNat → getFc t m = getFc s m) := by
  obtain ⟨number, level, levelled, word⟩ := expertForm (q := [n, 1#8] ++ wB w) n w [] (by simp)
  have listed : fcListed (fcExpert w) = true := by
    rw [fcCfgOk, Bool.and_eq_true, Bool.and_eq_true] at fields
    exact fields.1.1
  have expert : setBit (w &&& 0xFFFFFFFFFFC0#48) 44 true = fcExpert w := rfl
  refine fieldSet_done (f := mbFcSet) (n := n.toNat) (x := fcSet n.toNat (fcExpert w) s) (fun _ => rfl) ?_ fun t same => ?_
  · unfold mbFcSet
    simp only [number, level, levelled, word, expert, if_neg (show ¬ 1 = 0 by decide)]
    refine setting_passes t0 (formLen_ok (n := 8) rfl (by simp) (by simp)) changes ?_ ?_
    · rcases mode with mode | mode <;> simp [mode]
    · simp [channel, listed, fields, group]
  · simp only [getFc_of_fio same, getFc_fcSet]
    exact ⟨by simp, by simp, fun m other => if_neg other⟩

theorem fcBasic_ok {m : Nat} (listed : m ≤ 4) : fcCfgOk (fcBasic m) = true := by
  interval_cases m <;> decide

theorem mbFcSet_basic {ch : Fin 16} {n m : Byte} {s : State} (t0 : tenantOf s ch = 0) (changes : Changes s) (channel : n.toNat < 32)
    (modes : m.toNat ≤ 4) (mode : fcMODE (fcBasic m.toNat) = fcMODE (getFc s n.toNat).cfg ∨ devMode s = 1)
    (group : fcGroupOk s n.toNat (fcBasic m.toNat) = true) :
    MbDone .mbFcSet ch [n, 0#8, m] s (fun t => (getFc t n.toNat).cfg = fcBasic m.toNat) := by
  obtain ⟨number, level, levelled⟩ := basicForm n [m]
  have given : u8 [n, 0#8, m] 2 = m.toNat := rfl
  have fields := fcBasic_ok modes
  have listed : fcListed (fcBasic m.toNat) = true := by
    rw [fcCfgOk, Bool.and_eq_true, Bool.and_eq_true] at fields
    exact fields.1.1
  refine fieldSet_done (f := mbFcSet) (n := n.toNat) (x := fcSet n.toNat (fcBasic m.toNat) s) (fun _ => rfl) ?_ fun t same => ?_
  · unfold mbFcSet
    simp only [number, level, levelled, given, if_true]
    refine setting_passes t0 (formLen_ok (n := 3) rfl (by simp) rfl) changes ?_ ?_
    · rcases mode with mode | mode <;> simp [mode]
    · simp [channel, modes, listed, fields, group]
  · rw [getFc_of_fio same, getFc_fcSet, if_pos rfl]

theorem mbFcGrpSet_expert {ch : Fin 16} {g : Byte} {w : Word} {s : State} (t0 : tenantOf s ch = 0) (changes : Changes s) (group : g.toNat < 8)
    (least : 1 ≤ fld w 47 45) (most : fld w 47 45 ≤ 4) :
    MbDone .mbFcGrpSet ch ([g, 1#8] ++ wB w) s (fun t => (getGrp t g.toNat).cfg = setBit (w &&& 0xE00000000000#48) 44 true) := by
  obtain ⟨number, level, levelled, word⟩ := expertForm (q := [g, 1#8] ++ wB w) g w [] (by simp)
  have field : fld (setBit (w &&& 0xE00000000000#48) 44 true) 47 45 = fld w 47 45 :=
    (fld_setBit_of_gt (by decide) (by decide) _ _).trans (fld_and_of_ones (by decide) w)
  refine fieldSet_done (f := mbFcGrpSet) (n := g.toNat) (x := updGrp g.toNat (fun x => { x with cfg := setBit (w &&& 0xE00000000000#48) 44 true }) s)
    (fun _ => rfl) ?_ fun t same => by rw [getGrp_of_fio same, getGrp_updGrp_same]
  unfold mbFcGrpSet
  simp only [number, level, levelled, word, field]
  exact setting_passes t0 (formLen_ok (n := 8) rfl (by simp) (by simp)) changes rfl (by simp [group, least, most])

/-- MAX_ON of a number of members. -/
theorem fld_maxOn {c : Nat} (few : c ≤ 4) : fld (wd (c * 2 ^ 45)) 47 45 = c := by
  rw [fld_top, BitVec.toNat_ofNat]
  omega

theorem mbFcGrpSet_basic {ch : Fin 16} {g : Byte} {s : State} (t0 : tenantOf s ch = 0) (changes : Changes s) (group : g.toNat < 8) :
    MbDone .mbFcGrpSet ch [g, 0#8] s (fun t => fld (getGrp t g.toNat).cfg 47 45 =
      (grpChans g.toNat).countP (fun n => fcIsBank (getFc s n).cfg)) := by
  obtain ⟨number, level, levelled⟩ := basicForm g []
  refine fieldSet_done (f := mbFcGrpSet) (n := g.toNat) (x := grpBasic g.toNat (updGrp g.toNat (fun x => { x with cfg := 0#48 }) s))
    (fun _ => rfl) ?_ fun t same => ?_
  · unfold mbFcGrpSet
    simp only [number, level, levelled, if_true]
    exact setting_passes t0 (formLen_ok (n := 2) rfl (by simp) rfl) changes rfl (by simp [group])
  · have few : (grpChans g.toNat).countP (fun n => fcIsBank (getFc s n).cfg) ≤ 4 := List.countP_le_length.trans (by simp [grpChans, span])
    have unset : bit (getGrp (updGrp g.toNat (fun x => { x with cfg := 0#48 }) s) g.toNat).cfg 44 = false := by
      rw [getGrp_updGrp_same]; exact BitVec.getLsbD_zero
    rw [getGrp_of_fio same, grpBasic, if_neg (by rw [unset]; decide), getGrp_updGrp_same]
    simp only [getFc_updGrp]
    exact fld_maxOn few

/-! ### Dies (10 R260, Table 10-8) -/

theorem mbFioSilSet_expert {ch : Fin 16} {d : Byte} {w : Word} {s : State} (t0 : tenantOf s ch = 0) (changes : Changes s) (die : d.toNat < 4)
    (least : 2 ≤ fld w 9 0) (most : fld w 9 0 ≤ 1000) :
    MbDone .mbFioSilSet ch ([d, 1#8] ++ wB w) s (fun t => (getDie t d.toNat).sil = setBit (w &&& 0x3FF#48) 10 true) := by
  obtain ⟨number, level, levelled, word⟩ := expertForm (q := [d, 1#8] ++ wB w) d w [] (by simp)
  have field : fld (setBit (w &&& 0x3FF#48) 10 true) 9 0 = fld w 9 0 :=
    (fld_setBit_of_lt (by decide) (by decide) _ _).trans (fld_and_of_ones (by decide) w)
  refine fieldSet_done (f := mbFioSilSet) (n := d.toNat) (x := updDie d.toNat (fun x => { x with sil := setBit (w &&& 0x3FF#48) 10 true }) s)
    (fun _ => rfl) ?_ fun t same => by rw [getDie_of_fio same, getDie_updDie_same]
  unfold mbFioSilSet
  simp only [number, level, levelled, word, if_neg (show ¬ 1 = 0 by decide), field]
  exact setting_passes t0 (formLen_ok (n := 8) rfl (by simp) (by simp)) changes rfl (by simp [die, least, most])

theorem mbFioSilSet_basic {ch : Fin 16} {d : Byte} {s : State} (t0 : tenantOf s ch = 0) (changes : Changes s) (die : d.toNat < 4) :
    MbDone .mbFioSilSet ch [d, 0#8] s (fun t => (getDie t d.toNat).sil = 20#48) := by
  refine fieldSet_done (f := mbFioSilSet) (n := d.toNat) (x := updDie d.toNat (fun x => { x with sil := 20#48 }) s)
    (fun _ => rfl) ?_ fun t same => by rw [getDie_of_fio same, getDie_updDie_same]
  unfold mbFioSilSet
  obtain ⟨number, level, levelled⟩ := basicForm d []
  simp only [number, level, levelled, if_true]
  exact setting_passes t0 (formLen_ok (n := 2) rfl (by simp) rfl) changes rfl (by simp [die]; decide)

/-! ### Analog channels (10 R262, R263, R268) -/

/-- AI_CFG of an expert form. -/
def aiExpert (w : Word) : Word := setBit (w &&& 0xFFFFC0000000#48) 45 true

theorem mbAiSet_expert {ch : Fin 16} {n : Byte} {w : Word} {s : State} (t0 : tenantOf s ch = 0) (changes : Changes s) (channel : n.toNat < 4)
    (range : fld (aiExpert w) 47 46 = fld (getAi s n.toNat).cfg 47 46 ∨ devMode s = 1) (listed : fld (aiExpert w) 47 46 ≤ 2)
    (tau : fld (aiExpert w) 43 30 ≤ 10000) (lo hi : Word) :
    MbDone .mbAiSet ch ([n, 1#8] ++ wB w ++ wB lo ++ wB hi) s (fun t => (getAi t n.toNat).cfg = aiExpert w ∧ (getAi t n.toNat).lo = lo ∧
      (getAi t n.toNat).hi = hi) := by
  obtain ⟨number, level, levelled, word⟩ := expertForm (q := [n, 1#8] ++ wB w ++ wB lo ++ wB hi) n w (wB lo ++ wB hi) (by simp)
  have lower : beW ([n, 1#8] ++ wB w ++ wB lo ++ wB hi) 8 = lo := by
    rw [List.append_assoc]
    exact (beW_append_right ([n, 1#8] ++ wB w) _ 0).trans (beW_wB_append lo _)
  have upper : beW ([n, 1#8] ++ wB w ++ wB lo ++ wB hi) 14 = hi :=
    (beW_append_right ([n, 1#8] ++ wB w ++ wB lo) _ 0).trans (by simpa using beW_wB_append hi [])
  have expert : setBit (w &&& 0xFFFFC0000000#48) 45 true = aiExpert w := rfl
  refine fieldSet_done (f := mbAiSet) (n := n.toNat) (x := updAi n.toNat (fun a => { a with cfg := aiExpert w, lo := lo, hi := hi }) s)
    (fun _ => rfl) ?_ fun t same => by rw [getAi_of_fio same, getAi_updAi_same]; exact ⟨rfl, rfl, rfl⟩
  unfold mbAiSet
  simp only [number, level, levelled, word, lower, upper, expert, if_neg (show ¬ 1 = 0 by decide)]
  refine setting_passes t0 (formLen_ok (n := 20) rfl (by simp) (by simp)) changes ?_ (by simp [channel, listed, tau])
  rcases range with range | range <;> simp [range]

theorem mbAiSet_basic {ch : Fin 16} {n r : Byte} {s : State} (t0 : tenantOf s ch = 0) (changes : Changes s) (channel : n.toNat < 4)
    (listed : r.toNat ≤ 2) (range : r.toNat = fld (getAi s n.toNat).cfg 47 46 ∨ devMode s = 1) :
    MbDone .mbAiSet ch [n, 0#8, r] s (fun t => (getAi t n.toNat).cfg = wd (r.toNat * 2 ^ 46)) := by
  obtain ⟨number, level, levelled⟩ := basicForm n [r]
  have given : u8 [n, 0#8, r] 2 = r.toNat := rfl
  have value : fld (wd (r.toNat * 2 ^ 46)) 47 46 = r.toNat := by rw [fld_eq_div, BitVec.toNat_ofNat]; omega
  have unfiltered : fld (wd (r.toNat * 2 ^ 46)) 43 30 = 0 := by rw [fld_eq_div, BitVec.toNat_ofNat]; omega
  refine fieldSet_done (f := mbAiSet) (n := n.toNat) (x := updAi n.toNat (fun a => { a with cfg := wd (r.toNat * 2 ^ 46), lo := 0#48, hi := 0#48 }) s)
    (fun _ => rfl) ?_ fun t same => by rw [getAi_of_fio same, getAi_updAi_same]
  unfold mbAiSet
  simp only [number, level, levelled, given, if_true, Nat.mod_eq_of_lt (show r.toNat < 4 by omega), value, unfiltered]
  refine setting_passes t0 (formLen_ok (n := 3) rfl (by simp) rfl) changes ?_ (by simp [channel, listed])
  rcases range with range | range <;> simp [range]

/-- AO_CFG of an expert form. -/
def aoExpert (w : Word) : Word := setBit (w &&& 0xF80000000000#48) 45 true

theorem mbAoSet_expert {ch : Fin 16} {n : Byte} {w : Word} {s : State} (t0 : tenantOf s ch = 0) (changes : Changes s) (channel : n.toNat < 4)
    (safe : bit (aoExpert w) 46 = true ∨ fld (aoExpert w) 44 43 ≤ 1) :
    MbDone .mbAoSet ch ([n, 1#8] ++ wB w) s (fun t => (getAo t n.toNat).cfg = aoExpert w) := by
  obtain ⟨number, level, levelled, word⟩ := expertForm (q := [n, 1#8] ++ wB w) n w [] (by simp)
  have listed : (bit (aoExpert w) 46 || decide (fld (aoExpert w) 44 43 ≤ 1)) = true := by simpa using safe
  have expert : setBit (w &&& 0xF80000000000#48) 45 true = aoExpert w := rfl
  refine fieldSet_done (f := mbAoSet) (n := n.toNat) (x := updAo n.toNat (fun a => { a with cfg := aoExpert w }) s)
    (fun _ => rfl) ?_ fun t same => by rw [getAo_of_fio same, getAo_updAo_same]
  unfold mbAoSet
  simp only [number, level, levelled, word, expert, if_neg (show ¬ 1 = 0 by decide), listed]
  exact setting_passes t0 (formLen_ok (n := 8) rfl (by simp) (by simp)) changes rfl (by simp [channel])

/-- AO_CFG of a basic form: enable, NAMUR range, and the safe state that goes with it. -/
def aoBasic (en r : Nat) : Word := wd (en * 2 ^ 47 + r * 2 ^ 46 + (1 + r) * 2 ^ 43)

theorem aoBasic_fields {en r : Nat} (hen : en ≤ 1) (hr : r ≤ 1) : bit (aoBasic en r) 47 = decide (en = 1) ∧
    bit (aoBasic en r) 46 = decide (r = 1) ∧ fld (aoBasic en r) 44 43 = 1 + r := by
  interval_cases en <;> interval_cases r <;> decide

theorem mbAoSet_basic {ch : Fin 16} {n en r : Byte} {s : State} (t0 : tenantOf s ch = 0) (changes : Changes s) (channel : n.toNat < 4)
    (enable : en.toNat ≤ 1) (range : r.toNat ≤ 1) :
    MbDone .mbAoSet ch [n, 0#8, en, r] s (fun t => bit (getAo t n.toNat).cfg 47 = decide (en.toNat = 1) ∧
      bit (getAo t n.toNat).cfg 46 = decide (r.toNat = 1) ∧ fld (getAo t n.toNat).cfg 44 43 = 1 + r.toNat) := by
  obtain ⟨number, level, levelled⟩ := basicForm n [en, r]
  have enabled : u8 [n, 0#8, en, r] 2 = en.toNat := rfl
  have ranged : u8 [n, 0#8, en, r] 3 = r.toNat := rfl
  have fields := aoBasic_fields enable range
  have listed : (bit (aoBasic en.toNat r.toNat) 46 || decide (fld (aoBasic en.toNat r.toNat) 44 43 ≤ 1)) = true := by
    rw [fields.2.1, fields.2.2]; simp; omega
  have basic : wd (en.toNat * 2 ^ 47 + r.toNat * 2 ^ 46 + (1 + r.toNat) * 2 ^ 43) = aoBasic en.toNat r.toNat := rfl
  refine fieldSet_done (f := mbAoSet) (n := n.toNat) (x := updAo n.toNat (fun a => { a with cfg := aoBasic en.toNat r.toNat }) s)
    (fun _ => rfl) ?_ fun t same => by rw [getAo_of_fio same, getAo_updAo_same]; exact fields
  unfold mbAoSet
  simp only [number, level, levelled, enabled, ranged, if_true, Nat.mod_eq_of_lt (show en.toNat < 2 by omega),
    Nat.mod_eq_of_lt (show r.toNat < 2 by omega), basic, listed]
  exact setting_passes t0 (formLen_ok (n := 4) rfl (by simp) rfl) changes rfl (by simp [channel, enable, range])

/-! ### Tooth sensors (10 R265, R268) -/

/-- TW_ELEC of an expert form. -/
def twExpert (w : Word) : Word := setBit (w &&& 0xFFC000000000#48) 45 true

theorem mbTwElecSet_expert {ch : Fin 16} {n : Byte} {w : Word} {s : State} (t0 : tenantOf s ch = 0) (changes : Changes s) (input : n.toNat < 4)
    (kind : fld (twExpert w) 47 46 ≤ 1) (least : 1 ≤ fld (twExpert w) 44 38) (most : fld (twExpert w) 44 38 ≤ 100) :
    MbDone .mbTwElecSet ch ([n, 1#8] ++ wB w) s (fun t => wget t.fio.tw n.toNat = twExpert w) := by
  obtain ⟨number, level, levelled, word⟩ := expertForm (q := [n, 1#8] ++ wB w) n w [] (by simp)
  have expert : setBit (w &&& 0xFFC000000000#48) 45 true = twExpert w := rfl
  refine fieldSet_done (f := mbTwElecSet) (n := n.toNat) (x := { s with fio := { s.fio with tw := wput n.toNat (twExpert w) s.fio.tw } })
    (fun _ => rfl) ?_ fun t same => by rw [same]; exact wget_wput_same ..
  unfold mbTwElecSet
  simp only [number, level, levelled, word, expert, if_neg (show ¬ 1 = 0 by decide)]
  exact setting_passes t0 (formLen_ok (n := 8) rfl (by simp) (by simp)) changes rfl (by simp [input, kind, least, most])

theorem mbTwElecSet_basic {ch : Fin 16} {n k : Byte} {s : State} (t0 : tenantOf s ch = 0) (changes : Changes s) (input : n.toNat < 4)
    (kind : k.toNat ≤ 1) :
    MbDone .mbTwElecSet ch [n, 0#8, k] s (fun t => wget t.fio.tw n.toNat = wd (k.toNat * 2 ^ 46 + 10 * 2 ^ 38)) := by
  obtain ⟨number, level, levelled⟩ := basicForm n [k]
  have given : u8 [n, 0#8, k] 2 = k.toNat := rfl
  have value : fld (wd (k.toNat * 2 ^ 46 + 10 * 2 ^ 38)) 47 46 = k.toNat := by rw [fld_eq_div, BitVec.toNat_ofNat]; omega
  have filter : fld (wd (k.toNat * 2 ^ 46 + 10 * 2 ^ 38)) 44 38 = 10 := by rw [fld_eq_div, BitVec.toNat_ofNat]; omega
  refine fieldSet_done (f := mbTwElecSet) (n := n.toNat)
    (x := { s with fio := { s.fio with tw := wput n.toNat (wd (k.toNat * 2 ^ 46 + 10 * 2 ^ 38)) s.fio.tw } })
    (fun _ => rfl) ?_ fun t same => by rw [same]; exact wget_wput_same ..
  unfold mbTwElecSet
  simp only [number, level, levelled, given, if_true, Nat.mod_eq_of_lt (show k.toNat < 4 by omega), value, filter]
  exact setting_passes t0 (formLen_ok (n := 3) rfl (by simp) rfl) changes rfl (by simp [input, kind])

/-! ### States read and cleared (10 R257, R259, R270) -/

theorem mbFioStat_reads {ch : Fin 16} {s : State} (notCarried : NotCarried s ch)
    (may : tenantOf s ch = 0 ∨ mayRead s (tenantOf s ch) (fioDiagWord s) = true) :
    MbReads .mbFioStat ch [] s ((List.range 32).flatMap (fun n => wB (fcStat s n)) ++ (List.range 4).flatMap (fun n => wB (getAi s n).x) ++
      (List.range 4).flatMap (fun n => wB (getAo s n).meas) ++ (List.range 4).flatMap (fun d => wB (fioSil s d))) := by
  refine mbReads_of_reply (f := mbFioStat) (fun _ => rfl) notCarried ?_
  unfold mbFioStat
  exact need_then (by simpa using may) (ok_then (lenIs_ok rfl) rfl)

/-- The deferrals of the channels that m names are cleared. -/
def clearDeferrals (m : Word) (s : State) : State :=
  (List.range 32).foldl (fun s n => if bit m n then updFc n (fun c => { c with defer := false }) s else s) s

/-- A group with a channel that m names, tripped or tried again, starts afresh. -/
def clearTrip (m : Word) (s : State) (g : Nat) : State :=
  if (grpChans g).any (fun n => bit m n) && ((getGrp s g).trip || (getGrp s g).tries != 0) then
    grpDrive (absNow s) (updGrp g (fun x => { x with trip := false, tries := 0 }) s) g
  else s

theorem clearDeferrals_defer {m : Word} {n : Nat} (channel : n < 32) (named : bit m n = true) (s : State) :
    (getFc (clearDeferrals m s) n).defer = false := by
  refine foldl_once (before := fun _ => True) (after := fun u => (getFc u n).defer = false) List.nodup_range (List.mem_range.mpr channel)
    (fun _ _ _ _ _ => trivial) (fun u _ => ?_) (fun u k _ other cleared => ?_) trivial
  · rw [if_pos named, getFc_updFc_same]
  · split
    · rw [getFc_updFc_other other.symm]; exact cleared
    · exact cleared

theorem clearDeferrals_grp (m : Word) (g : Nat) (s : State) : getGrp (clearDeferrals m s) g = getGrp s g :=
  foldl_reads (getGrp · g) (fun u k => by split <;> rfl) _ s

theorem clearTrip_other {m : Word} {g k : Nat} (other : g ≠ k) (s : State) :
    getGrp (clearTrip m s k) g = getGrp s g ∧ ∀ n, n / 4 = g → getFc (clearTrip m s k) n = getFc s n := by
  unfold clearTrip
  split
  · refine ⟨by rw [(grpDrive_acts ..).grp, getGrp_updGrp_other other], fun n here => ?_⟩
    rw [(grpDrive_acts ..).others n fun mem => other (here.symm.trans (mem_grpChans.mp mem))]
    rfl
  · exact ⟨rfl, fun _ _ => rfl⟩

/-- A group that is neither tripped nor being tried again is left. -/
theorem clearTrip_of_up {m : Word} {g : Nat} {s : State} (up : (getGrp s g).trip = false) (untried : (getGrp s g).tries = 0) :
    clearTrip m s g = s := by
  simp [clearTrip, up, untried]

theorem clearTrip_clears {m : Word} {n : Nat} (named : bit m n = true) (s : State) :
    (getGrp (clearTrip m s (n / 4)) (n / 4)).trip = false ∧ (getGrp (clearTrip m s (n / 4)) (n / 4)).tries = 0 := by
  have any : (grpChans (n / 4)).any (fun n => bit m n) = true := List.any_eq_true.mpr ⟨n, mem_grpChans.mpr rfl, named⟩
  unfold clearTrip
  split
  · rw [(grpDrive_acts ..).grp, getGrp_updGrp_same]
    exact ⟨rfl, rfl⟩
  next up => simpa [any] using up

theorem mbFioClear_done {ch : Fin 16} {s : State} (t0 : tenantOf s ch = 0) (changes : Changes s) (m : Word) :
    MbDone .mbFioClear ch (wB m) s (fun t =>
      (∀ n, n < 32 → bit m n = true → (getGrp t (n / 4)).trip = false ∧ (getGrp t (n / 4)).tries = 0) ∧
      (∀ n, n < 32 → bit m n = true → (getGrp s (n / 4)).trip = false → (getGrp s (n / 4)).tries = 0 → (getFc t n).defer = false)) := by
  have word : beW (wB m) 0 = m := by simpa using beW_wB_append m []
  have runs : mbFioClear (tenantOf s ch) ch.val (wB m) s = done ((List.range 8).foldl (clearTrip m) (clearDeferrals m s)) := by
    unfold mbFioClear
    rw [word]
    exact need_then (by simp [t0]) (ok_then (lenIs_ok (by simp)) (ok_then (stChg_ok changes) rfl))
  refine mbGives_of_reply (f := mbFioClear) (fun _ => rfl) runs rfl fun t kept _ => ?_
  have same := kept.2 .fio (by decide)
  refine ⟨fun n channel named => ?_, fun n channel named up untried => ?_⟩
  · rw [getGrp_of_fio same]
    refine foldl_once (before := fun _ => True) (after := fun u => (getGrp u (n / 4)).trip = false ∧ (getGrp u (n / 4)).tries = 0)
      List.nodup_range (List.mem_range.mpr (by omega)) (fun _ _ _ _ _ => trivial) (fun u _ => clearTrip_clears named u)
      (fun u k _ other cleared => ?_) trivial
    rw [(clearTrip_other other.symm u).1]; exact cleared
  · rw [getFc_of_fio same]
    have left := List.foldlRecOn (motive := fun u => getGrp u (n / 4) = getGrp s (n / 4) ∧ (getFc u n).defer = false) (List.range 8)
      (clearTrip m) (b := clearDeferrals m s) ⟨clearDeferrals_grp .., clearDeferrals_defer channel named s⟩ fun u hu k _ => by
        obtain ⟨group, cleared⟩ := hu
        by_cases here : n / 4 = k
        · rw [← here, clearTrip_of_up (by rw [group]; exact up) (by rw [group]; exact untried)]
          exact ⟨group, cleared⟩
        · obtain ⟨groups, channels⟩ := clearTrip_other (m := m) here u
          rw [groups, channels n rfl]
          exact ⟨group, cleared⟩
    exact left.2

/-- Settles O38: each command passes its checks in the order of check 9 to check 12, and then sets, answers or clears what its section says.
That MB_FIO_STAT answers the filtered value before scaling is the model's choice (log 84). -/
theorem fieldCommands : Obligations.FieldCommands :=
  ⟨fun _ _ _ _ => mbFioMapSet_done, fun _ _ _ _ => mbFcSet_expert, fun _ _ _ _ => mbFcSet_basic,
    fun _ _ _ _ t0 changes group least most => ⟨mbFcGrpSet_expert t0 changes group least most, mbFcGrpSet_basic t0 changes group⟩,
    fun _ _ _ _ t0 changes die least most => ⟨mbFioSilSet_expert t0 changes die least most, mbFioSilSet_basic t0 changes die⟩,
    fun _ _ _ lo hi _ t0 changes channel range listed tau => mbAiSet_expert t0 changes channel range listed tau lo hi,
    fun _ _ _ _ => mbAiSet_basic, fun _ _ _ _ => mbAoSet_expert, fun _ _ _ _ _ => mbAoSet_basic, fun _ _ _ _ => mbTwElecSet_expert,
    fun _ _ _ _ => mbTwElecSet_basic, fun _ _ => mbFioStat_reads, fun _ m _ t0 changes => mbFioClear_done t0 changes m⟩

end Sys2Proof.Machine
end

section
/-! SUPPORT. The safety channel: what its operations leave of its record, how it changes its state, and the events that move it (11 R273,
R274, R292 to R299, 18 R442). Obligation O40. -/

namespace Sys2Proof.Machine

/-! ### Operations on the paths -/

theorem getPath_of_path {s t : State} (same : t.saf.path = s.saf.path) (p : Nat) : getPath t p = getPath s p := by rw [getPath, same, getPath]

theorem absNow_congr {s t : State} (clk : t.clk = s.clk) (aon : t.aon = s.aon) : absNow t = absNow s := by rw [absNow, clk, aon, absNow]

/-- Between s and t the paths have moved on, entries may have come to be owed, and all else of the safety channel is as it was. -/
def PathsAct (s t : State) : Prop := t.saf = { s.saf with path := t.saf.path, owed := t.saf.owed }

namespace PathsAct
variable {s t u : State}

theorem of_saf (same : t.saf = s.saf) : PathsAct s t := by rw [PathsAct, same]

theorem trans (h : PathsAct s t) (k : PathsAct t u) : PathsAct s u :=
  Eq.trans k (congrArg (fun x : Saf => { x with path := u.saf.path, owed := u.saf.owed }) h)

theorem foldl {α : Type} {f : State → α → State} (each : ∀ s a, PathsAct s (f s a)) (l : List α) (s : State) : PathsAct s (l.foldl f s) :=
  List.foldlRecOn l f (of_saf rfl) fun u hu a _ => hu.trans (each u a)

/-- The same change of state at both ends. -/
theorem inState (h : PathsAct s t) (st : Nat) :
    PathsAct { s with saf := { s.saf with state := st } } { t with saf := { t.saf with state := st } } :=
  Eq.trans (congrArg (fun x : Saf => { x with state := st }) h) rfl

/-- Whatever sees neither the paths nor the entries owed reads as it did. -/
theorem reads {α : Type} (h : PathsAct s t) (r : Saf → α) (blind : r { s.saf with path := t.saf.path, owed := t.saf.owed } = r s.saf) :
    r t.saf = r s.saf := (congrArg r h).trans blind

theorem state (h : PathsAct s t) : t.saf.state = s.saf.state := h.reads Saf.state rfl

theorem block (h : PathsAct s t) : t.saf.block = s.saf.block := h.reads Saf.block rfl

theorem sfInst (h : PathsAct s t) (i : Nat) : sfInst t i = sfInst s i := by
  rw [Machine.sfInst, sfWord, h.block, Machine.sfInst, sfWord]

end PathsAct

theorem updPath_pathsAct (p : Nat) (f : SafPathSt → SafPathSt) (s : State) : PathsAct s (updPath p f s) := rfl

theorem updInst_pathsAct (p i : Nat) (f : SafInst → SafInst) (s : State) : PathsAct s (updInst p i f s) := rfl

theorem safGln_saf (code p1 p2 : Nat) (s : State) :
    (safGln code p1 p2 s).saf = { s.saf with owed := (safGln code p1 p2 s).saf.owed } := by
  unfold safGln
  split
  · rfl
  · rw [gln_saf]

theorem path_safGln (code p1 p2 : Nat) (s : State) : (safGln code p1 p2 s).saf.path = s.saf.path := by rw [safGln_saf]

theorem safGln_pathsAct (code p1 p2 : Nat) (s : State) : PathsAct s (safGln code p1 p2 s) := by
  rw [PathsAct, path_safGln]
  exact safGln_saf code p1 p2 s

theorem getPath_safGln (code p1 p2 : Nat) (s : State) (p : Nat) : getPath (safGln code p1 p2 s) p = getPath s p :=
  getPath_of_path (path_safGln ..) p

/-! ### The channel's state (11 R274) -/

/-- Both switches of every output are open. -/
def openSwitches (s : State) : State := updPath 0 (fun x => { x with sw := 0#4 }) (updPath 1 (fun x => { x with sw := 0#4 }) s)

/-- A path is as it was but for its switches. -/
theorem getPath_openSwitches (s : State) (p : Nat) : ∃ sw, getPath (openSwitches s) p = { getPath s p with sw := sw } := by
  simp only [openSwitches, getPath_updPath]
  split
  next first => subst first; exact ⟨_, rfl⟩
  · split
    next second => subst second; exact ⟨_, rfl⟩
    · exact ⟨_, rfl⟩

theorem sw_openSwitches {p : Nat} (hp : p < 2) (s : State) : (getPath (openSwitches s) p).sw = 0#4 := by
  interval_cases p <;> simp [openSwitches, getPath_updPath]

/-- The channel in a state, before its entry is made. -/
def inNewState (st : Nat) (s : State) : State :=
  if st = 5 then { s with saf := { s.saf with state := st } } else openSwitches { s with saf := { s.saf with state := st } }

theorem inNewState_pathsAct (st : Nat) (s : State) : PathsAct { s with saf := { s.saf with state := st } } (inNewState st s) := by
  unfold inNewState
  split
  · rfl
  · exact (updPath_pathsAct ..).trans (updPath_pathsAct ..)

theorem saf_safState {st : Nat} {s : State} (moves : ¬(s.saf.state = st && st != 4) = true) :
    (safState st s).saf = (safGln 0x0A01 (s.saf.state * 256 + st) (inNewState st s).saf.fcode (inNewState st s)).saf := by
  unfold safState; extract_lets _ old u v w
  rw [if_neg moves]
  split
  · rw [latchTenant, latchWhere_saf]; rfl
  · rfl

theorem safState_pathsAct (st : Nat) (s : State) : PathsAct { s with saf := { s.saf with state := st } } (safState st s) := by
  by_cases stays : (s.saf.state = st && st != 4) = true
  · have same : s.saf.state = st := of_decide_eq_true (Bool.and_eq_true_iff.mp stays).1
    rw [safState, if_pos stays, PathsAct, ← same]
  · exact ((inNewState_pathsAct st s).trans (safGln_pathsAct ..)).trans (.of_saf (saf_safState stays))

/-- A change of state opens the switches unless it is the entry to SAFE_RUN. -/
theorem path_safState (st : Nat) (s : State) : (safState st s).saf.path =
    (if (s.saf.state = st && st != 4) = true ∨ st = 5 then s else openSwitches s).saf.path := by
  by_cases stays : (s.saf.state = st && st != 4) = true
  · rw [if_pos (.inl stays), safState, if_pos stays]
  · rw [saf_safState stays, path_safGln, inNewState]
    by_cases run : st = 5
    · rw [if_pos run, if_pos (.inr run)]
    · rw [if_neg run, if_neg (not_or.mpr ⟨stays, run⟩)]; rfl

/-- Whatever of a path does not see its switches reads as it did before the channel changed its state. -/
theorem safState_reads {α : Type} (r : SafPathSt → α) (blind : ∀ x sw, r { x with sw := sw } = r x) (st p : Nat) (s : State) :
    r (getPath (safState st s) p) = r (getPath s p) := by
  rw [getPath_of_path (path_safState st s)]
  split
  · rfl
  · obtain ⟨sw, path⟩ := getPath_openSwitches s p
    rw [path, blind]

theorem sw_safState {st p : Nat} {s : State} (hp : p < 2) (moves : s.saf.state ≠ st) (stops : st ≠ 5) :
    (getPath (safState st s) p).sw = 0#4 := by
  rw [getPath_of_path (path_safState st s), if_neg (by simp [moves, stops])]
  exact sw_openSwitches hp s

theorem state_safState (st : Nat) (s : State) : (safState st s).saf.state = st := (safState_pathsAct st s).state

theorem absNow_safState (st : Nat) (s : State) : absNow (safState st s) = absNow s :=
  absNow_congr ((safState_keeps st).samePart (p := .clk) (by decide) s) ((safState_keeps st).samePart (p := .aon) (by decide) s)

/-! ### Faults of the channel (11 R292) -/

theorem safFault_pathsAct (code p : Nat) (s : State) :
    PathsAct { s with saf := { s.saf with state := 6, fcode := code } } (safFault code p s) :=
  ((safGln_pathsAct 0x0A04 code p { s with saf := { s.saf with fcode := code } }).inState 6).trans (safState_pathsAct ..)

theorem frameAt_safFault (code p q : Nat) (s : State) : (getPath (safFault code q s) p).frameAt = (getPath s p).frameAt := by
  rw [safFault, safState_reads SafPathSt.frameAt (fun _ _ => rfl), getPath_safGln]; rfl

/-- A fault stops the channel: it leaves SAFE_RUN with the fault's code, and every switch opens. -/
theorem safFault_stops {s : State} (runs : s.saf.state = 5) (code p : Nat) : (safFault code p s).saf.state = 6 ∧
    (safFault code p s).saf.fcode = code ∧ (getPath (safFault code p s) 0).sw = 0#4 ∧ (getPath (safFault code p s) 1).sw = 0#4 := by
  have moves : (safGln 0x0A04 code p { s with saf := { s.saf with fcode := code } }).saf.state ≠ 6 := by
    rw [safGln_saf]; exact fun stopped => absurd (runs.symm.trans stopped) (by decide)
  exact ⟨state_safState .., (safFault_pathsAct code p s).reads Saf.fcode rfl, sw_safState (by decide) moves (by decide),
    sw_safState (by decide) moves (by decide)⟩

theorem crossMonTimeout_answers {a : SafPath} {s : State} (runs : s.saf.state = 5) (silent : (getPath s (pathNo a)).frameAt + 3000000 ≤ absNow s) :
    Answers (exec (.crossMonTimeout a) s) (fun t => t.saf.state = 6 ∧ t.saf.fcode = 1 ∧ (getPath t 0).sw = 0#4 ∧ (getPath t 1).sw = 0#4) :=
  ⟨_, congrArg Host.Outcome.next (if_pos (by simp [safRuns, runs, silent])), safFault_stops runs 1 _⟩

theorem sfcSelfTest_answers {s : State} (runs : s.saf.state = 5) :
    Answers (exec (.sfcSelfTest false) s) (fun t => t.saf.state = 6 ∧ t.saf.fcode = 6 ∧ (getPath t 0).sw = 0#4 ∧ (getPath t 1).sw = 0#4) :=
  ⟨_, congrArg Host.Outcome.next (if_pos (by simp [safRuns, runs])), safFault_stops runs 6 0⟩

/-! ### Frames between the paths (11 R292) -/

/-- A path notes a valid frame: its instant, since when what it carries differs, and the tooth intervals compared. -/
def crossNoted (p : Nat) (f : CrossFrame) (s : State) : State :=
  compareAxle p 1 f.interval1 (compareAxle p 0 f.interval0 (updPath p (fun x => { x with
    frameAt := absNow s
    inDiff := diffSince (absNow s) 16 (fun j => f.inputs.getLsbD j != (tget {} x.inp j).high) x.inDiff
    permDiff := diffSince (absNow s) 16 (fun i => siTYPE (sfInst s i) != 6 && f.permits.getLsbD i != ((tget {} x.inst i).st == 4)) x.permDiff
    perDiff := if 950 ≤ f.periodUs && f.periodUs ≤ 1050 then none else x.perDiff.or (some (absNow s)) }) s))

theorem compareAxle_pathsAct (p a theirs : Nat) (s : State) : PathsAct s (compareAxle p a theirs s) := by
  unfold compareAxle; extract_lets x
  split
  · rfl
  · rfl

theorem compareAxle_reads {α : Type} (r : SafPathSt → α) (blind : ∀ x axle diff, r { x with axle := axle, intDiff := diff } = r x)
    (p a theirs : Nat) (s : State) : r (getPath (compareAxle p a theirs s) p) = r (getPath s p) := by
  unfold compareAxle; extract_lets x
  split
  · rfl
  · rw [getPath_updPath_same, blind]

theorem state_crossNoted (p : Nat) (f : CrossFrame) (s : State) : (crossNoted p f s).saf.state = s.saf.state :=
  (compareAxle_pathsAct ..).state.trans (compareAxle_pathsAct ..).state

theorem frameAt_crossNoted (p : Nat) (f : CrossFrame) (s : State) : (getPath (crossNoted p f s) p).frameAt = absNow s := by
  rw [crossNoted, compareAxle_reads SafPathSt.frameAt fun _ _ _ => rfl, compareAxle_reads SafPathSt.frameAt fun _ _ _ => rfl,
    getPath_updPath_same]

/-- A period that was out of range and is so still has been so since then. -/
theorem perDiff_crossNoted {p l : Nat} {f : CrossFrame} {s : State} (since : (getPath s p).perDiff = some l)
    (out : f.periodUs < 950 ∨ 1050 < f.periodUs) : (getPath (crossNoted p f s) p).perDiff = some l := by
  have still : ¬(decide (950 ≤ f.periodUs) && decide (f.periodUs ≤ 1050)) = true := by simp; omega
  rw [crossNoted, compareAxle_reads SafPathSt.perDiff fun _ _ _ => rfl, compareAxle_reads SafPathSt.perDiff fun _ _ _ => rfl,
    getPath_updPath_same]
  dsimp only
  rw [if_neg still, since, Option.some_or]

theorem crossMonFrame_answers {a : SafPath} {f : CrossFrame} {s : State} (runs : s.saf.state = 5) (sound : f.crcOk = true) :
    Answers (exec (.crossMonFrame a f) s) (fun t => (getPath t (pathNo a)).frameAt = absNow s ∧
      (∀ l, (getPath s (pathNo a)).perDiff = some l → l + 20000000 ≤ absNow s → (f.periodUs < 950 ∨ 1050 < f.periodUs) →
        t.saf.state = 6 ∧ t.saf.fcode = 2 ∧ (getPath t 0).sw = 0#4 ∧ (getPath t 1).sw = 0#4)) := by
  change Answers (execCrossMonFrame a f s) _
  unfold execCrossMonFrame; extract_lets p now _ n x open_
  have here : p = pathNo a := rfl
  rw [if_neg (by simp [safRuns, runs, sound])]
  have drawn : (if open_ then drawWord n else (0#48, n)).2.saf = (crossNoted p f s).saf := by
    cases open_ <;> rfl
  revert drawn
  generalize (if open_ then drawWord n else (0#48, n)) = r
  obtain ⟨w, u⟩ := r
  intro same
  dsimp only at same ⊢
  rw [← here]
  have path : getPath u p = getPath (crossNoted p f s) p := getPath_of_path (congrArg Saf.path same) p
  refine ⟨_, rfl, ?_, fun l since long out => ?_⟩
  · have noted : (getPath u p).frameAt = absNow s := by rw [path]; exact frameAt_crossNoted p f s
    simp only [apply_ite (fun t => (getPath t p).frameAt), frameAt_safFault, noted, ite_self]
  · have due : diffDue now 20 [(0, (getPath u p).perDiff)] = true := by
      rw [path, perDiff_crossNoted since out]; simpa [diffDue] using long
    rw [if_pos due]
    refine safFault_stops ?_ 2 p
    rw [same, state_crossNoted]; exact runs

/-! ### The start sequence (11 R294, Table 11-16) -/

theorem getInst_updInst (p i q j : Nat) (f : SafInst → SafInst) (s : State) :
    getInst (updInst p i f s) q j = if q = p ∧ j = i then f (getInst s p i) else getInst s q j := by
  unfold getInst updInst
  rw [getPath_updPath]
  by_cases path : q = p
  · subst path; simp [tget_tupd]
  · simp [path]

theorem getInst_of_path {s t : State} (same : t.saf.path = s.saf.path) (p i : Nat) : getInst t p i = getInst s p i := by
  rw [getInst, getPath_of_path same, getInst]

theorem setInst_pathsAct (p i st cause : Nat) (s : State) : PathsAct s (setInst p i st cause s) := by
  unfold setInst; extract_lets x u
  split
  · rfl
  · exact ((updInst_pathsAct ..).trans (safGln_pathsAct ..)).trans (.of_saf (fire_saf ..))

/-- A changed SF_INST enters its state; the others are as they were. -/
theorem st_setInst (p i st cause q j : Nat) (s : State) :
    (getInst (setInst p i st cause s) q j).st = if q = p ∧ j = i then st else (getInst s q j).st := by
  unfold setInst; extract_lets x u
  split
  next same =>
    have stays : (getInst s p i).st = st := of_decide_eq_true (Bool.and_eq_true_iff.mp same).1
    split
    next here => obtain ⟨rfl, rfl⟩ := here; exact stays
    · rfl
  · have path : (fire (32 + i) (safGln 0x0A02 (i * 256 + st) cause u)).saf.path = u.saf.path :=
      (congrArg Saf.path (fire_saf ..)).trans (path_safGln ..)
    rw [getInst_of_path path, getInst_updInst]
    split
    · rfl
    · rfl

/-- The state of an SF_INST as SAFE_RUN begins. -/
def startState (w : Word) : Nat := if siTYPE w = 2 then 2 else 1

/-- An SF_INST of a path as SAFE_RUN begins. -/
def startInst (p : Nat) (s : State) (i : Nat) : State :=
  let ty := siTYPE (sfInst s i)
  if ty = 0 then s
  else updInst p i (fun x => { x with opened := ty == 1 || ty == 5, motion := absNow s, aAt := absNow s, bAt := absNow s, demands := 0 })
    (setInst p i (if ty = 2 then 2 else 1) 0 s)

theorem startInsts_eq (p : Nat) (s : State) :
    startInsts p s = (List.range 16).foldl (startInst p) (updPath p (fun x => { x with frameAt := absNow s, runAt := absNow s }) s) := rfl

theorem startInst_pathsAct (p : Nat) (s : State) (i : Nat) : PathsAct s (startInst p s i) := by
  unfold startInst; extract_lets ty
  split
  · rfl
  · exact (setInst_pathsAct ..).trans (updInst_pathsAct ..)

theorem startInsts_pathsAct (p : Nat) (s : State) : PathsAct s (startInsts p s) := by
  rw [startInsts_eq]
  exact (updPath_pathsAct ..).trans (.foldl (startInst_pathsAct p) _ _)

theorem st_startInst (p i q j : Nat) (s : State) : (getInst (startInst p s i) q j).st =
    if (q = p ∧ j = i) ∧ siTYPE (sfInst s i) ≠ 0 then startState (sfInst s i) else (getInst s q j).st := by
  unfold startInst; extract_lets ty
  by_cases unused : ty = 0
  · rw [if_pos unused, if_neg fun h => h.2 unused]
  · rw [if_neg unused, getInst_updInst]
    by_cases here : q = p ∧ j = i
    · rw [if_pos here, if_pos (show (q = p ∧ j = i) ∧ ty ≠ 0 from ⟨here, unused⟩)]; exact (st_setInst ..).trans (if_pos ⟨rfl, rfl⟩)
    · rw [if_neg here, if_neg (show ¬((q = p ∧ j = i) ∧ ty ≠ 0) from fun h => here h.1)]; exact (st_setInst ..).trans (if_neg here)

theorem st_startInsts {p i : Nat} {s : State} (hi : i < 16) (used : siTYPE (sfInst s i) ≠ 0) :
    (getInst (startInsts p s) p i).st = startState (sfInst s i) := by
  rw [startInsts_eq]
  refine (foldl_once (before := fun u => sfInst u i = sfInst s i)
    (after := fun u => sfInst u i = sfInst s i ∧ (getInst u p i).st = startState (sfInst s i)) List.nodup_range (List.mem_range.mpr hi)
    (fun u k _ _ same => ((startInst_pathsAct p u k).sfInst i).trans same) (fun u same => ⟨?_, ?_⟩) (fun u k _ other ⟨same, started⟩ => ⟨?_, ?_⟩)
    ?_).2
  · exact ((startInst_pathsAct p u i).sfInst i).trans same
  · rw [st_startInst, same, if_pos ⟨⟨rfl, rfl⟩, used⟩]
  · exact ((startInst_pathsAct p u k).sfInst i).trans same
  · rw [st_startInst, if_neg fun h => other h.1.2.symm]; exact started
  · exact (updPath_pathsAct ..).sfInst i

theorem st_startInsts_other {p q : Nat} (other : q ≠ p) (i : Nat) (s : State) : (getInst (startInsts p s) q i).st = (getInst s q i).st := by
  rw [startInsts_eq, foldl_reads (fun u => (getInst u q i).st) fun u k => by rw [st_startInst, if_neg fun h => other h.1.1]]
  rw [getInst, getPath_updPath, if_neg other, getInst]

/-- As SAFE_RUN begins every SF_INST of both paths is in DEMAND, GUARD in WAIT_CYCLE. -/
theorem safeRun_begins (s : State) : (startInsts 1 (startInsts 0 (safState 5 s))).saf.state = 5 ∧
    ∀ p i, p < 2 → i < 16 → siTYPE (sfInst s i) ≠ 0 →
      (getInst (startInsts 1 (startInsts 0 (safState 5 s))) p i).st = startState (sfInst s i) := by
  have entered (i : Nat) : sfInst (safState 5 s) i = sfInst s i := (safState_pathsAct 5 s).sfInst i
  have first (i : Nat) : sfInst (startInsts 0 (safState 5 s)) i = sfInst s i := ((startInsts_pathsAct 0 _).sfInst i).trans (entered i)
  refine ⟨(startInsts_pathsAct 1 _).state.trans ((startInsts_pathsAct 0 _).state.trans (state_safState 5 s)), fun p i hp hi used => ?_⟩
  interval_cases p
  · rw [st_startInsts_other (by decide), st_startInsts hi (by rw [entered]; exact used), entered]
  · rw [st_startInsts hi (by rw [first]; exact used), first]

theorem startSequence_unsecured {tests agree : Bool} {s : State} (starts : s.saf.state = 1) (waited : s.saf.startAt + 30000000 ≤ absNow s)
    (mode : s.saf.mode = 0) : Answers (exec (.safetyStartSequence tests agree) s) (fun t => t.saf.state = 2) := by
  change Answers (execSafetyStartSequence tests agree s) _
  unfold execSafetyStartSequence; dsimp only
  rw [if_neg (by simp [starts]; omega), if_pos mode]
  exact ⟨_, rfl, state_safState 2 s⟩

theorem startSequence_unloaded {tests agree : Bool} {s : State} (starts : s.saf.state = 1) (waited : s.saf.startAt + 30000000 ≤ absNow s)
    (mode : s.saf.mode ≠ 0) (block : s.saf.block = []) : Answers (exec (.safetyStartSequence tests agree) s) (fun t => t.saf.state = 3) := by
  change Answers (execSafetyStartSequence tests agree s) _
  unfold execSafetyStartSequence; dsimp only
  rw [if_neg (by simp [starts]; omega), if_neg mode, if_pos block]
  exact ⟨_, rfl, state_safState 3 s⟩

theorem startSequence_unconfirmed {tests : Bool} {s : State} (starts : s.saf.state = 1) (mode : s.saf.mode = 1) (block : s.saf.block ≠ [])
    (check : s.saf.check = none) (waited : s.saf.startAt + 60000000 ≤ absNow s) :
    Answers (exec (.safetyStartSequence tests true) s) (fun t => t.saf.state = 4) := by
  change Answers (execSafetyStartSequence tests true s) _
  unfold execSafetyStartSequence; dsimp only
  rw [if_neg (by simp [starts]; omega), if_neg (by simp [mode]), if_neg block, if_neg (by omega), if_neg (by decide),
    if_pos (by simp [mode, check])]
  exact ⟨_, rfl, state_safState 4 s⟩

theorem startSequence_runs {s : State} (starts : s.saf.state = 1) (mode : s.saf.mode ≠ 0) (block : s.saf.block ≠ [])
    (check : s.saf.check = some (blockCheck s.saf.block))
    (waited : s.saf.startAt + 170000000 + fld (sfGlob s) 35 28 * 10000000 ≤ absNow s) (pulses : pulsesPassed s = true) :
    Answers (exec (.safetyStartSequence true true) s) (fun t => t.saf.state = 5 ∧
      ∀ p i, p < 2 → i < 16 → siTYPE (sfInst s i) ≠ 0 → (getInst t p i).st = (if siTYPE (sfInst s i) = 2 then 2 else 1)) := by
  change Answers (execSafetyStartSequence true true s) _
  unfold execSafetyStartSequence; dsimp only
  rw [if_neg (by simp [starts]; omega), if_neg mode, if_neg block, if_neg (by omega), if_neg (by decide), if_neg (by simp [check]),
    if_neg (by simp [check]), if_neg (by omega), if_neg (by decide), if_neg (by omega), if_neg (by simp [pulses])]
  exact ⟨_, rfl, safeRun_begins s⟩

/-! ### The status word (11 R299) -/

theorem imgWord_imgPuts_other {x : Nat} {ws : List (Nat × Word)} (apart : ∀ e ∈ ws, e.1 ≠ x) (s : State) :
    imgWord (imgPuts ws s) x = imgWord s x :=
  List.foldlRecOn (motive := fun t => imgWord t x = imgWord s x) ws _ rfl fun _ ht e he =>
    (imgWord_imgPut_other (apart e he).symm ..).trans ht

/-- A unit's update leaves the words that it does not carry. -/
theorem imgWord_unitUpdate_other {unit x : Nat} {subst : Bool} {ws : List (Nat × Word)} (apart : ∀ e ∈ ws, e.1 ≠ x) (s : State) :
    imgWord (unitUpdate unit subst ws s) x = imgWord s x := by
  have plots (ns : List Nat) (u : State) : imgWord (ns.foldl (fun s n => plotUpdate n (some unit) subst s) u) x = imgWord u x :=
    foldl_reads (fun u => imgWord u x) (fun _ _ => by rfl) ns u
  unfold unitUpdate
  split
  · rfl
  · rw [plots, ioPuts]
    split
    · rfl
    · rw [imgWord, pairSend_img, ← imgWord]
      exact imgWord_imgPuts_other (fun e he => apart e (List.mem_filter.mp he).1) s

theorem sfStatusWordUpdate_answers {s : State} (runs : fioRuns s = true) (serves : ownBuffer s = false) (mapped : fld s.saf.map 47 33 < 20480)
    (plot : inPlot s 1 0 (fld s.saf.map 47 33) = true) (news : s.saf.told ≠ some (statusWord s))
    (free : tget none s.task.force (fld s.saf.map 47 33) = none) :
    Answers (exec .sfStatusWordUpdate s) (fun t => imgWord t (fld s.saf.map 47 33) = statusWord s ∧ t.saf.told = some (statusWord s) ∧
      ∀ w, w ≠ fld s.saf.map 47 33 → imgWord t w = imgWord s w) := by
  refine ⟨_, congrArg Host.Outcome.next (if_pos (by simp [runs, mapped, news])), ?_, ?_, fun w other => ?_⟩
  · exact imgWord_unitUpdate serves plot free (by simp)
  · exact congrArg Saf.told ((unitUpdate_keeps 16 false _).samePart (p := .saf) (by decide) _)
  · exact imgWord_unitUpdate_other (by simpa using other.symm) _

/-! ### Lockout, and the power of the safety domain (11 R273, R297, 18 R442) -/

theorem lockoutExpiry_next {e : Nat} {s : State} (locked : s.saf.lock = some e) (past : e ≤ absNow s) :
    exec .lockoutExpiry s = .next { s with saf := { s.saf with lock := none, fails := 0 } } := by
  change execLockoutExpiry s = _
  rw [execLockoutExpiry, locked]
  exact congrArg Host.Outcome.next (if_pos past)

theorem safOff_saf (s : State) : (safOff s).saf =
    { s.saf with state := 0, path := [], fkind := [], current := 0#4, owed := (safOff s).saf.owed } :=
  Eq.trans (congrArg (fun x : Saf => { x with path := [], fkind := [], current := 0#4 }) (safState_pathsAct 0 s)) rfl

theorem safetyDomainReset_answers {mv : Nat} {s : State} (low : mv < 740) (awake : s.sup.asleep = false) :
    Answers (exec (.safetyDomainReset mv) s) (fun t => t.saf.state = 0 ∧ t.saf.power = false ∧ t.saf.path = [] ∧ t.saf.block = s.saf.block) := by
  change Answers (execSafetyDomainReset mv s) _
  unfold execSafetyDomainReset; extract_lets u _ v
  rw [if_neg (by simp [awake]; omega)]
  refine ⟨_, rfl, ?_⟩
  dsimp only
  rw [apply_ite State.saf, gln_saf, ite_self]
  have off : v.saf = _ := safOff_saf { u with saf := { u.saf with power := false } }
  rw [off]
  exact ⟨rfl, rfl, rfl, rfl⟩

theorem safStart_pathsAct (s : State) :
    PathsAct { s with saf := { s.saf with state := 1, startAt := absNow s, current := 0#4 } } (safStart s) := by
  have entered : PathsAct { s with saf := { s.saf with state := 1, startAt := absNow s, current := 0#4 } }
      { safState 1 s with saf := { (safState 1 s).saf with startAt := absNow (safState 1 s), current := 0#4 } } := by
    rw [absNow_safState]
    exact Eq.trans (congrArg (fun x : Saf => { x with startAt := absNow s, current := 0#4 }) (safState_pathsAct 1 s)) rfl
  exact (entered.trans (updPath_pathsAct ..)).trans (updPath_pathsAct ..)

theorem safetyDomainPowerUp_answers {s : State} (off : s.saf.state = 0) (awake : s.sup.asleep = false) :
    Answers (exec .safetyDomainPowerUp s) (fun t => t.saf.state = 1 ∧ t.saf.power = true ∧ t.saf.startAt = absNow s) := by
  change Answers (execSafetyDomainPowerUp s) _
  rw [execSafetyDomainPowerUp, if_neg (by simp [off, awake])]
  have started := safStart_pathsAct { s with saf := { s.saf with power := true } }
  exact ⟨_, rfl, started.state, started.reads Saf.power rfl, started.reads Saf.startAt rfl⟩

/-- Settles O40: each event passes its guards and moves the channel to the state of its rule, by the lemma of its row. -/
theorem safetyChannelStates : Obligations.SafetyChannelStates :=
  ⟨fun _ _ _ => crossMonFrame_answers, fun _ _ => crossMonTimeout_answers, fun _ => sfcSelfTest_answers,
    fun _ _ _ starts waited => ⟨startSequence_unsecured starts waited, startSequence_unloaded starts waited,
      startSequence_unconfirmed starts, startSequence_runs starts⟩,
    fun _ => sfStatusWordUpdate_answers, fun _ _ => lockoutExpiry_next, fun _ _ => safetyDomainReset_answers,
    fun _ => safetyDomainPowerUp_answers⟩

end Sys2Proof.Machine
end

section
/-! SUPPORT. Commands of class 0x0B: the channel secured, loaded, confirmed, restarted and read through T0 (11 R275, R295 to R298).
Obligation O41. -/

namespace Sys2Proof.Machine

/-! ### Words and passwords in a payload -/

theorem map_beW_items (p : Bytes) (o k : Nat) :
    (List.range k).map (fun i => beW p (o + 6 * i)) = (items p o 6 k).map (fun b => wd (beVal b)) := by
  induction k generalizing o with
  | zero => rfl
  | succ k ih =>
    rw [List.range_succ_eq_map, List.map_cons, List.map_map, items, List.map_cons, ← ih]
    refine congrArg₂ List.cons rfl (List.map_congr_left fun i _ => congrArg (beW p) ?_)
    simp only [Nat.succ_eq_add_one]
    omega

/-- The words of a block are read from a load as they were put there. -/
theorem loadWords {ws : List Word} (count : ws.length = 55) (p : Bytes) :
    (List.range 55).map (fun i => beW ([1#8] ++ ws.flatMap wB ++ p) (1 + 6 * i)) = ws := by
  rw [map_beW_items, items_append_left (by simp [length_flatMap_const length_wB, count]), ← count]
  exact items_words [1#8] ws

/-- A password as a payload carries it: its length and its bytes. -/
def pwField (pw : Bytes) : Bytes := BitVec.ofNat 8 pw.length :: pw

/-- A password is read from a payload as it was put there. -/
theorem pwField_read {pw : Bytes} (fits : pw.length < 256) (a p : Bytes) :
    u8 (a ++ (pwField pw ++ p)) a.length = pw.length ∧ pwAt (a ++ (pwField pw ++ p)) a.length = pw := by
  have length : u8 (a ++ (pwField pw ++ p)) a.length = pw.length := by
    rw [u8, List.getD_append_right _ _ _ _ le_rfl, Nat.sub_self]
    exact Nat.mod_eq_of_lt fits
  refine ⟨length, ?_⟩
  rw [pwAt, length, ← List.drop_drop, List.drop_left]
  exact List.take_left

/-- The check value of a block is a 32-bit field. -/
theorem blockCheck_lt (b : List Word) : blockCheck b < 256 ^ 4 := BitVec.isLt _

/-- What passes the checks of 11 R276 holds listed values alone. -/
theorem blockListed_of_blockOk {b : List Word} (sound : blockOk b = true) : blockListed b = true := by
  simp only [blockOk, Bool.and_eq_true] at sound
  obtain ⟨⟨⟨⟨-, inputs⟩, instances⟩, -⟩, -⟩ := sound
  refine List.all_eq_true.mpr fun j mem => ?_
  have input := List.all_eq_true.mp inputs j mem
  have used := List.all_eq_true.mp instances j mem
  simp only [Bool.and_eq_true] at input used ⊢
  obtain ⟨⟨⟨mode, -⟩, -⟩, -⟩ := input
  obtain ⟨⟨⟨⟨⟨type, -⟩, -⟩, -⟩, -⟩, -⟩ := used
  exact ⟨mode, type⟩

theorem stChg_of_true {s : State} (changes : Changes s) {b : Bool} (h : b = true) : stChg s b = .ok () := by
  rw [h]; exact stChg_ok changes

/-! ### Passwords and the change log (11 R297, R298) -/

theorem passwordOk_of_stored {s : State} {pw salt : Bytes} (stored : s.saf.pw = some (salt, pbkdf2 pw salt 16384)) : passwordOk s pw = true := by
  rw [passwordOk, stored]; exact beq_self_eq_true _

/-- A new password is stored under some salt, and all else but the count of failures and the lockout stays. -/
theorem setPassword_saf (pw : Bytes) (s : State) : ∃ salt, (setPassword pw s).saf =
    { s.saf with pw := some (salt, pbkdf2 pw salt 16384), fails := 0, lock := none } := ⟨_, rfl⟩

/-- An entry of the change log as it is made now. -/
def safEntry (kind ch before after : Nat) (s : State) : SafLog := ⟨s.saf.logNext, wallSec s, devtime s, before, after, kind, ch⟩

theorem safLog_saf (kind ch before after : Nat) (s : State) : (safLog kind ch before after s).saf =
    { s.saf with log := (safEntry kind ch before after s :: s.saf.log).take 256, logNext := (s.saf.logNext + 1) % 2 ^ 32 } := rfl

theorem storeArea_saf (region : Nat) (s : State) : (storeArea region s).saf = s.saf := (storeArea_keeps region).samePart (p := .saf) (by decide) s

theorem sw_safStart {p : Nat} (hp : p < 2) (s : State) : (getPath (safStart s) p).sw = 0#4 := by
  unfold safStart; extract_lets u
  interval_cases p <;> simp [getPath_updPath, pathFresh]

/-! ### The channel read (11 Table 11-20) -/

theorem mbSafetyStatus_reads {ch : Fin 16} {s : State} (notCarried : NotCarried s ch)
    (may : tenantOf s ch = 0 ∨ mayRead s (tenantOf s ch) (fld s.saf.map 47 33) = true) :
    MbReads .mbSafetyStatus ch [] s (wB (sfChan s) ++ (List.range 16).flatMap (fun i => wB (sfStat s i)) ++
      (List.range 4).flatMap (fun k => wB (soStat s k)) ++ toBe 4 (s.saf.check.getD 0)) := by
  refine mbReads_of_reply (f := mbSafetyStatus) (fun _ => rfl) notCarried ?_
  unfold mbSafetyStatus
  exact need_then (by simpa using may) (ok_then (lenIs_ok rfl) rfl)

theorem mbSafetyRead_reads {ch : Fin 16} {s : State} (t0 : tenantOf s ch = 0) (notCarried : NotCarried s ch) :
    MbReads .mbSafetyRead ch [] s ((List.range 55).flatMap (fun i => wB (sfWord s i)) ++ toBe 4 (s.saf.check.getD 0)) := by
  refine mbReads_of_reply (f := mbSafetyRead) (fun _ => rfl) notCarried ?_
  unfold mbSafetyRead
  exact need_then (by simp [t0]) (ok_then (lenIs_ok rfl) rfl)

theorem mbSafetyLogRead_reads {ch : Fin 16} {a : Nat} {c : Byte} {s : State} (t0 : tenantOf s ch = 0) (notCarried : NotCarried s ch)
    (mode : s.saf.mode = 2) (fits : a < 2 ^ 32) (least : 1 ≤ c.toNat) (most : c.toNat ≤ 64) (soft : s.silo.soft = []) (hard : s.silo.hard = []) :
    MbReads .mbSafetyLogRead ch (toBe 4 a ++ [c]) s ((s.saf.log.reverse.filter (fun e =>
      decide ((e.seq + 2 ^ 32 - a) % 2 ^ 32 < c.toNat))).flatMap safLogBytes) := by
  have first : be (toBe 4 a ++ [c]) 0 4 = a := be_toBe_append fits [c]
  have count : u8 (toBe 4 a ++ [c]) 4 = c.toNat := rfl
  have whole (e : SafLog) : (!siloTorn s (safLogAddr e) 32) = true := by rw [siloTorn, hard]; rfl
  have unchanged (es : List SafLog) : es.foldl (fun s e => siloRead (safLogAddr e) 32 s) s = s :=
    List.foldl_fixed' (fun e => siloRead_clean soft hard (safLogAddr e) 32) es
  refine mbReads_of_reply (f := mbSafetyLogRead) (fun _ => rfl) notCarried ?_
  unfold mbSafetyLogRead
  simp only [first, count, unchanged, whole, List.filter_true]
  exact need_then (by simp [t0]) (ok_then (lenIs_ok (by simp)) (need_then (by simp [mode]) (need_then (by simp [least, most]) rfl)))

/-! ### The channel secured (11 R295) -/

/-- The channel in security mode A or B, with the entry that says so. -/
def securedIn (mode : Nat) (s : State) : State := safGln 0x0A0A mode 0 { s with saf := { s.saf with mode := mode } }

theorem securedIn_pathsAct (mode : Nat) (s : State) : PathsAct { s with saf := { s.saf with mode := mode } } (securedIn mode s) :=
  safGln_pathsAct ..

theorem mbSafetySecure_done_modeA {ch : Fin 16} {s : State} (t0 : tenantOf s ch = 0) (changes : Changes s) (mode : s.saf.mode = 0)
    (unsecured : s.saf.state = 2) : MbDone .mbSafetySecure ch [1#8] s (fun t => t.saf.mode = 1 ∧ t.saf.state = 3) := by
  have runs : mbSafetySecure (tenantOf s ch) ch.val [1#8] s = done (safState 3 (securedIn 1 s)) := by
    unfold mbSafetySecure
    exact need_then (by simp [t0]) (need_then rfl (need_then rfl (need_then rfl (ok_then (stSel_of_true changes _ (by simp [unsecured]))
      (need_then rfl (need_then (by simp [mode]) rfl))))))
  refine mbGives_of_reply (f := mbSafetySecure) (fun _ => rfl) runs rfl fun t kept _ => ?_
  have same : t.saf = _ := kept.2 .saf (by decide)
  rw [same]
  exact ⟨congrArg Saf.mode (((securedIn_pathsAct 1 s).inState 3).trans (safState_pathsAct 3 _)), state_safState ..⟩

theorem mbSafetySecure_done_modeB {ch : Fin 16} {pw : Bytes} {s : State} (t0 : tenantOf s ch = 0) (changes : Changes s) (mode : s.saf.mode = 0)
    (unsecured : s.saf.state = 2) (least : 8 ≤ pw.length) (most : pw.length ≤ 32) :
    MbDone .mbSafetySecure ch ([2#8, BitVec.ofNat 8 pw.length] ++ pw) s (fun t => t.saf.mode = 2 ∧ t.saf.state = 3 ∧ passwordOk t pw = true) := by
  obtain ⟨length, password⟩ : u8 ([2#8, BitVec.ofNat 8 pw.length] ++ pw) 1 = pw.length ∧ pwAt ([2#8, BitVec.ofNat 8 pw.length] ++ pw) 1 = pw := by
    simpa [pwField] using pwField_read (show pw.length < 256 by omega) [2#8] []
  have form : u8 ([2#8, BitVec.ofNat 8 pw.length] ++ pw) 0 = 2 := rfl
  have runs : mbSafetySecure (tenantOf s ch) ch.val ([2#8, BitVec.ofNat 8 pw.length] ++ pw) s =
      done (safState 3 (setPassword pw (securedIn 2 s))) := by
    unfold mbSafetySecure
    simp only [form, length, password, if_true]
    exact need_then (by simp [t0]) (need_then (by simp) (need_then rfl (need_then (by simp; omega)
      (ok_then (stSel_of_true changes _ (by simp [unsecured])) (need_then (by simp [least, most]) (need_then (by simp [mode]) rfl))))))
  refine mbGives_of_reply (f := mbSafetySecure) (fun _ => rfl) runs rfl fun t kept _ => ?_
  have same : t.saf = _ := kept.2 .saf (by decide)
  have moved := safState_pathsAct 3 (setPassword pw (securedIn 2 s))
  obtain ⟨salt, stored⟩ := setPassword_saf pw (securedIn 2 s)
  refine ⟨?_, ?_, passwordOk_of_stored (salt := salt) ?_⟩
  · rw [same]; exact (congrArg Saf.mode moved).trans ((congrArg Saf.mode stored).trans (congrArg Saf.mode (securedIn_pathsAct 2 s)))
  · rw [same]; exact state_safState ..
  · rw [same]; exact (congrArg Saf.pw moved).trans (congrArg Saf.pw stored)

/-! ### A block loaded, and confirmed (11 R275, R276, R296, R297) -/

/-- The safety block is stored with its check value, confirmed or not. -/
def blockStored (b : List Word) (check : Option Nat) (s : State) : State :=
  storeArea 6 (safGln 0x0A06 (blockCheck b) s.saf.mode { s with saf := { s.saf with block := b, check := check } })

theorem blockStored_pathsAct (b : List Word) (check : Option Nat) (s : State) :
    PathsAct { s with saf := { s.saf with block := b, check := check } } (blockStored b check s) :=
  (safGln_pathsAct ..).trans (.of_saf (storeArea_saf ..))

theorem mbSafetyLoad_gives_modeA {ch : Fin 16} {ws : List Word} {s : State} (t0 : tenantOf s ch = 0) (changes : Changes s) (stopped : devMode s = 1)
    (low : 3 ≤ s.saf.state) (high : s.saf.state ≤ 6) (count : ws.length = 55) (sound : blockOk (deriveBlock ws) = true)
    (fits : areaFits s 6 = true) (mode : s.saf.mode ≠ 2) :
    MbGives .mbSafetyLoad ch ([1#8] ++ ws.flatMap wB) s (· = toBe 4 (blockCheck (deriveBlock ws)))
      (fun t => t.saf.block = deriveBlock ws ∧ t.saf.check = none ∧ t.saf.state = 4) := by
  have words := loadWords count []
  rw [List.append_nil] at words
  have form : u8 ([1#8] ++ ws.flatMap wB) 0 = 1 := rfl
  have length : ([1#8] ++ ws.flatMap wB).length = 331 := by simp [length_flatMap_const length_wB, count]
  have plain : (s.saf.mode == 2) = false := by simpa using mode
  have runs : mbSafetyLoad (tenantOf s ch) ch.val ([1#8] ++ ws.flatMap wB) s =
      reply (toBe 4 (blockCheck (deriveBlock ws))) (safState 4 (blockStored (deriveBlock ws) none s)) := by
    unfold mbSafetyLoad
    simp only [words, form, length, plain, Bool.false_and, Bool.false_eq_true, if_false]
    exact need_then (by simp [t0]) (need_then rfl (ok_then (stSel_of_true changes _ (by simp [stopped, low, high]))
      (need_then (by simp [sound]) (need_then rfl (need_then fits rfl)))))
  refine mbGives_of_reply (f := mbSafetyLoad) (fun _ => rfl) runs rfl fun t kept _ => ?_
  have same : t.saf = _ := kept.2 .saf (by decide)
  have moved := ((blockStored_pathsAct (deriveBlock ws) none s).inState 4).trans (safState_pathsAct ..)
  rw [same]
  exact ⟨moved.block, congrArg Saf.check moved, moved.state⟩

/-- A right password ends the count of wrong ones and the lockout. -/
def failsCleared (s : State) : State := { s with saf := { s.saf with fails := 0, lock := none } }

theorem mbSafetyLoad_gives_modeB {ch : Fin 16} {ws : List Word} {pw : Bytes} {s : State} (t0 : tenantOf s ch = 0) (changes : Changes s)
    (stopped : devMode s = 1) (low : 3 ≤ s.saf.state) (high : s.saf.state ≤ 6) (count : ws.length = 55)
    (sound : blockOk (deriveBlock ws) = true) (fits : areaFits s 6 = true) (mode : s.saf.mode = 2) (least : 8 ≤ pw.length)
    (most : pw.length ≤ 32) (unlocked : safLocked s = false) (right : passwordOk s pw = true) :
    MbGives .mbSafetyLoad ch ([1#8] ++ ws.flatMap wB ++ [BitVec.ofNat 8 pw.length] ++ pw) s (· = toBe 4 (blockCheck (deriveBlock ws)))
      (fun t => t.saf.block = deriveBlock ws ∧ t.saf.check = some (blockCheck (deriveBlock ws)) ∧ t.saf.state = 1 ∧
        (t.saf.log.head?.map (fun e => (e.kind, e.ch, e.before, e.after))) =
          some (1, ch.val, s.saf.check.getD 0, blockCheck (deriveBlock ws))) := by
  obtain ⟨p, payload⟩ : ∃ p, p = [1#8] ++ ws.flatMap wB ++ [BitVec.ofNat 8 pw.length] ++ pw := ⟨_, rfl⟩
  rw [← payload]
  have parts : p = [1#8] ++ ws.flatMap wB ++ (pwField pw ++ []) := by simp [payload, pwField]
  have head : ([1#8] ++ ws.flatMap wB).length = 331 := by simp [length_flatMap_const length_wB, count]
  have words : (List.range 55).map (fun i => beW p (1 + 6 * i)) = ws := parts ▸ loadWords count _
  have form : u8 p 0 = 1 := by rw [payload]; rfl
  obtain ⟨pwLength, password⟩ : u8 p 331 = pw.length ∧ pwAt p 331 = pw := by
    rw [parts, ← head]; exact pwField_read (by omega) _ []
  have length : p.length = 332 + pw.length := by
    rw [parts, List.length_append, head]; simp [pwField]; omega
  have byPassword : (s.saf.mode == 2) = true := by simpa using mode
  have runs : mbSafetyLoad (tenantOf s ch) ch.val p s = reply (toBe 4 (blockCheck (deriveBlock ws)))
      (safStart (safLog 1 ch.val (s.saf.check.getD 0) (blockCheck (deriveBlock ws))
        (failsCleared (blockStored (deriveBlock ws) (some (blockCheck (deriveBlock ws))) s)))) := by
    unfold mbSafetyLoad
    simp only [words, form, length, pwLength, password, byPassword, unlocked, right, Bool.not_true, Bool.and_false, Bool.false_eq_true, if_true, if_false]
    exact need_then (by simp [t0]) (need_then (by simp; omega) (ok_then (stSel_of_true changes _ (by simp [stopped, low, high]))
      (need_then (by simp [sound]) (need_then rfl (need_then fits rfl)))))
  refine mbGives_of_reply (f := mbSafetyLoad) (fun _ => rfl) runs rfl fun t kept _ => ?_
  have same : t.saf = _ := kept.2 .saf (by decide)
  have stored := blockStored_pathsAct (deriveBlock ws) (some (blockCheck (deriveBlock ws))) s
  have started := safStart_pathsAct (safLog 1 ch.val (s.saf.check.getD 0) (blockCheck (deriveBlock ws))
    (failsCleared (blockStored (deriveBlock ws) (some (blockCheck (deriveBlock ws))) s)))
  rw [same]
  refine ⟨started.block.trans stored.block, (congrArg Saf.check started).trans (congrArg Saf.check stored), started.state, ?_⟩
  rw [congrArg Saf.log started]
  rfl

/-- The stored block is confirmed under its check value. -/
def blockConfirmed (s : State) : State :=
  storeArea 6 (safGln 0x0A07 (blockCheck s.saf.block) 0 { s with saf := { s.saf with check := some (blockCheck s.saf.block) } })

theorem blockConfirmed_pathsAct (s : State) :
    PathsAct { s with saf := { s.saf with check := some (blockCheck s.saf.block) } } (blockConfirmed s) :=
  (safGln_pathsAct ..).trans (.of_saf (storeArea_saf ..))

theorem mbSafetyConfirm_done {ch : Fin 16} {s : State} (t0 : tenantOf s ch = 0) (changes : Changes s) (waits : s.saf.state = 4)
    (fits : areaFits s 6 = true) :
    MbDone .mbSafetyConfirm ch (toBe 4 (blockCheck s.saf.block)) s (fun t => t.saf.check = some (blockCheck s.saf.block) ∧ t.saf.state = 1) := by
  have value : be (toBe 4 (blockCheck s.saf.block)) 0 4 = blockCheck s.saf.block := be_toBe (blockCheck_lt _)
  have runs : mbSafetyConfirm (tenantOf s ch) ch.val (toBe 4 (blockCheck s.saf.block)) s = done (safStart (blockConfirmed s)) := by
    unfold mbSafetyConfirm
    simp only [value, fits, ne_eq, not_true_eq_false, Bool.not_true, Bool.false_eq_true, if_false]
    exact need_then (by simp [t0]) (ok_then (lenIs_ok (by simp)) (ok_then (stChg_of_true changes (by simp [waits])) rfl))
  refine mbGives_of_reply (f := mbSafetyConfirm) (fun _ => rfl) runs rfl fun t kept _ => ?_
  have same : t.saf = _ := kept.2 .saf (by decide)
  have started := safStart_pathsAct (blockConfirmed s)
  rw [same]
  exact ⟨(congrArg Saf.check started).trans (congrArg Saf.check (blockConfirmed_pathsAct s)), started.state⟩

/-! ### The channel restarted, and a new password (11 R297) -/

theorem mbSafetyRestart_done {ch : Fin 16} {s : State} (t0 : tenantOf s ch = 0) (changes : Changes s) (active : s.saf.state = 5 ∨ s.saf.state = 6) :
    MbDone .mbSafetyRestart ch [] s (fun t => t.saf.state = 1 ∧ t.saf.fkind = [] ∧ (getPath t 0).sw = 0#4 ∧ (getPath t 1).sw = 0#4 ∧
      t.saf.block = s.saf.block) := by
  obtain ⟨u, logged⟩ : ∃ u, u = safLog 4 ch.val (s.saf.check.getD 0) (s.saf.check.getD 0) { s with saf := { s.saf with fkind := [] } } := ⟨_, rfl⟩
  have runs : mbSafetyRestart (tenantOf s ch) ch.val [] s = done (safStart u) := by
    unfold mbSafetyRestart
    rw [logged]
    exact need_then (by simp [t0]) (ok_then (lenIs_ok rfl) (ok_then (stChg_of_true changes (by simpa using active)) rfl))
  refine mbGives_of_reply (f := mbSafetyRestart) (fun _ => rfl) runs rfl fun t kept _ => ?_
  have same : t.saf = _ := kept.2 .saf (by decide)
  have started := safStart_pathsAct u
  rw [getPath_of_path (congrArg Saf.path same), getPath_of_path (congrArg Saf.path same), same]
  refine ⟨started.state, (congrArg Saf.fkind started).trans ?_, sw_safStart (by decide) u, sw_safStart (by decide) u, started.block.trans ?_⟩
  · rw [logged]; rfl
  · rw [logged]; rfl

theorem mbSafetyPassword_done {ch : Fin 16} {old new : Bytes} {s : State} (t0 : tenantOf s ch = 0) (changes : Changes s) (mode : s.saf.mode = 2)
    (oldMost : old.length ≤ 32) (newLeast : 8 ≤ new.length) (newMost : new.length ≤ 32) (unlocked : safLocked s = false)
    (right : passwordOk s old = true) :
    MbDone .mbSafetyPassword ch ([BitVec.ofNat 8 old.length] ++ old ++ [BitVec.ofNat 8 new.length] ++ new) s (fun t =>
      passwordOk t new = true ∧ t.saf.state = s.saf.state) := by
  obtain ⟨p, payload⟩ : ∃ p, p = [BitVec.ofNat 8 old.length] ++ old ++ [BitVec.ofNat 8 new.length] ++ new := ⟨_, rfl⟩
  rw [← payload]
  have front : p = [] ++ (pwField old ++ pwField new) := by simp [payload, pwField]
  have back : p = pwField old ++ (pwField new ++ []) := by simp [payload, pwField]
  obtain ⟨oldLength, oldPassword⟩ : u8 p 0 = old.length ∧ pwAt p 0 = old := by
    rw [front]; exact pwField_read (by omega) [] _
  have offset : (pwField old).length = 1 + old.length := Nat.add_comm ..
  obtain ⟨newLength, newPassword⟩ : u8 p (1 + old.length) = new.length ∧ pwAt p (1 + old.length) = new := by
    rw [back, ← offset]; exact pwField_read (by omega) _ []
  have length : p.length = 1 + old.length + 1 + new.length := by
    rw [back, List.length_append, offset]; simp [pwField]; omega
  have runs : mbSafetyPassword (tenantOf s ch) ch.val p s =
      done (safLog 2 ch.val (s.saf.check.getD 0) (s.saf.check.getD 0) (setPassword new s)) := by
    unfold mbSafetyPassword
    simp only [oldLength, newLength, oldPassword, newPassword, length, unlocked, right, Bool.not_true, Bool.false_eq_true, if_false]
    exact need_then (by simp [t0]) (need_then (by simp; omega) (ok_then (stChg_of_true changes (by simp [mode])) (need_then (by simp [newLeast, newMost])
      (need_then rfl rfl))))
  refine mbGives_of_reply (f := mbSafetyPassword) (fun _ => rfl) runs rfl fun t kept _ => ?_
  have same : t.saf = _ := kept.2 .saf (by decide)
  obtain ⟨salt, stored⟩ := setPassword_saf new s
  refine ⟨passwordOk_of_stored (salt := salt) ?_, ?_⟩
  · rw [same, safLog_saf, stored]
  · rw [same, safLog_saf, stored]

/-- Settles O41: each command passes its checks in the order of check 9 to check 12, and then does or answers what its section says. That a
restart is logged in both modes and that MB_SAFETY_LOG_READ answers the entries that the log holds is the model's choice (log 87). -/
theorem safetyCommands : Obligations.SafetyCommands :=
  ⟨fun _ _ => mbSafetyStatus_reads,
    fun _ _ t0 changes mode unsecured => ⟨mbSafetySecure_done_modeA t0 changes mode unsecured,
      fun _ => mbSafetySecure_done_modeB t0 changes mode unsecured⟩,
    fun _ _ _ t0 changes stopped low high count sound fits => ⟨mbSafetyLoad_gives_modeA t0 changes stopped low high count sound fits,
      fun _ => mbSafetyLoad_gives_modeB t0 changes stopped low high count sound fits⟩,
    fun _ _ => mbSafetyConfirm_done, fun _ _ => mbSafetyRestart_done,
    fun _ _ _ _ t0 changes mode _ => mbSafetyPassword_done t0 changes mode,
    fun _ _ => mbSafetyRead_reads, fun _ _ _ _ => mbSafetyLogRead_reads⟩

end Sys2Proof.Machine
end
